-- ==== Sys2Proof/Word.lean ====
section
/-! DEFINITION. The word types of the block: bytes, 32-bit words, 64-bit instruction words and 80-bit accumulators. -/

namespace Sys2Proof

/-- One byte of memory. -/
abbrev Byte := BitVec 8
/-- A control register, a packet word, a sample (R6, R54, R628). -/
abbrev Word := BitVec 32
/-- An instruction word (R161). -/
abbrev DWord := BitVec 64
/-- An accumulator (R100, R119). -/
abbrev Acc := BitVec 80

end Sys2Proof
end

