-- ==== Sys2Proof/Syntax.lean ====
section
/-! DEFINITION. The commands of the block: one constructor per row of the opcode table, with its operands. What the
environment decides (a level seen, a value measured, an error struck) is an operand of the event that it belongs to. -/

namespace Sys2Proof

/-- The header of a command packet as it is executed (R628). -/
structure CmdHdr where
  /-- transport: 0 PCIe, 1 MGMT, 2 SPI -/
  tr : Nat
  /-- HSEQ -/
  hseq : Nat
  /-- TAG -/
  tag : Nat
  /-- CHECKONLY (R634) -/
  chk : Bool
  deriving DecidableEq, Repr

/-- A row of an SRAM: memory instance and row within it (R579, R608). -/
structure SramRow where
  inst : Nat
  row : Nat
  deriving DecidableEq, Repr

/-- What the check bits of an engine's reads show in one instruction (R112, R113). -/
inductive EccHit where
  /-- no error -/
  | clean
  /-- single-bit errors, corrected: the row of each word -/
  | corrected (ws : List SramRow)
  /-- a double-bit error in the fetched instruction, and its row -/
  | fetchDouble (w : SramRow)
  /-- a double-bit error in a loaded word, and its row -/
  | loadDouble (w : SramRow)
  deriving DecidableEq, Repr

/-- An error of an SRAM outside the engines that a read meets: memory instance and row (R577), and whether it is a single-bit error,
which the read corrects (R112, R576). -/
structure SramErr where
  inst : Nat
  row : Nat
  single : Bool
  deriving DecidableEq, Repr

/-- A read of device memory that meets an error: the word's address and where it stands (R112, R577). -/
structure BadRead where
  addr : Nat
  err : SramErr
  deriving DecidableEq, Repr

/-- A copy out of an engine's memory that is complete: `e` is the engine that the row names, and `corr` are the rows of the words of
the source that were corrected as they were read (R112). -/
structure CopyDone where
  e : Nat
  corr : List SramRow
  deriving DecidableEq, Repr

/-- Another port's accesses to a single-port bank in cycles in which a burst reaches one (R573): the beat of the burst, a device
address that the other port reaches, the rank of R573 of its access (1 the owner's datapath, 2 the Call Sheet DMA, 3 another master),
and for how many consecutive cycles both ask. -/
structure BankHit where
  beat : Nat
  addr : Nat
  rank : Nat
  cycles : Nat
  deriving DecidableEq, Repr

/-- Where a crossbar request goes: its target, the target that a flow-through burst writes, 10 for any other burst (R583), and whether
the Call Sheet DMA chains it to its burst before (R584). -/
structure XbarPath where
  target : Nat
  into : Nat
  chain : Bool
  deriving DecidableEq, Repr

/-- Device address at which a crossbar burst starts, and the words that a write burst carries. -/
structure BurstData where
  addr : Nat
  data : List (BitVec 32)
  deriving DecidableEq, Repr

/-- The reset of a crossbar master (R591): the master, and the beats that each of its bursts in progress has moved, by target. -/
structure XbarReset where
  master : Nat
  moved : List (Nat × Nat)
  deriving DecidableEq, Repr

/-- A read error in one of the blocks, or of the lanes, that a staging entry moves (R577, R598): which one, counted from 0. -/
structure StagedErr where
  blk : Nat
  err : SramErr
  deriving DecidableEq, Repr

/-- What a staging entry meets (R573, R577, R596): the errors of what it reads, the bank conflicts, and the latency of LPDDR5 in
cycles where it reads a delay line. -/
structure EntryMeet where
  errs : List StagedErr
  hits : List BankHit
  lat : Nat
  deriving DecidableEq, Repr

/-- Where the host reaches the PCIe endpoint (R615, R616): the device addresses of BAR0, the LPDDR5 window of BAR2, the MSI-X table and
pending bits of BAR4, or configuration space. -/
inductive HostBar where
  | bar0
  | bar2
  | bar4
  | config
  deriving DecidableEq, Repr

/-- Bytes behind it. The first one stands for every device address, of which BAR0 maps the first 256 MiB. -/
def HostBar.size : HostBar → Nat
  | .bar0 => 2 ^ 40
  | .bar2 => 2 ^ 28
  | .bar4 => 2 ^ 14
  | .config => 2 ^ 12

/-- A read by the host within one word: its bytes, where it goes, and the error that the word shows (R577). -/
structure HostSpan where
  n : Nat
  bar : HostBar
  bad : Option SramErr
  deriving DecidableEq, Repr

/-- The take message of a ring: the words of the TAKE, the boundary that the master names, and whether it asks for the vote alone (R332,
R333, R634). -/
structure RingTake where
  ws : List (BitVec 32)
  sT : Nat
  chk : Bool
  deriving DecidableEq, Repr

/-- Two accesses to one word of a true dual-port memory in one cycle (R575): the word's device address, or its offset in the
descriptor table, and what ports 0 and 1 write with which byte strobes, none where a port reads. -/
structure DualAccess where
  addr : Nat
  port0 : Option (BitVec 32 × Nat)
  port1 : Option (BitVec 32 × Nat)
  deriving DecidableEq, Repr

/-- What a port's data pin carries in one serial frame: the code of each slot (R342). -/
structure PortSlots where
  port : Nat
  slots : List Nat
  deriving DecidableEq, Repr

/-- A slip of a Locked slave port's elastic buffer (R358): its direction, and whether the port runs fast. -/
structure Slip where
  port : Nat
  out : Bool
  fast : Bool
  deriving DecidableEq, Repr

/-- A record of a playback ring in host memory (R378): its block number, its channels per frame and its frames' bytes. -/
structure PlyRec where
  bseq : Nat
  nch : Nat
  data : List (BitVec 8)
  deriving DecidableEq, Repr

/-- What a stage of boot finds (R758, R759): the rows outside the engines that fail BIST, whether the eMRAM responds, the bytes of the
image that the QSPI flash holds, none where it holds none, the engines that fail BIST with the memory that failed, and the rows of engine memories that fail BIST, by engine (R609, R610). -/
structure BootStage where
  rows : List SramErr
  engRows : List (Nat × SramRow)
  mram : Bool
  qspi : Option (List (BitVec 8))
  bad : List (Nat × Nat)
  deriving DecidableEq, Repr

/-- What a Reel link brings: a block of a channel, or a ring partial of a bus with its 64-bit sums and status word (R732, R733,
R736), or the time of the ring master's counter at its arrival, to which a follower holds its own (R549), or a grid mark with its shot
count (R731, R732). -/
inductive RlItem where
  | chan (c : Nat) (samples : List (BitVec 32)) (bsw : BitVec 32)
  | partials (bus : Nat) (sums : List Int) (bsw : BitVec 32)
  | clock (sec ns : Nat)
  | mark (shot : Nat)
  deriving DecidableEq, Repr

/-- A word of a block of stage memory that a unit reads with a double-bit error at a boundary (R577): the block's channel, the word
in it (its samples, then the status word), and where it stands. -/
structure StageBad where
  ch : Nat
  word : Nat
  err : SramErr
  deriving DecidableEq, Repr

/-- What a holder sends to its stand-in (R717): a command packet with the swap-window words that a SLICE_INIT names, or a committed
take's number with the coefficient pages that it exchanged, by logical engine, and whether pages of bus engines follow (R317). -/
inductive MirrorItem where
  | packet (op : Nat) (payload words : List (BitVec 32))
  | pages (number : Nat) (more : Bool) (pages : List (Nat × List (BitVec 8)))
  deriving DecidableEq, Repr

/-- The whole state that a holder sends (R720, R761): the word of SYS_CFG, the payloads of its RING_CFG packets, the chip IDs of its
formed ring from the master on, the packets that build its live graph and settings, its coefficient pages and lane slices as words by
address, the packets that build its slate, and the number of its latest take. -/
structure WholeState where
  cfg : BitVec 32
  ringCfg : List (List (BitVec 32))
  ring : List Nat
  live : List MirrorItem
  words : List (Nat × BitVec 32)
  slate : List MirrorItem
  take : Nat
  deriving DecidableEq, Repr

/-- The commands, in the order of the opcode table. -/
inductive Instr where
  -- Commands of every transport (chapter 14)
  /-- `PING` (R639): Command 0x0000 that does nothing and is answered with a reply. -/
  | ping (h : CmdHdr) (p : List Word)
  /-- `RESYNC` (R638): Command 0x0001 that resets the expected host sequence number, clears the replay cache and returns the state digest. -/
  | resync (h : CmdHdr) (p : List Word)
  /-- `CONFIGURE` (R18): Command 0x0010 that sets rate, shot length and shape in STANDBY and clears dependent live state on a change. -/
  | configure (h : CmdHdr) (p : List Word)
  /-- `MODE_SET` (R751): Command 0x0011 that requests a transition to a target mode. -/
  | modeSet (h : CmdHdr) (p : List Word)
  /-- `MEM_READ` (R639): Command that returns words read from the device address space. -/
  | memRead (h : CmdHdr) (p : List Word) (bad : List BadRead)
  /-- `MEM_WRITE` (R639): Command that writes words into the device address space with host access rules. -/
  | memWrite (h : CmdHdr) (p : List Word)
  /-- `NOTIFY_SUB` (R641): Command that sets the notification subscription mask of its transport. -/
  | notifySub (h : CmdHdr) (p : List Word)
  /-- `MEM_CLAIM` (R599): Command that claims or releases an LPDDR5 range for the host in claim space 0. -/
  | memClaim (h : CmdHdr) (p : List Word)
  -- Slate commands (chapters 05 to 07)
  /-- `SLATE_REVERT` (R297): Command that returns every kind of slate content to the live state. -/
  | slateRevert (h : CmdHdr) (p : List Word)
  /-- `TASK_WRITE` (R203): Command that checks and places a task descriptor into the slate graph. -/
  | taskWrite (h : CmdHdr) (p : List Word)
  /-- `TASK_DROP` (R205): Command that clears SLATE on listed task descriptors. -/
  | taskDrop (h : CmdHdr) (p : List Word)
  /-- `TASK_REARM` (R234): Command that returns quarantined live tasks to WAITING and clears their overrun counts. -/
  | taskRearm (h : CmdHdr) (p : List Word)
  /-- `AIMG_WRITE` (R204): Command that writes one address image unless a descriptor names it. -/
  | aimgWrite (h : CmdHdr) (p : List Word)
  /-- `XFER_WRITE` (R805): Command that writes transfer entries after checking their fields. -/
  | xferWrite (h : CmdHdr) (p : List Word)
  /-- `LINE_SET` (R213): Command that sets a delay line's base, length and delay and claims its LPDDR5 range. -/
  | lineSet (h : CmdHdr) (p : List Word)
  /-- `SLICE_INIT` (R300): Command that records lane-slice initial image entries in the slate. -/
  | sliceInit (h : CmdHdr) (p : List Word)
  /-- `CODE_LOAD` (R143): Command that loads instructions into an engine's program memory unless they are in use. -/
  | codeLoad (h : CmdHdr) (p : List Word)
  /-- `COEF_WRITE` (R109): Command that writes coefficients into an engine's slate page. -/
  | coefWrite (h : CmdHdr) (p : List Word)
  /-- `SCENE_WRITE` (R650): Command that writes part of a stored packet stream into a scene store slot. -/
  | sceneWrite (h : CmdHdr) (p : List Word)
  /-- `SCENE_LOAD` (R651): Long command that executes the stored packets of a scene slot into the slate. -/
  | sceneLoad (h : CmdHdr) (p : List Word)
  -- Take commands (chapter 07)
  /-- `TAKE` (R309): Command 0x0200 that checks and schedules the commit of the slate at a take boundary. -/
  | take (h : CmdHdr) (p : List Word)
  /-- `TAKE_CANCEL` (R311): Command 0x0201 that abandons the pending take before its lock boundary. -/
  | takeCancel (h : CmdHdr) (p : List Word)
  /-- `RECAST` (R328): Command that starts loading a spare engine for a recast committed by the next take. -/
  | recast (h : CmdHdr) (p : List Word)
  /-- `XP_SET` (R260): Command that writes crosspoint entries into the slate in list order. -/
  | xpSet (h : CmdHdr) (p : List Word)
  /-- `XP_ROW` (R258): Command that writes one tap's gains to a run of buses with one law and length. -/
  | xpRow (h : CmdHdr) (p : List Word)
  /-- `PATCH_SET` (R298): Command that writes output patch entries into the slate. -/
  | patchSet (h : CmdHdr) (p : List Word)
  -- Unit commands (chapters 08 to 12)
  /-- `PORT_CFG` (R388): Command that writes a serial port's configuration, channel counts and slot maps. -/
  | portCfg (h : CmdHdr) (p : List Word)
  /-- `PORT_START` (R368): Command that schedules the start of a port direction at a shot boundary or trigger. -/
  | portStart (h : CmdHdr) (p : List Word)
  /-- `PORT_STOP` (R373): Command that schedules the stop of a port direction. -/
  | portStop (h : CmdHdr) (p : List Word)
  /-- `CG_CFG` (R386): Command that writes a clock group's configuration and rate tolerance. -/
  | cgCfg (h : CmdHdr) (p : List Word)
  /-- `DL_LANE` (R451): Command that schedules the start or stop of a Dailies lane. -/
  | dlLane (h : CmdHdr) (p : List Word)
  /-- `METER_SET` (R465): Command that checks and writes meter points for the next period. -/
  | meterSet (h : CmdHdr) (p : List Word)
  /-- `STREAM_CFG` (R417): Command that writes a stopped stream context after checking its fields. -/
  | streamCfg (h : CmdHdr) (p : List Word)
  /-- `STREAM_START` (R433): Command that schedules the start of a stream context. -/
  | streamStart (h : CmdHdr) (p : List Word)
  /-- `STREAM_STOP` (R433): Command that schedules the stop of a stream context. -/
  | streamStop (h : CmdHdr) (p : List Word)
  /-- `TIME_SET` (R534): Command that steps the PTP time counter at the next shot boundary. -/
  | timeSet (h : CmdHdr) (p : List Word)
  /-- `CLAP_TRIG` (R556): Command that configures and arms a Clapper trigger. -/
  | clapTrig (h : CmdHdr) (p : List Word)
  -- Fault and log commands (chapter 15)
  /-- `FAULT_CFG` (R663): Command that sets severity and reaction of fault sources. -/
  | faultCfg (h : CmdHdr) (p : List Word)
  /-- `LOG_READ` (R687): Command that walks one log area and returns its records. -/
  | logRead (h : CmdHdr) (p : List Word)
  /-- `LOG_ERASE_PERM` (R688): Presence-gated long command that erases the permanent log area. -/
  | logErasePerm (h : CmdHdr) (p : List Word)
  -- Role, ring, lifetime and repair commands (chapters 14, 16, 17)
  /-- `HANDOVER` (R716): ROLE_SET action 0 in which a paired holder wakes its stand-in and then releases the token. -/
  | handover (h : CmdHdr) (p : List Word)
  /-- `CLAIM` (R716): ROLE_SET action 1 in which a STANDIN or FENCED chip takes the token. -/
  | claim (h : CmdHdr) (p : List Word)
  /-- `LEAVE` (R716): ROLE_SET action 2 in which the chip leaves its pair. -/
  | leave (h : CmdHdr) (p : List Word)
  /-- `JOIN` (R716): ROLE_SET action 3 in which the chip returns to the place of its strap. -/
  | join (h : CmdHdr) (p : List Word)
  /-- `RING_CFG_SIZE` (R741): RING_CFG SUB 0 that sets the ring size. -/
  | ringCfgSize (h : CmdHdr) (p : List Word)
  /-- `RING_CFG_BUS_MAP` (R741): RING_CFG SUB 1 that marks ring buses and their owners. -/
  | ringCfgBusMap (h : CmdHdr) (p : List Word)
  /-- `RING_CFG_FWD_RL0_RL1` (R734): RING_CFG SUB 2 that sets forwarding from RL0 receive to RL1 transmit. -/
  | ringCfgFwdRl0Rl1 (h : CmdHdr) (p : List Word)
  /-- `RING_CFG_FWD_RL1_RL0` (R734): RING_CFG SUB 3 that sets forwarding from RL1 receive to RL0 transmit. -/
  | ringCfgFwdRl1Rl0 (h : CmdHdr) (p : List Word)
  /-- `FW_UPDATE` (R649): Presence-gated command that writes a firmware image into the idle bank and verifies it on LAST. -/
  | fwUpdate (h : CmdHdr) (p : List Word)
  /-- `PROVISION` (R647): Presence-gated command that writes or revokes an OTP key slot. -/
  | provision (h : CmdHdr) (p : List Word)
  /-- `SEAL` (R646): Presence-gated command that blows the seal fuse. -/
  | sealDevice (h : CmdHdr) (p : List Word)
  /-- `RETIRE` (R769): REPAIR_SET action 0 that adds an engine-retired entry for the next boot. -/
  | retire (h : CmdHdr) (p : List Word)
  /-- `RESTORE` (R769): REPAIR_SET action 1 that removes an engine's retired entries for the next boot. -/
  | restore (h : CmdHdr) (p : List Word)
  /-- `SRAMROW` (R769): REPAIR_SET action 2 that adds an SRAM row repair for the next boot. -/
  | sramrow (h : CmdHdr) (p : List Word)
  -- Transports (chapter 14)
  /-- `OP_DONE` (R644): A long operation completes and its outcome is sent as OP_DONE. -/
  | opDone
  /-- `COMMAND_DESCRIPTOR` (R619): The device takes a command descriptor from the PCIe command ring and reads its packet. -/
  | commandDescriptor (d : List Word) (data : Option (List (BitVec 8)))
  /-- `MGMT_DATAGRAM` (R624): A UDP datagram carrying one command packet arrives on MGMT. -/
  | mgmtDatagram (src : Nat) (sumOk : Bool) (l : List (BitVec 8))
  /-- `WRITE_PACKET` (R627): SPI transaction 0x02 that delivers a command packet. -/
  | writePacket (l : List (BitVec 8))
  /-- `READ_MESSAGE` (R626): SPI transaction 0x03 that clocks out the oldest queued message. -/
  | readMessage (n : Nat)
  /-- `READ_MEMORY` (R627): SPI transaction 0x0B that reads consecutive words of device memory. -/
  | readMemory (a n : Nat) (bad : List BadRead)
  /-- `WRITE_MEMORY` (R627): SPI transaction 0x0C that writes consecutive words of device memory. -/
  | writeMemory (a : Nat) (ws : List Word)
  -- Reads with a side effect
  /-- `SHOT_COUNTER_READ` (R25): A read of SYS_SHOT_LO latches the upper half of the shot counter. -/
  | shotCounterRead
  /-- `TAKE_SHOT_READ` (R340): A read of SYS_TAKE_SHOT_LO latches SYS_TAKE_SHOT_HI. -/
  | takeShotRead
  /-- `SP_TS_READ` (R390): A read of SP_TS0 latches the seconds of the port block timestamp. -/
  | spTsRead (p : Nat)
  /-- `PTP_TIME_READ` (R531): A read of PTP_TIME0 or PTP_SHOT0 latches the seconds registers. -/
  | ptpTimeRead (shot : Bool)
  /-- `OPSEC_READ` (R771): A read of SYS_OPSEC_LO latches SYS_OPSEC_HI. -/
  | opsecRead
  /-- `MRAM_WEAR_READ` (R612): A read of MRAM_WEAR_LO latches MRAM_WEAR_HI. -/
  | mramWearRead
  /-- `NET_COUNTER_LO_READ` (R444): A read of a _LO network counter latches its _HI half and clears both. -/
  | netCounterLoRead (p k : Nat)
  /-- `TAG_RECORD_READ` (R698): A read of PCN_TREC0 clears VALID and latches PCN_TREC1. -/
  | tagRecordRead (e : Nat)
  /-- `RC_FIELD_READ` (R9): A read of an RC field returns its value and clears it. -/
  | rcFieldRead (a n : Nat)
  /-- `CAPTURE_FIFO_READ` (R567): A read of CLP_CTS0 removes the oldest capture timestamp and latches its seconds. -/
  | captureFifoRead (c : Nat)
  /-- `HBUF_ALLOC` (R438): A read of NET_HBUF_ALLOC allocates one packet buffer to the host. -/
  | hbufAlloc
  -- Writes with a side effect
  /-- `HBUF_FREE` (R438): A write of NET_HBUF_FREE returns a host-allocated buffer to the pool. -/
  | hbufFree (v : BitVec 32)
  /-- `REGISTER_WRITE` (R9): A host write to a control register with no behaviour of its own, under its access code. -/
  | registerWrite (a n : Nat) (v : Word)
  /-- `UNMAPPED_READ` (R40): A host read of an unmapped or gap address returns 0. -/
  | unmappedRead (a : Nat) (x : HostSpan)
  /-- `HOST_MEMORY_WRITE` (R41): A host write outside the control region lands or is discarded by region access. -/
  | hostMemoryWrite (bar : HostBar) (a : Nat) (l : List (BitVec 8))
  /-- `PROGRAM_MEMORY_WRITE` (R142): A host write to engine program memory takes effect at the next fetch. -/
  | programMemoryWrite (e off : Nat) (l : List (BitVec 8))
  /-- `LANE_SLICE_WRITE` (R144): A host write to an X or Y lane slice takes effect at once. -/
  | laneSliceWrite (e : Nat) (isY : Bool) (off : Nat) (l : List (BitVec 8))
  /-- `SLATE_VIEW_WRITE` (R109): A host write to an engine's slate view lands and sets SLATE_DIRTY, or is held during the copy. -/
  | slateViewWrite (e off : Nat) (l : List (BitVec 8))
  /-- `HELD_SLATE_WRITE_LAND` (R109): A slate-view write held during the page copy lands once the copy completes. -/
  | heldSlateWriteLand (e : Nat)
  /-- `FIRST_FAULT_CLEAR` (R668): A write of 1 to FLT_FIRST.VALID clears the first-fault record. -/
  | firstFaultClear
  /-- `FAULT_INJECT` (R669): A write to FLT_INJECT sends an injected fault message in MAINTENANCE or TEST. -/
  | faultInject (src kind : Nat)
  /-- `ENG_STEP` (R147): A write of ENG_CTRL.STEP executes one instruction on a halted engine. -/
  | engStep (e : Nat)
  /-- `ENG_HALT` (R147): A write of ENG_CTRL.HALT halts or resumes an engine in MAINTENANCE or TEST. -/
  | engHalt (e : Nat) (h : Bool)
  /-- `DEBUG_DATA_WRITE` (R153): A write of ENG_DBGDATA sets the selected register of a halted engine. -/
  | debugDataWrite (e : Nat) (v : Word)
  /-- `WAIT_STATS_CLEAR` (R246): A write of CS_TCTL.WCLR resets the waiting-time statistics of the selected task. -/
  | waitStatsClear
  /-- `RESERVE_WRITE` (R244): A write of CS_RESERVE.PCT sets the dissolve reserve in STANDBY if admission still holds. -/
  | reserveWrite (r : Nat)
  /-- `ZSKIP_WRITE` (R285): A write of SPL_CTRL.ZSKIP changes zero-skip from the next pass. -/
  | zskipWrite (on : Bool)
  /-- `SNAP` (R695): A write of PCN_CTRL.SNAP copies every counter into its snapshot. -/
  | snap
  /-- `FREEZE` (R694): A write of PCN_CTRL.FREEZE stops or restarts every counter at one edge. -/
  | freeze (on : Bool)
  /-- `TAG_SEED_WRITE` (R697): A write of PCN_TSEED loads the tag shift register. -/
  | tagSeedWrite (v : Word)
  /-- `COUNTER_WRITE` (R696): A write to a performance counter takes effect at once. -/
  | counterWrite (glb : Bool) (e j : Nat) (v : Word)
  /-- `SOFT_RESET` (R755): A write of SYS_RSTCTRL with KEY 0x5A5A resets the device. -/
  | softReset (v : Word)
  /-- `TX_RING_RESET` (R443): A write of NET_TXCTRL.RESET completes descriptors with RESET and empties a transmit ring. -/
  | txRingReset (r : Nat)
  /-- `RX_RING_RESET` (R443): A write of NET_RXCTRL.RESET returns a receive ring's buffers and empties it. -/
  | rxRingReset (r : Nat)
  /-- `RXTAIL_WRITE` (R436): A host advance of NET_RXTAIL returns buffers and hands descriptors to the device. -/
  | rxtailWrite (r : Nat) (v : BitVec 32)
  /-- `TXTAIL_WRITE` (R439): A host advance of NET_TXTAIL hands transmit descriptors to the device. -/
  | txtailWrite (r : Nat) (v : BitVec 32) (ds : List (List (BitVec 32)))
  /-- `NET_RING_LEN_WRITE` (R442): A write of a host NIC ring length is staged. -/
  | netRingLenWrite (tx : Bool) (r : Nat) (v : BitVec 32)
  /-- `SP_RING_LEN_WRITE` (R383): A write of a port capture or playback ring length is staged. -/
  | spRingLenWrite (p : Nat) (ply : Bool) (v : Word)
  /-- `CMD_RING_LEN_WRITE` (R622): A write of a command-interface ring length is staged. -/
  | cmdRingLenWrite (k : Nat) (v : Word)
  /-- `SP_RING_POINTER_WRITE` (R384): A host write of a port ring pointer is checked and may apply a staged length. -/
  | spRingPointerWrite (p : Nat) (ply : Bool) (v : Word)
  /-- `SP_MASK_WRITE` (R352): A write of a port slot mask is shadowed until a frame start. -/
  | spMaskWrite (p : Nat) (out late : Bool) (v : Word)
  /-- `SP_IN_EN_WRITE` (R389): A write of SP_CTRL.IN_EN starts or stops the input direction at the next boundary. -/
  | spInEnWrite (p : Nat) (en : Bool)
  /-- `SP_OUT_EN_WRITE` (R389): A write of SP_CTRL.OUT_EN starts or stops the output direction at the next boundary. -/
  | spOutEnWrite (p : Nat) (en : Bool)
  /-- `SP_CAP_EN_WRITE` (R380): A write of SP_CTRL.CAP_EN starts or stops the capture ring. -/
  | spCapEnWrite (p : Nat) (en : Bool)
  /-- `SP_PLY_EN_WRITE` (R381): A write of SP_CTRL.PLY_EN starts or stops the playback ring. -/
  | spPlyEnWrite (p : Nat) (en : Bool)
  /-- `CG_CFG_WRITE` (R386): A write of CG_CFG configures, enables or disables a clock group. -/
  | cgCfgWrite (g : Nat) (v : Word)
  /-- `DL_CK_EN_WRITE` (R449): A write of DL_CK.EN starts a bitstream clock or stops it. -/
  | dlCkEnWrite (c : Nat) (v : Word)
  /-- `DL_LANE_EN_WRITE` (R451): A write of DL_LCFG.EN starts or stops a Dailies lane at the next boundary. -/
  | dlLaneEnWrite (l : Nat) (v : Word)
  /-- `TRIGGER_EN_WRITE` (R556): A write of CLP_TCFG.EN arms or releases a Clapper trigger. -/
  | triggerEnWrite (i : Nat) (v : Word)
  /-- `CAPTURE_EN_WRITE` (R565): A write of CLP_CCFG.EN claims or releases a Clapper capture. -/
  | captureEnWrite (c : Nat) (v : Word)
  /-- `GPIO_CLAIM_WRITE` (R791): A write of PIN_GPIO_EN claims or releases GPIO balls for the host. -/
  | gpioClaimWrite (v : Word)
  /-- `MCLK_EN_WRITE` (R485): A write of CLK_MCLK.EN claims and drives MCLK_OUT. -/
  | mclkEnWrite (v : Word)
  /-- `DDR_EN_WRITE` (R594): A write setting DDR_CFG.EN starts LPDDR5 training. -/
  | ddrEnWrite (v : Word)
  /-- `RINGS_EN_WRITE` (R655): A write of CMD_CTRL.RINGS_EN starts or stops the PCIe rings. -/
  | ringsEnWrite (en : Bool)
  /-- `CANDIDATE_CFG_WRITE` (R488): A write of CLK_CAND enables, disables or configures a reference candidate. -/
  | candidateCfgWrite (k : Nat) (v : Word)
  /-- `FORCE_WRITE` (R503): A write of CLK_CTRL.FORCE or FORCESEL forces a reference selection. -/
  | forceWrite (v : Word)
  /-- `LOG_RATE_WRITE` (R680): A write of LOG_RATE restarts a code's timer or changes its depth. -/
  | logRateWrite (c : Nat) (v : Word)
  /-- `PREEMPT_EN_WRITE` (R403): A write of NET_PCFG.PREEMPT_EN starts IEEE 802.3br verification. -/
  | preemptEnWrite (p : Nat) (v : BitVec 32)
  -- Shot boundary, matrix and Call Sheet
  /-- `SHOT_BOUNDARY` (R17): A shot boundary: the counter advances and every unit hands on and takes up blocks. -/
  | shotBoundary (bad : List StageBad)
  /-- `LEDGER_AUDIT_NO_TICK` (R48): Without a shot tick, ledgers audit every 102,400 CLK_FAB cycles. -/
  | ledgerAuditNoTick
  /-- `MATRIX_PASS_END` (R250): The matrix pass ends: bus sums are rounded and written and ended fades are freed. -/
  | matrixPassEnd (cyc : Nat) (taps gains : List (Nat × SramErr))
  /-- `STAGING_ENTRY_LAND` (R212): A staging transfer entry of an IN, OUT or MID list completes. -/
  | stagingEntryLand (le : Nat) (meet : EntryMeet)
  /-- `DISPATCH_ACCEPT` (R135): An engine accepts a dispatch signal and switches register banks. -/
  | dispatchAccept (e wait hold : Nat)
  /-- `CONTEXT_LOAD_DONE` (R136): The context port finishes loading the inactive bank. -/
  | contextLoadDone (e : Nat)
  /-- `CONTEXT_SAVE_DONE` (R224): The context port finishes saving a set-aside context to a slot. -/
  | contextSaveDone (e : Nat)
  /-- `BUDGET` (R229): A task's charge exceeds BUDGET; a fault is sent and the task is ended if ENFORCE. -/
  | budget (e : Nat)
  -- Instructions of the engines (chapter 04)
  /-- `NOP` (R175): Instruction 0x00 with no compute operation and optional moves. -/
  | insNop (e : Nat) (ecc : EccHit)
  /-- `MPY` (R173): Multiply into an accumulator, clearing its hold bit. -/
  | insMpy (e : Nat) (ecc : EccHit)
  /-- `MAC` (R173): Multiply-accumulate into an accumulator. -/
  | insMac (e : Nat) (ecc : EccHit)
  /-- `MNS` (R173): Multiply-subtract from an accumulator. -/
  | insMns (e : Nat) (ecc : EccHit)
  /-- `MACN` (R173): Multiply-accumulate and narrow to a D register. -/
  | insMacn (e : Nat) (ecc : EccHit)
  /-- `ACLR` (R173): Clear an accumulator and its hold bit. -/
  | insAclr (e : Nat) (ecc : EccHit)
  /-- `ALD` (R173): Load an accumulator from a D register. -/
  | insAld (e : Nat) (ecc : EccHit)
  /-- `ALDW` (R173): Load one word of an accumulator. -/
  | insAldw (e : Nat) (ecc : EccHit)
  /-- `AADD` (R173): Add two accumulators. -/
  | insAadd (e : Nat) (ecc : EccHit)
  /-- `ASUB` (R173): Subtract two accumulators. -/
  | insAsub (e : Nat) (ecc : EccHit)
  /-- `ASH` (R173): Shift an accumulator with rounding or saturation. -/
  | insAsh (e : Nat) (ecc : EccHit)
  /-- `RND` (R125): Round an accumulator to Q1.31 with saturation. -/
  | insRnd (e : Nat) (ecc : EccHit)
  /-- `TRN` (R173): Truncate an accumulator to Q1.31 with saturation. -/
  | insTrn (e : Nat) (ecc : EccHit)
  /-- `AMV` (R173): Move one accumulator word to a D register. -/
  | insAmv (e : Nat) (ecc : EccHit)
  /-- `ADD` (R174): Wrapping 32-bit add. -/
  | insAdd (e : Nat) (ecc : EccHit)
  /-- `ADDS` (R174): Saturating add. -/
  | insAdds (e : Nat) (ecc : EccHit)
  /-- `SUB` (R174): Wrapping subtract. -/
  | insSub (e : Nat) (ecc : EccHit)
  /-- `SUBS` (R174): Saturating subtract. -/
  | insSubs (e : Nat) (ecc : EccHit)
  /-- `AND` (R174): Bitwise AND. -/
  | insAnd (e : Nat) (ecc : EccHit)
  /-- `OR` (R174): Bitwise OR. -/
  | insOr (e : Nat) (ecc : EccHit)
  /-- `XOR` (R174): Bitwise exclusive OR. -/
  | insXor (e : Nat) (ecc : EccHit)
  /-- `SHL` (R174): Wrapping left shift. -/
  | insShl (e : Nat) (ecc : EccHit)
  /-- `SHLS` (R174): Saturating left shift. -/
  | insShls (e : Nat) (ecc : EccHit)
  /-- `SHR` (R174): Logical right shift. -/
  | insShr (e : Nat) (ecc : EccHit)
  /-- `ASR` (R174): Arithmetic right shift. -/
  | insAsr (e : Nat) (ecc : EccHit)
  /-- `ABS` (R174): Saturating absolute value. -/
  | insAbs (e : Nat) (ecc : EccHit)
  /-- `NEG` (R174): Saturating negation. -/
  | insNeg (e : Nat) (ecc : EccHit)
  /-- `MIN` (R174): Signed minimum. -/
  | insMin (e : Nat) (ecc : EccHit)
  /-- `MAX` (R174): Signed maximum. -/
  | insMax (e : Nat) (ecc : EccHit)
  /-- `CLZ` (R174): Count leading zeros. -/
  | insClz (e : Nat) (ecc : EccHit)
  /-- `CMP` (R174): Compare two registers and set flags. -/
  | insCmp (e : Nat) (ecc : EccHit)
  /-- `MOV` (R174): Copy a D register. -/
  | insMov (e : Nat) (ecc : EccHit)
  /-- `ADDI` (R174): Wrapping add of an immediate. -/
  | insAddi (e : Nat) (ecc : EccHit)
  /-- `ADDIS` (R174): Saturating add of an immediate. -/
  | insAddis (e : Nat) (ecc : EccHit)
  /-- `ANDI` (R174): AND with an immediate. -/
  | insAndi (e : Nat) (ecc : EccHit)
  /-- `ORI` (R174): OR with an immediate. -/
  | insOri (e : Nat) (ecc : EccHit)
  /-- `XORI` (R174): Exclusive OR with an immediate. -/
  | insXori (e : Nat) (ecc : EccHit)
  /-- `CMPI` (R174): Compare with an immediate. -/
  | insCmpi (e : Nat) (ecc : EccHit)
  /-- `SEL` (R175): Per-lane select on a flag condition. -/
  | insSel (e : Nat) (ecc : EccHit)
  /-- `LOG2` (R180): Base-2 logarithm of a magnitude in Q8.24. -/
  | insLog2 (e : Nat) (ecc : EccHit)
  /-- `EXP2` (R181): Base-2 exponential of a Q8.24 value. -/
  | insExp2 (e : Nat) (ecc : EccHit)
  /-- `DIVS` (R182): One restoring division step. -/
  | insDivs (e : Nat) (ecc : EccHit)
  /-- `TLI` (R183): Interpolated table lookup in each lane's slice. -/
  | insTli (e : Nat) (ecc : EccHit)
  /-- `MOVA` (R175): Write an immediate to a cursor field. -/
  | insMova (e : Nat) (ecc : EccHit)
  /-- `ADDA` (R175): Add an immediate to a cursor field. -/
  | insAdda (e : Nat) (ecc : EccHit)
  /-- `MVDA` (R175): Move lane 0 of a D register to a cursor field. -/
  | insMvda (e : Nat) (ecc : EccHit)
  /-- `MVAD` (R175): Move a cursor field to a D register in every lane. -/
  | insMvad (e : Nat) (ecc : EccHit)
  /-- `RDPC` (R199): Read a performance counter into a D register. -/
  | insRdpc (e : Nat) (ecc : EccHit)
  /-- `LDI` (R176): Load a 32-bit immediate into a D register. -/
  | insLdi (e : Nat) (ecc : EccHit)
  /-- `BRA` (R176): Unconditional branch. -/
  | insBra (e : Nat) (ecc : EccHit)
  /-- `BALL` (R193): Branch when the condition holds in every masked lane. -/
  | insBall (e : Nat) (ecc : EccHit)
  /-- `BANY` (R193): Branch when the condition holds in any masked lane. -/
  | insBany (e : Nat) (ecc : EccHit)
  /-- `CALL` (R194): Push the return address and branch. -/
  | insCall (e : Nat) (ecc : EccHit)
  /-- `RET` (R176): Return to the popped address. -/
  | insRet (e : Nat) (ecc : EccHit)
  /-- `LOOP` (R187): Start a hardware loop with an immediate count. -/
  | insLoop (e : Nat) (ecc : EccHit)
  /-- `LOOPU` (R187): Start a hardware loop counted by a cursor field. -/
  | insLoopu (e : Nat) (ecc : EccHit)
  /-- `YIELD` (R227): Suspend the task with its context and run its MID list. -/
  | insYield (e : Nat) (ecc : EccHit)
  /-- `END` (R197): End the task's work for the shot and run its OUT list. -/
  | insEnd (e : Nat) (ecc : EccHit)
  -- Engine events
  /-- `STORE_BUFFER_DRAIN` (R131): A buffered store drains into X or Y memory in a free cycle. -/
  | storeBufferDrain (e : Nat) (isY : Bool)
  /-- `TAG_INSTRUCTION` (R697): The tag interval expires and an engine tags an issued instruction. -/
  | tagInstruction (e task pc total stall cause : Nat) (disc exc : Bool)
  -- Take events (chapter 07)
  /-- `LOCK_BOUNDARY` (R313): One shot before the take boundary, commands are held and SLICE_INIT images copied. -/
  | lockBoundary
  /-- `TAKE_COMMIT` (R316): At the take boundary the slate commits on the whole chip. -/
  | takeCommit
  /-- `ENGINE_SLATE_COPY_DONE` (R108): An engine's slate page copy completes and SLATE_READY returns to 1. -/
  | engineSlateCopyDone (e : CopyDone)
  /-- `MATRIX_TAKE_APPLY` (R268): One shot after the take, the matrix exchanges views and starts fades at the take sample. -/
  | matrixTakeApply
  /-- `BUS_ENGINE_COMMIT` (R317): Two shots after the take, bus engines exchange pages. -/
  | busEngineCommit
  /-- `HELD_COMMANDS_RELEASE` (R313): When every slate copy is complete, held commands execute in arrival order. -/
  | heldCommandsRelease
  /-- `DISSOLVE_END` (R325): The dissolve ends: the old graph is freed and DISSOLVE_END is sent. -/
  | dissolveEnd
  /-- `RECAST_LOAD_DONE` (R155): Loading of a recast target completes and it becomes LOADED. -/
  | recastLoadDone (e : CopyDone)
  /-- `CUT_RECAST_COPY_DONE` (R157): The lane-slice copy of a cut recast completes. -/
  | cutRecastCopyDone (le : CopyDone)
  /-- `CUT_RECAST_SWAP` (R157): One shot after the take, source and target exchange ENG_ROLE and the target is dispatched. -/
  | cutRecastSwap (le : Nat)
  /-- `SPARE_BIST` (R154): The Gaffer core runs BIST on a spare engine at most every 60 s. -/
  | spareBist (e failmem : Nat)
  -- Serial ports (chapter 08)
  /-- `SERIAL_FRAME` (R342): A serial frame starts on a clock group; slots are received and sent. -/
  | serialFrame (g bclks : Nat) (data : List PortSlots) (slips : List Slip)
  /-- `PORT_BLOCK` (R367): A port block completes and is timestamped. -/
  | portBlock (p : Nat) (recs : List PlyRec)
  /-- `SP_LOST` (R375): A slave input meets its loss criterion and conceals. -/
  | spLost (g : Nat) (silent : Bool)
  /-- `SP_RETURN` (R376): After 16 good frames a lost input returns to RUNNING. -/
  | spReturn (g : Nat)
  /-- `CG_RATE_UPDATE` (R347): A clock group updates its measured frame rate and class. -/
  | cgRateUpdate (g freq : Nat)
  /-- `ASRC_LOCK` (R363): An ASRC channel declares lock after a stable ratio estimate. -/
  | asrcLock (kind i : Nat) (lock : Bool)
  /-- `PORT_START_ACT` (R369): A scheduled port start claims pins and ASRC channels and starts the direction. -/
  | portStartAct (p phi : Nat) (recs : List PlyRec)
  /-- `PORT_STOP_ACT` (R373): A scheduled port stop takes effect and frees claims and ASRC channels. -/
  | portStopAct (p : Nat)
  /-- `STREAM_START_ACT` (R433): A scheduled stream start claims channels, buffers and ASRC channels. -/
  | streamStartAct (c : Nat)
  /-- `STREAM_STOP_ACT` (R433): A scheduled stream stop returns its resources. -/
  | streamStopAct (c : Nat)
  /-- `LANE_START_ACT` (R451): A scheduled Dailies lane start claims its pin and begins settling. -/
  | laneStartAct (l : Nat)
  /-- `LANE_STOP_ACT` (R452): A scheduled Dailies lane stop frees its pin. -/
  | laneStopAct (l : Nat)
  -- Media network (chapter 09)
  /-- `MP_FRAME_RECEIVED` (R396): A frame is received on an MP port and handled or dropped. -/
  | mpFrameReceived (p : Nat) (l : List (BitVec 8)) (frag : Bool)
  /-- `MGMT_FRAME_RECEIVED` (R393): A frame on MGMT is answered for ARP or ICMP, or dropped. -/
  | mgmtFrameReceived (l : List (BitVec 8))
  /-- `FRAME_TRANSMIT_DONE` (R439): A frame is sent or dropped and its descriptors complete. -/
  | frameTransmitDone (p : Nat) (preempted : Bool)
  /-- `TC_DROP` (R553): A forwarded PTP frame not egressed within 1 ms is dropped. -/
  | tcDrop (p : Nat)
  /-- `LINK_UP` (R394): An MP port link comes up after 10 ms of block lock. -/
  | linkUp (p : Nat)
  /-- `LINK_DOWN` (R394): An MP port link goes down and queued traffic is dropped. -/
  | linkDown (p : Nat)
  /-- `PAUSE_RECEIVED` (R405): A PAUSE frame stops transmission for the requested time. -/
  | pauseReceived (p q : Nat)
  /-- `PAUSE_EXPIRY` (R406): A pause time elapses and transmission resumes. -/
  | pauseExpiry (p : Nat)
  /-- `PAUSE_BROKEN` (R405): The pause watchdog ends a continuous pause. -/
  | pauseBroken (p : Nat)
  /-- `PREEMPT_VERIFY` (R403): A verification attempt of IEEE 802.3br runs. -/
  | preemptVerify (p : Nat) (ok : Bool)
  /-- `BRIDGE_AGE_OUT` (R410): A learnt address ages out. -/
  | bridgeAgeOut (mac : Nat)
  /-- `STREAM_PACKET_ACCEPT` (R423): A matched RTP packet is checked and its samples placed by timestamp. -/
  | streamPacketAccept (c pos : Nat)
  /-- `STREAM_BLOCK_WRITE` (R425): A stream input block is written to stage memory 2 Ts before its boundary. -/
  | streamBlockWrite (c : Nat)
  /-- `STREAM_LOST` (R426): A receive context meets its loss criterion. -/
  | streamLost (c : Nat)
  /-- `STREAM_PACKET_SEND` (R430): A transmit packet is built and queued at its queue instant. -/
  | streamPacketSend (c : Nat)
  /-- `TX_LATE` (R408): A stream packet not begun within one packet time is dropped. -/
  | txLate (p : Nat)
  -- Dailies and meters (chapter 10)
  /-- `DL_LOST` (R462): A lane sees 512 identical bits and enters loss. -/
  | dlLost (l pos : Nat)
  /-- `DL_RETURN` (R463): A lost lane returns after 4,096 good bits. -/
  | dlReturn (l pos : Nat)
  /-- `DL_SETTLED` (R461): A lane's UNSETTLED run ends. -/
  | dlSettled (l : Nat)
  /-- `METER_SET_APPLY` (R471): A meter point change takes effect at a period start and resets the point. -/
  | meterSetApply
  /-- `METER_FRAME_START` (R474): The device starts writing a meter frame, or drops it. -/
  | meterFrameStart
  /-- `METER_FRAME_COMPLETE` (R474): A meter frame completes, the write pointer advances and the interrupt may be raised. -/
  | meterFrameComplete
  -- Clock unit (chapter 11)
  /-- `STEER_UPDATE` (R480): The DCO takes a new steer value. -/
  | steerUpdate (phase : Int)
  /-- `FREQ_MONITOR_UPDATE` (R492): A candidate's frequency offset is updated. -/
  | freqMonitorUpdate (k : Nat) (ppm : Int) (adv : Nat)
  /-- `CANDIDATE_QUALIFIED` (R493): A candidate's qualify time completes and it becomes qualified. -/
  | candidateQualified (k : Nat)
  /-- `ACTIVITY_END` (R491): A candidate's activity ends. -/
  | activityEnd (k : Nat)
  /-- `WTR_EXPIRY` (R500): The wait-to-restore timer expires and a switch starts. -/
  | wtrExpiry
  /-- `BUILDOUT_END` (R504): The build-out ends and the loop engages on the target. -/
  | buildoutEnd (b : Int)
  /-- `LOOP_STEP` (R510): The loop narrows to the next bandwidth step or becomes LOCKED. -/
  | loopStep
  /-- `CLK_UNLOCK` (R512): Phase error above 4 x LOCKWIN for 1 s returns the loop to ACQUIRING. -/
  | clkUnlock
  /-- `ALIGN_COMPLETE` (R506): The build-out reaches 0 and ALIGNING clears. -/
  | alignComplete
  /-- `HISTORY_ENTRY` (R517): A one-second holdover history entry is recorded. -/
  | historyEntry
  /-- `HOLDOVER_STEER_EVAL` (R519): The holdover target steer is evaluated once per second. -/
  | holdoverSteerEval
  /-- `CLK_LOST` (R515): Holdover lasts LIMIT seconds and STATE becomes LOST. -/
  | clkLost
  /-- `TEMP_MEASURE` (R520): The die temperature is measured. -/
  | tempMeasure (u : Int)
  -- Network time and Clapper (chapter 12)
  /-- `SYNC_RECEIVED` (R544): A PTP Sync message is received and timestamped. -/
  | syncReceived (twoStep : Bool) (t1 corr : Int)
  /-- `FOLLOW_UP_RECEIVED` (R544): A Follow_Up supplies t1 and correction. -/
  | followUpReceived (t1 corr : Int)
  /-- `DELAY_RESP_RECEIVED` (R544): A Delay_Resp completes one servo measurement. -/
  | delayRespReceived (t4 cdreq : Int)
  /-- `ANNOUNCE_RECEIVED` (R548): An Announce is accepted and grandmaster data copied. -/
  | announceReceived (parent gm cls acc var_ : Nat) (utcValid : Bool) (utc st : Nat)
  /-- `PTP_LOSS` (R547): SERVOVALID falls on timeout, state change or master change. -/
  | ptpLoss (cause st : Nat)
  /-- `PTP_MESSAGE_SEND` (R540): An interval expires and the clock sends Sync, Announce or Delay_Req. -/
  | ptpMessageSend (kind : Nat)
  /-- `CLAPPER_TRIGGER_FIRE` (R558): A Clapper trigger fires and performs its action. -/
  | clapperTriggerFire (i : Nat)
  /-- `CAPTURE_EDGE` (R566): An edge on a capture input is timestamped into its FIFO. -/
  | captureEdge (c : Nat) (fall : Bool)
  -- Memory and fabric (chapter 13)
  /-- `XBAR_REQUEST` (R581): A master's request reaches a crossbar target and is granted. -/
  | xbarRequest (m : Nat) (t : XbarPath) (beats kind : Nat) (at_ : BurstData) (hits : List BankHit) (col : Option DualAccess) (bad : Option SramErr)
  /-- `BURST_COMPLETE` (R583): A burst completes and its credit returns. -/
  | burstComplete (t lat : Nat)
  /-- `MASTER_RESET` (R591): A crossbar master is reset and its requests are completed or withdrawn. -/
  | masterReset (x : XbarReset)
  /-- `SCRUB` (R578): The scrubber reads and corrects SRAM words. -/
  | scrub (x : SramErr) (kind : Nat)
  /-- `DDR_TRAINING_DONE` (R594): LPDDR5 training completes or fails. -/
  | ddrTrainingDone (ok : Bool)
  /-- `DDR_RETRAIN` (R597): A periodic LPDDR5 retraining runs. -/
  | ddrRetrain
  /-- `MRAM_REPLACE_DONE` (R605): An eMRAM row replacement completes and MRAM_SPARE is sent. -/
  | mramReplaceDone
  -- Faults and log (chapter 15)
  /-- `FAULT_MESSAGE` (R665): The fault collector accepts a message and applies its reaction. -/
  | faultMessage (src kind addr : Nat)
  /-- `LOG_RECORD_WRITE` (R683): A queued log record is written to eMRAM or suppressed by its rate limit. -/
  | logRecordWrite
  /-- `LOG_TOKEN_GAIN` (R680): A code's bucket gains a token when its period completes. -/
  | logTokenGain (c : Nat)
  -- Stand-in and Reel links (chapter 16)
  /-- `STI_LINK_UP` (R707): The stand-in link trains and comes up. -/
  | stiLinkUp
  /-- `STI_LINK_DOWN` (R707): The stand-in link goes down after 1 ms without block lock. -/
  | stiLinkDown
  /-- `RENEW_SEND` (R709): The holder sends RENEW every Lz / 4. -/
  | renewSend
  /-- `RENEW_RECEIVED` (R709): The stand-in receives a RENEW and answers ACK. -/
  | renewReceived (n lease : Nat)
  /-- `ACK_RECEIVED` (R709): The holder receives an ACK of its renewal. -/
  | ackReceived (n : Nat)
  /-- `FENCE` (R710): A paired holder without acknowledgement fences at t_n + Lz - 250 us. -/
  | fence
  /-- `LEASE_IN_RISE` (R710): LEASE_IN rises and a paired holder fences. -/
  | leaseInRise
  /-- `LEASE_IN_FALL` (R711): LEASE_IN falls and a waiting stand-in takes the token. -/
  | leaseInFall (late : Bool)
  /-- `TOKEN_TAKE` (R711): The stand-in takes the token at r_n + Lz + 250 us and starts takeover. -/
  | tokenTake (late : Bool)
  /-- `RELEASE_RECEIVED` (R712): The stand-in receives RELEASE and takes the token at once. -/
  | releaseReceived (late : Bool)
  /-- `RECLAIM` (R714): A FENCED chip with RECLAIM takes the token back. -/
  | reclaim
  /-- `MIRROR_PACKET_APPLY` (R719): The stand-in applies a forwarded packet or take pages. -/
  | mirrorPacketApply (x : MirrorItem)
  /-- `WHOLE_STATE_TRANSFER_DONE` (R720): A whole-state transfer is applied and MVALID rises. -/
  | wholeStateTransferDone (x : WholeState)
  /-- `STANDIN_TICK_START` (R722): The stand-in starts its tick and loads the holder's count. -/
  | standinTickStart (count : Nat)
  /-- `WAKE_STEP` (R723): One of the 15 wake steps ungates more of the core. -/
  | wakeStep
  /-- `STANDIN_AWAKE` (R716): The stand-in reports its wake and the holder releases at the next boundary. -/
  | standinAwake
  /-- `TAKEOVER_START` (R723): At b0, ports, streams, lanes and triggers start and the live graph is dispatched. -/
  | takeoverStart (phis : List Nat)
  /-- `TAKEOVER_RELEASE` (R723): At b0 + 4 shots the first block is released and the mode leaves TAKEOVER. -/
  | takeoverRelease
  /-- `RL_LINK_UP` (R728): A Reel link trains and measures its transit delay. -/
  | rlLinkUp (k delay : Nat)
  /-- `RL_LINK` (R728): A Reel link goes down or fails training and retrains. -/
  | rlLink (k : Nat)
  /-- `RL_BLOCK_RECEIVED` (R733): A channel block or ring partial arrives on a Reel link. -/
  | rlBlockReceived (k : Nat) (x : RlItem) (ok : Bool)
  /-- `RING_LIST_RECEIVED` (R730): A ring list arrives and is forwarded or closes the ring. -/
  | ringListReceived (ids : List Nat) (sec ns : Nat)
  /-- `RING_TAKE_MESSAGE` (R333): A chip receives a take from the ring master and returns a vote. -/
  | ringTakeMessage (ws : RingTake)
  /-- `VOTE_RECEIVED` (R334): The ring master receives a vote and accepts or refuses the take. -/
  | voteReceived (id status : Nat)
  /-- `VOTE_TIMEOUT` (R334): A vote is missing after 250 us and the take is refused. -/
  | voteTimeout
  /-- `RING_COMMIT_RECEIVED` (R334): A chip receives the ring master's commit or abandon. -/
  | ringCommitReceived (commit : Bool)
  /-- `FOLLOWER_ACQUIRE` (R731): A follower's deferred ACQUIRE takes effect once candidate 6 qualifies. -/
  | followerAcquire (count : Nat)
  -- Modes, boot and lifetime (chapter 17)
  /-- `MODE_TRANSITION` (R765): A pending mode change or clock condition takes effect at a boundary. -/
  | modeTransition
  /-- `POR` (R777): A rail outside its power-good window resets the device. -/
  | por
  /-- `RESET_N_ASSERT` (R755): RESET_N held low resets the device. -/
  | resetNAssert
  /-- `CLKLOSS` (R484): REFCLK absence or root PLL unlock holds the device in RESET. -/
  | clkloss
  /-- `THERMAL_TRIP` (R800): The die reaches 120 C, THERM_N goes low and the device resets. -/
  | thermalTrip
  /-- `THERMAL_RELEASE` (R800): The die cools below 110 C and RESET may be left. -/
  | thermalRelease
  /-- `RESET_RELEASE` (R758): Reset is released, straps are sampled and BOOT begins. -/
  | resetRelease (chip strap banks : Nat)
  /-- `BOOT_STAGE_DONE` (R758): A boot stage completes and the next begins, ending in STANDBY. -/
  | bootStageDone (x : BootStage)
  /-- `GAFFER_WATCHDOG` (R756): The Gaffer watchdog expires and the Gaffer core restarts, or the device resets. -/
  | gafferWatchdog
  /-- `PRESENCE_PRESS` (R645): PRESENCE_N held low for 50 ms opens or restarts the presence window. -/
  | presencePress
  /-- `PRESENCE_WINDOW_CLOSE` (R645): The 30 s presence window expires. -/
  | presenceWindowClose
  /-- `LIFETIME_RECORD` (R768): A lifetime record is written every 10 s. -/
  | lifetimeRecord
  -- Links and candidates
  /-- `PCIE_LINK_DOWN` (R623): The PCIe link goes down, master M0 is reset and the rings stop. -/
  | pcieLinkDown
  /-- `PCIE_LINK_UP` (R623): The PCIe link comes up and the session restarts. -/
  | pcieLinkUp
  /-- `CANDIDATE_ACTIVITY` (R491): Events of a word-clock, AES or FSYNC reference candidate arrive again and its activity begins, starting the qualify count. -/
  | candidateActivity (k adv : Nat)
  /-- `TRIGGER_PULSE_END` (R559): A GPIO or CONV_START pulse of a fired Clapper trigger ends after WIDTH CLK_PER periods and the pin returns to its idle level. -/
  | triggerPulseEnd (i : Nat)
  /-- `GAFFER_RESUME` (R756): After a first watchdog expiry the restarted Gaffer core resumes, writes a BOOT record and serves transports again within 150 ms. -/
  | gafferResume
  deriving DecidableEq, Repr

end Sys2Proof
end

