-- ==== Sys2Proof/Decode.lean ====
section
/-! DEFINITION. Decoding. The block has no instruction decoder: its commands come from outside as commands, and the opcode table
gives no row any bits. The engines' instruction words are decoded in Machine/Operands.lean and Machine/Engine.lean. -/

namespace Sys2Proof

/-- The command that a word spells by the table's bits: none, since no row has bits. -/
def decodeTableWord (_nbits _w : Nat) : Option Instr := none

end Sys2Proof
end

