-- ==== Sys2Proof/Config.lean ====
section
/-! DEFINITION. What the spec leaves without a value: opaque constants that no proof can evaluate. Each is applied to the
counter `State.free`, which the step reads and advances, so every use is a value of its own (log entry 2). -/

namespace Sys2Proof

/-- A word of stage memory as a host read returns it: the spec gives stage memory no layout (R39; log entry 7). -/
opaque Config.stageWord : Nat → Word

/-- What a Dailies line carries in one Ts: bit 2j at rising edge j of the lane's clock, bit 2j + 1 at the falling edge after it. No
row brings bitstreams (R450; log entry 8). -/
opaque Config.lineBits : Nat → Nat

/-- Coefficient of a tap of half-band stage 0, 1 or 2 of the decimation chain, in units of 2^-62: the spec gives the response and no
coefficients (R453, R454; log entry 8). -/
opaque Config.halfBand : Nat → Nat → Int

/-- Coefficient of a tap of the phase-delay interpolator at a phase of 1/128, in units of 2^-62 (R456; log entry 8). -/
opaque Config.phaseTap : Nat → Nat → Int

/-- A sample delivered by an ASRC channel: the spec gives no conversion filter (log entry 9). -/
opaque Config.asrcSample : Nat → Word

/-- By how much the samples that a Converted stream reads for a block differ from the nominal number, as its ASRC tracks the ratio
(R363, R428; log entry 161): 0 one less, 1 none, 2 one more, modulo 3. -/
opaque Config.trackStep : Nat → Nat

/-- Whether the samples delivered by an ASRC channel saturated in its narrowing (R63; log entry 9). -/
opaque Config.asrcClip : Nat → Bool

/-- Coefficient of a tap, newest sample first, of phase 1 to 3 of the true-peak interpolator, in units of 2^-62: the spec gives the
length and the passband and no coefficients (R468; log entry 8). -/
opaque Config.peakTap : Nat → Nat → Int

/-- Which free packet buffer is taken: the spec names no order (R399; log entry 12). -/
opaque Config.bufferPick : Nat → Nat

/-- ADDR of a fault message whose source defines none (R656; log entry 13). -/
opaque Config.faultAddr : Nat → Nat

/-- Fields of a packet header that the spec leaves open: IPv4 identification or IPv6 flow label in the low bits, DF, ECN and the
TTL of a MGMT answer (R392, R393; log entry 14). -/
opaque Config.ipHeader : Nat → Word

/-- The steer that the loop asks for: the spec gives bandwidths and damping but no filter (R509; log entry 15). -/
opaque Config.loopSteer : Nat → Int

/-- The increment that the PTP servo computes at a bandwidth code from a measured offset: the spec gives the loop's shape but no
coefficients (R537; log entry 16). -/
opaque Config.servoInc : Nat → Int → Nat → Nat

/-- clockIdentity of the ordinary clock: the spec gives no source for it (R540; log entry 187). -/
opaque Config.ptpIdentity : Nat

/-- Fields of a PTP message of the ordinary clock that the spec leaves open: timeSource (R540; log entry 187). -/
opaque Config.ptpField : Nat → Nat

/-- By how many bytes the write buffer of LPDDR5 has drained since it was last looked at: the spec gives no rate (R596; log entry 192). -/
opaque Config.bufferDrain : Nat → Nat

/-- Beats that a burst to a target had moved when its master was reset with no MASTER_RESET row of its own (R591; log entry 192). -/
opaque Config.movedBeats : Nat → Nat → Nat

/-- A word of PCIe configuration space that R615 does not give: the vendor ID, the revision, and what the PCI Express specification
defines (R615; log entry 194). -/
opaque Config.pciWord : Nat → Word

/-- A word of host memory that a host ring names and that no operand gives (log entry 20). -/
opaque Config.hostWord : Nat → Word

/-- A field that the spec calls valid only in some state, read outside it (log entry 18). -/
opaque Config.openField : Nat → Nat

/-- A word of the eMRAM area in which the block stores its wear counters: the spec gives that area no layout (R604;
log entry 19). -/
opaque Config.wearWord : Nat → Word

/-- Device sequence number of a CONFLICT reply to a packet of another source, which uses no sequence state of the session (R625;
log entry 36). -/
opaque Config.foreignSeq : Nat → Nat

end Sys2Proof
end

