-- ==== Sys2Proof/Machine/Regs.lean ====
section
/-! DEFINITION. Names of the register fields of the control region (R6, R9, R42), one per row of the spec's
field tables: UNIT_REG.FIELD is the field at its device address, least significant bit and width. -/

namespace Sys2Proof.Machine

/-- A register field: the device address of its register, its least significant bit and its width (R6). -/
structure Fld where
  addr : Nat
  lsb : Nat
  width : Nat
  deriving DecidableEq, Repr

/-- Base of the control block of physical engine `e` (R42, R96): E0 to E15 in the ENG slot, E16 and E17 at the top of
the SYS slot. -/
def engBase (e : Nat) : Nat := if e < 16 then 0xF0000 + e * 0x1000 else 0xE000 + (e - 16) * 0x1000

/-- SYS_ID.PART [31:16] RO (R2). -/
def SYS_ID.PART : Fld := ⟨0x0, 16, 16⟩
/-- SYS_ID.STEP [15:8] RO (R2). -/
def SYS_ID.STEP : Fld := ⟨0x0, 8, 8⟩
/-- SYS_ID.GRADE [7:4] RO (R2). -/
def SYS_ID.GRADE : Fld := ⟨0x0, 4, 4⟩
/-- SYS_ID.CHIP_ID [2:0] RO (R2). -/
def SYS_ID.CHIP_ID : Fld := ⟨0x0, 0, 3⟩
/-- SYS_CFG.VALID [5] RO (R20). -/
def SYS_CFG.VALID : Fld := ⟨0x10, 5, 1⟩
/-- SYS_CFG.SHAPE [4] RO (R20). -/
def SYS_CFG.SHAPE : Fld := ⟨0x10, 4, 1⟩
/-- SYS_CFG.SHOT [3:2] RO (R20). -/
def SYS_CFG.SHOT : Fld := ⟨0x10, 2, 2⟩
/-- SYS_CFG.RATE [1:0] RO (R20). -/
def SYS_CFG.RATE : Fld := ⟨0x10, 0, 2⟩
/-- SYS_SHOT_LO.COUNT [31:0] RO (R25). -/
def SYS_SHOT_LO.COUNT : Fld := ⟨0x18, 0, 32⟩
/-- SYS_SHOT_HI.COUNT [31:0] RO (R25). -/
def SYS_SHOT_HI.COUNT : Fld := ⟨0x1C, 0, 32⟩
/-- SYS_LEDGER.ACTIVE [31] RO (R50). -/
def SYS_LEDGER.ACTIVE : Fld := ⟨0x40, 31, 1⟩
/-- SYS_LEDGER.MISMATCH [6:0] W1C (R50). -/
def SYS_LEDGER.MISMATCH : Fld := ⟨0x40, 0, 7⟩
/-- ENG_CTRL.STEP [9] WO (R147). -/
def ENG_CTRL.STEP (e : Nat) : Fld := ⟨engBase e + 0x0, 9, 1⟩
/-- ENG_CTRL.HALT [8] RW (R147). -/
def ENG_CTRL.HALT (e : Nat) : Fld := ⟨engBase e + 0x0, 8, 1⟩
/-- ENG_CTRL.ACCWRAP [0] RWT (R147). -/
def ENG_CTRL.ACCWRAP (e : Nat) : Fld := ⟨engBase e + 0x0, 0, 1⟩
/-- ENG_STAT.TASK [27:16] RO (R148). -/
def ENG_STAT.TASK (e : Nat) : Fld := ⟨engBase e + 0x4, 16, 12⟩
/-- ENG_STAT.SLATE_READY [7] RO (R148). -/
def ENG_STAT.SLATE_READY (e : Nat) : Fld := ⟨engBase e + 0x4, 7, 1⟩
/-- ENG_STAT.SLATE_DIRTY [6] RO (R148). -/
def ENG_STAT.SLATE_DIRTY (e : Nat) : Fld := ⟨engBase e + 0x4, 6, 1⟩
/-- ENG_STAT.LIVEPAGE [5] RO (R148). -/
def ENG_STAT.LIVEPAGE (e : Nat) : Fld := ⟨engBase e + 0x4, 5, 1⟩
/-- ENG_STAT.BANK [4] RO (R148). -/
def ENG_STAT.BANK (e : Nat) : Fld := ⟨engBase e + 0x4, 4, 1⟩
/-- ENG_STAT.STATE [2:0] RO (R148). -/
def ENG_STAT.STATE (e : Nat) : Fld := ⟨engBase e + 0x4, 0, 3⟩
/-- ENG_ROLE.LOGICAL [4:0] RO (R149). -/
def ENG_ROLE.LOGICAL (e : Nat) : Fld := ⟨engBase e + 0x8, 0, 5⟩
/-- ENG_PC.PC [13:0] RO (R150). -/
def ENG_PC.PC (e : Nat) : Fld := ⟨engBase e + 0xC, 0, 14⟩
/-- ENG_LFLAG.G [15:8] RO (R150). -/
def ENG_LFLAG.G (e : Nat) : Fld := ⟨engBase e + 0x10, 8, 8⟩
/-- ENG_LFLAG.S [7:0] RO (R150). -/
def ENG_LFLAG.S (e : Nat) : Fld := ⟨engBase e + 0x10, 0, 8⟩
/-- ENG_EXC.KINDS [5:0] W1C (R151). -/
def ENG_EXC.KINDS (e : Nat) : Fld := ⟨engBase e + 0x14, 0, 6⟩
/-- ENG_EXCINFO.TASK [31:20] RO (R151). -/
def ENG_EXCINFO.TASK (e : Nat) : Fld := ⟨engBase e + 0x18, 20, 12⟩
/-- ENG_EXCINFO.KIND [18:16] RO (R151). -/
def ENG_EXCINFO.KIND (e : Nat) : Fld := ⟨engBase e + 0x18, 16, 3⟩
/-- ENG_EXCINFO.PC [13:0] RO (R151). -/
def ENG_EXCINFO.PC (e : Nat) : Fld := ⟨engBase e + 0x18, 0, 14⟩
/-- ENG_ECC.UNCORR [31:16] RC (R152). -/
def ENG_ECC.UNCORR (e : Nat) : Fld := ⟨engBase e + 0x1C, 16, 16⟩
/-- ENG_ECC.CORR [15:0] RC (R152). -/
def ENG_ECC.CORR (e : Nat) : Fld := ⟨engBase e + 0x1C, 0, 16⟩
/-- ENG_BIST.FAILMEM [4:2] RO (R152). -/
def ENG_BIST.FAILMEM (e : Nat) : Fld := ⟨engBase e + 0x20, 2, 3⟩
/-- ENG_BIST.PASS [1] RO (R152). -/
def ENG_BIST.PASS (e : Nat) : Fld := ⟨engBase e + 0x20, 1, 1⟩
/-- ENG_BIST.DONE [0] RO (R152). -/
def ENG_BIST.DONE (e : Nat) : Fld := ⟨engBase e + 0x20, 0, 1⟩
/-- ENG_DBGSEL.LANE [10:8] RW (R153). -/
def ENG_DBGSEL.LANE (e : Nat) : Fld := ⟨engBase e + 0x100, 8, 3⟩
/-- ENG_DBGSEL.INDEX [7:0] RW (R153). -/
def ENG_DBGSEL.INDEX (e : Nat) : Fld := ⟨engBase e + 0x100, 0, 8⟩
/-- CS_CTRL.OVRLIMIT [11:8] RW (R244). -/
def CS_CTRL.OVRLIMIT : Fld := ⟨0x30000, 8, 4⟩
/-- CS_RESERVE.GUARD [31:12] RO (R244). -/
def CS_RESERVE.GUARD : Fld := ⟨0x30004, 12, 20⟩
/-- CS_RESERVE.PCT [5:0] RW (R244). -/
def CS_RESERVE.PCT : Fld := ⟨0x30004, 0, 6⟩
/-- CS_LIMITS.ADMIT [19:0] RO (R244). -/
def CS_LIMITS.ADMIT : Fld := ⟨0x30008, 0, 20⟩
/-- CS_TOKENS.FREE [28:16] RO (R244). -/
def CS_TOKENS.FREE : Fld := ⟨0x3000C, 16, 13⟩
/-- CS_TOKENS.INUSE [12:0] RO (R244). -/
def CS_TOKENS.INUSE : Fld := ⟨0x3000C, 0, 13⟩
/-- CS_QDEPTH.MAX [28:16] RC (R244). -/
def CS_QDEPTH.MAX (k : Nat) : Fld := ⟨0x30020 + k * 0x4, 16, 13⟩
/-- CS_QDEPTH.CUR [12:0] RO (R244). -/
def CS_QDEPTH.CUR (k : Nat) : Fld := ⟨0x30020 + k * 0x4, 0, 13⟩
/-- CS_DLDEPTH.CUR [12:0] RO (R244). -/
def CS_DLDEPTH.CUR : Fld := ⟨0x30040, 0, 13⟩
/-- CS_DISSOLVE.ACTIVE [0] RO (R244). -/
def CS_DISSOLVE.ACTIVE : Fld := ⟨0x30044, 0, 1⟩
/-- CS_ELOAD.USED [19:0] RO (R245). -/
def CS_ELOAD.USED (k : Nat) : Fld := ⟨0x30100 + k * 0x10, 0, 20⟩
/-- CS_EPEAK.MAX [19:0] RC (R245). -/
def CS_EPEAK.MAX (k : Nat) : Fld := ⟨0x30104 + k * 0x10, 0, 20⟩
/-- CS_EADMIT.COST [19:0] RO (R245). -/
def CS_EADMIT.COST (k : Nat) : Fld := ⟨0x30108 + k * 0x10, 0, 20⟩
/-- CS_EEVT.PREEMPTS [31:16] RC (R245). -/
def CS_EEVT.PREEMPTS (k : Nat) : Fld := ⟨0x3010C + k * 0x10, 16, 16⟩
/-- CS_EEVT.OVERRUNS [15:0] RC (R245). -/
def CS_EEVT.OVERRUNS (k : Nat) : Fld := ⟨0x3010C + k * 0x10, 0, 16⟩
/-- CS_TSEL.TASK [11:0] RW (R246). -/
def CS_TSEL.TASK : Fld := ⟨0x30400, 0, 12⟩
/-- CS_TSTATE.SLATE [9] RO (R246). -/
def CS_TSTATE.SLATE : Fld := ⟨0x30404, 9, 1⟩
/-- CS_TSTATE.LIVE [8] RO (R246). -/
def CS_TSTATE.LIVE : Fld := ⟨0x30404, 8, 1⟩
/-- CS_TSTATE.OVRCNT [7:4] RO (R246). -/
def CS_TSTATE.OVRCNT : Fld := ⟨0x30404, 4, 4⟩
/-- CS_TSTATE.STATE [2:0] RO (R246). -/
def CS_TSTATE.STATE : Fld := ⟨0x30404, 0, 3⟩
/-- CS_TWAIT_MIN.CYC [19:0] RO (R246). -/
def CS_TWAIT_MIN.CYC : Fld := ⟨0x30408, 0, 20⟩
/-- CS_TWAIT_MAX.CYC [19:0] RO (R246). -/
def CS_TWAIT_MAX.CYC : Fld := ⟨0x3040C, 0, 20⟩
/-- CS_TWAIT_LAST.CYC [19:0] RO (R246). -/
def CS_TWAIT_LAST.CYC : Fld := ⟨0x30410, 0, 20⟩
/-- CS_TCTL.WCLR [0] WO (R246). -/
def CS_TCTL.WCLR : Fld := ⟨0x30414, 0, 1⟩
/-- CS_TUSED.CYC [19:0] RO (R246). -/
def CS_TUSED.CYC : Fld := ⟨0x30418, 0, 20⟩
/-- SPL_CTRL.ZSKIP [0] RW (R292). -/
def SPL_CTRL.ZSKIP : Fld := ⟨0x40000, 0, 1⟩
/-- SPL_STAT.SLATE_READY [3] RO (R292). -/
def SPL_STAT.SLATE_READY : Fld := ⟨0x40004, 3, 1⟩
/-- SPL_STAT.SLATE_DIRTY [2] RO (R292). -/
def SPL_STAT.SLATE_DIRTY : Fld := ⟨0x40004, 2, 1⟩
/-- SPL_STAT.LIVESET [1] RO (R292). -/
def SPL_STAT.LIVESET : Fld := ⟨0x40004, 1, 1⟩
/-- SPL_STAT.PASS [0] RO (R292). -/
def SPL_STAT.PASS : Fld := ⟨0x40004, 0, 1⟩
/-- SPL_CUTS.COUNT [20:0] RO (R292). -/
def SPL_CUTS.COUNT : Fld := ⟨0x40008, 0, 21⟩
/-- SPL_ARMED.COUNT [16:0] RO (R292). -/
def SPL_ARMED.COUNT : Fld := ⟨0x4000C, 0, 17⟩
/-- SPL_FADES.RUNNING [16:0] RO (R292). -/
def SPL_FADES.RUNNING : Fld := ⟨0x40010, 0, 17⟩
/-- SPL_FADEMAX.MAX [16:0] RC (R292). -/
def SPL_FADEMAX.MAX : Fld := ⟨0x40014, 0, 17⟩
/-- SPL_ACTIVE.COUNT [21:0] RO (R292). -/
def SPL_ACTIVE.COUNT : Fld := ⟨0x40018, 0, 22⟩
/-- SPL_PASS.CYC [19:0] RO (R292). -/
def SPL_PASS.CYC : Fld := ⟨0x4001C, 0, 20⟩
/-- SPL_PASSMAX.CYC [19:0] RC (R292). -/
def SPL_PASSMAX.CYC : Fld := ⟨0x40020, 0, 20⟩
/-- SPL_CLIPCNT.COUNT [31:0] RC (R292). -/
def SPL_CLIPCNT.COUNT : Fld := ⟨0x40024, 0, 32⟩
/-- SPL_LAWFB.COUNT [15:0] RC (R292). -/
def SPL_LAWFB.COUNT : Fld := ⟨0x40028, 0, 16⟩
/-- SPL_XSEL.TAP [21:10] RW (R293). -/
def SPL_XSEL.TAP : Fld := ⟨0x40040, 10, 12⟩
/-- SPL_XSEL.BUS [9:0] RW (R293). -/
def SPL_XSEL.BUS : Fld := ⟨0x40040, 0, 10⟩
/-- SPL_XGAIN.GAIN [31:0] RO (R293). -/
def SPL_XGAIN.GAIN : Fld := ⟨0x40044, 0, 32⟩
/-- SPL_XFADE.STATE [31:30] RO (R293). -/
def SPL_XFADE.STATE : Fld := ⟨0x40048, 30, 2⟩
/-- SPL_XFADE.LAW [29] RO (R293). -/
def SPL_XFADE.LAW : Fld := ⟨0x40048, 29, 1⟩
/-- SPL_XFADE.REMAIN [21:0] RO (R293). -/
def SPL_XFADE.REMAIN : Fld := ⟨0x40048, 0, 22⟩
/-- SPL_XTARGET.GAIN [31:0] RO (R293). -/
def SPL_XTARGET.GAIN : Fld := ⟨0x4004C, 0, 32⟩
/-- SYS_TAKE_STAT.BUSENG [4] RO (R340). -/
def SYS_TAKE_STAT.BUSENG : Fld := ⟨0x60, 4, 1⟩
/-- SYS_TAKE_STAT.CUT [3] RO (R340). -/
def SYS_TAKE_STAT.CUT : Fld := ⟨0x60, 3, 1⟩
/-- SYS_TAKE_STAT.DISSOLVE [2] RO (R340). -/
def SYS_TAKE_STAT.DISSOLVE : Fld := ⟨0x60, 2, 1⟩
/-- SYS_TAKE_STAT.LOCKED [1] RO (R340). -/
def SYS_TAKE_STAT.LOCKED : Fld := ⟨0x60, 1, 1⟩
/-- SYS_TAKE_STAT.PENDING [0] RO (R340). -/
def SYS_TAKE_STAT.PENDING : Fld := ⟨0x60, 0, 1⟩
/-- SYS_TAKE_SHOT_LO.SHOT [31:0] RO (R340). -/
def SYS_TAKE_SHOT_LO.SHOT : Fld := ⟨0x64, 0, 32⟩
/-- SYS_TAKE_SHOT_HI.SHOT [15:0] RO (R340). -/
def SYS_TAKE_SHOT_HI.SHOT : Fld := ⟨0x68, 0, 16⟩
/-- SYS_TAKE_CNT.COUNT [31:0] RO (R340). -/
def SYS_TAKE_CNT.COUNT : Fld := ⟨0x6C, 0, 32⟩
/-- SYS_DISS_END.SHOT [31:0] RO (R340). -/
def SYS_DISS_END.SHOT : Fld := ⟨0x70, 0, 32⟩
/-- SYS_TAKE_REFUSED.ABANDONED [31:16] RC (R340). -/
def SYS_TAKE_REFUSED.ABANDONED : Fld := ⟨0x74, 16, 16⟩
/-- SYS_TAKE_REFUSED.REFUSED [15:0] RC (R340). -/
def SYS_TAKE_REFUSED.REFUSED : Fld := ⟨0x74, 0, 16⟩
/-- CG_CFG.ENABLE [31] RW (R386). -/
def CG_CFG.ENABLE (k : Nat) : Fld := ⟨0x54000 + k * 0x20, 31, 1⟩
/-- CG_CFG.DIR [30] RW (R386). -/
def CG_CFG.DIR (k : Nat) : Fld := ⟨0x54000 + k * 0x20, 30, 1⟩
/-- CG_CFG.SYNC [29] RW (R386). -/
def CG_CFG.SYNC (k : Nat) : Fld := ⟨0x54000 + k * 0x20, 29, 1⟩
/-- CG_CFG.RATE [28:27] RW (R386). -/
def CG_CFG.RATE (k : Nat) : Fld := ⟨0x54000 + k * 0x20, 27, 2⟩
/-- CG_CFG.FMT [26:25] RW (R386). -/
def CG_CFG.FMT (k : Nat) : Fld := ⟨0x54000 + k * 0x20, 25, 2⟩
/-- CG_CFG.SLOTS [24:19] RW (R386). -/
def CG_CFG.SLOTS (k : Nat) : Fld := ⟨0x54000 + k * 0x20, 19, 6⟩
/-- CG_CFG.SLOTW [18:17] RW (R386). -/
def CG_CFG.SLOTW (k : Nat) : Fld := ⟨0x54000 + k * 0x20, 17, 2⟩
/-- CG_CFG.DELAY [16] RW (R386). -/
def CG_CFG.DELAY (k : Nat) : Fld := ⟨0x54000 + k * 0x20, 16, 1⟩
/-- CG_CFG.FSW [15] RW (R386). -/
def CG_CFG.FSW (k : Nat) : Fld := ⟨0x54000 + k * 0x20, 15, 1⟩
/-- CG_CFG.FSPOL [14] RW (R386). -/
def CG_CFG.FSPOL (k : Nat) : Fld := ⟨0x54000 + k * 0x20, 14, 1⟩
/-- CG_CFG.BCLKPOL [13] RW (R386). -/
def CG_CFG.BCLKPOL (k : Nat) : Fld := ⟨0x54000 + k * 0x20, 13, 1⟩
/-- CG_STAT.PRESENT [31] RO (R387). -/
def CG_STAT.PRESENT (k : Nat) : Fld := ⟨0x54004 + k * 0x20, 31, 1⟩
/-- CG_STAT.RATECHG [30] W1C (R387). -/
def CG_STAT.RATECHG (k : Nat) : Fld := ⟨0x54004 + k * 0x20, 30, 1⟩
/-- CG_STAT.RATECLS [29:27] RO (R387). -/
def CG_STAT.RATECLS (k : Nat) : Fld := ⟨0x54004 + k * 0x20, 27, 3⟩
/-- CG_RATE.FREQ [23:0] RO (R387). -/
def CG_RATE.FREQ (k : Nat) : Fld := ⟨0x54008 + k * 0x20, 0, 24⟩
/-- CG_RATETOL.PPM [15:0] RW (R387). -/
def CG_RATETOL.PPM (k : Nat) : Fld := ⟨0x5400C + k * 0x20, 0, 16⟩
/-- ASRC_STAT.INUSE [26:16] RO (R387). -/
def ASRC_STAT.INUSE : Fld := ⟨0x56000, 16, 11⟩
/-- ASRC_STAT.FREE [10:0] RO (R387). -/
def ASRC_STAT.FREE : Fld := ⟨0x56000, 0, 11⟩
/-- SP_CFG.CG [31:28] RW (R388). -/
def SP_CFG.CG (k : Nat) : Fld := ⟨0x50000 + k * 0x100, 28, 4⟩
/-- SP_CFG.DATAW [27:26] RW (R388). -/
def SP_CFG.DATAW (k : Nat) : Fld := ⟨0x50000 + k * 0x100, 26, 2⟩
/-- SP_CFG.MODE [25] RW (R388). -/
def SP_CFG.MODE (k : Nat) : Fld := ⟨0x50000 + k * 0x100, 25, 1⟩
/-- SP_CFG.INSRC [24] RW (R388). -/
def SP_CFG.INSRC (k : Nat) : Fld := ⟨0x50000 + k * 0x100, 24, 1⟩
/-- SP_CFG.IDLEZ [23] RW (R388). -/
def SP_CFG.IDLEZ (k : Nat) : Fld := ⟨0x50000 + k * 0x100, 23, 1⟩
/-- SP_NCH.NOUT [13:8] RW (R388). -/
def SP_NCH.NOUT (k : Nat) : Fld := ⟨0x50014 + k * 0x100, 8, 6⟩
/-- SP_NCH.NIN [5:0] RW (R388). -/
def SP_NCH.NIN (k : Nat) : Fld := ⟨0x50014 + k * 0x100, 0, 6⟩
/-- SP_MAP_IN.SLOT0 [4:0] RW (R388). -/
def SP_MAP_IN.SLOT0 (p k : Nat) : Fld := ⟨0x50020 + p * 0x100 + k * 0x4, 0, 5⟩
/-- SP_MAP_IN.SLOT1 [12:8] RW (R388). -/
def SP_MAP_IN.SLOT1 (p k : Nat) : Fld := ⟨0x50020 + p * 0x100 + k * 0x4, 8, 5⟩
/-- SP_MAP_IN.SLOT2 [20:16] RW (R388). -/
def SP_MAP_IN.SLOT2 (p k : Nat) : Fld := ⟨0x50020 + p * 0x100 + k * 0x4, 16, 5⟩
/-- SP_MAP_IN.SLOT3 [28:24] RW (R388). -/
def SP_MAP_IN.SLOT3 (p k : Nat) : Fld := ⟨0x50020 + p * 0x100 + k * 0x4, 24, 5⟩
/-- SP_MAP_OUT.SLOT0 [4:0] RW (R388). -/
def SP_MAP_OUT.SLOT0 (p k : Nat) : Fld := ⟨0x50040 + p * 0x100 + k * 0x4, 0, 5⟩
/-- SP_MAP_OUT.SLOT1 [12:8] RW (R388). -/
def SP_MAP_OUT.SLOT1 (p k : Nat) : Fld := ⟨0x50040 + p * 0x100 + k * 0x4, 8, 5⟩
/-- SP_MAP_OUT.SLOT2 [20:16] RW (R388). -/
def SP_MAP_OUT.SLOT2 (p k : Nat) : Fld := ⟨0x50040 + p * 0x100 + k * 0x4, 16, 5⟩
/-- SP_MAP_OUT.SLOT3 [28:24] RW (R388). -/
def SP_MAP_OUT.SLOT3 (p k : Nat) : Fld := ⟨0x50040 + p * 0x100 + k * 0x4, 24, 5⟩
/-- SP_CTRL.IN_EN [31] RW (R389). -/
def SP_CTRL.IN_EN (k : Nat) : Fld := ⟨0x50004 + k * 0x100, 31, 1⟩
/-- SP_CTRL.OUT_EN [30] RW (R389). -/
def SP_CTRL.OUT_EN (k : Nat) : Fld := ⟨0x50004 + k * 0x100, 30, 1⟩
/-- SP_CTRL.CAP_EN [29] RW (R389). -/
def SP_CTRL.CAP_EN (k : Nat) : Fld := ⟨0x50004 + k * 0x100, 29, 1⟩
/-- SP_CTRL.PLY_EN [28] RW (R389). -/
def SP_CTRL.PLY_EN (k : Nat) : Fld := ⟨0x50004 + k * 0x100, 28, 1⟩
/-- SP_CTRL.RATEIE [27] RW (R389). -/
def SP_CTRL.RATEIE (k : Nat) : Fld := ⟨0x50004 + k * 0x100, 27, 1⟩
/-- SP_STAT.ISTATE [31:29] RO (R389). -/
def SP_STAT.ISTATE (k : Nat) : Fld := ⟨0x50008 + k * 0x100, 29, 3⟩
/-- SP_STAT.OSTATE [28:26] RO (R389). -/
def SP_STAT.OSTATE (k : Nat) : Fld := ⟨0x50008 + k * 0x100, 26, 3⟩
/-- SP_STAT.ASRCLOCK [25] RO (R389). -/
def SP_STAT.ASRCLOCK (k : Nat) : Fld := ⟨0x50008 + k * 0x100, 25, 1⟩
/-- SP_STAT.MASKPEND_IN [24] RO (R389). -/
def SP_STAT.MASKPEND_IN (k : Nat) : Fld := ⟨0x50008 + k * 0x100, 24, 1⟩
/-- SP_STAT.MASKPEND_OUT [23] RO (R389). -/
def SP_STAT.MASKPEND_OUT (k : Nat) : Fld := ⟨0x50008 + k * 0x100, 23, 1⟩
/-- SP_MASK_IN.MASK [31:0] RW (R389). -/
def SP_MASK_IN.MASK (k : Nat) : Fld := ⟨0x5000C + k * 0x100, 0, 32⟩
/-- SP_MASK_OUT.MASK [31:0] RW (R389). -/
def SP_MASK_OUT.MASK (k : Nat) : Fld := ⟨0x50010 + k * 0x100, 0, 32⟩
/-- SP_TS0.NS [31:0] RO (R390). -/
def SP_TS0.NS (k : Nat) : Fld := ⟨0x50060 + k * 0x100, 0, 32⟩
/-- SP_TS1.SEC [31:0] RO (R390). -/
def SP_TS1.SEC (k : Nat) : Fld := ⟨0x50064 + k * 0x100, 0, 32⟩
/-- SP_TS2.SEC [15:0] RO (R390). -/
def SP_TS2.SEC (k : Nat) : Fld := ⟨0x50068 + k * 0x100, 0, 16⟩
/-- SP_BSEQ.COUNT [31:0] RO (R390). -/
def SP_BSEQ.COUNT (k : Nat) : Fld := ⟨0x5006C + k * 0x100, 0, 32⟩
/-- SP_LAT.OUT [31:16] RO (R390). -/
def SP_LAT.OUT (k : Nat) : Fld := ⟨0x50070 + k * 0x100, 16, 16⟩
/-- SP_LAT.IN [15:0] RO (R390). -/
def SP_LAT.IN (k : Nat) : Fld := ⟨0x50070 + k * 0x100, 0, 16⟩
/-- SP_ERR.FRAMEERR [31:16] RC (R390). -/
def SP_ERR.FRAMEERR (k : Nat) : Fld := ⟨0x50080 + k * 0x100, 16, 16⟩
/-- SP_ERR.SLIP [15:0] RC (R390). -/
def SP_ERR.SLIP (k : Nat) : Fld := ⟨0x50080 + k * 0x100, 0, 16⟩
/-- SP_SATCNT.COUNT [31:0] RC (R390). -/
def SP_SATCNT.COUNT (k : Nat) : Fld := ⟨0x50084 + k * 0x100, 0, 32⟩
/-- SP_DMAERR.UNDER [31:16] RC (R390). -/
def SP_DMAERR.UNDER (k : Nat) : Fld := ⟨0x50088 + k * 0x100, 16, 16⟩
/-- SP_DMAERR.OVER [15:0] RC (R390). -/
def SP_DMAERR.OVER (k : Nat) : Fld := ⟨0x50088 + k * 0x100, 0, 16⟩
/-- SP_DMALATE.COUNT [31:0] RC (R390). -/
def SP_DMALATE.COUNT (k : Nat) : Fld := ⟨0x5008C + k * 0x100, 0, 32⟩
/-- SP_DMA_STAT.LENPEND_PLY [1] RO (R390). -/
def SP_DMA_STAT.LENPEND_PLY (k : Nat) : Fld := ⟨0x50090 + k * 0x100, 1, 1⟩
/-- SP_DMA_STAT.LENPEND_CAP [0] RO (R390). -/
def SP_DMA_STAT.LENPEND_CAP (k : Nat) : Fld := ⟨0x50090 + k * 0x100, 0, 1⟩
/-- SP_CAP_CFG.PACK [14:13] RW (R390). -/
def SP_CAP_CFG.PACK (k : Nat) : Fld := ⟨0x500A0 + k * 0x100, 13, 2⟩
/-- SP_PLY_CFG.PACK [14:13] RW (R390). -/
def SP_PLY_CFG.PACK (k : Nat) : Fld := ⟨0x500C0 + k * 0x100, 13, 2⟩
/-- SP_CAP_CFG.LEN [12:0] RW (R390). -/
def SP_CAP_CFG.LEN (k : Nat) : Fld := ⟨0x500A0 + k * 0x100, 0, 13⟩
/-- SP_PLY_CFG.LEN [12:0] RW (R390). -/
def SP_PLY_CFG.LEN (k : Nat) : Fld := ⟨0x500C0 + k * 0x100, 0, 13⟩
/-- SP_CAP_BASE_LO.ADDR [31:6] RW (R390). -/
def SP_CAP_BASE_LO.ADDR (k : Nat) : Fld := ⟨0x500A4 + k * 0x100, 6, 26⟩
/-- SP_PLY_BASE_LO.ADDR [31:6] RW (R390). -/
def SP_PLY_BASE_LO.ADDR (k : Nat) : Fld := ⟨0x500C4 + k * 0x100, 6, 26⟩
/-- SP_CAP_BASE_HI.ADDR [31:0] RW (R390). -/
def SP_CAP_BASE_HI.ADDR (k : Nat) : Fld := ⟨0x500A8 + k * 0x100, 0, 32⟩
/-- SP_PLY_BASE_HI.ADDR [31:0] RW (R390). -/
def SP_PLY_BASE_HI.ADDR (k : Nat) : Fld := ⟨0x500C8 + k * 0x100, 0, 32⟩
/-- SP_CAP_WPTR.PTR [11:0] RO (R390). -/
def SP_CAP_WPTR.PTR (k : Nat) : Fld := ⟨0x500AC + k * 0x100, 0, 12⟩
/-- SP_PLY_RPTR.PTR [11:0] RO (R390). -/
def SP_PLY_RPTR.PTR (k : Nat) : Fld := ⟨0x500D0 + k * 0x100, 0, 12⟩
/-- SP_CAP_RPTR.PTR [11:0] RW (R390). -/
def SP_CAP_RPTR.PTR (k : Nat) : Fld := ⟨0x500B0 + k * 0x100, 0, 12⟩
/-- SP_PLY_WPTR.PTR [11:0] RW (R390). -/
def SP_PLY_WPTR.PTR (k : Nat) : Fld := ⟨0x500CC + k * 0x100, 0, 12⟩
/-- NET_PCFG.ENABLE [31] RW (R446). -/
def NET_PCFG.ENABLE (k : Nat) : Fld := ⟨0x60000 + k * 0x400, 31, 1⟩
/-- NET_PCFG.PAUSELEGACY [30] RW (R446). -/
def NET_PCFG.PAUSELEGACY (k : Nat) : Fld := ⟨0x60000 + k * 0x400, 30, 1⟩
/-- NET_PCFG.PREEMPT_EN [29] RW (R446). -/
def NET_PCFG.PREEMPT_EN (k : Nat) : Fld := ⟨0x60000 + k * 0x400, 29, 1⟩
/-- NET_PCFG.EXPRESS [28:21] RW (R446). -/
def NET_PCFG.EXPRESS (k : Nat) : Fld := ⟨0x60000 + k * 0x400, 21, 8⟩
/-- NET_PCFG.MAXF [13:0] RW (R446). -/
def NET_PCFG.MAXF (k : Nat) : Fld := ⟨0x60000 + k * 0x400, 0, 14⟩
/-- NET_PSTAT.LINK [31] RO (R446). -/
def NET_PSTAT.LINK (k : Nat) : Fld := ⟨0x60004 + k * 0x400, 31, 1⟩
/-- NET_PSTAT.PREEMPT [30] RO (R446). -/
def NET_PSTAT.PREEMPT (k : Nat) : Fld := ⟨0x60004 + k * 0x400, 30, 1⟩
/-- NET_PSTAT.PAUSED [29] RO (R446). -/
def NET_PSTAT.PAUSED (k : Nat) : Fld := ⟨0x60004 + k * 0x400, 29, 1⟩
/-- NET_PVLAN.PCP [14:12] RW (R446). -/
def NET_PVLAN.PCP (k : Nat) : Fld := ⟨0x60024 + k * 0x400, 12, 3⟩
/-- NET_PVLAN.VID [11:0] RW (R446). -/
def NET_PVLAN.VID (k : Nat) : Fld := ⟨0x60024 + k * 0x400, 0, 12⟩
/-- NET_PAUSECFG.WD [15:0] RW (R446). -/
def NET_PAUSECFG.WD (k : Nat) : Fld := ⟨0x60028 + k * 0x400, 0, 16⟩
/-- NET_POOL.BRIDGEMAX [26:16] RW (R446). -/
def NET_POOL.BRIDGEMAX : Fld := ⟨0x63000, 16, 11⟩
/-- NET_POOL.HOSTMAX [10:0] RW (R446). -/
def NET_POOL.HOSTMAX : Fld := ⟨0x63000, 0, 11⟩
/-- NET_POOLSTAT.INUSE [27:16] RO (R446). -/
def NET_POOLSTAT.INUSE : Fld := ⟨0x63004, 16, 12⟩
/-- NET_POOLSTAT.FREE [11:0] RO (R446). -/
def NET_POOLSTAT.FREE : Fld := ⟨0x63004, 0, 12⟩
/-- NET_SPART.RXCOUNT [9:0] RW (R446). -/
def NET_SPART.RXCOUNT : Fld := ⟨0x63008, 0, 10⟩
/-- NET_HBUF_ALLOC.VALID [31] RC (R446). -/
def NET_HBUF_ALLOC.VALID : Fld := ⟨0x6300C, 31, 1⟩
/-- NET_HBUF_ALLOC.BUF [10:0] RO (R446). -/
def NET_HBUF_ALLOC.BUF : Fld := ⟨0x6300C, 0, 11⟩
/-- NET_HBUF_FREE.BUF [10:0] WO (R446). -/
def NET_HBUF_FREE.BUF : Fld := ⟨0x63010, 0, 11⟩
/-- NET_BRCFG.PORTS [27:24] RW (R446). -/
def NET_BRCFG.PORTS : Fld := ⟨0x63014, 24, 4⟩
/-- NET_BRCFG.AGE [15:0] RW (R446). -/
def NET_BRCFG.AGE : Fld := ⟨0x63014, 0, 16⟩
/-- NET_RXMAP.RING0 [2:0] RW (R446). -/
def NET_RXMAP.RING0 : Fld := ⟨0x63018, 0, 3⟩
/-- NET_RXMAP.RING1 [5:3] RW (R446). -/
def NET_RXMAP.RING1 : Fld := ⟨0x63018, 3, 3⟩
/-- NET_RXMAP.RING2 [8:6] RW (R446). -/
def NET_RXMAP.RING2 : Fld := ⟨0x63018, 6, 3⟩
/-- NET_RXMAP.RING3 [11:9] RW (R446). -/
def NET_RXMAP.RING3 : Fld := ⟨0x63018, 9, 3⟩
/-- NET_RXMAP.RING4 [14:12] RW (R446). -/
def NET_RXMAP.RING4 : Fld := ⟨0x63018, 12, 3⟩
/-- NET_RXMAP.RING5 [17:15] RW (R446). -/
def NET_RXMAP.RING5 : Fld := ⟨0x63018, 15, 3⟩
/-- NET_RXMAP.RING6 [20:18] RW (R446). -/
def NET_RXMAP.RING6 : Fld := ⟨0x63018, 18, 3⟩
/-- NET_RXMAP.RING7 [23:21] RW (R446). -/
def NET_RXMAP.RING7 : Fld := ⟨0x63018, 21, 3⟩
/-- NET_RXBASE_LO.ADDR [31:6] RW (R447). -/
def NET_RXBASE_LO.ADDR (k : Nat) : Fld := ⟨0x62000 + k * 0x20, 6, 26⟩
/-- NET_TXBASE_LO.ADDR [31:6] RW (R447). -/
def NET_TXBASE_LO.ADDR (k : Nat) : Fld := ⟨0x62200 + k * 0x20, 6, 26⟩
/-- NET_RXBASE_HI.ADDR [31:0] RW (R447). -/
def NET_RXBASE_HI.ADDR (k : Nat) : Fld := ⟨0x62004 + k * 0x20, 0, 32⟩
/-- NET_TXBASE_HI.ADDR [31:0] RW (R447). -/
def NET_TXBASE_HI.ADDR (k : Nat) : Fld := ⟨0x62204 + k * 0x20, 0, 32⟩
/-- NET_RXLEN.LEN [12:0] RW (R447). -/
def NET_RXLEN.LEN (k : Nat) : Fld := ⟨0x62008 + k * 0x20, 0, 13⟩
/-- NET_TXLEN.LEN [12:0] RW (R447). -/
def NET_TXLEN.LEN (k : Nat) : Fld := ⟨0x62208 + k * 0x20, 0, 13⟩
/-- NET_RXHEAD.PTR [11:0] RO (R447). -/
def NET_RXHEAD.PTR (k : Nat) : Fld := ⟨0x6200C + k * 0x20, 0, 12⟩
/-- NET_TXHEAD.PTR [11:0] RO (R447). -/
def NET_TXHEAD.PTR (k : Nat) : Fld := ⟨0x6220C + k * 0x20, 0, 12⟩
/-- NET_RXTAIL.PTR [11:0] RW (R447). -/
def NET_RXTAIL.PTR (k : Nat) : Fld := ⟨0x62010 + k * 0x20, 0, 12⟩
/-- NET_TXTAIL.PTR [11:0] RW (R447). -/
def NET_TXTAIL.PTR (k : Nat) : Fld := ⟨0x62210 + k * 0x20, 0, 12⟩
/-- NET_RXCTRL.LENPEND [2] RO (R447). -/
def NET_RXCTRL.LENPEND (k : Nat) : Fld := ⟨0x62014 + k * 0x20, 2, 1⟩
/-- NET_TXCTRL.LENPEND [2] RO (R447). -/
def NET_TXCTRL.LENPEND (k : Nat) : Fld := ⟨0x62214 + k * 0x20, 2, 1⟩
/-- NET_RXCTRL.RESET [1] WO (R447). -/
def NET_RXCTRL.RESET (k : Nat) : Fld := ⟨0x62014 + k * 0x20, 1, 1⟩
/-- NET_TXCTRL.RESET [1] WO (R447). -/
def NET_TXCTRL.RESET (k : Nat) : Fld := ⟨0x62214 + k * 0x20, 1, 1⟩
/-- NET_RXCTRL.EN [0] RW (R447). -/
def NET_RXCTRL.EN (k : Nat) : Fld := ⟨0x62014 + k * 0x20, 0, 1⟩
/-- NET_TXCTRL.EN [0] RW (R447). -/
def NET_TXCTRL.EN (k : Nat) : Fld := ⟨0x62214 + k * 0x20, 0, 1⟩
/-- NET_CSEL.CTX [9:0] RW (R447). -/
def NET_CSEL.CTX : Fld := ⟨0x64000, 0, 10⟩
/-- NET_CSTAT.LOST [3] RO (R447). -/
def NET_CSTAT.LOST : Fld := ⟨0x64004, 3, 1⟩
/-- NET_CSTAT.ASRCLOCK [2] RO (R447). -/
def NET_CSTAT.ASRCLOCK : Fld := ⟨0x64004, 2, 1⟩
/-- NET_CSTAT.STATE [1:0] RO (R447). -/
def NET_CSTAT.STATE : Fld := ⟨0x64004, 0, 2⟩
/-- DL_CK.EN [31] RW (R477). -/
def DL_CK.EN (k : Nat) : Fld := ⟨0x70000 + k * 0x4, 31, 1⟩
/-- DL_CK.OSR [30] RW (R477). -/
def DL_CK.OSR (k : Nat) : Fld := ⟨0x70000 + k * 0x4, 30, 1⟩
/-- DL_LCFG.EN [31] RW (R477). -/
def DL_LCFG.EN (k : Nat) : Fld := ⟨0x70100 + k * 0x10, 31, 1⟩
/-- DL_LCFG.CK [30:29] RW (R477). -/
def DL_LCFG.CK (k : Nat) : Fld := ⟨0x70100 + k * 0x10, 29, 2⟩
/-- DL_LCFG.EDGE [28] RW (R477). -/
def DL_LCFG.EDGE (k : Nat) : Fld := ⟨0x70100 + k * 0x10, 28, 1⟩
/-- DL_LCFG.INV [27] RW (R477). -/
def DL_LCFG.INV (k : Nat) : Fld := ⟨0x70100 + k * 0x10, 27, 1⟩
/-- DL_LDLY.RANK [17:16] RWT (R477). -/
def DL_LDLY.RANK (k : Nat) : Fld := ⟨0x70104 + k * 0x10, 16, 2⟩
/-- DL_LDLY.DELAY [14:0] RWT (R477). -/
def DL_LDLY.DELAY (k : Nat) : Fld := ⟨0x70104 + k * 0x10, 0, 15⟩
/-- DL_LSTAT.STATE [31:30] RO (R477). -/
def DL_LSTAT.STATE (k : Nat) : Fld := ⟨0x70108 + k * 0x10, 30, 2⟩
/-- DL_LSTAT.UNSET [24:16] RO (R477). -/
def DL_LSTAT.UNSET (k : Nat) : Fld := ⟨0x70108 + k * 0x10, 16, 9⟩
/-- DL_LSTAT.LAT [15:0] RO (R477). -/
def DL_LSTAT.LAT (k : Nat) : Fld := ⟨0x70108 + k * 0x10, 0, 16⟩
/-- DL_LERR.LOSS [31:16] RC (R477). -/
def DL_LERR.LOSS (k : Nat) : Fld := ⟨0x7010C + k * 0x10, 16, 16⟩
/-- DL_LERR.CLIP [15:0] RC (R477). -/
def DL_LERR.CLIP (k : Nat) : Fld := ⟨0x7010C + k * 0x10, 0, 16⟩
/-- DL_MCTRL.EN [31] RW (R477). -/
def DL_MCTRL.EN : Fld := ⟨0x70400, 31, 1⟩
/-- DL_MCTRL.IE [30] RW (R477). -/
def DL_MCTRL.IE : Fld := ⟨0x70400, 30, 1⟩
/-- DL_MCTRL.COUNT [12:0] RW (R477). -/
def DL_MCTRL.COUNT : Fld := ⟨0x70400, 0, 13⟩
/-- DL_MSTAT.FSEQ [31:0] RO (R477). -/
def DL_MSTAT.FSEQ : Fld := ⟨0x70404, 0, 32⟩
/-- DL_RMSWIN.WN [12:8] RW (R477). -/
def DL_RMSWIN.WN (k : Nat) : Fld := ⟨0x70410 + k * 0x4, 8, 5⟩
/-- DL_RMSWIN.WG [6:0] RW (R477). -/
def DL_RMSWIN.WG (k : Nat) : Fld := ⟨0x70410 + k * 0x4, 0, 7⟩
/-- DL_ENVATT.COEF [30:0] RW (R477). -/
def DL_ENVATT.COEF (k : Nat) : Fld := ⟨0x70420 + k * 0x8, 0, 31⟩
/-- DL_ENVREL.COEF [30:0] RW (R477). -/
def DL_ENVREL.COEF (k : Nat) : Fld := ⟨0x70424 + k * 0x8, 0, 31⟩
/-- DL_MBASE_LO.ADDR [31:6] RW (R477). -/
def DL_MBASE_LO.ADDR : Fld := ⟨0x70440, 6, 26⟩
/-- DL_MBASE_HI.ADDR [31:0] RW (R477). -/
def DL_MBASE_HI.ADDR : Fld := ⟨0x70444, 0, 32⟩
/-- DL_MLEN.LEN [12:0] RW (R477). -/
def DL_MLEN.LEN : Fld := ⟨0x70448, 0, 13⟩
/-- DL_MWPTR.PTR [11:0] RO (R477). -/
def DL_MWPTR.PTR : Fld := ⟨0x7044C, 0, 12⟩
/-- DL_MRPTR.PTR [11:0] RW (R477). -/
def DL_MRPTR.PTR : Fld := ⟨0x70450, 0, 12⟩
/-- DL_MERR.DROP [31:0] RC (R477). -/
def DL_MERR.DROP : Fld := ⟨0x70454, 0, 32⟩
/-- DL_MSEL.POINT [11:0] RW (R477). -/
def DL_MSEL.POINT : Fld := ⟨0x70460, 0, 12⟩
/-- DL_MPT.DESC [31:0] RO (R477). -/
def DL_MPT.DESC : Fld := ⟨0x70464, 0, 32⟩
/-- CLK_CTRL.FORCE [31] RW (R525). -/
def CLK_CTRL.FORCE : Fld := ⟨0x10000, 31, 1⟩
/-- CLK_CTRL.FORCESEL [27:24] RW (R525). -/
def CLK_CTRL.FORCESEL : Fld := ⟨0x10000, 24, 4⟩
/-- CLK_CTRL.AUDIO_IN_ACQ [0] RW (R525). -/
def CLK_CTRL.AUDIO_IN_ACQ : Fld := ⟨0x10000, 0, 1⟩
/-- CLK_STAT.STATE [31:29] RO (R525). -/
def CLK_STAT.STATE : Fld := ⟨0x10004, 29, 3⟩
/-- CLK_STAT.SEL [28:25] RO (R525). -/
def CLK_STAT.SEL : Fld := ⟨0x10004, 25, 4⟩
/-- CLK_STAT.STEP [24:22] RO (R525). -/
def CLK_STAT.STEP : Fld := ⟨0x10004, 22, 3⟩
/-- CLK_STAT.SWITCHING [21] RO (R525). -/
def CLK_STAT.SWITCHING : Fld := ⟨0x10004, 21, 1⟩
/-- CLK_STAT.WTR [20] RO (R525). -/
def CLK_STAT.WTR : Fld := ⟨0x10004, 20, 1⟩
/-- CLK_STAT.ALIGNING [19] RO (R525). -/
def CLK_STAT.ALIGNING : Fld := ⟨0x10004, 19, 1⟩
/-- CLK_STAT.PTPGRID [18] RO (R525). -/
def CLK_STAT.PTPGRID : Fld := ⟨0x10004, 18, 1⟩
/-- CLK_STAT.CLAMP [17] RO (R525). -/
def CLK_STAT.CLAMP : Fld := ⟨0x10004, 17, 1⟩
/-- CLK_STAT.RINGFOLLOW [16] RO (R525). -/
def CLK_STAT.RINGFOLLOW : Fld := ⟨0x10004, 16, 1⟩
/-- CLK_STAT.WTRLEFT [11:0] RO (R525). -/
def CLK_STAT.WTRLEFT : Fld := ⟨0x10004, 0, 12⟩
/-- CLK_STEER.S [31:0] RO (R525). -/
def CLK_STEER.S : Fld := ⟨0x10008, 0, 32⟩
/-- CLK_PHASE.ERR [31:0] RO (R525). -/
def CLK_PHASE.ERR : Fld := ⟨0x1000C, 0, 32⟩
/-- CLK_QUALCFG.REJECT [31:24] RW (R525). -/
def CLK_QUALCFG.REJECT : Fld := ⟨0x10010, 24, 8⟩
/-- CLK_QUALCFG.ACCEPT [23:16] RW (R525). -/
def CLK_QUALCFG.ACCEPT : Fld := ⟨0x10010, 16, 8⟩
/-- CLK_QUALCFG.QTIME [12:0] RW (R525). -/
def CLK_QUALCFG.QTIME : Fld := ⟨0x10010, 0, 13⟩
/-- CLK_SWCFG.WTR [31:20] RW (R525). -/
def CLK_SWCFG.WTR : Fld := ⟨0x10014, 20, 12⟩
/-- CLK_SWCFG.BUFWIN [15:8] RW (R525). -/
def CLK_SWCFG.BUFWIN : Fld := ⟨0x10014, 8, 8⟩
/-- CLK_SWCFG.BOTIME [7:0] RW (R525). -/
def CLK_SWCFG.BOTIME : Fld := ⟨0x10014, 0, 8⟩
/-- CLK_LOOP.SLEW [31:24] RW (R525). -/
def CLK_LOOP.SLEW : Fld := ⟨0x10018, 24, 8⟩
/-- CLK_LOOP.ALIGNSLEW [23:16] RW (R525). -/
def CLK_LOOP.ALIGNSLEW : Fld := ⟨0x10018, 16, 8⟩
/-- CLK_LOOP.PTPWIN [13:0] RW (R525). -/
def CLK_LOOP.PTPWIN : Fld := ⟨0x10018, 0, 14⟩
/-- CLK_LOCKWIN.PTP [31:16] RW (R525). -/
def CLK_LOCKWIN.PTP : Fld := ⟨0x1001C, 16, 16⟩
/-- CLK_LOCKWIN.WC [15:0] RW (R525). -/
def CLK_LOCKWIN.WC : Fld := ⟨0x1001C, 0, 16⟩
/-- CLK_HOLDCFG.EN [31] RW (R525). -/
def CLK_HOLDCFG.EN : Fld := ⟨0x10020, 31, 1⟩
/-- CLK_HOLDCFG.MINENT [25:20] RW (R525). -/
def CLK_HOLDCFG.MINENT : Fld := ⟨0x10020, 20, 6⟩
/-- CLK_HOLDCFG.LIMIT [19:0] RW (R525). -/
def CLK_HOLDCFG.LIMIT : Fld := ⟨0x10020, 0, 20⟩
/-- CLK_HOLDSTAT.ENTRIES [31:26] RO (R525). -/
def CLK_HOLDSTAT.ENTRIES : Fld := ⟨0x10024, 26, 6⟩
/-- CLK_HOLDSTAT.ELAPSED [19:0] RO (R525). -/
def CLK_HOLDSTAT.ELAPSED : Fld := ⟨0x10024, 0, 20⟩
/-- CLK_HOLDAVG.S [31:0] RO (R525). -/
def CLK_HOLDAVG.S : Fld := ⟨0x10028, 0, 32⟩
/-- CLK_BUILDOUT.B [31:0] RO (R525). -/
def CLK_BUILDOUT.B : Fld := ⟨0x1002C, 0, 32⟩
/-- CLK_TEMP.U [15:0] RO (R525). -/
def CLK_TEMP.U : Fld := ⟨0x10030, 0, 16⟩
/-- CLK_TREF.U [15:0] RW (R525). -/
def CLK_TREF.U : Fld := ⟨0x10034, 0, 16⟩
/-- CLK_TC1.C [31:0] RW (R525). -/
def CLK_TC1.C : Fld := ⟨0x10038, 0, 32⟩
/-- CLK_TC2.C [31:0] RW (R525). -/
def CLK_TC2.C : Fld := ⟨0x1003C, 0, 32⟩
/-- CLK_TC3.C [31:0] RW (R525). -/
def CLK_TC3.C : Fld := ⟨0x10040, 0, 32⟩
/-- CLK_AGE.A [31:0] RW (R525). -/
def CLK_AGE.A : Fld := ⟨0x10044, 0, 32⟩
/-- CLK_MCLK.EN [31] RW (R525). -/
def CLK_MCLK.EN : Fld := ⟨0x10048, 31, 1⟩
/-- CLK_MCLK.SEL [30] RW (R525). -/
def CLK_MCLK.SEL : Fld := ⟨0x10048, 30, 1⟩
/-- CLK_CAND.EN [31] RW (R526). -/
def CLK_CAND.EN (k : Nat) : Fld := ⟨0x10100 + k * 0x10, 31, 1⟩
/-- CLK_CAND.QSRC [30] RW (R526). -/
def CLK_CAND.QSRC (k : Nat) : Fld := ⟨0x10100 + k * 0x10, 30, 1⟩
/-- CLK_CAND.ALIGN [29] RW (R526). -/
def CLK_CAND.ALIGN (k : Nat) : Fld := ⟨0x10100 + k * 0x10, 29, 1⟩
/-- CLK_CAND.NOMRATE [28:27] RW (R526). -/
def CLK_CAND.NOMRATE (k : Nat) : Fld := ⟨0x10100 + k * 0x10, 27, 2⟩
/-- CLK_CAND.PRIO [23:20] RW (R526). -/
def CLK_CAND.PRIO (k : Nat) : Fld := ⟨0x10100 + k * 0x10, 20, 4⟩
/-- CLK_CAND.QCFG [19:12] RW (R526). -/
def CLK_CAND.QCFG (k : Nat) : Fld := ⟨0x10100 + k * 0x10, 12, 8⟩
/-- CLK_CAND.SRC [9:0] RW (R526). -/
def CLK_CAND.SRC (k : Nat) : Fld := ⟨0x10100 + k * 0x10, 0, 10⟩
/-- CLK_CANDST.QUAL [31] RO (R526). -/
def CLK_CANDST.QUAL (k : Nat) : Fld := ⟨0x10104 + k * 0x10, 31, 1⟩
/-- CLK_CANDST.ACTIVE [30] RO (R526). -/
def CLK_CANDST.ACTIVE (k : Nat) : Fld := ⟨0x10104 + k * 0x10, 30, 1⟩
/-- CLK_CANDST.DRIFT [29] RO (R526). -/
def CLK_CANDST.DRIFT (k : Nat) : Fld := ⟨0x10104 + k * 0x10, 29, 1⟩
/-- CLK_CANDST.QUALIFYING [28] RO (R526). -/
def CLK_CANDST.QUALIFYING (k : Nat) : Fld := ⟨0x10104 + k * 0x10, 28, 1⟩
/-- CLK_CANDST.Q [27:20] RO (R526). -/
def CLK_CANDST.Q (k : Nat) : Fld := ⟨0x10104 + k * 0x10, 20, 8⟩
/-- CLK_CANDST.QLEFT [12:0] RO (R526). -/
def CLK_CANDST.QLEFT (k : Nat) : Fld := ⟨0x10104 + k * 0x10, 0, 13⟩
/-- CLK_CANDF.PPM [31:0] RO (R526). -/
def CLK_CANDF.PPM (k : Nat) : Fld := ⟨0x10108 + k * 0x10, 0, 32⟩
/-- CLK_CANDE.DISQ [31:16] RC (R526). -/
def CLK_CANDE.DISQ (k : Nat) : Fld := ⟨0x1010C + k * 0x10, 16, 16⟩
/-- CLK_CANDE.DRIFTW [15:0] RC (R526). -/
def CLK_CANDE.DRIFTW (k : Nat) : Fld := ⟨0x1010C + k * 0x10, 0, 16⟩
/-- PTP_CFG.ENABLE [31] RW (R569). -/
def PTP_CFG.ENABLE : Fld := ⟨0x20000, 31, 1⟩
/-- PTP_CFG.ROLE [30:29] RW (R569). -/
def PTP_CFG.ROLE : Fld := ⟨0x20000, 29, 2⟩
/-- PTP_CFG.PROFILE [28:27] RW (R569). -/
def PTP_CFG.PROFILE : Fld := ⟨0x20000, 27, 2⟩
/-- PTP_CFG.TRANSPORT [26:25] RW (R569). -/
def PTP_CFG.TRANSPORT : Fld := ⟨0x20000, 25, 2⟩
/-- PTP_CFG.TWOSTEP [24] RW (R569). -/
def PTP_CFG.TWOSTEP : Fld := ⟨0x20000, 24, 1⟩
/-- PTP_CFG.PORT [23:22] RW (R569). -/
def PTP_CFG.PORT : Fld := ⟨0x20000, 22, 2⟩
/-- PTP_CFG.DOMAIN [15:8] RW (R569). -/
def PTP_CFG.DOMAIN : Fld := ⟨0x20000, 8, 8⟩
/-- PTP_INTV.LOGANN [31:28] RW (R569). -/
def PTP_INTV.LOGANN : Fld := ⟨0x20004, 28, 4⟩
/-- PTP_INTV.LOGSYNC [27:24] RW (R569). -/
def PTP_INTV.LOGSYNC : Fld := ⟨0x20004, 24, 4⟩
/-- PTP_INTV.LOGDREQ [23:20] RW (R569). -/
def PTP_INTV.LOGDREQ : Fld := ⟨0x20004, 20, 4⟩
/-- PTP_INTV.ANNTO [19:16] RW (R569). -/
def PTP_INTV.ANNTO : Fld := ⟨0x20004, 16, 4⟩
/-- PTP_DS.PRIO1 [31:24] RW (R569). -/
def PTP_DS.PRIO1 : Fld := ⟨0x20008, 24, 8⟩
/-- PTP_DS.PRIO2 [23:16] RW (R569). -/
def PTP_DS.PRIO2 : Fld := ⟨0x20008, 16, 8⟩
/-- PTP_DS.CLASS [15:8] RW (R569). -/
def PTP_DS.CLASS : Fld := ⟨0x20008, 8, 8⟩
/-- PTP_DS.ACCURACY [7:0] RW (R569). -/
def PTP_DS.ACCURACY : Fld := ⟨0x20008, 0, 8⟩
/-- PTP_DS2.VARIANCE [31:16] RW (R569). -/
def PTP_DS2.VARIANCE : Fld := ⟨0x2000C, 16, 16⟩
/-- PTP_DS2.HOLDCLASS [15:8] RW (R569). -/
def PTP_DS2.HOLDCLASS : Fld := ⟨0x2000C, 8, 8⟩
/-- PTP_DS2.FREECLASS [7:0] RW (R569). -/
def PTP_DS2.FREECLASS : Fld := ⟨0x2000C, 0, 8⟩
/-- PTP_STAT.TVALID [31] RO (R569). -/
def PTP_STAT.TVALID : Fld := ⟨0x20010, 31, 1⟩
/-- PTP_STAT.SERVOVALID [30] RO (R569). -/
def PTP_STAT.SERVOVALID : Fld := ⟨0x20010, 30, 1⟩
/-- PTP_STAT.ARR [29] RO (R569). -/
def PTP_STAT.ARR : Fld := ⟨0x20010, 29, 1⟩
/-- PTP_STAT.RINGTIME [28] RO (R569). -/
def PTP_STAT.RINGTIME : Fld := ⟨0x20010, 28, 1⟩
/-- PTP_STAT.PORTSTATE [27:24] RO (R569). -/
def PTP_STAT.PORTSTATE : Fld := ⟨0x20010, 24, 4⟩
/-- PTP_SERVO.STEPTH [31:16] RW (R569). -/
def PTP_SERVO.STEPTH : Fld := ⟨0x20014, 16, 16⟩
/-- PTP_SERVO.VALIDN [15:8] RW (R569). -/
def PTP_SERVO.VALIDN : Fld := ⟨0x20014, 8, 8⟩
/-- PTP_SERVO2.ADJRATE [31:16] RW (R569). -/
def PTP_SERVO2.ADJRATE : Fld := ⟨0x20018, 16, 16⟩
/-- PTP_SERVO2.PDWIN [15:8] RW (R569). -/
def PTP_SERVO2.PDWIN : Fld := ⟨0x20018, 8, 8⟩
/-- PTP_SERVO2.BW [7:0] RW (R569). -/
def PTP_SERVO2.BW : Fld := ⟨0x20018, 0, 8⟩
/-- PTP_TIME0.NS [31:0] RO (R569). -/
def PTP_TIME0.NS : Fld := ⟨0x20020, 0, 32⟩
/-- PTP_SHOT0.NS [31:0] RO (R569). -/
def PTP_SHOT0.NS : Fld := ⟨0x20040, 0, 32⟩
/-- PTP_TIME1.SEC [31:0] RO (R569). -/
def PTP_TIME1.SEC : Fld := ⟨0x20024, 0, 32⟩
/-- PTP_SHOT1.SEC [31:0] RO (R569). -/
def PTP_SHOT1.SEC : Fld := ⟨0x20044, 0, 32⟩
/-- PTP_TIME2.SEC [15:0] RO (R569). -/
def PTP_TIME2.SEC : Fld := ⟨0x20028, 0, 16⟩
/-- PTP_SHOT2.SEC [15:0] RO (R569). -/
def PTP_SHOT2.SEC : Fld := ⟨0x20048, 0, 16⟩
/-- PTP_INC_NS.NS [3:0] RW (R569). -/
def PTP_INC_NS.NS : Fld := ⟨0x2002C, 0, 4⟩
/-- PTP_INC_FRAC.FRAC [31:0] RW (R569). -/
def PTP_INC_FRAC.FRAC : Fld := ⟨0x20030, 0, 32⟩
/-- PTP_OFFSET.THETA [31:0] RO (R569). -/
def PTP_OFFSET.THETA : Fld := ⟨0x20034, 0, 32⟩
/-- PTP_MPD.DELAY [31:0] RO (R569). -/
def PTP_MPD.DELAY : Fld := ⟨0x20038, 0, 32⟩
/-- PTP_GMID_LO.ID [31:0] RO (R569). -/
def PTP_GMID_LO.ID : Fld := ⟨0x20050, 0, 32⟩
/-- PTP_GMID_HI.ID [31:0] RO (R569). -/
def PTP_GMID_HI.ID : Fld := ⟨0x20054, 0, 32⟩
/-- PTP_GMQ.CLASS [31:24] RO (R569). -/
def PTP_GMQ.CLASS : Fld := ⟨0x20058, 24, 8⟩
/-- PTP_GMQ.ACCURACY [23:16] RO (R569). -/
def PTP_GMQ.ACCURACY : Fld := ⟨0x20058, 16, 8⟩
/-- PTP_GMQ.VARIANCE [15:0] RO (R569). -/
def PTP_GMQ.VARIANCE : Fld := ⟨0x20058, 0, 16⟩
/-- PTP_UTC.VALID [31] RO (R569). -/
def PTP_UTC.VALID : Fld := ⟨0x2005C, 31, 1⟩
/-- PTP_UTC.OFFSET [15:0] RW (R569). -/
def PTP_UTC.OFFSET : Fld := ⟨0x2005C, 0, 16⟩
/-- PTP_TCCFG.EN [31] RW (R569). -/
def PTP_TCCFG.EN : Fld := ⟨0x20060, 31, 1⟩
/-- PTP_TCCFG.PORTS [3:0] RW (R569). -/
def PTP_TCCFG.PORTS : Fld := ⟨0x20060, 0, 4⟩
/-- PTP_EVT.STEPS [31:24] RC (R569). -/
def PTP_EVT.STEPS : Fld := ⟨0x20064, 24, 8⟩
/-- PTP_EVT.MASTERCHG [23:16] RC (R569). -/
def PTP_EVT.MASTERCHG : Fld := ⟨0x20064, 16, 8⟩
/-- PTP_EVT.VALIDLOSS [15:8] RC (R569). -/
def PTP_EVT.VALIDLOSS : Fld := ⟨0x20064, 8, 8⟩
/-- PTP_TCERR.DROP [31:16] RC (R569). -/
def PTP_TCERR.DROP : Fld := ⟨0x20068, 16, 16⟩
/-- PTP_TCERR.NOCORR [15:8] RC (R569). -/
def PTP_TCERR.NOCORR : Fld := ⟨0x20068, 8, 8⟩
/-- PTP_TCERR.PDELAY [7:0] RC (R569). -/
def PTP_TCERR.PDELAY : Fld := ⟨0x20068, 0, 8⟩
/-- PTP_PCOMP_IN.NS [15:0] RW (R569). -/
def PTP_PCOMP_IN.NS (k : Nat) : Fld := ⟨0x20080 + k * 0x8, 0, 16⟩
/-- PTP_PCOMP_EG.NS [15:0] RW (R569). -/
def PTP_PCOMP_EG.NS (k : Nat) : Fld := ⟨0x20084 + k * 0x8, 0, 16⟩
/-- CLP_TCFG.EN [31] RW (R570). -/
def CLP_TCFG.EN (k : Nat) : Fld := ⟨0x20400 + k * 0x20, 31, 1⟩
/-- CLP_TCFG.ACTION [30:28] RW (R570). -/
def CLP_TCFG.ACTION (k : Nat) : Fld := ⟨0x20400 + k * 0x20, 28, 3⟩
/-- CLP_TCFG.PIN [27:23] RW (R570). -/
def CLP_TCFG.PIN (k : Nat) : Fld := ⟨0x20400 + k * 0x20, 23, 5⟩
/-- CLP_TCFG.OP [22:20] RW (R570). -/
def CLP_TCFG.OP (k : Nat) : Fld := ⟨0x20400 + k * 0x20, 20, 3⟩
/-- CLP_TCFG.PERIODIC [19] RW (R570). -/
def CLP_TCFG.PERIODIC (k : Nat) : Fld := ⟨0x20400 + k * 0x20, 19, 1⟩
/-- CLP_TCFG.IE [18] RW (R570). -/
def CLP_TCFG.IE (k : Nat) : Fld := ⟨0x20400 + k * 0x20, 18, 1⟩
/-- CLP_TCFG.WIDTH [15:0] RW (R570). -/
def CLP_TCFG.WIDTH (k : Nat) : Fld := ⟨0x20400 + k * 0x20, 0, 16⟩
/-- CLP_TT0.NS [31:0] RW (R570). -/
def CLP_TT0.NS (k : Nat) : Fld := ⟨0x20404 + k * 0x20, 0, 32⟩
/-- CLP_TT1.SEC [31:0] RW (R570). -/
def CLP_TT1.SEC (k : Nat) : Fld := ⟨0x20408 + k * 0x20, 0, 32⟩
/-- CLP_TT2.SEC [15:0] RW (R570). -/
def CLP_TT2.SEC (k : Nat) : Fld := ⟨0x2040C + k * 0x20, 0, 16⟩
/-- CLP_TPER.NS [31:0] RW (R570). -/
def CLP_TPER.NS (k : Nat) : Fld := ⟨0x20410 + k * 0x20, 0, 32⟩
/-- CLP_TPERF.FRAC [31:0] RW (R570). -/
def CLP_TPERF.FRAC (k : Nat) : Fld := ⟨0x20414 + k * 0x20, 0, 32⟩
/-- CLP_TCNT.COUNT [31:0] RW (R570). -/
def CLP_TCNT.COUNT (k : Nat) : Fld := ⟨0x20418 + k * 0x20, 0, 32⟩
/-- CLP_TSTAT.STATE [31:30] RO (R570). -/
def CLP_TSTAT.STATE (k : Nat) : Fld := ⟨0x2041C + k * 0x20, 30, 2⟩
/-- CLP_TSTAT.MISSED [23:16] RC (R570). -/
def CLP_TSTAT.MISSED (k : Nat) : Fld := ⟨0x2041C + k * 0x20, 16, 8⟩
/-- CLP_TSTAT.FIRED [15:0] RC (R570). -/
def CLP_TSTAT.FIRED (k : Nat) : Fld := ⟨0x2041C + k * 0x20, 0, 16⟩
/-- CLP_CCFG.EN [31] RW (R570). -/
def CLP_CCFG.EN (k : Nat) : Fld := ⟨0x20800 + k * 0x20, 31, 1⟩
/-- CLP_CCFG.EDGE [30:29] RW (R570). -/
def CLP_CCFG.EDGE (k : Nat) : Fld := ⟨0x20800 + k * 0x20, 29, 2⟩
/-- CLP_CCFG.IE [28] RW (R570). -/
def CLP_CCFG.IE (k : Nat) : Fld := ⟨0x20800 + k * 0x20, 28, 1⟩
/-- CLP_CCFG.SRC [4:0] RW (R570). -/
def CLP_CCFG.SRC (k : Nat) : Fld := ⟨0x20800 + k * 0x20, 0, 5⟩
/-- CLP_CSTAT.LEVEL [12:8] RO (R570). -/
def CLP_CSTAT.LEVEL (k : Nat) : Fld := ⟨0x20804 + k * 0x20, 8, 5⟩
/-- CLP_CSTAT.OVF [7:0] RC (R570). -/
def CLP_CSTAT.OVF (k : Nat) : Fld := ⟨0x20804 + k * 0x20, 0, 8⟩
/-- CLP_CTS0.NS [31:0] RO (R570). -/
def CLP_CTS0.NS (k : Nat) : Fld := ⟨0x20808 + k * 0x20, 0, 32⟩
/-- CLP_CTS1.SEC [31:0] RO (R570). -/
def CLP_CTS1.SEC (k : Nat) : Fld := ⟨0x2080C + k * 0x20, 0, 32⟩
/-- CLP_CTS2.VALID [31] RO (R570). -/
def CLP_CTS2.VALID (k : Nat) : Fld := ⟨0x20810 + k * 0x20, 31, 1⟩
/-- CLP_CTS2.FALL [16] RO (R570). -/
def CLP_CTS2.FALL (k : Nat) : Fld := ⟨0x20810 + k * 0x20, 16, 1⟩
/-- CLP_CTS2.SEC [15:0] RO (R570). -/
def CLP_CTS2.SEC (k : Nat) : Fld := ⟨0x20810 + k * 0x20, 0, 16⟩
/-- CLP_CLAIM.TRIG [31:0] RO (R570). -/
def CLP_CLAIM.TRIG : Fld := ⟨0x20C00, 0, 32⟩
/-- CLP_CLAIMC.CAP [15:0] RO (R570). -/
def CLP_CLAIMC.CAP : Fld := ⟨0x20C04, 0, 16⟩
/-- FAB_CTRL.SLICE_DDR [31] RW (R612). -/
def FAB_CTRL.SLICE_DDR : Fld := ⟨0x80000, 31, 1⟩
/-- FAB_CTRL.SLICE_PCIE [30] RW (R612). -/
def FAB_CTRL.SLICE_PCIE : Fld := ⟨0x80000, 30, 1⟩
/-- FAB_CTRL.BEWAIT [11:0] RW (R612). -/
def FAB_CTRL.BEWAIT : Fld := ⟨0x80000, 0, 12⟩
/-- FAB_CREDIT.FREE [24:16] RO (R612). -/
def FAB_CREDIT.FREE : Fld := ⟨0x80004, 16, 9⟩
/-- FAB_CREDIT.INUSE [8:0] RO (R612). -/
def FAB_CREDIT.INUSE : Fld := ⟨0x80004, 0, 9⟩
/-- FAB_XRESET.COUNT [15:0] RC (R612). -/
def FAB_XRESET.COUNT : Fld := ⟨0x80008, 0, 16⟩
/-- FAB_TBUSY.CYC [31:0] RC (R612). -/
def FAB_TBUSY.CYC (k : Nat) : Fld := ⟨0x80040 + k * 0x4, 0, 32⟩
/-- MEM_ECC.UNCORR [31:16] RC (R612). -/
def MEM_ECC.UNCORR : Fld := ⟨0x80100, 16, 16⟩
/-- MEM_ECC.CORR [15:0] RC (R612). -/
def MEM_ECC.CORR : Fld := ⟨0x80100, 0, 16⟩
/-- MEM_ECCADDR.INST [25:16] RO (R612). -/
def MEM_ECCADDR.INST : Fld := ⟨0x80104, 16, 10⟩
/-- MEM_ECCADDR.ROW [15:0] RO (R612). -/
def MEM_ECCADDR.ROW : Fld := ⟨0x80104, 0, 16⟩
/-- MEM_CONFLICT.STALLS [31:0] RC (R612). -/
def MEM_CONFLICT.STALLS : Fld := ⟨0x80108, 0, 32⟩
/-- MEM_WWCOL.COUNT [15:0] RC (R612). -/
def MEM_WWCOL.COUNT : Fld := ⟨0x8010C, 0, 16⟩
/-- DDR_CFG.EN [31] RW (R612). -/
def DDR_CFG.EN : Fld := ⟨0x80200, 31, 1⟩
/-- DDR_CFG.SIZE [30:28] RW (R612). -/
def DDR_CFG.SIZE : Fld := ⟨0x80200, 28, 3⟩
/-- DDR_CFG.RANKS [27] RW (R612). -/
def DDR_CFG.RANKS : Fld := ⟨0x80200, 27, 1⟩
/-- DDR_CFG.LECC [26] RW (R612). -/
def DDR_CFG.LECC : Fld := ⟨0x80200, 26, 1⟩
/-- DDR_CFG.SPEED [25:24] RW (R612). -/
def DDR_CFG.SPEED : Fld := ⟨0x80200, 24, 2⟩
/-- DDR_STAT.READY [31] RO (R612). -/
def DDR_STAT.READY : Fld := ⟨0x80204, 31, 1⟩
/-- DDR_STAT.TRAINFAIL [30] RO (R612). -/
def DDR_STAT.TRAINFAIL : Fld := ⟨0x80204, 30, 1⟩
/-- DDR_STAT.RETRAINS [15:0] RC (R612). -/
def DDR_STAT.RETRAINS : Fld := ⟨0x80204, 0, 16⟩
/-- DDR_LATMAX.CYC [15:0] RC (R612). -/
def DDR_LATMAX.CYC : Fld := ⟨0x80208, 0, 16⟩
/-- MRAM_CFG.WEARLIM [17:0] RW (R612). -/
def MRAM_CFG.WEARLIM : Fld := ⟨0x80300, 0, 18⟩
/-- MRAM_STAT.BUSY [31] RO (R612). -/
def MRAM_STAT.BUSY : Fld := ⟨0x80304, 31, 1⟩
/-- MRAM_STAT.SPARES [6:0] RO (R612). -/
def MRAM_STAT.SPARES : Fld := ⟨0x80304, 0, 7⟩
/-- MRAM_WSEL.ROW [11:0] RW (R612). -/
def MRAM_WSEL.ROW : Fld := ⟨0x80308, 0, 12⟩
/-- MRAM_WEAR_LO.COUNT [31:0] RO (R612). -/
def MRAM_WEAR_LO.COUNT : Fld := ⟨0x8030C, 0, 32⟩
/-- MRAM_WEAR_HI.COUNT [7:0] RO (R612). -/
def MRAM_WEAR_HI.COUNT : Fld := ⟨0x80310, 0, 8⟩
/-- REP_STAT.COPY [31] RO (R612). -/
def REP_STAT.COPY : Fld := ⟨0x80400, 31, 1⟩
/-- REP_STAT.PENDING [27:16] RO (R612). -/
def REP_STAT.PENDING : Fld := ⟨0x80400, 16, 12⟩
/-- REP_STAT.ENTRIES [11:0] RO (R612). -/
def REP_STAT.ENTRIES : Fld := ⟨0x80400, 0, 12⟩
/-- MEM_CLAIMSEL.SPACE [31:30] RW (R612). -/
def MEM_CLAIMSEL.SPACE : Fld := ⟨0x80500, 30, 2⟩
/-- MEM_CLAIMSEL.INDEX [11:0] RW (R612). -/
def MEM_CLAIMSEL.INDEX : Fld := ⟨0x80500, 0, 12⟩
/-- MEM_CLAIM.VALID [31] RO (R612). -/
def MEM_CLAIM.VALID : Fld := ⟨0x80504, 31, 1⟩
/-- MEM_CLAIM.OWNER [30:28] RO (R612). -/
def MEM_CLAIM.OWNER : Fld := ⟨0x80504, 28, 3⟩
/-- MEM_CLAIM.ID [27:16] RO (R612). -/
def MEM_CLAIM.ID : Fld := ⟨0x80504, 16, 12⟩
/-- MEM_CLAIMBASE.BASE [31:0] RO (R612). -/
def MEM_CLAIMBASE.BASE : Fld := ⟨0x80508, 0, 32⟩
/-- MEM_CLAIMLEN.LEN [31:0] RO (R612). -/
def MEM_CLAIMLEN.LEN : Fld := ⟨0x8050C, 0, 32⟩
/-- CMD_CTRL.SPI_EN [2] RW (R655). -/
def CMD_CTRL.SPI_EN : Fld := ⟨0xD0000, 2, 1⟩
/-- CMD_CTRL.UDP_EN [1] RW (R655). -/
def CMD_CTRL.UDP_EN : Fld := ⟨0xD0000, 1, 1⟩
/-- CMD_CTRL.RINGS_EN [0] RW (R655). -/
def CMD_CTRL.RINGS_EN : Fld := ⟨0xD0000, 0, 1⟩
/-- CMD_STAT.PWIN [31] RO (R655). -/
def CMD_STAT.PWIN : Fld := ⟨0xD0004, 31, 1⟩
/-- CMD_STAT.SEALED [30] RO (R655). -/
def CMD_STAT.SEALED : Fld := ⟨0xD0004, 30, 1⟩
/-- CMD_STAT.LONGOP [29] RO (R655). -/
def CMD_STAT.LONGOP : Fld := ⟨0xD0004, 29, 1⟩
/-- CMD_STAT.LINKUP [28] RO (R655). -/
def CMD_STAT.LINKUP : Fld := ⟨0xD0004, 28, 1⟩
/-- CMD_STAT.PLEFT [8:0] RO (R655). -/
def CMD_STAT.PLEFT : Fld := ⟨0xD0004, 0, 9⟩
/-- CMD_RING_BASE_LO.ADDR [31:6] RW (R655). -/
def CMD_RING_BASE_LO.ADDR (k : Nat) : Fld := ⟨0xD0010 + k * 0x20, 6, 26⟩
/-- CMD_RING_BASE_HI.ADDR [31:0] RW (R655). -/
def CMD_RING_BASE_HI.ADDR (k : Nat) : Fld := ⟨0xD0014 + k * 0x20, 0, 32⟩
/-- CMD_RING_LEN.LEN [12:0] RW (R655). -/
def CMD_RING_LEN.LEN (k : Nat) : Fld := ⟨0xD0018 + k * 0x20, 0, 13⟩
/-- CMD_RING_DEVPTR.PTR [11:0] RO (R655). -/
def CMD_RING_DEVPTR.PTR (k : Nat) : Fld := ⟨0xD001C + k * 0x20, 0, 12⟩
/-- CMD_RING_HOSTPTR.PTR [11:0] RW (R655). -/
def CMD_RING_HOSTPTR.PTR (k : Nat) : Fld := ⟨0xD0020 + k * 0x20, 0, 12⟩
/-- CMD_WB_LO.ADDR [31:6] RW (R655). -/
def CMD_WB_LO.ADDR : Fld := ⟨0xD0070, 6, 26⟩
/-- CMD_WB_HI.ADDR [31:0] RW (R655). -/
def CMD_WB_HI.ADDR : Fld := ⟨0xD0074, 0, 32⟩
/-- CMD_RCTRL.LENPEND [2:0] RO (R655). -/
def CMD_RCTRL.LENPEND : Fld := ⟨0xD0078, 0, 3⟩
/-- CMD_DDRWIN.BASE [4:0] RW (R655). -/
def CMD_DDRWIN.BASE : Fld := ⟨0xD0080, 0, 5⟩
/-- CMD_UDP.PORT [15:0] RW (R655). -/
def CMD_UDP.PORT : Fld := ⟨0xD0084, 0, 16⟩
/-- CMD_ISTAT.SRC [31:0] Per R652 (R655). -/
def CMD_ISTAT.SRC : Fld := ⟨0xD0090, 0, 32⟩
/-- CMD_IEN.EN [31:0] RW (R655). -/
def CMD_IEN.EN : Fld := ⟨0xD0094, 0, 32⟩
/-- CMD_INTNEN.EN [31:0] RW (R655). -/
def CMD_INTNEN.EN : Fld := ⟨0xD0098, 0, 32⟩
/-- CMD_SPPEND_LO.P [31:0] W1C (R655). -/
def CMD_SPPEND_LO.P : Fld := ⟨0xD00A0, 0, 32⟩
/-- CMD_SPPEND_HI.P [31:0] W1C (R655). -/
def CMD_SPPEND_HI.P : Fld := ⟨0xD00A4, 0, 32⟩
/-- CMD_ERR.DESC [31:16] RC (R655). -/
def CMD_ERR.DESC : Fld := ⟨0xD00B0, 16, 16⟩
/-- CMD_ERR.GAP [15:0] RC (R655). -/
def CMD_ERR.GAP : Fld := ⟨0xD00B0, 0, 16⟩
/-- CMD_DROP.NR [31:24] RC (R655). -/
def CMD_DROP.NR : Fld := ⟨0xD00B4, 24, 8⟩
/-- CMD_DROP.UDP [23:16] RC (R655). -/
def CMD_DROP.UDP : Fld := ⟨0xD00B4, 16, 8⟩
/-- CMD_DROP.SPI [15:8] RC (R655). -/
def CMD_DROP.SPI : Fld := ⟨0xD00B4, 8, 8⟩
/-- CMD_HSEQ.E [31:0] RO (R655). -/
def CMD_HSEQ.E (k : Nat) : Fld := ⟨0xD00C0 + k * 0x4, 0, 32⟩
/-- CMD_DSEQ.SEQ [31:0] RO (R655). -/
def CMD_DSEQ.SEQ (k : Nat) : Fld := ⟨0xD00D0 + k * 0x4, 0, 32⟩
/-- FLT_STICKY.BITS [31:0] W1C (R675). -/
def FLT_STICKY.BITS (k : Nat) : Fld := ⟨0x90000 + k * 0x4, 0, 32⟩
/-- FLT_FIRST.VALID [31] W1C (R675). -/
def FLT_FIRST.VALID : Fld := ⟨0x90040, 31, 1⟩
/-- FLT_FIRST.INJ [30] RO (R675). -/
def FLT_FIRST.INJ : Fld := ⟨0x90040, 30, 1⟩
/-- FLT_FIRST.SEV [29:28] RO (R675). -/
def FLT_FIRST.SEV : Fld := ⟨0x90040, 28, 2⟩
/-- FLT_FIRST.KIND [27:24] RO (R675). -/
def FLT_FIRST.KIND : Fld := ⟨0x90040, 24, 4⟩
/-- FLT_FIRST.SRC [23:16] RO (R675). -/
def FLT_FIRST.SRC : Fld := ⟨0x90040, 16, 8⟩
/-- FLT_FIRST.ALSO [15:0] RO (R675). -/
def FLT_FIRST.ALSO : Fld := ⟨0x90040, 0, 16⟩
/-- FLT_FIRST_ADDR.ADDR [31:0] RO (R675). -/
def FLT_FIRST_ADDR.ADDR : Fld := ⟨0x90044, 0, 32⟩
/-- FLT_FIRST_SHOT.SHOT [31:0] RO (R675). -/
def FLT_FIRST_SHOT.SHOT : Fld := ⟨0x90048, 0, 32⟩
/-- FLT_FIRST_SEC.SEC [31:0] RO (R675). -/
def FLT_FIRST_SEC.SEC : Fld := ⟨0x9004C, 0, 32⟩
/-- FLT_STAT.QLEVEL [22:16] RO (R675). -/
def FLT_STAT.QLEVEL : Fld := ⟨0x90050, 16, 7⟩
/-- FLT_STAT.QLOST [15:0] RC (R675). -/
def FLT_STAT.QLOST : Fld := ⟨0x90050, 0, 16⟩
/-- FLT_INJECT.SRC [23:16] WO (R675). -/
def FLT_INJECT.SRC : Fld := ⟨0x90054, 16, 8⟩
/-- FLT_INJECT.KIND [11:8] WO (R675). -/
def FLT_INJECT.KIND : Fld := ⟨0x90054, 8, 4⟩
/-- FLT_INJADDR.ADDR [31:0] RW (R675). -/
def FLT_INJADDR.ADDR : Fld := ⟨0x90058, 0, 32⟩
/-- FLT_COUNT.COUNT [31:0] RC (R675). -/
def FLT_COUNT.COUNT : Fld := ⟨0x9005C, 0, 32⟩
/-- FLT_CFG.FIXED [31] RO (R675). -/
def FLT_CFG.FIXED (k : Nat) : Fld := ⟨0x90400 + k * 0x4, 31, 1⟩
/-- FLT_CFG.RSVD [30] RO (R675). -/
def FLT_CFG.RSVD (k : Nat) : Fld := ⟨0x90400 + k * 0x4, 30, 1⟩
/-- FLT_CFG.REACT [5:4] RW (R675). -/
def FLT_CFG.REACT (k : Nat) : Fld := ⟨0x90400 + k * 0x4, 4, 2⟩
/-- FLT_CFG.SEV [1:0] RW (R675). -/
def FLT_CFG.SEV (k : Nat) : Fld := ⟨0x90400 + k * 0x4, 0, 2⟩
/-- LOG_STAT.PERMFULL [31] RO (R690). -/
def LOG_STAT.PERMFULL : Fld := ⟨0xA0000, 31, 1⟩
/-- LOG_STAT.ERASING [30] RO (R690). -/
def LOG_STAT.ERASING : Fld := ⟨0xA0000, 30, 1⟩
/-- LOG_PHEAD.OFF [31:0] RO (R690). -/
def LOG_PHEAD.OFF : Fld := ⟨0xA0004, 0, 32⟩
/-- LOG_CHEAD.OFF [31:0] RO (R690). -/
def LOG_CHEAD.OFF : Fld := ⟨0xA0008, 0, 32⟩
/-- LOG_OLDEST.OFF [31:0] RO (R690). -/
def LOG_OLDEST.OFF : Fld := ⟨0xA000C, 0, 32⟩
/-- LOG_WRITTEN.COUNT [31:0] RC (R690). -/
def LOG_WRITTEN.COUNT : Fld := ⟨0xA0010, 0, 32⟩
/-- LOG_SUPPTOT.COUNT [31:0] RC (R690). -/
def LOG_SUPPTOT.COUNT : Fld := ⟨0xA0014, 0, 32⟩
/-- LOG_RATE.UNLIM [31] RO (R690). -/
def LOG_RATE.UNLIM (k : Nat) : Fld := ⟨0xA0100 + k * 0x4, 31, 1⟩
/-- LOG_RATE.DEPTH [23:16] RW (R690). -/
def LOG_RATE.DEPTH (k : Nat) : Fld := ⟨0xA0100 + k * 0x4, 16, 8⟩
/-- LOG_RATE.PERIOD [15:0] RW (R690). -/
def LOG_RATE.PERIOD (k : Nat) : Fld := ⟨0xA0100 + k * 0x4, 0, 16⟩
/-- LOG_CSEL.CODE [7:0] RW (R690). -/
def LOG_CSEL.CODE : Fld := ⟨0xA0500, 0, 8⟩
/-- LOG_CSTAT.TOKENS [15:8] RO (R690). -/
def LOG_CSTAT.TOKENS : Fld := ⟨0xA0504, 8, 8⟩
/-- LOG_CSTAT.PEND [7:0] RO (R690). -/
def LOG_CSTAT.PEND : Fld := ⟨0xA0504, 0, 8⟩
/-- PCN_CTRL.FREEZE [31] RW (R701). -/
def PCN_CTRL.FREEZE : Fld := ⟨0xB0000, 31, 1⟩
/-- PCN_CTRL.FRZFIRST [30] RW (R701). -/
def PCN_CTRL.FRZFIRST : Fld := ⟨0xB0000, 30, 1⟩
/-- PCN_CTRL.SHOTSNAP [29] RW (R701). -/
def PCN_CTRL.SHOTSNAP : Fld := ⟨0xB0000, 29, 1⟩
/-- PCN_CTRL.SNAP [28] WO (R701). -/
def PCN_CTRL.SNAP : Fld := ⟨0xB0000, 28, 1⟩
/-- PCN_UACC.GLB [27:24] RW (R701). -/
def PCN_UACC.GLB : Fld := ⟨0xB0004, 24, 4⟩
/-- PCN_UACC.ENG [17:0] RW (R701). -/
def PCN_UACC.ENG : Fld := ⟨0xB0004, 0, 18⟩
/-- PCN_SNAPSEQ.COUNT [31:0] RO (R701). -/
def PCN_SNAPSEQ.COUNT : Fld := ⟨0xB0008, 0, 32⟩
/-- PCN_TAG.EN [31] RW (R701). -/
def PCN_TAG.EN : Fld := ⟨0xB0010, 31, 1⟩
/-- PCN_TAG.K [28:24] RW (R701). -/
def PCN_TAG.K : Fld := ⟨0xB0010, 24, 5⟩
/-- PCN_TAG.ENGMASK [17:0] RW (R701). -/
def PCN_TAG.ENGMASK : Fld := ⟨0xB0010, 0, 18⟩
/-- PCN_TSEED.SEED [23:0] RW (R701). -/
def PCN_TSEED.SEED : Fld := ⟨0xB0014, 0, 24⟩
/-- PCN_ECNT.COUNT [31:0] RW (R701). -/
def PCN_ECNT.COUNT (p k : Nat) : Fld := ⟨0xB1000 + p * 0x100 + k * 0x4, 0, 32⟩
/-- PCN_GCNT.COUNT [31:0] RW (R701). -/
def PCN_GCNT.COUNT (k : Nat) : Fld := ⟨0xB4000 + k * 0x4, 0, 32⟩
/-- PCN_ESEL.CHAIN [31] RW (R701). -/
def PCN_ESEL.CHAIN (p k : Nat) : Fld := ⟨0xB1020 + p * 0x100 + k * 0x4, 31, 1⟩
/-- PCN_GSEL.CHAIN [31] RW (R701). -/
def PCN_GSEL.CHAIN (k : Nat) : Fld := ⟨0xB4100 + k * 0x4, 31, 1⟩
/-- PCN_ESEL.TFILT [30] RW (R701). -/
def PCN_ESEL.TFILT (p k : Nat) : Fld := ⟨0xB1020 + p * 0x100 + k * 0x4, 30, 1⟩
/-- PCN_ESEL.TASK [27:16] RW (R701). -/
def PCN_ESEL.TASK (p k : Nat) : Fld := ⟨0xB1020 + p * 0x100 + k * 0x4, 16, 12⟩
/-- PCN_ESEL.EVT [6:0] RW (R701). -/
def PCN_ESEL.EVT (p k : Nat) : Fld := ⟨0xB1020 + p * 0x100 + k * 0x4, 0, 7⟩
/-- PCN_GSEL.EVT [6:0] RW (R701). -/
def PCN_GSEL.EVT (k : Nat) : Fld := ⟨0xB4100 + k * 0x4, 0, 7⟩
/-- PCN_ESNAP.COUNT [31:0] RO (R701). -/
def PCN_ESNAP.COUNT (p k : Nat) : Fld := ⟨0xB1040 + p * 0x100 + k * 0x4, 0, 32⟩
/-- PCN_GSNAP.COUNT [31:0] RO (R701). -/
def PCN_GSNAP.COUNT (k : Nat) : Fld := ⟨0xB4200 + k * 0x4, 0, 32⟩
/-- PCN_TREC0.VALID [31] RC (R701). -/
def PCN_TREC0.VALID (k : Nat) : Fld := ⟨0xB1060 + k * 0x100, 31, 1⟩
/-- PCN_TREC0.DISC [30] RO (R701). -/
def PCN_TREC0.DISC (k : Nat) : Fld := ⟨0xB1060 + k * 0x100, 30, 1⟩
/-- PCN_TREC0.EXC [29] RO (R701). -/
def PCN_TREC0.EXC (k : Nat) : Fld := ⟨0xB1060 + k * 0x100, 29, 1⟩
/-- PCN_TREC0.TASK [27:16] RO (R701). -/
def PCN_TREC0.TASK (k : Nat) : Fld := ⟨0xB1060 + k * 0x100, 16, 12⟩
/-- PCN_TREC0.PC [13:0] RO (R701). -/
def PCN_TREC0.PC (k : Nat) : Fld := ⟨0xB1060 + k * 0x100, 0, 14⟩
/-- PCN_TREC1.TOTAL [31:16] RO (R701). -/
def PCN_TREC1.TOTAL (k : Nat) : Fld := ⟨0xB1064 + k * 0x100, 16, 16⟩
/-- PCN_TREC1.STALL [15:8] RO (R701). -/
def PCN_TREC1.STALL (k : Nat) : Fld := ⟨0xB1064 + k * 0x100, 8, 8⟩
/-- PCN_TREC1.CAUSE [3:0] RO (R701). -/
def PCN_TREC1.CAUSE (k : Nat) : Fld := ⟨0xB1064 + k * 0x100, 0, 4⟩
/-- STI_CFG.RECLAIM [31] RW (R744). -/
def STI_CFG.RECLAIM : Fld := ⟨0xC0000, 31, 1⟩
/-- STI_CFG.LEASE [7:0] RW (R744). -/
def STI_CFG.LEASE : Fld := ⟨0xC0000, 0, 8⟩
/-- STI_STAT.LINK [31] RO (R744). -/
def STI_STAT.LINK : Fld := ⟨0xC0004, 31, 1⟩
/-- STI_STAT.PAIRED [30] RO (R744). -/
def STI_STAT.PAIRED : Fld := ⟨0xC0004, 30, 1⟩
/-- STI_STAT.MVALID [29] RO (R744). -/
def STI_STAT.MVALID : Fld := ⟨0xC0004, 29, 1⟩
/-- STI_STAT.LEASE_IN [28] RO (R744). -/
def STI_STAT.LEASE_IN : Fld := ⟨0xC0004, 28, 1⟩
/-- STI_STAT.LEASE_OUT [27] RO (R744). -/
def STI_STAT.LEASE_OUT : Fld := ⟨0xC0004, 27, 1⟩
/-- STI_STAT.WAKING [26] RO (R744). -/
def STI_STAT.WAKING : Fld := ⟨0xC0004, 26, 1⟩
/-- STI_STAT.STRAP [3:2] RO (R744). -/
def STI_STAT.STRAP : Fld := ⟨0xC0004, 2, 2⟩
/-- STI_STAT.ROLE [1:0] RO (R744). -/
def STI_STAT.ROLE : Fld := ⟨0xC0004, 0, 2⟩
/-- STI_RENEW.SEQ [31:0] RO (R744). -/
def STI_RENEW.SEQ : Fld := ⟨0xC0008, 0, 32⟩
/-- STI_LEFT.US [15:0] RO (R744). -/
def STI_LEFT.US : Fld := ⟨0xC000C, 0, 16⟩
/-- STI_MIRROR.TAKE [31:0] RO (R744). -/
def STI_MIRROR.TAKE : Fld := ⟨0xC0010, 0, 32⟩
/-- STI_MBACK.BYTES [31:0] RO (R744). -/
def STI_MBACK.BYTES : Fld := ⟨0xC0014, 0, 32⟩
/-- STI_EVT.TAKEOVERS [31:24] RC (R744). -/
def STI_EVT.TAKEOVERS : Fld := ⟨0xC0018, 24, 8⟩
/-- STI_EVT.FENCES [23:16] RC (R744). -/
def STI_EVT.FENCES : Fld := ⟨0xC0018, 16, 8⟩
/-- STI_EVT.RESYNCS [15:8] RC (R744). -/
def STI_EVT.RESYNCS : Fld := ⟨0xC0018, 8, 8⟩
/-- STI_EVT.MISSED [7:0] RC (R744). -/
def STI_EVT.MISSED : Fld := ⟨0xC0018, 0, 8⟩
/-- RL_STAT.STATE [31:30] RO (R744). -/
def RL_STAT.STATE : Fld := ⟨0xC0100, 30, 2⟩
/-- RL_STAT.SIZE [27:24] RO (R744). -/
def RL_STAT.SIZE : Fld := ⟨0xC0100, 24, 4⟩
/-- RL_STAT.POS [22:20] RO (R744). -/
def RL_STAT.POS : Fld := ⟨0xC0100, 20, 3⟩
/-- RL_STAT.MASTER [19] RO (R744). -/
def RL_STAT.MASTER : Fld := ⟨0xC0100, 19, 1⟩
/-- RL_STAT.MASTERID [18:16] RO (R744). -/
def RL_STAT.MASTERID : Fld := ⟨0xC0100, 16, 3⟩
/-- RL_STAT.FAULT [3:0] RO (R744). -/
def RL_STAT.FAULT : Fld := ⟨0xC0100, 0, 4⟩
/-- RL_RBUF.BYTES [21:0] RO (R744). -/
def RL_RBUF.BYTES : Fld := ⟨0xC0104, 0, 22⟩
/-- RL_LSTAT.STATE [31:30] RO (R744). -/
def RL_LSTAT.STATE (k : Nat) : Fld := ⟨0xC0110 + k * 0x10, 30, 2⟩
/-- RL_LSTAT.RETRAINS [15:0] RC (R744). -/
def RL_LSTAT.RETRAINS (k : Nat) : Fld := ⟨0xC0110 + k * 0x10, 0, 16⟩
/-- RL_LERR.BLKERR [31:16] RC (R744). -/
def RL_LERR.BLKERR (k : Nat) : Fld := ⟨0xC0114 + k * 0x10, 16, 16⟩
/-- RL_LERR.DOWNS [15:0] RC (R744). -/
def RL_LERR.DOWNS (k : Nat) : Fld := ⟨0xC0114 + k * 0x10, 0, 16⟩
/-- RL_LDLY.DELAY [19:0] RO (R744). -/
def RL_LDLY.DELAY (k : Nat) : Fld := ⟨0xC0118 + k * 0x10, 0, 20⟩
/-- RL_BSEL.BUS [9:0] RW (R744). -/
def RL_BSEL.BUS : Fld := ⟨0xC0140, 0, 10⟩
/-- RL_BMAP.RING [31] RO (R744). -/
def RL_BMAP.RING : Fld := ⟨0xC0144, 31, 1⟩
/-- RL_BMAP.OWNER [26:24] RO (R744). -/
def RL_BMAP.OWNER : Fld := ⟨0xC0144, 24, 3⟩
/-- RL_BMAP.P [18:16] RO (R744). -/
def RL_BMAP.P : Fld := ⟨0xC0144, 16, 3⟩
/-- SYS_MODE.ROLE [27:24] RO (R771). -/
def SYS_MODE.ROLE : Fld := ⟨0x4, 24, 4⟩
/-- SYS_MODE.HOLD [10] RO (R771). -/
def SYS_MODE.HOLD : Fld := ⟨0x4, 10, 1⟩
/-- SYS_MODE.MUTED [9] RO (R771). -/
def SYS_MODE.MUTED : Fld := ⟨0x4, 9, 1⟩
/-- SYS_MODE.TICK [8] RO (R771). -/
def SYS_MODE.TICK : Fld := ⟨0x4, 8, 1⟩
/-- SYS_MODE.PREV [7:4] RO (R771). -/
def SYS_MODE.PREV : Fld := ⟨0x4, 4, 4⟩
/-- SYS_MODE.MODE [3:0] RO (R771). -/
def SYS_MODE.MODE : Fld := ⟨0x4, 0, 4⟩
/-- SYS_RSTCAUSE.CAUSE [6:0] W1C (R771). -/
def SYS_RSTCAUSE.CAUSE : Fld := ⟨0x8, 0, 7⟩
/-- SYS_RSTCTRL.KEY [31:16] WO (R771). -/
def SYS_RSTCTRL.KEY : Fld := ⟨0xC, 16, 16⟩
/-- SYS_RSTCTRL.SOFT [0] WO (R771). -/
def SYS_RSTCTRL.SOFT : Fld := ⟨0xC, 0, 1⟩
/-- SYS_BOOT.STAGE [31:28] RO (R771). -/
def SYS_BOOT.STAGE : Fld := ⟨0x20, 28, 4⟩
/-- SYS_BOOT.FAIL [27:24] RO (R771). -/
def SYS_BOOT.FAIL : Fld := ⟨0x20, 24, 4⟩
/-- SYS_BOOT.IMG [17:16] RO (R771). -/
def SYS_BOOT.IMG : Fld := ⟨0x20, 16, 2⟩
/-- SYS_BOOT.MS [11:0] RO (R771). -/
def SYS_BOOT.MS : Fld := ⟨0x20, 0, 12⟩
/-- SYS_OPSEC_LO.SEC [31:0] RO (R771). -/
def SYS_OPSEC_LO.SEC : Fld := ⟨0x80, 0, 32⟩
/-- SYS_OPSEC_HI.SEC [7:0] RO (R771). -/
def SYS_OPSEC_HI.SEC : Fld := ⟨0x84, 0, 8⟩
/-- SYS_CYCLES.COUNT [31:0] RO (R771). -/
def SYS_CYCLES.COUNT : Fld := ⟨0x88, 0, 32⟩
/-- SYS_FIRSTDAY.DAY [31:0] RO (R771). -/
def SYS_FIRSTDAY.DAY : Fld := ⟨0x8C, 0, 32⟩
/-- SYS_LASTDAY.DAY [31:0] RO (R771). -/
def SYS_LASTDAY.DAY : Fld := ⟨0x90, 0, 32⟩
/-- SYS_LASTSOD.SEC [16:0] RO (R771). -/
def SYS_LASTSOD.SEC : Fld := ⟨0x94, 0, 17⟩
/-- SYS_ENGSUM.ACTIVE [27:23] RO (R771). -/
def SYS_ENGSUM.ACTIVE : Fld := ⟨0x98, 23, 5⟩
/-- SYS_ENGSUM.SPARE [22:21] RO (R771). -/
def SYS_ENGSUM.SPARE : Fld := ⟨0x98, 21, 2⟩
/-- SYS_ENGSUM.RETIRED [20:16] RO (R771). -/
def SYS_ENGSUM.RETIRED : Fld := ⟨0x98, 16, 5⟩
/-- SYS_ENGSUM.UNASSIGNED [15:0] RO (R771). -/
def SYS_ENGSUM.UNASSIGNED : Fld := ⟨0x98, 0, 16⟩
/-- PIN_BANK.V0 [1:0] RO (R803). -/
def PIN_BANK.V0 : Fld := ⟨0xE0000, 0, 2⟩
/-- PIN_BANK.V1 [3:2] RO (R803). -/
def PIN_BANK.V1 : Fld := ⟨0xE0000, 2, 2⟩
/-- PIN_BANK.V2 [5:4] RO (R803). -/
def PIN_BANK.V2 : Fld := ⟨0xE0000, 4, 2⟩
/-- PIN_BANK.V3 [7:6] RO (R803). -/
def PIN_BANK.V3 : Fld := ⟨0xE0000, 6, 2⟩
/-- PIN_BANK.V4 [9:8] RO (R803). -/
def PIN_BANK.V4 : Fld := ⟨0xE0000, 8, 2⟩
/-- PIN_BANK.V5 [11:10] RO (R803). -/
def PIN_BANK.V5 : Fld := ⟨0xE0000, 10, 2⟩
/-- PIN_BANK.V6 [13:12] RO (R803). -/
def PIN_BANK.V6 : Fld := ⟨0xE0000, 12, 2⟩
/-- PIN_DRV.DRV0 [1:0] RW (R803). -/
def PIN_DRV.DRV0 : Fld := ⟨0xE0004, 0, 2⟩
/-- PIN_DRV.DRV1 [3:2] RW (R803). -/
def PIN_DRV.DRV1 : Fld := ⟨0xE0004, 2, 2⟩
/-- PIN_DRV.DRV2 [5:4] RW (R803). -/
def PIN_DRV.DRV2 : Fld := ⟨0xE0004, 4, 2⟩
/-- PIN_DRV.DRV3 [7:6] RW (R803). -/
def PIN_DRV.DRV3 : Fld := ⟨0xE0004, 6, 2⟩
/-- PIN_DRV.DRV4 [9:8] RW (R803). -/
def PIN_DRV.DRV4 : Fld := ⟨0xE0004, 8, 2⟩
/-- PIN_DRV.DRV5 [11:10] RW (R803). -/
def PIN_DRV.DRV5 : Fld := ⟨0xE0004, 10, 2⟩
/-- PIN_DRV.DRV6 [13:12] RW (R803). -/
def PIN_DRV.DRV6 : Fld := ⟨0xE0004, 12, 2⟩
/-- PIN_RGMII.TXDLY [1] RW (R803). -/
def PIN_RGMII.TXDLY : Fld := ⟨0xE0008, 1, 1⟩
/-- PIN_RGMII.RXDLY [0] RW (R803). -/
def PIN_RGMII.RXDLY : Fld := ⟨0xE0008, 0, 1⟩
/-- PIN_GPIO_EN.CLAIM [31:0] RW (R803). -/
def PIN_GPIO_EN.CLAIM : Fld := ⟨0xE0010, 0, 32⟩
/-- PIN_GPIO_OE.OE [31:0] RW (R803). -/
def PIN_GPIO_OE.OE : Fld := ⟨0xE0014, 0, 32⟩
/-- PIN_GPIO_OUT.OUT [31:0] RW (R803). -/
def PIN_GPIO_OUT.OUT : Fld := ⟨0xE0018, 0, 32⟩
/-- PIN_GPIO_IN.IN [31:0] RO (R803). -/
def PIN_GPIO_IN.IN : Fld := ⟨0xE001C, 0, 32⟩
/-- PIN_THERM.WARN [6:0] RW (R803). -/
def PIN_THERM.WARN : Fld := ⟨0xE0020, 0, 7⟩
/-- PIN_THSTAT.ABOVE [31] RO (R803). -/
def PIN_THSTAT.ABOVE : Fld := ⟨0xE0024, 31, 1⟩
/-- PIN_THSTAT.MAX [15:0] RC (R803). -/
def PIN_THSTAT.MAX : Fld := ⟨0xE0024, 0, 16⟩
/-- PIN_CLAIMSEL.INDEX [7:0] RW (R803). -/
def PIN_CLAIMSEL.INDEX : Fld := ⟨0xE0100, 0, 8⟩
/-- PIN_CLAIM.VALID [31] RO (R803). -/
def PIN_CLAIM.VALID : Fld := ⟨0xE0104, 31, 1⟩
/-- PIN_CLAIM.OWNER [30:28] RO (R803). -/
def PIN_CLAIM.OWNER : Fld := ⟨0xE0104, 28, 3⟩
/-- PIN_CLAIM.ID [21:16] RO (R803). -/
def PIN_CLAIM.ID : Fld := ⟨0xE0104, 16, 6⟩
/-- PIN_CLAIMBMP.BITS [31:0] RO (R803). -/
def PIN_CLAIMBMP.BITS (k : Nat) : Fld := ⟨0xE0120 + k * 0x4, 0, 32⟩
/-- NET_RX_FRAMES_LO.COUNT [31:0] RC (R444). -/
def NET_RX_FRAMES_LO.COUNT (k : Nat) : Fld := ⟨0x60100 + k * 0x400, 0, 32⟩
/-- NET_RX_FRAMES_HI.COUNT [31:0] RC (R444). -/
def NET_RX_FRAMES_HI.COUNT (k : Nat) : Fld := ⟨0x60104 + k * 0x400, 0, 32⟩
/-- NET_RX_BYTES_LO.COUNT [31:0] RC (R444). -/
def NET_RX_BYTES_LO.COUNT (k : Nat) : Fld := ⟨0x60108 + k * 0x400, 0, 32⟩
/-- NET_RX_BYTES_HI.COUNT [31:0] RC (R444). -/
def NET_RX_BYTES_HI.COUNT (k : Nat) : Fld := ⟨0x6010C + k * 0x400, 0, 32⟩
/-- NET_RUNT.COUNT [31:0] RC (R444). -/
def NET_RUNT.COUNT (k : Nat) : Fld := ⟨0x60110 + k * 0x400, 0, 32⟩
/-- NET_OVERSIZE.COUNT [31:0] RC (R444). -/
def NET_OVERSIZE.COUNT (k : Nat) : Fld := ⟨0x60114 + k * 0x400, 0, 32⟩
/-- NET_CRCERR.COUNT [31:0] RC (R444). -/
def NET_CRCERR.COUNT (k : Nat) : Fld := ⟨0x60118 + k * 0x400, 0, 32⟩
/-- NET_FRAGERR.COUNT [31:0] RC (R444). -/
def NET_FRAGERR.COUNT (k : Nat) : Fld := ⟨0x6011C + k * 0x400, 0, 32⟩
/-- NET_RX_NOPOOL.COUNT [31:0] RC (R444). -/
def NET_RX_NOPOOL.COUNT (k : Nat) : Fld := ⟨0x60120 + k * 0x400, 0, 32⟩
/-- NET_RX_NOBUF.COUNT [31:0] RC (R444). -/
def NET_RX_NOBUF.COUNT (k : Nat) : Fld := ⟨0x60124 + k * 0x400, 0, 32⟩
/-- NET_CTRL_OTHER.COUNT [31:0] RC (R444). -/
def NET_CTRL_OTHER.COUNT (k : Nat) : Fld := ⟨0x60128 + k * 0x400, 0, 32⟩
/-- NET_PAUSE_RX.COUNT [31:0] RC (R444). -/
def NET_PAUSE_RX.COUNT (k : Nat) : Fld := ⟨0x6012C + k * 0x400, 0, 32⟩
/-- NET_PAUSE_BROKEN.COUNT [31:0] RC (R444). -/
def NET_PAUSE_BROKEN.COUNT (k : Nat) : Fld := ⟨0x60130 + k * 0x400, 0, 32⟩
/-- NET_NOTMINE.COUNT [31:0] RC (R444). -/
def NET_NOTMINE.COUNT (k : Nat) : Fld := ⟨0x60134 + k * 0x400, 0, 32⟩
/-- NET_TX_FRAMES_LO.COUNT [31:0] RC (R444). -/
def NET_TX_FRAMES_LO.COUNT (k : Nat) : Fld := ⟨0x60140 + k * 0x400, 0, 32⟩
/-- NET_TX_FRAMES_HI.COUNT [31:0] RC (R444). -/
def NET_TX_FRAMES_HI.COUNT (k : Nat) : Fld := ⟨0x60144 + k * 0x400, 0, 32⟩
/-- NET_TX_BYTES_LO.COUNT [31:0] RC (R444). -/
def NET_TX_BYTES_LO.COUNT (k : Nat) : Fld := ⟨0x60148 + k * 0x400, 0, 32⟩
/-- NET_TX_BYTES_HI.COUNT [31:0] RC (R444). -/
def NET_TX_BYTES_HI.COUNT (k : Nat) : Fld := ⟨0x6014C + k * 0x400, 0, 32⟩
/-- NET_TX_OVERSIZE.COUNT [31:0] RC (R444). -/
def NET_TX_OVERSIZE.COUNT (k : Nat) : Fld := ⟨0x60150 + k * 0x400, 0, 32⟩
/-- NET_TX_DESCERR.COUNT [31:0] RC (R444). -/
def NET_TX_DESCERR.COUNT (k : Nat) : Fld := ⟨0x60154 + k * 0x400, 0, 32⟩
/-- NET_TX_LATE.COUNT [31:0] RC (R444). -/
def NET_TX_LATE.COUNT (k : Nat) : Fld := ⟨0x60158 + k * 0x400, 0, 32⟩
/-- NET_TX_LINKDOWN.COUNT [31:0] RC (R444). -/
def NET_TX_LINKDOWN.COUNT (k : Nat) : Fld := ⟨0x6015C + k * 0x400, 0, 32⟩
/-- NET_PREEMPTS.COUNT [31:0] RC (R444). -/
def NET_PREEMPTS.COUNT (k : Nat) : Fld := ⟨0x60160 + k * 0x400, 0, 32⟩
/-- NET_BR_FWD.COUNT [31:0] RC (R444). -/
def NET_BR_FWD.COUNT (k : Nat) : Fld := ⟨0x60164 + k * 0x400, 0, 32⟩
/-- NET_BR_DROP.COUNT [31:0] RC (R444). -/
def NET_BR_DROP.COUNT (k : Nat) : Fld := ⟨0x60168 + k * 0x400, 0, 32⟩
/-- NET_BR_LEARNFULL.COUNT [31:0] RC (R444). -/
def NET_BR_LEARNFULL.COUNT (k : Nat) : Fld := ⟨0x6016C + k * 0x400, 0, 32⟩
/-- NET_CCNT.COUNT [31:0] RC (R444). -/
def NET_CCNT.COUNT (k : Nat) : Fld := ⟨0x64100 + k * 0x4, 0, 32⟩
/-- NET_CWORD.WORD [31:0] RO (R414). -/
def NET_CWORD.WORD (k : Nat) : Fld := ⟨0x64040 + k * 0x4, 0, 32⟩
/-- NET_PMAC_LO.ADDR [31:0] RW (R445). -/
def NET_PMAC_LO.ADDR (k : Nat) : Fld := ⟨0x60008 + k * 0x400, 0, 32⟩
/-- NET_PIP4.ADDR [31:0] RW (R445). -/
def NET_PIP4.ADDR (k : Nat) : Fld := ⟨0x60010 + k * 0x400, 0, 32⟩
/-- NET_PIP6_0.ADDR [31:0] RW (R445). -/
def NET_PIP6_0.ADDR (k : Nat) : Fld := ⟨0x60014 + k * 0x400, 0, 32⟩
/-- NET_PIP6_1.ADDR [31:0] RW (R445). -/
def NET_PIP6_1.ADDR (k : Nat) : Fld := ⟨0x60018 + k * 0x400, 0, 32⟩
/-- NET_PIP6_2.ADDR [31:0] RW (R445). -/
def NET_PIP6_2.ADDR (k : Nat) : Fld := ⟨0x6001C + k * 0x400, 0, 32⟩
/-- NET_PIP6_3.ADDR [31:0] RW (R445). -/
def NET_PIP6_3.ADDR (k : Nat) : Fld := ⟨0x60020 + k * 0x400, 0, 32⟩
/-- NET_PMAC_HI.ADDR [15:0] RW (R445). -/
def NET_PMAC_HI.ADDR (k : Nat) : Fld := ⟨0x6000C + k * 0x400, 0, 16⟩
/-- NET_MCHASH.BITS [31:0] RW (R445). -/
def NET_MCHASH.BITS (p k : Nat) : Fld := ⟨0x6002C + p * 0x400 + k * 0x4, 0, 32⟩
/-- ENG_DBGDATA.DATA [31:0] RW (R153). -/
def ENG_DBGDATA.DATA (e : Nat) : Fld := ⟨engBase e + 0x104, 0, 32⟩

end Sys2Proof.Machine
end

