-- ==== Sys2Proof/Machine/RegTable.lean ====
section
/-! DEFINITION. The access table of the control region: for each register of the spec's tables its device address (with
the counts and strides of an array), its reset value and the masks of its bits by access code (R9). -/

namespace Sys2Proof.Machine

/-- One register, or one array of registers with up to two indices, of the control region. -/
structure RegRow where
  /-- address of the first register -/
  base : Nat
  /-- count and stride of the outer index -/
  n1 : Nat
  s1 : Nat
  /-- count and stride of the inner index -/
  n2 : Nat
  s2 : Nat
  /-- reset value, where it is one value for every index -/
  reset : Nat
  /-- bits of access RW, RWT, W1C and RC (R9); every other bit is RO, WO or reserved -/
  rw : Nat
  rwt : Nat
  w1c : Nat
  rc : Nat
  deriving DecidableEq, Repr

/-- Does the row hold the register at address `a`? -/
def RegRow.covers (r : RegRow) (a : Nat) : Bool :=
  let o := a - r.base
  decide (r.base ≤ a) && decide (o / r.s1 < r.n1) && decide (o % r.s1 / r.s2 < r.n2) && decide (o % r.s1 % r.s2 = 0)

/-- Registers of the SYS slot (R42). -/
def regsSys : List RegRow := [
  ⟨0x0, 1, 0x4, 1, 0x4, 0x2048B000, 0x0, 0x0, 0x0, 0x0⟩,  -- SYS_ID R2
  ⟨0x4, 1, 0x4, 1, 0x4, 0x0, 0x0, 0x0, 0x0, 0x0⟩,  -- SYS_MODE R771
  ⟨0x8, 1, 0x4, 1, 0x4, 0x0, 0x0, 0x0, 0x7F, 0x0⟩,  -- SYS_RSTCAUSE R771
  ⟨0xC, 1, 0x4, 1, 0x4, 0x0, 0x0, 0x0, 0x0, 0x0⟩,  -- SYS_RSTCTRL R771
  ⟨0x10, 1, 0x4, 1, 0x4, 0x9, 0x0, 0x0, 0x0, 0x0⟩,  -- SYS_CFG R20
  ⟨0x18, 1, 0x4, 1, 0x4, 0x0, 0x0, 0x0, 0x0, 0x0⟩,  -- SYS_SHOT_LO R25
  ⟨0x1C, 1, 0x4, 1, 0x4, 0x0, 0x0, 0x0, 0x0, 0x0⟩,  -- SYS_SHOT_HI R25
  ⟨0x20, 1, 0x4, 1, 0x4, 0x0, 0x0, 0x0, 0x0, 0x0⟩,  -- SYS_BOOT R771
  ⟨0x40, 1, 0x4, 1, 0x4, 0x0, 0x0, 0x0, 0x7F, 0x0⟩,  -- SYS_LEDGER R50
  ⟨0x60, 1, 0x4, 1, 0x4, 0x0, 0x0, 0x0, 0x0, 0x0⟩,  -- SYS_TAKE_STAT R340
  ⟨0x64, 1, 0x4, 1, 0x4, 0x0, 0x0, 0x0, 0x0, 0x0⟩,  -- SYS_TAKE_SHOT_LO R340
  ⟨0x68, 1, 0x4, 1, 0x4, 0x0, 0x0, 0x0, 0x0, 0x0⟩,  -- SYS_TAKE_SHOT_HI R340
  ⟨0x6C, 1, 0x4, 1, 0x4, 0x0, 0x0, 0x0, 0x0, 0x0⟩,  -- SYS_TAKE_CNT R340
  ⟨0x70, 1, 0x4, 1, 0x4, 0x0, 0x0, 0x0, 0x0, 0x0⟩,  -- SYS_DISS_END R340
  ⟨0x74, 1, 0x4, 1, 0x4, 0x0, 0x0, 0x0, 0x0, 0xFFFFFFFF⟩,  -- SYS_TAKE_REFUSED R340
  ⟨0x80, 1, 0x4, 1, 0x4, 0x0, 0x0, 0x0, 0x0, 0x0⟩,  -- SYS_OPSEC_LO R771
  ⟨0x84, 1, 0x4, 1, 0x4, 0x0, 0x0, 0x0, 0x0, 0x0⟩,  -- SYS_OPSEC_HI R771
  ⟨0x88, 1, 0x4, 1, 0x4, 0x0, 0x0, 0x0, 0x0, 0x0⟩,  -- SYS_CYCLES R771
  ⟨0x8C, 1, 0x4, 1, 0x4, 0x0, 0x0, 0x0, 0x0, 0x0⟩,  -- SYS_FIRSTDAY R771
  ⟨0x90, 1, 0x4, 1, 0x4, 0x0, 0x0, 0x0, 0x0, 0x0⟩,  -- SYS_LASTDAY R771
  ⟨0x94, 1, 0x4, 1, 0x4, 0x0, 0x0, 0x0, 0x0, 0x0⟩,  -- SYS_LASTSOD R771
  ⟨0x98, 1, 0x4, 1, 0x4, 0x0, 0x0, 0x0, 0x0, 0x0⟩,  -- SYS_ENGSUM R771
  ⟨0xE000, 2, 0x1000, 1, 0x4, 0x0, 0x100, 0x1, 0x0, 0x0⟩,  -- ENG_CTRL R147
  ⟨0xE004, 2, 0x1000, 1, 0x4, 0x83, 0x0, 0x0, 0x0, 0x0⟩,  -- ENG_STAT R148
  ⟨0xE008, 2, 0x1000, 1, 0x4, 0x1F, 0x0, 0x0, 0x0, 0x0⟩,  -- ENG_ROLE R149
  ⟨0xE00C, 2, 0x1000, 1, 0x4, 0x0, 0x0, 0x0, 0x0, 0x0⟩,  -- ENG_PC R150
  ⟨0xE010, 2, 0x1000, 1, 0x4, 0x0, 0x0, 0x0, 0x0, 0x0⟩,  -- ENG_LFLAG R150
  ⟨0xE014, 2, 0x1000, 1, 0x4, 0x0, 0x0, 0x0, 0x3F, 0x0⟩,  -- ENG_EXC R151
  ⟨0xE018, 2, 0x1000, 1, 0x4, 0x0, 0x0, 0x0, 0x0, 0x0⟩,  -- ENG_EXCINFO R151
  ⟨0xE01C, 2, 0x1000, 1, 0x4, 0x0, 0x0, 0x0, 0x0, 0xFFFFFFFF⟩,  -- ENG_ECC R152
  ⟨0xE020, 2, 0x1000, 1, 0x4, 0x0, 0x0, 0x0, 0x0, 0x0⟩,  -- ENG_BIST R152
  ⟨0xE100, 2, 0x1000, 1, 0x4, 0x0, 0x7FF, 0x0, 0x0, 0x0⟩,  -- ENG_DBGSEL R153
  ⟨0xE104, 2, 0x1000, 1, 0x4, 0x0, 0xFFFFFFFF, 0x0, 0x0, 0x0⟩]  -- ENG_DBGDATA R153

/-- Registers of the CLK slot (R42). -/
def regsClk : List RegRow := [
  ⟨0x10000, 1, 0x4, 1, 0x4, 0x0, 0x8F000001, 0x0, 0x0, 0x0⟩,  -- CLK_CTRL R525
  ⟨0x10004, 1, 0x4, 1, 0x4, 0x0, 0x0, 0x0, 0x0, 0x0⟩,  -- CLK_STAT R525
  ⟨0x10008, 1, 0x4, 1, 0x4, 0x0, 0x0, 0x0, 0x0, 0x0⟩,  -- CLK_STEER R525
  ⟨0x1000C, 1, 0x4, 1, 0x4, 0x0, 0x0, 0x0, 0x0, 0x0⟩,  -- CLK_PHASE R525
  ⟨0x10010, 1, 0x4, 1, 0x4, 0x64320014, 0xFFFF1FFF, 0x0, 0x0, 0x0⟩,  -- CLK_QUALCFG R525
  ⟨0x10014, 1, 0x4, 1, 0x4, 0xA01032, 0xFFF0FFFF, 0x0, 0x0, 0x0⟩,  -- CLK_SWCFG R525
  ⟨0x10018, 1, 0x4, 1, 0x4, 0x320503E8, 0xFFFF3FFF, 0x0, 0x0, 0x0⟩,  -- CLK_LOOP R525
  ⟨0x1001C, 1, 0x4, 1, 0x4, 0x1F40032, 0xFFFFFFFF, 0x0, 0x0, 0x0⟩,  -- CLK_LOCKWIN R525
  ⟨0x10020, 1, 0x4, 1, 0x4, 0x80A15180, 0x83FFFFFF, 0x0, 0x0, 0x0⟩,  -- CLK_HOLDCFG R525
  ⟨0x10024, 1, 0x4, 1, 0x4, 0x0, 0x0, 0x0, 0x0, 0x0⟩,  -- CLK_HOLDSTAT R525
  ⟨0x10028, 1, 0x4, 1, 0x4, 0x0, 0x0, 0x0, 0x0, 0x0⟩,  -- CLK_HOLDAVG R525
  ⟨0x1002C, 1, 0x4, 1, 0x4, 0x0, 0x0, 0x0, 0x0, 0x0⟩,  -- CLK_BUILDOUT R525
  ⟨0x10030, 1, 0x4, 1, 0x4, 0x0, 0x0, 0x0, 0x0, 0x0⟩,  -- CLK_TEMP R525
  ⟨0x10034, 1, 0x4, 1, 0x4, 0x190, 0xFFFF, 0x0, 0x0, 0x0⟩,  -- CLK_TREF R525
  ⟨0x10038, 1, 0x4, 1, 0x4, 0x0, 0xFFFFFFFF, 0x0, 0x0, 0x0⟩,  -- CLK_TC1 R525
  ⟨0x1003C, 1, 0x4, 1, 0x4, 0x0, 0xFFFFFFFF, 0x0, 0x0, 0x0⟩,  -- CLK_TC2 R525
  ⟨0x10040, 1, 0x4, 1, 0x4, 0x0, 0xFFFFFFFF, 0x0, 0x0, 0x0⟩,  -- CLK_TC3 R525
  ⟨0x10044, 1, 0x4, 1, 0x4, 0x0, 0xFFFFFFFF, 0x0, 0x0, 0x0⟩,  -- CLK_AGE R525
  ⟨0x10048, 1, 0x4, 1, 0x4, 0x0, 0xC0000000, 0x0, 0x0, 0x0⟩,  -- CLK_MCLK R525
  ⟨0x10100, 1, 0x4, 1, 0x4, 0x80000000, 0x0, 0x0, 0x0, 0x0⟩,  -- CLK_CAND0 R526
  ⟨0x10110, 11, 0x10, 1, 0x4, 0x20880000, 0xF8FFF3FF, 0x0, 0x0, 0x0⟩,  -- CLK_CAND1 to CLK_CAND11 R526
  ⟨0x10104, 1, 0x4, 1, 0x4, 0x8FF00000, 0x0, 0x0, 0x0, 0x0⟩,  -- CLK_CANDST0 R526
  ⟨0x10114, 11, 0x10, 1, 0x4, 0xFF00000, 0x0, 0x0, 0x0, 0x0⟩,  -- CLK_CANDST1 to CLK_CANDST11 R526
  ⟨0x10108, 12, 0x10, 1, 0x4, 0x0, 0x0, 0x0, 0x0, 0x0⟩,  -- CLK_CANDF R526
  ⟨0x1010C, 12, 0x10, 1, 0x4, 0x0, 0x0, 0x0, 0x0, 0xFFFFFFFF⟩]  -- CLK_CANDE R526

/-- Registers of the PTP slot (R42). -/
def regsPtp : List RegRow := [
  ⟨0x20000, 1, 0x4, 1, 0x4, 0x8000000, 0xFFC0FF00, 0x0, 0x0, 0x0⟩,  -- PTP_CFG R569
  ⟨0x20004, 1, 0x4, 1, 0x4, 0x1DD30000, 0xFFFF0000, 0x0, 0x0, 0x0⟩,  -- PTP_INTV R569
  ⟨0x20008, 1, 0x4, 1, 0x4, 0x8080F8FE, 0xFFFFFFFF, 0x0, 0x0, 0x0⟩,  -- PTP_DS R569
  ⟨0x2000C, 1, 0x4, 1, 0x4, 0xFFFFF8F8, 0xFFFFFFFF, 0x0, 0x0, 0x0⟩,  -- PTP_DS2 R569
  ⟨0x20010, 1, 0x4, 1, 0x4, 0x23000000, 0x0, 0x0, 0x0, 0x0⟩,  -- PTP_STAT R569
  ⟨0x20014, 1, 0x4, 1, 0x4, 0x641000, 0xFFFFFF00, 0x0, 0x0, 0x0⟩,  -- PTP_SERVO R569
  ⟨0x20018, 1, 0x4, 1, 0x4, 0x27100A0A, 0xFFFFFFFF, 0x0, 0x0, 0x0⟩,  -- PTP_SERVO2 R569
  ⟨0x20020, 1, 0x4, 1, 0x4, 0x0, 0x0, 0x0, 0x0, 0x0⟩,  -- PTP_TIME0 R569
  ⟨0x20024, 1, 0x4, 1, 0x4, 0x0, 0x0, 0x0, 0x0, 0x0⟩,  -- PTP_TIME1 R569
  ⟨0x20028, 1, 0x4, 1, 0x4, 0x0, 0x0, 0x0, 0x0, 0x0⟩,  -- PTP_TIME2 R569
  ⟨0x2002C, 1, 0x4, 1, 0x4, 0x6, 0xF, 0x0, 0x0, 0x0⟩,  -- PTP_INC_NS R569
  ⟨0x20030, 1, 0x4, 1, 0x4, 0x82AAAAAB, 0xFFFFFFFF, 0x0, 0x0, 0x0⟩,  -- PTP_INC_FRAC R569
  ⟨0x20034, 1, 0x4, 1, 0x4, 0x0, 0x0, 0x0, 0x0, 0x0⟩,  -- PTP_OFFSET R569
  ⟨0x20038, 1, 0x4, 1, 0x4, 0x0, 0x0, 0x0, 0x0, 0x0⟩,  -- PTP_MPD R569
  ⟨0x20040, 1, 0x4, 1, 0x4, 0x0, 0x0, 0x0, 0x0, 0x0⟩,  -- PTP_SHOT0 R569
  ⟨0x20044, 1, 0x4, 1, 0x4, 0x0, 0x0, 0x0, 0x0, 0x0⟩,  -- PTP_SHOT1 R569
  ⟨0x20048, 1, 0x4, 1, 0x4, 0x0, 0x0, 0x0, 0x0, 0x0⟩,  -- PTP_SHOT2 R569
  ⟨0x20050, 1, 0x4, 1, 0x4, 0x0, 0x0, 0x0, 0x0, 0x0⟩,  -- PTP_GMID_LO R569
  ⟨0x20054, 1, 0x4, 1, 0x4, 0x0, 0x0, 0x0, 0x0, 0x0⟩,  -- PTP_GMID_HI R569
  ⟨0x20058, 1, 0x4, 1, 0x4, 0xFFFEFFFF, 0x0, 0x0, 0x0, 0x0⟩,  -- PTP_GMQ R569
  ⟨0x2005C, 1, 0x4, 1, 0x4, 0x25, 0xFFFF, 0x0, 0x0, 0x0⟩,  -- PTP_UTC R569
  ⟨0x20060, 1, 0x4, 1, 0x4, 0x0, 0x8000000F, 0x0, 0x0, 0x0⟩,  -- PTP_TCCFG R569
  ⟨0x20064, 1, 0x4, 1, 0x4, 0x0, 0x0, 0x0, 0x0, 0xFFFFFF00⟩,  -- PTP_EVT R569
  ⟨0x20068, 1, 0x4, 1, 0x4, 0x0, 0x0, 0x0, 0x0, 0xFFFFFFFF⟩,  -- PTP_TCERR R569
  ⟨0x20080, 4, 0x8, 1, 0x4, 0x0, 0xFFFF, 0x0, 0x0, 0x0⟩,  -- PTP_PCOMP_IN R569
  ⟨0x20084, 4, 0x8, 1, 0x4, 0x0, 0xFFFF, 0x0, 0x0, 0x0⟩,  -- PTP_PCOMP_EG R569
  ⟨0x20400, 32, 0x20, 1, 0x4, 0x1, 0xFFFCFFFF, 0x0, 0x0, 0x0⟩,  -- CLP_TCFG R570
  ⟨0x20404, 32, 0x20, 1, 0x4, 0x0, 0xFFFFFFFF, 0x0, 0x0, 0x0⟩,  -- CLP_TT0 R570
  ⟨0x20408, 32, 0x20, 1, 0x4, 0x0, 0xFFFFFFFF, 0x0, 0x0, 0x0⟩,  -- CLP_TT1 R570
  ⟨0x2040C, 32, 0x20, 1, 0x4, 0x0, 0xFFFF, 0x0, 0x0, 0x0⟩,  -- CLP_TT2 R570
  ⟨0x20410, 32, 0x20, 1, 0x4, 0x3E8, 0xFFFFFFFF, 0x0, 0x0, 0x0⟩,  -- CLP_TPER R570
  ⟨0x20414, 32, 0x20, 1, 0x4, 0x0, 0xFFFFFFFF, 0x0, 0x0, 0x0⟩,  -- CLP_TPERF R570
  ⟨0x20418, 32, 0x20, 1, 0x4, 0x1, 0xFFFFFFFF, 0x0, 0x0, 0x0⟩,  -- CLP_TCNT R570
  ⟨0x2041C, 32, 0x20, 1, 0x4, 0x0, 0x0, 0x0, 0x0, 0xFFFFFF⟩,  -- CLP_TSTAT R570
  ⟨0x20800, 16, 0x20, 1, 0x4, 0x20000000, 0xF000001F, 0x0, 0x0, 0x0⟩,  -- CLP_CCFG R570
  ⟨0x20804, 16, 0x20, 1, 0x4, 0x0, 0x0, 0x0, 0x0, 0xFF⟩,  -- CLP_CSTAT R570
  ⟨0x20808, 16, 0x20, 1, 0x4, 0x0, 0x0, 0x0, 0x0, 0x0⟩,  -- CLP_CTS0 R570
  ⟨0x2080C, 16, 0x20, 1, 0x4, 0x0, 0x0, 0x0, 0x0, 0x0⟩,  -- CLP_CTS1 R570
  ⟨0x20810, 16, 0x20, 1, 0x4, 0x0, 0x0, 0x0, 0x0, 0x0⟩,  -- CLP_CTS2 R570
  ⟨0x20C00, 1, 0x4, 1, 0x4, 0x0, 0x0, 0x0, 0x0, 0x0⟩,  -- CLP_CLAIM R570
  ⟨0x20C04, 1, 0x4, 1, 0x4, 0x0, 0x0, 0x0, 0x0, 0x0⟩]  -- CLP_CLAIMC R570

/-- Registers of the CS slot (R42). -/
def regsCs : List RegRow := [
  ⟨0x30000, 1, 0x4, 1, 0x4, 0x400, 0xF00, 0x0, 0x0, 0x0⟩,  -- CS_CTRL R244
  ⟨0x30004, 1, 0x4, 1, 0x4, 0x1080019, 0x3F, 0x0, 0x0, 0x0⟩,  -- CS_RESERVE R244
  ⟨0x30008, 1, 0x4, 1, 0x4, 0x25800, 0x0, 0x0, 0x0, 0x0⟩,  -- CS_LIMITS R244
  ⟨0x3000C, 1, 0x4, 1, 0x4, 0x10000000, 0x0, 0x0, 0x0, 0x0⟩,  -- CS_TOKENS R244
  ⟨0x30040, 1, 0x4, 1, 0x4, 0x0, 0x0, 0x0, 0x0, 0x0⟩,  -- CS_DLDEPTH R244
  ⟨0x30044, 1, 0x4, 1, 0x4, 0x0, 0x0, 0x0, 0x0, 0x0⟩,  -- CS_DISSOLVE R244
  ⟨0x30400, 1, 0x4, 1, 0x4, 0x0, 0xFFF, 0x0, 0x0, 0x0⟩,  -- CS_TSEL R246
  ⟨0x30404, 1, 0x4, 1, 0x4, 0x0, 0x0, 0x0, 0x0, 0x0⟩,  -- CS_TSTATE R246
  ⟨0x30408, 1, 0x4, 1, 0x4, 0xFFFFF, 0x0, 0x0, 0x0, 0x0⟩,  -- CS_TWAIT_MIN R246
  ⟨0x3040C, 1, 0x4, 1, 0x4, 0x0, 0x0, 0x0, 0x0, 0x0⟩,  -- CS_TWAIT_MAX R246
  ⟨0x30410, 1, 0x4, 1, 0x4, 0x0, 0x0, 0x0, 0x0, 0x0⟩,  -- CS_TWAIT_LAST R246
  ⟨0x30414, 1, 0x4, 1, 0x4, 0x0, 0x0, 0x0, 0x0, 0x0⟩,  -- CS_TCTL R246
  ⟨0x30418, 1, 0x4, 1, 0x4, 0x0, 0x0, 0x0, 0x0, 0x0⟩,  -- CS_TUSED R246
  ⟨0x30020, 8, 0x4, 1, 0x4, 0x0, 0x0, 0x0, 0x0, 0x1FFF0000⟩,  -- CS_QDEPTH R244
  ⟨0x30100, 16, 0x10, 1, 0x4, 0x0, 0x0, 0x0, 0x0, 0x0⟩,  -- CS_ELOAD R245
  ⟨0x30104, 16, 0x10, 1, 0x4, 0x0, 0x0, 0x0, 0x0, 0xFFFFF⟩,  -- CS_EPEAK R245
  ⟨0x30108, 16, 0x10, 1, 0x4, 0x0, 0x0, 0x0, 0x0, 0x0⟩,  -- CS_EADMIT R245
  ⟨0x3010C, 16, 0x10, 1, 0x4, 0x0, 0x0, 0x0, 0x0, 0xFFFFFFFF⟩]  -- CS_EEVT R245

/-- Registers of the SPL slot (R42). -/
def regsSpl : List RegRow := [
  ⟨0x40000, 1, 0x4, 1, 0x4, 0x1, 0x1, 0x0, 0x0, 0x0⟩,  -- SPL_CTRL R292
  ⟨0x40004, 1, 0x4, 1, 0x4, 0x8, 0x0, 0x0, 0x0, 0x0⟩,  -- SPL_STAT R292
  ⟨0x40008, 1, 0x4, 1, 0x4, 0x0, 0x0, 0x0, 0x0, 0x0⟩,  -- SPL_CUTS R292
  ⟨0x4000C, 1, 0x4, 1, 0x4, 0x0, 0x0, 0x0, 0x0, 0x0⟩,  -- SPL_ARMED R292
  ⟨0x40010, 1, 0x4, 1, 0x4, 0x0, 0x0, 0x0, 0x0, 0x0⟩,  -- SPL_FADES R292
  ⟨0x40014, 1, 0x4, 1, 0x4, 0x0, 0x0, 0x0, 0x0, 0x1FFFF⟩,  -- SPL_FADEMAX R292
  ⟨0x40018, 1, 0x4, 1, 0x4, 0x0, 0x0, 0x0, 0x0, 0x0⟩,  -- SPL_ACTIVE R292
  ⟨0x4001C, 1, 0x4, 1, 0x4, 0x0, 0x0, 0x0, 0x0, 0x0⟩,  -- SPL_PASS R292
  ⟨0x40020, 1, 0x4, 1, 0x4, 0x0, 0x0, 0x0, 0x0, 0xFFFFF⟩,  -- SPL_PASSMAX R292
  ⟨0x40024, 1, 0x4, 1, 0x4, 0x0, 0x0, 0x0, 0x0, 0xFFFFFFFF⟩,  -- SPL_CLIPCNT R292
  ⟨0x40028, 1, 0x4, 1, 0x4, 0x0, 0x0, 0x0, 0x0, 0xFFFF⟩,  -- SPL_LAWFB R292
  ⟨0x40040, 1, 0x4, 1, 0x4, 0x0, 0x3FFFFF, 0x0, 0x0, 0x0⟩,  -- SPL_XSEL R293
  ⟨0x40044, 1, 0x4, 1, 0x4, 0x0, 0x0, 0x0, 0x0, 0x0⟩,  -- SPL_XGAIN R293
  ⟨0x40048, 1, 0x4, 1, 0x4, 0x0, 0x0, 0x0, 0x0, 0x0⟩,  -- SPL_XFADE R293
  ⟨0x4004C, 1, 0x4, 1, 0x4, 0x0, 0x0, 0x0, 0x0, 0x0⟩]  -- SPL_XTARGET R293

/-- Registers of the SP slot (R42). -/
def regsSp : List RegRow := [
  ⟨0x50000, 64, 0x100, 1, 0x4, 0x8000000, 0xFF800000, 0x0, 0x0, 0x0⟩,  -- SP_CFG R388
  ⟨0x50004, 64, 0x100, 1, 0x4, 0x0, 0xF8000000, 0x0, 0x0, 0x0⟩,  -- SP_CTRL R389
  ⟨0x50008, 64, 0x100, 1, 0x4, 0x0, 0x0, 0x0, 0x0, 0x0⟩,  -- SP_STAT R389
  ⟨0x5000C, 64, 0x100, 1, 0x4, 0x0, 0xFFFFFFFF, 0x0, 0x0, 0x0⟩,  -- SP_MASK_IN R389
  ⟨0x50010, 64, 0x100, 1, 0x4, 0x0, 0xFFFFFFFF, 0x0, 0x0, 0x0⟩,  -- SP_MASK_OUT R389
  ⟨0x50014, 64, 0x100, 1, 0x4, 0x0, 0x3F3F, 0x0, 0x0, 0x0⟩,  -- SP_NCH R388
  ⟨0x50060, 64, 0x100, 1, 0x4, 0x0, 0x0, 0x0, 0x0, 0x0⟩,  -- SP_TS0 R390
  ⟨0x50064, 64, 0x100, 1, 0x4, 0x0, 0x0, 0x0, 0x0, 0x0⟩,  -- SP_TS1 R390
  ⟨0x50068, 64, 0x100, 1, 0x4, 0x0, 0x0, 0x0, 0x0, 0x0⟩,  -- SP_TS2 R390
  ⟨0x5006C, 64, 0x100, 1, 0x4, 0x0, 0x0, 0x0, 0x0, 0x0⟩,  -- SP_BSEQ R390
  ⟨0x50070, 64, 0x100, 1, 0x4, 0x0, 0x0, 0x0, 0x0, 0x0⟩,  -- SP_LAT R390
  ⟨0x50080, 64, 0x100, 1, 0x4, 0x0, 0x0, 0x0, 0x0, 0xFFFFFFFF⟩,  -- SP_ERR R390
  ⟨0x50084, 64, 0x100, 1, 0x4, 0x0, 0x0, 0x0, 0x0, 0xFFFFFFFF⟩,  -- SP_SATCNT R390
  ⟨0x50088, 64, 0x100, 1, 0x4, 0x0, 0x0, 0x0, 0x0, 0xFFFFFFFF⟩,  -- SP_DMAERR R390
  ⟨0x5008C, 64, 0x100, 1, 0x4, 0x0, 0x0, 0x0, 0x0, 0xFFFFFFFF⟩,  -- SP_DMALATE R390
  ⟨0x50090, 64, 0x100, 1, 0x4, 0x0, 0x0, 0x0, 0x0, 0x0⟩,  -- SP_DMA_STAT R390
  ⟨0x500A0, 64, 0x100, 1, 0x4, 0x2, 0x7FFF, 0x0, 0x0, 0x0⟩,  -- SP_CAP_CFG R390
  ⟨0x500A4, 64, 0x100, 1, 0x4, 0x0, 0xFFFFFFC0, 0x0, 0x0, 0x0⟩,  -- SP_CAP_BASE_LO R390
  ⟨0x500A8, 64, 0x100, 1, 0x4, 0x0, 0xFFFFFFFF, 0x0, 0x0, 0x0⟩,  -- SP_CAP_BASE_HI R390
  ⟨0x500AC, 64, 0x100, 1, 0x4, 0x0, 0x0, 0x0, 0x0, 0x0⟩,  -- SP_CAP_WPTR R390
  ⟨0x500B0, 64, 0x100, 1, 0x4, 0x0, 0xFFF, 0x0, 0x0, 0x0⟩,  -- SP_CAP_RPTR R390
  ⟨0x500C0, 64, 0x100, 1, 0x4, 0x2, 0x7FFF, 0x0, 0x0, 0x0⟩,  -- SP_PLY_CFG R390
  ⟨0x500C4, 64, 0x100, 1, 0x4, 0x0, 0xFFFFFFC0, 0x0, 0x0, 0x0⟩,  -- SP_PLY_BASE_LO R390
  ⟨0x500C8, 64, 0x100, 1, 0x4, 0x0, 0xFFFFFFFF, 0x0, 0x0, 0x0⟩,  -- SP_PLY_BASE_HI R390
  ⟨0x500CC, 64, 0x100, 1, 0x4, 0x0, 0xFFF, 0x0, 0x0, 0x0⟩,  -- SP_PLY_WPTR R390
  ⟨0x500D0, 64, 0x100, 1, 0x4, 0x0, 0x0, 0x0, 0x0, 0x0⟩,  -- SP_PLY_RPTR R390
  ⟨0x50020, 64, 0x100, 8, 0x4, 0x0, 0x1F1F1F1F, 0x0, 0x0, 0x0⟩,  -- SP_MAP_IN R388
  ⟨0x50040, 64, 0x100, 8, 0x4, 0x0, 0x1F1F1F1F, 0x0, 0x0, 0x0⟩,  -- SP_MAP_OUT R388
  ⟨0x54000, 16, 0x20, 1, 0x4, 0x8140000, 0xFFFFE000, 0x0, 0x0, 0x0⟩,  -- CG_CFG R386
  ⟨0x54004, 16, 0x20, 1, 0x4, 0x0, 0x0, 0x0, 0x40000000, 0x0⟩,  -- CG_STAT R387
  ⟨0x54008, 16, 0x20, 1, 0x4, 0x0, 0x0, 0x0, 0x0, 0x0⟩,  -- CG_RATE R387
  ⟨0x5400C, 16, 0x20, 1, 0x4, 0x64, 0xFFFF, 0x0, 0x0, 0x0⟩,  -- CG_RATETOL R387
  ⟨0x56000, 1, 0x4, 1, 0x4, 0x400, 0x0, 0x0, 0x0, 0x0⟩]  -- ASRC_STAT R387

/-- Registers of the NET slot (R42). -/
def regsNet : List RegRow := [
  ⟨0x60000, 5, 0x400, 1, 0x4, 0x5F2, 0xFFE03FFF, 0x0, 0x0, 0x0⟩,  -- NET_PCFG R446
  ⟨0x60004, 5, 0x400, 1, 0x4, 0x0, 0x0, 0x0, 0x0, 0x0⟩,  -- NET_PSTAT R446
  ⟨0x60008, 5, 0x400, 1, 0x4, 0x0, 0xFFFFFFFF, 0x0, 0x0, 0x0⟩,  -- NET_PMAC_LO R445
  ⟨0x6000C, 5, 0x400, 1, 0x4, 0x0, 0xFFFF, 0x0, 0x0, 0x0⟩,  -- NET_PMAC_HI R445
  ⟨0x60010, 5, 0x400, 1, 0x4, 0x0, 0xFFFFFFFF, 0x0, 0x0, 0x0⟩,  -- NET_PIP4 R445
  ⟨0x60014, 5, 0x400, 1, 0x4, 0x0, 0xFFFFFFFF, 0x0, 0x0, 0x0⟩,  -- NET_PIP6_0 R445
  ⟨0x60018, 5, 0x400, 1, 0x4, 0x0, 0xFFFFFFFF, 0x0, 0x0, 0x0⟩,  -- NET_PIP6_1 R445
  ⟨0x6001C, 5, 0x400, 1, 0x4, 0x0, 0xFFFFFFFF, 0x0, 0x0, 0x0⟩,  -- NET_PIP6_2 R445
  ⟨0x60020, 5, 0x400, 1, 0x4, 0x0, 0xFFFFFFFF, 0x0, 0x0, 0x0⟩,  -- NET_PIP6_3 R445
  ⟨0x60024, 5, 0x400, 1, 0x4, 0x1, 0x7FFF, 0x0, 0x0, 0x0⟩,  -- NET_PVLAN R446
  ⟨0x60028, 5, 0x400, 1, 0x4, 0x64, 0xFFFF, 0x0, 0x0, 0x0⟩,  -- NET_PAUSECFG R446
  ⟨0x6002C, 5, 0x400, 8, 0x4, 0x0, 0xFFFFFFFF, 0x0, 0x0, 0x0⟩,  -- NET_MCHASH R445
  ⟨0x60100, 5, 0x400, 1, 0x4, 0x0, 0x0, 0x0, 0x0, 0xFFFFFFFF⟩,  -- NET_RX_FRAMES_LO R444
  ⟨0x60104, 5, 0x400, 1, 0x4, 0x0, 0x0, 0x0, 0x0, 0xFFFFFFFF⟩,  -- NET_RX_FRAMES_HI R444
  ⟨0x60108, 5, 0x400, 1, 0x4, 0x0, 0x0, 0x0, 0x0, 0xFFFFFFFF⟩,  -- NET_RX_BYTES_LO R444
  ⟨0x6010C, 5, 0x400, 1, 0x4, 0x0, 0x0, 0x0, 0x0, 0xFFFFFFFF⟩,  -- NET_RX_BYTES_HI R444
  ⟨0x60110, 5, 0x400, 1, 0x4, 0x0, 0x0, 0x0, 0x0, 0xFFFFFFFF⟩,  -- NET_RUNT R444
  ⟨0x60114, 5, 0x400, 1, 0x4, 0x0, 0x0, 0x0, 0x0, 0xFFFFFFFF⟩,  -- NET_OVERSIZE R444
  ⟨0x60118, 5, 0x400, 1, 0x4, 0x0, 0x0, 0x0, 0x0, 0xFFFFFFFF⟩,  -- NET_CRCERR R444
  ⟨0x6011C, 5, 0x400, 1, 0x4, 0x0, 0x0, 0x0, 0x0, 0xFFFFFFFF⟩,  -- NET_FRAGERR R444
  ⟨0x60120, 5, 0x400, 1, 0x4, 0x0, 0x0, 0x0, 0x0, 0xFFFFFFFF⟩,  -- NET_RX_NOPOOL R444
  ⟨0x60124, 5, 0x400, 1, 0x4, 0x0, 0x0, 0x0, 0x0, 0xFFFFFFFF⟩,  -- NET_RX_NOBUF R444
  ⟨0x60128, 5, 0x400, 1, 0x4, 0x0, 0x0, 0x0, 0x0, 0xFFFFFFFF⟩,  -- NET_CTRL_OTHER R444
  ⟨0x6012C, 5, 0x400, 1, 0x4, 0x0, 0x0, 0x0, 0x0, 0xFFFFFFFF⟩,  -- NET_PAUSE_RX R444
  ⟨0x60130, 5, 0x400, 1, 0x4, 0x0, 0x0, 0x0, 0x0, 0xFFFFFFFF⟩,  -- NET_PAUSE_BROKEN R444
  ⟨0x60134, 5, 0x400, 1, 0x4, 0x0, 0x0, 0x0, 0x0, 0xFFFFFFFF⟩,  -- NET_NOTMINE R444
  ⟨0x60140, 5, 0x400, 1, 0x4, 0x0, 0x0, 0x0, 0x0, 0xFFFFFFFF⟩,  -- NET_TX_FRAMES_LO R444
  ⟨0x60144, 5, 0x400, 1, 0x4, 0x0, 0x0, 0x0, 0x0, 0xFFFFFFFF⟩,  -- NET_TX_FRAMES_HI R444
  ⟨0x60148, 5, 0x400, 1, 0x4, 0x0, 0x0, 0x0, 0x0, 0xFFFFFFFF⟩,  -- NET_TX_BYTES_LO R444
  ⟨0x6014C, 5, 0x400, 1, 0x4, 0x0, 0x0, 0x0, 0x0, 0xFFFFFFFF⟩,  -- NET_TX_BYTES_HI R444
  ⟨0x60150, 5, 0x400, 1, 0x4, 0x0, 0x0, 0x0, 0x0, 0xFFFFFFFF⟩,  -- NET_TX_OVERSIZE R444
  ⟨0x60154, 5, 0x400, 1, 0x4, 0x0, 0x0, 0x0, 0x0, 0xFFFFFFFF⟩,  -- NET_TX_DESCERR R444
  ⟨0x60158, 5, 0x400, 1, 0x4, 0x0, 0x0, 0x0, 0x0, 0xFFFFFFFF⟩,  -- NET_TX_LATE R444
  ⟨0x6015C, 5, 0x400, 1, 0x4, 0x0, 0x0, 0x0, 0x0, 0xFFFFFFFF⟩,  -- NET_TX_LINKDOWN R444
  ⟨0x60160, 5, 0x400, 1, 0x4, 0x0, 0x0, 0x0, 0x0, 0xFFFFFFFF⟩,  -- NET_PREEMPTS R444
  ⟨0x60164, 5, 0x400, 1, 0x4, 0x0, 0x0, 0x0, 0x0, 0xFFFFFFFF⟩,  -- NET_BR_FWD R444
  ⟨0x60168, 5, 0x400, 1, 0x4, 0x0, 0x0, 0x0, 0x0, 0xFFFFFFFF⟩,  -- NET_BR_DROP R444
  ⟨0x6016C, 5, 0x400, 1, 0x4, 0x0, 0x0, 0x0, 0x0, 0xFFFFFFFF⟩,  -- NET_BR_LEARNFULL R444
  ⟨0x62000, 8, 0x20, 1, 0x4, 0x0, 0xFFFFFFC0, 0x0, 0x0, 0x0⟩,  -- NET_RXBASE_LO R447
  ⟨0x62004, 8, 0x20, 1, 0x4, 0x0, 0xFFFFFFFF, 0x0, 0x0, 0x0⟩,  -- NET_RXBASE_HI R447
  ⟨0x62008, 8, 0x20, 1, 0x4, 0x100, 0x1FFF, 0x0, 0x0, 0x0⟩,  -- NET_RXLEN R447
  ⟨0x6200C, 8, 0x20, 1, 0x4, 0x0, 0x0, 0x0, 0x0, 0x0⟩,  -- NET_RXHEAD R447
  ⟨0x62010, 8, 0x20, 1, 0x4, 0x0, 0xFFF, 0x0, 0x0, 0x0⟩,  -- NET_RXTAIL R447
  ⟨0x62014, 8, 0x20, 1, 0x4, 0x0, 0x1, 0x0, 0x0, 0x0⟩,  -- NET_RXCTRL R447
  ⟨0x62200, 8, 0x20, 1, 0x4, 0x0, 0xFFFFFFC0, 0x0, 0x0, 0x0⟩,  -- NET_TXBASE_LO R447
  ⟨0x62204, 8, 0x20, 1, 0x4, 0x0, 0xFFFFFFFF, 0x0, 0x0, 0x0⟩,  -- NET_TXBASE_HI R447
  ⟨0x62208, 8, 0x20, 1, 0x4, 0x100, 0x1FFF, 0x0, 0x0, 0x0⟩,  -- NET_TXLEN R447
  ⟨0x6220C, 8, 0x20, 1, 0x4, 0x0, 0x0, 0x0, 0x0, 0x0⟩,  -- NET_TXHEAD R447
  ⟨0x62210, 8, 0x20, 1, 0x4, 0x0, 0xFFF, 0x0, 0x0, 0x0⟩,  -- NET_TXTAIL R447
  ⟨0x62214, 8, 0x20, 1, 0x4, 0x0, 0x1, 0x0, 0x0, 0x0⟩,  -- NET_TXCTRL R447
  ⟨0x63000, 1, 0x4, 1, 0x4, 0x1000200, 0x7FF07FF, 0x0, 0x0, 0x0⟩,  -- NET_POOL R446
  ⟨0x63004, 1, 0x4, 1, 0x4, 0x800, 0x0, 0x0, 0x0, 0x0⟩,  -- NET_POOLSTAT R446
  ⟨0x63008, 1, 0x4, 1, 0x4, 0x200, 0x3FF, 0x0, 0x0, 0x0⟩,  -- NET_SPART R446
  ⟨0x6300C, 1, 0x4, 1, 0x4, 0x0, 0x0, 0x0, 0x0, 0x80000000⟩,  -- NET_HBUF_ALLOC R446
  ⟨0x63010, 1, 0x4, 1, 0x4, 0x0, 0x0, 0x0, 0x0, 0x0⟩,  -- NET_HBUF_FREE R446
  ⟨0x63014, 1, 0x4, 1, 0x4, 0x12C, 0xF00FFFF, 0x0, 0x0, 0x0⟩,  -- NET_BRCFG R446
  ⟨0x63018, 1, 0x4, 1, 0x4, 0x0, 0xFFFFFF, 0x0, 0x0, 0x0⟩,  -- NET_RXMAP R446
  ⟨0x64000, 1, 0x4, 1, 0x4, 0x0, 0x3FF, 0x0, 0x0, 0x0⟩,  -- NET_CSEL R447
  ⟨0x64004, 1, 0x4, 1, 0x4, 0x0, 0x0, 0x0, 0x0, 0x0⟩,  -- NET_CSTAT R447
  ⟨0x64040, 20, 0x4, 1, 0x4, 0x0, 0x0, 0x0, 0x0, 0x0⟩,  -- NET_CWORD R414
  ⟨0x64100, 8, 0x4, 1, 0x4, 0x0, 0x0, 0x0, 0x0, 0xFFFFFFFF⟩]  -- NET_CCNT R444

/-- Registers of the DL slot (R42). -/
def regsDl : List RegRow := [
  ⟨0x70000, 4, 0x4, 1, 0x4, 0x0, 0xC0000000, 0x0, 0x0, 0x0⟩,  -- DL_CK R477
  ⟨0x70100, 32, 0x10, 1, 0x4, 0x0, 0xF8000000, 0x0, 0x0, 0x0⟩,  -- DL_LCFG R477
  ⟨0x70104, 32, 0x10, 1, 0x4, 0x0, 0x0, 0x37FFF, 0x0, 0x0⟩,  -- DL_LDLY R477
  ⟨0x70108, 32, 0x10, 1, 0x4, 0x1400, 0x0, 0x0, 0x0, 0x0⟩,  -- DL_LSTAT R477
  ⟨0x7010C, 32, 0x10, 1, 0x4, 0x0, 0x0, 0x0, 0x0, 0xFFFFFFFF⟩,  -- DL_LERR R477
  ⟨0x70400, 1, 0x4, 1, 0x4, 0x1, 0xC0001FFF, 0x0, 0x0, 0x0⟩,  -- DL_MCTRL R477
  ⟨0x70404, 1, 0x4, 1, 0x4, 0x0, 0x0, 0x0, 0x0, 0x0⟩,  -- DL_MSTAT R477
  ⟨0x70440, 1, 0x4, 1, 0x4, 0x0, 0xFFFFFFC0, 0x0, 0x0, 0x0⟩,  -- DL_MBASE_LO R477
  ⟨0x70444, 1, 0x4, 1, 0x4, 0x0, 0xFFFFFFFF, 0x0, 0x0, 0x0⟩,  -- DL_MBASE_HI R477
  ⟨0x70448, 1, 0x4, 1, 0x4, 0x2, 0x1FFF, 0x0, 0x0, 0x0⟩,  -- DL_MLEN R477
  ⟨0x7044C, 1, 0x4, 1, 0x4, 0x0, 0x0, 0x0, 0x0, 0x0⟩,  -- DL_MWPTR R477
  ⟨0x70450, 1, 0x4, 1, 0x4, 0x0, 0xFFF, 0x0, 0x0, 0x0⟩,  -- DL_MRPTR R477
  ⟨0x70454, 1, 0x4, 1, 0x4, 0x0, 0x0, 0x0, 0x0, 0xFFFFFFFF⟩,  -- DL_MERR R477
  ⟨0x70460, 1, 0x4, 1, 0x4, 0x0, 0xFFF, 0x0, 0x0, 0x0⟩,  -- DL_MSEL R477
  ⟨0x70464, 1, 0x4, 1, 0x4, 0xFFFF0000, 0x0, 0x0, 0x0, 0x0⟩,  -- DL_MPT R477
  ⟨0x70410, 4, 0x4, 1, 0x4, 0x101, 0x1F7F, 0x0, 0x0, 0x0⟩,  -- DL_RMSWIN R477
  ⟨0x70420, 4, 0x8, 1, 0x4, 0x1, 0x7FFFFFFF, 0x0, 0x0, 0x0⟩,  -- DL_ENVATT R477
  ⟨0x70424, 4, 0x8, 1, 0x4, 0x1, 0x7FFFFFFF, 0x0, 0x0, 0x0⟩]  -- DL_ENVREL R477

/-- Registers of the FAB/MEM slot (R42). -/
def regsFabmem : List RegRow := [
  ⟨0x80000, 1, 0x4, 1, 0x4, 0x800, 0xC0000FFF, 0x0, 0x0, 0x0⟩,  -- FAB_CTRL R612
  ⟨0x80004, 1, 0x4, 1, 0x4, 0x1E00000, 0x0, 0x0, 0x0, 0x0⟩,  -- FAB_CREDIT R612
  ⟨0x80008, 1, 0x4, 1, 0x4, 0x0, 0x0, 0x0, 0x0, 0xFFFF⟩,  -- FAB_XRESET R612
  ⟨0x80100, 1, 0x4, 1, 0x4, 0x0, 0x0, 0x0, 0x0, 0xFFFFFFFF⟩,  -- MEM_ECC R612
  ⟨0x80104, 1, 0x4, 1, 0x4, 0x0, 0x0, 0x0, 0x0, 0x0⟩,  -- MEM_ECCADDR R612
  ⟨0x80108, 1, 0x4, 1, 0x4, 0x0, 0x0, 0x0, 0x0, 0xFFFFFFFF⟩,  -- MEM_CONFLICT R612
  ⟨0x8010C, 1, 0x4, 1, 0x4, 0x0, 0x0, 0x0, 0x0, 0xFFFF⟩,  -- MEM_WWCOL R612
  ⟨0x80200, 1, 0x4, 1, 0x4, 0x0, 0xFF000000, 0x0, 0x0, 0x0⟩,  -- DDR_CFG R612
  ⟨0x80204, 1, 0x4, 1, 0x4, 0x0, 0x0, 0x0, 0x0, 0xFFFF⟩,  -- DDR_STAT R612
  ⟨0x80208, 1, 0x4, 1, 0x4, 0x0, 0x0, 0x0, 0x0, 0xFFFF⟩,  -- DDR_LATMAX R612
  ⟨0x80300, 1, 0x4, 1, 0x4, 0x1DCD6, 0x3FFFF, 0x0, 0x0, 0x0⟩,  -- MRAM_CFG R612
  ⟨0x80304, 1, 0x4, 1, 0x4, 0x52, 0x0, 0x0, 0x0, 0x0⟩,  -- MRAM_STAT R612
  ⟨0x80308, 1, 0x4, 1, 0x4, 0x0, 0xFFF, 0x0, 0x0, 0x0⟩,  -- MRAM_WSEL R612
  ⟨0x8030C, 1, 0x4, 1, 0x4, 0x0, 0x0, 0x0, 0x0, 0x0⟩,  -- MRAM_WEAR_LO R612
  ⟨0x80310, 1, 0x4, 1, 0x4, 0x0, 0x0, 0x0, 0x0, 0x0⟩,  -- MRAM_WEAR_HI R612
  ⟨0x80400, 1, 0x4, 1, 0x4, 0x0, 0x0, 0x0, 0x0, 0x0⟩,  -- REP_STAT R612
  ⟨0x80500, 1, 0x4, 1, 0x4, 0x0, 0xC0000FFF, 0x0, 0x0, 0x0⟩,  -- MEM_CLAIMSEL R612
  ⟨0x80504, 1, 0x4, 1, 0x4, 0x0, 0x0, 0x0, 0x0, 0x0⟩,  -- MEM_CLAIM R612
  ⟨0x80508, 1, 0x4, 1, 0x4, 0x0, 0x0, 0x0, 0x0, 0x0⟩,  -- MEM_CLAIMBASE R612
  ⟨0x8050C, 1, 0x4, 1, 0x4, 0x0, 0x0, 0x0, 0x0, 0x0⟩,  -- MEM_CLAIMLEN R612
  ⟨0x80040, 10, 0x4, 1, 0x4, 0x0, 0x0, 0x0, 0x0, 0xFFFFFFFF⟩]  -- FAB_TBUSY R612

/-- Registers of the FLT slot (R42). -/
def regsFlt : List RegRow := [
  ⟨0x90000, 8, 0x4, 1, 0x4, 0x0, 0x0, 0x0, 0xFFFFFFFF, 0x0⟩,  -- FLT_STICKY R675
  ⟨0x90040, 1, 0x4, 1, 0x4, 0x0, 0x0, 0x0, 0x80000000, 0x0⟩,  -- FLT_FIRST R675
  ⟨0x90044, 1, 0x4, 1, 0x4, 0x0, 0x0, 0x0, 0x0, 0x0⟩,  -- FLT_FIRST_ADDR R675
  ⟨0x90048, 1, 0x4, 1, 0x4, 0x0, 0x0, 0x0, 0x0, 0x0⟩,  -- FLT_FIRST_SHOT R675
  ⟨0x9004C, 1, 0x4, 1, 0x4, 0x0, 0x0, 0x0, 0x0, 0x0⟩,  -- FLT_FIRST_SEC R675
  ⟨0x90050, 1, 0x4, 1, 0x4, 0x0, 0x0, 0x0, 0x0, 0xFFFF⟩,  -- FLT_STAT R675
  ⟨0x90054, 1, 0x4, 1, 0x4, 0x0, 0x0, 0x0, 0x0, 0x0⟩,  -- FLT_INJECT R675
  ⟨0x90058, 1, 0x4, 1, 0x4, 0x0, 0xFFFFFFFF, 0x0, 0x0, 0x0⟩,  -- FLT_INJADDR R675
  ⟨0x9005C, 1, 0x4, 1, 0x4, 0x0, 0x0, 0x0, 0x0, 0xFFFFFFFF⟩,  -- FLT_COUNT R675
  ⟨0x90400, 256, 0x4, 1, 0x4, 0x0, 0x33, 0x0, 0x0, 0x0⟩]  -- FLT_CFG R675

/-- Registers of the LOG slot (R42). -/
def regsLog : List RegRow := [
  ⟨0xA0000, 1, 0x4, 1, 0x4, 0x0, 0x0, 0x0, 0x0, 0x0⟩,  -- LOG_STAT R690
  ⟨0xA0004, 1, 0x4, 1, 0x4, 0x0, 0x0, 0x0, 0x0, 0x0⟩,  -- LOG_PHEAD R690
  ⟨0xA0008, 1, 0x4, 1, 0x4, 0x0, 0x0, 0x0, 0x0, 0x0⟩,  -- LOG_CHEAD R690
  ⟨0xA000C, 1, 0x4, 1, 0x4, 0x0, 0x0, 0x0, 0x0, 0x0⟩,  -- LOG_OLDEST R690
  ⟨0xA0010, 1, 0x4, 1, 0x4, 0x0, 0x0, 0x0, 0x0, 0xFFFFFFFF⟩,  -- LOG_WRITTEN R690
  ⟨0xA0014, 1, 0x4, 1, 0x4, 0x0, 0x0, 0x0, 0x0, 0xFFFFFFFF⟩,  -- LOG_SUPPTOT R690
  ⟨0xA0500, 1, 0x4, 1, 0x4, 0x0, 0xFF, 0x0, 0x0, 0x0⟩,  -- LOG_CSEL R690
  ⟨0xA0504, 1, 0x4, 1, 0x4, 0x800, 0x0, 0x0, 0x0, 0x0⟩,  -- LOG_CSTAT R690
  ⟨0xA0100, 256, 0x4, 1, 0x4, 0x803E8, 0xFFFFFF, 0x0, 0x0, 0x0⟩]  -- LOG_RATE R690

/-- Registers of the PCN slot (R42). -/
def regsPcn : List RegRow := [
  ⟨0xB0000, 1, 0x4, 1, 0x4, 0x0, 0xE0000000, 0x0, 0x0, 0x0⟩,  -- PCN_CTRL R701
  ⟨0xB0004, 1, 0x4, 1, 0x4, 0x0, 0xF03FFFF, 0x0, 0x0, 0x0⟩,  -- PCN_UACC R701
  ⟨0xB0008, 1, 0x4, 1, 0x4, 0x0, 0x0, 0x0, 0x0, 0x0⟩,  -- PCN_SNAPSEQ R701
  ⟨0xB0010, 1, 0x4, 1, 0x4, 0x10000000, 0x9F03FFFF, 0x0, 0x0, 0x0⟩,  -- PCN_TAG R701
  ⟨0xB0014, 1, 0x4, 1, 0x4, 0x1, 0xFFFFFF, 0x0, 0x0, 0x0⟩,  -- PCN_TSEED R701
  ⟨0xB1000, 18, 0x100, 8, 0x4, 0x0, 0xFFFFFFFF, 0x0, 0x0, 0x0⟩,  -- PCN_ECNT R701
  ⟨0xB1020, 18, 0x100, 8, 0x4, 0x0, 0xCFFF007F, 0x0, 0x0, 0x0⟩,  -- PCN_ESEL R701
  ⟨0xB1040, 18, 0x100, 8, 0x4, 0x0, 0x0, 0x0, 0x0, 0x0⟩,  -- PCN_ESNAP R701
  ⟨0xB1060, 18, 0x100, 1, 0x4, 0x0, 0x0, 0x0, 0x0, 0x80000000⟩,  -- PCN_TREC0 R701
  ⟨0xB1064, 18, 0x100, 1, 0x4, 0x0, 0x0, 0x0, 0x0, 0x0⟩,  -- PCN_TREC1 R701
  ⟨0xB4000, 32, 0x4, 1, 0x4, 0x0, 0xFFFFFFFF, 0x0, 0x0, 0x0⟩,  -- PCN_GCNT R701
  ⟨0xB4100, 32, 0x4, 1, 0x4, 0x0, 0x8000007F, 0x0, 0x0, 0x0⟩,  -- PCN_GSEL R701
  ⟨0xB4200, 32, 0x4, 1, 0x4, 0x0, 0x0, 0x0, 0x0, 0x0⟩]  -- PCN_GSNAP R701

/-- Registers of the STI/RL slot (R42). -/
def regsStirl : List RegRow := [
  ⟨0xC0000, 1, 0x4, 1, 0x4, 0x14, 0x800000FF, 0x0, 0x0, 0x0⟩,  -- STI_CFG R744
  ⟨0xC0004, 1, 0x4, 1, 0x4, 0x0, 0x0, 0x0, 0x0, 0x0⟩,  -- STI_STAT R744
  ⟨0xC0008, 1, 0x4, 1, 0x4, 0x0, 0x0, 0x0, 0x0, 0x0⟩,  -- STI_RENEW R744
  ⟨0xC000C, 1, 0x4, 1, 0x4, 0x0, 0x0, 0x0, 0x0, 0x0⟩,  -- STI_LEFT R744
  ⟨0xC0010, 1, 0x4, 1, 0x4, 0x0, 0x0, 0x0, 0x0, 0x0⟩,  -- STI_MIRROR R744
  ⟨0xC0014, 1, 0x4, 1, 0x4, 0x0, 0x0, 0x0, 0x0, 0x0⟩,  -- STI_MBACK R744
  ⟨0xC0018, 1, 0x4, 1, 0x4, 0x0, 0x0, 0x0, 0x0, 0xFFFFFFFF⟩,  -- STI_EVT R744
  ⟨0xC0100, 1, 0x4, 1, 0x4, 0x0, 0x0, 0x0, 0x0, 0x0⟩,  -- RL_STAT R744
  ⟨0xC0104, 1, 0x4, 1, 0x4, 0x0, 0x0, 0x0, 0x0, 0x0⟩,  -- RL_RBUF R744
  ⟨0xC0140, 1, 0x4, 1, 0x4, 0x0, 0x3FF, 0x0, 0x0, 0x0⟩,  -- RL_BSEL R744
  ⟨0xC0144, 1, 0x4, 1, 0x4, 0x0, 0x0, 0x0, 0x0, 0x0⟩,  -- RL_BMAP R744
  ⟨0xC0110, 2, 0x10, 1, 0x4, 0x0, 0x0, 0x0, 0x0, 0xFFFF⟩,  -- RL_LSTAT R744
  ⟨0xC0114, 2, 0x10, 1, 0x4, 0x0, 0x0, 0x0, 0x0, 0xFFFFFFFF⟩,  -- RL_LERR R744
  ⟨0xC0118, 2, 0x10, 1, 0x4, 0x0, 0x0, 0x0, 0x0, 0x0⟩]  -- RL_LDLY R744

/-- Registers of the CMD slot (R42). -/
def regsCmd : List RegRow := [
  ⟨0xD0000, 1, 0x4, 1, 0x4, 0x6, 0x7, 0x0, 0x0, 0x0⟩,  -- CMD_CTRL R655
  ⟨0xD0004, 1, 0x4, 1, 0x4, 0x0, 0x0, 0x0, 0x0, 0x0⟩,  -- CMD_STAT R655
  ⟨0xD0070, 1, 0x4, 1, 0x4, 0x0, 0xFFFFFFC0, 0x0, 0x0, 0x0⟩,  -- CMD_WB_LO R655
  ⟨0xD0074, 1, 0x4, 1, 0x4, 0x0, 0xFFFFFFFF, 0x0, 0x0, 0x0⟩,  -- CMD_WB_HI R655
  ⟨0xD0078, 1, 0x4, 1, 0x4, 0x0, 0x0, 0x0, 0x0, 0x0⟩,  -- CMD_RCTRL R655
  ⟨0xD0080, 1, 0x4, 1, 0x4, 0x0, 0x1F, 0x0, 0x0, 0x0⟩,  -- CMD_DDRWIN R655
  ⟨0xD0084, 1, 0x4, 1, 0x4, 0xC800, 0xFFFF, 0x0, 0x0, 0x0⟩,  -- CMD_UDP R655
  ⟨0xD0090, 1, 0x4, 1, 0x4, 0x0, 0x0, 0x0, 0xFFFFFFFF, 0x0⟩,  -- CMD_ISTAT R655
  ⟨0xD0094, 1, 0x4, 1, 0x4, 0x0, 0xFFFFFFFF, 0x0, 0x0, 0x0⟩,  -- CMD_IEN R655
  ⟨0xD0098, 1, 0x4, 1, 0x4, 0x0, 0xFFFFFFFF, 0x0, 0x0, 0x0⟩,  -- CMD_INTNEN R655
  ⟨0xD00A0, 1, 0x4, 1, 0x4, 0x0, 0x0, 0x0, 0xFFFFFFFF, 0x0⟩,  -- CMD_SPPEND_LO R655
  ⟨0xD00A4, 1, 0x4, 1, 0x4, 0x0, 0x0, 0x0, 0xFFFFFFFF, 0x0⟩,  -- CMD_SPPEND_HI R655
  ⟨0xD00B0, 1, 0x4, 1, 0x4, 0x0, 0x0, 0x0, 0x0, 0xFFFFFFFF⟩,  -- CMD_ERR R655
  ⟨0xD00B4, 1, 0x4, 1, 0x4, 0x0, 0x0, 0x0, 0x0, 0xFFFFFF00⟩,  -- CMD_DROP R655
  ⟨0xD0010, 3, 0x20, 1, 0x4, 0x0, 0xFFFFFFC0, 0x0, 0x0, 0x0⟩,  -- CMD_RING_BASE_LO R655
  ⟨0xD0014, 3, 0x20, 1, 0x4, 0x0, 0xFFFFFFFF, 0x0, 0x0, 0x0⟩,  -- CMD_RING_BASE_HI R655
  ⟨0xD0018, 3, 0x20, 1, 0x4, 0x100, 0x1FFF, 0x0, 0x0, 0x0⟩,  -- CMD_RING_LEN R655
  ⟨0xD001C, 3, 0x20, 1, 0x4, 0x0, 0x0, 0x0, 0x0, 0x0⟩,  -- CMD_RING_DEVPTR R655
  ⟨0xD0020, 3, 0x20, 1, 0x4, 0x0, 0xFFF, 0x0, 0x0, 0x0⟩,  -- CMD_RING_HOSTPTR R655
  ⟨0xD00C0, 3, 0x4, 1, 0x4, 0x0, 0x0, 0x0, 0x0, 0x0⟩,  -- CMD_HSEQ R655
  ⟨0xD00D0, 3, 0x4, 1, 0x4, 0x0, 0x0, 0x0, 0x0, 0x0⟩]  -- CMD_DSEQ R655

/-- Registers of the PIN slot (R42). -/
def regsPin : List RegRow := [
  ⟨0xE0000, 1, 0x4, 1, 0x4, 0x0, 0x0, 0x0, 0x0, 0x0⟩,  -- PIN_BANK R803
  ⟨0xE0004, 1, 0x4, 1, 0x4, 0x1555, 0x3FFF, 0x0, 0x0, 0x0⟩,  -- PIN_DRV R803
  ⟨0xE0008, 1, 0x4, 1, 0x4, 0x0, 0x3, 0x0, 0x0, 0x0⟩,  -- PIN_RGMII R803
  ⟨0xE0010, 1, 0x4, 1, 0x4, 0x0, 0xFFFFFFFF, 0x0, 0x0, 0x0⟩,  -- PIN_GPIO_EN R803
  ⟨0xE0014, 1, 0x4, 1, 0x4, 0x0, 0xFFFFFFFF, 0x0, 0x0, 0x0⟩,  -- PIN_GPIO_OE R803
  ⟨0xE0018, 1, 0x4, 1, 0x4, 0x0, 0xFFFFFFFF, 0x0, 0x0, 0x0⟩,  -- PIN_GPIO_OUT R803
  ⟨0xE001C, 1, 0x4, 1, 0x4, 0x0, 0x0, 0x0, 0x0, 0x0⟩,  -- PIN_GPIO_IN R803
  ⟨0xE0020, 1, 0x4, 1, 0x4, 0x0, 0x7F, 0x0, 0x0, 0x0⟩,  -- PIN_THERM R803
  ⟨0xE0024, 1, 0x4, 1, 0x4, 0x0, 0x0, 0x0, 0x0, 0xFFFF⟩,  -- PIN_THSTAT R803
  ⟨0xE0100, 1, 0x4, 1, 0x4, 0x0, 0xFF, 0x0, 0x0, 0x0⟩,  -- PIN_CLAIMSEL R803
  ⟨0xE0104, 1, 0x4, 1, 0x4, 0x0, 0x0, 0x0, 0x0, 0x0⟩,  -- PIN_CLAIM R803
  ⟨0xE0120, 8, 0x4, 1, 0x4, 0x0, 0x0, 0x0, 0x0, 0x0⟩]  -- PIN_CLAIMBMP R803

/-- Registers of the ENG slot (R42). -/
def regsEng : List RegRow := [
  ⟨0xF0000, 16, 0x1000, 1, 0x4, 0x0, 0x100, 0x1, 0x0, 0x0⟩,  -- ENG_CTRL R147
  ⟨0xF0004, 16, 0x1000, 1, 0x4, 0x83, 0x0, 0x0, 0x0, 0x0⟩,  -- ENG_STAT R148
  ⟨0xF0008, 16, 0x1000, 1, 0x4, 0x1F, 0x0, 0x0, 0x0, 0x0⟩,  -- ENG_ROLE R149
  ⟨0xF000C, 16, 0x1000, 1, 0x4, 0x0, 0x0, 0x0, 0x0, 0x0⟩,  -- ENG_PC R150
  ⟨0xF0010, 16, 0x1000, 1, 0x4, 0x0, 0x0, 0x0, 0x0, 0x0⟩,  -- ENG_LFLAG R150
  ⟨0xF0014, 16, 0x1000, 1, 0x4, 0x0, 0x0, 0x0, 0x3F, 0x0⟩,  -- ENG_EXC R151
  ⟨0xF0018, 16, 0x1000, 1, 0x4, 0x0, 0x0, 0x0, 0x0, 0x0⟩,  -- ENG_EXCINFO R151
  ⟨0xF001C, 16, 0x1000, 1, 0x4, 0x0, 0x0, 0x0, 0x0, 0xFFFFFFFF⟩,  -- ENG_ECC R152
  ⟨0xF0020, 16, 0x1000, 1, 0x4, 0x0, 0x0, 0x0, 0x0, 0x0⟩,  -- ENG_BIST R152
  ⟨0xF0100, 16, 0x1000, 1, 0x4, 0x0, 0x7FF, 0x0, 0x0, 0x0⟩,  -- ENG_DBGSEL R153
  ⟨0xF0104, 16, 0x1000, 1, 0x4, 0x0, 0xFFFFFFFF, 0x0, 0x0, 0x0⟩]  -- ENG_DBGDATA R153

/-- The registers of each slot (R42). -/
def regRowsOfSlot : Nat → List RegRow
  | 0 => regsSys
  | 1 => regsClk
  | 2 => regsPtp
  | 3 => regsCs
  | 4 => regsSpl
  | 5 => regsSp
  | 6 => regsNet
  | 7 => regsDl
  | 8 => regsFabmem
  | 9 => regsFlt
  | 10 => regsLog
  | 11 => regsPcn
  | 12 => regsStirl
  | 13 => regsCmd
  | 14 => regsPin
  | 15 => regsEng
  | _ => []

/-- The table row of the register at device address `a`; none where no register is implemented (R43). -/
def regRow (a : Nat) : Option RegRow :=
  (regRowsOfSlot (a / 0x10000)).find? (fun r => r.covers a)

end Sys2Proof.Machine
end

