-- ==== Sys2Proof/Machine/SMap.lean ====
section
/-! DEFINITION. Sparse maps as lists of key and value pairs in one canonical form: keys strictly rising, no entry equal
to the value an unlisted key has. Registers, memory, gains, D registers and accumulators are held so. -/

namespace Sys2Proof.Machine

/-- Value at key `k`; `d` where the key is not listed. -/
def smGet {α : Type} (d : α) : List (Nat × α) → Nat → α
  | [], _ => d
  | (k', v) :: t, k => if k = k' then v else smGet d t k

/-- An entry placed before the first larger key. -/
def smIns {α : Type} (k : Nat) (v : α) : List (Nat × α) → List (Nat × α)
  | [] => [(k, v)]
  | (k', v') :: t => if k < k' then (k, v) :: (k', v') :: t else (k', v') :: smIns k v t

/-- The map with key `k` at `v`; a value equal to `d`, what the unlisted key has, removes the entry. -/
def smPut {α : Type} [DecidableEq α] (d : α) (k : Nat) (v : α) (m : List (Nat × α)) : List (Nat × α) :=
  let rest := m.filter fun c => c.1 != k
  if v = d then rest else smIns k v rest

/-- Every key of the list is above `k`. -/
def smAbove {α : Type} (k : Nat) : List (Nat × α) → Bool
  | [] => true
  | (k', _) :: t => decide (k < k') && smAbove k t

/-- The canonical form: keys strictly rising and no entry equal to what its unlisted key has. -/
def smWf {α : Type} [DecidableEq α] (d : Nat → α) : List (Nat × α) → Bool
  | [] => true
  | (k, v) :: t => smAbove k t && decide (v ≠ d k) && smWf d t

/-- The entries whose key satisfies `p`. -/
def smKeep {α : Type} (p : Nat → Bool) (m : List (Nat × α)) : List (Nat × α) := m.filter (fun c => p c.1)

/-- Does some listed key satisfy `p`? -/
def smAny {α : Type} (p : Nat → α → Bool) (m : List (Nat × α)) : Bool := m.any (fun c => p c.1 c.2)

/-- What an unlisted byte of memory reads as: 0 (R757 for the SRAMs; a choice of the model for LPDDR5, log entry 3). -/
def memDefault (_ : Nat) : Byte := 0

/-- The canonical form of byte memory. -/
def Memory.wf (m : List Host.Cell) : Bool := smWf memDefault m

end Sys2Proof.Machine
end

