-- ==== Sys2Proof/Machine/State.lean ====
section
/-! DEFINITION. The state of the block: every register, memory, queue and unit state the spec names, as plain data. -/

namespace Sys2Proof.Machine

/-- Faults of the model: none. For every error the spec names it says how the block goes on, so no command ends in a
fault; the type is empty and no meaning can raise one. -/
inductive Fault
  deriving DecidableEq, Repr

/-- Refusals of the model. -/
inductive Refusal where
  /-- raised by an arm of `exec` whose command has no meaning yet; safe, since nothing is claimed of it -/
  | notModelled (mnemonic : String)
  deriving DecidableEq, Repr

/-! ### What leaves the block -/

/-- One thing the block gives to the outside: the boundary outputs of the commands (ports, rings, pins, links). -/
inductive Output where
  /-- a reply on transport `tr` (0 PCIe, 1 MGMT, 2 SPI), as its packet words (R630) -/
  | reply (tr : Nat) (dest : Nat) (words : List Word)
  /-- a notification on transport `tr` (R641) -/
  | notice (tr : Nat) (words : List Word)
  /-- words the block writes into host memory (ring slots, write-back blocks, completions) -/
  | hostWrite (addr : Nat) (words : List Word)
  /-- bytes the block writes into host memory (received frames) -/
  | hostBytes (addr : Nat) (bytes : List Byte)
  /-- MSI-X vector (R653) -/
  | msix (vector : Nat)
  /-- words clocked out on SPI (R626) -/
  | spi (words : List Word)
  /-- words answered to a read of the host -/
  | readData (words : List Word)
  /-- a level driven on a pin: `pin` is the ball name of chapter 18 -/
  | pin (pin : String) (level : Bool)
  /-- the slots sent in one serial frame by port `p` (R342); none where a slot is high-impedance -/
  | slots (p : Nat) (words : List (Option Nat))
  /-- a frame sent on MP0 to MP3 (0 to 3) or MGMT (4) -/
  | frame (port : Nat) (bytes : List Byte)
  /-- an output block released to a port, a stream or a Reel link (R28) -/
  | block (channel : Nat) (samples : List Word) (bsw : Word)
  /-- a message on the stand-in link (chapter 16): its kind and its words -/
  | sti (kind : String) (words : List Nat)
  /-- a message on Reel link `link` -/
  | rl (link : Nat) (kind : String) (words : List Nat)
  /-- a session of LPDDR5 training, an engine restart or another act named by a string of its rule -/
  | act (name : String) (args : List Nat)
  deriving DecidableEq, Repr

/-! ### Blocks (chapter 02) -/

/-- A block in stage memory (R67): its samples in time order and its block status word. -/
structure Blk where
  samples : List Word
  bsw : Word
  deriving DecidableEq, Repr

/-! ### Eroliq engines (chapters 03 and 04) -/

/-- One level of hardware loop: start, last and remaining count (R99, R187). -/
structure LoopLvl where
  start : Nat
  last : Nat
  count : Nat
  deriving DecidableEq, Repr

/-- A register bank of an engine (R99); lane L of a per-lane register with n units stands at key L * n + index. -/
structure Bank where
  /-- D registers: key lane * 16 + n, 0 where not listed -/
  d : List (Nat × Word)
  /-- accumulators: key lane * 4 + a, 0 where not listed -/
  acc : List (Nat × Acc)
  /-- hold bits: bit lane * 4 + a -/
  h : BitVec 32
  /-- lane flags, bit per lane -/
  z : Byte
  n : Byte
  v : Byte
  s : Byte
  g : Byte
  /-- cursor fields by register code 0x10 to 0x2F (R166), 0 where not listed -/
  cur : List (Nat × BitVec 16)
  /-- program counter -/
  pc : Nat
  /-- hardware loop levels, innermost first, at most 3 -/
  loops : List LoopLvl
  /-- call stack, top first, at most 4 -/
  stack : List Nat
  /-- physical coefficient page seen by the dispatch: false A, true B (R106) -/
  page : Bool
  deriving DecidableEq, Repr

/-- An empty register bank: the state of a fresh dispatch before its entry point and address image (R134). -/
def Bank.empty : Bank := ⟨[], [], 0, 0, 0, 0, 0, 0, [], 0, [], [], false⟩

/-- A store on its way to memory (R130 to R132): device word addresses of the lanes with the words to write. -/
structure StoreOp where
  isY : Bool
  cells : List (Nat × Word)
  deriving DecidableEq, Repr

/-- What an issued instruction produced, for the interlocks of R128 and R186: a register resource and the producer's
class. Resources: 0x00 to 0x2F register codes of R166, 0x40 + a accumulator a, 0x50 the lane flags. -/
structure Produced where
  res : Nat
  cls : Nat
  deriving DecidableEq, Repr

/-- What the inactive register bank holds (R223, R224, R227). -/
inductive BankUse where
  /-- nothing -/
  | none
  /-- a fresh candidate task, loaded -/
  | fresh (task : Nat)
  /-- the context of a task set aside, kept -/
  | kept (task : Nat)
  deriving DecidableEq, Repr

/-- An engine beside its registers. -/
structure EngU where
  /-- register banks 0 and 1 (R99); ENG_STAT.BANK names the active one -/
  bank0 : Bank
  bank1 : Bank
  /-- use of the inactive bank -/
  inact : BankUse
  /-- the context kept in the inactive bank, where `inact` is `kept` (R224, R227) -/
  keptCtx : Bank
  /-- stores issued and not yet at WB: of the last, the second last and the third last instruction (R130) -/
  st1 : List StoreOp
  st2 : List StoreOp
  st3 : List StoreOp
  /-- one-entry store buffers of X and Y memory (R131) -/
  bufX : Option StoreOp
  bufY : Option StoreOp
  /-- what the last instructions of the running task produced, latest first, at most 5 (R128, R186) -/
  hist : List (List Produced)
  /-- arithmetic mode in force since the last engine commit boundary; the slate value is ENG_CTRL.ACCWRAP (R126) -/
  accwrapLive : Bool
  /-- arithmetic mode of the running dispatch -/
  accwrap : Bool
  /-- an ARITH message was sent in this dispatch (R121) -/
  arithSent : Bool
  /-- task whose dispatch or pre-emption signal awaits acceptance, with whether it pre-empts (R222) -/
  pending : Option (Nat × Bool)
  /-- contexts saved in context slots: task and bank (R133, R224) -/
  slots : List (Nat × Bank)
  /-- slate-view bytes held while the page copy runs, oldest first (R109) -/
  held : List (Nat × Byte)
  /-- a slate page copy runs (R108) -/
  copying : Bool
  /-- the engine was halted while it ran a task (R147) -/
  haltedRun : Bool
  /-- the engine is to be retired when it leaves the mapping (R159) -/
  retire : Bool
  /-- the engine failed or passed the BIST of this boot and is marked retired in the repair table (R94) -/
  healthy : Bool
  deriving DecidableEq, Repr

/-- An engine after reset. -/
def EngU.reset : EngU :=
  { bank0 := Bank.empty, bank1 := Bank.empty, inact := .none, keptCtx := Bank.empty, st1 := [], st2 := [], st3 := [], bufX := none, bufY := none,
    hist := [], accwrapLive := false, accwrap := false, arithSent := false, pending := none, slots := [], held := [],
    copying := false, haltedRun := false, retire := false, healthy := true }

/-! ### Call Sheet (chapter 05) -/

/-- A task descriptor (R202) with the state the Call Sheet keeps of its task (R217). -/
structure TaskD where
  /-- the eight words of the descriptor -/
  words : List Word
  /-- in the live graph (CS_TSTATE.LIVE) -/
  live : Bool
  /-- in the slate graph (CS_TSTATE.SLATE) -/
  slate : Bool
  /-- in the outgoing graph of the running dissolve (R205) -/
  outgoing : Bool
  /-- became live at the take whose dissolve runs, and is first dispatched when its engine reads the new page (R322) -/
  fresh : Bool
  /-- state code of R217 -/
  st : Nat
  /-- consecutive overruns (R232) -/
  ovr : Nat
  /-- pending count (R218) -/
  pend : Nat
  /-- due in the running shot and not yet complete -/
  due : Bool
  /-- first dispatch of this shot has been accepted (R134) -/
  started : Bool
  /-- ended in this shot by an exception or ENFORCE (R140, R229): its outputs are formed under R77 -/
  stopped : Bool
  /-- cycles charged in this shot and in the last due shot (R228, R246) -/
  charge : Nat
  used : Nat
  /-- BUDGET message sent in this shot (R229) -/
  overBudget : Bool
  /-- waiting-time statistics (R243, R246) -/
  wmin : Nat
  wmax : Nat
  wlast : Nat
  /-- S flags of the lanes at the end of the task (R74) -/
  sflags : Byte
  /-- status words of the blocks that the IN list has staged in this shot (R209): key 8 * offset of the entry + lane -/
  inBsw : List (Nat × Word)
  deriving DecidableEq, Repr

/-- A free descriptor (R217). -/
def TaskD.free : TaskD :=
  { words := List.replicate 8 0, live := false, slate := false, outgoing := false, fresh := false, st := 0, ovr := 0,
    pend := 0, due := false, started := false, stopped := false, charge := 0, used := 0, overBudget := false,
    wmin := 0xFFFFF, wmax := 0, wlast := 0, sflags := 0, inBsw := [] }

/-- Settings of a delay line (R213). -/
structure LineSet where
  base : Nat
  len : Nat
  delay : Nat
  deriving DecidableEq, Repr

/-- A delay line (R213 to R216). -/
structure LineD where
  /-- live settings; none while unset -/
  live : Option LineSet
  /-- write index w -/
  w : Nat
  /-- w as it stood at the last shot boundary: before any LINE_WR of the running shot (R214) -/
  w0 : Nat
  /-- positions 0 to hw − 1 have been written since the line was set (R214) -/
  hw : Nat
  /-- a length staged at a take that applies when w wraps to 0 (R215) -/
  staged : Option Nat
  /-- settings in the slate -/
  slate : Option LineSet
  deriving DecidableEq, Repr

/-- An unset line. -/
def LineD.unset : LineD := ⟨none, 0, 0, 0, none, none⟩

/-- A list of transfer entries being served for a task (R212): which list (0 IN, 1 OUT, 2 MID), the next entry's offset and
the entries left. -/
structure Staging where
  task : Nat
  kind : Nat
  next : Nat
  left : Nat
  deriving DecidableEq, Repr

/-- The Call Sheet beside its registers. -/
structure CsU where
  /-- descriptors by task number; `TaskD.free` where not listed -/
  tasks : List (Nat × TaskD)
  /-- address images by number: 32 cursor values each in the order of R204; all 0 where not listed -/
  aimg : List (Nat × List (BitVec 16))
  /-- transfer table: two words per entry (R207); 0 where not listed -/
  xfer : List (Nat × (Word × Word))
  /-- line table; `LineD.unset` where not listed -/
  lines : List (Nat × LineD)
  /-- the eight ready lists, level 0 first, each in order of entry (R221) -/
  ready : List (List Nat)
  /-- lists being served, in order of issue (R212) -/
  staging : List Staging
  /-- running concealments: channel key, last valid sample v and index i (R83, R84) -/
  conceal : List (Nat × (Word × Nat))
  /-- cycles of the running shot per logical engine: charged, switch and hold (R245) -/
  load : List (Nat × Nat)
  /-- logical engine whose entry the staging DMA served last (R212) -/
  turn : Nat
  /-- logical engine whose entry the staging DMA serves; none while no list waits (R212) -/
  serving : Option Nat
  /-- a boundary has opened a shot whose tasks are still to be armed, behind what a take or a recast changes at that boundary (R316) -/
  armWait : Bool
  deriving DecidableEq, Repr

/-- The Call Sheet after reset: every descriptor free, the first turn at logical engine 0. -/
def CsU.reset : CsU := ⟨[], [], [], [], List.replicate 8 [], [], [], [], 15, none, false⟩

/-! ### Splice matrix (chapter 06) -/

/-- A crosspoint whose slate target differs from its live target (R261): target, law as written, length in samples. -/
structure SlateGain where
  gain : Word
  law : Bool
  len : Nat
  deriving DecidableEq, Repr

/-- A running fade (R273): end points, law as written, whether it runs in dB (R276), length, samples already applied. -/
structure Fade where
  g0 : Word
  g1 : Word
  law : Bool
  db : Bool
  len : Nat
  j : Nat
  deriving DecidableEq, Repr

/-- The Splice matrix beside its registers. Crosspoint (t, b) has key t * B + b (R254). -/
structure SplU where
  /-- live targets, 0 where not listed -/
  live : List (Nat × Word)
  /-- crosspoints changed in the slate -/
  slate : List (Nat × SlateGain)
  /-- changes committed at t0 that the matrix applies one shot later (R267, R268) -/
  commit : List (Nat × SlateGain)
  /-- a committed take waits for its take sample -/
  commitDue : Bool
  /-- running fades -/
  fades : List (Nat × Fade)
  /-- instantaneous gain of the selected crosspoint at the end of the last pass (R293) -/
  xgain : Word
  /-- samples left of the selected crosspoint's fade at the end of the last pass (R293) -/
  xremain : Nat
  /-- ZSKIP as the running pass uses it (R285) -/
  zskip : Bool
  /-- crosspoints that applied gain 0 in the last pass for a double-bit error (R577) -/
  bad : List Nat
  deriving DecidableEq, Repr

/-- The Splice matrix after reset. -/
def SplU.reset : SplU := ⟨[], [], [], false, [], 0, 0, true, []⟩

/-! ### Slate, take and dissolve (chapter 07) -/

/-- The pending take (R303, R307). -/
structure Take where
  /-- WHEN: 0 REL, 1 SHOT, 2 PTP, 3 CLAP -/
  when : Nat
  /-- s_T; none for a CLAP take that has not fired -/
  sT : Option Nat
  /-- trigger and K of a CLAP take -/
  trigger : Nat
  k : Nat
  dlen : Nat
  cutok : Bool
  forcecut : Bool
  /-- the take's words as received -/
  words : List Word
  /-- the lock boundary has passed (R313) -/
  locked : Bool
  /-- bus engines found at the lock boundary (R317) -/
  bus : List Nat
  deriving DecidableEq, Repr

/-- A take being committed after t0 (R316): its boundary, kind and the stages still to come. -/
structure Commit where
  t0 : Nat
  kind : Nat
  number : Nat
  dlen : Nat
  /-- bus engines have committed (R317) -/
  busDone : Bool
  /-- logical bus engines found at the lock boundary (R317) -/
  busEngines : List Nat
  deriving DecidableEq, Repr

/-- A dissolve in progress (R322 to R325). -/
structure Dissolve where
  t0 : Nat
  dlen : Nat
  number : Nat
  /-- it changes the task graph (CS_DISSOLVE.ACTIVE) -/
  graph : Bool
  /-- affected destinations by channel address (R321) -/
  affected : List Nat
  /-- live patches before the take: output channel and source (0xFFFF none) -/
  oldPatch : List (Nat × Nat)
  deriving DecidableEq, Repr

/-- A SLICE_INIT entry (R300). -/
structure SliceInit where
  w0 : Word
  w1 : Word
  deriving DecidableEq, Repr

/-- A recast (R155, R328): logical engine, source and target physical engine. -/
structure Recast where
  logical : Nat
  source : Nat
  target : Nat
  /-- issued by the Gaffer core itself (R329) -/
  auto : Bool
  deriving DecidableEq, Repr

/-- A cut recast under way (R157): the recast, its shot t0, and whether the lane-slice copy is complete. -/
structure CutRecast where
  r : Recast
  t0 : Nat
  copied : Bool
  deriving DecidableEq, Repr

/-- Slate and take state beside the registers. -/
structure TakeU where
  pending : Option Take
  /-- a take whose later stages are still to come -/
  commit : Option Commit
  dissolve : Option Dissolve
  /-- holds of R313 are in force -/
  hold : Bool
  /-- the last committed take ran as a graph cut -/
  lastCut : Bool
  /-- s_T of the last committed take -/
  lastST : Nat
  /-- live output patches: channel address to source, 0xFFFF none -/
  patch : List (Nat × Nat)
  /-- output patches changed in the slate -/
  patchSlate : List (Nat × Nat)
  /-- sources in force until a later boundary where a take changed a patch without a crossfade (R326): output channel, its
  old source and the shot at whose release the new one takes over -/
  patchOld : List (Nat × Nat × Nat)
  /-- SLICE_INIT entries of the slate, in order -/
  slices : List SliceInit
  /-- recasts of the slate -/
  recasts : List Recast
  /-- logical engines whose recast by the Gaffer core waits for the end of a hold (R313, R329) -/
  autoHeld : List Nat
  /-- recasts committed by a running dissolve (R156) -/
  dissRecasts : List Recast
  /-- cut recasts under way (R157) -/
  cutRecasts : List CutRecast
  /-- the pending take of a ring's chip that voted to accept awaits the master's commit (R335) -/
  unconfirmed : Bool
  /-- the last image committed for each SLICE_INIT entry, newest last (R724) -/
  images : List (SliceInit × List Word)
  /-- the take waits for the votes of the ring (R334): header of the TAKE packet and the GAP flag of its reply -/
  voting : Option (CmdHdr × Bool)
  /-- the take that a CHECKONLY packet puts to the vote (R634) -/
  asked : Option Take
  /-- the other chips of the ring in ring order, each with the status it has voted (R334) -/
  voters : List (Nat × Option Nat)
  deriving DecidableEq, Repr

/-- No take and an unchanged slate. -/
def TakeU.reset : TakeU :=
  { pending := none, commit := none, dissolve := none, hold := false, lastCut := false, lastST := 0, patch := [],
    patchSlate := [], patchOld := [], slices := [], recasts := [], autoHeld := [], dissRecasts := [], cutRecasts := [], unconfirmed := false, images := [], voting := none, asked := none,
    voters := [] }

/-! ### Serial ports and clock groups (chapter 08) -/

/-- A start or stop that waits for its shot boundary (R368, R433, R451): its direction (false in, true out; unused by streams
and lanes), whether it starts, the boundary it names (none while its trigger has not fired) and its trigger. -/
structure Sched where
  out : Bool
  start : Bool
  shot : Option Nat
  trig : Option Nat
  deriving DecidableEq, Repr

/-- A frame as a port holds it: per channel the sample and the BSW flags it brings to its block. -/
abbrev PFrame := List (Word × Nat)

/-- A serial port beside its registers. -/
structure PortU where
  /-- starts and stops that wait, in order of acceptance -/
  reqs : List Sched
  /-- slot masks in force (R352) -/
  maskIn : Nat
  maskOut : Nat
  /-- masks written, for the next frame start and for the one after it (R352) -/
  pendIn : Option Nat
  pendOut : Option Nat
  lateIn : Option Nat
  lateOut : Option Nat
  /-- the last frame of the group was correctly framed (R371) -/
  prevGood : Bool
  /-- input frames received and not yet in a block, oldest first; of a Converted port at the internal rate (R357, R365) -/
  inq : List PFrame
  /-- frames that a Converted port received since the last boundary, oldest first -/
  cvq : List PFrame
  /-- where among the frames received since the last boundary others are missing, and the input state in which they went missing:
  1 STARTING, 3 LOST (R371, R376) -/
  gap : Option (Nat × Nat)
  /-- output frames released and not yet sent, oldest first: per channel the sample -/
  outq : List (List Word)
  /-- frames still to be sent as zeros before the first released frame (R365, R372) -/
  outLead : Nat
  /-- a block has been released for the output since its start (R372) -/
  outOn : Bool
  /-- last output frame sent (R358) -/
  outLast : List Word
  /-- input frames of the running port block (R367) -/
  blk : List PFrame
  /-- frames of the running port block -/
  blkN : Nat
  /-- timestamp of the running port block (R367) -/
  tsSec : Nat
  tsNs : Nat
  /-- seconds of the timestamp in SP_TS0, latched into SP_TS1 and SP_TS2 at its read (R390) -/
  lastSec : Nat
  /-- frames left of the playback record that plays in the running block; none in an underrun (R381) -/
  ply : Option (List (List Word))
  /-- ASRC channels allocated per direction, and whether they are locked (R359, R363) -/
  asrcIn : Nat
  asrcOut : Nat
  lockIn : Bool
  lockOut : Bool
  /-- the measured ratio of a direction is out of the range of R362 -/
  badIn : Bool
  badOut : Bool
  /-- consecutive frames of a direction in range again, at most 16 (R362) -/
  goodIn : Nat
  goodOut : Nat
  /-- the elastic buffer of a direction is centred at the next boundary, after a return (R376) -/
  centreIn : Bool
  centreOut : Bool
  /-- lengths of the capture and playback rings as they run, and staged lengths (R383) -/
  capLen : Nat
  plyLen : Nat
  /-- the rings run: SP_CTRL.CAP_EN and PLY_EN as the last shot boundary took them (R389) -/
  capOn : Bool
  plyOn : Bool
  /-- staged lengths of the capture and playback rings (R383) -/
  capNew : Option Nat
  plyNew : Option Nat
  deriving DecidableEq, Repr

/-- A port after reset: stopped, ring length 2 (R390). -/
def PortU.reset : PortU :=
  { reqs := [], maskIn := 0, maskOut := 0, pendIn := none, pendOut := none, lateIn := none, lateOut := none,
    prevGood := false, inq := [], cvq := [], gap := none, outq := [], outLead := 0, outOn := false, outLast := [], blk := [], blkN := 0, tsSec := 0, tsNs := 0,
    lastSec := 0, ply := none, asrcIn := 0, asrcOut := 0, lockIn := false, lockOut := false, badIn := false,
    badOut := false, goodIn := 0, goodOut := 0, centreIn := false, centreOut := false, capLen := 2, plyLen := 2, capOn := false, plyOn := false, capNew := none,
    plyNew := none }

/-- A clock group beside its registers. -/
structure GroupU where
  /-- reference value of R348 -/
  ref : Nat
  /-- consecutive badly and correctly framed frames, at most 2 and 16 (R375, R376) -/
  bad : Nat
  good : Nat
  /-- the loss criterion of R375 is met -/
  lost : Bool
  deriving DecidableEq, Repr

/-- A clock group after reset. -/
def GroupU.reset : GroupU := ⟨0, 0, 0, false⟩

/-- The serial ports beside their registers. -/
structure SpU where
  /-- ports, `PortU.reset` where not listed -/
  ports : List (Nat × PortU)
  /-- groups, `GroupU.reset` where not listed -/
  groups : List (Nat × GroupU)
  deriving DecidableEq, Repr

/-- The serial ports after reset. -/
def SpU.reset : SpU := ⟨[], []⟩

/-! ### Media network (chapter 09) -/

/-- A packet buffer in use (R399, R400): its allowance (0 system, 1 host, 2 bridge, 3 stream), its consumers, and who has it:
0 a frame, 1 the host (R438), 2 a device-owned transmit descriptor, 3 a receive descriptor. -/
structure BufU where
  cls : Nat
  users : Nat
  own : Nat
  deriving DecidableEq, Repr

/-- A frame in an egress queue (R401, R402): kind 0 bridged, 1 host, 2 stream, 3 PTP forwarded under R551, 4 a message of
the ordinary clock. -/
structure EgFrame where
  kind : Nat
  pcp : Nat
  express : Bool
  /-- the frame without its FCS -/
  bytes : List Byte
  bufs : List Nat
  /-- host frame: ring, number of the frame, and whether it is the frame's last segment -/
  host : Option (Nat × Nat × Bool)
  /-- stream frame: context -/
  ctx : Nat
  /-- ingress timestamp of a frame forwarded under R551, in 1/16 ns -/
  ingress : Int
  /-- stream frame, and PTP frame forwarded under R551: CLK_PER period by which its transmission must have begun (R408, R553) -/
  due : Nat
  deriving DecidableEq, Repr

/-- An MP port beside its registers. -/
structure NPort where
  /-- frames queued, in order of entry -/
  q : List EgFrame
  /-- PAUSE frames are ignored until this CLK_PER period (R405) -/
  ignore : Nat
  /-- verification attempts made (R403) -/
  attempts : Nat
  /-- the PTP frame received last, until the ordinary clock has taken it: whether the System allowance held a buffer for it (R399) -/
  ptpIn : Option Bool
  deriving DecidableEq, Repr

/-- An MP port after reset: nothing queued. -/
def NPort.reset : NPort := ⟨[], 0, 0, none⟩

/-- A transmit frame handed over by the host (R439): its number, its descriptors, its buffers, whether it is complete, and the status
that waits for the PCIe link to be written (R435). -/
structure TxFrame where
  id : Nat
  descs : List Nat
  bufs : List Nat
  done : Bool
  wait : Option Nat
  deriving DecidableEq, Repr

/-- A ring of the host NIC as it runs (R435, R442): length, staged length; for transmit, descriptors that belong to no frame
yet (index and words) and the frames not yet passed by HEAD, oldest first. -/
structure NRing where
  len : Nat
  staged : Option Nat
  own : List (Nat × List Word)
  out : List TxFrame
  deriving DecidableEq, Repr

/-- A ring after reset: length 256 (R447). -/
def NRing.reset : NRing := ⟨256, none, [], []⟩

/-- A stream context (R414) beside `NET_CSEL`. -/
structure CtxU where
  /-- words 0 to 19 -/
  words : List Word
  /-- 0 STOPPED, 1 STARTING, 2 RUNNING -/
  st : Nat
  /-- the loss criterion is met (R426) -/
  lost : Bool
  /-- PKTS, LOST, LATE, OVFL, DUP, ERR, CONCEAL, SAT (R444) -/
  cnt : List Nat
  /-- receive: sequence number expected next (R427) -/
  seq : Option Nat
  /-- receive, ANCHOR 1: offset from RTP timestamp to internal index, modulo 2^32 (R423) -/
  offset : Option Nat
  /-- receive: samples placed and not yet written, by internal index; of a Converted context not yet read, by the index that
  `txBase` counts, without their values -/
  got : List (Nat × List Word)
  /-- receive: packets held for playout: index after their last sample, and their buffers (R424) -/
  held : List (Nat × List Nat)
  /-- receive: first internal index not yet written into a block (R425); transmit: index of the next packet's first sample -/
  next : Nat
  /-- Converted receive: playout runs (R428) -/
  playing : Bool
  /-- Converted receive: the ASRC channels were unlocked at a sample of the running block (R73) -/
  unl : Bool
  /-- transmit: next sequence number -/
  txSeq : Nat
  /-- shot that opened at its start boundary (R724) -/
  since : Nat
  /-- transmit: released samples not yet sent, and the internal index of the first; Converted receive: extended RTP timestamp of the
  next sample to be read -/
  tx : List (List Word)
  txBase : Nat
  /-- buffers reserved (R424, R429) -/
  resv : Nat
  /-- ASRC channels held, and whether they are locked -/
  asrc : Nat
  lock : Bool
  deriving DecidableEq, Repr

/-- A context after reset: stopped, words 0 but for the default DSCP of 34 (R414). -/
def CtxU.reset : CtxU :=
  { words := 0 :: 0 :: 0x8800 :: List.replicate 17 0, st := 0, lost := false, cnt := List.replicate 8 0, seq := none,
    offset := none, got := [], held := [], next := 0, playing := false, unl := false, txSeq := 0, since := 0, tx := [],
    txBase := 0, resv := 0, asrc := 0, lock := false }

/-- The media network beside its registers. -/
structure NetU where
  /-- starts and stops of contexts that wait, by context -/
  reqs : List (Nat × Sched)
  /-- ASRC channels that stream contexts hold -/
  asrc : Nat
  /-- packet buffers in use, by index -/
  bufs : List (Nat × BufU)
  /-- buffers held by receive descriptors: key ring * 4096 + index (R436) -/
  rxDesc : List (Nat × Nat)
  /-- receive and transmit rings, `NRing.reset` where not listed -/
  rx : List (Nat × NRing)
  tx : List (Nat × NRing)
  /-- number of the next transmit frame -/
  txId : Nat
  /-- learnt addresses: MAC address and ingress port (R410) -/
  learn : List (Nat × Nat)
  /-- MP ports and MGMT -/
  ports : List (Nat × NPort)
  /-- stream contexts, `CtxU.reset` where not listed -/
  ctx : List (Nat × CtxU)
  /-- frames that matched a context and wait for its checks, oldest first: context, frame with FCS, buffers (R421) -/
  matched : List (Nat × List Byte × List Nat)
  /-- upper half of a 64-bit counter as latched by the last read of its lower register, by its device address (R444) -/
  latch : List (Nat × Word)
  deriving DecidableEq, Repr

/-- The media network after reset. -/
def NetU.reset : NetU := ⟨[], 0, [], [], [], [], 0, [], [], [], [], []⟩

/-! ### Dailies (chapter 10) -/

/-- A Dailies lane beside its registers. -/
structure LaneU where
  /-- DELAY and RANK in force, as a word of `DL_LDLYl` (R459) -/
  live : Word
  /-- bits received, newest first, at most 640: those of the alignment and of the CIC stage (R453) -/
  bits : List Bool
  /-- inputs of the three half-band stages, newest first, at most 23, 31 and 95 (R453) -/
  cic : List Word
  hb1 : List Word
  hb2 : List Word
  /-- decimated samples, newest first, at most 272 (R456) -/
  dec : List Word
  /-- the last phase-delayed samples, newest first, at most 6 (R457) -/
  hist : List Word
  /-- pin instants in 1/128 Ts from which the bits are lost (true) or good again (false), oldest first (R462, R463) -/
  edges : List (Nat × Bool)
  /-- runs of samples marked UNSETTLED: the first index and the index after the last (R460, R461) -/
  marks : List (Nat × Nat)
  deriving DecidableEq, Repr

/-- A lane after reset. -/
def LaneU.reset : LaneU := ⟨0, [], [], [], [], [], [], [], []⟩

/-- What a meter point forms in a period (R468 to R472). -/
structure DetU where
  /-- periods completed since the reset -/
  periods : Nat
  /-- mean squares of the completed segments, newest first, at most 16 -/
  segs : List Nat
  /-- sum of squares of the running segment -/
  sq : Nat
  /-- mean square shown -/
  ms : Nat
  /-- envelope state e -/
  env : Nat
  /-- largest magnitude of the running period -/
  spk : Nat
  /-- flags of the running period -/
  flags : Nat
  /-- interpolator history: the last samples, newest first, at most 11 (R468) -/
  hist : List Word
  /-- largest magnitude of the running period's interpolated points, in units of 2^-30 -/
  ipk : Nat
  deriving DecidableEq, Repr

/-- The detector after a reset (R471). -/
def DetU.reset : DetU := ⟨0, [], 0, 0, 0, 0, 0, [], 0⟩

/-- An earlier description of a meter point: the internal indices from and before which it held, and its detector (R471). -/
structure OldPoint where
  desc : Word
  start : Nat
  stop : Nat
  det : DetU
  deriving DecidableEq, Repr

/-- A meter point: its description in force (R464), the internal index from which it holds, its detector, the descriptions before
it whose last samples may still be to come, oldest first, and the entries formed for periods whose frame is still to come: period and
six words (R473). -/
structure PointU where
  desc : Word
  start : Nat
  det : DetU
  old : List OldPoint
  rows : List (Nat × List Nat)
  deriving DecidableEq, Repr

/-- A meter point after reset: no channel. -/
def PointU.reset : PointU := ⟨0xFFFF0000, 0, DetU.reset, [], []⟩

/-- The Dailies unit beside its registers. -/
structure DlU where
  /-- starts and stops of lanes that wait, by lane -/
  reqs : List (Nat × Sched)
  /-- lanes, `LaneU.reset` where not listed -/
  lanes : List (Nat × LaneU)
  /-- meter points, `PointU.reset` where not listed -/
  points : List (Nat × PointU)
  /-- METER_SET words that wait for the next period start (R471) -/
  pend : List (Nat × Word)
  /-- RMS and envelope sets changed since the last period start: bits 0 to 3 and 4 to 7 -/
  sets : Nat
  /-- EN was set and no period has started since -/
  enPend : Bool
  /-- period of the next frame; none while no period has started since EN -/
  nextK : Option Nat
  /-- FSEQ of the next frame, and frames dropped since the last written one -/
  fseq : Nat
  dropped : Nat
  /-- the frame being written (R474) -/
  frame : Option (List Byte)
  /-- boundary timestamps of the last shots, newest first: shot, seconds, nanoseconds -/
  stamps : List (Nat × Nat × Nat)
  deriving DecidableEq, Repr

/-- The Dailies unit after reset. -/
def DlU.reset : DlU := ⟨[], [], [], [], 0, false, none, 0, 0, none, []⟩

/-! ### Clock reference unit (chapter 11) -/

/-- A holdover history entry (R517): steers summed over their number, temperatures summed over their number, seconds since first
power, and whether it is valid. -/
structure HistE where
  s : Int
  sn : Nat
  u : Int
  un : Nat
  day : Nat
  ok : Bool
  deriving DecidableEq, Repr

/-- The reference unit beside its registers. -/
structure ClkU where
  /-- target of the switch in progress (R504) -/
  target : Option Nat
  /-- advertised quality of a candidate (R497), 255 where not listed -/
  adv : List (Nat × Nat)
  /-- history ring, newest first, at most 70 (R517) -/
  hist : List HistE
  /-- steers and temperatures of the running second -/
  sSum : Int
  sN : Nat
  uSum : Int
  uN : Nat
  /-- STATE was LOCKED and DRIFT 0 throughout the running second -/
  secOk : Bool
  /-- sums over the valid entries latched on entry into holdover (R518): their number, e(u) in 2^-36 ppm, days in seconds -/
  avgN : Nat
  eSum : Int
  dSum : Nat
  /-- target steer of the holdover (R519) -/
  hold : Int
  /-- remainder of the reduction of b under R506 -/
  alignAcc : Nat
  /-- the ring follower has selected candidate 6 since it joined the ring (R490) -/
  followed : Bool
  /-- updates of a candidate's frequency monitor since its activity began, up to the 10 of a full gate (R492) -/
  gates : List (Nat × Nat)
  /-- fill levels of the stream candidate at its last updates, newest first, at most 11 (R492) -/
  fills : List Int
  /-- steer updates since the loop's step began, and those in a row whose phase error lay within 4 × LOCKWIN, within LOCKWIN and
  above 4 × LOCKWIN (R510, R512) -/
  dwell : Nat
  wide : Nat
  near : Nat
  far : Nat
  /-- the build-out b, of which `CLK_BUILDOUT` shows the low 32 bits (R504, R505) -/
  bo : Int
  /-- sum and number of the measurements of the running build-out that the state gives: of PTP and of the stream candidate (R504) -/
  boSum : Int
  boN : Nat
  deriving DecidableEq, Repr

/-- The reference unit after reset (R516). -/
def ClkU.reset : ClkU := ⟨none, [], [], 0, 0, 0, 0, false, 0, 0, 0, 0, 0, false, [], [], 0, 0, 0, 0, 0, 0, 0⟩

/-! ### Network time and Clapper (chapter 12) -/

/-- A Clapper trigger beside its registers: its next trigger time with fraction (R558, R561), the firings left, and whether a
pulse it launched runs (R559). -/
structure TrigU where
  sec : Nat
  ns : Nat
  frac : Nat
  left : Nat
  pulse : Bool
  deriving DecidableEq, Repr

/-- A timestamp in a capture FIFO (R567). -/
structure CapEntry where
  sec : Nat
  ns : Nat
  fall : Bool
  deriving DecidableEq, Repr

/-- A measurement of R544: its Sync's t1 where known, t2 and correction; the time of sending of its Delay_Req; t4 and correction of
the Delay_Resp where it has come before the Follow_Up; and whether no later Sync has come. -/
structure PtpMeas where
  t1 : Option Int
  t2 : Int
  csync : Int
  t3 : Int
  resp : Option (Int × Int)
  last : Bool
  deriving DecidableEq, Repr

/-- The PTP unit and the Clapper beside their registers. -/
structure PtpU where
  /-- the time counter: seconds, nanoseconds and fraction in units of 2^-32 ns (R527) -/
  sec : Nat
  ns : Nat
  frac : Nat
  /-- boundary timestamp of the latest shot boundary (R530) -/
  shotSec : Nat
  shotNs : Nat
  /-- offset still to be removed by the phase adjustment, in units of 2^-32 ns, added to the counter with its sign (R533) -/
  adj : Int
  /-- TIME_SET that waits for the next shot boundary (R534): seconds and nanoseconds -/
  timeSet : Option (Nat × Nat)
  /-- path delays of the last measurements, latest first, at most 16, in 1/16 ns (R544) -/
  pds : List Int
  /-- consecutive accepted measurements within and beyond STEPTH (R546, R547) -/
  okRun : Nat
  badRun : Nat
  /-- the latest Sync: t1 where known, t2, correction, in 1/16 ns, and whether a Delay_Req has followed it (R544) -/
  t1 : Option Int
  t2 : Option Int
  csync : Int
  used : Bool
  /-- the measurement whose Delay_Req has been sent (R544) -/
  meas : Option PtpMeas
  /-- sequence number of the next message of each type (R540) -/
  seqs : List (Nat × Nat)
  /-- what the shots so far have left of the increment's return to nominal, below one unit of it (R537) -/
  slew : Nat
  /-- the counter has been stepped since SERVOVALID last fell (R545) -/
  stepped : Bool
  /-- phase error of the latest boundary, in 1/16 ns (R536) -/
  phase : Int
  /-- identity of the parent and grandmaster selected (R547) -/
  parent : Nat
  /-- triggers, by number, where armed or done -/
  trig : List (Nat × TrigU)
  /-- capture FIFOs, oldest first (R567) -/
  cap : List (Nat × List CapEntry)
  /-- CLK_PER period of the latest edge that a capture timestamped or discarded (R566) -/
  capAt : List (Nat × Nat)
  deriving DecidableEq, Repr

/-- The PTP unit and the Clapper after reset: the counter reads 0 (R529). -/
def PtpU.reset : PtpU :=
  { sec := 0, ns := 0, frac := 0, shotSec := 0, shotNs := 0, adj := 0, timeSet := none, pds := [], okRun := 0, badRun := 0,
    t1 := none, t2 := none, csync := 0, used := false, meas := none, seqs := [], slew := 0, stepped := false, phase := 0, parent := 0, trig := [], cap := [], capAt := [] }

/-! ### Memory and fabric (chapter 13) -/

/-- A request at a crossbar target (R581, R583). -/
structure Burst where
  /-- master M0 to M11 -/
  master : Nat
  /-- target T0 to T9 -/
  target : Nat
  /-- beats, 1 to 64 -/
  beats : Nat
  /-- 0 read, 1 write, 2 flow-through, 3 copy within T1 -/
  kind : Nat
  /-- granted: it holds the path of its target -/
  granted : Bool
  /-- cycles waited at the target -/
  waited : Nat
  /-- stall cycles that lengthen its path hold (R574) -/
  stalls : Nat
  /-- its master was reset: the crossbar completes it (R591) -/
  orphan : Bool
  /-- target that a flow-through burst writes, whose path it holds too; 10 for none (R583) -/
  into : Nat
  /-- chained to the burst of its master before it, whose path it keeps (R584) -/
  chain : Bool
  /-- device address at which it starts, and the words that a write burst still carries (R591) -/
  addr : Nat
  data : List Word
  deriving DecidableEq, Repr

/-- A claim of an LPDDR5 range (R599): owner 0 host, 1 delay line; id the line; base and length in 64-byte units. -/
structure MemClaim where
  owner : Nat
  id : Nat
  base : Nat
  len : Nat
  deriving DecidableEq, Repr

/-- An access of the host to an engine window (R587): the bytes that it writes at a device address, or a read of `n` bytes there and
the error that it meets. -/
structure HostT1 where
  a : Nat
  l : List Byte
  n : Nat
  bad : Option SramErr
  deriving DecidableEq, Repr

/-- Memory and fabric beside their registers. -/
structure FabU where
  /-- requests, oldest first: one granted at most per target (R583) -/
  bursts : List Burst
  /-- master parked at each target (R582) -/
  parked : List (Nat × Nat)
  /-- last RT master and last BE master granted at each target, round-robin (R581) -/
  lastRt : List (Nat × Nat)
  lastBe : List (Nat × Nat)
  /-- masters reset and not yet without credits in use (R592) -/
  inReset : List Nat
  /-- corrected errors of SRAM rows in this power cycle: key inst * 65536 + row (R579) -/
  rowErr : List (Nat × Nat)
  /-- SRAM rows with a field repair recorded in this power cycle -/
  repaired : List Nat
  /-- wear counters of the rows of the address map (R604); kept as stored values plus 65,536 over a reset -/
  wear : List (Nat × Nat)
  /-- stored wear counters (R604) -/
  wearStored : List (Nat × Nat)
  /-- corrected errors of eMRAM rows in this power cycle (R605) -/
  mramErr : List (Nat × Nat)
  /-- rows served by a spare row: row and spare number (R605) -/
  spareOf : List (Nat × Nat)
  /-- rows whose replacement runs or waits, in order (R605) -/
  replacing : List Nat
  /-- rows that have sent MRAM_WORN (R607) -/
  worn : List Nat
  /-- eMRAM writes held while their row is replaced: device address and word, oldest first (R605) -/
  held : List (Nat × Word)
  /-- entries of the repair table in use, four words each (R608) -/
  repair : List (List Word)
  /-- its sequence number -/
  repSeq : Nat
  /-- claim space 0 by entry (R599) -/
  claims : List (Nat × MemClaim)
  /-- claim spaces 1 and 2: stream receive and transmit channels, to their context (R420) -/
  rxClaim : List (Nat × Nat)
  txClaim : List (Nat × Nat)
  /-- LPDDR5 training runs (R594) -/
  training : Bool
  /-- bytes in the write buffer of LPDDR5 (R596) -/
  ddrBuf : Nat
  /-- accesses of the host to engine windows behind a slate write that the crossbar holds, that one first (R109, R587) -/
  t1q : List HostT1
  deriving DecidableEq, Repr

/-- Memory and fabric of a part that leaves the factory: no wear, no repair, nothing claimed. -/
def FabU.reset : FabU :=
  { bursts := [], parked := [], lastRt := [], lastBe := [], inReset := [], rowErr := [], repaired := [], wear := [],
    wearStored := [], mramErr := [], spareOf := [], replacing := [], worn := [], held := [], repair := [], repSeq := 0,
    claims := [], rxClaim := [], txClaim := [], training := false, ddrBuf := 0, t1q := [] }

/-! ### Command interface (chapter 14) -/

/-- The session of one transport (R635 to R637, R641). -/
structure Sess where
  /-- expected host sequence number E; none while unset (R635) -/
  e : Option Nat
  /-- next device sequence number (R637) -/
  dseq : Nat
  /-- replay cache, newest first, at most 64: HSEQ and the reply's words (R636) -/
  cache : List (Nat × List Word)
  /-- subscription mask of 64 bits (R641) -/
  mask : Nat
  deriving DecidableEq, Repr

/-- A command packet that waits: for a hold to end (R265, R313), for its transport's long operation (R644), or for its
transport's earlier packet (R614). -/
structure Waiting where
  op : Nat
  hdr : CmdHdr
  /-- VERSION is 0x01, and no reserved FLAGS bit is set -/
  ver : Bool
  flags : Bool
  payload : List Word
  /-- source of an MGMT datagram (R625) -/
  src : Nat
  /-- words that a MEM_READ finds with a double-bit error (R577) -/
  bad : List BadRead
  /-- status of steps 1 and 2 of R631, 0 where the packet passes them -/
  pre : Nat
  deriving DecidableEq, Repr

/-- A long operation that runs (R644): its opcode, transport, host sequence number, and the outcome it will have. -/
structure LongOp where
  op : Nat
  tr : Nat
  hseq : Nat
  status : Nat
  detail : Nat
  arg : Nat
  deriving DecidableEq, Repr

/-- An OTP key slot (R647). -/
structure KeySlot where
  written : Bool
  revoked : Bool
  hash : List Word
  deriving DecidableEq, Repr

/-- One ring of the PCIe transport as it runs (R618, R622): base and length read at RINGS_EN, and the staged length. -/
structure HRing where
  base : Nat
  len : Nat
  staged : Option Nat
  deriving DecidableEq, Repr

/-- The command interface beside its registers. -/
structure CmdU where
  /-- sessions of PCIe, MGMT and SPI -/
  sess : List Sess
  /-- source the MGMT session is bound to (R625) -/
  mgmtSrc : Option Nat
  /-- source of the datagram being executed, to which its reply goes (R625) -/
  mgmtDest : Nat
  /-- what waits on MGMT while it is paused (R393), oldest first, each with the length of its frame -/
  mgmtHeld : List (Output × Nat)
  /-- SPI message queue, oldest first, at most 16 (R627) -/
  spiQueue : List (List Word)
  /-- replies that wait for a place in it, oldest first (R614, R627) -/
  spiHeld : List (List Word)
  /-- packets that wait, in arrival order -/
  waiting : List Waiting
  /-- transport that had the last turn (R614) -/
  lastTr : Nat
  /-- headers of the waiting packets that have been held (R265, R313) -/
  heldQ : List CmdHdr
  /-- the running long operation (R644) -/
  longOp : Option LongOp
  /-- generation counts of the opcode groups 0x00 to 0x0F (R638) -/
  gens : List Nat
  /-- command, reply and notify rings (R618) -/
  rings : List HRing
  /-- a MODE_SET whose transition waits for a shot boundary (R765): target, header, and the GAP flag of its reply -/
  modeReq : Option (Nat × CmdHdr × Bool)
  /-- scene slots being written (R650): slot, words of the stream, stored packets -/
  scenes : List (Nat × Nat × Nat)
  /-- CLK_PER period in which PRESENCE_N was last accepted as pressed, while the presence window is open (R645) -/
  winAt : Nat
  /-- the MSI-X table of BAR4, four words a vector: address, upper address, data, control with the mask in bit 0 (R616, R653) -/
  msix : List Word
  /-- its pending-bit array (R616) -/
  msixPend : Nat
  deriving DecidableEq, Repr

/-- The command interface after reset (R635, R637, R641, R655). -/
def CmdU.reset : CmdU :=
  { sess := List.replicate 3 ⟨none, 0, [], 0⟩, mgmtSrc := none, mgmtDest := 0, mgmtHeld := [], spiQueue := [], spiHeld := [], waiting := [], lastTr := 2,
    heldQ := [], longOp := none, gens := List.replicate 16 0, rings := List.replicate 3 ⟨0, 256, none⟩, modeReq := none,
    scenes := [], winAt := 0,
    msix := (List.range 128).map (fun i => if i % 4 = 3 then 1 else 0), msixPend := 0 }

/-- What one-time-programmable memory, fuses and straps give (R2, R52, R646, R647): kept over every reset. -/
structure FuseU where
  /-- SYS_ID.GRADE -/
  grade : Nat
  /-- the seal fuse (R646) -/
  sealFuse : Bool
  /-- the two key slots (R647) -/
  keys : List KeySlot
  /-- factory fuse repairs of SRAM rows (R608, R609) -/
  repairs : List SramRow
  deriving DecidableEq, Repr

/-- Fuses of the modelled part: grade commercial, unsealed, no key written (log entry 4). -/
def FuseU.reset : FuseU := ⟨0, false, List.replicate 2 ⟨false, false, List.replicate 12 0⟩, []⟩

/-! ### Fault collector and continuity log (chapter 15) -/

/-- A fault message (R656). -/
structure Msg where
  /-- SRC -/
  src : Nat
  /-- KIND -/
  kind : Nat
  /-- ADDR -/
  addr : Nat
  /-- sent by an injection (R669) -/
  inj : Bool
  /-- severity and reaction of its source as the message was sent (R664) -/
  sev : Nat
  react : Nat
  deriving DecidableEq, Repr

/-- An entry of the log queue (R671): its code, its payload words, and whether a FAULT notification follows it (R672). -/
structure LogEntry where
  code : Nat
  payload : List Word
  notify : Bool
  deriving DecidableEq, Repr

/-- Fault collector and continuity log beside their registers. -/
structure FltU where
  /-- messages sent in this cycle and not yet accepted (R657); empty between commands -/
  wire : List Msg
  /-- event records of this cycle (R671); empty between commands -/
  wireEv : List LogEntry
  /-- the log queue, oldest first, at most 64 (R671) -/
  queue : List LogEntry
  /-- tokens of each code's bucket, 8 where not listed (R680) -/
  tokens : List (Nat × Nat)
  /-- pending suppression count of each code, 0 where not listed (R681) -/
  pend : List (Nat × Nat)
  /-- start of the running period of each code's bucket timer, in CLK_PER periods, 0 where not listed (R680) -/
  timers : List (Nat × Nat)
  /-- the boot has found the heads of the log (R685), which writes no record before -/
  scanned : Bool
  deriving DecidableEq, Repr

/-- The fault collector and log after reset (R670, R680). -/
def FltU.reset : FltU := ⟨[], [], [], [], [], [], false⟩

/-- A tagged instruction (R698): its task, PC, stall cycles and the cause of its longest stall (0 none, 1 operand, 2 address register,
3 flag, 4 store buffer), whether it is discarded, and whether it raised an exception. -/
structure TagRec where
  task : Nat
  pc : Nat
  stall : Nat
  cause : Nat
  disc : Bool
  exc : Bool
  deriving DecidableEq, Repr

/-- Performance counters beside their registers (chapter 15). -/
structure PcnU where
  /-- the 24-bit tag shift register (R697) -/
  lfsr : Nat
  /-- interval of engine e (R697): 0 while none is drawn, else the instructions to issue until the tagged one, that one included -/
  tagLeft : List (Nat × Nat)
  /-- tagged instruction of engine e whose record is still to be written (R698) -/
  tagged : List (Nat × TagRec)
  /-- second word of each engine's latest tag record, shown in `PCN_TREC1e` when `PCN_TREC0e` is read (R698) -/
  trec1 : List (Nat × Word)
  deriving DecidableEq, Repr

/-- The counter unit after reset (R701: seed 1). -/
def PcnU.reset : PcnU := ⟨1, [], [], []⟩

/-! ### Stand-in and Reel links (chapter 16) -/

/-- The stand-in unit beside its registers. -/
structure StiU where
  /-- lease length of the last acknowledged renewal, units of 100 µs (R708) -/
  lz : Nat
  /-- n of the next RENEW to send (R709) -/
  nextN : Nat
  /-- n and lease length of the renewal sent and not yet acknowledged -/
  sent : Option (Nat × Nat)
  /-- time of sending of that renewal, and t_n of the latest acknowledged one, in CLK_PER periods -/
  sentAt : Nat
  tn : Nat
  /-- r_n: time of receipt of the latest renewal (stand-in) -/
  rn : Nat
  /-- the stand-in left its pair and answers no renewal (R716 LEAVE) -/
  left : Bool
  /-- the stand-in waits for LEASE_IN to fall to take the token (R711) -/
  waitLease : Bool
  /-- time at which LEASE_IN last fell (R714) -/
  lowAt : Nat
  /-- HANDOVER in progress: 0 none, 1 wake asked, 2 stand-in awake (R716) -/
  handover : Nat
  /-- wake steps done, 0 to 15 (R723) -/
  wake : Nat
  /-- the wake ran before the taking (R723) -/
  prewoken : Bool
  /-- MVALID was 1 at t_T (R723, R724) -/
  mvalidAtTake : Bool
  /-- shot that opens at b0 of the latest takeover (R723) -/
  b0 : Option Nat
  /-- untransferred mirror traffic in bytes (R720) -/
  backlog : Nat
  /-- the mirror of the partner is complete, as the holder knows it -/
  partnerValid : Bool
  /-- recorded start, stop and trigger commands, to be restored at b0 (R718): opcode and payload, oldest first -/
  restore : List (Nat × List Word)
  /-- an ACQUIRE of a follower waits for candidate 6 (R731) -/
  acquireWait : Bool
  /-- the host has written CLK_QUALCFG.QTIME since reset (R731) -/
  qtimeWritten : Bool
  deriving DecidableEq, Repr

/-- The stand-in unit after reset: the default lease of 2 ms. -/
def StiU.reset : StiU :=
  { lz := 20, nextN := 0, sent := none, sentAt := 0, tn := 0, rn := 0, left := false, waitLease := false, lowAt := 0,
    handover := 0, wake := 0, prewoken := false, mvalidAtTake := false, b0 := none, backlog := 0, partnerValid := false,
    restore := [], acquireWait := false, qtimeWritten := false }

/-- A ring partial: 64-bit accumulator values of a block and the status words of its contributors (R736, R286). -/
structure Partial where
  sums : List Int
  bsws : List Word
  deriving DecidableEq, Repr

/-- The Reel link unit beside its registers. -/
structure RlU where
  /-- configured ring size, 0 for none (R741) -/
  size : Nat
  /-- ring map: bus to 8 * RING + OWNER, 0 where not listed -/
  bmap : List (Nat × Nat)
  /-- channels forwarded RL0 receive to RL1 transmit, and RL1 receive to RL0 transmit (R734) -/
  fwd0 : List Nat
  fwd1 : List Nat
  /-- chip IDs of the formed ring in ring order from the master, empty while not formed -/
  ids : List Nat
  /-- held local partials: key bus * 8 + age in shots (R736) -/
  held : List (Nat × Partial)
  /-- arrived partials: at key bus for the next pass, at key 4096 + bus for the running one (R737) -/
  arrived : List (Nat × Partial)
  /-- blocks received on forwarded channels, by transmit channel address, to be released at the next boundary (R734) -/
  fwdBlk : List (Nat × Blk)
  /-- receive channels that have delivered a block since their link came up, by channel address (R82, R83) -/
  seen : List Nat
  /-- lists of IDs that wait for this chip to begin forming, oldest first, with the time that they bring (R730) -/
  lists : List (List Nat × Nat × Nat)
  deriving DecidableEq, Repr

/-- The Reel link unit after reset: no ring. -/
def RlU.reset : RlU := ⟨0, [], [], [], [], [], [], [], [], []⟩

/-! ### Modes, boot and lifetime (chapter 17) -/

/-- The lifetime values (R767). -/
structure Life where
  /-- operating seconds, 40 bits -/
  opsec : Nat
  /-- power cycles -/
  cycle : Nat
  firstDay : Nat
  firstOpsec : Nat
  lastDay : Nat
  lastSod : Nat
  /-- highest eMRAM wear counter in units of 65,536 -/
  wearMax : Nat
  /-- SEQ of the current record (R768) -/
  seq : Nat
  deriving DecidableEq, Repr

/-- Mode and boot sequencer beside its registers. -/
structure BootU where
  life : Life
  /-- the clock state before its last change stood for RUN_HOLDOVER (R752) -/
  clkCond : Bool
  /-- CLK_PER period of the last first watchdog expiry of the Gaffer core (R756) -/
  wdogAt : Option Nat
  /-- the Gaffer core restarts and serves no transport (R756) -/
  gafferDown : Bool
  /-- release of reset is held by the thermal trip (R800) -/
  thermalHold : Bool
  /-- a MODE_SET RESET whose reply is placed waits for its reset (R757) -/
  softPending : Bool
  /-- power cycle to be counted at the boot (R755, R768) -/
  porBoot : Bool
  /-- shot whose opening boundary releases the first block of a fade-in (R724, R748) -/
  fadeAt : Option Nat
  /-- the next shot boundary loads the shot counter with 0 (R23) -/
  loadZero : Bool
  /-- version and SEQ of the running firmware (R648) -/
  fwVer : Nat
  fwSeq : Nat
  /-- CLK_PER period of the release of reset (R771) -/
  relAt : Nat
  deriving DecidableEq, Repr

/-- The lifetime values of a part whose lifetime area holds no record (R768, R759). -/
def Life.reset : Life := ⟨0, 0, 0, 0, 0, 0, 0, 0⟩

/-- The mode and boot sequencer after reset. -/
def BootU.reset : BootU := ⟨Life.reset, false, none, false, false, false, true, none, false, 0, 0, 0⟩

/-! ### Pins (chapter 18) -/

/-- A claim of a ball (R788): owner code of PIN_CLAIM.OWNER and ID. -/
structure Claim where
  owner : Nat
  id : Nat
  deriving DecidableEq, Repr

/-- Pin control beside its registers. -/
structure PinU where
  /-- claims by ball index; absent where unclaimed -/
  claims : List (Nat × Claim)
  /-- levels seen at the GPIO balls -/
  gpioIn : BitVec 32
  /-- levels the Clapper drives on GPIO and CONV_START balls, by ball index -/
  driven : List (Nat × Bool)
  /-- THERM_N is low (R800) -/
  thermLow : Bool
  /-- highest die temperature measured since `PIN_THSTAT` was read, in 1/16 °C (R803) -/
  thMax : Option Int
  deriving DecidableEq, Repr

/-- Pins after reset: nothing claimed, nothing driven. -/
def PinU.reset : PinU := ⟨[], 0, [], false, none⟩


/-! ### The state -/

/-- The whole state of the block. `regs` and `mem` are sparse maps in canonical form (Machine/SMap.lean). -/
structure State where
  /-- control registers by device address, their reset value (`regReset`) where not listed (R6) -/
  regs : List (Nat × Word)
  /-- byte memory by device address (R39): engine windows, packet buffers, swap window, eMRAM, LPDDR5; unlisted bytes read 0 -/
  mem : List Host.Cell
  /-- blocks in stage memory: key area * 65536 + channel address (Machine/Stage.lean names the areas) -/
  stage : List (Nat × Blk)
  /-- the 64-bit shot counter (R21) -/
  shot : Nat
  /-- CLK_PER periods since reset -/
  time : Nat
  /-- the physical engines E0 to E17 -/
  eng : List EngU
  /-- the Call Sheet -/
  cs : CsU
  /-- the Splice matrix -/
  spl : SplU
  /-- slate and take state -/
  take : TakeU
  /-- the serial ports and clock groups -/
  sp : SpU
  /-- the media network -/
  net : NetU
  /-- the Dailies unit -/
  dl : DlU
  /-- the clock reference unit -/
  clk : ClkU
  /-- network time and the Clapper -/
  ptp : PtpU
  /-- memory, crossbar and eMRAM -/
  fab : FabU
  /-- fault collector and log -/
  flt : FltU
  /-- performance counters -/
  pcn : PcnU
  /-- the command interface -/
  cmd : CmdU
  /-- fuses, OTP and fitted parts -/
  fuse : FuseU
  /-- modes, boot and lifetime -/
  boot : BootU
  /-- the stand-in unit -/
  sti : StiU
  /-- the Reel link unit -/
  rl : RlU
  /-- pins -/
  pin : PinU
  /-- what the block has given to the outside since reset, newest first -/
  outs : List Output
  /-- the model's own counter that free values are applied to (log entry 2) -/
  free : Nat
  /-- the commands that wait, first in, first out -/
  pending : List Instr
  deriving DecidableEq, Repr

/-- The block right after reset: every register at its reset value (nothing listed), memory with nothing listed, every
unit at rest, the queue empty. -/
def State.reset : State :=
  { regs := [],
    mem := [],
    stage := [],
    shot := 0,
    time := 0,
    eng := List.replicate 18 EngU.reset,
    cs := CsU.reset,
    spl := SplU.reset,
    take := TakeU.reset,
    sp := SpU.reset,
    net := NetU.reset,
    dl := DlU.reset,
    clk := ClkU.reset,
    ptp := PtpU.reset,
    fab := FabU.reset,
    flt := FltU.reset,
    pcn := PcnU.reset,
    cmd := CmdU.reset,
    fuse := FuseU.reset,
    boot := BootU.reset,
    sti := StiU.reset,
    rl := RlU.reset,
    pin := PinU.reset,
    outs := [],
    free := 0,
    pending := [] }

/-- The state with `regs` replaced by its image under `f`. -/
def State.onRegs (s : State) (f : List (Nat × Word) → List (Nat × Word)) : State := { s with regs := f s.regs }

/-- The state with `mem` replaced by its image under `f`. -/
def State.onMem (s : State) (f : List Host.Cell → List Host.Cell) : State := { s with mem := f s.mem }

/-- The state with `stage` replaced by its image under `f`. -/
def State.onStage (s : State) (f : List (Nat × Blk) → List (Nat × Blk)) : State := { s with stage := f s.stage }

/-- The state with `shot` replaced by its image under `f`. -/
def State.onShot (s : State) (f : Nat → Nat) : State := { s with shot := f s.shot }

/-- The state with `time` replaced by its image under `f`. -/
def State.onTime (s : State) (f : Nat → Nat) : State := { s with time := f s.time }

/-- The state with `eng` replaced by its image under `f`. -/
def State.onEng (s : State) (f : List EngU → List EngU) : State := { s with eng := f s.eng }

/-- The state with `cs` replaced by its image under `f`. -/
def State.onCs (s : State) (f : CsU → CsU) : State := { s with cs := f s.cs }

/-- The state with `spl` replaced by its image under `f`. -/
def State.onSpl (s : State) (f : SplU → SplU) : State := { s with spl := f s.spl }

/-- The state with `take` replaced by its image under `f`. -/
def State.onTake (s : State) (f : TakeU → TakeU) : State := { s with take := f s.take }

/-- The state with `sp` replaced by its image under `f`. -/
def State.onSp (s : State) (f : SpU → SpU) : State := { s with sp := f s.sp }

/-- The state with `net` replaced by its image under `f`. -/
def State.onNet (s : State) (f : NetU → NetU) : State := { s with net := f s.net }

/-- The state with `dl` replaced by its image under `f`. -/
def State.onDl (s : State) (f : DlU → DlU) : State := { s with dl := f s.dl }

/-- The state with `clk` replaced by its image under `f`. -/
def State.onClk (s : State) (f : ClkU → ClkU) : State := { s with clk := f s.clk }

/-- The state with `ptp` replaced by its image under `f`. -/
def State.onPtp (s : State) (f : PtpU → PtpU) : State := { s with ptp := f s.ptp }

/-- The state with `fab` replaced by its image under `f`. -/
def State.onFab (s : State) (f : FabU → FabU) : State := { s with fab := f s.fab }

/-- The state with `flt` replaced by its image under `f`. -/
def State.onFlt (s : State) (f : FltU → FltU) : State := { s with flt := f s.flt }

/-- The state with `pcn` replaced by its image under `f`. -/
def State.onPcn (s : State) (f : PcnU → PcnU) : State := { s with pcn := f s.pcn }

/-- The state with `cmd` replaced by its image under `f`. -/
def State.onCmd (s : State) (f : CmdU → CmdU) : State := { s with cmd := f s.cmd }

/-- The state with `fuse` replaced by its image under `f`. -/
def State.onFuse (s : State) (f : FuseU → FuseU) : State := { s with fuse := f s.fuse }

/-- The state with `boot` replaced by its image under `f`. -/
def State.onBoot (s : State) (f : BootU → BootU) : State := { s with boot := f s.boot }

/-- The state with `sti` replaced by its image under `f`. -/
def State.onSti (s : State) (f : StiU → StiU) : State := { s with sti := f s.sti }

/-- The state with `rl` replaced by its image under `f`. -/
def State.onRl (s : State) (f : RlU → RlU) : State := { s with rl := f s.rl }

/-- The state with `pin` replaced by its image under `f`. -/
def State.onPin (s : State) (f : PinU → PinU) : State := { s with pin := f s.pin }

/-- The state with `outs` replaced by its image under `f`. -/
def State.onOuts (s : State) (f : List Output → List Output) : State := { s with outs := f s.outs }

/-- The state with `free` replaced by its image under `f`. -/
def State.onFree (s : State) (f : Nat → Nat) : State := { s with free := f s.free }

/-- The state with `pending` replaced by its image under `f`. -/
def State.onPending (s : State) (f : List Instr → List Instr) : State := { s with pending := f s.pending }

end Sys2Proof.Machine
end

