-- ==== Sys2Proof/Machine/Ops.lean ====
section
/-! DEFINITION. Shared operations of the block: registers and their fields, byte memory, interrupts, replies and
notifications, fault messages and their acceptance, claims of balls, changes of mode. -/

namespace Sys2Proof.Machine

/-! ### Numbers -/

/-- Bit `n` of a number. -/
def bitOf (x n : Nat) : Bool := x / 2 ^ n % 2 = 1

/-- Field of a number: bits [lsb + width − 1 : lsb]. -/
def bits (x lsb width : Nat) : Nat := x / 2 ^ lsb % 2 ^ width

/-- 1 for true. -/
def b2n (b : Bool) : Nat := if b then 1 else 0

/-- A word from a number, modulo 2^32. -/
def wd (n : Nat) : Word := BitVec.ofNat 32 n

/-- The signed value of the low `w` bits of a number. -/
def sgn (w x : Nat) : Int := let y := x % 2 ^ w; if y < 2 ^ (w - 1) then (y : Int) else (y : Int) - (2 ^ w : Nat)

/-- The low `w` bits of an integer in two's complement. -/
def lowBits (w : Nat) (x : Int) : Nat := (x % ((2 ^ w : Nat) : Int)).toNat

/-- Division of naturals rounded up. -/
def ceilDiv (a b : Nat) : Nat := (a + b - 1) / b

/-- The list with element `n` replaced. -/
def setNth {α : Type} : List α → Nat → α → List α
  | [], _, _ => []
  | _ :: t, 0, v => v :: t
  | x :: t, n + 1, v => x :: setNth t n v

/-- The list with element `n` at `v`, in which elements past the end are at `d`. -/
def putNth {α : Type} (d : α) : List α → Nat → α → List α
  | [], 0, v => [v]
  | [], n + 1, v => d :: putNth d [] n v
  | _ :: t, 0, v => v :: t
  | x :: t, n + 1, v => x :: putNth d t n v

/-- Element `n` of a list of words, 0 past its end. -/
def wAt (l : List Word) (n : Nat) : Word := l.getD n 0

/-- Element `n` of a list of words as a number. -/
def nAt (l : List Word) (n : Nat) : Nat := (l.getD n 0).toNat

/-! ### CRC-32C (R629) -/

/-- One byte into the reflected CRC-32C register. -/
def crcByte (c b : Nat) : Nat :=
  (List.range 8).foldl (fun c _ => if c % 2 = 1 then (c / 2) ^^^ 0x82F63B78 else c / 2) (c ^^^ b)

/-- CRC-32C of a byte string (R629). -/
def crc32c (bs : List Nat) : Nat := (bs.foldl crcByte 0xFFFFFFFF) ^^^ 0xFFFFFFFF

/-- The four bytes of a word, least significant first (R105, R628). -/
def wordBytes (w : Word) : List Nat :=
  let n := w.toNat
  [n % 256, n / 256 % 256, n / 65536 % 256, n / 16777216 % 256]

/-- CRC-32C over words in memory order (R628). -/
def crcWords (ws : List Word) : Word := wd (crc32c (ws.flatMap wordBytes))

/-! ### Registers -/

/-- Default severity of a fault source; none for a reserved number (R658). -/
def sevDefault (src : Nat) : Option Nat :=
  match src with
  | 0x00 => some 3 | 0x01 => some 0 | 0x02 => some 0 | 0x10 => some 0 | 0x11 => some 1 | 0x12 => some 1
  | 0x13 => some 0 | 0x14 => some 1 | 0x20 => some 1 | 0x21 => some 0 | 0x22 => some 0 | 0x23 => some 1
  | 0x24 => some 0 | 0x25 => some 1 | 0x26 => some 1 | 0x27 => some 1 | 0x28 => some 2 | 0x29 => some 0
  | 0x2A => some 0 | 0x2B => some 1 | 0x30 => some 0 | 0x31 => some 1 | 0x32 => some 1 | 0x33 => some 0
  | 0x34 => some 1 | 0x40 => some 1 | 0x41 => some 0 | 0x42 => some 1 | 0x50 => some 2 | 0x51 => some 0
  | 0x52 => some 0 | 0x53 => some 3 | 0x54 => some 0 | 0x55 => some 2 | 0x56 => some 2 | 0x57 => some 1
  | 0x60 => some 2 | 0x61 => some 2 | 0x62 => some 1 | 0x63 => some 1 | 0x64 => some 2 | 0x65 => some 1
  | 0x70 => some 2
  | _ => none

/-- Fault sources whose severity and reaction are fixed (R662). -/
def srcFixed (src : Nat) : Bool := src = 0x00 || src = 0x53

/-- Reset value of `FLT_CFGs` (R658, R661, R662, R675). -/
def fltCfgReset (src : Nat) : Nat :=
  match sevDefault src with
  | none => 2 ^ 30
  | some sev => (if srcFixed src then 2 ^ 31 else 0) + 16 * (if sev = 0 then 0 else if sev = 3 then 3 else 1) + sev

/-- Log codes that are never rate-limited (R682). -/
def codeUnlim (c : Nat) : Bool := c = 0x00 || c = 0x53 || c = 0xE0 || (0xE3 ≤ c && c ≤ 0xE8)

/-- Reset value of `LOG_RATEc` (R682, R690). -/
def logRateReset (c : Nat) : Nat := (if codeUnlim c then 2 ^ 31 else 0) + 8 * 65536 + 1000

/-- Reset value of a slot map register k: byte i holds slot 4k + i (R356). -/
def slotMapReset (k : Nat) : Nat := 4 * k + 256 * (4 * k + 1) + 65536 * (4 * k + 2) + 16777216 * (4 * k + 3)

/-- Reset values that are not one number per register: slot maps, fault configuration, log buckets, the heads of an empty log
(R685), the cause POR of the first reset (R755), the bank supplies before detection (log entry 5) and the thermal warning of the
commercial grade (log entry 4). -/
def resetSpecial (a : Nat) : Option Nat :=
  if 0x90400 ≤ a ∧ a < 0x90800 then some (fltCfgReset ((a - 0x90400) / 4))
  else if 0xA0100 ≤ a ∧ a < 0xA0500 then some (logRateReset ((a - 0xA0100) / 4))
  else if 0x50000 ≤ a ∧ a < 0x54000 ∧ 0x20 ≤ a % 0x100 ∧ a % 0x100 < 0x60 then some (slotMapReset (a % 0x20 / 4))
  else if a = 0xA0008 ∨ a = 0xA000C then some 0x40000
  else if a = 8 then some 1
  else if a = 0xE0000 then some 0x1555
  else if a = 0xE0020 then some 90
  else none

/-- Reset value of the register at device address `a`; 0 where none is implemented (R43). -/
def regReset (a : Nat) : Word :=
  match resetSpecial a with
  | some v => wd v
  | none => match regRow a with
    | some r => wd r.reset
    | none => 0

/-- Value of the register at device address `a`. -/
def State.reg (s : State) (a : Nat) : Word := smGet (regReset a) s.regs a

/-- The state with the register at device address `a` at `v`. -/
def State.setReg (s : State) (a : Nat) (v : Word) : State := s.onRegs (smPut (regReset a) a v)

/-- A word with its bits [lsb + width − 1 : lsb] at `v`. -/
def fldPut (w : Word) (lsb width v : Nat) : Word :=
  let n := w.toNat
  wd (n - (n / 2 ^ lsb % 2 ^ width) * 2 ^ lsb + (v % 2 ^ width) * 2 ^ lsb)

/-- Value of a register field. -/
def State.getF (s : State) (f : Fld) : Nat := (s.reg f.addr).toNat / 2 ^ f.lsb % 2 ^ f.width

/-- The state with a register field at `v` modulo its width. -/
def State.setF (s : State) (f : Fld) (v : Nat) : State := s.setReg f.addr (fldPut (s.reg f.addr) f.lsb f.width v)

/-- A field as a flag. -/
def State.flag (s : State) (f : Fld) : Bool := s.getF f = 1

/-- A counter field increased by `n`, saturating at all ones (R12). -/
def State.incF (s : State) (f : Fld) (n : Nat) : State := s.setF f (min (2 ^ f.width - 1) (s.getF f + n))

/-- A counter field increased by `n`, modulo its width. -/
def State.incW (s : State) (f : Fld) (n : Nat) : State := s.setF f (s.getF f + n)

/-- A field raised to `n` where it is lower. -/
def State.maxF (s : State) (f : Fld) (n : Nat) : State := if s.getF f < n then s.setF f n else s

/-- Bits `m` set in a field. -/
def State.orF (s : State) (f : Fld) (m : Nat) : State := s.setF f (s.getF f ||| m)

/-- The output added to what the block has given. -/
def State.out (s : State) (o : Output) : State := s.onOuts (o :: ·)

/-! ### Modes (R746) -/

/-- `SYS_MODE.MODE`. -/
def State.mode (s : State) : Nat := s.getF SYS_MODE.MODE

/-- Modes in which a take can be pending (R309 order 2): ACQUIRE, RUN, RUN_HOLDOVER, SAFE, DEGRADED. -/
def takeMode (m : Nat) : Bool := m = 3 || m = 4 || m = 5 || m = 8 || m = 9

/-- The host reaches the block: from STANDBY on (R757). -/
def State.hostOpen (s : State) : Bool := 2 ≤ s.mode

/-- The shot tick runs. -/
def State.tick (s : State) : Bool := s.flag SYS_MODE.TICK

/-- Shot that the next boundary opens; 0, which every boundary has reached, while no tick runs or the counter is about to be loaded. -/
def State.nextShot (s : State) : Nat := if s.tick && !s.boot.loadZero then s.shot + 1 else 0

/-- Outputs are muted under R80 (R746). -/
def State.muted (s : State) : Bool :=
  s.mode = 8 || s.mode = 10 || (s.mode = 3 && !s.flag CLK_CTRL.AUDIO_IN_ACQ)

/-- The role code of R703. -/
def State.role (s : State) : Nat := s.getF STI_STAT.ROLE

/-- The chip drives no shared output: as STANDIN or FENCED (R704), and in TAKEOVER until b0 (R746). -/
def State.hiZ (s : State) : Bool := s.role = 2 || s.role = 3 || (s.mode = 7 && s.sti.b0.isNone)

/-- The chip is paired and holds the lease token (R713). -/
def State.pairedHolder (s : State) : Bool := s.role = 1 && s.flag STI_STAT.PAIRED

/-- Samples in a shot (R20). -/
def State.n (s : State) : Nat := 4 * 2 ^ s.getF SYS_CFG.SHOT

/-- Taps of the configured shape (R4). -/
def State.taps (s : State) : Nat :=
  match s.getF SYS_CFG.RATE with
  | 0 => if s.flag SYS_CFG.SHAPE then 2048 else 4096
  | 1 => 2048
  | _ => 1024

/-- Buses of the configured shape (R4). -/
def State.buses (s : State) : Nat :=
  match s.getF SYS_CFG.RATE with
  | 0 => if s.flag SYS_CFG.SHAPE then 1024 else 512
  | 1 => 512
  | _ => 256

/-- Internal rate in Hz. -/
def State.fs (s : State) : Nat := match s.getF SYS_CFG.RATE with | 0 => 48000 | 1 => 96000 | _ => 192000

/-- CLK_CORE cycles in a sample period (R4). -/
def State.tsCycles (s : State) : Nat := match s.getF SYS_CFG.RATE with | 0 => 25600 | 1 => 12800 | _ => 6400

/-- CLK_CORE cycles in a shot (R17). -/
def State.shotCycles (s : State) : Nat := s.n * s.tsCycles

/-! ### Performance counters (R691 to R696) -/

/-- Global counter `g` counts `k`: it wraps at 2^32, and a wrap increments a chained counter above it (R693). -/
def countChainG : Nat → Nat → Nat → State → State
  | 0, _, _, s => s
  | fuel + 1, g, k, s =>
    let v := s.getF (PCN_GCNT.COUNT g) + k
    let s' := s.setF (PCN_GCNT.COUNT g) v
    if 2 ^ 32 ≤ v ∧ g + 1 < 32 ∧ s.flag (PCN_GSEL.CHAIN (g + 1)) then countChainG fuel (g + 1) 1 s' else s'

/-- Event `evt` happens `k` times: every global counter that selects it counts, unless counting is frozen (R691, R694). -/
def countG (evt k : Nat) (s : State) : State :=
  if s.flag PCN_CTRL.FREEZE then s else
  (List.range 32).foldl (fun s g =>
    if s.getF (PCN_GSEL.EVT g) = evt ∧ !s.flag (PCN_GSEL.CHAIN g) then countChainG 32 g k s else s) s

/-- Counter `j` of engine `e` counts `k`. -/
def countChainE : Nat → Nat → Nat → Nat → State → State
  | 0, _, _, _, s => s
  | fuel + 1, e, j, k, s =>
    let v := s.getF (PCN_ECNT.COUNT e j) + k
    let s' := s.setF (PCN_ECNT.COUNT e j) v
    if 2 ^ 32 ≤ v ∧ j + 1 < 8 ∧ s.flag (PCN_ESEL.CHAIN e (j + 1)) then countChainE fuel e (j + 1) 1 s' else s'

/-- Event `evt` of engine `e` happens `k` times while `task` is in its active bank (R691, R692). -/
def countE (e evt k task : Nat) (s : State) : State :=
  if s.flag PCN_CTRL.FREEZE ∨ k = 0 then s else
  (List.range 8).foldl (fun s j =>
    if s.getF (PCN_ESEL.EVT e j) = evt ∧ !s.flag (PCN_ESEL.CHAIN e j)
        ∧ (!s.flag (PCN_ESEL.TFILT e j) ∨ s.getF (PCN_ESEL.TASK e j) = task)
    then countChainE 8 e j k s else s) s

/-- Every counter is copied into its snapshot register and the snapshot count increases (R695). -/
def snapshot (s : State) : State :=
  let s := (List.range 32).foldl (fun s g => s.setF (PCN_GSNAP.COUNT g) (s.getF (PCN_GCNT.COUNT g))) s
  let s := (List.range 18).foldl (fun s e => (List.range 8).foldl
    (fun s j => s.setF (PCN_ESNAP.COUNT e j) (s.getF (PCN_ECNT.COUNT e j))) s) s
  s.incW PCN_SNAPSEQ.COUNT 1

/-! ### Interrupts (R652, R653) -/

/-- MSI-X vector `n` is masked in the MSI-X table of BAR4 (R616, R653; log entry 194). -/
def State.msixMasked (s : State) (n : Nat) : Bool := bitOf (nAt s.cmd.msix (4 * n + 3)) 0

/-- MSI-X vector `n` is sent, or pends where its table entry masks it (R653; log entry 194). -/
def sendMsix (n : Nat) (s : State) : State :=
  if s.msixMasked n then s.onCmd fun u => { u with msixPend := u.msixPend ||| 2 ^ n } else s.out (.msix n)

/-- Interrupt source `n` sets: MSI-X vector n goes out where the source was clear and is enabled. -/
def setIrq (n : Nat) (s : State) : State :=
  let was := bitOf (s.getF CMD_ISTAT.SRC) n
  let s' := s.orF CMD_ISTAT.SRC (2 ^ n)
  if !was ∧ bitOf (s.getF CMD_IEN.EN) n then sendMsix n s' else s'

/-- Interrupt sources as `CMD_ISTAT` shows them: SPORTq is the OR of four bits of `CMD_SPPEND` (R652). -/
def State.istat (s : State) : Nat :=
  let sp := s.getF CMD_SPPEND_LO.P + 2 ^ 32 * s.getF CMD_SPPEND_HI.P
  let sport := (List.range 16).foldl (fun a q => if bits sp (4 * q) 4 = 0 then a else a + 2 ^ (8 + q)) 0
  (s.getF CMD_ISTAT.SRC &&& 0xFF0000FF) ||| sport

/-- INT_N is driven low (R653). -/
def State.intLow (s : State) : Bool := (s.istat &&& s.getF CMD_INTNEN.EN) ≠ 0

/-- A port interrupt of port `p` (R653). -/
def portIrq (p : Nat) (s : State) : State :=
  let s' := if p < 32 then s.orF CMD_SPPEND_LO.P (2 ^ p) else s.orF CMD_SPPEND_HI.P (2 ^ (p - 32))
  let n := 8 + p / 4
  if !bitOf s.istat n ∧ bitOf (s.getF CMD_IEN.EN) n then sendMsix n s' else s'

/-! ### Replies and notifications (R614 to R642) -/

/-- The session of transport `tr`. -/
def State.sess (s : State) (tr : Nat) : Sess := s.cmd.sess.getD tr ⟨none, 0, [], 0⟩

/-- The session of transport `tr` replaced by its image under `f`. -/
def onSess (tr : Nat) (f : Sess → Sess) (s : State) : State :=
  s.onCmd fun u => { u with sess := putNth ⟨none, 0, [], 0⟩ u.sess tr (f (u.sess.getD tr ⟨none, 0, [], 0⟩)) }

/-- The write-back block: `CMD_CR_HEAD`, `CMD_RR_WPTR`, `CMD_NR_WPTR` (R621). -/
def writeBack (s : State) : State :=
  s.out (.hostWrite (s.getF CMD_WB_LO.ADDR * 64 + s.getF CMD_WB_HI.ADDR * 2 ^ 32)
    [wd (s.getF (CMD_RING_DEVPTR.PTR 0)), wd (s.getF (CMD_RING_DEVPTR.PTR 1)), wd (s.getF (CMD_RING_DEVPTR.PTR 2))])

/-- The ring `k` of the PCIe transport: 0 command, 1 reply, 2 notify. -/
def State.ring (s : State) (k : Nat) : HRing := s.cmd.rings.getD k ⟨0, 256, none⟩

/-- The staged length of ring `k` applies: its write pointer passed from LEN − 1 to 0, and the read pointer `ptr` is folded
modulo the new length (R622). -/
def applyRingLen (k : Nat) (ptr : Fld) (s : State) : State :=
  match (s.ring k).staged with
  | none => s
  | some l =>
    let s := s.onCmd fun u => { u with rings := putNth ⟨0, 256, none⟩ u.rings k { (u.rings.getD k ⟨0, 256, none⟩) with len := l, staged := none } }
    let s := s.setF ptr (s.getF ptr % l)
    s.setF CMD_RCTRL.LENPEND (s.getF CMD_RCTRL.LENPEND - (if bitOf (s.getF CMD_RCTRL.LENPEND) k then 2 ^ k else 0))

/-- Ring `k` is full: advancing its write pointer would make it equal to the read pointer (R618). -/
def ringFull (k : Nat) (s : State) : Bool :=
  (s.getF (CMD_RING_DEVPTR.PTR k) + 1) % (s.ring k).len = s.getF (CMD_RING_HOSTPTR.PTR k)

/-- A message is written into its slot of ring `k`, the write pointer advances and the write-back block follows (R621). -/
def ringPlace (k slot : Nat) (words : List Word) (s : State) : State :=
  let r := s.ring k
  let w := s.getF (CMD_RING_DEVPTR.PTR k)
  let s := s.out (.hostWrite (r.base + slot * w) words)
  let w' := if w + 1 < r.len then w + 1 else 0
  let s := s.setF (CMD_RING_DEVPTR.PTR k) w'
  let s := if w' = 0 then applyRingLen k (CMD_RING_HOSTPTR.PTR k) s else s
  writeBack s

/-- The PCIe rings take messages: the link is up and RINGS_EN is 1 (R623; while the rings stand still a message is dropped,
log entry 6). -/
def ringsRun (s : State) : Bool := s.flag CMD_STAT.LINKUP && s.flag CMD_CTRL.RINGS_EN

/-- A 64-bit counter in two registers increased, saturating (R12, R444). -/
def inc64 (lo hi : Fld) (n : Nat) (s : State) : State :=
  let v := min (2 ^ 64 - 1) (s.getF lo + 2 ^ 32 * s.getF hi + n)
  (s.setF lo (v % 2 ^ 32)).setF hi (v / 2 ^ 32)

/-- A frame of `len` bytes is counted as sent by port `p` (R444, R691). -/
def countTx (p len : Nat) (s : State) : State :=
  let s := if p < 4 then countG (0x3C + p) 1 s else s
  inc64 (NET_TX_BYTES_LO.COUNT p) (NET_TX_BYTES_HI.COUNT p) len (inc64 (NET_TX_FRAMES_LO.COUNT p) (NET_TX_FRAMES_HI.COUNT p) 1 s)

/-- MGMT sends what leaves on it, in a frame of `len` bytes. -/
def mgmtSend (o : Output) (len : Nat) (s : State) : State := countTx 4 len (s.out o)

/-- What the device sends on MGMT leaves at once, or waits while a PAUSE holds the port (R393, R406). -/
def mgmtOut (o : Output) (len : Nat) (s : State) : State :=
  if s.flag (NET_PSTAT.PAUSED 4) then s.onCmd fun u => { u with mgmtHeld := u.mgmtHeld ++ [(o, len)] } else mgmtSend o len s

/-- The end of a pause on MGMT: what waits leaves in order. -/
def mgmtFlush (s : State) : State :=
  s.cmd.mgmtHeld.foldl (fun s x => mgmtSend x.1 x.2 s) (s.onCmd fun u => { u with mgmtHeld := [] })

/-- Length of the frame that carries a datagram of `n` words to `dst`, its FCS included (R395, R624): an IPv4 source lies below
2^48, its address over its port. -/
def datagramLen (dst n : Nat) : Nat := max 64 (14 + (if dst < 2 ^ 48 then 20 else 40) + 8 + 4 * n + 4)

/-- Transport `tr` takes its next device sequence number (R637). -/
def takeDseq (tr : Nat) (s : State) : State := onSess tr (fun x => { x with dseq := (x.dseq + 1) % 2 ^ 32 }) s

/-- The words of a notification (R630): code, LEN, device sequence number, shot counter bits [31:0], payload and CRC. -/
def noticeWords (code dseq shot : Nat) (payload : List Word) : List Word :=
  let body := [wd (code * 65536 + 1), 0, wd (payload.length * 65536), wd dseq, wd shot] ++ payload
  body ++ [crcWords body]

/-- A notification goes out on transport `tr` with its next device sequence number, or is dropped and counted with that
number consumed (R618, R623, R627, R641). -/
def sendNotice (tr code : Nat) (payload : List Word) (s : State) : State :=
  let ws := noticeWords code (s.sess tr).dseq s.shot payload
  let s' := takeDseq tr s
  match tr with
  | 0 =>
    if !ringsRun s then s'
    else if ringFull 2 s then s'.incF CMD_DROP.NR 1
    else setIrq 1 (ringPlace 2 256 ws (s'.out (.notice 0 ws)))
  | 1 => match s.cmd.mgmtSrc with
    | some d => setIrq 1 (mgmtOut (.notice 1 ws) (datagramLen d ws.length) s')
    | none => s'
  | _ =>
    if 16 ≤ s.cmd.spiQueue.length then s'.incF CMD_DROP.SPI 1
    else setIrq 1 ((s'.onCmd fun u => { u with spiQueue := u.spiQueue ++ [ws] }).out (.notice 2 ws))

/-- The notification `code` goes to every transport that subscribes to it (R641). -/
def notify (code : Nat) (payload : List Nat) (s : State) : State :=
  (List.range 3).foldl (fun s tr =>
    if bitOf (s.sess tr).mask (code - 0x8000) then sendNotice tr code (payload.map wd) s else s) s

/-- The words of a reply (R630). -/
def replyWords (op : Nat) (h : CmdHdr) (gap : Bool) (dseq status detail : Nat) (payload : List Word) : List Word :=
  let body := [wd (op * 65536 + (if gap then 256 else 0) + (if h.chk then 1024 else 0) + 1), wd h.hseq,
    wd (payload.length * 65536 + h.tag % 65536), wd dseq, wd (status * 65536 + detail % 65536)] ++ payload
  body ++ [crcWords body]

/-- A packet of opcode `op` has been executed and has changed device state: the generation count of its group (R638). -/
def noteGen (op : Nat) (s : State) : State :=
  s.onCmd fun u => { u with gens := putNth 0 u.gens (op / 256) ((u.gens.getD (op / 256) 0 + 1) % 2 ^ 32) }

/-- A reply's words go to its transport: into the reply ring, out as a datagram, or into the SPI message queue, where they wait for a
place among its 16; dropped while the PCIe link is down (R614, R618, R623, R627). -/
def placeWords (tr : Nat) (ws : List Word) (s : State) : State :=
  match tr with
  | 0 => if ringsRun s then setIrq 0 (ringPlace 1 4160 ws (s.out (.reply 0 0 ws))) else s
  | 1 => setIrq 0 (mgmtOut (.reply 1 s.cmd.mgmtDest ws) (datagramLen s.cmd.mgmtDest ws.length) s)
  | _ =>
    if 16 ≤ s.cmd.spiQueue.length then s.onCmd fun u => { u with spiHeld := u.spiHeld ++ [ws] }
    else setIrq 0 ((s.onCmd fun u => { u with spiQueue := u.spiQueue ++ [ws] }).out (.reply 2 0 ws))

/-- The reply to the packet `h` of opcode `op` is placed: it takes the transport's next device sequence number and enters the
replay cache of 64 (R636, R637). -/
def placeReply (op : Nat) (h : CmdHdr) (gap : Bool) (status detail : Nat) (payload : List Word) (s : State) : State :=
  let ws := replyWords op h gap (s.sess h.tr).dseq status detail payload
  let s := takeDseq h.tr s
  let s := onSess h.tr (fun x => { x with cache := ((h.hseq, ws) :: x.cache).take 64 }) s
  placeWords h.tr ws s

/-! ### Fault messages and event records (chapter 15) -/

/-- A fault message is sent in this cycle (R656, R657). -/
def raise (src kind addr : Nat) (s : State) : State :=
  s.onFlt fun u => { u with wire := u.wire ++ [⟨src, kind % 16, addr % 2 ^ 32, false, s.getF (FLT_CFG.SEV src), s.getF (FLT_CFG.REACT src)⟩] }

/-- An event record is made in this cycle (R671, R679). -/
def logEvent (code : Nat) (payload : List Nat) (s : State) : State :=
  s.onFlt fun u => { u with wireEv := u.wireEv ++ [⟨code, payload.map wd, false⟩] }

/-- Order of R657: ascending SRC, then ascending ADDR. -/
def msgBefore (a b : Msg) : Bool := a.src < b.src || (a.src = b.src && a.addr ≤ b.addr)

/-- A message in its place among messages in the order of R657. -/
def msgInsert (m : Msg) : List Msg → List Msg
  | [] => [m]
  | x :: t => if msgBefore x m then x :: msgInsert m t else m :: x :: t

/-- The messages of a cycle in the order of R657. -/
def msgSort (l : List Msg) : List Msg := l.foldl (fun a m => msgInsert m a) []

/-- An entry enters the log queue, or is discarded and counted where it finds 64 entries (R671). -/
def enqueue (x : LogEntry) (s : State) : State :=
  if 64 ≤ s.flt.queue.length then s.incF FLT_STAT.QLOST 1
  else s.onFlt fun u => { u with queue := u.queue ++ [x] }

/-- Position of the message that the first-fault record takes: highest severity, first in order (R666). -/
def firstPick : List Msg → Nat → Nat → Nat → Nat
  | [], _, best, _ => best
  | m :: t, i, best, bestSev =>
    if bestSev < m.sev + 1 then firstPick t (i + 1) i (m.sev + 1) else firstPick t (i + 1) best bestSev

/-- The first-fault record is written from message `m` (R666); counting freezes with FRZFIRST (R694). -/
def writeFirst (m : Msg) (s : State) : State :=
  let s := s.setF FLT_FIRST.VALID 1
  let s := s.setF FLT_FIRST.INJ (b2n m.inj)
  let s := s.setF FLT_FIRST.SEV m.sev
  let s := s.setF FLT_FIRST.KIND m.kind
  let s := s.setF FLT_FIRST.SRC m.src
  let s := s.setF FLT_FIRST_ADDR.ADDR m.addr
  let s := s.setF FLT_FIRST_SHOT.SHOT s.shot
  let s := s.setF FLT_FIRST_SEC.SEC s.boot.life.opsec
  if s.flag PCN_CTRL.FRZFIRST then s.setF PCN_CTRL.FREEZE 1 else s

/-- The message word of R673. -/
def msgWord (m : Msg) (first : Bool) (sev react : Nat) : Nat :=
  (if m.inj then 2 ^ 31 else 0) + (if first then 2 ^ 30 else 0) + m.src * 65536 + m.kind * 256 + sev * 16 + react

/-- One message is accepted: counted, its sticky bit set, its log entry queued, the FAULT interrupt set from reaction
INTERRUPT upward (R660, R665, R667, R671). -/
def acceptMsg (m : Msg) (first : Bool) (s : State) : State :=
  let s := s.incF FLT_COUNT.COUNT 1
  let s := countG 0x35 1 s
  let s := s.orF (FLT_STICKY.BITS (m.src / 32)) (2 ^ (m.src % 32))
  let s := if first then s else s.incF FLT_FIRST.ALSO 1
  let s := enqueue ⟨m.src, [wd (msgWord m first m.sev m.react), wd m.addr], 1 ≤ m.react⟩ s
  if 1 ≤ m.react then setIrq 3 s else s

/-- Physical engines that exchange pages at a bus-engine commit (R317): those that serve a bus engine, and the targets of a dissolve
recast of one. -/
def busPhys (les : List Nat) (s : State) : List Nat :=
  (List.range 18).filter fun e =>
    les.contains (s.getF (ENG_ROLE.LOGICAL e)) || s.take.dissRecasts.any fun r => r.target = e && les.contains r.logical

/-- Every slate copy of the last take is complete, so that the holds of R313 may end: of every engine and of the matrix, with those
of bus engines that are still to exchange pages. -/
def copiesDone (s : State) : Bool :=
  s.eng.all (fun u => !u.copying) && s.flag SPL_STAT.SLATE_READY
  && (match s.take.commit with
      | some c => c.busDone || !((busPhys c.busEngines s).any fun e => s.flag (ENG_STAT.SLATE_DIRTY e))
      | none => true)

/-- The pending take is abandoned for `reason` (R337): the slate stays, its holds end, TAKE_ABANDONED goes out; a hold stands on only
while copies of an earlier take run (R313). A take that still waits for the votes of its ring has not been accepted: its TAKE is
refused with BUSY. -/
def abandonTake (reason : Nat) (s : State) : State :=
  match s.take.pending with
  | none => s
  | some _ =>
    let number := (s.getF SYS_TAKE_CNT.COUNT + 1) % 2 ^ 32
    let vote := s.take.voting
    let s := s.onTake fun u => { u with
      pending := none, hold := u.hold && !copiesDone s, unconfirmed := false, voting := none, asked := none, voters := [] }
    match vote with
    | some (h, gap) => placeReply 0x200 h gap 5 0xFFFF [] ((s.incF SYS_TAKE_REFUSED.REFUSED 1).out (.rl 1 "ABANDON" []))
    | none => notify 0x8004 [number, reason] (s.incF SYS_TAKE_REFUSED.ABANDONED 1)

/-- Engine `e`, halted, runs on: `ENG_CTRL.HALT` and the state HALTED exist in MAINTENANCE and TEST only (R147). -/
def resumeEngine (e : Nat) (s : State) : State :=
  let s := s.setF (ENG_CTRL.HALT e) 0
  if s.getF (ENG_STAT.STATE e) = 2 then
    let run := (s.eng.getD e EngU.reset).haltedRun
    (s.onEng fun l => putNth EngU.reset l e { (l.getD e EngU.reset) with haltedRun := false }).setF (ENG_STAT.STATE e) (b2n run)
  else s

/-- The change from mode `old` to the present one ended muting (R748): from SAFE or MAINTENANCE, or from ACQUIRE with
`CLK_CTRL.AUDIO_IN_ACQ` at 0, to an unmuted mode with audio. -/
def unmutedFrom (old : Nat) (s : State) : Bool :=
  takeMode s.mode && !s.muted && (old = 8 || old = 10 || (old = 3 && !s.flag CLK_CTRL.AUDIO_IN_ACQ))

/-- The mode becomes `m` (R766): PREV, a MODE record, the MODE interrupt and MODE_CHANGE; a pending take is abandoned where
the new mode admits none (R337). -/
def changeMode (m : Nat) (s : State) : State :=
  let old := s.mode
  if m = old then s else
  let s := if takeMode m then s else abandonTake 1 s
  let s := s.setF SYS_MODE.PREV old
  let s := s.setF SYS_MODE.MODE m
  let s := if (old = 10 ∨ old = 11) ∧ m ≠ 10 ∧ m ≠ 11 then (List.range 18).foldl (fun s e => resumeEngine e s) s else s
  let s := logEvent 0xE1 [m + 16 * old, s.shot] s
  let s := setIrq 6 s
  let s := if unmutedFrom old s then s.onBoot fun u => { u with fadeAt := some s.nextShot } else s
  notify 0x800B [m, old] s

/-- A SAFE request (R660, R751): from ACQUIRE, RUN, RUN_HOLDOVER, DEGRADED and MAINTENANCE with tick the mode becomes SAFE;
elsewhere it is unchanged (R662). -/
def safeRequest (s : State) : State :=
  if s.mode = 3 ∨ s.mode = 4 ∨ s.mode = 5 ∨ s.mode = 9 ∨ (s.mode = 10 ∧ s.tick) then changeMode 8 s else s

/-- A takeover that has not come to its release ends: its wake is over (R723; log entry 198). -/
def endWake (s : State) : State :=
  if s.mode = 7 then (s.setF STI_STAT.WAKING 0).onSti fun u => { u with wake := 0, prewoken := false } else s

/-- A holder releases the token (R712): pins of R704, RELEASE over the STI, LEASE_OUT low and role STANDIN; from a mode with
audio, SAFE or TAKEOVER the mode becomes STANDIN (R703, R751; log entry 198). Its units rest from the next boundary on (log entry 31). -/
def releaseToken (s : State) : State :=
  let s := s.out (.act "PINS_R704" [])
  let s := s.out (.sti "RELEASE" [])
  let s := s.setF STI_STAT.LEASE_OUT 0
  let s := s.out (.pin "LEASE_OUT" false)
  let s := s.setF STI_STAT.ROLE 2
  let s := s.onSti fun u => { u with handover := 0, sent := none }
  if s.mode = 3 ∨ s.mode = 4 ∨ s.mode = 5 ∨ s.mode = 7 ∨ s.mode = 8 ∨ s.mode = 9 then changeMode 6 (endWake s) else s

/-- The collector accepts every message of the cycle and applies their reactions (R657, R660, R665, R666): the first-fault
record takes its message, each message is accepted in order, then a TAKEOVER reaction releases the token of a paired holder
and a SAFE reaction requests SAFE. -/
def acceptAll (s : State) : State :=
  let l := msgSort s.flt.wire
  let s := s.onFlt fun u => { u with wire := [] }
  let empty := !s.flag FLT_FIRST.VALID
  let pick := firstPick l 0 0 0
  let top := l.foldl (fun a (m : Msg) => max a m.react) 0
  let s := if empty then (match l[pick]? with | some m => writeFirst m s | none => s) else s
  let s := (l.zipIdx).foldl (fun s x => acceptMsg x.1 (empty && x.2 = pick) s) s
  let s := if top = 3 ∧ s.pairedHolder then releaseToken s else s
  if 2 ≤ top then safeRequest s else s

/-- The event records of the cycle enter the log queue after its messages (R671). -/
def acceptEvents (s : State) : State :=
  s.flt.wireEv.foldl (fun s x => enqueue x s) s

/-- The end of a cycle: every message and event record sent in it has been accepted (R657, R671). -/
def settle (s : State) : State :=
  (acceptEvents (acceptAll s)).onFlt fun u => { u with wire := [], wireEv := [] }

/-- The end of a command: its cycle's messages are accepted, and the state is the command's next state. -/
def finish (s : State) : Host.Outcome State Fault Refusal := .next (settle s)

/-! ### Claims of balls (R16, R785, R788) -/

/-- I/O bank of the ball with claim index `i` (R783, R788). -/
def pinBank (i : Nat) : Nat :=
  if i < 32 then 1 else if i < 64 then 2 else if i < 96 then 1 else if i < 128 then 2 else if i < 161 then 3
  else if i < 197 then 4 else 5

/-- The bank of the ball is on (R784). -/
def bankOn (i : Nat) (s : State) : Bool := bits (s.reg 0xE0000).toNat (2 * pinBank i) 2 ≠ 0

/-- The claim held on ball `i`. -/
def State.pinClaim (s : State) (i : Nat) : Option Claim := (s.pin.claims.find? (fun c => c.1 = i)).map (·.2)

/-- Ball `i` is claimed for the owner, or refused: status 0, or 6 CONFLICT where it is claimed (R16), or 3 BADARG where its
bank is off (R785); a refusal sends a CLAIM message. -/
def claimPin (i : Nat) (c : Claim) (s : State) : Nat × State :=
  if !bankOn i s then (3, raise 0x02 0 i s)
  else if (s.pinClaim i).isSome then (6, raise 0x02 0 i s)
  else (0, s.onPin fun u => { u with claims := (i, c) :: u.claims })

/-- The claim of ball `i` is released. -/
def releasePin (i : Nat) (s : State) : State :=
  s.onPin fun u => { u with claims := u.claims.filter (fun c => c.1 ≠ i) }

/-- Every ball of the list is claimed, or none (R16): the first refusal decides. -/
def claimPins (is : List Nat) (c : Claim) (s : State) : Nat × State :=
  match is with
  | [] => (0, s)
  | i :: t =>
    match claimPin i c s with
    | (0, s1) =>
      match claimPins t c s1 with
      | (0, s2) => (0, s2)
      | (st, s2) => (st, releasePin i s2)
    | (st, s1) => (st, s1)

end Sys2Proof.Machine
end

