-- ==== Sys2Proof/Machine/Memory.lean ====
section
/-! DEFINITION. The 40-bit device address space (R39 to R46, R104, R105): regions, the views of the coefficient pages, byte
and word access, little-endian. -/

namespace Sys2Proof.Machine

/-- What lies at a device address (R39, R44). -/
inductive Region where
  | control
  | engine (e : Nat) (off : Nat)
  | gains (off : Nat)
  | stage (off : Nat)
  | packet
  | swap
  | mram (off : Nat)
  | ddr
  | none
  deriving DecidableEq, Repr

/-- The fitted LPDDR5 in bytes: the size that `DDR_CFG.SIZE` gives (R595, R612). -/
def State.ddrBytes (s : State) : Nat :=
  match s.getF DDR_CFG.SIZE with
  | 1 => 0x40000000 | 2 => 0x80000000 | 3 => 0x100000000 | 4 => 0x200000000 | _ => 0

/-- Region of a device address (R39); LPDDR5 ends at the fitted size (R40). -/
def regionOf (a : Nat) (s : State) : Region :=
  if a < 0x100000 then .control
  else if 0x1000000 ≤ a ∧ a < 0x2200000 then .engine ((a - 0x1000000) / 0x100000) (a % 0x100000)
  else if 0x4000000 ≤ a ∧ a < 0x4800000 then .gains (a - 0x4000000)
  else if 0x5000000 ≤ a ∧ a < 0x5800000 then .stage (a - 0x5000000)
  else if 0x6000000 ≤ a ∧ a < 0x6400000 then .packet
  else if 0x7000000 ≤ a ∧ a < 0x7040000 then .swap
  else if 0x8000000 ≤ a ∧ a < 0x9000000 then .mram (a - 0x8000000)
  else if 0x100000000 ≤ a ∧ a < 0x100000000 + s.ddrBytes then .ddr
  else .none

/-- Base of the local window of engine `e` (R44). -/
def engWin (e : Nat) : Nat := 0x1000000 + e * 0x100000

/-- Base of physical coefficient page A (false) or B (true) of engine `e` in byte memory (R45). -/
def pageBase (e : Nat) (b : Bool) : Nat := engWin e + (if b then 0x90000 else 0x80000)

/-- Page behind the live view of engine `e` (R148). -/
def State.livePage (s : State) (e : Nat) : Bool := s.flag (ENG_STAT.LIVEPAGE e)

/-- Offset in a window to offset in byte memory: the slate view and the live view are mapped onto the pages behind them
(R45). -/
def viewOff (e off : Nat) (s : State) : Nat :=
  if 0x80000 ≤ off ∧ off < 0x90000 then (if s.livePage e then off else off + 0x10000)
  else if 0x90000 ≤ off ∧ off < 0xA0000 then (if s.livePage e then off else off - 0x10000)
  else off

/-- A byte of memory. -/
def State.byte (s : State) (a : Nat) : Byte := smGet (memDefault a) s.mem a

/-- The state with a byte of memory at `b`. -/
def State.setByte (s : State) (a : Nat) (b : Byte) : State := s.onMem (smPut (memDefault a) a b)

/-- The word at a byte address of memory, least significant byte first (R105). -/
def State.word (s : State) (a : Nat) : Word :=
  wd ((s.byte a).toNat + 256 * (s.byte (a + 1)).toNat + 65536 * (s.byte (a + 2)).toNat + 16777216 * (s.byte (a + 3)).toNat)

/-- The state with the word at a byte address of memory at `w`. -/
def State.setWord (s : State) (a : Nat) (w : Word) : State :=
  let n := w.toNat
  (((s.setByte a (BitVec.ofNat 8 n)).setByte (a + 1) (BitVec.ofNat 8 (n / 256))).setByte (a + 2)
    (BitVec.ofNat 8 (n / 65536))).setByte (a + 3) (BitVec.ofNat 8 (n / 16777216))

/-- The 64-bit instruction at a byte address (R105). -/
def State.dword (s : State) (a : Nat) : DWord := BitVec.ofNat 64 ((s.word a).toNat + 2 ^ 32 * (s.word (a + 4)).toNat)

/-- `n` words from a byte address. -/
def State.wordsAt (s : State) (a n : Nat) : List Word := (List.range n).map fun i => s.word (a + 4 * i)

/-- Words written from a byte address upward. -/
def writeWords (a : Nat) : List Word → State → State
  | [], s => s
  | w :: t, s => writeWords (a + 4) t (s.setWord a w)

/-- Bytes written from an address upward. -/
def writeBytes (a : Nat) : List Byte → State → State
  | [], s => s
  | b :: t, s => writeBytes (a + 1) t (s.setByte a b)

/-- `n` bytes from `src` copied to `dst`: only the listed bytes of the two ranges matter, and the target range becomes an
exact copy. -/
def copyBytes (dst src n : Nat) (s : State) : State :=
  s.onMem fun m =>
    let kept := m.filter fun c => !(dst ≤ c.1 ∧ c.1 < dst + n)
    (m.filter fun c => src ≤ c.1 ∧ c.1 < src + n).foldl (fun k c => smPut (memDefault (c.1 - src + dst)) (c.1 - src + dst) c.2 k) kept

/-- `n` bytes from `dst` set to 0. -/
def zeroBytes (dst n : Nat) (s : State) : State :=
  s.onMem fun m => m.filter fun c => !(dst ≤ c.1 ∧ c.1 < dst + n)

/-- A free value: the constant applied to the counter, which advances (log entry 2). -/
def fresh {α : Type} (f : Nat → α) (s : State) : α × State := (f s.free, s.onFree (· + 1))

/-- A fault message whose ADDR no rule gives (R656; log entry 13). -/
def raiseOpen (src : Nat) (s : State) : State :=
  let (a, s) := fresh Config.faultAddr s
  raise src 0 a s

/-- `n` free values. -/
def freshN {α : Type} (f : Nat → α) (n : Nat) (s : State) : List α × State :=
  ((List.range n).map fun i => f (s.free + i), s.onFree (· + n))

/-- The DECODE message of a discarded or unmapped access: bits [39:8] of the address (R41). -/
def decodeFault (a : Nat) (s : State) : State := raise 0x01 0 (a / 256 % 2 ^ 32) s

/-! ### Engines -/

/-- Engine `e` beside its registers. -/
def State.engine (s : State) (e : Nat) : EngU := s.eng.getD e EngU.reset

/-- Engine `e` replaced by its image under `f`. -/
def onEngine (e : Nat) (f : EngU → EngU) (s : State) : State :=
  s.onEng fun l => putNth EngU.reset l e (f (l.getD e EngU.reset))

/-- The state code of engine `e` (R148). -/
def State.engState (s : State) (e : Nat) : Nat := s.getF (ENG_STAT.STATE e)

/-- The active register bank of engine `e`. -/
def State.bank (s : State) (e : Nat) : Bank :=
  if s.flag (ENG_STAT.BANK e) then (s.engine e).bank1 else (s.engine e).bank0

/-- The active register bank of engine `e` replaced by its image under `f`. -/
def onBank (e : Nat) (f : Bank → Bank) (s : State) : State :=
  let b := s.flag (ENG_STAT.BANK e)
  onEngine e (fun u => if b then { u with bank1 := f u.bank1 } else { u with bank0 := f u.bank0 }) s

/-- The physical engine that serves logical engine `n` (R93); none while unassigned. -/
def State.physOf (s : State) (n : Nat) : Option Nat :=
  (List.range 18).find? fun e => s.getF (ENG_ROLE.LOGICAL e) = n ∧ n < 16

/-- An access of the host to the local window finds the engine LOADING, LOADED or RETIRED (R145). -/
def engClosed (e : Nat) (s : State) : Bool := s.engState e = 4 || s.engState e = 5 || s.engState e = 6

/-- Value of a slice word as the host reads it: the buffered value where the store buffer holds it, else memory (R144). -/
def sliceWord (e a : Nat) (s : State) : Word :=
  let u := s.engine e
  let look := fun (o : Option StoreOp) => match o with
    | none => none
    | some st => (st.cells.find? (fun c => c.1 = a)).map (·.2)
  match look u.bufX with
  | some w => w
  | none => match look u.bufY with
    | some w => w
    | none => s.word a

end Sys2Proof.Machine
end

