-- ==== Sys2Proof/Machine/Packet.lean ====
section
/-! DEFINITION. Frames as byte lists (chapter 09): the CRC-32 of IEEE 802.3, Internet checksums, and what a frame's headers
say. -/

namespace Sys2Proof.Machine

/-! ### Bytes -/

/-- Byte `n` of a frame as a number, 0 past its end. -/
def byteAt (l : List Byte) (n : Nat) : Nat := (l.getD n 0).toNat

/-- The number in `k` bytes from offset `n`, most significant first. -/
def beAt (l : List Byte) (n k : Nat) : Nat := (List.range k).foldl (fun a i => a * 256 + byteAt l (n + i)) 0

/-- A number as `k` bytes, most significant first. -/
def beBytes (x k : Nat) : List Byte := (List.range k).map fun i => BitVec.ofNat 8 (x / 256 ^ (k - 1 - i))

/-- A number as `k` bytes, least significant first. -/
def leBytes (n k : Nat) : List Byte := (List.range k).map fun i => BitVec.ofNat 8 (n / 256 ^ i)

/-- The bytes of a frame from offset `n` replaced by `b`. -/
def putAt (l : List Byte) (n : Nat) (b : List Byte) : List Byte := l.take n ++ b ++ l.drop (n + b.length)

/-- One byte into the reflected CRC-32 register of IEEE 802.3. -/
def crc32Byte (c b : Nat) : Nat :=
  (List.range 8).foldl (fun c _ => if c % 2 = 1 then (c / 2) ^^^ 0xEDB88320 else c / 2) (c ^^^ b)

/-- The CRC-32 of IEEE 802.3, by which the FCS and the multicast filter are formed (R392, R434). -/
def crc32 (l : List Byte) : Nat := (l.foldl (fun c b => crc32Byte c b.toNat) 0xFFFFFFFF) ^^^ 0xFFFFFFFF

/-- The frame with its FCS (R397): padded to 60 bytes before it. -/
def withFcs (l : List Byte) : List Byte :=
  let l := l ++ List.replicate (60 - l.length) (0 : Byte)
  l ++ leBytes (crc32 l) 4

/-- The FCS of a received frame is right (R396). -/
def fcsOk (l : List Byte) : Bool := leBytes (crc32 (l.dropLast.dropLast.dropLast.dropLast)) 4 = l.drop (l.length - 4)

/-! ### Headers (R392) -/

/-- The frame carries a VLAN tag. -/
def tagged (l : List Byte) : Bool := beAt l 12 2 = 0x8100

/-- Offset of the EtherType. -/
def typeOff (l : List Byte) : Nat := if tagged l then 16 else 12

/-- The EtherType. -/
def etherType (l : List Byte) : Nat := beAt l (typeOff l) 2

/-- Destination and source address. -/
def macDst (l : List Byte) : Nat := beAt l 0 6
/-- Source address. -/
def macSrc (l : List Byte) : Nat := beAt l 6 6

/-- A multicast address, broadcast included. -/
def macGroup (m : Nat) : Bool := bitOf m 40

/-- The broadcast address. -/
def macBroadcast : Nat := 2 ^ 48 - 1

/-- What the headers of an IP frame say: version, offsets of the IP and transport headers, the protocol, the addresses, and
whether options, fragments or extension headers stand between them. -/
structure IpInfo where
  v6 : Bool
  l3 : Nat
  l4 : Nat
  proto : Nat
  src : Nat
  dst : Nat
  extra : Bool
  deriving DecidableEq, Repr

/-- Extension headers of IPv6 skipped: the transport header's offset and protocol. -/
def skipExt (l : List Byte) : Nat → Nat → Nat → Nat × Nat
  | 0, off, p => (off, p)
  | fuel + 1, off, p =>
    if p = 0 ∨ p = 43 ∨ p = 60 then skipExt l fuel (off + 8 * (byteAt l (off + 1) + 1)) (byteAt l off)
    else if p = 44 then skipExt l fuel (off + 8) (byteAt l off)
    else (off, p)

/-- The IP headers of a frame; none where it carries no IP packet. -/
def ipInfo (l : List Byte) : Option IpInfo :=
  let o := typeOff l + 2
  if etherType l = 0x0800 ∧ byteAt l o / 16 = 4 then
    let ihl := byteAt l o % 16
    some ⟨false, o, o + 4 * ihl, byteAt l (o + 9), beAt l (o + 12) 4, beAt l (o + 16) 4,
      ihl != 5 || beAt l (o + 6) 2 % 0x4000 != 0⟩
  else if etherType l = 0x86DD ∧ byteAt l o / 16 = 6 then
    let p := byteAt l (o + 6)
    let (off, q) := skipExt l 16 (o + 40) p
    some ⟨true, o, off, q, beAt l (o + 8) 16, beAt l (o + 24) 16, off != o + 40⟩
  else none

/-- Ones' complement sum of 16-bit words, folded. -/
def sum16 (l : List Byte) : Nat :=
  let n := (l.length + 1) / 2
  let t := (List.range n).foldl (fun a i => a + beAt l (2 * i) 2) 0
  let t := t / 65536 + t % 65536
  let t := t / 65536 + t % 65536
  t / 65536 + t % 65536

/-- The Internet checksum of a byte string. -/
def inetSum (l : List Byte) : Nat := 65535 - sum16 l

/-- End of the IP packet in the frame, by its length field. -/
def ipEnd (l : List Byte) (i : IpInfo) : Nat := if i.v6 then i.l3 + 40 + beAt l (i.l3 + 4) 2 else i.l3 + beAt l (i.l3 + 2) 2

/-- Pseudo-header and transport bytes that a UDP, TCP or ICMPv6 checksum covers. -/
def l4Cover (l : List Byte) (i : IpInfo) : List Byte :=
  let body := (l.drop i.l4).take (ipEnd l i - i.l4)
  let n := if i.v6 then 16 else 4
  beBytes i.src n ++ beBytes i.dst n ++ (if i.v6 then beBytes body.length 4 ++ beBytes i.proto 4 else beBytes i.proto 2 ++ beBytes body.length 2) ++ body

/-- The IPv4 header checksum holds. -/
def ipSumOk (l : List Byte) (i : IpInfo) : Bool := i.v6 || sum16 ((l.drop i.l3).take (i.l4 - i.l3)) == 65535

/-- Offset of the checksum in a UDP, TCP or ICMPv6 header. -/
def sumOff (proto : Nat) : Option Nat := match proto with | 6 => some 16 | 17 => some 6 | 58 => some 2 | _ => none

/-- The IPv4 header checksum filled in. -/
def fillHead (l : List Byte) (i : IpInfo) : List Byte :=
  if i.v6 then l
  else
    let z := putAt l (i.l3 + 10) [0, 0]
    putAt z (i.l3 + 10) (beBytes (inetSum ((z.drop i.l3).take (i.l4 - i.l3))) 2)

/-- The IPv4 header checksum and the transport checksum filled in (R439, R441). -/
def fillSums (l : List Byte) : List Byte :=
  match ipInfo l with
  | none => l
  | some i =>
    let l := fillHead l i
    match sumOff i.proto with
    | none => l
    | some k =>
      let z := putAt l (i.l4 + k) [0, 0]
      let c := inetSum (l4Cover z i)
      putAt z (i.l4 + k) (beBytes (if i.proto = 17 ∧ c = 0 then 65535 else c) 2)

/-- The checksums that a host frame's CSUM fills: of an IPv4 header, of UDP and of TCP, no other (R439). -/
def hostSums (l : List Byte) : List Byte :=
  match ipInfo l with
  | some i => if i.proto = 58 then fillHead l i else fillSums l
  | none => l

/-- A UDP frame: its IP headers and its ports. -/
def udpInfo (l : List Byte) : Option (IpInfo × Nat × Nat) :=
  match ipInfo l with
  | some i => if i.proto = 17 then some (i, beAt l i.l4 2, beAt l (i.l4 + 2) 2) else none
  | none => none

/-! ### PTP frames (R540, R551, R552) -/

/-- Offset of the PTP message in a frame: IEEE 802.3, or UDP ports 319 and 320. -/
def ptpOff (l : List Byte) : Option Nat :=
  if etherType l = 0x88F7 then some (typeOff l + 2)
  else match udpInfo l with
    | some (i, _, dp) => if dp = 319 ∨ dp = 320 then some (i.l4 + 8) else none
    | none => none

/-- messageType of the PTP message at offset `o`. -/
def ptpType (l : List Byte) (o : Nat) : Nat := byteAt l o % 16

/-- The frame is a PTP event frame: Sync, Delay_Req, Pdelay_Req or Pdelay_Resp (R402). -/
def ptpEvent (l : List Byte) : Bool := match ptpOff l with | some o => ptpType l o < 4 | none => false

/-- The UDP checksum of a PTP frame `l` whose message at offset `o` was changed to give `l'` (R543, R552): 0 over IPv4; over IPv6 the two
bytes of Annex D take up the change. Answers also whether the frame lacks those bytes, and then stays `l`. -/
def fixPtpSum (l l' : List Byte) (o : Nat) : List Byte × Bool :=
  match udpInfo l with
  | none => (l', false)
  | some (i, _, _) =>
    if !i.v6 then (putAt l' (i.l4 + 6) [0, 0], false)
    else
      let tail := o + beAt l (o + 2) 2
      if ipEnd l i < tail + 2 then (l, true)
      else
        let z := putAt l' tail [0, 0]
        let z0 := putAt z (i.l4 + 6) [0, 0]
        -- the trailing bytes that leave the UDP checksum as it was
        let want := 65535 - beAt l (i.l4 + 6) 2
        let have_ := sum16 (l4Cover z0 i)
        (putAt z tail (beBytes ((want + 65535 - have_) % 65535) 2), false)

/-- The correction field of a forwarded Sync or Delay_Req with the residence time `d`, in 2^-16 ns, added (R552), and whether
the frame went uncorrected for want of its Annex D bytes. -/
def tcCorrect (l : List Byte) (d : Int) : List Byte × Bool :=
  match ptpOff l with
  | none => (l, false)
  | some o =>
    if ptpType l o ≠ 0 ∧ ptpType l o ≠ 1 then (l, false) else
    let c := sgn 64 (beAt l (o + 8) 8) + d
    let c := if (2 ^ 63 : Int) ≤ c then 2 ^ 63 - 1 else c
    fixPtpSum l (putAt l (o + 8) (beBytes (lowBits 64 c) 8)) o

end Sys2Proof.Machine
end

