-- ==== Sys2Proof/Machine/Clapper.lean ====
section
/-! DEFINITION. The time counter (R527 to R534), comparison of times (R554), Clapper triggers and captures (R556 to R567). -/

namespace Sys2Proof.Machine

/-! ### Times -/

/-- Difference of two times in nanoseconds (R554). -/
def timeDiff (asec ans bsec bns : Nat) : Int :=
  let d : Int := ((asec : Int) - (bsec : Int)) % (2 ^ 48 : Int)
  let d := if 2 ^ 47 ≤ d then d - 2 ^ 48 else d
  let d := max (-(2 ^ 33)) (min (2 ^ 33) d)
  d * 1000000000 + ((ans : Int) - (bns : Int))

/-- Nanoseconds since a time until the counter. -/
def State.since (s : State) (sec ns : Nat) : Int := timeDiff s.ptp.sec s.ptp.ns sec ns

/-- A time moved by a signed amount in units of 2^-32 ns: seconds modulo 2^48, nanoseconds, fraction. -/
def timeAdd (sec ns frac : Nat) (d : Int) : Nat × Nat × Nat :=
  let t : Int := ((sec : Int) * 1000000000 + ns) * 2 ^ 32 + frac + d
  let unit : Int := 1000000000 * 2 ^ 32
  let sec' := (t / unit) % (2 ^ 48 : Int)
  let r := (t % unit).toNat
  (sec'.toNat, r / 2 ^ 32, r % 2 ^ 32)

/-- The counter stepped by a signed amount in units of 2^-32 ns (R532). -/
def stepCounter (d : Int) (s : State) : State :=
  s.onPtp fun u => let (a, b, c) := timeAdd u.sec u.ns u.frac d; { u with sec := a, ns := b, frac := c }

/-- The increment in units of 2^-32 ns (R527). -/
def State.inc (s : State) : Nat := s.getF PTP_INC_NS.NS * 2 ^ 32 + s.getF PTP_INC_FRAC.FRAC

/-- The nominal increment (R528). -/
def incNominal : Nat := 6 * 2 ^ 32 + 0x82AAAAAB

/-- The increment becomes `i`. -/
def setInc (i : Nat) (s : State) : State := (s.setF PTP_INC_NS.NS (i / 2 ^ 32)).setF PTP_INC_FRAC.FRAC (i % 2 ^ 32)

/-- What the phase adjustment moves the counter by in one tick: at most ADJRATE ns per second over 153,600,000 ticks
(R533). -/
def adjStep (s : State) : Int :=
  let m : Int := (s.getF PTP_SERVO2.ADJRATE * 2 ^ 32 / 153600000 : Nat)
  max (-m) (min m s.ptp.adj)

/-- One CLK_PER edge of the counter (R527, R533). -/
def counterTick (s : State) : State :=
  let a := adjStep s
  stepCounter ((s.inc : Int) + a) (s.onPtp fun u => { u with adj := u.adj - a })

/-- The counter in units of 1/16 ns, the resolution of event timestamps (R550). -/
def State.time16 (s : State) : Int := ((s.ptp.sec : Int) * 1000000000 + s.ptp.ns) * 16 + s.ptp.frac / 2 ^ 28

/-! ### Triggers (R556 to R564) -/

/-- Ball index of GPIO n and of CONV_START n (R788). -/
def gpioBall (n : Nat) : Nat := 197 + n
/-- Ball index of CONV_START n. -/
def convBall (n : Nat) : Nat := 229 + n

/-- Ball that the configuration of trigger `i` names; none where its action names no pin. -/
def trigBall (w : Nat) : Option Nat :=
  match bits w 28 3 with
  | 3 => some (gpioBall (bits w 23 5))
  | 4 => some (convBall (bits w 23 5))
  | _ => none

/-- Name of a ball that the Clapper or the host drives. -/
def ballName (i : Nat) : String :=
  if i < 229 then "GPIO" ++ toString (i - 197) else "CONV_START" ++ toString (i - 229)

/-- The Clapper drives a ball; a chip that drives no shared output keeps it at high impedance (R704). -/
def driveBall (i : Nat) (level : Bool) (s : State) : State :=
  let s := s.onPin fun u => { u with driven := (i, level) :: u.driven.filter (fun c => c.1 ≠ i) }
  if s.hiZ then s else s.out (.pin (ballName i) level)

/-- Level that the Clapper drives on a ball. -/
def drivenLevel (i : Nat) (s : State) : Bool := ((s.pin.driven.find? (fun c => c.1 = i)).map (·.2)).getD false

/-- Idle level of a pin under OP (R790). -/
def idleLevel (op : Nat) : Bool := op = 1

/-- A waiting start or stop names trigger `i` and has no boundary yet. -/
def Sched.waits (x : Sched) (i : Nat) : Bool := x.trig = some i && x.shot.isNone

/-- A pending take or a pending port, stream or lane command names trigger `i` (R564). -/
def trigNamed (i : Nat) (s : State) : Bool :=
  (match s.take.pending with
   | some t => t.when = 3 && t.trigger = i
   | none => false)
  || s.sp.ports.any (fun p => p.2.reqs.any fun r => r.trig = some i)
  || s.net.reqs.any (fun r => r.2.trig = some i)
  || s.dl.reqs.any (fun r => r.2.trig = some i)

/-- Why a trigger may not be armed with configuration word `w`, start time and period as given (R556, R557): 0 where it may. -/
def trigCheck (i w tsec tns per cnt : Nat) (s : State) : Nat :=
  if s.flag (CLP_TCFG.EN i) then 6
  else if 4 < bits w 28 3 ∨ 4 < bits w 20 3 ∨ bits w 0 16 = 0 ∨ (bits w 28 3 = 4 ∧ 7 < bits w 23 5)
    ∨ (bitOf w 19 ∧ per < 1000) ∨ cnt = 0 ∨ 1000000000 ≤ tns then 3
  else if !s.flag PTP_STAT.TVALID then 3
  else if timeDiff tsec tns s.ptp.sec s.ptp.ns < 1000 then 11
  else match trigBall w with
    | some b => if !bankOn b s then 3 else if (s.pinClaim b).isSome then 6 else 0
    | none => 0

/-- Trigger `i` is armed with its registers as they stand, its configuration word being `w` (R556, R557, R790). -/
def armTrig (i w : Nat) (s : State) : State :=
  let s := s.setReg (0x20400 + 0x20 * i) (wd (w % 2 ^ 32))
  let s := s.setF (CLP_TCFG.EN i) 1
  let s := s.orF CLP_CLAIM.TRIG (2 ^ i)
  let s := s.setF (CLP_TSTAT.STATE i) 1
  let t : TrigU := ⟨s.getF (CLP_TT1.SEC i) + 2 ^ 32 * s.getF (CLP_TT2.SEC i), s.getF (CLP_TT0.NS i), 0,
    if bitOf w 19 then s.getF (CLP_TCNT.COUNT i) else 1, false⟩
  let s := s.onPtp fun u => { u with trig := (i, t) :: u.trig.filter (fun c => c.1 ≠ i) }
  match trigBall w with
  | some b => driveBall b (idleLevel (bits w 20 3)) (claimPin b ⟨5, i⟩ s).2
  | none => s

/-- An enable of trigger `i` is refused with `st`: a CLAIM message where the trigger or its pin is claimed (R16). -/
def trigRefused (i w st : Nat) (s : State) : State :=
  if st = 6 then
    (if s.flag (CLP_TCFG.EN i) then raise 0x02 0 (2 ^ 24 + i) s
     else match trigBall w with
      | some b => raise 0x02 0 b s
      | none => s)
  else s

/-- Trigger `i` is released (R556, R564): a pulse ends, the pin goes idle and returns to high impedance. -/
def releaseTrig (i : Nat) (s : State) : State :=
  let w := (s.reg (0x20400 + 0x20 * i)).toNat
  let s := s.setF (CLP_TCFG.EN i) 0
  let s := s.setF CLP_CLAIM.TRIG (s.getF CLP_CLAIM.TRIG &&& (2 ^ 32 - 1 - 2 ^ i))
  let s := s.setF (CLP_TSTAT.STATE i) 0
  let s := s.onPtp fun u => { u with trig := u.trig.filter (fun c => c.1 ≠ i) }
  match trigBall w with
  | some b =>
    let s := driveBall b (idleLevel (bits w 20 3)) s
    let s := s.onPin fun u => { u with driven := u.driven.filter (fun c => c.1 ≠ b) }
    (releasePin b s).out (.act "PIN_HIZ" [b])
  | none => s

/-- Registers of trigger `i` written together: configuration, start time, period, count (CLAP_TRIG, R639). -/
def putTrigRegs (i : Nat) (ws : List Word) (s : State) : State :=
  (List.range 7).foldl (fun s k =>
    let m : Nat := if k = 3 then 0xFFFF else if k = 0 then 0x7FFCFFFF else 0xFFFFFFFF
    s.setReg (0x20400 + 0x20 * i + 4 * k) (wd ((wAt ws k).toNat &&& m))) s

/-- A write of `CLP_TCFGi` (R556, R557, R564). -/
def writeTcfg (i v : Nat) (s : State) : State :=
  let v := v &&& 0xFFFCFFFF
  let en := s.flag (CLP_TCFG.EN i)
  if en ∧ !bitOf v 31 then (if trigNamed i s then s else (releaseTrig i s).setReg (0x20400 + 0x20 * i) (wd v))
  else if en then trigRefused i v 6 s
  else if !bitOf v 31 then s.setReg (0x20400 + 0x20 * i) (wd v)
  else
    let tsec := s.getF (CLP_TT1.SEC i) + 2 ^ 32 * s.getF (CLP_TT2.SEC i)
    let st := trigCheck i v tsec (s.getF (CLP_TT0.NS i)) (s.getF (CLP_TPER.NS i)) (s.getF (CLP_TCNT.COUNT i)) s
    if st = 0 then armTrig i v s
    else trigRefused i v st (s.setReg (0x20400 + 0x20 * i) (wd (v % 2 ^ 31)))

/-- Waiting starts and stops that name trigger `i` take boundary `n` (R368). -/
def fireScheds (i n : Nat) (l : List Sched) : List Sched := l.map fun x => if x.waits i then { x with shot := some n } else x

/-- The slate changes the graph, the patches or a recast (R320, R331). -/
def takeChanges (s : State) : Bool :=
  s.cs.tasks.any (fun c => c.1 < 4096 && c.2.slate != (c.2.live && !c.2.outgoing))
  || s.take.patchSlate.any (fun c => smGet 0xFFFF s.take.patch c.1 != c.2) || !s.take.recasts.isEmpty

/-- s_T of a CLAP take that fires in shot s_f (R304, R331): s_f + K, or the shot at the end of a running dissolve where the take
changes the graph, the patches or a recast and would come before it. -/
def clapShot (k : Nat) (s : State) : Nat :=
  match s.take.dissolve with
  | some d => if takeChanges s then max (s.shot + k) (d.t0 + d.dlen + 2) else s.shot + k
  | none => s.shot + k

/-- The first shot boundary at or after the instant of a firing (R368): the running shot's own where no time has passed since it. -/
def edgeShot (s : State) : Nat :=
  if s.tick ∧ s.ptp.sec = s.ptp.shotSec ∧ s.ptp.ns = s.ptp.shotNs then s.shot else s.nextShot

/-- The action of trigger `i` on a pin (R559). -/
def trigPin (i w b : Nat) (s : State) : State :=
  match bits w 20 3 with
  | 0 => driveBall b true (s.onPtp fun u => { u with trig := u.trig.map fun c => if c.1 = i then (i, { c.2 with pulse := true }) else c })
  | 1 => driveBall b false (s.onPtp fun u => { u with trig := u.trig.map fun c => if c.1 = i then (i, { c.2 with pulse := true }) else c })
  | 2 => driveBall b true s
  | 3 => driveBall b false s
  | _ => driveBall b (!drivenLevel b s) s

/-- The trigger time of trigger `i` after a firing: the first one after the counter, with the number of firings skipped
(R561, R562). -/
def nextTrig (t : TrigU) (per : Nat) (s : State) : TrigU × Nat :=
  let d := s.since t.sec t.ns
  let need : Int := (d + 1) * 2 ^ 32 - t.frac
  let j : Nat := if per = 0 then 1 else max 1 (ceilDiv need.toNat per)
  let (a, b, c) := timeAdd t.sec t.ns t.frac ((j * per : Nat) : Int)
  ({ t with sec := a, ns := b, frac := c, left := t.left - j }, min (j - 1) (t.left - 1))

/-- CLAPPER_TRIGGER_FIRE: armed trigger `i`, whose time the counter has reached, fires and performs its action (R558 to
R563); without a tick it fires no TAKE or PORTS action (R761). A shot boundary at the same edge has already opened its shot (R559). -/
def fireTrig (i : Nat) (s : State) : State :=
  match s.ptp.trig.find? (fun c => c.1 = i) with
  | none => s
  | some (_, t) =>
    if s.getF (CLP_TSTAT.STATE i) ≠ 1 ∨ s.since t.sec t.ns < 0 then s else
    let w := (s.reg (0x20400 + 0x20 * i)).toNat
    let act := bits w 28 3
    let named : Bool := match s.take.pending with
      | some p => p.when = 3 && p.trigger = i && p.sT.isNone && s.tick
      | none => false
    let s := s.incF (CLP_TSTAT.FIRED i) 1
    let s := if act = 1 ∧ named then
        s.onTake fun u => { u with pending := u.pending.map fun p => { p with sT := some (clapShot p.k s) } }
      else s
    let s := if act = 1 ∧ named then
        notify 0x8001 [(s.getF SYS_TAKE_CNT.COUNT + 1) % 2 ^ 32,
          ((s.take.pending.bind (·.sT)).getD 0) % 2 ^ 32, ((s.take.pending.bind (·.sT)).getD 0) / 2 ^ 32] s
      else s
    let s := if act = 2 ∧ s.tick then
        let n := edgeShot s
        let s := s.onSp fun u => { u with ports := u.ports.map fun p => (p.1, { p.2 with reqs := fireScheds i n p.2.reqs }) }
        let s := s.onNet fun u => { u with reqs := u.reqs.map fun r => if r.2.waits i then (r.1, { r.2 with shot := some n }) else r }
        s.onDl fun u => { u with reqs := u.reqs.map fun r => if r.2.waits i then (r.1, { r.2 with shot := some n }) else r }
      else s
    let s := match trigBall w with
      | some b => trigPin i w b s
      | none => s
    let s := if bitOf w 18 then
        notify 0x8008 [i + (if act = 1 ∧ !named then 2 ^ 31 else 0), s.ptp.ns, s.ptp.sec % 2 ^ 32, s.ptp.sec / 2 ^ 32,
          s.shot % 2 ^ 32, s.shot / 2 ^ 32] s
      else s
    if bitOf w 19 then
      let per := s.getF (CLP_TPER.NS i) * 2 ^ 32 + s.getF (CLP_TPERF.FRAC i)
      let (t', skipped) := nextTrig t per s
      let s := s.incF (CLP_TSTAT.MISSED i) skipped
      let s := s.onPtp fun u => { u with trig := u.trig.map fun c => if c.1 = i then (i, { t' with pulse := c.2.pulse }) else c }
      if t'.left = 0 then s.setF (CLP_TSTAT.STATE i) 2 else s
    else s.setF (CLP_TSTAT.STATE i) 2

/-- CLAPPER_TRIGGER_FIRE (R558). -/
def execClapperTriggerFire (i : Nat) (s : State) : Host.Outcome State Fault Refusal :=
  finish (if i < 32 then fireTrig i s else s)

/-- TRIGGER_PULSE_END: the pulse of trigger `i` ends after WIDTH CLK_PER periods; the pin returns to its idle level (R559). -/
def execTriggerPulseEnd (i : Nat) (s : State) : Host.Outcome State Fault Refusal :=
  finish <|
    match s.ptp.trig.find? (fun c => c.1 = i && c.2.pulse) with
    | none => s
    | some _ =>
      let w := (s.reg (0x20400 + 0x20 * i)).toNat
      let s := s.onPtp fun u => { u with trig := u.trig.map fun c => if c.1 = i then (i, { c.2 with pulse := false }) else c }
      match trigBall w with
      | some b => driveBall b (idleLevel (bits w 20 3)) s
      | none => s

/-! ### Captures (R565 to R567) -/

/-- A write of `CLP_CCFGc` (R565): SRC and EDGE only while EN is 0; EN claims the capture and its input, or reads back 0. -/
def writeCcfg (c v : Nat) (s : State) : State :=
  let a := 0x20800 + 0x20 * c
  let v := v &&& 0xF000001F
  let en := s.flag (CLP_CCFG.EN c)
  let ball := gpioBall (s.getF (CLP_CCFG.SRC c))
  if en then
    (if bitOf v 31 then
      (if bits v 0 5 = s.getF (CLP_CCFG.SRC c) ∧ bits v 29 2 = s.getF (CLP_CCFG.EDGE c) then s.setF (CLP_CCFG.IE c) (bits v 28 1)
       else raise 0x02 0 (2 ^ 24 + 32 + c) s)
     else
      let s := s.setF CLP_CLAIMC.CAP (s.getF CLP_CLAIMC.CAP &&& (0xFFFF - 2 ^ c))
      let s := releasePin ball s
      (s.setF (CLP_CCFG.EN c) 0).setF (CLP_CCFG.IE c) (bits v 28 1))
  else if bits v 29 2 = 0 then s
  else if !bitOf v 31 then s.setReg a (wd v)
  else
    let s := s.setReg a (wd (v % 2 ^ 31))
    let (st, s) := claimPin (gpioBall (bits v 0 5)) ⟨6, c⟩ s
    if st = 0 then (s.setF (CLP_CCFG.EN c) 1).orF CLP_CLAIMC.CAP (2 ^ c) else s

/-- FIFO of capture `c`. -/
def State.capFifo (s : State) (c : Nat) : List CapEntry := ((s.ptp.cap.find? (fun x => x.1 = c)).map (·.2)).getD []

/-- The FIFO of capture `c` becomes `l`. -/
def putFifo (c : Nat) (l : List CapEntry) (s : State) : State :=
  s.onPtp fun u => { u with cap := if l.isEmpty then u.cap.filter (fun x => x.1 ≠ c) else (c, l) :: u.cap.filter (fun x => x.1 ≠ c) }

/-- The latest edge of capture `c` lies less than 2 CLK_PER periods back (R566). -/
def edgeClose (c : Nat) (s : State) : Bool := s.ptp.capAt.any fun x => x.1 = c && decide (s.time < x.2 + 2)

/-- CAPTURE_EDGE: an edge (falling where `fall`) on the input of capture `c` is timestamped into its FIFO; of two edges less than 2
CLK_PER periods apart only the first (R566, R567). -/
def execCaptureEdge (c : Nat) (fall : Bool) (s : State) : Host.Outcome State Fault Refusal :=
  finish <|
    if c < 16 ∧ s.flag (CLP_CCFG.EN c) ∧ bitOf (s.getF (CLP_CCFG.EDGE c)) (b2n fall) ∧ !edgeClose c s then
      let l := s.capFifo c
      let s := s.onPtp fun u => { u with capAt := (c, s.time) :: u.capAt.filter fun x => x.1 ≠ c }
      if 16 ≤ l.length then s.incF (CLP_CSTAT.OVF c) 1
      else
        let s := putFifo c (l ++ [⟨s.ptp.sec, s.ptp.ns, fall⟩]) s
        if s.flag (CLP_CCFG.IE c) then
          notify 0x8009 [c, s.ptp.ns, s.ptp.sec % 2 ^ 32, s.ptp.sec / 2 ^ 32 + (if fall then 2 ^ 16 else 0)] s
        else s
    else s

/-- A read of `CLP_CTS0c`: the oldest entry is removed and its seconds are latched (R567). -/
def readCapture (c : Nat) (s : State) : Word × State :=
  match s.capFifo c with
  | [] => (0, (s.setF (CLP_CTS2.VALID c) 0).setF (CLP_CTS0.NS c) 0)
  | x :: t =>
    let s := putFifo c t s
    let s := (s.setF (CLP_CTS1.SEC c) x.sec).setF (CLP_CTS2.SEC c) (x.sec / 2 ^ 32)
    let s := (s.setF (CLP_CTS2.VALID c) 1).setF (CLP_CTS2.FALL c) (b2n x.fall)
    (wd x.ns, s.setF (CLP_CTS0.NS c) x.ns)

end Sys2Proof.Machine
end

