-- ==== Sys2Proof/Machine/Fabric.lean ====
section
/-! DEFINITION. Memory system and crossbar (chapter 13): writes of the eMRAM with wear and spare rows, the repair table,
SRAM errors, claims on memory, requests and credits of the crossbar, LPDDR5 training. -/

namespace Sys2Proof.Machine

/-! ### eMRAM (R601 to R608) -/

/-- Device address of the eMRAM (R39, R601). -/
def mramBase : Nat := 0x8000000

/-- Wear limit of a row (R605). -/
def wearLimit (s : State) : Nat := s.getF MRAM_CFG.WEARLIM * 65536

/-- A row of the eMRAM meets a condition of R605: its replacement is started, or it stays in service where no spare row is
left and sends MRAM_WORN once (R605, R607). -/
def startReplace (row : Nat) (s : State) : State :=
  if s.fab.replacing.contains row then s
  else if s.getF MRAM_STAT.SPARES ≤ s.fab.replacing.length then
    (if s.fab.worn.contains row then s else raise 0x55 0 row (s.onFab fun u => { u with worn := row :: u.worn }))
  else (s.onFab fun u => { u with replacing := u.replacing ++ [row] }).setF MRAM_STAT.BUSY 1

/-- Row of the wear-counter area that holds the stored counter of `row`, one 64-bit word each in order of rows: DESIGN CHOICE (log
entry 40). -/
def wearRow (row : Nat) : Nat := 4064 + row / 512

/-- `k` writes of words of a row: its wear counter advances, and at the limit the row is to be replaced (R604, R605); answers whether
the counter has passed a multiple of 65,536, at which it is stored. -/
def wearBump (row k : Nat) (s : State) : Bool × State :=
  let o := smGet 0 s.fab.wear row
  let n := o + k
  let s := s.onFab fun u => { u with wear := smPut 0 row n u.wear }
  let due := decide (o / 65536 < n / 65536)
  let s := if due then s.onFab fun u => { u with wearStored := smPut 0 row (n / 65536 * 65536) u.wearStored } else s
  (due, if wearLimit s ≤ n then startReplace row s else s)

/-- `k` writes of words of a row (R604). A counter that is stored wears the row that holds it, whose own counter may be stored in
turn. -/
def wearAdd (row k : Nat) (s : State) : State :=
  let (d0, s) := wearBump row k s
  if !d0 then s else
  let (d1, s) := wearBump (wearRow row) 1 (countG 0x32 1 s)
  if !d1 then s else (wearBump (wearRow (wearRow row)) 1 (countG 0x32 1 s)).2

/-- A 64-bit word of the eMRAM is written at offset `off`: held while its row is replaced (R605), else landed. -/
def mramDword (off : Nat) (lo hi : Word) (s : State) : State :=
  let row := off / 4096
  let a := mramBase + off
  if s.flag MRAM_STAT.BUSY ∧ s.fab.replacing.head? = some row then
    s.onFab fun u => { u with held := u.held ++ [(a, lo), (a + 4, hi)] }
  else
    let s := (s.setWord a lo).setWord (a + 4) hi
    wearAdd row 1 (countG 0x32 1 s)

/-- The word at a device address of the eMRAM as it stands with the writes that a replacement holds (R605). -/
def mramNow (a : Nat) (s : State) : Word := ((s.fab.held.filter fun c => c.1 = a).getLast?.map (·.2)).getD (s.word a)

/-- Words written to the eMRAM from an offset that is a multiple of 8; an odd last word is written with the word that follows it. -/
def mramWrite (off : Nat) (ws : List Word) (s : State) : State :=
  match ws with
  | [] => s
  | [x] => mramDword off x (mramNow (mramBase + off + 4) s) s
  | x :: y :: t => mramWrite (off + 8) t (mramDword off x y s)

/-- `n` bytes of the eMRAM from `off` on, in whole rows, written with zeros: held for a row that is being replaced (R605, R688). -/
def mramErase (off n : Nat) (s : State) : State :=
  (List.range (n / 4096)).foldl (fun s i =>
    let row := off / 4096 + i
    let a := mramBase + row * 4096
    if s.flag MRAM_STAT.BUSY ∧ s.fab.replacing.head? = some row then
      s.onFab fun u => { u with held := u.held ++ (List.range 1024).map fun k => (a + 4 * k, 0) }
    else wearAdd row 512 (countG 0x32 512 (zeroBytes a 4096 s))) s

/-- Every wear counter is stored, each in a word of the wear-counter area (R604: on entry to STANDBY and to MAINTENANCE). -/
def storeWear (s : State) : State :=
  let s := s.onFab fun u => { u with wearStored := u.wear }
  (List.range 8).foldl (fun s i => wearAdd (4064 + i) 512 (countG 0x32 512 s)) s

/-- Every row whose counter has reached the wear limit as it stands is to be replaced (R605). -/
def wearCheck (s : State) : State :=
  s.fab.wear.foldl (fun s c => if wearLimit s ≤ c.2 then startReplace c.1 s else s) s

/-! ### Repair table (R579, R608) -/

/-- Offset of repair-table copy A (false) or B (true). -/
def repCopy (b : Bool) : Nat := if b then 0xFD0000 else 0xFC0000

/-- The words of a copy of the repair table: header and entries; the CRC-32C covers the header words before it and the entries
(log entry 11). -/
def repWords (seq : Nat) (es : List (List Word)) : List Word :=
  let head := [wd seq, wd es.length] ++ List.replicate 13 (0 : Word)
  head ++ [crcWords (head ++ es.flatten)] ++ es.flatten

/-- The entries of the repair table become `es`: written into the copy not in use with the next sequence number (R605
step 3), which is the copy in use from then on. -/
def writeRepair (es : List (List Word)) (s : State) : State :=
  let copy := !s.flag REP_STAT.COPY
  let seq := s.fab.repSeq + 1
  let s := mramWrite (repCopy copy) (repWords seq es) s
  let s := s.onFab fun u => { u with repair := es, repSeq := seq }
  let s := s.setF REP_STAT.COPY (b2n copy)
  s.setF REP_STAT.ENTRIES (min es.length 4095)

/-- The four words of an entry (R608): the last two are the power-cycle count and the operating seconds. -/
def repEntry (kind source inst row spare : Nat) (s : State) : List Word :=
  [wd (kind * 2 ^ 28 + source * 2 ^ 26 + inst % 1024 * 65536 + row % 65536), wd (spare % 65536), wd s.boot.life.cycle,
   wd s.boot.life.opsec]

/-- An entry is added, where the table has room, and logged as a REPAIR record (R608, R679). -/
def addRepair (e : List Word) (s : State) : State :=
  if 4092 ≤ s.fab.repair.length then s else logEvent 0xE9 (e.map (·.toNat)) (writeRepair (s.fab.repair ++ [e]) s)

/-- KIND of an entry. -/
def repKind (e : List Word) : Nat := bits (nAt e 0) 28 4
/-- INST of an entry. -/
def repInst (e : List Word) : Nat := bits (nAt e 0) 16 10

/-- Spare rows that an SRAM instance uses, which is the next one in order: of its factory fuse repairs and of the repairs of the table
(R609; log entry 39). -/
def sparesUsed (inst : Nat) (s : State) : Nat :=
  (s.fuse.repairs.filter fun r => r.inst = inst).length + (s.fab.repair.filter fun e => repKind e = 1 ∧ repInst e = inst).length

/-- A field repair of an SRAM row is recorded, once per row and power cycle, where the table has room; it takes effect at the next
boot (R579, R612). -/
def fieldRepair (inst row : Nat) (s : State) : State :=
  let key := inst * 65536 + row
  if s.fab.repaired.contains key ∨ 4092 ≤ s.fab.repair.length then s else
  let s := s.onFab fun u => { u with repaired := key :: u.repaired }
  let s := addRepair (repEntry 1 2 inst row (sparesUsed inst s) s) s
  s.incF REP_STAT.PENDING 1

/-- Does the repair table mark engine `e` retired (R94, R160)? -/
def repairRetired (e : Nat) (s : State) : Bool := s.fab.repair.any fun x => repKind x = 3 && repInst x = e

/-! ### SRAM errors (R576 to R579) -/

/-- A row of an SRAM yields a corrected error; the third in a power cycle records a repair (R579). -/
def rowFixed (inst row : Nat) (s : State) : State :=
  let key := inst % 1024 * 65536 + row % 65536
  let n := smGet 0 s.fab.rowErr key + 1
  let s := s.onFab fun u => { u with rowErr := smPut 0 key n u.rowErr }
  if 3 ≤ n then fieldRepair (inst % 1024) (row % 65536) s else s

/-- A corrected error of an SRAM row outside the engines (R576). -/
def sramCorrected (inst row : Nat) (s : State) : State := rowFixed inst row (s.incF MEM_ECC.CORR 1)

/-- A word of engine `e` is corrected as `task` (0xFFFF for none) or another reads it (R112, R579, R691). -/
def engFixed (e task : Nat) (w : SramRow) (s : State) : State :=
  rowFixed w.inst w.row (countE e 0x14 1 task (s.incF (ENG_ECC.CORR e) 1))

/-- A word of engine `e` shows a double-bit error (R113, R579). -/
def engDouble (e : Nat) (w : SramRow) (s : State) : State := fieldRepair (w.inst % 1024) (w.row % 65536) (s.incF (ENG_ECC.UNCORR e) 1)

/-- The row of an error. -/
def errRow (x : SramErr) : SramRow := ⟨x.inst, x.row⟩

/-- A read of engine `e` from outside it meets an error: corrected, or a double-bit error that makes the word read 0 and sends ENG_EXC
with HOST (R112, R113). -/
def engReadError (e : Nat) (x : SramErr) (s : State) : State :=
  if x.single then engFixed e 0xFFFF (errRow x) s
  else
    let (f, s) := fresh Config.faultAddr (engDouble e (errRow x) s)
    raise 0x11 13 f s

/-- A double-bit error outside the engines is counted, recorded and reported (R577). -/
def eccDouble (x : SramErr) (s : State) : State :=
  let s := s.incF MEM_ECC.UNCORR 1
  raiseOpen 0x50 ((s.setF MEM_ECCADDR.INST (x.inst % 1024)).setF MEM_ECCADDR.ROW (x.row % 65536))

/-- A double-bit error of an SRAM row outside the engines; the row is repaired at the next boot (R577, R579). -/
def sramDouble (x : SramErr) (s : State) : State := fieldRepair (x.inst % 1024) (x.row % 65536) (eccDouble x s)

/-- A read outside the engines meets an error: corrected and counted, or a double-bit error (R576, R577). -/
def sramError (x : SramErr) (s : State) : State := if x.single then sramCorrected x.inst x.row s else sramDouble x s

/-- A corrected error in a read of an eMRAM row: the third in a power cycle replaces the row (R605). -/
def mramCorrected (row : Nat) (s : State) : State :=
  let n := smGet 0 s.fab.mramErr row + 1
  let s := s.onFab fun u => { u with mramErr := smPut 0 row n u.mramErr }
  if 3 ≤ n then startReplace row s else s

/-- SCRUB: the scrubber finds `kind` 1 a corrected or 2 a double-bit error, or else nothing, in an SRAM row outside the private
memories (R578). -/
def execScrub (x : SramErr) (kind : Nat) (s : State) : Host.Outcome State Fault Refusal :=
  finish (if kind = 1 then sramCorrected x.inst x.row s else if kind = 2 then sramDouble x s else s)

/-- MRAM_REPLACE_DONE: the replacement of the first row of the list completes (R605): the lowest free spare row serves it, its
entry is written, held writes land, MRAM_SPARE goes out. -/
def replaceDone (s : State) : State :=
  match s.fab.replacing with
  | [] => s
  | row :: rest =>
    let spare := 82 - s.getF MRAM_STAT.SPARES
    let s := addRepair (repEntry 2 2 0 row spare s) s
    let s := s.setF MRAM_STAT.SPARES (s.getF MRAM_STAT.SPARES - 1)
    let held := s.fab.held
    let s := s.onFab fun u => { u with
      replacing := rest, held := [], spareOf := (row, spare) :: u.spareOf.filter (fun c => c.1 ≠ row),
      wear := smPut 0 row 512 u.wear, wearStored := smPut 0 row 0 u.wearStored, mramErr := smPut 0 row 0 u.mramErr }
    let s := s.setF MRAM_STAT.BUSY (b2n (!rest.isEmpty))
    let s := held.foldl (fun s c => s.setWord c.1 c.2) s
    let s := wearAdd row (held.length / 2) (countG 0x32 (held.length / 2) s)
    raise 0x54 0 row s

/-- MRAM_REPLACE_DONE (R605). -/
def execMramReplaceDone (s : State) : Host.Outcome State Fault Refusal := finish (replaceDone s)

/-! ### Claims on LPDDR5 (R16, R599, R600) -/

/-- Two ranges in 64-byte units overlap. -/
def overlap (b1 l1 b2 l2 : Nat) : Bool := b1 < b2 + l2 && b2 < b1 + l1

/-- The lowest-numbered free entry of claim space 0. -/
def freeClaim (s : State) : Option Nat := (List.range 4096).find? fun i => !s.fab.claims.any (fun c => c.1 = i)

/-- A claim in space 0: status 0, 6 CONFLICT with a CLAIM message where it overlaps another user's range, or 7 NOHEADROOM
where every entry is in use (R16, R599); ranges of one user may overlap. The number in the message is the entry it overlaps. -/
def claimRange (c : MemClaim) (s : State) : Nat × State :=
  match s.fab.claims.find? (fun x => overlap c.base c.len x.2.base x.2.len && !(x.2.owner = c.owner && x.2.id = c.id)) with
  | some x => (6, raise 0x02 0 (2 * 2 ^ 24 + x.1) s)
  | none =>
    match freeClaim s with
    | none => (7, s)
    | some i => (0, s.onFab fun u => { u with claims := u.claims ++ [(i, c)] })

/-- The claims of space 0 that satisfy `p` are released. -/
def releaseRange (p : MemClaim → Bool) (s : State) : State :=
  s.onFab fun u => { u with claims := u.claims.filter fun x => !p x.2 }

/-- A device address inside LPDDR5 lies in a range that a delay line claims (R600). -/
def inLineRange (a : Nat) (s : State) : Bool :=
  let k := (a - 0x100000000) / 64
  s.fab.claims.any fun x => x.2.owner = 1 && x.2.base ≤ k && k < x.2.base + x.2.len

/-! ### Crossbar (R580 to R592) -/

/-- Targets that a master reaches (R580). -/
def reaches (m t : Nat) (s : State) : Bool :=
  match m with
  | 0 => t < 8
  | 1 => t < 10
  | 2 => t = 1 || t = 7
  | 3 => t = 3
  | 4 => t = 3 || t = 4
  | 5 => t = 3 || t = 4
  | 6 => t = 3
  | 7 => t = 3
  | 8 => t = 3
  | 9 => t = 5 || t = 6
  | 10 => t = 3 || t = 4 || t = 8
  | 11 => t < 10 && (s.mode = 10 || s.mode = 11) && !s.fuse.sealFuse
  | _ => false

/-- Class RT (R580). -/
def isRt (m : Nat) : Bool := 2 ≤ m && m ≤ 9

/-- Credits that the requests of master `m` in the crossbar hold for target `t`. -/
def burstCredits (m t : Nat) (s : State) : Nat := (s.fab.bursts.filter fun b => b.master = m ∧ b.target = t).length

/-- Credits of M0 at T1 that held slate writes, and the writes behind them, keep (R587): four at most; the rest wait in the
endpoint. -/
def heldCredits (s : State) : Nat := min s.fab.t1q.length (4 - burstCredits 0 1 s)

/-- Credits that master `m` holds for target `t` (R589). -/
def creditsOf (m t : Nat) (s : State) : Nat := burstCredits m t s + (if m = 0 ∧ t = 1 then heldCredits s else 0)

/-- Credits in use (R590). -/
def creditsUsed (s : State) : Nat := s.fab.bursts.length + heldCredits s

/-- The next master after `last` in round-robin order among `ms`. -/
def roundRobin (last : Nat) (ms : List Nat) : Option Nat :=
  (List.range 12).findSome? fun i => let m := (last + 1 + i) % 12; if ms.contains m then some m else none

/-- A burst holds the path of target `t`: as its target, or as the one that a flow-through burst writes (R583). -/
def holdsPath (t : Nat) (s : State) : Bool := t < 10 && s.fab.bursts.any fun b => b.granted && (b.target = t || b.into = t)

/-- Bytes that a burst writes into the write buffer of LPDDR5 (R596). -/
def ddrPosted (b : Burst) : Nat := if (b.kind = 1 ∧ b.target = 7) ∨ b.into = 7 then 32 * b.beats else 0

/-- The requests that target `t` may grant: the first that waits of each master (R586), where the target that a flow-through writes is
free (R583), the write buffer of LPDDR5 has room (R596), and no held slate write of its master stands before it (R587). -/
def grantable (t : Nat) (s : State) : List Burst :=
  ((List.range 12).filterMap fun m => s.fab.bursts.find? fun b => b.master = m && b.target = t && !b.granted).filter fun b =>
    !holdsPath b.into s && s.fab.ddrBuf + ddrPosted b ≤ 32768 && !(b.master = 0 && t = 1 && !s.fab.t1q.isEmpty)

/-- The master that target `t` grants next among its waiting requests (R581): the Call Sheet DMA, then the RT masters and the
BE requests that have waited BEWAIT cycles, then the BE masters. -/
def nextMaster (t : Nat) (s : State) : Option Nat :=
  let w := grantable t s
  let ms := w.map (·.master)
  if ms.contains 2 then some 2 else
  let rt := (w.filter fun b => isRt b.master ∨ s.getF FAB_CTRL.BEWAIT ≤ b.waited).map (·.master)
  match roundRobin (smGet 11 s.fab.lastRt t) rt with
  | some m => some m
  | none => roundRobin (smGet 11 s.fab.lastBe t) (ms.filter fun m => !isRt m)

/-- The first waiting request of master `m` at target `t` is granted (R581, R586). -/
def grantFirst (m t : Nat) : List Burst → List Burst
  | [] => []
  | b :: r => if b.master = m ∧ b.target = t ∧ !b.granted then { b with granted := true } :: r else b :: grantFirst m t r

/-- Target `t` grants a request where it is free (R581 to R583): it parks on that master. -/
def grant (t : Nat) (s : State) : State :=
  if holdsPath t s then s else
  match nextMaster t s with
  | none => s
  | some m =>
    let b := (grantable t s).filter fun b => b.master = m
    let asRt := isRt m || b.any fun b => s.getF FAB_CTRL.BEWAIT ≤ b.waited
    let s := s.onFab fun u => { u with
      bursts := grantFirst m t u.bursts, parked := smPut 12 t m u.parked, ddrBuf := b.foldl (fun a b => a + ddrPosted b) u.ddrBuf,
      lastRt := if m ≠ 2 ∧ asRt then smPut 11 t m u.lastRt else u.lastRt,
      lastBe := if asRt then u.lastBe else smPut 11 t m u.lastBe }
    countG (0x20 + m) 1 s

/-- Latency L beyond SRAM of a burst on a path (R583, R588, R596, R603): the eMRAM's 16 cycles; on T7 and T8 the latency met,
with the register slices. -/
def latency (t kind lat : Nat) (s : State) : Nat :=
  let slice := fun (f : Fld) => if s.flag f then (if kind = 1 then 2 else 4) else 0
  match t with
  | 6 => if kind = 1 then 0 else 16
  | 7 => (if kind = 1 then 0 else min lat 88) + slice FAB_CTRL.SLICE_DDR
  | 8 => (if kind = 1 then 0 else lat) + slice FAB_CTRL.SLICE_PCIE
  | _ => 0

/-- Cycles in which a burst holds its path (R574, R583, R588): a flow-through burst with the slices of the path that it writes. -/
def pathHeld (b : Burst) (lat : Nat) (s : State) : Nat :=
  let l := latency b.target b.kind lat s + (if b.kind = 2 then latency b.into 1 0 s else 0)
  b.stalls + (match b.kind with
    | 0 => b.beats + 6 + l
    | 1 => b.beats + 3
    | 2 => b.beats + 8 + l
    | _ => b.beats)

/-! ### Banks (R571, R573 to R575) -/

/-- The single-port bank that a device address lies in (R571), and whether it is an engine's: the banks of a memory follow each other
in order of address, DESIGN CHOICE (log entry 192). The true dual-port memories have none. -/
def bankOf (a : Nat) (s : State) : Option (Nat × Bool) :=
  match regionOf a s with
  | .engine e off => some (e * 128 + viewOff e off s / 0x2000, true)
  | .gains off => some (0x1000 + off / 0x20000, false)
  | .stage off => some (0x2000 + off / 0x20000, false)
  | .packet => some (0x3000 + (a - 0x6000000) / 0x40000, false)
  | _ => none

/-- Rank of R573 of a crossbar master. -/
def bankRank (m : Nat) : Nat := if m = 2 then 2 else 3

/-- Stall cycles of an access of rank `rank` to address `a` that another port's accesses meet, and those of both together (R573, R574):
the lower rank stalls, without end before an engine's pipeline, and otherwise for 8 cycles, after which it proceeds and the other
stalls for one. -/
def hitStalls (rank a : Nat) (h : BankHit) (s : State) : Nat × Nat :=
  match bankOf a s, bankOf h.addr s with
  | some x, some y =>
    let ninth := b2n (decide (8 < h.cycles))
    if x.1 ≠ y.1 ∨ h.rank = rank then (0, 0)
    else if rank < h.rank then (ninth, min h.cycles 8 + ninth)
    else if h.rank ≤ 1 ∧ x.2 then (h.cycles, h.cycles)
    else (min h.cycles 8, min h.cycles 8 + ninth)
  | _, _ => (0, 0)

/-- Stall cycles of the accesses of a burst, whose beat `b` reaches address `at_ b`, counted in MEM_CONFLICT with those that it causes
(R574). -/
def bankStalls (rank : Nat) (at_ : Nat → Nat) (hits : List BankHit) (s : State) : Nat × State :=
  let r := hits.foldl (fun (acc : Nat × Nat) h =>
    let k := hitStalls rank (at_ h.beat) h s
    (acc.1 + k.1, acc.2 + k.2)) (0, 0)
  (r.1, if r.2 = 0 then s else countG 0x07 r.2 (s.incF MEM_CONFLICT.STALLS r.2))

/-- The word `w` with the bytes that a port strobes replaced by its own. -/
def strobed (p : Option (Word × Nat)) (w : Word) : Word :=
  match p with
  | none => w
  | some (d, st) => (List.range 4).foldl (fun (x : Word) i =>
      if bitOf st i then wd (x.toNat - x.toNat / 2 ^ (8 * i) % 256 * 2 ^ (8 * i) + d.toNat / 2 ^ (8 * i) % 256 * 2 ^ (8 * i)) else x) w

/-- Both ports of a true dual-port memory reach one word in a cycle (R575): a read gives the word as it was before, and of two writes
port 1's bytes stand where both strobe. The swap window lies at device addresses; the descriptor table, `table`, at offsets of its
own, with no device address to report. -/
def dualAccess (table : Bool) (c : DualAccess) (s : State) : State :=
  let merge := fun (w : Word) => strobed c.port1 (strobed c.port0 w)
  let a := c.addr / 4 * 4
  let s := if table then
      (if a < 0x20000 ∧ (c.port0.isSome ∨ c.port1.isSome) then
        s.onCs fun u =>
          let t := smGet TaskD.free u.tasks (a / 32)
          { u with tasks := smPut TaskD.free (a / 32) { t with words := setNth t.words (a % 32 / 4) (merge (nAt t.words (a % 32 / 4) |> wd)) } u.tasks }
       else s)
    else if 0x7000000 ≤ a ∧ a < 0x7040000 then
      let old := s.word a
      let s := if merge old = old then s else s.setWord a (merge old)
      if c.port0.isNone then s.out (.readData [old]) else s
    else s
  if c.port0.isSome ∧ c.port1.isSome then
    let s := s.incF MEM_WWCOL.COUNT 1
    if table then raiseOpen 0x51 s else raise 0x51 0 (c.addr / 256) s
  else s

/-! ### Requests (R580 to R592) -/

/-- A device address inside LPDDR5 lies in a range that the host claims (R600). -/
def inHostRange (a : Nat) (s : State) : Bool :=
  let k := (a - 0x100000000) / 64
  s.fab.claims.any fun x => x.2.owner = 0 && x.2.base ≤ k && k < x.2.base + x.2.len

/-- LPDDR5 closes this request (R600): a range that the host claims, to all but the host and the Gaffer core; a delay line's, to the
writes of the host. -/
def ddrBarred (m t kind addr : Nat) (s : State) : Bool :=
  t = 7 && ((2 ≤ m && inHostRange addr s) || (m = 0 && kind = 1 && inLineRange addr s))

/-- Master `m` may issue a request to target `t`: it has a credit and is not in reset (R589, R592). -/
def mayIssue (m t : Nat) (s : State) : Bool := decide (creditsOf m t s < 4) && !s.fab.inReset.contains m

/-- The request is answered under R40 and R41 (R580, R583, R600): the master does not reach a target, the range is barred to it, or a
copy burst names a target other than T1. -/
def turnedAway (m : Nat) (t : XbarPath) (kind addr : Nat) (s : State) : Bool :=
  !reaches m t.target s || (kind = 2 && t.into < 10 && !reaches m t.into s) || ddrBarred m t.target kind addr s || (kind = 3 && t.target ≠ 1)

/-- A request of master `m` for a burst of `beats` beats from `at_` on, that flows through into a second target where its kind is 2
(R580 to R584, R589, R592): answered under R40 and R41, not issued, or granted or waiting. -/
def request (m : Nat) (t : XbarPath) (beats kind : Nat) (at_ : BurstData) (hits : List BankHit) (s : State) : State :=
  if turnedAway m t kind at_.addr s then decodeFault at_.addr s
  else if !mayIssue m t.target s then s
  else
    let (stalls, s) := bankStalls (bankRank m) (fun b => at_.addr + 32 * b) hits s
    grant t.target (s.onFab fun u => { u with bursts := u.bursts ++
      [⟨m, t.target, beats, kind, false, 0, stalls, false, if kind = 2 then t.into else 10, t.chain && m = 2, at_.addr, at_.data⟩] })

/-- What a crossbar burst meets in what it reads (R112, R576, R577, R598): an error of an engine, of the eMRAM, of LPDDR5 or of another
SRAM. A word of an SRAM with a double-bit error reads 0. -/
def burstError (t addr : Nat) (x : SramErr) (s : State) : State :=
  match t with
  | 1 => engReadError ((addr - 0x1000000) / 0x100000 % 18) x s
  | 6 => if x.single then mramCorrected ((addr - mramBase) / 4096 % 4096) s else eccDouble x s
  | 7 => if x.single then s else if s.flag DDR_CFG.LECC then raiseOpen 0x57 s else s
  | 8 => s
  | _ => sramError x s

/-- XBAR_REQUEST (R581): with the bank conflicts of R573 and R574 that the burst meets, a collision of R575 and an error of R576 or R577
in what it reads. -/
def execXbarRequest (m : Nat) (t : XbarPath) (beats kind : Nat) (at_ : BurstData) (hits : List BankHit) (col : Option DualAccess)
    (bad : Option SramErr) (s : State) : Host.Outcome State Fault Refusal :=
  finish <|
    if ¬(m < 12 ∧ t.target < 10 ∧ t.into ≤ 10 ∧ 1 ≤ beats ∧ beats ≤ 64 ∧ kind < 4) then s else
    let issued := !turnedAway m t kind at_.addr s && mayIssue m t.target s
    let s := request m t beats kind at_ hits s
    if !issued then s else
    let s := match col with
      | some c => if t.target = 5 ∨ t.target = 9 then dualAccess (t.target = 9) c s else s
      | none => s
    match bad with
    | some x => if kind = 1 then s else burstError t.target at_.addr x s
    | none => s

/-- The words of a write burst land in memory: those of engine windows, packet buffers, the swap window and LPDDR5. -/
def landBurst (b : Burst) (s : State) : State :=
  if b.kind ≠ 1 then s else
  ((b.data.take (8 * b.beats)).zipIdx).foldl (fun s x =>
    let a := b.addr + 4 * x.2
    match regionOf a s with
    | .engine e off => if b.target = 1 then s.setWord (engWin e + viewOff e off s) x.1 else s
    | .packet => if b.target = 4 then s.setWord a x.1 else s
    | .swap => if b.target = 5 then s.setWord a x.1 else s
    | .ddr => if b.target = 7 then s.setWord a x.1 else s
    | _ => s) s

/-- The write buffer of LPDDR5 drains by a number of bytes that the spec leaves open (R596; log entry 192). -/
def drainDdr (s : State) : State :=
  if s.fab.ddrBuf = 0 then s else
  let (k, s) := fresh Config.bufferDrain s
  s.onFab fun u => { u with ddrBuf := u.ddrBuf - k }

/-- The write buffer of LPDDR5 drains, and bursts that waited for room may be granted (R596). -/
def emptyBuffer (s : State) : State :=
  if s.fab.ddrBuf = 0 then s else (List.range 10).foldl (fun s t => grant t s) (drainDdr s)

/-- The path that the burst `b` has held for `c` cycles is counted (R612, R691). -/
def countPath (b : Burst) (c lat : Nat) (s : State) : State :=
  let s := countG (0x10 + b.target) c (s.incF (FAB_TBUSY.CYC b.target) c)
  let s := if b.into < 10 then countG (0x10 + b.into) c (s.incF (FAB_TBUSY.CYC b.into) c) else s
  let s := if b.target = 7 then countG (if b.kind = 1 then 0x31 else 0x30) 1 s else if b.into = 7 then countG 0x31 1 s else s
  if b.target = 7 ∧ b.kind ≠ 1 then s.maxF DDR_LATMAX.CYC (latency 7 b.kind lat s) else s

/-- A burst of the Call Sheet DMA that is chained to the one that has completed at target `t` keeps its path (R584). -/
def keepChain (b : Burst) (t : Nat) (s : State) : State :=
  match s.fab.bursts.find? fun x => x.master = 2 && x.target = t && !x.granted with
  | some x => if b.master = 2 ∧ x.chain then grant t s else s
  | none => s

/-- BURST_COMPLETE: the burst that holds target `t` completes after latency `lat` and its credit returns (R583, R584, R589, R591,
R596); the waiting requests have waited its cycles, and every free target grants the next. -/
def burstComplete (t lat : Nat) (s : State) : State :=
  match s.fab.bursts.find? (fun b => b.target = t ∧ b.granted) with
  | none => s
  | some b =>
    let c := pathHeld b lat s
    let s := s.onFab fun u => { u with bursts :=
      (u.bursts.filter fun x => !(x.target = t ∧ x.granted)).map fun x => if x.target = t then { x with waited := x.waited + c } else x }
    let s := landBurst b (countPath b c lat s)
    let s := if b.orphan then s.incF FAB_XRESET.COUNT 1 else s
    let s := s.onFab fun u => { u with inReset := u.inReset.filter fun m => u.bursts.any (fun x => x.master = m) }
    (List.range 10).foldl (fun s t => grant t s) (keepChain b t (drainDdr s))

/-- BURST_COMPLETE (R583). -/
def execBurstComplete (t lat : Nat) (s : State) : Host.Outcome State Fault Refusal :=
  finish (if t < 10 then burstComplete t lat s else s)

/-- A master is reset (R591, R592): requests not granted are withdrawn, a burst in progress is completed on its behalf with the beats
that it has moved, the rest with no strobes, and it issues nothing until its credits have returned. -/
def masterReset (r : XbarReset) (s : State) : State :=
  let m := r.master
  s.onFab fun u =>
    let b := (u.bursts.filter fun x => !(x.master = m ∧ !x.granted)).map fun x =>
      if x.master = m then { x with orphan := true, data := x.data.take (8 * smGet 0 r.moved x.target) } else x
    { u with bursts := b, t1q := if m = 0 then [] else u.t1q,
             inReset := if b.any (fun x => x.master = m) then m :: u.inReset.filter (· ≠ m) else u.inReset.filter (· ≠ m) }

/-- A master is reset by an event of its unit: what its bursts in progress have moved is open (R591; log entry 192). -/
def unitReset (m : Nat) (s : State) : State :=
  if s.fab.bursts.any (fun b => b.master = m && b.granted && !b.data.isEmpty) then
    let (f, s) := fresh Config.movedBeats s
    masterReset ⟨m, (List.range 10).map fun t => (t, f t)⟩ s
  else masterReset ⟨m, []⟩ s

/-- MASTER_RESET (R591). -/
def execMasterReset (x : XbarReset) (s : State) : Host.Outcome State Fault Refusal :=
  finish (if x.master < 12 then masterReset x s else s)

/-! ### LPDDR5 (R594, R597, R598) -/

/-- The link ECC, where it is enabled, finds an uncorrectable error in a read of LPDDR5 (R598). -/
def ddrEcc (s : State) : State := if s.flag DDR_CFG.LECC then raiseOpen 0x57 s else s

/-- DDR_TRAINING_DONE: training completes, or fails with a DDR_TRAIN message and EN back at 0 (R594). -/
def execDdrTrainingDone (ok : Bool) (s : State) : Host.Outcome State Fault Refusal :=
  finish <|
    if s.fab.training then
      let s := s.onFab fun u => { u with training := false }
      if ok then (s.setF DDR_STAT.READY 1).setF DDR_STAT.TRAINFAIL 0
      else raiseOpen 0x56 ((s.setF DDR_STAT.TRAINFAIL 1).setF DDR_CFG.EN 0)
    else s

/-- DDR_RETRAIN: a periodic retraining runs (R597). -/
def execDdrRetrain (s : State) : Host.Outcome State Fault Refusal :=
  finish (if s.flag DDR_STAT.READY then s.incF DDR_STAT.RETRAINS 1 else s)

end Sys2Proof.Machine
end

