-- ==== Sys2Proof/Machine/Flags.lean ====
section
/-! DEFINITION. Sample arithmetic and flags: convergent rounding, saturation, narrowing, concealment values, block status
words (chapter 02) and the flag rules of the engines (R172 to R183). -/

namespace Sys2Proof.Machine

/-! ### Rounding and saturation (R58 to R62) -/

/-- The integer nearest to a / b, a tie to the even neighbour: convergent rounding `rndc` of a rational (R58). -/
def rndDiv (a : Int) (b : Nat) : Int :=
  let q := a / (b : Int)
  let r := a % (b : Int)
  if 2 * r < b then q else if (b : Int) < 2 * r then q + 1 else if q % 2 = 0 then q else q + 1

/-- Convergent rounding that drops the `k` low bits (R58). -/
def rndc (k : Nat) (a : Int) : Int := rndDiv a (2 ^ k)

/-- Saturation to `w` bits of two's complement (R61). -/
def satTo (w : Nat) (a : Int) : Int :=
  if (2 ^ (w - 1) : Int) - 1 < a then 2 ^ (w - 1) - 1 else if a < -(2 ^ (w - 1) : Int) then -(2 ^ (w - 1)) else a

/-- Does saturation to `w` bits change the value? -/
def satHits (w : Nat) (a : Int) : Bool := satTo w a != a

/-- A word from an integer in two's complement, modulo 2^32. -/
def wi (a : Int) : Word := BitVec.ofInt 32 a

/-- A sample narrowed to a slot of `w` bits: rounding, then saturation; the code is placed in the low `w` bits (R57). -/
def narrowSlot (w : Nat) (x : Word) : Nat := if w = 32 then x.toNat else lowBits w (satTo w (rndc (32 - w) x.toInt))

/-- The narrowing of a sample to `w` bits saturates (R62). -/
def narrowSat (w : Nat) (x : Word) : Bool := w != 32 && satHits w (rndc (32 - w) x.toInt)

/-- A slot of `w` bits widened to a sample: its most significant bit in bit 31, zeros below (R56). -/
def widenSlot (w x : Nat) : Word := wd ((x % 2 ^ w) * 2 ^ (32 - w))

/-- Concealed sample i after the last valid sample v: v × (31 − i) ÷ 32 rounded, 0 after i = 31 (R83). -/
def concealAt (v : Word) (i : Nat) : Word := if i < 32 then wi (rndDiv (v.toInt * (31 - (i : Int))) 32) else 0

/-- A crossfade at sample j of D: rndc(x_old + (x_new − x_old) × (j + 1) ÷ D) (R288, R323). -/
def xfade (old new : Word) (j d : Nat) : Word :=
  wi (rndDiv (old.toInt * d + (new.toInt - old.toInt) * ((j : Int) + 1)) d)

/-- Released sample j of a fade-in over 64 samples (R724, R748). -/
def fadeIn (x : Word) (j : Nat) : Word := if j < 64 then wi (rndDiv (x.toInt * ((j : Int) + 1)) 64) else x

/-! ### Block status words (R69 to R79) -/

/-- UNSETTLED. -/
def bswUNSETTLED : Nat := 1
/-- MUTED. -/
def bswMUTED : Nat := 2
/-- CONCEALED. -/
def bswCONCEALED : Nat := 4
/-- ASRC_UNLOCKED. -/
def bswUNLOCKED : Nat := 8
/-- CLIPPED. -/
def bswCLIPPED : Nat := 16
/-- SOURCE_LOST. -/
def bswLOST : Nat := 32

/-- A status word from its ORIGIN and its flags in bits [5:0]. -/
def mkBsw (origin flags : Nat) : Word := wd (origin % 16 * 2 ^ 28 + flags % 64)

/-- ORIGIN of a status word. -/
def bswOrigin (b : Word) : Nat := bits b.toNat 28 4

/-- Bits [5:0] of a status word. -/
def bswFlags (b : Word) : Nat := b.toNat % 64

/-- A status word with flag `m` set or cleared. -/
def bswSet (m : Nat) (on : Bool) (b : Word) : Word :=
  let f := bswFlags b
  mkBsw (bswOrigin b) (if on then f ||| m else f &&& (63 - m))

/-- The common ORIGIN of the contributors, 0xF where they differ, 0 with none (R78). -/
def commonOrigin (l : List Word) : Nat :=
  match l with
  | [] => 0
  | b :: t => if t.all (fun x => bswOrigin x = bswOrigin b) then bswOrigin b else 15

/-- The status word of a sum from those of its contributors and whether its narrowing saturated (R78). -/
def bswSum (l : List Word) (clipped : Bool) : Word :=
  let orf := l.foldl (fun a b => a ||| (bswFlags b &&& (bswUNSETTLED + bswCONCEALED + bswUNLOCKED + bswLOST))) 0
  let muted := l.all (fun b => bitOf b.toNat 1)
  mkBsw (commonOrigin l) (orf + (if muted then bswMUTED else 0) + (if clipped then bswCLIPPED else 0))

/-- The status word of a block crossfaded at release from its two blocks (R79). -/
def bswFade (a b : Word) : Word :=
  let orf := (bswFlags a ||| bswFlags b) &&& (bswUNSETTLED + bswCONCEALED + bswUNLOCKED + bswLOST + bswCLIPPED)
  mkBsw (commonOrigin [a, b]) (orf + (if bitOf a.toNat 1 && bitOf b.toNat 1 then bswMUTED else 0))

/-! ### The logarithm and exponential of the engines (R180, R181) -/

/-- t[j]: the integer nearest to log2(1 + j / 64) × 2^24 (R180). -/
def logTab : List Nat :=
  [0, 375270, 744810, 1108793, 1467383, 1820738, 2169009, 2512340, 2850868, 3184728, 3514044, 3838941,
   4159533, 4475935, 4788255, 5096595, 5401057, 5701737, 5998727, 6292118, 6581994, 6868440, 7151536, 7431359,
   7707984, 7981483, 8251926, 8519380, 8783912, 9045584, 9304457, 9560591, 9814042, 10064867, 10313120,
   10558852, 10802114, 11042956, 11281425, 11517568, 11751428, 11983051, 12212479, 12439752, 12664911,
   12887994, 13109041, 13328087, 13545168, 13760320, 13973576, 14184969, 14394532, 14602297, 14808293,
   15012551, 15215099, 15415967, 15615181, 15812769, 16008758, 16203172, 16396036, 16587377, 16777216]

/-- e[j]: the integer nearest to 2^(j / 64) × 2^30 (R181). -/
def expTab : List Nat :=
  [1073741824, 1085434106, 1097253708, 1109202018, 1121280436, 1133490379, 1145833280, 1158310587, 1170923762,
   1183674286, 1196563654, 1209593378, 1222764986, 1236080024, 1249540052, 1263146652, 1276901417, 1290805962,
   1304861917, 1319070932, 1333434672, 1347954824, 1362633090, 1377471191, 1392470869, 1407633882, 1422962010,
   1438457051, 1454120821, 1469955159, 1485961921, 1502142985, 1518500250, 1535035634, 1551751076, 1568648537,
   1585730000, 1602997467, 1620452965, 1638098541, 1655936265, 1673968228, 1692196547, 1710623359, 1729250827,
   1748081133, 1767116489, 1786359126, 1805811301, 1825475297, 1845353420, 1865448001, 1885761398, 1906295993,
   1927054196, 1948038440, 1969251188, 1990694927, 2012372174, 2034285470, 2056437387, 2078830522, 2101467502,
   2124350982, 2147483648]

/-- log2q of a magnitude m, as Q8.24 (R180). -/
def log2q (m : Nat) : Int :=
  if m = 0 then -(128 * 2 ^ 24) else
  let p : Nat := Nat.log2 m
  let q : Nat := m * 2 ^ (31 - p) - 2 ^ 31
  let j : Nat := q / 2 ^ 25
  let r : Nat := q % 2 ^ 25
  let tj : Int := logTab.getD j 0
  let tj1 : Int := logTab.getD (j + 1) 0
  ((p : Int) - 31) * 2 ^ 24 + tj + rndDiv ((tj1 - tj) * r) (2 ^ 25)

/-- exp2q of a Q8.24 value for F (false Q1.31, true Q4.28) and whether it sets S (R181). -/
def exp2q (f : Bool) (x : Int) : Int × Bool :=
  let lim : Int := if f then 3 * 2 ^ 24 else 0
  if lim ≤ x then (0x7FFFFFFF, decide (lim < x)) else
  let i := x / (2 ^ 24 : Int)
  let g : Nat := (x % (2 ^ 24 : Int)).toNat
  let j : Nat := g / 2 ^ 18
  let r : Nat := g % 2 ^ 18
  let ej : Int := expTab.getD j 0
  let ej1 : Int := expTab.getD (j + 1) 0
  let w := ej + rndDiv ((ej1 - ej) * r) (2 ^ 18)
  let k := if f then i - 2 else i + 1
  let v := if 0 ≤ k then w * 2 ^ k.toNat else rndDiv w (2 ^ (-k).toNat)
  (min v 0x7FFFFFFF, false)

/-! ### Lane flags (R172) -/

/-- Flags that a compute operation gives a lane: each none where it leaves the flag as it was; S and G are only ever set. -/
structure LaneFlags where
  z : Option Bool := none
  n : Option Bool := none
  v : Option Bool := none
  s : Bool := false
  g : Bool := false

/-- Flags of a written result: Z and N of its value, V and S as given. -/
def flagsOf (res : Int) (v s : Bool) : LaneFlags := { z := some (res = 0), n := some (res < 0), v := some v, s := s }

/-- Bit `i` of a lane mask. -/
def laneBit (m : Byte) (i : Nat) : Bool := m.getLsbD i

/-- A lane mask with bit `i` at `b`. -/
def setLane (m : Byte) (i : Nat) (b : Bool) : Byte :=
  if b then m ||| BitVec.ofNat 8 (2 ^ i) else m &&& ~~~ BitVec.ofNat 8 (2 ^ i)

/-- A bank with the flags of lane `i` updated. -/
def putFlags (i : Nat) (f : LaneFlags) (b : Bank) : Bank :=
  let up := fun (m : Byte) (o : Option Bool) => match o with | none => m | some x => setLane m i x
  { b with z := up b.z f.z, n := up b.n f.n, v := up b.v f.v,
           s := if f.s then setLane b.s i true else b.s, g := if f.g then setLane b.g i true else b.g }

/-- Does condition code `c` hold on the flags of lane `i` (R171)? -/
def condHolds (c i : Nat) (b : Bank) : Bool :=
  let z := laneBit b.z i
  let n := laneBit b.n i
  match c with
  | 0 => z
  | 1 => !z
  | 2 => n
  | 3 => !n
  | 4 => !n && !z
  | 5 => n || z
  | 6 => laneBit b.v i
  | 7 => !laneBit b.v i
  | 8 => laneBit b.s i
  | 9 => !laneBit b.s i
  | 10 => laneBit b.g i
  | 11 => !laneBit b.g i
  | _ => false

end Sys2Proof.Machine
end

