-- ==== Sys2Proof/Machine/Stage.lean ====
section
/-! DEFINITION. Stage memory as blocks (R37, R67, R68): a block stands at key area * 65536 + channel address (or pool block
number). The areas of one kind are the generations a block passes through at the shot boundaries (R26). -/

namespace Sys2Proof.Machine

/-- Input blocks being filled; generations 1 to 4 follow at the boundaries: 1 is read by stage S, 4 is released to patches
three shots after its boundary (R26, R28). -/
def aIN : Nat := 0
/-- Tap blocks being written; 9 is read by the matrix, 10 is held, 11 is released to direct outputs (R28). -/
def aTAP : Nat := 8
/-- Bus-sum blocks being written; 17 is read by stage B. -/
def aSUM : Nat := 16
/-- Bus-output blocks being written; 25 is released and fed back (R29). -/
def aBUS : Nat := 24
/-- Output blocks being written; 33 is released. -/
def aOUT : Nat := 32
/-- Dissolve set (R37): old tap blocks, 41 read by the matrix; 42 and 43 held and released. -/
def aDTAP : Nat := 40
/-- Dissolve set: bus sums for the old graph, 49 read by stage B. -/
def aDSUM : Nat := 48
/-- Dissolve set: old bus-output blocks, 57 released. -/
def aDBUS : Nat := 56
/-- Old-graph output blocks in the inter-task pool (R322), 65 released. -/
def aDOUT : Nat := 64
/-- Inter-task buffer blocks by pool block number (R38). -/
def aPOOL : Nat := 72

/-- The area a block is in after the next boundary; none where it is dropped. -/
def areaNext (a : Nat) : Option Nat :=
  if a < 4 then some (a + 1) else if 8 ≤ a ∧ a < 11 then some (a + 1) else if a = 16 then some 17
  else if a = 24 then some 25 else if a = 32 then some 33 else if 40 ≤ a ∧ a < 43 then some (a + 1)
  else if a = 48 then some 49 else if a = 56 then some 57 else if a = 64 then some 65 else if a = 72 then some 72 else none

/-- Every block passes to its next generation (R26). -/
def shiftAreas (s : State) : State :=
  s.onStage fun l => l.filterMap fun c => (areaNext (c.1 / 65536)).map fun a => (a * 65536 + c.1 % 65536, c.2)

/-- The block of N zero samples with MUTED set and ORIGIN 0 that stands where no unit wrote one (R68). -/
def silentBlk (s : State) : Blk := ⟨List.replicate s.n 0, 2⟩

/-- Index under which an area of input blocks holds the block of every channel of Reel link `k` that has delivered none (R82, R83). -/
def linkCh (k : Nat) : Nat := 0xF000 + k

/-- The block at a key of stage memory. -/
def State.blkAt (s : State) (k : Nat) : Option Blk := (s.stage.find? (fun c => c.1 = k)).map (·.2)

/-- The block of an area and channel: for a Reel receive channel that has none, that of its link. -/
def State.blk (s : State) (area ch : Nat) : Blk :=
  match s.blkAt (area * 65536 + ch) with
  | some b => b
  | none =>
    if ch / 4096 = 6 then (s.blkAt (area * 65536 + linkCh 0)).getD (silentBlk s)
    else if ch / 4096 = 8 then (s.blkAt (area * 65536 + linkCh 1)).getD (silentBlk s)
    else silentBlk s

/-- Is a block written there? -/
def State.hasBlk (s : State) (area ch : Nat) : Bool := s.stage.any (fun c => c.1 = area * 65536 + ch)

/-- Insertion of a block in key order. -/
def blkPut (k : Nat) (b : Blk) : List (Nat × Blk) → List (Nat × Blk)
  | [] => [(k, b)]
  | c :: t => if k < c.1 then (k, b) :: c :: t else if k = c.1 then (k, b) :: t else c :: blkPut k b t

/-- The block of an area and channel written; global event 0x42 counts one with CONCEALED set (R691). -/
def putBlk (area ch : Nat) (b : Blk) (s : State) : State :=
  let s := s.onStage (blkPut (area * 65536 + ch) b)
  if bitOf b.bsw.toNat 2 then countG 0x42 1 s else s

/-! ### Channel addresses (R65) -/

/-- SPACE of a channel address. -/
def chSpace (c : Nat) : Nat := c / 4096 % 16

/-- INDEX of a channel address. -/
def chIndex (c : Nat) : Nat := c % 4096

/-- Channels a serial port can carry at the configured rate (R65). -/
def spChans (s : State) : Nat := match s.getF SYS_CFG.RATE with | 0 => 32 | 1 => 16 | _ => 8

/-- Stream and Reel link channels each way at the configured rate (R65). -/
def netChans (s : State) : Nat := match s.getF SYS_CFG.RATE with | 0 => 4096 | 1 => 2048 | _ => 1024

/-- Is the channel address in a defined space and range of the configuration (R65, R66)? -/
def chValid (c : Nat) (s : State) : Bool :=
  c < 65536 &&
  match chSpace c with
  | 0 => chIndex c < s.taps
  | 1 => chIndex c < s.buses
  | 2 => chIndex c < 2048 && chIndex c % 32 < spChans s
  | 3 => chIndex c < 2048 && chIndex c % 32 < spChans s
  | 10 => chIndex c < 32
  | k => 4 ≤ k && k ≤ 9 && chIndex c < netChans s

/-- An input channel: serial input, stream receive, Reel link receive or Dailies. -/
def chIsInput (c : Nat) : Bool :=
  chSpace c = 2 || chSpace c = 4 || chSpace c = 6 || chSpace c = 8 || chSpace c = 10

/-- An output channel: serial output, stream transmit or Reel link transmit. -/
def chIsOutput (c : Nat) : Bool := chSpace c = 3 || chSpace c = 5 || chSpace c = 7 || chSpace c = 9

/-! ### Concealment (R83, R84) -/

/-- The running concealment of key `k`: last valid sample and index. -/
def State.concealOf (s : State) (k : Nat) : Word × Nat := smGet (0, 0) s.cs.conceal k

/-- N concealed samples of key `k`; its index runs on (R84). -/
def concealSamples (k n : Nat) (s : State) : List Word × State :=
  let (v, i) := s.concealOf k
  ((List.range n).map fun x => concealAt v (i + x),
   s.onCs fun u => { u with conceal := smPut (0, 0) k (v, min (i + n) 32) u.conceal })

/-- A valid block was delivered on key `k`: its last sample is v and the next concealment starts at i = 0 (R83). -/
def delivered (k : Nat) (last : Word) (s : State) : State :=
  s.onCs fun u => { u with conceal := smPut (0, 0) k (last, 0) u.conceal }

end Sys2Proof.Machine
end

