-- ==== Sys2Proof/Machine/CallSheet.lean ====
section
/-! DEFINITION. The Call Sheet (chapter 05): descriptors, transfer lists, ready lists, dispatch, the end of tasks, admission.
A task is named by its task number; during a dissolve recast a task of both graphs runs a second time on the source engine
(R156), under its number plus 4096. -/

namespace Sys2Proof.Machine

/-! ### Descriptors (R202) -/

/-- Task `n`. -/
def State.task (s : State) (n : Nat) : TaskD := smGet TaskD.free s.cs.tasks n

/-- Task `n` replaced by its image under `f`. -/
def onTask (n : Nat) (f : TaskD → TaskD) (s : State) : State :=
  s.onCs fun u => { u with tasks := smPut TaskD.free n (f (smGet TaskD.free u.tasks n)) u.tasks }

/-- STAGE: 0 strips, 1 buses. -/
def TaskD.stage (t : TaskD) : Nat := bits (nAt t.words 0) 30 2
/-- PRIO. -/
def TaskD.prio (t : TaskD) : Nat := bits (nAt t.words 0) 27 3
/-- PREEMPT. -/
def TaskD.preempt (t : TaskD) : Bool := bitOf (nAt t.words 0) 26
/-- YIELDOK. -/
def TaskD.yieldOk (t : TaskD) : Bool := bitOf (nAt t.words 0) 25
/-- ENFORCE. -/
def TaskD.enforce (t : TaskD) : Bool := bitOf (nAt t.words 0) 24
/-- BSWMODE: task-written. -/
def TaskD.bswMode (t : TaskD) : Bool := bitOf (nAt t.words 0) 23
/-- LOGENG. -/
def TaskD.logeng (t : TaskD) : Nat := bits (nAt t.words 0) 16 4
/-- LANEMASK. -/
def TaskD.laneMask (t : TaskD) : Nat := bits (nAt t.words 0) 8 8
/-- ENTRY. -/
def TaskD.entry (t : TaskD) : Nat := bits (nAt t.words 1) 18 14
/-- AIMG. -/
def TaskD.aimg (t : TaskD) : Nat := bits (nAt t.words 1) 0 9
/-- BUDGET. -/
def TaskD.budget (t : TaskD) : Nat := bits (nAt t.words 2) 0 20
/-- NPRED. -/
def TaskD.npred (t : TaskD) : Nat := bits (nAt t.words 3) 16 4
/-- PHASE. -/
def TaskD.phase (t : TaskD) : Nat := bits (nAt t.words 3) 8 8
/-- PERIOD. -/
def TaskD.period (t : TaskD) : Nat := bits (nAt t.words 3) 0 8
/-- FIRST of list `k`: 0 IN, 1 OUT, 2 MID. -/
def TaskD.first (t : TaskD) (k : Nat) : Nat := bits (nAt t.words (4 + k)) 16 13
/-- COUNT of list `k`. -/
def TaskD.count (t : TaskD) (k : Nat) : Nat := bits (nAt t.words (4 + k)) 0 8
/-- Cost of a task in admission: BUDGET + 2, plus 68 with PREEMPT. -/
def TaskD.cost (t : TaskD) : Nat := t.budget + 2 + (if t.preempt then 68 else 0)
/-- Is the task due in the shot with counter value `n` (R218)? -/
def TaskD.dueIn (t : TaskD) (n : Nat) : Bool := ((n : Int) - t.phase) % (t.period : Int) = 0

/-! ### Transfer entries (R207) -/

/-- A transfer entry, read out of its two words. -/
structure Xfer where
  kind : Nat
  lane0 : Nat
  count : Nat
  slice : Bool
  sladdr : Nat
  chan : Nat
  bswref : Nat
  bswlane : Nat
  deriving DecidableEq, Repr

/-- The fields of an entry's words. -/
def xferOf (w : Word × Word) : Xfer :=
  let a := w.1.toNat
  let b := w.2.toNat
  ⟨bits a 28 4, bits a 25 3, bits a 21 4, bitOf a 20, bits a 0 16, bits b 16 16, bits b 8 8, bits b 5 3⟩

/-- Entry `i` of the transfer table. -/
def State.xfer (s : State) (i : Nat) : Xfer := xferOf (smGet (0, 0) s.cs.xfer i)

/-- Entries of list `k` of a task. -/
def listOf (t : TaskD) (k : Nat) (s : State) : List Xfer := (List.range (t.count k)).map fun i => s.xfer (t.first k + i)

/-- Device address of word `w` of lane `lane`'s slice on engine `e`, in task-code terms (R101, R104). -/
def sliceAddr (e lane : Nat) (isY : Bool) (w : Nat) : Nat :=
  if isY then engWin e + 0xA0000 + lane * 0x4000 + 4 * (w - 0x4000) else engWin e + 0x40000 + lane * 0x8000 + 4 * w

/-! ### Engines of tasks -/

/-- Physical engine on which a task runs (R93, R156): during a dissolve recast the target runs the new graph's tasks and the
source the outgoing graph's. -/
def State.taskEng (s : State) (n : Nat) : Option Nat :=
  let t := s.task n
  match s.take.dissRecasts.find? (fun r => r.logical = t.logeng) with
  | some r => some (if t.outgoing then r.source else r.target)
  | none => s.physOf t.logeng

/-- Every listed task number. -/
def State.taskNums (s : State) : List Nat := s.cs.tasks.map (·.1)

/-! ### Ready lists (R221, R222) -/

/-- Task `n` taken off every ready list. -/
def unready (n : Nat) (s : State) : State :=
  s.onCs fun u => { u with ready := u.ready.map fun l => l.filter (· ≠ n) }

/-- `CS_QDEPTHp.MAX` follows the depth of list `p` (R244). -/
def notePeak (p : Nat) (s : State) : State := s.maxF (CS_QDEPTH.MAX p) ((s.cs.ready.getD p []).length)

/-- The first task of engine `e` on the lists from level `lvl` up (R222 select). -/
def selectFrom : List (List Nat) → Nat → State → Option Nat
  | [], _, _ => none
  | l :: t, e, s =>
    match l.find? (fun n => s.taskEng n = some e) with
    | some n => some n
    | none => selectFrom t e s

/-- `select(e)` of R222. -/
def select (e : Nat) (s : State) : Option Nat := selectFrom s.cs.ready e s

/-- Task `n` has an old-graph instance (R156). -/
def hasOld (n : Nat) (s : State) : Bool := s.cs.tasks.any (fun c => c.1 = n + 4096)

/-- The task in the active bank of engine `e`; none where the engine runs none. -/
def runningOn (e : Nat) (s : State) : Option Nat :=
  if s.engState e = 1 ∨ (s.engState e = 2 ∧ (s.engine e).haltedRun) then
    let n := s.getF (ENG_STAT.TASK e)
    -- the old-graph instance of a task of both graphs runs on the source of its recast
    if hasOld n s ∧ s.taskEng (n + 4096) = some e then some (n + 4096) else some n
  else none

/-- The Call Sheet signals a dispatch or pre-emption: the task leaves its list and awaits acceptance (R222). -/
def signal (e n : Nat) (pre : Bool) (s : State) : State :=
  onEngine e (fun u => { u with pending := some (n, pre) }) (unready n s)

/-- `check(e)` of R222. -/
def check (e : Nat) (s : State) : State :=
  if (s.engine e).pending.isSome then s else
  match select e s with
  | none => s
  | some t =>
    match runningOn e s with
    | none => signal e t false s
    | some u => if (s.task t).preempt ∧ (s.task t).prio < (s.task u).prio then signal e t true s else s

/-- Selection after END or YIELD (R222): where no signal is pending, the chosen task is dispatched. -/
def afterEnd (e : Nat) (s : State) : State :=
  if (s.engine e).pending.isSome then s else
  match select e s with
  | none => s
  | some t => signal e t false s

/-- Task `n` enters its ready list at the tail and its engine is checked (R219, R221). -/
def enterReady (n : Nat) (s : State) : State :=
  let p := (s.task n).prio
  let s := onTask n (fun t => { t with st := 3 }) s
  let s := s.onCs fun u => { u with ready := putNth [] u.ready p ((u.ready.getD p []) ++ [n]) }
  let s := notePeak p s
  match s.taskEng n with
  | some e => check e s
  | none => s

/-! ### Block status words of outputs (R74 to R77, R209) -/

/-- Is the graph's dissolve past the shot its boundary opened (R322)? -/
def dissolvePastT0 (s : State) : Bool := match s.take.dissolve with | some d => d.t0 < s.shot | none => false

/-- Area from which an IN entry of task `n` reads a channel (R210, R322): feedback and bus sums, the dissolve set for an
old-graph bus task after the first shot, input blocks otherwise. -/
def inArea (n ch : Nat) (s : State) : Nat :=
  let t := s.task n
  if chSpace ch = 1 then (if t.stage = 0 then 25 else if t.outgoing && dissolvePastT0 s && s.hasBlk 49 ch then 49 else 17) else 1

/-- The status word of the designated input of an output lane: of the block that the IN entry at BSWREF staged into lane
BSWLANE + j, and of that input block itself where the entry has not landed in this shot (DESIGN CHOICE, log entry 154); none where there is no
designated input. -/
def designated (n : Nat) (x : Xfer) (j : Nat) (s : State) : Option Word :=
  let t := s.task n
  if t.bswMode ∧ x.bswref = 0xFF then none
  else
    match t.inBsw.find? (fun c => c.1 = 8 * x.bswref + (x.bswlane + j)) with
    | some c => some c.2
    | none =>
      let i := s.xfer (t.first 0 + x.bswref)
      let ch := i.chan + (x.bswlane + j - i.lane0)
      some (s.blk (inArea n ch s) ch).bsw

/-- Inherited status word of a lane: the designated input's with CLIPPED from the lane's S flag (R74). -/
def inheritBsw (d : Option Word) (sflag : Bool) : Word := bswSet bswCLIPPED sflag (d.getD 0)

/-- Status word of a concealed output block: the inherited one with CONCEALED, and CONCEALED alone where there is no designated
input (R77). -/
def concealBsw (d : Option Word) (sflag : Bool) : Word :=
  match d with
  | none => 4
  | some w => bswSet bswCONCEALED true (inheritBsw (some w) sflag)

/-- Task-written status word: bits [5:0] of the word in the slice, ORIGIN of the designated input (R75, R76). -/
def writtenBsw (d : Option Word) (w : Word) : Word := mkBsw (bswOrigin (d.getD 0)) (bswFlags w)

/-- Area into which a task writes an output channel (R322): an old-graph task writes its affected destinations into the
dissolve set. -/
def outArea (n ch : Nat) (s : State) : Nat :=
  let old := (s.task n).outgoing && (match s.take.dissolve with | some d => d.affected.contains ch | none => false)
  match chSpace ch with
  | 0 => if old then aDTAP else aTAP
  | 1 => if old then aDBUS else aBUS
  | _ => if old then aDOUT else aOUT

/-- One output lane of an OUT entry is written as concealed (R30, R77). -/
def concealLane (n : Nat) (x : Xfer) (j : Nat) (s : State) : State :=
  let ch := x.chan + j
  let a := outArea n ch s
  let b := concealBsw (designated n x j s) (laneBit (s.task n).sflags (x.lane0 + j))
  let (sm, s) := concealSamples (a * 65536 + ch) s.n s
  putBlk a ch ⟨sm, b⟩ s

/-- Every lane of an OUT entry is written as concealed; other entries write nothing. The pool block of a BUF_WR entry that has not landed
keeps what it held, of which the spec says nothing (DESIGN CHOICE, log entry 179). -/
def concealEntry (n : Nat) (x : Xfer) (s : State) : State :=
  if x.kind = 2 then (List.range x.count).foldl (fun s j => concealLane n x j s) s else s

/-! ### The transfer entries' effects (R208, R214, R220) -/

/-- A block written into lane slice words SLADDR to SLADDR + N. -/
def blockToSlice (e lane : Nat) (isY : Bool) (w : Nat) (b : Blk) (s : State) : State :=
  writeWords (sliceAddr e lane isY (w + b.samples.length)) [b.bsw] (writeWords (sliceAddr e lane isY w) b.samples s)

/-- N samples of a lane slice. -/
def sliceSamples (e lane : Nat) (isY : Bool) (w : Nat) (s : State) : List Word := s.wordsAt (sliceAddr e lane isY w) s.n

/-- One lane of an IN or BUF_RD entry. -/
def moveIn (n e : Nat) (x : Xfer) (j : Nat) (s : State) : State :=
  let area := if x.kind = 1 then inArea n (x.chan + j) s else aPOOL
  blockToSlice e (x.lane0 + j) x.slice x.sladdr (s.blk area (x.chan + j)) s

/-- One lane of an OUT entry after END, or of a stopped task (R140). -/
def moveOut (n e : Nat) (x : Xfer) (j : Nat) (s : State) : State :=
  let t := s.task n
  if t.stopped then concealLane n x j s else
  let lane := x.lane0 + j
  let ch := x.chan + j
  let sm := sliceSamples e lane x.slice x.sladdr s
  let d := designated n x j s
  let b := if t.bswMode then writtenBsw d (s.word (sliceAddr e lane x.slice (x.sladdr + s.n)))
           else inheritBsw d (laneBit t.sflags lane)
  let a := outArea n ch s
  delivered (a * 65536 + ch) (sm.getLastD 0) (putBlk a ch ⟨sm, b⟩ s)

/-- One lane of a BUF_WR entry; the reserved bits of its status word read 0 (R69). -/
def moveBuf (e : Nat) (x : Xfer) (j : Nat) (s : State) : State :=
  let lane := x.lane0 + j
  putBlk aPOOL (x.chan + j)
    ⟨sliceSamples e lane x.slice x.sladdr s, s.word (sliceAddr e lane x.slice (x.sladdr + s.n)) &&& 0xF000003F⟩ s

/-- Delay line `i`. -/
def State.line (s : State) (i : Nat) : LineD := smGet LineD.unset s.cs.lines i

/-- Delay line `i` replaced by its image under `f`. -/
def onLine (i : Nat) (f : LineD → LineD) (s : State) : State :=
  s.onCs fun u => { u with lines := smPut LineD.unset i (f (smGet LineD.unset u.lines i)) u.lines }

/-- N samples of a delay line, from (w − D) mod L onward; a position not written since the line was set reads 0, and so does
a line that no LINE_SET has set (R214). -/
def lineRead (i : Nat) (s : State) : List Word :=
  let l := s.line i
  match l.live with
  | none => List.replicate s.n 0
  | some c =>
    (List.range s.n).map fun k =>
      let p := (l.w0 + c.len - c.delay % c.len + k) % c.len
      if p < l.hw then s.word (c.base + 4 * p) else 0

/-- 64-byte units of LPDDR5 that a line of `len` samples covers (R213). -/
def lineUnits (len : Nat) : Nat := ceilDiv (4 * len) 64

/-- First 64-byte unit of a line's base (R599). -/
def lineBase (base : Nat) : Nat := (base - 0x100000000) / 64

/-- The claim of line `i` on the range at `base` becomes the range of `len` samples (R215). -/
def sizeLineClaim (i base len : Nat) (s : State) : State :=
  s.onFab fun u => { u with claims := u.claims.map fun c =>
    if c.2.owner = 1 ∧ c.2.id = i ∧ c.2.base = lineBase base then (c.1, { c.2 with len := lineUnits len }) else c }

/-- N samples written to a delay line at w; w advances modulo L, and where it wraps to 0 a staged length applies (R214,
R215). Positions beyond a shorter length count as not written and read 0 when the line is lengthened again: DESIGN CHOICE (log entry 180). The claim then takes the longer of the length applied and one in the slate: DESIGN CHOICE (log entry 155). -/
def lineWrite (i : Nat) (sm : List Word) (s : State) : State :=
  let l := s.line i
  match l.live with
  | none => s
  | some c =>
    let s := writeWords (c.base + 4 * l.w) sm s
    let w' := l.w + sm.length
    let hw' := max l.hw w'
    if w' < c.len then onLine i (fun l => { l with w := w', hw := hw' }) s
    else
      let len' := l.staged.getD c.len
      let need := match l.slate with | some z => if z.base = c.base then max len' z.len else len' | none => len'
      let s := if l.staged.isSome then sizeLineClaim i c.base need s else s
      onLine i (fun l => { l with w := 0, hw := min hw' len', staged := none, live := some { c with len := len' } }) s

/-- One lane of a LINE_RD or LINE_WR entry. -/
def moveLine (e : Nat) (x : Xfer) (j : Nat) (s : State) : State :=
  let lane := x.lane0 + j
  if x.kind = 4 then writeWords (sliceAddr e lane x.slice x.sladdr) (lineRead (x.chan + j) s) s
  else lineWrite (x.chan + j) (sliceSamples e lane x.slice x.sladdr s) s

/-! ### Lists and notifications (R219, R220) -/

/-- The list that the staging DMA serves for logical engine `le`: by level, then by time of issue (R212), chosen anew for every
entry, so that a list issued later at a higher PRIO overtakes one already begun: DESIGN CHOICE (log entry 156). -/
def nextStaging (le : Nat) (s : State) : Option Staging :=
  let l := s.cs.staging.filter fun x => (s.task x.task).logeng = le
  (List.range 8).findSome? fun p => l.find? fun x => (s.task x.task).prio = p

/-- The logical engine whose turn is next: the first after the one served last, in round-robin order, that has a list (R212). The turn
is carried over shot boundaries: DESIGN CHOICE (log entry 181). -/
def nextTurn (s : State) : Option Nat :=
  ((List.range 16).map fun i => (s.cs.turn + 1 + i) % 16).find? fun le => (nextStaging le s).isSome

/-- The logical engine whose entry the staging DMA serves (R212). -/
def State.served (s : State) : Option Nat :=
  match s.cs.serving with
  | some le => if (nextStaging le s).isSome then some le else nextTurn s
  | none => nextTurn s

/-- An idle staging DMA takes its next turn (R212). -/
def serveStaging (s : State) : State := s.onCs fun u => { u with serving := s.served }

/-- A list of the task is issued to the staging DMA (R212). -/
def issueList (n k : Nat) (s : State) : State :=
  s.onCs fun u => { u with staging := u.staging ++ [⟨n, k, 0, (s.task n).count k⟩] }

/-- A due task whose pending count is 0: its IN list is issued, or it is ready where that list is empty (R219). -/
def inputsDue (n : Nat) (s : State) : State :=
  if (s.task n).count 0 = 0 then enterReady n s else issueList n 0 s

/-- A NOTIFY that names task `n`: its pending count falls by one, and at 0 its inputs are staged (R219, R220). -/
def notifyTask (n : Nat) (s : State) : State :=
  let t := s.task n
  if t.due ∧ t.st = 2 ∧ 0 < t.pend then
    let s := onTask n (fun t => { t with pend := t.pend - 1 }) s
    if t.pend = 1 then inputsDue n s else s
  else s

/-- The instance that a NOTIFY of task `by` reaches: an old-graph instance notifies old-graph instances (R156). -/
def notifyTarget (by_ n : Nat) (s : State) : Nat :=
  if 4096 ≤ by_ ∧ s.cs.tasks.any (fun c => c.1 = n + 4096) then n + 4096 else n

/-- The task has completed its OUT list in time (R220, R232). `CS_TUSED` shows the shot's charge from here on, before the shot has
ended: DESIGN CHOICE (log entry 182). -/
def completeTask (n : Nat) (s : State) : State :=
  onTask n (fun t => { t with due := false, used := t.charge, ovr := if t.stopped then t.ovr else 0 }) s

/-- The task's OUT list is issued after END or a stop; an empty list completes the task at once (R140, R220). -/
def outputsDue (n : Nat) (s : State) : State :=
  if (s.task n).count 1 = 0 then completeTask n s else issueList n 1 s

/-- One entry's effect on engine `e` for task `n` (R207, R208). -/
def entryEffect (n e : Nat) (x : Xfer) (s : State) : State :=
  let lanes := List.range x.count
  match x.kind with
  | 1 => lanes.foldl (fun s j => moveIn n e x j s) s
  | 2 => lanes.foldl (fun s j => moveOut n e x j s) s
  | 3 => notifyTask (notifyTarget n x.chan s) s
  | 4 => lanes.foldl (fun s j => moveLine e x j s) s
  | 5 => lanes.foldl (fun s j => moveLine e x j s) s
  | 6 => lanes.foldl (fun s j => moveIn n e x j s) s
  | 7 => lanes.foldl (fun s j => moveBuf e x j s) s
  | _ => s

/-- A list has landed whole: IN makes the task ready, OUT completes it, MID returns a yielded task to its ready list
(R219, R220, R227). -/
def listLanded (n k : Nat) (s : State) : State :=
  match k with
  | 0 => enterReady n s
  | 1 => completeTask n s
  | _ => if (s.task n).st = 6 then enterReady n s else s

/-! ### Ends of tasks -/

/-- The cells of a buffered or issued store reach memory. -/
def storeCells (o : Option StoreOp) (s : State) : State :=
  match o with
  | none => s
  | some st => st.cells.foldl (fun s c => s.setWord c.1 c.2) s

/-- Every store issued completes: the buffers first, then the stores in order of issue (R131, R138, R140). -/
def flushStores (e : Nat) (s : State) : State :=
  let u := s.engine e
  let s := storeCells u.bufX s
  let s := storeCells u.bufY s
  let s := u.st3.foldl (fun s x => storeCells (some x) s) s
  let s := u.st2.foldl (fun s x => storeCells (some x) s) s
  let s := u.st1.foldl (fun s x => storeCells (some x) s) s
  onEngine e (fun u => { u with bufX := none, bufY := none, st1 := [], st2 := [], st3 := [] }) s

/-- The active bank of engine `e` is left without a task: the engine is IDLE, or stays HALTED (R147), its context discarded
(R138). -/
def vacate (e : Nat) (s : State) : State :=
  let s := flushStores e s
  let s := onBank e (fun _ => Bank.empty) s
  let s := onEngine e (fun u => { u with hist := [], arithSent := false }) s
  if s.engState e = 2 then onEngine e (fun u => { u with haltedRun := false }) s else s.setF (ENG_STAT.STATE e) 0

/-- Cycles added to the engine's use of the shot (R245). -/
def addLoad (le k : Nat) (s : State) : State :=
  s.onCs fun u => { u with load := smPut 0 le (smGet 0 u.load le + k) u.load }

/-- Every output channel of a task that starts has delivered no valid sample (R83). -/
def startOuts (n : Nat) (s : State) : State :=
  ((listOf (s.task n) 1 s).filter fun x => x.kind = 2).foldl (fun s x =>
    (List.range x.count).foldl (fun s j => delivered (outArea n (x.chan + j) s * 65536 + (x.chan + j)) 0 s) s) s

/-- Cycles charged to a task (R228). -/
def chargeTask (n k : Nat) (s : State) : State :=
  addLoad (s.task n).logeng k (onTask n (fun t => { t with charge := t.charge + k }) s)

/-- The running task of engine `e` has ended its work for the shot (R197, R220): its S flags are kept for the status words,
the engine is vacated, its OUT list is issued, and the Call Sheet selects the engine's next task. `CS_TSTATE` shows WAITING from here
until the OUT list has landed: DESIGN CHOICE (log entry 167). -/
def endRunning (e n : Nat) (stopped : Bool) (s : State) : State :=
  let sf := (s.bank e).s
  let s := vacate e s
  let s := onTask n (fun t => { t with st := 2, sflags := sf, stopped := t.stopped || stopped }) s
  afterEnd e (serveStaging (outputsDue n s))

/-- A task is withdrawn from lists, staging, signals and context slots. -/
def withdraw (n : Nat) (s : State) : State :=
  let s := unready n s
  let s := s.onCs fun u => { u with staging := u.staging.filter (fun x => x.task ≠ n) }
  s.onEng fun l => l.map fun u =>
    { u with pending := (match u.pending with | some (t, p) => if t = n then none else some (t, p) | none => none),
             slots := u.slots.filter (fun c => c.1 ≠ n),
             inact := (match u.inact with | .kept t => if t = n then .none else .kept t | x => x) }

/-- A task is quarantined (R232, R233). -/
def quarantine (n : Nat) (s : State) : State := onTask n (fun t => { t with st := 7 }) s

/-- The context of a task that resumes: kept in the inactive bank, or in its slot (R224, R227). -/
def savedBank (n e : Nat) (s : State) : Option Bank :=
  let u := s.engine e
  if u.inact = .kept n then some u.keptCtx else (u.slots.find? (fun c => c.1 = n)).map (·.2)

/-- The deadline of a due task that has not completed its OUT list (R30, R230 to R232): it is ended, the outputs that have
not landed are concealed, the overrun is counted and reported, and at OVRLIMIT it is quarantined. -/
def overrun (n : Nat) (s : State) : State :=
  let t := s.task n
  let landed := match s.cs.staging.find? (fun x => x.task = n ∧ x.kind = 1) with
    | some x => x.next
    | none => 0
  let eng := s.taskEng n
  let s := match eng with
    | some e => if runningOn e s = some n then
        let sf := (s.bank e).s
        countE e 0x04 2 (n % 4096) (vacate e (onTask n (fun t => { t with sflags := sf }) s))
      else match savedBank n e s with
        | some b => if t.st = 2 then s else onTask n (fun t => { t with sflags := b.s }) s
        | none => s
    | none => s
  let s := withdraw n s
  let s := ((listOf t 1 s).drop landed).foldl (fun s x => concealEntry n x s) s
  let s := raise 0x12 0 (n % 4096) s
  let s := s.incF (CS_EEVT.OVERRUNS t.logeng) 1
  let ovr := min 15 (t.ovr + 1)
  let q := t.st = 7 ∨ s.getF CS_CTRL.OVRLIMIT ≤ ovr
  onTask n (fun t => { t with due := false, used := t.charge, ovr := ovr, st := if q then 7 else 2 }) s

/-- The Call Sheet looks at every engine again (R222). -/
def checkAll (s : State) : State := (List.range 18).foldl (fun s e => check e s) s

/-- A task is held out of dispatch: QUARANTINED, or of a logical engine that no engine serves, or that a cut recast moves in the shot
that t0 opens (R157, R234, R235). -/
def heldOut (n : Nat) (s : State) : Bool :=
  (s.task n).st = 7 || (s.taskEng n).isNone
  || s.take.cutRecasts.any fun c => c.t0 = s.shot && c.r.logical = (s.task n).logeng

/-- A task that is due in the shot that opens starts its shot: its pending count is NPRED (R218). -/
def setArmed (n : Nat) (s : State) : State :=
  onTask n (fun t => { t with st := 2, pend := t.npred, due := true, started := false, stopped := false, charge := 0,
                              overBudget := false, sflags := 0, inBsw := [] }) s

/-- A NOTIFY at the boundary itself: the pending count falls before any list is issued (R234). -/
def notifyArmed (n : Nat) (s : State) : State :=
  if (s.task n).due ∧ (s.task n).st = 2 ∧ 0 < (s.task n).pend then onTask n (fun t => { t with pend := t.pend - 1 }) s else s

/-- A task held out of dispatch in a due shot, at the boundary: no cycle is charged and no S flag is set in this shot (R71, R246);
its OUT blocks are concealed and its NOTIFY entries act (R234, R235). -/
def concealAtBoundary (n : Nat) (s : State) : State :=
  let s := onTask n (fun t => { t with sflags := 0, inBsw := [], charge := 0, used := 0 }) s
  (listOf (s.task n) 1 s).foldl (fun s x =>
    if x.kind = 3 then notifyArmed (notifyTarget n x.chan s) s else concealEntry n x s) s

/-- Task `n` enters its ready list at the tail; its engine is checked when every task of the cycle has entered (R221, R222). -/
def joinReady (n : Nat) (s : State) : State :=
  let p := (s.task n).prio
  let s := onTask n (fun t => { t with st := 3 }) s
  notePeak p (s.onCs fun u => { u with ready := putNth [] u.ready p ((u.ready.getD p []) ++ [n]) })

/-- An armed task whose pending count is 0 has its IN list issued, or is ready where that list is empty (R219). -/
def stageArmed (n : Nat) (s : State) : State :=
  let t := s.task n
  if t.due ∧ t.st = 2 ∧ t.pend = 0 then (if t.count 0 = 0 then joinReady n s else issueList n 0 s) else s

/-- The tasks `ns`, in ascending order, at the boundary that opens a shot in which they are due: every one is armed, those held out of
dispatch are concealed and notify their successors, and only then lists are issued and engines chosen (R218, R219, R222,
R234). -/
def armTasks (ns : List Nat) (s : State) : State :=
  let held := ns.filter fun n => heldOut n s
  let s := (ns.filter fun n => !held.contains n).foldl (fun s n => setArmed n s) s
  let s := held.foldl (fun s n => concealAtBoundary n s) s
  checkAll (serveStaging (ns.foldl (fun s n => stageArmed n s) s))

/-- The tasks due in the shot that opens, armed or concealed (R218, R219). -/
def armDue (s : State) : State :=
  let ns := (s.cs.tasks.filter fun c => (c.2.live || c.2.outgoing) && !c.2.fresh && c.2.dueIn s.shot).map (·.1)
  armTasks ns s

/-- The boundary that opened the running shot is the take boundary of a locked take, the commit of bus engines, the end of a dissolve
or the exchange of a cut recast, and that has not been made yet (R157, R316). -/
def boundaryWork (s : State) : Bool :=
  (match s.take.pending with | some t => t.locked && t.sT = some s.shot | none => false)
  || (match s.take.commit with | some c => !c.busDone && c.t0 + 2 = s.shot | none => false)
  || (match s.take.dissolve with | some d => d.t0 + d.dlen + 2 = s.shot | none => false)
  || s.take.cutRecasts.any fun c => c.copied && c.t0 + 1 = s.shot

/-- The tasks of a shot are armed together, once all that its boundary changes has been changed: those of new and continuing graphs
are ready, chosen and concealed in one cycle (R212, R221, R222, R234). -/
def armBoundary (s : State) : State :=
  if s.cs.armWait && !boundaryWork s then armDue (s.onCs fun u => { u with armWait := false }) else s

/-- Armed tasks whose engine has changed start again on their new engine, with the notifications they have had (R157). -/
def rearmTasks (ns : List Nat) (s : State) : State :=
  let ns := ns.filter fun n => (s.task n).due
  let s := ns.foldl (fun s n => onTask n (fun t => { t with st := if t.st = 7 then 7 else 2, started := false, charge := 0 }) (withdraw n s)) s
  checkAll (serveStaging (ns.foldl (fun s n => stageArmed n s) s))

/-! ### Dispatch (R134 to R136, R222 to R225) -/

/-- The register bank of a fresh dispatch (R134). -/
def freshBank (n e : Nat) (s : State) : Bank :=
  let t := s.task n
  let img := smGet (List.replicate 32 0) s.cs.aimg t.aimg
  { Bank.empty with
    pc := t.entry,
    cur := (List.range 32).foldl (fun m i => smPut 0 (0x10 + i) (img.getD i 0) m) [],
    page := s.livePage e }

/-- A context kept in the inactive bank is saved into a context slot (R224). -/
def saveKept (e : Nat) (s : State) : State :=
  onEngine e (fun u =>
    match u.inact with
    | .kept n => { u with slots := (n, u.keptCtx) :: u.slots.filter (fun c => c.1 ≠ n) }
    | _ => u) s

/-- The running task is set aside with its context kept: PREEMPTED (5) at the head of its list, or YIELDED (6) (R221, R224,
R227). A context kept before goes to its slot. -/
def setAside (e n st : Nat) (s : State) : State :=
  let s := saveKept e (flushStores e s)
  let b := s.bank e
  let s := onTask n (fun t => { t with st := st }) s
  let s := onEngine e (fun u => { u with inact := .kept n, keptCtx := b, hist := [] }) s
  if st = 5 then
    let p := (s.task n).prio
    notePeak p (s.onCs fun u => { u with ready := putNth [] u.ready p (n :: u.ready.getD p []) })
  else s

/-- The engine takes up task `n` (R134, R135): the active bank changes, and the task starts fresh at its first dispatch in
the shot, or resumes. `wait` is its waiting time in cycles (R243). -/
def startTask (e n wait : Nat) (s : State) : State :=
  let t := s.task n
  let ctx := if t.started then savedBank n e s else none
  let s := s.setF (ENG_STAT.BANK e) (1 - s.getF (ENG_STAT.BANK e))
  let s := onBank e (fun _ => ctx.getD (freshBank n e s)) s
  let s := onEngine e (fun u => { u with
    pending := none, hist := [],
    inact := if u.inact = .kept n ∨ u.inact = .fresh n then .none else u.inact,
    slots := u.slots.filter (fun c => c.1 ≠ n),
    accwrap := u.accwrapLive,
    arithSent := false }) s
  let s := if t.started then s else
    onTask n (fun t => { t with wmin := min t.wmin wait, wmax := max t.wmax (min wait 0xFFFFF), wlast := min wait 0xFFFFF }) s
  let s := onTask n (fun t => { t with st := 4, started := true }) s
  let s := s.setF (ENG_STAT.TASK e) (n % 4096)
  let s := s.setF (ENG_STAT.STATE e) 1
  let s := addLoad t.logeng 2 s
  countE e 0x0B 1 (n % 4096) s

/-- The candidate that the Call Sheet keeps in the inactive bank of engine `e` (R223). -/
def candidate (e : Nat) (s : State) : Option Nat :=
  match select e s with
  | some n => some n
  | none =>
    let best := fun (ok : Nat → Bool) => (List.range 8).findSome? fun p =>
      s.taskNums.find? fun n => ok n && (s.task n).prio = p && s.taskEng n = some e
    match best (fun n => let t := s.task n; t.due && t.st = 2 && t.pend = 0 && !t.started) with
    | some n => some n
    | none => if (runningOn e s).isSome then none else
      best (fun n => let t := s.task n; t.live && t.npred = 0 && t.dueIn (s.shot + 1) && t.st ≠ 7)

/-! ### Admission (R236 to R239) -/

/-- A, the admission limit for reserve `r` percent. -/
def admitLimit (r : Nat) (s : State) : Nat := s.shotCycles * (100 - r) / 100

/-- g, the scheduling guard. -/
def guard_ (s : State) : Nat := s.shotCycles / 64 + 1024

/-- Cost of a set of tasks in phase `ph`. -/
def phaseCost (ts : List TaskD) (ph : Nat) : Nat :=
  ts.foldl (fun a t => if t.dueIn ph then a + t.cost else a) 0

/-- Largest cost sum over the 128 phases. -/
def maxCost (ts : List TaskD) : Nat := (List.range 128).foldl (fun a ph => max a (phaseCost ts ph)) 0

/-- Does a set of tasks fit a limit? -/
def fits (ts : List TaskD) (limit : Nat) : Bool := maxCost ts ≤ limit

/-- Tasks (below 4096) that satisfy `p`. -/
def tasksWith (p : TaskD → Bool) (s : State) : List TaskD :=
  (s.cs.tasks.filter fun c => c.1 < 4096 && p c.2).map (·.2)

/-- The slate graph's tasks of every logical engine fit A (R236). -/
def slateFits (s : State) : Bool :=
  (List.range 16).all fun le => fits (tasksWith (fun t => t.slate && t.logeng = le) s) (admitLimit (s.getF CS_RESERVE.PCT) s)

/-- `CS_EADMITe` shows the largest per-phase cost of the live tasks (R245). -/
def showAdmit (s : State) : State :=
  (List.range 16).foldl (fun s le =>
    s.setF (CS_EADMIT.COST le) (maxCost (tasksWith (fun t => t.live && t.logeng = le) s))) s

end Sys2Proof.Machine
end

