-- ==== Sys2Proof/Machine/Release.lean ====
section
/-! DEFINITION. Release of output blocks at a shot boundary (R28, R80, R298, R321 to R326, R724): what each output channel
gives to its port, stream or Reel link. -/

namespace Sys2Proof.Machine

/-- Area in which a bus-output block stays as its task wrote it, where the block of area 25 has been crossfaded (R323). -/
def aBUSRAW : Nat := 26

/-- The crossfade of R323 of an affected block released at this boundary: the old block before sample j = 0, the new one from
j = D on. -/
def dissFade (old new : Blk) (d : Dissolve) (s : State) : Blk :=
  let len := d.dlen * s.n
  let j0 : Int := ((s.shot : Int) - (d.t0 + 3)) * s.n
  if j0 < 0 then old
  else if (len : Int) ≤ j0 then new
  else ⟨(List.range s.n).map fun i => xfade (old.samples.getD i 0) (new.samples.getD i 0) (j0.toNat + i) len, bswFade old.bsw new.bsw⟩

/-- The old block of a source of a patch (R298, R323): of an affected tap from the release of b_T on, and of an affected bus-output
block, the old graph's block, zeros where the old graph has no writer; elsewhere the one block. -/
def sourceOld (src : Nat) (d : Dissolve) (s : State) : Blk :=
  match chSpace src with
  | 0 => if d.affected.contains src ∧ d.t0 + 3 ≤ s.shot then s.blk 43 src else s.blk 11 src
  | 1 => if d.affected.contains src then s.blk 57 src else s.blk 25 src
  | 15 => silentBlk s
  | _ => s.blk 4 src

/-- The new block of a source. -/
def sourceNew (src : Nat) (s : State) : Blk :=
  match chSpace src with
  | 0 => s.blk 11 src
  | 1 => if s.hasBlk aBUSRAW src then s.blk aBUSRAW src else s.blk 25 src
  | 15 => silentBlk s
  | _ => s.blk 4 src

/-- Live patch of an output channel, 0xFFFF where it has none; a patch changed by a cut takes over at the release of b_T
(R326). -/
def State.patchOf (s : State) (ch : Nat) : Nat :=
  match s.take.patchOld.find? (fun c => c.1 = ch ∧ s.shot < c.2.2) with
  | some c => c.2.1
  | none => smGet 0xFFFF s.take.patch ch

/-- The block of an output channel from its one writer: its patch's source, or the OUT entry that writes it. -/
def writerBlk (ch : Nat) (s : State) : Blk :=
  let p := s.patchOf ch
  if p = 0xFFFF then s.blk 33 ch else sourceNew p s

/-- The block of an output channel from its writer in the old graph (R322, R324). -/
def oldWriterBlk (ch : Nat) (d : Dissolve) (s : State) : Blk :=
  match d.oldPatch.find? (fun c => c.1 = ch) with
  | some c => if c.2 = 0xFFFF then (if s.hasBlk 65 ch then s.blk 65 ch else silentBlk s) else sourceOld c.2 d s
  | none =>
    if s.hasBlk 65 ch then s.blk 65 ch
    else
      let p := s.patchOf ch
      if p = 0xFFFF then silentBlk s else sourceOld p d s

/-- Blocks are released in this mode: ACQUIRE, RUN, RUN_HOLDOVER, SAFE, DEGRADED and MAINTENANCE with tick (R746), and in
TAKEOVER from the boundary b0 + 4 on (R723). -/
def releases (s : State) : Bool :=
  s.tick && (takeMode s.mode || s.mode = 10 || (s.mode = 7 && (match s.sti.b0 with | some b => b + 4 ≤ s.shot | none => false)))

/-- Samples released since the first block of a fade-in: after a takeover (R724) or an end of muting (R748). -/
def fadeInFrom (s : State) : Option Nat :=
  match s.boot.fadeAt with
  | some b => if b ≤ s.shot ∧ s.shot < b + 64 then some ((s.shot - b) * s.n) else none
  | none => none

/-- The block released on output channel `ch` at the boundary that opened the running shot. While outputs are muted it holds zero
samples with MUTED set and its other fields as formed (R80). -/
def releasedBlk (ch : Nat) (s : State) : Blk :=
  if !releases s then silentBlk s else
  let b := match s.take.dissolve with
    | some d => if d.affected.contains ch then dissFade (oldWriterBlk ch d s) (writerBlk ch s) d s else writerBlk ch s
    | none => writerBlk ch s
  let b := match fadeInFrom s with
    | some j => ⟨b.samples.zipIdx.map fun x => fadeIn x.1 (j + x.2), b.bsw⟩
    | none => b
  if s.muted then ⟨List.replicate s.n 0, bswSet bswMUTED true b.bsw⟩ else b

/-- The affected bus-output blocks released at this boundary are crossfaded; feedback and patches read them so (R29, R323). -/
def fadeBuses (s : State) : State :=
  match s.take.dissolve with
  | none => s
  | some d =>
    d.affected.foldl (fun s ch =>
      if chSpace ch = 1 ∧ (s.hasBlk 57 ch ∨ s.hasBlk 25 ch) then
        let new := s.blk 25 ch
        let old := s.blk 57 ch
        let s := s.onStage (blkPut (aBUSRAW * 65536 + ch) new)
        s.onStage (blkPut (25 * 65536 + ch) (dissFade old new d s))
      else s) s

end Sys2Proof.Machine
end

