-- ==== Sys2Proof/Machine/Serial.lean ====
section
/-! DEFINITION. Serial ports and clock groups (chapter 08): configuration, frames, port blocks, capture and playback rings,
starts, stops, loss and return, ASRC channels. -/

namespace Sys2Proof.Machine

/-! ### Ports and groups -/

/-- Port `p` beside its registers. -/
def State.port (s : State) (p : Nat) : PortU := smGet PortU.reset s.sp.ports p

/-- Port `p` replaced by its image under `f`. -/
def onPort (p : Nat) (f : PortU → PortU) (s : State) : State :=
  s.onSp fun u => { u with ports := smPut PortU.reset p (f (smGet PortU.reset u.ports p)) u.ports }

/-- Clock group `g` beside its registers. -/
def State.group (s : State) (g : Nat) : GroupU := smGet GroupU.reset s.sp.groups g

/-- Clock group `g` replaced by its image under `f`. -/
def onGroup (g : Nat) (f : GroupU → GroupU) (s : State) : State :=
  s.onSp fun u => { u with groups := smPut GroupU.reset g (f (smGet GroupU.reset u.groups g)) u.groups }

/-- Input state: 0 STOPPED, 1 STARTING, 2 RUNNING, 3 LOST (R389). -/
def State.istate (s : State) (p : Nat) : Nat := s.getF (SP_STAT.ISTATE p)
/-- Output state. -/
def State.ostate (s : State) (p : Nat) : Nat := s.getF (SP_STAT.OSTATE p)
/-- Clock group of port `p`. -/
def State.cgOf (s : State) (p : Nat) : Nat := s.getF (SP_CFG.CG p)
/-- Is port `p` Converted? -/
def State.converted (s : State) (p : Nat) : Bool := s.flag (SP_CFG.MODE p)

/-- Bits of a width code: 16, 24 or 32. -/
def widthOf (c : Nat) : Nat := match c with | 0 => 16 | 1 => 24 | 2 => 32 | _ => 0

/-- Slot that a map word holds for channel `ch` of a direction. -/
def State.mapSlot (s : State) (out : Bool) (p ch : Nat) : Nat :=
  bits (s.reg (0x50020 + p * 0x100 + (if out then 0x20 else 0) + 4 * (ch / 4))).toNat (8 * (ch % 4)) 5

/-- Frame rate in Hz that a group runs at: the nominal rate of a master, the class's rate of a slave (0 for none). -/
def nominalHz (g : Nat) (s : State) : Nat :=
  if s.flag (CG_CFG.DIR g) then (match s.getF (CG_CFG.RATE g) with | 0 => 48000 | 1 => 96000 | _ => 192000)
  else match s.getF (CG_STAT.RATECLS g) with
    | 1 => 32000 | 2 => 44100 | 3 => 48000 | 4 => 88200 | 5 => 96000 | 6 => 176400 | 7 => 192000 | _ => 0

/-- Rate of a group in units of 1/64 Hz for the ratio check of R362: the class's, else the measured one; 0 where none is
reported yet. -/
def rate64 (g : Nat) (s : State) : Nat := if nominalHz g s = 0 then s.getF (CG_RATE.FREQ g) else nominalHz g s * 64

/-- The ratio of R362 between a group's frame rate and the internal rate lies within 0.25 to 6: internal rate ÷ frame rate, in
either direction, since R390 gives an accepted Converted output at the limit 392 Ts, which is 2 Ts and 65 frames of 6 Ts
(DEDUCED, log entry 159). -/
def ratioOk (r64 : Nat) (s : State) : Bool :=
  let f := s.fs * 64
  r64 ≤ 4 * f && f ≤ 6 * r64

/-! ### ASRC pool (R359, R360) -/

/-- ASRC channels in use by ports and streams. -/
def State.asrcUse (s : State) : Nat :=
  s.sp.ports.foldl (fun a p => a + p.2.asrcIn + p.2.asrcOut) 0 + s.net.asrc

/-- `SP_STAT.ASRCLOCK`: the port holds ASRC channels and all are locked (R364). -/
def showLock (p : Nat) (s : State) : State :=
  let u := s.port p
  let has := 0 < u.asrcIn + u.asrcOut
  s.setF (SP_STAT.ASRCLOCK p) (b2n (has && (u.asrcIn = 0 || u.lockIn) && (u.asrcOut = 0 || u.lockOut)))

/-! ### Configuration (R386, R388) -/

/-- An SP_CFG message (R354). -/
def spCfg (n : Nat) (s : State) : State := raise 0x30 0 n s

/-- A direction of the port is not STOPPED (R370, R388). -/
def portBusy (p : Nat) (s : State) : Bool := s.istate p ≠ 0 || s.ostate p ≠ 0

/-- A map of `n` channels names distinct slots below `slots`. -/
def mapOk (slots : List Nat) (n lim : Nat) : Bool :=
  let l := slots.take n
  l.all (· < lim) && decide l.Nodup

/-- The data width of an `SP_CFG` word is no reserved code and fits its group's slots (R355, R388). -/
def widthOk (cfg : Nat) (s : State) : Bool :=
  bits cfg 26 2 ≠ 3 && widthOf (bits cfg 26 2) ≤ widthOf (s.getF (CG_CFG.SLOTW (bits cfg 28 4)))

/-- A channel count is within the rate's limit and the slots of group `g`, and its map entries name distinct slots (R350, R388). -/
def countOk (g n : Nat) (map : List Nat) (s : State) : Bool :=
  let slots := s.getF (CG_CFG.SLOTS g)
  n ≤ min slots (spChans s) && mapOk map n slots

/-- The shape of a port configuration fits its group and the rate (R350, R355, R388). -/
def portShape (cfg nch : Nat) (inMap outMap : List Nat) (s : State) : Bool :=
  widthOk cfg s && countOk (bits cfg 28 4) (bits nch 0 6) inMap s && countOk (bits cfg 28 4) (bits nch 8 6) outMap s

/-- A Locked port's group has the internal rate as a master, or is a slave with SYNC that reports the internal rate, or no rate yet
(R356, R89). -/
def lockedOk (cfg : Nat) (s : State) : Bool :=
  let g := bits cfg 28 4
  bitOf cfg 25 || decide (nominalHz g s = s.fs) && (s.flag (CG_CFG.DIR g) || s.flag (CG_CFG.SYNC g))
    || !s.flag (CG_CFG.DIR g) && s.flag (CG_CFG.SYNC g) && decide (rate64 g s = 0)

/-- Slots named by eight map words. -/
def mapWords (ws : List Word) : List Nat := ws.flatMap fun w => (List.range 4).map fun c => bits w.toNat (8 * c) 5

/-- The map words of port `p` as they stand. -/
def State.mapRegs (s : State) (out : Bool) (p : Nat) : List Word :=
  (List.range 8).map fun k => s.reg (0x50020 + p * 0x100 + (if out then 0x20 else 0) + 4 * k)

/-- Status of a port configuration by PORT_CFG: BUSY unless both directions are STOPPED, BADARG where it breaks a rule, else OK
(R388). -/
def portCheck (p cfg nch : Nat) (inMap outMap : List Word) (s : State) : Nat :=
  if portBusy p s then 5
  else if !portShape cfg nch (mapWords inMap) (mapWords outMap) s || !lockedOk cfg s then 3 else 0

/-- Status of a write of `SP_CFG`, `SP_NCH` or a map register at offset `off`, which is judged by what it writes alone: the width
and mode of `SP_CFG`; the counts of `SP_NCH` with the map entries that they use; the used entries of the direction whose map is
written (R388). -/
def portCfgStatus (p off v : Nat) (s : State) : Nat :=
  let g := s.cgOf p
  let rep := fun (base : Nat) (l : List Word) => if base ≤ off ∧ off < base + 0x20 then setNth l ((off - base) / 4) (wd (v &&& 0x1F1F1F1F)) else l
  let im := mapWords (rep 0x20 (s.mapRegs false p))
  let om := mapWords (rep 0x40 (s.mapRegs true p))
  if portBusy p s then 5
  else if off = 0 then (if widthOk v s && lockedOk v s then 0 else 3)
  else if off = 0x14 then (if countOk g (bits v 0 6) im s && countOk g (bits v 8 6) om s then 0 else 3)
  else if off < 0x40 then (if mapOk im (s.getF (SP_NCH.NIN p)) (s.getF (CG_CFG.SLOTS g)) then 0 else 3)
  else if mapOk om (s.getF (SP_NCH.NOUT p)) (s.getF (CG_CFG.SLOTS g)) then 0 else 3

/-- A write of `SP_CFG`, `SP_NCH` or a map register: discarded whole with an SP_CFG message where it is refused (R388). -/
def writePortCfg (p off v : Nat) (s : State) : State :=
  if portCfgStatus p off v s = 0 then
    s.setReg (0x50000 + p * 0x100 + off) (wd (v &&& (if off = 0 then 0xFF800000 else if off = 0x14 then 0x3F3F else 0x1F1F1F1F)))
  else spCfg p s

/-- BCLK divider of a master configuration: none where it is no integer (R344). -/
def masterDiv (rate slots sw : Nat) : Bool :=
  let hz := match rate with | 0 => 48000 | 1 => 96000 | _ => 192000
  0 < slots * sw && 49152000 % (hz * slots * sw) = 0 && hz * slots * sw ≤ 49152000

/-- A group configuration that sets ENABLE is valid (R386). -/
def cgValid (w : Nat) : Bool :=
  let fmt := bits w 25 2
  let slots := bits w 19 6
  let sw := bits w 17 2
  let master := bitOf w 30
  bits w 27 2 ≠ 3 && fmt ≠ 3 && sw ≠ 3 && 2 ≤ slots && slots ≤ 32
    && (fmt = 2 || (slots = 2 && !bitOf w 16 && !bitOf w 15)) && !(master && bitOf w 29)
    && (!master || masterDiv (bits w 27 2) slots (widthOf sw))

/-- A port that names group `g` has a started direction (R370). -/
def groupUsed (g : Nat) (s : State) : Bool := (List.range 64).any fun p => portBusy p s && s.cgOf p = g

/-- Status of a write of `CG_CFGg` with word `w` (R370, R386): with the balls it would claim. -/
def cgCheck (g w : Nat) (s : State) : Nat :=
  let old := (s.reg (0x54000 + 0x20 * g)).toNat
  let en := bitOf old 31
  if en ∧ bitOf w 31 then (if w = old then 0 else 3)
  else if en then (if groupUsed g s then 5 else 0)
  else if bitOf w 31 then
    (if !cgValid w then 3
     else if !bankOn (128 + g) s || !bankOn (144 + g) s then 3
     else if (s.pinClaim (128 + g)).isSome || (s.pinClaim (144 + g)).isSome then 6 else 0)
  else 0

/-- Class of a measured rate in 1/64 Hz: the nominal rate within 1,000 ppm, 0 for none (R347, R387). -/
def rateClass (f64 : Nat) : Nat :=
  let near := fun (hz : Nat) => decide (((f64 : Int) - hz * 64).natAbs * 1000 ≤ hz * 64)
  if near 32000 then 1 else if near 44100 then 2 else if near 48000 then 3 else if near 88200 then 4
  else if near 96000 then 5 else if near 176400 then 6 else if near 192000 then 7 else 0

/-- A checked word of `CG_CFGg` applies (R370, R347): enabling claims the group's balls, a master shows its nominal rate; a
disable frees the balls and clears what the group reports. -/
def cgApply (g w : Nat) (s : State) : State :=
  let was := s.flag (CG_CFG.ENABLE g)
  let s := s.setReg (0x54000 + 0x20 * g) (wd w)
  if !was ∧ bitOf w 31 then
    let s := (claimPins [128 + g, 144 + g] ⟨2, g⟩ s).2
    let s := onGroup g (fun _ => GroupU.reset) s
    let s := s.setF (CG_STAT.RATECHG g) 0
    if bitOf w 30 then
      let f := nominalHz g s * 64
      let s := ((s.setF (CG_STAT.PRESENT g) 1).setF (CG_STAT.RATECLS g) (rateClass f)).setF (CG_RATE.FREQ g) f
      onGroup g (fun u => { u with ref := f }) s
    else s
  else if was ∧ !bitOf w 31 then
    let s := releasePin (144 + g) (releasePin (128 + g) s)
    let s := ((s.setF (CG_STAT.PRESENT g) 0).setF (CG_STAT.RATECLS g) 0).setF (CG_RATE.FREQ g) 0
    onGroup g (fun _ => GroupU.reset) s
  else s

/-- A refused group configuration: a CLAIM message for a claimed ball, else SP_CFG with 0x80 + g (R16, R386). -/
def cgRefused (g st : Nat) (s : State) : State :=
  if st = 6 then raise 0x02 0 (if (s.pinClaim (128 + g)).isSome then 128 + g else 144 + g) s else spCfg (0x80 + g) s

/-- A register write of `CG_CFGg` (R386). -/
def writeCg (g v : Nat) (s : State) : State :=
  let w := v &&& 0xFFFFE000
  let st := cgCheck g w s
  if st = 0 then cgApply g w s else cgRefused g st s

/-- The reference value of R348 is taken again when RATECHG is cleared. -/
def clearRatechg (g : Nat) (s : State) : State := onGroup g (fun u => { u with ref := s.getF (CG_RATE.FREQ g) }) (s.setF (CG_STAT.RATECHG g) 0)

/-! ### Masks (R352 to R354) -/

/-- A write of a slot mask: refused above SLOTS or while the group is disabled; else shadowed until the next frame start, or the
one after it where the write completes within 4 BCLK periods of it (`late`). -/
def writeMask (p : Nat) (out late : Bool) (v : Nat) (s : State) : State :=
  let g := s.cgOf p
  if !s.flag (CG_CFG.ENABLE g) ∨ 2 ^ s.getF (CG_CFG.SLOTS g) ≤ v then spCfg p s
  else if out then
    let s := (s.setF (SP_MASK_OUT.MASK p) v).setF (SP_STAT.MASKPEND_OUT p) 1
    onPort p (fun u => if late then { u with lateOut := some v } else { u with pendOut := some v }) s
  else
    let s := (s.setF (SP_MASK_IN.MASK p) v).setF (SP_STAT.MASKPEND_IN p) 1
    onPort p (fun u => if late then { u with lateIn := some v } else { u with pendIn := some v }) s

/-! ### Starts and stops (R368, R369, R373) -/

/-- Channels of a direction. -/
def State.nchan (s : State) (out : Bool) (p : Nat) : Nat := if out then s.getF (SP_NCH.NOUT p) else s.getF (SP_NCH.NIN p)

/-- The direction's enable once every accepted command has acted. -/
def State.dirEn (s : State) (out : Bool) (p : Nat) : Bool := if out then s.flag (SP_CTRL.OUT_EN p) else s.flag (SP_CTRL.IN_EN p)

/-- Channels of started serial directions. -/
def serialChans (out : Bool) (s : State) : Nat :=
  (List.range 64).foldl (fun a p => if (if out then s.ostate p else s.istate p) ≠ 0 then a + s.nchan out p else a) 0

/-- Port channels enabled in a direction: serial ports and stream contexts (R4). -/
def portChans (out : Bool) (s : State) : Nat :=
  s.net.ctx.foldl (fun a x =>
    if x.2.st ≠ 0 ∧ decide (x.1 < s.getF NET_SPART.RXCOUNT) = !out then a + bits (nAt x.2.words 0) 15 7 else a) (serialChans out s)

/-- Status with which a start of a direction is refused at this moment, 0 for none (R356, R362, R369, R90). -/
def startCheck (p : Nat) (out : Bool) (s : State) : Nat :=
  let g := s.cgOf p
  let cfg := (s.reg (0x50000 + p * 0x100)).toNat
  let ball := if out then 64 + p else p
  if !s.flag (CG_CFG.ENABLE g) then 3
  else if !portShape cfg (s.reg (0x50014 + p * 0x100)).toNat (mapWords (s.mapRegs false p)) (mapWords (s.mapRegs true p)) s then 3
  else if !s.converted p && !(lockedOk cfg s && nominalHz g s = s.fs) then 3
  else if s.converted p && rate64 g s ≠ 0 && !ratioOk (rate64 g s) s then 3
  else if (out || s.getF (SP_CFG.INSRC p) = 0) && !bankOn ball s then 3
  else if (out || s.getF (SP_CFG.INSRC p) = 0) && (s.pinClaim ball).isSome then 6
  else if 4096 < portChans out s + s.nchan out p then 3
  else if s.converted p && 1024 < s.asrcUse + s.nchan out p then 7
  else 0

/-- Concealment key of input channel `ch` of port `p`. -/
def spKey (p ch : Nat) : Nat := 0x2000 + 32 * p + ch

/-- Concealment key of the frames of the same channel at the pins, which the capture ring copies (R378). -/
def spPinKey (p ch : Nat) : Nat := 0x40000 + 32 * p + ch

/-- Mark of a frame's channel beside its BSW flags: the source supplied the sample (R83). -/
def srcValid : Nat := 64

/-- Mark of a frame's channel on a Converted port: the ratio was out of the range of R362 when the frame arrived. -/
def outOfRange : Nat := 128

/-- ASRC_UNLOCKED while the input of Converted port `p` has no lock (R73, R91). -/
def unlockedFlag (p : Nat) (s : State) : Nat := if s.converted p && !(s.port p).lockIn then bswUNLOCKED else 0

/-- The input is LOST, or its ratio is out of the range of R362. -/
def sourceLost (p : Nat) (s : State) : Bool := s.istate p = 3 || (s.converted p && (s.port p).badIn)

/-- Flags of an input's sample, whatever its slot's mask: those of its port's source and ASRC, and UNSETTLED before the first valid
frame (`st` = 1) (R72, R73). -/
def portFlags (p st : Nat) (s : State) : Nat :=
  unlockedFlag p s + (if st = 3 ∨ sourceLost p s then bswLOST else 0) + (if st = 1 then bswUNSETTLED else 0)

/-- A frame that an input lacks in state `st`, as its block will take it: by channel muted silence in an inactive slot, unsettled
zeros before the first valid frame, else a sample to be concealed (R351, R371, R376). -/
def missingFrame (p st : Nat) (s : State) : PFrame :=
  (List.range (s.nchan false p)).map fun c =>
    (0, portFlags p st s + (if !bitOf (s.port p).maskIn (s.mapSlot false p c) then bswMUTED else if st = 1 then 0 else bswCONCEALED))

/-- The frames of a Locked slave start between the instants of the internal grid: its φ of R357, shown in `SP_LAT`, is not 0. -/
def offGrid (p : Nat) (s : State) : Bool :=
  !s.converted p && !s.flag (CG_CFG.DIR (s.cgOf p)) && decide (128 < s.getF (SP_LAT.IN p))

/-- Samples by which an input's blocks follow its frames: the 2 Ts of R365, and the 64 Ts of R361 for a Converted one. The first frame
after a boundary starts 1 Ts − φ later where φ is not 0, and its sample is the fourth of the block (R357). -/
def inLead (p : Nat) (s : State) : Nat := if s.converted p then 66 else if offGrid p s then 3 else 2

/-- Zero frames that an output sends between the boundary that releases its first block and that block's first frame: 2 Ts, or 2 Ts − φ,
of which one frame start remains where φ is not 0 (R365), and the 64 port frames of R361 for a Converted one, where the part of a frame
rounds up (DESIGN CHOICE, log entry 160). -/
def outLeadOf (p : Nat) (s : State) : Nat :=
  if s.converted p then (let r := rate64 (s.cgOf p) s; 64 + (if r = 0 then 2 else ceilDiv (2 * r) (s.fs * 64)))
  else if offGrid p s then 1 else 2

/-- Enable bit of a direction. -/
def dirField (out : Bool) (p : Nat) : Fld := if out then SP_CTRL.OUT_EN p else SP_CTRL.IN_EN p

/-- Latency registers of a port that starts (R357, R361, R365), in units of Ts ÷ 64: `phi` is the offset of a slave's frame
start, or the sub-sample part of an ASRC's group delay. -/
def showLat (p phi : Nat) (s : State) : State :=
  let g := s.cgOf p
  let phi := phi % 65
  let (i, o) :=
    if s.converted p then
      let r := rate64 g s
      (128 + 4096 + phi, if r = 0 then 128 + 4096 + phi else 128 + (rndDiv ((4096 + phi) * s.fs * 64 : Nat) r).toNat)
    else if s.flag (CG_CFG.DIR g) then (128, 128) else (128 + phi % 64, 128 - phi % 64)
  (s.setF (SP_LAT.IN p) i).setF (SP_LAT.OUT p) o

/-- The released frames of port `p` at this boundary: N frames, each with one sample per output channel (R28, R372). -/
def releaseFrames (p : Nat) (s : State) : List (List Word) :=
  let chans := (List.range (s.nchan true p)).map fun c => (releasedBlk (0x3000 + 32 * p + c) s).samples
  (List.range s.n).map fun i => chans.map fun l => l.getD i 0

/-- The last `k` frames of a queue, with frames `z` before them where it holds fewer: the centre of an elastic buffer at a boundary,
`k` being the port's lead (R357, R365). -/
def lastFrames {α : Type} (k : Nat) (z : α) (q : List α) : List α := List.replicate (k - q.length) z ++ q.drop (q.length - k)

/-- Every channel's released samples enter the queue of port `p`, behind its lead of zeros where they are the first since its start
(R365, R372). The queue is centred at the first release after a return or a pause, and at each while the group is lost: what is older
has passed unsent (R377). A Converted port keeps only that samples run. -/
def portRelease (p : Nat) (s : State) : State :=
  if s.ostate p = 0 then s
  else if !releases s then onPort p (fun u => { u with centreOut := !s.converted p, outOn := u.outOn && !s.converted p }) s
  else
    let lost := (s.group (s.cgOf p)).lost
    onPort p (fun u =>
      let centre := (u.centreOut || lost) && u.outOn && !s.converted p
      { u with
        outq := if s.converted p then []
          else (if centre then lastFrames (outLeadOf p s) (List.replicate (s.nchan true p) 0) u.outq else u.outq) ++ releaseFrames p s,
        outLead := if centre then 0 else if u.outOn then u.outLead else outLeadOf p s,
        centreOut := lost && !s.converted p, outOn := true }) s

/-- A direction starts at its boundary (R359, R369, R371, R372): claims, ASRC channels, state STARTING; or it is refused, its
enable reads back 0, and nothing else changes. -/
def startDir (p : Nat) (out : Bool) (phi : Nat) (s : State) : State :=
  let ball := if out then 64 + p else p
  if (if out then s.ostate p else s.istate p) ≠ 0 then s else
  let st := startCheck p out s
  if st ≠ 0 then
    let s := s.setF (dirField out p) 0
    if st = 6 then raise 0x02 0 ball s else s
  else
    let s := s.setF (dirField out p) 1
    let s := if out ∨ s.getF (SP_CFG.INSRC p) = 0 then (claimPin ball ⟨1, p⟩ s).2 else s
    let n := s.nchan out p
    let asrc := if s.converted p then n else 0
    let master := s.flag (CG_CFG.DIR (s.cgOf p))
    let fresh := s.istate p = 0 ∧ s.ostate p = 0
    let s := if fresh then (onPort p (fun u => { u with blk := [], blkN := 0 }) s).setF (SP_BSEQ.COUNT p) 0 else s
    let s := showLat p phi s
    if out then
      let s := s.setF (SP_STAT.OSTATE p) 1
      let s := onPort p (fun u => { u with
        asrcOut := asrc, lockOut := master, badOut := false, centreOut := false, outq := [], outLead := outLeadOf p s, outOn := false, outLast := [] }) s
      showLock p (portRelease p s)
    else
      let s := s.setF (SP_STAT.ISTATE p) 1
      let s := s.onCs fun u => { u with
        conceal := smKeep (fun k => !(spKey p 0 ≤ k ∧ k < spKey p 32) && !(spPinKey p 0 ≤ k ∧ k < spPinKey p 32)) u.conceal }
      let s := onPort p (fun u => { u with
        asrcIn := asrc, lockIn := master, badIn := false, centreIn := false, prevGood := false, cvq := [], gap := some (0, 1) }) s
      let lead := List.replicate (inLead p s) (missingFrame p 1 s)
      showLock p (onPort p (fun u => { u with inq := lead }) s)

/-- A direction stops at its boundary (R373): claims and ASRC channels return; SDOp goes to its idle state. -/
def stopDir (p : Nat) (out : Bool) (s : State) : State :=
  let s := s.setF (dirField out p) (b2n ((s.port p).reqs.any fun x => x.out = out && x.start))
  if out then
    if s.ostate p = 0 then s else
    let s := (s.setF (SP_STAT.OSTATE p) 0)
    let s := releasePin (64 + p) (onPort p (fun u => { u with asrcOut := 0, lockOut := false, outq := [], outLead := 0 }) s)
    showLock p (s.out (.slots p [if s.flag (SP_CFG.IDLEZ p) ∨ s.hiZ then none else some 0]))
  else
    if s.istate p = 0 then s else
    let s := s.setF (SP_STAT.ISTATE p) 0
    showLock p (releasePin p (onPort p (fun u => { u with asrcIn := 0, lockIn := false, inq := [], cvq := [], ply := none }) s))

/-- Requests of port `p` that are due at the running shot act in order of acceptance, those that start or those that stop
(R368). -/
def actPort (p : Nat) (start : Bool) (phi : Nat) (s : State) : State :=
  let due := fun (x : Sched) => x.start = start && (match x.shot with | some n => decide (n ≤ s.shot) | none => false)
  let l := (s.port p).reqs
  let s := onPort p (fun u => { u with reqs := l.filter fun x => !due x }) s
  (l.filter due).foldl (fun s x => if start then startDir p x.out phi s else stopDir p x.out s) s

/-! ### Playback and capture (R378 to R384) -/

/-- A sample of a playback record (R379). -/
def plySample (pack : Nat) (l : List Byte) (i : Nat) : Word :=
  let b := fun k => (l.getD k 0).toNat
  match pack with
  | 1 => wd ((b (3 * i) + 256 * b (3 * i + 1) + 65536 * b (3 * i + 2)) * 256)
  | 3 => wd ((b (4 * i) + 256 * b (4 * i + 1) + 65536 * b (4 * i + 2)) * 256)
  | k =>
    let w := b (4 * i) + 256 * b (4 * i + 1) + 65536 * b (4 * i + 2) + 16777216 * b (4 * i + 3)
    wd (if k = 2 then w / 256 * 256 else w)

/-- Frames of a playback record: N frames of its channels. -/
def plyFrames (r : PlyRec) (p : Nat) (s : State) : List (List Word) :=
  let pack := s.getF (SP_PLY_CFG.PACK p)
  (List.range s.n).map fun f => (List.range (s.nchan false p)).map fun c => if c < r.nch then plySample pack r.data (f * r.nch + c) else 0

/-- Records between the pointers of the playback ring. -/
def plyCount (p : Nat) (s : State) : Nat :=
  let l := (s.port p).plyLen
  (s.getF (SP_PLY_WPTR.PTR p) + l - s.getF (SP_PLY_RPTR.PTR p)) % l

/-- The playback ring for due block `due`, with the records from the read pointer on (R381, R382). -/
def playNext (p due : Nat) : List PlyRec → Nat → State → State
  | recs, fuel, s =>
    match fuel, recs with
    | fuel + 1, r :: t =>
      if plyCount p s = 0 then (onPort p (fun u => { u with ply := none }) s).incF (SP_DMAERR.UNDER p) 1
      else
        let next := fun (s : State) => s.setF (SP_PLY_RPTR.PTR p) ((s.getF (SP_PLY_RPTR.PTR p) + 1) % (s.port p).plyLen)
        if r.bseq = due then next (onPort p (fun u => { u with ply := some (plyFrames r p s) }) s)
        else if r.bseq < due then playNext p due t fuel ((next s).incF (SP_DMALATE.COUNT p) 1)
        else (onPort p (fun u => { u with ply := none }) s).incF (SP_DMAERR.UNDER p) 1
    | _, _ => (onPort p (fun u => { u with ply := none }) s).incF (SP_DMAERR.UNDER p) 1

/-- The playback record of due block `due` is taken up where the ring runs and feeds a started input (R381). -/
def playBlock (p due : Nat) (recs : List PlyRec) (s : State) : State :=
  if s.flag (SP_CFG.INSRC p) ∧ s.istate p ≠ 0 then
    playNext p due (if (s.port p).plyOn ∧ s.flag CMD_STAT.LINKUP then recs else []) 4096 s
  else s

/-- The bytes of a captured sample (R379). -/
def capSample (pack : Nat) (x : Word) : List Byte :=
  let y := narrowSlot 24 x
  match pack with
  | 0 => leBytes x.toNat 4
  | 1 => leBytes y 3
  | 2 => leBytes (y * 256) 4
  | _ => leBytes (lowBits 32 (sgn 24 y)) 4

/-- BSW flags of channel `c` of a block made of the frames `fr`: each flag of any frame, MUTED where all are muted. -/
def blkFlags (fr : List PFrame) (c : Nat) : Nat :=
  let xs := fr.map fun f => (f.getD c (0, bswMUTED)).2
  xs.foldl (fun a x => a ||| (x &&& (63 - bswMUTED))) 0 + (if xs.all fun x => bitOf x 1 then bswMUTED else 0)

/-- The record of a port block (R378): header, frames, padding to a multiple of 64 bytes. -/
def capRecord (p : Nat) (frames : List PFrame) (s : State) : List Byte :=
  let u := s.port p
  let pack := s.getF (SP_CAP_CFG.PACK p)
  let flags := (List.range (s.nchan false p)).foldl (fun a c => a ||| blkFlags frames c) 0
  let head := leBytes u.tsNs 4 ++ leBytes u.tsSec 6 ++ leBytes 0 2 ++ leBytes (s.getF (SP_BSEQ.COUNT p)) 4 ++ leBytes flags 4
    ++ leBytes (s.nchan false p) 4 ++ leBytes 0 8
  let body := head ++ frames.flatMap fun f => f.flatMap fun c => capSample pack c.1
  body ++ List.replicate ((64 - body.length % 64) % 64) (0 : Byte)

/-- The capture ring takes the record of a port block, or drops it (R380, R383). -/
def captureBlock (p : Nat) (frames : List PFrame) (s : State) : State :=
  if !(s.port p).capOn ∨ s.istate p = 0 then s else
  let u := s.port p
  let w := s.getF (SP_CAP_WPTR.PTR p)
  let w' := if w + 1 < u.capLen then w + 1 else 0
  if w' = s.getF (SP_CAP_RPTR.PTR p) ∨ !s.flag CMD_STAT.LINKUP then s.incF (SP_DMAERR.OVER p) 1
  else
    let rec_ := capRecord p frames s
    let base := s.getF (SP_CAP_BASE_LO.ADDR p) * 64 + s.getF (SP_CAP_BASE_HI.ADDR p) * 2 ^ 32
    let sats := if s.getF (SP_CAP_CFG.PACK p) = 0 then 0
      else frames.foldl (fun a f => f.foldl (fun a c => a + b2n (narrowSat 24 c.1)) a) 0
    let s := (s.out (.hostBytes (base + w * rec_.length) rec_)).incF (SP_SATCNT.COUNT p) sats
    let s := s.setF (SP_CAP_WPTR.PTR p) w'
    match u.capNew, w' with
    | some l, 0 =>
      let s := onPort p (fun u => { u with capLen := l, capNew := none }) s
      (s.setF (SP_CAP_RPTR.PTR p) (s.getF (SP_CAP_RPTR.PTR p) % l)).setF (SP_DMA_STAT.LENPEND_CAP p) 0
    | _, _ => s

/-- PORT_BLOCK: a port block of `p` completes and is timestamped (R367); its capture record is due, and the playback record of
the next block, from the records that stand from the read pointer on. -/
def portBlock (p : Nat) (recs : List PlyRec) (s : State) : State :=
  let u := s.port p
  if (s.istate p = 0 ∧ s.ostate p = 0) ∨ u.blkN < s.n then s else
  let s := s.setF (SP_TS0.NS p) u.tsNs
  let s := onPort p (fun v => { v with lastSec := v.tsSec }) s
  let s := captureBlock p (u.blk.take s.n) s
  let s := s.incW (SP_BSEQ.COUNT p) 1
  let s := onPort p (fun v => { v with blk := v.blk.drop s.n, blkN := v.blkN - s.n }) s
  playBlock p (s.getF (SP_BSEQ.COUNT p)) recs s

/-- PORT_BLOCK (R367). -/
def execPortBlock (p : Nat) (recs : List PlyRec) (s : State) : Host.Outcome State Fault Refusal :=
  finish (if p < 64 then portBlock p recs s else s)

/-- PORT_START_ACT: scheduled starts of port `p` act at their boundary (R369); `phi` is the phase or sub-sample part of R365 in
units of Ts ÷ 64, and `recs` the playback records of the first block. -/
def execPortStartAct (p phi : Nat) (recs : List PlyRec) (s : State) : Host.Outcome State Fault Refusal :=
  finish <|
    if p < 64 then
      let was := s.istate p
      let s := actPort p true phi s
      if was = 0 ∧ s.istate p = 1 then playBlock p (s.getF (SP_BSEQ.COUNT p)) recs s else s
    else s

/-- PORT_STOP_ACT: scheduled stops of port `p` act at their boundary (R373). -/
def execPortStopAct (p : Nat) (s : State) : Host.Outcome State Fault Refusal :=
  finish (if p < 64 then actPort p false 0 s else s)

/-- Every started direction of every port stops and pending commands are dropped (R761). -/
def stopPorts (s : State) : State :=
  (List.range 64).foldl (fun s p => onPort p (fun u => { u with reqs := [] }) (stopDir p true (stopDir p false s))) s

/-! ### Frames (R342 to R358, R371, R372) -/

/-- A shadowed mask applies at a frame start (R352). -/
def applyMasks (p : Nat) (s : State) : State :=
  let s := onPort p (fun u => { u with
    maskIn := u.pendIn.getD u.maskIn, pendIn := u.lateIn, lateIn := none,
    maskOut := u.pendOut.getD u.maskOut, pendOut := u.lateOut, lateOut := none }) s
  let u := s.port p
  (s.setF (SP_STAT.MASKPEND_IN p) (b2n u.pendIn.isSome)).setF (SP_STAT.MASKPEND_OUT p) (b2n u.pendOut.isSome)

/-- Sample of input channel `c` in a frame at the pins (R351, R353, R355, R371, R376, R381), with its flags and, where the source
supplied it, `srcValid`: 0 with MUTED where its slot is masked; by state, zero, the received sample or a concealment value. The first
frame of a newly enabled slot carries UNSETTLED, whatever it holds (R73). -/
def inSample (p c oldMask : Nat) (good : Bool) (slots : List Nat) (s : State) : (Word × Nat) × State :=
  let slot := s.mapSlot false p c
  let u := s.port p
  let flags := portFlags p (s.istate p) s
  if !bitOf u.maskIn slot then ((0, bswMUTED + flags), s)
  else if s.istate p = 1 then ((0, flags), s)
  else
    let flags := flags + (if bitOf oldMask slot then 0 else bswUNSETTLED)
    let away := !good || decide (s.istate p = 3)
    let from_ : Option Word :=
      if away ∨ sourceLost p s then none
      else if s.flag (SP_CFG.INSRC p) then (match u.ply with | some (f :: _) => some (f.getD c 0) | _ => none)
      else
        let dw := widthOf (s.getF (SP_CFG.DATAW p))
        let sw := widthOf (s.getF (CG_CFG.SLOTW (s.cgOf p)))
        some (widenSlot dw (slots.getD slot 0 / 2 ^ (sw - dw)))
    match from_ with
    | some x => ((x, srcValid + flags), delivered (spPinKey p c) x s)
    | none =>
      let (l, s) := concealSamples (spPinKey p c) 1 s
      ((l.headD 0, bswCONCEALED + flags + (if !away && sourceLost p s then outOfRange else 0)), s)

/-- The input side of port `p` in a frame: zeros with MUTED from an input that is stopped while the output runs (R371). -/
def frameIn (p oldMask : Nat) (good : Bool) (slots : List Nat) (s : State) : State :=
  if s.istate p = 0 then onPort p (fun u => { u with blk := u.blk ++ [List.replicate (s.nchan false p) (0, bswMUTED)] }) s else
  let master := s.flag (CG_CFG.DIR (s.cgOf p))
  let s := if s.istate p = 1 ∧ good ∧ (master ∨ (s.port p).prevGood) then s.setF (SP_STAT.ISTATE p) 2 else s
  let r := (List.range (s.nchan false p)).foldl (fun (acc : PFrame × State) c =>
    let (x, s) := inSample p c oldMask good slots acc.2; (acc.1 ++ [x], s)) ([], s)
  let f := r.1
  let s := r.2
  onPort p (fun u => { u with
    prevGood := good, blk := u.blk ++ [f], inq := if s.converted p then u.inq else u.inq ++ [f],
    cvq := if s.converted p then u.cvq ++ [f] else u.cvq,
    ply := match u.ply with | some (_ :: t) => some t | x => x }) s

/-- The code that an output slot carries: rounding, saturation and place of R355. -/
def outCode (p : Nat) (x : Word) (s : State) : Nat × Bool :=
  let dw := widthOf (s.getF (SP_CFG.DATAW p))
  let sw := widthOf (s.getF (CG_CFG.SLOTW (s.cgOf p)))
  (narrowSlot dw x * 2 ^ (sw - dw), narrowSat dw x)

/-- The output side of port `p` in a frame (R351, R353, R364, R365, R372, R377): zeros until the first released frame, then released
samples, which a lost group discards frame by frame; zeros from a Converted port out of ratio (R362); masked and unmapped slots idle. -/
def frameOut (p oldMask : Nat) (s : State) : State :=
  if s.ostate p = 0 then s else
  let u := s.port p
  let n := s.nchan true p
  let lost := (s.group (s.cgOf p)).lost
  let lead := !u.outOn || decide (0 < u.outLead)
  -- the frame's samples, and whether it is a released frame; an ASRC's saturation is counted (R364)
  let r : Option (List Word) × State :=
    if lead || lost then (none, s)
    else if s.converted p then
      (if u.badOut then (some (List.replicate n 0), s) else let (l, s) := freshN Config.asrcSample n s; (some l, s))
    else (u.outq.head?, s)
  let s := r.2
  let (clips, s) := if s.converted p && !lead && !lost && !u.badOut then freshN Config.asrcClip n s else ([], s)
  let s := onPort p (fun u => { u with
    outLead := if u.outOn then u.outLead - 1 else u.outLead,
    outq := if lead ∨ s.converted p then u.outq else u.outq.tail,
    outLast := r.1.getD u.outLast }) s
  let s := if r.1.isSome then s.setF (SP_STAT.OSTATE p) 2 else s
  let g := s.cgOf p
  let idle : Option Nat := if s.flag (SP_CFG.IDLEZ p) then none else some 0
  let mask := u.maskOut
  let word := fun (c : Nat) => match r.1 with
    | some l => if bitOf oldMask (s.mapSlot true p c) then outCode p (l.getD c 0) s else (0, false)
    | none => (0, false)
  let slots := (List.range (s.getF (CG_CFG.SLOTS g))).map fun sl =>
    match (List.range n).find? (fun c => s.mapSlot true p c = sl) with
    | some c => if bitOf mask sl then some (word c).1 else idle
    | none => idle
  let sats := (List.range n).foldl (fun a c =>
    if bitOf mask (s.mapSlot true p c) then a + b2n (word c).2 + b2n (clips.getD c false) else a) 0
  let s := s.incF (SP_SATCNT.COUNT p) sats
  s.out (.slots p (if s.hiZ then slots.map fun _ => none else slots))

/-- One frame of port `p`: a port block opens with it where none runs (R367). -/
def framePort (p : Nat) (good : Bool) (slots : List Nat) (s : State) : State :=
  let oldIn := (s.port p).maskIn
  let oldOut := (s.port p).maskOut
  let s := applyMasks p s
  let s := if good then s else s.incF (SP_ERR.FRAMEERR p) 1
  let s := onPort p (fun u => { u with
    tsSec := if u.blkN = 0 then s.ptp.sec else u.tsSec, tsNs := if u.blkN = 0 then s.ptp.ns else u.tsNs, blkN := u.blkN + 1 }) s
  frameOut p oldOut (frameIn p oldIn good slots s)

/-- A Locked slave port slips one frame (R358): fast drops a frame, slow repeats the last; the block that holds it carries
CONCEALED. -/
def slipPort (x : Slip) (s : State) : State :=
  let p := x.port
  let st := if x.out then s.ostate p else s.istate p
  if 64 ≤ p ∨ st = 0 ∨ s.converted p ∨ s.flag (CG_CFG.DIR (s.cgOf p)) then s else
  let mark := fun (f : PFrame) => f.map fun c => (c.1, c.2 ||| bswCONCEALED)
  let s := if x.out then
      onPort p (fun u => { u with outq := if x.fast then u.outq.tail else u.outLast :: u.outq }) s
    else
      onPort p (fun u =>
        let init := u.inq.dropLast
        let last := u.inq.getLastD []
        { u with inq := if x.fast then (match init.reverse with | [] => [] | y :: t => (mark y :: t).reverse)
                        else u.inq ++ [mark last] }) s
  raise 0x31 0 p (s.incF (SP_ERR.SLIP p) 1)

/-- A frame of a Converted port whose ratio was out of range: 16 consecutive frames in range end that, per direction (R362). -/
def rangeFrame (p : Nat) (s : State) : State :=
  let r := s.getF (CG_RATE.FREQ (s.cgOf p))
  let ok := ratioOk r s
  onPort p (fun u =>
    let gi := if u.badIn && ok then u.goodIn + 1 else 0
    let go := if u.badOut && ok then u.goodOut + 1 else 0
    { u with goodIn := min 16 gi, goodOut := min 16 go, badIn := u.badIn && decide (gi < 16), badOut := u.badOut && decide (go < 16) }) s

/-- A frame starts on group `g`: `bclks` BCLK periods since the last frame start, with what the data pins carried (R342,
R346). -/
def serialFrame (g bclks : Nat) (data : List PortSlots) (slips : List Slip) (s : State) : State :=
  if !s.flag (CG_CFG.ENABLE g) then s else
  let good := s.flag (CG_CFG.DIR g) ∨ bclks = s.getF (CG_CFG.SLOTS g) * widthOf (s.getF (CG_CFG.SLOTW g))
  let s := onGroup g (fun u => { u with bad := if good then 0 else min 2 (u.bad + 1), good := if good then min 16 (u.good + 1) else 0 }) s
  let s := if (s.group g).lost then s else s.setF (CG_STAT.PRESENT g) 1
  let s := (List.range 64).foldl (fun s p =>
    if s.cgOf p = g then
      if s.istate p ≠ 0 ∨ s.ostate p ≠ 0 then
        let slots := ((data.find? (fun x => x.port = p)).map (·.slots)).getD []
        rangeFrame p (framePort p good slots s)
      else applyMasks p s
    else s) s
  slips.foldl (fun s x => if s.cgOf x.port = g then slipPort x s else s) s

/-- SERIAL_FRAME (R342). -/
def execSerialFrame (g bclks : Nat) (data : List PortSlots) (slips : List Slip) (s : State) : Host.Outcome State Fault Refusal :=
  finish (if g < 16 then serialFrame g bclks data slips s else s)

/-! ### Loss and return (R375 to R377) -/

/-- The started inputs of group `g` are lost: by two framing errors in succession, or by silence. The frames that a running input misses
lie behind those it has received since the last boundary (R376). -/
def loseGroup (g : Nat) (s : State) : State :=
  let s := s.setF (CG_STAT.PRESENT g) 0
  let s := onGroup g (fun u => { u with lost := true, good := if u.lost then u.good else 0 }) s
  (List.range 64).foldl (fun s p =>
    if s.cgOf p = g then
      let s := if s.istate p = 2 then
          onPort p (fun u => { u with gap := some (if s.converted p then u.cvq.length else u.inq.length, 3) }) s
        else s
      if s.istate p = 1 ∨ s.istate p = 2 then
        showLock p (raise 0x32 0 p (onPort p (fun u => { u with lockIn := false }) (s.setF (SP_STAT.ISTATE p) 3)))
      else s
    else s) s

/-- SP_LOST: slave group `g` meets the loss criterion of R375; `silent` where no FSYNC edge has arrived for its time. A direction that
starts on a group already lost is lost with it. -/
def execSpLost (g : Nat) (silent : Bool) (s : State) : Host.Outcome State Fault Refusal :=
  finish <|
    if g < 16 ∧ s.flag (CG_CFG.ENABLE g) ∧ !s.flag (CG_CFG.DIR g) ∧ (silent ∨ 2 ≤ (s.group g).bad) then loseGroup g s
    else s

/-- SP_RETURN: after 16 correctly framed frames the lost inputs of group `g` return to RUNNING, their buffers centred again
(R376). -/
def execSpReturn (g : Nat) (s : State) : Host.Outcome State Fault Refusal :=
  finish <|
    if g < 16 ∧ (s.group g).lost ∧ 16 ≤ (s.group g).good then
      let s := (onGroup g (fun u => { u with lost := false }) s).setF (CG_STAT.PRESENT g) 1
      (List.range 64).foldl (fun s p =>
        if s.cgOf p = g then
          let s := if s.istate p = 3 then onPort p (fun u => { u with centreIn := true }) (s.setF (SP_STAT.ISTATE p) 2) else s
          if s.ostate p ≠ 0 then onPort p (fun u => { u with centreOut := true }) s else s
        else s) s
    else s

/-! ### Rates and ASRC lock (R347, R348, R362, R363) -/

/-- RATECHG of group `g` sets: port interrupts and the RATE_CHANGE notification. -/
def ratechg (g : Nat) (s : State) : State :=
  let s := s.setF (CG_STAT.RATECHG g) 1
  let s := (List.range 64).foldl (fun s p =>
    if s.cgOf p = g ∧ (s.istate p ≠ 0 ∨ s.ostate p ≠ 0) ∧ s.flag (SP_CTRL.RATEIE p) then portIrq p s else s) s
  notify 0x8006 [g, (s.reg (0x54004 + 0x20 * g)).toNat, s.getF (CG_RATE.FREQ g)] s

/-- The change conditions of R348 are judged for group `g`. -/
def judgeRate (g oldCls : Nat) (s : State) : State :=
  let f := s.getF (CG_RATE.FREQ g)
  let ref := (s.group g).ref
  let dev := ((f : Int) - ref).natAbs
  if !s.flag (CG_STAT.RATECHG g) ∧ (s.getF (CG_STAT.RATECLS g) ≠ oldCls ∨ s.getF (CG_RATETOL.PPM g) * ref < dev * 1000000) then ratechg g s
  else s

/-- CG_RATE_UPDATE: enabled slave group `g` measures its frame rate, in 1/64 Hz (R347); directions of Converted ports
out of the ratio of R362 lose lock. -/
def execCgRateUpdate (g freq : Nat) (s : State) : Host.Outcome State Fault Refusal :=
  finish <|
    if g < 16 ∧ s.flag (CG_CFG.ENABLE g) ∧ !s.flag (CG_CFG.DIR g) then
      let oldCls := s.getF (CG_STAT.RATECLS g)
      let s := (s.setF (CG_RATE.FREQ g) (min freq 0xFFFFFF)).setF (CG_STAT.RATECLS g) (rateClass freq)
      let s := judgeRate g oldCls s
      let ok := ratioOk freq s
      (List.range 64).foldl (fun s p =>
        if s.cgOf p = g ∧ s.converted p then
          let s := if portBusy p s then showLat p (s.getF (SP_LAT.IN p) - 4224) s else s
          let s := if s.istate p ≠ 0 ∧ !ok then onPort p (fun u => { u with badIn := true, goodIn := 0, lockIn := false }) s else s
          let s := if s.ostate p ≠ 0 ∧ !ok then onPort p (fun u => { u with badOut := true, goodOut := 0, lockOut := false }) s else s
          showLock p s
        else s) s
    else s

/-- ASRC_LOCK: the ASRC channels of one direction of port `p` (`kind` 0 in, 1 out), or of stream context `p` (`kind` 2), declare
lock or unlock (R363). -/
def portAsrc (out : Bool) (p : Nat) (lock : Bool) (s : State) : State :=
  let u := s.port p
  if s.flag (CG_CFG.DIR (s.cgOf p)) ∨ (lock ∧ ((if out then u.badOut else u.badIn) ∨ (!out ∧ s.istate p = 3))) then s
  else if out then (if u.asrcOut = 0 then s else showLock p (onPort p (fun u => { u with lockOut := lock }) s))
  else (if u.asrcIn = 0 then s else showLock p (onPort p (fun u => { u with lockIn := lock }) s))

/-! ### Blocks of the inputs at a boundary -/

/-- The sample that a block takes from a frame's channel: a supplied one, which a Converted port's ASRC converts to a value the spec
does not state, or a concealment value (R83 to R85), or the zero of an inactive slot or of
the time before the first valid frame. -/
def takeSample (p c : Nat) (x : Word × Nat) (s : State) : Word × State :=
  if bitOf x.2 6 then
    let (y, s) := if s.converted p then fresh Config.asrcSample s else (x.1, s)
    (y, delivered (spKey p c) y s)
  else if bitOf x.2 2 && !bitOf x.2 1 then let (l, s) := concealSamples (spKey p c) 1 s; (l.headD 0, s)
  else (0, s)

/-- The block of input channel `c` from the frames that it takes (R26, R73, R361 to R364): ORIGIN 1 from a Locked port, 2 from a
Converted one. -/
def portBlk (p c : Nat) (fr : List PFrame) (s : State) : Blk × State :=
  let xs := fr.map fun f => f.getD c (0, bswMUTED)
  let r := xs.foldl (fun (acc : List Word × State) x => let (y, s) := takeSample p c x acc.2; (acc.1 ++ [y], s)) ([], s)
  let (clip, s) := if s.converted p && xs.any (fun x => bitOf x.2 6) then fresh Config.asrcClip r.2 else (false, r.2)
  (⟨r.1, mkBsw (if s.converted p then 2 else 1) (blkFlags fr c + (if clip then bswCLIPPED else 0))⟩, s)

/-- `n` frames at the internal rate from the frames `l` of the same time at the port's rate, of which `due` were due: each takes the
flags of every port frame in its part. Fewer frames than were due, but for one, leave the rest of the time to `miss`, behind the first
`place` of them (DESIGN CHOICE, log entry 160). -/
def spread (n due place : Nat) (l : List PFrame) (miss : PFrame) : List PFrame :=
  let m := l.length
  let per := if due ≤ m + 1 then m else due
  let join := fun (a b : PFrame) =>
    a.zipIdx.map fun x => (x.1.1, x.1.2 ||| ((b.getD x.2 (0, 0)).2 &&& (63 - bswMUTED + outOfRange)))
  let cell := fun (i : Nat) => ((l.take ((i + 1) * per / n)).drop (i * per / n + 1)).foldl join (l.getD (i * per / n) miss)
  let k := if per = 0 then 0 else min n (m * n / per)
  let x := (List.range k).map cell
  let at_ := if per = 0 then 0 else min k (place * n / per)
  x.take at_ ++ List.replicate (n - k) miss ++ x.drop at_

/-- What the ASRC of a Converted input takes of a frame's channel into its delay: the sample's own marks. Lock, loss and range are
judged when the sample is delivered (R362, R364, R376). -/
def delayedMark (x : Word × Nat) : Word × Nat :=
  let f := x.2 &&& (bswUNSETTLED + bswMUTED + bswCONCEALED + srcValid)
  (x.1, if bitOf x.2 7 then f - bswCONCEALED + srcValid else f)

/-- A delayed sample `x` as it is delivered beside the marks `now` of that instant: it carries the port's ASRC_UNLOCKED and SOURCE_LOST,
and is concealed while the ratio is out of range (R362, R364, R376). -/
def deliverMark (x now : Word × Nat) : Word × Nat :=
  let f := if bitOf now.2 7 && bitOf x.2 6 then x.2 - srcValid ||| bswCONCEALED else x.2
  (x.1, f ||| (now.2 &&& (bswUNLOCKED + bswLOST)))

/-- Frames of port `p` that are due in a shot at its measured or nominal rate, 0 where none is known. -/
def framesDue (p : Nat) (s : State) : Nat := s.n * rate64 (s.cgOf p) s / (s.fs * 64)

/-- The frames that an input's block takes at a boundary, and those that stay queued (R357, R365, R371, R376). Frames that went missing
since the last boundary stand at the gap; the buffer of a Locked input is then centred to its lead. -/
def inFrames (p : Nat) (s : State) : List PFrame × List PFrame :=
  let u := s.port p
  let miss := missingFrame p (match u.gap with | some g => g.2 | none => s.istate p) s
  if s.converted p then
    let now := spread s.n (framesDue p s) (match u.gap with | some g => g.1 | none => u.cvq.length) u.cvq miss
    let q := u.inq ++ now.map fun f => f.map delayedMark
    ((q.take s.n).zipWith (fun a b => a.zipWith deliverMark b) now, q.drop s.n)
  else
    let k := inLead p s
    let centre := u.gap.isSome || u.centreIn || decide (s.istate p = 3)
    let q := match u.gap with
      | some g => u.inq.take g.1 ++ List.replicate (s.n + k - u.inq.length) miss ++ u.inq.drop g.1
      | none => u.inq
    let q := q ++ List.replicate (s.n - q.length) miss
    (q.take s.n, if centre then lastFrames k miss (q.drop s.n) else q.drop s.n)

/-- A port block carries SOURCE_LOST on every channel where the loss has been declared by its boundary (R376). -/
def lostNow (p : Nat) (s : State) (b : Blk) : Blk := if sourceLost p s then { b with bsw := b.bsw ||| mkBsw 0 bswLOST } else b

/-- The input blocks of port `p` are complete at a boundary (R26). -/
def portInputs (p : Nat) (s : State) : State :=
  if s.istate p = 0 then s else
  let x := inFrames p s
  let s := onPort p (fun u => { u with
    inq := x.2, cvq := [], centreIn := false,
    gap := if s.istate p = 1 ∨ s.istate p = 3 then some (0, s.istate p) else none }) s
  (List.range (s.nchan false p)).foldl (fun s c => let (b, s) := portBlk p c x.1 s; putBlk aIN (spKey p c) (lostNow p s b) s) s

/-- Every started port hands on its input blocks. -/
def allPortInputs (s : State) : State := (List.range 64).foldl (fun s p => portInputs p s) s

/-- Every started port takes up the released blocks. -/
def allPortReleases (s : State) : State := (List.range 64).foldl (fun s p => portRelease p s) s

/-! ### Rings (R383, R384) -/

/-- A new length of the capture or playback ring is staged (R383). -/
def stageSpLen (p : Nat) (ply : Bool) (len : Nat) (s : State) : State :=
  if ply then (s.setF (SP_PLY_CFG.LEN p) len).setF (SP_DMA_STAT.LENPEND_PLY p) 1 |> onPort p (fun u => { u with plyNew := some len })
  else (s.setF (SP_CAP_CFG.LEN p) len).setF (SP_DMA_STAT.LENPEND_CAP p) 1 |> onPort p (fun u => { u with capNew := some len })

/-- A ring of port `p` runs: as the last shot boundary took its enable (R389). -/
def ringRuns (p : Nat) (ply : Bool) (s : State) : Bool := if ply then (s.port p).plyOn else (s.port p).capOn

/-- A write of `SP_CAP_CFG` or `SP_PLY_CFG`: PACK only while the ring is stopped (R390), LEN from 2 to 4,096 and staged where it is
new (R383); another LEN discards the write whole. -/
def writeRingCfg (p : Nat) (ply : Bool) (v : Nat) (s : State) : State :=
  let len := bits v 0 13
  let oldLen := if ply then s.getF (SP_PLY_CFG.LEN p) else s.getF (SP_CAP_CFG.LEN p)
  if len < 2 ∨ 4096 < len then spCfg p s
  else
    let s := if ringRuns p ply s then s
      else if ply then s.setF (SP_PLY_CFG.PACK p) (bits v 13 2) else s.setF (SP_CAP_CFG.PACK p) (bits v 13 2)
    if len = oldLen then s else stageSpLen p ply len s

/-- A host write of a ring pointer (R383, R384): below the length as it runs; a playback write pointer lower than its previous
value applies a staged length. -/
def writeSpPtr (p : Nat) (ply : Bool) (v : Nat) (s : State) : State :=
  let v := v % 4096
  let u := s.port p
  if ply then
    if u.plyLen ≤ v then spCfg p s else
    let old := s.getF (SP_PLY_WPTR.PTR p)
    let s := s.setF (SP_PLY_WPTR.PTR p) v
    match u.plyNew with
    | some l =>
      if v < old then
        let s := onPort p (fun u => { u with plyLen := l, plyNew := none }) s
        (s.setF (SP_PLY_RPTR.PTR p) (s.getF (SP_PLY_RPTR.PTR p) % l)).setF (SP_DMA_STAT.LENPEND_PLY p) 0
      else s
    | none => s
  else if u.capLen ≤ v then spCfg p s
  else s.setF (SP_CAP_RPTR.PTR p) v

/-- A write of a ring base: 64-byte aligned, else refused with a message (R384), and discarded while its ring runs (R390). -/
def writeSpBase (p off v : Nat) (s : State) : State :=
  let lo := off = 0xA4 ∨ off = 0xC4
  if lo ∧ v % 64 ≠ 0 then spCfg p s
  else if ringRuns p (decide (0xC0 ≤ off)) s then s else s.setReg (0x50000 + p * 0x100 + off) (wd v)

/-- The ring enables of every port act at a shot boundary (R389). -/
def allRingEnables (s : State) : State :=
  (List.range 64).foldl (fun s p =>
    let c := s.flag (SP_CTRL.CAP_EN p)
    let y := s.flag (SP_CTRL.PLY_EN p)
    if c = (s.port p).capOn ∧ y = (s.port p).plyOn then s else onPort p (fun u => { u with capOn := c, plyOn := y }) s) s

/-- A start or stop of a direction is accepted: its enable shows it and it waits for its boundary (R368, R389). -/
def schedulePort (p : Nat) (out start : Bool) (shot : Option Nat) (trig : Option Nat) (s : State) : State :=
  let s := s.setF (dirField out p) (b2n start)
  onPort p (fun u => { u with reqs := u.reqs ++ [⟨out, start, shot, trig⟩] }) s

/-- Status of a command that starts a direction: CONFLICT where it is enabled already; else as the state without that direction's run
gives it, since a stop has been accepted where it still runs (R16, R369). -/
def portStartStatus (p : Nat) (out : Bool) (s : State) : Nat :=
  if s.dirEn out p then 6 else startCheck p out (stopDir p out s)

/-- A start refused with `st`: a claim that stands is reported (R16). -/
def startRefused (p : Nat) (out : Bool) (st : Nat) (s : State) : State := if st = 6 then raise 0x02 0 (if out then 64 + p else p) s else s

/-- A write of a direction's enable in `SP_CTRL` acts at the next shot boundary (R389); a start refused at once reads back 0. -/
def writeDirEn (p : Nat) (out en : Bool) (s : State) : State :=
  if s.dirEn out p = en then s
  else if en ∧ portStartStatus p out s ≠ 0 then startRefused p out (portStartStatus p out s) s
  else schedulePort p out en (some s.nextShot) none s

/-- A write of `SP_CTRLp` (R389): the direction and ring enables act at the next shot boundary. -/
def writeSpCtrl (p v : Nat) (s : State) : State :=
  let s := writeDirEn p false (bitOf v 31) s
  let s := writeDirEn p true (bitOf v 30) s
  ((s.setF (SP_CTRL.CAP_EN p) (bits v 29 1)).setF (SP_CTRL.PLY_EN p) (bits v 28 1)).setF (SP_CTRL.RATEIE p) (bits v 27 1)

/-- A write to offset `off` of port `p`'s registers that has a rule of its own; others fall under their access codes. -/
def writeSpReg (p off v : Nat) (s : State) : State :=
  if off = 0 ∨ off = 0x14 ∨ (0x20 ≤ off ∧ off < 0x60) then writePortCfg p off v s
  else if off = 4 then writeSpCtrl p v s
  else if off = 0xC then writeMask p false false v s
  else if off = 0x10 then writeMask p true false v s
  else if off = 0xA0 then writeRingCfg p false v s
  else if off = 0xC0 then writeRingCfg p true v s
  else if off = 0xB0 then writeSpPtr p false v s
  else if off = 0xCC then writeSpPtr p true v s
  else if off = 0xA4 ∨ off = 0xA8 ∨ off = 0xC4 ∨ off = 0xC8 then writeSpBase p off v s
  else s

end Sys2Proof.Machine
end

