-- ==== Sys2Proof/Machine/Net.lean ====
section
/-! DEFINITION. Media network (chapter 09): packet buffers, egress queues, pause and preemption, the bridge, the host NIC, the
management port. -/

namespace Sys2Proof.Machine

/-- A NET_CFG message (R438, R446). -/
def netCfg (s : State) : State := raiseOpen 0x41 s

/-! ### Ports, rings and contexts beside their registers -/

/-- Port `p` beside its registers. -/
def State.nport (s : State) (p : Nat) : NPort := smGet NPort.reset s.net.ports p

/-- Port `p` replaced by its image under `f`. -/
def onNPort (p : Nat) (f : NPort → NPort) (s : State) : State :=
  s.onNet fun u => { u with ports := smPut NPort.reset p (f (smGet NPort.reset u.ports p)) u.ports }

/-- Receive (false) or transmit (true) ring `r` as it runs. -/
def State.nring (s : State) (tx : Bool) (r : Nat) : NRing := smGet NRing.reset (if tx then s.net.tx else s.net.rx) r

/-- A ring replaced by its image under `f`. -/
def onNRing (tx : Bool) (r : Nat) (f : NRing → NRing) (s : State) : State :=
  s.onNet fun u =>
    if tx then { u with tx := smPut NRing.reset r (f (smGet NRing.reset u.tx r)) u.tx }
    else { u with rx := smPut NRing.reset r (f (smGet NRing.reset u.rx r)) u.rx }

/-- Context `c`. -/
def State.ctx (s : State) (c : Nat) : CtxU := smGet CtxU.reset s.net.ctx c

/-- Context `c` replaced by its image under `f`. -/
def onCtx (c : Nat) (f : CtxU → CtxU) (s : State) : State :=
  s.onNet fun u => { u with ctx := smPut CtxU.reset c (f (smGet CtxU.reset u.ctx c)) u.ctx }

/-- Counter `k` of context `c` (0 PKTS, 1 LOST, 2 LATE, 3 OVFL, 4 DUP, 5 ERR, 6 CONCEAL, 7 SAT) increased, saturating (R12). -/
def incCtx (c k n : Nat) (s : State) : State :=
  onCtx c (fun u => { u with cnt := putNth 0 u.cnt k (min (2 ^ 32 - 1) (u.cnt.getD k 0 + n)) }) s

/-! ### Packet buffers (R398 to R400) -/

/-- Byte address of buffer `i`. -/
def bufAddr (i : Nat) : Nat := 0x6000000 + i * 0x800

/-- Buffers drawn from an allowance: 0 system, 1 host, 2 bridge, 3 stream. -/
def State.bufUse (s : State) (cls : Nat) : Nat := (s.net.bufs.filter fun b => b.2.cls = cls).length

/-- Size of an allowance (R399). -/
def State.bufMax (s : State) (cls : Nat) : Nat :=
  match cls with
  | 0 => 64
  | 1 => s.getF NET_POOL.HOSTMAX
  | 2 => s.getF NET_POOL.BRIDGEMAX
  | _ => 2048 - 64 - s.getF NET_POOL.HOSTMAX - s.getF NET_POOL.BRIDGEMAX

/-- Indices of the free buffers. -/
def State.freeBufs (s : State) : List Nat := (List.range 2048).filter fun i => !s.net.bufs.any (fun b => b.1 = i)

/-- One free buffer is taken; which one, the spec leaves open. -/
def takeBuf (b : BufU) (s : State) : Nat × State :=
  let l := s.freeBufs
  let (k, s) := fresh Config.bufferPick s
  let i := l.getD (k % l.length) 0
  (i, s.onNet fun u => { u with bufs := (i, b) :: u.bufs })

/-- `n` buffers drawn from the allowance of `b`; none where it, or the pool, does not hold them. -/
def drawBufs (n : Nat) (b : BufU) (s : State) : Option (List Nat × State) :=
  if s.bufMax b.cls < s.bufUse b.cls + n ∨ s.freeBufs.length < n then none
  else some ((List.range n).foldl (fun (acc : List Nat × State) _ => let (i, t) := takeBuf b acc.2; (acc.1 ++ [i], t)) ([], s))

/-- One consumer of each buffer of the list is done: a buffer without consumers returns to the pool (R53, R399). -/
def dropBufs (l : List Nat) (s : State) : State :=
  s.onNet fun u => { u with
    bufs := u.bufs.filterMap fun b =>
      if l.contains b.1 then (if b.2.users ≤ 1 then none else some (b.1, { b.2 with users := b.2.users - 1 })) else some b }

/-- A buffer of the list passes to `own`. -/
def ownBufs (l : List Nat) (own : Nat) (s : State) : State :=
  s.onNet fun u => { u with bufs := u.bufs.map fun b => if l.contains b.1 then (b.1, { b.2 with own := own }) else b }

/-- The System allowance has a buffer for a frame that the Gaffer core or the PTP unit takes at once (R399). -/
def sysFree (s : State) : Bool := s.bufUse 0 < s.bufMax 0 && s.net.bufs.length < 2048

/-- Buffers of a frame of `len` bytes (R398). -/
def bufsFor (len : Nat) : Nat := ceilDiv len 2048

/-- The bytes of a frame are stored into its buffers. -/
def storeFrame (bytes : List Byte) (l : List Nat) (s : State) : State :=
  (l.zipIdx).foldl (fun s x => writeBytes (bufAddr x.1) ((bytes.drop (2048 * x.2)).take 2048) s) s

/-! ### Transmit completion (R439) -/

/-- Address of a descriptor of a host ring. -/
def descAddr (tx : Bool) (r i : Nat) (s : State) : Nat :=
  if tx then s.getF (NET_TXBASE_LO.ADDR r) * 64 + s.getF (NET_TXBASE_HI.ADDR r) * 2 ^ 32 + 16 * i
  else s.getF (NET_RXBASE_LO.ADDR r) * 64 + s.getF (NET_RXBASE_HI.ADDR r) * 2 ^ 32 + 16 * i

/-- Word 3 of each descriptor of a completed frame is written (R439), which requires the PCIe link (R435). -/
def writeDone (r status : Nat) (descs : List Nat) (s : State) : State :=
  if !s.flag CMD_STAT.LINKUP then s else descs.foldl (fun s i => s.out (.hostWrite (descAddr true r i s + 12) [wd (2 ^ 31 + status * 2 ^ 28)])) s

/-- HEAD of a transmit ring passes every complete frame at its front (R439). -/
def passHead (r : Nat) : Nat → State → State
  | 0, s => s
  | k + 1, s =>
    match (s.nring true r).out with
    | f :: t =>
      if f.done then
        let s := onNRing true r (fun u => { u with out := t }) s
        passHead r k (s.setF (NET_TXHEAD.PTR r) ((s.getF (NET_TXHEAD.PTR r) + f.descs.length) % (s.nring true r).len))
      else s
    | [] => s

/-- The descriptors of frame `f` of ring `r` are written with `status`, and HEAD may pass them (R439). -/
def finishTx (r status : Nat) (f : TxFrame) (s : State) : State :=
  let s := setIrq (24 + r) (writeDone r status f.descs s)
  let s := onNRing true r (fun u => { u with out := u.out.map fun x => if x.id = f.id then { x with done := true, wait := none } else x }) s
  passHead r (s.nring true r).out.length s

/-- A transmit frame is complete with `status`: 0 SENT, 1 DESCERR, 2 OVERSIZE, 3 LINKDOWN, 4 RESET (R439). Its buffers return at once; its
descriptors, which lie in host memory, wait for the PCIe link where that is down (R435). -/
def completeTx (r id status : Nat) (s : State) : State :=
  match (s.nring true r).out.find? (fun f => f.id = id) with
  | none => s
  | some f =>
    if f.done || f.wait.isSome then s else
    let s := dropBufs f.bufs s
    if s.flag CMD_STAT.LINKUP then finishTx r status f s
    else onNRing true r (fun u => { u with out := u.out.map fun x => if x.id = id then { x with wait := some status } else x }) s

/-! ### Egress (R394, R401, R402) -/

/-- A queued frame leaves its queue unsent: its buffers return, and its descriptors complete with `status` where it is the
host's. -/
def discardEg (f : EgFrame) (status : Nat) (s : State) : State :=
  match f.host with
  | some (r, id, _) => completeTx r id status s
  | none => dropBufs f.bufs s

/-- A frame for port `p` is dropped as its link is down (R394); one that the transparent clock forwarded so never begins its egress and
counts in `PTP_TCERR.DROP` as well (R553; DEDUCED, log entry 189). -/
def dropDown (p : Nat) (s : State) (f : EgFrame) : State :=
  let s := s.incF (NET_TX_LINKDOWN.COUNT p) 1
  discardEg f 3 (if f.kind = 3 then s.incF PTP_TCERR.DROP 1 else s)

/-- A frame enters the egress queues of port `p`; while the link is down it is dropped at once (R394). -/
def enqueueEg (p : Nat) (f : EgFrame) (s : State) : State :=
  if s.flag (NET_PSTAT.LINK p) then onNPort p (fun u => { u with q := u.q ++ [f] }) s else dropDown p s f

/-- The class of a frame: express where its PCP is (R402). -/
def isExpress (p pcp : Nat) (s : State) : Bool := bitOf (s.getF (NET_PCFG.EXPRESS p)) pcp

/-- Order of service: express before preemptable, then the higher PCP (R401, R402). -/
def egRank (f : EgFrame) : Nat := (if f.express then 8 else 0) + f.pcp

/-- The next frame to be sent and the queue without it. -/
def nextEg (q : List EgFrame) : Option (EgFrame × List EgFrame) :=
  let top := q.foldl (fun a f => max a (egRank f)) 0
  match q.findIdx? (fun f => egRank f = top) with
  | some i => (q[i]?).map fun f => (f, q.take i ++ q.drop (i + 1))
  | none => none

/-- The counter in units of 1/16 ns at the timestamp point of port `p`, with its compensation (R550). -/
def State.stamp16 (s : State) (p : Nat) (eg : Bool) : Int :=
  s.time16 + sgn 16 (if eg then s.getF (PTP_PCOMP_EG.NS p) else s.getF (PTP_PCOMP_IN.NS p))

/-! ### Messages of the ordinary clock (R540 to R544)

The layout of a PTP message and the addresses of its transports are those of IEEE 1588-2019, which R539 and R540 name (PRESUMED, log
entry 187). -/

/-- MAC address of port `p`. -/
def State.pmac (s : State) (p : Nat) : Nat := s.getF (NET_PMAC_LO.ADDR p) + 2 ^ 32 * s.getF (NET_PMAC_HI.ADDR p)

/-- The ordinary clock runs: enabled, and the chip is no ring follower (R549). -/
def ptpOn (s : State) : Bool := s.flag PTP_CFG.ENABLE && !s.flag PTP_STAT.RINGTIME

/-- A time in 1/16 ns as a PTP timestamp of 10 bytes: seconds and nanoseconds. -/
def ptpStamp (t : Int) : List Byte :=
  beBytes (t / 16000000000 % (2 ^ 48 : Int)).toNat 6 ++ beBytes (t / 16 % 1000000000).toNat 4

/-- A message of the ordinary clock: type, flags, correction, sequence number, control field, log interval and body. -/
def ptpMsg (type flags corr seq ctl ival : Nat) (body : List Byte) (s : State) : List Byte :=
  beBytes type 1 ++ beBytes 0x12 1 ++ beBytes (34 + body.length) 2 ++ beBytes (s.getF PTP_CFG.DOMAIN) 1 ++ beBytes 0 1
    ++ beBytes flags 2 ++ beBytes corr 8 ++ beBytes 0 4 ++ beBytes Config.ptpIdentity 8 ++ beBytes 1 2 ++ beBytes seq 2
    ++ beBytes ctl 1 ++ beBytes ival 1 ++ body

/-- The frame of a message `m` on port `p` over the selected transport (R540), checksums filled; `x` holds the header fields that the
spec leaves open. -/
def ptpWrap (p : Nat) (event : Bool) (m : List Byte) (x : Word) (s : State) : List Byte :=
  let dp := if event then 319 else 320
  let udp := fun (pay : List Byte) => beBytes dp 2 ++ beBytes dp 2 ++ beBytes (pay.length + 8) 2 ++ beBytes 0 2 ++ pay
  let tos := bits x.toNat 17 7
  match s.getF PTP_CFG.TRANSPORT with
  | 0 => fillSums (beBytes 0x01005E000181 6 ++ beBytes (s.pmac p) 6 ++ beBytes 0x0800 2 ++ beBytes 0x45 1 ++ beBytes tos 1
      ++ beBytes (m.length + 28) 2 ++ beBytes (x.toNat % 65536) 2 ++ beBytes (if bitOf x.toNat 16 then 0x4000 else 0) 2
      ++ beBytes (x.toNat / 2 ^ 24) 1 ++ beBytes 17 1 ++ beBytes 0 2 ++ beBytes (s.getF (NET_PIP4.ADDR p)) 4 ++ beBytes 0xE0000181 4 ++ udp m)
  | 1 => fillSums (beBytes 0x333300000181 6 ++ beBytes (s.pmac p) 6 ++ beBytes 0x86DD 2 ++ beBytes (6 * 2 ^ 28 + tos * 2 ^ 20 + x.toNat % 2 ^ 20) 4
      ++ beBytes (m.length + 10) 2 ++ beBytes 17 1 ++ beBytes (x.toNat / 2 ^ 24) 1
      ++ beBytes (s.getF (NET_PIP6_0.ADDR p)) 4 ++ beBytes (s.getF (NET_PIP6_1.ADDR p)) 4 ++ beBytes (s.getF (NET_PIP6_2.ADDR p)) 4
      ++ beBytes (s.getF (NET_PIP6_3.ADDR p)) 4 ++ beBytes (0xFF0E * 2 ^ 112 + 0x181) 16 ++ udp (m ++ [0, 0]))
  | _ => beBytes 0x011B19000000 6 ++ beBytes (s.pmac p) 6 ++ beBytes 0x88F7 2 ++ m

/-- A message of the ordinary clock is queued on port `p` at the port's default priority (log entry 187), an event
message as express (R402), in a buffer of the System allowance (R399). -/
def ptpQueue (p : Nat) (m : List Byte) (s : State) : State :=
  let event := decide (byteAt m 0 % 16 < 4)
  let (x, s) := fresh Config.ipHeader s
  let bytes := ptpWrap p event m x s
  let pcp := s.getF (NET_PVLAN.PCP p)
  match drawBufs 1 ⟨0, 1, 0⟩ s with
  | none => s
  | some (bufs, s) => enqueueEg p ⟨4, pcp, event || isExpress p pcp s, bytes, bufs, none, 0, 0, 0⟩ (storeFrame bytes bufs s)

/-- A message of the ordinary clock as it leaves at `t`: a one-step Sync takes its originTimestamp, and its checksum follows (R543). -/
def ptpLeaving (bytes : List Byte) (t : Int) : List Byte :=
  match ptpOff bytes with
  | some o =>
    if ptpType bytes o = 0 ∧ !bitOf (byteAt bytes (o + 6)) 1 then (fixPtpSum bytes (putAt bytes (o + 34) (ptpStamp t)) o).1 else bytes
  | none => bytes

/-- A message of the ordinary clock has left port `p` at `t`: a two-step Sync is followed by its Follow_Up, and a Delay_Req, the first
after a Sync, opens that Sync's measurement (R540, R544). -/
def ptpLeft (p : Nat) (bytes : List Byte) (t : Int) (s : State) : State :=
  match ptpOff bytes with
  | none => s
  | some o =>
    if ptpType bytes o = 0 ∧ bitOf (byteAt bytes (o + 6)) 1 then
      ptpQueue p (ptpMsg 8 0 0 (beAt bytes (o + 30) 2) 2 (byteAt bytes (o + 33)) (ptpStamp t) s) s
    else if ptpType bytes o = 1 then
      match s.ptp.t2 with
      | some t2 =>
        if s.ptp.used then s
        else s.onPtp fun u => { u with used := true, meas := some ⟨u.t1, t2, u.csync, t, none, true⟩ }
      | none => s
    else s

/-- Port `p` sends its next frame (R401, R403): the descriptors of a host frame complete, buffers return. -/
def sendNext (p : Nat) (preempted : Bool) (s : State) : State :=
  if !s.flag (NET_PSTAT.LINK p) ∨ s.flag (NET_PSTAT.PAUSED p) then s else
  match nextEg (s.nport p).q with
  | none => s
  | some (f, q) =>
    let s := onNPort p (fun u => { u with q := q }) s
    let t := s.stamp16 p true
    let (bytes, raw) := if f.kind = 3 then tcCorrect f.bytes ((t - f.ingress) * 4096)
      else (if f.kind = 4 then ptpLeaving f.bytes t else f.bytes, false)
    let s := if raw then s.incF PTP_TCERR.NOCORR 1 else s
    let out := withFcs bytes
    let s := countTx p out.length (s.out (.frame p out))
    let s := if preempted ∧ !f.express ∧ s.flag (NET_PSTAT.PREEMPT p) then s.incF (NET_PREEMPTS.COUNT p) 1 else s
    let s := if f.kind = 0 then s.incF (NET_BR_FWD.COUNT p) 1 else s
    match f.host with
    | some (r, id, last) => if last then completeTx r id 0 s else s
    | none =>
      let s := dropBufs f.bufs s
      if f.kind = 2 then
        countG 0x41 1 (onCtx f.ctx (fun u => { u with st := if u.st = 0 then 0 else 2 }) (incCtx f.ctx 0 1 s))
      else if f.kind = 4 then ptpLeft p bytes t s
      else s

/-- FRAME_TRANSMIT_DONE: port `p` sends its next frame; `preempted` where express traffic preempted it on the way (R403, R439). -/
def execFrameTransmitDone (p : Nat) (preempted : Bool) (s : State) : Host.Outcome State Fault Refusal :=
  finish (if p < 4 then sendNext p preempted s else s)

/-- The first frame of the queue of `p` that satisfies `f` is dropped. -/
def dropFirst (p : Nat) (f : EgFrame → Bool) (count : State → State) (s : State) : State :=
  let q := (s.nport p).q
  match q.findIdx? f with
  | some i =>
    match q[i]? with
    | some x => discardEg x 3 (count (onNPort p (fun u => { u with q := q.take i ++ q.drop (i + 1) }) s))
    | none => s
  | none => s

/-- TC_DROP: a forwarded PTP frame that has not begun egress from port `p` within 1 ms is dropped; the port is paused, since a port whose
link is down holds no frame (R394, R553). -/
def execTcDrop (p : Nat) (s : State) : Host.Outcome State Fault Refusal :=
  finish <|
    if p < 4 ∧ s.flag (NET_PSTAT.PAUSED p) then dropFirst p (fun f => f.kind = 3 && f.due ≤ s.time) (fun s => s.incF PTP_TCERR.DROP 1) s
    else s

/-- The earliest time by which a stream packet queued on port `p` must begin its transmission. -/
def firstDue (p : Nat) (s : State) : Option Nat := (((s.nport p).q.filter fun f => f.kind = 2).map (·.due)).min?

/-- TX_LATE: the stream packet of port `p` whose packet time since its queue instant ended first has not begun transmission and is
dropped (R408). -/
def execTxLate (p : Nat) (s : State) : Host.Outcome State Fault Refusal :=
  finish (if p < 4 then dropFirst p (fun f => f.kind = 2 && firstDue p s == some f.due) (fun s => s.incF (NET_TX_LATE.COUNT p) 1) s else s)

/-! ### Links (R394) -/

/-- A context meets its loss criterion (R426): its blocks carry SOURCE_LOST and a STREAM_LOST message is sent. -/
def loseCtx (c : Nat) (s : State) : State :=
  let u := s.ctx c
  if u.st = 0 ∨ u.lost ∨ s.getF NET_SPART.RXCOUNT ≤ c then s
  else
    -- a Converted context centres its buffer again (R428)
    let s := if bitOf (nAt u.words 0) 29 then
        dropBufs (u.held.flatMap (·.2)) (onCtx c (fun u => { u with held := [], got := [], playing := false }) s)
      else s
    raise 0x42 0 c (onCtx c (fun u => { u with lost := true, lock := false }) s)

/-- PORT of a context. -/
def CtxU.port (u : CtxU) : Nat := bits (nAt u.words 0) 30 2

/-- The link of MP port `p` comes up (R394). -/
def linkUp (p : Nat) (s : State) : State :=
  if s.flag (NET_PCFG.ENABLE p) ∧ !s.flag (NET_PSTAT.LINK p) then raise 0x40 0 p (s.setF (NET_PSTAT.LINK p) 1) else s

/-- LINK_DOWN: the link of MP port `p` goes down: queued frames are dropped and counted, and the receive contexts on the port meet
their loss criterion (R394). -/
def linkDown (p : Nat) (s : State) : State :=
  if !s.flag (NET_PSTAT.LINK p) then s else
  let q := (s.nport p).q
  let s := (s.setF (NET_PSTAT.LINK p) 0).setF (NET_PSTAT.PAUSED p) 0
  let s := onNPort p (fun u => { u with q := [] }) s
  let s := q.foldl (dropDown p) s
  let s := s.net.ctx.foldl (fun s x => if x.2.port = p then loseCtx x.1 s else s) s
  raise 0x40 0 p s

/-! ### Pause and preemption (R403 to R407) -/

/-- PAUSE_RECEIVED: a PAUSE frame of `q` quanta arrives on port `p`, MGMT (4) included, which honours it in legacy mode
(R393, R405, R406). -/
def execPauseReceived (p q : Nat) (s : State) : Host.Outcome State Fault Refusal :=
  finish <|
    if p < 5 then
      let s := s.incF (NET_PAUSE_RX.COUNT p) 1
      if p < 4 ∧ !s.flag (NET_PCFG.PAUSELEGACY p) ∧ s.time < (s.nport p).ignore then s
      else
        let s := s.setF (NET_PSTAT.PAUSED p) (b2n (q % 65536 ≠ 0))
        if p = 4 ∧ q % 65536 = 0 then mgmtFlush s else s
    else s

/-- PAUSE_EXPIRY: the pause time of port `p` elapses (R405, R406). -/
def execPauseExpiry (p : Nat) (s : State) : Host.Outcome State Fault Refusal :=
  finish <|
    if p < 5 then
      let s := s.setF (NET_PSTAT.PAUSED p) 0
      if p = 4 then mgmtFlush s else s
    else s

/-- PAUSE_BROKEN: the watchdog ends a continuous pause in native mode; PAUSE frames are ignored for a further WD microseconds
(R405). -/
def execPauseBroken (p : Nat) (s : State) : Host.Outcome State Fault Refusal :=
  finish <|
    if p < 4 ∧ s.flag (NET_PSTAT.PAUSED p) ∧ !s.flag (NET_PCFG.PAUSELEGACY p) then
      let s := (s.setF (NET_PSTAT.PAUSED p) 0).incF (NET_PAUSE_BROKEN.COUNT p) 1
      onNPort p (fun u => { u with ignore := s.time + s.getF (NET_PAUSECFG.WD p) * 1536 / 10 }) s
    else s

/-- PREEMPT_VERIFY: a verification attempt of port `p` runs, answered or not (R403): up to 3 attempts. -/
def execPreemptVerify (p : Nat) (ok : Bool) (s : State) : Host.Outcome State Fault Refusal :=
  finish <|
    if p < 4 ∧ s.flag (NET_PCFG.PREEMPT_EN p) ∧ !s.flag (NET_PSTAT.PREEMPT p) ∧ (s.nport p).attempts < 3 then
      let s := onNPort p (fun u => { u with attempts := u.attempts + 1 }) s
      if ok then s.setF (NET_PSTAT.PREEMPT p) 1 else s
    else s

/-- A write of PREEMPT_EN of port `p` (R403): verification begins afresh where it sets it, and ends where it clears it. -/
def writePreempt (p : Nat) (en : Bool) (s : State) : State :=
  if en = s.flag (NET_PCFG.PREEMPT_EN p) then s
  else onNPort p (fun u => { u with attempts := 0 }) ((s.setF (NET_PCFG.PREEMPT_EN p) (b2n en)).setF (NET_PSTAT.PREEMPT p) 0)

/-- A write of `NET_PCFGp` (R446): MAXF outside its range discards it; while ENABLE is 1, and on MGMT (R395), MAXF stays as it is. A
port disabled loses its link. -/
def writePcfg (p v : Nat) (s : State) : State :=
  let maxf := bits v 0 14
  let was := s.flag (NET_PCFG.ENABLE p)
  if maxf < 1522 ∨ 9216 < maxf then netCfg s
  else
    let s := writePreempt p (bitOf v 29 && p < 4) s
    let s := (((s.setF (NET_PCFG.ENABLE p) (b2n (bitOf v 31 && !(p = 4 && bits (s.reg 0xE0000).toNat 12 2 = 0)))).setF (NET_PCFG.PAUSELEGACY p) (bits v 30 1)).setF
      (NET_PCFG.EXPRESS p) (bits v 21 8)).setF (NET_PCFG.MAXF p) (if was ∨ p = 4 then s.getF (NET_PCFG.MAXF p) else maxf)
    if was ∧ !bitOf v 31 ∧ p < 4 then linkDown p (unitReset 5 (unitReset 4 s)) else s

/-! ### The bridge (R409 to R412) -/

/-- BRIDGE_AGE_OUT: a learnt address ages out (R410). -/
def execBridgeAgeOut (mac : Nat) (s : State) : Host.Outcome State Fault Refusal :=
  finish (s.onNet fun u => { u with learn := u.learn.filter fun x => x.1 ≠ mac })

/-- The bridge learns a source address with its ingress port, or counts that its table is full (R410). -/
def learnMac (m p : Nat) (s : State) : State :=
  if s.net.learn.any (fun x => x.1 = m) then s.onNet fun u => { u with learn := u.learn.map fun x => if x.1 = m then (m, p) else x }
  else if 4096 ≤ s.net.learn.length then s.incF (NET_BR_LEARNFULL.COUNT p) 1
  else s.onNet fun u => { u with learn := u.learn ++ [(m, p)] }

/-- Member ports. -/
def isMember (p : Nat) (s : State) : Bool := p < 4 && bitOf (s.getF NET_BRCFG.PORTS) p

/-- Ports to which the bridge forwards a frame received on port `p` (R409). -/
def bridgeTo (p : Nat) (l : List Byte) (s : State) : List Nat :=
  let d := macDst l
  let others := (List.range 4).filter fun q => q ≠ p ∧ isMember q s
  if !isMember p s ∨ d / 16 = 0x0180C200000 ∨ etherType l = 0x8808 ∨ (ptpOff l).isSome ∨ d = s.pmac p then []
  else if macGroup d then others
  else match s.net.learn.find? (fun x => x.1 = d) with
    | some (_, q) => if q = p then [] else if isMember q s then [q] else others
    | none => others

/-! ### Receive rings (R434 to R437) -/

/-- Device-owned descriptors of a ring: from HEAD to TAIL − 1 (R435). -/
def rxOwned (r : Nat) (s : State) : Nat :=
  let len := (s.nring false r).len
  (s.getF (NET_RXTAIL.PTR r) + len - s.getF (NET_RXHEAD.PTR r)) % len

/-- Buffers that receive descriptors of ring `r` with an index in the predicate hold return to the pool. -/
def dropRxDescs (r : Nat) (p : Nat → Bool) (s : State) : State :=
  let hit := fun (x : Nat × Nat) => x.1 / 4096 = r && p (x.1 % 4096)
  let s := dropBufs ((s.net.rxDesc.filter hit).map (·.2)) s
  s.onNet fun u => { u with rxDesc := u.rxDesc.filter fun x => !hit x }

/-- HEAD of receive ring `r` advances; as it wraps to 0 a staged length applies (R442). -/
def rxAdvance (r : Nat) (s : State) : State :=
  let u := s.nring false r
  let h := s.getF (NET_RXHEAD.PTR r) + 1
  if h < u.len then s.setF (NET_RXHEAD.PTR r) h
  else
    let s := s.setF (NET_RXHEAD.PTR r) 0
    match u.staged with
    | none => s
    | some l =>
      let s := onNRing false r (fun u => { u with len := l, staged := none }) s
      let s := (s.setF (NET_RXTAIL.PTR r) (s.getF (NET_RXTAIL.PTR r) % l)).setF (NET_RXCTRL.LENPEND r) 0
      dropRxDescs r (fun i => decide (l ≤ i)) s

/-- RINGp of `NET_RXMAP`. -/
def State.rxRing (s : State) (pcp : Nat) : Nat := bits (s.reg 0x63018).toNat (3 * (pcp % 8)) 3

/-- PCP and VID of a frame, by its tag or the port's defaults (R401, R436). -/
def framePcp (p : Nat) (l : List Byte) (s : State) : Nat := if tagged l then beAt l 14 2 / 8192 else s.getF (NET_PVLAN.PCP p)

/-- Ring `r` has a device-owned descriptor for each of `n` buffers in turn, a staged length applied where HEAD wraps among them
(R437, R442). -/
def rxFits (r : Nat) : Nat → State → Bool
  | 0, _ => true
  | n + 1, s => rxOwned r s ≠ 0 && rxFits r n (rxAdvance r s)

/-- The frame in buffers `bufs` is written into its receive ring (R436, R437). -/
def deliverHost (p : Nat) (l : List Byte) (bufs : List Nat) (s : State) : State :=
  let pcp := framePcp p l s
  let r := s.rxRing pcp
  if !s.flag (NET_RXCTRL.EN r) ∨ !s.flag CMD_STAT.LINKUP ∨ !rxFits r bufs.length s then
    dropBufs bufs (s.incF (NET_RX_NOBUF.COUNT p) 1)
  else
    let t := s.stamp16 p false
    let sec := (t / 16000000000 % (2 ^ 48 : Int)).toNat
    let ns := (t / 16 % 1000000000).toNat
    setIrq (24 + r) <| (bufs.zipIdx).foldl (fun s x =>
      let i := s.getF (NET_RXHEAD.PTR r)
      let last := x.2 + 1 = bufs.length
      let w0 := 2 ^ 31 + (if x.2 = 0 then 2 ^ 30 else 0) + (if last then 2 ^ 29 else 0) + p * 2 ^ 27 + pcp * 2 ^ 24
        + (if tagged l then beAt l 14 2 % 4096 * 4096 + 2048 else 0) + x.1
      let w1 := (if last then (l.length - 4) * 65536 else 0) + min 2048 (l.length - 2048 * x.2)
      let s := s.out (.hostWrite (descAddr false r i s) [wd w0, wd w1, wd ns, wd (sec % 2 ^ 32)])
      let s := ownBufs [x.1] 3 s
      let s := s.onNet fun u => { u with rxDesc := (r * 4096 + i, x.1) :: u.rxDesc.filter fun y => y.1 ≠ r * 4096 + i }
      rxAdvance r s) s

/-- The host path takes a frame received on port `p` (R434). -/
def hostTakes (p : Nat) (l : List Byte) (s : State) : Bool :=
  let d := macDst l
  if d = s.pmac p ∨ d = macBroadcast then true
  else if macGroup d then
    let i := crc32 (l.take 6) / 2 ^ 24
    bitOf (s.getF (NET_MCHASH.BITS p (i / 32))) (i % 32)
  else false

/-! ### Reception on an MP port (R396, R399, R407, R421, R434, R551) -/

/-- The started receive context that accepts a frame on port `p` (R421). -/
def matchCtx (p : Nat) (l : List Byte) (s : State) : Option Nat :=
  match udpInfo l with
  | none => none
  | some (i, _, dport) =>
    let addr := fun (u : CtxU) (k : Nat) =>
      if i.v6 then nAt u.words k * 2 ^ 96 + nAt u.words (k + 1) * 2 ^ 64 + nAt u.words (k + 2) * 2 ^ 32 + nAt u.words (k + 3) else nAt u.words k
    (s.net.ctx.find? fun x =>
      let u := x.2
      let w0 := nAt u.words 0
      x.1 < s.getF NET_SPART.RXCOUNT && u.st ≠ 0 && u.port = p && bitOf w0 14 = i.v6 && addr u 9 = i.dst && nAt u.words 3 / 65536 = dport
        && (!bitOf w0 13 || addr u 13 = i.src) && (!bitOf w0 12 || beAt l (i.l4 + 8 + 8) 4 = nAt u.words 5)).map (·.1)

/-- The transparent clock serves port `p` (R551). -/
def tcMember (p : Nat) (s : State) : Bool := s.flag PTP_TCCFG.EN && bitOf (s.getF PTP_TCCFG.PORTS) p

/-- A peer-delay message. -/
def ptpPdelay (l : List Byte) (o : Nat) : Bool := ptpType l o = 2 || ptpType l o = 3 || ptpType l o = 10

/-- Ports to which the transparent clock forwards a PTP frame received on port `p` (R551). -/
def tcPorts (p : Nat) (l : List Byte) (o : Nat) (s : State) : List Nat :=
  if tcMember p s && !ptpPdelay l o then (List.range 4).filter fun q => q ≠ p ∧ bitOf (s.getF PTP_TCCFG.PORTS) q else []

/-- A PTP frame received on port `p` is forwarded to the ports `dests`, which have 1 ms to begin its egress (R551, R553); none where the
System allowance holds no buffer for it (R399). -/
def tcForward (p : Nat) (dests : List Nat) (l : List Byte) (s : State) : Option State :=
  (drawBufs (bufsFor l.length) ⟨0, dests.length, 0⟩ s).map fun x =>
    let s := storeFrame l x.1 x.2
    let ingress := s.stamp16 p false
    dests.foldl (fun s q =>
      enqueueEg q ⟨3, framePcp p l s, true, l.take (l.length - 4), x.1, none, 0, ingress, s.time + 153600⟩ s) s

/-- As master, the ordinary clock answers a Delay_Req of its domain and transport with a Delay_Resp (R540, R541). -/
def ptpAnswer (p : Nat) (l : List Byte) (o : Nat) (s : State) : State :=
  let tr := if etherType l = 0x88F7 then 2 else if etherType l = 0x86DD then 1 else 0
  if s.getF PTP_STAT.PORTSTATE = 6 ∧ ptpType l o = 1 ∧ byteAt l (o + 4) = s.getF PTP_CFG.DOMAIN ∧ tr = s.getF PTP_CFG.TRANSPORT then
    let body := ptpStamp (s.stamp16 p false) ++ (l.drop (o + 20)).take 10
    ptpQueue p (ptpMsg 9 0 (beAt l (o + 8) 8) (beAt l (o + 30) 2) 3 (lowBits 8 (sgn 4 (s.getF PTP_INTV.LOGDREQ))) body s) s
  else s

/-- A PTP frame received on port `p`: the transparent clock forwards it, and the ordinary clock takes it on its own port, from the one
buffer of the System allowance (R399, R551). What a message other than a Delay_Req tells the ordinary clock is a command of its own. -/
def ptpArrives (p : Nat) (l : List Byte) (o : Nat) (s : State) : State :=
  let s := if tcMember p s && ptpPdelay l o then s.incF PTP_TCERR.PDELAY 1 else s
  let own := ptpOn s && p = s.getF PTP_CFG.PORT
  let dests := tcPorts p l o s
  let mark := fun (b : Bool) (s : State) => if own then onNPort p (fun u => { u with ptpIn := some b }) s else s
  match (if dests.isEmpty then (if !own || sysFree s then some s else none) else tcForward p dests l s) with
  | none => mark false (s.incF (NET_RX_NOPOOL.COUNT p) 1)
  | some s => if own then ptpAnswer p l o (mark true s) else s

/-- An accepted frame is classified and handed to its consumers (R399, R407, R409, R434). -/
def classify (p : Nat) (l : List Byte) (s : State) : State :=
  let s := if isMember p s then learnMac (macSrc l) p s else s
  if etherType l = 0x8808 then (if beAt l (typeOff l + 2) 2 = 1 then s else s.incF (NET_CTRL_OTHER.COUNT p) 1)
  else match ptpOff l with
    | some o => ptpArrives p l o s
    | none =>
      let dests := bridgeTo p l s
      let c := matchCtx p l s
      let host := c.isNone && hostTakes p l s
      let users := dests.length + b2n c.isSome + b2n host
      if users = 0 then s else
      let cls := if !dests.isEmpty then 2 else if c.isSome then 3 else 1
      match drawBufs (bufsFor l.length) ⟨cls, users, 0⟩ s with
      | none =>
        let s := s.incF (NET_RX_NOPOOL.COUNT p) 1
        if cls = 2 then s.incF (NET_BR_DROP.COUNT p) 1 else s
      | some (bufs, s) =>
        let s := storeFrame l bufs s
        let pcp := framePcp p l s
        let s := dests.foldl (fun s q => enqueueEg q ⟨0, pcp, isExpress q pcp s, l.take (l.length - 4), bufs, none, 0, 0, 0⟩ s) s
        let s := match c with
          | some k => s.onNet fun u => { u with matched := u.matched ++ [(k, l, bufs)] }
          | none => s
        if host then deliverHost p l bufs s else s

/-- The first row of R396 that applies to a received frame, as an action on its port: `l` is the frame with its FCS, `frag` a
reassembly error (R404). Answers whether the frame is accepted; an accepted one is counted (R444, R691). -/
def receiveCheck (p maxf : Nat) (l : List Byte) (frag : Bool) (s : State) : Bool × State :=
  if frag then (false, s.incF (NET_FRAGERR.COUNT p) 1)
  else if l.length < 64 then (false, s.incF (NET_RUNT.COUNT p) 1)
  else if maxf < l.length then (false, s.incF (NET_OVERSIZE.COUNT p) 1)
  else if !fcsOk l then (false, s.incF (NET_CRCERR.COUNT p) 1)
  else
    let s := if p < 4 then countG (0x38 + p) 1 s else s
    (true, inc64 (NET_RX_BYTES_LO.COUNT p) (NET_RX_BYTES_HI.COUNT p) l.length
      (inc64 (NET_RX_FRAMES_LO.COUNT p) (NET_RX_FRAMES_HI.COUNT p) 1 s))

/-- MP_FRAME_RECEIVED: a frame, FCS included, is received on MP port `p` (R396). -/
def execMpFrameReceived (p : Nat) (l : List Byte) (frag : Bool) (s : State) : Host.Outcome State Fault Refusal :=
  finish <|
    if p < 4 ∧ s.flag (NET_PCFG.ENABLE p) ∧ s.flag (NET_PSTAT.LINK p) then
      let (ok, s) := receiveCheck p (s.getF (NET_PCFG.MAXF p)) l frag s
      if ok then classify p l s else s
    else s

/-! ### The management port (R393) -/

/-- IPv6 address of MGMT. -/
def State.mgmtIp6 (s : State) : Nat :=
  s.getF (NET_PIP6_0.ADDR 4) * 2 ^ 96 + s.getF (NET_PIP6_1.ADDR 4) * 2 ^ 64 + s.getF (NET_PIP6_2.ADDR 4) * 2 ^ 32 + s.getF (NET_PIP6_3.ADDR 4)

/-- The frame turned back to its sender, from MGMT's address. -/
def turnMac (l : List Byte) (s : State) : List Byte := beBytes (macSrc l) 6 ++ beBytes (s.pmac 4) 6 ++ l.drop 12

/-- The answer of the Gaffer core to a frame on MGMT; none where it answers none (R393). `x` holds the header fields that the spec
leaves open. -/
def mgmtAnswer (l : List Byte) (x : Word) (s : State) : Option (List Byte) :=
  let o := typeOff l + 2
  let ip4 := s.getF (NET_PIP4.ADDR 4)
  let l := l.take (l.length - 4)
  if etherType l = 0x0806 then
    if beAt l o 4 = 0x00010800 ∧ beAt l (o + 4) 2 = 0x0604 ∧ beAt l (o + 6) 2 = 1 ∧ beAt l (o + 24) 4 = ip4 then
      let r := turnMac l s
      some (putAt r (o + 6) (beBytes 2 2 ++ beBytes (s.pmac 4) 6 ++ beBytes ip4 4 ++ beBytes (beAt l (o + 8) 6) 6 ++ beBytes (beAt l (o + 14) 4) 4))
    else none
  else match ipInfo l with
    | none => none
    | some i =>
      let l := l.take (ipEnd l i)
      if !i.v6 then
        if i.proto = 1 ∧ i.dst = ip4 ∧ !i.extra ∧ byteAt l i.l4 = 8 then
          let r := turnMac l s
          let r := putAt r (i.l3 + 4) (beBytes (x.toNat % 65536) 2)
          let r := putAt r (i.l3 + 8) (beBytes (x.toNat / 2 ^ 24) 1)
          let r := putAt r (i.l3 + 12) (beBytes i.dst 4 ++ beBytes i.src 4)
          let r := putAt r i.l4 [0, 0, 0, 0]
          let r := putAt r (i.l4 + 2) (beBytes (inetSum (r.drop i.l4)) 2)
          some (fillSums r)
        else none
      else if i.proto = 58 ∧ byteAt l i.l4 = 128 ∧ i.dst = s.mgmtIp6 then
        let r := putAt (turnMac l s) (i.l3 + 7) (beBytes (x.toNat / 2 ^ 24) 1)
        let r := putAt r (i.l3 + 8) (beBytes i.dst 16 ++ beBytes i.src 16)
        some (fillSums (putAt r i.l4 (beBytes 129 1)))
      else if i.proto = 58 ∧ byteAt l i.l4 = 135 ∧ beAt l (i.l4 + 8) 16 = s.mgmtIp6 then
        let r := putAt (turnMac (l.take (i.l4 + 24)) s) (i.l3 + 4) (beBytes 32 2 ++ beBytes 58 1 ++ beBytes 255 1)
        let r := putAt r (i.l3 + 8) (beBytes s.mgmtIp6 16 ++ beBytes i.src 16)
        let r := putAt r i.l4 (beBytes 0x88000000 4 ++ beBytes 0x60000000 4 ++ beBytes s.mgmtIp6 16) ++ beBytes 0x0201 2 ++ beBytes (s.pmac 4) 6
        some (fillSums r)
      else none

/-- A frame on MGMT carries a command packet: UDP to `CMD_UDP.PORT` at one of MGMT's addresses (R393, R624). -/
def mgmtCommand (l : List Byte) (s : State) : Bool :=
  match udpInfo l with
  | some (i, _, dp) => dp = s.getF CMD_UDP.PORT && i.dst = (if i.v6 then s.mgmtIp6 else s.getF (NET_PIP4.ADDR 4))
  | none => false

/-- MGMT_FRAME_RECEIVED: a frame, FCS included, is received on MGMT: answered, left to its command row (a command packet, a PAUSE),
or dropped and counted (R393). -/
def execMgmtFrameReceived (l : List Byte) (s : State) : Host.Outcome State Fault Refusal :=
  finish <|
    let (ok, s) := receiveCheck 4 1522 l false s
    if !ok then s
    else if !sysFree s then s.incF (NET_RX_NOPOOL.COUNT 4) 1
    else if etherType l = 0x8808 then (if beAt l (typeOff l + 2) 2 = 1 then s else s.incF (NET_CTRL_OTHER.COUNT 4) 1)
    else
      let (x, s) := fresh Config.ipHeader s
      match mgmtAnswer l x s with
      | some r =>
        let out := withFcs r
        mgmtOut (.frame 4 out) out.length s
      | none => if mgmtCommand l s then s else s.incF (NET_NOTMINE.COUNT 4) 1

/-! ### Host buffers (R438) -/

/-- A read of `NET_HBUF_ALLOC`: one buffer for the host and the word read. -/
def hbufAlloc (s : State) : Word × State :=
  match drawBufs 1 ⟨1, 1, 1⟩ s with
  | some (l, s) => (wd (2 ^ 31 + l.headD 0), s)
  | none => (0, s)

/-- A write of `NET_HBUF_FREE`. -/
def hbufFree (v : Nat) (s : State) : State :=
  let i := v % 2048
  if s.net.bufs.any (fun b => b.1 = i ∧ b.2.own = 1) then dropBufs [i] s else netCfg s

/-- HBUF_ALLOC: the host reads `NET_HBUF_ALLOC` (R438). -/
def execHbufAlloc (s : State) : Host.Outcome State Fault Refusal :=
  let (w, s) := if s.hostOpen then hbufAlloc s else (0, s)
  finish (s.out (.readData [w]))

/-- HBUF_FREE: the host writes `NET_HBUF_FREE` (R438). -/
def execHbufFree (v : Word) (s : State) : Host.Outcome State Fault Refusal :=
  finish (if s.hostOpen then hbufFree v.toNat s else s)

/-! ### Transmit rings (R439 to R443) -/

/-- A descriptor breaks a rule of its own (R440). -/
def descBad (d : List Word) : Bool :=
  bits (nAt d 0) 11 12 ≠ 0 || bits (nAt d 1) 12 20 ≠ 0 || bits (nAt d 2) 24 8 ≠ 0 || bits (nAt d 2) 14 2 ≠ 0
    || bits (nAt d 1) 0 12 = 0 || 2048 < bits (nAt d 1) 0 12

/-- The data of a frame from its buffers. -/
def frameData (ds : List (List Word)) (s : State) : List Byte :=
  ds.flatMap fun d => (List.range (bits (nAt d 1) 0 12)).map fun k => s.byte (bufAddr (bits (nAt d 0) 0 11) + k)

/-- HDRLEN and MSS of a TSO frame are valid (R439, R441). -/
def tsoOk (l : List Byte) (d : List Word) (maxf : Nat) : Bool :=
  let hl := bits (nAt d 2) 16 8
  let mss := bits (nAt d 2) 0 14
  54 ≤ hl && hl ≤ 254 && hl ≤ bits (nAt d 1) 0 12 && 1 ≤ mss && mss + hl + 4 ≤ maxf && l.length - hl ≤ 65535
    && (match ipInfo l with | some i => i.proto = 6 && i.l4 + 4 * (byteAt l (i.l4 + 12) / 16) = hl | none => false)

/-- Segment number `k` of a TSO frame: its headers adjusted, its part of the data (R441). -/
def tsoSegment (l : List Byte) (hl mss k n : Nat) : List Byte :=
  let data := ((l.drop hl).drop (k * mss)).take mss
  match ipInfo l with
  | none => l
  | some i =>
    let h := l.take hl
    let h := if i.v6 then putAt h (i.l3 + 4) (beBytes (hl + data.length - i.l3 - 40) 2)
      else putAt (putAt h (i.l3 + 2) (beBytes (hl + data.length - i.l3) 2)) (i.l3 + 4) (beBytes (beAt h (i.l3 + 4) 2 + k) 2)
    let h := putAt h (i.l4 + 4) (beBytes (beAt h (i.l4 + 4) 4 + k * mss) 4)
    let f := byteAt h (i.l4 + 13)
    let f := if k + 1 = n then f else f &&& 0xF6
    let f := if k = 0 then f else f &&& 0x7F
    fillSums (putAt h (i.l4 + 13) (beBytes f 1) ++ data)

/-- One frame of transmit ring `r` is taken up: its descriptors `ds` by index (R397, R439 to R441). `err` where no LAST appears
within 64 descriptors. -/
def txFrame (r : Nat) (err : Bool) (ds : List (Nat × List Word)) (s : State) : State :=
  let ws := ds.map (·.2)
  let d0 := ws.headD []
  let p := bits (nAt d0 0) 28 2
  let maxf := s.getF (NET_PCFG.MAXF p)
  let bufs := ws.map fun d => bits (nAt d 0) 0 11
  let mine := bufs.filter fun i => s.net.bufs.any (fun b => b.1 = i ∧ b.2.own = 1)
  let data := frameData ws s
  let tso := bitOf (nAt d0 0) 24
  let bad := err || ws.any descBad || mine.length ≠ bufs.length || !decide bufs.Nodup || (tso && !tsoOk data d0 maxf)
  let id := s.net.txId
  let s := s.onNet fun u => { u with txId := u.txId + 1 }
  let s := ownBufs mine 2 s
  let s := onNRing true r (fun u => { u with out := u.out ++ [⟨id, ds.map (·.1), mine.eraseDups, false, none⟩] }) s
  if bad then completeTx r id 1 (s.incF (NET_TX_DESCERR.COUNT p) 1)
  else if !tso ∧ maxf < max 64 (data.length + 4) then completeTx r id 2 (s.incF (NET_TX_OVERSIZE.COUNT p) 1)
  else
    let pcp := bits (nAt d0 0) 25 3
    let hl := bits (nAt d0 2) 16 8
    let mss := bits (nAt d0 2) 0 14
    let n := if tso then max 1 (ceilDiv (data.length - hl) mss) else 1
    (List.range n).foldl (fun s k =>
      let bytes := if tso then tsoSegment data hl mss k n else if bitOf (nAt d0 0) 23 then hostSums data else data
      enqueueEg p ⟨1, pcp, isExpress p pcp s || ptpEvent bytes, bytes, [], some (r, id, k + 1 = n), 0, 0, 0⟩ s) s

/-- The frames that stand complete in the descriptors handed over are taken up (R439). -/
def txPump (r : Nat) : Nat → State → State
  | 0, s => s
  | k + 1, s =>
    if !s.flag (NET_TXCTRL.EN r) ∨ !s.flag CMD_STAT.LINKUP then s else
    let own := (s.nring true r).own
    match (own.take 64).findIdx? (fun d => bitOf (nAt d.2 0) 30) with
    | some i =>
      let s := onNRing true r (fun u => { u with own := own.drop (i + 1) }) s
      txPump r k (txFrame r false (own.take (i + 1)) s)
    | none =>
      if own.length < 64 then s
      else
        let s := onNRing true r (fun u => { u with own := own.drop 64 }) s
        txPump r k (txFrame r true (own.take 64) s)

/-- The PCIe link is up again: what waited to be written into the descriptors of transmit ring `r` is written, and the ring goes on
(R435). -/
def resumeTx (r : Nat) (s : State) : State :=
  let s := (s.nring true r).out.foldl (fun s f => match f.wait with | some st => finishTx r st f s | none => s) s
  txPump r (s.nring true r).own.length s

/-- A host write of `NET_TXTAIL` of ring `r`: the descriptors `ds` that stand in host memory from the old pointer on pass to the
device (R435, R439, R442). -/
def writeTxTail (r v : Nat) (ds : List (List Word)) (s : State) : State :=
  let u := s.nring true r
  if u.len ≤ v then netCfg s else
  let old := s.getF (NET_TXTAIL.PTR r)
  let n := (v + u.len - old) % u.len
  let new := (List.range n).map fun k => ((old + k) % u.len, (ds.getD k []))
  let s := s.setF (NET_TXTAIL.PTR r) v
  let s := onNRing true r (fun u => { u with own := u.own ++ new }) s
  let s := match u.staged with
    | some l =>
      if v < old then
        let s := onNRing true r (fun u => { u with len := l, staged := none }) s
        (s.setF (NET_TXHEAD.PTR r) (s.getF (NET_TXHEAD.PTR r) % l)).setF (NET_TXCTRL.LENPEND r) 0
      else s
    | none => s
  txPump r (s.nring true r).own.length s

/-- A host write of `NET_RXTAIL` of ring `r`: the buffers that the descriptors passed over still hold return to the pool (R436). -/
def writeRxTail (r v : Nat) (s : State) : State :=
  let u := s.nring false r
  if u.len ≤ v then netCfg s else
  let old := s.getF (NET_RXTAIL.PTR r)
  let n := (v + u.len - old) % u.len
  dropRxDescs r (fun i => decide ((i + u.len - old) % u.len < n)) (s.setF (NET_RXTAIL.PTR r) v)

/-- A write of 1 to `NET_TXCTRL.RESET` (R443): the frames taken up and the descriptors handed over complete with RESET, and their
buffers return; one that another ring's frame holds stays. -/
def resetTx (r : Nat) (s : State) : State :=
  let u := s.nring true r
  let live := u.out.filter fun f => !f.done
  let s := live.foldl (fun s f => (if f.wait.isSome then id else dropBufs f.bufs) (writeDone r (f.wait.getD 4) f.descs s)) s
  let s := writeDone r 4 (u.own.map (·.1)) s
  let named := (u.own.map fun d => bits (nAt d.2 0) 0 11).filter fun i => s.net.bufs.any (fun b => b.1 = i ∧ b.2.own = 1)
  let s := dropBufs named.eraseDups s
  let s := onNRing true r (fun u => { u with own := [], out := [] }) s
  let s := (List.range 4).foldl (fun s p => onNPort p (fun u => { u with q := u.q.filter fun f => match f.host with | some (k, _, _) => k ≠ r | none => true }) s) s
  (s.setF (NET_TXHEAD.PTR r) 0).setF (NET_TXTAIL.PTR r) 0

/-- A write of 1 to `NET_RXCTRL.RESET` (R443). -/
def resetRx (r : Nat) (s : State) : State :=
  ((dropRxDescs r (fun _ => true) s).setF (NET_RXHEAD.PTR r) 0).setF (NET_RXTAIL.PTR r) 0

/-- A new length of a ring is staged (R442), from 2 to 4,096. -/
def writeNetLen (tx : Bool) (r v : Nat) (s : State) : State :=
  let l := v % 8192
  if l < 2 ∨ 4096 < l then netCfg s
  else
    let s := if tx then (s.setF (NET_TXLEN.LEN r) l).setF (NET_TXCTRL.LENPEND r) 1
      else (s.setF (NET_RXLEN.LEN r) l).setF (NET_RXCTRL.LENPEND r) 1
    onNRing tx r (fun u => { u with staged := some l }) s

/-- A write of the control register of a ring: reset, then enable (R443, R447). -/
def writeNetCtrl (tx : Bool) (r v : Nat) (s : State) : State :=
  let s := if bitOf v 1 then (if tx then resetTx r s else resetRx r s) else s
  if tx then
    let s := s.setF (NET_TXCTRL.EN r) (v % 2)
    txPump r (s.nring true r).own.length s
  else s.setF (NET_RXCTRL.EN r) (v % 2)

/-- TXTAIL_WRITE (R439). -/
def execTxtailWrite (r : Nat) (v : Word) (ds : List (List Word)) (s : State) : Host.Outcome State Fault Refusal :=
  finish (if s.hostOpen ∧ r < 8 then writeTxTail r (v.toNat % 4096) ds s else s)

/-- RXTAIL_WRITE (R436). -/
def execRxtailWrite (r : Nat) (v : Word) (s : State) : Host.Outcome State Fault Refusal :=
  finish (if s.hostOpen ∧ r < 8 then writeRxTail r (v.toNat % 4096) s else s)

/-- TX_RING_RESET (R443). -/
def execTxRingReset (r : Nat) (s : State) : Host.Outcome State Fault Refusal := finish (if s.hostOpen ∧ r < 8 then resetTx r s else s)

/-- RX_RING_RESET (R443). -/
def execRxRingReset (r : Nat) (s : State) : Host.Outcome State Fault Refusal := finish (if s.hostOpen ∧ r < 8 then resetRx r s else s)

/-- NET_RING_LEN_WRITE (R442). -/
def execNetRingLenWrite (tx : Bool) (r : Nat) (v : Word) (s : State) : Host.Outcome State Fault Refusal :=
  finish (if s.hostOpen ∧ r < 8 then writeNetLen tx r v.toNat s else s)

end Sys2Proof.Machine
end

