-- ==== Sys2Proof/Machine/Streams.lean ====
section
/-! DEFINITION. Stream contexts (chapter 09): configuration, starts and stops, receive placement and playout, transmit. -/

namespace Sys2Proof.Machine

/-! ### Parameters (R414 to R418) -/

/-- Sample rate of a context in Hz. -/
def rateHz (c : Nat) : Nat := match c with | 0 => 48000 | 1 => 96000 | _ => 192000

/-- Word 0 of a context. -/
def CtxU.w0 (u : CtxU) : Nat := nAt u.words 0
/-- RATE. -/
def CtxU.rate (u : CtxU) : Nat := bits u.w0 26 2
/-- NCH. -/
def CtxU.nch (u : CtxU) : Nat := bits u.w0 15 7
/-- FIRSTCH. -/
def CtxU.first (u : CtxU) : Nat := bits u.w0 0 12
/-- DELAY. -/
def CtxU.delay (u : CtxU) : Nat := bits (nAt u.words 1) 0 16
/-- Bytes of a sample on the wire. -/
def CtxU.bytesPer (u : CtxU) : Nat := bits u.w0 22 2 + 2
/-- Converted. -/
def CtxU.conv (u : CtxU) : Bool := bitOf u.w0 29

/-- Samples per packet (R416). -/
def sppOf (rate ptime : Nat) : Nat :=
  (match rate with | 0 => 6 | 1 => 12 | _ => 24) * (match ptime with | 0 => 1 | 1 => 2 | _ => 8)

/-- Samples per packet of a context. -/
def CtxU.spp (u : CtxU) : Nat := sppOf u.rate (bits u.w0 24 2)

/-- Frame length F of a context's packets (R417). -/
def CtxU.frameLen (u : CtxU) : Nat :=
  14 + 4 * b2n (bitOf (nAt u.words 2) 28) + (if bitOf u.w0 14 then 40 else 20) + 8 + 12 + u.nch * u.spp * u.bytesPer + 4

/-- Context `c` receives (R413). -/
def State.isRx (s : State) (c : Nat) : Bool := c < s.getF NET_SPART.RXCOUNT

/-- Every field of the words is in its range (R414, R417). -/
def ctxValid (c : Nat) (u : CtxU) (s : State) : Bool :=
  let w := fun k => nAt u.words k
  let rx := s.isRx c
  let v6 := bitOf u.w0 14
  u.rate ≠ 3 && bits u.w0 24 2 ≠ 3 && bits u.w0 22 2 ≠ 3 && 1 ≤ u.nch && u.nch ≤ 64 && u.first + u.nch ≤ netChans s
    && bits (w 1) 16 16 = 0 && (if rx then u.spp ≤ u.delay && u.delay ≤ 19200 else u.delay = 0)
    && bits (w 2) 16 12 ≤ 4094 && bits (w 2) 8 2 = 0 && 1 ≤ bits (w 2) 0 8
    && (!rx || bits (w 3) 0 16 = 0) && bits (w 4) 7 9 = 0 && bits (w 8) 16 16 = 0
    && (v6 || (w 10 = 0 && w 11 = 0 && w 12 = 0 && w 14 = 0 && w 15 = 0 && w 16 = 0))
    && (rx || (w 13 = 0 && w 14 = 0 && w 15 = 0 && w 16 = 0)) && w 17 = 0 && w 18 = 0 && w 19 = 0
    && u.frameLen ≤ s.getF (NET_PCFG.MAXF u.port)

/-- PTP counts as the selected reference (R419, R508). -/
def ptpRef (s : State) : Bool :=
  s.getF CLK_STAT.SEL = 5 && (s.getF CLK_STAT.STATE = 1 || s.getF CLK_STAT.STATE = 2) && s.flag CLK_STAT.PTPGRID

/-- A Locked context is admitted (R419, R523). -/
def ctxLockedOk (c : Nat) (u : CtxU) (s : State) : Bool :=
  u.conv || (u.rate = s.getF SYS_CFG.RATE &&
    (if bitOf u.w0 28 then s.isRx c && s.getF (CLK_CAND.SRC 7) = c else ptpRef s))

/-- Status of STREAM_CFG for context `c` with its 20 words: BADARG, BUSY while it is started or about to be, else OK (R414, R417,
R419). -/
def ctxCheck (c : Nat) (words : List Word) (s : State) : Nat :=
  let u := { s.ctx c with words := words }
  if 1024 ≤ c then 3
  else if (s.ctx c).st ≠ 0 ∨ s.net.reqs.any (fun x => x.1 = c) then 5
  else if !ctxValid c u s ∨ !ctxLockedOk c u s then 3 else 0

/-! ### Starts and stops (R420, R424, R428, R429, R433) -/

/-- Packets that a context reserves (R424, R429). -/
def reservePackets (c : Nat) (u : CtxU) (s : State) : Nat := if s.isRx c then ceilDiv (u.delay + s.n) u.spp + 2 else 2

/-- Buffers that a context reserves. -/
def reserveBufs (c : Nat) (u : CtxU) (s : State) : Nat := reservePackets c u s * ceilDiv u.frameLen 2048

/-- Started contexts of a direction, with their numbers. -/
def State.started (s : State) (rx : Bool) : List (Nat × CtxU) := s.net.ctx.filter fun x => x.2.st ≠ 0 && s.isRx x.1 == rx

/-- Channels of started streams of a direction, on one port or on all. -/
def streamChans (rx : Bool) (port : Option Nat) (s : State) : Nat :=
  (s.started rx).foldl (fun a x => if port = none ∨ port = some x.2.port then a + x.2.nch else a) 0

/-- Claim held on a stream channel of a direction (R420, R599). -/
def streamClaim (rx : Bool) (i : Nat) (s : State) : Option Nat :=
  ((if rx then s.fab.rxClaim else s.fab.txClaim).find? (fun x => x.1 = i)).map (·.2)

/-- The first channel of a context that another one holds. -/
def claimedChan (c : Nat) (u : CtxU) (s : State) : Option Nat :=
  ((List.range u.nch).map (u.first + ·)).find? fun i => (streamClaim (s.isRx c) i s).isSome

/-- Status with which the start of context `c` is refused at this moment, 0 for none (R417, R419 to R421, R424, R428, R429, R90). -/
def streamStartCheck (c : Nat) (s : State) : Nat :=
  let u := s.ctx c
  let rx := s.isRx c
  let same := (s.started true).any fun x =>
    x.1 ≠ c && x.2.port = u.port && bitOf x.2.w0 14 = bitOf u.w0 14 && (x.2.words.drop 9).take 4 = (u.words.drop 9).take 4
      && nAt x.2.words 3 / 65536 = nAt u.words 3 / 65536
  if !ctxValid c u s ∨ !ctxLockedOk c u s then 3
  else if (rx ∧ same) ∨ (claimedChan c u s).isSome then 6
  else if netChans s / 4 < streamChans rx (some u.port) s + u.nch ∨ netChans s < streamChans rx none s + u.nch
      ∨ 4096 < portChans (!rx) s + u.nch then 7
  else if s.bufMax 3 < s.net.ctx.foldl (fun a x => a + x.2.resv) 0 + reserveBufs c u s then 7
  else if u.conv ∧ 1024 < s.asrcUse + u.nch then 7
  else 0

/-- Concealment key of channel `i` of the stream receive space. -/
def streamKey (i : Nat) : Nat := 0x4000 + i

/-- Index on a rate of the instant of the latest shot boundary: floor(t × RATE) (R430). -/
def rateIndex (hz : Nat) (s : State) : Nat := (s.ptp.shotSec * 1000000000 + s.ptp.shotNs) * hz / 1000000000

/-- Released samples of a started transmit context enter it at a boundary (R28, R430): one list per sample, of its channels. Samples
that follow on no earlier ones begin afresh: the context goes on with the first packet whose first sample lies at or after them, the
packets due before it counted in its sequence numbers (R433, R724). A Converted one, which counts at the PTP time, goes on from its
index where the time has stepped. -/
def streamRelease (c : Nat) (s : State) : State :=
  let u := s.ctx c
  if u.st = 0 ∨ s.isRx c then s
  else if u.conv then
    let i := rateIndex (rateHz u.rate) s
    let q := u.spp + s.n * rateHz u.rate / s.fs + 1
    if u.next + q < i ∨ i + q < u.next then onCtx c (fun v => { v with next := ceilDiv i u.spp * u.spp }) s else s
  else if !releases s then onCtx c (fun u => { u with tx := [] }) s
  else
    let chans := (List.range u.nch).map fun k => (releasedBlk (0x5000 + u.first + k) s).samples
    let rows := (List.range s.n).map fun i => chans.map fun l => l.getD i 0
    let at_ := s.shot * s.n
    if u.txBase + u.tx.length = at_ then onCtx c (fun v => { v with tx := v.tx ++ rows }) s
    else
      let next := if at_ ≤ u.next ∧ u.next ≤ at_ + u.spp then u.next else ceilDiv at_ u.spp * u.spp
      onCtx c (fun v => { v with
        tx := rows, txBase := at_, next := next, txSeq := (v.txSeq + (next - v.next) / u.spp) % 65536 }) s

/-- Context `c` starts at its boundary (R433), or is refused. -/
def startCtx (c : Nat) (s : State) : State :=
  let u := s.ctx c
  if u.st ≠ 0 then s else
  let st := streamStartCheck c s
  if st ≠ 0 then
    match st, claimedChan c u s with
    | 6, some i => raise 0x02 0 (2 * 2 ^ 24 + i) s
    | _, _ => s
  else
    let rx := s.isRx c
    let cl := (List.range u.nch).map fun k => (u.first + k, c)
    let s := s.onFab fun f => if rx then { f with rxClaim := f.rxClaim ++ cl } else { f with txClaim := f.txClaim ++ cl }
    let asrc := if u.conv then u.nch else 0
    let s := s.onNet fun n => { n with asrc := n.asrc + asrc }
    let s := if rx then s.onCs fun x => { x with conceal := smKeep (fun k => !(streamKey u.first ≤ k ∧ k < streamKey (u.first + u.nch))) x.conceal } else s
    let base := if rx then s.shot * s.n else
      let i := if u.conv then rateIndex (rateHz u.rate) s else s.shot * s.n
      ceilDiv i u.spp * u.spp
    let s := onCtx c (fun v => { v with
      st := 1, lost := false, seq := none, offset := none, got := [], held := [], next := base, playing := false, unl := false,
      txSeq := bits (nAt v.words 4) 16 16, since := s.shot, tx := [], txBase := 0, resv := reserveBufs c u s, asrc := asrc, lock := false }) s
    streamRelease c s

/-- Context `c` stops at its boundary: ASRC channels, buffers and claims return in one cycle (R433). -/
def stopCtx (c : Nat) (s : State) : State :=
  let u := s.ctx c
  if u.st = 0 then s else
  let s := s.onFab fun f => { f with rxClaim := f.rxClaim.filter fun x => !(s.isRx c ∧ x.2 = c), txClaim := f.txClaim.filter fun x => !(!s.isRx c ∧ x.2 = c) }
  let s := s.onNet fun n => { n with asrc := n.asrc - u.asrc }
  let s := dropBufs (u.held.flatMap (·.2)) s
  let s := dropBufs ((s.net.matched.filter fun m => m.1 = c).flatMap (·.2.2)) s
  let s := s.onNet fun n => { n with matched := n.matched.filter fun m => m.1 ≠ c }
  onCtx c (fun v => { v with
    st := 0, lost := false, got := [], held := [], tx := [], resv := 0, asrc := 0, lock := false, playing := false, unl := false }) s

/-- Starts or stops of context `c` that are due at the running shot act in order of acceptance (R368, R433). -/
def actCtx (c : Nat) (start : Bool) (s : State) : State :=
  let due := fun (x : Nat × Sched) => x.1 = c && x.2.start = start && (match x.2.shot with | some n => decide (n ≤ s.shot) | none => false)
  let l := s.net.reqs
  let s := s.onNet fun u => { u with reqs := l.filter fun x => !due x }
  (l.filter due).foldl (fun s _ => if start then startCtx c s else stopCtx c s) s

/-- STREAM_START_ACT (R433). -/
def execStreamStartAct (c : Nat) (s : State) : Host.Outcome State Fault Refusal := finish (if c < 1024 then actCtx c true s else s)

/-- Every started context stops and pending commands are dropped (R761). -/
def stopStreams (s : State) : State :=
  (s.net.ctx.map (·.1)).foldl (fun s c => stopCtx c s) (s.onNet fun u => { u with reqs := [] })

/-- `NET_CSTAT` of the selected context (R447). -/
def ctxStat (u : CtxU) : Nat := 8 * b2n u.lost + 4 * b2n (0 < u.asrc && u.lock) + u.st

/-- ASRC_LOCK: ASRC channels declare lock or unlock (R363): `kind` 0 the input of port `i`, 1 its output, 2 stream context `i`. -/
def execAsrcLock (kind i : Nat) (lock : Bool) (s : State) : Host.Outcome State Fault Refusal :=
  finish <|
    match kind with
    | 0 => if i < 64 then portAsrc false i lock s else s
    | 1 => if i < 64 then portAsrc true i lock s else s
    | _ => if i < 1024 ∧ 0 < (s.ctx i).asrc ∧ !(lock ∧ (s.ctx i).lost) then onCtx i (fun u => { u with lock := lock, unl := u.unl || !u.lock || !lock }) s else s

/-! ### Receive (R421 to R428) -/

/-- A matched frame breaks a rule of R422; else the offset of its RTP payload. -/
def rtpPayload (u : CtxU) (l : List Byte) : Option Nat :=
  let l := l.take (l.length - 4)
  match udpInfo l with
  | none => none
  | some (i, _, _) =>
    let sum := beAt l (i.l4 + 6) 2
    let rtp := i.l4 + 8
    let b0 := byteAt l rtp
    let ext := rtp + 12 + 4 * (b0 % 16)
    let pay := if bitOf b0 4 then ext + 4 + 4 * beAt l (ext + 2) 2 else ext
    let stop := i.l4 + beAt l (i.l4 + 4) 2
    let pad := if bitOf b0 5 then byteAt l (stop - 1) else 0
    if i.extra ∨ !ipSumOk l i ∨ ((i.v6 ∨ sum ≠ 0) ∧ sum16 (l4Cover l i) ≠ 65535) ∨ b0 / 64 ≠ 2
        ∨ byteAt l (rtp + 1) % 128 ≠ bits (nAt u.words 4) 0 7 ∨ stop < pay + pad ∨ stop - pay - pad ≠ u.nch * u.spp * u.bytesPer then none
    else some pay

/-- The samples of a payload: per sample position its channels, widened under R56. -/
def payloadSamples (u : CtxU) (l : List Byte) (pay : Nat) : List (List Word) :=
  (List.range u.spp).map fun k => (List.range u.nch).map fun ch =>
    widenSlot (8 * u.bytesPer) (beAt l (pay + (k * u.nch + ch) * u.bytesPer) u.bytesPer)

/-- The internal index nearest to `now` that is congruent to `x` modulo 2^32 (R423). -/
def nearIndex (x now : Nat) : Int :=
  let d := sgn 32 ((x + 2 ^ 32 - now % 2 ^ 32) % 2 ^ 32)
  (now : Int) + d

/-- The sequence number of a packet: a gap adds to LOST, a lower number counts nowhere (R427). -/
def seqStep (c seq : Nat) (s : State) : State :=
  match (s.ctx c).seq with
  | none => onCtx c (fun u => { u with seq := some ((seq + 1) % 65536) }) s
  | some e =>
    let d := (seq + 65536 - e) % 65536
    if d < 32768 then onCtx c (fun u => { u with seq := some ((seq + 1) % 65536) }) (incCtx c 1 d s) else s

/-- An accepted packet is counted, and ends a loss and the start-up (R426, R433, R691). -/
def acceptCtx (c : Nat) (s : State) : State :=
  countG 0x40 1 (onCtx c (fun u => { u with st := 2, lost := false }) (incCtx c 0 1 s))

/-- The samples of a Locked packet are placed from internal index `m` on (R423, R425). -/
def placeLocked (c : Nat) (m : Int) (xs : List (List Word)) (bufs : List Nat) (s : State) : State :=
  let u := s.ctx c
  let all := xs.zipIdx.map fun x => (m + x.2, x.1)
  let open_ := all.filter fun x => (u.next : Int) ≤ x.1
  let have_ := fun (k : Int) => u.got.any fun g => (g.1 : Int) = k
  if !open_.isEmpty ∧ open_.all (fun x => have_ x.1) then dropBufs bufs (incCtx c 4 1 s)
  else
    let s := if open_.length < all.length then incCtx c 2 1 s else s
    let new := (open_.filter fun x => !have_ x.1).map fun x => (x.1.toNat, x.2)
    let s := if open_.isEmpty then dropBufs bufs s
      else onCtx c (fun u => { u with got := u.got ++ new, held := u.held ++ [((m + xs.length).toNat, bufs)] }) s
    acceptCtx c s

/-- The samples of a Converted packet enter the buffer in timestamp order (R425, R428): their indices extend the RTP timestamps. A
packet whose samples are all there is a duplicate; samples before the next to be read are late. -/
def placeConv (c t : Nat) (bufs : List Nat) (s : State) : State :=
  let u := s.ctx c
  let idle := !u.playing && u.got.isEmpty
  let m : Int := if idle then (t : Int) + 2 ^ 32 else nearIndex t u.txBase
  let all := (List.range u.spp).map fun i => m + i
  let open_ := if u.playing then all.filter fun x => decide ((u.txBase : Int) ≤ x) else all
  let new := open_.filter fun x => !(u.got.any fun g => (g.1 : Int) = x)
  if !open_.isEmpty ∧ new.isEmpty then dropBufs bufs (incCtx c 4 1 s)
  else
    let s := if open_.length < all.length then incCtx c 2 1 s else s
    let s := if open_.isEmpty then dropBufs bufs s
      else onCtx c (fun v => { v with
        got := v.got ++ new.map fun x => (x.toNat, []), held := v.held ++ [((m + u.spp).toNat, bufs)],
        txBase := if idle then m.toNat else if u.playing then v.txBase else min v.txBase m.toNat }) s
    acceptCtx c s

/-- STREAM_PACKET_ACCEPT: the oldest frame that matched context `c` is checked and its samples placed; `pos` is the sample position
in the running shot at which its reception completes (R422 to R428). -/
def packetAccept (c pos : Nat) (s : State) : State :=
  match s.net.matched.find? (fun m => m.1 = c) with
  | none => s
  | some (_, l, bufs) =>
    let s := s.onNet fun n => { n with matched := n.matched.eraseP fun m => m.1 = c }
    let u := s.ctx c
    if u.st = 0 ∨ !s.isRx c then dropBufs bufs s else
    match rtpPayload u l, udpInfo l with
    | some pay, some (i, _, _) =>
      if reservePackets c u s ≤ u.held.length then dropBufs bufs (incCtx c 3 1 s) else
      let now := s.shot * s.n + pos
      let rtp := i.l4 + 8
      let s := seqStep c (beAt l (rtp + 2) 2) s
      let t := beAt l (rtp + 4) 4
      if u.conv then placeConv c t bufs s
      else
        let off := if bitOf u.w0 28 then (match u.offset with | some o => if u.lost then (now + u.delay + 2 ^ 32 - t) % 2 ^ 32 else o | none => (now + u.delay + 2 ^ 32 - t % 2 ^ 32) % 2 ^ 32)
          else (u.delay + 2 ^ 32 - nAt u.words 6) % 2 ^ 32
        let s := onCtx c (fun u => { u with offset := some (off % 2 ^ 32) }) s
        placeLocked c (nearIndex ((t + off) % 2 ^ 32) now) (payloadSamples u l pay) bufs s
    | _, _ => dropBufs bufs (incCtx c 5 1 s)

/-- The block of channel `k` of a Locked context from the samples placed (R85, R425). -/
def lockedBlk (c k base : Nat) (s : State) : Blk × State :=
  let u := s.ctx c
  let key := streamKey (u.first + k)
  let r := (List.range s.n).foldl (fun (acc : List Word × Bool × State) i =>
    match u.got.find? (fun g => g.1 = base + i) with
    | some g => let x := g.2.getD k 0; (acc.1 ++ [x], acc.2.1, delivered key x acc.2.2)
    | none => let (l, t) := concealSamples key 1 acc.2.2; (acc.1 ++ l, true, t)) ([], false, s)
  (⟨r.1, mkBsw 3 ((if r.2.1 then bswCONCEALED else 0) + (if u.lost then bswLOST else 0))⟩, r.2.2)

/-- ASRC_UNLOCKED of a Converted context's block: its ASRC was unlocked at one or more of the block's samples (R73, R91). -/
def ctxUnlocked (u : CtxU) : Nat := if u.lock && !u.unl then 0 else bswUNLOCKED

/-- The block of channel `k` of a Converted context whose output samples have or lack their input by `play`: converted samples have
no stated value (R428). -/
def convBlk (c k : Nat) (play : List Bool) (s : State) : Blk × State :=
  let u := s.ctx c
  let key := streamKey (u.first + k)
  let flags := ctxUnlocked u + (if u.lost then bswLOST else 0) + (if play.all id then 0 else bswCONCEALED)
  let r := play.foldl (fun (acc : List Word × State) b =>
    if b then let (x, t) := fresh Config.asrcSample acc.2; (acc.1 ++ [x], delivered key x t)
    else let (l, t) := concealSamples key 1 acc.2; (acc.1 ++ l, t)) ([], s)
  let (clip, s) := if play.any id then fresh Config.asrcClip r.2 else (false, r.2)
  (⟨r.1, mkBsw 4 (flags + (if clip then bswCLIPPED else 0))⟩, s)

/-- Samples that a Converted context reads for a block at the tracked ratio of R363: the nominal number, within one. -/
def convNeed (c : Nat) (s : State) : Nat × State :=
  let (k, s) := fresh Config.trackStep s
  (s.n * rateHz (s.ctx c).rate / s.fs + k % 3 - 1, s)

/-- The playout buffer of a Converted context in a block (R428): it starts with DELAY samples, is read at the tracked ratio, and is
centred again, with a count, where it empties or fills. Answers for each output sample whether its input was there. From the first
accepted packet until DELAY samples are in, where the spec states no flags, the samples are concealed and not UNSETTLED (DESIGN CHOICE,
log entry 178). -/
def convStep (c : Nat) (s : State) : List Bool × State :=
  let u := s.ctx c
  let none_ := List.replicate s.n false
  let cap := reservePackets c u s * u.spp
  if u.lost ∨ (!u.playing ∧ u.got.length < u.delay) then (none_, s)
  else if u.playing ∧ cap ≤ u.got.length then
    let to_ := u.txBase + (u.got.length - u.delay)
    (none_, onCtx c (fun v => { v with txBase := to_, got := v.got.filter fun g => decide (to_ ≤ g.1) }) (incCtx c 3 1 s))
  else
    let (need, s) := convNeed c s
    let stop := u.txBase + need
    let play := (List.range s.n).map fun i => u.got.any fun g => g.1 = u.txBase + i * need / s.n
    if play.all id ∨ u.got.any (fun g => decide (stop ≤ g.1)) then
      (play, onCtx c (fun v => { v with playing := true, txBase := stop, got := v.got.filter fun g => decide (stop ≤ g.1) }) s)
    else (none_, onCtx c (fun v => { v with playing := false }) (incCtx c 2 1 s))

/-- The input block of context `c` for the running shot is written, once (R425, R433). -/
def streamBlock (c : Nat) (s : State) : State :=
  let u := s.ctx c
  let base := s.shot * s.n
  if u.st = 0 ∨ !s.isRx c ∨ base + s.n ≤ u.next then s
  else if u.st = 1 then
    let b : Blk := ⟨List.replicate s.n 0,
      mkBsw (if u.conv then 4 else 3) (bswUNSETTLED + (if u.conv then ctxUnlocked u else 0) + (if u.lost then bswLOST else 0))⟩
    let s := onCtx c (fun v => { v with next := base + s.n, unl := false }) s
    (List.range u.nch).foldl (fun s k => putBlk aIN (streamKey (u.first + k)) b s) s
  else
    let (play, s) := if u.conv then convStep c s else ((List.range s.n).map fun i => u.got.any (fun g => g.1 = base + i), s)
    let s := (List.range u.nch).foldl (fun s k =>
      let (b, s) := if u.conv then convBlk c k play s else lockedBlk c k base s
      putBlk aIN (streamKey (u.first + k)) b s) s
    let s := if play.all id then s else incCtx c 6 1 s
    let stop := base + s.n
    let read := if u.conv then (s.ctx c).txBase else stop
    let gone := ((s.ctx c).held.filter fun x => decide (x.1 ≤ read)).flatMap (·.2)
    dropBufs gone (onCtx c (fun v => { v with
      next := stop, unl := false, got := v.got.filter fun g => decide (read ≤ g.1), held := v.held.filter fun x => decide (read < x.1) }) s)

/-- STREAM_BLOCK_WRITE: the input block of context `c` is written 2 Ts before the boundary that closes the running shot (R425). -/
def execStreamBlockWrite (c : Nat) (s : State) : Host.Outcome State Fault Refusal := finish (if c < 1024 then streamBlock c s else s)

/-- Every started receive context has its block written by the boundary. -/
def allStreamInputs (s : State) : State := (s.net.ctx.map (·.1)).foldl (fun s c => streamBlock c s) s

/-- Every started transmit context takes up the released blocks. -/
def allStreamReleases (s : State) : State := (s.net.ctx.map (·.1)).foldl (fun s c => streamRelease c s) s

/-! ### Transmit (R430, R431) -/

/-- The frame of a stream packet, checksums filled (R414 to R416, R430); `x` holds the header fields that the spec leaves open. -/
def streamFrame (u : CtxU) (seq ts : Nat) (payload : List Byte) (x : Word) (s : State) : List Byte :=
  let w := fun k => nAt u.words k
  let p := u.port
  let v6 := bitOf u.w0 14
  let tos := bits (w 2) 10 6 * 4 + bits x.toNat 17 2
  let rtp := beBytes 0x80 1 ++ beBytes (bits (w 4) 0 7) 1 ++ beBytes seq 2 ++ beBytes ts 4 ++ beBytes (w 5) 4 ++ payload
  let udp := beBytes (bits (w 3) 0 16) 2 ++ beBytes (w 3 / 65536) 2 ++ beBytes (rtp.length + 8) 2 ++ beBytes 0 2 ++ rtp
  let ip :=
    if v6 then
      beBytes (6 * 2 ^ 28 + tos * 2 ^ 20 + x.toNat % 2 ^ 20) 4 ++ beBytes udp.length 2 ++ beBytes 17 1 ++ beBytes (bits (w 2) 0 8) 1
        ++ beBytes (s.getF (NET_PIP6_0.ADDR p)) 4 ++ beBytes (s.getF (NET_PIP6_1.ADDR p)) 4 ++ beBytes (s.getF (NET_PIP6_2.ADDR p)) 4
        ++ beBytes (s.getF (NET_PIP6_3.ADDR p)) 4 ++ beBytes (w 9) 4 ++ beBytes (w 10) 4 ++ beBytes (w 11) 4 ++ beBytes (w 12) 4
    else
      beBytes 0x45 1 ++ beBytes tos 1 ++ beBytes (udp.length + 20) 2 ++ beBytes (x.toNat % 65536) 2 ++ beBytes (if bitOf x.toNat 16 then 0x4000 else 0) 2
        ++ beBytes (bits (w 2) 0 8) 1 ++ beBytes 17 1 ++ beBytes 0 2 ++ beBytes (s.getF (NET_PIP4.ADDR p)) 4 ++ beBytes (w 9) 4
  let tag := if bitOf (w 2) 28 then beBytes 0x8100 2 ++ beBytes (bits (w 2) 29 3 * 8192 + bits (w 2) 16 12) 2 else []
  fillSums (beBytes (bits (w 8) 0 16) 2 ++ beBytes (w 7) 4 ++ beBytes (s.pmac p) 6 ++ tag ++ beBytes (if v6 then 0x86DD else 0x0800) 2 ++ ip ++ udp)

/-- Packet time of a context in CLK_PER periods (R408, R414). -/
def packetTime (u : CtxU) : Nat := 19200 * (match bits u.w0 24 2 with | 0 => 1 | 1 => 2 | _ => 8)

/-- STREAM_PACKET_SEND: the next packet of transmit context `c` is built, where its samples have been released, and queued
(R430, R431). -/
def packetSend (c : Nat) (s : State) : State :=
  let u := s.ctx c
  if u.st = 0 ∨ s.isRx c ∨ !releases s then s else
  let spp := u.spp
  let avail := u.conv || (u.txBase ≤ u.next && u.next + spp ≤ u.txBase + u.tx.length)
  if !avail then s else
  let (rows, s) := if u.conv then
      (List.range spp).foldl (fun (acc : List (List Word) × State) _ => let (l, t) := freshN Config.asrcSample u.nch acc.2; (acc.1 ++ [l], t)) ([], s)
    else ((u.tx.drop (u.next - u.txBase)).take spp, s)
  let w := 8 * u.bytesPer
  let payload := rows.flatMap fun r => r.flatMap fun x => beBytes (narrowSlot w x) u.bytesPer
  let sats := rows.foldl (fun a r => r.foldl (fun a x => a + b2n (narrowSat w x)) a) 0
  let ts := (u.next + nAt u.words 6) % 2 ^ 32
  let (x, s) := fresh Config.ipHeader s
  let bytes := streamFrame u u.txSeq ts payload x s
  let s := incCtx c 7 sats s
  let s := onCtx c (fun v => { v with
    txSeq := (v.txSeq + 1) % 65536, next := v.next + spp,
    tx := v.tx.drop (v.next + spp - v.txBase), txBase := max v.txBase (v.next + spp) }) s
  match drawBufs (bufsFor (bytes.length + 4)) ⟨3, 1, 0⟩ s with
  | none => s.incF (NET_TX_LATE.COUNT u.port) 1
  | some (bufs, s) =>
    let pcp := bits (nAt u.words 2) 29 3
    enqueueEg u.port ⟨2, pcp, isExpress u.port pcp s, bytes, bufs, none, c, 0, s.time + packetTime u⟩ (storeFrame bytes bufs s)

/-- STREAM_PACKET_SEND (R430). -/
def execStreamPacketSend (c : Nat) (s : State) : Host.Outcome State Fault Refusal := finish (if c < 1024 then packetSend c s else s)

/-! ### Register writes with conditions (R413, R446) -/

/-- A context is started. -/
def anyStream (s : State) : Bool := s.net.ctx.any fun x => x.2.st ≠ 0

/-- A write to a NET register that has a range or a condition of its own; others fall under their access codes. -/
def writeNetReg (off v : Nat) (s : State) : State :=
  let a := 0x60000 + off
  if off < 0x1400 ∧ off % 0x400 = 0 then writePcfg (off / 0x400) v s
  else if off < 0x1400 ∧ off % 0x400 = 0x28 then (if v % 65536 < 1 ∨ 10000 < v % 65536 then netCfg s else s.setReg a (wd (v % 65536)))
  else if off = 0x3000 then
    let h := bits v 0 11
    let b := bits v 16 11
    if 1984 < h + b then netCfg s else if anyStream s then s else s.setReg a (wd (b * 65536 + h))
  else if off = 0x3008 then
    let r := v % 1024
    if r % 64 ≠ 0 ∨ r < 64 ∨ 960 < r then netCfg s else if anyStream s then s else s.setReg a (wd r)
  else if off = 0x3010 then hbufFree v s
  else if off = 0x3014 then (if v % 65536 < 10 then netCfg s else s.setReg a (wd (v &&& 0x0F00FFFF)))
  else if 0x2000 ≤ off ∧ off < 0x2300 then
    let tx := decide (0x2200 ≤ off)
    let r := off % 0x200 / 0x20
    match off % 0x20 with
    | 0x00 => if (if tx then s.flag (NET_TXCTRL.EN r) else s.flag (NET_RXCTRL.EN r)) then s else s.setReg a (wd (v &&& 0xFFFFFFC0))
    | 0x04 => s.setReg a (wd v)
    | 0x08 => writeNetLen tx r v s
    | 0x10 => if tx then writeTxTail r (v % 4096) [] s else writeRxTail r (v % 4096) s
    | 0x14 => writeNetCtrl tx r v s
    | _ => s
  else s

end Sys2Proof.Machine
end

