-- ==== Sys2Proof/Machine/Dailies.lean ====
section
/-! DEFINITION. Dailies (chapter 10): bitstream clocks, lanes, meter points, detectors and meter frames. -/

namespace Sys2Proof.Machine

/-- Lane `l` beside its registers. -/
def State.lane (s : State) (l : Nat) : LaneU := smGet LaneU.reset s.dl.lanes l

/-- Lane `l` replaced by its image under `f`. -/
def onLane (l : Nat) (f : LaneU → LaneU) (s : State) : State :=
  s.onDl fun u => { u with lanes := smPut LaneU.reset l (f (smGet LaneU.reset u.lanes l)) u.lanes }

/-- A DL_CFG message whose ADDR a rule gives (R449, R450). -/
def dlCfg (n : Nat) (s : State) : State := raise 0x33 0 n s

/-- A DL_CFG message for a register of no lane or clock (R477). -/
def dlCfgOpen (s : State) : State := raiseOpen 0x33 s

/-- State of lane `l`: 0 STOPPED, 1 SETTLING, 2 RUNNING, 3 LOST. -/
def State.lstate (s : State) (l : Nat) : Nat := s.getF (DL_LSTAT.STATE l)

/-- K − 1 of a word of `DL_LDLYl` (R457). -/
def rankLess1 (w : Nat) : Nat := 2 * bits w 16 2

/-- DELAY of a word of `DL_LDLYl`. -/
def delayOf (w : Nat) : Nat := bits w 0 15

/-- Latency of a lane in 1/128 Ts (R458). -/
def laneLat (w : Nat) : Nat := 5120 + 64 * rankLess1 w + delayOf w

/-- U0 of R460. -/
def laneU0 (w : Nat) : Nat := 120 + rankLess1 w + ceilDiv (delayOf w) 128

/-- Samples from index `now` on that lie in a run marked UNSETTLED; runs that overlap are one (R461). -/
def unsetLeft (u : LaneU) (now : Nat) : Nat :=
  let stop := u.marks.foldl (fun a x => max a x.2) now
  ((List.range (stop - now)).filter fun i => u.marks.any fun x => decide (x.1 ≤ now + i) && decide (now + i < x.2)).length

/-- `DL_LSTATl.UNSET` where the sample of index `now` is the next to be delivered. -/
def showUnset (l now : Nat) (s : State) : State := s.setF (DL_LSTAT.UNSET l) (min 511 (unsetLeft (s.lane l) now))

/-- A run of `n` samples from index `first` on is marked UNSETTLED (R460, R461). -/
def unsettle (l first n : Nat) (s : State) : State :=
  (showUnset l (s.shot * s.n) (onLane l (fun u => { u with marks := u.marks ++ [(first, first + n)] }) s)).setF (DL_LSTAT.STATE l) 1

/-- The sample of index `m` is concealed: its pin instant lies in a loss (R458, R462, R463). -/
def laneLost (u : LaneU) (m : Nat) : Bool :=
  ((u.edges.filter fun e => decide (e.1 + laneLat u.live.toNat ≤ 128 * m)).getLast?.map (·.2)).getD false

/-! ### Clocks and lanes (R448 to R452) -/

/-- A write of `DL_CKc` (R449): claims, or frees, the clock's ball. -/
def writeDlCk (c v : Nat) (s : State) : State :=
  let en := s.flag (DL_CK.EN c)
  let used := (List.range 32).any fun l => s.flag (DL_LCFG.EN l) && s.getF (DL_LCFG.CK l) = c
  if en then
    if bits v 30 1 ≠ s.getF (DL_CK.OSR c) ∨ (!bitOf v 31 ∧ used) then dlCfg (0x40 + c) s
    else if bitOf v 31 then s
    else releasePin (161 + c) (s.setF (DL_CK.EN c) 0)
  else
    let s := s.setF (DL_CK.OSR c) (bits v 30 1)
    if bitOf v 31 then
      let (st, s) := claimPin (161 + c) ⟨3, c⟩ s
      if st = 0 then s.setF (DL_CK.EN c) 1 else s
    else s

/-- Status with which the start of lane `l` is refused (R451): 3 BADARG, 6 CONFLICT, 0 for none. -/
def laneCheck (l : Nat) (s : State) : Nat :=
  if !s.flag (DL_CK.EN (s.getF (DL_LCFG.CK l))) ∨ !bankOn (165 + l) s then 3
  else if (s.pinClaim (165 + l)).isSome then 6 else 0

/-- Lane `l` starts at its boundary (R451, R460), or is refused. -/
def startLane (l : Nat) (s : State) : State :=
  if s.lstate l ≠ 0 then s else
  let st := laneCheck l s
  if st ≠ 0 then (if st = 6 then raise 0x02 0 (165 + l) s else s).setF (DL_LCFG.EN l) 0
  else
    let s := (claimPin (165 + l) ⟨4, l⟩ (s.setF (DL_LCFG.EN l) 1)).2
    let s := s.onCs fun u => { u with conceal := smKeep (fun k => k ≠ 0xA000 + l) u.conceal }
    let s := onLane l (fun u => { LaneU.reset with live := u.live }) s
    unsettle l (s.shot * s.n) (laneU0 (s.lane l).live.toNat) s

/-- Lane `l` stops at its boundary (R452). -/
def stopLane (l : Nat) (s : State) : State :=
  let s := s.setF (DL_LCFG.EN l) (b2n (s.dl.reqs.any fun x => x.1 = l && x.2.start))
  if s.lstate l = 0 then s
  else releasePin (165 + l) (onLane l (fun u => { LaneU.reset with live := u.live }) ((s.setF (DL_LSTAT.STATE l) 0).setF (DL_LSTAT.UNSET l) 0))

/-- Status of a command that claims a ball: BADARG in an OFF bank (R785), CONFLICT where it is claimed (R16). -/
def ballStatus (b : Nat) (s : State) : Nat := if !bankOn b s then 3 else if (s.pinClaim b).isSome then 6 else 0

/-- Status of a write of `DL_CKc` by a command: BUSY where it turns off a clock that an enabled lane names (R449), BADARG or CONFLICT
where the claim of its ball is refused (R16, R785). -/
def dlCkStatus (c v : Nat) (s : State) : Nat :=
  let used := (List.range 32).any fun l => s.flag (DL_LCFG.EN l) && s.getF (DL_LCFG.CK l) = c
  if s.flag (DL_CK.EN c) then (if !bitOf v 31 ∧ used then 5 else 0)
  else if !bitOf v 31 then 0
  else ballStatus (161 + c) s

/-- Status of a command that starts lane `l`: CONFLICT where it is enabled already; else as the state without its run gives it (R451). -/
def laneStartStatus (l : Nat) (s : State) : Nat := if s.flag (DL_LCFG.EN l) then 6 else laneCheck l (stopLane l s)

/-- A start refused with `st`: a claim that stands is reported (R16). -/
def laneRefused (l st : Nat) (s : State) : State := if st = 6 then raise 0x02 0 (165 + l) s else s

/-- A start or stop of a lane is accepted and waits for its boundary (R451). -/
def scheduleLane (l : Nat) (start : Bool) (shot trig : Option Nat) (s : State) : State :=
  (s.setF (DL_LCFG.EN l) (b2n start)).onDl fun u => { u with reqs := u.reqs ++ [(l, ⟨false, start, shot, trig⟩)] }

/-- A write of `DL_LCFGl` (R450, R451). -/
def writeDlLane (l v : Nat) (s : State) : State :=
  let en := s.flag (DL_LCFG.EN l)
  if en ∧ bits v 27 4 ≠ bits (s.reg (0x70100 + 0x10 * l)).toNat 27 4 then dlCfg l s
  else
    let s := if en then s else s.setReg (0x70100 + 0x10 * l) (wd (v &&& 0x78000000))
    if bitOf v 31 = en then s
    else if !en ∧ laneStartStatus l s ≠ 0 then laneRefused l (laneStartStatus l s) s
    else scheduleLane l (!en) (some s.nextShot) none s

/-- Starts or stops of lane `l` that are due at the running shot act in order of acceptance. -/
def actLane (l : Nat) (start : Bool) (s : State) : State :=
  let due := fun (x : Nat × Sched) => x.1 = l && x.2.start = start && (match x.2.shot with | some n => decide (n ≤ s.shot) | none => false)
  let q := s.dl.reqs
  let s := s.onDl fun u => { u with reqs := q.filter fun x => !due x }
  (q.filter due).foldl (fun s _ => if start then startLane l s else stopLane l s) s

/-- LANE_START_ACT (R451). -/
def execLaneStartAct (l : Nat) (s : State) : Host.Outcome State Fault Refusal := finish (if l < 32 then actLane l true s else s)

/-- LANE_STOP_ACT (R452). -/
def execLaneStopAct (l : Nat) (s : State) : Host.Outcome State Fault Refusal := finish (if l < 32 then actLane l false s else s)

/-- Every started lane stops and pending commands are dropped (R761). -/
def stopLanes (s : State) : State :=
  (List.range 32).foldl (fun s l => stopLane l s) (s.onDl fun u => { u with reqs := [] })

/-- DELAY and RANK of every lane take their slate values (R459, R460). -/
def commitLanes (s : State) : State :=
  (List.range 32).foldl (fun s l =>
    let w := s.reg (0x70104 + 0x10 * l)
    if w = (s.lane l).live then s
    else
      let s := onLane l (fun u => { u with live := w }) (s.setF (DL_LSTAT.LAT l) (laneLat w.toNat))
      if s.lstate l = 1 ∨ s.lstate l = 2 then unsettle l (s.shot * s.n) (16 + rankLess1 w.toNat) s else s) s

/-- DELAY and RANK of every lane return to their live values (R297). -/
def revertLanes (s : State) : State :=
  (List.range 32).foldl (fun s l => s.setReg (0x70104 + 0x10 * l) (s.lane l).live) s

/-- DL_LOST: lane `l` has seen 512 identical bits, the last of them at `pos` / 128 Ts of the running shot and the first 511 periods
before it (R462). -/
def execDlLost (l pos : Nat) (s : State) : Host.Outcome State Fault Refusal :=
  finish <|
    if l < 32 ∧ s.lstate l ≠ 0 ∧ s.lstate l ≠ 3 then
      let run := 511 * (if s.flag (DL_CK.OSR (s.getF (DL_LCFG.CK l))) then 1 else 2)
      let s := onLane l (fun u => { u with edges := u.edges ++ [(128 * (s.shot * s.n) + pos - run, true)] }) s
      raise 0x34 0 l ((s.setF (DL_LSTAT.STATE l) 3).incF (DL_LERR.LOSS l) 1)
    else s

/-- DL_RETURN: lane `l` has seen 4,096 good bits; the bit after them comes at `pos` / 128 Ts of the running shot (R460, R463). -/
def execDlReturn (l pos : Nat) (s : State) : Host.Outcome State Fault Refusal :=
  finish <|
    if l < 32 ∧ s.lstate l = 3 then
      let pin := 128 * (s.shot * s.n) + pos
      let w := (s.lane l).live.toNat
      unsettle l (ceilDiv (pin + laneLat w) 128) (laneU0 w) (onLane l (fun u => { u with edges := u.edges ++ [(pin, false)] }) s)
    else s

/-- DL_SETTLED: the UNSETTLED run of lane `l` has ended (R461). -/
def execDlSettled (l : Nat) (s : State) : Host.Outcome State Fault Refusal :=
  finish (if l < 32 ∧ s.lstate l = 1 ∧ s.getF (DL_LSTAT.UNSET l) = 0 then s.setF (DL_LSTAT.STATE l) 2 else s)

/-- DL_CK_EN_WRITE (R449). -/
def execDlCkEnWrite (c : Nat) (v : Word) (s : State) : Host.Outcome State Fault Refusal := finish (if s.hostOpen ∧ c < 4 then writeDlCk c v.toNat s else s)

/-- DL_LANE_EN_WRITE (R451). -/
def execDlLaneEnWrite (l : Nat) (v : Word) (s : State) : Host.Outcome State Fault Refusal := finish (if s.hostOpen ∧ l < 32 then writeDlLane l v.toNat s else s)

/-! ### Lane samples (R453 to R463) -/

/-- Insertion in ascending order of value. -/
def insertVal (x : Word) : List Word → List Word
  | [] => [x]
  | y :: t => if x.toInt ≤ y.toInt then x :: y :: t else y :: insertVal x t

/-- The median of a list of odd length (R457). -/
def median (l : List Word) : Word := (l.foldl (fun a x => insertVal x a) []).getD (l.length / 2) 0

/-- The rank filter over the phase-delayed samples `xs`, with its history. -/
def rankFilter (k1 : Nat) : List Word → List Word → List Word → List Word × List Word
  | [], hist, acc => (acc, hist)
  | x :: t, hist, acc =>
    let w := x :: (hist ++ List.replicate (k1 - hist.length) 0).take k1
    rankFilter k1 t ((x :: hist).take 6) (acc ++ [median w])

/-- Running sums of `m` neighbours. -/
def boxSum (m : Nat) (l : List Int) : List Int := (List.range (l.length + 1 - m)).map fun i => ((l.drop i).take m).foldl (· + ·) 0

/-- A CIC output of order 4 and decimation `m` from the bits `b`, newest first: exact, scaled so that +1.0 is m^4; +1.0 saturates, with
the mark of it (R453, R455). -/
def cicOut (m : Nat) (b : List Bool) : Word × Bool :=
  let xs : List Int := (List.range (4 * (m - 1) + 1)).map fun i => match b[i]? with | some true => 1 | some false => -1 | none => 0
  let y := (boxSum m (boxSum m (boxSum m (boxSum m xs)))).headD 0
  let q := y * (2 ^ 31 / m ^ 4 : Nat)
  (wi (satTo 32 q), satHits 32 q)

/-- A stage of `taps` taps over the history `h`, newest first: products accumulated exactly, narrowed by convergent rounding and
saturation, with the mark of it (R455). -/
def firStage (coef : Nat → Int) (taps : Nat) (h : List Word) : Word × Bool :=
  let y := rndDiv ((List.range taps).foldl (fun a i => a + coef i * (h.getD i 0).toInt) 0) (2 ^ 62)
  (wi (satTo 32 y), satHits 32 y)

/-- Group `g` of eight of a Ts enters the chain with its bits, oldest first: a CIC output at 8 fs, and the half-band outputs that fall
due with it (R453). Answers whether a stage saturated. The alignment delays the bits by 202 or 402 periods; the chain takes a Ts of
bits at a time, so that they wait for the OSR − 1 periods more that follow the sample's own instant, from which R458 counts. -/
def chainGroup (m g : Nat) (bs : List Bool) (u : LaneU) : LaneU × Bool :=
  let b := (bs.reverse ++ u.bits).take 640
  let (y, c0) := cicOut m (b.drop (if m = 8 then 202 + 63 else 402 + 127))
  let u := { u with bits := b, cic := (y :: u.cic).take 23 }
  if g % 2 = 0 then (u, c0) else
  let (y, c1) := firStage (Config.halfBand 0) 23 u.cic
  let u := { u with hb1 := (y :: u.hb1).take 31 }
  if g % 4 ≠ 3 then (u, c0 || c1) else
  let (y, c2) := firStage (Config.halfBand 1) 31 u.hb1
  let u := { u with hb2 := (y :: u.hb2).take 95 }
  if g ≠ 7 then (u, c0 || c1 || c2) else
  let (y, c3) := firStage (Config.halfBand 2) 95 u.hb2
  ({ u with dec := (y :: u.dec).take 272 }, c0 || c1 || c2 || c3)

/-- One Ts of lane `l`, whose line carries `x`: its bits from period `from_` on enter the chain, by EDGE and INV (R450); then the
phase delay's integer part and fraction apply (R456), and the rank filter (R457). Answers the sample and whether a stage
saturated. -/
def chainTs (l from_ x : Nat) (s : State) : (Word × Bool) × State :=
  let m := if s.flag (DL_CK.OSR (s.getF (DL_LCFG.CK l))) then 16 else 8
  let e := b2n (s.flag (DL_LCFG.EDGE l))
  let inv := s.flag (DL_LCFG.INV l)
  let r := (List.range 8).foldl (fun (acc : LaneU × Bool) g =>
    let ps := ((List.range m).map (g * m + ·)).filter fun p => decide (from_ ≤ p)
    let (u, c) := chainGroup m g (ps.map fun p => bitOf x (2 * p + e) != inv) acc.1
    (u, acc.2 || c)) (s.lane l, false)
  let u := r.1
  let w := u.live.toNat
  let (y, c) := firStage (Config.phaseTap (delayOf w % 128)) 16 (u.dec.drop (delayOf w / 128))
  let (z, hist) := rankFilter (rankLess1 w) [y] u.hist []
  ((z.headD 0, r.2 || c), onLane l (fun _ => { u with hist := hist }) s)

/-- Pin instant, in 1/128 Ts from sample index `m` on, at which a return from loss clears the chain of a lane (R463). -/
def clearsIn (u : LaneU) (m : Nat) : Option Nat :=
  ((u.edges.filter fun e => !e.2 && decide (128 * m ≤ e.1) && decide (e.1 < 128 * (m + 1))).getLast?).map (·.1 - 128 * m)

/-- The samples of lane `l` from index `m` on: each delivered, or concealed; with them whether any was delivered, any was concealed
and any stage saturated in a delivered one. -/
def laneSamples (l m : Nat) : Nat → List Word × Bool × Bool × Bool → State → (List Word × Bool × Bool × Bool) × State
  | 0, acc, s => (acc, s)
  | k + 1, (xs, good, bad, clip), s =>
    let key := 0xA000 + l
    let lost := laneLost (s.lane l) m
    let (x, s) := fresh Config.lineBits s
    let osr := if s.flag (DL_CK.OSR (s.getF (DL_LCFG.CK l))) then 128 else 64
    let (from_, s) := match clearsIn (s.lane l) m with
      | some q => (ceilDiv (q * osr) 128, onLane l (fun u => { LaneU.reset with live := u.live, edges := u.edges, marks := u.marks }) s)
      | none => (0, s)
    let ((y, c), s) := chainTs l from_ x s
    if lost then
      let (z, s) := concealSamples key 1 s
      laneSamples l (m + 1) k (xs ++ z, good, true, clip) s
    else laneSamples l (m + 1) k (xs ++ [y], true, bad, clip || c) (delivered key y s)

/-- The block of lane `l` of the shot that ends is complete (R452, R460 to R463). -/
def laneBlock (l : Nat) (s : State) : State :=
  if s.lstate l = 0 then s else
  let base := s.shot * s.n
  let ((xs, _, bad, clip), s) := laneSamples l base s.n ([], false, false, false) s
  let u := s.lane l
  let unset := (List.range s.n).any fun i => u.marks.any fun x => decide (x.1 ≤ base + i) && decide (base + i < x.2)
  let flags := (if unset then bswUNSETTLED else 0) + (if bad then bswCONCEALED + bswLOST else 0) + (if clip then bswCLIPPED else 0)
  let s := if clip then s.incF (DL_LERR.CLIP l) 1 else s
  let past := u.edges.filter fun e => decide (e.1 + laneLat u.live.toNat ≤ 128 * (base + s.n))
  let s := onLane l (fun u => { u with
    edges := u.edges.drop (past.length - 1), marks := u.marks.filter fun x => decide (base + s.n < x.2) }) s
  putBlk aIN (0xA000 + l) ⟨xs, mkBsw 5 flags⟩ (showUnset l (base + s.n) s)

/-- Every started lane hands on its block. -/
def allLaneInputs (s : State) : State := (List.range 32).foldl (fun s l => laneBlock l s) s

/-! ### Meter points and detectors (R464 to R472) -/

/-- Samples in a meter period (R466). -/
def State.meterP (s : State) : Nat := s.fs / 1000

/-- Meter point `i`. -/
def State.point (s : State) (i : Nat) : PointU := smGet PointU.reset s.dl.points i

/-- Meter point `i` replaced by its image under `f`. -/
def onPoint (i : Nat) (f : PointU → PointU) (s : State) : State :=
  s.onDl fun u => { u with points := smPut PointU.reset i (f (smGet PointU.reset u.points i)) u.points }

/-- CHAN of a meter point. -/
def pointChan (d : Word) : Nat := d.toNat / 65536

/-- A METER_SET word is valid (R465). -/
def pointOk (d : Word) (s : State) : Bool :=
  let c := pointChan d
  bits d.toNat 0 11 = 0 && (c = 0xFFFF || chValid c s) && (!bitOf d.toNat 15 || (c ≠ 0xFFFF && chSpace c = 1))

/-- A point is reset at a period start with index `at_` (R471). -/
def resetPoint (d : Word) (at_ : Nat) (p : PointU) : PointU :=
  { p with desc := d, start := at_, det := DetU.reset, old := p.old ++ [⟨p.desc, p.start, at_, p.det⟩] }

/-- METER_SET_APPLY: a meter period starts in the running shot: changes of points take effect, and points whose description, sets
or enable changed are reset (R471). -/
def meterApply (s : State) : State :=
  let k := ceilDiv (s.shot * s.n) s.meterP
  let at_ := k * s.meterP
  let d := s.dl
  let hit := fun (w : Word) => bitOf d.sets (bits w.toNat 13 2) || bitOf d.sets (4 + bits w.toNat 11 2)
  let s := d.points.foldl (fun s x =>
    if (d.enPend ∨ hit x.2.desc) ∧ !d.pend.any (fun p => p.1 = x.1) then onPoint x.1 (resetPoint x.2.desc at_) s else s) s
  let s := d.pend.foldl (fun s x => onPoint x.1 (resetPoint x.2 at_) s) s
  s.onDl fun u => { u with pend := [], sets := 0, enPend := false, nextK := if u.enPend then some k else u.nextK }

/-- METER_SET_APPLY (R471). -/
def execMeterSetApply (s : State) : Host.Outcome State Fault Refusal := finish (meterApply s)

/-- Mean square of a completed segment (R469). -/
def segMean (sq count : Nat) : Nat := if count = 0 then 0 else (rndDiv (sq : Int) (count * 2 ^ 31)).toNat

/-- The envelope after one sample of magnitude `x` (R470). -/
def envStep (a r e x : Nat) : Nat :=
  if e < x then e + (rndDiv ((a : Int) * (x - e : Nat)) (2 ^ 31)).toNat else e - (rndDiv ((r : Int) * (e - x : Nat)) (2 ^ 31)).toNat

/-- The largest magnitude of the three interpolated points that a sample gives with the 11 before it, `h` newest first, rounded
convergently to units of 2^-30 (R468). The interpolator is causal: DESIGN CHOICE (log entry 191). -/
def interPeak (h : List Word) : Nat :=
  [1, 2, 3].foldl (fun a p =>
    max a (rndDiv ((List.range 12).foldl (fun (y : Int) i => y + Config.peakTap p i * (h.getD i 0).toInt) 0) (2 ^ 63)).natAbs) 0

/-- One sample of index `m` into a detector of description `d`; a completed period gives its entry (R468 to R472). -/
def detStep (d : Word) (m : Nat) (x : Word) (flags : Nat) (t : DetU) (s : State) : DetU × Option (Nat × List Nat) :=
  let p := s.meterP
  let rs := bits d.toNat 13 2
  let es := bits d.toNat 11 2
  let t := if m % p = 0 then { t with spk := 0, flags := 0, ipk := 0 } else t
  let a := x.toInt.natAbs
  let t := { t with
    spk := max t.spk a, ipk := max t.ipk (interPeak (x :: t.hist)), hist := (x :: t.hist).take 11,
    flags := t.flags ||| flags, sq := t.sq + a * a,
    env := envStep (s.getF (DL_ENVATT.COEF es)) (s.getF (DL_ENVREL.COEF es)) t.env a }
  if m % p + 1 < p then (t, none)
  else
    let wg := s.getF (DL_RMSWIN.WG rs)
    let wn := s.getF (DL_RMSWIN.WN rs)
    let n := t.periods + 1
    let t := { t with periods := n }
    let t := if n % wg = 0 then
        let segs := (segMean t.sq (wg * p) :: t.segs).take 16
        let w := segs.take wn
        { t with segs := segs, sq := 0, ms := (rndDiv ((w.foldl (· + ·) 0 : Nat) : Int) w.length).toNat }
      else t
    let tpk := min (2 ^ 32 - 1) (max (rndDiv t.spk 2).toNat t.ipk)
    (t, some (m / p, [t.spk, tpk, t.ms, t.env, t.flags + (if n ≤ wg * wn then 256 else 0), 0]))

/-- The block that a description names as it is metered in the running shot, and the shots since its samples' own shot (R467);
none for no channel. -/
def meterBlk (d : Word) (s : State) : Option (Blk × Nat) :=
  let c := pointChan d
  if c = 0xFFFF then none
  else match chSpace c with
    | 0 => some (s.blk 9 c, 2)
    | 1 => if bitOf d.toNat 15 then some (s.blk 17 c, 3) else some (s.blk 25 c, 4)
    | 3 | 5 | 7 | 9 => some (releasedBlk c s, 4)
    | _ => some (s.blk 1 c, 1)

/-- The samples of a block, each with its index, whose index satisfies `p`, into a detector. -/
def feedDet (d : Word) (p : Nat → Bool) (t : DetU) (s : State) : DetU × List (Nat × List Nat) :=
  match meterBlk d s with
  | none => (t, [])
  | some (b, lag) =>
    if s.shot < lag then (t, []) else
    let base := (s.shot - lag) * s.n
    (b.samples.zipIdx).foldl (fun (acc : DetU × List (Nat × List Nat)) x =>
      if p (base + x.2) then
        let (t, r) := detStep d (base + x.2) x.1 (bswFlags b.bsw) acc.1 s
        (t, acc.2 ++ r.toList)
      else acc) (t, [])

/-- The meter reads the blocks of every point after a boundary (R467). -/
def meterFeed (s : State) : State :=
  if !s.flag DL_MCTRL.EN then s else
  s.dl.points.foldl (fun s x =>
    let q := x.2
    -- earlier descriptions still take the samples of their own indices; the oldest lag is 4 shots, and a frame waits for 5
    let olds := q.old.filter fun o => decide (s.shot * s.n < o.stop + 8 * s.n + s.meterP)
    let (olds, rows) := olds.foldl (fun (acc : List OldPoint × List (Nat × List Nat)) o =>
      let (t, r) := feedDet o.desc (fun m => decide (o.start ≤ m) && decide (m < o.stop)) o.det s
      (acc.1 ++ [{ o with det := t }], acc.2 ++ r)) ([], [])
    let (nd, r1) := feedDet q.desc (fun m => decide (q.start ≤ m)) q.det s
    onPoint x.1 (fun p => { p with old := olds, det := nd, rows := p.rows ++ rows ++ r1 }) s) s

/-! ### Meter frames (R473 to R475) -/

/-- The bytes of the frame of period `k` (R473), padded to a multiple of 64. -/
def meterFrame (k : Nat) (s : State) : List Byte :=
  let count := s.getF DL_MCTRL.COUNT
  let open_ := k * s.meterP / s.n + 1
  let ts := match s.dl.stamps.find? (fun x => x.1 = open_) with | some x => x.2 | none => (s.ptp.shotSec, s.ptp.shotNs)
  let head := leBytes s.dl.fseq 4 ++ leBytes k 8 ++ leBytes ts.2 4 ++ leBytes ts.1 6 ++ leBytes s.meterP 2 ++ leBytes count 4 ++ leBytes s.dl.dropped 4
  let body := head ++ (List.range count).flatMap fun i =>
    let p := s.point i
    let at_ := k * s.meterP
    let d := if p.start ≤ at_ then p.desc
      else ((p.old.find? fun o => decide (o.start ≤ at_) && decide (at_ < o.stop)).map (·.desc)).getD 0xFFFF0000
    let row := if pointChan d = 0xFFFF then List.replicate 6 0 else ((p.rows.find? (fun x => x.1 = k)).map (·.2)).getD (List.replicate 6 0)
    row.flatMap fun w => leBytes w 4
  body ++ List.replicate ((64 - body.length % 64) % 64) (0 : Byte)

/-- The frame of the next period is due: at least 4 shots after the boundary that opens stage S of its last block (R474). -/
def frameDue (s : State) : Option Nat :=
  match s.dl.nextK with
  | some k => if s.flag DL_MCTRL.EN ∧ ((k + 1) * s.meterP - 1) / s.n + 5 ≤ s.shot then some k else none
  | none => none

/-- METER_FRAME_START: the frame of the period due is started, or dropped (R474, R475). -/
def frameStart (s : State) : State :=
  match frameDue s with
  | none => s
  | some k =>
    let full := (s.getF DL_MWPTR.PTR + 1) % s.getF DL_MLEN.LEN = s.getF DL_MRPTR.PTR
    let bytes := meterFrame k s
    let s := s.onDl fun u => { u with
      nextK := some (k + 1), points := u.points.map fun x => (x.1, { x.2 with rows := x.2.rows.filter fun r => k < r.1 }) }
    if full ∨ !s.flag CMD_STAT.LINKUP then (s.incF DL_MERR.DROP 1).onDl fun u => { u with dropped := u.dropped + 1 }
    else s.onDl fun u => { u with frame := some bytes, dropped := 0 }

/-- METER_FRAME_START (R474). -/
def execMeterFrameStart (s : State) : Host.Outcome State Fault Refusal := finish (frameStart s)

/-- METER_FRAME_COMPLETE: the frame being written is complete (R474). While the PCIe link is down it is dropped, with those that it
reported (R475). -/
def frameComplete (s : State) : State :=
  match s.dl.frame with
  | none => s
  | some bytes =>
    if !s.flag CMD_STAT.LINKUP then
      let told := byteAt bytes 28 + 256 * byteAt bytes 29 + 65536 * byteAt bytes 30 + 16777216 * byteAt bytes 31
      (s.incF DL_MERR.DROP 1).onDl fun u => { u with frame := none, dropped := u.dropped + told + 1 }
    else
    let w := s.getF DL_MWPTR.PTR
    let s := s.out (.hostBytes (s.getF DL_MBASE_LO.ADDR * 64 + s.getF DL_MBASE_HI.ADDR * 2 ^ 32 + w * bytes.length) bytes)
    let s := s.setF DL_MSTAT.FSEQ s.dl.fseq
    let s := s.onDl fun u => { u with frame := none, fseq := (u.fseq + 1) % 2 ^ 32 }
    let s := s.setF DL_MWPTR.PTR ((w + 1) % s.getF DL_MLEN.LEN)
    if s.flag DL_MCTRL.IE then setIrq 4 s else s

/-- METER_FRAME_COMPLETE (R474). -/
def execMeterFrameComplete (s : State) : Host.Outcome State Fault Refusal := finish (frameComplete s)

/-! ### Register writes with conditions (R477) -/

/-- A write of `DL_MCTRL`: EN set starts frames afresh, COUNT only while EN is 0. -/
def writeMctrl (v : Nat) (s : State) : State :=
  let en := s.flag DL_MCTRL.EN
  let c := bits v 0 13
  if c < 1 ∨ 4096 < c ∨ (en ∧ c ≠ s.getF DL_MCTRL.COUNT) then dlCfgOpen s
  else
    let s := s.setReg 0x70400 (wd (v &&& 0xC0001FFF))
    if bitOf v 31 = en then s
    else if en then s.onDl fun u => { u with nextK := none, enPend := false, frame := none }
    else s.onDl fun u => { u with nextK := none, enPend := true, frame := none, fseq := 0, dropped := 0 }

/-- A write to a DL register that has a range or a condition of its own. -/
def writeDlReg (off v : Nat) (s : State) : State :=
  let a := 0x70000 + off
  let en := s.flag DL_MCTRL.EN
  let change := fun (bit : Nat) (w : Nat) (s : State) =>
    if (s.reg a).toNat = w then s else (s.setReg a (wd w)).onDl fun u => { u with sets := u.sets ||| 2 ^ bit }
  if off < 0x10 then writeDlCk (off / 4) v s
  else if 0x100 ≤ off ∧ off < 0x300 ∧ off % 0x10 = 0 then writeDlLane ((off - 0x100) / 0x10) v s
  else if off = 0x400 then writeMctrl v s
  else if 0x410 ≤ off ∧ off < 0x420 then
    let wn := bits v 8 5
    let wg := bits v 0 7
    if wn = 0 ∨ 16 < wn ∨ wg = 0 ∨ 64 < wg then dlCfgOpen s else change ((off - 0x410) / 4) (v &&& 0x1F7F) s
  else if 0x420 ≤ off ∧ off < 0x440 then
    (if bits v 0 31 = 0 then dlCfgOpen s else change (4 + (off - 0x420) / 8) (bits v 0 31) s)
  else if off = 0x440 then (if en then dlCfgOpen s else s.setReg a (wd (v &&& 0xFFFFFFC0)))
  else if off = 0x444 then (if en then dlCfgOpen s else s.setReg a (wd v))
  else if off = 0x448 then
    let l := bits v 0 13
    if en ∨ l < 2 ∨ 4096 < l then dlCfgOpen s else s.setReg a (wd l)
  else if off = 0x450 then
    let p := bits v 0 12
    if s.getF DL_MLEN.LEN ≤ p then dlCfgOpen s else s.setReg a (wd p)
  else s

end Sys2Proof.Machine
end

