-- ==== Sys2Proof/Machine/Operands.lean ====
section
/-! DEFINITION. Operand forms of the engine instructions (R161 to R171): fields of the instruction word, register codes,
cursors and their post-modify, parallel moves, memory accesses of task code and their store pipeline (R103 to R119, R130 to
R132, R167 to R169). -/

namespace Sys2Proof.Machine

/-! ### The instruction word (R161) -/

/-- OPC. -/
def insOpc (w : Nat) : Nat := w / 2 ^ 58 % 64
/-- OPND of a short-format instruction. -/
def insOpnd (w : Nat) : Nat := bits w 26 32
/-- XMOV. -/
def insX (w : Nat) : Nat := bits w 13 13
/-- YMOV. -/
def insY (w : Nat) : Nat := bits w 0 13
/-- The operand field of a long-format instruction. -/
def insLong (w : Nat) : Nat := w % 2 ^ 58

/-! ### Registers of a bank -/

/-- D register `n` of a lane. -/
def Bank.dreg (b : Bank) (lane n : Nat) : Word := smGet 0 b.d (lane * 16 + n)
/-- D register `n` of a lane written. -/
def Bank.setD (b : Bank) (lane n : Nat) (v : Word) : Bank := { b with d := smPut 0 (lane * 16 + n) v b.d }
/-- Accumulator `a` of a lane. -/
def Bank.accum (b : Bank) (lane a : Nat) : Acc := smGet 0 b.acc (lane * 4 + a)
/-- Accumulator `a` of a lane written. -/
def Bank.setAcc (b : Bank) (lane a : Nat) (v : Acc) : Bank := { b with acc := smPut 0 (lane * 4 + a) v b.acc }
/-- Hold bit of accumulator `a` of a lane. -/
def Bank.hold (b : Bank) (lane a : Nat) : Bool := b.h.getLsbD (lane * 4 + a)
/-- Hold bit of accumulator `a` of a lane written. -/
def Bank.setHold (b : Bank) (lane a : Nat) (v : Bool) : Bank :=
  { b with h := if v then b.h ||| BitVec.ofNat 32 (2 ^ (lane * 4 + a)) else b.h &&& ~~~ BitVec.ofNat 32 (2 ^ (lane * 4 + a)) }
/-- Cursor field by register code (R166). -/
def Bank.field (b : Bank) (c : Nat) : BitVec 16 := smGet 0 b.cur c
/-- Cursor field written. -/
def Bank.setField (b : Bank) (c : Nat) (v : BitVec 16) : Bank := { b with cur := smPut 0 c v b.cur }

/-- CUR, STEP, ORG and SPAN codes of cursor `u` (R166). -/
def cCUR (u : Nat) : Nat := 0x10 + u
/-- STEP code. -/
def cSTEP (u : Nat) : Nat := 0x18 + u
/-- ORG code. -/
def cORG (u : Nat) : Nat := 0x20 + u
/-- SPAN code. -/
def cSPAN (u : Nat) : Nat := 0x28 + u

/-- A cursor field as a 32-bit value: STEP sign-extended, the others zero-extended (R168). -/
def fieldWord (c : Nat) (v : BitVec 16) : Word := if 0x18 ≤ c ∧ c < 0x20 then v.signExtend 32 else v.zeroExtend 32

/-- The post-modified value of CUR of cursor `u` for mode `m` (R114, R116, R117). -/
def postModify (b : Bank) (u m : Nat) : BitVec 16 :=
  let p : Int := (b.field (cCUR u)).toNat
  let d : Int := match m with | 0 => 0 | 1 => 1 | 2 => -1 | _ => (b.field (cSTEP u)).toInt
  let org : Int := (b.field (cORG u)).toNat
  let span := (b.field (cSPAN u)).toNat
  if span = 0 then BitVec.ofInt 16 (p + d) else BitVec.ofInt 16 (org + (p - org + d) % (span : Int))

/-! ### Parallel moves (R165) -/

/-- A parallel move: OP (0 none, 1 load, 2 store), cursor, post-modify mode, register code. -/
structure Move where
  op : Nat
  csr : Nat
  mode : Nat
  reg : Nat
  deriving DecidableEq, Repr

/-- The fields of XMOV or YMOV. -/
def moveOf (x : Nat) : Move := ⟨bits x 11 2, bits x 8 3, bits x 6 2, x % 64⟩

/-- The encoding of one move is legal (R165, R166). -/
def moveLegal (x : Nat) : Bool :=
  let m := moveOf x
  match m.op with
  | 0 => x = 0
  | 1 => m.reg < 0x30
  | 2 => m.reg < 0x30
  | _ => false

/-- Is the move present? -/
def Move.used (m : Move) : Bool := m.op = 1 || m.op = 2

/-- Does a register code name a field of cursor `u`? -/
def isFieldOf (c u : Nat) : Bool := 0x10 ≤ c && c < 0x30 && (c - 0x10) % 8 = u

/-- The combinations of R170 for two moves and the registers that the compute operation writes. -/
def movesLegal (x y : Move) (writes : List Nat) : Bool :=
  let cursors := (if x.used then [x.csr] else []) ++ (if y.used then [y.csr] else [])
  let loads := (if x.op = 1 then [x.reg] else []) ++ (if y.op = 1 then [y.reg] else [])
  !(x.used && y.used && x.csr = y.csr)
  && !(x.op = 1 && y.op = 1 && x.reg = y.reg)
  && loads.all (fun r => !writes.contains r)
  && (loads ++ writes).all (fun r => cursors.all fun u => !isFieldOf r u)

/-! ### Accesses of task code (R101, R103, R167, R168) -/

/-- An access to word `a` of X or Y is in range (R103); a store to the Y common region is not. -/
def accessOk (isY store : Bool) (a : Nat) : Bool :=
  if isY then a ≤ 0x4FFF && !(store && a < 0x4000) else a ≤ 0x1FFF

/-- Device address that word `a` of X or Y reaches in a lane (R101, R104): Y common words lie in the dispatch's page. -/
def taskAddr (e lane : Nat) (isY : Bool) (a : Nat) (page : Bool) : Nat :=
  if isY && a < 0x4000 then pageBase e page + 4 * a else sliceAddr e lane isY a

/-- The buffered word at an address, where the store buffer holds it (R132). -/
def bufWord (o : Option StoreOp) (a : Nat) : Option Word :=
  match o with
  | none => none
  | some st => (st.cells.find? (fun c => c.1 = a)).map (·.2)

/-- The word that a load of task code reads in a lane (R132, R167). -/
def loadWord (e lane : Nat) (isY : Bool) (a : Nat) (page : Bool) (s : State) : Word :=
  let d := taskAddr e lane isY a page
  let u := s.engine e
  match bufWord (if isY then u.bufY else u.bufX) d with
  | some w => w
  | none => s.word d

/-- The store of a move: each lane's own D register, or a cursor field in every lane (R168). -/
def storeOf (e : Nat) (isY : Bool) (m : Move) (b : Bank) : StoreOp :=
  let a := (b.field (cCUR m.csr)).toNat
  ⟨isY, (List.range 8).map fun lane =>
    (sliceAddr e lane isY a, if m.reg < 0x10 then b.dreg lane m.reg else fieldWord m.reg (b.field m.reg))⟩

/-- A load of a move: D registers of every lane, or a cursor field from lane 0 (R167). `look` gives the word each lane
reads. -/
def loadMove (m : Move) (look : Nat → Word) (b : Bank) : Bank :=
  if m.reg < 0x10 then (List.range 8).foldl (fun b lane => b.setD lane m.reg (look lane)) b
  else b.setField m.reg ((look 0).setWidth 16)

/-- Both store buffers drain (R131). -/
def drainBuf (e : Nat) (isY : Bool) (s : State) : State :=
  let u := s.engine e
  if isY then onEngine e (fun u => { u with bufY := none }) (storeCells u.bufY s)
  else onEngine e (fun u => { u with bufX := none }) (storeCells u.bufX s)

/-- The stores that reach WB with this instruction's loads, for one memory: those of the third last instruction (R130). -/
def storesAtWb (e : Nat) (isY : Bool) (s : State) : Option StoreOp := (s.engine e).st3.find? (fun x => x.isY = isY)

/-- Whether the buffer of one memory holds a store. -/
def bufFull (e : Nat) (isY : Bool) (s : State) : Bool := if isY then (s.engine e).bufY.isSome else (s.engine e).bufX.isSome

/-- Whether the store pipeline stalls one cycle for one memory: a store reaches WB, a load uses the memory, and its buffer is
occupied (R132). -/
def bufStall (e : Nat) (isY loads : Bool) (s : State) : Bool :=
  loads && (storesAtWb e isY s).isSome && bufFull e isY s

/-- The buffered store of one memory replaced. -/
def putBuf (e : Nat) (isY : Bool) (o : Option StoreOp) (s : State) : State :=
  onEngine e (fun u => if isY then { u with bufY := o } else { u with bufX := o }) s

/-- The memory cycle of an instruction for one memory before its load reads (R131, R132). With a load and a full buffer that a store
needs, the buffer drains first. Without a load the memory makes one access: the buffer drains, and a store at WB takes its place in
the buffer (DESIGN CHOICE, log entry 157), or with an empty buffer the store at WB is written. -/
def memBefore (e : Nat) (isY loads : Bool) (s : State) : State :=
  if loads then (if bufStall e isY loads s then drainBuf e isY s else s)
  else if bufFull e isY s then
    match storesAtWb e isY s with
    | some st => putBuf e isY (some st) (drainBuf e isY s)
    | none => drainBuf e isY s
  else storeCells (storesAtWb e isY s) s

/-- The cycle that a stall of the other memory gives to one in which no load is then made (R131, R132): its buffer drains, or its
store at WB, which passes, is written or takes the buffer's place. -/
def stallCycle (e : Nat) (isY : Bool) (s : State) : State :=
  onEngine e (fun u => { u with st3 := u.st3.filter fun x => x.isY ≠ isY }) (memBefore e isY false s)

/-- After the load has read: a store at WB enters the buffer of the memory that the load used (R131). -/
def memAfter (e : Nat) (isY loads : Bool) (s : State) : State :=
  match loads, storesAtWb e isY s with
  | true, some st => putBuf e isY (some st) s
  | _, _ => s

/-- The issued stores move on by one instruction, with those of the instruction itself first (R130). -/
def pushStores (e : Nat) (sts : List StoreOp) (s : State) : State :=
  onEngine e (fun u => { u with st3 := u.st2, st2 := u.st1, st1 := sts }) s

/-! ### Interlocks (R128, R186) -/

/-- Earliest distance without stall from a producer of class `c` to a consumer of kind `k`.
Producers: 0 load into D; 1 ALU, SEL, MVAD or LDI into D; 2 RND, TRN, MACN or AMV into D; 3 LOG2, EXP2 or TLI into D;
4 DIVS into DQ; 5 RDPC into D; 6 accumulate into an accumulator; 7 flags; 8 load into a cursor field; 9 MOVA, ADDA or MVDA;
10 post-modify. Consumers: 0 compute operand or accumulator; 1 TLI index; 2 select; 3 ALL or ANY branch; 4 address
generation, LOOPU or TLI pointer; 5 MVAD or ADDA; 6 DQ of the next DIVS. -/
def earliest (c k : Nat) : Nat :=
  match c, k with
  | 2, 0 => 2 | 3, 0 => 4 | 4, 0 => 2 | 5, 0 => 2
  | 0, 1 => 3 | 1, 1 => 3 | 2, 1 => 4 | 3, 1 => 6 | 4, 1 => 4 | 5, 1 => 4
  | 2, 6 => 2 | 3, 6 => 4 | 5, 6 => 2
  | 7, 2 => 2 | 7, 3 => 4
  | 8, 4 => 2 | 9, 4 => 3
  | _, _ => 1

/-- Stall of one consumption `(res, kind)` against what the last instructions produced; `d` is the distance of the head of
`hist`. -/
def stallOf1 (res kind : Nat) : Nat → List (List Produced) → Nat
  | _, [] => 0
  | d, h :: t =>
    let here := h.foldl (fun a p => if p.res = res then max a (earliest p.cls kind - d) else a) 0
    max here (stallOf1 res kind (d + 1) t)

/-- Stall of an instruction that consumes `uses` (R128): the largest over its consumptions, with the kind that caused it. -/
def stallOf (uses : List (Nat × Nat)) (hist : List (List Produced)) : Nat × Nat :=
  uses.foldl (fun a u => let k := stallOf1 u.1 u.2 1 hist; if a.1 < k then (k, u.2) else a) (0, 0)

/-- Fields whose address generation a move uses: CUR, STEP with +STEP, ORG and SPAN. -/
def moveUses (m : Move) : List (Nat × Nat) :=
  if m.used then
    [(cCUR m.csr, 4), (cORG m.csr, 4), (cSPAN m.csr, 4)] ++ (if m.mode = 3 then [(cSTEP m.csr, 4)] else [])
  else []

/-- What a move produces: its loaded register and the post-modified cursor. -/
def moveProds (m : Move) : List Produced :=
  (if m.op = 1 then [⟨m.reg, if m.reg < 0x10 then 0 else 8⟩] else [])
  ++ (if m.used && m.mode != 0 then [⟨cCUR m.csr, 10⟩] else [])

end Sys2Proof.Machine
end

