-- ==== Sys2Proof/Machine/Engine.lean ====
section
/-! DEFINITION. How an engine runs one instruction: fetch, decode and legality (R164 to R171, R184, R191, R195), address
checks, interlocks, loads and stores, hardware loops (R187 to R192), exceptions (R139 to R141), recasts the Gaffer core starts
itself (R329). -/

namespace Sys2Proof.Machine

/-- One operation of the short format, as its opcode table row gives it. -/
structure OpDef where
  opc : Nat
  /-- the operand field is legal (R164, R166, R171, R184) -/
  legal : Nat → Bool
  /-- register codes that the operation writes (R170) -/
  writes : Nat → List Nat := fun _ => []
  /-- consumptions for the interlocks: resource and kind -/
  uses : Nat → List (Nat × Nat) := fun _ => []
  /-- what it produces for the interlocks -/
  prods : Nat → List Produced := fun _ => []
  /-- it reads X or Y memory itself (TLI): which, and the word addresses per lane -/
  reads : Nat → Option Bool := fun _ => none
  addrs : Nat → Bank → List Nat := fun _ _ => []
  /-- multiplies one product per lane of the lane mask (event 0x10) -/
  mult : Bool := false
  /-- its effect: the bank after it and the lanes in which a guard overflow occurred (R121) -/
  eff : Nat → Nat → State → Bank → Bank × Byte

/-- Instruction index at which engine `e` stands. -/
def State.pcOf (s : State) (e : Nat) : Nat := (s.bank e).pc

/-- The instruction word that engine `e` fetches next (R105). -/
def engWord (e : Nat) (s : State) : Nat := (s.dword (engWin e + 8 * s.pcOf e)).toNat

/-- Engine `e` runs a task and its next instruction has opcode `opc`. -/
def issues (opc e : Nat) (s : State) : Bool :=
  e < 18 && s.engState e = 1 && (runningOn e s).isSome && insOpc (engWord e s) = opc

/-! ### Recasts (R155, R328, R329) -/

/-- The lowest-numbered SPARE engine. -/
def spareEngine (s : State) : Option Nat := (List.range 18).find? fun e => s.engState e = 3

/-- The loading of R155 starts: the target is LOADING and the slate holds the recast. -/
def startRecast (le src tgt : Nat) (auto : Bool) (s : State) : State :=
  let s := s.setF (ENG_STAT.STATE tgt) 4
  s.onTake fun u => { u with recasts := u.recasts ++ [⟨le, src, tgt, auto⟩] }

/-- The Gaffer core issues a RECAST itself (R329), where a spare exists and no recast of that logical engine waits; while a take holds
RECAST it waits for the end of the hold (R313). -/
def autoRecast (le : Nat) (s : State) : State :=
  if s.take.hold then s.onTake fun u => { u with autoHeld := if u.autoHeld.contains le then u.autoHeld else u.autoHeld ++ [le] } else
  match s.physOf le, spareEngine s with
  | some src, some tgt =>
    if s.take.recasts.any (fun r => r.logical = le) then s else startRecast le src tgt true s
  | _, _ => s

/-- The Gaffer core's own recasts that a take held are issued when no hold is in force (R313, R329). -/
def releaseRecasts (s : State) : State :=
  if s.take.hold then s
  else s.take.autoHeld.foldl (fun s le => autoRecast le s) (s.onTake fun u => { u with autoHeld := [] })

/-! ### Exceptions (R139 to R141) -/

/-- Exception `k` at instruction `pc` is recorded (R141, R151). -/
def noteExc (e n k pc : Nat) (s : State) : State :=
  let first := s.getF (ENG_EXC.KINDS e) = 0
  let s := s.orF (ENG_EXC.KINDS e) (2 ^ k)
  if first then
    ((s.setF (ENG_EXCINFO.TASK e) (n % 4096)).setF (ENG_EXCINFO.KIND e) k).setF (ENG_EXCINFO.PC e) pc
  else s

/-- ADDR of an engine's message: task in [27:16], physical engine in [12:8], code or lane mask in [7:0]. -/
def engAddr (n e low : Nat) : Nat := n % 4096 * 65536 + e * 256 + low

/-- The charge of task `n` exceeds its BUDGET for the first time in this shot (R229). -/
def overNow (n : Nat) (s : State) : Bool := (s.task n).budget < (s.task n).charge && !(s.task n).overBudget

/-- The BUDGET message of a task on engine `e`, once in a shot (R229). -/
def noteBudget (e n : Nat) (s : State) : State :=
  if overNow n s then raise 0x13 0 (engAddr n e 0) (onTask n (fun t => { t with overBudget := true }) s) else s

/-- One step of the 24-bit tag register: x^24 + x^23 + x^22 + x^17 + 1 (R697, log entry 10). -/
def lfsrStep (x : Nat) : Nat :=
  let bit := (b2n (bitOf x 23) + b2n (bitOf x 22) + b2n (bitOf x 21) + b2n (bitOf x 16)) % 2
  x * 2 % 2 ^ 24 + bit

/-- A draw of the tag register: 24 steps, then the interval 2^(K − 1) + (x mod 2^K) (R697). -/
def tagDraw (k x : Nat) : Nat × Nat :=
  let y := (List.range 24).foldl (fun x _ => lfsrStep x) x
  (2 ^ (k - 1) + y % 2 ^ k, y)

/-- Does engine `e` tag instructions? -/
def tags (e : Nat) (s : State) : Bool := s.flag PCN_TAG.EN && bitOf (s.getF PCN_TAG.ENGMASK) e

/-- Engine `e` issues the instruction that `r` describes: the last one of a tag interval is tagged, and a new interval is drawn where
none runs (R697). -/
def tagCount (e : Nat) (r : TagRec) (s : State) : State :=
  if !tags e s then s else
  let s := if smGet 0 s.pcn.tagLeft e ≠ 0 then s else
    let d := tagDraw (s.getF PCN_TAG.K) s.pcn.lfsr
    s.onPcn fun u => { u with lfsr := d.2, tagLeft := smPut 0 e d.1 u.tagLeft }
  let k := smGet 0 s.pcn.tagLeft e - 1
  let s := s.onPcn fun u => { u with tagLeft := smPut 0 e k u.tagLeft }
  if k = 0 then s.onPcn fun u => { u with tagged := (e, r) :: u.tagged.filter fun c => c.1 ≠ e } else s

/-- Instructions discarded where an instruction stops in the stage that detects exception `k`, that one included: in DC two, in AG
three (R127, R139, R140; log entry 196). -/
def goneAt (k : Nat) : Nat := if k = 1 then 3 else 2

/-- A stopping exception (R140, R141, R233): recorded and reported, the task ends with its outputs concealed and its OUT list
run; ADDR, ILLEGAL, STACK and LOOP quarantine it, ECC2 asks for a recast of its logical engine. `gone` instructions are discarded.
The rule names END, YIELD and pre-emption as the ends of a charge: the cycles of the faulting instruction are charged to nobody, DESIGN
CHOICE (log entry 185). -/
def stopAt (e k gone : Nat) (s : State) : State :=
  match runningOn e s with
  | none => s
  | some n =>
    let pc := s.pcOf e
    let s := tagCount e ⟨n % 4096, pc, 0, 0, true, true⟩ (countE e 0x04 gone (n % 4096) (countE e 0x03 1 (n % 4096) s))
    let s := noteExc e n k pc s
    let s := raise 0x11 k (engAddr n e k) s
    let s := endRunning e n true s
    if k = 5 then
      autoRecast (s.task n).logeng (onEngine e (fun u => { u with retire := true }) s)
    else quarantine n s

/-- A stopping exception but ECC2. -/
def stopTask (e k : Nat) (s : State) : State := stopAt e k (goneAt k) s

/-- A double-bit error stops the task (R113, R579): of the instruction fetched, in PF, or of a word loaded, in MA. -/
def stopEcc (e : Nat) (fetch : Bool) (w : SramRow) (s : State) : State := stopAt e 5 (if fetch then 1 else 4) (engDouble e w s)

/-- An ARITH exception (R121, R141): recorded, and reported at the first one of the dispatch. -/
def arith (e n pc : Nat) (newG : Byte) (s : State) : State :=
  let s := noteExc e n 0 pc s
  if (s.engine e).arithSent then s
  else
    let s := onEngine e (fun u => { u with arithSent := true }) s
    raise 0x10 0 (engAddr n e newG.toNat) s

/-! ### Sequencing (R187 to R195) -/

/-- The fetch after the instruction at `pc`, evaluated on the loop levels (R189, R190): the back-edge of the innermost level
that loops back there, or none for the next instruction in sequence; with the levels left. -/
def loopEnd (pc : Nat) : List LoopLvl → Option Nat × List LoopLvl
  | [] => (none, [])
  | l :: t =>
    if l.last = pc then
      (if 1 < l.count then (some l.start, { l with count := l.count - 1 } :: t) else loopEnd pc t)
    else (none, l :: t)

/-- The instruction at `pc` runs past 0x3FFF in sequence (R195). -/
def runsOut (pc : Nat) (loops : List LoopLvl) : Bool := pc = 0x3FFF && (loopEnd pc loops).1.isNone

/-- A control instruction stands at the end of a loop level (R191). -/
def atLoopEnd (pc : Nat) (loops : List LoopLvl) : Bool :=
  match loops with
  | [] => false
  | l :: _ => l.last = pc

/-- Levels left by a taken branch to `t`: levels that do not contain the target pop from the innermost outward (R192). -/
def branchLoops (t : Nat) : List LoopLvl → List LoopLvl
  | [] => []
  | l :: r => if l.start ≤ t ∧ t ≤ l.last then l :: r else branchLoops t r

/-- Number of ones in a lane mask. -/
def popcount (m : Nat) : Nat := (List.range 32).foldl (fun a i => if bitOf m i then a + 1 else a) 0

/-- The counters of one issued instruction with `stall` cycles for consumer kind `kind`, `buf` cycles for the store buffers
and `more` further cycles (R691), and its charge (R228). The cycles themselves count at the ticks (`cycleCounts`). -/
def retire (e n pc : Nat) (exc : Bool) (stall kind buf more : Nat) (s : State) : State :=
  let t := n % 4096
  let cyc := 1 + stall + buf + more
  let cause := if stall + buf = 0 then 0 else if stall < buf then 4 else if kind = 2 ∨ kind = 3 then 3 else if kind = 4 then 2 else 1
  let s := tagCount e ⟨t, pc, stall + buf, cause, false, exc⟩ (chargeTask n cyc s)
  let s := countE e 0x03 1 t s
  let s := countE e 0x05 (stall + buf) t s
  let s := countE e (if kind = 2 ∨ kind = 3 then 0x08 else if kind = 4 then 0x07 else 0x06) stall t s
  countE e 0x09 buf t s

/-- `k` cycles in which engine `e` loads nothing: both store buffers drain (R131). -/
def idleMem (e k : Nat) (s : State) : State := if k = 0 then s else drainBuf e true (drainBuf e false s)

/-- What the instruction produced enters the interlock history. -/
def pushHist (e : Nat) (p : List Produced) (s : State) : State :=
  onEngine e (fun u => { u with hist := (p :: u.hist).take 5 }) s

/-- ECC of the instruction's fetch and loads: each corrected word is counted (R112). -/
def eccNote (e n : Nat) (ecc : EccHit) (s : State) : State :=
  match ecc with
  | .corrected ws => ws.foldl (fun s w => engFixed e (n % 4096) w s) s
  | _ => s

/-- The row of a double-bit error in the fetched instruction. -/
def fetchBad : EccHit → Option SramRow
  | .fetchDouble w => some w
  | _ => none

/-- The row of a double-bit error in a loaded word. -/
def loadBad : EccHit → Option SramRow
  | .loadDouble w => some w
  | _ => none

/-- One short-format instruction of engine `e` (R161 to R170): nothing happens where the engine's next instruction is not
this one. Checks in the order of the pipeline (R127): fetch, decode, addresses, loads; then the operation on the registers as
they stood, the loads, the post-modifies, the stores, and the next instruction. The operation, too, reads CUR fields that a move of the
same instruction post-modifies as they were before, where R169 speaks of loads alone: DESIGN CHOICE (log entry 188). -/
def runShort (d : OpDef) (e : Nat) (ecc : EccHit) (s : State) : State :=
  if !issues d.opc e s then s else
  match runningOn e s with
  | none => s
  | some n =>
  let b := s.bank e
  let u := s.engine e
  let w := engWord e s
  let o := insOpnd w
  let x := moveOf (insX w)
  let y := moveOf (insY w)
  let s := eccNote e n ecc s
  match fetchBad ecc with
  | some w => stopEcc e true w s
  | none =>
  let own := d.reads o
  let legal := d.legal o && moveLegal (insX w) && moveLegal (insY w) && movesLegal x y (d.writes o)
    && !(own = some false && x.used) && !(own = some true && y.used) && !runsOut b.pc b.loops
  if !legal then stopTask e 2 s else
  let ax := (b.field (cCUR x.csr)).toNat
  let ay := (b.field (cCUR y.csr)).toNat
  let inRange := (!x.used || accessOk false (x.op = 2) ax) && (!y.used || accessOk true (y.op = 2) ay)
    && (match own with
        | none => true
        | some isY => (d.addrs o b).all fun a => accessOk isY false a && (!isY || 0x4000 ≤ a))
  if !inRange then stopTask e 1 s else
  let ldX := x.op = 1 || own = some false
  let ldY := y.op = 1 || own = some true
  match (if ldX || ldY then loadBad ecc else none) with
  | some w => stopEcc e false w s
  | none =>
  -- the interlock, then one cycle of the memories
  let st := stallOf (d.uses o ++ moveUses x ++ moveUses y) u.hist
  let s := idleMem e st.1 s
  let stX := bufStall e false ldX s
  let stY := bufStall e true ldY s
  -- in the stall cycle of one memory no load uses the other, which makes an access of its own (R131, R132)
  let s := if stX && !stY then stallCycle e true s else if stY && !stX then stallCycle e false s else s
  let s := memBefore e true ldY (memBefore e false ldX s)
  let (b1, ovf) := d.eff o e s b
  let b2 := if x.op = 1 then loadMove x (fun lane => loadWord e lane false ax b.page s) b1 else b1
  let b3 := if y.op = 1 then loadMove y (fun lane => loadWord e lane true ay b.page s) b2 else b2
  let b4 := if x.used then b3.setField (cCUR x.csr) (postModify b x.csr x.mode) else b3
  let b5 := if y.used then b4.setField (cCUR y.csr) (postModify b y.csr y.mode) else b4
  let nxt := loopEnd b.pc b.loops
  let b6 := { b5 with pc := nxt.1.getD (b.pc + 1), loops := nxt.2 }
  let s := memAfter e true ldY (memAfter e false ldX s)
  let s := pushStores e ((if x.op = 2 then [storeOf e false x b] else []) ++ (if y.op = 2 then [storeOf e true y b] else [])) s
  let s := onBank e (fun _ => b6) s
  let s := pushHist e (d.prods o ++ moveProds x ++ moveProds y) s
  let mask := (s.task n).laneMask
  -- the second cycle of TLI loads its own memory only
  let s := match own with | some isY => drainBuf e (!isY) s | none => s
  let inMask := ovf.toNat &&& mask
  let s := retire e n b.pc (decide (inMask ≠ 0)) st.1 st.2 (b2n (stX || stY)) (if own.isSome then 1 else 0) s
  let s := if d.mult then countE e 0x10 (popcount mask) (n % 4096) s else s
  let s := countE e 0x11 (popcount ((b6.s &&& ~~~ b.s).toNat)) (n % 4096) s
  let s := countE e 0x12 (popcount ((b6.g &&& ~~~ b.g).toNat)) (n % 4096) s
  if inMask = 0 then s
  else arith e n b.pc (BitVec.ofNat 8 ((b6.g &&& ~~~ b.g).toNat &&& mask)) s

/-- What a long-format instruction does once it is legal: the bank after it, its further cycles, whether it is a taken
branch, and what it produces. -/
structure LongEff where
  bank : Bank
  more : Nat := 0
  taken : Bool := false
  prods : List Produced := []

/-- One long-format instruction of engine `e` other than YIELD and END. `legal` judges the operand field at its address and
bank, `exc` names an exception of the decode stage (STACK, LOOP), `eff` gives the effect. An instruction that is ILLEGAL and would
raise STACK or LOOP too, all in DC (R139, R188, R191), raises ILLEGAL alone: DESIGN CHOICE (log entry 166). -/
def runLong (opc : Nat) (control : Bool) (legal : Nat → Bank → Bool) (uses : Nat → List (Nat × Nat))
    (exc : Nat → Bank → Option Nat) (eff : Nat → Nat → Bank → LongEff) (e : Nat) (ecc : EccHit) (s : State) : State :=
  if !issues opc e s then s else
  match runningOn e s with
  | none => s
  | some n =>
  let b := s.bank e
  let o := insLong (engWord e s)
  let s := eccNote e n ecc s
  match fetchBad ecc with
  | some w => stopEcc e true w s
  | none =>
  if !legal o b || (control && atLoopEnd b.pc b.loops) then stopTask e 2 s else
  match exc o b with
  | some k => stopTask e k s
  | none =>
    let mask := (s.task n).laneMask
    let r := eff o mask b
    if !r.taken && runsOut b.pc b.loops then stopTask e 2 s else
    let st := stallOf (uses o) (s.engine e).hist
    let s := idleMem e st.1 s
    let s := memBefore e true false (memBefore e false false s)
    let nxt := loopEnd b.pc b.loops
    let b' := if r.taken || control then r.bank else { r.bank with pc := nxt.1.getD (b.pc + 1), loops := nxt.2 }
    let s := pushStores e [] s
    let s := onBank e (fun _ => b') s
    let s := idleMem e r.more (pushHist e r.prods s)
    let s := retire e n b.pc false st.1 st.2 0 r.more s
    if r.taken then countE e 0x0A 1 (n % 4096) (countE e 0x04 2 (n % 4096) s) else s

end Sys2Proof.Machine
end

