-- ==== Sys2Proof/Machine/EngMac.lean ====
section
/-! DEFINITION. Multiply-accumulate and accumulator instructions 0x01 to 0x0D (R119 to R125, R173). -/

namespace Sys2Proof.Machine

/-! ### Fields of formats M and C (R163) -/

/-- DD or DN: OPND[31:28]. -/
def fDD (o : Nat) : Nat := bits o 28 4
/-- A: OPND[27:26]. -/
def fA (o : Nat) : Nat := bits o 26 2
/-- SA of format M: OPND[25:22]. -/
def fMSA (o : Nat) : Nat := bits o 22 4
/-- SB of format M: OPND[21:18]. -/
def fMSB (o : Nat) : Nat := bits o 18 4
/-- B of format C: OPND[25:24]. -/
def fCB (o : Nat) : Nat := bits o 24 2
/-- SH of format C, signed: OPND[23:18]. -/
def fCSH (o : Nat) : Int := sgn 6 (bits o 18 6)
/-- W of format C: OPND[17:16]. -/
def fCW (o : Nat) : Nat := bits o 16 2

/-- Every bit of the operand field outside `mask` is 0 (R164). -/
def onlyBits (mask o : Nat) : Bool := o &&& (0xFFFFFFFF - mask) = 0

/-- Interlock resource of accumulator `a`. -/
def resAcc (a : Nat) : Nat := 0x40 + a
/-- Interlock resource of the lane flags. -/
def resFlags : Nat := 0x50

/-- `f` applied in every lane, one lane after another; no lane reads another's registers. -/
def eachLane (f : Nat → Bank → Bank) (b : Bank) : Bank := (List.range 8).foldl (fun b lane => f lane b) b

/-- An operation of every lane without guard overflow. -/
def plain (f : Nat → Nat → Bank → Bank) : Nat → Nat → State → Bank → Bank × Byte :=
  fun o _ _ b => (eachLane (f o) b, 0)

/-! ### Accumulator arithmetic (R120 to R125) -/

/-- Flags of a written 80-bit value. -/
def accFlags (x : Int) (v : Bool) : LaneFlags := flagsOf x v false

/-- One lane of an accumulating operation that adds `p` to accumulator `a` (R121, R122, R124): the bank and whether the exact
sum lies out of range. A held accumulator stays, with V set. -/
def accumulate (wrap : Bool) (a : Nat) (p : Int) (lane : Nat) (b : Bank) : Bank × Bool :=
  let x := (b.accum lane a).toInt
  if b.hold lane a then (putFlags lane (accFlags x true) b, false)
  else
    let e := x + p
    if satHits 80 e then
      let r := if wrap then BitVec.ofInt 80 e else BitVec.ofInt 80 (satTo 80 e)
      let b := (b.setAcc lane a r).setHold lane a (!wrap)
      (putFlags lane { accFlags r.toInt true with g := true } b, true)
    else (putFlags lane (accFlags e false) (b.setAcc lane a (BitVec.ofInt 80 e)), false)

/-- An accumulating operation in every lane, with the lanes of guard overflow; `p` gives what a lane adds. -/
def accumulateAll (a : Nat → Nat) (p : Nat → Nat → Bank → Int) : Nat → Nat → State → Bank → Bank × Byte :=
  fun o e s b =>
    (List.range 8).foldl (fun (x : Bank × Byte) lane =>
      let r := accumulate (s.engine e).accwrap (a o) (p o lane x.1) lane x.1
      (r.1, if r.2 then setLane x.2 lane true else x.2)) (b, 0)

/-- ACC × 2^s narrowed to Q1.31 before saturation, rounded convergently or toward minus infinity (R125, R173). -/
def accShift (trunc : Bool) (x sh : Int) : Int :=
  let k : Int := 31 - sh
  if k ≤ 0 then x * 2 ^ (-k).toNat else if trunc then x / 2 ^ k.toNat else rndc k.toNat x

/-- Product of two D registers of a lane. -/
def laneProduct (o lane : Nat) (b : Bank) : Int := (b.dreg lane (fMSA o)).toInt * (b.dreg lane (fMSB o)).toInt

/-- A D register written with a narrowed value: saturated, with Z and N of what is written, V and S on saturation. -/
def narrowTo (dd : Nat) (x : Int) (v : Bool) (lane : Nat) (b : Bank) : Bank :=
  let sat := satHits 32 x
  putFlags lane (flagsOf (satTo 32 x) (v || sat) sat) (b.setD lane dd (wi (satTo 32 x)))

/-- An accumulator written without being read: its hold bit clears (R123). -/
def writeAcc (a : Nat) (x : Acc) (lane : Nat) (b : Bank) : Bank := (b.setAcc lane a x).setHold lane a false

/-- Word `w` of an accumulator: word 2 sign-extended (R173). -/
def accWord (x : Acc) (w : Nat) : Word :=
  match w with
  | 0 => x.setWidth 32
  | 1 => (x >>> 32).setWidth 32
  | _ => (x.extractLsb' 64 16).signExtend 32

/-- An accumulator with word `w` replaced (R173). -/
def setAccWord (x : Acc) (w : Nat) (v : Word) : Acc :=
  match w with
  | 0 => BitVec.ofNat 80 (x.toNat / 2 ^ 32 * 2 ^ 32 + v.toNat)
  | 1 => BitVec.ofNat 80 (x.toNat / 2 ^ 64 * 2 ^ 64 + v.toNat * 2 ^ 32 + x.toNat % 2 ^ 32)
  | _ => BitVec.ofNat 80 (v.toNat % 2 ^ 16 * 2 ^ 64 + x.toNat % 2 ^ 64)

/-- Consumptions of the two operands and the accumulator of a multiply-accumulate. -/
def macUses (o : Nat) : List (Nat × Nat) := [(fMSA o, 0), (fMSB o, 0), (resAcc (fA o), 0)]

/-- Products of an instruction that writes accumulator A and the flags. -/
def accProds (o : Nat) : List Produced := [⟨resAcc (fA o), 6⟩, ⟨resFlags, 7⟩]

/-! ### 0x01 to 0x04 -/

/-- MPY: ACCa := SA × SB. -/
def opMpy : OpDef :=
  { opc := 0x01, legal := onlyBits 0x0FFC0000, uses := fun o => [(fMSA o, 0), (fMSB o, 0)], prods := accProds, mult := true,
    eff := plain fun o lane b =>
      let p := laneProduct o lane b
      putFlags lane (accFlags p false) (writeAcc (fA o) (BitVec.ofInt 80 p) lane b) }

/-- MAC: ACCa := ACCa + SA × SB. -/
def opMac : OpDef :=
  { opc := 0x02, legal := onlyBits 0x0FFC0000, uses := macUses, prods := accProds, mult := true,
    eff := accumulateAll fA laneProduct }

/-- MNS: ACCa := ACCa − SA × SB. -/
def opMns : OpDef :=
  { opc := 0x03, legal := onlyBits 0x0FFC0000, uses := macUses, prods := accProds, mult := true,
    eff := accumulateAll fA fun o lane b => - laneProduct o lane b }

/-- MACN: accumulate, then DD := rnd(ACCa, 0); Z and N of DD, V on guard overflow, hold or saturation. -/
def opMacn : OpDef :=
  { opc := 0x04, legal := onlyBits 0xFFFC0000, writes := fun o => [fDD o], uses := macUses,
    prods := fun o => [⟨fDD o, 2⟩] ++ accProds o, mult := true,
    eff := fun o e s b =>
      let r := accumulateAll fA laneProduct o e s b
      (eachLane (fun lane b =>
        narrowTo (fDD o) (accShift false (b.accum lane (fA o)).toInt 0) (laneBit b.v lane) lane b) r.1, r.2) }

/-! ### 0x05 to 0x0D -/

/-- ACLR: ACCa := 0. -/
def opAclr : OpDef :=
  { opc := 0x05, legal := onlyBits 0x0C000000, prods := accProds,
    eff := plain fun o lane b => putFlags lane (accFlags 0 false) (writeAcc (fA o) 0 lane b) }

/-- ALD: ACCa := DN × 2^31. -/
def opAld : OpDef :=
  { opc := 0x06, legal := onlyBits 0xFC000000, uses := fun o => [(fDD o, 0)], prods := accProds,
    eff := plain fun o lane b =>
      let x := (b.dreg lane (fDD o)).toInt * 2 ^ 31
      putFlags lane (accFlags x false) (writeAcc (fA o) (BitVec.ofInt 80 x) lane b) }

/-- ALDW: word w of ACCa := DN. -/
def opAldw : OpDef :=
  { opc := 0x07, legal := fun o => onlyBits 0xFC030000 o && fCW o != 3, uses := fun o => [(fDD o, 0)],
    prods := fun o => [⟨resAcc (fA o), 6⟩],
    eff := plain fun o lane b => writeAcc (fA o) (setAccWord (b.accum lane (fA o)) (fCW o) (b.dreg lane (fDD o))) lane b }

/-- AADD: ACCa := ACCa + ACCb. -/
def opAadd : OpDef :=
  { opc := 0x08, legal := onlyBits 0x0F000000, uses := fun o => [(resAcc (fA o), 0), (resAcc (fCB o), 0)], prods := accProds,
    eff := accumulateAll fA fun o lane b => (b.accum lane (fCB o)).toInt }

/-- ASUB: ACCa := ACCa − ACCb. -/
def opAsub : OpDef :=
  { opc := 0x09, legal := onlyBits 0x0F000000, uses := fun o => [(resAcc (fA o), 0), (resAcc (fCB o), 0)], prods := accProds,
    eff := accumulateAll fA fun o lane b => - (b.accum lane (fCB o)).toInt }

/-- ASH: ACCa := ACCa × 2^s, rounded to the right and saturated to the left; Ha stays. -/
def opAsh : OpDef :=
  { opc := 0x0A, legal := onlyBits 0x0CFC0000, uses := fun o => [(resAcc (fA o), 0)], prods := accProds,
    eff := plain fun o lane b =>
      let x := (b.accum lane (fA o)).toInt
      let sh := fCSH o
      let y := if 0 ≤ sh then x * 2 ^ sh.toNat else rndc (-sh).toNat x
      putFlags lane (accFlags (satTo 80 y) (satHits 80 y)) (b.setAcc lane (fA o) (BitVec.ofInt 80 (satTo 80 y))) }

/-- RND: DN := rnd(ACCa, s). -/
def opRnd : OpDef :=
  { opc := 0x0B, legal := onlyBits 0xFCFC0000, writes := fun o => [fDD o], uses := fun o => [(resAcc (fA o), 0)],
    prods := fun o => [⟨fDD o, 2⟩, ⟨resFlags, 7⟩],
    eff := plain fun o lane b => narrowTo (fDD o) (accShift false (b.accum lane (fA o)).toInt (fCSH o)) false lane b }

/-- TRN: as RND, rounded toward minus infinity. -/
def opTrn : OpDef :=
  { opc := 0x0C, legal := onlyBits 0xFCFC0000, writes := fun o => [fDD o], uses := fun o => [(resAcc (fA o), 0)],
    prods := fun o => [⟨fDD o, 2⟩, ⟨resFlags, 7⟩],
    eff := plain fun o lane b => narrowTo (fDD o) (accShift true (b.accum lane (fA o)).toInt (fCSH o)) false lane b }

/-- AMV: DN := word w of ACCa. -/
def opAmv : OpDef :=
  { opc := 0x0D, legal := fun o => onlyBits 0xFC030000 o && fCW o != 3, writes := fun o => [fDD o],
    uses := fun o => [(resAcc (fA o), 0)], prods := fun o => [⟨fDD o, 2⟩],
    eff := plain fun o lane b => b.setD lane (fDD o) (accWord (b.accum lane (fA o)) (fCW o)) }

/-! ### The rows -/

/-- MPY (R173). -/
def execMpy (e : Nat) (ecc : EccHit) (s : State) : Host.Outcome State Fault Refusal := finish (runShort opMpy e ecc s)
/-- MAC (R173). -/
def execMac (e : Nat) (ecc : EccHit) (s : State) : Host.Outcome State Fault Refusal := finish (runShort opMac e ecc s)
/-- MNS (R173). -/
def execMns (e : Nat) (ecc : EccHit) (s : State) : Host.Outcome State Fault Refusal := finish (runShort opMns e ecc s)
/-- MACN (R173). -/
def execMacn (e : Nat) (ecc : EccHit) (s : State) : Host.Outcome State Fault Refusal := finish (runShort opMacn e ecc s)
/-- ACLR (R173). -/
def execAclr (e : Nat) (ecc : EccHit) (s : State) : Host.Outcome State Fault Refusal := finish (runShort opAclr e ecc s)
/-- ALD (R173). -/
def execAld (e : Nat) (ecc : EccHit) (s : State) : Host.Outcome State Fault Refusal := finish (runShort opAld e ecc s)
/-- ALDW (R173). -/
def execAldw (e : Nat) (ecc : EccHit) (s : State) : Host.Outcome State Fault Refusal := finish (runShort opAldw e ecc s)
/-- AADD (R173). -/
def execAadd (e : Nat) (ecc : EccHit) (s : State) : Host.Outcome State Fault Refusal := finish (runShort opAadd e ecc s)
/-- ASUB (R173). -/
def execAsub (e : Nat) (ecc : EccHit) (s : State) : Host.Outcome State Fault Refusal := finish (runShort opAsub e ecc s)
/-- ASH (R173). -/
def execAsh (e : Nat) (ecc : EccHit) (s : State) : Host.Outcome State Fault Refusal := finish (runShort opAsh e ecc s)
/-- RND (R125, R173). -/
def execRnd (e : Nat) (ecc : EccHit) (s : State) : Host.Outcome State Fault Refusal := finish (runShort opRnd e ecc s)
/-- TRN (R173). -/
def execTrn (e : Nat) (ecc : EccHit) (s : State) : Host.Outcome State Fault Refusal := finish (runShort opTrn e ecc s)
/-- AMV (R173). -/
def execAmv (e : Nat) (ecc : EccHit) (s : State) : Host.Outcome State Fault Refusal := finish (runShort opAmv e ecc s)

end Sys2Proof.Machine
end

