-- ==== Sys2Proof/Machine/EngAlu.lean ====
section
/-! DEFINITION. ALU instructions 0x0E to 0x25 (R172, R174). -/

namespace Sys2Proof.Machine

/-! ### Fields of formats R and I (R163) -/

/-- SA of formats R and I: OPND[27:24]. -/
def fSA (o : Nat) : Nat := bits o 24 4
/-- SB of format R: OPND[23:20]. -/
def fSB (o : Nat) : Nat := bits o 20 4
/-- I of format R: OPND[19]. -/
def fI (o : Nat) : Bool := bitOf o 19
/-- SH of format R: OPND[18:14]. -/
def fSH (o : Nat) : Nat := bits o 14 5
/-- IMM24 sign-extended: OPND[23:0]. -/
def fImm (o : Nat) : Word := wi (sgn 24 (o % 2 ^ 24))

/-- Result of an ALU operation: the exact or wrapped value written, V, and saturation. -/
structure Alu where
  res : Word
  v : Bool := false
  sat : Bool := false

/-- An exact integer wrapped to 32 bits: V where it does not fit. -/
def aluWrap (x : Int) : Alu := { res := wi x, v := satHits 32 x }
/-- An exact integer saturated to 32 bits: V and S where it does not fit. -/
def aluSat (x : Int) : Alu := { res := wi (satTo 32 x), v := satHits 32 x, sat := satHits 32 x }
/-- A word as it is, V clear. -/
def aluWord (w : Word) : Alu := { res := w }

/-- One lane of an ALU operation: the result written with its flags. -/
def aluLane (dd : Nat) (r : Alu) (lane : Nat) (b : Bank) : Bank :=
  putFlags lane (flagsOf r.res.toInt r.v r.sat) (b.setD lane dd r.res)

/-- What an ALU operation produces: DD and the flags. -/
def aluProds (o : Nat) : List Produced := [⟨fDD o, 1⟩, ⟨resFlags, 7⟩]

/-- A two-operand register operation. -/
def aluReg (opc : Nat) (f : Word → Word → Alu) : OpDef :=
  { opc := opc, legal := onlyBits 0xFFF00000, writes := fun o => [fDD o], uses := fun o => [(fSA o, 0), (fSB o, 0)], prods := aluProds,
    eff := plain fun o lane b => aluLane (fDD o) (f (b.dreg lane (fSA o)) (b.dreg lane (fSB o))) lane b }

/-- A unary register operation. -/
def aluUnary (opc : Nat) (f : Word → Alu) : OpDef :=
  { opc := opc, legal := onlyBits 0xFF000000, writes := fun o => [fDD o], uses := fun o => [(fSA o, 0)], prods := aluProds,
    eff := plain fun o lane b => aluLane (fDD o) (f (b.dreg lane (fSA o))) lane b }

/-- A shift: amt is SH with I = 1 and SB[4:0] with I = 0 (R174); the field not used is 0. -/
def aluShift (opc : Nat) (f : Word → Nat → Alu) : OpDef :=
  { opc := opc, legal := fun o => if fI o then onlyBits 0xFF0FC000 o else onlyBits 0xFFF00000 o, writes := fun o => [fDD o],
    uses := fun o => (fSA o, 0) :: (if fI o then [] else [(fSB o, 0)]), prods := aluProds,
    eff := plain fun o lane b =>
      let amt := if fI o then fSH o else (b.dreg lane (fSB o)).toNat % 32
      aluLane (fDD o) (f (b.dreg lane (fSA o)) amt) lane b }

/-- An operation with IMM24. -/
def aluImm (opc : Nat) (f : Word → Word → Alu) : OpDef :=
  { opc := opc, legal := fun _ => true, writes := fun o => [fDD o], uses := fun o => [(fSA o, 0)], prods := aluProds,
    eff := plain fun o lane b => aluLane (fDD o) (f (b.dreg lane (fSA o)) (fImm o)) lane b }

/-- Flags of a comparison. -/
def cmpFlags (a b : Word) : LaneFlags := { z := some (a = b), n := some (a.toInt < b.toInt), v := some false }

/-- SA + SB. -/
def sumInt (a b : Word) : Int := a.toInt + b.toInt
/-- SA − SB. -/
def diffInt (a b : Word) : Int := a.toInt - b.toInt
/-- SA × 2^amt. -/
def shlInt (a : Word) (k : Nat) : Int := a.toInt * 2 ^ k

/-- Leading zero bits of a word (R174 CLZ). -/
def clz (a : Word) : Nat := if a = 0 then 32 else 31 - Nat.log2 a.toNat

/-! ### Operations -/

/-- ADD. -/
def opAdd : OpDef := aluReg 0x0E fun a b => aluWrap (sumInt a b)
/-- ADDS. -/
def opAdds : OpDef := aluReg 0x0F fun a b => aluSat (sumInt a b)
/-- SUB. -/
def opSub : OpDef := aluReg 0x10 fun a b => aluWrap (diffInt a b)
/-- SUBS. -/
def opSubs : OpDef := aluReg 0x11 fun a b => aluSat (diffInt a b)
/-- AND. -/
def opAnd : OpDef := aluReg 0x12 fun a b => aluWord (a &&& b)
/-- OR. -/
def opOr : OpDef := aluReg 0x13 fun a b => aluWord (a ||| b)
/-- XOR. -/
def opXor : OpDef := aluReg 0x14 fun a b => aluWord (a ^^^ b)
/-- SHL. -/
def opShl : OpDef := aluShift 0x15 fun a k => aluWrap (shlInt a k)
/-- SHLS. -/
def opShls : OpDef := aluShift 0x16 fun a k => aluSat (shlInt a k)
/-- SHR. -/
def opShr : OpDef := aluShift 0x17 fun a k => aluWord (a >>> k)
/-- ASR. -/
def opAsr : OpDef := aluShift 0x18 fun a k => aluWord (wi (a.toInt / 2 ^ k))
/-- ABS. -/
def opAbs : OpDef := aluUnary 0x19 fun a => aluSat (if a.toInt < 0 then - a.toInt else a.toInt)
/-- NEG. -/
def opNeg : OpDef := aluUnary 0x1A fun a => aluSat (- a.toInt)
/-- MIN. -/
def opMin : OpDef := aluReg 0x1B fun a b => aluWord (if a.toInt < b.toInt then a else b)
/-- MAX. -/
def opMax : OpDef := aluReg 0x1C fun a b => aluWord (if a.toInt < b.toInt then b else a)
/-- CLZ. -/
def opClz : OpDef := aluUnary 0x1D fun a => aluWord (wd (clz a))
/-- CMP. -/
def opCmp : OpDef :=
  { opc := 0x1E, legal := onlyBits 0x0FF00000, uses := fun o => [(fSA o, 0), (fSB o, 0)], prods := fun _ => [⟨resFlags, 7⟩],
    eff := plain fun o lane b => putFlags lane (cmpFlags (b.dreg lane (fSA o)) (b.dreg lane (fSB o))) b }
/-- MOV. -/
def opMov : OpDef := aluUnary 0x1F aluWord
/-- ADDI. -/
def opAddi : OpDef := aluImm 0x20 fun a b => aluWrap (sumInt a b)
/-- ADDIS. -/
def opAddis : OpDef := aluImm 0x21 fun a b => aluSat (sumInt a b)
/-- ANDI. -/
def opAndi : OpDef := aluImm 0x22 fun a b => aluWord (a &&& b)
/-- ORI. -/
def opOri : OpDef := aluImm 0x23 fun a b => aluWord (a ||| b)
/-- XORI. -/
def opXori : OpDef := aluImm 0x24 fun a b => aluWord (a ^^^ b)
/-- CMPI. -/
def opCmpi : OpDef :=
  { opc := 0x25, legal := onlyBits 0x0FFFFFFF, uses := fun o => [(fSA o, 0)], prods := fun _ => [⟨resFlags, 7⟩],
    eff := plain fun o lane b => putFlags lane (cmpFlags (b.dreg lane (fSA o)) (fImm o)) b }

/-! ### The rows -/

/-- ADD (R174). -/
def execAdd (e : Nat) (ecc : EccHit) (s : State) : Host.Outcome State Fault Refusal := finish (runShort opAdd e ecc s)
/-- ADDS (R174). -/
def execAdds (e : Nat) (ecc : EccHit) (s : State) : Host.Outcome State Fault Refusal := finish (runShort opAdds e ecc s)
/-- SUB (R174). -/
def execSub (e : Nat) (ecc : EccHit) (s : State) : Host.Outcome State Fault Refusal := finish (runShort opSub e ecc s)
/-- SUBS (R174). -/
def execSubs (e : Nat) (ecc : EccHit) (s : State) : Host.Outcome State Fault Refusal := finish (runShort opSubs e ecc s)
/-- AND (R174). -/
def execAnd (e : Nat) (ecc : EccHit) (s : State) : Host.Outcome State Fault Refusal := finish (runShort opAnd e ecc s)
/-- OR (R174). -/
def execOr (e : Nat) (ecc : EccHit) (s : State) : Host.Outcome State Fault Refusal := finish (runShort opOr e ecc s)
/-- XOR (R174). -/
def execXor (e : Nat) (ecc : EccHit) (s : State) : Host.Outcome State Fault Refusal := finish (runShort opXor e ecc s)
/-- SHL (R174). -/
def execShl (e : Nat) (ecc : EccHit) (s : State) : Host.Outcome State Fault Refusal := finish (runShort opShl e ecc s)
/-- SHLS (R174). -/
def execShls (e : Nat) (ecc : EccHit) (s : State) : Host.Outcome State Fault Refusal := finish (runShort opShls e ecc s)
/-- SHR (R174). -/
def execShr (e : Nat) (ecc : EccHit) (s : State) : Host.Outcome State Fault Refusal := finish (runShort opShr e ecc s)
/-- ASR (R174). -/
def execAsr (e : Nat) (ecc : EccHit) (s : State) : Host.Outcome State Fault Refusal := finish (runShort opAsr e ecc s)
/-- ABS (R174). -/
def execAbs (e : Nat) (ecc : EccHit) (s : State) : Host.Outcome State Fault Refusal := finish (runShort opAbs e ecc s)
/-- NEG (R174). -/
def execNeg (e : Nat) (ecc : EccHit) (s : State) : Host.Outcome State Fault Refusal := finish (runShort opNeg e ecc s)
/-- MIN (R174). -/
def execMin (e : Nat) (ecc : EccHit) (s : State) : Host.Outcome State Fault Refusal := finish (runShort opMin e ecc s)
/-- MAX (R174). -/
def execMax (e : Nat) (ecc : EccHit) (s : State) : Host.Outcome State Fault Refusal := finish (runShort opMax e ecc s)
/-- CLZ (R174). -/
def execClz (e : Nat) (ecc : EccHit) (s : State) : Host.Outcome State Fault Refusal := finish (runShort opClz e ecc s)
/-- CMP (R174). -/
def execCmp (e : Nat) (ecc : EccHit) (s : State) : Host.Outcome State Fault Refusal := finish (runShort opCmp e ecc s)
/-- MOV (R174). -/
def execMov (e : Nat) (ecc : EccHit) (s : State) : Host.Outcome State Fault Refusal := finish (runShort opMov e ecc s)
/-- ADDI (R174). -/
def execAddi (e : Nat) (ecc : EccHit) (s : State) : Host.Outcome State Fault Refusal := finish (runShort opAddi e ecc s)
/-- ADDIS (R174). -/
def execAddis (e : Nat) (ecc : EccHit) (s : State) : Host.Outcome State Fault Refusal := finish (runShort opAddis e ecc s)
/-- ANDI (R174). -/
def execAndi (e : Nat) (ecc : EccHit) (s : State) : Host.Outcome State Fault Refusal := finish (runShort opAndi e ecc s)
/-- ORI (R174). -/
def execOri (e : Nat) (ecc : EccHit) (s : State) : Host.Outcome State Fault Refusal := finish (runShort opOri e ecc s)
/-- XORI (R174). -/
def execXori (e : Nat) (ecc : EccHit) (s : State) : Host.Outcome State Fault Refusal := finish (runShort opXori e ecc s)
/-- CMPI (R174). -/
def execCmpi (e : Nat) (ecc : EccHit) (s : State) : Host.Outcome State Fault Refusal := finish (runShort opCmpi e ecc s)

end Sys2Proof.Machine
end

