-- ==== Sys2Proof/Machine/EngMisc.lean ====
section
/-! DEFINITION. NOP, select, logarithm and exponential, division step, table lookup, cursor and counter instructions 0x00 and
0x26 to 0x2F (R175, R180 to R185, R199, R200). -/

namespace Sys2Proof.Machine

/-- COND of format S: OPND[19:16]. -/
def fCOND (o : Nat) : Nat := bits o 16 4
/-- F of format X: OPND[23]. -/
def fF (o : Nat) : Bool := bitOf o 23
/-- A of format V: OPND[23:22]. -/
def fVA (o : Nat) : Nat := bits o 22 2
/-- UN of format T: OPND[23:21]. -/
def fUN (o : Nat) : Nat := bits o 21 3
/-- K of format T: OPND[20:17]. -/
def fK (o : Nat) : Nat := bits o 17 4
/-- SP of format T: OPND[16]. -/
def fSP (o : Nat) : Bool := bitOf o 16
/-- AR of formats A1 and A2: OPND[31:26]. -/
def fAR (o : Nat) : Nat := bits o 26 6
/-- SA of format A2: OPND[25:22]. -/
def fA2SA (o : Nat) : Nat := bits o 22 4
/-- AR or CTR of format A3: OPND[27:22]. -/
def fA3 (o : Nat) : Nat := bits o 22 6
/-- IMM16 of format A1: OPND[15:0]. -/
def fImm16 (o : Nat) : Nat := o % 2 ^ 16

/-- A legal cursor-field code in AR (R166). -/
def arLegal (c : Nat) : Bool := 0x10 ≤ c && c < 0x30

/-- One restoring step of a division (R182): the remainder and the quotient bit. -/
def divStep (acc : Acc) (d : Word) : Acc × Bool :=
  let r : Acc := BitVec.ofInt 80 (acc.toInt * 2)
  let dv : Int := d.toInt * 2 ^ 31
  if dv ≤ r.toInt then (BitVec.ofInt 80 (r.toInt - dv), true) else (r, false)

/-- Indices of the two table entries of TLI in a lane and the fraction (R183). -/
def tliIndex (k : Nat) (sa : Word) : Nat × Nat × Nat :=
  let i := sa.toNat / 2 ^ (32 - k)
  (i, (i + 1) % 2 ^ k, sa.toNat % 2 ^ (32 - k))

/-- Interpolation of TLI before saturation (R183). -/
def tliValue (k : Nat) (a b : Word) (f : Nat) : Int := rndDiv (a.toInt * 2 ^ (32 - k) + (b.toInt - a.toInt) * f) (2 ^ (32 - k))

/-- What RDPC reads (R199, R200, R699): a counter of the engine or a global counter, 0 where its group is not open. -/
def rdpcWord (ctr e : Nat) (s : State) : Word :=
  if ctr < 8 then (if bitOf (s.getF PCN_UACC.ENG) e then wd (s.getF (PCN_ECNT.COUNT e ctr)) else 0)
  else if bitOf (s.getF PCN_UACC.GLB) ((ctr - 8) / 8) then wd (s.getF (PCN_GCNT.COUNT (ctr - 8))) else 0

/-- NOP: moves only. -/
def opNop : OpDef := { opc := 0x00, legal := fun o => o = 0, eff := fun _ _ _ b => (b, 0) }

/-- SEL: DD := SA where the condition holds in the lane, otherwise SB. -/
def opSel : OpDef :=
  { opc := 0x26, legal := fun o => onlyBits 0xFFFF0000 o && fCOND o < 12, writes := fun o => [fDD o],
    uses := fun o => [(fSA o, 0), (fSB o, 0), (resFlags, 2)], prods := fun o => [⟨fDD o, 1⟩],
    eff := plain fun o lane b =>
      b.setD lane (fDD o) (if condHolds (fCOND o) lane b then b.dreg lane (fSA o) else b.dreg lane (fSB o)) }

/-- LOG2 (R180). -/
def opLog2 : OpDef :=
  { opc := 0x27, legal := onlyBits 0xFF000000, writes := fun o => [fDD o], uses := fun o => [(fSA o, 0)],
    prods := fun o => [⟨fDD o, 3⟩],
    eff := plain fun o lane b => b.setD lane (fDD o) (wi (log2q (b.dreg lane (fSA o)).toInt.natAbs)) }

/-- EXP2 (R181). It and TLI, which set the flag S alone, count among the flag-setting instructions of R128 and R186: DESIGN CHOICE (log
entry 190). -/
def opExp2 : OpDef :=
  { opc := 0x28, legal := onlyBits 0xFF800000, writes := fun o => [fDD o], uses := fun o => [(fSA o, 0)],
    prods := fun o => [⟨fDD o, 3⟩, ⟨resFlags, 7⟩],
    eff := plain fun o lane b =>
      let r := exp2q (fF o) (b.dreg lane (fSA o)).toInt
      putFlags lane { s := r.2 } (b.setD lane (fDD o) (wi r.1)) }

/-- DIVS (R182). -/
def opDivs : OpDef :=
  { opc := 0x29, legal := onlyBits 0xFFC00000, writes := fun o => [fDD o],
    uses := fun o => [(fDD o, 6), (fSA o, 0), (resAcc (fVA o), 0)],
    prods := fun o => [⟨fDD o, 4⟩, ⟨resAcc (fVA o), 6⟩],
    eff := plain fun o lane b =>
      let r := divStep (b.accum lane (fVA o)) (b.dreg lane (fSA o))
      (b.setAcc lane (fVA o) r.1).setD lane (fDD o) ((b.dreg lane (fDD o) <<< 1) ||| (if r.2 then 1 else 0)) }

/-- TLI (R183 to R185; log entry 190). -/
def opTli : OpDef :=
  { opc := 0x2A, legal := fun o => 1 ≤ fK o && fK o ≤ (if fSP o then 12 else 13) && onlyBits 0xFFFF0000 o, writes := fun o => [fDD o],
    uses := fun o => [(fSA o, 1), (cCUR (fUN o), 4)], prods := fun o => [⟨fDD o, 3⟩, ⟨resFlags, 7⟩],
    reads := fun o => some (fSP o),
    addrs := fun o b => (List.range 8).flatMap fun lane =>
      let i := tliIndex (fK o) (b.dreg lane (fSA o))
      let u := (b.field (cCUR (fUN o))).toNat
      [u + i.1, u + i.2.1],
    eff := fun o e s b0 => (eachLane (fun lane b =>
      let i := tliIndex (fK o) (b0.dreg lane (fSA o))
      let u := (b0.field (cCUR (fUN o))).toNat
      let x := tliValue (fK o) (loadWord e lane (fSP o) (u + i.1) b0.page s) (loadWord e lane (fSP o) (u + i.2.1) b0.page s) i.2.2
      putFlags lane { s := satHits 32 x } (b.setD lane (fDD o) (wi (satTo 32 x)))) b0, 0) }

/-- MOVA: AR := IMM16. -/
def opMova : OpDef :=
  { opc := 0x2B, legal := fun o => onlyBits 0xFC00FFFF o && arLegal (fAR o), writes := fun o => [fAR o],
    prods := fun o => [⟨fAR o, 9⟩], eff := fun o _ _ b => (b.setField (fAR o) (BitVec.ofNat 16 (fImm16 o)), 0) }

/-- ADDA: AR := AR + IMM16 modulo 65,536. -/
def opAdda : OpDef :=
  { opc := 0x2C, legal := fun o => onlyBits 0xFC00FFFF o && arLegal (fAR o), writes := fun o => [fAR o],
    uses := fun o => [(fAR o, 5)], prods := fun o => [⟨fAR o, 9⟩],
    eff := fun o _ _ b => (b.setField (fAR o) (b.field (fAR o) + BitVec.ofNat 16 (fImm16 o)), 0) }

/-- MVDA: AR := bits [15:0] of SA in lane 0. -/
def opMvda : OpDef :=
  { opc := 0x2D, legal := fun o => onlyBits 0xFFC00000 o && arLegal (fAR o), writes := fun o => [fAR o],
    uses := fun o => [(fA2SA o, 0)], prods := fun o => [⟨fAR o, 9⟩],
    eff := fun o _ _ b => (b.setField (fAR o) ((b.dreg 0 (fA2SA o)).setWidth 16), 0) }

/-- MVAD: DD := AR in every lane. -/
def opMvad : OpDef :=
  { opc := 0x2E, legal := fun o => onlyBits 0xFFC00000 o && arLegal (fA3 o), writes := fun o => [fDD o],
    uses := fun o => [(fA3 o, 5)], prods := fun o => [⟨fDD o, 1⟩],
    eff := plain fun o lane b => b.setD lane (fDD o) (fieldWord (fA3 o) (b.field (fA3 o))) }

/-- RDPC (R199, R200). -/
def opRdpc : OpDef :=
  { opc := 0x2F, legal := fun o => onlyBits 0xFFC00000 o && fA3 o ≤ 39, writes := fun o => [fDD o],
    prods := fun o => [⟨fDD o, 5⟩],
    eff := fun o e s b => (eachLane (fun lane b => b.setD lane (fDD o) (rdpcWord (fA3 o) e s)) b, 0) }

/-! ### The rows -/

/-- SEL (R175). -/
def execSel (e : Nat) (ecc : EccHit) (s : State) : Host.Outcome State Fault Refusal := finish (runShort opSel e ecc s)
/-- LOG2 (R175). -/
def execLog2 (e : Nat) (ecc : EccHit) (s : State) : Host.Outcome State Fault Refusal := finish (runShort opLog2 e ecc s)
/-- EXP2 (R175). -/
def execExp2 (e : Nat) (ecc : EccHit) (s : State) : Host.Outcome State Fault Refusal := finish (runShort opExp2 e ecc s)
/-- DIVS (R175). -/
def execDivs (e : Nat) (ecc : EccHit) (s : State) : Host.Outcome State Fault Refusal := finish (runShort opDivs e ecc s)
/-- TLI (R175). -/
def execTli (e : Nat) (ecc : EccHit) (s : State) : Host.Outcome State Fault Refusal := finish (runShort opTli e ecc s)
/-- MOVA (R175). -/
def execMova (e : Nat) (ecc : EccHit) (s : State) : Host.Outcome State Fault Refusal := finish (runShort opMova e ecc s)
/-- ADDA (R175). -/
def execAdda (e : Nat) (ecc : EccHit) (s : State) : Host.Outcome State Fault Refusal := finish (runShort opAdda e ecc s)
/-- MVDA (R175). -/
def execMvda (e : Nat) (ecc : EccHit) (s : State) : Host.Outcome State Fault Refusal := finish (runShort opMvda e ecc s)
/-- MVAD (R175). -/
def execMvad (e : Nat) (ecc : EccHit) (s : State) : Host.Outcome State Fault Refusal := finish (runShort opMvad e ecc s)
/-- RDPC (R175). -/
def execRdpc (e : Nat) (ecc : EccHit) (s : State) : Host.Outcome State Fault Refusal := finish (runShort opRdpc e ecc s)

end Sys2Proof.Machine
end

