-- ==== Sys2Proof/Machine/EngCtl.lean ====
section
/-! DEFINITION. Long-format instructions 0x30 to 0x39 (R176, R187 to R198), the store buffers' own cycles (R131), the single
step of a halted engine (R147). -/

namespace Sys2Proof.Machine

/-! ### Fields of formats L1 to L5 (R163) -/

/-- TARGET or LAST: bits [13:0]. -/
def lTarget (o : Nat) : Nat := o % 2 ^ 14
/-- COND of format L3: bits [17:14]. -/
def lCond (o : Nat) : Nat := bits o 14 4
/-- COUNT of format L4: bits [29:14]. -/
def lCount (o : Nat) : Nat := bits o 14 16
/-- AR of format L5: bits [19:14]. -/
def lAR (o : Nat) : Nat := bits o 14 6

/-- The branch of R192 to `t`. -/
def branchTo (t : Nat) (b : Bank) : Bank := { b with pc := t, loops := branchLoops t b.loops }

/-- The next instruction in sequence, where no loop ends. -/
def nextPc (b : Bank) : Bank := { b with pc := b.pc + 1 }

/-- Does the condition hold in every lane of the mask (R193)? -/
def allHold (c mask : Nat) (b : Bank) : Bool := (List.range 8).all fun l => !bitOf mask l || condHolds c l b

/-- Does the condition hold in a lane of the mask (R193)? -/
def anyHolds (c mask : Nat) (b : Bank) : Bool := (List.range 8).any fun l => bitOf mask l && condHolds c l b

/-- LDI: DD := IMM32 in every lane. -/
def ldiEff (o _mask : Nat) (b : Bank) : LongEff :=
  { bank := eachLane (fun lane b => b.setD lane (bits o 54 4) (wd (bits o 22 32))) b, prods := [⟨bits o 54 4, 1⟩] }

/-- A loop of `count` iterations from the next instruction to LAST; none at 0, with `c1` or `c0` further cycles
(R187, R188, R176). -/
def loopStart (o count c1 c0 : Nat) (b : Bank) : LongEff :=
  if count = 0 then { bank := { b with pc := lTarget o + 1 }, more := c0 }
  else { bank := { b with pc := b.pc + 1, loops := ⟨b.pc + 1, lTarget o, count⟩ :: b.loops }, more := c1 }

/-- The body of a loop is legal: LAST is not below its start, and a count of 0 does not run past 0x3FFF (R188, R191,
R195). -/
def loopLegal (o count : Nat) (b : Bank) : Bool := b.pc + 1 ≤ lTarget o && !(count = 0 && lTarget o = 0x3FFF)

/-- LDI (R176). -/
def runLdi (e : Nat) (ecc : EccHit) (s : State) : State :=
  runLong 0x30 false (fun o _ => o % 2 ^ 22 = 0) (fun _ => []) (fun _ _ => none) ldiEff e ecc s

/-- BRA (R176, R192). -/
def runBra (e : Nat) (ecc : EccHit) (s : State) : State :=
  runLong 0x31 true (fun o _ => o < 2 ^ 14) (fun _ => []) (fun _ _ => none)
    (fun o _ b => { bank := branchTo (lTarget o) b, more := 2, taken := true }) e ecc s

/-- BALL (R193). -/
def runBall (e : Nat) (ecc : EccHit) (s : State) : State :=
  runLong 0x32 true (fun o _ => o < 2 ^ 18 && lCond o < 12) (fun _ => [(resFlags, 3)]) (fun _ _ => none)
    (fun o mask b => if allHold (lCond o) mask b then { bank := branchTo (lTarget o) b, more := 2, taken := true }
      else { bank := nextPc b }) e ecc s

/-- BANY (R193). -/
def runBany (e : Nat) (ecc : EccHit) (s : State) : State :=
  runLong 0x33 true (fun o _ => o < 2 ^ 18 && lCond o < 12) (fun _ => [(resFlags, 3)]) (fun _ _ => none)
    (fun o mask b => if anyHolds (lCond o) mask b then { bank := branchTo (lTarget o) b, more := 2, taken := true }
      else { bank := nextPc b }) e ecc s

/-- CALL (R194); the return address has the 14 bits of a call-stack entry (R99). -/
def runCall (e : Nat) (ecc : EccHit) (s : State) : State :=
  runLong 0x34 true (fun o _ => o < 2 ^ 14) (fun _ => []) (fun _ b => if 4 ≤ b.stack.length then some 3 else none)
    (fun o _ b => { bank := { b with pc := lTarget o, stack := (b.pc + 1) % 2 ^ 14 :: b.stack }, more := 2, taken := true })
    e ecc s

/-- RET (R176, R194). -/
def runRet (e : Nat) (ecc : EccHit) (s : State) : State :=
  runLong 0x35 true (fun o _ => o = 0) (fun _ => []) (fun _ b => if b.stack.isEmpty then some 3 else none)
    (fun _ _ b => { bank := { b with pc := b.stack.headD 0, stack := b.stack.tail }, more := 2, taken := true }) e ecc s

/-- LOOP (R187, R188). -/
def runLoop (e : Nat) (ecc : EccHit) (s : State) : State :=
  runLong 0x36 true (fun o b => o < 2 ^ 30 && loopLegal o (lCount o) b) (fun _ => [])
    (fun o b => if lCount o ≠ 0 ∧ 3 ≤ b.loops.length then some 4 else none)
    (fun o _ b => loopStart o (lCount o) 0 2 b) e ecc s

/-- LOOPU (R187, R188). -/
def runLoopu (e : Nat) (ecc : EccHit) (s : State) : State :=
  runLong 0x37 true (fun o b => o < 2 ^ 20 && arLegal (lAR o) && loopLegal o (b.field (lAR o)).toNat b) (fun o => [(lAR o, 4)])
    (fun o b => if (b.field (lAR o)).toNat ≠ 0 ∧ 3 ≤ b.loops.length then some 4 else none)
    (fun o _ b => loopStart o (b.field (lAR o)).toNat 1 3 b) e ecc s

/-- The task ends by END, or by ENFORCE where END's own cycle takes its charge above BUDGET (R229). -/
def endOver (e n : Nat) (s : State) : State :=
  endRunning e n (overNow n s && (s.task n).enforce) (noteBudget e n s)

/-- END or YIELD before it acts: fetch and decode checks, and its issue. Answers the state and the task it acts for; none
where it stopped the task or is not the next instruction. -/
def runSwitch (opc e : Nat) (ecc : EccHit) (s : State) : State × Option Nat :=
  if !issues opc e s then (s, none) else
  match runningOn e s with
  | none => (s, none)
  | some n =>
    let b := s.bank e
    let s := eccNote e n ecc s
    match fetchBad ecc with
    | some w => (stopEcc e true w s, none)
    | none =>
    if insLong (engWord e s) ≠ 0 || atLoopEnd b.pc b.loops then (stopTask e 2 s, none)
    else
      let s := memBefore e true false (memBefore e false false s)
      let s := retire e n b.pc false 0 0 0 0 (pushStores e [] s)
      (countE e 0x04 2 (n % 4096) s, some n)

/-- END (R138, R197, R220). -/
def runEnd (e : Nat) (ecc : EccHit) (s : State) : State :=
  match runSwitch 0x39 e ecc s with
  | (s, none) => s
  | (s, some n) => endOver e n (countE e 0x0F 1 (n % 4096) s)

/-- YIELD (R198, R227): the context is kept and the MID list runs; without YIELDOK it acts as END. -/
def runYield (e : Nat) (ecc : EccHit) (s : State) : State :=
  match runSwitch 0x38 e ecc s with
  | (s, none) => s
  | (s, some n) =>
    let s := countE e 0x0E 1 (n % 4096) s
    if !(s.task n).yieldOk || (overNow n s && (s.task n).enforce) then endOver e n s
    else
      let s := noteBudget e n s
      let s := onBank e (fun b => { b with pc := (b.pc + 1) % 2 ^ 14 }) s
      let s := vacate e (setAside e n 6 s)
      let s := if (s.task n).count 2 = 0 then enterReady n s else serveStaging (issueList n 2 s)
      afterEnd e s

/-! ### One instruction of whatever opcode -/

/-- A reserved opcode, 0x3A to 0x3F: ILLEGAL (R164). -/
def runReserved (e : Nat) (ecc : EccHit) (s : State) : State :=
  match runningOn e s with
  | none => s
  | some n =>
    let s := eccNote e n ecc s
    match fetchBad ecc with
    | some w => stopEcc e true w s
    | none => stopTask e 2 s

/-- The short-format operations in the order of their opcodes, 0x00 to 0x2F. -/
def shortOps : List OpDef :=
  [opNop, opMpy, opMac, opMns, opMacn, opAclr, opAld, opAldw, opAadd, opAsub, opAsh, opRnd, opTrn, opAmv,
   opAdd, opAdds, opSub, opSubs, opAnd, opOr, opXor, opShl, opShls, opShr, opAsr, opAbs, opNeg, opMin, opMax, opClz, opCmp, opMov,
   opAddi, opAddis, opAndi, opOri, opXori, opCmpi] ++
  [opSel, opLog2, opExp2, opDivs, opTli, opMova, opAdda, opMvda, opMvad, opRdpc]

/-- Engine `e` runs the instruction at its program counter, whatever its opcode. -/
def runAny (e : Nat) (ecc : EccHit) (s : State) : State :=
  let opc := insOpc (engWord e s)
  match shortOps[opc]? with
  | some d => runShort d e ecc s
  | none =>
    match opc with
    | 0x30 => runLdi e ecc s
    | 0x31 => runBra e ecc s
    | 0x32 => runBall e ecc s
    | 0x33 => runBany e ecc s
    | 0x34 => runCall e ecc s
    | 0x35 => runRet e ecc s
    | 0x36 => runLoop e ecc s
    | 0x37 => runLoopu e ecc s
    | 0x38 => runYield e ecc s
    | 0x39 => runEnd e ecc s
    | _ => runReserved e ecc s

/-- A write of 1 to STEP on a HALTED engine (R147): one instruction of the task it was halted in; a reserved opcode is stopped
as ILLEGAL. The engine stays HALTED. -/
def stepEngine (e : Nat) (s : State) : State :=
  if s.engState e = 2 ∧ (s.engine e).haltedRun then
    let s := runAny e .clean (s.setF (ENG_STAT.STATE e) 1)
    let runs := s.engState e = 1
    (onEngine e (fun u => { u with haltedRun := runs }) s).setF (ENG_STAT.STATE e) 2
  else s

/-! ### The rows -/

/-- NOP (R175). A word whose opcode no row names, 0x3A to 0x3F, is met by this row too: it stops the task as ILLEGAL
(R164). -/
def execNop (e : Nat) (ecc : EccHit) (s : State) : Host.Outcome State Fault Refusal :=
  finish (if e < 18 && s.engState e = 1 && 0x3A ≤ insOpc (engWord e s) then runReserved e ecc s else runShort opNop e ecc s)
/-- LDI (R176). -/
def execLdi (e : Nat) (ecc : EccHit) (s : State) : Host.Outcome State Fault Refusal := finish (runLdi e ecc s)
/-- BRA (R176). -/
def execBra (e : Nat) (ecc : EccHit) (s : State) : Host.Outcome State Fault Refusal := finish (runBra e ecc s)
/-- BALL (R193). -/
def execBall (e : Nat) (ecc : EccHit) (s : State) : Host.Outcome State Fault Refusal := finish (runBall e ecc s)
/-- BANY (R193). -/
def execBany (e : Nat) (ecc : EccHit) (s : State) : Host.Outcome State Fault Refusal := finish (runBany e ecc s)
/-- CALL (R194). -/
def execCall (e : Nat) (ecc : EccHit) (s : State) : Host.Outcome State Fault Refusal := finish (runCall e ecc s)
/-- RET (R176). -/
def execRet (e : Nat) (ecc : EccHit) (s : State) : Host.Outcome State Fault Refusal := finish (runRet e ecc s)
/-- LOOP (R187). -/
def execLoop (e : Nat) (ecc : EccHit) (s : State) : Host.Outcome State Fault Refusal := finish (runLoop e ecc s)
/-- LOOPU (R187). -/
def execLoopu (e : Nat) (ecc : EccHit) (s : State) : Host.Outcome State Fault Refusal := finish (runLoopu e ecc s)
/-- YIELD (R227). -/
def execYield (e : Nat) (ecc : EccHit) (s : State) : Host.Outcome State Fault Refusal := finish (runYield e ecc s)
/-- END (R197). -/
def execEnd (e : Nat) (ecc : EccHit) (s : State) : Host.Outcome State Fault Refusal := finish (runEnd e ecc s)

/-- A buffered store drains into X (`isY` false) or Y memory in a cycle in which no load uses it (R131). -/
def execStoreBufferDrain (e : Nat) (isY : Bool) (s : State) : Host.Outcome State Fault Refusal :=
  finish (if e < 18 then drainBuf e isY s else s)

/-- TAG_INSTRUCTION: the tagged instruction of engine `e`, which the operands describe, completes WB or is discarded, and the record of
R698 is written: its task and PC, its `total` cycles from PF to WB, its stall cycles and their cause, whether it was discarded or raised
an exception. The seven stages take 6 cycles and the stalls (R127). -/
def execTagInstruction (e task pc total stall cause : Nat) (disc exc : Bool) (s : State) : Host.Outcome State Fault Refusal :=
  finish <|
    if e < 18 ∧ s.pcn.tagged.find? (fun c => c.1 = e) = some (e, ⟨task, pc, stall, cause, disc, exc⟩) ∧ (disc ∨ 6 + stall ≤ total) then
      let s := s.setF (PCN_TREC0.VALID e) 1
      let s := s.setF (PCN_TREC0.DISC e) (b2n disc)
      let s := s.setF (PCN_TREC0.EXC e) (b2n exc)
      let s := s.setF (PCN_TREC0.TASK e) task
      let s := s.setF (PCN_TREC0.PC e) pc
      let w := (if disc then 0 else min total 0xFFFF) * 65536 + min stall 0xFF * 256 + cause % 5
      let s := s.onPcn fun u => { u with trec1 := smPut 0 e (wd w) u.trec1, tagged := u.tagged.filter fun c => c.1 ≠ e }
      countE e 0x13 1 (task % 4096) s
    else s

end Sys2Proof.Machine
end

