-- ==== Sys2Proof/Machine/Clock.lean ====
section
/-! DEFINITION. Clock reference unit (chapter 11): candidates, qualification, selection, switching, the loop, holdover. -/

namespace Sys2Proof.Machine

/-! ### Small state -/

/-- `CLK_STAT.STATE`: 0 FREE_RUN, 1 ACQUIRING, 2 LOCKED, 3 HOLDOVER, 4 LOST (R514). -/
def State.cstate (s : State) : Nat := s.getF CLK_STAT.STATE
/-- `CLK_STAT.SEL`. -/
def State.csel (s : State) : Nat := s.getF CLK_STAT.SEL

/-- The loop is engaged on the selected candidate. -/
def engaged (s : State) : Bool := s.cstate = 1 || s.cstate = 2

/-- Last loop step of a candidate's class (R486, R509). -/
def lastStep (k : Nat) : Nat := if k = 5 then 3 else 2

/-- Dwells of a candidate's class by step, the last one in window, in steer updates of 10 µs (R509). -/
def stepDwell (k step : Nat) : Nat :=
  (match k with | 5 => [50000, 100000, 200000, 300000] | 7 => [200000, 400000, 800000] | _ => [50000, 100000, 200000]).getD step 0

/-- LOCKWIN of a candidate's class, in the units of `CLK_PHASE` (R509, R525). -/
def lockWin (k : Nat) (s : State) : Nat :=
  match k with
  | 5 => s.getF CLK_LOCKWIN.PTP * 16
  | 7 => s.getF CLK_SWCFG.BUFWIN * 4096
  | _ => s.getF CLK_LOCKWIN.WC * 16

/-- The counters of R510 and R512 start anew: the loop engages, or changes its step. -/
def loopCount (s : State) : State := s.onClk fun u => { u with dwell := 0, near := 0, far := 0 }

/-- Rate at which the events of a WC-class candidate are compared with the grid, in Hz: the lower of its nominal rate and the internal
rate (R486, R487). -/
def eventHz (k : Nat) (s : State) : Nat :=
  let nom :=
    if k ≤ 4 then (match s.getF (CLK_CAND.NOMRATE k) with | 0 => 48000 | 1 => 96000 | _ => 192000)
    else if 8 ≤ k then nominalHz (s.getF (CLK_CAND.SRC k)) s else 0
  if nom = 0 then s.fs else min nom s.fs

/-- A phase against candidate `k`, in the units of `CLK_PHASE`: that of a WC-class candidate is taken modulo its event period, so that
it is at most half of it; the grid marks of a ring, which carry the shot count, the PTP-aligned instants and a fill level are not
reduced (R490, R505). -/
def wrapPhase (k : Nat) (x : Int) (s : State) : Int :=
  if k = 5 ∨ k = 7 ∨ (k = 6 ∧ s.flag CLK_STAT.RINGFOLLOW) then x
  else x - rndDiv (rndDiv (x * eventHz k s) 16000000000 * 16000000000) (eventHz k s)

/-- Fill level of receive context `c`: samples received and not yet played out (R428, R522); of a Locked one, up to the last
placed. -/
def fillLevel (c : Nat) (s : State) : Int :=
  let u := s.ctx c
  if u.conv then u.got.length
  else match u.got with
    | [] => 0
    | g => ((g.foldl (fun a x => max a (x.1 + 1)) 0 : Nat) : Int) - (s.shot * s.n : Nat)

/-- Frequency estimate of the servo against REFCLK, in 2^-16 ppm: the rate at which the PTP time counter runs, by its increment and the
steer of the root that clocks it (R492, R513, R537; DEDUCED, log entry 162). -/
def servoPpm (s : State) : Int :=
  let den : Nat := incNominal * 2 ^ 6
  rndDiv ((s.inc : Int) * (10 ^ 6 * 2 ^ 22 + sgn 32 (s.getF CLK_STEER.S)) - (incNominal * (10 ^ 6 * 2 ^ 22) : Nat)) den

/-- A CLK_CFG message for a global register (R525). -/
def clkCfg (s : State) : State := raiseOpen 0x21 s

/-- FREE_RUN forced with FORCESEL 0, which counts as LOCKED (R752). -/
def forcedFree (s : State) : Bool := s.cstate = 0 && s.flag CLK_CTRL.FORCE && s.getF CLK_CTRL.FORCESEL = 0

/-- The clock counts as LOCKED for the modes (R752). -/
def clkLocked (s : State) : Bool := s.cstate = 2 || forcedFree s

/-- The clock state HOLDOVER, LOST or FREE_RUN takes RUN to RUN_HOLDOVER (R752). -/
def clkLostCond (s : State) : Bool := s.cstate = 3 || s.cstate = 4 || (s.cstate = 0 && !forcedFree s)

/-- The clock state stands for RUN_HOLDOVER: a loss, or ACQUIRING after one (R747, R752). -/
def clkHold (s : State) : Bool := clkLostCond s || (s.cstate = 1 && s.boot.clkCond)

/-- STATE and SEL become what they are given; a change of either sends CLOCK_EVENT (R515) and a state other than LOCKED makes the
running second's history entry invalid (R517). From PTP to another candidate, the servo starts from the nominal increment (R537). -/
def setClk (state sel : Nat) (s : State) : State :=
  let st := s.cstate
  let sl := s.csel
  let s := s.onBoot fun u => { u with clkCond := clkHold s }
  let s := (s.setF CLK_STAT.STATE state).setF CLK_STAT.SEL sel
  let s := if sl = 5 ∧ sel ≠ 5 then setInc incNominal s else s
  let s := if state = 2 then s else s.onClk fun u => { u with secOk := false }
  if state = st ∧ sel = sl then s
  else
    let ws := [state * 2 ^ 29 + sel * 2 ^ 25 + st * 2 ^ 13 + sl * 2 ^ 9 + s.getF CLK_STAT.PTPGRID, s.getF CLK_STEER.S]
    notify 0x8007 ws (logEvent 0xEA ws s)

/-- Effective quality of candidate `k` (R497); 255 for REFCLK and for a disabled candidate. -/
def quality (k : Nat) (s : State) : Nat :=
  if k = 0 ∨ !s.flag (CLK_CAND.EN k) then 255
  else if !s.flag (CLK_CAND.QSRC k) then s.getF (CLK_CAND.QCFG k)
  else if k = 5 then s.getF PTP_GMQ.CLASS
  else smGet 255 s.clk.adv k

/-- `CLK_CANDSTk.Q` of every candidate. -/
def showQs (s : State) : State := (List.range 12).foldl (fun s k => s.setF (CLK_CANDST.Q k) (quality k s)) s

/-- Candidate `k` counts as enabled: a follower of grid marks treats every candidate but 6 as disabled (R490). -/
def candOn (k : Nat) (s : State) : Bool := s.flag (CLK_CAND.EN k) && (k = 6 || !s.flag CLK_STAT.RINGFOLLOW)

/-- Candidate `k` is enabled and qualified. -/
def usable (k : Nat) (s : State) : Bool := 1 ≤ k && k ≤ 11 && candOn k s && s.flag (CLK_CANDST.QUAL k)

/-- Candidate `a` comes before `b` in the order of R498. -/
def candBefore (s : State) (a b : Nat) : Bool :=
  let key := fun k => quality k s * 256 + s.getF (CLK_CAND.PRIO k) * 16 + k
  key a ≤ key b

/-- The best candidate (R498). -/
def bestCand (s : State) : Option Nat :=
  (List.range 12).foldl (fun (b : Option Nat) k =>
    if usable k s then (match b with | some j => if candBefore s j k then b else some k | none => some k) else b) none

/-! ### Holdover (R517 to R521) -/

/-- The window of R518: the 60 entries that end between 70 s and 10 s before now. -/
def holdWindow (s : State) : List HistE := ((s.clk.hist.drop 10).take 60).filter (·.ok)

/-- e(u) at temperature `u` (1/16 °C) in 2^-36 ppm (R519). -/
def eModel (u : Int) (s : State) : Int :=
  let d := u - sgn 16 (s.getF CLK_TREF.U)
  sgn 32 (s.getF CLK_TC1.C) * d * 2 ^ 16 + sgn 32 (s.getF CLK_TC2.C) * d ^ 2 * 2 ^ 8 + sgn 32 (s.getF CLK_TC3.C) * d ^ 3

/-- The mean of a sum over a count, rounded convergently. -/
def meanOf (x : Int) (n : Nat) : Int := if n = 0 then 0 else rndDiv x n

/-- Limit of the steer: 250 ppm in units of 2^-22 ppm (R478). -/
def steerMax : Int := 250 * 2 ^ 22

/-- A steer asked for, clamped, with CLAMP and its message (R483). -/
def clampSteer (x : Int) (s : State) : Int × State :=
  let y := max (-steerMax) (min steerMax x)
  if x = y then (y, s.setF CLK_STAT.CLAMP 0)
  else (y, if s.flag CLK_STAT.CLAMP then s else raiseOpen 0x20 (s.setF CLK_STAT.CLAMP 1))

/-- The target steer of the holdover (R519), in 2^-22 ppm. -/
def holdTarget (s : State) : Int :=
  let u := s.clk
  let n := u.avgN
  let eNow := eModel (sgn 16 (s.getF CLK_TEMP.U)) s
  let day : Int := s.boot.life.opsec
  let den : Nat := n * 2 ^ 14 * 345600
  let avg : Int := sgn 32 (s.getF CLK_HOLDAVG.S)
  rndDiv (avg * (den : Int) - (eNow * (n : Int) - u.eSum) * 345600 - sgn 32 (s.getF CLK_AGE.A) * (day * n - (u.dSum : Int)) * 2 ^ 14) den

/-- The target steer is evaluated. -/
def evalHold (s : State) : State :=
  let (t, s) := clampSteer (holdTarget s) s
  s.onClk fun u => { u with hold := t }

/-- The averages of the window are latched (R518). -/
def latchHold (s : State) : State :=
  let w := holdWindow s
  let n := w.length
  -- the mean of entries' means, over a common denominator
  let den : Nat := w.foldl (fun (a : Nat) e => a * e.sn) 1
  let sum : Int := w.foldl (fun (a : Int) e => a + e.s * ((den / e.sn : Nat) : Int)) 0
  let s := s.setF CLK_HOLDAVG.S (lowBits 32 (meanOf sum (den * n)))
  let s := s.setF CLK_HOLDSTAT.ENTRIES n
  s.onClk fun u => { u with
    avgN := n, eSum := w.foldl (fun (a : Int) e => a + eModel (meanOf e.u e.un) s) 0, dSum := w.foldl (fun (a : Nat) e => a + e.day) 0 }

/-! ### Selection (R498 to R506) -/

/-- The wait-to-restore timer is cancelled (R500, R502). -/
def cancelWtr (s : State) : State := (s.setF CLK_STAT.WTR 0).setF CLK_STAT.WTRLEFT 0

/-- A switch to candidate `k` starts (R504). -/
def startSwitch (k : Nat) (s : State) : State :=
  (cancelWtr (s.setF CLK_STAT.SWITCHING 1)).onClk fun u => { u with target := some k, boSum := 0, boN := 0 }

/-- The unit leaves its selected candidate: holdover where history is usable and enabled, else FREE_RUN (R499, R515). -/
def leaveSel (s : State) : State :=
  let s := (cancelWtr s).setF CLK_STAT.ALIGNING 0
  if s.flag CLK_HOLDCFG.EN ∧ s.getF CLK_HOLDCFG.MINENT ≤ (holdWindow s).length then
    let s := evalHold (latchHold (s.setF CLK_HOLDSTAT.ELAPSED 0))
    raiseOpen 0x27 (setClk 3 s.csel s)
  else setClk 0 0 s

/-- Selection after a change of the candidates (R490, R498 to R503). Nothing starts during a build-out. -/
def reselect (s : State) : State :=
  let s := showQs s
  if s.flag CLK_STAT.SWITCHING then s
  else if s.flag CLK_STAT.RINGFOLLOW then
    (if usable 6 s ∧ !(engaged s ∧ s.csel = 6) then startSwitch 6 s else cancelWtr s)
  else if s.flag CLK_CTRL.FORCE then
    let k := s.getF CLK_CTRL.FORCESEL
    if k = 0 then (if s.cstate = 0 then s else setClk 0 0 ((cancelWtr s).setF CLK_STAT.ALIGNING 0))
    else if usable k s then (if engaged s ∧ s.csel = k then cancelWtr s else startSwitch k s)
    else if engaged s then leaveSel s else s
  else match bestCand s with
    | none => cancelWtr s
    | some k =>
      if !engaged s then startSwitch k s
      else if s.csel = k then cancelWtr s
      else if s.flag CLK_STAT.WTR then s
      else (s.setF CLK_STAT.WTR 1).setF CLK_STAT.WTRLEFT (s.getF CLK_SWCFG.WTR)

/-- Candidate `k` stands as a disabled one does: neither qualified nor counting (R496). -/
def unqualify (k : Nat) (s : State) : State :=
  (((s.setF (CLK_CANDST.QUAL k) 0).setF (CLK_CANDST.QUALIFYING k) 0).setF (CLK_CANDST.DRIFT k) 0).setF (CLK_CANDST.QLEFT k) 0

/-- The count of R493 of an enabled candidate with activity starts. -/
def startQual (k : Nat) (s : State) : State :=
  if candOn k s ∧ s.flag (CLK_CANDST.ACTIVE k) ∧ !s.flag (CLK_CANDST.QUAL k) then
    (s.setF (CLK_CANDST.QUALIFYING k) 1).setF (CLK_CANDST.QLEFT k) (s.getF CLK_QUALCFG.QTIME)
  else s

/-- The candidates that a follower of grid marks treats as disabled (R490). -/
def otherCands : List Nat := [1, 2, 3, 4, 5, 7, 8, 9, 10, 11]

/-- The unit becomes a follower of grid marks (R490): every other candidate counts as disabled, one being switched to or selected
included. -/
def followMarks (s : State) : State :=
  let s := if s.flag CLK_STAT.RINGFOLLOW then s
    else otherCands.foldl (fun s k => unqualify k s)
      (cancelWtr ((s.setF CLK_STAT.RINGFOLLOW 1).onClk fun u => { u with followed := false }))
  let s := if s.flag CLK_STAT.SWITCHING ∧ s.clk.target ≠ some 6 then
      (s.setF CLK_STAT.SWITCHING 0).onClk fun u => { u with target := none } else s
  reselect (if engaged s ∧ s.csel ≠ 6 then leaveSel s else s)

/-- The unit follows no grid marks any more: every candidate counts by its own registers again, and is qualified through the full
count of R493, as one that has just been enabled (R490, R496). -/
def unfollowMarks (s : State) : State :=
  if s.flag CLK_STAT.RINGFOLLOW then
    reselect (otherCands.foldl (fun s k => startQual k s)
      ((s.setF CLK_STAT.RINGFOLLOW 0).onClk fun u => { u with followed := false }))
  else s

/-- The selected candidate is disqualified or disabled (R499, R502). -/
def loseSel (s : State) : State := reselect (leaveSel s)

/-- Candidate `k` can no longer be selected: it leaves the loop, or ends the switch to it (R499, R501). -/
def dropCand (k : Nat) (s : State) : State :=
  if engaged s ∧ s.csel = k then loseSel s
  else if s.flag CLK_STAT.SWITCHING ∧ s.clk.target = some k then
    reselect ((s.setF CLK_STAT.SWITCHING 0).onClk fun u => { u with target := none })
  else reselect s

/-- The count of R493 of candidate `k` is complete. -/
def qualDone (k : Nat) (s : State) : Bool :=
  1 ≤ k && k ≤ 11 && s.flag (CLK_CANDST.QUALIFYING k) && s.flag (CLK_CANDST.ACTIVE k) && s.getF (CLK_CANDST.QLEFT k) = 0

/-- Candidate `k` becomes qualified where its count is complete (R493). -/
def qualify (k : Nat) (s : State) : State :=
  if qualDone k s then (s.setF (CLK_CANDST.QUALIFYING k) 0).setF (CLK_CANDST.QUAL k) 1 else s

/-- Candidate `k` is disqualified (R494), and counts anew where its activity goes on (R493, R496). Candidates that qualify in the same
update take part in the selection (R498). -/
def disqualify (k : Nat) (s : State) : State :=
  let s := (s.setF (CLK_CANDST.QUAL k) 0).setF (CLK_CANDST.DRIFT k) 0
  let s := (List.range 12).foldl (fun s j => qualify j s) s
  dropCand k (startQual k (raise 0x22 0 k (s.incF (CLK_CANDE.DISQ k) 1)))

/-! ### Candidate events (R491 to R496) -/

/-- What R491 asks of a candidate's source for activity, where State holds it. -/
def sourceUp (k : Nat) (s : State) : Bool :=
  match k with
  | 5 => s.flag PTP_STAT.SERVOVALID
  | 6 => if s.role = 2 ∧ s.getF RL_STAT.STATE ≠ 2 then s.flag STI_STAT.LINK else s.getF (RL_LSTAT.STATE 0) = 2
  | 7 => let u := s.ctx (s.getF (CLK_CAND.SRC 7)); u.st = 2 && !u.lost
  | 8 | 9 | 10 | 11 => let g := s.getF (CLK_CAND.SRC k); s.flag (CG_CFG.ENABLE g) && !s.flag (CG_CFG.DIR g)
  | _ => true

/-- Quality that candidate `k` advertises: an AESREF by the grade in the two low bits of its channel-status byte 4 (R497). -/
def advQ (k adv : Nat) : Nat :=
  if k = 3 ∨ k = 4 then (match adv % 4 with | 1 => 20 | 2 => 60 | _ => 248) else min adv 255

/-- CANDIDATE_ACTIVITY: activity of candidate `k` begins, with the quality it advertises (R491, R493, R497). -/
def beginActivity (k adv : Nat) (s : State) : State :=
  if 1 ≤ k ∧ k ≤ 11 ∧ !s.flag (CLK_CANDST.ACTIVE k) ∧ sourceUp k s then
    let s := (s.setF (CLK_CANDST.ACTIVE k) 1).onClk fun u => { u with
      adv := smPut 255 k (advQ k adv) u.adv, gates := smPut 0 k 0 u.gates, fills := if k = 7 then [fillLevel (s.getF (CLK_CAND.SRC 7)) s] else u.fills }
    showQs (startQual k s)
  else s

/-- Activity of candidate `k` ends (R491, R492, R494). -/
def endActivity (k : Nat) (s : State) : State :=
  if 1 ≤ k ∧ k ≤ 11 ∧ s.flag (CLK_CANDST.ACTIVE k) then
    let s := ((s.setF (CLK_CANDST.ACTIVE k) 0).setF (CLK_CANDF.PPM k) 0).setF (CLK_CANDST.QUALIFYING k) 0
    let s := s.setF (CLK_CANDST.QLEFT k) 0
    if s.flag (CLK_CANDST.QUAL k) then disqualify k s else s
  else s

/-- CANDIDATE_ACTIVITY (R491). -/
def execCandidateActivity (k adv : Nat) (s : State) : Host.Outcome State Fault Refusal := finish (beginActivity k adv s)

/-- State itself shows that the activity of candidate `k` goes on (R491): the servo-valid signal is up, the link is up, or the context
is RUNNING and not lost. -/
def activityHeld (k : Nat) (s : State) : Bool := (k = 5 || k = 6 || k = 7) && sourceUp k s

/-- ACTIVITY_END (R491). -/
def execActivityEnd (k : Nat) (s : State) : Host.Outcome State Fault Refusal := finish (if activityHeld k s then s else endActivity k s)

/-- Offset that the frequency monitor of candidate `k` shows over a gate of 1 s, in 2^-16 ppm: the servo's for PTP, that of the fill
level for the stream candidate, and `ppm`, which its unit measures, for every other (R492). -/
def monitorPpm (k : Nat) (ppm : Int) (s : State) : Int :=
  match k with
  | 5 => servoPpm s
  | 7 =>
    let f := s.clk.fills
    let c := s.ctx (s.getF (CLK_CAND.SRC 7))
    rndDiv ((f.headD 0 - f.getD 10 0) * (65536 * 10 ^ 6)) (rateHz c.rate) + rndDiv (sgn 32 (s.getF CLK_STEER.S)) 64
  | _ => ppm

/-- FREQ_MONITOR_UPDATE: a 100 ms update of candidate `k`: its offset against REFCLK in 2^-16 ppm, and the quality it advertises. The
first value after its activity begins follows one full gate of 1 s (R492 to R495). -/
def freqUpdate (k : Nat) (ppm : Int) (adv : Nat) (s : State) : State :=
  if !(1 ≤ k ∧ k ≤ 11 ∧ s.flag (CLK_CANDST.ACTIVE k)) then s else
  let g := min 10 (smGet 0 s.clk.gates k + 1)
  let level := fillLevel (s.getF (CLK_CAND.SRC 7)) s
  let s := s.onClk fun u => { u with
    adv := smPut 255 k (advQ k adv) u.adv, gates := smPut 0 k g u.gates, fills := if k = 7 then (level :: u.fills).take 11 else u.fills }
  let ppm := if g < 10 then 0 else monitorPpm k ppm s
  let s := s.setF (CLK_CANDF.PPM k) (lowBits 32 ppm)
  let off := ppm.natAbs
  let beyond := decide (s.getF CLK_QUALCFG.ACCEPT * 65536 < off)
  let s :=
    if s.flag (CLK_CANDST.QUALIFYING k) then
      s.setF (CLK_CANDST.QLEFT k) (if beyond then s.getF CLK_QUALCFG.QTIME else s.getF (CLK_CANDST.QLEFT k) - 1)
    else s
  if !s.flag (CLK_CANDST.QUAL k) then reselect s
  else if s.getF CLK_QUALCFG.REJECT * 65536 < off then disqualify k s
  else if beyond then
    let s := if k = s.csel then s.onClk fun u => { u with secOk := false } else s
    reselect (if s.flag (CLK_CANDST.DRIFT k) then s
      else raise 0x23 0 k ((s.setF (CLK_CANDST.DRIFT k) 1).incF (CLK_CANDE.DRIFTW k) 1))
  else reselect (s.setF (CLK_CANDST.DRIFT k) 0)

/-- FREQ_MONITOR_UPDATE (R492). -/
def execFreqMonitorUpdate (k : Nat) (ppm : Int) (adv : Nat) (s : State) : Host.Outcome State Fault Refusal := finish (freqUpdate k ppm adv s)

/-- CANDIDATE_QUALIFIED: the count of R493 of candidate `k` completes. -/
def candQualified (k : Nat) (s : State) : State := if qualDone k s then reselect (qualify k s) else s

/-- CANDIDATE_QUALIFIED (R493). -/
def execCandidateQualified (k : Nat) (s : State) : Host.Outcome State Fault Refusal := finish (candQualified k s)

/-- Candidate 7 has activity while its context is RUNNING and not lost (R491, R523). -/
def bufCand (s : State) : State := if sourceUp 7 s then beginActivity 7 255 s else endActivity 7 s

/-- Every started context stops, the stream candidate's among them (R491, R761). -/
def stopAllStreams (s : State) : State := bufCand (stopStreams s)

/-- STREAM_STOP_ACT (R433). -/
def execStreamStopAct (c : Nat) (s : State) : Host.Outcome State Fault Refusal :=
  finish (if c < 1024 then bufCand (actCtx c false s) else s)

/-- STREAM_PACKET_ACCEPT (R423). -/
def execStreamPacketAccept (c pos : Nat) (s : State) : Host.Outcome State Fault Refusal :=
  finish (if c < 1024 then bufCand (packetAccept c pos s) else s)

/-- STREAM_LOST: receive context `c` has accepted no packet for the longer of 8 packet times and 2 ms (R426). -/
def execStreamLost (c : Nat) (s : State) : Host.Outcome State Fault Refusal :=
  finish (if c < 1024 then bufCand (loseCtx c s) else s)

/-! ### Switching (R500, R504 to R507) -/

/-- WTR_EXPIRY: the wait-to-restore timer expires and a switch to the candidate that is best at that moment starts (R500). -/
def execWtrExpiry (s : State) : Host.Outcome State Fault Refusal :=
  finish <|
    if s.flag CLK_STAT.WTR ∧ s.getF CLK_STAT.WTRLEFT = 0 ∧ !s.flag CLK_STAT.SWITCHING then
      match bestCand s with
      | some k => if engaged s ∧ s.csel = k then cancelWtr s else startSwitch k s
      | none => cancelWtr s
    else s

/-- Offset of a boundary, at that boundary, from the PTP-aligned instant of its sample index, in 1/16 ns (R505, R536). -/
def gridOffset (s : State) : Int :=
  let a := (rndDiv ((s.shot * s.n : Nat) * 16000000000) s.fs).toNat
  timeDiff s.ptp.sec s.ptp.ns (a / 16000000000) 0 * 16 + (s.ptp.frac / 2 ^ 28 : Nat) - (a % 16000000000 : Nat)

/-- Fill level of the stream candidate's context less its DELAY, in 2^-16 sample (R505, R522). -/
def fillOffset (s : State) : Int :=
  let c := s.getF (CLK_CAND.SRC 7)
  (fillLevel c s - (s.ctx c).delay) * 65536

/-- A boundary gives a measurement of the running build-out (R504, R505). -/
def buildSample (s : State) : State :=
  let add := fun (x : Int) => s.onClk fun u => { u with boSum := u.boSum + x, boN := u.boN + 1 }
  if !s.flag CLK_STAT.SWITCHING then s
  else match s.clk.target with
    | some 5 => add (gridOffset s)
    | some 7 => add (fillOffset s)
    | _ => s

/-- The build-out of candidate `k`, before it is reduced: the mean of the measurements of R504. For PTP they are the boundaries'
offsets from their PTP-aligned instants and for the stream candidate the deviation of the fill level from DELAY (R505); of the events
of a WC-class candidate, and of PTP while no tick gives boundaries, it is `b` as measured. -/
def measuredBuild (k : Nat) (b : Int) (s : State) : Int :=
  if k ≠ 5 ∧ k ≠ 7 then b
  else if s.clk.boN ≠ 0 then meanOf s.clk.boSum s.clk.boN
  else if k = 7 then fillOffset s else b

/-- BUILDOUT_END: the build-out is measured and the loop engages on the target (R490, R504 to R507); `b`, in the units of `CLK_PHASE`,
is what the phase detector has measured of its events. -/
def buildoutEnd (b : Int) (s : State) : State :=
  match s.clk.target with
  | none => s
  | some k =>
    if !s.flag CLK_STAT.SWITCHING then s else
    let first := s.flag CLK_STAT.RINGFOLLOW && k = 6 && !s.clk.followed
    let b := if first ∧ !s.tick then 0 else wrapPhase k (measuredBuild k b s) s
    let s := (s.setF CLK_STAT.SWITCHING 0).onClk fun u => { u with target := none, alignAcc := 0, bo := b, followed := u.followed || (k = 6 && s.flag CLK_STAT.RINGFOLLOW) }
    let s := s.setF CLK_BUILDOUT.B (lowBits 32 b)
    let inWin := decide (b.natAbs ≤ s.getF CLK_LOOP.PTPWIN * 16000)
    let align := b ≠ 0 && (if k = 5 then inWin else s.flag (CLK_CAND.ALIGN k) || (k = 6 && s.flag CLK_STAT.RINGFOLLOW))
    let s := (s.setF CLK_STAT.ALIGNING (b2n align)).setF CLK_STAT.STEP 0
    let s := if k = 5 ∧ !inWin then raiseOpen 0x25 (s.setF CLK_STAT.PTPGRID 0) else s
    let s := loopCount (setClk 1 k s)
    reselect (raise 0x24 0 k (s.onClk fun u => { u with wide := 0 }))

/-- BUILDOUT_END (R504). -/
def execBuildoutEnd (b : Int) (s : State) : Host.Outcome State Fault Refusal := finish (buildoutEnd b s)

/-- ALIGN_COMPLETE: the build-out has reached 0 (R506, R507). -/
def execAlignComplete (s : State) : Host.Outcome State Fault Refusal :=
  finish (if s.flag CLK_STAT.ALIGNING ∧ s.clk.bo = 0 then s.setF CLK_STAT.ALIGNING 0 else s)

/-! ### The loop (R480, R481, R506, R509 to R512) -/

/-- b after one step of R506 in 10 µs, ALIGNSLEW ppm of time. -/
def alignStep (s : State) : State :=
  if !s.flag CLK_STAT.ALIGNING then s else
  let rate : Nat := s.getF CLK_LOOP.ALIGNSLEW * (if s.csel = 7 then s.fs * 65536 else 16 * 10 ^ 9)
  let acc : Nat := s.clk.alignAcc + rate
  let d : Int := Int.ofNat (acc / 10 ^ 11)
  let b := s.clk.bo
  let b' := if 0 ≤ b then max 0 (b - d) else min 0 (b + d)
  (s.setF CLK_BUILDOUT.B (lowBits 32 b')).onClk fun u => { u with bo := b', alignAcc := acc % 10 ^ 11 }

/-- Phase error of the selected candidate: the measured phase less b (R504): that of PTP is the PTP unit's, that of the stream
candidate the fill level less its DELAY (R505, R513, R522). -/
def phaseError (phase : Int) (s : State) : Int :=
  let b := s.clk.bo
  match s.csel with
  | 5 => s.ptp.phase - b
  | 7 => fillOffset s - b
  | k => wrapPhase k (phase - b) s

/-- The counters of R510 and R512 take a phase error. -/
def countPhase (e : Int) (s : State) : State :=
  let w := lockWin s.csel s
  let a := e.natAbs
  s.onClk fun u => { u with
    dwell := u.dwell + 1, wide := if a ≤ 4 * w then u.wide + 1 else 0, near := if a ≤ w then u.near + 1 else 0,
    far := if 4 * w < a then u.far + 1 else 0 }

/-- STEER_UPDATE: the DCO takes a new steer value (R480): towards 0 in FREE_RUN, the holdover value in HOLDOVER and LOST, and what the
loop asks for while it is engaged, at no more than SLEW; `phase` is the phase of the selected candidate's events against the grid as
it is measured, where the state does not give it (R504, R513, R522, R536). -/
def steerUpdate (phase : Int) (s : State) : State :=
  let r : Int × State :=
    match s.cstate with
    | 0 => (0, s.setF CLK_STAT.CLAMP 0)
    | 3 | 4 => (s.clk.hold, s)
    | _ =>
      let e := phaseError phase s
      let s := countPhase e (s.setF CLK_PHASE.ERR (lowBits 32 e))
      let (x, s) := fresh Config.loopSteer s
      clampSteer x s
  let s := alignStep r.2
  let old := sgn 32 (s.getF CLK_STEER.S)
  let lim : Int := Int.ofNat (s.getF CLK_LOOP.SLEW * 2 ^ 22 / 100000)
  let new := old + max (-lim) (min lim (r.1 - old))
  (s.setF CLK_STEER.S (lowBits 32 new)).onClk fun u => { u with sSum := u.sSum + new, sN := u.sN + 1 }

/-- STEER_UPDATE (R480). -/
def execSteerUpdate (phase : Int) (s : State) : Host.Outcome State Fault Refusal := finish (steerUpdate phase s)

/-- The condition of R510 for the next step, or at the last step for LOCKED, holds: the dwell, and 0.5 s within 4 × LOCKWIN, or the
dwell within LOCKWIN. -/
def stepReady (s : State) : Bool :=
  let step := s.getF CLK_STAT.STEP
  let d := stepDwell s.csel step
  let u := s.clk
  d ≤ u.dwell && (if step < lastStep s.csel then 50000 ≤ u.wide else d ≤ u.near)

/-- LOOP_STEP: the loop narrows to its next step, or becomes LOCKED at its last (R510). -/
def execLoopStep (s : State) : Host.Outcome State Fault Refusal :=
  finish <|
    if s.cstate = 1 ∧ stepReady s then
      loopCount (if s.getF CLK_STAT.STEP < lastStep s.csel then s.setF CLK_STAT.STEP (s.getF CLK_STAT.STEP + 1) else setClk 2 s.csel s)
    else s

/-- CLK_UNLOCK: the phase error has stayed above 4 × LOCKWIN for 1 s while LOCKED (R512). -/
def execClkUnlock (s : State) : Host.Outcome State Fault Refusal :=
  finish (if s.cstate = 2 ∧ 100000 ≤ s.clk.far then
    raiseOpen 0x26 (loopCount (setClk 1 s.csel (s.setF CLK_STAT.STEP (lastStep s.csel - 1)))) else s)

/-! ### Seconds -/

/-- HISTORY_ENTRY: a second ends and its entry is recorded (R517); the wait-to-restore timer has one second less (R500). -/
def execHistoryEntry (s : State) : Host.Outcome State Fault Refusal :=
  finish <|
    let u := s.clk
    let ok := u.secOk && s.cstate = 2 && !s.flag (CLK_CANDST.DRIFT s.csel)
    let e : HistE :=
      ⟨if u.sN = 0 then sgn 32 (s.getF CLK_STEER.S) else u.sSum, max 1 u.sN, if u.uN = 0 then sgn 16 (s.getF CLK_TEMP.U) else u.uSum, max 1 u.uN,
        s.boot.life.opsec, ok⟩
    let s := s.setF CLK_STAT.WTRLEFT (s.getF CLK_STAT.WTRLEFT - 1)
    s.onClk fun u => { u with
      hist := (e :: u.hist).take 70, sSum := 0, sN := 0, uSum := 0, uN := 0,
      secOk := s.cstate = 2 && !s.flag (CLK_CANDST.DRIFT s.csel) }

/-- HOLDOVER_STEER_EVAL: the target steer is evaluated once per second of HOLDOVER and LOST (R519). -/
def execHoldoverSteerEval (s : State) : Host.Outcome State Fault Refusal :=
  finish (if s.cstate = 3 ∨ s.cstate = 4 then evalHold (s.incF CLK_HOLDSTAT.ELAPSED 1) else s)

/-- CLK_LOST: holdover has lasted LIMIT seconds (R514, R515). -/
def execClkLost (s : State) : Host.Outcome State Fault Refusal :=
  finish (if s.cstate = 3 ∧ s.getF CLK_HOLDCFG.LIMIT ≤ s.getF CLK_HOLDSTAT.ELAPSED then setClk 4 s.csel (raise 0x28 0 s.csel s) else s)

/-- TEMP_MEASURE: the die temperature, in 1/16 °C (R520), with the warning of R799. -/
def execTempMeasure (u : Int) (s : State) : Host.Outcome State Fault Refusal :=
  finish <|
    let s := (s.setF CLK_TEMP.U (lowBits 16 u)).onClk fun c => { c with uSum := c.uSum + u, uN := c.uN + 1 }
    let m := match s.pin.thMax with | some x => max u x | none => u
    let s := (s.setF PIN_THSTAT.MAX (lowBits 16 m)).onPin fun x => { x with thMax := some m }
    let warn : Int := s.getF PIN_THERM.WARN
    if !s.flag PIN_THSTAT.ABOVE ∧ warn * 16 ≤ u then raise 0x70 0 (lowBits 16 u) (s.setF PIN_THSTAT.ABOVE 1)
    else if u < (warn - 5) * 16 then s.setF PIN_THSTAT.ABOVE 0
    else s

/-! ### Register writes (R485, R488, R503, R525, R526) -/

/-- The FSYNC candidates that name group `g` lose their activity where it is no enabled slave (R489). -/
def groupCands (g : Nat) (s : State) : State :=
  [8, 9, 10, 11].foldl (fun s k => if s.getF (CLK_CAND.SRC k) = g ∧ !sourceUp k s then endActivity k s else s) s

/-- The written word `v` of candidate `k` is discarded (R485, R488, R500, R523): another source or rate while it stays enabled, a
reserved or foreign NOMRATE, a source outside its range, or QSRC on a candidate that has none. -/
def candBad (k v : Nat) (s : State) : Bool :=
  let old := (s.reg (0x10100 + 0x10 * k)).toNat
  let nom := bits v 27 2
  let src := bits v 0 10
  (bitOf old 31 && bitOf v 31 && (v &&& 0x780003FF) ≠ (old &&& 0x780003FF))
  || nom = 3 || (nom ≠ 0 && !(1 ≤ k && k ≤ 4))
  || (src ≠ 0 && !(7 ≤ k)) || (8 ≤ k && 16 ≤ src) || (k = 7 && s.getF NET_SPART.RXCOUNT ≤ src)
  || (bitOf v 30 && !(k = 3 || k = 4 || k = 5 || k = 6))

/-- A write of `CLK_CANDk` (R488, R489, R500, R523): the activity of a candidate that names another source follows that source. -/
def writeCand (k v : Nat) (s : State) : State :=
  let en := s.flag (CLK_CAND.EN k)
  let v := v &&& 0xF8FFF3FF
  if k = 0 then s
  else if candBad k v s then raise 0x21 0 k s
  else
    let s := s.setReg (0x10100 + 0x10 * k) (wd v)
    let s := if k = 7 then bufCand s else if 8 ≤ k ∧ !sourceUp k s then endActivity k s else s
    if en ∧ !bitOf v 31 then
      dropCand k (unqualify k s)
    else if !en ∧ bitOf v 31 then reselect (startQual k s)
    else reselect s

/-- CANDIDATE_CFG_WRITE (R488). -/
def execCandidateCfgWrite (k : Nat) (v : Word) (s : State) : Host.Outcome State Fault Refusal := finish (if s.hostOpen ∧ k < 12 then writeCand k v.toNat s else s)

/-- A write of `CLK_CTRL` (R503): a FORCESEL above 11 discards it. -/
def writeClkCtrl (v : Nat) (s : State) : State :=
  if 11 < bits v 24 4 then clkCfg s else reselect (s.setReg 0x10000 (wd (v &&& 0x8F000001)))

/-- FORCE_WRITE (R503). -/
def execForceWrite (v : Word) (s : State) : Host.Outcome State Fault Refusal := finish (if s.hostOpen then writeClkCtrl v.toNat s else s)

/-- MCLK_OUT begins or ceases to be driven (R485), except where R704 holds it at high impedance. -/
def mclkOut (on : Bool) (s : State) : State := if s.hiZ then s else s.out (.pin "MCLK_OUT" on)

/-- A write of `CLK_MCLK` (R485). -/
def writeMclk (v : Nat) (s : State) : State :=
  let en := s.flag CLK_MCLK.EN
  if en ∧ bits v 30 1 ≠ s.getF CLK_MCLK.SEL ∧ bitOf v 31 then clkCfg s
  else if en then
    (if bitOf v 31 then s
     else if bits v 30 1 ≠ s.getF CLK_MCLK.SEL then clkCfg s
     else mclkOut false (releasePin 160 (s.setF CLK_MCLK.EN 0)))
  else
    let s := s.setF CLK_MCLK.SEL (bits v 30 1)
    if bitOf v 31 then
      let (st, s) := claimPin 160 ⟨7, 0⟩ s
      if st = 0 then mclkOut true (s.setF CLK_MCLK.EN 1) else s
    else s

/-- MCLK_EN_WRITE (R485). -/
def execMclkEnWrite (v : Word) (s : State) : Host.Outcome State Fault Refusal := finish (if s.hostOpen then writeMclk v.toNat s else s)

/-- A write to a CLK register that has a range or a condition of its own (R525). -/
def writeClkReg (off v : Nat) (s : State) : State :=
  let put := fun (ok : Bool) (w : Nat) => if ok then s.setReg (0x10000 + off) (wd w) else clkCfg s
  let inr := fun (x lo hi : Nat) => decide (lo ≤ x) && decide (x ≤ hi)
  match off with
  | 0x00 => writeClkCtrl v s
  | 0x10 =>
    let r := bits v 24 8
    let a := bits v 16 8
    let q := bits v 0 13
    let ok := inr r 2 250 && inr a 1 249 && decide (a < r) && inr q 1 6000
    if ok then (s.setReg 0x10010 (wd (v &&& 0xFFFF1FFF))).onSti fun u => { u with qtimeWritten := true } else clkCfg s
  | 0x14 => put (bits v 20 12 ≤ 3600 && inr (bits v 8 8) 1 255 && inr (bits v 0 8) 10 200) (v &&& 0xFFF0FFFF)
  | 0x18 => put (inr (bits v 24 8) 1 200 && inr (bits v 16 8) 1 50 && inr (bits v 0 14) 1 10000) (v &&& 0xFFFF3FFF)
  | 0x1C => put (1 ≤ bits v 16 16 && 1 ≤ bits v 0 16) v
  | 0x20 => put (inr (bits v 20 6) 1 60 && 1 ≤ bits v 0 20) (v &&& 0x83FFFFFF)
  | 0x48 => writeMclk v s
  | _ => if 0x100 ≤ off ∧ off < 0x1C0 ∧ off % 0x10 = 0 then writeCand ((off - 0x100) / 0x10) v s else s

end Sys2Proof.Machine
end

