-- ==== Sys2Proof/Machine/Ptp.lean ====
section
/-! DEFINITION. PTP (chapter 12): the ordinary clock's messages and servo, its port's state, MP links. -/

namespace Sys2Proof.Machine

/-- A PTP_CFG message (R539, R569). -/
def ptpCfg (s : State) : State := raiseOpen 0x29 s

/-- `PTP_STAT.PORTSTATE` (portState of IEEE 1588-2019: 2 FAULTY, 3 DISABLED, 4 LISTENING, 6 MASTER, 8 UNCALIBRATED, 9 SLAVE). -/
def State.pstate (s : State) : Nat := s.getF PTP_STAT.PORTSTATE

/-- SERVOVALID falls, where it is 1 (R538, R547): the adjustment in progress stops and candidate 5 loses its activity. -/
def servoLoss (s : State) : State :=
  let valid := s.flag PTP_STAT.SERVOVALID
  let s := s.onPtp fun u => { u with okRun := 0, badRun := 0, t1 := none, t2 := none, meas := none, stepped := if valid then false else u.stepped }
  if valid then
    let s := (s.setF PTP_STAT.SERVOVALID 0).onPtp fun u => { u with adj := 0 }
    endActivity 5 (raiseOpen 0x2B (s.incF PTP_EVT.VALIDLOSS 1))
  else s

/-- The PTP port's state becomes `st`; leaving SLAVE ends the servo (R547). -/
def setPortState (st : Nat) (s : State) : State :=
  let was := s.pstate
  let s := s.setF PTP_STAT.PORTSTATE st
  if was = 9 ∧ st ≠ 9 then servoLoss s else s

/-- The PTP port is FAULTY while its MP port's link is down, and listens again after it (R541); DISABLED while the clock does not
run. -/
def ptpSync (s : State) : State :=
  if !ptpOn s then (if s.pstate = 3 then s else setPortState 3 s)
  else if !s.flag (NET_PSTAT.LINK (s.getF PTP_CFG.PORT)) then setPortState 2 s
  else if s.pstate = 2 ∨ s.pstate = 3 then setPortState 4 s
  else s

/-! ### Messages (R540 to R548) -/

/-- A PTP frame for the ordinary clock is taken from a buffer of the System allowance, which its taking returns: the one that its
reception found or lacked, and where none has been seen one that is free now; with none left it is dropped and counted in RX_NOPOOL
(R399). -/
def ptpTake (f : State → State) (s : State) : State :=
  let p := s.getF PTP_CFG.PORT
  let seen := (s.nport p).ptpIn
  let s := onNPort p (fun u => { u with ptpIn := none }) s
  if seen.getD (sysFree s) then f s else if seen.isNone then s.incF (NET_RX_NOPOOL.COUNT p) 1 else s

/-- SYNC_RECEIVED: a Sync is received and timestamped as t2; a one-step Sync brings t1 (R544). Times in 1/16 ns. -/
def execSyncReceived (twoStep : Bool) (t1 corr : Int) (s : State) : Host.Outcome State Fault Refusal :=
  finish <| s |> ptpTake fun s =>
    if ptpOn s ∧ s.pstate = 9 then
      let t2 := s.stamp16 (s.getF PTP_CFG.PORT) false
      s.onPtp fun u => { u with
        t1 := if twoStep then none else some t1, t2 := some t2, csync := corr, used := false,
        meas := u.meas.map fun m => { m with last := false } }
    else s

/-- The increment that the servo of arrangement 1 asks for, within 500 ppm of nominal (R537): from the offset `th` and the
bandwidth of `PTP_SERVO2.BW` it computes a value that is open. -/
def servoSteer (th : Int) (s : State) : State :=
  if s.csel = 5 then s else
  let (x, s) := fresh (Config.servoInc (s.getF PTP_SERVO2.BW) th) s
  let d := incNominal / 2000
  setInc (max (incNominal - d) (min (incNominal + d) x)) s

/-- An accepted measurement of offset `th` (R545 to R547). -/
def measured (th : Int) (s : State) : State :=
  let far := decide (s.getF PTP_SERVO.STEPTH * 16000 < th.natAbs)
  let valid := s.flag PTP_STAT.SERVOVALID
  let s :=
    if !valid ∧ far ∧ !s.ptp.stepped then
      let s := stepCounter (-th * 2 ^ 28) (s.onPtp fun u => { u with adj := 0, stepped := true })
      raiseOpen 0x2A ((s.setF PTP_STAT.TVALID 1).incF PTP_EVT.STEPS 1)
    else s.onPtp fun u => { u with adj := -th * 2 ^ 28 }
  let s := s.onPtp fun u => { u with okRun := if far then 0 else u.okRun + 1, badRun := if far then u.badRun + 1 else 0 }
  if valid then (if 4 ≤ s.ptp.badRun then servoLoss s else servoSteer th s)
  else if s.getF PTP_SERVO.VALIDN ≤ s.ptp.okRun then beginActivity 5 255 (s.setF PTP_STAT.SERVOVALID 1)
  else s

/-- The four timestamps of a measurement are there: offset and path delay are formed, and it is accepted within PDWIN of the least of
the last 16 path delays (R544). -/
def formMeas (m : PtpMeas) (t1 t4 cdreq : Int) (s : State) : State :=
  let a := m.t2 - t1 - m.csync
  let b := t4 - m.t3 - cdreq
  let th := rndDiv (a - b) 2
  let pd := rndDiv (a + b) 2
  let least := s.ptp.pds.foldl min pd
  let s := s.onPtp fun u => { u with pds := (pd :: u.pds).take 16, meas := none }
  if least + s.getF PTP_SERVO2.PDWIN * 1600 < pd then s
  else measured th ((s.setF PTP_OFFSET.THETA (lowBits 32 th)).setF PTP_MPD.DELAY (lowBits 32 pd))

/-- The running measurement goes on with `m`, or is formed where all of it has come. -/
def stepMeas (m : PtpMeas) (s : State) : State :=
  match m.t1, m.resp with
  | some t1, some r => formMeas m t1 r.1 r.2 s
  | _, _ => s.onPtp fun u => { u with meas := some m }

/-- FOLLOW_UP_RECEIVED: t1 and a correction of the latest Sync, a two-step one, also where its Delay_Req has been sent or answered
already (R544). -/
def followUp (t1 corr : Int) (s : State) : State :=
  if ptpOn s ∧ s.pstate = 9 ∧ s.ptp.t2.isSome ∧ s.ptp.t1.isNone then
    let s := s.onPtp fun u => { u with t1 := some t1, csync := u.csync + corr }
    match s.ptp.meas with
    | some m => if m.last then stepMeas { m with t1 := some t1, csync := m.csync + corr } s else s
    | none => s
  else s

/-- FOLLOW_UP_RECEIVED (R544). -/
def execFollowUpReceived (t1 corr : Int) (s : State) : Host.Outcome State Fault Refusal := finish (ptpTake (followUp t1 corr) s)

/-- DELAY_RESP_RECEIVED: the fourth timestamp of the running measurement (R544). -/
def delayResp (t4 cdreq : Int) (s : State) : State :=
  match s.ptp.meas with
  | some m => if ptpOn s ∧ s.pstate = 9 ∧ m.resp.isNone then stepMeas { m with resp := some (t4, cdreq) } s else s
  | none => s

/-- DELAY_RESP_RECEIVED (R544). -/
def execDelayRespReceived (t4 cdreq : Int) (s : State) : Host.Outcome State Fault Refusal :=
  finish (ptpTake (delayResp t4 cdreq) s)

/-- The states that a role admits after an Announce (R540). -/
def roleAdmits (role st : Nat) : Bool :=
  match role with
  | 0 => st = 4 || st = 8 || st = 9
  | 1 => 4 ≤ st && st ≤ 9
  | _ => st = 4 || st = 5 || st = 6

/-- The role of the ordinary clock: a stand-in is held to slave-only (R718). -/
def ptpRole (s : State) : Nat := if s.role = 2 then 0 else s.getF PTP_CFG.ROLE

/-- ANNOUNCE_RECEIVED: an Announce of `parent`, with its grandmaster's identity and quality, after which the best master clock
algorithm of IEEE 1588 puts the port into state `st` (R547, R548). -/
def announce (parent gm cls acc var_ : Nat) (utcValid : Bool) (utc st : Nat) (s : State) : State :=
  if !ptpOn s ∨ s.pstate = 2 ∨ !roleAdmits (ptpRole s) st then s else
  let id := parent * 2 ^ 64 + gm
  -- another parent or grandmaster than the one followed so far
  let change := (s.pstate = 8 || s.pstate = 9) && (st = 8 || st = 9) && s.ptp.parent ≠ id
  let s := if change then servoLoss (s.incF PTP_EVT.MASTERCHG 1) else s
  let s := setPortState st s
  let s := if st = 8 ∨ st = 9 then s.onPtp fun u => { u with parent := id } else s
  if st ≠ 9 then s else
  let s := ((s.setF PTP_GMID_LO.ID (gm / 2 ^ 32)).setF PTP_GMID_HI.ID gm).setF PTP_GMQ.CLASS cls
  let s := (s.setF PTP_GMQ.ACCURACY acc).setF PTP_GMQ.VARIANCE var_
  let s := if utcValid then (s.setF PTP_UTC.OFFSET utc).setF PTP_UTC.VALID 1 else s
  reselect s

/-- ANNOUNCE_RECEIVED (R548). -/
def execAnnounceReceived (parent gm cls acc var_ : Nat) (utcValid : Bool) (utc st : Nat) (s : State) : Host.Outcome State Fault Refusal :=
  finish (ptpTake (announce parent gm cls acc var_ utcValid utc st) s)

/-- PTP_LOSS: announce receipt timeout (`cause` 0), no Sync for 4 sync intervals (1), or another change of port state, to `st`
(2) (R547). -/
def execPtpLoss (cause st : Nat) (s : State) : Host.Outcome State Fault Refusal :=
  finish <|
    if !ptpOn s ∨ s.pstate = 2 then s
    else match cause with
      | 0 => setPortState (if ptpRole s = 0 then 4 else 6) s
      | 1 => if s.pstate = 9 then servoLoss s else s
      | _ => if roleAdmits (ptpRole s) st ∧ st ≠ 9 then setPortState st s else s

/-- clockClass that the clock announces as master (R542). -/
def masterClass (s : State) : Nat :=
  match s.cstate with
  | 1 | 2 => s.getF PTP_DS.CLASS
  | 3 | 4 => s.getF PTP_DS2.HOLDCLASS
  | _ => s.getF PTP_DS2.FREECLASS

/-- A log interval of `PTP_INTV` as a byte. -/
def logIval (v : Nat) : Nat := lowBits 8 (sgn 4 v)

/-- The message that the clock sends when an interval expires (R540 to R543): as master Sync (0) or Announce (11), as slave Delay_Req (1);
none in another state. `x` holds the fields that the spec leaves open. -/
def ptpDue (kind seq x : Nat) (s : State) : Option (List Byte) :=
  let zero := beBytes 0 10
  if kind = 0 ∧ s.pstate = 6 then
    some (ptpMsg 0 (if s.flag PTP_CFG.TWOSTEP then 0x200 else 0) 0 seq 0 (logIval (s.getF PTP_INTV.LOGSYNC)) zero s)
  else if kind = 11 ∧ s.pstate = 6 then
    some (ptpMsg 11 (8 + 4 * s.getF PTP_UTC.VALID) 0 seq 5 (logIval (s.getF PTP_INTV.LOGANN))
      (zero ++ beBytes (s.getF PTP_UTC.OFFSET) 2 ++ beBytes 0 1 ++ beBytes (s.getF PTP_DS.PRIO1) 1 ++ beBytes (masterClass s) 1
        ++ beBytes (s.getF PTP_DS.ACCURACY) 1 ++ beBytes (s.getF PTP_DS2.VARIANCE) 2 ++ beBytes (s.getF PTP_DS.PRIO2) 1
        ++ beBytes Config.ptpIdentity 8 ++ beBytes 0 2 ++ beBytes x 1) s)
  else if kind = 1 ∧ s.pstate = 9 then some (ptpMsg 1 0 0 seq 1 0x7F zero s)
  else none

/-- PTP_MESSAGE_SEND: an interval expires and the message due is queued on the clock's port, event messages as express (R402, R540 to
R544). A Sync and a Delay_Req are timestamped as they leave. -/
def ptpSend (kind : Nat) (s : State) : State :=
  if !ptpOn s then s else
  let seq := smGet 0 s.ptp.seqs kind
  let (x, s) := fresh Config.ptpField s
  match ptpDue kind seq x s with
  | none => s
  | some m => ptpQueue (s.getF PTP_CFG.PORT) m (s.onPtp fun u => { u with seqs := smPut 0 kind ((seq + 1) % 65536) u.seqs })

/-- PTP_MESSAGE_SEND (R540). -/
def execPtpMessageSend (kind : Nat) (s : State) : Host.Outcome State Fault Refusal := finish (ptpSend kind s)

/-! ### At a shot boundary (R530, R534, R536, R537) -/

/-- The phase error of a boundary in 1/16 ns: the difference of R554 between the boundary timestamp, with its fraction, and the
PTP-aligned instant of the shot's first sample (R536). -/
def boundaryPhase (s : State) : State :=
  if s.csel = 5 ∧ s.flag PTP_STAT.SERVOVALID then
    s.onPtp fun u => { u with phase := gridOffset s }
  else s

/-- In arrangement 0 the increment returns to nominal at no more than SLEW (R537), by what the shots allow: what
a shot leaves below one unit of it is carried on. -/
def incReturn (s : State) : State :=
  if s.csel ≠ 5 then s else
  let i := s.inc
  if i = incNominal then s else
  let due := incNominal * s.getF CLK_LOOP.SLEW * s.n + s.ptp.slew
  let lim := due / (s.fs * 1000000)
  let s := s.onPtp fun u => { u with slew := due % (s.fs * 1000000) }
  setInc (if i < incNominal then min incNominal (i + lim) else max incNominal (i - lim)) s

/-- A waiting TIME_SET steps the counter at the boundary (R534), from where the measurements of R546 count anew; then the boundary timestamp is taken (R530). -/
def boundaryTime (s : State) : State :=
  let s := match s.ptp.timeSet with
    | some (sec, ns) => (s.onPtp fun u => { u with sec := sec, ns := ns, frac := 0, adj := 0, timeSet := none, okRun := 0 }).setF PTP_STAT.TVALID 1
    | none => s
  let s := s.onPtp fun u => { u with shotSec := u.sec, shotNs := u.ns }
  buildSample (boundaryPhase (incReturn s))

/-! ### Links and registers -/

/-- LINK_UP: the link of MP port `p` comes up after 10 ms of block lock (R394, R541). -/
def execLinkUp (p : Nat) (s : State) : Host.Outcome State Fault Refusal := finish (if p < 4 then ptpSync (linkUp p s) else s)

/-- LINK_DOWN: the link of MP port `p` goes down (R394, R491, R541). -/
def execLinkDown (p : Nat) (s : State) : Host.Outcome State Fault Refusal :=
  finish (if p < 4 then ptpSync (bufCand (linkDown p s)) else s)

/-- PREEMPT_EN_WRITE: a write of `NET_PCFGp` (R403). -/
def execPreemptEnWrite (p : Nat) (v : Word) (s : State) : Host.Outcome State Fault Refusal :=
  finish (if s.hostOpen ∧ p < 5 then ptpSync (writePcfg p v.toNat s) else s)

/-- A value of `PTP_INTV` is in the device range of a profile (R539). -/
def intvOk (profile v : Nat) : Bool :=
  let inr := fun (x lo hi : Int) => decide (lo ≤ x) && decide (x ≤ hi)
  let a := sgn 4 (bits v 28 4)
  let y := sgn 4 (bits v 24 4)
  let d := sgn 4 (bits v 20 4)
  let to_ := bits v 16 4
  2 ≤ to_ && to_ ≤ 10 &&
  match profile with
  | 0 => inr a 0 4 && inr y (-1) 1 && inr d 0 5
  | 1 => inr a 0 4 && inr y (-4) 1 && inr d (-3) 5
  | _ => inr a (-3) 1 && inr y (-7) (-1) && inr d (-7) 5

/-- A write of `PTP_CFG` (R539 to R541): only ENABLE can change while it is 1. -/
def writePtpCfg (v : Nat) (s : State) : State :=
  let old := (s.reg 0x20000).toNat
  let v := v &&& 0xFFC0FF00
  let en := bitOf old 31
  if bits v 29 2 = 3 ∨ bits v 27 2 = 3 ∨ bits v 25 2 = 3 ∨ 127 < bits v 8 8 ∨ (en ∧ v % 2 ^ 31 ≠ old % 2 ^ 31) then ptpCfg s
  else ptpSync (s.setReg 0x20000 (wd v))

/-- A write to a PTP register that has a range or a condition of its own (R569). -/
def writePtpReg (off v : Nat) (s : State) : State :=
  let put := fun (ok : Bool) (w : Nat) => if ok then s.setReg (0x20000 + off) (wd w) else ptpCfg s
  let free := !s.flag PTP_CFG.ENABLE || s.getF PTP_CFG.ROLE = 2
  match off with
  | 0x00 => writePtpCfg v s
  | 0x04 => put (intvOk (s.getF PTP_CFG.PROFILE) v) (v &&& 0xFFFF0000)
  | 0x14 => put (1 ≤ bits v 16 16 && 4 ≤ bits v 8 8) (v &&& 0xFFFFFF00)
  | 0x18 => put (1 ≤ bits v 16 16 && 1 ≤ bits v 8 8 && 1 ≤ bits v 0 8 && bits v 0 8 ≤ 100) v
  | 0x2C => put free (v % 16)
  | 0x30 => put free v
  | _ => s

end Sys2Proof.Machine
end

