-- ==== Sys2Proof/Machine/Faults.lean ====
section
/-! DEFINITION. Fault messages from outside the modelled units, the continuity log in eMRAM, its rate limits, its readout
(chapter 15). -/

namespace Sys2Proof.Machine

/-! ### Log records (R676 to R685) -/

/-- Word at an eMRAM offset. -/
def mramWord (off : Nat) (s : State) : Word := s.word (mramBase + off)

/-- LEN of the record at an offset. -/
def recLen (off : Nat) (s : State) : Nat := bits (mramWord off s).toNat 16 8

/-- ok(p) of R685: an even LEN from 4 to 64, inside the area that ends at `lim`, with the right CRC. -/
def recOk (off lim : Nat) (s : State) : Bool :=
  let n := recLen off s
  n % 2 = 0 && 4 ≤ n && n ≤ 64 && off + 4 * n ≤ lim &&
  (let ws := s.wordsAt (mramBase + off) n
   crcWords (ws.take (n - 1)) = wAt ws (n - 1))

/-- End of an area: the permanent (false) or the circulating (true) one. -/
def logEnd (circ : Bool) : Nat := if circ then 0x200000 else 0x40000

/-- The head found from `off` by R685. -/
def headFrom (lim : Nat) : Nat → Nat → State → Nat
  | 0, off, _ => off
  | fuel + 1, off, s => if recOk off lim s then headFrom lim fuel (off + 4 * recLen off s) s else off

/-- `oldest` of R685 for a circulating head: only an offset whose LEN byte is not 0 can hold a record, so the listed bytes
of memory give the candidates. -/
def oldestFrom (chead : Nat) (s : State) : Nat :=
  let c := s.mem.filterMap fun x =>
    let off := x.1 - mramBase - 2
    if mramBase + 2 ≤ x.1 ∧ chead + 8 ≤ off ∧ off < 0x200000 ∧ off % 8 = 0 ∧ recOk off 0x200000 s then some off else none
  c.headD 0x40000

/-- The heads of both areas as the boot finds them (R685), and whether the permanent area is open (R684). -/
def logScan (s : State) : State :=
  let p := headFrom 0x40000 0x4000 0 s
  let c := headFrom 0x200000 0x1C000 0x40000 s
  let s := (s.setF LOG_PHEAD.OFF p).setF LOG_CHEAD.OFF c
  let s := s.setF LOG_OLDEST.OFF (oldestFrom c s)
  (s.setF LOG_STAT.PERMFULL (b2n (0x40000 - p < 264))).onFlt fun u => { u with scanned := true }

/-- The words of a record (R678). -/
def recWords (code supp : Nat) (payload : List Word) (s : State) : List Word :=
  let l := s.boot.life
  let body := [wd (code * 2 ^ 24 + (4 + payload.length) * 65536 + supp * 256 + l.opsec / 2 ^ 32 % 256), wd l.opsec, wd l.cycle] ++ payload
  body ++ [crcWords body]

/-- A record at an offset, in the order of R683: END word, words 2 to LEN − 1, words 0 and 1. -/
def putRecord (off : Nat) (ws : List Word) (s : State) : State :=
  let s := mramWrite (off + 4 * ws.length) [0, 0] s
  let s := mramWrite (off + 8) (ws.drop 2) s
  mramWrite off (ws.take 2) s

/-- A record goes into the permanent area while it is open and no erase runs, else into the circulating area (R684, R688). -/
def appendRecord (ws : List Word) (s : State) : State :=
  let n := 4 * ws.length
  let s := countG 0x33 1 (s.incF LOG_WRITTEN.COUNT 1)
  if !s.flag LOG_STAT.PERMFULL ∧ !s.flag LOG_STAT.ERASING then
    let p := s.getF LOG_PHEAD.OFF
    let s := (putRecord p ws s).setF LOG_PHEAD.OFF (p + n)
    s.setF LOG_STAT.PERMFULL (b2n (0x40000 - (p + n) < 264))
  else
    let c := s.getF LOG_CHEAD.OFF
    let p := if c + n + 8 ≤ 0x200000 then c else 0x40000
    let s := (putRecord p ws s).setF LOG_CHEAD.OFF (p + n)
    s.setF LOG_OLDEST.OFF (oldestFrom (p + n) s)

/-- Tokens in the bucket of code `c` (R680). -/
def State.tokens (s : State) (c : Nat) : Nat := smGet 8 s.flt.tokens c

/-- The next entry of the log queue is written, or suppressed where its bucket is empty (R681, R682); a message of reaction
INTERRUPT or stronger that is written is sent as the FAULT notification (R672). -/
def logNext (s : State) : State :=
  match s.flt.queue with
  | [] => s
  | x :: q =>
    let s := s.onFlt fun u => { u with queue := q }
    let unlim := s.flag (LOG_RATE.UNLIM x.code)
    if !unlim ∧ s.tokens x.code = 0 then
      let s := s.onFlt fun u => { u with pend := smPut 0 x.code (min 255 (smGet 0 u.pend x.code + 1)) u.pend }
      countG 0x34 1 (s.incF LOG_SUPPTOT.COUNT 1)
    else
      let supp := smGet 0 s.flt.pend x.code
      let s := s.onFlt fun u => { u with
        tokens := if unlim then u.tokens else smPut 8 x.code (smGet 8 u.tokens x.code - 1) u.tokens,
        pend := smPut 0 x.code 0 u.pend }
      let s := appendRecord (recWords x.code supp x.payload s) s
      if x.notify then notify 0x800C (x.payload.map (·.toNat)) s else s

/-- LOG_RECORD_WRITE (R683): the log writes in every mode except RESET (R677), at the heads that the boot has found, before which records
wait in the queue (R685). -/
def execLogRecordWrite (s : State) : Host.Outcome State Fault Refusal :=
  finish (if s.mode = 0 ∨ !s.flt.scanned then s else logNext s)

/-- The end of the running period of a code's bucket timer, in CLK_PER periods: 153,600 periods are a millisecond (R680). -/
def tokenDue (c : Nat) (s : State) : Nat := smGet 0 s.flt.timers c + 153600 * s.getF (LOG_RATE.PERIOD c)

/-- A code's period completes and the next begins: its bucket gains a token unless it is full (R680). -/
def tokenGain (c : Nat) (s : State) : State :=
  let s := s.onFlt fun u => { u with timers := smPut 0 c (tokenDue c s) u.timers }
  if s.tokens c < s.getF (LOG_RATE.DEPTH c) then s.onFlt fun u => { u with tokens := smPut 8 c (smGet 8 u.tokens c + 1) u.tokens }
  else s

/-- LOG_TOKEN_GAIN (R680): nothing happens while the code's period is still running. -/
def execLogTokenGain (c : Nat) (s : State) : Host.Outcome State Fault Refusal :=
  finish (if c < 256 ∧ tokenDue c s ≤ s.time then tokenGain c s else s)

/-- A write of a code's period restarts its timer at the write (R680). -/
def tokenRestart (c : Nat) (s : State) : State := s.onFlt fun u => { u with timers := smPut 0 c s.time u.timers }

/-- A new depth of a code's bucket drops the tokens above it (R680). -/
def tokenDepth (c depth : Nat) (s : State) : State :=
  s.onFlt fun u => { u with tokens := smPut 8 c (min depth (smGet 8 u.tokens c)) u.tokens }

/-- The permanent area is written with zeros (R688). -/
def eraseStart (s : State) : State := mramErase 0 0x40000 (s.setF LOG_STAT.ERASING 1)

/-- The erase completes: the PERM_ERASED record at 0, the head after it, the area open (R688). -/
def eraseEnd (s : State) : State :=
  let ws := recWords 0xE6 0 [] s
  let s := putRecord 0 ws s
  let s := countG 0x33 1 (s.incF LOG_WRITTEN.COUNT 1)
  ((s.setF LOG_PHEAD.OFF (4 * ws.length)).setF LOG_STAT.PERMFULL 0).setF LOG_STAT.ERASING 0

/-- The walk of R687 from an offset: continue offset, records found, 8-byte words skipped, the records' words. -/
def logWalk (circ : Bool) (head : Nat) : Nat → Nat → Nat → Nat → List Word → State → List Word
  | 0, off, n, sk, acc, _ => [wd off, wd n, wd sk] ++ acc
  | fuel + 1, off, n, sk, acc, s =>
    if off = head ∨ (!circ ∧ 0x40000 ≤ off) then [0xFFFFFFFF, wd n, wd sk] ++ acc
    else if 0x200000 ≤ off then logWalk circ head fuel 0x40000 n sk acc s
    else if recOk off (logEnd circ) s then
      let l := recLen off s
      if 1024 < 3 + acc.length + l then [wd off, wd n, wd sk] ++ acc
      else logWalk circ head fuel (off + 4 * l) (n + 1) sk (acc ++ s.wordsAt (mramBase + off) l) s
    else if circ ∧ mramWord off s = 0 ∧ mramWord (off + 4) s = 0 then logWalk circ head fuel 0x40000 n sk acc s
    else logWalk circ head fuel (off + 8) n (sk + 1) acc s

/-! ### Messages -/

/-- FAULT_MESSAGE: the collector accepts a message of a source of R658 that another part of the block sends (R665); every source but
ENG_EXC sends KIND 0 (R656). -/
def execFaultMessage (src kind addr : Nat) (s : State) : Host.Outcome State Fault Refusal :=
  finish (if (sevDefault src).isSome then raise src (if src = 0x11 then kind else 0) addr s else s)

/-- The first-fault record is cleared (R668). -/
def firstClear (s : State) : State :=
  let s := s.setReg 0x90040 0
  ((s.setF FLT_FIRST_ADDR.ADDR 0).setF FLT_FIRST_SHOT.SHOT 0).setF FLT_FIRST_SEC.SEC 0

/-- A message is injected in MAINTENANCE and TEST from a source that is not reserved (R669). -/
def inject (src kind : Nat) (s : State) : State :=
  if (s.mode = 10 ∨ s.mode = 11) ∧ (sevDefault src).isSome then
    s.onFlt fun u => { u with wire := u.wire ++ [⟨src, kind % 16, s.getF FLT_INJADDR.ADDR, true, s.getF (FLT_CFG.SEV src), s.getF (FLT_CFG.REACT src)⟩] }
  else s

end Sys2Proof.Machine
end

