-- ==== Sys2Proof/Machine/Sched.lean ====
section
/-! DEFINITION. Events of the Call Sheet and of recasts: staging, dispatch, context loads and saves, budgets (chapter 05);
loading, BIST and the copy of a cut recast (R154 to R160). -/

namespace Sys2Proof.Machine

/-! ### Staging (R212, R219, R220) -/

/-- Concealment key of lane `j` of a reading entry: its channel, line or pool block. -/
def stagedKey (x : Xfer) (j : Nat) : Nat := (80 + x.kind) * 65536 + (x.chan + j)

/-- Valid blocks staged by a reading entry, those but `bad` ones: their last samples are kept for a later concealment (R83). -/
def noteStaged (e : Nat) (x : Xfer) (bad : Nat → Bool) (s : State) : State :=
  if x.kind = 1 ∨ x.kind = 4 ∨ x.kind = 6 then
    (List.range x.count).foldl (fun s j =>
      if bad j then s else delivered (stagedKey x j) ((sliceSamples e (x.lane0 + j) x.slice x.sladdr s).getLastD 0) s) s
  else s

/-- A block staged in lane `j` of a reading entry is replaced by its concealment, with CONCEALED in its status word (R577, R598). A line
moves no status word: the bit is set where one would stand behind the lane's samples, DESIGN CHOICE (log entry 193). -/
def concealStaged (e : Nat) (x : Xfer) (j : Nat) (s : State) : State :=
  let lane := x.lane0 + j
  let a := sliceAddr e lane x.slice (x.sladdr + s.n)
  let (sm, s) := concealSamples (stagedKey x j) s.n s
  let s := writeWords (sliceAddr e lane x.slice x.sladdr) sm s
  if x.kind = 4 ∧ !accessOk x.slice false (x.sladdr + s.n) then s else s.setWord a (bswSet bswCONCEALED true (s.word a))

/-- An error in the read of one block, or lane, of an entry. A single-bit error is corrected and counted: in a lane slice by its engine,
in stage memory as outside the engines (R112, R576). An uncorrectable one (R577, R598): a block of stage memory is reported as MEM_ECC2
and an LPDDR5 read as DDR_ECC, and its lane carries concealment values. In a lane slice it is counted, and the block goes as it was
read: DESIGN CHOICE (log entry 193). -/
def badEntry (e n : Nat) (x : Xfer) (b : StagedErr) (s : State) : State :=
  let err := b.err
  let slice := x.kind = 2 ∨ x.kind = 5 ∨ x.kind = 7
  if x.count ≤ b.blk then s
  else if slice then (if err.single then engFixed e (n % 4096) (errRow err) s else engDouble e (errRow err) s)
  else if x.kind = 1 ∨ x.kind = 6 then
    (if err.single then sramCorrected err.inst err.row s else concealStaged e x b.blk (sramDouble err s))
  else if x.kind = 4 ∧ !err.single ∧ s.flag DDR_CFG.LECC then concealStaged e x b.blk (ddrEcc s)
  else s

/-- The path hold of an entry (R212, R573, R574, R583, R584, R596): a flow-through burst between stage memory or LPDDR5 and T1, which keeps
the path from the entry before, with the stalls and the latency that it meets. -/
def entryPath (e : Nat) (x : Xfer) (m : EntryMeet) (s : State) : State :=
  if x.kind = 0 ∨ x.kind = 3 then s else
  let line := x.kind = 4 ∨ x.kind = 5
  let beats := ceilDiv (x.count * (4 * s.n + (if line then 0 else 4))) 32
  let base := sliceAddr e x.lane0 x.slice x.sladdr
  let (stalls, s) := bankStalls 2 (fun b => base + 32 * b) m.hits s
  let b : Burst := ⟨2, if x.kind = 4 then 7 else 1, beats, 2, true, 0, stalls, false,
    if x.kind = 4 then 1 else if x.kind = 5 then 7 else 10, true, base, []⟩
  let s := if x.kind = 5 then s.onFab fun u => { u with ddrBuf := min 32768 (u.ddrBuf + 32 * beats) } else s
  countG 0x22 1 (countPath b (pathHeld b m.lat s) m.lat s)

/-- The status words of the blocks that an IN entry at offset `off` has staged are kept for the outputs that name them (R209). -/
def noteBsws (n e off : Nat) (x : Xfer) (s : State) : State :=
  if x.kind ≠ 1 then s else
  let l := (List.range x.count).map fun j => (8 * off + (x.lane0 + j), s.word (sliceAddr e (x.lane0 + j) x.slice (x.sladdr + s.n)))
  onTask n (fun t => { t with inBsw := l ++ t.inBsw }) s

/-- The entry served for logical engine `le` lands, its list being the one of `nextStaging`: its effect, at the last entry the end of
the list, and the next turn. -/
def landEntry (le : Nat) (m : EntryMeet) (s : State) : State :=
  match nextStaging le s with
  | none => s
  | some x =>
    let t := s.task x.task
    let ent := s.xfer (t.first x.kind + x.next)
    let s := match s.taskEng x.task with
      | some e =>
        let s := entryEffect x.task e ent s
        let s := noteStaged e ent (fun j => m.errs.any fun b => b.blk = j && !b.err.single) s
        let s := m.errs.foldl (fun s b => badEntry e x.task ent b s) (entryPath e ent m s)
        if x.kind = 0 then noteBsws x.task e x.next ent s else s
      | none => s
    let s := countG 0x06 1 (s.onCs fun u => { u with turn := le, serving := none })
    let s :=
      if x.left ≤ 1 then
        listLanded x.task x.kind (s.onCs fun u => { u with staging := u.staging.filter (fun y => !(y.task = x.task ∧ y.kind = x.kind)) })
      else
        s.onCs fun u => { u with staging := u.staging.map fun y =>
          if y.task = x.task ∧ y.kind = x.kind then { y with next := y.next + 1, left := y.left - 1 } else y }
    serveStaging s

/-- STAGING_ENTRY_LAND: the transfer entry that the staging DMA serves completes, where that is one of logical engine `le` (R212);
`meet` is what it met. -/
def execStagingEntryLand (le : Nat) (meet : EntryMeet) (s : State) : Host.Outcome State Fault Refusal :=
  finish (if le < 16 ∧ s.served = some le then landEntry le meet s else s)

/-! ### Dispatch (R135, R136, R222, R224) -/

/-- Engine `e` accepts its pending signal: a running task is pre-empted with its context kept, the signalled task starts, and
the Call Sheet checks again. `wait` is the task's waiting time, `hold` the cycles until its context had loaded. -/
def accept (e wait hold : Nat) (s : State) : State :=
  if ¬(e < 18 ∧ s.engState e < 2) then s else
  match (s.engine e).pending with
  | none => s
  | some (n, _) =>
    let s := match runningOn e s with
      | none => s
      | some u =>
        -- the cycle up to the acceptance, whose instruction is discarded in DC, is charged (R135, R228; log entry 158)
        let s := chargeTask u 1 s
        if overNow u s && (s.task u).enforce then endRunning e u true (noteBudget e u (countE e 0x04 2 (u % 4096) s)) else
        let s := setAside e u 5 (noteBudget e u s)
        let s := s.incF (CS_EEVT.PREEMPTS (s.task u).logeng) 1
        countE e 0x0D 1 (n % 4096) (countE e 0x04 2 (u % 4096) s)
    let s := startTask e n wait s
    let s := countE e 0x0C hold (n % 4096) (addLoad (s.task n).logeng hold s)
    check e s

/-- DISPATCH_ACCEPT (R135). -/
def execDispatchAccept (e wait hold : Nat) (s : State) : Host.Outcome State Fault Refusal := finish (accept e wait hold s)

/-- CONTEXT_LOAD_DONE: the inactive bank of engine `e` holds the candidate of R223; a kept context that no slot holds yet is
not displaced (R224). -/
def execContextLoadDone (e : Nat) (s : State) : Host.Outcome State Fault Refusal :=
  finish <|
    if e < 18 then
      match candidate e s with
      | none => s
      | some n =>
        match (s.engine e).inact with
        | .kept m =>
          if m ≠ n ∧ (s.engine e).slots.any (fun c => c.1 = m) then onEngine e (fun u => { u with inact := .fresh n }) s else s
        | _ => onEngine e (fun u => { u with inact := .fresh n }) s
    else s

/-- CONTEXT_SAVE_DONE: the context kept in the inactive bank of engine `e` has been saved into a slot and stays in the bank
(R224, R227). -/
def execContextSaveDone (e : Nat) (s : State) : Host.Outcome State Fault Refusal :=
  finish (if e < 18 then saveKept e s else s)

/-- BUDGET: the charge of the task on engine `e` exceeds BUDGET for the first time in the shot; with ENFORCE the task ends
(R229). -/
def execBudget (e : Nat) (s : State) : Host.Outcome State Fault Refusal :=
  finish <|
    if e < 18 then
      match runningOn e s with
      | none => s
      | some n =>
        if !overNow n s then s
        else if (s.task n).enforce then endRunning e n true (noteBudget e n (countE e 0x04 2 (n % 4096) s))
        else noteBudget e n s
    else s

/-! ### Recasts (R154 to R159, R329) -/

/-- An engine is marked retired in the repair table for this boot and every later one (R159, R160). -/
def retireEngine (e : Nat) (s : State) : State :=
  let s := s.setF (ENG_STAT.STATE e) 5
  let s := addRepair (repEntry 3 2 e 0 0 s) s
  raise 0x14 0 e (onEngine e (fun u => { u with healthy := false, retire := false }) s)

/-- SPARE_BIST: the Gaffer core has run the BIST of spare engine `e` in RUN; `failmem` is 0 where it passed (R154). A failing
spare becomes RETIRED, and a spare replaces it where a logical engine were assigned to it (R329). -/
def execSpareBist (e failmem : Nat) (s : State) : Host.Outcome State Fault Refusal :=
  finish <|
    if e < 18 ∧ s.engState e = 3 ∧ s.mode = 4 then
      let f := failmem % 5
      let s := s.setF (ENG_BIST.DONE e) 1
      let s := s.setF (ENG_BIST.PASS e) (b2n (f = 0))
      let s := s.setF (ENG_BIST.FAILMEM e) f
      if f = 0 then s else
      let le := s.getF (ENG_ROLE.LOGICAL e)
      let s := retireEngine e s
      if le < 16 then autoRecast le s else s
    else s

/-- The fields of a SLICE_INIT entry (R300): logical engine, lanes, Y slice, first word, count and swap-window word. -/
def SliceInit.logeng (x : SliceInit) : Nat := bits x.w0.toNat 28 4
/-- Lanes written, ascending. -/
def SliceInit.lanes (x : SliceInit) : List Nat := (List.range 8).filter fun l => bitOf (bits x.w0.toNat 20 8) l
/-- Y lane slice. -/
def SliceInit.isY (x : SliceInit) : Bool := bitOf x.w0.toNat 19
/-- First word address in task-code terms. -/
def SliceInit.sladdr (x : SliceInit) : Nat := bits x.w0.toNat 0 16
/-- Words per lane. -/
def SliceInit.count (x : SliceInit) : Nat := bits x.w1.toNat 16 14
/-- First word of the image in the swap window. -/
def SliceInit.swapw (x : SliceInit) : Nat := bits x.w1.toNat 0 16

/-- The image of an entry as the swap window holds it (R301). -/
def SliceInit.image (x : SliceInit) (s : State) : List Word := s.wordsAt (0x7000000 + 4 * x.swapw) (x.lanes.length * x.count)

/-- The words of an entry's image written into its lane slices of engine `e`. -/
def putImage (e : Nat) (x : SliceInit) (img : List Word) (s : State) : State :=
  x.lanes.zipIdx.foldl (fun s l => writeWords (sliceAddr e l.1 x.isY x.sladdr) ((img.drop (l.2 * x.count)).take x.count) s) s

/-- The copies into a recast target (R155): program memory and live coefficient page, the page again as the slate page, and in the
lane slices the initial state that the slate gives, 0 where it gives none (R328). -/
def loadTarget (le src tgt : Nat) (s : State) : State :=
  let s := copyBytes (engWin tgt) (engWin src) 0x20000 s
  let live := pageBase src (s.livePage src)
  let s := copyBytes (engWin tgt + 0x80000) live 0x10000 s
  let s := copyBytes (engWin tgt + 0x90000) live 0x10000 s
  let s := zeroBytes (engWin tgt + 0xA0000) 0x20000 (zeroBytes (engWin tgt + 0x40000) 0x40000 s)
  (s.take.slices.filter fun x => x.logeng = le).foldl (fun s x => putImage tgt x (x.image s) s) s

/-- RECAST_LOAD_DONE: the loading of a target completes and it becomes LOADED (R155); for a recast of the Gaffer core's own
RECAST_REQ goes out (R329). Words of the source corrected as they were read are counted (R112). -/
def execRecastLoadDone (x : CopyDone) (s : State) : Host.Outcome State Fault Refusal :=
  finish <|
    let e := x.e
    if e < 18 ∧ s.engState e = 4 then
      match s.take.recasts.find? (fun r => r.target = e) with
      | none => s
      | some r =>
        let s := loadTarget r.logical r.source e (x.corr.foldl (fun s w => engFixed r.source 0xFFFF w s) s)
        let s := s.setF (ENG_STAT.SLATE_READY e) 1
        let s := s.setF (ENG_STAT.SLATE_DIRTY e) 0
        let s := s.setF (ENG_STAT.STATE e) 6
        if r.auto then notify 0x8005 [r.logical, e] s else s
    else s

/-- CUT_RECAST_COPY_DONE: the lane slices of the source of a logical engine's cut recast have reached the target (R157), and the
words corrected as they were read are counted (R112). -/
def execCutRecastCopyDone (x : CopyDone) (s : State) : Host.Outcome State Fault Refusal :=
  finish <|
    let le := x.e
    match s.take.cutRecasts.find? (fun c => c.r.logical = le ∧ !c.copied) with
    | none => s
    | some c =>
      let s := x.corr.foldl (fun s w => engFixed c.r.source 0xFFFF w s) s
      let s := copyBytes (engWin c.r.target + 0x40000) (engWin c.r.source + 0x40000) 0x40000 s
      let s := copyBytes (engWin c.r.target + 0xA0000) (engWin c.r.source + 0xA0000) 0x20000 s
      s.onTake fun u => { u with cutRecasts := u.cutRecasts.map fun x => if x.r.logical = le then { x with copied := true } else x }

/-- The source of a recast leaves the mapping: RETIRED after ECC2 or a failed BIST, otherwise SPARE (R159). -/
def leaveMapping (src : Nat) (s : State) : State :=
  let s := s.setF (ENG_ROLE.LOGICAL src) 0x1F
  if (s.engine src).retire then retireEngine src s else s.setF (ENG_STAT.STATE src) 3

end Sys2Proof.Machine
end

