-- ==== Sys2Proof/Machine/Reset.lean ====
section
/-! DEFINITION. What a reset of R755 does to the state (R52, R757). -/

namespace Sys2Proof.Machine

/-- Bytes that a reset keeps: the eMRAM (R757). SRAM words end at 0, and LPDDR5 is left without a value, which the model reads
as unlisted memory (log entry 3). -/
def keptMem (m : List Host.Cell) : List Host.Cell := m.filter fun c => 0x8000000 ≤ c.1 ∧ c.1 < 0x9000000

/-- Sources of R755 already recorded stay beside the new one; a POR clears every other bit (R757). -/
def causeAfter (cause : Nat) (s : State) : Nat := if cause = 0 then 1 else s.getF SYS_RSTCAUSE.CAUSE ||| 2 ^ cause

/-- What the memory unit keeps over a reset: the wear counters, the spare rows in service and the repair table, which live in the
eMRAM, and the error counts of the power cycle unless `por`. A replacement under way starts again at the next boot (R606); the writes
that it holds are lost (log entry 17). -/
def keptFab (por : Bool) (u : FabU) : FabU :=
  { FabU.reset with
    wear := u.wear, wearStored := u.wearStored, spareOf := u.spareOf, replacing := u.replacing, repair := u.repair, repSeq := u.repSeq,
    rowErr := if por then [] else u.rowErr, repaired := if por then [] else u.repaired,
    mramErr := if por then [] else u.mramErr }

/-- The device in RESET through source `cause` (0 POR, 1 PIN, 2 CLKLOSS, 3 SOFT, 4 THERMAL, 5 WDOG): the pending take is
abandoned, every register returns to its reset value except `SYS_RSTCAUSE`, every unit returns to rest, and eMRAM and OTP keep
their contents (R52, R757). `PIN_BANK` stands until the next POR (R784); pins follow R749. -/
def resetTo (cause : Nat) (s : State) : State :=
  let bank := s.reg 0xE0000
  let leaseIn := s.getF STI_STAT.LEASE_IN
  let causes := causeAfter cause s
  let por := cause = 0
  let life := s.boot.life
  let s := abandonTake 1 s
  let t : State := { State.reset with
    mem := keptMem s.mem, fab := keptFab por s.fab, fuse := s.fuse, outs := s.outs, free := s.free, pending := s.pending,
    boot := { BootU.reset with life := life, thermalHold := s.boot.thermalHold, porBoot := por || s.boot.porBoot },
    pin := { PinU.reset with gpioIn := s.pin.gpioIn, thermLow := s.pin.thermLow } }
  let t := t.setF SYS_RSTCAUSE.CAUSE causes
  let t := if por then t else t.setReg 0xE0000 bank
  let t := t.setF STI_STAT.LEASE_IN leaseIn
  (t.out (.pin "LEASE_OUT" false)).out (.act "RESET" [cause])

end Sys2Proof.Machine
end

