-- ==== Sys2Proof/Machine/Splice.lean ====
section
/-! DEFINITION. The Splice matrix (chapter 06): slate gains and armed entries, fade laws, applying a take, the pass. -/

namespace Sys2Proof.Machine

/-! ### Live and slate targets (R253 to R266) -/

/-- Largest number of held fade entries (R36, R262). -/
def fadeTable : Nat := 65536

/-- The gain memory has no slate set at the configured rate: 48 kHz (R35). -/
def oneSet (s : State) : Bool := s.getF SYS_CFG.RATE = 0

/-- Entry of a sparse list. -/
def entryOf {α : Type} (l : List (Nat × α)) (k : Nat) : Option α := (l.find? (fun c => c.1 = k)).map (·.2)

/-- The live target of crosspoint `k`, or the target that a committed take is about to give it (R261). -/
def xpLive (k : Nat) (s : State) : Word :=
  match entryOf s.spl.commit k with
  | some g => g.gain
  | none => smGet 0 s.spl.live k

/-- The slate target of crosspoint `k`. -/
def xpSlate (k : Nat) (s : State) : Word :=
  match entryOf s.spl.slate k with
  | some g => g.gain
  | none => xpLive k s

/-- Does a changed crosspoint hold an armed entry (R261)? Elsewhere its change is unramped (R263). -/
def armedEntry (g : SlateGain) (s : State) : Bool := oneSet s || 2 ≤ g.len

/-- Crosspoints that the next take changes without a ramp (R263). -/
def xpCuts (s : State) : Nat := (s.spl.slate.filter fun c => c.2.len = 1).length

/-- Armed entries (R261): of the slate, and of a committed take until its take sample. -/
def xpArmed (s : State) : Nat :=
  (s.spl.slate.filter fun c => armedEntry c.2 s).length + (s.spl.commit.filter fun c => armedEntry c.2 s).length

/-- Held entries of the fade table. -/
def xpHeld (s : State) : Nat := xpArmed s + s.spl.fades.length

/-- Peak of armed plus running entries (R292). -/
def notePeakFades (s : State) : State := s.maxF SPL_FADEMAX.MAX (xpHeld s)

/-- Insertion of an entry in key order. -/
def keyPut {α : Type} (k : Nat) (v : α) : List (Nat × α) → List (Nat × α)
  | [] => [(k, v)]
  | c :: t => if k < c.1 then (k, v) :: c :: t else if k = c.1 then (k, v) :: t else c :: keyPut k v t

/-- One crosspoint entry written into the slate: target, law and length whole; a target equal to the live one leaves no entry
(R260, R261). -/
def xpWrite (k : Nat) (g : SlateGain) (s : State) : State :=
  if g.gain = xpLive k s then s.onSpl fun u => { u with slate := u.slate.filter fun c => c.1 ≠ k }
  else s.onSpl fun u => { u with slate := keyPut k g u.slate }

/-! ### Fades (R273 to R276) -/

/-- λ of the dB law: the base-2 logarithm of a gain's magnitude (R275). -/
def lam (c : Word) : Int := log2q (max c.toInt.natAbs 16) + 3 * 2 ^ 24

/-- Gain g(j) of a fade (R273 to R276). -/
def fadeGain (f : Fade) (j : Nat) : Word :=
  if f.len ≤ j + 1 then f.g1
  else if f.db then
    let neg := if f.g1 = 0 then f.g0.toInt < 0 else f.g1.toInt < 0
    let l := lam f.g0 + rndDiv ((lam f.g1 - lam f.g0) * ((j : Int) + 1)) f.len
    let m := (exp2q true l).1
    wi (if neg then -m else m)
  else wi (f.g0.toInt + rndDiv ((f.g1.toInt - f.g0.toInt) * ((j : Int) + 1)) f.len)

/-- The last applied gain of crosspoint `k` (R267): 0 where a double-bit error made it so in the last pass (R577). -/
def lastGain (k : Nat) (s : State) : Word :=
  if s.spl.bad.contains k then 0 else
  match entryOf s.spl.fades k with
  | some f => if f.j = 0 then f.g0 else fadeGain f (f.j - 1)
  | none => smGet 0 s.spl.live k

/-- What a take does to crosspoint `k` at the take sample, for its committed entry (R268, R272). -/
def xpApply (k : Nat) (g : SlateGain) (s : State) : State :=
  let last := lastGain k s
  let s := s.onSpl fun u => { u with live := smPut 0 k g.gain u.live, fades := u.fades.filter fun c => c.1 ≠ k }
  if armedEntry g s ∧ g.gain ≠ last then
    let opp := last ≠ 0 ∧ g.gain ≠ 0 ∧ decide (last.toInt < 0) ≠ decide (g.gain.toInt < 0)
    let s := if g.law ∧ opp then s.incF SPL_LAWFB.COUNT 1 else s
    s.onSpl fun u => { u with fades := keyPut k ⟨last, g.gain, g.law, g.law && !decide opp, g.len, 0⟩ u.fades }
  else s

/-- The committed changes are applied at the take sample, and the views exchange where the take exchanges them (R268, R269). -/
def spliceApply (s : State) : State :=
  let l := s.spl.commit
  let s := s.onSpl fun u => { u with commit := [], commitDue := false }
  let s := l.foldl (fun s c => xpApply c.1 c.2 s) s
  let s := notePeakFades s
  if s.flag SPL_STAT.SLATE_READY then s
  else (s.setF SPL_STAT.LIVESET (1 - s.getF SPL_STAT.LIVESET)).setF SPL_STAT.SLATE_DIRTY 0

/-- The Splice part of a take boundary: the slate's changes are committed, to be applied one shot later; where the views are to
exchange, SLATE_READY goes to 0 (R269, R271). At 96 kHz and 192 kHz a take that finds SLATE_DIRTY at 0 applies nothing. -/
def spliceCommit (s : State) : State :=
  if oneSet s then
    (s.onSpl fun u => { u with commit := u.slate, slate := [], commitDue := true }).setF SPL_STAT.SLATE_DIRTY 0
  else if s.flag SPL_STAT.SLATE_DIRTY ∧ s.flag SPL_STAT.SLATE_READY then
    (s.onSpl fun u => { u with commit := u.slate, slate := [], commitDue := true }).setF SPL_STAT.SLATE_READY 0
  else s

/-- MATRIX_TAKE_APPLY: one shot after the take boundary, at the start of the pass that processes b_T (R268). -/
def execMatrixTakeApply (s : State) : Host.Outcome State Fault Refusal :=
  finish (if s.spl.commitDue then
    (match s.take.commit with
     | some c => if c.t0 + 1 ≤ s.shot then spliceApply s else s
     | none => spliceApply s)
   else s)

/-! ### The pass (R247 to R250, R278 to R290) -/

/-- The matrix starts a pass at the boundary that opens stage M (R249); ZSKIP holds for the whole pass (R285). -/
def passStart (s : State) : State := (s.onSpl fun u => { u with zskip := s.flag SPL_CTRL.ZSKIP }).setF SPL_STAT.PASS 1

/-- Key under which the concealment of a tap's contribution runs. -/
def tapKey (t : Nat) : Nat := 96 * 65536 + t

/-- Sample of a tap with the dissolve of R288, before any concealment. -/
def tapBlk (t : Nat) (s : State) : Blk × List Word :=
  let new := s.blk 9 t
  match s.take.dissolve with
  | none => (new, [new.bsw])
  | some d =>
    let len := d.dlen * s.n
    let j0 : Int := ((s.shot : Int) - (d.t0 + 1)) * s.n
    if !d.affected.contains t ∨ j0 < 0 ∨ (len : Int) ≤ j0 then (new, [new.bsw])
    else
      let old := s.blk 41 t
      let b := bswFade old.bsw new.bsw
      (⟨(List.range s.n).map fun i => xfade (old.samples.getD i 0) (new.samples.getD i 0) (j0.toNat + i) len, b⟩, [b])

/-- A tap's contribution in a pass: its block, or its concealment after a double-bit error (R577). -/
def tapIn (t : Nat) (bad : Bool) (s : State) : Blk × State :=
  let b := (tapBlk t s).1
  if !bad then (b, s.onCs fun u => { u with conceal := smPut (0, 0) (tapKey t) (0, 0) u.conceal })
  else
    let s := if (s.concealOf (tapKey t)).2 = 0 then delivered (tapKey t) ((s.blk 10 t).samples.getLastD 0) s else s
    let (sm, s) := concealSamples (tapKey t) s.n s
    (⟨sm, bswSet bswCONCEALED true b.bsw⟩, s)

/-- The contributions of all taps that any crosspoint uses, by tap. -/
def tapsIn : List Nat → List Nat → State → List (Nat × Blk) × State
  | [], _, s => ([], s)
  | t :: l, bad, s =>
    let (b, s) := tapIn t (bad.contains t) s
    let (r, s) := tapsIn l bad s
    ((t, b) :: r, s)

/-- Gain of crosspoint `k` at sample `i` of the pass (R273, R577). -/
def passGain (k i : Nat) (bad : List Nat) (s : State) : Word :=
  if bad.contains k then 0 else
  match entryOf s.spl.fades k with
  | some f => if f.j + i < f.len then fadeGain f (f.j + i) else smGet 0 s.spl.live k
  | none => smGet 0 s.spl.live k

/-- A product rounded to a multiple of 2^-39 (R278). -/
def product (x g : Word) : Int := rndc 20 (x.toInt * g.toInt)

/-- Crosspoints not zero in the pass (R283, R284): their keys in order. -/
def passKeys (s : State) : List Nat :=
  let fs := s.spl.fades.map (·.1)
  fs.foldl (fun l k => (keyPut k () (l.map (·, ()))).map (·.1)) (s.spl.live.map (·.1))

/-- The local sum of bus `b` and the status words of its contributors: every crosspoint that is not zero, by its target or by a
running fade, contributes, also where its gain was read with a double-bit error (R283, R284, R577). -/
def busSum (b : Nat) (keys : List Nat) (taps : List (Nat × Blk)) (bad : List Nat) (s : State) : Partial :=
  let ks := keys.filter fun k => k % s.buses = b
  let blkOf := fun k => (entryOf taps (k / s.buses)).getD (silentBlk s)
  ⟨(List.range s.n).map fun i => ks.foldl (fun a k => a + product ((blkOf k).samples.getD i 0) (passGain k i bad s)) 0,
   ks.map fun k => (blkOf k).bsw⟩

/-- Is bus `b` a ring bus of the formed ring (R735)? -/
def ringBus (b : Nat) (s : State) : Bool := s.getF RL_STAT.STATE = 2 && 8 ≤ smGet 0 s.rl.bmap b

/-- Position of chip `id` in ring order from the master (R730). -/
def ringPos (id : Nat) (s : State) : Nat := (s.rl.ids.findIdx? (· = id)).getD 0

/-- Chain position of this chip for bus `b` (R735). -/
def chainPos (b : Nat) (s : State) : Nat :=
  let h := s.rl.ids.length
  if h = 0 then 0 else (ringPos (s.getF SYS_ID.CHIP_ID) s + 2 * h - ringPos (smGet 0 s.rl.bmap b % 8) s - 1) % h

/-- The Q25.39 sums of a bus narrowed to samples, and whether any saturates (R282). -/
def narrowSums (l : List Int) : List Word × Bool := (l.map fun a => wi (satTo 32 (rndc 8 a)), l.any fun a => satHits 32 (rndc 8 a))

/-- The bus-sum block of bus `b` is written, into the dissolve set as well where its bus task differs (R282, R289). -/
def writeSum (b : Nat) (p : Partial) (s : State) : State :=
  let (sm, clip) := narrowSums p.sums
  let x : Blk := ⟨sm, bswSum p.bsws clip⟩
  let s := if clip then s.incF SPL_CLIPCNT.COUNT 1 else s
  let ch := 0x1000 + b
  let s := putBlk aSUM ch x s
  match s.take.dissolve with
  | some d => if d.affected.contains ch then s.onStage (blkPut (aDSUM * 65536 + ch) x) else s
  | none => s

/-- Two partials of one block added; the arrived one counts as one contributor (R286, R737). -/
def addPartial (a l : Partial) : Partial := ⟨a.sums.zipWith (· + ·) l.sums, a.bsws ++ l.bsws⟩

/-- A missing partial adds 0 and CONCEALED, and SOURCE_LOST while its link is down (R739). -/
def missingPartial (s : State) : Partial :=
  ⟨List.replicate s.n 0, [mkBsw 0 (bswCONCEALED + (if s.getF (RL_LSTAT.STATE 0) = 2 then 0 else bswLOST))]⟩

/-- Sum of a ring bus at its chain position: the local partial is held, the partial of p shots ago meets the arrived one, and the
result is sent downstream or, by the owner, written (R736, R737). -/
def ringSum (b : Nat) (l : Partial) (s : State) : State :=
  let p := chainPos b s
  let hold := s.rl.held
  let l0 := if p = 0 then some l else entryOf hold (b * 8 + p)
  let s := s.onRl fun u => { u with
    held := keyPut (b * 8 + 1) l ((u.held.filter fun c => c.1 / 8 ≠ b) ++
      (u.held.filter fun c => c.1 / 8 = b ∧ c.1 % 8 < p).map fun c => (c.1 + 1, c.2)) }
  let mine : Partial := l0.getD ⟨List.replicate s.n 0, []⟩
  let sum := if p = 0 then mine else addPartial ((entryOf s.rl.arrived (4096 + b)).getD (missingPartial s)) mine
  if p + 1 = s.rl.ids.length then writeSum b sum s
  else s.out (.rl 1 "PARTIAL" (b :: (bswSum sum.bsws false).toNat :: sum.sums.map fun a => lowBits 64 a))

/-- Fades step on by a shot, and those that have reached their last sample are freed (R273). -/
def stepFades (s : State) : State :=
  s.onSpl fun u => { u with
    fades := (u.fades.map fun c => (c.1, { c.2 with j := c.2.j + s.n })).filter fun c => c.2.j < c.2.len }

/-- Crosspoint that `SPL_XSEL` selects; none outside the shape (R293). -/
def xsel (s : State) : Option Nat :=
  if s.getF SPL_XSEL.TAP < s.taps ∧ s.getF SPL_XSEL.BUS < s.buses then some (s.getF SPL_XSEL.TAP * s.buses + s.getF SPL_XSEL.BUS) else none

/-- MATRIX_PASS_END: every bus is summed, narrowed and written, fades step on, and the counts of R292 are formed. `cyc` is the
length of the pass, `taps` and `gains` the tap blocks (by tap) and gains (by crosspoint) whose reads meet an error. The sample of the
selected crosspoint is taken here, and stands after a write of `SPL_XSEL` until the next pass end (R293): DESIGN CHOICE (log entry
169). -/
def passEnd (cyc : Nat) (taps gains : List (Nat × SramErr)) (s : State) : State :=
  let s := (taps ++ gains).foldl (fun s x => sramError x.2 s) s
  let badT := (taps.filter fun x => !x.2.single).map (·.1)
  let badG := (gains.filter fun x => !x.2.single).map (·.1)
  let keys := passKeys s
  let used := (List.range s.taps).filter fun t => keys.any fun k => k / s.buses = t
  let (blks, s) := tapsIn used badT s
  let s := (List.range s.buses).foldl (fun s b =>
    let l := busSum b keys blks badG s
    if ringBus b s then ringSum b l s
    else if l.bsws.isEmpty then s else writeSum b l s) s
  let s := s.onSpl fun u => { u with bad := badG }
  let s := match xsel s with
    | some k => s.onSpl fun u => { u with
        xgain := passGain k (s.n - 1) badG s,
        xremain := match entryOf u.fades k with | some f => f.len - min f.len (f.j + s.n) | none => 0 }
    | none => s.onSpl fun u => { u with xgain := 0, xremain := 0 }
  let s := stepFades s
  let all := s.taps * s.buses
  let s := (s.setF SPL_ACTIVE.COUNT keys.length).setF SPL_PASS.CYC cyc
  let s := s.maxF SPL_PASSMAX.CYC cyc
  let s := countG 0x03 (cyc / 2) s
  let s := if s.spl.zskip then countG 0x05 (all - keys.length) (countG 0x04 keys.length s) else countG 0x04 all s
  let s := s.setF SPL_STAT.PASS 0
  if s.spl.commitDue then s else s.setF SPL_STAT.SLATE_READY 1

/-- MATRIX_PASS_END (R250). -/
def execMatrixPassEnd (cyc : Nat) (taps gains : List (Nat × SramErr)) (s : State) : Host.Outcome State Fault Refusal :=
  finish (if s.flag SPL_STAT.PASS then passEnd cyc taps gains s else s)

end Sys2Proof.Machine
end

