-- ==== Sys2Proof/Machine/Take.lean ====
section
/-! DEFINITION. Slate, take and dissolve (chapter 07): what a take changes, its admission, its checks, the lock boundary, the commit
and its later stages, the end of a dissolve, cut recasts. -/

namespace Sys2Proof.Machine

/-! ### What a take changes (R294, R320, R321) -/

/-- The old graph of a take: live tasks that are not the outgoing graph of an earlier one (R205). -/
def inLive (t : TaskD) : Bool := t.live && !t.outgoing

/-- The slate graph differs from the live one. -/
def graphChanges (s : State) : Bool := s.cs.tasks.any fun c => c.1 < 4096 && c.2.slate != inLive c.2

/-- Live patch of an output channel as committed, 0xFFFF where it has none. -/
def livePatch (ch : Nat) (s : State) : Nat := smGet 0xFFFF s.take.patch ch

/-- Output patches that differ from the live ones: channel and new source. -/
def patchChanges (s : State) : List (Nat × Nat) := s.take.patchSlate.filter fun c => livePatch c.1 s != c.2

/-- Recasts that the next take commits: those whose target is LOADED (R155, R328). -/
def dueRecasts (s : State) : List Recast := s.take.recasts.filter fun r => r.target < 18 && s.engState r.target = 6

/-- Destinations of the OUT entries of tasks that satisfy `p`, with their task: taps, bus-output blocks, output channels. -/
def writersOf (p : TaskD → Bool) (s : State) : List (Nat × Nat) :=
  (s.cs.tasks.filter fun c => c.1 < 4096 && p c.2).flatMap fun c =>
    ((listOf c.2 1 s).filter fun x => x.kind = 2).flatMap fun x => (List.range x.count).map fun j => (x.chan + j, c.1)

/-- Task that writes a destination. -/
def writerIn (l : List (Nat × Nat)) (ch : Nat) : Option Nat := entryOf l ch

/-- A list without repeats. -/
def nubNat (l : List Nat) : List Nat := l.foldl (fun a x => if a.contains x then a else a ++ [x]) []

/-- The affected destinations of the slate's take (R321), by channel address. -/
def affected (s : State) : List Nat :=
  let old := writersOf inLive s
  let new := writersOf (·.slate) s
  let rec_ := (dueRecasts s).map (·.logical)
  let byTask := (nubNat ((old ++ new).map (·.1))).filter fun ch =>
    writerIn old ch != writerIn new ch
      || (match writerIn new ch with | some n => rec_.contains (s.task n).logeng | none => false)
  let ps := (patchChanges s).map (·.1)
  let chained := (s.take.patch.filter fun c => byTask.contains c.2).map (·.1)
    ++ (s.take.patchSlate.filter fun c => byTask.contains c.2).map (·.1)
  nubNat (byTask ++ ps ++ chained)

/-! ### The inter-task pool (R38, R320) -/

/-- P: blocks of the inter-task buffer pool for the accepted configuration (R38). -/
def poolBlocks (s : State) : Nat :=
  let b := 4 * s.n + 4
  (8388608 - (16384 + 6 * s.taps + 8 * s.buses) * b) / b

/-- Blocks taken from the top of the pool for the ring buffers of R736. -/
def ringBlocks (s : State) : Nat := ceilDiv (s.getF RL_RBUF.BYTES) (4 * s.n + 4)

/-- Blocks taken from the top of the pool by the old-graph output blocks of a running dissolve (R322). -/
def dissBlocks (s : State) : Nat :=
  match s.take.dissolve with
  | none => 0
  | some d =>
    let old := (s.cs.tasks.filter fun c => c.2.outgoing).flatMap fun c =>
      ((listOf c.2 1 s).filter fun x => x.kind = 2).flatMap fun x => (List.range x.count).map fun j => x.chan + j
    (d.affected.filter fun ch => chIsOutput ch && old.contains ch).length

/-- First block above the part of the pool that graphs may name. -/
def poolTop (s : State) : Nat := poolBlocks s - ringBlocks s - dissBlocks s

/-- Pool blocks named by the BUF_RD and BUF_WR entries of tasks that satisfy `p`. -/
def poolNamed (p : TaskD → Bool) (s : State) : List Nat :=
  (s.cs.tasks.filter fun c => c.1 < 4096 && p c.2).flatMap fun c =>
    ((List.range 3).flatMap fun k => (listOf c.2 k s).filter fun x => x.kind = 6 || x.kind = 7).flatMap fun x =>
      (List.range x.count).map fun j => x.chan + j

/-! ### Admission as a dissolve (R237, R239, R320) -/

/-- The union of the live and slate tasks of logical engine `le`, each once, fits C − g and holds at most 9 YIELDOK tasks (R237). For
a recast this union bounds both sets of R239. -/
def unionFits (le : Nat) (s : State) : Bool :=
  let l := tasksWith (fun t => (inLive t || t.slate) && t.logeng = le) s
  fits l (s.shotCycles - guard_ s) && (l.filter (·.yieldOk)).length ≤ 9

/-- R320 admits the slate's take as a dissolve. -/
def dissolveFits (s : State) : Bool :=
  (List.range 16).all (fun le => unionFits le s)
  && (let old := (writersOf inLive s).map (·.1)
      let aff := (affected s).filter fun ch => chIsOutput ch && old.contains ch
      let top := poolBlocks s - ringBlocks s - aff.length
      (poolNamed (fun t => t.slate || inLive t) s).all fun b => b < top)

/-- Kind of the slate's take: 0 no graph change, 1 dissolve, 2 graph cut (R320, R324, R326). -/
def takeKind (forcecut : Bool) (s : State) : Nat :=
  if forcecut then 2
  else if graphChanges s ∨ !(dueRecasts s).isEmpty then (if dissolveFits s then 1 else 2)
  else if (patchChanges s).isEmpty then 0 else 1

/-! ### The checks of a TAKE (R303 to R309) -/

/-- NOTIFY entries of slate-graph tasks that name task `n` (R211). -/
def notifiesOf (n : Nat) (s : State) : Nat :=
  (s.cs.tasks.filter fun c => c.1 < 4096 && c.2.slate).foldl (fun a c =>
    a + ((List.range 3).flatMap fun k => (listOf c.2 k s).filter fun x => x.kind = 3 && x.chan = n).length) 0

/-- Every slate-graph task's NPRED equals the number of NOTIFY entries that name it (R211). -/
def notifiesMatch (s : State) : Bool := s.cs.tasks.all fun c => !(c.1 < 4096 && c.2.slate) || c.2.npred = notifiesOf c.1 s

/-- L_min (R308). -/
def leadMin (s : State) : Nat :=
  if s.getF RL_STAT.STATE = 2 ∧ 2 ≤ s.getF RL_STAT.SIZE then 2 + ceilDiv 307200 s.shotCycles else 2

/-- s_T of a TAKE that names a time t: the first shot boundary at or after it (R305), signed where the time lies before the
count. -/
def ptpShot (sec ns : Nat) (s : State) : Int :=
  let d := timeDiff sec ns s.ptp.shotSec s.ptp.shotNs
  let q := d * s.fs
  let m : Int := s.n * 1000000000
  (s.shot : Int) + -((-q) / m)

/-- A take whose words have passed order 1 of R309: s_T, or none for CLAP. -/
def takeShot (ws : List Word) (s : State) : Option Int :=
  match bits (nAt ws 0) 30 2 with
  | 0 => some ((s.shot : Int) + 1 + nAt ws 1)
  | 1 => some (nAt ws 1 + 2 ^ 32 * nAt ws 2 : Nat)
  | 2 => some (ptpShot (nAt ws 2 + 2 ^ 32 * nAt ws 3) (nAt ws 1) s)
  | _ => none

/-- Order 1 of R309: is a field of the TAKE in error? The trigger of a CLAP take fires a take when it is armed, so one whose EN is 0
is in error: DESIGN CHOICE (log entry 170). -/
def takeBadArg (ws : List Word) (s : State) : Bool :=
  let w0 := nAt ws 0
  let w1 := nAt ws 1
  let w2 := nAt ws 2
  let w3 := nAt ws 3
  bits w0 11 17 ≠ 0 || nAt ws 4 ≠ 0 || bits w0 0 11 = 0 || 1024 < bits w0 0 11 || (bitOf w0 28 && !bitOf w0 29)
  || (match bits w0 30 2 with
      | 0 => w1 = 0 || w2 ≠ 0 || w3 ≠ 0
      | 1 => 65536 ≤ w2 || w3 ≠ 0
      | 2 => 1000000000 ≤ w1 || 65536 ≤ w3 || !s.flag PTP_STAT.TVALID
      | _ => 32 ≤ w1 || w2 < 2 || w3 ≠ 0 || s.getF (CLP_TCFG.ACTION w1) ≠ 1 || !s.flag (CLP_TCFG.EN w1))

/-- Does the slate's take change the graph, the patches or a recast (R309 order 2)? -/
def takeMoves (s : State) : Bool := graphChanges s || !(patchChanges s).isEmpty || !s.take.recasts.isEmpty

/-- Orders 1, 2, 4, 5 and 6 of R309, in order, with order 3 where `master` asks for it: the first status that applies, else 0. -/
def takeCheckAt (sT : Option Int) (master : Bool) (ws : List Word) (s : State) : Nat :=
  let cutok := bitOf (nAt ws 0) 29
  let busy := !takeMode s.mode || s.take.pending.isSome || s.take.recasts.any (fun r => s.engState r.target = 4)
    || (match s.take.dissolve, sT with
        | some d, some t => decide (t < ((d.t0 + d.dlen + 2 : Nat) : Int)) && takeMoves s
        | _, _ => false)
  let lead : Int := match sT with | some t => t - s.shot | none => nAt ws 2
  if takeBadArg ws s then 3
  else if busy then 5
  else if master ∧ s.getF RL_STAT.STATE = 2 ∧ !s.flag RL_STAT.MASTER then 6
  else if lead < (leadMin s : Int) then 11
  else if (!cutok ∧ xpCuts s ≠ 0) ∨ !notifiesMatch s then 3
  else if !cutok ∧ (graphChanges s ∨ !s.take.recasts.isEmpty) ∧ !dissolveFits s then 7
  else 0

/-- Those checks of a TAKE that names its own boundary. -/
def takeCheck (master : Bool) (ws : List Word) (s : State) : Nat := takeCheckAt (takeShot ws s) master ws s

/-- The take that an accepted TAKE makes pending (R307), with its s_T. -/
def takeOf (ws : List Word) (sT : Option Nat) : Take :=
  let w0 := nAt ws 0
  { when := bits w0 30 2, sT := sT, trigger := nAt ws 1 % 32, k := nAt ws 2, dlen := bits w0 0 11,
    cutok := bitOf w0 29, forcecut := bitOf w0 28, words := ws, locked := false, bus := [] }

/-- The checks of R309 that a slate write must not make the pending take `p` fail (R312): of order 2, no recast target LOADING and no
boundary inside a running dissolve; orders 5 and 6. -/
def pendingChecks (p : Take) (s : State) : List Bool :=
  [!s.take.recasts.any (fun r => s.engState r.target = 4),
   !(match s.take.dissolve, p.sT with
     | some d, some b => decide (b < d.t0 + d.dlen + 2) && takeMoves s
     | _, _ => false),
   p.cutok || xpCuts s = 0,
   notifiesMatch s,
   p.cutok || !(graphChanges s || !s.take.recasts.isEmpty) || dissolveFits s]

/-- A slate write from `s` to `t` would make the pending take fail a check that it passes now (R312). -/
def breaksTake (s t : State) : Bool :=
  match s.take.pending with
  | none => false
  | some p => !p.locked && ((pendingChecks p s).zip (pendingChecks p t)).any fun c => c.1 && !c.2

/-! ### The mirror's traffic (R717, R720) -/

/-- The holder of a pair sends its stand-in a message of `n` bytes; while the link is down its traffic waits, and beyond 16 MiB the
mirror is given up with a MIRROR message (R717, R720). -/
def mirrorSend (kind : String) (words : List Nat) (n : Nat) (s : State) : State :=
  if !s.pairedHolder then s
  else if s.flag STI_STAT.LINK then s.out (.sti kind words)
  else
    let n := s.sti.backlog + n
    if n ≤ 16777216 then s.onSti fun u => { u with backlog := n }
    else if s.sti.backlog < 16777216 then
      raise 0x65 0 (s.getF STI_MIRROR.TAKE % 2 ^ 30) (s.onSti fun u => { u with backlog := 16777216, partnerValid := false })
    else s

/-! ### Engine pages (R106 to R108, R126) -/

/-- Engine `e` passes its commit boundary: its arithmetic mode changes, and where SLATE_DIRTY is 1 its pages exchange and the copy of
R108 begins. -/
def commitEngine (e : Nat) (s : State) : State :=
  let acc := s.flag (ENG_CTRL.ACCWRAP e)
  let s := onEngine e (fun u => { u with accwrapLive := acc }) s
  if s.flag (ENG_STAT.SLATE_DIRTY e) then
    let s := s.setF (ENG_STAT.LIVEPAGE e) (1 - s.getF (ENG_STAT.LIVEPAGE e))
    let s := (s.setF (ENG_STAT.SLATE_DIRTY e) 0).setF (ENG_STAT.SLATE_READY e) 0
    onEngine e (fun u => { u with copying := true }) s
  else s

/-- ENGINE_SLATE_COPY_DONE: the whole live page stands in the slate page of the engine (R108), and the words corrected as they were
read are counted (R112). -/
def execEngineSlateCopyDone (x : CopyDone) (s : State) : Host.Outcome State Fault Refusal :=
  finish <|
    let e := x.e
    if e < 18 ∧ (s.engine e).copying then
      let p := s.livePage e
      let s := x.corr.foldl (fun s w => engFixed e 0xFFFF w s) s
      let s := copyBytes (pageBase e !p) (pageBase e p) 0x10000 s
      (onEngine e (fun u => { u with copying := false }) s).setF (ENG_STAT.SLATE_READY e) 1
    else s

/-- Logical engines that carry a task of the live or slate graph, all of them stage-B tasks (R317). -/
def busEngines (s : State) : List Nat :=
  (List.range 16).filter fun le =>
    let l := tasksWith (fun t => (t.live || t.slate) && t.logeng = le) s
    !l.isEmpty && l.all (fun t => t.stage = 1)

/-- Engine `e` serves a logical engine and exchanges its pages at its commit boundary (R106). -/
def pageLeaves (e : Nat) (s : State) : Bool := s.flag (ENG_STAT.SLATE_DIRTY e) && s.getF (ENG_ROLE.LOGICAL e) < 16

/-- The holder of a pair sends its stand-in the pages that its engines `es` exchange in the take of number `number` (R336, R717): each
logical engine with the words of the page that becomes live, behind the number and whether pages of bus engines follow. -/
def mirrorPages (number : Nat) (more : Bool) (es : List Nat) (s : State) : State :=
  let es := es.filter fun e => pageLeaves e s
  let page := fun (e : Nat) => s.getF (ENG_ROLE.LOGICAL e) :: (s.wordsAt (pageBase e !(s.livePage e)) 0x4000).map (·.toNat)
  mirrorSend "TAKE_PAGES" (number :: b2n more :: es.flatMap page) (8 + 65540 * es.length) s

/-- The bus engines of a take, as found at its lock boundary (R317). -/
def Take.busAt (t : Take) (s : State) : List Nat := if t.locked then t.bus else busEngines s

/-- The bus-engine commit at t0 + 2 shots (R317); the stage-B tasks that are new in the take are first dispatched in the shot that this
boundary opens (R322). -/
def busCommit (s : State) : State :=
  match s.take.commit with
  | none => s
  | some c =>
    if c.busDone then s else
    let es := busPhys c.busEngines s
    let s := if es.any (fun e => s.flag (ENG_STAT.SLATE_DIRTY e)) then mirrorPages c.number false es s else s
    let s := es.foldl (fun s e => commitEngine e s) s
    let fresh := (s.cs.tasks.filter fun x => x.2.fresh).map (·.1)
    let s := fresh.foldl (fun s n => onTask n (fun t => { t with fresh := false }) s) s
    s.onTake fun u => { u with commit := some { c with busDone := true } }

/-- BUS_ENGINE_COMMIT (R317). -/
def execBusEngineCommit (s : State) : Host.Outcome State Fault Refusal :=
  finish <| match s.take.commit with
    | some c => if c.t0 + 2 ≤ s.shot then armBoundary (busCommit s) else s
    | none => s

/-! ### The lock boundary (R313, R314) -/

/-- Engine into whose lane slices an image of logical engine `le` is copied: the target of a dissolve recast, else the engine that
serves it. -/
def sliceTarget (kind le : Nat) (s : State) : Option Nat :=
  match (dueRecasts s).find? (fun r => r.logical = le) with
  | some r => some (if kind = 1 then r.target else r.source)
  | none => s.physOf le

/-- One image is copied from the swap window into its lane slices (R301, R314), and kept as the last one of its region (R724). -/
def copySlice (e : Nat) (x : SliceInit) (s : State) : State :=
  let img := x.image s
  (putImage e x img s).onTake fun u => { u with images := (u.images.filter fun c => c.1.w0 ≠ x.w0) ++ [(x, img)] }

/-- The images of the slate are copied in order and cleared from it (R314). -/
def copySlices (kind : Nat) (s : State) : State :=
  let l := s.take.slices
  let s := l.foldl (fun s x => match sliceTarget kind x.logeng s with | some e => copySlice e x s | none => s) s
  s.onTake fun u => { u with slices := [] }

/-- The lock boundary of the pending take: its holds begin and its images are copied (R313, R314). -/
def lockTake (s : State) : State :=
  match s.take.pending with
  | none => s
  | some t =>
    let s := copySlices (takeKind t.forcecut s) s
    s.onTake fun u => { u with pending := some { t with locked := true, bus := busEngines s }, hold := true }

/-- LOCK_BOUNDARY: the boundary one shot before the take boundary (R313); a take of the ring that no commit has confirmed by now is
abandoned (R335). -/
def execLockBoundary (s : State) : Host.Outcome State Fault Refusal :=
  finish <| match s.take.pending with
    | some t =>
      if t.sT = some (s.shot + 1) ∧ !t.locked then
        if s.take.unconfirmed then raise 0x60 0 (s.getF SYS_ID.CHIP_ID) (abandonTake 5 s) else lockTake s
      else s
    | none => s

/-! ### The commit (R205, R215, R216, R316, R319, R326) -/

/-- A descriptor becomes free (R205): its token returns. Its waiting and charge statistics (R246) leave with it: DESIGN CHOICE (log
entry 168). -/
def freeTask (n : Nat) (s : State) : State :=
  (withdraw n s).onCs fun u => { u with tasks := u.tasks.filter fun c => c.1 ≠ n }

/-- A task of the slate graph becomes live: SLATE to WAITING (R205, R217). -/
def enterLive (n : Nat) (s : State) : State :=
  onTask n (fun t => { t with live := true, st := if t.st = 1 then 2 else t.st }) s

/-- The settings of one delay line are committed (R215, R216). -/
def commitLine (i : Nat) (s : State) : State :=
  let l := s.line i
  match l.slate with
  | none => s
  | some n =>
    let s := onLine i (fun l => { l with slate := none }) s
    match l.live with
    | none => onLine i (fun l => { l with live := some n, w := 0, w0 := 0, hw := 0, staged := none }) s
    | some c =>
      if c.base = n.base then
        let st := if n.len = c.len then none else some n.len
        let s := onLine i (fun l => { l with live := some { c with delay := n.delay }, staged := st }) s
        sizeLineClaim i c.base (max c.len n.len) s
      else
        let s := releaseRange (fun m => m.owner = 1 && m.id = i && m.base = lineBase c.base) s
        onLine i (fun l => { l with live := some n, w := 0, w0 := 0, hw := 0, staged := none }) s

/-- The patches of the slate become live; a graph cut keeps each changed channel's old source until the release of b_T (R326). -/
def commitPatches (cut : Bool) (s : State) : State :=
  let ch := patchChanges s
  let olds := ch.map fun c => (c.1, livePatch c.1 s, s.shot + 3)
  s.onTake fun u => { u with
    patch := u.patchSlate.foldl (fun m c => smPut 0xFFFF c.1 c.2 m) u.patch,
    patchSlate := [],
    patchOld := if cut then olds ++ (u.patchOld.filter fun c => s.shot < c.2.2) else u.patchOld.filter fun c => s.shot < c.2.2 }

/-- The running concealments of the destinations `aff` go on in the outgoing graph as well (R84). -/
def carryConceal (aff : List Nat) (s : State) : State :=
  aff.foldl (fun s ch =>
    let (new, old) := match chSpace ch with | 0 => (aTAP, aDTAP) | 1 => (aBUS, aDBUS) | _ => (aOUT, aDOUT)
    s.onCs fun u => { u with conceal := smPut (0, 0) (old * 65536 + ch) (smGet (0, 0) u.conceal (new * 65536 + ch)) u.conceal }) s

/-- Descriptors at the take boundary (R205, R322, R326): `kind` 1 keeps the outgoing graph live, with a second instance on the source
for every task of both graphs of a recast engine (R156); otherwise the outgoing graph is freed. New stage-B tasks of bus engines in a
dissolve wait for the bus-engine commit. The target of a cut recast, no
longer LOADED, shows IDLE from t0: DESIGN CHOICE (log entry 165). -/
def commitGraph (kind : Nat) (bus : List Nat) (s : State) : State :=
  let old := (s.cs.tasks.filter fun c => c.1 < 4096 && inLive c.2 && !c.2.slate).map (·.1)
  let new := (s.cs.tasks.filter fun c => c.1 < 4096 && c.2.slate && !c.2.live).map (·.1)
  let rs := dueRecasts s
  let both := (s.cs.tasks.filter fun c => c.1 < 4096 && inLive c.2 && c.2.slate && rs.any (fun r => r.logical = c.2.logeng)).map (·.1)
  let s := if kind = 1 then
      let s := old.foldl (fun s n => onTask n (fun t => { t with outgoing := true }) s) s
      let s := both.foldl (fun s n => onTask (n + 4096) (fun _ => { (s.task n) with outgoing := true, slate := false }) s) s
      carryConceal (match s.take.dissolve with | some d => d.affected | none => []) s
    else old.foldl (fun s n => freeTask n s) s
  let s := s.onTake fun u => { u with
    recasts := u.recasts.filter fun r => !rs.contains r,
    dissRecasts := if kind = 1 then rs else u.dissRecasts,
    cutRecasts := if kind = 2 then u.cutRecasts ++ rs.map (fun r => ⟨r, s.shot, false⟩) else u.cutRecasts }
  let s := rs.foldl (fun s r => s.setF (ENG_STAT.STATE r.target) 0) s
  let late := fun (n : Nat) (s : State) => kind = 1 && (s.task n).stage = 1 && bus.contains (s.task n).logeng
  let s := new.foldl (fun s n => startOuts n (enterLive n s)) s
  let s := new.foldl (fun s n => if late n s then onTask n (fun t => { t with fresh := true }) s else s) s
  showAdmit s

/-- Engines that exchange pages at t0: all but those that serve a bus engine, or are to serve one after a dissolve recast, and in a
graph cut all (R316, R317, R326). -/
def commitNow (t : Take) (s : State) : List Nat :=
  let bus := t.busAt s
  let rs := dueRecasts s
  (List.range 18).filter fun e => takeKind t.forcecut s = 2
    || !(bus.contains (s.getF (ENG_ROLE.LOGICAL e)) || rs.any fun r => r.target = e && bus.contains r.logical)

/-- What a take exchanges at its boundary (R316): descriptors, engine pages, RWT fields, delay lines, patches and the Splice part. -/
def commitWork (t : Take) (s : State) : State :=
  let s := busCommit s
  let bus := t.busAt s
  let kind := takeKind t.forcecut s
  let number := (s.getF SYS_TAKE_CNT.COUNT + 1) % 2 ^ 32
  let aff := affected s
  let olds := (patchChanges s).map fun c => (c.1, livePatch c.1 s)
  let graph := graphChanges s || !(dueRecasts s).isEmpty
  let t0 := s.shot
  let es := commitNow t s
  let s := mirrorPages number ((List.range 18).any fun e => !es.contains e && pageLeaves e s) es s
  let s := es.foldl (fun s e => commitEngine e s) s
  let s := s.onTake fun u => { u with
    pending := none,
    commit := some ⟨t0, kind, number, t.dlen, kind = 2 || bus.isEmpty, bus⟩,
    dissolve := if kind = 1 then some ⟨t0, t.dlen, number, graph, aff, olds⟩ else u.dissolve,
    lastCut := kind = 2, lastST := t0 }
  let s := commitPatches (kind = 2) s
  let s := commitGraph kind bus s
  let s := (s.cs.lines.map (·.1)).foldl (fun s i => commitLine i s) s
  let s := commitLanes s
  let s := spliceCommit s
  if kind = 1 then s.setF SYS_DISS_END.SHOT (t0 + t.dlen + 2) else s

/-- A take commits at its boundary (R316), with its record, its count, the TAKE interrupt (R652) and TAKE_COMMITTED. -/
def commitTake (t : Take) (s : State) : State :=
  let kind := takeKind t.forcecut s
  let number := (s.getF SYS_TAKE_CNT.COUNT + 1) % 2 ^ 32
  let t0 := s.shot
  let s := (commitWork t s).setF SYS_TAKE_CNT.COUNT number
  let s := logEvent 0xE2 [number, t0 % 2 ^ 32, t0 / 2 ^ 32, kind] s
  notify 0x8002 [number, t0 % 2 ^ 32, t0 / 2 ^ 32, kind] (setIrq 7 s)

/-- TAKE_COMMIT: the boundary that opens shot s_T of a locked take (R316). -/
def execTakeCommit (s : State) : Host.Outcome State Fault Refusal :=
  finish <| match s.take.pending with
    | some t => if t.locked ∧ t.sT = some s.shot then armBoundary (commitTake t s) else s
    | none => s

/-! ### The end of a dissolve and of a cut recast (R156, R157, R325) -/

/-- The end of the dissolve: the outgoing graph is freed, dissolve recasts leave their sources, DISSOLVE_END goes out (R156, R325). -/
def endDissolve (d : Dissolve) (s : State) : State :=
  let outs := (s.cs.tasks.filter fun c => c.2.outgoing).map (·.1)
  let s := outs.foldl (fun s n => freeTask n s) s
  let rs := s.take.dissRecasts.filter fun r => r.source < 18 && r.target < 18
  let s := s.onTake fun u => { u with dissolve := none, dissRecasts := [] }
  let s := rs.foldl (fun s r => (leaveMapping r.source s).setF (ENG_ROLE.LOGICAL r.target) r.logical) s
  let s := s.onStage fun l => l.filter fun c => !(40 ≤ c.1 / 65536 ∧ c.1 / 65536 < 72)
  notify 0x8003 [d.number] (showAdmit (checkAll s))

/-- DISSOLVE_END: the boundary at t0 + DLEN + 2 shots (R325). -/
def execDissolveEnd (s : State) : Host.Outcome State Fault Refusal :=
  finish <| match s.take.dissolve with
    | some d => if d.t0 + d.dlen + 2 ≤ s.shot then armBoundary (endDissolve d s) else s
    | none => s

/-- A cut recast completes: source and target exchange `ENG_ROLE`, and the tasks due in this shot run on the target (R157, R159). -/
def swapRecast (c : CutRecast) (s : State) : State :=
  let le := c.r.logical
  let ns := (s.cs.tasks.filter fun x => x.2.live && x.2.logeng = le && x.2.due).map (·.1)
  let s := s.onTake fun u => { u with cutRecasts := u.cutRecasts.filter fun x => x.r.logical ≠ le }
  if 18 ≤ c.r.source ∨ 18 ≤ c.r.target then s else
  let s := (leaveMapping c.r.source s).setF (ENG_ROLE.LOGICAL c.r.target) le
  let s := s.setF (ENG_STAT.STATE c.r.target) 0
  rearmTasks ns s

/-- CUT_RECAST_SWAP: one shot after the take boundary (R157). -/
def execCutRecastSwap (le : Nat) (s : State) : Host.Outcome State Fault Refusal :=
  finish <| match s.take.cutRecasts.find? (fun c => c.r.logical = le ∧ c.copied ∧ c.t0 + 1 ≤ s.shot) with
    | some c => armBoundary (swapRecast c s)
    | none => s

end Sys2Proof.Machine
end

