-- ==== Sys2Proof/Machine/HostRead.lean ====
section
/-! DEFINITION. Reads of the device address space by the host (R6 to R9, R25, R39 to R46): what a register shows at the moment
of the read, latches and clearing reads, the views of the engine windows and of the gains. -/

namespace Sys2Proof.Machine

/-- Registers that the host reads before STANDBY (R757). -/
def earlyReg (a : Nat) : Bool := a = 0x0 || a = 0x4 || a = 0x8 || a = 0x20

/-- The physical engine whose control block holds device address `a` (R42). -/
def engOfReg (a : Nat) : Option Nat :=
  if 0xE000 ≤ a ∧ a < 0x10000 then some (16 + (a - 0xE000) / 0x1000)
  else if 0xF0000 ≤ a ∧ a < 0x100000 then some ((a - 0xF0000) / 0x1000)
  else none

/-! ### Debug registers (R153) -/

/-- Word `w` of an accumulator: word 2 holds bits [79:64] sign-extended (R153). -/
def dbgAcc (a : Acc) (w : Nat) : Word :=
  if w = 2 then (a.extractLsb' 64 16).signExtend 32 else a.extractLsb' (32 * w) 32

/-- The accumulator with word `w` at `v` (R153). -/
def dbgAccPut (a : Acc) (w : Nat) (v : Word) : Acc :=
  let x := dbgAcc a
  let (w0, w1, w2) := (if w = 0 then v else x 0, if w = 1 then v else x 1, if w = 2 then v else x 2)
  w2.extractLsb' 0 16 ++ w1 ++ w0

/-- The register of a bank that index and lane of `ENG_DBGSEL` choose (R153). -/
def dbgRead (b : Bank) (lane i : Nat) : Word :=
  if i < 0x10 then b.dreg lane i
  else if i < 0x1C then dbgAcc (b.accum lane ((i - 0x10) / 3)) ((i - 0x10) % 3)
  else if 0x20 ≤ i ∧ i < 0x40 then (b.field (i - 0x10)).zeroExtend 32
  else if i = 0x40 then
    wd ((List.range 4).foldl (fun a k => a + b2n (b.hold lane k) * 2 ^ (8 - k)) 0
      + b2n (b.z.getLsbD lane) * 16 + b2n (b.n.getLsbD lane) * 8 + b2n (b.v.getLsbD lane) * 4
      + b2n (b.s.getLsbD lane) * 2 + b2n (b.g.getLsbD lane))
  else if i = 0x41 then wd b.pc
  else 0

/-- A lane's bit of a flag byte set to `v`. -/
def setFlagBit (x : Byte) (lane : Nat) (v : Bool) : Byte :=
  BitVec.ofNat 8 (fldPut (x.zeroExtend 32) lane 1 (b2n v)).toNat

/-- The bank with that register at `v` (R153). -/
def dbgWrite (b : Bank) (lane i : Nat) (v : Word) : Bank :=
  let n := v.toNat
  if i < 0x10 then b.setD lane i v
  else if i < 0x1C then b.setAcc lane ((i - 0x10) / 3) (dbgAccPut (b.accum lane ((i - 0x10) / 3)) ((i - 0x10) % 3) v)
  else if 0x20 ≤ i ∧ i < 0x40 then b.setField (i - 0x10) (v.extractLsb' 0 16)
  else if i = 0x40 then
    let b := (List.range 4).foldl (fun b k => b.setHold lane k (bitOf n (8 - k))) b
    { b with
      z := setFlagBit b.z lane (bitOf n 4), n := setFlagBit b.n lane (bitOf n 3), v := setFlagBit b.v lane (bitOf n 2),
      s := setFlagBit b.s lane (bitOf n 1), g := setFlagBit b.g lane (bitOf n 0) }
  else if i = 0x41 then { b with pc := n % 16384 }
  else b

/-! ### What registers show -/

/-- The number of engines in one of the states. -/
def engCount (p : Nat → Bool) (s : State) : Nat := ((List.range 18).filter fun e => p (s.engState e)).length

/-- The SYS slot and engine control (R2, R50, R148 to R153, R340, R771). -/
def showSys (a : Nat) (s : State) : State :=
  match engOfReg a with
  | some e =>
    let b := s.bank e
    match a % 0x1000 with
    | 0x0 => if s.mode = 10 ∨ s.mode = 11 then s else s.setF (ENG_CTRL.HALT e) 0
    | 0xC => s.setF (ENG_PC.PC e) (s.pcOf e)
    | 0x10 => (s.setF (ENG_LFLAG.G e) b.g.toNat).setF (ENG_LFLAG.S e) b.s.toNat
    | 0x104 =>
      s.setF (ENG_DBGDATA.DATA e)
        (if s.engState e = 2 then (dbgRead b (s.getF (ENG_DBGSEL.LANE e)) (s.getF (ENG_DBGSEL.INDEX e))).toNat else 0)
    | _ => s
  | none =>
    let l := s.boot.life
    match a with
    | 0x0 => s.setF SYS_ID.GRADE s.fuse.grade
    | 0x4 =>
      let m := s.mode
      let hold := (m = 3 || m = 4 || m = 5 || m = 8 || m = 9 || m = 10) && clkHold s
      ((s.setF SYS_MODE.ROLE s.role).setF SYS_MODE.HOLD (b2n hold)).setF SYS_MODE.MUTED (b2n s.muted)
    | 0x18 => (s.setF SYS_SHOT_LO.COUNT s.shot).setF SYS_SHOT_HI.COUNT (s.shot / 2 ^ 32)
    | 0x40 => s.setF SYS_LEDGER.ACTIVE (b2n (s.mode ≠ 0 && s.mode ≠ 11))
    | 0x60 =>
      let u := s.take
      let s := s.setF SYS_TAKE_STAT.BUSENG (b2n (match u.commit with | some c => !c.busDone | none => false))
      let s := s.setF SYS_TAKE_STAT.CUT (b2n (match u.pending with | some t => takeKind t.forcecut s = 2 | none => u.lastCut))
      let s := s.setF SYS_TAKE_STAT.DISSOLVE (b2n u.dissolve.isSome)
      let s := s.setF SYS_TAKE_STAT.LOCKED (b2n u.hold)
      s.setF SYS_TAKE_STAT.PENDING (b2n u.pending.isSome)
    | 0x64 =>
      let x := match s.take.pending with
        | some t => t.sT.getD 0
        | none => s.take.lastST
      (s.setF SYS_TAKE_SHOT_LO.SHOT x).setF SYS_TAKE_SHOT_HI.SHOT (x / 2 ^ 32)
    | 0x80 => (s.setF SYS_OPSEC_LO.SEC l.opsec).setF SYS_OPSEC_HI.SEC (l.opsec / 2 ^ 32)
    | 0x88 => s.setF SYS_CYCLES.COUNT l.cycle
    | 0x8C => s.setF SYS_FIRSTDAY.DAY l.firstDay
    | 0x90 => s.setF SYS_LASTDAY.DAY l.lastDay
    | 0x94 => s.setF SYS_LASTSOD.SEC l.lastSod
    | 0x98 =>
      let s := s.setF SYS_ENGSUM.ACTIVE ((List.range 16).filter fun n => (s.physOf n).isSome).length
      let s := s.setF SYS_ENGSUM.SPARE (engCount (fun x => x = 3 || x = 4 || x = 6) s)
      let s := s.setF SYS_ENGSUM.RETIRED (engCount (fun x => x = 5) s)
      s.setF SYS_ENGSUM.UNASSIGNED ((List.range 16).foldl (fun m n => if (s.physOf n).isSome then m else m + 2 ^ n) 0)
    | _ => s

/-- Tokens on the delay list: tasks in the states SLATE, WAITING and QUARANTINED (R217). -/
def dlDepth (s : State) : Nat :=
  (s.cs.tasks.filter fun c => c.1 < 4096 && (c.2.st = 1 || c.2.st = 2 || c.2.st = 7)).length

/-- The CLK, PTP and CS slots (R244 to R246, R518, R531, R567). Of a task that a dissolve recast runs on source and target, the registers
show the run on the target: DESIGN CHOICE (log entry 186). -/
def showMid (a : Nat) (s : State) : State :=
  let t := s.task (s.getF CS_TSEL.TASK)
  if a = 0x10024 then
    s.setF CLK_HOLDSTAT.ENTRIES (if s.cstate = 3 ∨ s.cstate = 4 then s.clk.avgN else (holdWindow s).length)
  else if a = 0x20010 then s.setF PTP_STAT.ARR (b2n (s.csel ≠ 5))
  else if a = 0x20020 then
    ((s.setF PTP_TIME0.NS s.ptp.ns).setF PTP_TIME1.SEC s.ptp.sec).setF PTP_TIME2.SEC (s.ptp.sec / 2 ^ 32)
  else if a = 0x20040 then
    ((s.setF PTP_SHOT0.NS s.ptp.shotNs).setF PTP_SHOT1.SEC s.ptp.shotSec).setF PTP_SHOT2.SEC (s.ptp.shotSec / 2 ^ 32)
  else if 0x20800 ≤ a ∧ a < 0x20A00 ∧ a % 0x20 = 4 then
    let c := (a - 0x20800) / 0x20
    s.setF (CLP_CSTAT.LEVEL c) (s.capFifo c).length
  else match a with
    | 0x30004 => s.setF CS_RESERVE.GUARD (guard_ s)
    | 0x30008 => s.setF CS_LIMITS.ADMIT (admitLimit (s.getF CS_RESERVE.PCT) s)
    | 0x30040 => s.setF CS_DLDEPTH.CUR (dlDepth s)
    | 0x30044 => s.setF CS_DISSOLVE.ACTIVE (b2n (match s.take.dissolve with | some d => d.graph | none => false))
    | 0x30404 =>
      (((s.setF CS_TSTATE.SLATE (b2n t.slate)).setF CS_TSTATE.LIVE (b2n t.live)).setF CS_TSTATE.OVRCNT t.ovr).setF
        CS_TSTATE.STATE t.st
    | 0x30408 => s.setF CS_TWAIT_MIN.CYC t.wmin
    | 0x3040C => s.setF CS_TWAIT_MAX.CYC t.wmax
    | 0x30410 => s.setF CS_TWAIT_LAST.CYC t.wlast
    | 0x30418 => s.setF CS_TUSED.CYC t.used
    | _ =>
      if 0x30020 ≤ a ∧ a < 0x30040 then
        let k := (a - 0x30020) / 4
        s.setF (CS_QDEPTH.CUR k) (s.cs.ready.getD k []).length
      else s

/-- The SPL slot (R292, R293). -/
def showSpl (a : Nat) (s : State) : State :=
  match a with
  | 0x40008 => s.setF SPL_CUTS.COUNT (xpCuts s)
  | 0x4000C => s.setF SPL_ARMED.COUNT (xpArmed s)
  | 0x40010 => s.setF SPL_FADES.RUNNING s.spl.fades.length
  | 0x40044 => s.setF SPL_XGAIN.GAIN (if (xsel s).isSome then s.spl.xgain.toNat else 0)
  | 0x40048 =>
    match xsel s with
    | none => s.setReg 0x40048 0
    | some k =>
      let armed := match entryOf s.spl.slate k with
        | some g => if armedEntry g s then some g.law else none
        | none => match entryOf s.spl.commit k with
          | some g => if armedEntry g s then some g.law else none
          | none => none
      let run := entryOf s.spl.fades k
      let st := b2n armed.isSome + 2 * b2n run.isSome
      let law := match armed, run with
        | some l, _ => l
        | none, some f => f.law
        | none, none => false
      ((s.setF SPL_XFADE.STATE st).setF SPL_XFADE.LAW (b2n law)).setF SPL_XFADE.REMAIN s.spl.xremain
  | 0x4004C =>
    match xsel s with
    | none => s.setReg 0x4004C 0
    | some k =>
      let g := match entryOf s.spl.slate k with
        | some g => if armedEntry g s then some g.gain else none
        | none => match entryOf s.spl.commit k with
          | some g => if armedEntry g s then some g.gain else none
          | none => none
      s.setReg 0x4004C (match g with
        | some x => x
        | none => match entryOf s.spl.fades k with
          | some f => f.g1
          | none => smGet 0 s.spl.live k)
  | _ => s

/-- The SP and NET slots (R390, R414, R444, R447). -/
def showNet (a : Nat) (s : State) : State :=
  if 0x50000 ≤ a ∧ a < 0x54000 ∧ a % 0x100 = 0x60 then
    let p := (a - 0x50000) / 0x100
    let x := (s.port p).lastSec
    (s.setF (SP_TS1.SEC p) x).setF (SP_TS2.SEC p) (x / 2 ^ 32)
  else
    let c := s.getF NET_CSEL.CTX
    let u := s.ctx c
    if a = 0x64004 then s.setReg a (wd (ctxStat u))
    else if 0x64040 ≤ a ∧ a < 0x64090 then s.setReg a (wAt u.words ((a - 0x64040) / 4))
    else if 0x64100 ≤ a ∧ a < 0x64120 then s.setReg a (wd (u.cnt.getD ((a - 0x64100) / 4) 0))
    else s

/-- Claim `x` of a space of `MEM_CLAIM` as its register shows it. -/
def claimWord (x : Option (Nat × Nat)) : Word :=
  match x with
  | some (owner, id) => wd (2 ^ 31 + owner * 2 ^ 28 + id % 4096 * 65536)
  | none => 0

/-- The DL, MEM, FLT, LOG and PCN slots (R464, R612, R675, R690, R698). -/
def showMem (a : Nat) (s : State) : State :=
  let i := s.getF MEM_CLAIMSEL.INDEX
  let c0 := if s.getF MEM_CLAIMSEL.SPACE = 0 then entryOf s.fab.claims i else none
  match a with
  | 0x70464 => s.setF DL_MPT.DESC (s.point (s.getF DL_MSEL.POINT)).desc.toNat
  | 0x8030C =>
    let w := smGet 0 s.fab.wear (s.getF MRAM_WSEL.ROW)
    (s.setF MRAM_WEAR_LO.COUNT w).setF MRAM_WEAR_HI.COUNT (w / 2 ^ 32)
  | 0x80504 =>
    s.setReg a (match s.getF MEM_CLAIMSEL.SPACE with
      | 0 => claimWord (c0.map fun x => (x.owner, x.id))
      | 1 => claimWord ((entryOf s.fab.rxClaim i).map fun c => (2, c))
      | _ => claimWord ((entryOf s.fab.txClaim i).map fun c => (2, c)))
  | 0x80508 => s.setReg a (wd (match c0 with | some x => x.base | none => 0))
  | 0x8050C => s.setReg a (wd (match c0 with | some x => x.len | none => 0))
  | 0x90050 => s.setF FLT_STAT.QLEVEL s.flt.queue.length
  | 0xA0504 =>
    let c := s.getF LOG_CSEL.CODE
    (s.setF LOG_CSTAT.TOKENS (s.tokens c)).setF LOG_CSTAT.PEND (smGet 0 s.flt.pend c)
  | _ =>
    if 0xB1000 ≤ a ∧ a < 0xB2200 ∧ a % 0x100 = 0x60 then
      let e := (a - 0xB1000) / 0x100
      s.setReg (a + 4) (smGet 0 s.pcn.trec1 e)
    else s

/-- CLK_PER periods in a microsecond, times ten (153.6 MHz). -/
def perTenUs : Nat := 1536

/-- Microseconds to the fence of a paired holder, or to the taking of a paired stand-in, 0 where unpaired (R709 to R711,
R744). -/
def leaseLeft (s : State) : Nat :=
  if !s.flag STI_STAT.PAIRED then 0
  else
    let lz := s.sti.lz * 100
    if s.role = 1 then (s.sti.tn * 10 / perTenUs + lz - 250) - s.time * 10 / perTenUs
    else (s.sti.rn * 10 / perTenUs + lz + 250) - s.time * 10 / perTenUs

/-- Tenths of a second left of the presence window (R645). -/
def presenceLeft (s : State) : Nat := 300 - (s.time - s.cmd.winAt) / 15360000

/-- The STI, RL, CMD and PIN slots (R645, R652, R655, R744, R788, R791). -/
def showLow (a : Nat) (s : State) : State :=
  match a with
  | 0xC000C => s.setF STI_LEFT.US (min 65535 (leaseLeft s))
  | 0xC0014 => s.setF STI_MBACK.BYTES s.sti.backlog
  | 0xC0144 =>
    let b := s.getF RL_BSEL.BUS
    let m := smGet 0 s.rl.bmap b
    let s := (s.setF RL_BMAP.RING (b2n (8 ≤ m))).setF RL_BMAP.OWNER m
    if s.getF RL_STAT.STATE = 2 then s.setF RL_BMAP.P (chainPos b s)
    else
      let (x, s) := fresh Config.openField s
      s.setF RL_BMAP.P x
  | 0xD0004 =>
    (s.setF CMD_STAT.SEALED (b2n s.fuse.sealFuse)).setF CMD_STAT.PLEFT
      (if s.flag CMD_STAT.PWIN then presenceLeft s else 0)
  | 0xD0090 => s.setReg a (wd s.istat)
  | 0xE001C => s.setReg a (if bits (s.reg 0xE0000).toNat 10 2 = 0 then 0 else s.pin.gpioIn)
  | 0xE0104 =>
    s.setReg a (match s.pinClaim (s.getF PIN_CLAIMSEL.INDEX) with
      | some c => wd (2 ^ 31 + c.owner * 2 ^ 28 + c.id % 64 * 65536)
      | none => 0)
  | _ =>
    if 0xD00C0 ≤ a ∧ a < 0xD00CC then
      let k := (a - 0xD00C0) / 4
      s.setF (CMD_HSEQ.E k) ((s.sess k).e.getD 0)
    else if 0xD00D0 ≤ a ∧ a < 0xD00DC then
      let k := (a - 0xD00D0) / 4
      s.setF (CMD_DSEQ.SEQ k) (s.sess k).dseq
    else if 0xE0120 ≤ a ∧ a < 0xE0140 then
      let k := (a - 0xE0120) / 4
      s.setReg a (wd ((List.range 32).foldl (fun m i => if (s.pinClaim (32 * k + i)).isSome then m + 2 ^ i else m) 0))
    else s

/-- The register at `a` as it shows at this moment, with the latches that its read takes. -/
def showReg (a : Nat) (s : State) : State :=
  match a / 0x10000 with
  | 0 => showSys a s
  | 15 => showSys a s
  | 1 => showMid a s
  | 2 => showMid a s
  | 3 => showMid a s
  | 4 => showSpl a s
  | 5 => showNet a s
  | 6 => showNet a s
  | 12 => showLow a s
  | 13 => showLow a s
  | 14 => showLow a s
  | _ => showMem a s

/-! ### Reads of the control region -/

/-- The RC fields of the register at `a` clear (R9): their bits return to 0, and a peak restarts at the present count (R244, R292). -/
def clearRc (a : Nat) (s : State) : State :=
  let s := match regRow a with
    | some r => s.setReg a (s.reg a &&& ~~~ (wd r.rc))
    | none => s
  if 0x30020 ≤ a ∧ a < 0x30040 then notePeak ((a - 0x30020) / 4) s
  else if a = SPL_FADEMAX.MAX.addr then notePeakFades s
  else s

/-- Offset in a port block of the lower register of a 64-bit counter (R444). -/
def isLo64 (a : Nat) : Bool :=
  decide (0x60000 ≤ a) && decide (a < 0x61400) && (a % 0x400 = 0x100 || a % 0x400 = 0x108 || a % 0x400 = 0x140 || a % 0x400 = 0x148)

/-- Its upper register. -/
def isHi64 (a : Nat) : Bool := isLo64 (a - 4)

/-- A read of the register at `a` (R6 to R9, R25): its value as shown, latches taken, RC fields cleared. -/
def readReg (a : Nat) (s : State) : Word × State :=
  if !s.hostOpen ∧ !earlyReg a then (0, s)
  else if a = 0x6300C then hbufAlloc s
  else if 0x20800 ≤ a ∧ a < 0x20A00 ∧ a % 0x20 = 8 then readCapture ((a - 0x20800) / 0x20) s
  else if isLo64 a then
    let v := s.reg a
    (v, ((s.onNet fun u => { u with latch := smPut 0 (a + 4) (s.reg (a + 4)) u.latch }).setReg a 0).setReg (a + 4) 0)
  else if isHi64 a then (smGet 0 s.net.latch a, s)
  else if 0x64100 ≤ a ∧ a < 0x64120 then
    let s := showReg a s
    (s.reg a, onCtx (s.getF NET_CSEL.CTX) (fun u => { u with cnt := putNth 0 u.cnt ((a - 0x64100) / 4) 0 }) s)
  else if a = 0xE0024 then (s.reg a, clearRc a (s.onPin fun u => { u with thMax := none }))
  else
    let s := showReg a s
    (s.reg a, clearRc a s)

/-! ### Reads of the other regions -/

/-- Offsets of an engine window that are reserved (R44). -/
def engGap (off : Nat) : Bool := (0x20000 ≤ off && off < 0x40000) || 0xC0000 ≤ off

/-- A host access of engine `e`'s window is counted (R691). -/
def countWin (e : Nat) (s : State) : State := countE e 0x15 1 0xFFFF s

/-- A read of a word in the window of engine `e` (R44, R45, R144, R145). -/
def readEng (e off a : Nat) (s : State) : Word × State :=
  if engGap off then (0, decodeFault a s)
  else if engClosed e s then (0, s)
  else
    let s := countWin e s
    if (0x40000 ≤ off ∧ off < 0x80000) ∨ (0xA0000 ≤ off ∧ off < 0xC0000) then (sliceWord e a s, s)
    else (s.word (engWin e + viewOff e off s), s)

/-- A read of a word of the gain region (R253, R254). -/
def readGain (off : Nat) (s : State) : Word :=
  let k := off % (if oneSet s then 0x800000 else 0x400000) / 4
  if s.taps * s.buses ≤ k then 0
  else if !oneSet s ∧ 0x400000 ≤ off then xpSlate k s
  else smGet 0 s.spl.live k

/-- The word at device address `a`, a multiple of 4, as the host reads it. -/
def hostRead (a : Nat) (s : State) : Word × State :=
  if !s.hostOpen ∧ !earlyReg a then (0, s)
  else match regionOf a s with
    | .control => readReg a s
    | .engine e off => readEng e off a s
    | .gains off => (readGain off s, s)
    | .stage _ => fresh Config.stageWord s
    | .mram off => if 0xFE0000 ≤ off then fresh Config.wearWord s else (s.word a, s)
    | .ddr => if s.flag DDR_STAT.READY then (s.word a, s) else (0, decodeFault a s)
    | .none => (0, decodeFault a s)
    | _ => (s.word a, s)

/-- The error that a crossbar read of a word meets: in an engine's memory it is that engine's ECC error (R112, R113); in the eMRAM a
corrected one counts for its row (R605) and a double-bit one is that of R577 (log entry 177), in LPDDR5 an uncorrectable one is the
link ECC's (R598), and elsewhere it is that of an SRAM (R576, R577). -/
def readBad (x : BadRead) (s : State) : State :=
  match regionOf x.addr s with
  | .engine e _ => engReadError e x.err s
  | .mram off => if x.err.single then mramCorrected (off / 4096) s else eccDouble x.err s
  | .ddr => if x.err.single then s else ddrEcc s
  | _ => sramError x.err s

/-- A word with the error reads 0: an uncorrectable one (R113, R577). LPDDR5 returns the data as read (R598). -/
def readsZero (x : BadRead) (s : State) : Bool :=
  match regionOf x.addr s with
  | .ddr => false
  | _ => !x.err.single

/-- A read of device address `a` reaches memory, which can show an error. -/
def readsMemory (a : Nat) (s : State) : Bool :=
  match regionOf a s with
  | .control => false
  | .none => false
  | .engine e off => !engGap off && !engClosed e s
  | .ddr => s.flag DDR_STAT.READY
  | _ => s.hostOpen

/-- The word at device address `a` as the host reads it, with the error that it meets (R112, R113, R577, R598, R605). -/
def hostWord (a : Nat) (bad : Option SramErr) (s : State) : Word × State :=
  match bad with
  | some err =>
    if !readsMemory a s then hostRead a s
    else if readsZero ⟨a, err⟩ s then (0, readBad ⟨a, err⟩ (hostRead a s).2) else hostRead a (readBad ⟨a, err⟩ s)
  | none => hostRead a s

/-- `n` words from device address `a` upward, with the errors of `bad`. -/
def hostReads (a : Nat) (bad : List BadRead) : Nat → State → List Word × State
  | 0, s => ([], s)
  | n + 1, s =>
    let (w, s) := hostWord a ((bad.find? fun x => x.addr = a).map (·.err)) s
    let (l, s) := hostReads (a + 4) bad n s
    (w :: l, s)

/-- The `n` bytes of a word from byte offset `o`, as a number (R7). -/
def byteLanes (w : Word) (o n : Nat) : Word := wd (w.toNat / 256 ^ o % 256 ^ n)

/-- A read of `n` bytes, 1 to 4 within one word, at `a` (R7), with the error that the word meets. -/
def hostReadN (a n : Nat) (bad : Option SramErr) (s : State) : Word × State :=
  let (w, s) := hostWord (a / 4 * 4) bad s
  (byteLanes w (a % 4) n, s)

/-- A read by the host, answered with its data. -/
def readAns (r : Word × State) : Host.Outcome State Fault Refusal := finish (r.2.out (.readData [r.1]))

/-! ### Rows 61 to 70 and 74 of the opcode table -/

/-- SHOT_COUNTER_READ (R25): a read of `SYS_SHOT_LO` latches `SYS_SHOT_HI`. -/
def execShotCounterRead (s : State) : Host.Outcome State Fault Refusal := readAns (readReg 0x18 s)

/-- TAKE_SHOT_READ (R340): a read of `SYS_TAKE_SHOT_LO` latches `SYS_TAKE_SHOT_HI`. -/
def execTakeShotRead (s : State) : Host.Outcome State Fault Refusal := readAns (readReg 0x64 s)

/-- SP_TS_READ (R390): a read of `SP_TS0` of port `p` latches its seconds. -/
def execSpTsRead (p : Nat) (s : State) : Host.Outcome State Fault Refusal :=
  if p < 64 then readAns (readReg (0x50060 + 0x100 * p) s) else finish s

/-- PTP_TIME_READ (R531): a read of `PTP_TIME0`, or of `PTP_SHOT0`, latches the seconds that follow it. -/
def execPtpTimeRead (shot : Bool) (s : State) : Host.Outcome State Fault Refusal :=
  readAns (readReg (if shot then 0x20040 else 0x20020) s)

/-- OPSEC_READ (R771): a read of `SYS_OPSEC_LO` latches `SYS_OPSEC_HI`. -/
def execOpsecRead (s : State) : Host.Outcome State Fault Refusal := readAns (readReg 0x80 s)

/-- MRAM_WEAR_READ (R612): a read of `MRAM_WEAR_LO` latches `MRAM_WEAR_HI`. -/
def execMramWearRead (s : State) : Host.Outcome State Fault Refusal := readAns (readReg 0x8030C s)

/-- NET_COUNTER_LO_READ (R444): a read of a `_LO` counter of port `p` latches its `_HI` and clears both; `k` counts received
frames, received bytes, sent frames and sent bytes. -/
def execNetCounterLoRead (p k : Nat) (s : State) : Host.Outcome State Fault Refusal :=
  if p < 5 ∧ k < 4 then readAns (readReg (0x60000 + 0x400 * p + [0x100, 0x108, 0x140, 0x148].getD k 0x100) s) else finish s

/-- TAG_RECORD_READ (R698): a read of `PCN_TREC0` of engine `e` clears VALID and latches `PCN_TREC1`. -/
def execTagRecordRead (e : Nat) (s : State) : Host.Outcome State Fault Refusal :=
  if e < 18 then readAns (readReg (0xB1060 + 0x100 * e) s) else finish s

/-- RC_FIELD_READ (R9): a read of `n` bytes of a control register at `a`; its RC fields clear whatever bytes are read (R7). -/
def execRcFieldRead (a n : Nat) (s : State) : Host.Outcome State Fault Refusal :=
  if a < 0x100000 ∧ a % 4 + n ≤ 4 then readAns (hostReadN a n none s) else finish s

/-- CAPTURE_FIFO_READ (R567): a read of `CLP_CTS0` of capture `c` removes the oldest timestamp and latches its seconds. -/
def execCaptureFifoRead (c : Nat) (s : State) : Host.Outcome State Fault Refusal :=
  if c < 16 then readAns (readReg (0x20808 + 0x20 * c) s) else finish s

/-- Device address behind offset `off` of BAR2 (R616). -/
def barAddr (off : Nat) (s : State) : Nat := 0x100000000 + s.getF CMD_DDRWIN.BASE * 0x10000000 + off

/-- A word of BAR4: the MSI-X table, the pending-bit array, and 0 elsewhere (R616). -/
def bar4Word (off : Nat) (s : State) : Word :=
  if off < 0x200 then wAt s.cmd.msix (off / 4) else if off / 4 = 0x800 then wd s.cmd.msixPend else 0

/-- A word of configuration space: vendor and device ID, and the class code (R615); what the rule does not give is open (log entry
194). -/
def configWord (off : Nat) : Word :=
  let x := Config.pciWord (off / 4)
  if off / 4 = 0 then wd (0x20480000 + x.toNat % 65536) else if off / 4 = 2 then wd (0x04010000 + x.toNat % 256) else x

/-- A read of the host at device address `a`: one of an engine window waits behind a slate write of the host that the crossbar holds
(R587), another is answered. -/
def hostReadAt (a n : Nat) (bad : Option SramErr) (s : State) : State :=
  let behind := match regionOf a s with
    | .engine _ _ => !s.fab.t1q.isEmpty
    | _ => false
  if behind then s.onFab fun u => { u with t1q := u.t1q ++ [⟨a, [], n, bad⟩] } else
  let r := hostReadN a n bad s
  r.2.out (.readData [r.1])

/-- UNMAPPED_READ (R6, R7, R40, R615, R616): a read of bytes within one word at a device address, through BAR2, in BAR4 or in
configuration space; an address without memory or register returns 0 and sends DECODE. -/
def execUnmappedRead (a : Nat) (x : HostSpan) (s : State) : Host.Outcome State Fault Refusal :=
  if ¬(a < x.bar.size ∧ a % 4 + x.n ≤ 4) then finish s else
  match x.bar with
  | .bar0 => finish (hostReadAt a x.n x.bad s)
  | .bar2 => finish (hostReadAt (barAddr a s) x.n x.bad s)
  | .bar4 => readAns (byteLanes (bar4Word a s) (a % 4) x.n, s)
  | .config => readAns (byteLanes (configWord a) (a % 4) x.n, s)

end Sys2Proof.Machine
end

