-- ==== Sys2Proof/Machine/HostWrite.lean ====
section
/-! DEFINITION. Writes of the device address space by the host (R8, R9, R41, R45, R109, R142 to R145): control registers under
their access codes and the conditions of their chapters, memories and views. -/

namespace Sys2Proof.Machine

/-! ### Registers without behaviour of their own (R9) -/

/-- The value of a register after a write of `v` under its access codes: RW and RWT bits take the written bits, a 1 clears a W1C
bit, every other bit stays (R9, R13). -/
def genValue (r : RegRow) (old v : Word) : Word :=
  let set := wd (r.rw ||| r.rwt)
  let w1c := wd r.w1c
  (old &&& ~~~set &&& ~~~(w1c &&& v)) ||| (v &&& set)

/-- A write under the access codes alone. -/
def genWrite (a : Nat) (v : Word) (s : State) : State :=
  match regRow a with
  | some r => s.setReg a (genValue r (s.reg a) v)
  | none => s

/-- A write under the access codes where a condition holds; otherwise it is discarded whole. -/
def condWrite (ok : Bool) (a : Nat) (v : Word) (s : State) : State := if ok then genWrite a v s else s

/-! ### SYS slot and engine control -/

/-- Engine `e` is halted (R147): a running task stands, an idle engine takes none. -/
def haltEngine (e : Nat) (s : State) : State :=
  if s.engState e = 1 then (onEngine e (fun u => { u with haltedRun := true }) s).setF (ENG_STAT.STATE e) 2
  else if s.engState e = 0 then s.setF (ENG_STAT.STATE e) 2
  else s

/-- A write of `ENG_CTRL` (R126, R147): ACCWRAP goes to the slate; HALT acts in MAINTENANCE and TEST only; STEP executes one
instruction of a halted engine. -/
def writeEngCtrl (e v : Nat) (s : State) : State :=
  let s := s.setF (ENG_CTRL.ACCWRAP e) (v % 2)
  -- STEP is judged on the state before the HALT of the same write
  let s := if bitOf v 9 then stepEngine e s else s
  if s.mode = 10 ∨ s.mode = 11 then
    let s := s.setF (ENG_CTRL.HALT e) (bits v 8 1)
    if bitOf v 8 then haltEngine e s
    else if s.engState e = 2 then check e (resumeEngine e s)
    else s
  else s

/-- A write of `ENG_DBGDATA` (R153). -/
def writeDbg (e : Nat) (v : Word) (s : State) : State :=
  if s.engState e = 2 then onBank e (fun b => dbgWrite b (s.getF (ENG_DBGSEL.LANE e)) (s.getF (ENG_DBGSEL.INDEX e)) v) s else s

/-- A write in the SYS slot or of engine control. -/
def writeSys (a : Nat) (v : Word) (s : State) : State :=
  match engOfReg a with
  | some e =>
    match a % 0x1000 with
    | 0x0 => writeEngCtrl e v.toNat s
    | 0x104 => writeDbg e v s
    | _ => genWrite a v s
  | none =>
    if a = 0xC then (if bits v.toNat 16 16 = 0x5A5A ∧ bitOf v.toNat 0 then resetTo 3 s else s)
    else genWrite a v s

/-! ### Call Sheet -/

/-- A write of `CS_RESERVE` (R244): in STANDBY, 10 to 50, and the live tasks of every logical engine fit the resulting A. -/
def writeReserve (v : Nat) (s : State) : State :=
  let r := v % 64
  let ok := s.mode = 2 && 10 ≤ r && r ≤ 50 &&
    (List.range 16).all fun le => fits (tasksWith (fun t => t.live && t.logeng = le) s) (admitLimit r s)
  if ok then (s.setF CS_RESERVE.PCT r).setF CS_LIMITS.ADMIT (admitLimit r s) else s

/-- A write of `CS_TCTL` (R246). -/
def writeTctl (v : Nat) (s : State) : State :=
  if bitOf v 0 then onTask (s.getF CS_TSEL.TASK) (fun t => { t with wmin := 0xFFFFF, wmax := 0 }) s else s

/-- A write in the CS slot (R244, R246). -/
def writeCsReg (off : Nat) (v : Word) (s : State) : State :=
  match off with
  | 0x0 => condWrite (bits v.toNat 8 4 ≠ 0) 0x30000 v s
  | 0x4 => writeReserve v.toNat s
  | 0x414 => writeTctl v.toNat s
  | _ => genWrite (0x30000 + off) v s

/-! ### CLK, PTP and Clapper, SP, NET, DL -/

/-- A write in the CLK slot (R525, R526). -/
def writeClk (off : Nat) (v : Word) (s : State) : State :=
  if off = 0 ∨ off = 0x10 ∨ off = 0x14 ∨ off = 0x18 ∨ off = 0x1C ∨ off = 0x20 ∨ off = 0x48
      ∨ (0x100 ≤ off ∧ off < 0x1C0 ∧ off % 0x10 = 0) then writeClkReg off v.toNat s
  else genWrite (0x10000 + off) v s

/-- A write in the PTP slot (R569, R570): the registers of a trigger are written while its EN is 0 (R556). -/
def writePtp (off : Nat) (v : Word) (s : State) : State :=
  if 0x400 ≤ off ∧ off < 0x800 then
    let i := (off - 0x400) / 0x20
    if off % 0x20 = 0 then writeTcfg i v.toNat s
    else condWrite (!s.flag (CLP_TCFG.EN i)) (0x20000 + off) v s
  else if 0x800 ≤ off ∧ off < 0xA00 ∧ off % 0x20 = 0 then writeCcfg ((off - 0x800) / 0x20) v.toNat s
  else if off = 0 ∨ off = 4 ∨ off = 0x14 ∨ off = 0x18 ∨ off = 0x2C ∨ off = 0x30 then writePtpReg off v.toNat s
  else genWrite (0x20000 + off) v s

/-- A write in the SP slot (R386 to R390). -/
def writeSp (off : Nat) (v : Word) (s : State) : State :=
  if off < 0x4000 then writeSpReg (off / 0x100) (off % 0x100) v.toNat s
  else if off < 0x4200 then
    let g := (off - 0x4000) / 0x20
    match off % 0x20 with
    | 0x0 => groupCands g (writeCg g v.toNat s)
    | 0x4 => if bitOf v.toNat 30 then clearRatechg g s else s
    | 0xC =>
      let x := v.toNat % 65536
      if x < 1 ∨ 10000 < x then s else s.setF (CG_RATETOL.PPM g) x
    | _ => s
  else s

/-- A write in the NET slot (R442 to R447). The descriptors that an advance of a transmit tail hands over stand in host memory,
which no operand of a register write gives: they are free words (log entry 20). -/
def writeNet (off : Nat) (v : Word) (s : State) : State :=
  if 0x2200 ≤ off ∧ off < 0x2300 ∧ off % 0x20 = 0x10 then
    let r := off % 0x200 / 0x20
    let u := s.nring true r
    let x := v.toNat % 4096
    let n := if u.len ≤ x then 0 else (x + u.len - s.getF (NET_TXTAIL.PTR r)) % u.len
    let (ws, s) := freshN Config.hostWord (4 * n) s
    writeTxTail r x ((List.range n).map fun k => (ws.drop (4 * k)).take 4) s
  else if (off < 0x1400 ∧ (off % 0x400 = 0 ∨ off % 0x400 = 0x28)) ∨ off = 0x3000 ∨ off = 0x3008 ∨ off = 0x3010 ∨ off = 0x3014
      ∨ (0x2000 ≤ off ∧ off < 0x2300) then ptpSync (writeNetReg off v.toNat s)
  else ptpSync (genWrite (0x60000 + off) v s)

/-- A write in the DL slot (R477). -/
def writeDl (off : Nat) (v : Word) (s : State) : State :=
  if off = 0x460 ∨ (0x100 ≤ off ∧ off < 0x300 ∧ off % 0x10 = 4) then genWrite (0x70000 + off) v s
  else writeDlReg off v.toNat s

/-! ### FAB and MEM (R588, R594, R612) -/

/-- A MEM_CFG message (R612). -/
def memCfg (s : State) : State := raiseOpen 0x52 s

/-- A write of `DDR_CFG` (R594): in BOOT and STANDBY while EN is 0. -/
def writeDdrCfg (v : Word) (s : State) : State :=
  let n := v.toNat
  let size := bits n 28 3
  let ok := (s.mode = 1 || s.mode = 2) && !s.flag DDR_CFG.EN && size ≤ 4 && bits n 24 2 ≠ 3 && !(bitOf n 31 && size = 0)
  if !ok then memCfg s
  else
    let s := genWrite 0x80200 v s
    if bitOf n 31 then s.onFab fun u => { u with training := true } else s

/-- A write in the MEM slot. -/
def writeMem (off : Nat) (v : Word) (s : State) : State :=
  let n := v.toNat
  match off with
  | 0x0 =>
    let same := bits n 30 2 = bits (s.reg 0x80000).toNat 30 2
    if bits n 0 12 < 64 ∨ (s.mode ≠ 2 ∧ !same) then memCfg s else genWrite 0x80000 v s
  | 0x200 => writeDdrCfg v s
  | 0x300 => if bits n 0 18 = 0 ∨ 152587 < bits n 0 18 then memCfg s else wearCheck (genWrite 0x80300 v s)
  | 0x500 => if bits n 30 2 = 3 then memCfg s else genWrite 0x80500 v s
  | _ => genWrite (0x80000 + off) v s

/-! ### FLT, LOG and PCN -/

/-- A write in the FLT slot (R662, R668, R669, R675). -/
def writeFlt (off : Nat) (v : Word) (s : State) : State :=
  if off = 0x40 then (if bitOf v.toNat 31 then firstClear s else s)
  else if off = 0x54 then inject (bits v.toNat 16 8) (bits v.toNat 8 4) s
  else if 0x400 ≤ off ∧ off < 0x800 then
    let c := (off - 0x400) / 4
    condWrite ((sevDefault c).isSome && !srcFixed c) (0x90000 + off) v s
  else genWrite (0x90000 + off) v s

/-- A write in the LOG slot (R680, R690). -/
def writeLog (off : Nat) (v : Word) (s : State) : State :=
  if 0x100 ≤ off ∧ off < 0x500 then
    let depth := bits v.toNat 16 8
    if depth = 0 ∨ v.toNat % 65536 = 0 then s
    else tokenRestart ((off - 0x100) / 4) (tokenDepth ((off - 0x100) / 4) depth (genWrite (0xA0000 + off) v s))
  else genWrite (0xA0000 + off) v s

/-- Engine events that R691 lists. -/
def evtEng (x : Nat) : Bool := x ≤ 0x15

/-- Global events that R691 lists. -/
def evtGlb (x : Nat) : Bool :=
  x ≤ 7 || (0x10 ≤ x && x ≤ 0x19) || (0x20 ≤ x && x ≤ 0x2B) || (0x30 ≤ x && x ≤ 0x35) || (0x38 ≤ x && x ≤ 0x44)

/-- A write in the PCN slot (R691 to R697, R701). -/
def writePcn (off : Nat) (v : Word) (s : State) : State :=
  let n := v.toNat
  let a := 0xB0000 + off
  if off = 0 then
    let s := if bitOf n 28 then snapshot s else s
    genWrite a v s
  else if off = 0x10 then condWrite (1 ≤ bits n 24 5 && bits n 24 5 ≤ 24) a v s
  else if off = 0x14 then
    let x := n % 2 ^ 24
    if x = 0 then s else (genWrite a v s).onPcn fun u => { u with lfsr := x }
  else if 0x1000 ≤ off ∧ off < 0x2200 ∧ 0x20 ≤ off % 0x100 ∧ off % 0x100 < 0x40 then
    condWrite (evtEng (bits n 0 7) && !(bitOf n 31 && off % 0x100 = 0x20)) a v s
  else if 0x4100 ≤ off ∧ off < 0x4180 then condWrite (evtGlb (bits n 0 7) && !(bitOf n 31 && off = 0x4100)) a v s
  else genWrite a v s

/-! ### CMD (R618 to R623, R655) -/

/-- The rings start: bases and lengths are read (R655). -/
def startRings (s : State) : State :=
  let s := s.onCmd fun u => { u with rings := (List.range 3).map fun k =>
    ⟨s.getF (CMD_RING_BASE_LO.ADDR k) * 64 + s.getF (CMD_RING_BASE_HI.ADDR k) * 2 ^ 32, s.getF (CMD_RING_LEN.LEN k), none⟩ }
  s.setF CMD_RCTRL.LENPEND 0

/-- A write of the length of ring `k` (R622): staged while the rings run, held for their start otherwise. -/
def writeRingLen (k v : Nat) (s : State) : State :=
  let l := v % 8192
  if l < 2 ∨ 4096 < l then s
  else
    let s := s.setF (CMD_RING_LEN.LEN k) l
    if s.flag CMD_CTRL.RINGS_EN then
      (s.onCmd fun u => { u with rings := putNth ⟨0, 256, none⟩ u.rings k { (u.rings.getD k ⟨0, 256, none⟩) with staged := some l } }).orF
        CMD_RCTRL.LENPEND (2 ^ k)
    else s

/-- A write of the host-owned pointer of ring `k`; a command ring whose tail wraps applies its staged length (R622). -/
def writeHostPtr (k v : Nat) (s : State) : State :=
  let x := v % 4096
  let len := if s.flag CMD_CTRL.RINGS_EN then (s.ring k).len else s.getF (CMD_RING_LEN.LEN k)
  if len ≤ x then s
  else
    let old := s.getF (CMD_RING_HOSTPTR.PTR k)
    let s := s.setF (CMD_RING_HOSTPTR.PTR k) x
    if k = 0 ∧ x < old then applyRingLen 0 (CMD_RING_DEVPTR.PTR 0) s else s

/-- A vector whose source is no longer set does not pend (R653; log entry 194). -/
def msixSettle (s : State) : State := s.onCmd fun u => { u with msixPend := u.msixPend &&& s.istat }

/-- A write in the CMD slot. -/
def writeCmd (off : Nat) (v : Word) (s : State) : State :=
  let n := v.toNat
  if 0x10 ≤ off ∧ off < 0x70 then
    let k := (off - 0x10) / 0x20
    match (off - 0x10) % 0x20 with
    | 0x0 => condWrite (!s.flag CMD_CTRL.RINGS_EN) (0xD0000 + off) v s
    | 0x4 => genWrite (0xD0000 + off) v s
    | 0x8 => writeRingLen k n s
    | 0x10 => writeHostPtr k n s
    | _ => s
  else match off with
    | 0x0 =>
      let was := s.flag CMD_CTRL.RINGS_EN
      let s := genWrite 0xD0000 v s
      if !was ∧ s.flag CMD_CTRL.RINGS_EN then startRings s else s
    | 0x84 => condWrite (1024 ≤ n % 65536) 0xD0084 v s
    | 0x90 => msixSettle (s.setReg 0xD0090 (s.reg 0xD0090 &&& ~~~(v &&& 0xFF0000FF)))
    | _ => msixSettle (genWrite (0xD0000 + off) v s)

/-! ### PIN (R784 to R791, R803) -/

/-- The ball of GPIO `n` takes the level the host drives on it, where the host holds it. -/
def driveGpio (n : Nat) (s : State) : State :=
  if bitOf (s.getF PIN_GPIO_EN.CLAIM) n then
    (if bitOf (s.getF PIN_GPIO_OE.OE) n then s.out (.pin (ballName (gpioBall n)) (bitOf (s.getF PIN_GPIO_OUT.OUT) n))
     else s.out (.act "PIN_HIZ" [gpioBall n]))
  else s

/-- Bit `n` of `PIN_GPIO_EN` written (R791). -/
def writeGpioEn (n : Nat) (en : Bool) (s : State) : State :=
  let held := bitOf (s.getF PIN_GPIO_EN.CLAIM) n
  if en ∧ !held then
    let (st, s) := claimPin (gpioBall n) ⟨0, 0⟩ s
    if st = 0 then driveGpio n (s.orF PIN_GPIO_EN.CLAIM (2 ^ n)) else s
  else if !en ∧ held then
    ((releasePin (gpioBall n) s).setF PIN_GPIO_EN.CLAIM (s.getF PIN_GPIO_EN.CLAIM - 2 ^ n)).out (.act "PIN_HIZ" [gpioBall n])
  else s

/-- A write in the PIN slot. -/
def writePin (off : Nat) (v : Word) (s : State) : State :=
  match off with
  | 0x8 => condWrite (!s.flag (NET_PCFG.ENABLE 4)) 0xE0008 v s
  | 0x10 => (List.range 32).foldl (fun s n => writeGpioEn n (bitOf v.toNat n) s) s
  | 0x14 =>
    let old := s.getF PIN_GPIO_OE.OE
    let s := genWrite 0xE0014 v s
    (List.range 32).foldl (fun s n => if bitOf old n = bitOf v.toNat n then s else driveGpio n s) s
  | 0x18 =>
    let old := s.getF PIN_GPIO_OUT.OUT
    let s := genWrite 0xE0018 v s
    (List.range 32).foldl (fun s n =>
      if bitOf old n ≠ bitOf v.toNat n ∧ bitOf (s.getF PIN_GPIO_OE.OE) n then driveGpio n s else s) s
  | 0x20 => condWrite (v.toNat % 128 ≤ 115) 0xE0020 v s
  | _ => genWrite (0xE0000 + off) v s

/-! ### The control region -/

/-- A 32-bit write of the register at `a` (R9, R43, R757). -/
def writeReg (a : Nat) (v : Word) (s : State) : State :=
  if !s.hostOpen then s
  else if (regRow a).isNone then s
  else
    let off := a % 0x10000
    match a / 0x10000 with
    | 0 => writeSys a v s
    | 1 => writeClk off v s
    | 2 => writePtp off v s
    | 3 => writeCsReg off v s
    | 5 => writeSp off v s
    | 6 => writeNet off v s
    | 7 => writeDl off v s
    | 8 => writeMem off v s
    | 9 => writeFlt off v s
    | 10 => writeLog off v s
    | 11 => writePcn off v s
    | 12 => if off = 0 then condWrite (5 ≤ v.toNat % 256 && v.toNat % 256 ≤ 200) a v s else genWrite a v s
    | 13 => writeCmd off v s
    | 14 => writePin off v s
    | 15 => writeSys a v s
    | _ => genWrite a v s

/-! ### The other regions -/

/-- A host write of bytes in the slate view (R45, R109): held while SLATE_READY is 0, otherwise it lands and sets
SLATE_DIRTY. -/
def writeSlate (e off : Nat) (l : List Byte) (s : State) : State :=
  let u := s.engine e
  if !s.flag (ENG_STAT.SLATE_READY e) ∨ !u.held.isEmpty then
    onEngine e (fun u => { u with held := u.held ++ l.zipIdx.map fun x => (off + x.2, x.1) }) s
  else (writeBytes (engWin e + viewOff e off s) l s).setF (ENG_STAT.SLATE_DIRTY e) 1

/-- A host write of bytes in the window of engine `e` (R44 to R46, R142, R144, R145). -/
def writeEng (e off a : Nat) (l : List Byte) (s : State) : State :=
  if engClosed e s ∨ engGap off ∨ (0x90000 ≤ off ∧ off < 0xA0000) then decodeFault a s
  else
    let s := countWin e s
    if 0x80000 ≤ off ∧ off < 0x90000 then writeSlate e off l s
    else writeBytes a l s

/-- A host write of bytes within one word at `a` (R8, R39 to R41). -/
def hostWriteWord (a : Nat) (l : List Byte) (s : State) : State :=
  if !s.hostOpen then s
  else match regionOf a s with
    | .control => if a % 4 = 0 ∧ l.length = 4 then writeReg a (wd (l.foldr (fun b n => b.toNat + 256 * n) 0)) s else s
    | .engine e off => writeEng e off a l s
    | .packet => writeBytes a l s
    | .swap => writeBytes a l s
    | .ddr => if s.flag DDR_STAT.READY ∧ !inLineRange a s then writeBytes a l s else decodeFault a s
    | _ => decodeFault a s

/-- Bytes from `a` upward, word by word, each part of a word given to `f`. -/
def eachWord (f : Nat → List Byte → State → State) : Nat → Nat → List Byte → State → State
  | 0, _, _, s => s
  | fuel + 1, a, l, s =>
    if l.isEmpty then s
    else
      let n := 4 - a % 4
      eachWord f fuel (a + n) (l.drop n) (f a (l.take n) s)

/-- A write of bytes from `a` upward, word by word. -/
def hostWriteBytes (a : Nat) (l : List Byte) (s : State) : State := eachWord hostWriteWord l.length a l s

/-- A write of the host itself, of bytes within one word, through the crossbar (R109, R587): one to a slate view whose engine has
SLATE_READY 0 is held, and those to engine windows behind it wait. -/
def postWord (a : Nat) (l : List Byte) (s : State) : State :=
  match regionOf a s with
  | .engine e off =>
    let slate := decide (0x80000 ≤ off) && decide (off < 0x90000) && !engClosed e s && !s.flag (ENG_STAT.SLATE_READY e)
    if s.hostOpen && (slate || !s.fab.t1q.isEmpty) then s.onFab fun u => { u with t1q := u.t1q ++ [⟨a, l, 0, none⟩] }
    else hostWriteWord a l s
  | _ => hostWriteWord a l s

/-- A write of the host itself, of bytes from `a` upward. -/
def postBytes (a : Nat) (l : List Byte) (s : State) : State := eachWord postWord l.length a l s

/-- Engine in whose window the device address `a` lies. -/
def engOfWin (a : Nat) (s : State) : Option Nat :=
  match regionOf a s with
  | .engine e _ => some e
  | _ => none

/-- Engine whose slate view a waiting write of the host would land in while its page copy runs (R109). -/
def slateWaits (x : HostT1) (s : State) : Option Nat :=
  match regionOf x.a s with
  | .engine e off =>
    if 0x80000 ≤ off ∧ off < 0x90000 ∧ !x.l.isEmpty ∧ !s.flag (ENG_STAT.SLATE_READY e) ∧ !engClosed e s then some e else none
  | _ => none

/-- The accesses `l` of the host to engine windows proceed in order, up to a slate write that is held still (R109, R587). -/
def drainT1 : List HostT1 → State → State
  | [], s => s.onFab fun u => { u with t1q := [] }
  | x :: r, s =>
    if (slateWaits x s).isSome then s.onFab fun u => { u with t1q := x :: r }
    else if x.l.isEmpty then
      let v := hostReadN x.a x.n x.bad s
      drainT1 r (v.2.out (.readData [v.1]))
    else drainT1 r (hostWriteWord x.a x.l s)

/-- A host write of a word. -/
def hostWrite (a : Nat) (v : Word) (s : State) : State := hostWriteWord a (leBytes v.toNat 4) s

/-- A host write of words from `a` upward. -/
def hostWrites (a : Nat) : List Word → State → State
  | [], s => s
  | w :: t, s => hostWrites (a + 4) t (hostWrite a w s)

/-! ### Rows 73 to 118 of the opcode table -/

/-- A write of the host in BAR4 (R616): bytes of the MSI-X table; a vector that pends and is no longer masked is sent (R653). -/
def writeBar4 (a : Nat) (l : List Byte) (s : State) : State :=
  let s := l.zipIdx.foldl (fun s x =>
    let off := a + x.2
    if off < 0x200 then s.onCmd fun u => { u with msix := setNth u.msix (off / 4) (wd
      ((nAt u.msix (off / 4)) - bits (nAt u.msix (off / 4)) (8 * (off % 4)) 8 * 2 ^ (8 * (off % 4)) + x.1.toNat * 2 ^ (8 * (off % 4)))) }
    else s) s
  (List.range 32).foldl (fun s n =>
    if bitOf s.cmd.msixPend n ∧ !s.msixMasked n then (s.onCmd fun u => { u with msixPend := u.msixPend - 2 ^ n }).out (.msix n) else s) s

/-- HOST_MEMORY_WRITE (R39 to R41, R616): a write of bytes outside the control region, at a device address, at an offset of BAR2, or in
BAR4. -/
def execHostMemoryWrite (bar : HostBar) (a : Nat) (l : List Byte) (s : State) : Host.Outcome State Fault Refusal :=
  let put := fun d => if 0x100000 ≤ d ∧ d < 2 ^ 40 then postBytes d l s else s
  finish (match bar with
    | .bar0 => put a
    | .bar2 => put (barAddr (a % 0x10000000) s)
    | .bar4 => writeBar4 a l s
    | .config => s)

/-- PROGRAM_MEMORY_WRITE (R142, R145): bytes from offset `off` of engine `e`'s program memory. -/
def execProgramMemoryWrite (e off : Nat) (l : List Byte) (s : State) : Host.Outcome State Fault Refusal :=
  finish (if e < 18 ∧ off + l.length ≤ 0x20000 then postBytes (engWin e + off) l s else s)

/-- LANE_SLICE_WRITE (R144): bytes of engine `e`'s X lane slices, from offset `off` of 0x4_0000, or of its Y lane slices, from
offset `off` of 0xA_0000. -/
def execLaneSliceWrite (e : Nat) (isY : Bool) (off : Nat) (l : List Byte) (s : State) : Host.Outcome State Fault Refusal :=
  finish (if e < 18 ∧ off + l.length ≤ (if isY then 0x20000 else 0x40000) then
    postBytes (engWin e + (if isY then 0xA0000 else 0x40000) + off) l s else s)

/-- SLATE_VIEW_WRITE (R45, R109): bytes from offset `off` of engine `e`'s slate view. -/
def execSlateViewWrite (e off : Nat) (l : List Byte) (s : State) : Host.Outcome State Fault Refusal :=
  finish (if e < 18 ∧ off + l.length ≤ 0x10000 then postBytes (engWin e + 0x80000 + off) l s else s)

/-- The writes held during the page copy of engine `e` land (R109): those of the Gaffer core, and the host's with what waits behind
them (R587). -/
def landHeld (e : Nat) (s : State) : State :=
  let u := s.engine e
  if !s.flag (ENG_STAT.SLATE_READY e) then s
  else
    let s := if u.held.isEmpty then s else
      let s := onEngine e (fun u => { u with held := [] }) s
      (u.held.foldl (fun s x => s.setByte (engWin e + viewOff e x.1 s) x.2) s).setF (ENG_STAT.SLATE_DIRTY e) 1
    let mine := match s.fab.t1q.head? with
      | some x => decide (engOfWin x.a s = some e)
      | none => false
    if mine then (List.range 10).foldl (fun s t => grant t s) (drainT1 s.fab.t1q s) else s

/-- HELD_SLATE_WRITE_LAND (R109). -/
def execHeldSlateWriteLand (e : Nat) (s : State) : Host.Outcome State Fault Refusal :=
  finish (if e < 18 then landHeld e s else s)

/-- FIRST_FAULT_CLEAR (R668): a write of 1 to `FLT_FIRST.VALID`. -/
def execFirstFaultClear (s : State) : Host.Outcome State Fault Refusal := finish (writeReg 0x90040 0x80000000 s)

/-- FAULT_INJECT (R669): a write of `FLT_INJECT`. -/
def execFaultInject (src kind : Nat) (s : State) : Host.Outcome State Fault Refusal :=
  finish (writeReg 0x90054 (wd (src % 256 * 65536 + kind % 16 * 256)) s)

/-- ENG_STEP (R147): a write of `ENG_CTRL` with STEP 1 that keeps HALT and ACCWRAP. -/
def execEngStep (e : Nat) (s : State) : Host.Outcome State Fault Refusal :=
  finish (if e < 18 then writeReg (engBase e) (wd (0x200 + ((s.reg (engBase e)).toNat &&& 0x101))) s else s)

/-- ENG_HALT (R147): a write of `ENG_CTRL` with HALT at `h` that keeps ACCWRAP. -/
def execEngHalt (e : Nat) (h : Bool) (s : State) : Host.Outcome State Fault Refusal :=
  finish (if e < 18 then writeReg (engBase e) (wd (0x100 * b2n h + (s.reg (engBase e)).toNat % 2)) s else s)

/-- DEBUG_DATA_WRITE (R153): a write of `ENG_DBGDATA`. -/
def execDebugDataWrite (e : Nat) (v : Word) (s : State) : Host.Outcome State Fault Refusal :=
  finish (if e < 18 then writeReg (engBase e + 0x104) v s else s)

/-- WAIT_STATS_CLEAR (R246): a write of `CS_TCTL` with WCLR 1. -/
def execWaitStatsClear (s : State) : Host.Outcome State Fault Refusal := finish (writeReg 0x30414 1 s)

/-- RESERVE_WRITE (R244): a write of `CS_RESERVE` with PCT at `r`. -/
def execReserveWrite (r : Nat) (s : State) : Host.Outcome State Fault Refusal := finish (writeReg 0x30004 (wd (r % 64)) s)

/-- ZSKIP_WRITE (R285): a write of `SPL_CTRL`. -/
def execZskipWrite (on : Bool) (s : State) : Host.Outcome State Fault Refusal := finish (writeReg 0x40000 (wd (b2n on)) s)

/-- SNAP (R695): a write of `PCN_CTRL` with SNAP 1 that keeps its other bits. -/
def execSnap (s : State) : Host.Outcome State Fault Refusal :=
  finish (writeReg 0xB0000 ((s.reg 0xB0000 &&& 0xE0000000) ||| 0x10000000) s)

/-- FREEZE (R694): a write of `PCN_CTRL` with FREEZE at `on` that keeps its other bits. -/
def execFreeze (on : Bool) (s : State) : Host.Outcome State Fault Refusal :=
  finish (writeReg 0xB0000 ((s.reg 0xB0000 &&& 0x60000000) ||| (if on then 0x80000000 else 0)) s)

/-- TAG_SEED_WRITE (R697): a write of `PCN_TSEED`. -/
def execTagSeedWrite (v : Word) (s : State) : Host.Outcome State Fault Refusal := finish (writeReg 0xB0014 v s)

/-- COUNTER_WRITE (R696): a write of counter `j` of engine `e`, or of global counter `j`. -/
def execCounterWrite (glb : Bool) (e j : Nat) (v : Word) (s : State) : Host.Outcome State Fault Refusal :=
  finish (if glb then (if j < 32 then writeReg (0xB4000 + 4 * j) v s else s)
    else if e < 18 ∧ j < 8 then writeReg (0xB1000 + 0x100 * e + 4 * j) v s else s)

/-- SOFT_RESET (R755): a write of `SYS_RSTCTRL`. -/
def execSoftReset (v : Word) (s : State) : Host.Outcome State Fault Refusal := finish (writeReg 0xC v s)

/-- SP_RING_LEN_WRITE (R383): a write of `SP_CAP_CFG` or `SP_PLY_CFG` of port `p`. -/
def execSpRingLenWrite (p : Nat) (ply : Bool) (v : Word) (s : State) : Host.Outcome State Fault Refusal :=
  finish (if p < 64 then writeReg (0x50000 + 0x100 * p + (if ply then 0xC0 else 0xA0)) v s else s)

/-- CMD_RING_LEN_WRITE (R622): a write of the length of ring `k` (0 command, 1 reply, 2 notify). -/
def execCmdRingLenWrite (k : Nat) (v : Word) (s : State) : Host.Outcome State Fault Refusal :=
  finish (if k < 3 then writeReg (0xD0018 + 0x20 * k) v s else s)

/-- SP_RING_POINTER_WRITE (R384): a write of `SP_CAP_RPTR` or `SP_PLY_WPTR` of port `p`. -/
def execSpRingPointerWrite (p : Nat) (ply : Bool) (v : Word) (s : State) : Host.Outcome State Fault Refusal :=
  finish (if p < 64 then writeReg (0x50000 + 0x100 * p + (if ply then 0xCC else 0xB0)) v s else s)

/-- SP_MASK_WRITE (R352): a write of a slot mask; `late` where it completes 4 BCLK periods or less before a frame start. -/
def execSpMaskWrite (p : Nat) (out late : Bool) (v : Word) (s : State) : Host.Outcome State Fault Refusal :=
  finish (if s.hostOpen ∧ p < 64 then writeMask p out late v.toNat s else s)

/-- A write of `SP_CTRL` of port `p` with one bit at `en` that keeps its other bits. -/
def spCtrlBit (p bit : Nat) (en : Bool) (s : State) : State :=
  let a := 0x50004 + 0x100 * p
  let x := (s.reg a).toNat
  let w := x - (if bitOf x bit then 2 ^ bit else 0) + (if en then 2 ^ bit else 0)
  if p < 64 then writeReg a (wd w) s else s

/-- SP_IN_EN_WRITE (R389). -/
def execSpInEnWrite (p : Nat) (en : Bool) (s : State) : Host.Outcome State Fault Refusal := finish (spCtrlBit p 31 en s)

/-- SP_OUT_EN_WRITE (R389). -/
def execSpOutEnWrite (p : Nat) (en : Bool) (s : State) : Host.Outcome State Fault Refusal := finish (spCtrlBit p 30 en s)

/-- SP_CAP_EN_WRITE (R380). -/
def execSpCapEnWrite (p : Nat) (en : Bool) (s : State) : Host.Outcome State Fault Refusal := finish (spCtrlBit p 29 en s)

/-- SP_PLY_EN_WRITE (R381). -/
def execSpPlyEnWrite (p : Nat) (en : Bool) (s : State) : Host.Outcome State Fault Refusal := finish (spCtrlBit p 28 en s)

/-- CG_CFG_WRITE (R386): a write of `CG_CFG` of group `g`. -/
def execCgCfgWrite (g : Nat) (v : Word) (s : State) : Host.Outcome State Fault Refusal :=
  finish (if g < 16 then writeReg (0x54000 + 0x20 * g) v s else s)

/-- TRIGGER_EN_WRITE (R556): a write of `CLP_TCFG` of trigger `i`. -/
def execTriggerEnWrite (i : Nat) (v : Word) (s : State) : Host.Outcome State Fault Refusal :=
  finish (if i < 32 then writeReg (0x20400 + 0x20 * i) v s else s)

/-- CAPTURE_EN_WRITE (R565): a write of `CLP_CCFG` of capture `c`. -/
def execCaptureEnWrite (c : Nat) (v : Word) (s : State) : Host.Outcome State Fault Refusal :=
  finish (if c < 16 then writeReg (0x20800 + 0x20 * c) v s else s)

/-- GPIO_CLAIM_WRITE (R791): a write of `PIN_GPIO_EN`. -/
def execGpioClaimWrite (v : Word) (s : State) : Host.Outcome State Fault Refusal := finish (writeReg 0xE0010 v s)

/-- DDR_EN_WRITE (R594): a write of `DDR_CFG`; the Gaffer core makes it in BOOT. -/
def execDdrEnWrite (v : Word) (s : State) : Host.Outcome State Fault Refusal :=
  finish (if s.mode = 1 then writeDdrCfg v s else writeReg 0x80200 v s)

/-- RINGS_EN_WRITE (R655): a write of `CMD_CTRL` with RINGS_EN at `en` that keeps its other bits. -/
def execRingsEnWrite (en : Bool) (s : State) : Host.Outcome State Fault Refusal :=
  finish (writeReg 0xD0000 (wd (((s.reg 0xD0000).toNat &&& 6) + b2n en)) s)

/-- LOG_RATE_WRITE (R680): a write of `LOG_RATE` of code `c`. -/
def execLogRateWrite (c : Nat) (v : Word) (s : State) : Host.Outcome State Fault Refusal :=
  finish (if c < 256 then writeReg (0xA0100 + 4 * c) v s else s)

end Sys2Proof.Machine
end

