-- ==== Sys2Proof/Machine/Modes.lean ====
section
/-! DEFINITION. Operating modes, resets, boot and lifetime (chapter 17), with the firmware check of R649, the presence window and
the PCIe link. -/

namespace Sys2Proof.Machine

/-! ### Lifetime records (R767, R768) -/

/-- Offset of the lifetime record with sequence number `q`: slot (q − 1) mod 4,096 (log entry 27). -/
def lifeSlot (q : Nat) : Nat := 0xF80000 + 64 * ((q + 4095) % 4096)

/-- Highest wear counter in units of 65,536. -/
def wearMax (s : State) : Nat := (s.fab.wear.foldl (fun m c => max m c.2) 0) / 65536 % 2 ^ 24

/-- Day and second of day of the UTC date (R767). -/
def utcNow (s : State) : Int × Int :=
  let t : Int := (s.ptp.sec : Int) - sgn 16 (s.getF PTP_UTC.OFFSET)
  (t / 86400, t % 86400)

/-- The lifetime values as a record written now holds them (R767). -/
def lifeNow (s : State) : Life :=
  let l := s.boot.life
  let l := { l with wearMax := wearMax s, seq := (l.seq + 1) % 2 ^ 32 }
  if s.flag PTP_UTC.VALID then
    let d := lowBits 32 (utcNow s).1
    let l := if l.firstDay = 0 then { l with firstDay := d, firstOpsec := l.opsec % 2 ^ 32 } else l
    { l with lastDay := d, lastSod := (utcNow s).2.toNat }
  else l

/-- The sixteen words of a lifetime record (R768). -/
def lifeWords (l : Life) (spares : Nat) : List Word :=
  let body := [0xC2A011FE, l.seq, l.opsec % 2 ^ 32, l.opsec / 2 ^ 32 % 256, l.cycle, l.firstDay, l.firstOpsec, l.lastDay,
    l.lastSod % 2 ^ 17, l.wearMax, spares, 0, 0, 0, 0].map wd
  body ++ [crcWords body]

/-- The next lifetime record is written (R768). -/
def lifeRecord (s : State) : State :=
  let l := lifeNow s
  mramWrite (lifeSlot l.seq) (lifeWords l (s.getF MRAM_STAT.SPARES)) (s.onBoot fun u => { u with life := l })

/-- The lifetime values of the record at offset `off`, where its marker and CRC hold. -/
def lifeAt (off : Nat) (s : State) : Option Life :=
  if s.word (mramBase + off) ≠ wd 0xC2A011FE then none else
  let w := s.wordsAt (mramBase + off) 16
  if crcWords (w.take 15) ≠ wAt w 15 then none else
  some ⟨nAt w 2 + 2 ^ 32 * (nAt w 3 % 256), nAt w 4, nAt w 5, nAt w 6, nAt w 7, nAt w 8 % 2 ^ 17, nAt w 9 % 2 ^ 24, nAt w 1⟩

/-- The current record: the highest SEQ (R768). -/
def lifeScan (s : State) : Option Life :=
  (List.range 4096).foldl (fun best i =>
    match lifeAt (0xF80000 + 64 * i) s with
    | none => best
    | some l => match best with
      | some b => if b.seq < l.seq then some l else some b
      | none => some l) none

/-- LIFETIME_RECORD: 10 s of operation have passed since the last one (R768). -/
def execLifetimeRecord (s : State) : Host.Outcome State Fault Refusal := finish (if s.hostOpen then lifeRecord s else s)

/-! ### Changes of mode (R746 to R754, R760, R761) -/

/-- RUN, RUN_HOLDOVER where `hold`, or DEGRADED while a logical engine is unassigned (R752, R753). -/
def runMode (hold : Bool) (s : State) : Nat :=
  if (List.range 16).any (fun n => (s.physOf n).isNone) then 9 else if hold then 5 else 4

/-- The clock condition of R752, as it stands. -/
def clockCond (s : State) : State :=
  match s.mode with
  | 3 => if clkLocked s then changeMode (runMode false s) s else s
  | 4 => if clkLostCond s then changeMode (runMode true s) s else s
  | 5 => if clkLocked s then changeMode (runMode false s) s else s
  | _ => s

/-- A return to sound from SAFE or MAINTENANCE is held (R754): the role is FENCED, or a sticky source reacts with SAFE or
TAKEOVER. -/
def soundBarred (s : State) : Bool :=
  s.role = 3 || (List.range 256).any fun src => bitOf (s.getF (FLT_STICKY.BITS (src / 32))) (src % 32) && 2 ≤ s.getF (FLT_CFG.REACT src)

/-- Status of a MODE_SET with target `m` in the present mode (R751, R754). -/
def modeSetStatus (m : Nat) (s : State) : Nat :=
  if m = 1 ∨ m = 5 ∨ m = 6 ∨ m = 7 ∨ m = 9 ∨ 12 ≤ m then 3
  else if m = 11 ∧ s.fuse.sealFuse then 9
  else
    let audio := s.mode = 4 || s.mode = 5 || s.mode = 9
    let ok := match m with
      | 0 => true
      | 2 => audio || s.mode = 3 || s.mode = 8 || s.mode = 10
      | 3 => s.mode = 2 && s.flag SYS_CFG.VALID && s.role ≠ 2
      | 4 => s.mode = 3 || ((s.mode = 8 || (s.mode = 10 && s.tick)) && !soundBarred s)
      | 8 => audio || s.mode = 3 || (s.mode = 10 && s.tick)
      | 10 => s.mode = 2 || audio || s.mode = 8
      | _ => s.mode = 2 || s.mode = 10
    if ok then 0 else 5

/-- The chip is a follower of a formed ring. -/
def ringFollower (s : State) : Bool := s.getF RL_STAT.STATE = 2 && !s.flag RL_STAT.MASTER

/-- The shot counter is loaded: a pending take is abandoned (R337). -/
def loadShot (n : Nat) (s : State) : State :=
  let s := ((abandonTake 2 s).onTake fun u => { u with patchOld := [] }).onShot fun _ => n
  -- meter periods and points go by the index that starts afresh
  if s.flag DL_MCTRL.EN then s.onDl fun u =>
    { u with nextK := none, enPend := true, points := u.points.map fun x => (x.1, { x.2 with old := [], rows := [] }) }
  else s

/-- Entry to ACQUIRE: the tick runs; with PTP selected the counter is loaded at once (R22), otherwise with 0 at the first boundary
(R23). The PTP time is taken to whole nanoseconds, without the counter's fraction below 1 ns: DESIGN CHOICE (log entry 164). -/
def enterAcquire (s : State) : State :=
  let s := changeMode 3 (s.setF SYS_MODE.TICK 1)
  if s.csel = 5 then (loadShot ((s.ptp.sec * 1000000000 + s.ptp.ns) * s.fs / 1000000000 / s.n) s).setF CLK_STAT.PTPGRID 1
  else s.onBoot fun u => { u with loadZero := true }

/-- Every task of the live graph waits, and every engine is idle: the work of the last shot ends with the tick. The charge of a due shot
cut short so is shown (R246). -/
def endWork (s : State) : State :=
  let ns := (s.cs.tasks.filter fun c => inLive c.2 || c.2.outgoing).map (·.1)
  let s := ns.foldl (fun s n => onTask n (fun t => { t with
    st := if t.st = 7 then 7 else 2, due := false, used := if t.due then t.charge else t.used }) (withdraw n s)) (s.onCs fun u => { u with armWait := false })
  (List.range 18).foldl (fun s e => if s.engState e = 1 ∨ s.engState e = 0 then vacate e s else s) s

/-- A committed take is applied to the matrix where no pass reaches its take sample (log entry 28). -/
def endSplice (s : State) : State := if s.spl.commitDue then (spliceApply s).setF SPL_STAT.SLATE_READY 1 else s

/-- The stages of a committed take that are still to come are made at once as they would be later (log entry 28). -/
def endStages (s : State) : State :=
  let s := endSplice (busCommit s)
  s.take.cutRecasts.foldl (fun s c =>
    let s := if c.copied then s else
      copyBytes (engWin c.r.target + 0xA0000) (engWin c.r.source + 0xA0000) 0x20000
        (copyBytes (engWin c.r.target + 0x40000) (engWin c.r.source + 0x40000) 0x40000 s)
    swapRecast c s) s

/-- What a take or a dissolve under way still has to do ends at once as it would end later (log entry 28). -/
def endTakes (s : State) : State :=
  let s := endStages s
  match s.take.dissolve with
  | some d => endDissolve d s
  | none => s

/-- Lifetime record and wear counters, as written on entry to STANDBY and to MAINTENANCE (R604, R768). -/
def enterRest (s : State) : State := lifeRecord (storeWear s)

/-- The holds of R313 end with the tick; held commands still wait for their completion of the copies. -/
def enterStandby (s : State) : State :=
  if s.tick then
    let s := stopLanes (stopAllStreams (stopPorts s))
    let s := abandonTake 1 s
    let s := endWork (endTakes s)
    enterRest (changeMode 2 ((s.setF SYS_MODE.TICK 0).onBoot fun u => { u with loadZero := false }))
  else enterRest (changeMode 2 s)

/-- An accepted MODE_SET with target `m` takes effect (R751). -/
def applyModeSet (m : Nat) (s : State) : State :=
  match m with
  | 0 => s.onBoot fun u => { u with softPending := true }
  | 2 => enterStandby s
  | 3 => enterAcquire s
  | 4 => changeMode (runMode (!clkLocked s) s) s
  | 8 => changeMode 8 s
  | 10 => enterRest (changeMode 10 s)
  | 11 => changeMode 11 s
  | _ => s

/-! ### Resets (R755 to R757, R777, R800) -/

/-- POR: a rail leaves its window (R755, R777). -/
def execPor (s : State) : Host.Outcome State Fault Refusal := finish (resetTo 0 s)

/-- RESET_N_ASSERT: RESET_N has been low for 1 µs (R755). -/
def execResetNAssert (s : State) : Host.Outcome State Fault Refusal := finish (resetTo 1 s)

/-- CLKLOSS: REFCLK is absent or the root PLL unlocked (R484). -/
def execClkloss (s : State) : Host.Outcome State Fault Refusal := finish (resetTo 2 s)

/-- THERMAL_TRIP: the die reaches 120 °C: THERM_N goes low, and the device stays in RESET until the release (R800). -/
def execThermalTrip (s : State) : Host.Outcome State Fault Refusal :=
  finish <|
    let s := resetTo 4 s
    let s := (s.onBoot fun u => { u with thermalHold := true }).onPin fun u => { u with thermLow := true }
    s.out (.pin "THERM_N" false)

/-- THERMAL_RELEASE: the die has fallen below 110 °C (R800). -/
def execThermalRelease (s : State) : Host.Outcome State Fault Refusal :=
  finish <|
    if s.boot.thermalHold then
      let s := (s.onBoot fun u => { u with thermalHold := false }).onPin fun u => { u with thermLow := false }
      s.out (.pin "THERM_N" true)
    else s

/-- Role at the release of reset by the strap (R702). -/
def strapRole (strap : Nat) : Nat := if strap = 1 then 1 else if strap = 2 then 2 else 0

/-- Release of reset (R758 stage 1, R784): BOOT begins, the straps and fuses are read, the thermal warning stands at its grade's
default (R799), and after a POR the banks' supplies are detected. -/
def resetRelease (chip strap banks : Nat) (s : State) : State :=
  if s.mode ≠ 0 ∨ s.boot.thermalHold then s else
  let s := s.setF SYS_ID.CHIP_ID chip
  let s := s.setF SYS_ID.GRADE s.fuse.grade
  let s := s.setF PIN_THERM.WARN (if s.fuse.grade = 1 then 100 else 90)
  let s := (s.setF STI_STAT.STRAP strap).setF STI_STAT.ROLE (strapRole strap)
  let s := if s.boot.porBoot then s.setReg 0xE0000 (wd (banks % 2 ^ 14)) else s
  let s := s.setF SYS_BOOT.STAGE 1
  changeMode 1 (s.onBoot fun u => { u with relAt := s.time })

/-- RESET_RELEASE: reset is released with the straps and bank supplies as given (R758, R784). -/
def execResetRelease (chip strap banks : Nat) (s : State) : Host.Outcome State Fault Refusal :=
  finish (resetRelease chip strap banks s)

/-! ### Firmware images (R648, R649) -/

/-- Device address of patch bank A (false) or B (true). -/
def bankBase (b : Bool) : Nat := mramBase + (if b then 0xEC0000 else 0xE00000)

/-- The OTP slots hold the hash, unrevoked (R647, R649): hash words are little-endian (log entry 29). -/
def keyKnown (hash : List Byte) (s : State) : Bool :=
  let ws := (List.range 12).map fun i => BitVec.ofNat 32 (((hash.drop (4 * i)).take 4).foldr (fun b a => a * 256 + b.toNat) 0)
  s.fuse.keys.any fun k => k.written && !k.revoked && k.hash = ws

/-- The little-endian word at byte `o` of an image. -/
def imgWord (l : List Byte) (o : Nat) : Nat := ((l.drop o).take 4).foldr (fun b n => b.toNat + 256 * n) 0

/-- The header fields of an image hold what R648 asks for, its silicon step apart. -/
def headOk (l : List Byte) : Bool :=
  imgWord l 0 = 0xC2A02048 && imgWord l 4 = 1 && imgWord l 12 ≤ 786176 && ((l.drop 0xD8).take 40).all (· = 0)

/-- The header names the device's silicon step (R648, R759). -/
def stepOk (l : List Byte) : Bool := imgWord l 16 = 0xB0

/-- The key of an image is known and its signature verifies (R649): `l` is its header and body. -/
def signedOk (l : List Byte) (s : State) : Bool :=
  let h := l.take 256
  let key := (h.drop 0x18).take 96
  let body := (l.drop 256).take (imgWord l 12)
  let z := beAt (sha384 (h.take 0x78 ++ List.replicate 96 (0 : Byte) ++ h.drop 0xD8 ++ body)) 0 48
  body.length = imgWord l 12 && keyKnown (sha384 key) s && ecdsaOk z (beAt key 0 48) (beAt key 48 48) (beAt h 0x78 48) (beAt h 0xA8 48)

/-- Bytes of device memory. -/
def State.bytesAt (s : State) (a n : Nat) : List Byte := (List.range n).map fun i => s.byte (a + i)

/-- A patch bank holds a valid image (R649). -/
def bankValid (b : Bool) (s : State) : Bool :=
  let a := bankBase b
  let h := s.bytesAt a 256
  headOk h && stepOk h && signedOk (h ++ s.bytesAt (a + 256) (imgWord h 12)) s

/-- SEQ and firmware version of a patch bank. -/
def bankSeq (b : Bool) (s : State) : Nat := (s.word (bankBase b + 8)).toNat
/-- Firmware version of a patch bank. -/
def bankVer (b : Bool) (s : State) : Nat := (s.word (bankBase b + 20)).toNat

/-! ### Boot (R758, R759, R762) -/

/-- The words of a copy of the repair table, where its CRC holds (R608): sequence number and entries. -/
def repairAt (b : Bool) (s : State) : Option (Nat × List (List Word)) :=
  let a := mramBase + repCopy b
  let n := (s.word (a + 4)).toNat
  if 4092 < n then none else
  let es := (List.range n).map fun i => s.wordsAt (a + 64 + 16 * i) 4
  let head := s.wordsAt a 15
  if head.all (· = 0) ∧ s.word (a + 60) = 0 then none
  else if s.word (a + 60) = crcWords (head ++ es.flatten) then some (nAt head 0, es) else none

/-- The valid copy with the higher sequence number is used (R608); with none, copy A is the next to be written. -/
def loadRepair (s : State) : State :=
  let use := fun (b : Bool) (x : Nat × List (List Word)) (s : State) =>
    ((s.onFab fun u => { u with repair := x.2, repSeq := x.1 }).setF REP_STAT.COPY (b2n b)).setF REP_STAT.ENTRIES (min x.2.length 4095)
  match repairAt false s, repairAt true s with
  | some x, some y => if x.1 < y.1 then use true y s else use false x s
  | some x, none => use false x s
  | none, some y => use true y s
  | none, none => use true (0, []) s

/-- Some copy of the repair table is valid. -/
def repairValid (s : State) : Bool := (repairAt false s).isSome || (repairAt true s).isSome

/-- Boot stops with cause `f` (R759). -/
def bootFail (f : Nat) (s : State) : State := s.setF SYS_BOOT.FAIL f

/-- The lifetime values of the current record, as stage 3 finds them. -/
def loadLife (s : State) : State :=
  let l := (lifeScan s).getD Life.reset
  s.onBoot fun u => { u with life := l }

/-- The engine that an SRAM instance is a memory of; none for one outside the engines. Memory `m` (1 to 4, as `ENG_BIST.FAILMEM` codes
them) of engine `e` is instance 8e + m: DESIGN CHOICE (log entry 195). -/
def instEngine (inst : Nat) : Option Nat := if inst / 8 < 18 then some (inst / 8) else none

/-- A row that fails BIST takes a spare row and an entry of SOURCE 1; answers whether its instance had one (R609). -/
def bistRow (r : SramRow) (s : State) : Bool × State :=
  let inst := r.inst % 1024
  let k := sparesUsed inst s
  if k < 2 then (true, addRepair (repEntry 1 1 inst (r.row % 65536) k s) s) else (false, s)

/-- An instance outside the engines needs more spare rows than its 2 (R610). -/
def sparesOut (inst : Nat) (s : State) : State := bootFail 2 (raise 0x53 0 inst s)

/-- Instances named by the fuse repairs and the repair table, each once. -/
def repairedInsts (s : State) : List Nat :=
  ((s.fuse.repairs.map (·.inst)) ++ ((s.fab.repair.filter fun e => repKind e = 1).map repInst)).eraseDups

/-- Stage 2: SRAM repair and BIST outside the engines (R609, R610). -/
def bootSram (x : BootStage) (s : State) : State :=
  if !x.mram then s else
  let s := loadLife (loadRepair s)
  if !repairValid s ∧ 1 < s.boot.life.cycle then s else
  let s := (repairedInsts s).foldl (fun s i => if (instEngine i).isNone ∧ 2 < sparesUsed i s then sparesOut i s else s) s
  x.rows.foldl (fun s r =>
    let (ok, s) := bistRow (errRow r) s
    if ok then s else sparesOut (r.inst % 1024) s) s

/-- The wear counters start from their stored values plus 65,536 (R604), a replacement that a power loss cut short starts again, and a
row at the limit is replaced (R605, R606). -/
def loadWear (s : State) : State :=
  let s := s.onFab fun u => { u with wear := (List.range 4096).map fun r => (r, (smGet 0 u.wearStored r + 65536) % 2 ^ 40) }
  wearCheck (if s.fab.replacing.isEmpty then s else s.setF MRAM_STAT.BUSY 1)

/-- Stage 3: the eMRAM (R604, R608, R685, R759, R768). -/
def bootMram (x : BootStage) (s : State) : State :=
  if !x.mram then bootFail 3 s else
  let s := loadLife (loadRepair s)
  let valid := repairValid s
  if !valid ∧ 1 < s.boot.life.cycle then bootFail 3 s else
  let s := if valid then s else writeRepair [] s
  let spares := s.fab.repair.filter fun e => repKind e = 2
  let s := s.onFab fun u => { u with spareOf := spares.map fun e => (nAt e 0 % 65536, nAt e 1 % 65536) }
  let s := s.setF MRAM_STAT.SPARES (82 - min 82 spares.length)
  let s := loadWear s
  let s := s.onBoot fun u => { u with life := { u.life with cycle := (u.life.cycle + b2n u.porBoot) % 2 ^ 32 }, porBoot := false }
  logScan (lifeRecord s)

/-- Stage 4: the valid patch bank with the higher SEQ, else the QSPI boot image (R649, R759). -/
def bootImage (x : BootStage) (s : State) : State :=
  let run := fun (img ver seq : Nat) (s : State) =>
    (s.setF SYS_BOOT.IMG img).onBoot fun u => { u with fwVer := ver, fwSeq := seq }
  let a := bankValid false s
  let b := bankValid true s
  if a ∧ (!b ∨ bankSeq true s ≤ bankSeq false s) then run 1 (bankVer false s) (bankSeq false s) s
  else if b then run 2 (bankVer true s) (bankSeq true s) s
  else match x.qspi with
    | some l =>
      if !(headOk l && signedOk l s) then bootFail 1 s
      else if !stepOk l then bootFail 4 s
      else run 0 (imgWord l 20) (imgWord l 8) s
    | none => bootFail 1 s

/-- Engine `e` has passed or failed its BIST (R94, R154, R769): a failing engine is retired, with an entry of SOURCE 1 where it has
none. One whose instance needs more than its 2 spare rows fails (R610). -/
def bootEngine (x : BootStage) (e : Nat) (s : State) : State :=
  let mem := fun (m : Nat) => if m % 8 = 0 ∨ 4 < m % 8 then 1 else m % 8
  let f := match x.bad.find? (fun c => c.1 = e) with | some c => if c.2 % 5 = 0 then 1 else c.2 % 5 | none => 0
  let f := match (repairedInsts s).find? (fun i => instEngine i = some e ∧ 2 < sparesUsed i s) with
    | some i => if f = 0 then mem i else f
    | none => f
  let (f, s) := (x.engRows.filter fun c => c.1 = e).foldl (fun (acc : Nat × State) c =>
    let (ok, s) := bistRow c.2 acc.2
    (if ok ∨ acc.1 ≠ 0 then acc.1 else mem c.2.inst, s)) (f, s)
  let s := ((s.setF (ENG_BIST.DONE e) 1).setF (ENG_BIST.PASS e) (b2n (f = 0))).setF (ENG_BIST.FAILMEM e) f
  let s := if f = 0 ∨ repairRetired e s then s else addRepair (repEntry 3 1 e 0 0 s) s
  let ok := f = 0 && !repairRetired e s
  let s := onEngine e (fun u => { u with healthy := ok }) s
  (s.setF (ENG_ROLE.LOGICAL e) 0x1F).setF (ENG_STAT.STATE e) (if ok then 3 else 5)

/-- Logical engine `n` is served by physical engine `e`. -/
def assign (n e : Nat) (s : State) : State := (s.setF (ENG_ROLE.LOGICAL e) n).setF (ENG_STAT.STATE e) 0

/-- The assignment of R94, for the logical engines of the list. -/
def assignFirst (s : State) : State :=
  let free := fun (s : State) (e : Nat) => (s.engine e).healthy && s.getF (ENG_ROLE.LOGICAL e) = 0x1F
  let s := (List.range 16).foldl (fun s n => if free s n then assign n n s else s) s
  (List.range 16).foldl (fun s n =>
    if (s.physOf n).isSome then s else
    match (List.range 18).find? (free s) with
    | some e => assign n e s
    | none => s) s

/-- The completion of R762 for H healthy engines: an unassigned logical engine below H takes the engine of the highest-numbered
assigned one. -/
def assignDown (h : Nat) (s : State) : State :=
  (List.range (min h 16)).foldl (fun s n =>
    if (s.physOf n).isSome then s else
    match (List.range 16).reverse.find? (fun m => (s.physOf m).isSome) with
    | some m => match s.physOf m with
      | some e => if n < m then assign n e s else s
      | none => s
    | none => s) s

/-- Stage 5: engine BIST and assignment (R94, R762). -/
def bootEngines (x : BootStage) (s : State) : State :=
  let s := (List.range 18).foldl (fun s e => bootEngine x e s) s
  let h := ((List.range 18).filter fun e => (s.engine e).healthy).length
  assignDown h (assignFirst s)

/-- Stage 6: the BOOT record, the lease at the entry to STANDBY (R52, R706, R759), STANDBY, where the Reel links train (R728). -/
def bootEnd (s : State) : State :=
  let s := logEvent 0xE0 [s.boot.fwVer, (s.reg 0).toNat] s
  let s := if s.role ≠ 1 then s
    else if s.flag STI_STAT.LEASE_IN then s.setF STI_STAT.ROLE 2
    else (s.setF STI_STAT.LEASE_OUT 1).out (.pin "LEASE_OUT" true)
  let s := s.setF SYS_BOOT.MS (min 4095 ((s.time - s.boot.relAt) / 153600))
  let s := (s.setF (RL_LSTAT.STATE 0) 1).setF (RL_LSTAT.STATE 1) 1
  enterRest (changeMode 2 s)

/-- BOOT_STAGE_DONE: the next stage of boot completes (R758); a boot that has stopped stays stopped (R759). -/
def bootStage (x : BootStage) (s : State) : State :=
  let k := s.getF SYS_BOOT.STAGE
  if s.mode ≠ 1 ∨ s.getF SYS_BOOT.FAIL ≠ 0 then s else
  let t := match k with
    | 1 => bootSram x s
    | 2 => bootMram x s
    | 3 => bootImage x s
    | 4 => bootEngines x s
    | _ => bootEnd s
  if t.getF SYS_BOOT.FAIL = 0 then t.setF SYS_BOOT.STAGE (k + 1) else t

/-- BOOT_STAGE_DONE (R758). -/
def execBootStageDone (x : BootStage) (s : State) : Host.Outcome State Fault Refusal := finish (bootStage x s)

/-! ### The Gaffer core (R756) -/

/-- The session of a transport restarts: E is unset, its replay cache is empty (R623, R635). -/
def restartSession (tr : Nat) (s : State) : State := onSess tr (fun x => { x with e := none, cache := [] }) s

/-- A watchdog expiry: a first one restarts the Gaffer core alone; a second within 10 s resets the device (R755, R756). Commands
that wait and a MODE_SET that waits for its boundary are lost with the core's memory (log entry 30). -/
def gafferWatchdog (s : State) : State :=
  if !s.hostOpen then s else
  if (match s.boot.wdogAt with | some t => decide (s.time ≤ t + 1536000000) | none => false) then resetTo 5 s else
  let s := s.setF SYS_RSTCAUSE.CAUSE (s.getF SYS_RSTCAUSE.CAUSE ||| 64)
  let s := abandonTake 1 (unitReset 1 s)
  let s := (List.range 3).foldl (fun s tr => restartSession tr s) s
  let s := s.onCmd fun u => { u with waiting := [], heldQ := [], modeReq := none, scenes := [] }
  let s := s.onTake fun u => { u with voting := none, asked := none, voters := [] }
  let s := s.onSti fun u => { u with acquireWait := false }
  s.onBoot fun u => { u with gafferDown := true, wdogAt := some s.time }

/-- GAFFER_WATCHDOG (R756). -/
def execGafferWatchdog (s : State) : Host.Outcome State Fault Refusal := finish (gafferWatchdog s)

/-! ### The presence window (R645) -/

/-- The window opens or closes: its notification, record and interrupt. -/
def presence (on : Bool) (s : State) : State :=
  let s := setIrq 5 (s.setF CMD_STAT.PWIN (b2n on))
  notify 0x800D [b2n on] (logEvent 0xEB [b2n on, 0] s)

/-- PRESENCE_PRESS: PRESENCE_N has been low for 50 ms: the window of 30 s opens, or starts again (R645). -/
def execPresencePress (s : State) : Host.Outcome State Fault Refusal :=
  finish <|
    if !s.hostOpen then s else
    let open_ := s.flag CMD_STAT.PWIN
    let s := s.onCmd fun u => { u with winAt := s.time }
    if open_ then s else presence true s

/-- PRESENCE_WINDOW_CLOSE: the 30 s have passed (R645). -/
def execPresenceWindowClose (s : State) : Host.Outcome State Fault Refusal :=
  finish (if s.flag CMD_STAT.PWIN then presence false s else s)

/-! ### The PCIe link (R623) -/

/-- PCIE_LINK_DOWN: master M0 is reset and the rings stop (R623). -/
def execPcieLinkDown (s : State) : Host.Outcome State Fault Refusal :=
  finish <|
    if s.flag CMD_STAT.LINKUP then
      ((unitReset 0 s).setF CMD_STAT.LINKUP 0).setF CMD_CTRL.RINGS_EN 0
    else s

/-- PCIE_LINK_UP: the link comes up, the PCIe session restarts, and the transmit rings go on (R435, R623, R635). -/
def execPcieLinkUp (s : State) : Host.Outcome State Fault Refusal :=
  finish <|
    if s.mode ≠ 0 ∧ !s.flag CMD_STAT.LINKUP then 
      (List.range 8).foldl (fun s r => resumeTx r s) (restartSession 0 (s.setF CMD_STAT.LINKUP 1))
    else s

end Sys2Proof.Machine
end

