-- ==== Sys2Proof/Machine/Sti.lean ====
section
/-! DEFINITION. The stand-in: link, lease, roles and takeover timeline (chapter 16, R702 to R726). Times are counted in CLK_PER
periods: 15,360 for 100 µs. -/

namespace Sys2Proof.Machine

/-- The guard of 250 µs in CLK_PER periods. -/
def guardTicks : Nat := 38400

/-- The lease length in force in CLK_PER periods (R708). -/
def leaseTicks (s : State) : Nat := s.sti.lz * 15360

/-- The pins of R704 are placed at high impedance, and transmit lanes of the Reel links are idle. -/
def pinsOff (s : State) : State := s.out (.act "PINS_R704" [])

/-- A ROLE record (R716, R679). -/
def roleRecord (new old : Nat) (s : State) : State := logEvent 0xE7 [new, old] s

/-! ### The link (R707, R720) -/

/-- The mirror of a stand-in is no longer complete: a MIRROR message with reason 0 (R720, R745). -/
def mirrorLost (s : State) : State :=
  if s.flag STI_STAT.MVALID then
    raise 0x65 0 (s.getF STI_MIRROR.TAKE % 2 ^ 30) (s.setF STI_STAT.MVALID 0)
  else s

/-- The holder of a pair sends its whole state over the link (R720, R721); the words of the message stand for it (log entry 199). -/
def sendWhole (s : State) : State :=
  if s.pairedHolder ∧ s.flag STI_STAT.LINK ∧ !s.sti.partnerValid then
    s.out (.sti "WHOLE_STATE" [(s.reg 0x10).toNat, s.getF SYS_TAKE_CNT.COUNT])
  else s

/-- STI_LINK_UP: a holder of a pair sends its whole state (R707, R720). -/
def execStiLinkUp (s : State) : Host.Outcome State Fault Refusal :=
  finish <|
    if s.hostOpen ∧ !s.flag STI_STAT.LINK then sendWhole (raise 0x63 0 1 (s.setF STI_STAT.LINK 1)) else s

/-! ### The lease (R708 to R714) -/

/-- RENEW_SEND: a quarter of the lease has passed: the holder sends RENEW(n) with its lease length; a renewal still without
acknowledgement has been missed (R708, R709, R744). -/
def renewSend (s : State) : State :=
  if s.role = 1 ∧ s.flag STI_STAT.LINK ∧ s.hostOpen then
    let s := if s.sti.sent.isSome then s.incF STI_EVT.MISSED 1 else s
    let n := s.sti.nextN
    let l := s.getF STI_CFG.LEASE
    let s := s.onSti fun u => { u with sent := some (n, l), sentAt := s.time, nextN := (n + 1) % 2 ^ 32 }
    s.out (.sti "RENEW" [n, l])
  else s

/-- RENEW_SEND (R709). -/
def execRenewSend (s : State) : Host.Outcome State Fault Refusal := finish (renewSend s)

/-- ACK_RECEIVED: the partner acknowledges RENEW(n); the first one pairs the members, and the holder sends its whole state (R708, R709, R713,
R721). -/
def ackReceived (n : Nat) (s : State) : State :=
  match s.sti.sent with
  | none => s
  | some (m, l) =>
    if s.role = 1 ∧ s.flag STI_STAT.LINK ∧ m = n then
      let new := !s.flag STI_STAT.PAIRED
      let s := s.onSti fun u => { u with tn := u.sentAt, lz := l, sent := none }
      let s := (s.setF STI_RENEW.SEQ n).setF STI_STAT.PAIRED 1
      if new then sendWhole s else s
    else s

/-- ACK_RECEIVED (R709). -/
def execAckReceived (n : Nat) (s : State) : Host.Outcome State Fault Refusal := finish (ackReceived n s)

/-- The stand-in acknowledges RENEW(n) with lease length `l`, received now. -/
def acknowledge (n l : Nat) (s : State) : State :=
  let s := s.onSti fun u => { u with rn := s.time, lz := l, waitLease := false }
  ((s.setF STI_RENEW.SEQ n).setF STI_STAT.PAIRED 1).out (.sti "ACK" [n])

/-- A paired stand-in follows grid marks: outside a ring those of its holder, inside a ring those of its upstream link, on the ring
master's place too (R490, R722). -/
def followHolder (s : State) : State := if s.flag CLK_STAT.RINGFOLLOW then s else followMarks s

/-- The grid marks of the holder end: candidate 6 of a stand-in outside a ring loses its activity (R491, R722). -/
def marksEnd (s : State) : State := if s.role = 2 ∧ s.getF RL_STAT.STATE ≠ 2 then endActivity 6 s else s

/-- STI_LINK_DOWN (R591, R707, R720): the stand-in's mirror falls, and the holder waits to send its whole state. -/
def execStiLinkDown (s : State) : Host.Outcome State Fault Refusal :=
  finish <|
    if s.flag STI_STAT.LINK then
      let s := unitReset 9 (raise 0x63 0 0 (s.setF STI_STAT.LINK 0))
      let s := s.onSti fun u => { u with sent := none, partnerValid := false }
      marksEnd (mirrorLost s)
    else s

/-- A stand-in that leaves its pair follows no longer. -/
def unfollow (s : State) : State := if s.getF RL_STAT.STATE = 2 then s else unfollowMarks (marksEnd s)

/-- RENEW_RECEIVED: a stand-in acknowledges, and the first renewal pairs it and takes it from STANDBY to STANDIN (R709, R713);
a FENCED chip takes role STANDIN (R714). -/
def renewReceived (n l : Nat) (s : State) : State :=
  if !s.flag STI_STAT.LINK ∨ !s.hostOpen ∨ s.sti.left then s
  else if s.role = 2 then
    let s := acknowledge n l s
    if s.mode = 2 then followHolder (changeMode 6 s) else if s.mode = 6 then followHolder s else s
  else if s.role = 3 then
    let s := (acknowledge n l s).setF STI_STAT.ROLE 2
    let s := followHolder (s.setF STI_STAT.MVALID 0)
    if s.mode = 8 ∨ s.mode = 2 then changeMode 6 s else s
  else s

/-- RENEW_RECEIVED (R709). -/
def execRenewReceived (n lease : Nat) (s : State) : Host.Outcome State Fault Refusal := finish (renewReceived n lease s)

/-- Started transmit contexts. -/
def txStarted (s : State) : List Nat := (s.started false).map (·.1)

/-- The units of the chip that it may have to start again at a takeover, as the commands that would start them (R714, R718). -/
def startedUnits (s : State) : List (Nat × List Word) :=
  let timing := fun (w n : Nat) => [wd (w + 2 ^ 12), wd n, wd (n / 2 ^ 32)]
  ((List.range 64).filter fun p => s.istate p ≠ 0).map (fun p => (0x0401, timing (p + 2 ^ 8) s.shot))
  ++ ((List.range 64).filter fun p => s.ostate p ≠ 0).map (fun p => (0x0401, timing (p + 2 ^ 9) s.shot))
  ++ ((s.net.ctx.filter fun x => x.2.st ≠ 0).map fun x => (0x0501, timing x.1 x.2.since))
  ++ ((List.range 32).filter fun l => s.flag (DL_LCFG.EN l)).map (fun l => (0x0404, timing (l + 2 ^ 8) s.shot))

/-- The units of a chip that processes nothing are at rest: a stand-in's (R718), or a FENCED chip's, which keeps what it had
started (R714). The stages of a committed take and of a dissolve keep their times (R338); the matrix, which runs no pass, applies its
part at the boundary. -/
def restUnits (s : State) : State :=
  let l := startedUnits s
  let s := if s.sti.restore.isEmpty then s.onSti fun u => { u with restore := l } else s
  let s := endWork (endSplice (stopLanes (stopAllStreams (stopPorts s))))
  if s.pstate = 6 then setPortState 4 s else s

/-- A holder gives up the token without a handover (R710): `why` 1 for a missed renewal, 2 for LEASE_IN. One that is taking over rests
still, keeps the list of what it is to start, and enters SAFE (R703, R714; log entry 198). -/
def fence (why : Nat) (s : State) : State :=
  let s := pinsOff s
  let l := startedUnits s
  let s := if s.mode = 7 ∧ s.sti.b0.isNone then s else s.onSti fun u => { u with restore := l }
  let s := bufCand ((txStarted s).foldl (fun s c => stopCtx c s) s)
  let s := (s.setF STI_STAT.LEASE_OUT 0).out (.pin "LEASE_OUT" false)
  let s := s.setF STI_STAT.ROLE 3
  let s := s.incF STI_EVT.FENCES 1
  let s := s.onSti fun u => { u with sent := none, handover := 0, rn := u.tn }
  let s := raise 0x64 0 why s
  if s.mode = 7 then changeMode 8 (endWake s) else safeRequest s

/-- FENCE: a paired holder has had no acknowledgement until t_n + Lz − 250 µs (R710). -/
def execFence (s : State) : Host.Outcome State Fault Refusal :=
  finish (if s.pairedHolder ∧ s.sti.tn + leaseTicks s ≤ s.time + guardTicks then fence 1 s else s)

/-- LEASE_IN_RISE: the partner drives its LEASE_OUT high; a holder fences (R710, R713). -/
def execLeaseInRise (s : State) : Host.Outcome State Fault Refusal :=
  finish <|
    let s := s.setF STI_STAT.LEASE_IN 1
    if s.role = 1 ∧ s.hostOpen then fence 2 s else s

/-! ### Taking the token (R711 to R716, R723, R724, R726) -/

/-- Delay lines start empty, at the length that was committed last (R214, R724). -/
def emptyLines (s : State) : State :=
  (s.cs.lines.map (·.1)).foldl (fun s i => onLine i (fun l => { l with
    w := 0, w0 := 0, hw := 0, live := l.live.map fun c => { c with len := l.staged.getD c.len }, staged := none }) s) s

/-- Lane slices hold the last committed images, and 0 elsewhere (R723, R724). -/
def imagesBack (s : State) : State :=
  let s := (List.range 18).foldl (fun s e =>
    if s.getF (ENG_ROLE.LOGICAL e) < 16 then zeroBytes (engWin e + 0xA0000) 0x20000 (zeroBytes (engWin e + 0x40000) 0x40000 s) else s) s
  s.take.images.foldl (fun s x => match s.physOf x.1.logeng with | some e => putImage e x.1 x.2 s | none => s) s

/-- Every crosspoint applies its committed target and no fade runs (R724). -/
def endFades (s : State) : State :=
  let s := if s.spl.commitDue then spliceApply s else s
  s.onSpl fun u => { u with fades := [] }

/-- The token is taken at t_T (R711, R712, R714, R716, R723): `why` is the LEASE address of R745, `late` whether forwarded packets
were still to be applied. A CLAIM is not counted in TAKEOVERS (R744). -/
def takeToken (why : Nat) (late : Bool) (s : State) : State :=
  let valid := s.flag STI_STAT.MVALID
  let s := (s.setF STI_STAT.LEASE_OUT 1).out (.pin "LEASE_OUT" true)
  let s := (s.setF STI_STAT.ROLE 1).setF STI_STAT.PAIRED 0
  let s := if why = 5 then s else s.incF STI_EVT.TAKEOVERS 1
  let s := raise 0x64 0 why s
  let addr := fun (r : Nat) => r * 2 ^ 30 + s.getF STI_MIRROR.TAKE % 2 ^ 30
  let s := if !valid then raise 0x65 0 (addr 2) s else if late then raise 0x65 0 (addr 1) s else s
  let s := abandonTake 3 s
  let s := endTakes (restUnits s)
  let s := imagesBack (emptyLines (endFades s))
  let s := s.setF STI_STAT.WAKING 1
  let s := s.onSti fun u => { u with
    wake := if u.prewoken then 15 else 0, mvalidAtTake := valid, b0 := none, waitLease := false, sent := none, left := false, partnerValid := false }
  let s := logEvent 0xE8 [s.getF SYS_ID.CHIP_ID, s.shot] s
  let s := changeMode 7 (s.setF SYS_MODE.TICK 1)
  -- the grid marks of the holder have ended; a ring master's place leaves follower state (R726)
  if s.getF RL_STAT.STATE = 2 ∧ !s.flag RL_STAT.MASTER then s
  else endActivity 6 (unfollowMarks s)

/-- A stand-in that may take the token at once or on the fall of LEASE_IN: paired and in mode STANDIN. -/
def mayTake (s : State) : Bool := s.role = 2 && s.flag STI_STAT.PAIRED && s.mode = 6

/-- TOKEN_TAKE: r_n + Lz + 250 µs has passed; while LEASE_IN is high the stand-in waits (R711). -/
def execTokenTake (late : Bool) (s : State) : Host.Outcome State Fault Refusal :=
  finish <|
    if mayTake s ∧ s.sti.rn + leaseTicks s + guardTicks ≤ s.time then
      if s.flag STI_STAT.LEASE_IN then s.onSti fun u => { u with waitLease := true } else takeToken 3 late s
    else s

/-- LEASE_IN_FALL: LEASE_IN falls; a stand-in that waits takes the token (R711). -/
def execLeaseInFall (late : Bool) (s : State) : Host.Outcome State Fault Refusal :=
  finish <|
    let s := (s.setF STI_STAT.LEASE_IN 0).onSti fun u => { u with lowAt := s.time }
    if mayTake s ∧ s.sti.waitLease then takeToken 3 late s else s

/-- RELEASE_RECEIVED: with LEASE_IN low the stand-in takes the token at once (R712). -/
def execReleaseReceived (late : Bool) (s : State) : Host.Outcome State Fault Refusal :=
  finish (if mayTake s ∧ s.flag STI_STAT.LINK ∧ !s.flag STI_STAT.LEASE_IN then takeToken 3 late s else s)

/-- RECLAIM: a FENCED chip with RECLAIM takes the token back, LEASE_IN having stayed low for 1 ms after its r_n + Lz + 250 µs
(R714). -/
def execReclaim (s : State) : Host.Outcome State Fault Refusal :=
  finish <|
    if s.role = 3 ∧ s.flag STI_CFG.RECLAIM ∧ !s.flag STI_STAT.LEASE_IN
        ∧ max s.sti.lowAt (s.sti.rn + leaseTicks s + guardTicks) + 153600 ≤ s.time
    then takeToken 4 false s else s

/-- WAKE_STEP: the next of the 15 wake steps of 250 µs: in a takeover, or on a paired stand-in that its holder has asked to wake,
which reports the last one (R716, R723). -/
def wakeStep (s : State) : State :=
  if s.mode = 7 ∧ s.flag STI_STAT.WAKING ∧ s.sti.wake < 15 then s.onSti fun u => { u with wake := u.wake + 1 }
  else if mayTake s ∧ !s.sti.prewoken then
    let s := (s.setF STI_STAT.WAKING 1).onSti fun u => { u with wake := u.wake + 1 }
    if s.sti.wake < 15 then s
    else ((s.setF STI_STAT.WAKING 0).onSti fun u => { u with prewoken := true }).out (.sti "AWAKE" [])
  else s

/-- WAKE_STEP (R723). -/
def execWakeStep (s : State) : Host.Outcome State Fault Refusal := finish (wakeStep s)

/-- STANDIN_AWAKE: the stand-in reports its wake to a holder that hands over; without a tick the holder releases at once, else at
the next shot boundary (R716). -/
def execStandinAwake (s : State) : Host.Outcome State Fault Refusal :=
  finish <|
    if s.pairedHolder ∧ s.sti.handover = 1 then
      let s := s.onSti fun u => { u with handover := 2 }
      if s.tick then s else releaseToken s
    else s

/-- STANDIN_TICK_START: the stand-in is paired and the holder's tick runs: it starts its own, with the holder's count (R722). -/
def execStandinTickStart (count : Nat) (s : State) : Host.Outcome State Fault Refusal :=
  finish (if mayTake s ∧ !s.tick then loadShot count (s.setF SYS_MODE.TICK 1) else s)

/-- TAKEOVER_RELEASE: b0 + 4 shots: the first block is released, and the mode becomes RUN, DEGRADED or ACQUIRE (R723, R753). -/
def execTakeoverRelease (s : State) : Host.Outcome State Fault Refusal :=
  finish <|
    match s.sti.b0 with
    | some b => if s.mode = 7 ∧ s.role = 1 ∧ b + 4 ≤ s.shot then changeMode (if clkLocked s then runMode false s else 3) s else s
    | none => s

/-! ### ROLE_SET (R716) -/

/-- Status of ROLE_SET with ACTION `a`. -/
def roleSetStatus (a : Nat) (s : State) : Nat :=
  match a with
  | 0 => if s.pairedHolder && s.sti.partnerValid then 0 else 5
  | 1 => if s.role < 2 then 3 else if s.flag STI_STAT.LEASE_IN then 6 else 0
  | 2 => if s.take.pending.isSome then 5 else 0
  | _ => if strapRole (s.getF STI_STAT.STRAP) = 0 then 3 else 0

/-- The chip leaves its pair: a holder becomes SOLO, a stand-in stays STANDIN without its pair (R716). -/
def leavePair (s : State) : State :=
  let old := s.role
  let s := s.onSti fun u => { u with sent := none, handover := 0, waitLease := false, left := old = 2 || u.left }
  let s := s.setF STI_STAT.PAIRED 0
  let s := if old = 2 then unfollow s else s
  if old = 1 then
    roleRecord 0 old ((s.setF STI_STAT.ROLE 0).setF STI_STAT.LEASE_OUT 0 |>.out (.pin "LEASE_OUT" false))
  else roleRecord old old s

/-- The chip returns to the place of its strap (R716): as a stand-in it has no token and rests, as the primary it has the token
unless its partner has it. -/
def joinPair (s : State) : State :=
  let old := s.role
  let new := strapRole (s.getF STI_STAT.STRAP)
  let s := (s.onSti fun u => { u with left := false, sent := none }).setF STI_STAT.PAIRED 0
  let new := if new = 1 ∧ s.flag STI_STAT.LEASE_IN then 2 else new
  let s := roleRecord new old s
  if new = 2 then
    if old = 2 then s else releaseToken s
  else if old = 3 ∨ (old = 2 ∧ s.mode ≠ 2) then takeToken 5 false s
  else ((s.setF STI_STAT.ROLE 1).setF STI_STAT.LEASE_OUT 1).out (.pin "LEASE_OUT" true)

/-- An accepted ROLE_SET takes effect (R716). -/
def applyRoleSet (a : Nat) (s : State) : State :=
  match a with
  | 0 => (roleRecord 2 s.role (s.onSti fun u => { u with handover := 1 })).out (.sti "WAKE" [])
  | 1 => takeToken 5 false (roleRecord 1 s.role s)
  | 2 => leavePair s
  | _ => joinPair s

/-! ### The mirror (R717, R719, R720) -/

/-- Commands that a holder forwards (R717). -/
def forwarded (op : Nat) : Bool := (1 ≤ op / 256 && op / 256 ≤ 6 && op ≠ 0x0600) || op = 0x0700

/-- The holder of a pair forwards an executed command, with the swap-window words that a SLICE_INIT names; while the link is down
its traffic waits, and beyond 16 MiB the mirror is given up (R717, R720). -/
def forward (op : Nat) (p : List Word) (images : List Word) (s : State) : State :=
  if forwarded op then mirrorSend "MIRROR" (op :: (p ++ images).map (·.toNat)) (4 * (p.length + images.length + 4)) s else s

/-- Uses of the lease token that this member counts (R715): held locally, held by the partner or lapsed count 1, both pins high 2;
a SOLO chip has a pool of 0. -/
def leaseUse (s : State) : Nat :=
  if s.role = 0 then 0 else if s.flag STI_STAT.LEASE_OUT ∧ s.flag STI_STAT.LEASE_IN then 2 else 1

end Sys2Proof.Machine
end

