-- ==== Sys2Proof/Machine/Rl.lean ====
section
/-! DEFINITION. Reel links and the ring (chapter 16, R727 to R741): links, blocks and partials received, ring formation, and the
take messages of a ring (R333 to R335). -/

namespace Sys2Proof.Machine

/-! ### Formation of the ring (R730, R736) -/

/-- The last ring fault (R729, R744). -/
def ringFault (link kind : Nat) (s : State) : State := raise 0x61 0 (256 * link + kind) (s.setF RL_STAT.FAULT kind)

/-- Link `k` is UP. -/
def linkUpRl (k : Nat) (s : State) : Bool := s.getF (RL_LSTAT.STATE k) = 2

/-- The chip is no follower of a ring (R490, R549). -/
def leaveRing (s : State) : State :=
  if s.role < 2 ∧ (s.flag CLK_STAT.RINGFOLLOW ∨ s.flag PTP_STAT.RINGTIME) then ptpSync (unfollowMarks (s.setF PTP_STAT.RINGTIME 0)) else s

/-- The ring is not formed. -/
def ringOff (state : Nat) (s : State) : State :=
  let s := leaveRing s
  let s := ((s.setF RL_STAT.STATE state).setF RL_STAT.SIZE 0).setF RL_STAT.POS 0
  let s := ((s.setF RL_STAT.MASTER 0).setF RL_STAT.MASTERID 0).setF RL_RBUF.BYTES 0
  s.onRl fun u => { u with ids := [], held := [], arrived := [] }


/-- Place of the lowest chip ID of a list. -/
def lowestAt (ids : List Nat) : Nat :=
  let m := ids.foldl (fun a i => min a i) 8
  (ids.findIdx? (· = m)).getD 0

/-- The list turned so that the ring master stands first. -/
def fromMaster (ids : List Nat) : List Nat := ids.drop (lowestAt ids) ++ ids.take (lowestAt ids)

/-- Buses that the ring map marks. -/
def ringBuses (s : State) : List (Nat × Nat) := s.rl.bmap.filter fun c => 8 ≤ c.2

/-- Bytes of ring buffers that this chip needs (R736). -/
def ringBytes (s : State) : Nat := (ringBuses s).foldl (fun a c => a + chainPos c.1 s * (8 * s.n + 4)) 0

/-- The ring buffers fit above the pool blocks that the graphs name. -/
def ringFits (s : State) : Bool :=
  let k := ceilDiv (ringBytes s) (4 * s.n + 4)
  k ≤ poolBlocks s && (poolNamed (fun _ => true) s).all fun b => b < poolBlocks s - k

/-- A chip's own list has returned: the ring forms, or shows its fault (R730, R735, R736). A follower disables its ordinary clock,
takes the ring's time and qualifies candidate 6 in 1 s (R490, R549, R731). -/
def formRing (ids : List Nat) (sec ns : Nat) (s : State) : State :=
  if decide (ids.Nodup) = false then ringFault 0 2 (ringOff 3 s)
  else if ids.length ≠ s.rl.size ∨ (ringBuses s).any (fun c => !ids.contains (c.2 % 8)) then ringFault 0 3 (ringOff 3 s)
  else
    let l := fromMaster ids
    let t := s.onRl fun u => { u with ids := l }
    if !ringFits t then ringFault 0 4 (ringOff 3 s) else
    let me := s.getF SYS_ID.CHIP_ID
    let mid := l.headD 0
    let t := ((t.setF RL_STAT.STATE 2).setF RL_STAT.SIZE l.length).setF RL_STAT.POS (ringPos me t)
    let t := ((t.setF RL_STAT.MASTER (b2n (me = mid))).setF RL_STAT.MASTERID mid).setF RL_RBUF.BYTES (ringBytes t)
    if me = mid then t else
    let t := if t.sti.qtimeWritten then t else t.setF CLK_QUALCFG.QTIME 10
    let t := (followMarks t).setF PTP_STAT.RINGTIME 1
    let t := setInc incNominal (t.onPtp fun u => { u with sec := sec, ns := ns, frac := 0, adj := 0 })
    ptpSync t

/-- RING_LIST_RECEIVED: a list arrives on RL0: a chip forwards another's list with its own ID, and its own one forms the ring
(R730). `sec` and `ns` are the time of the ring master's counter (R549). A list that reaches a chip which is not forming yet, and does
not hold its ID, waits until it does: DESIGN CHOICE (log entry 200). -/
def ringList (ids : List Nat) (sec ns : Nat) (s : State) : State :=
  let me := s.getF SYS_ID.CHIP_ID
  if ¬(s.getF RL_STAT.STATE = 1 ∧ s.role < 2 ∧ s.mode = 2) then
    (if s.getF RL_STAT.STATE ≠ 2 ∧ linkUpRl 0 s ∧ !ids.contains me then s.onRl fun u => { u with lists := u.lists ++ [(ids, sec, ns)] } else s)
  else
  if ids.head? = some me then formRing ids sec ns s
  else if ids.contains me then ringFault 0 2 (ringOff 3 s)
  else s.out (.rl 1 "LIST" (ids ++ [me]))

/-- The ring begins to form where the chip takes part: both links UP, a ring configured, in STANDBY as SOLO or HOLDER: it sends its ID, and
the lists that have waited for it (R730). -/
def startRing (s : State) : State :=
  if s.rl.size ≠ 0 ∧ linkUpRl 0 s ∧ linkUpRl 1 s ∧ s.mode = 2 ∧ s.role < 2 then
    let l := s.rl.lists
    let s := ((ringOff 1 s).onRl fun u => { u with lists := [] }).out (.rl 1 "LIST" [s.getF SYS_ID.CHIP_ID])
    l.foldl (fun s x => ringList x.1 x.2.1 x.2.2 s) s
  else ringOff 0 s

/-- A chip that has come to STANDBY, or to a role that forms rings there, sends its ID (R730). -/
def standbyRing (s : State) : State := if s.mode = 2 ∧ s.getF RL_STAT.STATE = 0 then startRing s else s

/-- RING_LIST_RECEIVED (R730). -/
def execRingListReceived (ids : List Nat) (sec ns : Nat) (s : State) : Host.Outcome State Fault Refusal := finish (ringList ids sec ns s)

/-! ### Links (R728, R729) -/

/-- Receive channels of link `k`. -/
def rxSpace (k : Nat) : Nat := if k = 0 then 6 else 8

/-- The channels of link `k` have delivered nothing since it came up (R83). -/
def rlFresh (k : Nat) (s : State) : State :=
  (s.onRl fun u => { u with seen := u.seen.filter fun c => chSpace c ≠ rxSpace k }).onCs fun u => { u with
    conceal := smKeep (fun c => c / 4096 ≠ rxSpace k) u.conceal }

/-- RL_LINK_UP: link `k` has trained, with its transit delay (R728). -/
def execRlLinkUp (k delay : Nat) (s : State) : Host.Outcome State Fault Refusal :=
  finish <|
    if k < 2 ∧ s.hostOpen ∧ !linkUpRl k s then
      let s := ((rlFresh k s).setF (RL_LSTAT.STATE k) 2).setF (RL_LDLY.DELAY k) delay
      if s.getF RL_STAT.STATE = 2 then s else startRing s
    else s

/-- RL_LINK: link `k` goes down, or fails its training, and retrains at once, which resets its master (R591, R728). -/
def rlLink (k : Nat) (s : State) : State :=
  let up := linkUpRl k s
  let s := unitReset (7 + k) ((s.setF (RL_LSTAT.STATE k) 1).incF (RL_LSTAT.RETRAINS k) 1)
  let s := if up then ringFault k 0 (s.incF (RL_LERR.DOWNS k) 1) else ringFault k 1 s
  let s := if k = 0 then s.onRl fun u => { u with lists := [] } else s
  if k = 0 ∧ !sourceUp 6 s then endActivity 6 s else s

/-- RL_LINK (R728). -/
def execRlLink (k : Nat) (s : State) : Host.Outcome State Fault Refusal := finish (if k < 2 ∧ s.hostOpen then rlLink k s else s)

/-! ### Blocks and partials (R733, R734, R737, R739, R82) -/

/-- Transmit channel address to which receive channel `c` of link `k` is forwarded. -/
def fwdTo (k c : Nat) : Nat := (if k = 0 then 9 else 7) * 4096 + c

/-- A block of channel `c` arrives on link `k`; one in error is concealed and reported (R82, R728). -/
def rlChannel (k c : Nat) (b : Blk) (ok : Bool) (s : State) : State :=
  let ch := rxSpace k * 4096 + c
  let (b, s) := if ok then (b, delivered ch (b.samples.getLastD 0) s)
    else
      let (sm, s) := concealSamples ch s.n s
      ((⟨sm, bswSet bswCONCEALED true b.bsw⟩ : Blk), s)
  let s := s.onRl fun u => { u with seen := if u.seen.contains ch then u.seen else u.seen ++ [ch] }
  putBlk aIN ch b s

/-- RL_BLOCK_RECEIVED: a block, a ring partial, the ring master's time or a grid mark arrives on link `k`, in error where not `ok` (R549,
R728, R731 to R733, R737, R739). A partial in error is missing. -/
def rlReceived (k : Nat) (x : RlItem) (ok : Bool) (s : State) : State :=
  if ¬(k < 2 ∧ linkUpRl k s ∧ s.hostOpen) then s else
  let s := if ok then s else raise 0x62 0 (256 * k) (s.incF (RL_LERR.BLKERR k) 1)
  match x with
  | .chan c sm bsw => if c < netChans s ∧ sm.length = s.n then rlChannel k c ⟨sm, bsw⟩ ok s else s
  | .partials b sums bsw =>
    if k = 0 ∧ ok ∧ ringBus b s ∧ sums.length = s.n then
      s.onRl fun u => { u with arrived := keyPut b ⟨sums.map fun a => sgn 64 (lowBits 64 a), [bsw]⟩ u.arrived }
    else s
  | .clock sec ns =>
    -- the follower's counter is brought to the ring master's by the phase adjustment (R549)
    if k = 0 ∧ ok ∧ s.flag PTP_STAT.RINGTIME then
      s.onPtp fun u => { u with adj := timeDiff sec ns u.sec u.ns * 2 ^ 32 - u.frac }
    else s
  | .mark shot =>
    -- a follower in STANDBY passes the marks on until it runs its own tick (R731)
    if k = 0 ∧ ok ∧ ringFollower s ∧ s.mode = 2 ∧ linkUpRl 1 s ∧ !s.hiZ then s.out (.rl 1 "MARK" [shot]) else s

/-- RL_BLOCK_RECEIVED (R733). -/
def execRlBlockReceived (k : Nat) (x : RlItem) (ok : Bool) (s : State) : Host.Outcome State Fault Refusal := finish (rlReceived k x ok s)

/-- Status word of a block that link `k` did not bring: CONCEALED, with SOURCE_LOST while the link is down (R82). Its ORIGIN, which
the spec states for no missing block, is 0 on every channel (DESIGN CHOICE, log entry 123). -/
def rlMissing (k : Nat) (s : State) : Word := mkBsw 0 (bswCONCEALED + (if linkUpRl k s then 0 else bswLOST))

/-- At a boundary, a channel without a block is concealed: one that has delivered since its link came up from its last valid sample,
every other with zeros, which stand under one index per link. While the link is down, every block carries SOURCE_LOST (R82, R83). -/
def rlBlocks (s : State) : State :=
  let s := [0, 1].foldl (fun s k =>
    let rest := netChans s - (s.rl.seen.filter fun c => chSpace c = rxSpace k).length
    countG 0x42 rest (s.onStage (blkPut (aIN * 65536 + linkCh k) ⟨List.replicate s.n 0, rlMissing k s⟩))) s
  s.rl.seen.foldl (fun s ch =>
    let k := if chSpace ch = 6 then 0 else 1
    if s.hasBlk aIN ch then
      (if linkUpRl k s then s else
        let b := s.blk aIN ch
        s.onStage (blkPut (aIN * 65536 + ch) { b with bsw := bswSet bswLOST true b.bsw }))
    else
      let (sm, s) := concealSamples ch s.n s
      putBlk aIN ch ⟨sm, rlMissing k s⟩ s) s

/-- At a boundary, the blocks of both links are complete: those of the receive channels, and the copies of the forwarded ones that
go on to the other link, with the same concealment and flags (R82, R733, R734). -/
def rlInputs (s : State) : State :=
  let s := rlBlocks s
  let copy := fun (k : Nat) (l : List Nat) => l.map fun c => (fwdTo k c, s.blk aIN (rxSpace k * 4096 + c))
  s.onRl fun u => { u with fwdBlk := copy 0 u.fwd0 ++ copy 1 u.fwd1 }

/-- At a boundary, the arrived partials become those of the pass that starts (R737). -/
def rlPartials (s : State) : State :=
  s.onRl fun u => { u with arrived := (u.arrived.filter fun c => c.1 < 4096).map fun c => (c.1 + 4096, c.2) }

/-- Blocks released at this boundary to every Reel link transmit channel, and forwarded ones to theirs (R28, R733, R734, R750). -/
def rlReleases (s : State) : State :=
  let fwd := s.rl.fwdBlk
  let s := s.onRl fun u => { u with fwdBlk := [] }
  if s.hiZ then s else
  let s := fwd.foldl (fun s c => if linkUpRl (if chSpace c.1 = 7 then 0 else 1) s then s.out (.block c.1 c.2.samples c.2.bsw) else s) s
  if !releases s then s else
  [7, 9].foldl (fun s sp =>
    if !linkUpRl (if sp = 7 then 0 else 1) s then s else
    let maps := if sp = 9 then s.rl.fwd0 else s.rl.fwd1
    ((List.range (netChans s)).filter fun c => !maps.contains c).foldl (fun s c =>
      let b := releasedBlk (sp * 4096 + c) s
      s.out (.block (sp * 4096 + c) b.samples b.bsw)) s) s

/-! ### Takes of a ring (R333 to R335) -/

/-- The reply words of an accepted TAKE (R310): s_T, 0 while it is not known, and the take number. -/
def takeWords (t : Take) (s : State) : List Word :=
  let n := t.sT.getD 0
  [wd n, wd (n / 2 ^ 32 % 65536), wd (s.getF SYS_TAKE_CNT.COUNT + 1)]

/-- The ring master's TAKE has passed its own checks: it goes to every chip with its s_T, 0 while that is not known, and the votes are
awaited (R332 to R334). One with CHECKONLY asks for the votes alone (R634; log entry 78). -/
def askRing (h : CmdHdr) (gap : Bool) (t : Take) (s : State) : State :=
  let me := s.getF SYS_ID.CHIP_ID
  let s := s.onTake fun u => { u with
    pending := if h.chk then u.pending else some t, asked := if h.chk then some t else none, voting := some (h, gap),
    voters := (s.rl.ids.filter (· ≠ me)).map (·, none) }
  s.out (.rl 1 (if h.chk then "TAKE_CHECK" else "TAKE") (t.words.map (·.toNat) ++ [t.sT.getD 0]))

/-- The master decides (R334): accepted when every chip has voted to accept; otherwise refused with the status of the first chip in
ring order that refused, or with BUSY for the first whose vote is missing, and DETAIL names the chip (R633). -/
def decideTake (s : State) : State :=
  match s.take.voting, (if s.take.asked.isSome then s.take.asked else s.take.pending) with
  | some (h, gap), some t =>
    let chk := s.take.asked.isSome
    let bad := match s.take.voters.find? (fun v => v.2.getD 0 ≠ 0) with
      | some v => some (v.1, v.2.getD 5)
      | none => (s.take.voters.find? (fun v => v.2.isNone)).map fun v => (v.1, 5)
    let s := s.onTake fun u => { u with voting := none, asked := none, voters := [] }
    match bad with
    | none =>
      if chk then placeReply 0x200 h gap 0 0xFFFF (takeWords t s ++ [wd (takeKind t.forcecut s)]) s else
      placeReply 0x200 h gap 0 0xFFFF (takeWords t s) (noteGen 0x200 (forward 0x200 t.words ((takeWords t s).take 2) (s.out (.rl 1 "COMMIT" []))))
    | some (id, st) =>
      if chk then placeReply 0x200 h gap st (0x8000 + id) [] s else
      let s := s.onTake fun u => { u with pending := none }
      placeReply 0x200 h gap st (0x8000 + id) [] ((s.incF SYS_TAKE_REFUSED.REFUSED 1).out (.rl 1 "ABANDON" []))
  | _, _ => s

/-- A vote arrives at the master; with the last one it decides (R334). -/
def voteReceived (id status : Nat) (s : State) : State :=
  if s.take.voting.isNone then s else
  let s := s.onTake fun u => { u with voters := u.voters.map fun v => if v.1 = id then (id, some status) else v }
  if s.take.voters.all (fun v => v.2.isSome) then decideTake s else s

/-- RING_TAKE_MESSAGE: a chip of the ring applies orders 1, 2, 4, 5 and 6 of R309 and votes; a take that it accepts is protected
until the commit or the abandon, for the boundary s_T that the master names (R332, R333, R335). Only holders and SOLO chips vote, none
in the gap of a takeover (R740). A check leaves nothing behind (R634). -/
def ringTake (ws : List Word) (sT : Nat) (chk : Bool) (s : State) : State :=
  if ¬(s.getF RL_STAT.STATE = 2 ∧ !s.flag RL_STAT.MASTER ∧ s.role < 2 ∧ s.mode ≠ 7 ∧ ws.length = 5) then s else
  let b := if bits (nAt ws 0) 30 2 = 3 then none else some sT
  let st := takeCheckAt (b.map Int.ofNat) false ws s
  let s := s.out (.rl 1 "VOTE" [s.getF SYS_ID.CHIP_ID, st])
  if st = 0 ∧ !chk then s.onTake fun u => { u with pending := some (takeOf ws b), unconfirmed := true } else s

/-- RING_TAKE_MESSAGE (R333). -/
def execRingTakeMessage (ws : RingTake) (s : State) : Host.Outcome State Fault Refusal := finish (ringTake ws.ws ws.sT ws.chk s)

/-- RING_COMMIT_RECEIVED: the master's commit, or its abandon (R334, R335, R337). -/
def execRingCommitReceived (commit : Bool) (s : State) : Host.Outcome State Fault Refusal :=
  finish <|
    if commit then
      match s.take.pending with
      | some t => if s.take.unconfirmed then forward 0x200 t.words ((takeWords t s).take 2) (s.onTake fun u => { u with unconfirmed := false }) else s
      | none => s
    else if s.getF RL_STAT.STATE = 2 ∧ !s.flag RL_STAT.MASTER then abandonTake (if s.take.unconfirmed then 4 else 0) s else s

end Sys2Proof.Machine
end

