-- ==== Sys2Proof/Machine/Boundary.lean ====
section
/-! DEFINITION. The shot boundary (R17, R21, R26 to R31, R218, R249) and the ledgers (R47 to R50). -/

namespace Sys2Proof.Machine

/-! ### Ledgers (R47 to R49) -/

/-- One ledger's counts: a bit of MISMATCH and a LEDGER message where what is in use and what is free do not sum to the pool (R49). -/
def audit (bit use free pool : Nat) (s : State) : State :=
  if use + free = pool then s else raise 0x00 0 bit (s.orF SYS_LEDGER.MISMATCH (2 ^ bit))

/-- Device-owned and host-owned descriptors of a ring, which lie from HEAD to TAIL − 1 and from TAIL to HEAD − 1 (R435). -/
def ringCounts (tx : Bool) (r : Nat) (s : State) : Nat × Nat :=
  let len := (s.nring tx r).len
  let h := if tx then s.getF (NET_TXHEAD.PTR r) else s.getF (NET_RXHEAD.PTR r)
  let t := if tx then s.getF (NET_TXTAIL.PTR r) else s.getF (NET_RXTAIL.PTR r)
  ((t + len - h) % len, if h = t then len else (h + len - t) % len)

/-- The ledger of the descriptor rings of one direction, each with its length as the pool (R47, R435): a ring whose counts do not sum
sets the ledger's bit. -/
def auditRings (bit : Nat) (tx : Bool) (s : State) : State :=
  let bad := (List.range 8).any fun r => (ringCounts tx r s).1 + (ringCounts tx r s).2 ≠ (s.nring tx r).len
  audit bit (b2n bad) 0 0 s

/-- Task tokens in use: descriptors that are not free; second instances of a dissolve recast share their task's token (R241). -/
def tokensUsed (s : State) : Nat := (s.cs.tasks.filter fun c => c.1 < 4096).length

/-- Every ledger takes its counts (R48): in every mode except RESET and TEST. -/
def audits (s : State) : State :=
  if s.mode = 0 ∨ s.mode = 11 then s else
  let x := creditsUsed s
  let p := s.net.bufs.length
  let t := tokensUsed s
  let a := s.asrcUse
  let s := (s.setF FAB_CREDIT.INUSE x).setF FAB_CREDIT.FREE (480 - x)
  let f := s.freeBufs.length
  let s := (s.setF NET_POOLSTAT.INUSE p).setF NET_POOLSTAT.FREE f
  let s := (s.setF CS_TOKENS.INUSE t).setF CS_TOKENS.FREE (4096 - t)
  let s := (s.setF ASRC_STAT.INUSE a).setF ASRC_STAT.FREE (1024 - a)
  let s := auditRings 3 true (auditRings 2 false (audit 1 p f 2048 (audit 0 x (480 - x) 480 s)))
  let s := audit 5 a (1024 - a) 1024 (audit 4 t (4096 - t) 4096 s)
  let pool := if s.role = 0 then 0 else 1
  audit 6 (leaseUse s) (pool - leaseUse s) pool s

/-- LEDGER_AUDIT_NO_TICK: 102,400 CLK_FAB cycles without a tick have passed (R48). -/
def execLedgerAuditNoTick (s : State) : Host.Outcome State Fault Refusal := finish (if s.tick then s else audits s)

/-! ### The boundary -/

/-- The chip processes nothing: FENCED (R714), a stand-in (R718), or in TAKEOVER before b0 (R723). -/
def resting (s : State) : Bool := s.role = 3 || s.mode = 6 || (s.mode = 7 && s.sti.b0.isNone)

/-- The input blocks of the shot that ends are complete in stage memory (R26). -/
def takeInputs (s : State) : State := rlInputs (allLaneInputs (allStreamInputs (allPortInputs s)))

/-- The deadline of every task that was due in the shot that ends (R30, R230). -/
def deadlines (s : State) : State :=
  ((s.cs.tasks.filter fun c => c.2.due).map (·.1)).foldl (fun s n => overrun n s) s

/-- Every logical engine's use of the shot that ends (R245). -/
def loads (s : State) : State :=
  let s := (List.range 16).foldl (fun s le =>
    let u := min (2 ^ 20 - 1) (smGet 0 s.cs.load le)
    (s.setF (CS_ELOAD.USED le) u).maxF (CS_EPEAK.MAX le) u) s
  s.onCs fun u => { u with load := [] }

/-- Every delay line's w as the shot that opens finds it (R214). -/
def latchLines (s : State) : State :=
  s.onCs fun u => { u with lines := u.lines.map fun c => (c.1, { c.2 with w0 := c.2.w }) }

/-- The shot counter at the boundary (R21), loaded with 0 at the first one after an entry to ACQUIRE without PTP (R23). -/
def count (s : State) : State :=
  if s.boot.loadZero then loadShot 0 ((s.setF CLK_STAT.PTPGRID 0).onBoot fun u => { u with loadZero := false }) else s.onShot (· + 1)

/-- The boundary timestamp, kept for the meter frames (R473, R530). -/
def stampShot (s : State) : State :=
  let s := boundaryTime s
  s.onDl fun u => { u with stamps := ((s.shot, s.ptp.shotSec, s.ptp.shotNs) :: u.stamps).take 64 }

/-- A word of a block about to be released reads 0 after a double-bit error (R577); a single-bit error is corrected. -/
def badWord (x : StageBad) (s : State) : State :=
  let area := if chSpace x.ch = 0 then 11 else if chSpace x.ch = 1 then 25 else if chIsOutput x.ch then 33 else 4
  let s := sramError x.err s
  if x.err.single || !s.hasBlk area x.ch then s else
  let b := s.blk area x.ch
  let b := if x.word < b.samples.length then { b with samples := setNth b.samples x.word 0 }
    else if x.word = b.samples.length then { b with bsw := 0 } else b
  s.onStage (blkPut (area * 65536 + x.ch) b)

/-- Every output block is released (R28). -/
def releaseAll (s : State) : State := rlReleases (allStreamReleases (allPortReleases (fadeBuses s)))

/-- The counters' part of a boundary (R691, R695). -/
def countShot (s : State) : State :=
  let s := if s.flag PCN_CTRL.SHOTSNAP then snapshot s else s
  countG 0x02 1 s

/-- The tasks of the shot that opens are armed now, or behind the take boundary that stands at the same instant (R218, R316). -/
def openShot (s : State) : State := armBoundary (s.onCs fun u => { u with armWait := true })

/-- The grid mark and the shot counter go out: a holder's over the STI (R707, R722), and those of a chip that transmits on its Reel links
over both (R704, R732). -/
def sendMark (s : State) : State :=
  let s := if s.role = 1 ∧ s.flag STI_STAT.LINK then s.out (.sti "MARK" [s.shot]) else s
  [0, 1].foldl (fun s k => if linkUpRl k s ∧ !s.hiZ then s.out (.rl k "MARK" [s.shot]) else s) s

/-- A shot boundary: `bad` are the words of released blocks that are read with a double-bit error. A holder that hands over releases
the token before any block is released (R716, R725). -/
def shotBoundary (bad : List StageBad) (s : State) : State :=
  if !s.tick then s else
  let s := if resting s then loads s else latchLines (shiftAreas (loads (deadlines (takeInputs s))))
  let s := sendMark (allRingEnables (stampShot (count s)))
  let s := if s.pairedHolder ∧ s.sti.handover = 2 then releaseToken s else s
  let s := if resting s then restUnits s
    else openShot (passStart (rlPartials (meterFeed (releaseAll (bad.foldl (fun s x => badWord x s) s)))))
  countShot (audits s)

/-- SHOT_BOUNDARY (R17). -/
def execShotBoundary (bad : List StageBad) (s : State) : Host.Outcome State Fault Refusal := finish (shotBoundary bad s)

end Sys2Proof.Machine
end

