-- ==== Sys2Proof/Machine/Cmd.lean ====
section
/-! DEFINITION. Command packets (chapter 14): the order of execution, holds, the checks of R631, sequence numbers, replies. The
bodies of the opcodes stand in the files named Cmd…, and Late.lean joins them to this. -/

namespace Sys2Proof.Machine

/-- What executing a packet's own checks and effect gives: status, DETAIL, reply payload, whether the reply is placed later, and the
state. -/
structure Res where
  st : Nat
  detail : Nat
  pay : List Word
  late : Bool
  s : State

/-- Executed. -/
def done (s : State) : Res := ⟨0, 0xFFFF, [], false, s⟩
/-- Executed, with a reply payload. -/
def doneWith (pay : List Word) (s : State) : Res := ⟨0, 0xFFFF, pay, false, s⟩
/-- Refused with status `st`. -/
def refuse (st : Nat) (s : State) : Res := ⟨st, 0xFFFF, [], false, s⟩
/-- Refused with status `st` for the entry that begins at payload word `i` (R633). -/
def refuseAt (st i : Nat) (s : State) : Res := ⟨st, i, [], false, s⟩
/-- Refused with `st`, or executed to `t` where `st` is 0. -/
def okOr (st : Nat) (s : State) (t : State) : Res := if st = 0 then done t else refuse st s

/-! ### Opcodes (R639) -/

/-- Is the opcode defined? -/
def opKnown (op : Nat) : Bool :=
  op = 0 || op = 1 || op = 0x10 || op = 0x11 || op = 0x20 || op = 0x21 || op = 0x30 || op = 0x31
  || (0x100 ≤ op && op ≤ 0x10B) || (0x200 ≤ op && op ≤ 0x202) || (0x300 ≤ op && op ≤ 0x302) || (0x400 ≤ op && op ≤ 0x405)
  || (0x500 ≤ op && op ≤ 0x502) || (0x600 ≤ op && op ≤ 0x601) || (0x700 ≤ op && op ≤ 0x702) || (0x800 ≤ op && op ≤ 0x801)
  || (0xF00 ≤ op && op ≤ 0xF03)

/-- LEN lies in the opcode's range (R639 and the chapters it names). -/
def lenOk (op : Nat) (p : List Word) : Bool :=
  let n := p.length
  let upTo := fun (lo : Nat) => lo ≤ n && n ≤ 1024
  match op with
  | 0x000 | 0x001 | 0x100 | 0x201 => n = 0
  | 0x010 | 0x011 | 0x10B | 0x202 | 0x800 | 0xF02 => n = 1
  | 0x020 | 0x031 | 0x401 | 0x402 | 0x403 | 0x404 | 0x501 | 0x502 | 0x600 => n = 3
  | 0x021 | 0x109 | 0x301 => upTo 3
  | 0x030 | 0xF03 => n = 2
  | 0x101 => n = 9
  | 0x102 | 0x103 | 0x302 | 0x700 => upTo 1
  | 0x104 => n = 17
  | 0x105 => upTo 3 && n % 2 = 1
  | 0x106 | 0x200 => n = 5
  | 0x107 => upTo 2 && n % 2 = 0
  | 0x108 => upTo 4 && n % 2 = 0
  | 0x10A | 0x405 | 0xF00 => upTo 2
  | 0x300 => upTo 3 && n % 3 = 0
  | 0x400 => n = 19
  | 0x500 => n = 21
  | 0x601 => n = 8
  | 0x701 => n = 2
  | 0x702 => n = 1
  | 0x801 => if bits (nAt p 0) 28 4 = 0 then n = 1 else 2 ≤ n && n ≤ 129
  | 0xF01 => n = 13
  | _ => true

/-- Opcodes that need a presence window (R639). -/
def gated (op : Nat) : Bool := op = 0x702 || op = 0x800 || op = 0xF00 || op = 0xF01 || op = 0xF02

/-- Opcodes refused with BUSY while a long operation of another transport runs (R644). -/
def longBusy (op : Nat) : Bool := op / 256 = 1 || op / 256 = 2 || op / 256 = 3 || op = 0xF00 || op = 0x702

/-- Opcodes held from the lock boundary until the copies of the take are complete (R313). -/
def heldByTake (op : Nat) : Bool :=
  (0x100 ≤ op && op ≤ 0x109) || op = 0x10B || op = 0x202 || (0x300 ≤ op && op ≤ 0x302)

/-! ### Sequence (R635, R636) -/

/-- d of R636: 0 while E is unset. -/
def seqDiff (h : CmdHdr) (s : State) : Int :=
  match (s.sess h.tr).e with
  | none => 0
  | some e => sgn 32 (lowBits 32 ((h.hseq : Int) - e))

/-- E of a transport. -/
def setE (tr e : Nat) (s : State) : State := onSess tr (fun x => { x with e := some (e % 2 ^ 32) }) s

/-- An MGMT packet from another source than the one that the session is bound to (R625). -/
def foreign (w : Waiting) (s : State) : Bool :=
  w.hdr.tr = 1 && (match s.cmd.mgmtSrc with | some b => b ≠ w.src | none => false)

/-- The packet is held (R265, R313): one that would execute, not one that is malformed, foreign or old. -/
def held (w : Waiting) (s : State) : Bool :=
  w.pre = 0 && w.ver && 0 ≤ seqDiff w.hdr s && !foreign w s
    && ((s.take.hold && heldByTake w.op) || ((w.op = 0x300 || w.op = 0x301) && !s.flag SPL_STAT.SLATE_READY))

/-! ### Whose turn it is (R614, R618, R644) -/

/-- The transport's packets cannot be served at this moment: its long operation or any transport's MODE_SET runs, its replies have no place,
or the Gaffer core is busy with the votes of a ring or restarts. -/
def trBusy (tr : Nat) (s : State) : Bool :=
  s.boot.gafferDown || s.take.voting.isSome
  || (match s.cmd.longOp with | some l => decide (l.tr = tr) | none => false)
  || s.cmd.modeReq.isSome
  || (tr = 0 && (!ringsRun s || ringFull 1 s)) || (tr = 2 && (16 ≤ s.cmd.spiQueue.length || !s.cmd.spiHeld.isEmpty))

/-- The waiting packets that can be executed, with their positions: each the first of its transport, not held. -/
def readyPackets (s : State) : List Waiting → List Nat → Nat → List (CmdHdr × Nat)
  | [], _, _ => []
  | w :: t, seen, i =>
    if !seen.contains w.hdr.tr ∧ !trBusy w.hdr.tr s ∧ !held w s then (w.hdr, i) :: readyPackets s t (w.hdr.tr :: seen) (i + 1)
    else readyPackets s t (w.hdr.tr :: seen) (i + 1)

/-- How many turns away a transport is, the last turn having been that of `last` (R614). -/
def turnsAway (last tr : Nat) : Nat := (tr + 2 - last) % 3

/-- The packet whose transport has its turn first. -/
def firstTurn (last : Nat) : List (CmdHdr × Nat) → Option (CmdHdr × Nat)
  | [] => none
  | x :: t =>
    match firstTurn last t with
    | none => some x
    | some y => if turnsAway last x.1.tr ≤ turnsAway last y.1.tr then some x else some y

/-- Position of the next packet to be executed: packets that have been held in order of arrival (R265, R313), the others by the
turns of their transports (R614). -/
def nextPacket (s : State) : Option Nat :=
  let l := readyPackets s s.cmd.waiting [] 0
  match l.find? fun x => s.cmd.heldQ.contains x.1 with
  | some x => some x.2
  | none => (firstTurn s.cmd.lastTr l).map (·.2)

/-- The packets that are held at this moment are noted. -/
def noteHeld (s : State) : State :=
  match (s.cmd.waiting.filter fun w => held w s && !s.cmd.heldQ.contains w.hdr).map (·.hdr) with
  | [] => s
  | l => s.onCmd fun u => { u with heldQ := u.heldQ ++ l }

/-! ### Replies outside the sequence, and replays (R625, R636) -/

/-- A reply that enters no replay cache (steps 1 to 3 of R631). -/
def answer (op : Nat) (h : CmdHdr) (st : Nat) (s : State) : State :=
  let ws := replyWords op h false (s.sess h.tr).dseq st 0xFFFF []
  placeWords h.tr ws (takeDseq h.tr s)

/-- The words of a cached reply as they are sent again: REPLAY set, the CRC formed anew (R636). -/
def replayWords (ws : List Word) : List Word :=
  let body := wd ((nAt ws 0) + 512) :: (ws.drop 1).dropLast
  body ++ [crcWords body]

/-- A packet whose HSEQ is old (R636). -/
def oldPacket (op : Nat) (h : CmdHdr) (d : Int) (s : State) : State :=
  match (s.sess h.tr).cache.find? (fun c => c.1 = h.hseq) with
  | some c => if -64 ≤ d then placeWords h.tr (replayWords c.2) s else answer op h 10 s
  | none => answer op h 10 s

/-! ### Execution -/

/-- Steps 4 to 8 of R631, and R644: 0 where the packet comes to its own checks. -/
def preStatus (w : Waiting) (s : State) : Nat :=
  if !w.ver ∨ !opKnown w.op then 1
  else if !w.flags then 3
  else if !lenOk w.op w.payload then 2
  else if w.op = 0xF02 ∧ s.fuse.sealFuse then 9
  else if gated w.op ∧ !s.flag CMD_STAT.PWIN then 8
  else if (match s.cmd.longOp with | some l => decide (l.tr ≠ w.hdr.tr) | none => false) && longBusy w.op then 5
  else 0

/-- The swap-window words that a SLICE_INIT names (R717). -/
def namedWords (p : List Word) (s : State) : List Word :=
  (List.range (p.length / 2)).flatMap fun i =>
    let x : SliceInit := ⟨wAt p (2 * i), wAt p (2 * i + 1)⟩
    x.image s

/-- The words that a forwarded packet brings with it (R717): those that a SLICE_INIT names, and the boundary of a TAKE. -/
def mirrorWords (op : Nat) (p : List Word) (s : State) : List Word :=
  if op = 0x107 then namedWords p s
  else if op = 0x200 then (match s.take.pending with | some t => [wd (t.sT.getD 0), wd (t.sT.getD 0 / 2 ^ 32)] | none => [])
  else []

/-- The state after a packet: nothing of it under CHECKONLY (R634) but the vote that it waits for; the group's generation count where
it changed state (R638), and its copy to the stand-in (R717). A packet that is answered later is executed then. -/
def settleRes (w : Waiting) (s : State) (r : Res) : State :=
  if r.late ∨ (r.st ≠ 0 ∧ !w.hdr.chk) then r.s
  else if w.hdr.chk then s
  else
    let t := if r.s = s then r.s else noteGen w.op r.s
    forward w.op w.payload (mirrorWords w.op w.payload t) t

/-- The reply to a packet of another source than the session's: it uses no sequence state of the session, and its device sequence
number is left open (R625, log entry 36). -/
def answerForeign (op : Nat) (h : CmdHdr) (s : State) : State :=
  let n := fresh Config.foreignSeq s
  placeWords h.tr (replyWords op h false n.1 6 0xFFFF []) n.2

/-- The MGMT session is bound to its first source, or moves to the source of a RESYNC, without what it held (R625, R635). -/
def bind (w : Waiting) (s : State) : State :=
  if w.hdr.tr ≠ 1 then s
  else if s.cmd.mgmtSrc.isNone then s.onCmd fun u => { u with mgmtSrc := some w.src }
  else if foreign w s then onSess 1 (fun x => { x with e := none, cache := [] }) (s.onCmd fun u => { u with mgmtSrc := some w.src })
  else s

/-- A packet that has its place in the sequence, or is a RESYNC: its checks, its effect and its reply. -/
def inOrder (body : Waiting → Bool → State → Res) (w : Waiting) (resync : Bool) (s : State) : State :=
  let h := w.hdr
  let gap := decide (0 < seqDiff h s) && !resync
  let s := if gap then s.incF CMD_ERR.GAP 1 else s
  let s := if resync ∧ h.chk then s else setE h.tr (h.hseq + 1) s
  let s := if resync ∧ !h.chk then onSess h.tr (fun x => { x with cache := [] }) s else s
  let st := if resync then 0 else preStatus w s
  if st ≠ 0 then placeReply w.op h gap st 0xFFFF [] s else
  let r := body w gap s
  let t := settleRes w s r
  if r.late then t else placeReply w.op h gap r.st r.detail r.pay t

/-- A packet has its turn: the turn is noted, and on MGMT where its reply goes (R614, R625). -/
def takeTurn (w : Waiting) (s : State) : State :=
  s.onCmd fun u => { u with
    lastTr := w.hdr.tr, heldQ := u.heldQ.filter (· ≠ w.hdr), mgmtDest := if w.hdr.tr = 1 then w.src else u.mgmtDest }

/-- A packet in its turn, with the opcodes' bodies `body` (R625, R631, R636). A RESYNC is executed at step 3 of R631, whatever its HSEQ
(R638; log entry 80). -/
def turn (body : Waiting → Bool → State → Res) (w : Waiting) (s : State) : State :=
  let h := w.hdr
  let s := takeTurn w s
  let resync := decide (w.op = 1)
  if w.pre ≠ 0 then answer w.op h w.pre s
  else if foreign w s ∧ !resync then answerForeign w.op h s
  else
    let s := if h.chk ∧ foreign w s then s else bind w s
    let d := seqDiff h s
    if d < 0 ∧ !resync then oldPacket w.op h d s else inOrder body w resync s

/-- Waiting packets are executed in their order, as far as their turn has come (R313, R614). The messages of a packet are accepted before
the next one begins (R614, R657). -/
def drainN (body : Waiting → Bool → State → Res) : Nat → State → State
  | 0, s => s
  | n + 1, s =>
    match nextPacket s with
    | none => noteHeld s
    | some i =>
      match s.cmd.waiting[i]? with
      | none => s
      | some w =>
        let t := turn body w (s.onCmd fun u => { u with waiting := u.waiting.eraseIdx i })
        drainN body n (if n ≠ 0 ∧ (nextPacket t).isSome then settle t else t)

/-- The transport takes packets: the block is past BOOT and the transport is enabled. -/
def trOpen (tr : Nat) (s : State) : Bool :=
  s.hostOpen && (match tr with | 0 => ringsRun s | 1 => s.flag CMD_CTRL.UDP_EN | 2 => s.flag CMD_CTRL.SPI_EN | _ => false)

/-- Packets of a transport that wait. -/
def waitingOf (tr : Nat) (s : State) : Nat := (s.cmd.waiting.filter fun w => w.hdr.tr = tr).length

/-- A packet that has passed steps 1 and 2 arrives: a seventeenth waiting datagram and a packet that finds RXREADY at 0 are dropped
and counted (R624, R627); the others wait for their turn. -/
def enter (w : Waiting) (s : State) : State :=
  if !trOpen w.hdr.tr s then s
  else if w.hdr.tr = 1 ∧ 16 ≤ waitingOf 1 s then s.incF CMD_DROP.UDP 1
  else if w.hdr.tr = 2 ∧ 16 ≤ s.cmd.spiQueue.length then s.incF CMD_DROP.SPI 1
  else s.onCmd fun u => { u with waiting := u.waiting ++ [w] }

end Sys2Proof.Machine
end

