-- ==== Sys2Proof/Machine/CmdSlate.lean ====
section
/-! DEFINITION. Commands of the slate, take and routing groups (chapters 05, 06 and 07). -/

namespace Sys2Proof.Machine

/-- Place of the first element that satisfies `p`. -/
def firstBad {α : Type} (p : α → Bool) (l : List α) : Option Nat := l.findIdx? p

/-- Executed to `t`, unless that would break the pending take (R312). -/
def unlessBreaks (s t : State) : Res := if breaksTake s t then refuse 6 s else done t

/-- The entry at fault where the entries `l` of a list, each with its DETAIL and executed by `f` from `u` on, break the pending take: the
last one before which the take was in order (R312, R633; log entry 197). -/
def breakAt {α : Type} (f : α → State → State) (s : State) : List (Nat × α) → State → Nat → Nat
  | [], _, best => best
  | x :: t, u, best =>
    let v := f x.2 u
    breakAt f s t v (if !breaksTake s u && breaksTake s v then x.1 else best)

/-- The entries `l` of a list are executed to `t`, or refused at the entry that breaks the pending take (R312, R633). -/
def unlessEntryBreaks {α : Type} (f : α → State → State) (l : List (Nat × α)) (s t : State) : Res :=
  if breaksTake s t then refuseAt 6 (breakAt f s l s 0xFFFF) s else done t

/-! ### SLATE_REVERT (R155, R215, R216, R297) -/

/-- The settings of a delay line that no take has committed are discarded, and with them what they claimed. -/
def revertLine (i : Nat) (s : State) : State :=
  let l := s.line i
  match l.slate with
  | none => s
  | some n =>
    let s := onLine i (fun l => { l with slate := none }) s
    match l.live with
    | some c =>
      if c.base = n.base then sizeLineClaim i c.base (max c.len (l.staged.getD 0)) s
      else releaseRange (fun m => m.owner = 1 && m.id = i && m.base = lineBase n.base) s
    | none => releaseRange (fun m => m.owner = 1 && m.id = i && m.base = lineBase n.base) s

/-- The target of a discarded recast is SPARE again (R155). -/
def dropRecast (r : Recast) (s : State) : State :=
  if r.target < 18 ∧ (s.engState r.target = 4 ∨ s.engState r.target = 6) then s.setF (ENG_STAT.STATE r.target) 3 else s

/-- The coefficient pages, the arithmetic mode and the Dailies fields of the slate return to their live values. -/
def revertEngine (e : Nat) (s : State) : State :=
  let p := s.livePage e
  let s := copyBytes (pageBase e !p) (pageBase e p) 0x10000 s
  (s.setF (ENG_STAT.SLATE_DIRTY e) 0).setF (ENG_CTRL.ACCWRAP e) (b2n (s.engine e).accwrapLive)

/-- Every descriptor of the live graph is in the slate graph again, and no other (R297). -/
def revertTasks (s : State) : State :=
  s.onCs fun u => { u with tasks := (u.tasks.filter fun c => c.2.live || 4096 ≤ c.1).map fun c =>
    (c.1, { c.2 with slate := c.1 < 4096 && inLive c.2 }) }

/-- Every kind of slate content returns to the live state (R297). -/
def revertSlate (s : State) : State :=
  let s := (List.range 18).foldl (fun s e => revertEngine e s) s
  let s := (s.onSpl fun u => { u with slate := [] }).setF SPL_STAT.SLATE_DIRTY 0
  let s := revertTasks s
  let s := (s.cs.lines.map (·.1)).foldl (fun s i => revertLine i s) s
  let s := s.take.recasts.foldl (fun s r => dropRecast r s) s
  let s := s.onTake fun u => { u with patchSlate := [], slices := [], recasts := [] }
  revertLanes s

/-- SLATE_REVERT (R297). -/
def cmdSlateRevert (s : State) : Res := if s.take.pending.isSome then refuse 5 s else done (revertSlate s)

/-! ### TASK_WRITE (R38, R203 to R211, R226, R236, R299, R734, R763, R804) -/

/-- A descriptor's words as a task of the slate graph. -/
def slateTask (ws : List Word) : TaskD := { TaskD.free with words := ws, slate := true, st := 1 }

/-- Reserved bits of the words of a descriptor (R202). -/
def taskReserved : List Nat := [0x007000FF, 0x0003FE00, 0xFFF00000, 0xFFF00000, 0xE000FF00, 0xE000FF00, 0xE000FF00, 0xFFFFFFFF]

/-- The fields of a descriptor are in error (R203). -/
def taskFieldsBad (t : TaskD) (s : State) : Bool :=
  (taskReserved.zipIdx.any fun m => nAt t.words m.2 &&& m.1 ≠ 0)
  || 1 < t.stage
  || !([1, 2, 4, 8, 16, 32, 64, 128] : List Nat).contains t.period || t.period ≤ t.phase
  || t.budget = 0 || admitLimit (s.getF CS_RESERVE.PCT) s < t.budget
  || ([0, 1, 2].any fun k => t.count k ≠ 0 && 8192 < t.first k + t.count k)
  || (t.count 2 ≠ 0 && !t.yieldOk)

/-- Kinds that a list takes (R804). -/
def kindOk (k : Nat) (x : Xfer) : Bool :=
  match k with
  | 0 => x.kind = 1 || x.kind = 4 || x.kind = 6
  | 1 => x.kind = 2 || x.kind = 5 || x.kind = 7 || x.kind = 3
  | _ => x.kind = 4 || x.kind = 5 || x.kind = 6 || x.kind = 7

/-- An entry of a list names a kind that the list does not take. -/
def taskKindsBad (t : TaskD) (s : State) : Bool := [0, 1, 2].any fun k => (listOf t k s).any fun x => !kindOk k x

/-- The lanes that an entry serves lie in LANEMASK (R208). -/
def lanesOk (t : TaskD) (x : Xfer) : Bool := (List.range x.count).all fun j => bitOf t.laneMask (x.lane0 + j)

/-- The block or the samples of an entry end inside the slice (R103, R208, R210); an entry of the Y slice that begins below its first word,
where the rule names the end alone, is refused too: DESIGN CHOICE (log entry 184). -/
def sliceOk (x : Xfer) (s : State) : Bool :=
  let size := if x.kind = 4 ∨ x.kind = 5 then s.n else s.n + 1
  if x.slice then 0x4000 ≤ x.sladdr && x.sladdr + size ≤ 0x5000 else x.sladdr + size ≤ 0x2000

/-- Channels that an IN or OUT entry of the stage may name (R210). -/
def chanOk (t : TaskD) (x : Xfer) (ch : Nat) (s : State) : Bool :=
  chValid ch s &&
  (if x.kind = 1 then (if t.stage = 0 then chIsInput ch || chSpace ch = 1 else chSpace ch = 1)
   else (if t.stage = 0 then chSpace ch = 0 else chSpace ch = 1 || chIsOutput ch))

/-- The designated inputs of an OUT entry are lanes that the named IN entry serves (R210). -/
def bswOk (t : TaskD) (x : Xfer) (s : State) : Bool :=
  (t.bswMode && x.bswref = 0xFF) ||
  (x.bswref < t.count 0 &&
    (let i := s.xfer (t.first 0 + x.bswref)
     i.kind = 1 && i.lane0 ≤ x.bswlane && x.bswlane + x.count ≤ i.lane0 + i.count))

/-- A delay line is set, live or in the slate (R210). -/
def lineSet? (i : Nat) (s : State) : Bool := i < 2048 && ((s.line i).live.isSome || (s.line i).slate.isSome)

/-- Two tasks may notify one another: same stage, PERIOD and PHASE (R210). -/
def samePace (a b : TaskD) : Bool := a.stage = b.stage && a.period = b.period && a.phase = b.phase

/-- One entry of a descriptor is in order (R208, R210). -/
def entryOk (t : TaskD) (x : Xfer) (s : State) : Bool :=
  if x.kind = 3 then x.chan < 4096 && (s.task x.chan).slate && samePace (s.task x.chan) t
  else
    lanesOk t x && sliceOk x s &&
    (let chans := (List.range x.count).map fun j => x.chan + j
     if x.kind = 1 then chans.all fun c => chanOk t x c s
     else if x.kind = 2 then (chans.all fun c => chanOk t x c s) && bswOk t x s
     else if x.kind = 4 ∨ x.kind = 5 then chans.all fun c => lineSet? c s
     else chans.all fun c => c < poolBlocks s)

/-- The entries of every list of a descriptor. -/
def allEntries (t : TaskD) (s : State) : List Xfer := [0, 1, 2].flatMap fun k => listOf t k s

/-- Tasks that a task notifies. -/
def notifies (t : TaskD) (s : State) : List Nat := ((allEntries t s).filter (·.kind = 3)).map (·.chan)

/-- Tasks of the slate graph reached over NOTIFY edges in at most `k` more steps from `l`. -/
def reached (s : State) : Nat → List Nat → List Nat
  | 0, l => l
  | k + 1, l => reached s k (nubNat (l ++ l.flatMap fun n => if (s.task n).slate then notifies (s.task n) s else []))

/-- The NOTIFY entries of task `n`, written as `t`, close a cycle, or a task that notifies it keeps another pace (R210, R211). -/
def notifyBad (n : Nat) (t : TaskD) (s : State) : Bool :=
  (reached s s.cs.tasks.length (notifies t s)).contains n
  || (s.cs.tasks.any fun c => c.1 < 4096 && c.2.slate && (notifies c.2 s).contains n && !samePace c.2 t)

/-- A transmit channel to which a forwarding map passes blocks (R734). -/
def forwardedTx (ch : Nat) (s : State) : Bool :=
  (chSpace ch = 9 && s.rl.fwd0.contains (chIndex ch)) || (chSpace ch = 7 && s.rl.fwd1.contains (chIndex ch))

/-- A DEST counts as patched (R299). -/
def patched (ch : Nat) (s : State) : Bool :=
  livePatch ch s != 0xFFFF || (match entryOf s.take.patchSlate ch with | some src => src != 0xFFFF | none => false)

/-- Channels that the OUT entries of a task name. -/
def outChans (t : TaskD) (s : State) : List Nat :=
  ((allEntries t s).filter (·.kind = 2)).flatMap fun x => (List.range x.count).map fun j => x.chan + j

/-- The first status that applies to a TASK_WRITE of task `n` with descriptor `t`: the checks of chapter 05 in its order, then those
of other chapters by rule (log entry 32). -/
def taskStatus (n : Nat) (t : TaskD) (s : State) : Nat :=
  let s' := onTask n (fun _ => t) s
  if 4096 ≤ n ∨ taskFieldsBad t s then 3
  else if (s.task n).live ∨ (s.task n).slate then 6
  else if (allEntries t s).any (fun x => !entryOk t x s) ∨ taskKindsBad t s ∨ notifyBad n t s then 3
  else if 9 < (tasksWith (fun x => x.slate && x.logeng = t.logeng && x.yieldOk) s').length ∨ !slateFits s' then 7
  else if (allEntries t s).any (fun x => (x.kind = 6 || x.kind = 7) && poolTop s < x.chan + x.count) then 7
  else if (outChans t s).any (fun c => patched c s) then 6
  else if breaksTake s s' then 6
  else if (outChans t s).any (fun c => forwardedTx c s) then 6
  else if (s.physOf t.logeng).isNone then 7
  else 0

/-- TASK_WRITE (R203). -/
def cmdTaskWrite (p : List Word) (s : State) : Res :=
  let n := nAt p 0
  let t := slateTask (p.drop 1)
  okOr (taskStatus n t s) s (onTask n (fun _ => t) s)

/-- A task leaves the slate graph: one that is not live becomes free (R205). -/
def dropTask (n : Nat) (s : State) : State :=
  if (s.task n).live then onTask n (fun t => { t with slate := false }) s else freeTask n s

/-- TASK_DROP (R205, R236). Its entries are judged by the state before the command, so that a task number may stand twice in its list:
DESIGN CHOICE (log entry 183). -/
def cmdTaskDrop (p : List Word) (s : State) : Res :=
  match firstBad (fun w => !(w.toNat < 4096 && (s.task w.toNat).slate)) p with
  | some i => refuseAt 3 i s
  | none =>
    let t := p.foldl (fun s w => dropTask w.toNat s) s
    if slateFits t then unlessEntryBreaks (fun (w : Word) s => dropTask w.toNat s) (p.zipIdx.map fun x => (x.2, x.1)) s t else refuse 7 s

/-- TASK_REARM (R234). -/
def cmdTaskRearm (p : List Word) (s : State) : Res :=
  match firstBad (fun w => !(w.toNat < 4096 && (s.task w.toNat).live)) p with
  | some i => refuseAt 3 i s
  | none => done (p.foldl (fun s w => onTask w.toNat (fun t => { t with ovr := 0, st := if t.st = 7 then 2 else t.st }) s) s)

/-! ### Images and transfer entries (R204, R207, R295, R805) -/

/-- A descriptor in a graph. -/
def inGraph (t : TaskD) : Bool := t.live || t.slate || t.outgoing

/-- AIMG_WRITE (R204, R295). -/
def cmdAimgWrite (p : List Word) (s : State) : Res :=
  let k := nAt p 0
  if 512 ≤ k then refuse 3 s
  else if s.cs.tasks.any (fun c => inGraph c.2 && c.2.aimg = k) then refuse 6 s
  else
    let vals := (p.drop 1).flatMap fun w => [BitVec.ofNat 16 w.toNat, BitVec.ofNat 16 (w.toNat / 65536)]
    done (s.onCs fun u => { u with aimg := smPut (List.replicate 32 0) k vals u.aimg })

/-- The entry of words `w` breaks R805. -/
def xferBad (w : Word × Word) : Bool :=
  let x := xferOf w
  x.kind = 0 || 8 ≤ x.kind || bits w.1.toNat 16 4 ≠ 0 || bits w.2.toNat 0 5 ≠ 0
  || (if x.kind = 3 then x.count ≠ 0 || x.lane0 ≠ 0 || x.slice || x.sladdr ≠ 0
      else x.count = 0 || 8 < x.lane0 + x.count)
  || (x.kind ≠ 2 && (x.bswref ≠ 0 || x.bswlane ≠ 0))

/-- Transfer entry `i` is named by a descriptor in a graph (R295). -/
def xferNamed (i : Nat) (s : State) : Bool :=
  s.cs.tasks.any fun c => inGraph c.2 && [0, 1, 2].any fun k => c.2.first k ≤ i && i < c.2.first k + c.2.count k

/-- The pairs of words of a list. -/
def pairs : List Word → List (Word × Word)
  | a :: b :: t => (a, b) :: pairs t
  | _ => []

/-- XFER_WRITE (R295, R805). -/
def cmdXferWrite (p : List Word) (s : State) : Res :=
  let k := nAt p 0
  let l := (pairs (p.drop 1)).zipIdx
  match firstBad (fun x => xferBad x.1 || 8192 ≤ k + x.2) l with
  | some i => refuseAt 3 (1 + 2 * i) s
  | none =>
    match firstBad (fun x => xferNamed (k + x.2) s) l with
    | some i => refuseAt 6 (1 + 2 * i) s
    | none => done (l.foldl (fun s x => s.onCs fun u => { u with xfer := smPut (0, 0) (k + x.2) x.1 u.xfer }) s)

/-! ### LINE_SET (R213 to R216, R594, R599) -/

/-- The fields of a LINE_SET are in error (R213, R215). -/
def lineBad (i base len delay : Nat) (s : State) : Bool :=
  2048 ≤ i || base % 64 ≠ 0 || len % s.n ≠ 0 || len < s.n || 2 ^ 24 < len || delay < s.n || len < delay
  || base < 0x100000000 || 0x100000000 + s.ddrBytes < base + 64 * lineUnits len
  || (match (s.line i).live with
      | some c => c.base = base && (c.len < delay || (match (s.line i).staged with | some x => decide (x < delay) | none => false))
      | none => false)

/-- A LINE_SET on an unchanged base: its claim grows to the longest length that the line may still have (R215). -/
def lineKeep (i : Nat) (c x : LineSet) (s : State) : Res :=
  let len := max (max c.len ((s.line i).staged.getD 0)) x.len
  let r := claimRange ⟨1, i, lineBase c.base, lineUnits len⟩ s
  if r.1 = 6 then ⟨6, 0xFFFF, [], false, r.2⟩
  else done (onLine i (fun l => { l with slate := some x }) (sizeLineClaim i c.base len (revertLine i s)))

/-- A LINE_SET on a new base claims its range (R213, R216). -/
def lineMove (i : Nat) (x : LineSet) (s : State) : Res :=
  let c : MemClaim := ⟨1, i, lineBase x.base, lineUnits x.len⟩
  let r := claimRange c (revertLine i s)
  if r.1 = 0 then done (onLine i (fun l => { l with slate := some x }) r.2)
  else if r.1 = 6 then ⟨6, 0xFFFF, [], false, (claimRange c s).2⟩
  else refuse r.1 s

/-- LINE_SET (R213). -/
def cmdLineSet (p : List Word) (s : State) : Res :=
  let i := nAt p 0
  let x : LineSet := ⟨nAt p 1 + 2 ^ 32 * nAt p 2, nAt p 3, nAt p 4⟩
  if lineBad i x.base x.len x.delay s then refuse 3 s
  else if !s.flag DDR_STAT.READY then refuse 7 s
  else match (s.line i).live with
    | some c =>
      if c.base = x.base then lineKeep i c x s
      else if overlap (lineBase x.base) (lineUnits x.len) (lineBase c.base) (lineUnits (max c.len ((s.line i).staged.getD 0)))
        then refuse 6 s
      else lineMove i x s
    | none => lineMove i x s

/-! ### SLICE_INIT, CODE_LOAD, COEF_WRITE (R105, R109, R143, R300, R301, R763) -/

/-- Words of an image. -/
def SliceInit.size (x : SliceInit) : Nat := x.lanes.length * x.count

/-- An entry breaks R301, where `used` words of images stand before it in the slate. -/
def sliceInitBad (x : SliceInit) (used : Nat) : Bool :=
  bits x.w0.toNat 16 3 ≠ 0 || bits x.w1.toNat 30 2 ≠ 0 || x.lanes.isEmpty || x.count = 0 || 8192 < x.count
  || (x.isY && x.sladdr < 0x4000)
  || (if x.isY then 0x5000 < x.sladdr + x.count else 0x2000 < x.sladdr + x.count)
  || 65536 < x.swapw + x.size || 65536 < used + x.size

/-- Place of the first entry that breaks R301. -/
def sliceInitFault : List SliceInit → Nat → Nat → Option Nat
  | [], _, _ => none
  | x :: t, used, i => if sliceInitBad x used then some i else sliceInitFault t (used + x.size) (i + 1)

/-- SLICE_INIT (R300). -/
def cmdSliceInit (p : List Word) (s : State) : Res :=
  let l := (pairs p).map fun w => (⟨w.1, w.2⟩ : SliceInit)
  match sliceInitFault l ((s.take.slices.map (·.size)).sum) 0 with
  | some i => refuseAt 3 (2 * i) s
  | none =>
    match firstBad (fun x => (s.physOf x.logeng).isNone) l with
    | some i => refuseAt 7 (2 * i) s
    | none => done (s.onTake fun u => { u with slices := u.slices ++ l })

/-- CODE_LOAD (R143, R763): the range holds the entry point of no task of the logical engine. -/
def cmdCodeLoad (p : List Word) (s : State) : Res :=
  let le := nAt p 0
  let k := nAt p 1
  let n := (p.length - 2) / 2
  if 16 ≤ le ∨ 16384 < k + n then refuse 3 s
  else if s.cs.tasks.any (fun c => inGraph c.2 && c.2.logeng = le && k ≤ c.2.entry && c.2.entry < k + n) then refuse 6 s
  else match s.physOf le with
    | none => refuse 7 s
    | some e => done (writeWords (engWin e + 8 * k) (p.drop 2) s)

/-- COEF_WRITE: a host write to the slate view (R109, R763). -/
def cmdCoefWrite (p : List Word) (s : State) : Res :=
  let le := nAt p 0
  let k := nAt p 1
  if 16 ≤ le ∨ 16384 < k + (p.length - 2) then refuse 3 s
  else match s.physOf le with
    | none => refuse 7 s
    | some e => done (hostWrites (engWin e + 0x80000 + 4 * k) (p.drop 2) s)

/-! ### XP_SET and XP_ROW (R36, R257 to R266) -/

/-- The length in samples of a crosspoint word 0 and LEN word (R259). -/
def xpLen (w0 w2 : Nat) (s : State) : Nat := bits w2 0 16 * (if bitOf w0 8 then s.n else 1)

/-- Crosspoint entries are written in order; the first one that would raise the held fade entries above 65,536 is refused with
NOHEADROOM (R36, R262). The peak of R292 follows each. Entries: DETAIL, crosspoint and value. -/
def xpPut : List (Nat × Nat × SlateGain) → State → Nat ⊕ State
  | [], s => .inr s
  | (i, k, g) :: t, s =>
    let s' := xpWrite k g s
    if fadeTable < xpHeld s' ∧ xpHeld s < xpHeld s' then .inl i else xpPut t (notePeakFades s')

/-- The entries of a crosspoint command are executed (R260, R266, R312). -/
def xpCommand (l : List (Nat × Nat × SlateGain)) (s : State) : Res :=
  match xpPut l s with
  | .inl i => refuseAt 7 i s
  | .inr t =>
    unlessEntryBreaks (fun (x : Nat × SlateGain) s => (xpWrite x.1 x.2 s).setF SPL_STAT.SLATE_DIRTY 1) l s (t.setF SPL_STAT.SLATE_DIRTY 1)

/-- An XP_SET entry breaks R258. -/
def xpBad (w0 w2 : Nat) (s : State) : Bool :=
  bits w0 0 8 ≠ 0 || bits w2 16 16 ≠ 0 || bits w2 0 16 = 0 || s.taps ≤ bits w0 20 12 || s.buses ≤ bits w0 10 10

/-- Key of the crosspoint of a word 0. -/
def xpKey (w0 : Nat) (s : State) : Nat := bits w0 20 12 * s.buses + bits w0 10 10

/-- XP_SET (R257). -/
def cmdXpSet (p : List Word) (s : State) : Res :=
  let ks := List.range (p.length / 3)
  match firstBad (fun k => xpBad (nAt p (3 * k)) (nAt p (3 * k + 2)) s) ks with
  | some k => refuseAt 3 (3 * k) s
  | none =>
    xpCommand (ks.map fun k =>
      let w0 := nAt p (3 * k)
      (3 * k, xpKey w0 s, ⟨wAt p (3 * k + 1), bitOf w0 9, xpLen w0 (nAt p (3 * k + 2)) s⟩)) s

/-- XP_ROW (R258). -/
def cmdXpRow (p : List Word) (s : State) : Res :=
  let w0 := nAt p 0
  let w2 := nAt p 1
  let gs := p.drop 2
  if bits w0 0 8 ≠ 0 ∨ s.taps ≤ bits w0 20 12 ∨ s.buses ≤ bits w0 10 10 then refuseAt 3 0 s
  else if bits w2 16 16 ≠ 0 ∨ bits w2 0 16 = 0 then refuseAt 3 1 s
  else if s.buses < bits w0 10 10 + gs.length then refuseAt 3 (2 + (s.buses - bits w0 10 10)) s
  else xpCommand (gs.zipIdx.map fun x => (2 + x.2, xpKey w0 s + x.2, ⟨x.1, bitOf w0 9, xpLen w0 w2 s⟩)) s

/-! ### PATCH_SET (R66, R298, R299, R734) -/

/-- An entry names no DEST and SRC of R298. -/
def patchBad (w : Word) (s : State) : Bool :=
  let d := w.toNat / 65536
  let x := w.toNat % 65536
  !(chValid d s && chIsOutput d)
  || !(x = 0xFFFF || (chValid x s && (chSpace x = 0 || chSpace x = 1 || chIsInput x)))

/-- An entry's DEST has another writer (R299, R734). -/
def patchTaken (w : Word) (s : State) : Bool :=
  let d := w.toNat / 65536
  (s.cs.tasks.any fun c => inGraph c.2 && (outChans c.2 s).contains d) || forwardedTx d s

/-- An entry of a PATCH_SET in the slate. -/
def putPatch (w : Word) (s : State) : State :=
  s.onTake fun u => { u with patchSlate := keyPut (w.toNat / 65536) (w.toNat % 65536) u.patchSlate }

/-- PATCH_SET (R298). -/
def cmdPatchSet (p : List Word) (s : State) : Res :=
  match firstBad (fun w => patchBad w s) p with
  | some i => refuseAt 3 i s
  | none =>
    match firstBad (fun w => patchTaken w s) p with
    | some i => refuseAt 6 i s
    | none => unlessEntryBreaks putPatch (p.zipIdx.map fun x => (x.2, x.1)) s (p.foldl (fun s w => putPatch w s) s)

/-! ### RECAST (R328, R763) -/

/-- The engine that serves a logical engine once the recasts under way have ended. -/
def servedBy (le : Nat) (s : State) : Option Nat :=
  match s.take.dissRecasts.find? (fun r => r.logical = le) with
  | some r => some r.target
  | none => match s.take.cutRecasts.find? (fun c => c.r.logical = le) with
    | some c => some c.r.target
    | none => s.physOf le

/-- RECAST: one of the same logical engine that waits is replaced (log entry 33). Where the target is not SPARE and no engine is
SPARE either, BADARG comes before NOHEADROOM (R328): DESIGN CHOICE (log entry 171). -/
def cmdRecast (p : List Word) (s : State) : Res :=
  let le := bits (nAt p 0) 0 4
  let t := bits (nAt p 0) 8 5
  match servedBy le s with
  | none => refuse 3 s
  | some src =>
    if t ≠ 0x1F ∧ ¬(t < 18 ∧ s.engState t = 3) then refuse 3 s
    else match (if t = 0x1F then spareEngine s else some t) with
      | none => refuse 7 s
      | some tgt =>
        let old := s.take.recasts.filter fun r => r.logical = le
        let u := old.foldl (fun s r => dropRecast r s) s
        let u := u.onTake fun v => { v with recasts := v.recasts.filter fun r => r.logical ≠ le }
        unlessBreaks s (startRecast le src tgt false u)

/-! ### TAKE and TAKE_CANCEL (R303 to R311, R333, R634) -/

/-- The chip is the master of a ring of two or more chips. -/
def asksRing (s : State) : Bool := s.getF RL_STAT.STATE = 2 && 2 ≤ s.getF RL_STAT.SIZE && s.flag RL_STAT.MASTER

/-- TAKE (R309): in a ring the votes decide, for a check too (R634). -/
def cmdTake (h : CmdHdr) (gap : Bool) (p : List Word) (s : State) : Res :=
  let st := takeCheck true p s
  let t := takeOf p ((takeShot p s).map Int.toNat)
  if st ≠ 0 then refuse st (s.incF SYS_TAKE_REFUSED.REFUSED 1)
  else if asksRing s then ⟨0, 0xFFFF, [], true, askRing h gap t s⟩
  else if h.chk then doneWith (takeWords t s ++ [wd (takeKind t.forcecut s)]) s
  else doneWith (takeWords t s) (s.onTake fun u => { u with pending := some t })

/-- TAKE_CANCEL (R311). -/
def cmdTakeCancel (s : State) : Res :=
  match s.take.pending with
  | none => refuse 3 s
  | some t =>
    let ring := s.getF RL_STAT.STATE = 2
    if ring ∧ !s.flag RL_STAT.MASTER then refuse 6 s
    else if t.locked || (match t.sT with | some b => decide (b ≤ s.shot + 1) | none => false) then refuse 11 s
    else done (abandonTake 0 (if ring then s.out (.rl 1 "ABANDON" []) else s))

end Sys2Proof.Machine
end

