-- ==== Sys2Proof/Machine/CmdPort.lean ====
section
/-! DEFINITION. Commands of the ports, streams and timing groups (chapters 08, 09, 10 and 12). -/

namespace Sys2Proof.Machine

/-! ### The timing words of R640 -/

/-- Status, boundary and trigger that the timing words name; `used` holds the bits of word 0 that the command gives a meaning. A boundary
already past is LATE, and a trigger must be armed to start ports (R368). -/
def timing (used : Nat) (p : List Word) (s : State) : Nat × Option Nat × Option Nat :=
  let w0 := nAt p 0
  let w1 := nAt p 1
  let w2 := nAt p 2
  if w0 &&& (used ||| 0x3000) ≠ w0 then (3, none, none)
  else match bits w0 12 2 with
    | 0 => if w1 = 0 ∧ w2 = 0 then (0, some s.nextShot, none) else (3, none, none)
    | 1 =>
      if 65536 ≤ w2 then (3, none, none)
      else if w1 + 2 ^ 32 * w2 ≤ s.shot then (11, none, none) else (0, some (w1 + 2 ^ 32 * w2), none)
    | 2 =>
      if w1 < 32 ∧ w2 = 0 ∧ s.getF (CLP_TCFG.ACTION w1) = 2 ∧ s.flag (CLP_TCFG.EN w1) then (0, none, some w1) else (3, none, none)
    | _ => (3, none, none)

/-! ### Serial ports (R368 to R373, R386 to R388) -/

/-- PORT_CFG (R388). -/
def cmdPortCfg (p : List Word) (s : State) : Res :=
  let k := nAt p 0
  if 64 ≤ k then refuse 3 s else
  let cfg := nAt p 1 &&& 0xFF800000
  let nch := nAt p 2 &&& 0x3F3F
  let im := ((p.drop 3).take 8).map fun w => wd (w.toNat &&& 0x1F1F1F1F)
  let om := ((p.drop 11).take 8).map fun w => wd (w.toNat &&& 0x1F1F1F1F)
  let st := portCheck k cfg nch im om s
  if st ≠ 0 then refuse st (spCfg k s) else
  let b := 0x50000 + k * 0x100
  let s := (s.setReg b (wd cfg)).setReg (b + 0x14) (wd nch)
  let s := im.zipIdx.foldl (fun s x => s.setReg (b + 0x20 + 4 * x.2) x.1) s
  done (om.zipIdx.foldl (fun s x => s.setReg (b + 0x40 + 4 * x.2) x.1) s)

/-- The directions that a PORT_START or PORT_STOP names. -/
def portDirs (w : Nat) : List Bool := (if bitOf w 8 then [false] else []) ++ (if bitOf w 9 then [true] else [])

/-- The first direction whose start is refused, with its status. -/
def portStartFault (k : Nat) (ds : List Bool) (s : State) : Option (Bool × Nat) :=
  (ds.map fun d => (d, portStartStatus k d s)).find? fun x => x.2 ≠ 0

/-- PORT_START and PORT_STOP (R368, R369, R373, R640). -/
def cmdPortTime (start : Bool) (p : List Word) (s : State) : Res :=
  let k := nAt p 0 % 64
  let ds := portDirs (nAt p 0)
  let (st, shot, trig) := timing 0x33F p s
  if ds.isEmpty then refuse 3 s
  else if st ≠ 0 then refuse st s
  else match (if start then portStartFault k ds s else none) with
    | some (d, st) => refuse st (startRefused k d st s)
    | none => done (ds.foldl (fun s d => schedulePort k d start shot trig s) s)

/-- CG_CFG (R386, R387). -/
def cmdCgCfg (p : List Word) (s : State) : Res :=
  let g := nAt p 0
  let w := nAt p 1 &&& 0xFFFFE000
  let tol := nAt p 2
  if 16 ≤ g ∨ tol = 0 ∨ 10000 < tol then refuse 3 s else
  let st := cgCheck g w s
  if st ≠ 0 then refuse st (cgRefused g st s) else done ((groupCands g (cgApply g w s)).setF (CG_RATETOL.PPM g) tol)

/-! ### Dailies (R451, R452, R464, R465, R471) -/

/-- DL_LANE (R451). -/
def cmdDlLane (p : List Word) (s : State) : Res :=
  let l := nAt p 0 % 32
  let start := bitOf (nAt p 0) 8
  let (st, shot, trig) := timing 0x11F p s
  if st ≠ 0 then refuse st s
  else
    let st := if start then laneStartStatus l s else 0
    if st ≠ 0 then refuse st (laneRefused l st s) else done (scheduleLane l start shot trig s)

/-- Point `i` takes word `w` at the next period start; a word that changes nothing resets nothing (R471). -/
def setPoint (i : Nat) (w : Word) (s : State) : State :=
  s.onDl fun u =>
    let l := u.pend.filter fun x => x.1 ≠ i
    { u with pend := if (smGet PointU.reset u.points i).desc = w then l else l ++ [(i, w)] }

/-- METER_SET (R465). -/
def cmdMeterSet (p : List Word) (s : State) : Res :=
  let k := nAt p 0
  let l := (p.drop 1).zipIdx
  match firstBad (fun x => 4096 ≤ k + x.2 || !pointOk x.1 s) l with
  | some i => refuseAt 3 (1 + i) s
  | none => done (l.foldl (fun s x => setPoint (k + x.2) x.1 s) s)

/-! ### Streams (R414 to R421, R433) -/

/-- STREAM_CFG (R414). -/
def cmdStreamCfg (p : List Word) (s : State) : Res :=
  let c := nAt p 0
  okOr (ctxCheck c (p.drop 1) s) s (onCtx c (fun u => { u with words := p.drop 1 }) s)

/-- The context is enabled once every accepted command has acted. -/
def ctxEnabled (c : Nat) (s : State) : Bool :=
  match (s.net.reqs.filter fun x => x.1 = c).getLast? with
  | some x => x.2.start
  | none => (s.ctx c).st ≠ 0

/-- Status of a command that starts context `c`: CONFLICT where it is enabled already; else as the state without its run gives it. -/
def streamStartStatus (c : Nat) (s : State) : Nat := if ctxEnabled c s then 6 else streamStartCheck c (stopCtx c s)

/-- A start refused with `st`: a claim that stands is reported (R16). -/
def streamRefused (c st : Nat) (s : State) : State :=
  if st = 6 then raise 0x02 0 (2 * 2 ^ 24 + (claimedChan c (s.ctx c) (stopCtx c s)).getD (s.ctx c).first) s else s

/-- STREAM_START and STREAM_STOP (R433). -/
def cmdStreamTime (start : Bool) (p : List Word) (s : State) : Res :=
  let c := nAt p 0 % 1024
  let (st, shot, trig) := timing 0x3FF p s
  if st ≠ 0 then refuse st s
  else
    let st := if start then streamStartStatus c s else 0
    if st ≠ 0 then refuse st (streamRefused c st s)
    else done (s.onNet fun u => { u with reqs := u.reqs ++ [(c, ⟨false, start, shot, trig⟩)] })

/-! ### Time (R534, R556, R557, R564) -/

/-- TIME_SET (R534). -/
def cmdTimeSet (p : List Word) (s : State) : Res :=
  if 1000000000 ≤ nAt p 0 ∨ 65536 ≤ nAt p 2 then refuse 3 s
  else if s.flag PTP_STAT.SERVOVALID ∨ ringFollower s then refuse 6 s
  else done (s.onPtp fun u => { u with timeSet := some (nAt p 1 + 2 ^ 32 * nAt p 2, nAt p 0) })

/-- CLAP_TRIG: the registers of a trigger are written together, and it is armed where EN is set (R556, R557, R564). -/
def cmdClapTrig (p : List Word) (s : State) : Res :=
  let i := nAt p 0
  let ws := p.drop 1
  let w := nAt ws 0 &&& 0xFFFCFFFF
  if 32 ≤ i then refuse 3 s
  else if !bitOf w 31 then
    if !s.flag (CLP_TCFG.EN i) then done (putTrigRegs i ws s)
    else if trigNamed i s then refuse 5 s
    else done (putTrigRegs i ws (releaseTrig i s))
  else
    let st := trigCheck i w (nAt ws 2 + 2 ^ 32 * (nAt ws 3 % 65536)) (nAt ws 1) (nAt ws 4) (nAt ws 6) s
    if st ≠ 0 then refuse st (trigRefused i w st s) else done (armTrig i w (putTrigRegs i ws s))

end Sys2Proof.Machine
end

