-- ==== Sys2Proof/Machine/CmdSys.lean ====
section
/-! DEFINITION. Commands of the system, fault, role and maintenance groups (chapters 01, 13 to 17) and the scene store. -/

namespace Sys2Proof.Machine

/-! ### PING, RESYNC, NOTIFY_SUB (R638, R639, R641) -/

/-- CRC-32C over the numbers of the tasks that satisfy `p`, ascending, as words (R638). -/
def taskDigest (p : TaskD → Bool) (s : State) : Word :=
  crcWords (((s.cs.tasks.filter fun c => c.1 < 4096 && p c.2).map (·.1)).map wd)

/-- The digest of RESYNC (R638). -/
def digest (s : State) : List Word :=
  let sT := match s.take.pending with | some t => t.sT.getD 0 | none => 0
  let w0 := s.mode + 256 * b2n s.take.pending.isSome + 512 * b2n s.take.hold + 1024 * b2n s.take.dissolve.isSome
    + 65536 * s.getF CMD_STAT.PWIN + 131072 * b2n s.fuse.sealFuse
  [wd w0, wd s.shot, wd (s.shot / 2 ^ 32), wd (s.getF SYS_TAKE_CNT.COUNT), wd sT, wd (sT / 2 ^ 32 % 65536),
    taskDigest inLive s, taskDigest (·.slate) s]
  ++ (List.range 3).map (fun tr => wd ((s.sess tr).e.getD 0))
  ++ (List.range 3).map (fun tr => wd (s.sess tr).dseq)
  ++ (List.range 16).map (fun g => wd (s.cmd.gens.getD g 0))

/-- NOTIFY_SUB (R641). -/
def cmdNotifySub (h : CmdHdr) (p : List Word) (s : State) : Res :=
  done (onSess h.tr (fun x => { x with mask := nAt p 0 + 2 ^ 32 * nAt p 1 }) s)

/-! ### Register writes that a command returns a status for (R16, R369, R370, R413, R449, R451, R785) -/

/-- Status of a command for the word `v` that it writes at address `a`: that of the refusal where the write is refused with one, else
OK. -/
def writeStatus (a v : Nat) (s : State) : Nat :=
  let k := a % 0x10000
  if !s.hostOpen ∨ (regRow a).isNone then 0
  else if a = 0x63008 then (if anyStream s then 5 else 0)
  else if a / 0x10000 = 7 ∧ k < 0x10 then dlCkStatus (k / 4) v s
  else if a / 0x10000 = 7 ∧ 0x100 ≤ k ∧ k < 0x300 ∧ k % 0x10 = 0 then
    let l := (k - 0x100) / 0x10
    if bitOf v 31 ∧ !s.flag (DL_LCFG.EN l) then laneStartStatus l (s.setReg (0x70100 + 0x10 * l) (wd (v &&& 0x78000000))) else 0
  else if a / 0x10000 = 5 ∧ k < 0x4000 ∧ k % 0x100 = 4 then
    let p := k / 0x100
    let st := if bitOf v 31 ∧ !s.dirEn false p then portStartStatus p false s else 0
    if st ≠ 0 then st else if bitOf v 30 ∧ !s.dirEn true p then portStartStatus p true s else 0
  else if a / 0x10000 = 5 ∧ 0x4000 ≤ k ∧ k < 0x4200 ∧ k % 0x20 = 0 then cgCheck ((k - 0x4000) / 0x20) (v &&& 0xFFFFE000) s
  else if a / 0x10000 = 2 ∧ 0x400 ≤ k ∧ k < 0x800 ∧ k % 0x20 = 0 then
    let i := (k - 0x400) / 0x20
    if !bitOf v 31 then (if s.flag (CLP_TCFG.EN i) ∧ trigNamed i s then 5 else 0)
    else trigCheck i (v &&& 0xFFFCFFFF) (s.getF (CLP_TT1.SEC i) + 2 ^ 32 * s.getF (CLP_TT2.SEC i)) (s.getF (CLP_TT0.NS i))
      (s.getF (CLP_TPER.NS i)) (s.getF (CLP_TCNT.COUNT i)) s
  else if a / 0x10000 = 2 ∧ 0x800 ≤ k ∧ k < 0xA00 ∧ k % 0x20 = 0 then
    let c := (k - 0x800) / 0x20
    if !bitOf v 31 ∨ bits v 29 2 = 0 then 0
    else if s.flag (CLP_CCFG.EN c) then
      (if bits v 0 5 = s.getF (CLP_CCFG.SRC c) ∧ bits v 29 2 = s.getF (CLP_CCFG.EDGE c) then 0 else 6)
    else ballStatus (gpioBall (bits v 0 5)) s
  else if a = 0x10048 then (if bitOf v 31 ∧ !s.flag CLK_MCLK.EN then ballStatus 160 s else 0)
  else if a = 0xE0010 then
    (((List.range 32).filter fun n => bitOf v n && !bitOf (s.getF PIN_GPIO_EN.CLAIM) n).map fun n => ballStatus (gpioBall n) s).foldl
      (fun a x => if a = 0 then x else a) 0
  else 0

/-- The first of the words written from address `a` on whose write is refused with a status: its address, the word and the status. -/
def firstRefusal (a : Nat) : List Word → State → Option (Nat × Word × Nat)
  | [], _ => none
  | w :: t, s =>
    let st := writeStatus a w.toNat s
    if st = 0 then firstRefusal (a + 4) t (hostWrite a w s) else some (a, w, st)

/-! ### CONFIGURE (R18 to R20) -/

/-- What depends on rate, shot length and shape is cleared (R19). -/
def clearLive (s : State) : State :=
  let s := revertSlate s
  let s := (s.cs.tasks.map (·.1)).foldl (fun s n => freeTask n s) s
  let s := s.onCs fun u => { u with aimg := [], xfer := [], lines := [], conceal := [] }
  let s := releaseRange (fun m => m.owner = 1) s
  let s := s.onSpl fun u => { u with live := [], slate := [], commit := [], commitDue := false, fades := [], bad := [], xgain := 0, xremain := 0 }
  let s := s.setF SPL_STAT.LIVESET 0
  let s := s.onTake fun u => { u with patch := [], patchSlate := [], patchOld := [] }
  let s := s.onDl fun u => { u with points := [], pend := [] }
  let s := s.onRl fun u => { u with bmap := [], fwd0 := [], fwd1 := [], fwdBlk := [] }
  s.onStage fun _ => []

/-- CONFIGURE (R18, R19). Stage memory holds no blocks of the old layout afterwards. -/
def cmdConfigure (p : List Word) (s : State) : Res :=
  let w := nAt p 0
  let rate := bits w 0 2
  let shape := if rate = 0 then bits w 4 1 else 0
  if s.mode ≠ 2 then refuse 5 s
  else if rate = 3 then refuse 3 s
  else
    let same := s.getF SYS_CFG.RATE = rate && s.getF SYS_CFG.SHOT = bits w 2 2 && s.getF SYS_CFG.SHAPE = shape
    if same then done (s.setF SYS_CFG.VALID 1)
    else
      let s := clearLive s
      let s := ((s.setF SYS_CFG.RATE rate).setF SYS_CFG.SHOT (bits w 2 2)).setF SYS_CFG.SHAPE shape
      done (startRing (showAdmit (s.setF SYS_CFG.VALID 1)))

/-! ### MODE_SET (R751, R754, R757, R765) -/

/-- MODE_SET: while a tick runs, or while a follower waits for its ring, it waits and is answered when it takes effect. -/
def cmdModeSet (h : CmdHdr) (gap : Bool) (p : List Word) (s : State) : Res :=
  let m := bits (nAt p 0) 0 4
  let st := modeSetStatus m s
  let wait := s.onCmd fun u => { u with modeReq := some (m, h, gap) }
  if st ≠ 0 then refuse st s
  else if h.chk then done s
  else if m = 0 then done (applyModeSet 0 s)
  else if m = 3 ∧ ringFollower s then ⟨0, 0xFFFF, [], true, wait.onSti fun u => { u with acquireWait := true }⟩
  else if s.tick then ⟨0, 0xFFFF, [], true, wait⟩
  else done (standbyRing (applyModeSet m s))

/-! ### MEM_READ, MEM_WRITE, MEM_CLAIM (R39 to R41, R577, R599, R639) -/

/-- Device address in two payload words (R639). -/
def cmdAddr (p : List Word) : Nat := nAt p 0 + 2 ^ 32 * (nAt p 1 % 256)

/-- A word access of `n` words at an address: aligned, and inside the address space. -/
def spanOk (a n : Nat) : Bool := a % 4 = 0 && a + 4 * n ≤ 2 ^ 40

/-- MEM_READ. -/
def cmdMemRead (h : CmdHdr) (p : List Word) (bad : List BadRead) (s : State) : Res :=
  let a := cmdAddr p
  let n := nAt p 2
  if n = 0 ∨ 1024 < n ∨ !spanOk a n then refuse 3 s
  else if h.chk then done s
  else
    let r := hostReads a bad n s
    doneWith r.1 r.2

/-- MEM_WRITE: every word is written as a write of the host is; where one is refused with a status, the command returns it, and no
other word has an effect (R413, R449, R631, R639). -/
def cmdMemWrite (p : List Word) (s : State) : Res :=
  if !spanOk (cmdAddr p) (p.length - 2) then refuse 3 s else
  match firstRefusal (cmdAddr p) (p.drop 2) s with
  | none => done (hostWrites (cmdAddr p) (p.drop 2) s)
  | some (a, w, st) => refuse st (hostWrite a w s)

/-- MEM_CLAIM (R599). -/
def cmdMemClaim (p : List Word) (s : State) : Res :=
  let base := nAt p 1
  let len := nAt p 2
  if len = 0 ∨ s.ddrBytes < 64 * (base + len) then refuse 3 s
  else if bitOf (nAt p 0) 0 then
    let mine := fun (m : MemClaim) => m.owner = 0 && m.base = base && m.len = len
    if s.fab.claims.any (fun c => mine c.2) then done (releaseRange mine s) else refuse 3 s
  else if !s.flag DDR_STAT.READY then refuse 7 s
  else
    let r := claimRange ⟨0, 0, base, len⟩ s
    if r.1 = 0 then done r.2 else ⟨r.1, 0xFFFF, [], false, r.2⟩

/-! ### FAULT_CFG, LOG_READ, LOG_ERASE_PERM (R644, R663, R686 to R688) -/

/-- A FAULT_CFG entry is in error. -/
def faultBad (w : Word) : Bool :=
  w.toNat &&& 0x00FF0033 ≠ w.toNat || (sevDefault (bits w.toNat 16 8)).isNone || srcFixed (bits w.toNat 16 8)

/-- FAULT_CFG (R663). -/
def cmdFaultCfg (p : List Word) (s : State) : Res :=
  match firstBad faultBad p with
  | some i => refuseAt 3 i s
  | none => done (p.foldl (fun s w =>
      let k := bits w.toNat 16 8
      (s.setF (FLT_CFG.REACT k) (bits w.toNat 4 2)).setF (FLT_CFG.SEV k) (bits w.toNat 0 2)) s)

/-- LOG_READ (R686, R687). -/
def cmdLogRead (p : List Word) (s : State) : Res :=
  let circ := nAt p 0 = 1
  let off := nAt p 1
  let inside := if circ then 0x40000 ≤ off && off < 0x200000 else off < 0x40000
  if 1 < nAt p 0 then refuse 3 s
  else if off ≠ 0xFFFFFFFF ∧ ¬(off % 8 = 0 ∧ inside) then refuse 3 s
  else
    let at_ := if off = 0xFFFFFFFF then (if circ then s.getF LOG_OLDEST.OFF else 0) else off
    let head := if circ then s.getF LOG_CHEAD.OFF else s.getF LOG_PHEAD.OFF
    doneWith (logWalk circ head 270000 at_ 0 0 [] s) s

/-- A long operation begins (R644). -/
def beginLong (op arg : Nat) (h : CmdHdr) (s : State) : State :=
  (s.onCmd fun u => { u with longOp := some ⟨op, h.tr, h.hseq, 0, 0xFFFF, arg⟩ }).setF CMD_STAT.LONGOP 1

/-- LOG_ERASE_PERM (R688). -/
def cmdLogErase (h : CmdHdr) (p : List Word) (s : State) : Res :=
  if nAt p 0 ≠ 0x10E50001 then refuse 3 s else done (beginLong 0x702 0 h (eraseStart s))

/-! ### ROLE_SET and RING_CFG (R716, R734, R735, R741) -/

/-- ROLE_SET (R716). -/
def cmdRoleSet (p : List Word) (s : State) : Res :=
  let a := nAt p 0
  if 4 ≤ a then refuse 3 s
  else okOr (roleSetStatus a s) s (standbyRing (applyRoleSet a s))

/-- The word of the ring map for bus `b`, from the words that follow word 0. -/
def mapNibble (ws : List Word) (i : Nat) : Nat := bits (nAt ws (i / 8)) (4 * (i % 8)) 4

/-- RING_CFG SUB 1: RING and OWNER of each bus (R735). -/
def ringMap (first : Nat) (ws : List Word) (s : State) : State :=
  (List.range (8 * ws.length)).foldl (fun s i => s.onRl fun u => { u with bmap := smPut 0 (first + i) (mapNibble ws i) u.bmap }) s

/-- Channel `first + i` is named in the forwarding bitmap. -/
def mapBit (ws : List Word) (i : Nat) : Bool := bitOf (nAt ws (i / 32)) (i % 32)

/-- A forwarding bitmap replaces its part of a map. -/
def mapPut (first : Nat) (ws : List Word) (l : List Nat) : List Nat :=
  (l.filter fun c => !(first ≤ c && c < first + 32 * ws.length))
    ++ ((List.range (32 * ws.length)).filter fun i => mapBit ws i).map (first + ·)

/-- Some channel that the bitmap names is written by an OUT entry or has a patch (R734). -/
def mapTaken (space first : Nat) (ws : List Word) (s : State) : Bool :=
  let written := (s.cs.tasks.filter fun c => inGraph c.2).flatMap fun c => outChans c.2 s
  (List.range (32 * ws.length)).any fun i =>
    mapBit ws i && (written.contains (space * 4096 + first + i) || patched (space * 4096 + first + i) s)

/-- What an accepted RING_CFG writes: SUB, the rest of word 0 and the words that follow. -/
def ringSet (sub x : Nat) (ws : List Word) (s : State) : State :=
  match sub with
  | 0 => startRing (s.onRl fun u => { u with size := x })
  | 1 => startRing (ringMap x ws s)
  | 2 => s.onRl fun u => { u with fwd0 := mapPut x ws u.fwd0 }
  | _ => s.onRl fun u => { u with fwd1 := mapPut x ws u.fwd1 }

/-- RING_CFG (R741): the ring forms anew where its size or map is written. -/
def cmdRingCfg (p : List Word) (s : State) : Res :=
  let w := nAt p 0
  let sub := w / 2 ^ 28
  let x := w % 2 ^ 28
  let ws := p.drop 1
  if s.mode ≠ 2 then refuse 5 s
  else match sub with
    | 0 => if 8 < x ∨ x = 1 then refuse 3 s else done (ringSet 0 x ws s)
    | 1 =>
      if 4096 ≤ x ∨ x % 8 ≠ 0 ∨ s.buses < x + 8 * ws.length then refuse 3 s else done (ringSet 1 x ws s)
    | 2 =>
      if 4096 ≤ x ∨ x % 32 ≠ 0 ∨ netChans s < x + 32 * ws.length then refuse 3 s
      else if mapTaken 9 x ws s then refuse 6 s else done (ringSet 2 x ws s)
    | 3 =>
      if 4096 ≤ x ∨ x % 32 ≠ 0 ∨ netChans s < x + 32 * ws.length then refuse 3 s
      else if mapTaken 7 x ws s then refuse 6 s else done (ringSet 3 x ws s)
    | _ => refuse 3 s

/-! ### FW_UPDATE, PROVISION, SEAL (R646 to R649) -/

/-- Words written to the eMRAM from an offset that is a multiple of 4. -/
def mramWords (off : Nat) (ws : List Word) (s : State) : State :=
  if off % 8 = 4 then
    match ws with
    | [] => s
    | x :: t => mramWrite (off + 4) t (mramDword (off - 4) (mramNow (mramBase + off - 4) s) x s)
  else mramWrite off ws s

/-- The patch bank that is not running: B where A runs, else A (log entry 34). -/
def idleBank (s : State) : Bool := s.getF SYS_BOOT.IMG = 1

/-- eMRAM offset of a patch bank (R648). -/
def bankOff (b : Bool) : Nat := if b then 0xEC0000 else 0xE00000

/-- FW_UPDATE (R649): FIRST invalidates the bank, LAST starts verification. -/
def cmdFwUpdate (h : CmdHdr) (p : List Word) (s : State) : Res :=
  let w := nAt p 0
  let b := idleBank s
  let off := bits w 0 18
  if 0x30000 < off + (p.length - 1) then refuse 3 s else
  let s := if bitOf w 31 then mramWords (bankOff b) [0] s else s
  let s := mramWords (bankOff b + 4 * off) (p.drop 1) s
  done (if bitOf w 30 then beginLong 0xF00 (b2n b) h s else s)

/-- PROVISION (R647): a revocation writes no hash. -/
def cmdProvision (p : List Word) (s : State) : Res :=
  let k := bits (nAt p 0) 0 1
  let key := s.fuse.keys.getD k ⟨false, false, List.replicate 12 0⟩
  let put := fun (x : KeySlot) => done (logEvent 0xE5 [nAt p 0, 0] (s.onFuse fun u => { u with keys := putNth ⟨false, false, List.replicate 12 0⟩ u.keys k x }))
  if bitOf (nAt p 0) 1 then put { key with revoked := true }
  else if key.written then refuse 6 s
  else put { key with written := true, hash := p.drop 1 }

/-- SEAL (R646). -/
def cmdSeal (p : List Word) (s : State) : Res :=
  if nAt p 0 ≠ 0x5EA10001 then refuse 3 s else done (logEvent 0xE4 [] (s.onFuse fun u => { u with sealFuse := true }))

/-! ### REPAIR_SET (R769) -/

/-- Status of REPAIR_SET. -/
def repairStatus (p : List Word) (s : State) : Nat :=
  let x := nAt p 1
  if s.mode ≠ 10 then 5
  else match nAt p 0 with
    | 0 => if 18 ≤ x then 3 else if repairRetired x s then 6 else if 4092 ≤ s.fab.repair.length then 7 else 0
    | 1 => if 18 ≤ x ∨ !repairRetired x s then 3 else 0
    | 2 => if 2 ^ 26 ≤ x then 3 else if 2 ≤ sparesUsed (x / 65536) s ∨ 4092 ≤ s.fab.repair.length then 7 else 0
    | _ => 3

/-- The engine's KIND 3 entries leave the table; the record shows the first of them. -/
def restoreEngine (e : Nat) (s : State) : State :=
  let out := fun (x : List Word) => repKind x = 3 && repInst x = e
  let gone := (s.fab.repair.find? out).getD []
  logEvent 0xE9 (gone.map (·.toNat)) (writeRepair (s.fab.repair.filter fun x => !out x) s)

/-- REPAIR_SET (R769). -/
def cmdRepairSet (p : List Word) (s : State) : Res :=
  let x := nAt p 1
  let t := match nAt p 0 with
    | 0 => addRepair (repEntry 3 3 x 0 0 s) s
    | 1 => restoreEngine x s
    | _ => addRepair (repEntry 1 3 (x / 65536) (x % 65536) (sparesUsed (x / 65536) s) s) s
  okOr (repairStatus p s) s (t.incF REP_STAT.PENDING 1)

/-! ### The scene store (R650, R651) -/

/-- eMRAM offset of scene slot `k`. -/
def sceneOff (k : Nat) : Nat := 0x200000 + k * 0x40000

/-- The words of the first packet of a stream, where LEN and CRC hold and VERSION and OPCODE are known (R631 steps 1, 2 and 4). -/
def storedPacket (ws : List Word) : Option (List Word) :=
  let n := nAt ws 2 / 65536 + 4
  let w := ws.take n
  if nAt ws 2 / 65536 ≤ 1024 ∧ n ≤ ws.length ∧ crcWords w.dropLast = w.getLastD 0 ∧ nAt ws 0 % 256 = 1 ∧ opKnown (nAt ws 0 / 65536)
  then some w else none

/-- Opcodes that a scene may store (R650). -/
def sceneOp (op : Nat) : Bool := (op / 256 = 1 && op ≠ 0x10A && op ≠ 0x10B) || op / 256 = 3

/-- The stored packets of a stream of words that begins at payload word `i`: the packets, or the place of the first breach. -/
def storedPackets : Nat → Nat → List Word → Nat ⊕ List (List Word)
  | 0, _, _ => .inr []
  | fuel + 1, i, ws =>
    if ws.isEmpty then .inr [] else
    match storedPacket ws with
    | none => .inl i
    | some w =>
      if !sceneOp (nAt w 0 / 65536) then .inl i
      else match storedPackets fuel (i + w.length) (ws.drop w.length) with
        | .inl k => .inl k
        | .inr l => .inr (w :: l)

/-- The stream of a slot as it is being written: words and packets so far. -/
def sceneAt (k : Nat) (s : State) : Option (Nat × Nat) := (s.cmd.scenes.find? fun c => c.1 = k).map (·.2)

/-- SCENE_WRITE (R650): a packet without FIRST goes on with a slot that a FIRST has opened since reset (log entry 35). -/
def cmdSceneWrite (p : List Word) (s : State) : Res :=
  let w := nAt p 0
  let k := bits w 0 6
  let first := bitOf w 31
  let skip := if first then 9 else 1
  if 48 ≤ k ∨ p.length < skip ∨ (!first ∧ (sceneAt k s).isNone) then refuse 3 s else
  let body := p.drop skip
  match storedPackets 1025 skip body with
  | .inl i => refuseAt 3 i s
  | .inr l =>
    let at_ := if first then (0, 0) else (sceneAt k s).getD (0, 0)
    if 0x40000 - 64 < 4 * (at_.1 + body.length) then refuse 7 s else
    let o := sceneOff k
    let s := if first then mramWords (o + 24) ([0, 0] ++ (p.drop 1).take 8) (mramWords o [0] s) else s
    let s := mramWords (o + 64 + 4 * at_.1) body s
    let n := at_.1 + body.length
    let c := at_.2 + l.length
    if bitOf w 30 then
      let crc := crcWords ((List.range n).map fun i => mramNow (mramBase + o + 64 + 4 * i) s)
      let s := mramWords (o + 4) [wd (4 * n), wd c, crc, wd s.boot.life.opsec, wd s.boot.life.cycle] s
      done ((mramWords o [1] s).onCmd fun u => { u with scenes := u.scenes.filter fun x => x.1 ≠ k })
    else done (s.onCmd fun u => { u with scenes := (k, n, c) :: u.scenes.filter fun x => x.1 ≠ k })

/-- The stream of a valid slot whose CRC matches (R651). -/
def sceneStream (k : Nat) (s : State) : Option (List Word) :=
  let a := mramBase + sceneOff k
  let len := (s.word (a + 4)).toNat
  let ws := s.wordsAt (a + 64) (len / 4)
  if s.word a = 1 ∧ len % 4 = 0 ∧ len ≤ 0x40000 - 64 ∧ crcWords ws = s.word (a + 12) then some ws else none

/-- SCENE_LOAD (R651). -/
def cmdSceneLoad (h : CmdHdr) (p : List Word) (s : State) : Res :=
  let k := nAt p 0
  if s.take.pending.isSome then refuse 5 s
  else if 48 ≤ k ∨ (sceneStream k s).isNone then refuse 3 s
  else done (beginLong 0x10B k h s)

/-! ### The opcodes together (R639) -/

/-- The effect of a packet of the slate group 0x01, of 0x02 and of 0x03. -/
def slateBody (w : Waiting) (gap : Bool) (s : State) : Res :=
  let p := w.payload
  match w.op with
  | 0x100 => cmdSlateRevert s
  | 0x101 => cmdTaskWrite p s
  | 0x102 => cmdTaskDrop p s
  | 0x103 => cmdTaskRearm p s
  | 0x104 => cmdAimgWrite p s
  | 0x105 => cmdXferWrite p s
  | 0x106 => cmdLineSet p s
  | 0x107 => cmdSliceInit p s
  | 0x108 => cmdCodeLoad p s
  | 0x109 => cmdCoefWrite p s
  | 0x10A => cmdSceneWrite p s
  | 0x10B => cmdSceneLoad w.hdr p s
  | 0x200 => cmdTake w.hdr gap p s
  | 0x201 => cmdTakeCancel s
  | 0x202 => cmdRecast p s
  | 0x300 => cmdXpSet p s
  | 0x301 => cmdXpRow p s
  | _ => cmdPatchSet p s

/-- The effect of a packet of the groups from 0x04 on. -/
def unitBody (w : Waiting) (s : State) : Res :=
  let p := w.payload
  match w.op with
  | 0x400 => cmdPortCfg p s
  | 0x401 => cmdPortTime true p s
  | 0x402 => cmdPortTime false p s
  | 0x403 => cmdCgCfg p s
  | 0x404 => cmdDlLane p s
  | 0x405 => cmdMeterSet p s
  | 0x500 => cmdStreamCfg p s
  | 0x501 => cmdStreamTime true p s
  | 0x502 => cmdStreamTime false p s
  | 0x600 => cmdTimeSet p s
  | 0x601 => cmdClapTrig p s
  | 0x700 => cmdFaultCfg p s
  | 0x701 => cmdLogRead p s
  | 0x702 => cmdLogErase w.hdr p s
  | 0x800 => cmdRoleSet p s
  | 0x801 => cmdRingCfg p s
  | 0xF00 => cmdFwUpdate w.hdr p s
  | 0xF01 => cmdProvision p s
  | 0xF02 => cmdSeal p s
  | _ => cmdRepairSet p s

/-- The effect of a packet that has passed steps 1 to 8 of R631: its own checks (step 9), then what it does. -/
def opBody (w : Waiting) (gap : Bool) (s : State) : Res :=
  let p := w.payload
  match w.op with
  | 0 => done s
  | 1 => doneWith (digest s) s
  | 0x10 => cmdConfigure p s
  | 0x11 => cmdModeSet w.hdr gap p s
  | 0x20 => cmdMemRead w.hdr p w.bad s
  | 0x21 => cmdMemWrite p s
  | 0x30 => cmdNotifySub w.hdr p s
  | 0x31 => cmdMemClaim p s
  | _ => if w.op / 256 < 4 then slateBody w gap s else unitBody w s

/-! ### Outcome of long operations (R644, R649, R651, R688) -/

/-- The stored packets of a scene are executed in order, as packets of transport `tr`; at the first refusal the slate is reverted. The
state, the status and DETAIL. -/
def runScene (tr : Nat) : List (List Word) → Nat → State → State × Nat × Nat
  | [], _, s => (s, 0, 0xFFFF)
  | ws :: t, i, s =>
    let fl := nAt ws 0 / 256 % 256
    let w : Waiting := ⟨nAt ws 0 / 65536, ⟨tr, nAt ws 1, nAt ws 2 % 65536, fl % 2 = 1⟩, true, decide (fl < 2),
      (ws.drop 3).dropLast, 0, [], 0⟩
    let st := preStatus w s
    let r := if st = 0 then opBody w false s else refuse st s
    if r.st = 0 then runScene tr t (i + 1) (settleRes w s r) else (revertSlate r.s, r.st, i)

/-- A firmware image is verified (R649): status, and its record. -/
def verifyImage (b : Bool) (s : State) : State × Nat × Nat :=
  let st := if bankValid b s && s.boot.fwSeq < bankSeq b s then 0 else 3
  (logEvent 0xE3 [bankSeq b s, st * 65536 + b2n b] s, st, 0xFFFF)

/-- The work of a long operation comes to its end. -/
def endLong (l : LongOp) (s : State) : State × Nat × Nat :=
  match l.op with
  | 0x10B => match sceneStream l.arg s with
    | some ws => match storedPackets (ws.length + 1) 0 ws with
      | .inr ps => runScene l.tr ps 0 s
      | .inl _ => (s, 3, 0xFFFF)
    | none => (s, 3, 0xFFFF)
  | 0xF00 => verifyImage (l.arg = 1) s
  | _ => (eraseEnd s, 0, 0xFFFF)

/-- The running long operation completes, and its outcome goes out as OP_DONE. -/
def opDone (s : State) : State :=
  match s.cmd.longOp with
  | none => s
  | some l =>
    let r := endLong l s
    let s := (r.1.onCmd fun u => { u with longOp := none }).setF CMD_STAT.LONGOP 0
    notify 0x800A [l.op, l.hseq, r.2.1 * 65536 + r.2.2] s

end Sys2Proof.Machine
end

