-- ==== Sys2Proof/Machine/Late.lean ====
section
/-! DEFINITION. Arrival of command packets on the three transports (R613 to R631), the command rows of the opcode table, and the
events after which waiting packets are executed. -/

namespace Sys2Proof.Machine

/-- Packets that wait are executed in order as far as their turn has come (R313, R614). -/
def serve (s : State) : State := drainN opBody s.cmd.waiting.length s

/-- A packet arrives and waits for its turn. -/
def receive (w : Waiting) (s : State) : State := serve (enter w s)

/-- A well-formed packet of opcode `op` arrives on its transport; on MGMT from the source that the session is bound to. -/
def arrive (op : Nat) (h : CmdHdr) (p : List Word) (bad : List BadRead) (s : State) : State :=
  receive ⟨op, h, true, true, p, s.cmd.mgmtSrc.getD 0, bad, 0⟩ s

/-- A command row. -/
def arrived (op : Nat) (h : CmdHdr) (p : List Word) (s : State) : Host.Outcome State Fault Refusal := finish (arrive op h p [] s)

/-- The payload with bits [lsb + w − 1 : lsb] of word 0 set to `v`. -/
def withBits (lsb w v : Nat) (p : List Word) : List Word := setNth p 0 (fldPut (wAt p 0) lsb w v)

/-! ### Rows 0 to 53 of the opcode table -/

/-- PING (R639). -/
def execPing (h : CmdHdr) (p : List Word) (s : State) : Host.Outcome State Fault Refusal := arrived 0x000 h p s
/-- RESYNC (R638). -/
def execResync (h : CmdHdr) (p : List Word) (s : State) : Host.Outcome State Fault Refusal := arrived 0x001 h p s
/-- CONFIGURE (R18). -/
def execConfigure (h : CmdHdr) (p : List Word) (s : State) : Host.Outcome State Fault Refusal := arrived 0x010 h p s
/-- MODE_SET (R751). -/
def execModeSet (h : CmdHdr) (p : List Word) (s : State) : Host.Outcome State Fault Refusal := arrived 0x011 h p s
/-- MEM_READ (R639); `bad` are words that the read finds with a double-bit error (R577). -/
def execMemRead (h : CmdHdr) (p : List Word) (bad : List BadRead) (s : State) : Host.Outcome State Fault Refusal :=
  finish (arrive 0x020 h p bad s)
/-- MEM_WRITE (R639). -/
def execMemWrite (h : CmdHdr) (p : List Word) (s : State) : Host.Outcome State Fault Refusal := arrived 0x021 h p s
/-- NOTIFY_SUB (R641). -/
def execNotifySub (h : CmdHdr) (p : List Word) (s : State) : Host.Outcome State Fault Refusal := arrived 0x030 h p s
/-- MEM_CLAIM (R599). -/
def execMemClaim (h : CmdHdr) (p : List Word) (s : State) : Host.Outcome State Fault Refusal := arrived 0x031 h p s
/-- SLATE_REVERT (R297). -/
def execSlateRevert (h : CmdHdr) (p : List Word) (s : State) : Host.Outcome State Fault Refusal := arrived 0x100 h p s
/-- TASK_WRITE (R203). -/
def execTaskWrite (h : CmdHdr) (p : List Word) (s : State) : Host.Outcome State Fault Refusal := arrived 0x101 h p s
/-- TASK_DROP (R205). -/
def execTaskDrop (h : CmdHdr) (p : List Word) (s : State) : Host.Outcome State Fault Refusal := arrived 0x102 h p s
/-- TASK_REARM (R234). -/
def execTaskRearm (h : CmdHdr) (p : List Word) (s : State) : Host.Outcome State Fault Refusal := arrived 0x103 h p s
/-- AIMG_WRITE (R204). -/
def execAimgWrite (h : CmdHdr) (p : List Word) (s : State) : Host.Outcome State Fault Refusal := arrived 0x104 h p s
/-- XFER_WRITE (R805). -/
def execXferWrite (h : CmdHdr) (p : List Word) (s : State) : Host.Outcome State Fault Refusal := arrived 0x105 h p s
/-- LINE_SET (R213). -/
def execLineSet (h : CmdHdr) (p : List Word) (s : State) : Host.Outcome State Fault Refusal := arrived 0x106 h p s
/-- SLICE_INIT (R300). -/
def execSliceInit (h : CmdHdr) (p : List Word) (s : State) : Host.Outcome State Fault Refusal := arrived 0x107 h p s
/-- CODE_LOAD (R143). -/
def execCodeLoad (h : CmdHdr) (p : List Word) (s : State) : Host.Outcome State Fault Refusal := arrived 0x108 h p s
/-- COEF_WRITE (R109). -/
def execCoefWrite (h : CmdHdr) (p : List Word) (s : State) : Host.Outcome State Fault Refusal := arrived 0x109 h p s
/-- SCENE_WRITE (R650). -/
def execSceneWrite (h : CmdHdr) (p : List Word) (s : State) : Host.Outcome State Fault Refusal := arrived 0x10A h p s
/-- SCENE_LOAD (R651). -/
def execSceneLoad (h : CmdHdr) (p : List Word) (s : State) : Host.Outcome State Fault Refusal := arrived 0x10B h p s
/-- TAKE (R309). -/
def execTake (h : CmdHdr) (p : List Word) (s : State) : Host.Outcome State Fault Refusal := arrived 0x200 h p s
/-- TAKE_CANCEL (R311). -/
def execTakeCancel (h : CmdHdr) (p : List Word) (s : State) : Host.Outcome State Fault Refusal := arrived 0x201 h p s
/-- RECAST (R328). -/
def execRecast (h : CmdHdr) (p : List Word) (s : State) : Host.Outcome State Fault Refusal := arrived 0x202 h p s
/-- XP_SET (R260). -/
def execXpSet (h : CmdHdr) (p : List Word) (s : State) : Host.Outcome State Fault Refusal := arrived 0x300 h p s
/-- XP_ROW (R258). -/
def execXpRow (h : CmdHdr) (p : List Word) (s : State) : Host.Outcome State Fault Refusal := arrived 0x301 h p s
/-- PATCH_SET (R298). -/
def execPatchSet (h : CmdHdr) (p : List Word) (s : State) : Host.Outcome State Fault Refusal := arrived 0x302 h p s
/-- PORT_CFG (R388). -/
def execPortCfg (h : CmdHdr) (p : List Word) (s : State) : Host.Outcome State Fault Refusal := arrived 0x400 h p s
/-- PORT_START (R368). -/
def execPortStart (h : CmdHdr) (p : List Word) (s : State) : Host.Outcome State Fault Refusal := arrived 0x401 h p s
/-- PORT_STOP (R373). -/
def execPortStop (h : CmdHdr) (p : List Word) (s : State) : Host.Outcome State Fault Refusal := arrived 0x402 h p s
/-- CG_CFG (R386). -/
def execCgCfg (h : CmdHdr) (p : List Word) (s : State) : Host.Outcome State Fault Refusal := arrived 0x403 h p s
/-- DL_LANE (R451). -/
def execDlLane (h : CmdHdr) (p : List Word) (s : State) : Host.Outcome State Fault Refusal := arrived 0x404 h p s
/-- METER_SET (R465). -/
def execMeterSet (h : CmdHdr) (p : List Word) (s : State) : Host.Outcome State Fault Refusal := arrived 0x405 h p s
/-- STREAM_CFG (R417). -/
def execStreamCfg (h : CmdHdr) (p : List Word) (s : State) : Host.Outcome State Fault Refusal := arrived 0x500 h p s
/-- STREAM_START (R433). -/
def execStreamStart (h : CmdHdr) (p : List Word) (s : State) : Host.Outcome State Fault Refusal := arrived 0x501 h p s
/-- STREAM_STOP (R433). -/
def execStreamStop (h : CmdHdr) (p : List Word) (s : State) : Host.Outcome State Fault Refusal := arrived 0x502 h p s
/-- TIME_SET (R534). -/
def execTimeSet (h : CmdHdr) (p : List Word) (s : State) : Host.Outcome State Fault Refusal := arrived 0x600 h p s
/-- CLAP_TRIG (R556). -/
def execClapTrig (h : CmdHdr) (p : List Word) (s : State) : Host.Outcome State Fault Refusal := arrived 0x601 h p s
/-- FAULT_CFG (R663). -/
def execFaultCfg (h : CmdHdr) (p : List Word) (s : State) : Host.Outcome State Fault Refusal := arrived 0x700 h p s
/-- LOG_READ (R687). -/
def execLogRead (h : CmdHdr) (p : List Word) (s : State) : Host.Outcome State Fault Refusal := arrived 0x701 h p s
/-- LOG_ERASE_PERM (R688). -/
def execLogErasePerm (h : CmdHdr) (p : List Word) (s : State) : Host.Outcome State Fault Refusal := arrived 0x702 h p s
/-- HANDOVER: ROLE_SET with ACTION 0 (R716). -/
def execHandover (h : CmdHdr) (p : List Word) (s : State) : Host.Outcome State Fault Refusal := arrived 0x800 h (withBits 0 2 0 p) s
/-- CLAIM: ROLE_SET with ACTION 1 (R716). -/
def execClaim (h : CmdHdr) (p : List Word) (s : State) : Host.Outcome State Fault Refusal := arrived 0x800 h (withBits 0 2 1 p) s
/-- LEAVE: ROLE_SET with ACTION 2 (R716). -/
def execLeave (h : CmdHdr) (p : List Word) (s : State) : Host.Outcome State Fault Refusal := arrived 0x800 h (withBits 0 2 2 p) s
/-- JOIN: ROLE_SET with ACTION 3 (R716). -/
def execJoin (h : CmdHdr) (p : List Word) (s : State) : Host.Outcome State Fault Refusal := arrived 0x800 h (withBits 0 2 3 p) s
/-- RING_CFG_SIZE: RING_CFG with SUB 0 (R741). -/
def execRingCfgSize (h : CmdHdr) (p : List Word) (s : State) : Host.Outcome State Fault Refusal := arrived 0x801 h (withBits 28 4 0 p) s
/-- RING_CFG_BUS_MAP: RING_CFG with SUB 1 (R741). -/
def execRingCfgBusMap (h : CmdHdr) (p : List Word) (s : State) : Host.Outcome State Fault Refusal := arrived 0x801 h (withBits 28 4 1 p) s
/-- RING_CFG_FWD_RL0_RL1: RING_CFG with SUB 2 (R734). -/
def execRingCfgFwdRl0Rl1 (h : CmdHdr) (p : List Word) (s : State) : Host.Outcome State Fault Refusal :=
  arrived 0x801 h (withBits 28 4 2 p) s
/-- RING_CFG_FWD_RL1_RL0: RING_CFG with SUB 3 (R734). -/
def execRingCfgFwdRl1Rl0 (h : CmdHdr) (p : List Word) (s : State) : Host.Outcome State Fault Refusal :=
  arrived 0x801 h (withBits 28 4 3 p) s
/-- FW_UPDATE (R649). -/
def execFwUpdate (h : CmdHdr) (p : List Word) (s : State) : Host.Outcome State Fault Refusal := arrived 0xF00 h p s
/-- PROVISION (R647). -/
def execProvision (h : CmdHdr) (p : List Word) (s : State) : Host.Outcome State Fault Refusal := arrived 0xF01 h p s
/-- SEAL (R646). -/
def execSeal (h : CmdHdr) (p : List Word) (s : State) : Host.Outcome State Fault Refusal := arrived 0xF02 h p s
/-- RETIRE: REPAIR_SET with action 0 (R769). -/
def execRetire (h : CmdHdr) (p : List Word) (s : State) : Host.Outcome State Fault Refusal := arrived 0xF03 h (setNth p 0 0) s
/-- RESTORE: REPAIR_SET with action 1 (R769). -/
def execRestore (h : CmdHdr) (p : List Word) (s : State) : Host.Outcome State Fault Refusal := arrived 0xF03 h (setNth p 0 1) s
/-- SRAMROW: REPAIR_SET with action 2 (R769). -/
def execSramrow (h : CmdHdr) (p : List Word) (s : State) : Host.Outcome State Fault Refusal := arrived 0xF03 h (setNth p 0 2) s

/-- OP_DONE: the long operation completes (R644), and packets that waited for it proceed. -/
def execOpDone (s : State) : Host.Outcome State Fault Refusal := finish (serve (opDone s))

/-! ### Packets as they arrive (R619 to R631) -/

/-- Little-endian words of a packet's bytes (R628). -/
def packetWords (l : List Byte) : List Word :=
  (List.range (l.length / 4)).map fun i => BitVec.ofNat 32 (((l.drop (4 * i)).take 4).foldr (fun b a => a * 256 + b.toNat) 0)

/-- A packet as its bytes give it, with the status of steps 1 and 2 of R631. -/
def parsePacket (tr src : Nat) (l : List Byte) : Waiting :=
  let ws := packetWords l
  let w0 := nAt ws 0
  let len := nAt ws 2 / 65536
  let pre := if 1024 < len ∨ l.length ≠ 4 * (len + 4) then 2 else if crcWords ws.dropLast ≠ ws.getLastD 0 then 4 else 0
  ⟨w0 / 65536, ⟨tr, nAt ws 1, nAt ws 2 % 65536, bitOf w0 8⟩, decide (w0 % 256 = 1), decide (bits w0 9 7 = 0),
    (ws.drop 3).dropLast, src, [], pre⟩

/-- The command ring holds a descriptor that the device has not consumed. -/
def descReady (s : State) : Bool := trOpen 0 s && s.getF (CMD_RING_DEVPTR.PTR 0) ≠ s.getF (CMD_RING_HOSTPTR.PTR 0)

/-- A descriptor is in error (R620). -/
def cmdDescBad (d : List Word) : Bool := nAt d 0 % 4 ≠ 0 || nAt d 2 < 16 || 4112 < nAt d 2 || nAt d 3 ≠ 0

/-- COMMAND_DESCRIPTOR: the device takes descriptor `d` from the command ring and reads its packet; `data` are the bytes of host
memory from its address on, none where the read ends in a completion error (R619, R620). -/
def commandDescriptor (d : List Word) (data : Option (List Byte)) (s : State) : State :=
  if !descReady s then s else
  let s := s.setF (CMD_RING_DEVPTR.PTR 0) ((s.getF (CMD_RING_DEVPTR.PTR 0) + 1) % (s.ring 0).len)
  match data with
  | some l => if cmdDescBad d then setIrq 2 (s.incF CMD_ERR.DESC 1) else receive (parsePacket 0 0 (l.take (nAt d 2))) s
  | none => setIrq 2 (s.incF CMD_ERR.DESC 1)

/-- COMMAND_DESCRIPTOR (R619). -/
def execCommandDescriptor (d : List Word) (data : Option (List Byte)) (s : State) : Host.Outcome State Fault Refusal :=
  finish (commandDescriptor d data s)

/-- MGMT_DATAGRAM: a datagram with payload `l` arrives from `src`, which stands for its source address and UDP port; one with a
checksum error is dropped and counted (R624, R625). -/
def execMgmtDatagram (src : Nat) (sumOk : Bool) (l : List Byte) (s : State) : Host.Outcome State Fault Refusal :=
  finish <|
    if !trOpen 1 s then s
    else if sumOk then receive (parsePacket 1 src l) s
    else s.incF CMD_DROP.UDP 1

/-! ### The SPI slave (R626, R627) -/

/-- The SPI slave answers: the device is past RESET and the slave enabled. -/
def spiOn (s : State) : Bool := s.mode ≠ 0 && s.flag CMD_CTRL.SPI_EN

/-- The status byte of an SPI transaction (R626): RXREADY, MSGPENDING and INT. -/
def spiStatus (s : State) : Nat := b2n (s.cmd.spiQueue.length < 16) + 2 * b2n (!s.cmd.spiQueue.isEmpty) + 4 * b2n s.intLow

/-- A transaction returns the status byte, then words. -/
def spiAnswer (ws : List Word) (s : State) : State := s.out (.spi (wd (spiStatus s) :: ws))

/-- WRITE_PACKET: a whole packet is written (R626, R627). -/
def execWritePacket (l : List Byte) (s : State) : Host.Outcome State Fault Refusal :=
  finish (if spiOn s then receive (parsePacket 2 0 l) (spiAnswer [] s) else s)

/-- The oldest reply that waits for a place in the message queue takes it (R614, R627). -/
def spiNext (s : State) : State :=
  match s.cmd.spiHeld with
  | [] => s
  | ws :: r => placeWords 2 ws (s.onCmd fun u => { u with spiHeld := r })

/-- READ_MESSAGE: `n` words are clocked out: the oldest message, then zeros; it leaves the queue where every word of it has been
clocked out (R626, R627). -/
def execReadMessage (n : Nat) (s : State) : Host.Outcome State Fault Refusal :=
  finish <|
    if !spiOn s then s else
    let m := s.cmd.spiQueue.headD []
    let t := spiAnswer ((List.range n).map fun i => wAt m i) s
    if !s.cmd.spiQueue.isEmpty ∧ m.length ≤ n then serve (spiNext (t.onCmd fun u => { u with spiQueue := u.spiQueue.drop 1 })) else t

/-- READ_MEMORY: `n` words from the word address of `a` on (R626, R627). -/
def execReadMemory (a n : Nat) (bad : List BadRead) (s : State) : Host.Outcome State Fault Refusal :=
  finish <|
    if spiOn s then
      let r := hostReads (a / 4 * 4) bad n s
      r.2.out (.spi (wd (spiStatus s) :: r.1))
    else s

/-- WRITE_MEMORY: words to the word address of `a` on (R626, R627). -/
def execWriteMemory (a : Nat) (ws : List Word) (s : State) : Host.Outcome State Fault Refusal :=
  finish (if spiOn s then serve (hostWrites (a / 4 * 4) ws (spiAnswer [] s)) else s)

/-! ### Events after which waiting packets are executed -/

/-- REGISTER_WRITE (R8, R9): a write of `n` bytes of the control region; only an aligned write of 4 bytes has effect. A write that
frees a reply slot or starts the rings lets packets proceed (R618). -/
def execRegisterWrite (a n : Nat) (v : Word) (s : State) : Host.Outcome State Fault Refusal :=
  finish (if a < 0x100000 ∧ a % 4 = 0 ∧ n = 4 then serve (writeReg a v s) else s)

/-- GAFFER_RESUME: the restarted Gaffer core writes a BOOT record and serves the transports again (R756). -/
def execGafferResume (s : State) : Host.Outcome State Fault Refusal :=
  finish <|
    if s.boot.gafferDown then
      serve (logEvent 0xE0 [s.boot.fwVer, (s.reg 0).toNat] (s.onBoot fun u => { u with gafferDown := false }))
    else s

/-- HELD_COMMANDS_RELEASE: every slate copy of the committed take is complete: its holds end (R313), whether or not the next take is
pending, and held packets are executed in order of arrival. -/
def execHeldCommandsRelease (s : State) : Host.Outcome State Fault Refusal :=
  finish <|
    serve <|
      if s.take.hold ∧ !(match s.take.pending with | some t => t.locked | none => false) ∧ copiesDone s then releaseRecasts (s.onTake fun u => { u with hold := false }) else s

/-- VOTE_RECEIVED: a vote of chip `id` reaches the ring master (R334). -/
def execVoteReceived (id status : Nat) (s : State) : Host.Outcome State Fault Refusal := finish (serve (voteReceived id status s))

/-- VOTE_TIMEOUT: 250 µs have passed since the ring master's acceptance (R334). -/
def execVoteTimeout (s : State) : Host.Outcome State Fault Refusal := finish (serve (decideTake s))

/-! ### Changes of mode at a boundary (R765) -/

/-- A MODE_SET that waits is made, or refused where the present mode does not permit it, and answered. -/
def modeSetDue (s : State) : State :=
  match s.cmd.modeReq with
  | some (m, h, gap) =>
    if s.sti.acquireWait then s else
    let s := s.onCmd fun u => { u with modeReq := none }
    let st := modeSetStatus m s
    if st = 0 then placeReply 0x11 h gap 0 0xFFFF [] (noteGen 0x11 (standbyRing (applyModeSet m s))) else placeReply 0x11 h gap 5 0xFFFF [] s
  | none => s

/-- MODE_TRANSITION: a reset that a MODE_SET asked for, a MODE_SET and a change of the clock condition take effect, in this order
(R757, R765). -/
def execModeTransition (s : State) : Host.Outcome State Fault Refusal :=
  finish <|
    if s.boot.softPending then resetTo 3 s else serve (clockCond (modeSetDue s))

/-- FOLLOWER_ACQUIRE: at the first shot boundary after candidate 6 has qualified, the ACQUIRE of a follower takes effect, with the
ring master's count (R24, R731). -/
def execFollowerAcquire (count : Nat) (s : State) : Host.Outcome State Fault Refusal :=
  finish <|
    match s.cmd.modeReq with
    | some (_, h, gap) =>
      if s.sti.acquireWait ∧ s.flag (CLK_CANDST.QUAL 6) then
        let s := (s.onSti fun u => { u with acquireWait := false }).onCmd fun u => { u with modeReq := none }
        let st := modeSetStatus 3 s
        serve (if st = 0 then placeReply 0x11 h gap 0 0xFFFF [] (noteGen 0x11 (loadShot count (changeMode 3 (s.setF SYS_MODE.TICK 1))))
          else placeReply 0x11 h gap 5 0xFFFF [] s)
      else s
    | none => s

end Sys2Proof.Machine
end

