-- ==== Sys2Proof/Machine/Mirror.lean ====
section
/-! DEFINITION. The mirror as a stand-in applies it (R717 to R722), and the start of a takeover at b0 (R723, R724). -/

namespace Sys2Proof.Machine

/-! ### Forwarded packets (R718, R719) -/

/-- Commands whose effect a stand-in only records: starts, stops and triggers (R718). -/
def recorded (op : Nat) : Bool := op = 0x401 || op = 0x402 || op = 0x404 || op = 0x501 || op = 0x502 || op = 0x601

/-- A start or stop with the shot at which it acts: the next boundary is named by its shot (R718). -/
def datedPacket (op : Nat) (p : List Word) (s : State) : List Word :=
  if op ≠ 0x601 ∧ bits (nAt p 0) 12 2 = 0 then [fldPut (wAt p 0) 12 2 1, wd s.nextShot, wd (s.nextShot / 2 ^ 32)] else p

/-- The swap-window words that a SLICE_INIT names, as they were sent with it (R717). -/
def imageWords : List Word → List Word → State → State
  | w0 :: w1 :: t, ws, s =>
    let x : SliceInit := ⟨w0, w1⟩
    let n := x.lanes.length * x.count
    imageWords t (ws.drop n) (writeWords (0x7000000 + 4 * x.swapw) (ws.take n) s)
  | _, _, s => s

/-- The take of a stand-in whose slate is committed without a TAKE packet. -/
def plainTake : Take := ⟨0, none, 0, 0, 0, true, true, [], false, []⟩

/-- A committed take of the holder is applied: what it exchanges, at once and without a dissolve or a fade, then the holder's pages
(R718, R719, R724). `more` tells that pages of bus engines follow, with which the take's transfer completes (R317, R336). -/
def standinCommit (number : Nat) (more : Bool) (pages : List (Nat × List Byte)) (s : State) : State :=
  let put := fun (s : State) => pages.foldl (fun s x => match s.physOf x.1 with
    | some e => writeBytes (pageBase e false) (x.2.take 0x10000) (writeBytes (pageBase e true) (x.2.take 0x10000) s)
    | none => s) s
  let applied := fun (s : State) => if more then s else s.setF STI_MIRROR.TAKE number
  if s.getF SYS_TAKE_CNT.COUNT = number ∧ !pages.isEmpty then applied (put s) else
  let t := { s.take.pending.getD plainTake with forcecut := true }
  let s := commitWork t (copySlices 2 s)
  let s := put (endFades (endWork (endStages s)))
  let s := s.onTake fun u => { u with hold := false, commit := none }
  applied (s.setF SYS_TAKE_CNT.COUNT number)

/-- A forwarded packet, or the pages of a take, are applied in place. A TAKE is recorded as pending for the holder's boundary, which comes
with it; the packets of a scene follow its
SCENE_LOAD. -/
def applyMirror (x : MirrorItem) (s : State) : State :=
  match x with
  | .pages number more l => standinCommit number more l s
  | .packet op p ws =>
    if recorded op then s.onSti fun u => { u with restore := u.restore ++ [(op, datedPacket op p s)] }
    else match op with
      | 0x200 => s.onTake fun u => { u with
          pending := some (takeOf p (if bits (nAt p 0) 30 2 = 3 then none else some (nAt ws 0 + 2 ^ 32 * nAt ws 1))) }
      | 0x201 => abandonTake 0 s
      | 0x10B => s
      | _ =>
        let s := if op = 0x107 then imageWords p ws s else s
        (opBody ⟨op, ⟨0, 0, 0, false⟩, true, true, p, 0, [], 0⟩ false s).s

/-- A stand-in of a pair whose link is up. -/
def mirrors (s : State) : Bool := mayTake s && s.flag STI_STAT.LINK

/-- MIRROR_PACKET_APPLY (R719). -/
def execMirrorPacketApply (x : MirrorItem) (s : State) : Host.Outcome State Fault Refusal :=
  finish (if mirrors s then applyMirror x s else s)

/-! ### The whole state (R720, R721, R761) -/

/-- The ring of the pair's place as the holder has it (R722): `ids` from the master on. -/
def showRing (ids : List Nat) (s : State) : State :=
  if ids.isEmpty then s else
  let me := s.getF SYS_ID.CHIP_ID
  let mid := ids.headD 0
  let s := s.onRl fun u => { u with ids := ids }
  let s := ((s.setF RL_STAT.STATE 2).setF RL_STAT.SIZE ids.length).setF RL_STAT.POS (ringPos me s)
  ((s.setF RL_STAT.MASTER (b2n (me = mid))).setF RL_STAT.MASTERID mid).setF RL_RBUF.BYTES (ringBytes s)

/-- A payload of RING_CFG as the holder accepted it. -/
def ringPayload (p : List Word) (s : State) : State := ringSet (nAt p 0 / 2 ^ 28) (nAt p 0 % 2 ^ 28) (p.drop 1) s

/-- The holder's whole state takes the place of the stand-in's (R720, R761). -/
def applyWhole (x : WholeState) (s : State) : State :=
  let s := (clearLive s).setReg 0x10 x.cfg
  let s := x.ringCfg.foldl (fun s p => ringPayload p s) s
  let s := showRing x.ring s
  let s := s.onSti fun u => { u with restore := [] }
  let s := x.live.foldl (fun s i => applyMirror i s) s
  let s := standinCommit x.take false [] s
  let s := x.words.foldl (fun s c => s.setWord c.1 c.2) s
  let s := x.slate.foldl (fun s i => applyMirror i s) s
  (s.setF STI_STAT.MVALID 1).incF STI_EVT.RESYNCS 1

/-- WHOLE_STATE_TRANSFER_DONE: on the stand-in the transfer has been applied; the holder learns of it (R720). -/
def wholeStateDone (x : WholeState) (s : State) : State :=
  if mirrors s ∧ !s.flag STI_STAT.MVALID then applyWhole x s
  else if s.pairedHolder ∧ s.flag STI_STAT.LINK ∧ !s.sti.partnerValid then
    (s.onSti fun u => { u with partnerValid := true, backlog := 0 }).incF STI_EVT.RESYNCS 1
  else s

/-- WHOLE_STATE_TRANSFER_DONE (R720). -/
def execWholeStateTransferDone (x : WholeState) (s : State) : Host.Outcome State Fault Refusal := finish (wholeStateDone x s)

/-! ### Start at b0 (R723, R724) -/

/-- Packets of a Locked transmit context that are due from the boundary of shot `n` to that of the running shot (R724). -/
def packetsSince (u : CtxU) (n : Nat) (s : State) : Nat := ceilDiv (s.shot * s.n) u.spp - ceilDiv (n * s.n) u.spp

/-- Context `c` starts at b0; a Locked transmit context counts its packets from its recorded start boundary `n` (R724). -/
def restartCtx (c n : Nat) (s : State) : State :=
  let t := startCtx c s
  if t.isRx c ∨ (t.ctx c).conv ∨ (t.ctx c).st = 0 then t
  else onCtx c (fun u => { u with since := n, txSeq := (bits (nAt u.words 4) 16 16 + packetsSince u n s) % 65536 }) t

/-- One recorded start or stop: it acts now where its boundary has come, and waits for it otherwise. `phis` are the phases of the
ports (R365). -/
def restoreOne (phis : List Nat) (op : Nat) (p : List Word) (s : State) : State :=
  let w := nAt p 0
  let byTrig := decide (bits w 12 2 = 2)
  let n := nAt p 1 + 2 ^ 32 * nAt p 2
  let shot := if byTrig then none else some n
  let trig := if byTrig then some (nAt p 1) else none
  let now := !byTrig && decide (n ≤ s.shot)
  let start := if op = 0x404 then bitOf w 8 else op = 0x401 || op = 0x501
  if op = 0x601 then (cmdClapTrig p s).s
  else if op / 256 = 5 then
    let c := w % 1024
    if now then (if start then restartCtx c n s else stopCtx c s)
    else s.onNet fun u => { u with reqs := u.reqs ++ [(c, ⟨false, start, shot, trig⟩)] }
  else if op = 0x404 then
    let l := w % 32
    if now then (if start then startLane l s else stopLane l s) else scheduleLane l start shot trig s
  else
    let k := w % 64
    (portDirs w).foldl (fun s d =>
      if now then (if start then startDir k d (phis.getD k 0) s else stopDir k d s) else schedulePort k d start shot trig s) s

/-- TAKEOVER_START: at b0 the wake has ended, ports, streams, lanes and triggers start from what was recorded, the live graph is
dispatched, and a takeover with an incomplete mirror enters SAFE (R723, R724). -/
def takeoverStart (phis : List Nat) (s : State) : State :=
  if ¬(s.mode = 7 ∧ s.role = 1 ∧ s.sti.b0.isNone ∧ s.sti.wake = 15) then s else
  let l := s.sti.restore
  let s := (s.setF STI_STAT.WAKING 0).onSti fun u => { u with b0 := some s.shot, prewoken := false, wake := 0, restore := [] }
  let s := s.onBoot fun u => { u with fadeAt := some (s.shot + 4) }
  let s := if s.flag CLK_MCLK.EN then mclkOut true s else s
  let s := l.foldl (fun s x => restoreOne phis x.1 x.2 s) s
  let s := armDue s
  if s.sti.mvalidAtTake then s else changeMode 8 s

/-- TAKEOVER_START (R723). -/
def execTakeoverStart (phis : List Nat) (s : State) : Host.Outcome State Fault Refusal := finish (takeoverStart phis s)

end Sys2Proof.Machine
end

