-- ==== Sys2Proof/Machine/Dispatch.lean ====
section
/-! DEFINITION. The meaning of every command, one arm each. -/

namespace Sys2Proof.Machine

/-- The effect of a command on everything but the queue. -/
def exec (i : Instr) (s : State) : Host.Outcome State Fault Refusal :=
  match i with
  | .ping h p => Sys2Proof.Machine.execPing h p s
  | .resync h p => Sys2Proof.Machine.execResync h p s
  | .configure h p => Sys2Proof.Machine.execConfigure h p s
  | .modeSet h p => Sys2Proof.Machine.execModeSet h p s
  | .memRead h p bad => Sys2Proof.Machine.execMemRead h p bad s
  | .memWrite h p => Sys2Proof.Machine.execMemWrite h p s
  | .notifySub h p => Sys2Proof.Machine.execNotifySub h p s
  | .memClaim h p => Sys2Proof.Machine.execMemClaim h p s
  | .slateRevert h p => Sys2Proof.Machine.execSlateRevert h p s
  | .taskWrite h p => Sys2Proof.Machine.execTaskWrite h p s
  | .taskDrop h p => Sys2Proof.Machine.execTaskDrop h p s
  | .taskRearm h p => Sys2Proof.Machine.execTaskRearm h p s
  | .aimgWrite h p => Sys2Proof.Machine.execAimgWrite h p s
  | .xferWrite h p => Sys2Proof.Machine.execXferWrite h p s
  | .lineSet h p => Sys2Proof.Machine.execLineSet h p s
  | .sliceInit h p => Sys2Proof.Machine.execSliceInit h p s
  | .codeLoad h p => Sys2Proof.Machine.execCodeLoad h p s
  | .coefWrite h p => Sys2Proof.Machine.execCoefWrite h p s
  | .sceneWrite h p => Sys2Proof.Machine.execSceneWrite h p s
  | .sceneLoad h p => Sys2Proof.Machine.execSceneLoad h p s
  | .take h p => Sys2Proof.Machine.execTake h p s
  | .takeCancel h p => Sys2Proof.Machine.execTakeCancel h p s
  | .recast h p => Sys2Proof.Machine.execRecast h p s
  | .xpSet h p => Sys2Proof.Machine.execXpSet h p s
  | .xpRow h p => Sys2Proof.Machine.execXpRow h p s
  | .patchSet h p => Sys2Proof.Machine.execPatchSet h p s
  | .portCfg h p => Sys2Proof.Machine.execPortCfg h p s
  | .portStart h p => Sys2Proof.Machine.execPortStart h p s
  | .portStop h p => Sys2Proof.Machine.execPortStop h p s
  | .cgCfg h p => Sys2Proof.Machine.execCgCfg h p s
  | .dlLane h p => Sys2Proof.Machine.execDlLane h p s
  | .meterSet h p => Sys2Proof.Machine.execMeterSet h p s
  | .streamCfg h p => Sys2Proof.Machine.execStreamCfg h p s
  | .streamStart h p => Sys2Proof.Machine.execStreamStart h p s
  | .streamStop h p => Sys2Proof.Machine.execStreamStop h p s
  | .timeSet h p => Sys2Proof.Machine.execTimeSet h p s
  | .clapTrig h p => Sys2Proof.Machine.execClapTrig h p s
  | .faultCfg h p => Sys2Proof.Machine.execFaultCfg h p s
  | .logRead h p => Sys2Proof.Machine.execLogRead h p s
  | .logErasePerm h p => Sys2Proof.Machine.execLogErasePerm h p s
  | .handover h p => Sys2Proof.Machine.execHandover h p s
  | .claim h p => Sys2Proof.Machine.execClaim h p s
  | .leave h p => Sys2Proof.Machine.execLeave h p s
  | .join h p => Sys2Proof.Machine.execJoin h p s
  | .ringCfgSize h p => Sys2Proof.Machine.execRingCfgSize h p s
  | .ringCfgBusMap h p => Sys2Proof.Machine.execRingCfgBusMap h p s
  | .ringCfgFwdRl0Rl1 h p => Sys2Proof.Machine.execRingCfgFwdRl0Rl1 h p s
  | .ringCfgFwdRl1Rl0 h p => Sys2Proof.Machine.execRingCfgFwdRl1Rl0 h p s
  | .fwUpdate h p => Sys2Proof.Machine.execFwUpdate h p s
  | .provision h p => Sys2Proof.Machine.execProvision h p s
  | .sealDevice h p => Sys2Proof.Machine.execSeal h p s
  | .retire h p => Sys2Proof.Machine.execRetire h p s
  | .restore h p => Sys2Proof.Machine.execRestore h p s
  | .sramrow h p => Sys2Proof.Machine.execSramrow h p s
  | .opDone => Sys2Proof.Machine.execOpDone s
  | .commandDescriptor d data => Sys2Proof.Machine.execCommandDescriptor d data s
  | .mgmtDatagram src sumOk l => Sys2Proof.Machine.execMgmtDatagram src sumOk l s
  | .writePacket l => Sys2Proof.Machine.execWritePacket l s
  | .readMessage n => Sys2Proof.Machine.execReadMessage n s
  | .readMemory a n bad => Sys2Proof.Machine.execReadMemory a n bad s
  | .writeMemory a ws => Sys2Proof.Machine.execWriteMemory a ws s
  | .shotCounterRead => Sys2Proof.Machine.execShotCounterRead s
  | .takeShotRead => Sys2Proof.Machine.execTakeShotRead s
  | .spTsRead p => Sys2Proof.Machine.execSpTsRead p s
  | .ptpTimeRead shot => Sys2Proof.Machine.execPtpTimeRead shot s
  | .opsecRead => Sys2Proof.Machine.execOpsecRead s
  | .mramWearRead => Sys2Proof.Machine.execMramWearRead s
  | .netCounterLoRead p k => Sys2Proof.Machine.execNetCounterLoRead p k s
  | .tagRecordRead e => Sys2Proof.Machine.execTagRecordRead e s
  | .rcFieldRead a n => Sys2Proof.Machine.execRcFieldRead a n s
  | .captureFifoRead c => Sys2Proof.Machine.execCaptureFifoRead c s
  | .hbufAlloc => Sys2Proof.Machine.execHbufAlloc s
  | .hbufFree v => Sys2Proof.Machine.execHbufFree v s
  | .registerWrite a n v => Sys2Proof.Machine.execRegisterWrite a n v s
  | .unmappedRead a n => Sys2Proof.Machine.execUnmappedRead a n s
  | .hostMemoryWrite win a l => Sys2Proof.Machine.execHostMemoryWrite win a l s
  | .programMemoryWrite e off l => Sys2Proof.Machine.execProgramMemoryWrite e off l s
  | .laneSliceWrite e isY off l => Sys2Proof.Machine.execLaneSliceWrite e isY off l s
  | .slateViewWrite e off l => Sys2Proof.Machine.execSlateViewWrite e off l s
  | .heldSlateWriteLand e => Sys2Proof.Machine.execHeldSlateWriteLand e s
  | .firstFaultClear => Sys2Proof.Machine.execFirstFaultClear s
  | .faultInject src kind => Sys2Proof.Machine.execFaultInject src kind s
  | .engStep e => Sys2Proof.Machine.execEngStep e s
  | .engHalt e h => Sys2Proof.Machine.execEngHalt e h s
  | .debugDataWrite e v => Sys2Proof.Machine.execDebugDataWrite e v s
  | .waitStatsClear => Sys2Proof.Machine.execWaitStatsClear s
  | .reserveWrite r => Sys2Proof.Machine.execReserveWrite r s
  | .zskipWrite on => Sys2Proof.Machine.execZskipWrite on s
  | .snap => Sys2Proof.Machine.execSnap s
  | .freeze on => Sys2Proof.Machine.execFreeze on s
  | .tagSeedWrite v => Sys2Proof.Machine.execTagSeedWrite v s
  | .counterWrite glb e j v => Sys2Proof.Machine.execCounterWrite glb e j v s
  | .softReset v => Sys2Proof.Machine.execSoftReset v s
  | .txRingReset r => Sys2Proof.Machine.execTxRingReset r s
  | .rxRingReset r => Sys2Proof.Machine.execRxRingReset r s
  | .rxtailWrite r v => Sys2Proof.Machine.execRxtailWrite r v s
  | .txtailWrite r v ds => Sys2Proof.Machine.execTxtailWrite r v ds s
  | .netRingLenWrite tx r v => Sys2Proof.Machine.execNetRingLenWrite tx r v s
  | .spRingLenWrite p ply v => Sys2Proof.Machine.execSpRingLenWrite p ply v s
  | .cmdRingLenWrite k v => Sys2Proof.Machine.execCmdRingLenWrite k v s
  | .spRingPointerWrite p ply v => Sys2Proof.Machine.execSpRingPointerWrite p ply v s
  | .spMaskWrite p out late v => Sys2Proof.Machine.execSpMaskWrite p out late v s
  | .spInEnWrite p en => Sys2Proof.Machine.execSpInEnWrite p en s
  | .spOutEnWrite p en => Sys2Proof.Machine.execSpOutEnWrite p en s
  | .spCapEnWrite p en => Sys2Proof.Machine.execSpCapEnWrite p en s
  | .spPlyEnWrite p en => Sys2Proof.Machine.execSpPlyEnWrite p en s
  | .cgCfgWrite g v => Sys2Proof.Machine.execCgCfgWrite g v s
  | .dlCkEnWrite c v => Sys2Proof.Machine.execDlCkEnWrite c v s
  | .dlLaneEnWrite l v => Sys2Proof.Machine.execDlLaneEnWrite l v s
  | .triggerEnWrite idx v => Sys2Proof.Machine.execTriggerEnWrite idx v s
  | .captureEnWrite c v => Sys2Proof.Machine.execCaptureEnWrite c v s
  | .gpioClaimWrite v => Sys2Proof.Machine.execGpioClaimWrite v s
  | .mclkEnWrite v => Sys2Proof.Machine.execMclkEnWrite v s
  | .ddrEnWrite v => Sys2Proof.Machine.execDdrEnWrite v s
  | .ringsEnWrite en => Sys2Proof.Machine.execRingsEnWrite en s
  | .candidateCfgWrite k v => Sys2Proof.Machine.execCandidateCfgWrite k v s
  | .forceWrite v => Sys2Proof.Machine.execForceWrite v s
  | .logRateWrite c v => Sys2Proof.Machine.execLogRateWrite c v s
  | .preemptEnWrite p v => Sys2Proof.Machine.execPreemptEnWrite p v s
  | .shotBoundary bad => Sys2Proof.Machine.execShotBoundary bad s
  | .ledgerAuditNoTick => Sys2Proof.Machine.execLedgerAuditNoTick s
  | .matrixPassEnd cyc taps gains => Sys2Proof.Machine.execMatrixPassEnd cyc taps gains s
  | .stagingEntryLand le bad => Sys2Proof.Machine.execStagingEntryLand le bad s
  | .dispatchAccept e wait hold => Sys2Proof.Machine.execDispatchAccept e wait hold s
  | .contextLoadDone e => Sys2Proof.Machine.execContextLoadDone e s
  | .contextSaveDone e => Sys2Proof.Machine.execContextSaveDone e s
  | .budget e => Sys2Proof.Machine.execBudget e s
  | .insNop e ecc => Sys2Proof.Machine.execNop e ecc s
  | .insMpy e ecc => Sys2Proof.Machine.execMpy e ecc s
  | .insMac e ecc => Sys2Proof.Machine.execMac e ecc s
  | .insMns e ecc => Sys2Proof.Machine.execMns e ecc s
  | .insMacn e ecc => Sys2Proof.Machine.execMacn e ecc s
  | .insAclr e ecc => Sys2Proof.Machine.execAclr e ecc s
  | .insAld e ecc => Sys2Proof.Machine.execAld e ecc s
  | .insAldw e ecc => Sys2Proof.Machine.execAldw e ecc s
  | .insAadd e ecc => Sys2Proof.Machine.execAadd e ecc s
  | .insAsub e ecc => Sys2Proof.Machine.execAsub e ecc s
  | .insAsh e ecc => Sys2Proof.Machine.execAsh e ecc s
  | .insRnd e ecc => Sys2Proof.Machine.execRnd e ecc s
  | .insTrn e ecc => Sys2Proof.Machine.execTrn e ecc s
  | .insAmv e ecc => Sys2Proof.Machine.execAmv e ecc s
  | .insAdd e ecc => Sys2Proof.Machine.execAdd e ecc s
  | .insAdds e ecc => Sys2Proof.Machine.execAdds e ecc s
  | .insSub e ecc => Sys2Proof.Machine.execSub e ecc s
  | .insSubs e ecc => Sys2Proof.Machine.execSubs e ecc s
  | .insAnd e ecc => Sys2Proof.Machine.execAnd e ecc s
  | .insOr e ecc => Sys2Proof.Machine.execOr e ecc s
  | .insXor e ecc => Sys2Proof.Machine.execXor e ecc s
  | .insShl e ecc => Sys2Proof.Machine.execShl e ecc s
  | .insShls e ecc => Sys2Proof.Machine.execShls e ecc s
  | .insShr e ecc => Sys2Proof.Machine.execShr e ecc s
  | .insAsr e ecc => Sys2Proof.Machine.execAsr e ecc s
  | .insAbs e ecc => Sys2Proof.Machine.execAbs e ecc s
  | .insNeg e ecc => Sys2Proof.Machine.execNeg e ecc s
  | .insMin e ecc => Sys2Proof.Machine.execMin e ecc s
  | .insMax e ecc => Sys2Proof.Machine.execMax e ecc s
  | .insClz e ecc => Sys2Proof.Machine.execClz e ecc s
  | .insCmp e ecc => Sys2Proof.Machine.execCmp e ecc s
  | .insMov e ecc => Sys2Proof.Machine.execMov e ecc s
  | .insAddi e ecc => Sys2Proof.Machine.execAddi e ecc s
  | .insAddis e ecc => Sys2Proof.Machine.execAddis e ecc s
  | .insAndi e ecc => Sys2Proof.Machine.execAndi e ecc s
  | .insOri e ecc => Sys2Proof.Machine.execOri e ecc s
  | .insXori e ecc => Sys2Proof.Machine.execXori e ecc s
  | .insCmpi e ecc => Sys2Proof.Machine.execCmpi e ecc s
  | .insSel e ecc => Sys2Proof.Machine.execSel e ecc s
  | .insLog2 e ecc => Sys2Proof.Machine.execLog2 e ecc s
  | .insExp2 e ecc => Sys2Proof.Machine.execExp2 e ecc s
  | .insDivs e ecc => Sys2Proof.Machine.execDivs e ecc s
  | .insTli e ecc => Sys2Proof.Machine.execTli e ecc s
  | .insMova e ecc => Sys2Proof.Machine.execMova e ecc s
  | .insAdda e ecc => Sys2Proof.Machine.execAdda e ecc s
  | .insMvda e ecc => Sys2Proof.Machine.execMvda e ecc s
  | .insMvad e ecc => Sys2Proof.Machine.execMvad e ecc s
  | .insRdpc e ecc => Sys2Proof.Machine.execRdpc e ecc s
  | .insLdi e ecc => Sys2Proof.Machine.execLdi e ecc s
  | .insBra e ecc => Sys2Proof.Machine.execBra e ecc s
  | .insBall e ecc => Sys2Proof.Machine.execBall e ecc s
  | .insBany e ecc => Sys2Proof.Machine.execBany e ecc s
  | .insCall e ecc => Sys2Proof.Machine.execCall e ecc s
  | .insRet e ecc => Sys2Proof.Machine.execRet e ecc s
  | .insLoop e ecc => Sys2Proof.Machine.execLoop e ecc s
  | .insLoopu e ecc => Sys2Proof.Machine.execLoopu e ecc s
  | .insYield e ecc => Sys2Proof.Machine.execYield e ecc s
  | .insEnd e ecc => Sys2Proof.Machine.execEnd e ecc s
  | .storeBufferDrain e isY => Sys2Proof.Machine.execStoreBufferDrain e isY s
  | .tagInstruction e task pc total stall cause disc exc => Sys2Proof.Machine.execTagInstruction e task pc total stall cause disc exc s
  | .lockBoundary => Sys2Proof.Machine.execLockBoundary s
  | .takeCommit => Sys2Proof.Machine.execTakeCommit s
  | .engineSlateCopyDone e => Sys2Proof.Machine.execEngineSlateCopyDone e s
  | .matrixTakeApply => Sys2Proof.Machine.execMatrixTakeApply s
  | .busEngineCommit => Sys2Proof.Machine.execBusEngineCommit s
  | .heldCommandsRelease => Sys2Proof.Machine.execHeldCommandsRelease s
  | .dissolveEnd => Sys2Proof.Machine.execDissolveEnd s
  | .recastLoadDone e => Sys2Proof.Machine.execRecastLoadDone e s
  | .cutRecastCopyDone le => Sys2Proof.Machine.execCutRecastCopyDone le s
  | .cutRecastSwap le => Sys2Proof.Machine.execCutRecastSwap le s
  | .spareBist e failmem => Sys2Proof.Machine.execSpareBist e failmem s
  | .serialFrame g bclks data slips => Sys2Proof.Machine.execSerialFrame g bclks data slips s
  | .portBlock p recs => Sys2Proof.Machine.execPortBlock p recs s
  | .spLost g silent => Sys2Proof.Machine.execSpLost g silent s
  | .spReturn g => Sys2Proof.Machine.execSpReturn g s
  | .cgRateUpdate g freq => Sys2Proof.Machine.execCgRateUpdate g freq s
  | .asrcLock kind idx lock => Sys2Proof.Machine.execAsrcLock kind idx lock s
  | .portStartAct p phi recs => Sys2Proof.Machine.execPortStartAct p phi recs s
  | .portStopAct p => Sys2Proof.Machine.execPortStopAct p s
  | .streamStartAct c => Sys2Proof.Machine.execStreamStartAct c s
  | .streamStopAct c => Sys2Proof.Machine.execStreamStopAct c s
  | .laneStartAct l => Sys2Proof.Machine.execLaneStartAct l s
  | .laneStopAct l => Sys2Proof.Machine.execLaneStopAct l s
  | .mpFrameReceived p l frag => Sys2Proof.Machine.execMpFrameReceived p l frag s
  | .mgmtFrameReceived l => Sys2Proof.Machine.execMgmtFrameReceived l s
  | .frameTransmitDone p preempted => Sys2Proof.Machine.execFrameTransmitDone p preempted s
  | .tcDrop p => Sys2Proof.Machine.execTcDrop p s
  | .linkUp p => Sys2Proof.Machine.execLinkUp p s
  | .linkDown p => Sys2Proof.Machine.execLinkDown p s
  | .pauseReceived p q => Sys2Proof.Machine.execPauseReceived p q s
  | .pauseExpiry p => Sys2Proof.Machine.execPauseExpiry p s
  | .pauseBroken p => Sys2Proof.Machine.execPauseBroken p s
  | .preemptVerify p ok => Sys2Proof.Machine.execPreemptVerify p ok s
  | .bridgeAgeOut mac => Sys2Proof.Machine.execBridgeAgeOut mac s
  | .streamPacketAccept c pos => Sys2Proof.Machine.execStreamPacketAccept c pos s
  | .streamBlockWrite c => Sys2Proof.Machine.execStreamBlockWrite c s
  | .streamLost c => Sys2Proof.Machine.execStreamLost c s
  | .streamPacketSend c => Sys2Proof.Machine.execStreamPacketSend c s
  | .txLate p => Sys2Proof.Machine.execTxLate p s
  | .dlLost l pos => Sys2Proof.Machine.execDlLost l pos s
  | .dlReturn l pos => Sys2Proof.Machine.execDlReturn l pos s
  | .dlSettled l => Sys2Proof.Machine.execDlSettled l s
  | .meterSetApply => Sys2Proof.Machine.execMeterSetApply s
  | .meterFrameStart => Sys2Proof.Machine.execMeterFrameStart s
  | .meterFrameComplete => Sys2Proof.Machine.execMeterFrameComplete s
  | .steerUpdate phase => Sys2Proof.Machine.execSteerUpdate phase s
  | .freqMonitorUpdate k ppm adv => Sys2Proof.Machine.execFreqMonitorUpdate k ppm adv s
  | .candidateQualified k => Sys2Proof.Machine.execCandidateQualified k s
  | .activityEnd k => Sys2Proof.Machine.execActivityEnd k s
  | .wtrExpiry => Sys2Proof.Machine.execWtrExpiry s
  | .buildoutEnd b => Sys2Proof.Machine.execBuildoutEnd b s
  | .loopStep => Sys2Proof.Machine.execLoopStep s
  | .clkUnlock => Sys2Proof.Machine.execClkUnlock s
  | .alignComplete => Sys2Proof.Machine.execAlignComplete s
  | .historyEntry => Sys2Proof.Machine.execHistoryEntry s
  | .holdoverSteerEval => Sys2Proof.Machine.execHoldoverSteerEval s
  | .clkLost => Sys2Proof.Machine.execClkLost s
  | .tempMeasure u => Sys2Proof.Machine.execTempMeasure u s
  | .syncReceived twoStep t1 corr => Sys2Proof.Machine.execSyncReceived twoStep t1 corr s
  | .followUpReceived t1 corr => Sys2Proof.Machine.execFollowUpReceived t1 corr s
  | .delayRespReceived t4 cdreq => Sys2Proof.Machine.execDelayRespReceived t4 cdreq s
  | .announceReceived parent gm cls acc var_ utcValid utc st => Sys2Proof.Machine.execAnnounceReceived parent gm cls acc var_ utcValid utc st s
  | .ptpLoss cause st => Sys2Proof.Machine.execPtpLoss cause st s
  | .ptpMessageSend kind => Sys2Proof.Machine.execPtpMessageSend kind s
  | .clapperTriggerFire idx => Sys2Proof.Machine.execClapperTriggerFire idx s
  | .captureEdge c fall => Sys2Proof.Machine.execCaptureEdge c fall s
  | .xbarRequest m t beats kind addr stalls col bad => Sys2Proof.Machine.execXbarRequest m t beats kind addr stalls col bad s
  | .burstComplete t lat => Sys2Proof.Machine.execBurstComplete t lat s
  | .masterReset m => Sys2Proof.Machine.execMasterReset m s
  | .scrub x kind => Sys2Proof.Machine.execScrub x kind s
  | .ddrTrainingDone ok => Sys2Proof.Machine.execDdrTrainingDone ok s
  | .ddrRetrain => Sys2Proof.Machine.execDdrRetrain s
  | .mramReplaceDone => Sys2Proof.Machine.execMramReplaceDone s
  | .faultMessage src kind addr => Sys2Proof.Machine.execFaultMessage src kind addr s
  | .logRecordWrite => Sys2Proof.Machine.execLogRecordWrite s
  | .logTokenGain c => Sys2Proof.Machine.execLogTokenGain c s
  | .stiLinkUp => Sys2Proof.Machine.execStiLinkUp s
  | .stiLinkDown => Sys2Proof.Machine.execStiLinkDown s
  | .renewSend => Sys2Proof.Machine.execRenewSend s
  | .renewReceived n lease => Sys2Proof.Machine.execRenewReceived n lease s
  | .ackReceived n => Sys2Proof.Machine.execAckReceived n s
  | .fence => Sys2Proof.Machine.execFence s
  | .leaseInRise => Sys2Proof.Machine.execLeaseInRise s
  | .leaseInFall late => Sys2Proof.Machine.execLeaseInFall late s
  | .tokenTake late => Sys2Proof.Machine.execTokenTake late s
  | .releaseReceived late => Sys2Proof.Machine.execReleaseReceived late s
  | .reclaim => Sys2Proof.Machine.execReclaim s
  | .mirrorPacketApply x => Sys2Proof.Machine.execMirrorPacketApply x s
  | .wholeStateTransferDone x => Sys2Proof.Machine.execWholeStateTransferDone x s
  | .standinTickStart count => Sys2Proof.Machine.execStandinTickStart count s
  | .wakeStep => Sys2Proof.Machine.execWakeStep s
  | .standinAwake => Sys2Proof.Machine.execStandinAwake s
  | .takeoverStart phis => Sys2Proof.Machine.execTakeoverStart phis s
  | .takeoverRelease => Sys2Proof.Machine.execTakeoverRelease s
  | .rlLinkUp k delay => Sys2Proof.Machine.execRlLinkUp k delay s
  | .rlLink k => Sys2Proof.Machine.execRlLink k s
  | .rlBlockReceived k x ok => Sys2Proof.Machine.execRlBlockReceived k x ok s
  | .ringListReceived ids sec ns => Sys2Proof.Machine.execRingListReceived ids sec ns s
  | .ringTakeMessage ws => Sys2Proof.Machine.execRingTakeMessage ws s
  | .voteReceived id status => Sys2Proof.Machine.execVoteReceived id status s
  | .voteTimeout => Sys2Proof.Machine.execVoteTimeout s
  | .ringCommitReceived commit => Sys2Proof.Machine.execRingCommitReceived commit s
  | .followerAcquire count => Sys2Proof.Machine.execFollowerAcquire count s
  | .modeTransition => Sys2Proof.Machine.execModeTransition s
  | .por => Sys2Proof.Machine.execPor s
  | .resetNAssert => Sys2Proof.Machine.execResetNAssert s
  | .clkloss => Sys2Proof.Machine.execClkloss s
  | .thermalTrip => Sys2Proof.Machine.execThermalTrip s
  | .thermalRelease => Sys2Proof.Machine.execThermalRelease s
  | .resetRelease chip strap banks => Sys2Proof.Machine.execResetRelease chip strap banks s
  | .bootStageDone x => Sys2Proof.Machine.execBootStageDone x s
  | .gafferWatchdog => Sys2Proof.Machine.execGafferWatchdog s
  | .presencePress => Sys2Proof.Machine.execPresencePress s
  | .presenceWindowClose => Sys2Proof.Machine.execPresenceWindowClose s
  | .lifetimeRecord => Sys2Proof.Machine.execLifetimeRecord s
  | .pcieLinkDown => Sys2Proof.Machine.execPcieLinkDown s
  | .pcieLinkUp => Sys2Proof.Machine.execPcieLinkUp s
  | .candidateActivity k adv => Sys2Proof.Machine.execCandidateActivity k adv s
  | .triggerPulseEnd idx => Sys2Proof.Machine.execTriggerPulseEnd idx s
  | .gafferResume => Sys2Proof.Machine.execGafferResume s

end Sys2Proof.Machine
end

