-- ==== Sys2Proof/Machine/Tick.lean ====
section
/-! DEFINITION. One CLK_PER period in which no command waits (log entry 1): what the clock alone drives. -/

namespace Sys2Proof.Machine

/-- CLK_PER periods in one second: 153.6 MHz (R479). -/
def perSecond : Nat := 153600000

/-- A second of operation ends with this period (R767). -/
def operatingSecond (s : State) : State :=
  if s.time % perSecond = 0 then s.onBoot fun u => { u with life := { u.life with opsec := (u.life.opsec + 1) % 2 ^ 40 } } else s

/-- A counter of the PCN unit has a select register other than its reset value: none counts before (R691). -/
def countersOn (s : State) : Bool := s.regs.any fun x => 0xB1020 ≤ x.1 && x.1 < 0xB4180

/-- The events of R691 that count cycles, over a CLK_PER period: 8 cycles of CLK_CORE on each engine, in those with a task in its
active bank for that task (R692), and 4 of CLK_FAB, with the tokens on the ready lists and the ASRC channels in use summed in each
(R479, log entry 163). -/
def cycleCounts (s : State) : State :=
  if !countersOn s then s else
  let s := (List.range 18).foldl (fun s e =>
    match runningOn e s with
    | some n => countE e 0x02 8 (n % 4096) (countE e 0x01 8 (n % 4096) s)
    | none => countE e 0x01 8 0xFFFF s) s
  let s := countG 0x01 4 s
  countG 0x44 (4 * s.asrcUse) (countG 0x43 (4 * (s.cs.ready.foldl (fun a l => a + l.length) 0)) s)

/-- One CLK_PER period: the period count, and, in every mode except RESET, the cycles that counters count (R691), the PTP time
counter (R527), the operating seconds (R767), the write buffer of LPDDR5 (R596), recasts of the Gaffer core's own that no take holds any more
(R313) and packets that wait for their turn (R614). -/
def perTick (s : State) : State :=
  let s := s.onTime (· + 1)
  if s.mode = 0 then s else serve (releaseRecasts (operatingSecond (counterTick (emptyBuffer (cycleCounts s)))))

/-- The block without a command: one CLK_PER period passes. -/
def idle (s : State) : Host.Outcome State Fault Refusal := finish (perTick s)

end Sys2Proof.Machine
end

