-- ==== Sys2Proof/Safety.lean ====
section
/-! DEFINITION. What a safe run is, and what it means that a command leaves a part of the block as it was: the terms claims use. -/

namespace Sys2Proof

open Machine

/-- Every message and event record of the cycle has been accepted (R657). -/
abbrev Quiet (s : State) : Prop := s.flt.wire = [] ∧ s.flt.wireEv = []

/-- The invariant of the block: byte memory is in its canonical form, and every message and event record of the cycle has been
accepted. -/
def Inv (s : State) : Prop := Memory.wf s.mem = true ∧ Quiet s

/-- A step is safe where it answers a next state that keeps the invariant. -/
def SafeStep (s : State) : Prop := ∃ t, step s = .next t ∧ Inv t

/-! ### Frames -/

/-- The parts of the state beside the control registers. -/
inductive Part where
  | mem | stage | shot | time | eng | cs | spl | take | sp | net | dl | clk | ptp | fab | flt | pcn | cmd | fuse | boot | sti | rl | pin
  | outs | free | pending
  deriving DecidableEq, Repr

/-- A part is the same in both states. -/
def Part.same (p : Part) (s t : State) : Prop :=
  match p with
  | .mem => t.mem = s.mem
  | .stage => t.stage = s.stage
  | .shot => t.shot = s.shot
  | .time => t.time = s.time
  | .eng => t.eng = s.eng
  | .cs => t.cs = s.cs
  | .spl => t.spl = s.spl
  | .take => t.take = s.take
  | .sp => t.sp = s.sp
  | .net => t.net = s.net
  | .dl => t.dl = s.dl
  | .clk => t.clk = s.clk
  | .ptp => t.ptp = s.ptp
  | .fab => t.fab = s.fab
  | .flt => t.flt = s.flt
  | .pcn => t.pcn = s.pcn
  | .cmd => t.cmd = s.cmd
  | .fuse => t.fuse = s.fuse
  | .boot => t.boot = s.boot
  | .sti => t.sti = s.sti
  | .rl => t.rl = s.rl
  | .pin => t.pin = s.pin
  | .outs => t.outs = s.outs
  | .free => t.free = s.free
  | .pending => t.pending = s.pending

/-- The registers that count what MGMT sends (R444): TX_FRAMES and TX_BYTES of port 4. Replies and notifications leave through it. -/
def mgmtTx : List Nat := [0x61140, 0x61144, 0x61148, 0x6114C]

/-- The frame of a command: every part but `ps`, and every register but those of the pages `pg` (a page is 64 KB of the control
region) and those at the addresses `as`, are as they were. A frame that lets the command interface (page 0xD) change lets MGMT count
what it sends. -/
structure Kept (ps : List Part) (pg as : List Nat) (s t : State) : Prop where
  part : ∀ p, p ∉ ps → p.same s t
  reg : ∀ a, a / 65536 ∉ pg → a ∉ as → (0xD ∈ pg → a ∉ mgmtTx) → t.reg a = s.reg a

/-- What the acceptance of fault messages and event records can change beside registers (R657 to R672, R766): the collector, the mode
and what depends on it, and what leaves the block. -/
def acceptParts : List Part := [.eng, .take, .flt, .cmd, .boot, .sti, .outs]

/-- The register pages that it can change: SYS, FLT, PCN, STI, CMD and ENG (R42). -/
def acceptPages : List Nat := [0, 9, 0xB, 0xC, 0xD, 0xF]

/-- One message of source `src` was accepted in the step (R665): its sticky bit is set and the message count is one higher. -/
abbrev Raised (src : Nat) (s t : State) : Prop :=
  bitOf (t.getF (FLT_STICKY.BITS (src / 32))) (src % 32) = true
  ∧ t.getF FLT_COUNT.COUNT = min (2 ^ 32 - 1) (s.getF FLT_COUNT.COUNT + 1) ∧ Quiet t

/-! ### Command packets -/

/-- The packet that a command row stands for: well formed, on MGMT from the source that the session is bound to. -/
def packetOf (op : Nat) (h : CmdHdr) (p : List Word) (bad : List BadRead) (s : State) : Waiting :=
  ⟨op, h, true, true, p, s.cmd.mgmtSrc.getD 0, bad, 0⟩

/-- A packet of opcode `op` comes to its own checks at once (R614, R625, R631, R636, R644, R313, R265): its transport takes packets and
has a place for the reply, none waits before it, its HSEQ is the expected one, LEN is right, a presence window is open where the opcode
needs one, no long operation or hold stands against it, and a paired holder's link is up. -/
abbrev Ready (op : Nat) (h : CmdHdr) (p : List Word) (s : State) : Prop :=
  (h.tr < 3 ∧ h.hseq < 2 ^ 32 ∧ trOpen h.tr s = true ∧ s.cmd.waiting = [] ∧ trBusy h.tr s = false)
  ∧ ((s.sess h.tr).e = none ∨ (s.sess h.tr).e = some h.hseq)
  ∧ (opKnown op = true ∧ lenOk op p = true)
  ∧ (op = 0xF02 → s.fuse.sealFuse = false) ∧ (gated op = true → s.flag CMD_STAT.PWIN = true)
  ∧ (longBusy op = true → s.cmd.longOp = none)
  ∧ (heldByTake op = true → s.take.hold = false) ∧ ((op = 0x300 ∨ op = 0x301) → s.flag SPL_STAT.SLATE_READY = true)
  ∧ (s.pairedHolder = true → s.flag STI_STAT.LINK = true)
  ∧ Quiet s

/-- The transport expects the number after the packet's, and the reply of the packet, with `st`, DETAIL and payload, is the newest in
its replay cache (R635, R636). -/
def Replied (op : Nat) (h : CmdHdr) (st detail : Nat) (pay : List Word) (t : State) : Prop :=
  (t.sess h.tr).e = some ((h.hseq + 1) % 2 ^ 32)
  ∧ ∃ n, (t.sess h.tr).cache.head? = some (h.hseq, replyWords op h false n st detail pay)

/-- The packet was executed: status OK, with reply payload `pay`. -/
def Accepted (op : Nat) (h : CmdHdr) (pay : List Word) (t : State) : Prop := Replied op h 0 0xFFFF pay t

/-! ### Instructions of an engine -/

/-- The instruction word that engine `e` fetches next, its parallel moves, and the registers that they load (R105, R165). -/
def moveX (e : Nat) (s : State) : Move := moveOf (insX (engWord e s))
/-- The Y move. -/
def moveY (e : Nat) (s : State) : Move := moveOf (insY (engWord e s))
/-- Register codes that the moves load. -/
def moveLoads (e : Nat) (s : State) : List Nat :=
  (if (moveX e s).op = 1 then [(moveX e s).reg] else []) ++ (if (moveY e s).op = 1 then [(moveY e s).reg] else [])
/-- Codes of the cursors that the moves advance (R114). -/
def moveCursors (e : Nat) (s : State) : List Nat :=
  (if (moveX e s).used then [cCUR (moveX e s).csr] else []) ++ (if (moveY e s).used then [cCUR (moveY e s).csr] else [])

/-- The word of operation `d` that engine `e` fetches next is legal: its operand field, its moves and what they load and write, and
its address in sequence (R164 to R171, R184, R195). -/
def shortLegal (d : OpDef) (e : Nat) (s : State) : Bool :=
  let o := insOpnd (engWord e s)
  d.legal o && moveLegal (insX (engWord e s)) && moveLegal (insY (engWord e s)) && movesLegal (moveX e s) (moveY e s) (d.writes o)
    && !(d.reads o = some false && (moveX e s).used) && !(d.reads o = some true && (moveY e s).used)
    && !runsOut (s.bank e).pc (s.bank e).loops

/-- Every access of that word is in range (R103, R184). -/
def shortInRange (d : OpDef) (e : Nat) (s : State) : Bool :=
  let b := s.bank e
  (!(moveX e s).used || accessOk false ((moveX e s).op = 2) (b.field (cCUR (moveX e s).csr)).toNat)
    && (!(moveY e s).used || accessOk true ((moveY e s).op = 2) (b.field (cCUR (moveY e s).csr)).toNat)
    && (match d.reads (insOpnd (engWord e s)) with
        | none => true
        | some isY => (d.addrs (insOpnd (engWord e s)) b).all fun a => accessOk isY false a && (!isY || 0x4000 ≤ a))

/-- Engine `e` runs task `n`; its next instruction is a legal word of operation `d` with operand field `o`, whose accesses are in range
and meet no double-bit error. -/
abbrev Runs (d : OpDef) (e n o : Nat) (ecc : EccHit) (s : State) : Prop :=
  issues d.opc e s = true ∧ runningOn e s = some n ∧ o = insOpnd (engWord e s) ∧ (fetchBad ecc = none ∧ loadBad ecc = none)
  ∧ shortLegal d e s = true ∧ shortInRange d e s = true ∧ Quiet s

/-- The same for a long-format instruction with opcode `opc` and operand field `o`. -/
abbrev RunsLong (opc e n o : Nat) (ecc : EccHit) (s : State) : Prop :=
  issues opc e s = true ∧ runningOn e s = some n ∧ o = insLong (engWord e s) ∧ fetchBad ecc = none ∧ Quiet s

/-- Words that the stores on their way to memory may write in one instruction: of the third last instruction and of the store buffers
(R130 to R132). -/
def storesDue (e : Nat) (s : State) : List Nat :=
  let u := s.engine e
  (u.st3 ++ u.bufX.toList ++ u.bufY.toList).flatMap fun x => x.cells.map (·.1)

/-- The state with the words counted that an instruction of engine `e` finds corrected (R112); the third one of a row records its repair
(R579). -/
def eccNoted (e : Nat) (ecc : EccHit) (s : State) : State := settle (eccNote e ((runningOn e s).getD 0) ecc s)

/-- What an instruction of engine `e` leaves as it was, beside the registers of its own bank and the count of corrected words: the other
engines, every byte but those of stores that are due, and what no engine has. -/
structure EngFrame (e : Nat) (ecc : EccHit) (s t : State) : Prop where
  engines : ∀ f, f ≠ e → t.engine f = s.engine f
  bytes : ∀ a, (∀ d ∈ storesDue e s, a < d ∨ d + 4 ≤ a) → t.byte a = (eccNoted e ecc s).byte a
  kept : Kept [.mem, .eng, .cs, .pcn] [0xB] [] (eccNoted e ecc s) t

/-- What an instruction of engine `e` leaves in its bank: every D register but `ds` and those that a move loads, every accumulator and
hold bit but of `as`, every cursor field but `cs`, those that a move loads and those that a move advances, the coefficient page, and with
`fl` off the lane flags. -/
structure BankKept (ds as cs : List Nat) (fl : Bool) (e : Nat) (s t : State) : Prop where
  d : ∀ lane r, lane < 8 → r < 16 → r ∉ ds → r ∉ moveLoads e s → (t.bank e).dreg lane r = (s.bank e).dreg lane r
  acc : ∀ lane a, lane < 8 → a < 4 → a ∉ as →
    (t.bank e).accum lane a = (s.bank e).accum lane a ∧ (t.bank e).hold lane a = (s.bank e).hold lane a
  cur : ∀ c, 16 ≤ c → c ∉ cs → c ∉ moveLoads e s → c ∉ moveCursors e s → (t.bank e).field c = (s.bank e).field c
  flags : fl = false → (t.bank e).z = (s.bank e).z ∧ (t.bank e).n = (s.bank e).n ∧ (t.bank e).v = (s.bank e).v
    ∧ (t.bank e).s = (s.bank e).s ∧ (t.bank e).g = (s.bank e).g
  page : (t.bank e).page = (s.bank e).page

/-- The same for a long-format instruction, which has no moves. -/
structure LongKept (ds : List Nat) (e : Nat) (s t : State) : Prop where
  d : ∀ lane r, lane < 8 → r < 16 → r ∉ ds → (t.bank e).dreg lane r = (s.bank e).dreg lane r
  rest : (t.bank e).acc = (s.bank e).acc ∧ (t.bank e).h = (s.bank e).h ∧ (t.bank e).cur = (s.bank e).cur
    ∧ (t.bank e).z = (s.bank e).z ∧ (t.bank e).n = (s.bank e).n ∧ (t.bank e).v = (s.bank e).v
    ∧ (t.bank e).s = (s.bank e).s ∧ (t.bank e).g = (s.bank e).g ∧ (t.bank e).page = (s.bank e).page

/-- The next instruction in sequence, with the back-edges of hardware loops that end here (R187 to R190). -/
def InSequence (e : Nat) (s t : State) : Prop :=
  t.pcOf e = (loopEnd (s.pcOf e) (s.bank e).loops).1.getD (s.pcOf e + 1)
  ∧ (t.bank e).loops = (loopEnd (s.pcOf e) (s.bank e).loops).2 ∧ (t.bank e).stack = (s.bank e).stack

/-- Flags Z, N and V of a lane are these, S and G were set or are set now. -/
def LaneFlagsAre (z n v s g : Bool) (lane : Nat) (b b' : Bank) : Prop :=
  laneBit b'.z lane = z ∧ laneBit b'.n lane = n ∧ laneBit b'.v lane = v ∧ laneBit b'.s lane = (laneBit b.s lane || s)
  ∧ laneBit b'.g lane = (laneBit b.g lane || g)

/-- A stopping exception of code `k` was raised on engine `e` in the step (R139 to R141, R151): its bit of `ENG_EXC` is set, the first one
since they were cleared is recorded with the task and the address of the instruction, the ENG_EXC message is accepted, the engine runs
no task, and no byte changes but those of stores that earlier instructions issued. -/
structure Excepts (k e : Nat) (s t : State) : Prop where
  exc : bitOf (t.getF (ENG_EXC.KINDS e)) k = true
  info : s.getF (ENG_EXC.KINDS e) = 0 → t.getF (ENG_EXCINFO.KIND e) = k ∧ t.getF (ENG_EXCINFO.PC e) = s.pcOf e % 2 ^ 14
    ∧ (runningOn e s).map (· % 4096) = some (t.getF (ENG_EXCINFO.TASK e))
  sent : bitOf (t.getF (FLT_STICKY.BITS 0)) 0x11 = true ∧ Quiet t
  idle : t.engState e = 0 ∧ runningOn e t = none
  bytes : ∀ a, (∀ u ∈ (s.engine e).bufX.toList ++ (s.engine e).bufY.toList ++ (s.engine e).st1 ++ (s.engine e).st2 ++ (s.engine e).st3,
    ∀ d ∈ u.cells.map (·.1), a < d ∨ d + 4 ≤ a) → t.byte a = s.byte a

/-- Every short-format instruction, with its operation (R172 to R175). -/
def shortRows : List ((Nat → EccHit → Instr) × OpDef) :=
  [(.insNop, opNop), (.insMpy, opMpy), (.insMac, opMac), (.insMns, opMns), (.insMacn, opMacn), (.insAclr, opAclr), (.insAld,
   opAld), (.insAldw, opAldw), (.insAadd, opAadd), (.insAsub, opAsub), (.insAsh, opAsh), (.insRnd, opRnd), (.insTrn, opTrn),
   (.insAmv, opAmv), (.insAdd, opAdd), (.insAdds, opAdds), (.insSub, opSub), (.insSubs, opSubs), (.insAnd, opAnd), (.insOr, opOr),
   (.insXor, opXor), (.insShl, opShl), (.insShls, opShls), (.insShr, opShr), (.insAsr, opAsr), (.insAbs, opAbs), (.insNeg, opNeg),
   (.insMin, opMin), (.insMax, opMax), (.insClz, opClz), (.insCmp, opCmp), (.insMov, opMov), (.insAddi, opAddi), (.insAddis,
   opAddis), (.insAndi, opAndi), (.insOri, opOri), (.insXori, opXori), (.insCmpi, opCmpi), (.insSel, opSel), (.insLog2, opLog2),
   (.insExp2, opExp2), (.insDivs, opDivs), (.insTli, opTli), (.insMova, opMova), (.insAdda, opAdda), (.insMvda, opMvda),
   (.insMvad, opMvad), (.insRdpc, opRdpc)]

/-- Every command packet row: the command from its header, payload and bad words (which only MEM_READ meets), its opcode (R639), and
what its row fixes in the payload: ACT of ROLE_SET, SUB of RING_CFG, the operation of MAINT (R716, R741, R769). -/
def packetRows : List ((CmdHdr → List Word → List BadRead → Instr) × Nat × (List Word → List Word)) :=
  [(fun h p _ => .ping h p, 0x000, id), (fun h p _ => .resync h p, 0x001, id), (fun h p _ => .configure h p, 0x010, id),
   (fun h p _ => .modeSet h p, 0x011, id), (fun h p b => .memRead h p b, 0x020, id), (fun h p _ => .memWrite h p, 0x021, id),
   (fun h p _ => .notifySub h p, 0x030, id), (fun h p _ => .memClaim h p, 0x031, id), (fun h p _ => .slateRevert h p, 0x100, id),
   (fun h p _ => .taskWrite h p, 0x101, id), (fun h p _ => .taskDrop h p, 0x102, id), (fun h p _ => .taskRearm h p, 0x103, id),
   (fun h p _ => .aimgWrite h p, 0x104, id), (fun h p _ => .xferWrite h p, 0x105, id), (fun h p _ => .lineSet h p, 0x106, id),
   (fun h p _ => .sliceInit h p, 0x107, id), (fun h p _ => .codeLoad h p, 0x108, id), (fun h p _ => .coefWrite h p, 0x109, id),
   (fun h p _ => .sceneWrite h p, 0x10A, id), (fun h p _ => .sceneLoad h p, 0x10B, id), (fun h p _ => .take h p, 0x200, id),
   (fun h p _ => .takeCancel h p, 0x201, id), (fun h p _ => .recast h p, 0x202, id), (fun h p _ => .xpSet h p, 0x300, id),
   (fun h p _ => .xpRow h p, 0x301, id), (fun h p _ => .patchSet h p, 0x302, id), (fun h p _ => .portCfg h p, 0x400, id),
   (fun h p _ => .portStart h p, 0x401, id), (fun h p _ => .portStop h p, 0x402, id), (fun h p _ => .cgCfg h p, 0x403, id),
   (fun h p _ => .dlLane h p, 0x404, id), (fun h p _ => .meterSet h p, 0x405, id), (fun h p _ => .streamCfg h p, 0x500, id),
   (fun h p _ => .streamStart h p, 0x501, id), (fun h p _ => .streamStop h p, 0x502, id), (fun h p _ => .timeSet h p, 0x600, id),
   (fun h p _ => .clapTrig h p, 0x601, id), (fun h p _ => .faultCfg h p, 0x700, id), (fun h p _ => .logRead h p, 0x701, id),
   (fun h p _ => .logErasePerm h p, 0x702, id), (fun h p _ => .handover h p, 0x800, (withBits 0 2 0)),
   (fun h p _ => .claim h p, 0x800, (withBits 0 2 1)), (fun h p _ => .leave h p, 0x800, (withBits 0 2 2)),
   (fun h p _ => .join h p, 0x800, (withBits 0 2 3)), (fun h p _ => .ringCfgSize h p, 0x801, (withBits 28 4 0)),
   (fun h p _ => .ringCfgBusMap h p, 0x801, (withBits 28 4 1)), (fun h p _ => .ringCfgFwdRl0Rl1 h p, 0x801, (withBits 28 4 2)),
   (fun h p _ => .ringCfgFwdRl1Rl0 h p, 0x801, (withBits 28 4 3)), (fun h p _ => .fwUpdate h p, 0xF00, id),
   (fun h p _ => .provision h p, 0xF01, id), (fun h p _ => .sealDevice h p, 0xF02, id),
   (fun h p _ => .retire h p, 0xF03, fun p => setNth p 0 0), (fun h p _ => .restore h p, 0xF03, fun p => setNth p 0 1),
   (fun h p _ => .sramrow h p, 0xF03, fun p => setNth p 0 2)]

end Sys2Proof
end

