-- ==== Sys2Proof/Certificates/Slice0/Obligations.lean ====
section
/-! DEFINITION. The statements for the provers. -/

open Sys2Proof Sys2Proof.Machine

/-- Where command c stands at the front of the queue, one step is the execution of c on the state with the rest of the queue. (01_architecture.md) -/
def Obligations.StepIsExec : Prop :=
  ∀ (c : Instr) (s : State), step (s.withCommand c) = exec c s

/-- The state after reset keeps the invariant, and every source has the reaction of its default severity (R661). (R661) -/
def Obligations.ResetState : Prop :=
  Inv State.reset ∧ State.reset.pending = [] ∧ State.reset.mode = 0
  ∧ ∀ k, k < 256 → State.reset.getF (FLT_CFG.REACT k) = (match State.reset.getF (FLT_CFG.SEV k) with | 0 => 0 | 1 => 1 | 2 => 1 | _ => 3)

/-- Every step of the block, from any state and for any command or none, answers a next state, never a fault or a refusal, and in it every fault message and event record of the cycle has been accepted. (R657) -/
def Obligations.EveryStepIsAccepted : Prop :=
  ∀ s : State, ∃ t, step s = .next t ∧ Quiet t

/-- From every state whose byte memory is in its canonical form (addresses strictly rising, no byte listed that an unlisted one reads as), every step answers a state whose memory is so too, and the commands that wait are those that waited behind the one executed. The form is the model's own; that a step leaves the queue is what makes a command's effect its own. (R39, R105) -/
def Obligations.MemoryKeepsItsForm : Prop :=
  ∀ s t : State, Memory.wf s.mem = true → step s = .next t → Memory.wf t.mem = true ∧ t.pending = s.pending.tail

/-- Every command packet but RESYNC that comes to its checks and has CHECKONLY set changes nothing but the interface it came on: no other session, no generation count, no waiting packet, long operation or mode request, and no other part of the block. It is answered, with CHECKONLY shown, by the status and DETAIL with which the same packet without CHECKONLY is answered where that is answered at once. (R634, R635, R638) -/
def Obligations.CheckOnlyAppliesNothing : Prop :=
  ∀ x ∈ packetRows, ∀ (h : CmdHdr) (p : List Word) (bad : List BadRead) (s : State), x.2.1 ≠ 1 → Ready x.2.1 h (x.2.2 p) s →
    h.chk = false → (s.sess h.tr).cache = [] →
    ∃ t, exec (x.1 { h with chk := true } p bad) s = .next t
      ∧ Kept [.cmd, .outs] [0xD] [] s t ∧ (∀ k, k ≠ h.tr → t.sess k = s.sess k)
      ∧ t.cmd.gens = s.cmd.gens ∧ t.cmd.waiting = [] ∧ t.cmd.longOp = s.cmd.longOp ∧ t.cmd.modeReq = s.cmd.modeReq
      ∧ t.cmd.scenes = s.cmd.scenes
      ∧ (∃ st d pay, Replied x.2.1 { h with chk := true } st d pay t)
      ∧ ∀ u, exec (x.1 h p bad) s = .next u → ∀ st d pay, Replied x.2.1 h st d pay u →
          ∃ pay', Replied x.2.1 { h with chk := true } st d pay' t

/-- An X access above 0x1FFF, a Y access above 0x4FFF and a store to the Y common region, by a move or, for the reads, by a table lookup, of an otherwise legal instruction raise ADDR. An instruction whose two moves name the same cursor raises ILLEGAL. CALL pushes its return address; with four entries on the stack it raises STACK, and so does RET with none. (R103, R115, R194) -/
def Obligations.EngineExceptions : Prop :=
  (∀ x ∈ shortRows, ∀ (e : Nat) (ecc : EccHit) (s : State), issues x.2.opc e s = true → (runningOn e s).isSome = true →
      fetchBad ecc = none → Quiet s → shortLegal x.2 e s = true →
      ((moveX e s).used = true ∧ 0x1FFF < ((s.bank e).field (cCUR (moveX e s).csr)).toNat
        ∨ (moveY e s).used = true ∧ 0x4FFF < ((s.bank e).field (cCUR (moveY e s).csr)).toNat
        ∨ (moveY e s).op = 2 ∧ ((s.bank e).field (cCUR (moveY e s).csr)).toNat < 0x4000
        ∨ ∃ isY, x.2.reads (insOpnd (engWord e s)) = some isY
            ∧ ∃ a ∈ x.2.addrs (insOpnd (engWord e s)) (s.bank e), (if isY then 0x4FFF else 0x1FFF) < a) →
      ∃ t, exec (x.1 e ecc) s = .next t ∧ Excepts 1 e (eccNoted e ecc s) t)
  ∧ (∀ x ∈ shortRows, ∀ (e : Nat) (ecc : EccHit) (s : State), issues x.2.opc e s = true → (runningOn e s).isSome = true →
      fetchBad ecc = none → Quiet s → (moveX e s).used = true → (moveY e s).used = true → (moveX e s).csr = (moveY e s).csr →
      ∃ t, exec (x.1 e ecc) s = .next t ∧ Excepts 2 e (eccNoted e ecc s) t)
  ∧ (∀ (e n o : Nat) (ecc : EccHit) (s : State), RunsLong 0x34 e n o ecc s → o < 2 ^ 14 →
      atLoopEnd (s.pcOf e) (s.bank e).loops = false → ∃ t, exec (.insCall e ecc) s = .next t
        ∧ ((s.bank e).stack.length < 4 → (t.bank e).stack = (s.pcOf e + 1) % 2 ^ 14 :: (s.bank e).stack)
        ∧ ((s.bank e).stack.length = 4 → Excepts 3 e (eccNoted e ecc s) t))
  ∧ (∀ (e n o : Nat) (ecc : EccHit) (s : State), RunsLong 0x35 e n o ecc s → o = 0 →
      atLoopEnd (s.pcOf e) (s.bank e).loops = false → (s.bank e).stack = [] →
      ∃ t, exec (.insRet e ecc) s = .next t ∧ Excepts 3 e (eccNoted e ecc s) t)

/-- A ready PING is answered OK without a payload and changes nothing but the command interface. A RESYNC that is ready but for its HSEQ, whatever E was, is answered OK with the digest of the block in which E of its transport is its HSEQ + 1; its reply is then the only one in the replay cache of its transport, and the other caches stay. A ready NOTIFY_SUB is answered OK and writes the subscription mask of its transport alone. None of them changes anything but the command interface and what leaves the block. (R635, R638, R639, R641) -/
def Obligations.PingResyncSubscribe : Prop :=
  (∀ (h : CmdHdr) (p : List Word) (s : State), Ready 0 h p s → h.chk = false →
    ∃ t, exec (.ping h p) s = .next t
      ∧ Accepted 0 h [] t
      ∧ Kept [.cmd, .outs] [0xD] [] s t)
  ∧ (∀ (h : CmdHdr) (p : List Word) (s : State), Ready 1 h p (setE h.tr h.hseq s) → h.chk = false →
    ∃ t, exec (.resync h p) s = .next t
      ∧ Accepted 1 h (digest (setE h.tr (h.hseq + 1) s)) t
      ∧ (t.sess h.tr).cache.length = 1
      ∧ (∀ tr, tr ≠ h.tr → (t.sess tr).cache = (s.sess tr).cache)
      ∧ Kept [.cmd, .outs] [0xD] [] s t)
  ∧ (∀ (h : CmdHdr) (p : List Word) (s : State), Ready 0x30 h p s → h.chk = false →
    ∃ t, exec (.notifySub h p) s = .next t
      ∧ Accepted 0x30 h [] t
      ∧ (t.sess h.tr).mask = nAt p 0 + 2 ^ 32 * nAt p 1
      ∧ (∀ tr, tr ≠ h.tr → (t.sess tr).mask = (s.sess tr).mask)
      ∧ Kept [.cmd, .outs] [0xD] [] s t)

/-- A CONFIGURE in STANDBY that changes nothing sets VALID alone; one that changes rate, shot length or shape stores them and clears tasks, images, transfer entries, lines, patches, gains, meter points and stage memory. A MODE_SET to RESET asks for a soft reset. With a tick running, a MODE_SET waits and is not answered yet. Without one, a MODE_SET to TEST changes the mode and SYS_MODE.PREV at once. (R18, R19, R634, R751, R754, R757, R765) -/
def Obligations.ConfigureAndModeSet : Prop :=
  (∀ (h : CmdHdr) (p : List Word) (s : State), Ready 16 h p s → h.chk = false → s.mode = 2 → bits (nAt p 0) 0 2 ≠ 3 → s.getF SYS_CFG.RATE = bits (nAt p 0) 0 2 → s.getF SYS_CFG.SHOT = bits (nAt p 0) 2 2 → s.getF SYS_CFG.SHAPE = (if bits (nAt p 0) 0 2 = 0 then bits (nAt p 0) 4 1 else 0) →
    ∃ t, exec (.configure h p) s = .next t
      ∧ Accepted 0x10 h [] t
      ∧ t.flag SYS_CFG.VALID = true
      ∧ Kept [.cmd, .outs] [0xD] [SYS_CFG.VALID.addr] s t)
  ∧ (∀ (h : CmdHdr) (p : List Word) (s : State), Ready 16 h p s → h.chk = false → s.mode = 2 → bits (nAt p 0) 0 2 ≠ 3 → (¬(s.getF SYS_CFG.RATE = bits (nAt p 0) 0 2 ∧ s.getF SYS_CFG.SHOT = bits (nAt p 0) 2 2 ∧ s.getF SYS_CFG.SHAPE = (if bits (nAt p 0) 0 2 = 0 then bits (nAt p 0) 4 1 else 0))) →
    ∃ t, exec (.configure h p) s = .next t
      ∧ Accepted 0x10 h [] t
      ∧ t.flag SYS_CFG.VALID = true
      ∧ t.getF SYS_CFG.RATE = bits (nAt p 0) 0 2
      ∧ t.getF SYS_CFG.SHOT = bits (nAt p 0) 2 2
      ∧ (t.getF SYS_CFG.SHAPE = (if bits (nAt p 0) 0 2 = 0 then bits (nAt p 0) 4 1 else 0))
      ∧ t.cs.tasks = []
      ∧ t.cs.aimg = []
      ∧ t.cs.xfer = []
      ∧ t.cs.lines = []
      ∧ t.take.patch = []
      ∧ t.spl.live = []
      ∧ t.spl.slate = []
      ∧ t.dl.points = []
      ∧ t.stage = []
      ∧ Kept [.cmd, .outs, .mem, .stage, .eng, .cs, .spl, .take, .dl, .fab, .rl] [0xD, 3, 4, 7, 0xC, 0xF] [SYS_CFG.VALID.addr, (ENG_STAT.STATE 16).addr, (ENG_STAT.STATE 17).addr, (ENG_CTRL.HALT 16).addr, (ENG_CTRL.HALT 17).addr] s t)
  ∧ (∀ (h : CmdHdr) (p : List Word) (s : State), Ready 17 h p s → h.chk = false → bits (nAt p 0) 0 4 = 0 →
    ∃ t, exec (.modeSet h p) s = .next t
      ∧ Accepted 0x11 h [] t
      ∧ t.boot.softPending = true
      ∧ t.mode = s.mode
      ∧ Kept [.cmd, .outs, .boot] [0xD] [] s t)
  ∧ (∀ (h : CmdHdr) (p : List Word) (m : Nat) (s : State), Ready 17 h p s → h.chk = false → m = bits (nAt p 0) 0 4 → m ≠ 0 → modeSetStatus m s = 0 → s.tick = true → (¬(m = 3 ∧ ringFollower s = true)) →
    ∃ t, exec (.modeSet h p) s = .next t
      ∧ t.cmd.modeReq = some (m, h, false)
      ∧ (t.sess h.tr).e = some ((h.hseq + 1) % 2 ^ 32)
      ∧ (t.sess h.tr).cache = (s.sess h.tr).cache
      ∧ t.mode = s.mode
      ∧ Kept [.cmd, .outs] [0xD] [] s t)
  ∧ (∀ (h : CmdHdr) (p : List Word) (s : State), Ready 17 h p s → h.chk = false → bits (nAt p 0) 0 4 = 11 → s.fuse.sealFuse = false → s.mode = 2 → s.tick = false →
    ∃ t, exec (.modeSet h p) s = .next t
      ∧ Accepted 0x11 h [] t
      ∧ t.mode = 11
      ∧ t.getF SYS_MODE.PREV = 2
      ∧ bitOf (t.getF CMD_ISTAT.SRC) 6 = true
      ∧ Quiet t
      ∧ Kept acceptParts acceptPages [] s t)

/-- MEM_READ of the packet memory, the swap window or LPDDR5 answers the words that stand there and changes no memory. MEM_WRITE puts its words there and changes no other byte. MEM_CLAIM of a free range enters one claim of the host in the first free entry, and its release takes it out again. (R41, R599, R639) -/
def Obligations.MemoryCommands : Prop :=
  (∀ (h : CmdHdr) (p : List Word) (a : Nat) (n : Nat) (s : State), Ready 32 h p s → h.chk = false → a = cmdAddr p → n = nAt p 2 → 1 ≤ n → n ≤ 1024 → spanOk a n = true → (0x6000000 ≤ a ∧ a + 4 * n ≤ 0x6400000 ∨ 0x7000000 ≤ a ∧ a + 4 * n ≤ 0x7040000 ∨ s.flag DDR_STAT.READY = true ∧ 0x100000000 ≤ a ∧ a + 4 * n ≤ 0x100000000 + s.ddrBytes) →
    ∃ t, exec (.memRead h p []) s = .next t
      ∧ Accepted 0x20 h (s.wordsAt a n) t
      ∧ Kept [.cmd, .outs] [0xD] [] s t)
  ∧ (∀ (h : CmdHdr) (p : List Word) (a : Nat) (n : Nat) (s : State), Ready 33 h p s → h.chk = false → a = cmdAddr p → n = p.length - 2 → spanOk a n = true → (0x6000000 ≤ a ∧ a + 4 * n ≤ 0x6400000 ∨ 0x7000000 ≤ a ∧ a + 4 * n ≤ 0x7040000 ∨ s.flag DDR_STAT.READY = true ∧ 0x100000000 ≤ a ∧ a + 4 * n ≤ 0x100000000 + s.ddrBytes) → ((List.range n).all fun i => a < 0x100000000 || !inLineRange (a + 4 * i) s) = true →
    ∃ t, exec (.memWrite h p) s = .next t
      ∧ Accepted 0x21 h [] t
      ∧ t.wordsAt a n = p.drop 2
      ∧ (∀ b, b < a ∨ a + 4 * n ≤ b → t.byte b = s.byte b)
      ∧ Kept [.cmd, .outs, .mem] [0xD] [] s t)
  ∧ (∀ (h : CmdHdr) (p : List Word) (i : Nat) (base : Nat) (len : Nat) (s : State), Ready 49 h p s → h.chk = false → base = nAt p 1 → len = nAt p 2 → len ≠ 0 → 64 * (base + len) ≤ s.ddrBytes → bitOf (nAt p 0) 0 = false → s.flag DDR_STAT.READY = true → (s.fab.claims.any fun x => overlap base len x.2.base x.2.len && !(x.2.owner = 0 && x.2.id = 0)) = false → freeClaim s = some i →
    ∃ t, exec (.memClaim h p) s = .next t
      ∧ Accepted 0x31 h [] t
      ∧ t.fab.claims = s.fab.claims ++ [(i, ⟨0, 0, base, len⟩)]
      ∧ Kept [.cmd, .outs, .fab] [0xD] [] s t)
  ∧ (∀ (h : CmdHdr) (p : List Word) (base : Nat) (len : Nat) (s : State), Ready 49 h p s → h.chk = false → base = nAt p 1 → len = nAt p 2 → len ≠ 0 → 64 * (base + len) ≤ s.ddrBytes → bitOf (nAt p 0) 0 = true → (s.fab.claims.any fun x => x.2.owner = 0 && x.2.base = base && x.2.len = len) = true →
    ∃ t, exec (.memClaim h p) s = .next t
      ∧ Accepted 0x31 h [] t
      ∧ (t.fab.claims = s.fab.claims.filter fun x => !(x.2.owner = 0 && x.2.base = base && x.2.len = len))
      ∧ Kept [.cmd, .outs, .fab] [0xD] [] s t)

/-- An accepted TASK_WRITE puts its descriptor alone into the slate graph. An accepted TASK_DROP takes each listed task out of the slate graph; one that is not live becomes free. TASK_REARM takes quarantined live tasks back to WAITING with no overruns. AIMG_WRITE writes one image, XFER_WRITE its entries. SLATE_REVERT makes every kind of slate content as the live state is. (R203, R204, R205, R234, R295, R297, R312, R805) -/
def Obligations.SlateGraphCommands : Prop :=
  (∀ (h : CmdHdr) (p : List Word) (n : Nat) (s : State), Ready 257 h p s → h.chk = false → n = nAt p 0 → taskStatus n (slateTask (p.drop 1)) s = 0 →
    ∃ t, exec (.taskWrite h p) s = .next t
      ∧ Accepted 0x101 h [] t
      ∧ t.task n = slateTask (p.drop 1)
      ∧ (∀ m, m ≠ n → t.task m = s.task m)
      ∧ Kept [.cmd, .outs, .cs] [0xD] [] s t)
  ∧ (∀ (h : CmdHdr) (p : List Word) (s : State), Ready 258 h p s → h.chk = false → (p.all fun w => w.toNat < 4096 && (s.task w.toNat).slate) = true → breaksTake s (p.foldl (fun u w => dropTask w.toNat u) s) = false →
    ∃ t, exec (.taskDrop h p) s = .next t
      ∧ Accepted 0x102 h [] t
      ∧ (∀ w ∈ p, t.task w.toNat = (if (s.task w.toNat).live then { s.task w.toNat with slate := false } else TaskD.free))
      ∧ (∀ m, (∀ w ∈ p, w.toNat ≠ m) → t.task m = s.task m)
      ∧ Kept [.cmd, .outs, .cs, .eng] [0xD] [] s t)
  ∧ (∀ (h : CmdHdr) (p : List Word) (s : State), Ready 259 h p s → h.chk = false → (p.all fun w => w.toNat < 4096 && (s.task w.toNat).live) = true →
    ∃ t, exec (.taskRearm h p) s = .next t
      ∧ Accepted 0x103 h [] t
      ∧ (∀ w ∈ p, t.task w.toNat = { s.task w.toNat with ovr := 0, st := if (s.task w.toNat).st = 7 then 2 else (s.task w.toNat).st })
      ∧ (∀ m, (∀ w ∈ p, w.toNat ≠ m) → t.task m = s.task m)
      ∧ Kept [.cmd, .outs, .cs] [0xD] [] s t)
  ∧ (∀ (h : CmdHdr) (p : List Word) (k : Nat) (s : State), Ready 260 h p s → h.chk = false → k = nAt p 0 → k < 512 → (s.cs.tasks.any fun c => inGraph c.2 && c.2.aimg = k) = false →
    ∃ t, exec (.aimgWrite h p) s = .next t
      ∧ Accepted 0x104 h [] t
      ∧ (smGet (List.replicate 32 0) t.cs.aimg k = (p.drop 1).flatMap fun w => [BitVec.ofNat 16 w.toNat, BitVec.ofNat 16 (w.toNat / 65536)])
      ∧ (∀ j, j ≠ k → smGet (List.replicate 32 0) t.cs.aimg j = smGet (List.replicate 32 0) s.cs.aimg j)
      ∧ Kept [.cmd, .outs, .cs] [0xD] [] s t)
  ∧ (∀ (h : CmdHdr) (p : List Word) (k : Nat) (l : List (Word × Word)) (s : State), Ready 261 h p s → h.chk = false → k = nAt p 0 → l = pairs (p.drop 1) → (l.any xferBad) = false → k + l.length ≤ 8192 → ((List.range l.length).any fun i => xferNamed (k + i) s) = false →
    ∃ t, exec (.xferWrite h p) s = .next t
      ∧ Accepted 0x105 h [] t
      ∧ (∀ i, i < l.length → smGet (0, 0) t.cs.xfer (k + i) = l.getD i (0, 0))
      ∧ (∀ j, j < k ∨ k + l.length ≤ j → t.xfer j = s.xfer j)
      ∧ Kept [.cmd, .outs, .cs] [0xD] [] s t)
  ∧ (∀ (h : CmdHdr) (p : List Word) (s : State), Ready 256 h p s → h.chk = false → s.take.pending = none →
    ∃ t, exec (.slateRevert h p) s = .next t
      ∧ Accepted 0x100 h [] t
      ∧ (∀ c ∈ t.cs.tasks, c.1 < 4096 → c.2.slate = inLive c.2)
      ∧ (t.cs.tasks.map (fun c => (c.1, { c.2 with slate := false })) = (s.cs.tasks.filter fun c => c.2.live || 4096 ≤ c.1).map fun c => (c.1, { c.2 with slate := false }))
      ∧ t.take.patchSlate = []
      ∧ t.take.slices = []
      ∧ t.take.recasts = []
      ∧ t.spl.slate = []
      ∧ t.flag SPL_STAT.SLATE_DIRTY = false
      ∧ (∀ e, e < 18 → t.flag (ENG_STAT.SLATE_DIRTY e) = false)
      ∧ (∀ l, (t.line l).slate = none)
      ∧ (t.mem = ((List.range 18).foldl (fun u e => copyBytes (pageBase e !(s.livePage e)) (pageBase e (s.livePage e)) 0x10000 u) s).mem)
      ∧ t.take.patch = s.take.patch
      ∧ t.spl.live = s.spl.live
      ∧ Kept [.cmd, .outs, .mem, .cs, .spl, .take, .fab] [0xD, 4, 7, 0xF] [(ENG_STAT.STATE 16).addr, (ENG_STAT.STATE 17).addr, (ENG_CTRL.HALT 16).addr, (ENG_CTRL.HALT 17).addr] s t)

/-- An accepted LINE_SET on a base other than that of the live line claims its range and stands in the slate, and the live setting stays. On the base of the live line it stands in the slate, the live setting stays, and the claim of the line on that base has the longest of the live, the staged and the new length. An accepted SLICE_INIT appends its entries to those of the slate. An accepted CODE_LOAD writes its words as instructions of the engine that serves the logical engine. A COEF_WRITE to an engine whose slate page takes writes puts its words there and sets SLATE_DIRTY. None changes another line or another byte, and none anything else but the command interface and a count of host accesses. (R109, R143, R213, R215, R216, R300, R301, R763) -/
def Obligations.SlateMemoryCommands : Prop :=
  (∀ (h : CmdHdr) (p : List Word) (i : Nat) (x : LineSet) (s : State), Ready 262 h p s → h.chk = false → i = nAt p 0 → x = ⟨nAt p 1 + 2 ^ 32 * nAt p 2, nAt p 3, nAt p 4⟩ → lineBad i x.base x.len x.delay s = false → s.flag DDR_STAT.READY = true → (match (s.line i).live with | some c => decide (c.base ≠ x.base) && !overlap (lineBase x.base) (lineUnits x.len) (lineBase c.base) (lineUnits (max c.len ((s.line i).staged.getD 0))) | none => true) = true → (claimRange ⟨1, i, lineBase x.base, lineUnits x.len⟩ (revertLine i s)).1 = 0 →
    ∃ t, exec (.lineSet h p) s = .next t
      ∧ Accepted 0x106 h [] t
      ∧ (t.line i).slate = some x
      ∧ (t.line i).live = (s.line i).live
      ∧ (⟨1, i, lineBase x.base, lineUnits x.len⟩ : MemClaim) ∈ t.fab.claims.map (·.2)
      ∧ (∀ j, j ≠ i → t.line j = s.line j)
      ∧ Kept [.cmd, .outs, .cs, .fab] [0xD] [] s t)
  ∧ (∀ (h : CmdHdr) (p : List Word) (i : Nat) (x : LineSet) (c : LineSet) (s : State), Ready 262 h p s → h.chk = false → i = nAt p 0 → x = ⟨nAt p 1 + 2 ^ 32 * nAt p 2, nAt p 3, nAt p 4⟩ → lineBad i x.base x.len x.delay s = false → s.flag DDR_STAT.READY = true → (s.line i).live = some c → c.base = x.base → (claimRange ⟨1, i, lineBase c.base, lineUnits (max (max c.len ((s.line i).staged.getD 0)) x.len)⟩ s).1 ≠ 6 →
    ∃ t, exec (.lineSet h p) s = .next t
      ∧ Accepted 0x106 h [] t
      ∧ (t.line i).slate = some x
      ∧ (t.line i).live = some c
      ∧ (∀ y ∈ t.fab.claims, y.2.owner = 1 → y.2.id = i → y.2.base = lineBase c.base → y.2.len = lineUnits (max (max c.len ((s.line i).staged.getD 0)) x.len))
      ∧ (∀ j, j ≠ i → t.line j = s.line j)
      ∧ Kept [.cmd, .outs, .cs, .fab] [0xD] [] s t)
  ∧ (∀ (h : CmdHdr) (p : List Word) (l : List SliceInit) (s : State), Ready 263 h p s → h.chk = false → l = (pairs p).map (fun w => ⟨w.1, w.2⟩) → sliceInitFault l ((s.take.slices.map (·.size)).sum) 0 = none → (l.all fun x => (s.physOf x.logeng).isSome) = true →
    ∃ t, exec (.sliceInit h p) s = .next t
      ∧ Accepted 0x107 h [] t
      ∧ t.take.slices = s.take.slices ++ l
      ∧ Kept [.cmd, .outs, .take] [0xD] [] s t)
  ∧ (∀ (h : CmdHdr) (p : List Word) (e : Nat) (k : Nat) (s : State), Ready 264 h p s → h.chk = false → k = nAt p 1 → nAt p 0 < 16 → k + (p.length - 2) / 2 ≤ 16384 → (s.cs.tasks.any fun c => inGraph c.2 && c.2.logeng = nAt p 0 && k ≤ c.2.entry && c.2.entry < k + (p.length - 2) / 2) = false → s.physOf (nAt p 0) = some e →
    ∃ t, exec (.codeLoad h p) s = .next t
      ∧ Accepted 0x108 h [] t
      ∧ t.wordsAt (engWin e + 8 * k) (p.length - 2) = p.drop 2
      ∧ (∀ b, b < engWin e + 8 * k ∨ engWin e + 8 * k + 4 * (p.length - 2) ≤ b → t.byte b = s.byte b)
      ∧ Kept [.cmd, .outs, .mem] [0xD] [] s t)
  ∧ (∀ (h : CmdHdr) (p : List Word) (e : Nat) (k : Nat) (a : Nat) (s : State), Ready 265 h p s → h.chk = false → k = nAt p 1 → nAt p 0 < 16 → k + (p.length - 2) ≤ 16384 → s.physOf (nAt p 0) = some e → engClosed e s = false → s.flag (ENG_STAT.SLATE_READY e) = true → (s.engine e).held = [] → a = pageBase e (!(s.livePage e)) + 4 * k →
    ∃ t, exec (.coefWrite h p) s = .next t
      ∧ Accepted 0x109 h [] t
      ∧ t.wordsAt a (p.length - 2) = p.drop 2
      ∧ t.flag (ENG_STAT.SLATE_DIRTY e) = true
      ∧ (∀ b, b < a ∨ a + 4 * (p.length - 2) ≤ b → t.byte b = s.byte b)
      ∧ Kept [.cmd, .outs, .mem] [0xD, 0xB] [(ENG_STAT.SLATE_DIRTY e).addr] s t)

/-- A first SCENE_WRITE packet, with no row of the eMRAM under replacement or near its wear limit, marks its slot invalid and puts its stored packets after the header; the slot stays open. A SCENE_LOAD of a valid slot begins a long operation. (R644, R650, R651) -/
def Obligations.SceneCommands : Prop :=
  (∀ (h : CmdHdr) (p : List Word) (k : Nat) (n : Nat) (l : List (List Word)) (s : State), Ready 0x10A h p s → h.chk = false → k = bits (nAt p 0) 0 6 → k < 48 → bitOf (nAt p 0) 31 = true → bitOf (nAt p 0) 30 = false → 9 ≤ p.length → n = p.length - 9 → storedPackets 1025 9 (p.drop 9) = .inr l → (s.fab.wear.all fun c => decide (c.2 + 1024 < wearLimit s)) = true → 1024 < wearLimit s → s.fab.replacing = [] →
    ∃ t, exec (.sceneWrite h p) s = .next t
      ∧ Accepted 0x10A h [] t
      ∧ t.wordsAt (mramBase + sceneOff k + 64) n = p.drop 9
      ∧ t.word (mramBase + sceneOff k) = 0
      ∧ t.cmd.scenes.head? = some (k, n, l.length)
      ∧ (∀ b, b < mramBase + sceneOff k ∨ mramBase + sceneOff k + 0x40000 ≤ b → t.byte b = s.byte b)
      ∧ Quiet t
      ∧ Kept (acceptParts ++ [.mem, .fab]) (acceptPages ++ [8]) [] s t)
  ∧ (∀ (h : CmdHdr) (p : List Word) (k : Nat) (s : State), Ready 0x10B h p s → h.chk = false → k = nAt p 0 → s.take.pending = none → k < 48 → (sceneStream k s).isSome = true →
    ∃ t, exec (.sceneLoad h p) s = .next t
      ∧ Accepted 0x10B h [] t
      ∧ t.cmd.longOp = some ⟨0x10B, h.tr, h.hseq, 0, 0xFFFF, k⟩
      ∧ t.flag CMD_STAT.LONGOP = true
      ∧ Kept [.cmd, .outs] [0xD] [] s t)

/-- Outside a ring, a TAKE that passes its checks becomes the pending take, and its reply holds its shot and its number. Outside a ring, a TAKE_CANCEL before the lock boundary abandons the pending take and counts it in ABANDONED. With no take pending and none of the same logical engine waiting, a RECAST whose logical engine is served, and whose target is a SPARE engine or the one the Gaffer core chooses, enters the slate with that target, which turns LOADING. (R155, R307, R309, R311, R328, R763) -/
def Obligations.TakeCommands : Prop :=
  (∀ (h : CmdHdr) (p : List Word) (s : State), Ready 0x200 h p s → h.chk = false → takeCheck true p s = 0 → asksRing s = false →
    ∃ t, exec (.take h p) s = .next t
      ∧ Accepted 0x200 h (takeWords (takeOf p ((takeShot p s).map Int.toNat)) s) t
      ∧ t.take = { s.take with pending := some (takeOf p ((takeShot p s).map Int.toNat)) }
      ∧ Kept [.cmd, .outs, .take] [0xD] [] s t)
  ∧ (∀ (h : CmdHdr) (p : List Word) (k : Take) (s : State), Ready 0x201 h p s → h.chk = false → s.take.pending = some k → k.locked = false → s.getF RL_STAT.STATE ≠ 2 → (match k.sT with | some b => decide (s.shot + 1 < b) | none => true) = true →
    ∃ t, exec (.takeCancel h p) s = .next t
      ∧ Accepted 0x201 h [] t
      ∧ t.take.pending = none
      ∧ t.getF SYS_TAKE_REFUSED.ABANDONED = min (2 ^ 16 - 1) (s.getF SYS_TAKE_REFUSED.ABANDONED + 1)
      ∧ t.cs = s.cs
      ∧ Kept [.cmd, .outs, .take] [0xD] [SYS_TAKE_REFUSED.ABANDONED.addr] s t)
  ∧ (∀ (h : CmdHdr) (p : List Word) (le : Nat) (src : Nat) (tgt : Nat) (s : State), Ready 0x202 h p s → h.chk = false → le = bits (nAt p 0) 0 4 → servedBy le s = some src → (if bits (nAt p 0) 8 5 = 0x1F then spareEngine s else if s.engState (bits (nAt p 0) 8 5) = 3 then some (bits (nAt p 0) 8 5) else none) = some tgt → tgt < 18 → (s.take.recasts.all fun r => r.logical ≠ le) = true → s.take.pending = none →
    ∃ t, exec (.recast h p) s = .next t
      ∧ Accepted 0x202 h [] t
      ∧ t.take = { s.take with recasts := s.take.recasts ++ [⟨le, src, tgt, false⟩] }
      ∧ t.engState tgt = 4
      ∧ Kept [.cmd, .outs, .take] [0xD] [(ENG_STAT.STATE tgt).addr] s t)

/-- With room in the fade table and no take pending, an XP_SET or XP_ROW in range makes each crosspoint it names last have the slate target, law and length of that entry, sets SLATE_DIRTY and leaves every live gain; a target equal to the live one leaves no entry. A PATCH_SET makes each DEST that it names last have that source in the slate. (R257, R258, R260, R261, R298, R299) -/
def Obligations.RoutingCommands : Prop :=
  (∀ (h : CmdHdr) (p : List Word) (m : Nat) (s : State), Ready 0x300 h p s → h.chk = false → m = p.length / 3 → ((List.range m).all fun k => !xpBad (nAt p (3 * k)) (nAt p (3 * k + 2)) s) = true → xpHeld s + m ≤ fadeTable → s.take.pending = none →
    ∃ t, exec (.xpSet h p) s = .next t
      ∧ Accepted 0x300 h [] t
      ∧ (∀ i, i < m → (∀ j, i < j → j < m → xpKey (nAt p (3 * j)) s ≠ xpKey (nAt p (3 * i)) s) → entryOf t.spl.slate (xpKey (nAt p (3 * i)) s) = if wAt p (3 * i + 1) = xpLive (xpKey (nAt p (3 * i)) s) s then none else some ⟨wAt p (3 * i + 1), bitOf (nAt p (3 * i)) 9, xpLen (nAt p (3 * i)) (nAt p (3 * i + 2)) s⟩)
      ∧ (∀ k, (∀ i, i < m → xpKey (nAt p (3 * i)) s ≠ k) → entryOf t.spl.slate k = entryOf s.spl.slate k)
      ∧ t.spl.live = s.spl.live
      ∧ t.flag SPL_STAT.SLATE_DIRTY = true
      ∧ Kept [.cmd, .outs, .spl] [0xD, 4] [] s t)
  ∧ (∀ (h : CmdHdr) (p : List Word) (m : Nat) (w : Nat) (s : State), Ready 0x301 h p s → h.chk = false → m = p.length - 2 → w = nAt p 0 → bits w 0 8 = 0 → bits w 20 12 < s.taps → bits w 10 10 + m ≤ s.buses → bits (nAt p 1) 16 16 = 0 → bits (nAt p 1) 0 16 ≠ 0 → xpHeld s + m ≤ fadeTable → s.take.pending = none →
    ∃ t, exec (.xpRow h p) s = .next t
      ∧ Accepted 0x301 h [] t
      ∧ (∀ i, i < m → entryOf t.spl.slate (xpKey w s + i) = if wAt p (2 + i) = xpLive (xpKey w s + i) s then none else some ⟨wAt p (2 + i), bitOf w 9, xpLen w (nAt p 1) s⟩)
      ∧ (∀ k, k < xpKey w s ∨ xpKey w s + m ≤ k → entryOf t.spl.slate k = entryOf s.spl.slate k)
      ∧ t.spl.live = s.spl.live
      ∧ t.flag SPL_STAT.SLATE_DIRTY = true
      ∧ Kept [.cmd, .outs, .spl] [0xD, 4] [] s t)
  ∧ (∀ (h : CmdHdr) (p : List Word) (s : State), Ready 0x302 h p s → h.chk = false → (p.all fun w => !patchBad w s && !patchTaken w s) = true → s.take.pending = none →
    ∃ t, exec (.patchSet h p) s = .next t
      ∧ Accepted 0x302 h [] t
      ∧ (∀ i, i < p.length → (∀ j, i < j → j < p.length → nAt p j / 65536 ≠ nAt p i / 65536) → entryOf t.take.patchSlate (nAt p i / 65536) = some (nAt p i % 65536))
      ∧ t.take.patch = s.take.patch
      ∧ Kept [.cmd, .outs, .take] [0xD] [] s t)

/-- An accepted PORT_CFG writes the configuration, channel counts and maps of one stopped port. An accepted PORT_START or PORT_STOP queues its directions for the boundary or trigger that it names, and its enable bits follow at once. An accepted CG_CFG writes the configuration and the rate tolerance of one clock group. (R368, R369, R373, R386, R387, R388, R640) -/
def Obligations.SerialCommands : Prop :=
  (∀ (h : CmdHdr) (p : List Word) (k : Nat) (b : Nat) (s : State), Ready 0x400 h p s → h.chk = false → k = nAt p 0 → k < 64 → b = 0x50000 + k * 0x100 → portCheck k (nAt p 1 &&& 0xFF800000) (nAt p 2 &&& 0x3F3F) (((p.drop 3).take 8).map fun w => wd (w.toNat &&& 0x1F1F1F1F)) (((p.drop 11).take 8).map fun w => wd (w.toNat &&& 0x1F1F1F1F)) s = 0 →
    ∃ t, exec (.portCfg h p) s = .next t
      ∧ Accepted 0x400 h [] t
      ∧ t.reg b = wd (nAt p 1 &&& 0xFF800000)
      ∧ t.reg (b + 0x14) = wd (nAt p 2 &&& 0x3F3F)
      ∧ (∀ i, i < 8 → t.reg (b + 0x20 + 4 * i) = wd (nAt p (3 + i) &&& 0x1F1F1F1F) ∧ t.reg (b + 0x40 + 4 * i) = wd (nAt p (11 + i) &&& 0x1F1F1F1F))
      ∧ (∀ a, a < b ∨ b + 0x60 ≤ a → a / 65536 ≠ 0xD → a ∉ mgmtTx → t.reg a = s.reg a)
      ∧ Kept [.cmd, .outs] [0xD, 5] [] s t)
  ∧ (∀ (h : CmdHdr) (p : List Word) (k : Nat) (ds : List Bool) (s : State), Ready 0x401 h p s → h.chk = false → k = nAt p 0 % 64 → ds = portDirs (nAt p 0) → ds ≠ [] → (timing 0x33F p s).1 = 0 → portStartFault k ds s = none →
    ∃ t, exec (.portStart h p) s = .next t
      ∧ Accepted 0x401 h [] t
      ∧ (∀ d, t.flag (dirField d k) = (ds.contains d || s.flag (dirField d k)))
      ∧ ((t.port k).reqs = (s.port k).reqs ++ ds.map fun d => ⟨d, true, (timing 0x33F p s).2.1, (timing 0x33F p s).2.2⟩)
      ∧ (∀ q, q ≠ k → t.port q = s.port q)
      ∧ Kept [.cmd, .outs, .sp] [0xD] [0x50004 + k * 0x100] s t)
  ∧ (∀ (h : CmdHdr) (p : List Word) (k : Nat) (ds : List Bool) (s : State), Ready 0x402 h p s → h.chk = false → k = nAt p 0 % 64 → ds = portDirs (nAt p 0) → ds ≠ [] → (timing 0x33F p s).1 = 0 →
    ∃ t, exec (.portStop h p) s = .next t
      ∧ Accepted 0x402 h [] t
      ∧ (∀ d, t.flag (dirField d k) = (!ds.contains d && s.flag (dirField d k)))
      ∧ ((t.port k).reqs = (s.port k).reqs ++ ds.map fun d => ⟨d, false, (timing 0x33F p s).2.1, (timing 0x33F p s).2.2⟩)
      ∧ (∀ q, q ≠ k → t.port q = s.port q)
      ∧ Kept [.cmd, .outs, .sp] [0xD] [0x50004 + k * 0x100] s t)
  ∧ (∀ (h : CmdHdr) (p : List Word) (g : Nat) (w : Nat) (s : State), Ready 0x403 h p s → h.chk = false → g = nAt p 0 → g < 16 → w = nAt p 1 &&& 0xFFFFE000 → 1 ≤ nAt p 2 → nAt p 2 ≤ 10000 → cgCheck g w s = 0 → (∀ k, 8 ≤ k → k < 12 → s.flag (CLK_CANDST.ACTIVE k) = false) →
    ∃ t, exec (.cgCfg h p) s = .next t
      ∧ Accepted 0x403 h [] t
      ∧ t.reg (0x54000 + 0x20 * g) = wd w
      ∧ t.getF (CG_RATETOL.PPM g) = nAt p 2
      ∧ Kept [.cmd, .outs, .sp, .pin] [0xD] [0x54000 + 0x20 * g, 0x54004 + 0x20 * g, 0x54008 + 0x20 * g, (CG_RATETOL.PPM g).addr] s t)

/-- Accepted, DL_LANE and the stream commands wait for the boundary or trigger that they name; METER_SET stages each changed point for the next period; STREAM_CFG writes the words of one stopped context; TIME_SET waits for the next shot boundary; CLAP_TRIG writes the seven registers of a trigger, and arms it where EN is set. (R414, R433, R451, R465, R471, R534, R556, R557, R640) -/
def Obligations.DailiesStreamAndTimeCommands : Prop :=
  (∀ (h : CmdHdr) (p : List Word) (l : Nat) (st : Bool) (s : State), Ready 0x404 h p s → h.chk = false → l = nAt p 0 % 32 → st = bitOf (nAt p 0) 8 → (timing 0x11F p s).1 = 0 → (st = false ∨ laneStartStatus l s = 0) →
    ∃ t, exec (.dlLane h p) s = .next t
      ∧ Accepted 0x404 h [] t
      ∧ t.flag (DL_LCFG.EN l) = st
      ∧ t.dl.reqs = s.dl.reqs ++ [(l, ⟨false, st, (timing 0x11F p s).2.1, (timing 0x11F p s).2.2⟩)]
      ∧ Kept [.cmd, .outs, .dl] [0xD] [(DL_LCFG.EN l).addr] s t)
  ∧ (∀ (h : CmdHdr) (p : List Word) (k : Nat) (s : State), Ready 0x405 h p s → h.chk = false → k = nAt p 0 → k + (p.length - 1) ≤ 4096 → ((p.drop 1).all fun w => pointOk w s) = true →
    ∃ t, exec (.meterSet h p) s = .next t
      ∧ Accepted 0x405 h [] t
      ∧ (∀ i, i < p.length - 1 → entryOf t.dl.pend (k + i) = if (smGet PointU.reset s.dl.points (k + i)).desc = wAt p (1 + i) then none else some (wAt p (1 + i)))
      ∧ (∀ j, j < k ∨ k + (p.length - 1) ≤ j → entryOf t.dl.pend j = entryOf s.dl.pend j)
      ∧ t.dl.points = s.dl.points
      ∧ Kept [.cmd, .outs, .dl] [0xD] [] s t)
  ∧ (∀ (h : CmdHdr) (p : List Word) (c : Nat) (s : State), Ready 0x500 h p s → h.chk = false → c = nAt p 0 → ctxCheck c (p.drop 1) s = 0 →
    ∃ t, exec (.streamCfg h p) s = .next t
      ∧ Accepted 0x500 h [] t
      ∧ t.ctx c = { s.ctx c with words := p.drop 1 }
      ∧ (∀ d, d ≠ c → t.ctx d = s.ctx d)
      ∧ Kept [.cmd, .outs, .net] [0xD] [] s t)
  ∧ (∀ (h : CmdHdr) (p : List Word) (c : Nat) (s : State), Ready 0x501 h p s → h.chk = false → c = nAt p 0 % 1024 → (timing 0x3FF p s).1 = 0 → streamStartStatus c s = 0 →
    ∃ t, exec (.streamStart h p) s = .next t
      ∧ Accepted 0x501 h [] t
      ∧ t.net.reqs = s.net.reqs ++ [(c, ⟨false, true, (timing 0x3FF p s).2.1, (timing 0x3FF p s).2.2⟩)]
      ∧ (∀ d, t.ctx d = s.ctx d)
      ∧ Kept [.cmd, .outs, .net] [0xD] [] s t)
  ∧ (∀ (h : CmdHdr) (p : List Word) (c : Nat) (s : State), Ready 0x502 h p s → h.chk = false → c = nAt p 0 % 1024 → (timing 0x3FF p s).1 = 0 →
    ∃ t, exec (.streamStop h p) s = .next t
      ∧ Accepted 0x502 h [] t
      ∧ t.net.reqs = s.net.reqs ++ [(c, ⟨false, false, (timing 0x3FF p s).2.1, (timing 0x3FF p s).2.2⟩)]
      ∧ (∀ d, t.ctx d = s.ctx d)
      ∧ Kept [.cmd, .outs, .net] [0xD] [] s t)
  ∧ (∀ (h : CmdHdr) (p : List Word) (s : State), Ready 0x600 h p s → h.chk = false → nAt p 0 < 1000000000 → nAt p 2 < 65536 → s.flag PTP_STAT.SERVOVALID = false → ringFollower s = false →
    ∃ t, exec (.timeSet h p) s = .next t
      ∧ Accepted 0x600 h [] t
      ∧ t.ptp = { s.ptp with timeSet := some (nAt p 1 + 2 ^ 32 * nAt p 2, nAt p 0) }
      ∧ Kept [.cmd, .outs, .ptp] [0xD] [] s t)
  ∧ (∀ (h : CmdHdr) (p : List Word) (i : Nat) (w : Nat) (s : State), Ready 0x601 h p s → h.chk = false → i = nAt p 0 → i < 32 → w = nAt p 1 &&& 0xFFFCFFFF → bitOf w 31 = true → trigCheck i w (nAt p 3 + 2 ^ 32 * (nAt p 4 % 65536)) (nAt p 2) (nAt p 5) (nAt p 7) s = 0 →
    ∃ t, exec (.clapTrig h p) s = .next t
      ∧ Accepted 0x601 h [] t
      ∧ t.reg (0x20400 + 0x20 * i) = wd w
      ∧ t.getF (CLP_TSTAT.STATE i) = 1
      ∧ bitOf (t.getF CLP_CLAIM.TRIG) i = true
      ∧ (entryOf t.ptp.trig i = some ⟨nAt p 3 + 2 ^ 32 * (nAt p 4 % 65536), nAt p 2, 0, if bitOf w 19 then nAt p 7 else 1, false⟩)
      ∧ Kept [.cmd, .outs, .ptp, .pin] [0xD, 2] [] s t)
  ∧ (∀ (h : CmdHdr) (p : List Word) (i : Nat) (s : State), Ready 0x601 h p s → h.chk = false → i = nAt p 0 → i < 32 → bitOf (nAt p 1) 31 = false → s.flag (CLP_TCFG.EN i) = false →
    ∃ t, exec (.clapTrig h p) s = .next t
      ∧ Accepted 0x601 h [] t
      ∧ t.reg (0x20400 + 0x20 * i) = wd (nAt p 1 &&& 0x7FFCFFFF)
      ∧ t.ptp = s.ptp
      ∧ Kept [.cmd, .outs] [0xD, 2] [] s t)

/-- An accepted FAULT_CFG gives each source that it names last its severity and reaction. An accepted LOG_READ answers the walk of its area from its offset and changes no memory. LOG_ERASE_PERM begins a long operation and writes zeros over the permanent area and nowhere else. (R644, R663, R686, R687, R688) -/
def Obligations.FaultAndLogCommands : Prop :=
  (∀ (h : CmdHdr) (p : List Word) (s : State), Ready 0x700 h p s → h.chk = false → (p.all fun w => !faultBad w) = true →
    ∃ t, exec (.faultCfg h p) s = .next t
      ∧ Accepted 0x700 h [] t
      ∧ (∀ i, i < p.length → (∀ j, i < j → j < p.length → bits (nAt p j) 16 8 ≠ bits (nAt p i) 16 8) → t.getF (FLT_CFG.SEV (bits (nAt p i) 16 8)) = bits (nAt p i) 0 2 ∧ t.getF (FLT_CFG.REACT (bits (nAt p i) 16 8)) = bits (nAt p i) 4 2)
      ∧ (∀ k, k < 256 → (∀ i, i < p.length → bits (nAt p i) 16 8 ≠ k) → t.reg (FLT_CFG.SEV k).addr = s.reg (FLT_CFG.SEV k).addr)
      ∧ Kept [.cmd, .outs] [0xD, 9] [] s t)
  ∧ (∀ (h : CmdHdr) (p : List Word) (off : Nat) (s : State), Ready 0x701 h p s → h.chk = false → nAt p 0 ≤ 1 → off = nAt p 1 → (off = 0xFFFFFFFF ∨ off % 8 = 0 ∧ (if nAt p 0 = 1 then 0x40000 ≤ off ∧ off < 0x200000 else off < 0x40000)) →
    ∃ t, exec (.logRead h p) s = .next t
      ∧ (Accepted 0x701 h (logWalk (decide (nAt p 0 = 1)) (if nAt p 0 = 1 then s.getF LOG_CHEAD.OFF else s.getF LOG_PHEAD.OFF) 270000 (if off = 0xFFFFFFFF then (if nAt p 0 = 1 then s.getF LOG_OLDEST.OFF else 0) else off) 0 0 [] s) t)
      ∧ Kept [.cmd, .outs] [0xD] [] s t)
  ∧ (∀ (h : CmdHdr) (p : List Word) (s : State), Ready 0x702 h p s → h.chk = false → nAt p 0 = 0x10E50001 →
    ∃ t, exec (.logErasePerm h p) s = .next t
      ∧ Accepted 0x702 h [] t
      ∧ t.cmd.longOp = some ⟨0x702, h.tr, h.hseq, 0, 0xFFFF, 0⟩
      ∧ t.flag CMD_STAT.LONGOP = true
      ∧ t.flag LOG_STAT.ERASING = true
      ∧ (∀ a, t.byte a = if mramBase ≤ a ∧ a < mramBase + 0x40000 then 0 else s.byte a)
      ∧ Quiet t
      ∧ Kept (acceptParts ++ [.mem, .fab]) (acceptPages ++ [8, 0xA]) [] s t)

/-- A paired holder whose partner is valid begins a handover and wakes its stand-in. A STANDIN or FENCED chip with LEASE_IN low that claims takes the token: role HOLDER, LEASE_OUT high, unpaired, WAKING, no take pending. A chip that leaves is unpaired, a holder becomes SOLO with LEASE_OUT low. A chip that joins takes the place of its strap, or role STANDIN where its partner has the token. (R712, R716, R723) -/
def Obligations.RoleCommands : Prop :=
  (∀ (h : CmdHdr) (p : List Word) (q : List Word) (s : State), q = withBits 0 2 0 p → Ready 0x800 h q s → h.chk = false → nAt q 0 = 0 → s.pairedHolder = true → s.sti.partnerValid = true →
    ∃ t, exec (.handover h p) s = .next t
      ∧ Accepted 0x800 h [] t
      ∧ t.sti.handover = 1
      ∧ t.role = 1
      ∧ t.mode = s.mode
      ∧ Quiet t
      ∧ Kept acceptParts acceptPages [] s t)
  ∧ (∀ (h : CmdHdr) (p : List Word) (q : List Word) (s : State), q = withBits 0 2 1 p → Ready 0x800 h q s → h.chk = false → nAt q 0 = 1 → 2 ≤ s.role → s.flag STI_STAT.LEASE_IN = false →
    ∃ t, exec (.claim h p) s = .next t
      ∧ Accepted 0x800 h [] t
      ∧ t.role = 1
      ∧ t.flag STI_STAT.LEASE_OUT = true
      ∧ t.flag STI_STAT.PAIRED = false
      ∧ t.flag STI_STAT.WAKING = true
      ∧ t.take.pending = none
      ∧ t.getF STI_EVT.TAKEOVERS = s.getF STI_EVT.TAKEOVERS
      ∧ t.mode = 7
      ∧ t.sti.mvalidAtTake = s.flag STI_STAT.MVALID
      ∧ t.fuse = s.fuse
      ∧ t.rl = s.rl
      ∧ t.pending = s.pending
      ∧ Quiet t)
  ∧ (∀ (h : CmdHdr) (p : List Word) (q : List Word) (s : State), q = withBits 0 2 2 p → Ready 0x800 h q s → h.chk = false → nAt q 0 = 2 → s.take.pending = none →
    ∃ t, exec (.leave h p) s = .next t
      ∧ Accepted 0x800 h [] t
      ∧ t.flag STI_STAT.PAIRED = false
      ∧ (t.role = (if s.role = 1 then 0 else s.role))
      ∧ ((s.role = 1 → t.flag STI_STAT.LEASE_OUT = false))
      ∧ t.sti.sent = none
      ∧ t.sti.handover = 0
      ∧ ((s.role ≠ 2 → t.mode = s.mode))
      ∧ Quiet t)
  ∧ (∀ (h : CmdHdr) (p : List Word) (q : List Word) (s : State), q = withBits 0 2 3 p → Ready 0x800 h q s → h.chk = false → nAt q 0 = 3 → strapRole (s.getF STI_STAT.STRAP) ≠ 0 →
    ∃ t, exec (.join h p) s = .next t
      ∧ Accepted 0x800 h [] t
      ∧ t.flag STI_STAT.PAIRED = false
      ∧ (t.role = (if strapRole (s.getF STI_STAT.STRAP) = 1 ∧ s.flag STI_STAT.LEASE_IN = false then 1 else 2))
      ∧ ((t.role = 1 → t.flag STI_STAT.LEASE_OUT = true))
      ∧ t.sti.left = false
      ∧ Quiet t)

/-- In STANDBY, an accepted RING_CFG sets the ring size, marks the ring buses and owners that it names, or replaces its part of a forwarding map; the other parts stay. (R734, R735, R741) -/
def Obligations.RingConfiguration : Prop :=
  (∀ (h : CmdHdr) (p : List Word) (q : List Word) (s : State), q = withBits 28 4 0 p → Ready 0x801 h q s → h.chk = false → s.mode = 2 → nAt q 0 ≤ 8 → nAt q 0 ≠ 1 →
    ∃ t, exec (.ringCfgSize h p) s = .next t
      ∧ Accepted 0x801 h [] t
      ∧ t.rl.size = nAt q 0
      ∧ t.rl.bmap = s.rl.bmap
      ∧ t.rl.fwd0 = s.rl.fwd0
      ∧ t.rl.fwd1 = s.rl.fwd1
      ∧ t.getF RL_STAT.SIZE = 0
      ∧ t.cs = s.cs
      ∧ t.spl = s.spl
      ∧ t.take = s.take
      ∧ t.mem = s.mem)
  ∧ (∀ (h : CmdHdr) (p : List Word) (q : List Word) (x : Nat) (s : State), q = withBits 28 4 1 p → Ready 0x801 h q s → h.chk = false → s.mode = 2 → x = nAt q 0 % 2 ^ 28 → x % 8 = 0 → x < 4096 → x + 8 * (q.length - 1) ≤ s.buses →
    ∃ t, exec (.ringCfgBusMap h p) s = .next t
      ∧ Accepted 0x801 h [] t
      ∧ (∀ i, i < 8 * (q.length - 1) → smGet 0 t.rl.bmap (x + i) = mapNibble (q.drop 1) i)
      ∧ (∀ j, j < x ∨ x + 8 * (q.length - 1) ≤ j → smGet 0 t.rl.bmap j = smGet 0 s.rl.bmap j)
      ∧ t.rl.size = s.rl.size
      ∧ t.rl.fwd0 = s.rl.fwd0
      ∧ t.rl.fwd1 = s.rl.fwd1
      ∧ t.cs = s.cs
      ∧ t.spl = s.spl
      ∧ t.take = s.take
      ∧ t.mem = s.mem)
  ∧ (∀ (h : CmdHdr) (p : List Word) (q : List Word) (x : Nat) (s : State), q = withBits 28 4 2 p → Ready 0x801 h q s → h.chk = false → s.mode = 2 → x = nAt q 0 % 2 ^ 28 → x % 32 = 0 → x < 4096 → x + 32 * (q.length - 1) ≤ netChans s → mapTaken 9 x (q.drop 1) s = false →
    ∃ t, exec (.ringCfgFwdRl0Rl1 h p) s = .next t
      ∧ Accepted 0x801 h [] t
      ∧ (∀ c, t.rl.fwd0.contains c = if x ≤ c ∧ c < x + 32 * (q.length - 1) then mapBit (q.drop 1) (c - x) else s.rl.fwd0.contains c)
      ∧ t.rl.fwd1 = s.rl.fwd1
      ∧ Kept [.cmd, .outs, .rl] [0xD] [] s t)
  ∧ (∀ (h : CmdHdr) (p : List Word) (q : List Word) (x : Nat) (s : State), q = withBits 28 4 3 p → Ready 0x801 h q s → h.chk = false → s.mode = 2 → x = nAt q 0 % 2 ^ 28 → x % 32 = 0 → x < 4096 → x + 32 * (q.length - 1) ≤ netChans s → mapTaken 7 x (q.drop 1) s = false →
    ∃ t, exec (.ringCfgFwdRl1Rl0 h p) s = .next t
      ∧ Accepted 0x801 h [] t
      ∧ (∀ c, t.rl.fwd1.contains c = if x ≤ c ∧ c < x + 32 * (q.length - 1) then mapBit (q.drop 1) (c - x) else s.rl.fwd1.contains c)
      ∧ t.rl.fwd0 = s.rl.fwd0
      ∧ Kept [.cmd, .outs, .rl] [0xD] [] s t)

/-- FW_UPDATE, where no row is under replacement or near its wear limit, writes its words into the bank that does not run, and begins a long operation where it is the last. PROVISION writes or revokes one key slot, SEAL blows the seal fuse alone. In MAINTENANCE, RETIRE and SRAMROW add an entry to the repair table and RESTORE takes the entries of its engine out; the fuses and the running hardware stay. (R646, R647, R648, R649, R769) -/
def Obligations.MaintenanceCommands : Prop :=
  (∀ (h : CmdHdr) (p : List Word) (off : Nat) (s : State), Ready 0xF00 h p s → h.chk = false → off = bits (nAt p 0) 0 18 → off + (p.length - 1) ≤ 0x30000 → s.fab.replacing = [] → ((s.fab.wear.all fun c => decide (c.2 + 1024 < wearLimit s)) && decide (1024 < wearLimit s)) = true →
    ∃ t, exec (.fwUpdate h p) s = .next t
      ∧ Accepted 0xF00 h [] t
      ∧ t.wordsAt (mramBase + bankOff (idleBank s) + 4 * off) (p.length - 1) = p.drop 1
      ∧ (t.cmd.longOp = (if bitOf (nAt p 0) 30 then some ⟨0xF00, h.tr, h.hseq, 0, 0xFFFF, b2n (idleBank s)⟩ else none))
      ∧ (∀ b, b < mramBase + bankOff (idleBank s) ∨ mramBase + bankOff (idleBank s) + 0xC0000 ≤ b → t.byte b = s.byte b)
      ∧ t.fuse = s.fuse
      ∧ Quiet t
      ∧ Kept (acceptParts ++ [.mem, .fab]) (acceptPages ++ [8]) [] s t)
  ∧ (∀ (h : CmdHdr) (p : List Word) (k : Nat) (s : State), Ready 0xF01 h p s → h.chk = false → k = bits (nAt p 0) 0 1 → bitOf (nAt p 0) 1 = false → (s.fuse.keys.getD k ⟨false, false, List.replicate 12 0⟩).written = false →
    ∃ t, exec (.provision h p) s = .next t
      ∧ Accepted 0xF01 h [] t
      ∧ t.fuse.keys.getD k ⟨false, false, []⟩ = { s.fuse.keys.getD k ⟨false, false, List.replicate 12 0⟩ with written := true, hash := p.drop 1 }
      ∧ t.fuse.sealFuse = s.fuse.sealFuse
      ∧ Quiet t
      ∧ Kept (acceptParts ++ [.fuse]) acceptPages [] s t)
  ∧ (∀ (h : CmdHdr) (p : List Word) (k : Nat) (s : State), Ready 0xF01 h p s → h.chk = false → k = bits (nAt p 0) 0 1 → bitOf (nAt p 0) 1 = true →
    ∃ t, exec (.provision h p) s = .next t
      ∧ Accepted 0xF01 h [] t
      ∧ t.fuse.keys.getD k ⟨false, false, []⟩ = { s.fuse.keys.getD k ⟨false, false, List.replicate 12 0⟩ with revoked := true }
      ∧ t.fuse.sealFuse = s.fuse.sealFuse
      ∧ Quiet t
      ∧ Kept (acceptParts ++ [.fuse]) acceptPages [] s t)
  ∧ (∀ (h : CmdHdr) (p : List Word) (s : State), Ready 0xF02 h p s → h.chk = false → nAt p 0 = 0x5EA10001 →
    ∃ t, exec (.sealDevice h p) s = .next t
      ∧ Accepted 0xF02 h [] t
      ∧ t.fuse = { s.fuse with sealFuse := true }
      ∧ Quiet t
      ∧ Kept (acceptParts ++ [.fuse]) acceptPages [] s t)
  ∧ (∀ (h : CmdHdr) (p : List Word) (q : List Word) (s : State), q = setNth p 0 0 → Ready 0xF03 h q s → h.chk = false → nAt q 0 = 0 → repairStatus q s = 0 →
    ∃ t, exec (.retire h p) s = .next t
      ∧ Accepted 0xF03 h [] t
      ∧ t.fab.repair = s.fab.repair ++ [repEntry 3 3 (nAt q 1) 0 0 s]
      ∧ t.flag REP_STAT.COPY = !(s.flag REP_STAT.COPY)
      ∧ t.fuse = s.fuse
      ∧ Quiet t
      ∧ Kept (acceptParts ++ [.mem, .fab]) (acceptPages ++ [8]) [] s t)
  ∧ (∀ (h : CmdHdr) (p : List Word) (q : List Word) (s : State), q = setNth p 0 1 → Ready 0xF03 h q s → h.chk = false → nAt q 0 = 1 → repairStatus q s = 0 →
    ∃ t, exec (.restore h p) s = .next t
      ∧ Accepted 0xF03 h [] t
      ∧ (t.fab.repair = s.fab.repair.filter fun x => !(repKind x = 3 && repInst x = nAt q 1))
      ∧ t.fuse = s.fuse
      ∧ Quiet t
      ∧ Kept (acceptParts ++ [.mem, .fab]) (acceptPages ++ [8]) [] s t)
  ∧ (∀ (h : CmdHdr) (p : List Word) (q : List Word) (s : State), q = setNth p 0 2 → Ready 0xF03 h q s → h.chk = false → nAt q 0 = 2 → repairStatus q s = 0 →
    ∃ t, exec (.sramrow h p) s = .next t
      ∧ Accepted 0xF03 h [] t
      ∧ t.fab.repair = s.fab.repair ++ [repEntry 1 3 (nAt q 1 / 65536) (nAt q 1 % 65536) (sparesUsed (nAt q 1 / 65536) s) s]
      ∧ t.fuse = s.fuse
      ∧ Quiet t
      ∧ Kept (acceptParts ++ [.mem, .fab]) (acceptPages ++ [8]) [] s t)

/-- A read of a register that latches answers its value, and the register behind it then shows the rest of the same moment: shot counter, take shot, port timestamp, PTP time, operating seconds, wear counter, 64-bit network counters (which clear, their upper half kept for the next read), tag records (whose VALID clears) and capture FIFOs (which lose the timestamp read). Nothing else changes. (R25, R340, R390, R444, R531, R567, R612, R698, R771) -/
def Obligations.LatchingReads : Prop :=
  (∀  (s : State), s.hostOpen = true → Quiet s →
    ∃ t, exec (.shotCounterRead) s = .next t
      ∧ t.outs = .readData [wd s.shot] :: s.outs
      ∧ t.getF SYS_SHOT_HI.COUNT = s.shot / 2 ^ 32 % 2 ^ 32
      ∧ Kept [.outs] [] [0x18, 0x1C] s t)
  ∧ (∀ (n : Nat) (s : State), s.hostOpen = true → Quiet s → n = (match s.take.pending with | some k => k.sT.getD 0 | none => s.take.lastST) →
    ∃ t, exec (.takeShotRead) s = .next t
      ∧ t.outs = .readData [wd n] :: s.outs
      ∧ t.getF SYS_TAKE_SHOT_HI.SHOT = n / 2 ^ 32 % 2 ^ 16
      ∧ Kept [.outs] [] [0x64, 0x68] s t)
  ∧ (∀ (p : Nat) (s : State), s.hostOpen = true → Quiet s → p < 64 →
    ∃ t, exec (.spTsRead p) s = .next t
      ∧ t.outs = .readData [s.reg (0x50060 + 0x100 * p)] :: s.outs
      ∧ t.getF (SP_TS1.SEC p) = (s.port p).lastSec % 2 ^ 32
      ∧ t.getF (SP_TS2.SEC p) = (s.port p).lastSec / 2 ^ 32 % 2 ^ 16
      ∧ Kept [.outs] [] [0x50064 + 0x100 * p, 0x50068 + 0x100 * p] s t)
  ∧ (∀  (s : State), s.hostOpen = true → Quiet s →
    ∃ t, exec (.ptpTimeRead false) s = .next t
      ∧ t.outs = .readData [wd s.ptp.ns] :: s.outs
      ∧ t.getF PTP_TIME1.SEC = s.ptp.sec % 2 ^ 32
      ∧ t.getF PTP_TIME2.SEC = s.ptp.sec / 2 ^ 32 % 2 ^ 16
      ∧ Kept [.outs] [] [0x20020, 0x20024, 0x20028] s t)
  ∧ (∀  (s : State), s.hostOpen = true → Quiet s →
    ∃ t, exec (.ptpTimeRead true) s = .next t
      ∧ t.outs = .readData [wd s.ptp.shotNs] :: s.outs
      ∧ t.getF PTP_SHOT1.SEC = s.ptp.shotSec % 2 ^ 32
      ∧ t.getF PTP_SHOT2.SEC = s.ptp.shotSec / 2 ^ 32 % 2 ^ 16
      ∧ Kept [.outs] [] [0x20040, 0x20044, 0x20048] s t)
  ∧ (∀  (s : State), s.hostOpen = true → Quiet s →
    ∃ t, exec (.opsecRead) s = .next t
      ∧ t.outs = .readData [wd s.boot.life.opsec] :: s.outs
      ∧ t.getF SYS_OPSEC_HI.SEC = s.boot.life.opsec / 2 ^ 32 % 2 ^ 8
      ∧ Kept [.outs] [] [0x80, 0x84] s t)
  ∧ (∀ (w : Nat) (s : State), s.hostOpen = true → Quiet s → w = smGet 0 s.fab.wear (s.getF MRAM_WSEL.ROW) →
    ∃ t, exec (.mramWearRead) s = .next t
      ∧ t.outs = .readData [wd w] :: s.outs
      ∧ t.getF MRAM_WEAR_HI.COUNT = w / 2 ^ 32 % 2 ^ 8
      ∧ Kept [.outs] [] [0x8030C, 0x80310] s t)
  ∧ (∀ (p : Nat) (k : Nat) (a : Nat) (s : State), s.hostOpen = true → Quiet s → p < 5 → k < 4 → a = 0x60000 + 0x400 * p + [0x100, 0x108, 0x140, 0x148].getD k 0x100 →
    ∃ t, exec (.netCounterLoRead p k) s = .next t
      ∧ t.outs = .readData [s.reg a] :: s.outs
      ∧ t.reg a = 0
      ∧ t.reg (a + 4) = 0
      ∧ smGet 0 t.net.latch (a + 4) = s.reg (a + 4)
      ∧ Kept [.outs, .net] [] [a, a + 4] s t)
  ∧ (∀ (e : Nat) (s : State), s.hostOpen = true → Quiet s → e < 18 →
    ∃ t, exec (.tagRecordRead e) s = .next t
      ∧ t.outs = .readData [s.reg (0xB1060 + 0x100 * e)] :: s.outs
      ∧ t.flag (PCN_TREC0.VALID e) = false
      ∧ t.reg (0xB1064 + 0x100 * e) = smGet 0 s.pcn.trec1 e
      ∧ Kept [.outs] [] [0xB1060 + 0x100 * e, 0xB1064 + 0x100 * e] s t)
  ∧ (∀ (c : Nat) (x : CapEntry) (l : List CapEntry) (s : State), s.hostOpen = true → Quiet s → c < 16 → s.capFifo c = x :: l →
    ∃ t, exec (.captureFifoRead c) s = .next t
      ∧ t.outs = .readData [wd x.ns] :: s.outs
      ∧ t.capFifo c = l
      ∧ t.getF (CLP_CTS1.SEC c) = x.sec % 2 ^ 32
      ∧ t.getF (CLP_CTS2.SEC c) = x.sec / 2 ^ 32 % 2 ^ 16
      ∧ t.getF (CLP_CTS2.VALID c) = 1
      ∧ t.getF (CLP_CTS2.FALL c) = b2n x.fall
      ∧ Kept [.outs, .ptp] [] [0x20808 + 0x20 * c, 0x2080C + 0x20 * c, 0x20810 + 0x20 * c] s t)

/-- A read of bytes of a control register without a latch of its own answers the bytes of the value it shows, and its RC fields clear whatever bytes are read; the largest depth of a ready list and the largest number of gain entries restart at the present count. A read of PIN_THSTAT also begins a new highest temperature. A read of an address without memory or register answers 0 and sends DECODE. A read of the packet buffers, of the swap window or of LPDDR5, through its BAR2 window too, answers the bytes stored there; a word of the first two with a double-bit error reads 0 and is counted. A read of NET_HBUF_ALLOC takes a buffer or answers 0, and a write of NET_HBUF_FREE gives it back. (R7, R9, R40, R41, R438, R577, R616) -/
def Obligations.PlainAndUnmappedReads : Prop :=
  (∀ (a : Nat) (n : Nat) (b : Nat) (r : RegRow) (s : State), s.hostOpen = true → Quiet s → a < 0x100000 → a % 4 + n ≤ 4 → b = a / 4 * 4 → regRow b = some r → b ≠ 0x6300C → (¬(0x20800 ≤ b ∧ b < 0x20A00 ∧ b % 0x20 = 8)) → isLo64 b = false → isHi64 b = false → (¬(0x64100 ≤ b ∧ b < 0x64120)) → b ≠ 0xE0024 → (¬(0x30020 ≤ b ∧ b < 0x30040)) → b ≠ SPL_FADEMAX.MAX.addr →
    ∃ t, exec (.rcFieldRead a n) s = .next t
      ∧ t.outs = .readData [byteLanes ((showReg b s).reg b) (a % 4) n] :: (showReg b s).outs
      ∧ t.reg b = (showReg b s).reg b &&& ~~~ (wd r.rc)
      ∧ Kept [.outs] [] [b] (showReg b s) t)
  ∧ (∀ (a : Nat) (n : Nat) (b : Nat) (k : Nat) (s : State), s.hostOpen = true → Quiet s → a % 4 + n ≤ 4 → b = a / 4 * 4 → k < 8 → b = (CS_QDEPTH.MAX k).addr →
    ∃ t, exec (.rcFieldRead a n) s = .next t
      ∧ t.outs = .readData [byteLanes ((showReg b s).reg b) (a % 4) n] :: (showReg b s).outs
      ∧ t.getF (CS_QDEPTH.MAX k) = (s.cs.ready.getD k []).length % 2 ^ 13
      ∧ t.getF (CS_QDEPTH.CUR k) = (showReg b s).getF (CS_QDEPTH.CUR k)
      ∧ Kept [.outs] [] [b] (showReg b s) t)
  ∧ (∀ (a : Nat) (n : Nat) (b : Nat) (s : State), s.hostOpen = true → Quiet s → a % 4 + n ≤ 4 → b = a / 4 * 4 → b = SPL_FADEMAX.MAX.addr →
    ∃ t, exec (.rcFieldRead a n) s = .next t
      ∧ t.outs = .readData [byteLanes ((showReg b s).reg b) (a % 4) n] :: (showReg b s).outs
      ∧ t.getF SPL_FADEMAX.MAX = xpHeld s % 2 ^ 17
      ∧ Kept [.outs] [] [b] (showReg b s) t)
  ∧ (∀ (a : Nat) (n : Nat) (s : State), s.hostOpen = true → Quiet s → a / 4 * 4 = 0xE0024 → a % 4 + n ≤ 4 →
    ∃ t, exec (.rcFieldRead a n) s = .next t
      ∧ t.outs = .readData [byteLanes (s.reg 0xE0024) (a % 4) n] :: s.outs
      ∧ t.getF PIN_THSTAT.MAX = 0
      ∧ t.flag PIN_THSTAT.ABOVE = s.flag PIN_THSTAT.ABOVE
      ∧ t.pin = { s.pin with thMax := none }
      ∧ Kept [.outs, .pin] [] [0xE0024] s t)
  ∧ (∀ (a : Nat) (n : Nat) (x : Option SramErr) (s : State), s.hostOpen = true → Quiet s → a < 2 ^ 40 → a % 4 + n ≤ 4 → regionOf (a / 4 * 4) s = .none →
    ∃ t, exec (.unmappedRead a ⟨n, .bar0, x⟩) s = .next t
      ∧ t.outs.contains (.readData [0]) = true
      ∧ Raised 1 s t
      ∧ Kept acceptParts acceptPages [] s t)
  ∧ (∀ (a : Nat) (n : Nat) (s : State), s.hostOpen = true → Quiet s → a < 2 ^ 40 → a % 4 + n ≤ 4 → (regionOf (a / 4 * 4) s = .packet ∨ regionOf (a / 4 * 4) s = .swap ∨ (regionOf (a / 4 * 4) s = .ddr ∧ s.flag DDR_STAT.READY = true)) →
    ∃ t, exec (.unmappedRead a ⟨n, .bar0, none⟩) s = .next t
      ∧ t = s.out (.readData [byteLanes (s.word (a / 4 * 4)) (a % 4) n]))
  ∧ (∀ (a : Nat) (n : Nat) (x : SramErr) (s : State), s.hostOpen = true → Quiet s → a < 2 ^ 40 → a % 4 + n ≤ 4 → (regionOf (a / 4 * 4) s = .packet ∨ regionOf (a / 4 * 4) s = .swap) → x.single = false →
    ∃ t, exec (.unmappedRead a ⟨n, .bar0, some x⟩) s = .next t
      ∧ t.outs.contains (.readData [0]) = true
      ∧ (∀ b, b < 0x8000000 ∨ 0x9000000 ≤ b → t.byte b = s.byte b)
      ∧ t.getF MEM_ECC.UNCORR = min (2 ^ (MEM_ECC.UNCORR).width - 1) (s.getF MEM_ECC.UNCORR + 1))
  ∧ (∀ (a : Nat) (n : Nat) (s : State), s.hostOpen = true → Quiet s → a < 2 ^ 28 → a % 4 + n ≤ 4 → s.flag DDR_STAT.READY = true → barAddr a s / 4 * 4 < 0x100000000 + s.ddrBytes →
    ∃ t, exec (.unmappedRead a ⟨n, .bar2, none⟩) s = .next t
      ∧ t = s.out (.readData [byteLanes (s.word (barAddr a s / 4 * 4)) (barAddr a s % 4) n]))
  ∧ (∀ (j : Nat) (s : State), s.hostOpen = true → Quiet s → s.bufUse 1 < s.bufMax 1 → j < 2048 → (s.net.bufs.any fun b => b.1 = j) = false →
    ∃ t, exec (.hbufAlloc) s = .next t
      ∧ (∃ i ∈ s.freeBufs, t.net.bufs = (i, ⟨1, 1, 1⟩) :: s.net.bufs ∧ t.outs = .readData [wd (2 ^ 31 + i)] :: s.outs)
      ∧ Kept [.outs, .net, .free] [] [] s t)
  ∧ (∀  (s : State), s.hostOpen = true → Quiet s → s.bufMax 1 ≤ s.bufUse 1 →
    ∃ t, exec (.hbufAlloc) s = .next t
      ∧ t = s.out (.readData [0]))
  ∧ (∀ (v : Word) (s : State), s.hostOpen = true → Quiet s → ((s.net.bufs.any fun b => b.1 = v.toNat % 2048 ∧ b.2.own = 1) = true) →
    ∃ t, exec (.hbufFree v) s = .next t
      ∧ t.net.bufs = (dropBufs [v.toNat % 2048] s).net.bufs
      ∧ Kept [.net] [] [] s t)

/-- A host write of bytes stores exactly those bytes, in the packet buffers, the swap window and fitted LPDDR5 without a delay line, and in the program memory and the lane slices of an engine that is not LOADING, LOADED or RETIRED; every other byte of memory is unchanged. A byte of the slate view lands on the page behind it and sets SLATE_DIRTY, or waits while SLATE_READY is 0, with the writes to program memory behind it, and lands, the latest last, when it returns to 1. (R39, R41, R44, R45, R105, R109, R142, R144, R145, R587, R616) -/
def Obligations.HostMemoryWrites : Prop :=
  (∀ (a : Nat) (l : List Byte) (s : State), s.hostOpen = true → Quiet s → ((0x6000000 ≤ a ∧ a + l.length ≤ 0x6400000) ∨ (0x7000000 ≤ a ∧ a + l.length ≤ 0x7040000)) →
    ∃ t, exec (.hostMemoryWrite .bar0 a l) s = .next t
      ∧ (∀ i, i < l.length → t.byte (a + i) = l.getD i 0)
      ∧ (∀ x, ¬(a ≤ x ∧ x < a + l.length) → t.byte x = s.byte x)
      ∧ Kept [.mem] [] [] s t)
  ∧ (∀ (a : Nat) (l : List Byte) (d : Nat) (s : State), s.hostOpen = true → Quiet s → d = barAddr (a % 0x10000000) s → l.length = 4 → d % 4 = 0 → d < 0x100000000 + s.ddrBytes → s.flag DDR_STAT.READY = true → inLineRange d s = false →
    ∃ t, exec (.hostMemoryWrite .bar2 a l) s = .next t
      ∧ (∀ i, i < l.length → t.byte (d + i) = l.getD i 0)
      ∧ (∀ x, ¬(d ≤ x ∧ x < d + l.length) → t.byte x = s.byte x)
      ∧ Kept [.mem] [] [] s t)
  ∧ (∀ (e : Nat) (off : Nat) (l : List Byte) (s : State), s.hostOpen = true → Quiet s → e < 18 → off + l.length ≤ 0x20000 → s.fab.t1q = [] → engClosed e s = false →
    ∃ t, exec (.programMemoryWrite e off l) s = .next t
      ∧ (∀ i, i < l.length → t.byte (engWin e + off + i) = l.getD i 0)
      ∧ (∀ x, ¬(engWin e + off ≤ x ∧ x < engWin e + off + l.length) → t.byte x = s.byte x)
      ∧ Kept [.mem] [0xB] [] s t)
  ∧ (∀ (e : Nat) (off : Nat) (isY : Bool) (l : List Byte) (d : Nat) (s : State), s.hostOpen = true → Quiet s → e < 18 → off + l.length ≤ (if isY then 0x20000 else 0x40000) → s.fab.t1q = [] → engClosed e s = false → d = engWin e + (if isY then 0xA0000 else 0x40000) + off →
    ∃ t, exec (.laneSliceWrite e isY off l) s = .next t
      ∧ (∀ i, i < l.length → t.byte (d + i) = l.getD i 0)
      ∧ (∀ x, ¬(d ≤ x ∧ x < d + l.length) → t.byte x = s.byte x)
      ∧ Kept [.mem] [0xB] [] s t)
  ∧ (∀ (e : Nat) (off : Nat) (l : List Byte) (d : Nat) (s : State), s.hostOpen = true → Quiet s → e < 18 → off + l.length ≤ 0x10000 → l ≠ [] → s.fab.t1q = [] → engClosed e s = false → s.flag (ENG_STAT.SLATE_READY e) = true → (s.engine e).held = [] → d = engWin e + (if s.livePage e then 0x80000 else 0x90000) + off →
    ∃ t, exec (.slateViewWrite e off l) s = .next t
      ∧ (∀ i, i < l.length → t.byte (d + i) = l.getD i 0)
      ∧ (∀ x, ¬(d ≤ x ∧ x < d + l.length) → t.byte x = s.byte x)
      ∧ t.flag (ENG_STAT.SLATE_DIRTY e) = true
      ∧ Kept [.mem] [0xB] [(ENG_STAT.SLATE_DIRTY e).addr] s t)
  ∧ (∀ (e : Nat) (off : Nat) (l : List Byte) (s : State), s.hostOpen = true → Quiet s → e < 18 → off + l.length ≤ 0x10000 → engClosed e s = false → s.flag (ENG_STAT.SLATE_READY e) = false →
    ∃ t, exec (.slateViewWrite e off l) s = .next t
      ∧ (t = s.onFab (fun _ => t.fab))
      ∧ t.fab = { s.fab with t1q := t.fab.t1q }
      ∧ (∃ q, t.fab.t1q = s.fab.t1q ++ q ∧ q.flatMap (·.l) = l ∧ ∀ x, q.head? = some x → x.a = engWin e + 0x80000 + off))
  ∧ (∀ (e : Nat) (off : Nat) (l : List Byte) (s : State), s.hostOpen = true → Quiet s → e < 18 → off + l.length ≤ 0x20000 → s.fab.t1q ≠ [] →
    ∃ t, exec (.programMemoryWrite e off l) s = .next t
      ∧ (t = s.onFab (fun _ => t.fab))
      ∧ t.fab = { s.fab with t1q := t.fab.t1q }
      ∧ (∃ q, t.fab.t1q = s.fab.t1q ++ q ∧ q.flatMap (·.l) = l ∧ ∀ x, q.head? = some x → x.a = engWin e + off))
  ∧ (∀ (e : Nat) (o : Nat) (d : Nat) (s : State), s.hostOpen = true → Quiet s → e < 18 → s.flag (ENG_STAT.SLATE_READY e) = true → (s.engine e).held ≠ [] → s.fab.t1q = [] → 0x80000 ≤ o → o < 0x90000 → d = engWin e + viewOff e o s →
    ∃ t, exec (.heldSlateWriteLand e) s = .next t
      ∧ (t.engine e).held = []
      ∧ t.flag (ENG_STAT.SLATE_DIRTY e) = true
      ∧ (t.byte d = (match ((s.engine e).held.filter fun x => x.1 = o).getLast? with | some x => x.2 | none => s.byte d))
      ∧ (∀ f, f ≠ e → t.engine f = s.engine f)
      ∧ Kept [.mem, .eng] [] [(ENG_STAT.SLATE_DIRTY e).addr] s t)
  ∧ (∀ (e : Nat) (o : Nat) (l : List Byte) (d : Nat) (s : State), s.hostOpen = true → Quiet s → e < 18 → s.flag (ENG_STAT.SLATE_READY e) = true → (s.engine e).held = [] → engClosed e s = false → 0x80000 ≤ o → o + l.length ≤ 0x90000 → l ≠ [] → s.fab.t1q = [⟨engWin e + o, l, 0, none⟩] → d = engWin e + viewOff e o s →
    ∃ t, exec (.heldSlateWriteLand e) s = .next t
      ∧ (∀ i, i < l.length → t.byte (d + i) = l.getD i 0)
      ∧ (∀ x, ¬(d ≤ x ∧ x < d + l.length) → t.byte x = s.byte x)
      ∧ t.flag (ENG_STAT.SLATE_DIRTY e) = true
      ∧ t.fab.t1q = [])

/-- In MAINTENANCE and TEST, HALT at 1 stops a running or an idle engine, HALT at 0 lets a halted one run on, and a write of ENG_DBGDATA writes the register that ENG_DBGSEL names in the active bank of a halted engine. STEP lets a halted engine with a task execute exactly the instruction at its pc, after which it stands again. (R147, R153) -/
def Obligations.EngineControlByTheHost : Prop :=
  (∀ (e : Nat) (s : State), s.hostOpen = true → Quiet s → e < 18 → (s.mode = 10 ∨ s.mode = 11) → (s.engState e = 0 ∨ s.engState e = 1) →
    ∃ t, exec (.engHalt e true) s = .next t
      ∧ t.engState e = 2
      ∧ t.flag (ENG_CTRL.HALT e) = true
      ∧ (t.engine e).haltedRun = ((s.engine e).haltedRun || decide (s.engState e = 1))
      ∧ t.bank e = s.bank e
      ∧ (∀ f, f ≠ e → t.engine f = s.engine f)
      ∧ Kept [.eng] [] [(ENG_CTRL.HALT e).addr, (ENG_STAT.STATE e).addr] s t)
  ∧ (∀ (e : Nat) (s : State), s.hostOpen = true → Quiet s → e < 18 → (s.mode = 10 ∨ s.mode = 11) → s.engState e = 2 → (s.engine e).haltedRun = true →
    ∃ t, exec (.engHalt e false) s = .next t
      ∧ t.engState e = 1
      ∧ t.flag (ENG_CTRL.HALT e) = false
      ∧ (t.engine e).haltedRun = false
      ∧ t.bank e = s.bank e
      ∧ (∀ f, f ≠ e → t.engine f = s.engine f)
      ∧ Kept [.eng, .cs] [] [(ENG_CTRL.HALT e).addr, (ENG_STAT.STATE e).addr] s t)
  ∧ (∀ (e : Nat) (v : Word) (lane : Nat) (i : Nat) (s : State), s.hostOpen = true → Quiet s → e < 18 → s.engState e = 2 → lane = s.getF (ENG_DBGSEL.LANE e) → i = s.getF (ENG_DBGSEL.INDEX e) →
    ∃ t, exec (.debugDataWrite e v) s = .next t
      ∧ t.bank e = dbgWrite (s.bank e) lane i v
      ∧ (∀ f, f ≠ e → t.engine f = s.engine f)
      ∧ Kept [.eng] [] [] s t)
  ∧ (∀ (e : Nat) (s : State), s.hostOpen = true → Quiet s → e < 18 → (s.mode = 10 ∨ s.mode = 11) → s.flag (ENG_CTRL.HALT e) = true → s.engState e = 2 → (s.engine e).haltedRun = true →
    ∃ t, exec (.engStep e) s = .next t
      ∧ (∃ u, Kept [] [] [] s u ∧ t = settle (stepEngine e u) ∧ (stepEngine e u).engState e = 2))

/-- A write of 1 to FLT_FIRST.VALID clears the first-fault record. An injection in MAINTENANCE or TEST is accepted as a message of its source, and an empty first-fault record takes it. WCLR restarts the waiting-time statistics of the selected task. CS_RESERVE takes a value from 10 to 50 in STANDBY and A follows it. ZSKIP, FREEZE, the tag seed, every counter and every log bucket take what is written; SNAP copies every counter. (R244, R246, R285, R668, R669, R680, R694, R695, R696, R697) -/
def Obligations.RegisterWritesOfSystemUnits : Prop :=
  (∀  (s : State), s.hostOpen = true → Quiet s →
    ∃ t, exec (.firstFaultClear) s = .next t
      ∧ t.reg 0x90040 = 0
      ∧ t.getF FLT_FIRST_ADDR.ADDR = 0
      ∧ t.getF FLT_FIRST_SHOT.SHOT = 0
      ∧ t.getF FLT_FIRST_SEC.SEC = 0
      ∧ Kept [] [] [0x90040, FLT_FIRST_ADDR.ADDR.addr, FLT_FIRST_SHOT.SHOT.addr, FLT_FIRST_SEC.SEC.addr] s t)
  ∧ (∀ (src : Nat) (kind : Nat) (s : State), s.hostOpen = true → Quiet s → (s.mode = 10 ∨ s.mode = 11) → (sevDefault (src % 256)).isSome = true → s.flag FLT_FIRST.VALID = false →
    ∃ t, exec (.faultInject src kind) s = .next t
      ∧ Raised (src % 256) s t
      ∧ t.flag FLT_FIRST.VALID = true
      ∧ t.flag FLT_FIRST.INJ = true
      ∧ t.getF FLT_FIRST.SRC = src % 256
      ∧ t.getF FLT_FIRST.KIND = kind % 16
      ∧ t.getF FLT_FIRST_ADDR.ADDR = s.getF FLT_INJADDR.ADDR
      ∧ Kept acceptParts acceptPages [] s t)
  ∧ (∀ (n : Nat) (s : State), s.hostOpen = true → Quiet s → n = s.getF CS_TSEL.TASK →
    ∃ t, exec (.waitStatsClear) s = .next t
      ∧ (t.task n).wmin = 0xFFFFF
      ∧ (t.task n).wmax = 0
      ∧ (t.task n).wlast = (s.task n).wlast
      ∧ (∀ m, m ≠ n → t.task m = s.task m)
      ∧ Kept [.cs] [] [] s t)
  ∧ (∀ (r : Nat) (s : State), s.hostOpen = true → Quiet s → s.mode = 2 → 10 ≤ r → r ≤ 50 → ((List.range 16).all fun le => fits (tasksWith (fun t => t.live && t.logeng = le) s) (admitLimit r s)) = true →
    ∃ t, exec (.reserveWrite r) s = .next t
      ∧ t.getF CS_RESERVE.PCT = r
      ∧ t.getF CS_LIMITS.ADMIT = admitLimit r s % 2 ^ 20
      ∧ Kept [] [] [CS_RESERVE.PCT.addr, CS_LIMITS.ADMIT.addr] s t)
  ∧ (∀ (on : Bool) (s : State), s.hostOpen = true → Quiet s →
    ∃ t, exec (.zskipWrite on) s = .next t
      ∧ t.reg 0x40000 = wd (b2n on)
      ∧ Kept [] [] [0x40000] s t)
  ∧ (∀ (g : Nat) (e : Nat) (j : Nat) (s : State), s.hostOpen = true → Quiet s → g < 32 → e < 18 → j < 8 →
    ∃ t, exec (.snap) s = .next t
      ∧ t.getF (PCN_GSNAP.COUNT g) = s.getF (PCN_GCNT.COUNT g)
      ∧ t.getF (PCN_ESNAP.COUNT e j) = s.getF (PCN_ECNT.COUNT e j)
      ∧ t.getF PCN_SNAPSEQ.COUNT = (s.getF PCN_SNAPSEQ.COUNT + 1) % 2 ^ 32
      ∧ t.getF (PCN_GCNT.COUNT g) = s.getF (PCN_GCNT.COUNT g)
      ∧ t.flag PCN_CTRL.FREEZE = s.flag PCN_CTRL.FREEZE
      ∧ Kept [] [0xB] [] s t)
  ∧ (∀ (on : Bool) (s : State), s.hostOpen = true → Quiet s →
    ∃ t, exec (.freeze on) s = .next t
      ∧ t.flag PCN_CTRL.FREEZE = on
      ∧ t.flag PCN_CTRL.FRZFIRST = s.flag PCN_CTRL.FRZFIRST
      ∧ t.flag PCN_CTRL.SHOTSNAP = s.flag PCN_CTRL.SHOTSNAP
      ∧ Kept [] [] [0xB0000] s t)
  ∧ (∀ (v : Word) (s : State), s.hostOpen = true → Quiet s → v.toNat % 2 ^ 24 ≠ 0 →
    ∃ t, exec (.tagSeedWrite v) s = .next t
      ∧ t.pcn.lfsr = v.toNat % 2 ^ 24
      ∧ t.reg 0xB0014 = v &&& 0xFFFFFF
      ∧ Kept [.pcn] [] [0xB0014] s t)
  ∧ (∀ (e : Nat) (j : Nat) (v : Word) (s : State), s.hostOpen = true → Quiet s → j < 32 →
    ∃ t, exec (.counterWrite true e j v) s = .next t
      ∧ t.getF (PCN_GCNT.COUNT j) = v.toNat
      ∧ Kept [] [] [(PCN_GCNT.COUNT j).addr] s t)
  ∧ (∀ (e : Nat) (j : Nat) (v : Word) (s : State), s.hostOpen = true → Quiet s → e < 18 → j < 8 →
    ∃ t, exec (.counterWrite false e j v) s = .next t
      ∧ t.getF (PCN_ECNT.COUNT e j) = v.toNat
      ∧ Kept [] [] [(PCN_ECNT.COUNT e j).addr] s t)
  ∧ (∀ (c : Nat) (v : Word) (d : Nat) (s : State), s.hostOpen = true → Quiet s → c < 256 → d = bits v.toNat 16 8 → d ≠ 0 → v.toNat % 65536 ≠ 0 →
    ∃ t, exec (.logRateWrite c v) s = .next t
      ∧ t.getF (LOG_RATE.DEPTH c) = d
      ∧ t.getF (LOG_RATE.PERIOD c) = v.toNat % 65536
      ∧ t.tokens c = min d (s.tokens c)
      ∧ smGet 0 t.flt.timers c = s.time
      ∧ (∀ k, k ≠ c → t.tokens k = s.tokens k)
      ∧ Kept [.flt] [] [(LOG_RATE.DEPTH c).addr] s t)

/-- A 32-bit write of a selection register takes its RW bits and leaves its other bits. RINGS_EN from 0 to 1 reads the bases and lengths of the three rings. A ring length from 2 to 4,096 is stored, and staged while the rings run. A GPIO ball is claimed by the host where free and its bank on. DDR_CFG with EN starts the training. SYS_RSTCTRL with the key resets the device. (R8, R9, R594, R618, R622, R655, R755, R791) -/
def Obligations.RegisterWrites : Prop :=
  (∀ (a : Nat) (v : Word) (r : RegRow) (s : State), s.hostOpen = true → Quiet s → a ∈ [0x30400, 0x40040, 0x70460, 0x80308, 0xA0500, 0xC0140, 0xE0100] → regRow a = some r → s.cmd.waiting = [] →
    ∃ t, exec (.registerWrite a 4 v) s = .next t
      ∧ t.reg a = genValue r (s.reg a) v
      ∧ Kept [] [] [a] s t)
  ∧ (∀  (s : State), s.hostOpen = true → Quiet s → s.flag CMD_CTRL.RINGS_EN = false →
    ∃ t, exec (.ringsEnWrite true) s = .next t
      ∧ t.flag CMD_CTRL.RINGS_EN = true
      ∧ (t.cmd.rings = (List.range 3).map fun k => ⟨s.getF (CMD_RING_BASE_LO.ADDR k) * 64 + s.getF (CMD_RING_BASE_HI.ADDR k) * 2 ^ 32, s.getF (CMD_RING_LEN.LEN k), none⟩)
      ∧ t.getF CMD_RCTRL.LENPEND = 0
      ∧ Kept [.cmd] [] [0xD0000, CMD_RCTRL.LENPEND.addr] s t)
  ∧ (∀ (k : Nat) (v : Word) (l : Nat) (s : State), s.hostOpen = true → Quiet s → k < 3 → l = v.toNat % 8192 → 2 ≤ l → l ≤ 4096 → s.flag CMD_CTRL.RINGS_EN = true →
    ∃ t, exec (.cmdRingLenWrite k v) s = .next t
      ∧ t.getF (CMD_RING_LEN.LEN k) = l
      ∧ (t.ring k).staged = some l
      ∧ (t.ring k).len = (s.ring k).len
      ∧ bitOf (t.getF CMD_RCTRL.LENPEND) k = true
      ∧ Kept [.cmd] [] [(CMD_RING_LEN.LEN k).addr, CMD_RCTRL.LENPEND.addr] s t)
  ∧ (∀ (k : Nat) (v : Word) (l : Nat) (s : State), s.hostOpen = true → Quiet s → k < 3 → l = v.toNat % 8192 → 2 ≤ l → l ≤ 4096 → s.flag CMD_CTRL.RINGS_EN = false →
    ∃ t, exec (.cmdRingLenWrite k v) s = .next t
      ∧ t.getF (CMD_RING_LEN.LEN k) = l
      ∧ Kept [] [] [(CMD_RING_LEN.LEN k).addr] s t)
  ∧ (∀ (v : Word) (n : Nat) (s : State), s.hostOpen = true → Quiet s → n < 32 → v.toNat = 2 ^ n + s.getF PIN_GPIO_EN.CLAIM → bitOf (s.getF PIN_GPIO_EN.CLAIM) n = false → bankOn (gpioBall n) s = true → s.pinClaim (gpioBall n) = none →
    ∃ t, exec (.gpioClaimWrite v) s = .next t
      ∧ t.pinClaim (gpioBall n) = some ⟨0, 0⟩
      ∧ t.getF PIN_GPIO_EN.CLAIM = v.toNat
      ∧ (∀ i, i ≠ gpioBall n → t.pinClaim i = s.pinClaim i)
      ∧ Kept [.pin, .outs] [] [PIN_GPIO_EN.CLAIM.addr] s t)
  ∧ (∀ (v : Word) (s : State), Quiet s → (s.mode = 1 ∨ s.mode = 2) → s.flag DDR_CFG.EN = false → bits v.toNat 28 3 ≤ 4 → bits v.toNat 24 2 ≠ 3 → bitOf v.toNat 31 = true → bits v.toNat 28 3 ≠ 0 →
    ∃ t, exec (.ddrEnWrite v) s = .next t
      ∧ t.flag DDR_CFG.EN = true
      ∧ t.getF DDR_CFG.SIZE = bits v.toNat 28 3
      ∧ t.fab.training = true
      ∧ Kept [.fab] [] [0x80200] s t)
  ∧ (∀ (v : Word) (s : State), s.hostOpen = true → Quiet s → bits v.toNat 16 16 = 0x5A5A → bitOf v.toNat 0 = true →
    ∃ t, exec (.softReset v) s = .next t
      ∧ t = settle (resetTo 3 s)
      ∧ t.mode = 0
      ∧ bitOf (t.getF SYS_RSTCAUSE.CAUSE) 3 = true
      ∧ t.fuse = s.fuse
      ∧ t.pending = s.pending
      ∧ t.cs = CsU.reset
      ∧ t.take = TakeU.reset
      ∧ t.stage = [])

/-- A ring length from 2 to 4,096 is staged, a host pointer inside its ring is stored, and a playback pointer that wraps takes up a staged length; a slot mask waits for its frame start; a direction that stops or may start waits for its shot boundary with its enable as written; capture and playback enables are stored; a clock group takes a configuration that its checks allow, with the claim of its balls where it is enabled, their release where an unused one is disabled, and the word alone where the enable stays. (R352, R368, R380, R381, R383, R384, R386, R389) -/
def Obligations.SerialRegisterWrites : Prop :=
  (∀ (p : Nat) (ply : Bool) (v : Word) (len : Nat) (s : State), s.hostOpen = true → Quiet s → p < 64 → len = bits v.toNat 0 13 → 2 ≤ len → len ≤ 4096 → len ≠ (if ply then s.getF (SP_PLY_CFG.LEN p) else s.getF (SP_CAP_CFG.LEN p)) →
    ∃ t, exec (.spRingLenWrite p ply v) s = .next t
      ∧ ((if ply then t.getF (SP_PLY_CFG.LEN p) else t.getF (SP_CAP_CFG.LEN p)) = len)
      ∧ ((if ply then (t.port p).plyNew else (t.port p).capNew) = some len)
      ∧ ((if ply then t.getF (SP_DMA_STAT.LENPEND_PLY p) else t.getF (SP_DMA_STAT.LENPEND_CAP p)) = 1)
      ∧ (∀ q, q ≠ p → t.port q = s.port q)
      ∧ Kept [.sp] [] [0x500A0 + p * 0x100, 0x500C0 + p * 0x100, 0x50090 + p * 0x100] s t)
  ∧ (∀ (p : Nat) (v : Word) (s : State), s.hostOpen = true → Quiet s → p < 64 → v.toNat % 4096 < (s.port p).capLen →
    ∃ t, exec (.spRingPointerWrite p false v) s = .next t
      ∧ t.getF (SP_CAP_RPTR.PTR p) = v.toNat % 4096
      ∧ Kept [] [] [(SP_CAP_RPTR.PTR p).addr] s t)
  ∧ (∀ (p : Nat) (v : Word) (s : State), s.hostOpen = true → Quiet s → p < 64 → v.toNat % 4096 < (s.port p).plyLen → ((s.port p).plyNew = none ∨ s.getF (SP_PLY_WPTR.PTR p) ≤ v.toNat % 4096) →
    ∃ t, exec (.spRingPointerWrite p true v) s = .next t
      ∧ t.getF (SP_PLY_WPTR.PTR p) = v.toNat % 4096
      ∧ Kept [] [] [(SP_PLY_WPTR.PTR p).addr] s t)
  ∧ (∀ (p : Nat) (v : Word) (l : Nat) (s : State), s.hostOpen = true → Quiet s → p < 64 → v.toNat % 4096 < (s.port p).plyLen → (s.port p).plyNew = some l → v.toNat % 4096 < s.getF (SP_PLY_WPTR.PTR p) →
    ∃ t, exec (.spRingPointerWrite p true v) s = .next t
      ∧ t.getF (SP_PLY_WPTR.PTR p) = v.toNat % 4096
      ∧ (t.port p).plyLen = l
      ∧ (t.port p).plyNew = none
      ∧ t.getF (SP_PLY_RPTR.PTR p) = s.getF (SP_PLY_RPTR.PTR p) % l % 2 ^ 12
      ∧ t.getF (SP_DMA_STAT.LENPEND_PLY p) = 0
      ∧ (∀ q, q ≠ p → t.port q = s.port q)
      ∧ Kept [.sp] [] [(SP_PLY_WPTR.PTR p).addr, (SP_PLY_RPTR.PTR p).addr, (SP_DMA_STAT.LENPEND_PLY p).addr] s t)
  ∧ (∀ (p : Nat) (out : Bool) (late : Bool) (v : Word) (s : State), s.hostOpen = true → Quiet s → p < 64 → s.flag (CG_CFG.ENABLE (s.cgOf p)) = true → v.toNat < 2 ^ s.getF (CG_CFG.SLOTS (s.cgOf p)) →
    ∃ t, exec (.spMaskWrite p out late v) s = .next t
      ∧ ((if out then t.reg (0x50010 + p * 0x100) else t.reg (0x5000C + p * 0x100)) = v)
      ∧ ((if out then t.getF (SP_STAT.MASKPEND_OUT p) else t.getF (SP_STAT.MASKPEND_IN p)) = 1)
      ∧ (match out, late with | true, true => (t.port p).lateOut | true, false => (t.port p).pendOut | false, true => (t.port p).lateIn | false, false => (t.port p).pendIn) = some v.toNat
      ∧ (∀ q, q ≠ p → t.port q = s.port q)
      ∧ Kept [.sp] [] [0x50008 + p * 0x100, 0x5000C + p * 0x100, 0x50010 + p * 0x100] s t)
  ∧ (∀ (p : Nat) (en : Bool) (s : State), s.hostOpen = true → Quiet s → p < 64 → s.flag (SP_CTRL.IN_EN p) = !en → (en = true → portStartStatus p false s = 0) →
    ∃ t, exec (.spInEnWrite p en) s = .next t
      ∧ t.flag (SP_CTRL.IN_EN p) = en
      ∧ t.flag (SP_CTRL.OUT_EN p) = s.flag (SP_CTRL.OUT_EN p)
      ∧ (t.port p).reqs = (s.port p).reqs ++ [⟨false, en, some s.nextShot, none⟩]
      ∧ (∀ q, q ≠ p → t.port q = s.port q)
      ∧ Kept [.sp] [] [0x50004 + p * 0x100] s t)
  ∧ (∀ (p : Nat) (en : Bool) (s : State), s.hostOpen = true → Quiet s → p < 64 → s.flag (SP_CTRL.OUT_EN p) = !en → (en = true → portStartStatus p true s = 0) →
    ∃ t, exec (.spOutEnWrite p en) s = .next t
      ∧ t.flag (SP_CTRL.OUT_EN p) = en
      ∧ t.flag (SP_CTRL.IN_EN p) = s.flag (SP_CTRL.IN_EN p)
      ∧ (t.port p).reqs = (s.port p).reqs ++ [⟨true, en, some s.nextShot, none⟩]
      ∧ (∀ q, q ≠ p → t.port q = s.port q)
      ∧ Kept [.sp] [] [0x50004 + p * 0x100] s t)
  ∧ (∀ (p : Nat) (en : Bool) (s : State), s.hostOpen = true → Quiet s → p < 64 →
    ∃ t, exec (.spCapEnWrite p en) s = .next t
      ∧ t.flag (SP_CTRL.CAP_EN p) = en
      ∧ t.flag (SP_CTRL.PLY_EN p) = s.flag (SP_CTRL.PLY_EN p)
      ∧ t.flag (SP_CTRL.IN_EN p) = s.flag (SP_CTRL.IN_EN p)
      ∧ Kept [] [] [0x50004 + p * 0x100] s t)
  ∧ (∀ (p : Nat) (en : Bool) (s : State), s.hostOpen = true → Quiet s → p < 64 →
    ∃ t, exec (.spPlyEnWrite p en) s = .next t
      ∧ t.flag (SP_CTRL.PLY_EN p) = en
      ∧ t.flag (SP_CTRL.CAP_EN p) = s.flag (SP_CTRL.CAP_EN p)
      ∧ t.flag (SP_CTRL.OUT_EN p) = s.flag (SP_CTRL.OUT_EN p)
      ∧ Kept [] [] [0x50004 + p * 0x100] s t)
  ∧ (∀ (g : Nat) (v : Word) (w : Nat) (s : State), s.hostOpen = true → Quiet s → g < 16 → w = v.toNat &&& 0xFFFFE000 → cgCheck g w s = 0 → bitOf w 31 = true → s.flag (CG_CFG.ENABLE g) = false → ([8, 9, 10, 11].all fun k => !s.flag (CLK_CANDST.ACTIVE k)) = true →
    ∃ t, exec (.cgCfgWrite g v) s = .next t
      ∧ t.reg (0x54000 + 0x20 * g) = wd w
      ∧ t.pinClaim (128 + g) = some ⟨2, g⟩
      ∧ t.pinClaim (144 + g) = some ⟨2, g⟩
      ∧ t.flag (CG_STAT.RATECHG g) = false
      ∧ ((bitOf w 30 = true → t.getF (CG_RATE.FREQ g) = nominalHz g t * 64 % 2 ^ 24))
      ∧ Kept [.sp, .pin] [] [0x54000 + 0x20 * g, 0x54004 + 0x20 * g, 0x54008 + 0x20 * g] s t)
  ∧ (∀ (g : Nat) (v : Word) (w : Nat) (s : State), s.hostOpen = true → Quiet s → g < 16 → w = v.toNat &&& 0xFFFFE000 → bitOf w 31 = false → s.flag (CG_CFG.ENABLE g) = true → groupUsed g s = false → ([8, 9, 10, 11].all fun k => !s.flag (CLK_CANDST.ACTIVE k)) = true →
    ∃ t, exec (.cgCfgWrite g v) s = .next t
      ∧ t.reg (0x54000 + 0x20 * g) = wd w
      ∧ t.pinClaim (128 + g) = none
      ∧ t.pinClaim (144 + g) = none
      ∧ t.flag (CG_STAT.PRESENT g) = false
      ∧ t.getF (CG_STAT.RATECLS g) = 0
      ∧ t.getF (CG_RATE.FREQ g) = 0
      ∧ Kept [.sp, .pin] [] [0x54000 + 0x20 * g, 0x54004 + 0x20 * g, 0x54008 + 0x20 * g] s t)
  ∧ (∀ (g : Nat) (v : Word) (w : Nat) (s : State), s.hostOpen = true → Quiet s → g < 16 → w = v.toNat &&& 0xFFFFE000 → bitOf w 31 = s.flag (CG_CFG.ENABLE g) → (bitOf w 31 = true → w = (s.reg (0x54000 + 0x20 * g)).toNat) → ([8, 9, 10, 11].all fun k => !s.flag (CLK_CANDST.ACTIVE k)) = true →
    ∃ t, exec (.cgCfgWrite g v) s = .next t
      ∧ t.reg (0x54000 + 0x20 * g) = wd w
      ∧ Kept [] [] [0x54000 + 0x20 * g] s t)

/-- A transmit or receive ring reset empties it and sets both pointers to 0. A receive tail moves to the written index and frees the buffers of the descriptors it hands back. A transmit tail in range moves, and hands its descriptors over to a ring that takes none up at once. A ring length from 2 to 4,096 is staged. A port configuration with MAXF in range is stored, MAXF only while the port is disabled, with the verification of preemption restarted where PREEMPT_EN changes and the link down where an MP port is disabled. (R403, R436, R439, R442, R443, R446) -/
def Obligations.NetworkRegisterWrites : Prop :=
  (∀ (r : Nat) (s : State), s.hostOpen = true → Quiet s → r < 8 →
    ∃ t, exec (.txRingReset r) s = .next t
      ∧ t.getF (NET_TXHEAD.PTR r) = 0
      ∧ t.getF (NET_TXTAIL.PTR r) = 0
      ∧ (t.nring true r).own = []
      ∧ (t.nring true r).out = []
      ∧ (t.nring true r).len = (s.nring true r).len
      ∧ (∀ q, q ≠ r → t.nring true q = s.nring true q)
      ∧ Kept [.net, .outs] [] [(NET_TXHEAD.PTR r).addr, (NET_TXTAIL.PTR r).addr] s t)
  ∧ (∀ (r : Nat) (s : State), s.hostOpen = true → Quiet s → r < 8 →
    ∃ t, exec (.rxRingReset r) s = .next t
      ∧ t.getF (NET_RXHEAD.PTR r) = 0
      ∧ t.getF (NET_RXTAIL.PTR r) = 0
      ∧ ((t.net.rxDesc.any fun x => x.1 / 4096 = r) = false)
      ∧ Kept [.net] [] [(NET_RXHEAD.PTR r).addr, (NET_RXTAIL.PTR r).addr] s t)
  ∧ (∀ (r : Nat) (v : Word) (x : Nat) (s : State), s.hostOpen = true → Quiet s → r < 8 → x = v.toNat % 4096 → x < (s.nring false r).len →
    ∃ t, exec (.rxtailWrite r v) s = .next t
      ∧ t.getF (NET_RXTAIL.PTR r) = x
      ∧ (∀ j b, (r * 4096 + j, b) ∈ t.net.rxDesc → j < 4096 → (x + (s.nring false r).len - s.getF (NET_RXTAIL.PTR r)) % (s.nring false r).len ≤ (j + (s.nring false r).len - s.getF (NET_RXTAIL.PTR r)) % (s.nring false r).len)
      ∧ Kept [.net] [] [(NET_RXTAIL.PTR r).addr] s t)
  ∧ (∀ (r : Nat) (v : Word) (ds : List (List Word)) (s : State), s.hostOpen = true → Quiet s → r < 8 → v.toNat % 4096 < (s.nring true r).len →
    ∃ t, exec (.txtailWrite r v ds) s = .next t
      ∧ t.getF (NET_TXTAIL.PTR r) = v.toNat % 4096)
  ∧ (∀ (r : Nat) (v : Word) (ds : List (List Word)) (x : Nat) (u : NRing) (s : State), s.hostOpen = true → Quiet s → r < 8 → x = v.toNat % 4096 → u = s.nring true r → x < u.len → u.staged = none → s.flag (NET_TXCTRL.EN r) = false →
    ∃ t, exec (.txtailWrite r v ds) s = .next t
      ∧ t.getF (NET_TXTAIL.PTR r) = x
      ∧ ((t.nring true r).own = u.own ++ (List.range ((x + u.len - s.getF (NET_TXTAIL.PTR r)) % u.len)).map fun k => ((s.getF (NET_TXTAIL.PTR r) + k) % u.len, ds.getD k []))
      ∧ (t.nring true r).out = u.out
      ∧ Kept [.net] [] [(NET_TXTAIL.PTR r).addr] s t)
  ∧ (∀ (tx : Bool) (r : Nat) (v : Word) (l : Nat) (s : State), s.hostOpen = true → Quiet s → r < 8 → l = v.toNat % 8192 → 2 ≤ l → l ≤ 4096 →
    ∃ t, exec (.netRingLenWrite tx r v) s = .next t
      ∧ (t.getF (if tx then NET_TXLEN.LEN r else NET_RXLEN.LEN r) = l)
      ∧ (t.getF (if tx then NET_TXCTRL.LENPEND r else NET_RXCTRL.LENPEND r) = 1)
      ∧ (t.nring tx r).staged = some l
      ∧ (t.nring tx r).len = (s.nring tx r).len
      ∧ (Kept [.net] [] [if tx then (NET_TXLEN.LEN r).addr else (NET_RXLEN.LEN r).addr, if tx then (NET_TXCTRL.LENPEND r).addr else (NET_RXCTRL.LENPEND r).addr] s t))
  ∧ (∀ (p : Nat) (v : Word) (m : Nat) (s : State), s.hostOpen = true → Quiet s → p < 5 → m = bits v.toNat 0 14 → 1522 ≤ m → m ≤ 9216 →
    ∃ t, exec (.preemptEnWrite p v) s = .next t
      ∧ t.flag (NET_PCFG.ENABLE p) = (bitOf v.toNat 31 && !(p = 4 && bits (s.reg 0xE0000).toNat 12 2 = 0))
      ∧ t.flag (NET_PCFG.PAUSELEGACY p) = bitOf v.toNat 30
      ∧ t.flag (NET_PCFG.PREEMPT_EN p) = (bitOf v.toNat 29 && p < 4)
      ∧ (t.getF (NET_PCFG.MAXF p) = (if s.flag (NET_PCFG.ENABLE p) = true ∨ p = 4 then s.getF (NET_PCFG.MAXF p) else m))
      ∧ t.getF (NET_PCFG.EXPRESS p) = bits v.toNat 21 8
      ∧ ((s.flag (NET_PCFG.ENABLE p) = true → bitOf v.toNat 31 = false → p < 4 → t.flag (NET_PSTAT.LINK p) = false))
      ∧ (((bitOf v.toNat 29 && p < 4) ≠ s.flag (NET_PCFG.PREEMPT_EN p) → (t.nport p).attempts = 0 ∧ t.flag (NET_PSTAT.PREEMPT p) = false))
      ∧ (∀ q, q ≠ p → s.flag (NET_PCFG.ENABLE p) = false ∨ bitOf v.toNat 31 = true ∨ p = 4 → t.nport q = s.nport q))

/-- A Dailies clock and MCLK_OUT start with the claim of their ball and end with its release. A lane that stops or may start waits for its boundary. A trigger and a capture that pass their checks are armed with their claims, and give them up when they are disabled. A candidate takes a configuration that its checks allow and keeps its own otherwise; one that is enabled and active begins to qualify, one that is disabled is not qualified. CLK_CTRL takes a word whose FORCESEL is at most 11; FORCE of candidate 0 leaves the reference. (R451, R452, R480, R491, R495, R503, R556, R565) -/
def Obligations.TimingRegisterWrites : Prop :=
  (∀ (c : Nat) (v : Word) (s : State), s.hostOpen = true → Quiet s → c < 4 → s.flag (DL_CK.EN c) = false → bitOf v.toNat 31 = true → bankOn (161 + c) s = true → s.pinClaim (161 + c) = none →
    ∃ t, exec (.dlCkEnWrite c v) s = .next t
      ∧ t.flag (DL_CK.EN c) = true
      ∧ t.getF (DL_CK.OSR c) = bits v.toNat 30 1
      ∧ t.pinClaim (161 + c) = some ⟨3, c⟩
      ∧ Kept [.pin] [] [(DL_CK.EN c).addr] s t)
  ∧ (∀ (c : Nat) (v : Word) (s : State), s.hostOpen = true → Quiet s → c < 4 → s.flag (DL_CK.EN c) = true → bitOf v.toNat 31 = false → bits v.toNat 30 1 = s.getF (DL_CK.OSR c) → ((List.range 32).all fun l => !(s.flag (DL_LCFG.EN l) && s.getF (DL_LCFG.CK l) = c)) = true →
    ∃ t, exec (.dlCkEnWrite c v) s = .next t
      ∧ t.flag (DL_CK.EN c) = false
      ∧ t.getF (DL_CK.OSR c) = s.getF (DL_CK.OSR c)
      ∧ t.pinClaim (161 + c) = none
      ∧ Kept [.pin] [] [(DL_CK.EN c).addr] s t)
  ∧ (∀ (l : Nat) (v : Word) (s : State), s.hostOpen = true → Quiet s → l < 32 → s.flag (DL_LCFG.EN l) = false → bitOf v.toNat 31 = true → laneStartStatus l (s.setReg (0x70100 + 0x10 * l) (wd (v.toNat &&& 0x78000000))) = 0 →
    ∃ t, exec (.dlLaneEnWrite l v) s = .next t
      ∧ t.flag (DL_LCFG.EN l) = true
      ∧ t.getF (DL_LCFG.CK l) = bits v.toNat 29 2
      ∧ t.dl.reqs = s.dl.reqs ++ [(l, ⟨false, true, some s.nextShot, none⟩)]
      ∧ Kept [.dl] [] [(DL_LCFG.EN l).addr] s t)
  ∧ (∀ (l : Nat) (v : Word) (s : State), s.hostOpen = true → Quiet s → l < 32 → s.flag (DL_LCFG.EN l) = true → bitOf v.toNat 31 = false → bits v.toNat 27 4 = bits (s.reg (0x70100 + 0x10 * l)).toNat 27 4 →
    ∃ t, exec (.dlLaneEnWrite l v) s = .next t
      ∧ t.flag (DL_LCFG.EN l) = false
      ∧ t.dl.reqs = s.dl.reqs ++ [(l, ⟨false, false, some s.nextShot, none⟩)]
      ∧ Kept [.dl] [] [(DL_LCFG.EN l).addr] s t)
  ∧ (∀ (l : Nat) (v : Word) (s : State), s.hostOpen = true → Quiet s → l < 32 → s.flag (DL_LCFG.EN l) = false → bitOf v.toNat 31 = false →
    ∃ t, exec (.dlLaneEnWrite l v) s = .next t
      ∧ t.reg (0x70100 + 0x10 * l) = wd (v.toNat &&& 0x78000000)
      ∧ Kept [] [] [(DL_LCFG.EN l).addr] s t)
  ∧ (∀ (v : Word) (s : State), s.hostOpen = true → Quiet s → s.flag CLK_MCLK.EN = true → bitOf v.toNat 31 = false → bits v.toNat 30 1 = s.getF CLK_MCLK.SEL →
    ∃ t, exec (.mclkEnWrite v) s = .next t
      ∧ t.flag CLK_MCLK.EN = false
      ∧ t.getF CLK_MCLK.SEL = s.getF CLK_MCLK.SEL
      ∧ t.pinClaim 160 = none
      ∧ t.outs = .pin "MCLK_OUT" false :: s.outs
      ∧ Kept [.pin, .outs] [] [CLK_MCLK.EN.addr] s t)
  ∧ (∀ (v : Word) (s : State), s.hostOpen = true → Quiet s → s.flag CLK_MCLK.EN = false → bitOf v.toNat 31 = true → bankOn 160 s = true → s.pinClaim 160 = none →
    ∃ t, exec (.mclkEnWrite v) s = .next t
      ∧ t.flag CLK_MCLK.EN = true
      ∧ t.getF CLK_MCLK.SEL = bits v.toNat 30 1
      ∧ t.pinClaim 160 = some ⟨7, 0⟩
      ∧ t.outs = .pin "MCLK_OUT" true :: s.outs
      ∧ Kept [.pin, .outs] [] [CLK_MCLK.EN.addr] s t)
  ∧ (∀ (idx : Nat) (v : Word) (w : Nat) (s : State), s.hostOpen = true → Quiet s → idx < 32 → w = v.toNat &&& 0xFFFCFFFF → bitOf w 31 = true → trigCheck idx w (s.getF (CLP_TT1.SEC idx) + 2 ^ 32 * s.getF (CLP_TT2.SEC idx)) (s.getF (CLP_TT0.NS idx)) (s.getF (CLP_TPER.NS idx)) (s.getF (CLP_TCNT.COUNT idx)) s = 0 →
    ∃ t, exec (.triggerEnWrite idx v) s = .next t
      ∧ t.flag (CLP_TCFG.EN idx) = true
      ∧ t.getF (CLP_TSTAT.STATE idx) = 1
      ∧ bitOf (t.getF CLP_CLAIM.TRIG) idx = true
      ∧ ((t.ptp.trig.find? fun x => x.1 = idx) = some (idx, ⟨s.getF (CLP_TT1.SEC idx) + 2 ^ 32 * s.getF (CLP_TT2.SEC idx), s.getF (CLP_TT0.NS idx), 0, if bitOf w 19 then s.getF (CLP_TCNT.COUNT idx) else 1, false⟩))
      ∧ (((trigBall w).all fun b => decide (t.pinClaim b = some ⟨5, idx⟩)) = true)
      ∧ Kept [.ptp, .pin, .outs] [2] [] s t)
  ∧ (∀ (idx : Nat) (v : Word) (s : State), s.hostOpen = true → Quiet s → idx < 32 → bitOf v.toNat 31 = false → s.flag (CLP_TCFG.EN idx) = true → trigNamed idx s = false →
    ∃ t, exec (.triggerEnWrite idx v) s = .next t
      ∧ t.reg (0x20400 + 0x20 * idx) = v &&& 0xFFFCFFFF
      ∧ t.getF (CLP_TSTAT.STATE idx) = 0
      ∧ bitOf (t.getF CLP_CLAIM.TRIG) idx = false
      ∧ ((t.ptp.trig.find? fun x => x.1 = idx) = none)
      ∧ (((trigBall (s.reg (0x20400 + 0x20 * idx)).toNat).all fun b => decide (t.pinClaim b = none)) = true)
      ∧ Kept [.ptp, .pin, .outs] [2] [] s t)
  ∧ (∀ (idx : Nat) (v : Word) (s : State), s.hostOpen = true → Quiet s → idx < 32 → bitOf v.toNat 31 = false → s.flag (CLP_TCFG.EN idx) = false →
    ∃ t, exec (.triggerEnWrite idx v) s = .next t
      ∧ t.reg (0x20400 + 0x20 * idx) = v &&& 0xFFFCFFFF
      ∧ Kept [] [] [0x20400 + 0x20 * idx] s t)
  ∧ (∀ (c : Nat) (v : Word) (w : Nat) (s : State), s.hostOpen = true → Quiet s → c < 16 → w = v.toNat &&& 0xF000001F → bitOf w 31 = true → bits w 29 2 ≠ 0 → s.flag (CLP_CCFG.EN c) = false → bankOn (gpioBall (bits w 0 5)) s = true → s.pinClaim (gpioBall (bits w 0 5)) = none →
    ∃ t, exec (.captureEnWrite c v) s = .next t
      ∧ t.reg (0x20800 + 0x20 * c) = wd w
      ∧ t.pinClaim (gpioBall (bits w 0 5)) = some ⟨6, c⟩
      ∧ bitOf (t.getF CLP_CLAIMC.CAP) c = true
      ∧ Kept [.pin] [] [0x20800 + 0x20 * c, CLP_CLAIMC.CAP.addr] s t)
  ∧ (∀ (c : Nat) (v : Word) (s : State), s.hostOpen = true → Quiet s → c < 16 → bitOf v.toNat 31 = false → s.flag (CLP_CCFG.EN c) = true →
    ∃ t, exec (.captureEnWrite c v) s = .next t
      ∧ t.flag (CLP_CCFG.EN c) = false
      ∧ t.getF (CLP_CCFG.IE c) = bits v.toNat 28 1
      ∧ t.getF (CLP_CCFG.SRC c) = s.getF (CLP_CCFG.SRC c)
      ∧ t.getF (CLP_CCFG.EDGE c) = s.getF (CLP_CCFG.EDGE c)
      ∧ t.pinClaim (gpioBall (s.getF (CLP_CCFG.SRC c))) = none
      ∧ bitOf (t.getF CLP_CLAIMC.CAP) c = false
      ∧ Kept [.pin] [] [0x20800 + 0x20 * c, CLP_CLAIMC.CAP.addr] s t)
  ∧ (∀ (c : Nat) (v : Word) (s : State), s.hostOpen = true → Quiet s → c < 16 → bitOf v.toNat 31 = false → bits v.toNat 29 2 ≠ 0 → s.flag (CLP_CCFG.EN c) = false →
    ∃ t, exec (.captureEnWrite c v) s = .next t
      ∧ t.reg (0x20800 + 0x20 * c) = v &&& 0xF000001F
      ∧ Kept [] [] [0x20800 + 0x20 * c] s t)
  ∧ (∀ (k : Nat) (v : Word) (s : State), s.hostOpen = true → Quiet s → 1 ≤ k → k < 12 → candBad k (v.toNat &&& 0xF8FFF3FF) s = false →
    ∃ t, exec (.candidateCfgWrite k v) s = .next t
      ∧ t.reg (0x10100 + 0x10 * k) = v &&& 0xF8FFF3FF
      ∧ ((s.flag (CLK_CAND.EN k) = true → bitOf v.toNat 31 = false → t.flag (CLK_CANDST.QUAL k) = false ∧ t.flag (CLK_CANDST.QUALIFYING k) = false ∧ t.getF (CLK_CANDST.QLEFT k) = 0)))
  ∧ (∀ (k : Nat) (v : Word) (s : State), s.hostOpen = true → Quiet s → 1 ≤ k → k < 12 → candBad k (v.toNat &&& 0xF8FFF3FF) s = true →
    ∃ t, exec (.candidateCfgWrite k v) s = .next t
      ∧ t.reg (0x10100 + 0x10 * k) = s.reg (0x10100 + 0x10 * k)
      ∧ bitOf (t.getF (FLT_STICKY.BITS 1)) 1 = true
      ∧ Quiet t)
  ∧ (∀ (k : Nat) (v : Word) (s : State), s.hostOpen = true → Quiet s → 1 ≤ k → k < 7 → candBad k (v.toNat &&& 0xF8FFF3FF) s = false → s.flag (CLK_CAND.EN k) = false → bitOf v.toNat 31 = true → s.flag (CLK_CANDST.ACTIVE k) = true → s.flag (CLK_CANDST.QUAL k) = false → s.flag CLK_STAT.SWITCHING = true →
    ∃ t, exec (.candidateCfgWrite k v) s = .next t
      ∧ t.reg (0x10100 + 0x10 * k) = v &&& 0xF8FFF3FF
      ∧ t.flag (CLK_CANDST.QUALIFYING k) = true
      ∧ t.getF (CLK_CANDST.QLEFT k) = s.getF CLK_QUALCFG.QTIME
      ∧ Kept [.clk] [1] [] s t)
  ∧ (∀ (v : Word) (s : State), s.hostOpen = true → Quiet s → bits v.toNat 24 4 ≤ 11 →
    ∃ t, exec (.forceWrite v) s = .next t
      ∧ t.reg 0x10000 = v &&& 0x8F000001)
  ∧ (∀ (v : Word) (s : State), s.hostOpen = true → Quiet s → bitOf v.toNat 31 = true → bits v.toNat 24 4 = 0 → s.flag CLK_STAT.SWITCHING = false → s.flag CLK_STAT.RINGFOLLOW = false →
    ∃ t, exec (.forceWrite v) s = .next t
      ∧ t.reg 0x10000 = v &&& 0x8F000001
      ∧ t.cstate = 0
      ∧ (s.cstate ≠ 0 → t.csel = 0))

/-- Every arithmetic instruction of the engines that runs writes its result in every lane: the wrapping ones the exact value modulo 2^32 with V where it does not fit, the saturating ones the saturated value with V and S. Z and N are those of the result, G and every other register of the bank stay, with the parallel moves aside, and execution goes on in sequence. (R163, R172, R174, R187) -/
def Obligations.EngineArithmetic : Prop :=
  (∀ (e : Nat) (n : Nat) (o : Nat) (ecc : EccHit) (s : State), Runs opAdd e n o ecc s →
    ∃ t, exec (.insAdd e ecc) s = .next t
      ∧ (∀ lane, lane < 8 → (t.bank e).dreg lane (fDD o) = wi (((s.bank e).dreg lane (fSA o)).toInt + ((s.bank e).dreg lane (fSB o)).toInt) ∧ LaneFlagsAre (decide ((wi (((s.bank e).dreg lane (fSA o)).toInt + ((s.bank e).dreg lane (fSB o)).toInt)).toInt = 0)) (decide ((wi (((s.bank e).dreg lane (fSA o)).toInt + ((s.bank e).dreg lane (fSB o)).toInt)).toInt < 0)) (satHits 32 (((s.bank e).dreg lane (fSA o)).toInt + ((s.bank e).dreg lane (fSB o)).toInt)) false false lane (s.bank e) (t.bank e))
      ∧ BankKept [fDD o] [] [] true e s t
      ∧ InSequence e s t
      ∧ EngFrame e ecc s t)
  ∧ (∀ (e : Nat) (n : Nat) (o : Nat) (ecc : EccHit) (s : State), Runs opAdds e n o ecc s →
    ∃ t, exec (.insAdds e ecc) s = .next t
      ∧ (∀ lane, lane < 8 → (t.bank e).dreg lane (fDD o) = wi (satTo 32 (((s.bank e).dreg lane (fSA o)).toInt + ((s.bank e).dreg lane (fSB o)).toInt)) ∧ LaneFlagsAre (decide ((wi (satTo 32 (((s.bank e).dreg lane (fSA o)).toInt + ((s.bank e).dreg lane (fSB o)).toInt))).toInt = 0)) (decide ((wi (satTo 32 (((s.bank e).dreg lane (fSA o)).toInt + ((s.bank e).dreg lane (fSB o)).toInt))).toInt < 0)) (satHits 32 (((s.bank e).dreg lane (fSA o)).toInt + ((s.bank e).dreg lane (fSB o)).toInt)) (satHits 32 (((s.bank e).dreg lane (fSA o)).toInt + ((s.bank e).dreg lane (fSB o)).toInt)) false lane (s.bank e) (t.bank e))
      ∧ BankKept [fDD o] [] [] true e s t
      ∧ InSequence e s t
      ∧ EngFrame e ecc s t)
  ∧ (∀ (e : Nat) (n : Nat) (o : Nat) (ecc : EccHit) (s : State), Runs opSub e n o ecc s →
    ∃ t, exec (.insSub e ecc) s = .next t
      ∧ (∀ lane, lane < 8 → (t.bank e).dreg lane (fDD o) = wi (((s.bank e).dreg lane (fSA o)).toInt - ((s.bank e).dreg lane (fSB o)).toInt) ∧ LaneFlagsAre (decide ((wi (((s.bank e).dreg lane (fSA o)).toInt - ((s.bank e).dreg lane (fSB o)).toInt)).toInt = 0)) (decide ((wi (((s.bank e).dreg lane (fSA o)).toInt - ((s.bank e).dreg lane (fSB o)).toInt)).toInt < 0)) (satHits 32 (((s.bank e).dreg lane (fSA o)).toInt - ((s.bank e).dreg lane (fSB o)).toInt)) false false lane (s.bank e) (t.bank e))
      ∧ BankKept [fDD o] [] [] true e s t
      ∧ InSequence e s t
      ∧ EngFrame e ecc s t)
  ∧ (∀ (e : Nat) (n : Nat) (o : Nat) (ecc : EccHit) (s : State), Runs opSubs e n o ecc s →
    ∃ t, exec (.insSubs e ecc) s = .next t
      ∧ (∀ lane, lane < 8 → (t.bank e).dreg lane (fDD o) = wi (satTo 32 (((s.bank e).dreg lane (fSA o)).toInt - ((s.bank e).dreg lane (fSB o)).toInt)) ∧ LaneFlagsAre (decide ((wi (satTo 32 (((s.bank e).dreg lane (fSA o)).toInt - ((s.bank e).dreg lane (fSB o)).toInt))).toInt = 0)) (decide ((wi (satTo 32 (((s.bank e).dreg lane (fSA o)).toInt - ((s.bank e).dreg lane (fSB o)).toInt))).toInt < 0)) (satHits 32 (((s.bank e).dreg lane (fSA o)).toInt - ((s.bank e).dreg lane (fSB o)).toInt)) (satHits 32 (((s.bank e).dreg lane (fSA o)).toInt - ((s.bank e).dreg lane (fSB o)).toInt)) false lane (s.bank e) (t.bank e))
      ∧ BankKept [fDD o] [] [] true e s t
      ∧ InSequence e s t
      ∧ EngFrame e ecc s t)
  ∧ (∀ (e : Nat) (n : Nat) (o : Nat) (ecc : EccHit) (s : State), Runs opAbs e n o ecc s →
    ∃ t, exec (.insAbs e ecc) s = .next t
      ∧ (∀ lane, lane < 8 → (t.bank e).dreg lane (fDD o) = wi (satTo 32 (((s.bank e).dreg lane (fSA o)).toInt.natAbs : Int)) ∧ LaneFlagsAre (decide ((wi (satTo 32 (((s.bank e).dreg lane (fSA o)).toInt.natAbs : Int))).toInt = 0)) (decide ((wi (satTo 32 (((s.bank e).dreg lane (fSA o)).toInt.natAbs : Int))).toInt < 0)) (decide ((s.bank e).dreg lane (fSA o) = 0x80000000)) (decide ((s.bank e).dreg lane (fSA o) = 0x80000000)) false lane (s.bank e) (t.bank e))
      ∧ BankKept [fDD o] [] [] true e s t
      ∧ InSequence e s t
      ∧ EngFrame e ecc s t)
  ∧ (∀ (e : Nat) (n : Nat) (o : Nat) (ecc : EccHit) (s : State), Runs opNeg e n o ecc s →
    ∃ t, exec (.insNeg e ecc) s = .next t
      ∧ (∀ lane, lane < 8 → (t.bank e).dreg lane (fDD o) = wi (satTo 32 (- ((s.bank e).dreg lane (fSA o)).toInt)) ∧ LaneFlagsAre (decide ((wi (satTo 32 (- ((s.bank e).dreg lane (fSA o)).toInt))).toInt = 0)) (decide ((wi (satTo 32 (- ((s.bank e).dreg lane (fSA o)).toInt))).toInt < 0)) (decide ((s.bank e).dreg lane (fSA o) = 0x80000000)) (decide ((s.bank e).dreg lane (fSA o) = 0x80000000)) false lane (s.bank e) (t.bank e))
      ∧ BankKept [fDD o] [] [] true e s t
      ∧ InSequence e s t
      ∧ EngFrame e ecc s t)
  ∧ (∀ (e : Nat) (n : Nat) (o : Nat) (ecc : EccHit) (s : State), Runs opMin e n o ecc s →
    ∃ t, exec (.insMin e ecc) s = .next t
      ∧ (∀ lane, lane < 8 → (t.bank e).dreg lane (fDD o) = wi (min ((s.bank e).dreg lane (fSA o)).toInt ((s.bank e).dreg lane (fSB o)).toInt) ∧ LaneFlagsAre (decide ((wi (min ((s.bank e).dreg lane (fSA o)).toInt ((s.bank e).dreg lane (fSB o)).toInt)).toInt = 0)) (decide ((wi (min ((s.bank e).dreg lane (fSA o)).toInt ((s.bank e).dreg lane (fSB o)).toInt)).toInt < 0)) false false false lane (s.bank e) (t.bank e))
      ∧ BankKept [fDD o] [] [] true e s t
      ∧ InSequence e s t
      ∧ EngFrame e ecc s t)
  ∧ (∀ (e : Nat) (n : Nat) (o : Nat) (ecc : EccHit) (s : State), Runs opMax e n o ecc s →
    ∃ t, exec (.insMax e ecc) s = .next t
      ∧ (∀ lane, lane < 8 → (t.bank e).dreg lane (fDD o) = wi (max ((s.bank e).dreg lane (fSA o)).toInt ((s.bank e).dreg lane (fSB o)).toInt) ∧ LaneFlagsAre (decide ((wi (max ((s.bank e).dreg lane (fSA o)).toInt ((s.bank e).dreg lane (fSB o)).toInt)).toInt = 0)) (decide ((wi (max ((s.bank e).dreg lane (fSA o)).toInt ((s.bank e).dreg lane (fSB o)).toInt)).toInt < 0)) false false false lane (s.bank e) (t.bank e))
      ∧ BankKept [fDD o] [] [] true e s t
      ∧ InSequence e s t
      ∧ EngFrame e ecc s t)
  ∧ (∀ (e : Nat) (n : Nat) (o : Nat) (ecc : EccHit) (s : State), Runs opAddi e n o ecc s →
    ∃ t, exec (.insAddi e ecc) s = .next t
      ∧ (∀ lane, lane < 8 → (t.bank e).dreg lane (fDD o) = wi (((s.bank e).dreg lane (fSA o)).toInt + (fImm o).toInt) ∧ LaneFlagsAre (decide ((wi (((s.bank e).dreg lane (fSA o)).toInt + (fImm o).toInt)).toInt = 0)) (decide ((wi (((s.bank e).dreg lane (fSA o)).toInt + (fImm o).toInt)).toInt < 0)) (satHits 32 (((s.bank e).dreg lane (fSA o)).toInt + (fImm o).toInt)) false false lane (s.bank e) (t.bank e))
      ∧ BankKept [fDD o] [] [] true e s t
      ∧ InSequence e s t
      ∧ EngFrame e ecc s t)
  ∧ (∀ (e : Nat) (n : Nat) (o : Nat) (ecc : EccHit) (s : State), Runs opAddis e n o ecc s →
    ∃ t, exec (.insAddis e ecc) s = .next t
      ∧ (∀ lane, lane < 8 → (t.bank e).dreg lane (fDD o) = wi (satTo 32 (((s.bank e).dreg lane (fSA o)).toInt + (fImm o).toInt)) ∧ LaneFlagsAre (decide ((wi (satTo 32 (((s.bank e).dreg lane (fSA o)).toInt + (fImm o).toInt))).toInt = 0)) (decide ((wi (satTo 32 (((s.bank e).dreg lane (fSA o)).toInt + (fImm o).toInt))).toInt < 0)) (satHits 32 (((s.bank e).dreg lane (fSA o)).toInt + (fImm o).toInt)) (satHits 32 (((s.bank e).dreg lane (fSA o)).toInt + (fImm o).toInt)) false lane (s.bank e) (t.bank e))
      ∧ BankKept [fDD o] [] [] true e s t
      ∧ InSequence e s t
      ∧ EngFrame e ecc s t)

/-- Every logic, shift, count, move and comparison instruction of the engines that runs gives every lane the result and the flags of R172 and R174, and leaves every other register of its bank, the parallel moves aside, with execution in sequence. A comparison writes flags only. (R163, R172, R174, R187) -/
def Obligations.EngineLogicAndShifts : Prop :=
  (∀ (e : Nat) (n : Nat) (o : Nat) (ecc : EccHit) (s : State), Runs opAnd e n o ecc s →
    ∃ t, exec (.insAnd e ecc) s = .next t
      ∧ (∀ lane, lane < 8 → (t.bank e).dreg lane (fDD o) = (s.bank e).dreg lane (fSA o) &&& (s.bank e).dreg lane (fSB o) ∧ LaneFlagsAre (decide (((s.bank e).dreg lane (fSA o) &&& (s.bank e).dreg lane (fSB o)).toInt = 0)) (decide (((s.bank e).dreg lane (fSA o) &&& (s.bank e).dreg lane (fSB o)).toInt < 0)) false false false lane (s.bank e) (t.bank e))
      ∧ BankKept [fDD o] [] [] true e s t
      ∧ InSequence e s t
      ∧ EngFrame e ecc s t)
  ∧ (∀ (e : Nat) (n : Nat) (o : Nat) (ecc : EccHit) (s : State), Runs opOr e n o ecc s →
    ∃ t, exec (.insOr e ecc) s = .next t
      ∧ (∀ lane, lane < 8 → (t.bank e).dreg lane (fDD o) = (s.bank e).dreg lane (fSA o) ||| (s.bank e).dreg lane (fSB o) ∧ LaneFlagsAre (decide (((s.bank e).dreg lane (fSA o) ||| (s.bank e).dreg lane (fSB o)).toInt = 0)) (decide (((s.bank e).dreg lane (fSA o) ||| (s.bank e).dreg lane (fSB o)).toInt < 0)) false false false lane (s.bank e) (t.bank e))
      ∧ BankKept [fDD o] [] [] true e s t
      ∧ InSequence e s t
      ∧ EngFrame e ecc s t)
  ∧ (∀ (e : Nat) (n : Nat) (o : Nat) (ecc : EccHit) (s : State), Runs opXor e n o ecc s →
    ∃ t, exec (.insXor e ecc) s = .next t
      ∧ (∀ lane, lane < 8 → (t.bank e).dreg lane (fDD o) = (s.bank e).dreg lane (fSA o) ^^^ (s.bank e).dreg lane (fSB o) ∧ LaneFlagsAre (decide (((s.bank e).dreg lane (fSA o) ^^^ (s.bank e).dreg lane (fSB o)).toInt = 0)) (decide (((s.bank e).dreg lane (fSA o) ^^^ (s.bank e).dreg lane (fSB o)).toInt < 0)) false false false lane (s.bank e) (t.bank e))
      ∧ BankKept [fDD o] [] [] true e s t
      ∧ InSequence e s t
      ∧ EngFrame e ecc s t)
  ∧ (∀ (e : Nat) (n : Nat) (o : Nat) (ecc : EccHit) (s : State), Runs opShl e n o ecc s →
    ∃ t, exec (.insShl e ecc) s = .next t
      ∧ (∀ lane, lane < 8 → (t.bank e).dreg lane (fDD o) = wi (((s.bank e).dreg lane (fSA o)).toInt * 2 ^ (if fI o then fSH o else ((s.bank e).dreg lane (fSB o)).toNat % 32)) ∧ LaneFlagsAre (decide ((wi (((s.bank e).dreg lane (fSA o)).toInt * 2 ^ (if fI o then fSH o else ((s.bank e).dreg lane (fSB o)).toNat % 32))).toInt = 0)) (decide ((wi (((s.bank e).dreg lane (fSA o)).toInt * 2 ^ (if fI o then fSH o else ((s.bank e).dreg lane (fSB o)).toNat % 32))).toInt < 0)) (satHits 32 (((s.bank e).dreg lane (fSA o)).toInt * 2 ^ (if fI o then fSH o else ((s.bank e).dreg lane (fSB o)).toNat % 32))) false false lane (s.bank e) (t.bank e))
      ∧ BankKept [fDD o] [] [] true e s t
      ∧ InSequence e s t
      ∧ EngFrame e ecc s t)
  ∧ (∀ (e : Nat) (n : Nat) (o : Nat) (ecc : EccHit) (s : State), Runs opShls e n o ecc s →
    ∃ t, exec (.insShls e ecc) s = .next t
      ∧ (∀ lane, lane < 8 → (t.bank e).dreg lane (fDD o) = wi (satTo 32 (((s.bank e).dreg lane (fSA o)).toInt * 2 ^ (if fI o then fSH o else ((s.bank e).dreg lane (fSB o)).toNat % 32))) ∧ LaneFlagsAre (decide ((wi (satTo 32 (((s.bank e).dreg lane (fSA o)).toInt * 2 ^ (if fI o then fSH o else ((s.bank e).dreg lane (fSB o)).toNat % 32)))).toInt = 0)) (decide ((wi (satTo 32 (((s.bank e).dreg lane (fSA o)).toInt * 2 ^ (if fI o then fSH o else ((s.bank e).dreg lane (fSB o)).toNat % 32)))).toInt < 0)) (satHits 32 (((s.bank e).dreg lane (fSA o)).toInt * 2 ^ (if fI o then fSH o else ((s.bank e).dreg lane (fSB o)).toNat % 32))) (satHits 32 (((s.bank e).dreg lane (fSA o)).toInt * 2 ^ (if fI o then fSH o else ((s.bank e).dreg lane (fSB o)).toNat % 32))) false lane (s.bank e) (t.bank e))
      ∧ BankKept [fDD o] [] [] true e s t
      ∧ InSequence e s t
      ∧ EngFrame e ecc s t)
  ∧ (∀ (e : Nat) (n : Nat) (o : Nat) (ecc : EccHit) (s : State), Runs opShr e n o ecc s →
    ∃ t, exec (.insShr e ecc) s = .next t
      ∧ (∀ lane, lane < 8 → (t.bank e).dreg lane (fDD o) = wd (((s.bank e).dreg lane (fSA o)).toNat / 2 ^ (if fI o then fSH o else ((s.bank e).dreg lane (fSB o)).toNat % 32)) ∧ LaneFlagsAre (decide ((wd (((s.bank e).dreg lane (fSA o)).toNat / 2 ^ (if fI o then fSH o else ((s.bank e).dreg lane (fSB o)).toNat % 32))).toInt = 0)) (decide ((wd (((s.bank e).dreg lane (fSA o)).toNat / 2 ^ (if fI o then fSH o else ((s.bank e).dreg lane (fSB o)).toNat % 32))).toInt < 0)) false false false lane (s.bank e) (t.bank e))
      ∧ BankKept [fDD o] [] [] true e s t
      ∧ InSequence e s t
      ∧ EngFrame e ecc s t)
  ∧ (∀ (e : Nat) (n : Nat) (o : Nat) (ecc : EccHit) (s : State), Runs opAsr e n o ecc s →
    ∃ t, exec (.insAsr e ecc) s = .next t
      ∧ (∀ lane, lane < 8 → (t.bank e).dreg lane (fDD o) = ((s.bank e).dreg lane (fSA o)).sshiftRight (if fI o then fSH o else ((s.bank e).dreg lane (fSB o)).toNat % 32) ∧ LaneFlagsAre (decide ((((s.bank e).dreg lane (fSA o)).sshiftRight (if fI o then fSH o else ((s.bank e).dreg lane (fSB o)).toNat % 32)).toInt = 0)) (decide ((((s.bank e).dreg lane (fSA o)).sshiftRight (if fI o then fSH o else ((s.bank e).dreg lane (fSB o)).toNat % 32)).toInt < 0)) false false false lane (s.bank e) (t.bank e))
      ∧ BankKept [fDD o] [] [] true e s t
      ∧ InSequence e s t
      ∧ EngFrame e ecc s t)
  ∧ (∀ (e : Nat) (n : Nat) (o : Nat) (ecc : EccHit) (s : State), Runs opClz e n o ecc s →
    ∃ t, exec (.insClz e ecc) s = .next t
      ∧ (∀ lane, lane < 8 → (t.bank e).dreg lane (fDD o) = wd (((s.bank e).dreg lane (fSA o)).clz).toNat ∧ LaneFlagsAre (decide ((wd (((s.bank e).dreg lane (fSA o)).clz).toNat).toInt = 0)) (decide ((wd (((s.bank e).dreg lane (fSA o)).clz).toNat).toInt < 0)) false false false lane (s.bank e) (t.bank e))
      ∧ BankKept [fDD o] [] [] true e s t
      ∧ InSequence e s t
      ∧ EngFrame e ecc s t)
  ∧ (∀ (e : Nat) (n : Nat) (o : Nat) (ecc : EccHit) (s : State), Runs opMov e n o ecc s →
    ∃ t, exec (.insMov e ecc) s = .next t
      ∧ (∀ lane, lane < 8 → (t.bank e).dreg lane (fDD o) = (s.bank e).dreg lane (fSA o) ∧ LaneFlagsAre (decide (((s.bank e).dreg lane (fSA o)).toInt = 0)) (decide (((s.bank e).dreg lane (fSA o)).toInt < 0)) false false false lane (s.bank e) (t.bank e))
      ∧ BankKept [fDD o] [] [] true e s t
      ∧ InSequence e s t
      ∧ EngFrame e ecc s t)
  ∧ (∀ (e : Nat) (n : Nat) (o : Nat) (ecc : EccHit) (s : State), Runs opAndi e n o ecc s →
    ∃ t, exec (.insAndi e ecc) s = .next t
      ∧ (∀ lane, lane < 8 → (t.bank e).dreg lane (fDD o) = (s.bank e).dreg lane (fSA o) &&& fImm o ∧ LaneFlagsAre (decide (((s.bank e).dreg lane (fSA o) &&& fImm o).toInt = 0)) (decide (((s.bank e).dreg lane (fSA o) &&& fImm o).toInt < 0)) false false false lane (s.bank e) (t.bank e))
      ∧ BankKept [fDD o] [] [] true e s t
      ∧ InSequence e s t
      ∧ EngFrame e ecc s t)
  ∧ (∀ (e : Nat) (n : Nat) (o : Nat) (ecc : EccHit) (s : State), Runs opOri e n o ecc s →
    ∃ t, exec (.insOri e ecc) s = .next t
      ∧ (∀ lane, lane < 8 → (t.bank e).dreg lane (fDD o) = (s.bank e).dreg lane (fSA o) ||| fImm o ∧ LaneFlagsAre (decide (((s.bank e).dreg lane (fSA o) ||| fImm o).toInt = 0)) (decide (((s.bank e).dreg lane (fSA o) ||| fImm o).toInt < 0)) false false false lane (s.bank e) (t.bank e))
      ∧ BankKept [fDD o] [] [] true e s t
      ∧ InSequence e s t
      ∧ EngFrame e ecc s t)
  ∧ (∀ (e : Nat) (n : Nat) (o : Nat) (ecc : EccHit) (s : State), Runs opXori e n o ecc s →
    ∃ t, exec (.insXori e ecc) s = .next t
      ∧ (∀ lane, lane < 8 → (t.bank e).dreg lane (fDD o) = (s.bank e).dreg lane (fSA o) ^^^ fImm o ∧ LaneFlagsAre (decide (((s.bank e).dreg lane (fSA o) ^^^ fImm o).toInt = 0)) (decide (((s.bank e).dreg lane (fSA o) ^^^ fImm o).toInt < 0)) false false false lane (s.bank e) (t.bank e))
      ∧ BankKept [fDD o] [] [] true e s t
      ∧ InSequence e s t
      ∧ EngFrame e ecc s t)
  ∧ (∀ (e : Nat) (n : Nat) (o : Nat) (ecc : EccHit) (s : State), Runs opCmp e n o ecc s →
    ∃ t, exec (.insCmp e ecc) s = .next t
      ∧ (∀ lane, lane < 8 → LaneFlagsAre (decide ((s.bank e).dreg lane (fSA o) = (s.bank e).dreg lane (fSB o))) (decide (((s.bank e).dreg lane (fSA o)).toInt < ((s.bank e).dreg lane (fSB o)).toInt)) false false false lane (s.bank e) (t.bank e))
      ∧ BankKept [] [] [] true e s t
      ∧ InSequence e s t
      ∧ EngFrame e ecc s t)
  ∧ (∀ (e : Nat) (n : Nat) (o : Nat) (ecc : EccHit) (s : State), Runs opCmpi e n o ecc s →
    ∃ t, exec (.insCmpi e ecc) s = .next t
      ∧ (∀ lane, lane < 8 → LaneFlagsAre (decide ((s.bank e).dreg lane (fSA o) = fImm o)) (decide (((s.bank e).dreg lane (fSA o)).toInt < (fImm o).toInt)) false false false lane (s.bank e) (t.bank e))
      ∧ BankKept [] [] [] true e s t
      ∧ InSequence e s t
      ∧ EngFrame e ecc s t)

/-- Every accumulator instruction that runs gives every lane the accumulator or register of R173. An accumulation whose exact sum leaves 80 bits saturates and holds, or wraps in wrapping mode, with V and G; a held accumulator stays with V; a write without a read clears the hold. Other registers of the bank stay, the parallel moves aside, and where no lane overflows so does everything outside it. (R120, R121, R122, R123, R124, R125, R173) -/
def Obligations.EngineAccumulators : Prop :=
  (∀ (e : Nat) (n : Nat) (o : Nat) (ecc : EccHit) (s : State), Runs opMpy e n o ecc s →
    ∃ t, exec (.insMpy e ecc) s = .next t
      ∧ (∀ lane, lane < 8 → (t.bank e).accum lane (fA o) = BitVec.ofInt 80 (((s.bank e).dreg lane (fMSA o)).toInt * ((s.bank e).dreg lane (fMSB o)).toInt) ∧ (t.bank e).hold lane (fA o) = false ∧ LaneFlagsAre (decide ((((s.bank e).dreg lane (fMSA o)).toInt * ((s.bank e).dreg lane (fMSB o)).toInt) = 0)) (decide ((((s.bank e).dreg lane (fMSA o)).toInt * ((s.bank e).dreg lane (fMSB o)).toInt) < 0)) false false false lane (s.bank e) (t.bank e))
      ∧ BankKept [] [fA o] [] true e s t
      ∧ InSequence e s t
      ∧ EngFrame e ecc s t)
  ∧ (∀ (e : Nat) (n : Nat) (o : Nat) (ecc : EccHit) (s : State), Runs opMac e n o ecc s →
    ∃ t, exec (.insMac e ecc) s = .next t
      ∧ (∀ lane, lane < 8 → (t.bank e).accum lane (fA o) = (if (s.bank e).hold lane (fA o) then (s.bank e).accum lane (fA o) else if (s.engine e).accwrap then BitVec.ofInt 80 (((s.bank e).accum lane (fA o)).toInt + (((s.bank e).dreg lane (fMSA o)).toInt * ((s.bank e).dreg lane (fMSB o)).toInt)) else BitVec.ofInt 80 (satTo 80 (((s.bank e).accum lane (fA o)).toInt + (((s.bank e).dreg lane (fMSA o)).toInt * ((s.bank e).dreg lane (fMSB o)).toInt)))) ∧ (t.bank e).hold lane (fA o) = ((s.bank e).hold lane (fA o) || ((satHits 80 (((s.bank e).accum lane (fA o)).toInt + (((s.bank e).dreg lane (fMSA o)).toInt * ((s.bank e).dreg lane (fMSB o)).toInt))) && !(s.engine e).accwrap)) ∧ LaneFlagsAre (decide (((if (s.bank e).hold lane (fA o) then (s.bank e).accum lane (fA o) else if (s.engine e).accwrap then BitVec.ofInt 80 (((s.bank e).accum lane (fA o)).toInt + (((s.bank e).dreg lane (fMSA o)).toInt * ((s.bank e).dreg lane (fMSB o)).toInt)) else BitVec.ofInt 80 (satTo 80 (((s.bank e).accum lane (fA o)).toInt + (((s.bank e).dreg lane (fMSA o)).toInt * ((s.bank e).dreg lane (fMSB o)).toInt))))).toInt = 0)) (decide (((if (s.bank e).hold lane (fA o) then (s.bank e).accum lane (fA o) else if (s.engine e).accwrap then BitVec.ofInt 80 (((s.bank e).accum lane (fA o)).toInt + (((s.bank e).dreg lane (fMSA o)).toInt * ((s.bank e).dreg lane (fMSB o)).toInt)) else BitVec.ofInt 80 (satTo 80 (((s.bank e).accum lane (fA o)).toInt + (((s.bank e).dreg lane (fMSA o)).toInt * ((s.bank e).dreg lane (fMSB o)).toInt))))).toInt < 0)) ((s.bank e).hold lane (fA o) || (satHits 80 (((s.bank e).accum lane (fA o)).toInt + (((s.bank e).dreg lane (fMSA o)).toInt * ((s.bank e).dreg lane (fMSB o)).toInt)))) false (!(s.bank e).hold lane (fA o) && (satHits 80 (((s.bank e).accum lane (fA o)).toInt + (((s.bank e).dreg lane (fMSA o)).toInt * ((s.bank e).dreg lane (fMSB o)).toInt)))) lane (s.bank e) (t.bank e))
      ∧ (∀ _ : ((List.range 8).all fun lane => (s.bank e).hold lane (fA o) || !(satHits 80 (((s.bank e).accum lane (fA o)).toInt + (((s.bank e).dreg lane (fMSA o)).toInt * ((s.bank e).dreg lane (fMSB o)).toInt)))) = true, EngFrame e ecc s t)
      ∧ BankKept [] [fA o] [] true e s t
      ∧ InSequence e s t)
  ∧ (∀ (e : Nat) (n : Nat) (o : Nat) (ecc : EccHit) (s : State), Runs opMns e n o ecc s →
    ∃ t, exec (.insMns e ecc) s = .next t
      ∧ (∀ lane, lane < 8 → (t.bank e).accum lane (fA o) = (if (s.bank e).hold lane (fA o) then (s.bank e).accum lane (fA o) else if (s.engine e).accwrap then BitVec.ofInt 80 (((s.bank e).accum lane (fA o)).toInt + (-(((s.bank e).dreg lane (fMSA o)).toInt * ((s.bank e).dreg lane (fMSB o)).toInt))) else BitVec.ofInt 80 (satTo 80 (((s.bank e).accum lane (fA o)).toInt + (-(((s.bank e).dreg lane (fMSA o)).toInt * ((s.bank e).dreg lane (fMSB o)).toInt))))) ∧ (t.bank e).hold lane (fA o) = ((s.bank e).hold lane (fA o) || ((satHits 80 (((s.bank e).accum lane (fA o)).toInt + (-(((s.bank e).dreg lane (fMSA o)).toInt * ((s.bank e).dreg lane (fMSB o)).toInt)))) && !(s.engine e).accwrap)) ∧ LaneFlagsAre (decide (((if (s.bank e).hold lane (fA o) then (s.bank e).accum lane (fA o) else if (s.engine e).accwrap then BitVec.ofInt 80 (((s.bank e).accum lane (fA o)).toInt + (-(((s.bank e).dreg lane (fMSA o)).toInt * ((s.bank e).dreg lane (fMSB o)).toInt))) else BitVec.ofInt 80 (satTo 80 (((s.bank e).accum lane (fA o)).toInt + (-(((s.bank e).dreg lane (fMSA o)).toInt * ((s.bank e).dreg lane (fMSB o)).toInt)))))).toInt = 0)) (decide (((if (s.bank e).hold lane (fA o) then (s.bank e).accum lane (fA o) else if (s.engine e).accwrap then BitVec.ofInt 80 (((s.bank e).accum lane (fA o)).toInt + (-(((s.bank e).dreg lane (fMSA o)).toInt * ((s.bank e).dreg lane (fMSB o)).toInt))) else BitVec.ofInt 80 (satTo 80 (((s.bank e).accum lane (fA o)).toInt + (-(((s.bank e).dreg lane (fMSA o)).toInt * ((s.bank e).dreg lane (fMSB o)).toInt)))))).toInt < 0)) ((s.bank e).hold lane (fA o) || (satHits 80 (((s.bank e).accum lane (fA o)).toInt + (-(((s.bank e).dreg lane (fMSA o)).toInt * ((s.bank e).dreg lane (fMSB o)).toInt))))) false (!(s.bank e).hold lane (fA o) && (satHits 80 (((s.bank e).accum lane (fA o)).toInt + (-(((s.bank e).dreg lane (fMSA o)).toInt * ((s.bank e).dreg lane (fMSB o)).toInt))))) lane (s.bank e) (t.bank e))
      ∧ (∀ _ : ((List.range 8).all fun lane => (s.bank e).hold lane (fA o) || !(satHits 80 (((s.bank e).accum lane (fA o)).toInt + (-(((s.bank e).dreg lane (fMSA o)).toInt * ((s.bank e).dreg lane (fMSB o)).toInt))))) = true, EngFrame e ecc s t)
      ∧ BankKept [] [fA o] [] true e s t
      ∧ InSequence e s t)
  ∧ (∀ (e : Nat) (n : Nat) (o : Nat) (ecc : EccHit) (s : State), Runs opMacn e n o ecc s →
    ∃ t, exec (.insMacn e ecc) s = .next t
      ∧ (∀ lane, lane < 8 → (t.bank e).accum lane (fA o) = (if (s.bank e).hold lane (fA o) then (s.bank e).accum lane (fA o) else if (s.engine e).accwrap then BitVec.ofInt 80 (((s.bank e).accum lane (fA o)).toInt + ((s.bank e).dreg lane (fMSA o)).toInt * ((s.bank e).dreg lane (fMSB o)).toInt) else BitVec.ofInt 80 (satTo 80 (((s.bank e).accum lane (fA o)).toInt + ((s.bank e).dreg lane (fMSA o)).toInt * ((s.bank e).dreg lane (fMSB o)).toInt))) ∧ (t.bank e).hold lane (fA o) = ((s.bank e).hold lane (fA o) || ((satHits 80 (((s.bank e).accum lane (fA o)).toInt + ((s.bank e).dreg lane (fMSA o)).toInt * ((s.bank e).dreg lane (fMSB o)).toInt)) && !(s.engine e).accwrap)) ∧ (t.bank e).dreg lane (fDD o) = wi (satTo 32 (accShift false ((if (s.bank e).hold lane (fA o) then (s.bank e).accum lane (fA o) else if (s.engine e).accwrap then BitVec.ofInt 80 (((s.bank e).accum lane (fA o)).toInt + ((s.bank e).dreg lane (fMSA o)).toInt * ((s.bank e).dreg lane (fMSB o)).toInt) else BitVec.ofInt 80 (satTo 80 (((s.bank e).accum lane (fA o)).toInt + ((s.bank e).dreg lane (fMSA o)).toInt * ((s.bank e).dreg lane (fMSB o)).toInt)))).toInt 0)) ∧ LaneFlagsAre (decide (satTo 32 (accShift false ((if (s.bank e).hold lane (fA o) then (s.bank e).accum lane (fA o) else if (s.engine e).accwrap then BitVec.ofInt 80 (((s.bank e).accum lane (fA o)).toInt + ((s.bank e).dreg lane (fMSA o)).toInt * ((s.bank e).dreg lane (fMSB o)).toInt) else BitVec.ofInt 80 (satTo 80 (((s.bank e).accum lane (fA o)).toInt + ((s.bank e).dreg lane (fMSA o)).toInt * ((s.bank e).dreg lane (fMSB o)).toInt)))).toInt 0) = 0)) (decide (satTo 32 (accShift false ((if (s.bank e).hold lane (fA o) then (s.bank e).accum lane (fA o) else if (s.engine e).accwrap then BitVec.ofInt 80 (((s.bank e).accum lane (fA o)).toInt + ((s.bank e).dreg lane (fMSA o)).toInt * ((s.bank e).dreg lane (fMSB o)).toInt) else BitVec.ofInt 80 (satTo 80 (((s.bank e).accum lane (fA o)).toInt + ((s.bank e).dreg lane (fMSA o)).toInt * ((s.bank e).dreg lane (fMSB o)).toInt)))).toInt 0) < 0)) ((s.bank e).hold lane (fA o) || (satHits 80 (((s.bank e).accum lane (fA o)).toInt + ((s.bank e).dreg lane (fMSA o)).toInt * ((s.bank e).dreg lane (fMSB o)).toInt)) || satHits 32 (accShift false ((if (s.bank e).hold lane (fA o) then (s.bank e).accum lane (fA o) else if (s.engine e).accwrap then BitVec.ofInt 80 (((s.bank e).accum lane (fA o)).toInt + ((s.bank e).dreg lane (fMSA o)).toInt * ((s.bank e).dreg lane (fMSB o)).toInt) else BitVec.ofInt 80 (satTo 80 (((s.bank e).accum lane (fA o)).toInt + ((s.bank e).dreg lane (fMSA o)).toInt * ((s.bank e).dreg lane (fMSB o)).toInt)))).toInt 0)) (satHits 32 (accShift false ((if (s.bank e).hold lane (fA o) then (s.bank e).accum lane (fA o) else if (s.engine e).accwrap then BitVec.ofInt 80 (((s.bank e).accum lane (fA o)).toInt + ((s.bank e).dreg lane (fMSA o)).toInt * ((s.bank e).dreg lane (fMSB o)).toInt) else BitVec.ofInt 80 (satTo 80 (((s.bank e).accum lane (fA o)).toInt + ((s.bank e).dreg lane (fMSA o)).toInt * ((s.bank e).dreg lane (fMSB o)).toInt)))).toInt 0)) (!(s.bank e).hold lane (fA o) && (satHits 80 (((s.bank e).accum lane (fA o)).toInt + ((s.bank e).dreg lane (fMSA o)).toInt * ((s.bank e).dreg lane (fMSB o)).toInt))) lane (s.bank e) (t.bank e))
      ∧ (∀ _ : ((List.range 8).all fun lane => (s.bank e).hold lane (fA o) || !(satHits 80 (((s.bank e).accum lane (fA o)).toInt + ((s.bank e).dreg lane (fMSA o)).toInt * ((s.bank e).dreg lane (fMSB o)).toInt))) = true, EngFrame e ecc s t)
      ∧ BankKept [fDD o] [fA o] [] true e s t
      ∧ InSequence e s t)
  ∧ (∀ (e : Nat) (n : Nat) (o : Nat) (ecc : EccHit) (s : State), Runs opAclr e n o ecc s →
    ∃ t, exec (.insAclr e ecc) s = .next t
      ∧ (∀ lane, lane < 8 → (t.bank e).accum lane (fA o) = (0 : Acc) ∧ (t.bank e).hold lane (fA o) = false ∧ LaneFlagsAre (decide (((0 : Acc)).toInt = 0)) (decide (((0 : Acc)).toInt < 0)) false false false lane (s.bank e) (t.bank e))
      ∧ BankKept [] [fA o] [] true e s t
      ∧ InSequence e s t
      ∧ EngFrame e ecc s t)
  ∧ (∀ (e : Nat) (n : Nat) (o : Nat) (ecc : EccHit) (s : State), Runs opAld e n o ecc s →
    ∃ t, exec (.insAld e ecc) s = .next t
      ∧ (∀ lane, lane < 8 → (t.bank e).accum lane (fA o) = BitVec.ofInt 80 (((s.bank e).dreg lane (fDD o)).toInt * 2 ^ 31) ∧ (t.bank e).hold lane (fA o) = false ∧ LaneFlagsAre (decide ((BitVec.ofInt 80 (((s.bank e).dreg lane (fDD o)).toInt * 2 ^ 31)).toInt = 0)) (decide ((BitVec.ofInt 80 (((s.bank e).dreg lane (fDD o)).toInt * 2 ^ 31)).toInt < 0)) false false false lane (s.bank e) (t.bank e))
      ∧ BankKept [] [fA o] [] true e s t
      ∧ InSequence e s t
      ∧ EngFrame e ecc s t)
  ∧ (∀ (e : Nat) (n : Nat) (o : Nat) (ecc : EccHit) (s : State), Runs opAldw e n o ecc s →
    ∃ t, exec (.insAldw e ecc) s = .next t
      ∧ (∀ lane, lane < 8 → (t.bank e).accum lane (fA o) = setAccWord ((s.bank e).accum lane (fA o)) (fCW o) ((s.bank e).dreg lane (fDD o)) ∧ (t.bank e).hold lane (fA o) = false)
      ∧ BankKept [] [fA o] [] false e s t
      ∧ InSequence e s t
      ∧ EngFrame e ecc s t)
  ∧ (∀ (e : Nat) (n : Nat) (o : Nat) (ecc : EccHit) (s : State), Runs opAadd e n o ecc s →
    ∃ t, exec (.insAadd e ecc) s = .next t
      ∧ (∀ lane, lane < 8 → (t.bank e).accum lane (fA o) = (if (s.bank e).hold lane (fA o) then (s.bank e).accum lane (fA o) else if (s.engine e).accwrap then BitVec.ofInt 80 (((s.bank e).accum lane (fA o)).toInt + ((s.bank e).accum lane (fCB o)).toInt) else BitVec.ofInt 80 (satTo 80 (((s.bank e).accum lane (fA o)).toInt + ((s.bank e).accum lane (fCB o)).toInt))) ∧ (t.bank e).hold lane (fA o) = ((s.bank e).hold lane (fA o) || ((satHits 80 (((s.bank e).accum lane (fA o)).toInt + ((s.bank e).accum lane (fCB o)).toInt)) && !(s.engine e).accwrap)) ∧ LaneFlagsAre (decide (((if (s.bank e).hold lane (fA o) then (s.bank e).accum lane (fA o) else if (s.engine e).accwrap then BitVec.ofInt 80 (((s.bank e).accum lane (fA o)).toInt + ((s.bank e).accum lane (fCB o)).toInt) else BitVec.ofInt 80 (satTo 80 (((s.bank e).accum lane (fA o)).toInt + ((s.bank e).accum lane (fCB o)).toInt)))).toInt = 0)) (decide (((if (s.bank e).hold lane (fA o) then (s.bank e).accum lane (fA o) else if (s.engine e).accwrap then BitVec.ofInt 80 (((s.bank e).accum lane (fA o)).toInt + ((s.bank e).accum lane (fCB o)).toInt) else BitVec.ofInt 80 (satTo 80 (((s.bank e).accum lane (fA o)).toInt + ((s.bank e).accum lane (fCB o)).toInt)))).toInt < 0)) ((s.bank e).hold lane (fA o) || (satHits 80 (((s.bank e).accum lane (fA o)).toInt + ((s.bank e).accum lane (fCB o)).toInt))) false (!(s.bank e).hold lane (fA o) && (satHits 80 (((s.bank e).accum lane (fA o)).toInt + ((s.bank e).accum lane (fCB o)).toInt))) lane (s.bank e) (t.bank e))
      ∧ (∀ _ : ((List.range 8).all fun lane => (s.bank e).hold lane (fA o) || !(satHits 80 (((s.bank e).accum lane (fA o)).toInt + ((s.bank e).accum lane (fCB o)).toInt))) = true, EngFrame e ecc s t)
      ∧ BankKept [] [fA o] [] true e s t
      ∧ InSequence e s t)
  ∧ (∀ (e : Nat) (n : Nat) (o : Nat) (ecc : EccHit) (s : State), Runs opAsub e n o ecc s →
    ∃ t, exec (.insAsub e ecc) s = .next t
      ∧ (∀ lane, lane < 8 → (t.bank e).accum lane (fA o) = (if (s.bank e).hold lane (fA o) then (s.bank e).accum lane (fA o) else if (s.engine e).accwrap then BitVec.ofInt 80 (((s.bank e).accum lane (fA o)).toInt + (-((s.bank e).accum lane (fCB o)).toInt)) else BitVec.ofInt 80 (satTo 80 (((s.bank e).accum lane (fA o)).toInt + (-((s.bank e).accum lane (fCB o)).toInt)))) ∧ (t.bank e).hold lane (fA o) = ((s.bank e).hold lane (fA o) || ((satHits 80 (((s.bank e).accum lane (fA o)).toInt + (-((s.bank e).accum lane (fCB o)).toInt))) && !(s.engine e).accwrap)) ∧ LaneFlagsAre (decide (((if (s.bank e).hold lane (fA o) then (s.bank e).accum lane (fA o) else if (s.engine e).accwrap then BitVec.ofInt 80 (((s.bank e).accum lane (fA o)).toInt + (-((s.bank e).accum lane (fCB o)).toInt)) else BitVec.ofInt 80 (satTo 80 (((s.bank e).accum lane (fA o)).toInt + (-((s.bank e).accum lane (fCB o)).toInt))))).toInt = 0)) (decide (((if (s.bank e).hold lane (fA o) then (s.bank e).accum lane (fA o) else if (s.engine e).accwrap then BitVec.ofInt 80 (((s.bank e).accum lane (fA o)).toInt + (-((s.bank e).accum lane (fCB o)).toInt)) else BitVec.ofInt 80 (satTo 80 (((s.bank e).accum lane (fA o)).toInt + (-((s.bank e).accum lane (fCB o)).toInt))))).toInt < 0)) ((s.bank e).hold lane (fA o) || (satHits 80 (((s.bank e).accum lane (fA o)).toInt + (-((s.bank e).accum lane (fCB o)).toInt)))) false (!(s.bank e).hold lane (fA o) && (satHits 80 (((s.bank e).accum lane (fA o)).toInt + (-((s.bank e).accum lane (fCB o)).toInt)))) lane (s.bank e) (t.bank e))
      ∧ (∀ _ : ((List.range 8).all fun lane => (s.bank e).hold lane (fA o) || !(satHits 80 (((s.bank e).accum lane (fA o)).toInt + (-((s.bank e).accum lane (fCB o)).toInt)))) = true, EngFrame e ecc s t)
      ∧ BankKept [] [fA o] [] true e s t
      ∧ InSequence e s t)
  ∧ (∀ (e : Nat) (n : Nat) (o : Nat) (ecc : EccHit) (s : State), Runs opAsh e n o ecc s →
    ∃ t, exec (.insAsh e ecc) s = .next t
      ∧ (∀ lane, lane < 8 → (t.bank e).accum lane (fA o) = BitVec.ofInt 80 (satTo 80 (if 0 ≤ fCSH o then ((s.bank e).accum lane (fA o)).toInt * 2 ^ (fCSH o).toNat else rndc (-fCSH o).toNat ((s.bank e).accum lane (fA o)).toInt)) ∧ (t.bank e).hold lane (fA o) = (s.bank e).hold lane (fA o) ∧ LaneFlagsAre (decide ((BitVec.ofInt 80 (satTo 80 (if 0 ≤ fCSH o then ((s.bank e).accum lane (fA o)).toInt * 2 ^ (fCSH o).toNat else rndc (-fCSH o).toNat ((s.bank e).accum lane (fA o)).toInt))).toInt = 0)) (decide ((BitVec.ofInt 80 (satTo 80 (if 0 ≤ fCSH o then ((s.bank e).accum lane (fA o)).toInt * 2 ^ (fCSH o).toNat else rndc (-fCSH o).toNat ((s.bank e).accum lane (fA o)).toInt))).toInt < 0)) (satHits 80 (if 0 ≤ fCSH o then ((s.bank e).accum lane (fA o)).toInt * 2 ^ (fCSH o).toNat else rndc (-fCSH o).toNat ((s.bank e).accum lane (fA o)).toInt)) false false lane (s.bank e) (t.bank e))
      ∧ BankKept [] [fA o] [] true e s t
      ∧ InSequence e s t
      ∧ EngFrame e ecc s t)
  ∧ (∀ (e : Nat) (n : Nat) (o : Nat) (ecc : EccHit) (s : State), Runs opRnd e n o ecc s →
    ∃ t, exec (.insRnd e ecc) s = .next t
      ∧ (∀ lane, lane < 8 → (t.bank e).dreg lane (fDD o) = wi (satTo 32 (accShift false ((s.bank e).accum lane (fA o)).toInt (fCSH o))) ∧ LaneFlagsAre (decide (satTo 32 (accShift false ((s.bank e).accum lane (fA o)).toInt (fCSH o)) = 0)) (decide (satTo 32 (accShift false ((s.bank e).accum lane (fA o)).toInt (fCSH o)) < 0)) (satHits 32 (accShift false ((s.bank e).accum lane (fA o)).toInt (fCSH o))) (satHits 32 (accShift false ((s.bank e).accum lane (fA o)).toInt (fCSH o))) false lane (s.bank e) (t.bank e))
      ∧ BankKept [fDD o] [] [] true e s t
      ∧ InSequence e s t
      ∧ EngFrame e ecc s t)
  ∧ (∀ (e : Nat) (n : Nat) (o : Nat) (ecc : EccHit) (s : State), Runs opTrn e n o ecc s →
    ∃ t, exec (.insTrn e ecc) s = .next t
      ∧ (∀ lane, lane < 8 → (t.bank e).dreg lane (fDD o) = wi (satTo 32 (accShift true ((s.bank e).accum lane (fA o)).toInt (fCSH o))) ∧ LaneFlagsAre (decide (satTo 32 (accShift true ((s.bank e).accum lane (fA o)).toInt (fCSH o)) = 0)) (decide (satTo 32 (accShift true ((s.bank e).accum lane (fA o)).toInt (fCSH o)) < 0)) (satHits 32 (accShift true ((s.bank e).accum lane (fA o)).toInt (fCSH o))) (satHits 32 (accShift true ((s.bank e).accum lane (fA o)).toInt (fCSH o))) false lane (s.bank e) (t.bank e))
      ∧ BankKept [fDD o] [] [] true e s t
      ∧ InSequence e s t
      ∧ EngFrame e ecc s t)
  ∧ (∀ (e : Nat) (n : Nat) (o : Nat) (ecc : EccHit) (s : State), Runs opAmv e n o ecc s →
    ∃ t, exec (.insAmv e ecc) s = .next t
      ∧ (∀ lane, lane < 8 → (t.bank e).dreg lane (fDD o) = accWord ((s.bank e).accum lane (fA o)) (fCW o))
      ∧ BankKept [fDD o] [] [] false e s t
      ∧ InSequence e s t
      ∧ EngFrame e ecc s t)

/-- A NOP changes no register beside its parallel moves. SEL, LOG2, EXP2, a division step and, with no store due, a table lookup give every lane their results, EXP2 and TLI with S on saturation. MOVA, ADDA and MVDA write one cursor field, MVAD and RDPC copy a cursor field or a counter into every lane. (R172, R175, R180, R181, R182, R183, R185, R199) -/
def Obligations.EngineSpecialAndCursors : Prop :=
  (∀ (e : Nat) (n : Nat) (o : Nat) (ecc : EccHit) (s : State), Runs opNop e n o ecc s →
    ∃ t, exec (.insNop e ecc) s = .next t
      ∧ BankKept [] [] [] false e s t
      ∧ InSequence e s t
      ∧ EngFrame e ecc s t)
  ∧ (∀ (e : Nat) (n : Nat) (o : Nat) (ecc : EccHit) (s : State), Runs opSel e n o ecc s →
    ∃ t, exec (.insSel e ecc) s = .next t
      ∧ (∀ lane, lane < 8 → (t.bank e).dreg lane (fDD o) = if condHolds (fCOND o) lane (s.bank e) then (s.bank e).dreg lane (fSA o) else (s.bank e).dreg lane (fSB o))
      ∧ BankKept [fDD o] [] [] false e s t
      ∧ InSequence e s t
      ∧ EngFrame e ecc s t)
  ∧ (∀ (e : Nat) (n : Nat) (o : Nat) (ecc : EccHit) (s : State), Runs opLog2 e n o ecc s →
    ∃ t, exec (.insLog2 e ecc) s = .next t
      ∧ (∀ lane, lane < 8 → (t.bank e).dreg lane (fDD o) = wi (log2q ((s.bank e).dreg lane (fSA o)).toInt.natAbs))
      ∧ BankKept [fDD o] [] [] false e s t
      ∧ InSequence e s t
      ∧ EngFrame e ecc s t)
  ∧ (∀ (e : Nat) (n : Nat) (o : Nat) (ecc : EccHit) (s : State), Runs opExp2 e n o ecc s →
    ∃ t, exec (.insExp2 e ecc) s = .next t
      ∧ (∀ lane, lane < 8 → (t.bank e).dreg lane (fDD o) = wi (exp2q (fF o) ((s.bank e).dreg lane (fSA o)).toInt).1 ∧ laneBit (t.bank e).s lane = (laneBit (s.bank e).s lane || (exp2q (fF o) ((s.bank e).dreg lane (fSA o)).toInt).2) ∧ laneBit (t.bank e).z lane = laneBit (s.bank e).z lane ∧ laneBit (t.bank e).n lane = laneBit (s.bank e).n lane ∧ laneBit (t.bank e).v lane = laneBit (s.bank e).v lane ∧ laneBit (t.bank e).g lane = laneBit (s.bank e).g lane)
      ∧ BankKept [fDD o] [] [] true e s t
      ∧ InSequence e s t
      ∧ EngFrame e ecc s t)
  ∧ (∀ (e : Nat) (n : Nat) (o : Nat) (ecc : EccHit) (s : State), Runs opDivs e n o ecc s →
    ∃ t, exec (.insDivs e ecc) s = .next t
      ∧ (∀ lane, lane < 8 → (t.bank e).dreg lane (fDD o) = ((s.bank e).dreg lane (fDD o) <<< 1) ||| (if (divStep ((s.bank e).accum lane (fVA o)) ((s.bank e).dreg lane (fSA o))).2 then 1 else 0) ∧ (t.bank e).accum lane (fVA o) = (divStep ((s.bank e).accum lane (fVA o)) ((s.bank e).dreg lane (fSA o))).1 ∧ (t.bank e).hold lane (fVA o) = (s.bank e).hold lane (fVA o))
      ∧ BankKept [fDD o] [fVA o] [] false e s t
      ∧ InSequence e s t
      ∧ EngFrame e ecc s t)
  ∧ (∀ (e : Nat) (n : Nat) (o : Nat) (ecc : EccHit) (s : State), Runs opTli e n o ecc s → storesDue e s = [] →
    ∃ t, exec (.insTli e ecc) s = .next t
      ∧ (∀ lane, lane < 8 → (t.bank e).dreg lane (fDD o) = wi (satTo 32 (tliValue (fK o) (loadWord e lane (fSP o) (((s.bank e).field (cCUR (fUN o))).toNat + (tliIndex (fK o) ((s.bank e).dreg lane (fSA o))).1) (s.bank e).page s) (loadWord e lane (fSP o) (((s.bank e).field (cCUR (fUN o))).toNat + (tliIndex (fK o) ((s.bank e).dreg lane (fSA o))).2.1) (s.bank e).page s) (tliIndex (fK o) ((s.bank e).dreg lane (fSA o))).2.2)) ∧ laneBit (t.bank e).s lane = (laneBit (s.bank e).s lane || satHits 32 (tliValue (fK o) (loadWord e lane (fSP o) (((s.bank e).field (cCUR (fUN o))).toNat + (tliIndex (fK o) ((s.bank e).dreg lane (fSA o))).1) (s.bank e).page s) (loadWord e lane (fSP o) (((s.bank e).field (cCUR (fUN o))).toNat + (tliIndex (fK o) ((s.bank e).dreg lane (fSA o))).2.1) (s.bank e).page s) (tliIndex (fK o) ((s.bank e).dreg lane (fSA o))).2.2)) ∧ laneBit (t.bank e).z lane = laneBit (s.bank e).z lane ∧ laneBit (t.bank e).n lane = laneBit (s.bank e).n lane ∧ laneBit (t.bank e).v lane = laneBit (s.bank e).v lane ∧ laneBit (t.bank e).g lane = laneBit (s.bank e).g lane)
      ∧ BankKept [fDD o] [] [] true e s t
      ∧ InSequence e s t
      ∧ EngFrame e ecc s t)
  ∧ (∀ (e : Nat) (n : Nat) (o : Nat) (ecc : EccHit) (s : State), Runs opMova e n o ecc s →
    ∃ t, exec (.insMova e ecc) s = .next t
      ∧ (t.bank e).field (fAR o) = BitVec.ofNat 16 (fImm16 o)
      ∧ BankKept [] [] [fAR o] false e s t
      ∧ InSequence e s t
      ∧ EngFrame e ecc s t)
  ∧ (∀ (e : Nat) (n : Nat) (o : Nat) (ecc : EccHit) (s : State), Runs opAdda e n o ecc s →
    ∃ t, exec (.insAdda e ecc) s = .next t
      ∧ (t.bank e).field (fAR o) = (s.bank e).field (fAR o) + BitVec.ofNat 16 (fImm16 o)
      ∧ BankKept [] [] [fAR o] false e s t
      ∧ InSequence e s t
      ∧ EngFrame e ecc s t)
  ∧ (∀ (e : Nat) (n : Nat) (o : Nat) (ecc : EccHit) (s : State), Runs opMvda e n o ecc s →
    ∃ t, exec (.insMvda e ecc) s = .next t
      ∧ (t.bank e).field (fAR o) = ((s.bank e).dreg 0 (fA2SA o)).setWidth 16
      ∧ BankKept [] [] [fAR o] false e s t
      ∧ InSequence e s t
      ∧ EngFrame e ecc s t)
  ∧ (∀ (e : Nat) (n : Nat) (o : Nat) (ecc : EccHit) (s : State), Runs opMvad e n o ecc s →
    ∃ t, exec (.insMvad e ecc) s = .next t
      ∧ (∀ lane, lane < 8 → (t.bank e).dreg lane (fDD o) = fieldWord (fA3 o) ((s.bank e).field (fA3 o)))
      ∧ BankKept [fDD o] [] [] false e s t
      ∧ InSequence e s t
      ∧ EngFrame e ecc s t)
  ∧ (∀ (e : Nat) (n : Nat) (o : Nat) (ecc : EccHit) (s : State), Runs opRdpc e n o ecc s →
    ∃ t, exec (.insRdpc e ecc) s = .next t
      ∧ (∀ lane, lane < 8 → (t.bank e).dreg lane (fDD o) = rdpcWord (fA3 o) e (eccNote e n ecc s))
      ∧ BankKept [fDD o] [] [] false e s t
      ∧ InSequence e s t
      ∧ EngFrame e ecc s t)

/-- LDI writes its immediate in every lane. BRA, and BALL and BANY where their condition holds in all or any lane of the mask, go to the target and pop the loop levels that do not contain it; otherwise they go on. CALL pushes the return address, RET pops it. LOOP and LOOPU push a level, or go past the body with a count of 0. Nothing else of the bank changes. (R176, R187, R188, R192, R193, R194) -/
def Obligations.EngineControlFlow : Prop :=
  (∀ (e : Nat) (n : Nat) (o : Nat) (ecc : EccHit) (s : State), RunsLong 0x30 e n o ecc s → o % 2 ^ 22 = 0 → runsOut (s.pcOf e) (s.bank e).loops = false →
    ∃ t, exec (.insLdi e ecc) s = .next t
      ∧ (∀ lane, lane < 8 → (t.bank e).dreg lane (bits o 54 4) = wd (bits o 22 32))
      ∧ InSequence e s t
      ∧ LongKept [bits o 54 4] e s t
      ∧ EngFrame e ecc s t)
  ∧ (∀ (e : Nat) (n : Nat) (o : Nat) (ecc : EccHit) (s : State), RunsLong 0x31 e n o ecc s → o < 2 ^ 14 → atLoopEnd (s.pcOf e) (s.bank e).loops = false →
    ∃ t, exec (.insBra e ecc) s = .next t
      ∧ t.pcOf e = o
      ∧ (t.bank e).loops = branchLoops o (s.bank e).loops
      ∧ (t.bank e).stack = (s.bank e).stack
      ∧ LongKept [] e s t
      ∧ EngFrame e ecc s t)
  ∧ (∀ (e : Nat) (n : Nat) (o : Nat) (ecc : EccHit) (s : State), RunsLong 0x32 e n o ecc s → o < 2 ^ 18 → lCond o < 12 → atLoopEnd (s.pcOf e) (s.bank e).loops = false → (allHold (lCond o) (s.task n).laneMask (s.bank e) = true ∨ runsOut (s.pcOf e) (s.bank e).loops = false) →
    ∃ t, exec (.insBall e ecc) s = .next t
      ∧ (t.pcOf e = (if allHold (lCond o) (s.task n).laneMask (s.bank e) then lTarget o else s.pcOf e + 1))
      ∧ ((t.bank e).loops = (if allHold (lCond o) (s.task n).laneMask (s.bank e) then branchLoops (lTarget o) (s.bank e).loops else (s.bank e).loops))
      ∧ (t.bank e).stack = (s.bank e).stack
      ∧ LongKept [] e s t
      ∧ EngFrame e ecc s t)
  ∧ (∀ (e : Nat) (n : Nat) (o : Nat) (ecc : EccHit) (s : State), RunsLong 0x33 e n o ecc s → o < 2 ^ 18 → lCond o < 12 → atLoopEnd (s.pcOf e) (s.bank e).loops = false → (anyHolds (lCond o) (s.task n).laneMask (s.bank e) = true ∨ runsOut (s.pcOf e) (s.bank e).loops = false) →
    ∃ t, exec (.insBany e ecc) s = .next t
      ∧ (t.pcOf e = (if anyHolds (lCond o) (s.task n).laneMask (s.bank e) then lTarget o else s.pcOf e + 1))
      ∧ ((t.bank e).loops = (if anyHolds (lCond o) (s.task n).laneMask (s.bank e) then branchLoops (lTarget o) (s.bank e).loops else (s.bank e).loops))
      ∧ (t.bank e).stack = (s.bank e).stack
      ∧ LongKept [] e s t
      ∧ EngFrame e ecc s t)
  ∧ (∀ (e : Nat) (n : Nat) (o : Nat) (ecc : EccHit) (s : State), RunsLong 0x34 e n o ecc s → o < 2 ^ 14 → atLoopEnd (s.pcOf e) (s.bank e).loops = false → (s.bank e).stack.length < 4 →
    ∃ t, exec (.insCall e ecc) s = .next t
      ∧ t.pcOf e = o
      ∧ (t.bank e).stack = (s.pcOf e + 1) % 2 ^ 14 :: (s.bank e).stack
      ∧ (t.bank e).loops = (s.bank e).loops
      ∧ LongKept [] e s t
      ∧ EngFrame e ecc s t)
  ∧ (∀ (e : Nat) (n : Nat) (o : Nat) (ecc : EccHit) (s : State), RunsLong 0x35 e n o ecc s → o = 0 → atLoopEnd (s.pcOf e) (s.bank e).loops = false → (s.bank e).stack ≠ [] →
    ∃ t, exec (.insRet e ecc) s = .next t
      ∧ t.pcOf e = (s.bank e).stack.headD 0
      ∧ (t.bank e).stack = (s.bank e).stack.tail
      ∧ (t.bank e).loops = (s.bank e).loops
      ∧ LongKept [] e s t
      ∧ EngFrame e ecc s t)
  ∧ (∀ (e : Nat) (n : Nat) (o : Nat) (ecc : EccHit) (s : State), RunsLong 0x36 e n o ecc s → o < 2 ^ 30 → loopLegal o (lCount o) (s.bank e) = true → (lCount o = 0 ∨ (s.bank e).loops.length < 3) → atLoopEnd (s.pcOf e) (s.bank e).loops = false → runsOut (s.pcOf e) (s.bank e).loops = false →
    ∃ t, exec (.insLoop e ecc) s = .next t
      ∧ (t.pcOf e = (if lCount o = 0 then lTarget o + 1 else s.pcOf e + 1))
      ∧ ((t.bank e).loops = (if lCount o = 0 then (s.bank e).loops else ⟨s.pcOf e + 1, lTarget o, lCount o⟩ :: (s.bank e).loops))
      ∧ (t.bank e).stack = (s.bank e).stack
      ∧ LongKept [] e s t
      ∧ EngFrame e ecc s t)
  ∧ (∀ (e : Nat) (n : Nat) (o : Nat) (ecc : EccHit) (s : State), RunsLong 0x37 e n o ecc s → o < 2 ^ 20 → arLegal (lAR o) = true → loopLegal o (((s.bank e).field (lAR o)).toNat) (s.bank e) = true → (((s.bank e).field (lAR o)).toNat = 0 ∨ (s.bank e).loops.length < 3) → atLoopEnd (s.pcOf e) (s.bank e).loops = false → runsOut (s.pcOf e) (s.bank e).loops = false →
    ∃ t, exec (.insLoopu e ecc) s = .next t
      ∧ (t.pcOf e = (if ((s.bank e).field (lAR o)).toNat = 0 then lTarget o + 1 else s.pcOf e + 1))
      ∧ ((t.bank e).loops = (if ((s.bank e).field (lAR o)).toNat = 0 then (s.bank e).loops else ⟨s.pcOf e + 1, lTarget o, ((s.bank e).field (lAR o)).toNat⟩ :: (s.bank e).loops))
      ∧ (t.bank e).stack = (s.bank e).stack
      ∧ LongKept [] e s t
      ∧ EngFrame e ecc s t)

/-- A YIELD of a task with YIELDOK keeps its bank, with the program counter past it, as a context, and issues the MID list or, with none, makes the task ready; its engine is idle. An END keeps the S flags of the lanes with the task, clears the bank and leaves the engine idle. Neither stops the task, and no other task or engine register than theirs changes mode. (R74, R138, R197, R198, R220, R227) -/
def Obligations.EngineTaskSwitch : Prop :=
  (∀ (e : Nat) (n : Nat) (ecc : EccHit) (s : State), RunsLong 0x38 e n 0 ecc s → atLoopEnd (s.pcOf e) (s.bank e).loops = false → (s.task n).yieldOk = true → (s.task n).count 2 ≠ 0 →
    ∃ t, exec (.insYield e ecc) s = .next t
      ∧ t.engState e = 0
      ∧ (t.engine e).inact = .kept n
      ∧ (t.engine e).keptCtx = { s.bank e with pc := (s.pcOf e + 1) % 2 ^ 14 }
      ∧ (t.task n).st = 6
      ∧ t.cs.staging = s.cs.staging ++ [⟨n, 2, 0, (s.task n).count 2⟩]
      ∧ t.mode = s.mode
      ∧ Kept [.mem, .eng, .cs, .pcn] [3, 0xB] [(ENG_STAT.STATE e).addr] (eccNoted e ecc s) t)
  ∧ (∀ (e : Nat) (n : Nat) (ecc : EccHit) (s : State), RunsLong 0x39 e n 0 ecc s → atLoopEnd (s.pcOf e) (s.bank e).loops = false → (s.task n).count 1 ≠ 0 →
    ∃ t, exec (.insEnd e ecc) s = .next t
      ∧ t.engState e = 0
      ∧ t.bank e = Bank.empty
      ∧ (t.task n).sflags = (s.bank e).s
      ∧ (t.task n).stopped = (s.task n).stopped
      ∧ t.cs.staging = s.cs.staging ++ [⟨n, 1, 0, (s.task n).count 1⟩]
      ∧ t.mode = s.mode
      ∧ Kept [.mem, .eng, .cs, .pcn] [3, 0xB] [(ENG_STAT.STATE e).addr] (eccNoted e ecc s) t)

/-- With a tick, a boundary adds 1 to the shot counter, or loads 0 where an entry to ACQUIRE asked for it; without one it changes nothing, and the ledgers audit by themselves. At the end of an error-free pass without fades, outside a dissolve and a ring, every bus with a live crosspoint gets the rounded and saturated sum of its taps by their live gains, and the pass is over. (R17, R21, R23, R48, R250, R278, R282) -/
def Obligations.ShotBoundaryAndMatrix : Prop :=
  (∀  (s : State), Quiet s → s.tick = true →
    ∃ t, exec (.shotBoundary []) s = .next t
      ∧ (t.shot = (if s.boot.loadZero then 0 else s.shot + 1))
      ∧ t.boot.loadZero = false
      ∧ t.fuse = s.fuse
      ∧ t.time = s.time
      ∧ t.pending = s.pending
      ∧ Quiet t)
  ∧ (∀ (bad : List StageBad) (s : State), Quiet s → s.tick = false →
    ∃ t, exec (.shotBoundary bad) s = .next t
      ∧ t = s)
  ∧ (∀  (s : State), Quiet s → s.tick = false → s.mode ≠ 0 → s.mode ≠ 11 → s.fab.bursts.length ≤ 480 → s.net.bufs.length + s.freeBufs.length = 2048 → ((List.range 8).all fun r => [false, true].all fun tx => (ringCounts tx r s).1 + (ringCounts tx r s).2 = (s.nring tx r).len) = true → tokensUsed s ≤ 4096 → s.asrcUse ≤ 1024 → leaseUse s ≤ (if s.role = 0 then 0 else 1) →
    ∃ t, exec (.ledgerAuditNoTick) s = .next t
      ∧ t.getF FAB_CREDIT.INUSE = s.fab.bursts.length
      ∧ t.getF FAB_CREDIT.FREE = 480 - s.fab.bursts.length
      ∧ t.getF NET_POOLSTAT.INUSE = s.net.bufs.length
      ∧ t.getF NET_POOLSTAT.FREE = s.freeBufs.length
      ∧ t.getF CS_TOKENS.INUSE = tokensUsed s
      ∧ t.getF CS_TOKENS.FREE = 4096 - tokensUsed s
      ∧ t.getF ASRC_STAT.INUSE = s.asrcUse
      ∧ t.getF ASRC_STAT.FREE = 1024 - s.asrcUse
      ∧ t.getF SYS_LEDGER.MISMATCH = s.getF SYS_LEDGER.MISMATCH
      ∧ Kept [] [] [FAB_CREDIT.INUSE.addr, NET_POOLSTAT.INUSE.addr, CS_TOKENS.INUSE.addr, ASRC_STAT.INUSE.addr] s t)
  ∧ (∀ (cyc : Nat) (s : State), Quiet s → s.flag SPL_STAT.PASS = true → s.spl.fades = [] → s.take.dissolve = none → s.getF RL_STAT.STATE ≠ 2 → s.buses ≤ 4096 →
    ∃ t, exec (.matrixPassEnd cyc [] []) s = .next t
      ∧ (∀ b, b < s.buses → (s.spl.live.any fun c => c.1 % s.buses = b) = true → ∀ i, i < s.n → (t.blk aSUM (0x1000 + b)).samples.getD i 0 = wi (satTo 32 (rndc 8 (((s.spl.live.map (·.1)).filter fun k => k % s.buses = b).foldl (fun a k => a + if k / s.buses < s.taps then product ((s.blk 9 (k / s.buses)).samples.getD i 0) (smGet 0 s.spl.live k) else 0) 0))))
      ∧ (∀ b, b < s.buses → (s.spl.live.any fun c => c.1 % s.buses = b) = false → t.blk aSUM (0x1000 + b) = s.blk aSUM (0x1000 + b))
      ∧ t.flag SPL_STAT.PASS = false
      ∧ t.spl.live = s.spl.live
      ∧ t.spl.slate = s.spl.slate
      ∧ Kept [.stage, .spl, .cs] [4, 0xB] [] s t)

/-- A landed entry passes the turn to its engine; it is the last of its list, which then is no longer served, or the list goes on with its next entry, and a list of outputs that has ended completes its task. A landed entry of kind IN without an error puts the samples and the status word of each block into its lane; one of kind OUT, of a task that was not stopped, puts the samples of each lane into its block. An accepted signal runs the task, from its entry point and image where it starts: at once on an idle engine; over the running task, which is set aside with its bank kept and charged one cycle more, or is ended where this cycle puts it over a BUDGET that is enforced. A context load fills the inactive bank, where that holds no context that is not saved; a save puts the kept context into a slot. A charge above BUDGET is reported once in a shot; without ENFORCE the task runs on, with it the task is stopped. A drained store buffer is empty and its words are in memory. A tagged instruction leaves its record. (R132, R134, R135, R207, R212, R222, R223, R224, R227, R229, R698) -/
def Obligations.CallSheetEvents : Prop :=
  (∀ (le : Nat) (m : EntryMeet) (x : Staging) (s : State), Quiet s → le < 16 → s.served = some le → nextStaging le s = some x →
    ∃ t, exec (.stagingEntryLand le m) s = .next t
      ∧ t.cs.turn = le
      ∧ (t.cs.staging.find? (fun y => decide (y.task = x.task ∧ y.kind = x.kind)) = (if x.left ≤ 1 then none else some { x with next := x.next + 1, left := x.left - 1 }))
      ∧ (x.left ≤ 1 → x.kind = 1 → (t.task x.task).due = false ∧ (t.task x.task).used = (t.task x.task).charge)
      ∧ (∀ f, f < 18 → t.bank f = s.bank f))
  ∧ (∀ (le : Nat) (m : EntryMeet) (x : Staging) (e : Nat) (s : State), Quiet s → le < 16 → s.served = some le → nextStaging le s = some x → s.taskEng x.task = some e → e < 18 → m.errs = [] → (s.xfer ((s.task x.task).first x.kind + x.next)).kind = 1 → (s.xfer ((s.task x.task).first x.kind + x.next)).lane0 + (s.xfer ((s.task x.task).first x.kind + x.next)).count ≤ 8 → sliceOk (s.xfer ((s.task x.task).first x.kind + x.next)) s = true → (∀ j, j < (s.xfer ((s.task x.task).first x.kind + x.next)).count → (s.blk (inArea x.task ((s.xfer ((s.task x.task).first x.kind + x.next)).chan + j) s) ((s.xfer ((s.task x.task).first x.kind + x.next)).chan + j)).samples.length = s.n) →
    ∃ t, exec (.stagingEntryLand le m) s = .next t
      ∧ (∀ j, j < (s.xfer ((s.task x.task).first x.kind + x.next)).count → t.wordsAt (sliceAddr e ((s.xfer ((s.task x.task).first x.kind + x.next)).lane0 + j) (s.xfer ((s.task x.task).first x.kind + x.next)).slice (s.xfer ((s.task x.task).first x.kind + x.next)).sladdr) s.n = (s.blk (inArea x.task ((s.xfer ((s.task x.task).first x.kind + x.next)).chan + j) s) ((s.xfer ((s.task x.task).first x.kind + x.next)).chan + j)).samples ∧ t.word (sliceAddr e ((s.xfer ((s.task x.task).first x.kind + x.next)).lane0 + j) (s.xfer ((s.task x.task).first x.kind + x.next)).slice ((s.xfer ((s.task x.task).first x.kind + x.next)).sladdr + s.n)) = (s.blk (inArea x.task ((s.xfer ((s.task x.task).first x.kind + x.next)).chan + j) s) ((s.xfer ((s.task x.task).first x.kind + x.next)).chan + j)).bsw)
      ∧ t.stage = s.stage)
  ∧ (∀ (le : Nat) (m : EntryMeet) (x : Staging) (e : Nat) (s : State), Quiet s → le < 16 → s.served = some le → nextStaging le s = some x → s.taskEng x.task = some e → m.errs = [] → (s.xfer ((s.task x.task).first x.kind + x.next)).kind = 2 → (s.xfer ((s.task x.task).first x.kind + x.next)).chan + (s.xfer ((s.task x.task).first x.kind + x.next)).count ≤ 65536 → (s.task x.task).stopped = false →
    ∃ t, exec (.stagingEntryLand le m) s = .next t
      ∧ (∀ j, j < (s.xfer ((s.task x.task).first x.kind + x.next)).count → (t.blk (outArea x.task ((s.xfer ((s.task x.task).first x.kind + x.next)).chan + j) s) ((s.xfer ((s.task x.task).first x.kind + x.next)).chan + j)).samples = s.wordsAt (sliceAddr e ((s.xfer ((s.task x.task).first x.kind + x.next)).lane0 + j) (s.xfer ((s.task x.task).first x.kind + x.next)).slice (s.xfer ((s.task x.task).first x.kind + x.next)).sladdr) s.n)
      ∧ t.mem = s.mem)
  ∧ (∀ (e : Nat) (n : Nat) (pre : Bool) (wait : Nat) (hold : Nat) (s : State), Quiet s → e < 18 → s.engState e < 2 → (s.engine e).pending = some (n, pre) → runningOn e s = none →
    ∃ t, exec (.dispatchAccept e wait hold) s = .next t
      ∧ t.engState e = 1
      ∧ t.getF (ENG_STAT.TASK e) = n % 4096
      ∧ (t.task n).st = 4
      ∧ (t.task n).started = true
      ∧ (((s.task n).started = false → t.bank e = freshBank n e s))
      ∧ (((s.task n).started = true → t.bank e = (savedBank n e s).getD (freshBank n e s)))
      ∧ (∀ f, f ≠ e → t.engine f = s.engine f)
      ∧ Kept [.eng, .cs] [0xB] [(ENG_STAT.STATE e).addr] s t)
  ∧ (∀ (e : Nat) (n : Nat) (pre : Bool) (wait : Nat) (hold : Nat) (v : Nat) (s : State), Quiet s → e < 18 → s.engState e < 2 → (s.engine e).pending = some (n, pre) → runningOn e s = some v → n ≠ v → (overNow v (chargeTask v 1 s) && (s.task v).enforce) = false →
    ∃ t, exec (.dispatchAccept e wait hold) s = .next t
      ∧ (∃ u, t = settle u ∧ u.engState e = 1 ∧ u.getF (ENG_STAT.TASK e) = n % 4096 ∧ (u.task n).st = 4 ∧ (u.task n).started = true ∧ ((s.task n).started = false → u.bank e = freshBank n e s) ∧ (u.task v).st = 5 ∧ (u.task v).charge = (s.task v).charge + 1 ∧ (u.engine e).inact = .kept v ∧ (u.engine e).keptCtx = s.bank e ∧ ∀ f, f ≠ e → u.engine f = s.engine f))
  ∧ (∀ (e : Nat) (n : Nat) (pre : Bool) (wait : Nat) (hold : Nat) (v : Nat) (s : State), Quiet s → e < 18 → s.engState e < 2 → (s.engine e).pending = some (n, pre) → runningOn e s = some v → n ≠ v → (overNow v (chargeTask v 1 s) && (s.task v).enforce) = true →
    ∃ t, exec (.dispatchAccept e wait hold) s = .next t
      ∧ (∃ u, t = settle u ∧ u.engState e = 1 ∧ u.getF (ENG_STAT.TASK e) = n % 4096 ∧ (u.task n).st = 4 ∧ ((s.task n).started = false → u.bank e = freshBank n e s) ∧ (u.task v).st = 2 ∧ (u.task v).stopped = true ∧ (u.task v).overBudget = true ∧ ∀ f, f ≠ e → u.engine f = s.engine f)
      ∧ bitOf (t.getF (FLT_STICKY.BITS 0)) 19 = true)
  ∧ (∀ (e : Nat) (n : Nat) (s : State), Quiet s → e < 18 → candidate e s = some n →
    ∃ t, exec (.contextLoadDone e) s = .next t
      ∧ ((t.engine e).inact = (match (s.engine e).inact with | .kept m => if m ≠ n ∧ (s.engine e).slots.any (fun c => c.1 = m) = true then .fresh n else .kept m | _ => .fresh n))
      ∧ t.engine e = { s.engine e with inact := (t.engine e).inact }
      ∧ (∀ f, f ≠ e → t.engine f = s.engine f)
      ∧ Kept [.eng] [] [] s t)
  ∧ (∀ (e : Nat) (s : State), Quiet s → e < 18 → candidate e s = none →
    ∃ t, exec (.contextLoadDone e) s = .next t
      ∧ t = s)
  ∧ (∀ (e : Nat) (n : Nat) (s : State), Quiet s → e < 18 → (s.engine e).inact = .kept n →
    ∃ t, exec (.contextSaveDone e) s = .next t
      ∧ (t.engine e = { s.engine e with slots := (n, (s.engine e).keptCtx) :: (s.engine e).slots.filter fun c => c.1 ≠ n })
      ∧ (∀ f, f ≠ e → t.engine f = s.engine f)
      ∧ Kept [.eng] [] [] s t)
  ∧ (∀ (e : Nat) (s : State), Quiet s → e < 18 → (match (s.engine e).inact with | .kept _ => false | _ => true) = true →
    ∃ t, exec (.contextSaveDone e) s = .next t
      ∧ (∀ f, t.engine f = s.engine f)
      ∧ Kept [.eng] [] [] s t)
  ∧ (∀ (e : Nat) (n : Nat) (s : State), Quiet s → e < 18 → runningOn e s = some n → overNow n s = true → (s.task n).enforce = false →
    ∃ t, exec (.budget e) s = .next t
      ∧ t.task n = { s.task n with overBudget := true }
      ∧ Raised 0x13 s t
      ∧ Kept (acceptParts ++ [.cs]) acceptPages [] s t)
  ∧ (∀ (e : Nat) (n : Nat) (s : State), Quiet s → e < 18 → runningOn e s = some n → overNow n s = true → (s.task n).enforce = true →
    ∃ t, exec (.budget e) s = .next t
      ∧ (t.task n).overBudget = true
      ∧ (t.task n).stopped = true
      ∧ (t.task n).st = 2
      ∧ (((s.task n).count 1 = 0 → (t.task n).due = false ∧ (t.task n).used = (s.task n).charge))
      ∧ ((0 < (s.task n).count 1 → ⟨n, 1, 0, (s.task n).count 1⟩ ∈ t.cs.staging))
      ∧ Raised 0x13 s t)
  ∧ (∀ (e : Nat) (s : State), Quiet s → e < 18 → (match runningOn e s with | some n => !overNow n s | none => true) = true →
    ∃ t, exec (.budget e) s = .next t
      ∧ t = s)
  ∧ (∀ (e : Nat) (isY : Bool) (s : State), Quiet s → e < 18 →
    ∃ t, exec (.storeBufferDrain e isY) s = .next t
      ∧ ((if isY then (t.engine e).bufY else (t.engine e).bufX) = none)
      ∧ ((if isY then (t.engine e).bufX else (t.engine e).bufY) = (if isY then (s.engine e).bufX else (s.engine e).bufY))
      ∧ (t.mem = (match (if isY then (s.engine e).bufY else (s.engine e).bufX) with | some b => (b.cells.foldl (fun u c => u.setWord c.1 c.2) s).mem | none => s.mem))
      ∧ (∀ f, f ≠ e → t.engine f = s.engine f)
      ∧ Kept [.mem, .eng] [] [] s t)
  ∧ (∀ (e : Nat) (task : Nat) (pc : Nat) (total : Nat) (stall : Nat) (cause : Nat) (disc : Bool) (exc : Bool) (s : State), Quiet s → e < 18 → s.pcn.tagged.find? (fun c => c.1 = e) = some (e, ⟨task, pc, stall, cause, disc, exc⟩) → (disc = true ∨ 6 + stall ≤ total) →
    ∃ t, exec (.tagInstruction e task pc total stall cause disc exc) s = .next t
      ∧ t.flag (PCN_TREC0.VALID e) = true
      ∧ t.flag (PCN_TREC0.DISC e) = disc
      ∧ t.flag (PCN_TREC0.EXC e) = exc
      ∧ t.getF (PCN_TREC0.TASK e) = task % 4096
      ∧ t.getF (PCN_TREC0.PC e) = pc % 2 ^ 14
      ∧ (smGet 0 t.pcn.trec1 e = wd ((if disc then 0 else min total 0xFFFF) * 65536 + min stall 0xFF * 256 + cause % 5))
      ∧ (t.pcn.tagged = s.pcn.tagged.filter (fun c => c.1 ≠ e))
      ∧ Kept [.pcn] [0xB] [] s t)

/-- A command descriptor that breaks R620 is consumed and counted without a reply; one with a packet has it executed, as a datagram of MGMT and a write-packet transaction of SPI do: here a PING is answered. A datagram with a wrong checksum is counted in CMD_DROP.UDP. SPI answers its status and then the words of the oldest message, which leaves the queue when it is read whole, or the words of memory; SPI writes store exactly their words. (R613, R618, R619, R620, R624, R626, R627) -/
def Obligations.TransportEvents : Prop :=
  (∀ (d : List Word) (l : List Byte) (s : State), descReady s = true → cmdDescBad d = true → Quiet s →
    ∃ t, exec (.commandDescriptor d (some l)) s = .next t
      ∧ t.getF (CMD_RING_DEVPTR.PTR 0) = (s.getF (CMD_RING_DEVPTR.PTR 0) + 1) % (s.ring 0).len % 2 ^ (CMD_RING_DEVPTR.PTR 0).width
      ∧ t.getF CMD_ERR.DESC = min (2 ^ (CMD_ERR.DESC).width - 1) (s.getF CMD_ERR.DESC + 1)
      ∧ bitOf (t.getF CMD_ISTAT.SRC) 2 = true
      ∧ t.cmd = s.cmd
      ∧ Kept [.outs] [0xD] [] s t)
  ∧ (∀ (d : List Word) (l : List Byte) (h : CmdHdr) (s : State), descReady s = true → cmdDescBad d = false → h.tr = 0 → parsePacket 0 0 (l.take (nAt d 2)) = ⟨0, h, true, true, [], 0, [], 0⟩ → Ready 0 h [] s → h.chk = false →
    ∃ t, exec (.commandDescriptor d (some l)) s = .next t
      ∧ Accepted 0 h [] t
      ∧ t.getF (CMD_RING_DEVPTR.PTR 0) = (s.getF (CMD_RING_DEVPTR.PTR 0) + 1) % (s.ring 0).len % 2 ^ (CMD_RING_DEVPTR.PTR 0).width
      ∧ Kept [.cmd, .outs] [0xD] [] s t)
  ∧ (∀ (src : Nat) (l : List Byte) (h : CmdHdr) (s : State), h.tr = 1 → parsePacket 1 src l = ⟨0, h, true, true, [], src, [], 0⟩ → Ready 0 h [] s → h.chk = false → s.cmd.mgmtSrc = some src →
    ∃ t, exec (.mgmtDatagram src true l) s = .next t
      ∧ Accepted 0 h [] t
      ∧ t.cmd.mgmtDest = src
      ∧ t.cmd.mgmtSrc = some src
      ∧ Kept [.cmd, .outs] [0xD] [] s t)
  ∧ (∀ (src : Nat) (l : List Byte) (s : State), trOpen 1 s = true → Quiet s →
    ∃ t, exec (.mgmtDatagram src false l) s = .next t
      ∧ t.getF CMD_DROP.UDP = min (2 ^ (CMD_DROP.UDP).width - 1) (s.getF CMD_DROP.UDP + 1)
      ∧ t.cmd = s.cmd
      ∧ Kept [] [] [CMD_DROP.UDP.addr] s t)
  ∧ (∀ (l : List Byte) (h : CmdHdr) (s : State), h.tr = 2 → parsePacket 2 0 l = ⟨0, h, true, true, [], 0, [], 0⟩ → Ready 0 h [] s → h.chk = false → spiOn s = true →
    ∃ t, exec (.writePacket l) s = .next t
      ∧ Accepted 0 h [] t
      ∧ (.spi [wd (spiStatus s)]) ∈ t.outs
      ∧ Kept [.cmd, .outs] [0xD] [] s t)
  ∧ (∀ (n : Nat) (m : List Word) (rest : List (List Word)) (s : State), spiOn s = true → s.cmd.waiting = [] → s.cmd.spiQueue = m :: rest → Quiet s →
    ∃ t, exec (.readMessage n) s = .next t
      ∧ (t.outs = .spi (wd (spiStatus s) :: (List.range n).map fun i => wAt m i) :: s.outs)
      ∧ (t.cmd.spiQueue = (if m.length ≤ n then rest else m :: rest))
      ∧ t.cmd.sess = s.cmd.sess
      ∧ Kept [.cmd, .outs] [] [] s t)
  ∧ (∀ (a : Nat) (n : Nat) (s : State), spiOn s = true → s.hostOpen = true → a % 4 = 0 → (0x6000000 ≤ a ∧ a + 4 * n ≤ 0x6400000 ∨ 0x7000000 ≤ a ∧ a + 4 * n ≤ 0x7040000) → Quiet s →
    ∃ t, exec (.readMemory a n []) s = .next t
      ∧ t.outs = .spi (wd (spiStatus s) :: s.wordsAt a n) :: s.outs
      ∧ t.mem = s.mem
      ∧ Kept [.outs] [] [] s t)
  ∧ (∀ (a : Nat) (ws : List Word) (s : State), spiOn s = true → s.hostOpen = true → s.cmd.waiting = [] → a % 4 = 0 → (0x6000000 ≤ a ∧ a + 4 * ws.length ≤ 0x6400000 ∨ 0x7000000 ≤ a ∧ a + 4 * ws.length ≤ 0x7040000) → Quiet s →
    ∃ t, exec (.writeMemory a ws) s = .next t
      ∧ t.wordsAt a ws.length = ws
      ∧ (∀ x, ¬(a ≤ x ∧ x < a + 4 * ws.length) → t.byte x = s.byte x)
      ∧ t.outs = .spi [wd (spiStatus s)] :: s.outs
      ∧ Kept [.mem, .outs] [] [] s t)

/-- At OP_DONE the long operation that ran is over, its outcome is notified to the subscribed transports, and the packets that waited are then executed. The end of LOG_ERASE_PERM is OK: ERASING ends, the permanent area is open, and the record of the erasure is its first, before the head; no other byte of memory changes. The end of FW_UPDATE is OK where the written bank is valid and newer than the running firmware, and BADARG otherwise; nothing else changes but the log. The end of SCENE_LOAD is BADARG where the slot is not valid, and else the status of its stored packets, executed in order: with a refused one the index of that packet, and the slate empty of crosspoints and patches. Without a long operation or a waiting packet nothing happens. (R297, R633, R644, R649, R651, R688) -/
def Obligations.LongOperationEnds : Prop :=
  (∀ (x : LongOp) (s : State), s.cmd.longOp = some x → x.op = 0x702 →
    ∃ t, exec (.opDone) s = .next t
      ∧ (∃ v, t = settle (serve (notify 0x800A [x.op, x.hseq, 0xFFFF] v)) ∧ v.cmd.longOp = none ∧ v.flag CMD_STAT.LONGOP = false ∧ v.flag LOG_STAT.ERASING = false ∧ v.flag LOG_STAT.PERMFULL = false ∧ v.getF LOG_PHEAD.OFF = 16 ∧ (∀ a, a < mramBase ∨ mramBase + 24 ≤ a → v.byte a = s.byte a) ∧ v.cmd.waiting = s.cmd.waiting ∧ v.mode = s.mode))
  ∧ (∀ (x : LongOp) (s : State), s.cmd.longOp = some x → x.op = 0x702 → (s.fab.held.all (fun c => decide (c.1 < mramBase ∨ mramBase + 16 ≤ c.1)) = true ∨ (s.flag MRAM_STAT.BUSY = true ∧ s.fab.replacing.head? = some 0)) →
    ∃ t, exec (.opDone) s = .next t
      ∧ (∃ v, t = settle (serve (notify 0x800A [x.op, x.hseq, 0xFFFF] v)) ∧ v.cmd.longOp = none ∧ v.flag CMD_STAT.LONGOP = false ∧ (∀ i, i < 4 → mramNow (mramBase + 4 * i) v = (recWords 0xE6 0 [] s).getD i 0)))
  ∧ (∀ (x : LongOp) (s : State), s.cmd.longOp = some x → x.op = 0xF00 →
    ∃ t, exec (.opDone) s = .next t
      ∧ (∃ v, t = settle (serve (notify 0x800A [x.op, x.hseq, (if bankValid (decide (x.arg = 1)) s = true ∧ s.boot.fwSeq < bankSeq (decide (x.arg = 1)) s then 0 else 3) * 65536 + 0xFFFF] v)) ∧ v.cmd.longOp = none ∧ v.flag CMD_STAT.LONGOP = false ∧ Kept [.cmd, .flt] [] [CMD_STAT.LONGOP.addr] s v ∧ v.cmd.waiting = s.cmd.waiting))
  ∧ (∀ (x : LongOp) (s : State), s.cmd.longOp = some x → x.op = 0x10B → sceneStream x.arg s = none →
    ∃ t, exec (.opDone) s = .next t
      ∧ (∃ v, t = settle (serve (notify 0x800A [x.op, x.hseq, 3 * 65536 + 0xFFFF] v)) ∧ v.cmd.longOp = none ∧ v.flag CMD_STAT.LONGOP = false ∧ Kept [.cmd] [] [CMD_STAT.LONGOP.addr] s v ∧ v.cmd.waiting = s.cmd.waiting))
  ∧ (∀ (x : LongOp) (ws : List Word) (ps : List (List Word)) (r : State × Nat × Nat) (s : State), s.cmd.longOp = some x → x.op = 0x10B → sceneStream x.arg s = some ws → storedPackets (ws.length + 1) 0 ws = .inr ps → r = runScene x.tr ps 0 s →
    ∃ t, exec (.opDone) s = .next t
      ∧ (∃ v, t = settle (serve (notify 0x800A [x.op, x.hseq, r.2.1 * 65536 + r.2.2] v)) ∧ v.cmd.longOp = none ∧ v.flag CMD_STAT.LONGOP = false ∧ v.spl = r.1.spl ∧ v.cs = r.1.cs ∧ v.take = r.1.take ∧ (r.2.1 = 0 → r.2.2 = 0xFFFF) ∧ (r.2.1 ≠ 0 → r.2.2 < ps.length ∧ v.spl.slate = [] ∧ v.take.patchSlate = [] ∧ v.take.recasts = [] ∧ v.flag SPL_STAT.SLATE_DIRTY = false)))
  ∧ (∀  (s : State), s.cmd.longOp = none → s.cmd.waiting = [] → Quiet s →
    ∃ t, exec (.opDone) s = .next t
      ∧ t = s)

/-- At its lock boundary a pending take locks and holds commands, its slice images copied; one of a ring still unconfirmed is given up. A locked take commits at its shot: the count of takes rises, no take is pending, the TAKE interrupt is set, its shot and kind are noted, every engine with a dirty slate that is no bus engine (in a cut, every engine) exchanges its pages and begins its slate copy, and a dissolve notes its end. The copy makes both pages equal and counts its corrections. The matrix sets each committed crosspoint, and bus engines that are dirty exchange pages at t0 + 2. Once the copies of the take are done and no other one is locked, the hold of commands ends, and the waiting packets are executed. (R108, R263, R313, R314, R316, R317, R319, R652) -/
def Obligations.TakeStages : Prop :=
  (∀ (k : Take) (s : State), Quiet s → s.take.pending = some k → k.sT = some (s.shot + 1) → k.locked = false → s.take.unconfirmed = false →
    ∃ t, exec (.lockBoundary) s = .next t
      ∧ t.take.pending = some { k with locked := true, bus := busEngines (copySlices (takeKind k.forcecut s) s) }
      ∧ t.take.hold = true
      ∧ t.take.slices = []
      ∧ t.take = { (copySlices (takeKind k.forcecut s) s).take with pending := some { k with locked := true, bus := busEngines (copySlices (takeKind k.forcecut s) s) }, hold := true }
      ∧ t.mem = (copySlices (takeKind k.forcecut s) s).mem
      ∧ ((s.take.slices = [] → t.mem = s.mem))
      ∧ Kept [.take, .mem] [] [] s t)
  ∧ (∀ (k : Take) (s : State), Quiet s → s.take.pending = some k → k.sT = some (s.shot + 1) → k.locked = false → s.take.unconfirmed = true → s.take.voting = none →
    ∃ t, exec (.lockBoundary) s = .next t
      ∧ t.take.pending = none
      ∧ t.take.unconfirmed = false
      ∧ t.cs = s.cs
      ∧ t.spl = s.spl
      ∧ Raised 0x60 s t)
  ∧ (∀ (k : Take) (s : State), Quiet s → s.take.pending = some k → k.sT = some s.shot → k.locked = true → s.take.commit = none →
    ∃ t, exec (.takeCommit) s = .next t
      ∧ t.getF SYS_TAKE_CNT.COUNT = (s.getF SYS_TAKE_CNT.COUNT + 1) % 2 ^ 32
      ∧ t.take.pending = none
      ∧ t.take.lastST = s.shot
      ∧ t.take.lastCut = decide (takeKind k.forcecut s = 2)
      ∧ t.take.dissolve.isSome = (decide (takeKind k.forcecut s = 1) || s.take.dissolve.isSome)
      ∧ ((takeKind k.forcecut s = 1 → t.getF SYS_DISS_END.SHOT = (s.shot + k.dlen + 2) % 2 ^ SYS_DISS_END.SHOT.width))
      ∧ t.take.patchSlate = []
      ∧ bitOf (t.getF CMD_ISTAT.SRC) 7 = true
      ∧ (∀ e, e < 18 → s.flag (ENG_STAT.SLATE_DIRTY e) = true → (commitNow k s).contains e = true → (t.engine e).copying = true ∧ t.livePage e = !(s.livePage e) ∧ t.flag (ENG_STAT.SLATE_DIRTY e) = false ∧ t.flag (ENG_STAT.SLATE_READY e) = false)
      ∧ t.fuse = s.fuse
      ∧ t.shot = s.shot
      ∧ Quiet t)
  ∧ (∀ (e : Nat) (corr : List SramRow) (p : Bool) (a : Nat) (s : State), Quiet s → e < 18 → (s.engine e).copying = true → p = s.livePage e → pageBase e p ≤ a → a < pageBase e p + 0x10000 →
    ∃ t, exec (.engineSlateCopyDone ⟨e, corr⟩) s = .next t
      ∧ t.getF (ENG_ECC.CORR e) = min 65535 (s.getF (ENG_ECC.CORR e) + corr.length)
      ∧ t.byte (pageBase e (!p) + (a - pageBase e p)) = s.byte a
      ∧ (∀ b, b < pageBase e (!p) ∨ pageBase e (!p) + 0x10000 ≤ b → b < 0x8000000 ∨ 0x9000000 ≤ b ∨ corr = [] → t.byte b = s.byte b)
      ∧ t.flag (ENG_STAT.SLATE_READY e) = true
      ∧ (t.engine e).copying = false
      ∧ (∀ f, f ≠ e → corr = [] → t.engine f = s.engine f)
      ∧ Kept (acceptParts ++ [.mem, .fab]) (acceptPages ++ [8]) [] s t)
  ∧ (∀  (s : State), Quiet s → s.spl.commitDue = true → s.take.commit = none → (s.spl.commit.map (·.1)).Nodup →
    ∃ t, exec (.matrixTakeApply) s = .next t
      ∧ (∀ c ∈ s.spl.commit, smGet 0 t.spl.live c.1 = c.2.gain)
      ∧ (∀ k, (∀ c ∈ s.spl.commit, c.1 ≠ k) → smGet 0 t.spl.live k = smGet 0 s.spl.live k)
      ∧ t.spl.commit = []
      ∧ t.spl.commitDue = false
      ∧ t.spl.slate = s.spl.slate
      ∧ Kept [.spl] [4] [] s t)
  ∧ (∀ (c : Commit) (s : State), Quiet s → s.take.commit = some c → c.t0 + 2 ≤ s.shot → c.busDone = false →
    ∃ t, exec (.busEngineCommit) s = .next t
      ∧ (∃ u, t = settle (armBoundary u) ∧ u.take.commit = some { c with busDone := true } ∧ (∀ e, e ∈ busPhys c.busEngines s → s.flag (ENG_STAT.SLATE_DIRTY e) = true → u.livePage e = !(s.livePage e) ∧ u.flag (ENG_STAT.SLATE_DIRTY e) = false ∧ (u.engine e).copying = true) ∧ (∀ e, e < 18 → e ∉ busPhys c.busEngines s → (u.engine e).copying = (s.engine e).copying ∧ u.livePage e = s.livePage e) ∧ (u.cs.tasks.all fun x => !x.2.fresh) = true ∧ u.mem = s.mem ∧ u.spl = s.spl))
  ∧ (∀  (s : State), s.take.hold = true → (match s.take.pending with | some k => k.locked | none => false) = false → copiesDone s = true →
    ∃ t, exec (.heldCommandsRelease) s = .next t
      ∧ (∃ u, t = settle (serve u) ∧ u.take.hold = false ∧ u.take.pending = s.take.pending ∧ u.cmd.waiting = s.cmd.waiting ∧ u.spl = s.spl ∧ u.cs = s.cs ∧ (s.take.autoHeld = [] → u = s.onTake fun u => { u with hold := false })))
  ∧ (∀  (s : State), Quiet s → (s.take.hold = false ∨ copiesDone s = false) → s.cmd.waiting = [] →
    ∃ t, exec (.heldCommandsRelease) s = .next t
      ∧ t = s)

/-- At its end a dissolve without recasts frees the tasks of the outgoing graph and is over; one with one recast hands the logical engine to its target, the source becomes SPARE; the tasks of the boundary are then armed. When the load of a recast target completes, the target is LOADED and holds the source program, the live page of the source in both pages, and lane slices that are zero where the slate holds no slice image of that engine. A cut recast copies the lane slices, then its target serves, and the tasks of the boundary are armed. In RUN a spare that passes BIST keeps its state and shows it; one that fails is retired, noted in the repair list and reported. (R155, R156, R157, R204, R325, R328, R765) -/
def Obligations.DissolvesRecastsAndSpares : Prop :=
  (∀ (d : Dissolve) (s : State), Quiet s → s.take.dissolve = some d → d.t0 + d.dlen + 2 ≤ s.shot → s.take.dissRecasts = [] →
    ∃ t, exec (.dissolveEnd) s = .next t
      ∧ (∃ u, t = settle (armBoundary u) ∧ u.take = { s.take with dissolve := none } ∧ u.cs.tasks.all (fun c => !c.2.outgoing) = true ∧ (∀ x ∈ s.cs.tasks, x.2.outgoing = false → (u.cs.tasks.any fun y => y.1 = x.1) = true ∨ (s.cs.tasks.any fun y => y.1 = x.1 && y.2.outgoing) = true) ∧ u.mem = s.mem ∧ u.spl = s.spl ∧ u.mode = s.mode)
      ∧ t.take.dissolve = none)
  ∧ (∀ (d : Dissolve) (r : Recast) (s : State), Quiet s → s.take.dissolve = some d → d.t0 + d.dlen + 2 ≤ s.shot → s.take.dissRecasts = [r] → r.source < 18 → r.target < 18 → r.source ≠ r.target → r.logical < 16 → (s.engine r.source).retire = false →
    ∃ t, exec (.dissolveEnd) s = .next t
      ∧ (∃ u, t = settle (armBoundary u) ∧ u.take = { s.take with dissolve := none, dissRecasts := [] } ∧ u.getF (ENG_ROLE.LOGICAL r.target) = r.logical ∧ u.getF (ENG_ROLE.LOGICAL r.source) = 0x1F ∧ u.engState r.source = 3 ∧ u.mem = s.mem))
  ∧ (∀ (e : Nat) (corr : List SramRow) (r : Recast) (i : Nat) (s : State), Quiet s → e < 18 → s.engState e = 4 → s.take.recasts.find? (fun x => x.target = e) = some r → r.source < 18 → r.source ≠ e → i < 0x10000 →
    ∃ t, exec (.recastLoadDone ⟨e, corr⟩) s = .next t
      ∧ t.getF (ENG_ECC.CORR r.source) = min 65535 (s.getF (ENG_ECC.CORR r.source) + corr.length)
      ∧ t.engState e = 6
      ∧ t.flag (ENG_STAT.SLATE_READY e) = true
      ∧ t.flag (ENG_STAT.SLATE_DIRTY e) = false
      ∧ t.byte (engWin e + i) = s.byte (engWin r.source + i)
      ∧ t.byte (engWin e + 0x10000 + i) = s.byte (engWin r.source + 0x10000 + i)
      ∧ ((corr = [] → t.mem = (loadTarget r.logical r.source e s).mem))
      ∧ (((s.take.slices.filter fun x => x.logeng = r.logical) = [] → t.byte (engWin e + 0x80000 + i) = s.byte (pageBase r.source (s.livePage r.source) + i) ∧ t.byte (engWin e + 0x90000 + i) = s.byte (pageBase r.source (s.livePage r.source) + i) ∧ t.byte (engWin e + 0x40000 + i) = 0 ∧ t.byte (engWin e + 0xA0000 + i) = 0))
      ∧ (∀ b, (s.take.slices.filter fun x => x.logeng = r.logical) = [] → b < engWin e ∨ engWin e + 0x100000 ≤ b → b < 0x8000000 ∨ 0x9000000 ≤ b ∨ corr = [] → t.byte b = s.byte b)
      ∧ Kept (acceptParts ++ [.mem, .fab]) (acceptPages ++ [8]) [] s t)
  ∧ (∀ (le : Nat) (corr : List SramRow) (c : CutRecast) (i : Nat) (s : State), Quiet s → (s.take.cutRecasts.find? (fun x => x.r.logical = le ∧ !x.copied) = some c) → c.r.source < 18 → c.r.target < 18 → c.r.source ≠ c.r.target → i < 0x20000 →
    ∃ t, exec (.cutRecastCopyDone ⟨le, corr⟩) s = .next t
      ∧ t.getF (ENG_ECC.CORR c.r.source) = min 65535 (s.getF (ENG_ECC.CORR c.r.source) + corr.length)
      ∧ t.byte (engWin c.r.target + 0x40000 + i) = s.byte (engWin c.r.source + 0x40000 + i)
      ∧ t.byte (engWin c.r.target + 0xA0000 + i) = s.byte (engWin c.r.source + 0xA0000 + i)
      ∧ (∀ b, b < engWin c.r.target + 0x40000 ∨ engWin c.r.target + 0xC0000 ≤ b → b < 0x8000000 ∨ 0x9000000 ≤ b ∨ corr = [] → t.byte b = s.byte b)
      ∧ (t.take.cutRecasts = s.take.cutRecasts.map fun x => if x.r.logical = le then { x with copied := true } else x)
      ∧ Kept (acceptParts ++ [.mem, .take, .fab]) (acceptPages ++ [8]) [] s t)
  ∧ (∀ (le : Nat) (c : CutRecast) (s : State), Quiet s → (s.take.cutRecasts.find? (fun x => x.r.logical = le ∧ x.copied ∧ x.t0 + 1 ≤ s.shot) = some c) → le < 16 → c.r.source < 18 → c.r.target < 18 → c.r.source ≠ c.r.target → c.r.logical = le → (s.engine c.r.source).retire = false →
    ∃ t, exec (.cutRecastSwap le) s = .next t
      ∧ (∃ u, t = settle (armBoundary u) ∧ u.getF (ENG_ROLE.LOGICAL c.r.target) = le ∧ u.getF (ENG_ROLE.LOGICAL c.r.source) = 0x1F ∧ u.engState c.r.source = 3 ∧ u.engState c.r.target = 0 ∧ u.take = { s.take with cutRecasts := s.take.cutRecasts.filter fun x => x.r.logical ≠ le } ∧ u.mem = s.mem))
  ∧ (∀ (e : Nat) (s : State), Quiet s → e < 18 → s.engState e = 3 → s.mode = 4 →
    ∃ t, exec (.spareBist e 0) s = .next t
      ∧ t.flag (ENG_BIST.DONE e) = true
      ∧ t.flag (ENG_BIST.PASS e) = true
      ∧ t.getF (ENG_BIST.FAILMEM e) = 0
      ∧ t.engState e = 3
      ∧ Kept [] [] [(ENG_BIST.DONE e).addr] s t)
  ∧ (∀ (e : Nat) (m : Nat) (s : State), Quiet s → e < 18 → s.engState e = 3 → s.mode = 4 → m % 5 ≠ 0 → s.fab.repair.length < 4092 →
    ∃ t, exec (.spareBist e m) s = .next t
      ∧ t.flag (ENG_BIST.DONE e) = true
      ∧ t.flag (ENG_BIST.PASS e) = false
      ∧ t.getF (ENG_BIST.FAILMEM e) = m % 5
      ∧ t.engState e = 5
      ∧ (t.engine e).healthy = false
      ∧ t.fab.repair = s.fab.repair ++ [repEntry 3 2 e 0 0 s]
      ∧ Raised 0x14 s t)

/-- A well-framed frame of an enabled group counts and shows the group present, adds a frame to each started port of the group and leaves the other ports; a badly framed one restarts the count and is counted by each started port. A port block moves N frames on, shows its timestamp and advances the block sequence; with the capture ring on, room in it and the link up its record goes to the host. A lost slave group turns its running inputs to LOST, 16 good frames turn them back. A rate update shows the rate and its class and flags a change. (R346, R347, R348, R362, R363, R367, R375, R376, R380) -/
def Obligations.SerialFramesAndBlocks : Prop :=
  (∀ (g : Nat) (bclks : Nat) (data : List PortSlots) (p : Nat) (s : State), Quiet s → g < 16 → p < 64 → s.cgOf p = g → s.flag (CG_CFG.ENABLE g) = true → ((s.flag (CG_CFG.DIR g) = true ∨ bclks = s.getF (CG_CFG.SLOTS g) * widthOf (s.getF (CG_CFG.SLOTW g)))) → (s.group g).lost = false → (s.istate p ≠ 0 ∨ s.ostate p ≠ 0) →
    ∃ t, exec (.serialFrame g bclks data []) s = .next t
      ∧ t.flag (CG_STAT.PRESENT g) = true
      ∧ (t.group g).bad = 0
      ∧ (t.group g).good = min 16 ((s.group g).good + 1)
      ∧ (t.port p).blkN = (s.port p).blkN + 1
      ∧ ((s.istate p ≠ 0 → (t.port p).blk.length = (s.port p).blk.length + 1))
      ∧ t.getF (SP_ERR.FRAMEERR p) = s.getF (SP_ERR.FRAMEERR p)
      ∧ (∀ q, s.cgOf q ≠ g → t.port q = s.port q)
      ∧ t.pin = s.pin
      ∧ t.mem = s.mem)
  ∧ (∀ (g : Nat) (bclks : Nat) (data : List PortSlots) (p : Nat) (s : State), Quiet s → g < 16 → p < 64 → s.cgOf p = g → s.flag (CG_CFG.ENABLE g) = true → s.flag (CG_CFG.DIR g) = false → bclks ≠ s.getF (CG_CFG.SLOTS g) * widthOf (s.getF (CG_CFG.SLOTW g)) → (s.istate p ≠ 0 ∨ s.ostate p ≠ 0) →
    ∃ t, exec (.serialFrame g bclks data []) s = .next t
      ∧ (t.group g).bad = min 2 ((s.group g).bad + 1)
      ∧ (t.group g).good = 0
      ∧ t.getF (SP_ERR.FRAMEERR p) = min (2 ^ (SP_ERR.FRAMEERR p).width - 1) (s.getF (SP_ERR.FRAMEERR p) + 1)
      ∧ (t.port p).blkN = (s.port p).blkN + 1
      ∧ (∀ q, s.cgOf q ≠ g → t.port q = s.port q))
  ∧ (∀ (p : Nat) (recs : List PlyRec) (s : State), Quiet s → p < 64 → (s.istate p ≠ 0 ∨ s.ostate p ≠ 0) → s.n ≤ (s.port p).blkN → (s.port p).capOn = false → s.flag (SP_CFG.INSRC p) = false →
    ∃ t, exec (.portBlock p recs) s = .next t
      ∧ t.getF (SP_BSEQ.COUNT p) = (s.getF (SP_BSEQ.COUNT p) + 1) % 2 ^ (SP_BSEQ.COUNT p).width
      ∧ t.getF (SP_TS0.NS p) = (s.port p).tsNs % 2 ^ (SP_TS0.NS p).width
      ∧ t.port p = { s.port p with lastSec := (s.port p).tsSec, blk := (s.port p).blk.drop s.n, blkN := (s.port p).blkN - s.n }
      ∧ (∀ q, q ≠ p → t.port q = s.port q)
      ∧ Kept [.sp] [] [(SP_BSEQ.COUNT p).addr, (SP_TS0.NS p).addr] s t)
  ∧ (∀ (p : Nat) (recs : List PlyRec) (w : Nat) (w' : Nat) (s : State), Quiet s → p < 64 → s.istate p ≠ 0 → s.n ≤ (s.port p).blkN → (s.port p).capOn = true → s.flag (SP_CFG.INSRC p) = false → s.flag CMD_STAT.LINKUP = true → w = s.getF (SP_CAP_WPTR.PTR p) → w' = (if w + 1 < (s.port p).capLen then w + 1 else 0) → w' < 4096 → w' ≠ s.getF (SP_CAP_RPTR.PTR p) →
    ∃ t, exec (.portBlock p recs) s = .next t
      ∧ Output.hostBytes (s.getF (SP_CAP_BASE_LO.ADDR p) * 64 + s.getF (SP_CAP_BASE_HI.ADDR p) * 2 ^ 32 + w * (capRecord p ((s.port p).blk.take s.n) s).length) (capRecord p ((s.port p).blk.take s.n) s) ∈ t.outs
      ∧ t.getF (SP_CAP_WPTR.PTR p) = w'
      ∧ t.getF (SP_BSEQ.COUNT p) = (s.getF (SP_BSEQ.COUNT p) + 1) % 2 ^ (SP_BSEQ.COUNT p).width
      ∧ (∀ q, q ≠ p → t.port q = s.port q))
  ∧ (∀ (g : Nat) (silent : Bool) (s : State), Quiet s → g < 16 → s.flag (CG_CFG.ENABLE g) = true → s.flag (CG_CFG.DIR g) = false → (silent = true ∨ 2 ≤ (s.group g).bad) →
    ∃ t, exec (.spLost g silent) s = .next t
      ∧ t.flag (CG_STAT.PRESENT g) = false
      ∧ (t.group g).lost = true
      ∧ ((t.group g).good = (if (s.group g).lost then (s.group g).good else 0))
      ∧ (∀ p, p < 64 → s.cgOf p = g → (s.istate p = 1 ∨ s.istate p = 2) → t.istate p = 3 ∧ (t.port p).lockIn = false ∧ bitOf (t.getF (FLT_STICKY.BITS 1)) 18 = true)
      ∧ (∀ q, s.cgOf q ≠ g → t.port q = s.port q ∧ t.istate q = s.istate q)
      ∧ t.pin = s.pin)
  ∧ (∀ (g : Nat) (s : State), Quiet s → g < 16 → (s.group g).lost = true → 16 ≤ (s.group g).good →
    ∃ t, exec (.spReturn g) s = .next t
      ∧ t.flag (CG_STAT.PRESENT g) = true
      ∧ t.group g = { s.group g with lost := false }
      ∧ (∀ p, p < 64 → s.cgOf p = g → s.istate p = 3 → t.istate p = 2)
      ∧ (∀ q, s.cgOf q ≠ g → t.port q = s.port q ∧ t.istate q = s.istate q)
      ∧ Kept [.sp] [5] [] s t)
  ∧ (∀ (g : Nat) (freq : Nat) (s : State), Quiet s → g < 16 → s.flag (CG_CFG.ENABLE g) = true → s.flag (CG_CFG.DIR g) = false →
    ∃ t, exec (.cgRateUpdate g freq) s = .next t
      ∧ t.getF (CG_RATE.FREQ g) = min freq 0xFFFFFF
      ∧ t.getF (CG_STAT.RATECLS g) = rateClass freq
      ∧ t.flag (CG_STAT.RATECHG g) = (s.flag (CG_STAT.RATECHG g) || decide (rateClass freq ≠ s.getF (CG_STAT.RATECLS g)) || decide (s.getF (CG_RATETOL.PPM g) * (s.group g).ref < ((min freq 0xFFFFFF : Nat) - (s.group g).ref : Int).natAbs * 1000000))
      ∧ t.pin = s.pin
      ∧ t.mem = s.mem
      ∧ t.mode = s.mode)
  ∧ (∀ (p : Nat) (out : Bool) (lock : Bool) (s : State), Quiet s → p < 64 → s.flag (CG_CFG.DIR (s.cgOf p)) = false → (if out then (s.port p).asrcOut else (s.port p).asrcIn) ≠ 0 → (lock = false ∨ (if out then (s.port p).badOut else (s.port p).badIn) = false ∧ (out = true ∨ s.istate p ≠ 3)) →
    ∃ t, exec (.asrcLock (if out then 1 else 0) p lock) s = .next t
      ∧ ((if out then (t.port p).lockOut else (t.port p).lockIn) = lock)
      ∧ ((if out then (t.port p).lockIn = (s.port p).lockIn else (t.port p).lockOut = (s.port p).lockOut))
      ∧ t.flag (SP_STAT.ASRCLOCK p) = (((s.port p).asrcIn = 0 || (t.port p).lockIn) && ((s.port p).asrcOut = 0 || (t.port p).lockOut))
      ∧ (∀ q, q ≠ p → t.port q = s.port q)
      ∧ Kept [.sp] [] [(SP_STAT.ASRCLOCK p).addr] s t)
  ∧ (∀ (i : Nat) (lk : Bool) (s : State), Quiet s → i < 1024 → 0 < (s.ctx i).asrc → (lk = false ∨ (s.ctx i).lost = false) →
    ∃ t, exec (.asrcLock 2 i lk) s = .next t
      ∧ t.ctx i = { s.ctx i with lock := lk, unl := (s.ctx i).unl || !(s.ctx i).lock || !lk }
      ∧ (∀ j, j ≠ i → t.ctx j = s.ctx j)
      ∧ Kept [.net] [] [] s t)

/-- At its boundary a start that passes its checks turns the direction on, claims its ball where it has one, allocates its converter channels and gives an input its lead of unsettled frames and an output its lead of zero frames; a stop turns the direction off, frees its ball and its converter channels. A start that meets a claimed pin leaves the direction STOPPED and is reported. (R359, R368, R369, R371, R372, R373) -/
def Obligations.SerialStartsAndStops : Prop :=
  (∀ (p : Nat) (phi : Nat) (n : Nat) (s : State), Quiet s → p < 64 → (s.port p).reqs = [⟨false, true, some n, none⟩] → n ≤ s.shot → s.istate p = 0 → startCheck p false s = 0 → s.getF (SP_CFG.INSRC p) = 0 →
    ∃ t, exec (.portStartAct p phi []) s = .next t
      ∧ t.istate p = 1
      ∧ t.flag (SP_CTRL.IN_EN p) = true
      ∧ t.pinClaim p = some ⟨1, p⟩
      ∧ (t.port p).reqs = []
      ∧ ((t.port p).asrcIn = (if s.converted p then s.nchan false p else 0))
      ∧ (t.port p).lockIn = s.flag (CG_CFG.DIR (s.cgOf p))
      ∧ (t.port p).inq = List.replicate (inLead p t) (missingFrame p 1 t)
      ∧ ((s.ostate p = 0 → t.getF (SP_BSEQ.COUNT p) = 0))
      ∧ (∀ q, q ≠ p → t.port q = s.port q)
      ∧ Kept [.sp, .pin, .cs] [5] [] s t)
  ∧ (∀ (p : Nat) (phi : Nat) (n : Nat) (s : State), Quiet s → p < 64 → (s.port p).reqs = [⟨true, true, some n, none⟩] → n ≤ s.shot → s.ostate p = 0 → startCheck p true s = 0 →
    ∃ t, exec (.portStartAct p phi []) s = .next t
      ∧ t.ostate p = 1
      ∧ t.flag (SP_CTRL.OUT_EN p) = true
      ∧ t.pinClaim (64 + p) = some ⟨1, p⟩
      ∧ (t.port p).reqs = []
      ∧ ((t.port p).asrcOut = (if s.converted p then s.nchan true p else 0))
      ∧ (t.port p).outLead = outLeadOf p t
      ∧ t.istate p = s.istate p
      ∧ (∀ q, q ≠ p → t.port q = s.port q)
      ∧ Kept [.sp, .pin, .cs] [5] [] s t)
  ∧ (∀ (p : Nat) (phi : Nat) (n : Nat) (out : Bool) (s : State), Quiet s → p < 64 → (s.port p).reqs = [⟨out, true, some n, none⟩] → n ≤ s.shot → (if out then s.ostate p else s.istate p) = 0 → startCheck p out s = 6 →
    ∃ t, exec (.portStartAct p phi []) s = .next t
      ∧ t.istate p = s.istate p
      ∧ t.ostate p = s.ostate p
      ∧ t.getF (dirField out p) = 0
      ∧ (t.port p).reqs = []
      ∧ t.pin = s.pin
      ∧ Raised 0x02 s t)
  ∧ (∀ (p : Nat) (n : Nat) (out : Bool) (s : State), Quiet s → p < 64 → (s.port p).reqs = [⟨out, false, some n, none⟩] → n ≤ s.shot → (if out then s.ostate p else s.istate p) ≠ 0 →
    ∃ t, exec (.portStopAct p) s = .next t
      ∧ ((if out then t.ostate p else t.istate p) = 0)
      ∧ ((if out then t.istate p = s.istate p else t.ostate p = s.ostate p))
      ∧ t.getF (dirField out p) = 0
      ∧ (t.pinClaim (if out then 64 + p else p) = none)
      ∧ ((if out then (t.port p).asrcOut else (t.port p).asrcIn) = 0)
      ∧ (t.port p).reqs = []
      ∧ (∀ q, q ≠ p → t.port q = s.port q)
      ∧ Kept [.sp, .pin, .outs] [5] [] s t)

/-- At its boundary a start that passes its checks claims the channels of the context and its converters, forgets what the context held, and makes it STARTING; a stop makes it STOPPED and frees them. A lost context is marked and reported, and stays started; a Converted one empties its buffer. (R420, R424, R426, R428, R429, R433) -/
def Obligations.StreamStartsStopsAndLoss : Prop :=
  (∀ (c : Nat) (o : Bool) (n : Nat) (s : State), Quiet s → c < 1024 → s.net.reqs = [(c, ⟨o, true, some n, none⟩)] → n ≤ s.shot → (s.ctx c).st = 0 → streamStartCheck c (s.onNet fun u => { u with reqs := [] }) = 0 →
    ∃ t, exec (.streamStartAct c) s = .next t
      ∧ (t.ctx c).st = 1
      ∧ (t.ctx c).since = s.shot
      ∧ (t.ctx c).seq = none
      ∧ (t.ctx c).lost = false
      ∧ ((t.ctx c).asrc = (if (s.ctx c).conv then (s.ctx c).nch else 0))
      ∧ t.net.reqs = []
      ∧ ((s.isRx c = true → t.fab.rxClaim = s.fab.rxClaim ++ (List.range (s.ctx c).nch).map (fun k => ((s.ctx c).first + k, c)) ∧ t.fab.txClaim = s.fab.txClaim))
      ∧ ((s.isRx c = false → t.fab.txClaim = s.fab.txClaim ++ (List.range (s.ctx c).nch).map (fun k => ((s.ctx c).first + k, c)) ∧ t.fab.rxClaim = s.fab.rxClaim))
      ∧ (∀ d, d ≠ c → t.ctx d = s.ctx d)
      ∧ Kept [.net, .fab, .cs] [] [] s t)
  ∧ (∀ (c : Nat) (o : Bool) (n : Nat) (s : State), Quiet s → c < 1024 → s.net.reqs = [(c, ⟨o, false, some n, none⟩)] → n ≤ s.shot → (s.ctx c).st ≠ 0 →
    ∃ t, exec (.streamStopAct c) s = .next t
      ∧ (t.ctx c).st = 0
      ∧ (t.ctx c).asrc = 0
      ∧ (t.ctx c).resv = 0
      ∧ (t.ctx c).held = []
      ∧ (t.ctx c).words = (s.ctx c).words
      ∧ t.net.reqs = []
      ∧ ((s.isRx c = true → (t.fab.rxClaim.any fun x => x.2 = c) = false))
      ∧ ((s.isRx c = false → (t.fab.txClaim.any fun x => x.2 = c) = false))
      ∧ (∀ d, d ≠ c → t.ctx d = s.ctx d)
      ∧ t.mem = s.mem)
  ∧ (∀ (c : Nat) (s : State), Quiet s → c < 1024 → c < s.getF NET_SPART.RXCOUNT → (s.ctx c).st ≠ 0 → (s.ctx c).lost = false →
    ∃ t, exec (.streamLost c) s = .next t
      ∧ (t.ctx c = (if (s.ctx c).conv then { s.ctx c with lost := true, lock := false, playing := false, held := [], got := [] } else { s.ctx c with lost := true, lock := false }))
      ∧ (∀ d, d ≠ c → t.ctx d = s.ctx d)
      ∧ bitOf (t.getF (FLT_STICKY.BITS 2)) 2 = true
      ∧ Quiet t)

/-- An accepted first packet of a started Converted context whose buffer is empty takes its samples into the buffer, by their timestamps, and one of a Locked context places them at the internal indices of their timestamps; both count it and take the sequence number on. A starting context writes zeros with UNSETTLED, a running Locked one its samples. A packet of a Locked context whose samples have been released takes the sequence number and the index on and hands its samples out; the packet that is first due and stands first at its port is dropped and counted where it is too late. (R408, R421, R423, R425, R427, R428, R430, R433) -/
def Obligations.StreamPackets : Prop :=
  (∀ (c : Nat) (pos : Nat) (l : List Byte) (bufs : List Nat) (pay : Nat) (l4 : Nat) (s : State), Quiet s → c < 1024 → s.net.matched = [(c, l, bufs)] → (s.ctx c).st ≠ 0 → s.isRx c = true → rtpPayload (s.ctx c) l = some pay → (udpInfo l).map (fun x => x.1.l4) = some l4 → (s.ctx c).held.length < reservePackets c (s.ctx c) s → (s.ctx c).seq = none → (s.ctx c).conv = true → (s.ctx c).playing = false → (s.ctx c).got = [] → 0 < (s.ctx c).spp →
    ∃ t, exec (.streamPacketAccept c pos) s = .next t
      ∧ t.net.matched = []
      ∧ (t.ctx c).st = 2
      ∧ (t.ctx c).lost = false
      ∧ (t.ctx c).seq = some ((beAt l (l4 + 10) 2 + 1) % 65536)
      ∧ (t.ctx c).txBase = beAt l (l4 + 12) 4 + 2 ^ 32
      ∧ ((t.ctx c).got = (List.range (s.ctx c).spp).map fun i => (beAt l (l4 + 12) 4 + 2 ^ 32 + i, []))
      ∧ (t.ctx c).held = (s.ctx c).held ++ [(beAt l (l4 + 12) 4 + 2 ^ 32 + (s.ctx c).spp, bufs)]
      ∧ (t.ctx c).cnt.getD 0 0 = min (2 ^ 32 - 1) ((s.ctx c).cnt.getD 0 0 + 1)
      ∧ (∀ d, d ≠ c → t.ctx d = s.ctx d)
      ∧ t.mem = s.mem)
  ∧ (∀ (c : Nat) (pos : Nat) (l : List Byte) (bufs : List Nat) (pay : Nat) (l4 : Nat) (m : Int) (s : State), Quiet s → c < 1024 → s.net.matched = [(c, l, bufs)] → (s.ctx c).st ≠ 0 → s.isRx c = true → rtpPayload (s.ctx c) l = some pay → (udpInfo l).map (fun x => x.1.l4) = some l4 → (s.ctx c).held.length < reservePackets c (s.ctx c) s → (s.ctx c).seq = none → (s.ctx c).conv = false → bitOf (s.ctx c).w0 28 = false → (s.ctx c).got = [] → m = nearIndex ((beAt l (l4 + 12) 4 + ((s.ctx c).delay + 2 ^ 32 - nAt (s.ctx c).words 6) % 2 ^ 32) % 2 ^ 32) (s.shot * s.n + pos) → ((s.ctx c).next : Int) ≤ m → 0 < (s.ctx c).spp →
    ∃ t, exec (.streamPacketAccept c pos) s = .next t
      ∧ t.net.matched = []
      ∧ (t.ctx c).st = 2
      ∧ (t.ctx c).lost = false
      ∧ (t.ctx c).seq = some ((beAt l (l4 + 10) 2 + 1) % 65536)
      ∧ ((t.ctx c).got = (payloadSamples (s.ctx c) l pay).zipIdx.map fun x => (Int.toNat (m + x.2), x.1))
      ∧ (t.ctx c).cnt.getD 0 0 = min (2 ^ 32 - 1) ((s.ctx c).cnt.getD 0 0 + 1)
      ∧ (∀ d, d ≠ c → t.ctx d = s.ctx d)
      ∧ t.mem = s.mem)
  ∧ (∀ (c : Nat) (k : Nat) (s : State), Quiet s → c < 1024 → (s.ctx c).st = 1 → s.isRx c = true → (s.ctx c).next < s.shot * s.n + s.n → k < (s.ctx c).nch →
    ∃ t, exec (.streamBlockWrite c) s = .next t
      ∧ (t.blk aIN (streamKey ((s.ctx c).first + k)) = ⟨List.replicate s.n 0, mkBsw (if (s.ctx c).conv then 4 else 3) (bswUNSETTLED + (if (s.ctx c).conv then ctxUnlocked (s.ctx c) else 0) + (if (s.ctx c).lost then bswLOST else 0))⟩)
      ∧ t.ctx c = { s.ctx c with next := s.shot * s.n + s.n, unl := false }
      ∧ (∀ d, d ≠ c → t.ctx d = s.ctx d)
      ∧ Kept [.net, .stage] [] [] s t)
  ∧ (∀ (c : Nat) (k : Nat) (s : State), Quiet s → c < 1024 → (s.ctx c).st = 2 → s.isRx c = true → (s.ctx c).next < s.shot * s.n + s.n → (s.ctx c).conv = false → k < (s.ctx c).nch → ((∀ i, i < s.n → ((s.ctx c).got.any fun g => g.1 = s.shot * s.n + i) = true)) →
    ∃ t, exec (.streamBlockWrite c) s = .next t
      ∧ (t.blk aIN (streamKey ((s.ctx c).first + k)) = ⟨(List.range s.n).map fun i => (((s.ctx c).got.find? fun g => g.1 = s.shot * s.n + i).map (·.2)).getD [] |>.getD k 0, mkBsw 3 (if (s.ctx c).lost then bswLOST else 0)⟩)
      ∧ (t.ctx c).next = s.shot * s.n + s.n
      ∧ (t.ctx c).cnt = (s.ctx c).cnt
      ∧ (∀ d, d ≠ c → t.ctx d = s.ctx d)
      ∧ Kept [.net, .stage, .cs] [] [] s t)
  ∧ (∀ (c : Nat) (s : State), Quiet s → c < 1024 → (s.ctx c).st ≠ 0 → s.isRx c = false → releases s = true → (s.ctx c).conv = false → (s.ctx c).txBase ≤ (s.ctx c).next → (s.ctx c).next + (s.ctx c).spp ≤ (s.ctx c).txBase + (s.ctx c).tx.length →
    ∃ t, exec (.streamPacketSend c) s = .next t
      ∧ (t.ctx c).txSeq = ((s.ctx c).txSeq + 1) % 65536
      ∧ (t.ctx c).next = (s.ctx c).next + (s.ctx c).spp
      ∧ (t.ctx c).txBase = (s.ctx c).next + (s.ctx c).spp
      ∧ (t.ctx c).tx = (s.ctx c).tx.drop ((s.ctx c).next + (s.ctx c).spp - (s.ctx c).txBase)
      ∧ (∀ d, d ≠ c → t.ctx d = s.ctx d)
      ∧ Kept [.mem, .net, .free, .outs] [6] [] s t)
  ∧ (∀ (p : Nat) (x : EgFrame) (rest : List EgFrame) (s : State), Quiet s → p < 4 → (s.nport p).q = x :: rest → x.kind = 2 → x.host = none → firstDue p s = some x.due →
    ∃ t, exec (.txLate p) s = .next t
      ∧ (t.nport p).q = rest
      ∧ t.getF (NET_TX_LATE.COUNT p) = min (2 ^ (NET_TX_LATE.COUNT p).width - 1) (s.getF (NET_TX_LATE.COUNT p) + 1)
      ∧ (∀ q, q ≠ p → t.nport q = s.nport q)
      ∧ Kept [.net] [] [(NET_TX_LATE.COUNT p).addr] s t)

/-- At its boundary a lane that may start claims its ball, turns on and marks its first samples UNSETTLED; a stop turns it off and frees the ball. A lost lane is marked, counted and reported, a returning lane marks its samples UNSETTLED again, a lane whose run is over is RUNNING. Staged METER_SET words and changed sets reset their points at the next period; a meter frame that is due is formed, and dropped and counted where the link is down; a formed one goes to the host when it is complete and the link is up. (R451, R452, R460, R462, R463, R471, R473, R474, R475) -/
def Obligations.DailiesEvents : Prop :=
  (∀ (l : Nat) (o : Bool) (n : Nat) (s : State), Quiet s → l < 32 → s.dl.reqs = [(l, ⟨o, true, some n, none⟩)] → n ≤ s.shot → s.lstate l = 0 → laneCheck l s = 0 →
    ∃ t, exec (.laneStartAct l) s = .next t
      ∧ t.lstate l = 1
      ∧ t.flag (DL_LCFG.EN l) = true
      ∧ t.getF (DL_LSTAT.UNSET l) = laneU0 (s.lane l).live.toNat % 2 ^ (DL_LSTAT.UNSET l).width
      ∧ t.pinClaim (165 + l) = some ⟨4, l⟩
      ∧ t.dl.reqs = []
      ∧ t.lane l = { LaneU.reset with live := (s.lane l).live, marks := [(s.shot * s.n, s.shot * s.n + laneU0 (s.lane l).live.toNat)] }
      ∧ Kept [.dl, .pin, .cs] [] [(DL_LCFG.EN l).addr, (DL_LSTAT.STATE l).addr] s t)
  ∧ (∀ (l : Nat) (o : Bool) (n : Nat) (s : State), Quiet s → l < 32 → s.dl.reqs = [(l, ⟨o, false, some n, none⟩)] → n ≤ s.shot → s.lstate l ≠ 0 →
    ∃ t, exec (.laneStopAct l) s = .next t
      ∧ t.lstate l = 0
      ∧ t.flag (DL_LCFG.EN l) = false
      ∧ t.getF (DL_LSTAT.UNSET l) = 0
      ∧ t.pinClaim (165 + l) = none
      ∧ t.dl.reqs = []
      ∧ Kept [.dl, .pin] [] [(DL_LCFG.EN l).addr, (DL_LSTAT.STATE l).addr] s t)
  ∧ (∀ (l : Nat) (pos : Nat) (s : State), Quiet s → l < 32 → (s.lstate l = 1 ∨ s.lstate l = 2) →
    ∃ t, exec (.dlLost l pos) s = .next t
      ∧ t.lstate l = 3
      ∧ (t.lane l = { s.lane l with edges := (s.lane l).edges ++ [(128 * (s.shot * s.n) + pos - 511 * (if s.flag (DL_CK.OSR (s.getF (DL_LCFG.CK l))) then 1 else 2), true)] })
      ∧ t.getF (DL_LERR.LOSS l) = min (2 ^ (DL_LERR.LOSS l).width - 1) (s.getF (DL_LERR.LOSS l) + 1)
      ∧ t.pin = s.pin
      ∧ Raised 0x34 s t)
  ∧ (∀ (l : Nat) (pos : Nat) (s : State), Quiet s → l < 32 → s.lstate l = 3 →
    ∃ t, exec (.dlReturn l pos) s = .next t
      ∧ t.lstate l = 1
      ∧ t.lane l = { s.lane l with edges := (s.lane l).edges ++ [(128 * (s.shot * s.n) + pos, false)], marks := (s.lane l).marks ++ [(ceilDiv (128 * (s.shot * s.n) + pos + laneLat (s.lane l).live.toNat) 128, ceilDiv (128 * (s.shot * s.n) + pos + laneLat (s.lane l).live.toNat) 128 + laneU0 (s.lane l).live.toNat)] }
      ∧ t.getF (DL_LSTAT.UNSET l) = min 511 (unsetLeft (t.lane l) (s.shot * s.n))
      ∧ Kept [.dl] [] [(DL_LSTAT.STATE l).addr] s t)
  ∧ (∀ (l : Nat) (s : State), Quiet s → l < 32 → s.lstate l = 1 → s.getF (DL_LSTAT.UNSET l) = 0 →
    ∃ t, exec (.dlSettled l) s = .next t
      ∧ t.lstate l = 2
      ∧ Kept [] [] [(DL_LSTAT.STATE l).addr] s t)
  ∧ (∀ (i : Nat) (w : Word) (s : State), Quiet s → s.dl.pend = [(i, w)] → s.dl.sets = 0 → s.dl.enPend = false →
    ∃ t, exec (.meterSetApply) s = .next t
      ∧ t.dl.pend = []
      ∧ t.dl.sets = 0
      ∧ smGet PointU.reset t.dl.points i = resetPoint w (ceilDiv (s.shot * s.n) s.meterP * s.meterP) (smGet PointU.reset s.dl.points i)
      ∧ (∀ j, j ≠ i → smGet PointU.reset t.dl.points j = smGet PointU.reset s.dl.points j)
      ∧ Kept [.dl] [] [] s t)
  ∧ (∀ (k : Nat) (s : State), Quiet s → frameDue s = some k → (s.getF DL_MWPTR.PTR + 1) % s.getF DL_MLEN.LEN ≠ s.getF DL_MRPTR.PTR → s.flag CMD_STAT.LINKUP = true →
    ∃ t, exec (.meterFrameStart) s = .next t
      ∧ t.dl.frame = some (meterFrame k s)
      ∧ t.dl.nextK = some (k + 1)
      ∧ t.dl.dropped = 0
      ∧ Kept [.dl] [] [] s t)
  ∧ (∀ (k : Nat) (s : State), Quiet s → frameDue s = some k → s.flag CMD_STAT.LINKUP = false →
    ∃ t, exec (.meterFrameStart) s = .next t
      ∧ t.dl.frame = s.dl.frame
      ∧ t.dl.nextK = some (k + 1)
      ∧ t.dl.dropped = s.dl.dropped + 1
      ∧ t.getF DL_MERR.DROP = min (2 ^ (DL_MERR.DROP).width - 1) (s.getF DL_MERR.DROP + 1)
      ∧ Kept [.dl] [] [DL_MERR.DROP.addr] s t)
  ∧ (∀ (l : List Byte) (s : State), Quiet s → s.dl.frame = some l → s.flag CMD_STAT.LINKUP = true → s.flag DL_MCTRL.IE = false → s.getF DL_MLEN.LEN ≤ 4096 → 0 < s.getF DL_MLEN.LEN → s.dl.fseq < 2 ^ 32 →
    ∃ t, exec (.meterFrameComplete) s = .next t
      ∧ t.outs = .hostBytes (s.getF DL_MBASE_LO.ADDR * 64 + s.getF DL_MBASE_HI.ADDR * 2 ^ 32 + s.getF DL_MWPTR.PTR * l.length) l :: s.outs
      ∧ t.getF DL_MSTAT.FSEQ = s.dl.fseq
      ∧ t.dl.frame = none
      ∧ t.dl.fseq = (s.dl.fseq + 1) % 2 ^ 32
      ∧ t.getF DL_MWPTR.PTR = (s.getF DL_MWPTR.PTR + 1) % s.getF DL_MLEN.LEN
      ∧ Kept [.dl, .outs] [] [DL_MSTAT.FSEQ.addr, DL_MWPTR.PTR.addr] s t)

/-- On an enabled port with its link up, a fragment that does not reassemble, a frame shorter than 64 bytes, one above MAXF and one with a wrong FCS are counted, each by its own counter, and change nothing else; a good one is counted, and one that a context alone takes waits for it with its buffers. With a System buffer free, MGMT answers an ARP request for its address, unless a PAUSE holds it, and counts an ARP frame that is not one. A port that is up and not paused sends the next frame of its queue, one of the transparent clock with its residence time added; the first frame of the transparent clock that is too late in the queue of a paused port is dropped and counted. (R393, R396, R397, R401, R404, R421, R444, R552, R553) -/
def Obligations.NetworkFrames : Prop :=
  (∀ (p : Nat) (l : List Byte) (frag : Bool) (s : State), Quiet s → p < 4 → s.flag (NET_PCFG.ENABLE p) = true → s.flag (NET_PSTAT.LINK p) = true → (frag = true ∨ l.length < 64 ∨ s.getF (NET_PCFG.MAXF p) < l.length ∨ fcsOk l = false) →
    ∃ t, exec (.mpFrameReceived p l frag) s = .next t
      ∧ (t.getF (if frag then NET_FRAGERR.COUNT p else if l.length < 64 then NET_RUNT.COUNT p else if s.getF (NET_PCFG.MAXF p) < l.length then NET_OVERSIZE.COUNT p else NET_CRCERR.COUNT p) = min (2 ^ (if frag then NET_FRAGERR.COUNT p else if l.length < 64 then NET_RUNT.COUNT p else if s.getF (NET_PCFG.MAXF p) < l.length then NET_OVERSIZE.COUNT p else NET_CRCERR.COUNT p).width - 1) (s.getF (if frag then NET_FRAGERR.COUNT p else if l.length < 64 then NET_RUNT.COUNT p else if s.getF (NET_PCFG.MAXF p) < l.length then NET_OVERSIZE.COUNT p else NET_CRCERR.COUNT p) + 1))
      ∧ (Kept [] [] [(if frag then NET_FRAGERR.COUNT p else if l.length < 64 then NET_RUNT.COUNT p else if s.getF (NET_PCFG.MAXF p) < l.length then NET_OVERSIZE.COUNT p else NET_CRCERR.COUNT p).addr] s t))
  ∧ (∀ (p : Nat) (l : List Byte) (c : Nat) (s : State), Quiet s → p < 4 → s.flag (NET_PCFG.ENABLE p) = true → s.flag (NET_PSTAT.LINK p) = true → 64 ≤ l.length → l.length ≤ s.getF (NET_PCFG.MAXF p) → fcsOk l = true → isMember p s = false → etherType l ≠ 0x8808 → ptpOff l = none → matchCtx p l s = some c → s.bufUse 3 + bufsFor l.length ≤ s.bufMax 3 → bufsFor l.length ≤ s.freeBufs.length →
    ∃ t, exec (.mpFrameReceived p l false) s = .next t
      ∧ (∃ bufs, t.net.matched = s.net.matched ++ [(c, l, bufs)] ∧ bufs.length = bufsFor l.length)
      ∧ t.getF (NET_RX_FRAMES_LO.COUNT p) + 2 ^ 32 * t.getF (NET_RX_FRAMES_HI.COUNT p) = min (2 ^ 64 - 1) (s.getF (NET_RX_FRAMES_LO.COUNT p) + 2 ^ 32 * s.getF (NET_RX_FRAMES_HI.COUNT p) + 1)
      ∧ t.getF (NET_RX_BYTES_LO.COUNT p) + 2 ^ 32 * t.getF (NET_RX_BYTES_HI.COUNT p) = min (2 ^ 64 - 1) (s.getF (NET_RX_BYTES_LO.COUNT p) + 2 ^ 32 * s.getF (NET_RX_BYTES_HI.COUNT p) + l.length)
      ∧ t.net.ctx = s.net.ctx
      ∧ t.net.ports = s.net.ports
      ∧ Kept [.mem, .net, .free] [6, 0xB] [] s t)
  ∧ (∀ (l : List Byte) (s : State), Quiet s → l.length < 64 →
    ∃ t, exec (.mgmtFrameReceived l) s = .next t
      ∧ t.getF (NET_RUNT.COUNT 4) = min (2 ^ (NET_RUNT.COUNT 4).width - 1) (s.getF (NET_RUNT.COUNT 4) + 1)
      ∧ Kept [] [] [(NET_RUNT.COUNT 4).addr] s t)
  ∧ (∀ (l : List Byte) (r : List Byte) (s : State), Quiet s → 64 ≤ l.length → l.length ≤ 1522 → fcsOk l = true → sysFree s = true → s.flag (NET_PSTAT.PAUSED 4) = false → etherType l = 0x0806 → mgmtAnswer l 0 s = some r →
    ∃ t, exec (.mgmtFrameReceived l) s = .next t
      ∧ t.outs = .frame 4 (withFcs r) :: s.outs
      ∧ t.getF (NET_RX_FRAMES_LO.COUNT 4) + 2 ^ 32 * t.getF (NET_RX_FRAMES_HI.COUNT 4) = min (2 ^ 64 - 1) (s.getF (NET_RX_FRAMES_LO.COUNT 4) + 2 ^ 32 * s.getF (NET_RX_FRAMES_HI.COUNT 4) + 1)
      ∧ t.getF (NET_TX_FRAMES_LO.COUNT 4) + 2 ^ 32 * t.getF (NET_TX_FRAMES_HI.COUNT 4) = min (2 ^ 64 - 1) (s.getF (NET_TX_FRAMES_LO.COUNT 4) + 2 ^ 32 * s.getF (NET_TX_FRAMES_HI.COUNT 4) + 1)
      ∧ t.getF (NET_TX_BYTES_LO.COUNT 4) + 2 ^ 32 * t.getF (NET_TX_BYTES_HI.COUNT 4) = min (2 ^ 64 - 1) (s.getF (NET_TX_BYTES_LO.COUNT 4) + 2 ^ 32 * s.getF (NET_TX_BYTES_HI.COUNT 4) + (withFcs r).length)
      ∧ t.cmd = s.cmd
      ∧ Kept [.outs, .free] [6] [] s t)
  ∧ (∀ (l : List Byte) (s : State), Quiet s → 64 ≤ l.length → l.length ≤ 1522 → fcsOk l = true → sysFree s = true → etherType l = 0x0806 → mgmtAnswer l 0 s = none →
    ∃ t, exec (.mgmtFrameReceived l) s = .next t
      ∧ t.getF (NET_NOTMINE.COUNT 4) = min (2 ^ (NET_NOTMINE.COUNT 4).width - 1) (s.getF (NET_NOTMINE.COUNT 4) + 1)
      ∧ t.getF (NET_RX_FRAMES_LO.COUNT 4) + 2 ^ 32 * t.getF (NET_RX_FRAMES_HI.COUNT 4) = min (2 ^ 64 - 1) (s.getF (NET_RX_FRAMES_LO.COUNT 4) + 2 ^ 32 * s.getF (NET_RX_FRAMES_HI.COUNT 4) + 1)
      ∧ t.outs = s.outs
      ∧ Kept [.free] [6] [] s t)
  ∧ (∀ (p : Nat) (pre : Bool) (f : EgFrame) (q : List EgFrame) (s : State), Quiet s → p < 4 → s.flag (NET_PSTAT.LINK p) = true → s.flag (NET_PSTAT.PAUSED p) = false → nextEg (s.nport p).q = some (f, q) → f.kind ≠ 3 → f.kind ≠ 4 → f.host = none →
    ∃ t, exec (.frameTransmitDone p pre) s = .next t
      ∧ t.outs = .frame p (withFcs f.bytes) :: s.outs
      ∧ (t.nport p).q = q
      ∧ t.getF (NET_TX_FRAMES_LO.COUNT p) + 2 ^ 32 * t.getF (NET_TX_FRAMES_HI.COUNT p) = min (2 ^ 64 - 1) (s.getF (NET_TX_FRAMES_LO.COUNT p) + 2 ^ 32 * s.getF (NET_TX_FRAMES_HI.COUNT p) + 1)
      ∧ t.getF (NET_TX_BYTES_LO.COUNT p) + 2 ^ 32 * t.getF (NET_TX_BYTES_HI.COUNT p) = min (2 ^ 64 - 1) (s.getF (NET_TX_BYTES_LO.COUNT p) + 2 ^ 32 * s.getF (NET_TX_BYTES_HI.COUNT p) + (withFcs f.bytes).length)
      ∧ (∀ r, r ≠ p → t.nport r = s.nport r)
      ∧ Kept [.net, .outs] [6, 0xB] [] s t)
  ∧ (∀ (p : Nat) (pre : Bool) (f : EgFrame) (q : List EgFrame) (s : State), Quiet s → p < 4 → s.flag (NET_PSTAT.LINK p) = true → s.flag (NET_PSTAT.PAUSED p) = false → nextEg (s.nport p).q = some (f, q) → f.kind = 3 → f.host = none →
    ∃ t, exec (.frameTransmitDone p pre) s = .next t
      ∧ t.outs = .frame p (withFcs (tcCorrect f.bytes ((s.stamp16 p true - f.ingress) * 4096)).1) :: s.outs
      ∧ (t.nport p).q = q
      ∧ t.getF (NET_TX_FRAMES_LO.COUNT p) + 2 ^ 32 * t.getF (NET_TX_FRAMES_HI.COUNT p) = min (2 ^ 64 - 1) (s.getF (NET_TX_FRAMES_LO.COUNT p) + 2 ^ 32 * s.getF (NET_TX_FRAMES_HI.COUNT p) + 1)
      ∧ (∀ r, r ≠ p → t.nport r = s.nport r)
      ∧ Kept [.net, .outs] [6, 0xB] [PTP_TCERR.NOCORR.addr] s t)
  ∧ (∀ (p : Nat) (i : Nat) (x : EgFrame) (s : State), Quiet s → p < 4 → s.flag (NET_PSTAT.PAUSED p) = true → (s.nport p).q.findIdx? (fun f => decide (f.kind = 3) && decide (f.due ≤ s.time)) = some i → (s.nport p).q[i]? = some x → x.host = none →
    ∃ t, exec (.tcDrop p) s = .next t
      ∧ (t.nport p).q = (s.nport p).q.take i ++ (s.nport p).q.drop (i + 1)
      ∧ t.getF PTP_TCERR.DROP = min (2 ^ PTP_TCERR.DROP.width - 1) (s.getF PTP_TCERR.DROP + 1)
      ∧ (∀ q, q ≠ p → t.nport q = s.nport q)
      ∧ Kept [.net] [] [PTP_TCERR.DROP.addr] s t)

/-- A link that comes up, and one that goes down, shows its state and is reported; a link that goes down drops its queue and ends its pause. A PAUSE is counted and stops the port for a time other than 0, but in native mode while PAUSE is ignored. A pause ends at its expiry, when what MGMT held leaves, or by the watchdog, counted, and PAUSE is then ignored for WD. A verification counts its attempt and turns preemption on where it succeeds. An address that ages out is forgotten. (R394, R403, R405, R406, R410) -/
def Obligations.LinksAndPause : Prop :=
  (∀ (p : Nat) (s : State), Quiet s → p < 4 → s.flag (NET_PCFG.ENABLE p) = true → s.flag (NET_PSTAT.LINK p) = false →
    ∃ t, exec (.linkUp p) s = .next t
      ∧ t.flag (NET_PSTAT.LINK p) = true
      ∧ bitOf (t.getF (FLT_STICKY.BITS 2)) 0 = true
      ∧ t.net = s.net
      ∧ Quiet t)
  ∧ (∀ (p : Nat) (s : State), Quiet s → p < 4 → s.flag (NET_PSTAT.LINK p) = true →
    ∃ t, exec (.linkDown p) s = .next t
      ∧ t.flag (NET_PSTAT.LINK p) = false
      ∧ t.flag (NET_PSTAT.PAUSED p) = false
      ∧ (t.nport p).q = []
      ∧ (∀ q, q ≠ p → t.nport q = s.nport q)
      ∧ bitOf (t.getF (FLT_STICKY.BITS 2)) 0 = true
      ∧ Quiet t)
  ∧ (∀ (p : Nat) (q : Nat) (s : State), Quiet s → p < 5 → (p < 4 ∨ q % 65536 ≠ 0 ∨ s.cmd.mgmtHeld = []) → (4 ≤ p ∨ s.flag (NET_PCFG.PAUSELEGACY p) = true ∨ (s.nport p).ignore ≤ s.time) →
    ∃ t, exec (.pauseReceived p q) s = .next t
      ∧ t.getF (NET_PAUSE_RX.COUNT p) = min (2 ^ (NET_PAUSE_RX.COUNT p).width - 1) (s.getF (NET_PAUSE_RX.COUNT p) + 1)
      ∧ t.flag (NET_PSTAT.PAUSED p) = decide (q % 65536 ≠ 0)
      ∧ Kept [] [] [(NET_PAUSE_RX.COUNT p).addr, (NET_PSTAT.PAUSED p).addr] s t)
  ∧ (∀ (p : Nat) (q : Nat) (s : State), Quiet s → p < 4 → s.flag (NET_PCFG.PAUSELEGACY p) = false → s.time < (s.nport p).ignore →
    ∃ t, exec (.pauseReceived p q) s = .next t
      ∧ t.getF (NET_PAUSE_RX.COUNT p) = min (2 ^ (NET_PAUSE_RX.COUNT p).width - 1) (s.getF (NET_PAUSE_RX.COUNT p) + 1)
      ∧ t.flag (NET_PSTAT.PAUSED p) = s.flag (NET_PSTAT.PAUSED p)
      ∧ Kept [] [] [(NET_PAUSE_RX.COUNT p).addr] s t)
  ∧ (∀ (p : Nat) (s : State), Quiet s → p < 5 → (p < 4 ∨ s.cmd.mgmtHeld = []) →
    ∃ t, exec (.pauseExpiry p) s = .next t
      ∧ t.flag (NET_PSTAT.PAUSED p) = false
      ∧ Kept [] [] [(NET_PSTAT.PAUSED p).addr] s t)
  ∧ (∀ (o : Output) (n : Nat) (s : State), Quiet s → s.cmd.mgmtHeld = [(o, n)] →
    ∃ t, exec (.pauseExpiry 4) s = .next t
      ∧ t.flag (NET_PSTAT.PAUSED 4) = false
      ∧ t.outs = o :: s.outs
      ∧ t.cmd = { s.cmd with mgmtHeld := [] }
      ∧ t.getF (NET_TX_FRAMES_LO.COUNT 4) + 2 ^ 32 * t.getF (NET_TX_FRAMES_HI.COUNT 4) = min (2 ^ 64 - 1) (s.getF (NET_TX_FRAMES_LO.COUNT 4) + 2 ^ 32 * s.getF (NET_TX_FRAMES_HI.COUNT 4) + 1)
      ∧ t.getF (NET_TX_BYTES_LO.COUNT 4) + 2 ^ 32 * t.getF (NET_TX_BYTES_HI.COUNT 4) = min (2 ^ 64 - 1) (s.getF (NET_TX_BYTES_LO.COUNT 4) + 2 ^ 32 * s.getF (NET_TX_BYTES_HI.COUNT 4) + n)
      ∧ Kept [.cmd, .outs] [6] [] s t)
  ∧ (∀ (p : Nat) (s : State), Quiet s → p < 4 → s.flag (NET_PSTAT.PAUSED p) = true → s.flag (NET_PCFG.PAUSELEGACY p) = false →
    ∃ t, exec (.pauseBroken p) s = .next t
      ∧ t.flag (NET_PSTAT.PAUSED p) = false
      ∧ t.getF (NET_PAUSE_BROKEN.COUNT p) = min (2 ^ (NET_PAUSE_BROKEN.COUNT p).width - 1) (s.getF (NET_PAUSE_BROKEN.COUNT p) + 1)
      ∧ t.nport p = { s.nport p with ignore := s.time + s.getF (NET_PAUSECFG.WD p) * 1536 / 10 }
      ∧ (∀ q, q ≠ p → t.nport q = s.nport q)
      ∧ Kept [.net] [] [(NET_PSTAT.PAUSED p).addr, (NET_PAUSE_BROKEN.COUNT p).addr] s t)
  ∧ (∀ (p : Nat) (ok : Bool) (s : State), Quiet s → p < 4 → s.flag (NET_PCFG.PREEMPT_EN p) = true → s.flag (NET_PSTAT.PREEMPT p) = false → (s.nport p).attempts < 3 →
    ∃ t, exec (.preemptVerify p ok) s = .next t
      ∧ t.flag (NET_PSTAT.PREEMPT p) = ok
      ∧ t.nport p = { s.nport p with attempts := (s.nport p).attempts + 1 }
      ∧ (∀ q, q ≠ p → t.nport q = s.nport q)
      ∧ Kept [.net] [] [(NET_PSTAT.PREEMPT p).addr] s t)
  ∧ (∀ (mac : Nat) (s : State), Quiet s →
    ∃ t, exec (.bridgeAgeOut mac) s = .next t
      ∧ (t.net = { s.net with learn := s.net.learn.filter fun x => x.1 ≠ mac })
      ∧ Kept [.net] [] [] s t)

/-- A candidate whose activity begins qualifies where it is enabled; an update of its frequency shows the offset once ten gates have been measured (0 before), restarts the count beyond ACCEPT, disqualifies a qualified one beyond REJECT with its count and message, and sets or clears DRIFT; one whose count ends is qualified; one whose activity ends is neither active nor qualified. (R491, R492, R493, R494, R495) -/
def Obligations.ReferenceCandidates : Prop :=
  (∀ (k : Nat) (adv : Nat) (s : State), Quiet s → 1 ≤ k → k ≤ 11 → s.flag (CLK_CANDST.ACTIVE k) = false → sourceUp k s = true → s.flag (CLK_CAND.EN k) = true → s.flag (CLK_CANDST.QUAL k) = false →
    ∃ t, exec (.candidateActivity k adv) s = .next t
      ∧ t.flag (CLK_CANDST.ACTIVE k) = true
      ∧ t.flag (CLK_CANDST.QUALIFYING k) = true
      ∧ t.getF (CLK_CANDST.QLEFT k) = s.getF CLK_QUALCFG.QTIME
      ∧ smGet 255 t.clk.adv k = advQ k adv
      ∧ t.csel = s.csel
      ∧ t.cstate = s.cstate
      ∧ Kept [.clk] [1] [] s t)
  ∧ (∀ (k : Nat) (ppm : Int) (adv : Nat) (x : Int) (s : State), Quiet s → x = (if smGet 0 s.clk.gates k < 9 then 0 else monitorPpm k ppm (s.onClk fun u => { u with fills := if k = 7 then (fillLevel (s.getF (CLK_CAND.SRC 7)) s :: u.fills).take 11 else u.fills })) → 1 ≤ k → k ≤ 11 → s.flag (CLK_CANDST.ACTIVE k) = true → s.flag (CLK_CANDST.QUAL k) = false → s.flag (CLK_CANDST.QUALIFYING k) = true → s.flag CLK_STAT.SWITCHING = true →
    ∃ t, exec (.freqMonitorUpdate k ppm adv) s = .next t
      ∧ t.getF (CLK_CANDF.PPM k) = lowBits 32 x
      ∧ (t.getF (CLK_CANDST.QLEFT k) = (if s.getF CLK_QUALCFG.ACCEPT * 65536 < Int.natAbs x then s.getF CLK_QUALCFG.QTIME else s.getF (CLK_CANDST.QLEFT k) - 1))
      ∧ t.flag (CLK_CANDST.QUALIFYING k) = true
      ∧ Kept [.clk] [1] [] s t)
  ∧ (∀ (k : Nat) (ppm : Int) (adv : Nat) (x : Int) (s : State), Quiet s → x = (if smGet 0 s.clk.gates k < 9 then 0 else monitorPpm k ppm (s.onClk fun u => { u with fills := if k = 7 then (fillLevel (s.getF (CLK_CAND.SRC 7)) s :: u.fills).take 11 else u.fills })) → 1 ≤ k → k ≤ 11 → s.flag (CLK_CANDST.ACTIVE k) = true → s.flag (CLK_CANDST.QUAL k) = true → s.flag (CLK_CANDST.QUALIFYING k) = false → s.getF CLK_QUALCFG.REJECT * 65536 < Int.natAbs x →
    ∃ t, exec (.freqMonitorUpdate k ppm adv) s = .next t
      ∧ t.flag (CLK_CANDST.QUAL k) = false
      ∧ t.flag (CLK_CANDST.DRIFT k) = false
      ∧ t.getF (CLK_CANDE.DISQ k) = min (2 ^ (CLK_CANDE.DISQ k).width - 1) (s.getF (CLK_CANDE.DISQ k) + 1)
      ∧ bitOf (t.getF (FLT_STICKY.BITS 1)) 2 = true
      ∧ Quiet t)
  ∧ (∀ (k : Nat) (ppm : Int) (adv : Nat) (x : Int) (s : State), Quiet s → x = (if smGet 0 s.clk.gates k < 9 then 0 else monitorPpm k ppm (s.onClk fun u => { u with fills := if k = 7 then (fillLevel (s.getF (CLK_CAND.SRC 7)) s :: u.fills).take 11 else u.fills })) → 1 ≤ k → k ≤ 11 → s.flag (CLK_CANDST.ACTIVE k) = true → s.flag (CLK_CANDST.QUAL k) = true → s.flag (CLK_CANDST.DRIFT k) = false → s.getF CLK_QUALCFG.ACCEPT * 65536 < Int.natAbs x → Int.natAbs x ≤ s.getF CLK_QUALCFG.REJECT * 65536 →
    ∃ t, exec (.freqMonitorUpdate k ppm adv) s = .next t
      ∧ t.flag (CLK_CANDST.QUAL k) = true
      ∧ t.flag (CLK_CANDST.DRIFT k) = true
      ∧ t.getF (CLK_CANDE.DRIFTW k) = min (2 ^ (CLK_CANDE.DRIFTW k).width - 1) (s.getF (CLK_CANDE.DRIFTW k) + 1)
      ∧ bitOf (t.getF (FLT_STICKY.BITS 1)) 3 = true
      ∧ Quiet t)
  ∧ (∀ (k : Nat) (ppm : Int) (adv : Nat) (x : Int) (s : State), Quiet s → x = (if smGet 0 s.clk.gates k < 9 then 0 else monitorPpm k ppm (s.onClk fun u => { u with fills := if k = 7 then (fillLevel (s.getF (CLK_CAND.SRC 7)) s :: u.fills).take 11 else u.fills })) → 1 ≤ k → k ≤ 11 → s.flag (CLK_CANDST.ACTIVE k) = true → s.flag (CLK_CANDST.QUAL k) = true → Int.natAbs x ≤ s.getF CLK_QUALCFG.ACCEPT * 65536 → s.getF CLK_QUALCFG.ACCEPT ≤ s.getF CLK_QUALCFG.REJECT →
    ∃ t, exec (.freqMonitorUpdate k ppm adv) s = .next t
      ∧ t.flag (CLK_CANDST.QUAL k) = true
      ∧ t.flag (CLK_CANDST.DRIFT k) = false
      ∧ t.getF (CLK_CANDF.PPM k) = lowBits 32 x)
  ∧ (∀ (k : Nat) (s : State), Quiet s → 1 ≤ k → k ≤ 11 → s.flag (CLK_CANDST.QUALIFYING k) = true → s.flag (CLK_CANDST.ACTIVE k) = true → s.getF (CLK_CANDST.QLEFT k) = 0 →
    ∃ t, exec (.candidateQualified k) s = .next t
      ∧ t.flag (CLK_CANDST.QUAL k) = true
      ∧ t.flag (CLK_CANDST.QUALIFYING k) = false
      ∧ t.getF (CLK_CANDST.QLEFT k) = 0)
  ∧ (∀ (k : Nat) (s : State), Quiet s → 1 ≤ k → k ≤ 11 → s.flag (CLK_CANDST.ACTIVE k) = true →
    ∃ t, exec (.activityEnd k) s = .next t
      ∧ t.flag (CLK_CANDST.ACTIVE k) = false
      ∧ t.flag (CLK_CANDST.QUAL k) = false
      ∧ t.flag (CLK_CANDST.QUALIFYING k) = false
      ∧ t.getF (CLK_CANDST.QLEFT k) = 0
      ∧ t.getF (CLK_CANDF.PPM k) = 0
      ∧ (t.getF (CLK_CANDE.DISQ k) = (if s.flag (CLK_CANDST.QUAL k) = true then min (2 ^ (CLK_CANDE.DISQ k).width - 1) (s.getF (CLK_CANDE.DISQ k) + 1) else s.getF (CLK_CANDE.DISQ k))))

/-- At the expiry of the wait-to-restore timer the timer ends, and a switch to the best candidate starts unless the loop is engaged on it. At the end of a build-out its target is selected and acquired from the first step, with its build-out, which is aligned or kept; PTPGRID ends where PTP was selected beyond its window; the conditions on the selection are then looked at again. The loop steps on, and to LOCKED after the last step, where the step is done; back to the step before the last where the phase has been far off for long. Alignment is over when the build-out is 0. A steer update moves the steer by at most SLEW, in FREE_RUN towards 0, in holdover and LOST towards the holdover target, and otherwise towards the value of the loop, which the rules leave open, within the steer limits. A second enters the history; holdover counts its seconds and evaluates its target, and is LOST at its limit; a temperature is shown, kept as the maximum, and compared with its warning limit. (R481, R500, R504, R506, R507, R509, R510, R512, R514, R517, R519, R520) -/
def Obligations.ReferenceLoop : Prop :=
  (∀  (s : State), Quiet s → s.flag CLK_STAT.WTR = true → s.getF CLK_STAT.WTRLEFT = 0 → s.flag CLK_STAT.SWITCHING = false →
    ∃ t, exec (.wtrExpiry) s = .next t
      ∧ t.flag CLK_STAT.WTR = false
      ∧ t.getF CLK_STAT.WTRLEFT = 0
      ∧ t.flag CLK_STAT.SWITCHING = (match bestCand s with | some k => !(engaged s && decide (s.csel = k)) | none => false)
      ∧ (t.clk.target = (match bestCand s with | some k => if engaged s = true ∧ s.csel = k then s.clk.target else some k | none => s.clk.target))
      ∧ t.csel = s.csel
      ∧ t.cstate = s.cstate
      ∧ Kept [.clk] [] [CLK_STAT.WTR.addr, CLK_STAT.WTRLEFT.addr, CLK_STAT.SWITCHING.addr] s t)
  ∧ (∀  (s : State), Quiet s → (s.flag CLK_STAT.WTR = false ∨ s.getF CLK_STAT.WTRLEFT ≠ 0 ∨ s.flag CLK_STAT.SWITCHING = true) →
    ∃ t, exec (.wtrExpiry) s = .next t
      ∧ t = s)
  ∧ (∀ (k : Nat) (b : Int) (x : Int) (s : State), Quiet s → s.clk.target = some k → s.flag CLK_STAT.SWITCHING = true → 1 ≤ k → k ≤ 11 → (x = (if (s.flag CLK_STAT.RINGFOLLOW && decide (k = 6) && !s.clk.followed) = true ∧ s.tick = false then 0 else wrapPhase k (measuredBuild k b s) s)) →
    ∃ t, exec (.buildoutEnd b) s = .next t
      ∧ (∃ u, t = settle (reselect u) ∧ u.flag CLK_STAT.SWITCHING = false ∧ u.csel = k ∧ u.cstate = 1 ∧ u.getF CLK_STAT.STEP = 0 ∧ u.clk.bo = x ∧ u.getF CLK_BUILDOUT.B = lowBits 32 x ∧ u.clk.target = none ∧ u.clk.dwell = 0 ∧ u.clk.near = 0 ∧ u.clk.far = 0 ∧ u.flag CLK_STAT.ALIGNING = (decide (x ≠ 0) && (if k = 5 then decide (x.natAbs ≤ s.getF CLK_LOOP.PTPWIN * 16000) else s.flag (CLK_CAND.ALIGN k) || (decide (k = 6) && s.flag CLK_STAT.RINGFOLLOW))) ∧ u.flag CLK_STAT.PTPGRID = (s.flag CLK_STAT.PTPGRID && !(decide (k = 5) && decide (s.getF CLK_LOOP.PTPWIN * 16000 < x.natAbs))) ∧ (∃ m, m ∈ u.flt.wire ∧ m.src = 0x24 ∧ m.addr = k))
      ∧ bitOf (t.getF (FLT_STICKY.BITS 1)) 4 = true)
  ∧ (∀ (k : Nat) (b : Int) (s : State), Quiet s → s.clk.target = some k → s.flag CLK_STAT.SWITCHING = true → 1 ≤ k → k ≤ 11 → s.flag CLK_STAT.RINGFOLLOW = false → s.flag CLK_CTRL.FORCE = false → bestCand s = some k →
    ∃ t, exec (.buildoutEnd b) s = .next t
      ∧ t.flag CLK_STAT.SWITCHING = false
      ∧ t.csel = k
      ∧ t.cstate = 1
      ∧ t.getF CLK_STAT.STEP = 0
      ∧ t.clk.target = none
      ∧ bitOf (t.getF (FLT_STICKY.BITS 1)) 4 = true)
  ∧ (∀  (s : State), Quiet s → s.cstate = 1 → stepReady s = true → s.getF CLK_STAT.STEP < lastStep s.csel →
    ∃ t, exec (.loopStep) s = .next t
      ∧ t.getF CLK_STAT.STEP = s.getF CLK_STAT.STEP + 1
      ∧ t.cstate = 1
      ∧ t.csel = s.csel
      ∧ t.clk = { s.clk with dwell := 0, near := 0, far := 0 }
      ∧ Kept [.clk] [] [CLK_STAT.STEP.addr] s t)
  ∧ (∀  (s : State), Quiet s → s.cstate = 1 → stepReady s = true → lastStep s.csel ≤ s.getF CLK_STAT.STEP →
    ∃ t, exec (.loopStep) s = .next t
      ∧ t.cstate = 2
      ∧ t.csel = s.csel
      ∧ t.clk = { s.clk with dwell := 0, near := 0, far := 0 }
      ∧ Quiet t)
  ∧ (∀  (s : State), Quiet s → (s.cstate ≠ 1 ∨ stepReady s = false) →
    ∃ t, exec (.loopStep) s = .next t
      ∧ t = s)
  ∧ (∀  (s : State), Quiet s → s.cstate = 2 → 100000 ≤ s.clk.far →
    ∃ t, exec (.clkUnlock) s = .next t
      ∧ t.cstate = 1
      ∧ t.csel = s.csel
      ∧ (t.getF CLK_STAT.STEP = (if s.csel = 5 then 2 else 1))
      ∧ t.clk.far = 0
      ∧ bitOf (t.getF (FLT_STICKY.BITS 1)) 6 = true
      ∧ Quiet t)
  ∧ (∀  (s : State), Quiet s → (s.cstate ≠ 2 ∨ s.clk.far < 100000) →
    ∃ t, exec (.clkUnlock) s = .next t
      ∧ t = s)
  ∧ (∀  (s : State), Quiet s → s.flag CLK_STAT.ALIGNING = true → s.clk.bo = 0 →
    ∃ t, exec (.alignComplete) s = .next t
      ∧ t.flag CLK_STAT.ALIGNING = false
      ∧ t.cstate = s.cstate
      ∧ t.csel = s.csel
      ∧ Kept [] [] [CLK_STAT.ALIGNING.addr] s t)
  ∧ (∀  (s : State), Quiet s → (s.flag CLK_STAT.ALIGNING = false ∨ s.clk.bo ≠ 0) →
    ∃ t, exec (.alignComplete) s = .next t
      ∧ t = s)
  ∧ (∀ (p : Int) (s : State), Quiet s → s.cstate = 0 →
    ∃ t, exec (.steerUpdate p) s = .next t
      ∧ sgn 32 (t.getF CLK_STEER.S) = sgn 32 (s.getF CLK_STEER.S) + max (-Int.ofNat (s.getF CLK_LOOP.SLEW * 2 ^ 22 / 100000)) (min (Int.ofNat (s.getF CLK_LOOP.SLEW * 2 ^ 22 / 100000)) (0 - sgn 32 (s.getF CLK_STEER.S)))
      ∧ (t.clk.bo = (if s.flag CLK_STAT.ALIGNING = true then (alignStep s).clk.bo else s.clk.bo))
      ∧ t.clk.sN = s.clk.sN + 1
      ∧ t.cstate = s.cstate
      ∧ Kept [.clk] [1] [] s t)
  ∧ (∀ (p : Int) (s : State), Quiet s → (s.cstate = 3 ∨ s.cstate = 4) → s.clk.hold.natAbs < 2 ^ 31 →
    ∃ t, exec (.steerUpdate p) s = .next t
      ∧ sgn 32 (t.getF CLK_STEER.S) = sgn 32 (s.getF CLK_STEER.S) + max (-Int.ofNat (s.getF CLK_LOOP.SLEW * 2 ^ 22 / 100000)) (min (Int.ofNat (s.getF CLK_LOOP.SLEW * 2 ^ 22 / 100000)) (s.clk.hold - sgn 32 (s.getF CLK_STEER.S)))
      ∧ (t.clk.bo = (if s.flag CLK_STAT.ALIGNING = true then (alignStep s).clk.bo else s.clk.bo))
      ∧ t.clk.sN = s.clk.sN + 1
      ∧ t.clk.hold = s.clk.hold
      ∧ t.cstate = s.cstate
      ∧ Kept [.clk] [1] [] s t)
  ∧ (∀ (p : Int) (s : State), Quiet s → (s.cstate = 1 ∨ s.cstate = 2) →
    ∃ t, exec (.steerUpdate p) s = .next t
      ∧ sgn 32 (t.getF CLK_STEER.S) = sgn 32 (s.getF CLK_STEER.S) + max (-Int.ofNat (s.getF CLK_LOOP.SLEW * 2 ^ 22 / 100000)) (min (Int.ofNat (s.getF CLK_LOOP.SLEW * 2 ^ 22 / 100000)) (max (-steerMax) (min steerMax (Config.loopSteer s.free)) - sgn 32 (s.getF CLK_STEER.S)))
      ∧ t.getF CLK_PHASE.ERR = lowBits 32 (phaseError p s)
      ∧ t.clk.sN = s.clk.sN + 1
      ∧ t.clk.dwell = s.clk.dwell + 1
      ∧ (t.clk.far = (if 4 * lockWin s.csel s < (phaseError p s).natAbs then s.clk.far + 1 else 0))
      ∧ t.cstate = s.cstate)
  ∧ (∀  (s : State), Quiet s →
    ∃ t, exec (.historyEntry) s = .next t
      ∧ (t.clk.hist = (⟨if s.clk.sN = 0 then sgn 32 (s.getF CLK_STEER.S) else s.clk.sSum, max 1 s.clk.sN, if s.clk.uN = 0 then sgn 16 (s.getF CLK_TEMP.U) else s.clk.uSum, max 1 s.clk.uN, s.boot.life.opsec, s.clk.secOk && decide (s.cstate = 2) && !s.flag (CLK_CANDST.DRIFT s.csel)⟩ :: s.clk.hist).take 70)
      ∧ t.clk.sN = 0
      ∧ t.clk.uN = 0
      ∧ t.clk.sSum = 0
      ∧ t.clk.uSum = 0
      ∧ t.getF CLK_STAT.WTRLEFT = s.getF CLK_STAT.WTRLEFT - 1
      ∧ Kept [.clk] [] [CLK_STAT.WTRLEFT.addr] s t)
  ∧ (∀  (s : State), Quiet s → (s.cstate = 3 ∨ s.cstate = 4) →
    ∃ t, exec (.holdoverSteerEval) s = .next t
      ∧ t.getF CLK_HOLDSTAT.ELAPSED = min (2 ^ CLK_HOLDSTAT.ELAPSED.width - 1) (s.getF CLK_HOLDSTAT.ELAPSED + 1)
      ∧ t.clk.hold = max (-1048576000) (min 1048576000 (holdTarget s))
      ∧ t.cstate = s.cstate
      ∧ t.clk.hist = s.clk.hist)
  ∧ (∀  (s : State), Quiet s → s.cstate ≠ 3 → s.cstate ≠ 4 →
    ∃ t, exec (.holdoverSteerEval) s = .next t
      ∧ t = s)
  ∧ (∀  (s : State), Quiet s → s.cstate = 3 → s.getF CLK_HOLDCFG.LIMIT ≤ s.getF CLK_HOLDSTAT.ELAPSED →
    ∃ t, exec (.clkLost) s = .next t
      ∧ t.cstate = 4
      ∧ t.csel = s.csel
      ∧ t.clk.hold = s.clk.hold
      ∧ bitOf (t.getF (FLT_STICKY.BITS 1)) 8 = true
      ∧ Quiet t)
  ∧ (∀  (s : State), Quiet s → (s.cstate ≠ 3 ∨ s.getF CLK_HOLDSTAT.ELAPSED < s.getF CLK_HOLDCFG.LIMIT) →
    ∃ t, exec (.clkLost) s = .next t
      ∧ t = s)
  ∧ (∀ (u : Int) (s : State), Quiet s →
    ∃ t, exec (.tempMeasure u) s = .next t
      ∧ t.getF CLK_TEMP.U = lowBits 16 u
      ∧ (t.flag PIN_THSTAT.ABOVE = (if (s.getF PIN_THERM.WARN : Int) * 16 ≤ u then true else if u < ((s.getF PIN_THERM.WARN : Int) - 5) * 16 then false else s.flag PIN_THSTAT.ABOVE))
      ∧ t.pin = { s.pin with thMax := some (match s.pin.thMax with | some x => max u x | none => u) }
      ∧ t.getF PIN_THSTAT.MAX = lowBits 16 (match s.pin.thMax with | some x => max u x | none => u)
      ∧ t.clk = { s.clk with uSum := s.clk.uSum + u, uN := s.clk.uN + 1 }
      ∧ Quiet t)

/-- With a System buffer for them, in SLAVE state a Sync latches its times, a Follow_Up completes them, also those of a measurement begun before it, a Delay_Req that leaves opens a measurement, and a Delay_Resp forms the offset and the path delay of the measurement, which are shown where the delay is accepted. An accepted Announce of the master copies its data, one of another master counts the change and ends the validity of the servo, another one moves the port state. A loss of Announce ends SLAVE, one of Sync the validity of the servo, and the loss of the last candidate moves the port state. Sync, Delay_Req and Announce are formed and queued on the port whose link is up, Sync and Delay_Req as express. (R540, R542, R544, R547, R548, R550) -/
def Obligations.PtpMessages : Prop :=
  (∀ (two : Bool) (a : Int) (cc : Int) (s : State), Quiet s → (s.nport (s.getF PTP_CFG.PORT)).ptpIn.getD (sysFree s) = true → ptpOn s = true → s.pstate = 9 →
    ∃ t, exec (.syncReceived two a cc) s = .next t
      ∧ (t.ptp = { s.ptp with t1 := if two then none else some a, t2 := some (s.stamp16 (s.getF PTP_CFG.PORT) false), csync := cc, used := false, meas := s.ptp.meas.map fun m => { m with last := false } })
      ∧ Kept [.ptp, .net] [] [] s t)
  ∧ (∀ (a : Int) (cc : Int) (s : State), Quiet s → (s.nport (s.getF PTP_CFG.PORT)).ptpIn.getD (sysFree s) = true → ptpOn s = true → s.pstate = 9 → s.ptp.t2.isSome = true → s.ptp.t1 = none → (match s.ptp.meas with | some m => m.last | none => false) = false →
    ∃ t, exec (.followUpReceived a cc) s = .next t
      ∧ t.ptp = { s.ptp with t1 := some a, csync := s.ptp.csync + cc }
      ∧ Kept [.ptp, .net] [] [] s t)
  ∧ (∀ (a : Int) (cc : Int) (m : PtpMeas) (s : State), Quiet s → (s.nport (s.getF PTP_CFG.PORT)).ptpIn.getD (sysFree s) = true → ptpOn s = true → s.pstate = 9 → s.ptp.t2.isSome = true → s.ptp.t1 = none → s.ptp.meas = some m → m.last = true → m.resp = none →
    ∃ t, exec (.followUpReceived a cc) s = .next t
      ∧ t.ptp = { s.ptp with t1 := some a, csync := s.ptp.csync + cc, meas := some { m with t1 := some a, csync := m.csync + cc } }
      ∧ Kept [.ptp, .net] [] [] s t)
  ∧ (∀ (a : Int) (m : PtpMeas) (t4 : Int) (cr : Int) (s : State), Quiet s → (s.nport (s.getF PTP_CFG.PORT)).ptpIn.getD (sysFree s) = true → ptpOn s = true → s.pstate = 9 → s.ptp.meas = some m → m.resp = none → m.t1 = some a → rndDiv ((m.t2 - a - m.csync) + (t4 - m.t3 - cr)) 2 ≤ s.ptp.pds.foldl min (rndDiv ((m.t2 - a - m.csync) + (t4 - m.t3 - cr)) 2) + s.getF PTP_SERVO2.PDWIN * 1600 →
    ∃ t, exec (.delayRespReceived t4 cr) s = .next t
      ∧ t.getF PTP_OFFSET.THETA = lowBits 32 (rndDiv ((m.t2 - a - m.csync) - (t4 - m.t3 - cr)) 2)
      ∧ t.getF PTP_MPD.DELAY = lowBits 32 (rndDiv ((m.t2 - a - m.csync) + (t4 - m.t3 - cr)) 2)
      ∧ t.ptp.pds = (rndDiv ((m.t2 - a - m.csync) + (t4 - m.t3 - cr)) 2 :: s.ptp.pds).take 16
      ∧ t.ptp.meas = none)
  ∧ (∀ (a : Int) (m : PtpMeas) (t4 : Int) (cr : Int) (s : State), Quiet s → (s.nport (s.getF PTP_CFG.PORT)).ptpIn.getD (sysFree s) = true → ptpOn s = true → s.pstate = 9 → s.ptp.meas = some m → m.resp = none → m.t1 = some a → s.ptp.pds.foldl min (rndDiv ((m.t2 - a - m.csync) + (t4 - m.t3 - cr)) 2) + s.getF PTP_SERVO2.PDWIN * 1600 < rndDiv ((m.t2 - a - m.csync) + (t4 - m.t3 - cr)) 2 →
    ∃ t, exec (.delayRespReceived t4 cr) s = .next t
      ∧ t.ptp = { s.ptp with pds := (rndDiv ((m.t2 - a - m.csync) + (t4 - m.t3 - cr)) 2 :: s.ptp.pds).take 16, meas := none }
      ∧ Kept [.ptp, .net] [] [] s t)
  ∧ (∀ (m : PtpMeas) (t4 : Int) (cr : Int) (s : State), Quiet s → (s.nport (s.getF PTP_CFG.PORT)).ptpIn.getD (sysFree s) = true → ptpOn s = true → s.pstate = 9 → s.ptp.meas = some m → m.resp = none → m.t1 = none →
    ∃ t, exec (.delayRespReceived t4 cr) s = .next t
      ∧ t.ptp = { s.ptp with meas := some { m with resp := some (t4, cr) } }
      ∧ Kept [.ptp, .net] [] [] s t)
  ∧ (∀ (par : Nat) (gm : Nat) (cls : Nat) (acc : Nat) (vr : Nat) (utc : Nat) (s : State), Quiet s → (s.nport (s.getF PTP_CFG.PORT)).ptpIn.getD (sysFree s) = true → ptpOn s = true → s.pstate ≠ 2 → roleAdmits (ptpRole s) 9 = true → ((s.pstate ≠ 8 ∧ s.pstate ≠ 9) ∨ s.ptp.parent = par * 2 ^ 64 + gm) →
    ∃ t, exec (.announceReceived par gm cls acc vr true utc 9) s = .next t
      ∧ t.pstate = 9
      ∧ t.getF PTP_GMID_LO.ID = gm / 2 ^ 32 % 2 ^ 32
      ∧ t.getF PTP_GMID_HI.ID = gm % 2 ^ 32
      ∧ t.getF PTP_GMQ.CLASS = cls % 2 ^ 8
      ∧ t.getF PTP_GMQ.ACCURACY = acc % 2 ^ 8
      ∧ t.getF PTP_GMQ.VARIANCE = vr % 2 ^ 16
      ∧ t.flag PTP_UTC.VALID = true
      ∧ t.ptp = { s.ptp with parent := par * 2 ^ 64 + gm })
  ∧ (∀ (par : Nat) (gm : Nat) (cls : Nat) (acc : Nat) (vr : Nat) (uv : Bool) (utc : Nat) (st : Nat) (s : State), Quiet s → (s.nport (s.getF PTP_CFG.PORT)).ptpIn.getD (sysFree s) = true → ptpOn s = true → (s.pstate = 8 ∨ s.pstate = 9) → roleAdmits (ptpRole s) st = true → (st = 8 ∨ st = 9) → s.ptp.parent ≠ par * 2 ^ 64 + gm →
    ∃ t, exec (.announceReceived par gm cls acc vr uv utc st) s = .next t
      ∧ t.pstate = st
      ∧ t.getF PTP_EVT.MASTERCHG = min (2 ^ PTP_EVT.MASTERCHG.width - 1) (s.getF PTP_EVT.MASTERCHG + 1)
      ∧ t.flag PTP_STAT.SERVOVALID = false
      ∧ t.ptp.parent = par * 2 ^ 64 + gm
      ∧ t.ptp.meas = none)
  ∧ (∀ (st : Nat) (par : Nat) (gm : Nat) (cls : Nat) (acc : Nat) (vr : Nat) (uv : Bool) (utc : Nat) (s : State), Quiet s → (s.nport (s.getF PTP_CFG.PORT)).ptpIn.getD (sysFree s) = true → ptpOn s = true → s.pstate ≠ 2 → s.pstate ≠ 9 → roleAdmits (ptpRole s) st = true → st < 8 →
    ∃ t, exec (.announceReceived par gm cls acc vr uv utc st) s = .next t
      ∧ t.pstate = st
      ∧ t.ptp = s.ptp
      ∧ Kept [.net] [] [PTP_STAT.PORTSTATE.addr] s t)
  ∧ (∀ (st : Nat) (s : State), Quiet s → ptpOn s = true → s.pstate ≠ 2 →
    ∃ t, exec (.ptpLoss 0 st) s = .next t
      ∧ (t.pstate = (if ptpRole s = 0 then 4 else 6))
      ∧ ((s.pstate = 9 → t.flag PTP_STAT.SERVOVALID = false ∧ t.ptp.okRun = 0 ∧ t.ptp.badRun = 0)))
  ∧ (∀ (st : Nat) (s : State), Quiet s → ptpOn s = true → s.pstate = 9 →
    ∃ t, exec (.ptpLoss 1 st) s = .next t
      ∧ t.pstate = 9
      ∧ t.flag PTP_STAT.SERVOVALID = false
      ∧ t.ptp.okRun = 0
      ∧ t.ptp.badRun = 0)
  ∧ (∀ (st : Nat) (s : State), Quiet s → ptpOn s = true → s.pstate ≠ 2 → roleAdmits (ptpRole s) st = true → st ≠ 9 → st < 16 →
    ∃ t, exec (.ptpLoss 2 st) s = .next t
      ∧ t.pstate = st
      ∧ ((s.pstate = 9 → t.flag PTP_STAT.SERVOVALID = false)))
  ∧ (∀  (s : State), Quiet s → sysFree s = true → s.flag (NET_PSTAT.LINK (s.getF PTP_CFG.PORT)) = true → ptpOn s = true → s.pstate = 6 →
    ∃ t, exec (.ptpMessageSend 0) s = .next t
      ∧ (∃ f, (t.nport (s.getF PTP_CFG.PORT)).q = (s.nport (s.getF PTP_CFG.PORT)).q ++ [f] ∧ f.kind = 4 ∧ f.pcp = s.getF (NET_PVLAN.PCP (s.getF PTP_CFG.PORT)) ∧ f.express = true ∧ f.host = none ∧ f.bytes = ptpWrap (s.getF PTP_CFG.PORT) true (ptpMsg 0 (if s.flag PTP_CFG.TWOSTEP = true then 0x200 else 0) 0 (smGet 0 s.ptp.seqs 0) 0 (logIval (s.getF PTP_INTV.LOGSYNC)) (beBytes 0 10) s) (Config.ipHeader (s.free + 1)) s)
      ∧ smGet 0 t.ptp.seqs 0 = ((smGet 0 s.ptp.seqs 0) + 1) % 65536
      ∧ t.outs = s.outs
      ∧ (∀ q, q ≠ s.getF PTP_CFG.PORT → t.nport q = s.nport q)
      ∧ Kept [.mem, .net, .ptp, .free] [] [] s t)
  ∧ (∀  (s : State), Quiet s → sysFree s = true → s.flag (NET_PSTAT.LINK (s.getF PTP_CFG.PORT)) = true → ptpOn s = true → s.pstate = 9 →
    ∃ t, exec (.ptpMessageSend 1) s = .next t
      ∧ (∃ f, (t.nport (s.getF PTP_CFG.PORT)).q = (s.nport (s.getF PTP_CFG.PORT)).q ++ [f] ∧ f.kind = 4 ∧ f.pcp = s.getF (NET_PVLAN.PCP (s.getF PTP_CFG.PORT)) ∧ f.express = true ∧ f.host = none ∧ f.bytes = ptpWrap (s.getF PTP_CFG.PORT) true (ptpMsg 1 0 0 (smGet 0 s.ptp.seqs 1) 1 0x7F (beBytes 0 10) s) (Config.ipHeader (s.free + 1)) s)
      ∧ smGet 0 t.ptp.seqs 1 = ((smGet 0 s.ptp.seqs 1) + 1) % 65536
      ∧ t.outs = s.outs
      ∧ (∀ q, q ≠ s.getF PTP_CFG.PORT → t.nport q = s.nport q)
      ∧ Kept [.mem, .net, .ptp, .free] [] [] s t)
  ∧ (∀  (s : State), Quiet s → sysFree s = true → s.flag (NET_PSTAT.LINK (s.getF PTP_CFG.PORT)) = true → ptpOn s = true → s.pstate = 6 →
    ∃ t, exec (.ptpMessageSend 11) s = .next t
      ∧ (∃ f, (t.nport (s.getF PTP_CFG.PORT)).q = (s.nport (s.getF PTP_CFG.PORT)).q ++ [f] ∧ f.kind = 4 ∧ f.pcp = s.getF (NET_PVLAN.PCP (s.getF PTP_CFG.PORT)) ∧ f.express = isExpress (s.getF PTP_CFG.PORT) (s.getF (NET_PVLAN.PCP (s.getF PTP_CFG.PORT))) s ∧ f.host = none ∧ f.bytes = ptpWrap (s.getF PTP_CFG.PORT) false (ptpMsg 11 (8 + 4 * s.getF PTP_UTC.VALID) 0 (smGet 0 s.ptp.seqs 11) 5 (logIval (s.getF PTP_INTV.LOGANN)) (beBytes 0 10 ++ beBytes (s.getF PTP_UTC.OFFSET) 2 ++ beBytes 0 1 ++ beBytes (s.getF PTP_DS.PRIO1) 1 ++ beBytes (masterClass s) 1 ++ beBytes (s.getF PTP_DS.ACCURACY) 1 ++ beBytes (s.getF PTP_DS2.VARIANCE) 2 ++ beBytes (s.getF PTP_DS.PRIO2) 1 ++ beBytes Config.ptpIdentity 8 ++ beBytes 0 2 ++ beBytes (Config.ptpField s.free) 1) s) (Config.ipHeader (s.free + 1)) s)
      ∧ smGet 0 t.ptp.seqs 11 = ((smGet 0 s.ptp.seqs 11) + 1) % 65536
      ∧ t.outs = s.outs
      ∧ (∀ q, q ≠ s.getF PTP_CFG.PORT → t.nport q = s.nport q)
      ∧ Kept [.mem, .net, .ptp, .free] [] [] s t)
  ∧ (∀  (s : State), Quiet s → ptpOn s = false →
    ∃ t, exec (.ptpMessageSend 0) s = .next t
      ∧ t = s)
  ∧ (∀ (p : Nat) (pre : Bool) (f : EgFrame) (q : List EgFrame) (o : Nat) (b : Int) (s : State), Quiet s → p < 4 → s.flag (NET_PSTAT.LINK p) = true → s.flag (NET_PSTAT.PAUSED p) = false → nextEg (s.nport p).q = some (f, q) → f.kind = 4 → f.host = none → ptpOff f.bytes = some o → ptpType f.bytes o = 1 → s.ptp.t2 = some b → s.ptp.used = false →
    ∃ t, exec (.frameTransmitDone p pre) s = .next t
      ∧ t.outs = .frame p (withFcs f.bytes) :: s.outs
      ∧ (t.nport p).q = q
      ∧ t.ptp = { s.ptp with used := true, meas := some ⟨s.ptp.t1, b, s.ptp.csync, s.stamp16 p true, none, true⟩ })

/-- A one-shot trigger that fires counts and is DONE, a periodic one moves on to its next instant, counting those it missed; with a tick a TAKE trigger that the pending take names gives that take its shot and a PORT trigger gives every start and stop that waits for it its boundary; a level action drives its ball. The end of a pulse returns the ball to its idle level. An edge that a capture selects enters its FIFO with the time of the counter, or is counted where the FIFO is full. (R558, R559, R560, R561, R566, R567) -/
def Obligations.ClapperEvents : Prop :=
  (∀ (i : Nat) (k : TrigU) (w : Nat) (p : Take) (s : State), Quiet s → i < 32 → s.ptp.trig.find? (fun c => c.1 = i) = some (i, k) → s.getF (CLP_TSTAT.STATE i) = 1 → 0 ≤ s.since k.sec k.ns → w = (s.reg (0x20400 + 0x20 * i)).toNat → bitOf w 19 = false → bitOf w 18 = false → bits w 28 3 = 1 → s.take.pending = some p → s.tick = true → p.when = 3 → p.trigger = i → p.sT = none → (List.range 3).all (fun tr => !bitOf (s.sess tr).mask 1) = true →
    ∃ t, exec (.clapperTriggerFire i) s = .next t
      ∧ t.getF (CLP_TSTAT.FIRED i) = min (2 ^ (CLP_TSTAT.FIRED i).width - 1) (s.getF (CLP_TSTAT.FIRED i) + 1)
      ∧ t.getF (CLP_TSTAT.STATE i) = 2
      ∧ t.take = { s.take with pending := some { p with sT := some (clapShot p.k s) } }
      ∧ Kept [.take] [] [(CLP_TSTAT.STATE i).addr] s t)
  ∧ (∀ (i : Nat) (k : TrigU) (w : Nat) (s : State), Quiet s → i < 32 → s.ptp.trig.find? (fun c => c.1 = i) = some (i, k) → s.getF (CLP_TSTAT.STATE i) = 1 → 0 ≤ s.since k.sec k.ns → w = (s.reg (0x20400 + 0x20 * i)).toNat → bitOf w 19 = false → bitOf w 18 = false → bits w 28 3 = 2 → s.tick = true →
    ∃ t, exec (.clapperTriggerFire i) s = .next t
      ∧ t.getF (CLP_TSTAT.FIRED i) = min (2 ^ (CLP_TSTAT.FIRED i).width - 1) (s.getF (CLP_TSTAT.FIRED i) + 1)
      ∧ t.getF (CLP_TSTAT.STATE i) = 2
      ∧ (∀ q, (t.port q).reqs = fireScheds i (edgeShot s) (s.port q).reqs)
      ∧ (t.net.reqs = s.net.reqs.map fun r => if r.2.waits i then (r.1, { r.2 with shot := some (edgeShot s) }) else r)
      ∧ (t.dl.reqs = s.dl.reqs.map fun r => if r.2.waits i then (r.1, { r.2 with shot := some (edgeShot s) }) else r)
      ∧ Kept [.sp, .net, .dl] [] [(CLP_TSTAT.STATE i).addr] s t)
  ∧ (∀ (i : Nat) (k : TrigU) (w : Nat) (b : Nat) (l : Bool) (s : State), Quiet s → i < 32 → s.ptp.trig.find? (fun c => c.1 = i) = some (i, k) → s.getF (CLP_TSTAT.STATE i) = 1 → 0 ≤ s.since k.sec k.ns → w = (s.reg (0x20400 + 0x20 * i)).toNat → bitOf w 19 = false → bitOf w 18 = false → trigBall w = some b → bits w 20 3 = (if l then 2 else 3) →
    ∃ t, exec (.clapperTriggerFire i) s = .next t
      ∧ t.getF (CLP_TSTAT.FIRED i) = min (2 ^ (CLP_TSTAT.FIRED i).width - 1) (s.getF (CLP_TSTAT.FIRED i) + 1)
      ∧ t.getF (CLP_TSTAT.STATE i) = 2
      ∧ (t.outs = (if s.hiZ = true then s.outs else .pin (ballName b) l :: s.outs))
      ∧ t.pin.driven.head? = some (b, l)
      ∧ Kept [.pin, .outs] [] [(CLP_TSTAT.STATE i).addr] s t)
  ∧ (∀ (i : Nat) (k : TrigU) (w : Nat) (x : TrigU) (n : Nat) (s : State), Quiet s → i < 32 → s.ptp.trig.find? (fun c => c.1 = i) = some (i, k) → s.getF (CLP_TSTAT.STATE i) = 1 → 0 ≤ s.since k.sec k.ns → w = (s.reg (0x20400 + 0x20 * i)).toNat → bitOf w 18 = false → bitOf w 19 = true → bits w 28 3 = 0 → nextTrig k (s.getF (CLP_TPER.NS i) * 2 ^ 32 + s.getF (CLP_TPERF.FRAC i)) s = (x, n) →
    ∃ t, exec (.clapperTriggerFire i) s = .next t
      ∧ t.getF (CLP_TSTAT.FIRED i) = min (2 ^ (CLP_TSTAT.FIRED i).width - 1) (s.getF (CLP_TSTAT.FIRED i) + 1)
      ∧ t.getF (CLP_TSTAT.MISSED i) = min (2 ^ (CLP_TSTAT.MISSED i).width - 1) (s.getF (CLP_TSTAT.MISSED i) + n)
      ∧ (t.getF (CLP_TSTAT.STATE i) = (if x.left = 0 then 2 else 1))
      ∧ (t.ptp = { s.ptp with trig := s.ptp.trig.map fun c => if c.1 = i then (i, { x with pulse := c.2.pulse }) else c })
      ∧ Kept [.ptp] [] [(CLP_TSTAT.STATE i).addr, (CLP_TSTAT.FIRED i).addr, (CLP_TSTAT.MISSED i).addr] s t)
  ∧ (∀ (i : Nat) (k : TrigU) (b : Nat) (s : State), Quiet s → s.ptp.trig.find? (fun c => c.1 = i && c.2.pulse) = some (i, k) → trigBall (s.reg (0x20400 + 0x20 * i)).toNat = some b →
    ∃ t, exec (.triggerPulseEnd i) s = .next t
      ∧ (t.outs = (if s.hiZ = true then s.outs else .pin (ballName b) (idleLevel (bits (s.reg (0x20400 + 0x20 * i)).toNat 20 3)) :: s.outs))
      ∧ (t.ptp = { s.ptp with trig := s.ptp.trig.map fun c => if c.1 = i then (i, { c.2 with pulse := false }) else c })
      ∧ t.pin.driven.head? = some (b, idleLevel (bits (s.reg (0x20400 + 0x20 * i)).toNat 20 3))
      ∧ Kept [.ptp, .pin, .outs] [] [] s t)
  ∧ (∀ (c : Nat) (fall : Bool) (s : State), Quiet s → c < 16 → s.flag (CLP_CCFG.EN c) = true → bitOf (s.getF (CLP_CCFG.EDGE c)) (b2n fall) = true → edgeClose c s = false → (s.capFifo c).length < 16 →
    ∃ t, exec (.captureEdge c fall) s = .next t
      ∧ t.capFifo c = s.capFifo c ++ [⟨s.ptp.sec, s.ptp.ns, fall⟩]
      ∧ (∀ d, d ≠ c → t.capFifo d = s.capFifo d)
      ∧ Kept [.cmd, .outs, .ptp] [0xD] [] s t)
  ∧ (∀ (c : Nat) (fall : Bool) (s : State), Quiet s → c < 16 → s.flag (CLP_CCFG.EN c) = true → bitOf (s.getF (CLP_CCFG.EDGE c)) (b2n fall) = true → edgeClose c s = false → 16 ≤ (s.capFifo c).length →
    ∃ t, exec (.captureEdge c fall) s = .next t
      ∧ t.getF (CLP_CSTAT.OVF c) = min (2 ^ (CLP_CSTAT.OVF c).width - 1) (s.getF (CLP_CSTAT.OVF c) + 1)
      ∧ (t.ptp = { s.ptp with capAt := (c, s.time) :: s.ptp.capAt.filter fun x => x.1 ≠ c })
      ∧ Kept [.ptp] [] [(CLP_CSTAT.OVF c).addr] s t)

/-- A request to a target that the master cannot reach, or to memory that is barred to it, is answered by DECODE; another one to an idle target is granted the path, one to a held target waits, with the stall cycles of the bank conflicts that it meets, and one without a credit or from a master in reset is not made. Two writes of one word of the swap window in a cycle merge, are counted and reported, and an error in what a burst reads from an SRAM is counted. A burst that completes where no other waits gives the path back, counts its cycles and, a write, lands its words. A reset master keeps only its granted bursts, as orphans, with what they have moved. The scrubber counts a corrected word, repairs a row at its third while the table has room, and records a double-bit error. Training that succeeds makes the LPDDR5 ready, one that fails turns it off; a retraining counts. The end of a replacement puts a spare row into service. (R574, R575, R576, R577, R580, R581, R583, R589, R591, R594, R597, R605) -/
def Obligations.CrossbarAndMemoryEvents : Prop :=
  (∀ (m : Nat) (p : XbarPath) (n : Nat) (k : Nat) (a : BurstData) (hits : List BankHit) (col : Option DualAccess) (x : Option SramErr) (s : State), Quiet s → m < 12 → p.target < 10 → p.into ≤ 10 → 1 ≤ n → n ≤ 64 → k < 4 → turnedAway m p k a.addr s = true →
    ∃ t, exec (.xbarRequest m p n k a hits col x) s = .next t
      ∧ t.fab = s.fab
      ∧ t.mem = s.mem
      ∧ Raised 0x01 s t)
  ∧ (∀ (m : Nat) (p : XbarPath) (n : Nat) (k : Nat) (a : BurstData) (hits : List BankHit) (y : Nat) (s : State), Quiet s → m < 12 → p.target < 10 → p.into ≤ 10 → 1 ≤ n → n ≤ 64 → k < 4 → turnedAway m p k a.addr s = false → mayIssue m p.target s = true → (s.fab.bursts.all fun b => b.target ≠ p.target) = true → holdsPath p.target s = false → y = (if k = 2 then p.into else 10) → holdsPath y s = false → s.fab.ddrBuf + ddrPosted (⟨m, p.target, n, k, false, 0, 0, false, y, p.chain && decide (m = 2), a.addr, a.data⟩) ≤ 32768 → (m ≠ 0 ∨ p.target ≠ 1 ∨ s.fab.t1q = []) →
    ∃ t, exec (.xbarRequest m p n k a hits none none) s = .next t
      ∧ (t.fab.bursts = s.fab.bursts ++ [⟨m, p.target, n, k, true, 0, (bankStalls (bankRank m) (fun b => a.addr + 32 * b) hits s).1, false, y, p.chain && decide (m = 2), a.addr, a.data⟩])
      ∧ smGet 12 t.fab.parked p.target = m
      ∧ (t.getF MEM_CONFLICT.STALLS = (bankStalls (bankRank m) (fun b => a.addr + 32 * b) hits s).2.getF MEM_CONFLICT.STALLS)
      ∧ t.mem = s.mem
      ∧ Kept [.fab] [0xB] [MEM_CONFLICT.STALLS.addr] s t)
  ∧ (∀ (m : Nat) (p : XbarPath) (n : Nat) (k : Nat) (a : BurstData) (hits : List BankHit) (y : Nat) (s : State), Quiet s → m < 12 → p.target < 10 → p.into ≤ 10 → 1 ≤ n → n ≤ 64 → k < 4 → turnedAway m p k a.addr s = false → mayIssue m p.target s = true → holdsPath p.target s = true → y = (if k = 2 then p.into else 10) →
    ∃ t, exec (.xbarRequest m p n k a hits none none) s = .next t
      ∧ (t.fab = { s.fab with bursts := s.fab.bursts ++ [⟨m, p.target, n, k, false, 0, (bankStalls (bankRank m) (fun b => a.addr + 32 * b) hits s).1, false, y, p.chain && decide (m = 2), a.addr, a.data⟩] })
      ∧ (t.getF MEM_CONFLICT.STALLS = (bankStalls (bankRank m) (fun b => a.addr + 32 * b) hits s).2.getF MEM_CONFLICT.STALLS)
      ∧ Kept [.fab] [0xB] [MEM_CONFLICT.STALLS.addr] s t)
  ∧ (∀ (m : Nat) (p : XbarPath) (n : Nat) (k : Nat) (a : BurstData) (hits : List BankHit) (col : Option DualAccess) (x : Option SramErr) (s : State), Quiet s → m < 12 → p.target < 10 → p.into ≤ 10 → 1 ≤ n → n ≤ 64 → k < 4 → turnedAway m p k a.addr s = false → mayIssue m p.target s = false →
    ∃ t, exec (.xbarRequest m p n k a hits col x) s = .next t
      ∧ t = s)
  ∧ (∀ (m : Nat) (p : XbarPath) (n : Nat) (k : Nat) (a : BurstData) (c : DualAccess) (w0 : Word × Nat) (w1 : Word × Nat) (d : Nat) (s : State), Quiet s → m < 12 → p.target < 10 → p.into ≤ 10 → 1 ≤ n → n ≤ 64 → k < 4 → turnedAway m p k a.addr s = false → mayIssue m p.target s = true → p.target = 5 → d = c.addr / 4 * 4 → 0x7000000 ≤ d → d < 0x7040000 → c.port0 = some w0 → c.port1 = some w1 →
    ∃ t, exec (.xbarRequest m p n k a [] (some c) none) s = .next t
      ∧ t.word d = strobed (some w1) (strobed (some w0) (s.word d))
      ∧ t.getF MEM_WWCOL.COUNT = min (2 ^ MEM_WWCOL.COUNT.width - 1) (s.getF MEM_WWCOL.COUNT + 1)
      ∧ bitOf (t.getF (FLT_STICKY.BITS 2)) 17 = true)
  ∧ (∀ (m : Nat) (p : XbarPath) (n : Nat) (k : Nat) (a : BurstData) (x : SramErr) (s : State), Quiet s → m < 12 → p.target < 10 → p.into ≤ 10 → 1 ≤ n → n ≤ 64 → k < 4 → turnedAway m p k a.addr s = false → mayIssue m p.target s = true → k ≠ 1 → (p.target = 3 ∨ p.target = 4 ∨ p.target = 5) →
    ∃ t, exec (.xbarRequest m p n k a [] none (some x)) s = .next t
      ∧ (t.getF MEM_ECC.CORR = (if x.single = true then min (2 ^ MEM_ECC.CORR.width - 1) (s.getF MEM_ECC.CORR + 1) else s.getF MEM_ECC.CORR))
      ∧ (t.getF MEM_ECC.UNCORR = (if x.single = true then s.getF MEM_ECC.UNCORR else min (2 ^ MEM_ECC.UNCORR.width - 1) (s.getF MEM_ECC.UNCORR + 1))))
  ∧ (∀ (tg : Nat) (lat : Nat) (b : Burst) (s : State), Quiet s → tg < 10 → (s.fab.bursts.find? (fun x => x.target = tg ∧ x.granted) = some b) → (s.fab.bursts.filter fun x => x.target = tg).length = 1 → b.into ≠ tg → (s.fab.bursts.all fun x => x.granted) = true →
    ∃ t, exec (.burstComplete tg lat) s = .next t
      ∧ (t.fab.bursts = s.fab.bursts.filter fun x => x.target ≠ tg)
      ∧ t.getF (FAB_TBUSY.CYC tg) = min (2 ^ (FAB_TBUSY.CYC tg).width - 1) (s.getF (FAB_TBUSY.CYC tg) + pathHeld b lat s)
      ∧ (t.getF FAB_XRESET.COUNT = (if b.orphan = true then min (2 ^ FAB_XRESET.COUNT.width - 1) (s.getF FAB_XRESET.COUNT + 1) else s.getF FAB_XRESET.COUNT))
      ∧ t.mem = (landBurst b s).mem
      ∧ ((b.kind ≠ 1 → t.mem = s.mem))
      ∧ Kept [.fab, .mem, .free] [8, 0xB] [] s t)
  ∧ (∀ (r : XbarReset) (s : State), Quiet s → r.master < 12 →
    ∃ t, exec (.masterReset r) s = .next t
      ∧ (t.fab.bursts = (s.fab.bursts.filter fun x => !(decide (x.master = r.master) && !x.granted)).map fun x => if x.master = r.master then { x with orphan := true, data := x.data.take (8 * smGet 0 r.moved x.target) } else x)
      ∧ (t.fab.inReset.contains r.master = s.fab.bursts.any fun x => decide (x.master = r.master) && x.granted)
      ∧ t.mem = s.mem
      ∧ Kept [.fab] [] [] s t)
  ∧ (∀ (x : SramErr) (key : Nat) (s : State), Quiet s → x.inst < 1024 → x.row < 65536 → key = x.inst * 65536 + x.row → smGet 0 s.fab.rowErr key ≤ 1 →
    ∃ t, exec (.scrub x 1) s = .next t
      ∧ t.getF MEM_ECC.CORR = min (2 ^ MEM_ECC.CORR.width - 1) (s.getF MEM_ECC.CORR + 1)
      ∧ smGet 0 t.fab.rowErr key = smGet 0 s.fab.rowErr key + 1
      ∧ (∀ j, j ≠ key → smGet 0 t.fab.rowErr j = smGet 0 s.fab.rowErr j)
      ∧ t.mem = s.mem
      ∧ Kept [.fab] [] [MEM_ECC.CORR.addr] s t)
  ∧ (∀ (x : SramErr) (key : Nat) (s : State), Quiet s → x.inst < 1024 → x.row < 65536 → key = x.inst * 65536 + x.row → 2 ≤ smGet 0 s.fab.rowErr key → s.fab.repair.length < 4092 →
    ∃ t, exec (.scrub x 1) s = .next t
      ∧ t.getF MEM_ECC.CORR = min (2 ^ MEM_ECC.CORR.width - 1) (s.getF MEM_ECC.CORR + 1)
      ∧ smGet 0 t.fab.rowErr key = smGet 0 s.fab.rowErr key + 1
      ∧ t.fab.repaired.contains key = true)
  ∧ (∀ (x : SramErr) (s : State), Quiet s → x.inst < 1024 → x.row < 65536 → s.fab.repair.length < 4092 →
    ∃ t, exec (.scrub x 2) s = .next t
      ∧ t.getF MEM_ECC.UNCORR = min (2 ^ MEM_ECC.UNCORR.width - 1) (s.getF MEM_ECC.UNCORR + 1)
      ∧ t.getF MEM_ECCADDR.INST = x.inst
      ∧ t.getF MEM_ECCADDR.ROW = x.row
      ∧ t.fab.repaired.contains (x.inst * 65536 + x.row) = true
      ∧ bitOf (t.getF (FLT_STICKY.BITS 2)) 16 = true
      ∧ Quiet t)
  ∧ (∀  (s : State), Quiet s → s.fab.training = true →
    ∃ t, exec (.ddrTrainingDone true) s = .next t
      ∧ t.flag DDR_STAT.READY = true
      ∧ t.flag DDR_STAT.TRAINFAIL = false
      ∧ t.fab = { s.fab with training := false }
      ∧ Kept [.fab] [] [DDR_STAT.READY.addr] s t)
  ∧ (∀  (s : State), Quiet s → s.fab.training = true →
    ∃ t, exec (.ddrTrainingDone false) s = .next t
      ∧ t.flag DDR_STAT.TRAINFAIL = true
      ∧ t.flag DDR_CFG.EN = false
      ∧ t.flag DDR_STAT.READY = s.flag DDR_STAT.READY
      ∧ t.fab = { s.fab with training := false }
      ∧ Raised 0x56 s t)
  ∧ (∀  (s : State), Quiet s → s.flag DDR_STAT.READY = true →
    ∃ t, exec (.ddrRetrain) s = .next t
      ∧ t.getF DDR_STAT.RETRAINS = min (2 ^ DDR_STAT.RETRAINS.width - 1) (s.getF DDR_STAT.RETRAINS + 1)
      ∧ t.mem = s.mem
      ∧ Kept [] [] [DDR_STAT.RETRAINS.addr] s t)
  ∧ (∀ (row : Nat) (rest : List Nat) (s : State), Quiet s → s.fab.replacing = row :: rest → s.fab.held = [] → 0 < s.getF MRAM_STAT.SPARES →
    ∃ t, exec (.mramReplaceDone) s = .next t
      ∧ t.getF MRAM_STAT.SPARES = s.getF MRAM_STAT.SPARES - 1
      ∧ (row, 82 - s.getF MRAM_STAT.SPARES) ∈ t.fab.spareOf
      ∧ 512 ≤ smGet 0 t.fab.wear row
      ∧ t.fab.held = []
      ∧ bitOf (t.getF (FLT_STICKY.BITS 2)) 20 = true
      ∧ Quiet t)

/-- Every message of a fault source is accepted: its sticky bit is set and it is counted. The oldest entry of the queue, where its bucket holds a token and the permanent area is open, is written as a record with its END word, and the head moves on; with an empty bucket it is counted as suppressed. When its period has passed a bucket gains a token up to its depth. (R657, R658, R665, R677, R680, R681, R683) -/
def Obligations.FaultsAndTheLog : Prop :=
  (∀ (src : Nat) (k : Nat) (a : Nat) (s : State), Quiet s → (sevDefault src).isSome = true → (k = 0 ∨ src = 0x11) →
    ∃ t, exec (.faultMessage src k a) s = .next t
      ∧ Raised src s t
      ∧ Kept acceptParts acceptPages [] s t)
  ∧ (∀ (x : LogEntry) (q : List LogEntry) (p : Nat) (s : State), Quiet s → s.mode ≠ 0 → s.flt.scanned = true → s.flt.queue = x :: q → (s.flag (LOG_RATE.UNLIM x.code) = true ∨ s.tokens x.code ≠ 0) → x.payload.length % 2 = 0 → x.payload.length ≤ 60 → s.flag LOG_STAT.PERMFULL = false → s.flag LOG_STAT.ERASING = false → p = s.getF LOG_PHEAD.OFF → p % 8 = 0 → p + 4 * (x.payload.length + 4) + 8 ≤ 0x40000 → x.notify = false → (s.fab.wear.all fun c => decide (c.2 + 1024 < wearLimit s)) = true → 1024 < wearLimit s → s.fab.replacing = [] →
    ∃ t, exec (.logRecordWrite) s = .next t
      ∧ t.wordsAt (mramBase + p) (recWords x.code (smGet 0 s.flt.pend x.code) x.payload s).length = (recWords x.code (smGet 0 s.flt.pend x.code) x.payload s)
      ∧ t.wordsAt (mramBase + p + 4 * (recWords x.code (smGet 0 s.flt.pend x.code) x.payload s).length) 2 = [0, 0]
      ∧ t.getF LOG_PHEAD.OFF = p + 4 * (recWords x.code (smGet 0 s.flt.pend x.code) x.payload s).length
      ∧ (∀ a, a < mramBase + p ∨ mramBase + p + 4 * (recWords x.code (smGet 0 s.flt.pend x.code) x.payload s).length + 8 ≤ a → t.byte a = s.byte a)
      ∧ t.flt.queue = q
      ∧ t.getF LOG_WRITTEN.COUNT = min (2 ^ LOG_WRITTEN.COUNT.width - 1) (s.getF LOG_WRITTEN.COUNT + 1)
      ∧ smGet 0 t.flt.pend x.code = 0
      ∧ ((s.flag (LOG_RATE.UNLIM x.code) = false → t.tokens x.code = s.tokens x.code - 1))
      ∧ Kept [.mem, .fab, .flt] [8, 0xA, 0xB] [] s t)
  ∧ (∀ (x : LogEntry) (q : List LogEntry) (s : State), Quiet s → s.mode ≠ 0 → s.flt.scanned = true → s.flt.queue = x :: q → s.flag (LOG_RATE.UNLIM x.code) = false → s.tokens x.code = 0 →
    ∃ t, exec (.logRecordWrite) s = .next t
      ∧ t.flt.queue = q
      ∧ smGet 0 t.flt.pend x.code = min 255 (smGet 0 s.flt.pend x.code + 1)
      ∧ t.getF LOG_SUPPTOT.COUNT = min (2 ^ LOG_SUPPTOT.COUNT.width - 1) (s.getF LOG_SUPPTOT.COUNT + 1)
      ∧ t.mem = s.mem
      ∧ Kept [.flt] [0xB] [LOG_SUPPTOT.COUNT.addr] s t)
  ∧ (∀ (c : Nat) (s : State), Quiet s → c < 256 → tokenDue c s ≤ s.time →
    ∃ t, exec (.logTokenGain c) s = .next t
      ∧ smGet 0 t.flt.timers c = tokenDue c s
      ∧ (t.tokens c = (if s.tokens c < s.getF (LOG_RATE.DEPTH c) then s.tokens c + 1 else s.tokens c))
      ∧ (∀ d, d ≠ c → t.tokens d = s.tokens d)
      ∧ Kept [.flt] [] [] s t)

/-- A link that comes up, or goes down with the mirror lost, shows it and is reported. A holder sends renewals and counts those unanswered; an acknowledgement pairs it, and the first sends the whole state. A stand-in answers a renewal, takes its time and its lease length and follows grid marks, and from STANDBY enters mode STANDIN; a FENCED chip that gets one becomes STANDIN. A paired holder whose lease runs out, or a holder whose LEASE_IN rises, fences: role FENCED, LEASE_OUT low, its transmit contexts stopped, SAFE. (R707, R708, R709, R710, R713, R714, R720) -/
def Obligations.LeaseAndFence : Prop :=
  (∀  (s : State), Quiet s → s.hostOpen = true → s.flag STI_STAT.LINK = false →
    ∃ t, exec (.stiLinkUp) s = .next t
      ∧ t.flag STI_STAT.LINK = true
      ∧ bitOf (t.getF (FLT_STICKY.BITS 3)) 3 = true
      ∧ ((s.pairedHolder = true → s.sti.partnerValid = false → .sti "WHOLE_STATE" [(s.reg 0x10).toNat, s.getF SYS_TAKE_CNT.COUNT] ∈ t.outs))
      ∧ t.mem = s.mem
      ∧ Quiet t)
  ∧ (∀  (s : State), Quiet s → s.flag STI_STAT.LINK = true →
    ∃ t, exec (.stiLinkDown) s = .next t
      ∧ t.flag STI_STAT.LINK = false
      ∧ t.flag STI_STAT.MVALID = false
      ∧ t.sti.partnerValid = false
      ∧ t.sti.sent = none
      ∧ bitOf (t.getF (FLT_STICKY.BITS 3)) 3 = true
      ∧ ((s.flag STI_STAT.MVALID = true → bitOf (t.getF (FLT_STICKY.BITS 3)) 5 = true))
      ∧ t.mem = s.mem
      ∧ Quiet t)
  ∧ (∀  (s : State), Quiet s → s.role = 1 → s.flag STI_STAT.LINK = true → s.hostOpen = true →
    ∃ t, exec (.renewSend) s = .next t
      ∧ t.outs = .sti "RENEW" [s.sti.nextN, s.getF STI_CFG.LEASE] :: s.outs
      ∧ t.sti = { s.sti with sent := some (s.sti.nextN, s.getF STI_CFG.LEASE), sentAt := s.time, nextN := (s.sti.nextN + 1) % 2 ^ 32 }
      ∧ (t.getF STI_EVT.MISSED = (if s.sti.sent.isSome = true then min (2 ^ STI_EVT.MISSED.width - 1) (s.getF STI_EVT.MISSED + 1) else s.getF STI_EVT.MISSED))
      ∧ Kept [.sti, .outs] [] [STI_EVT.MISSED.addr] s t)
  ∧ (∀ (n : Nat) (ll : Nat) (s : State), Quiet s → s.role = 2 → s.mode ≠ 2 → (s.mode ≠ 6 ∨ s.flag CLK_STAT.RINGFOLLOW = true) → s.flag STI_STAT.LINK = true → s.hostOpen = true → s.sti.left = false →
    ∃ t, exec (.renewReceived n ll) s = .next t
      ∧ t.outs = .sti "ACK" [n] :: s.outs
      ∧ t.sti = { s.sti with rn := s.time, lz := ll, waitLease := false }
      ∧ t.flag STI_STAT.PAIRED = true
      ∧ t.getF STI_RENEW.SEQ = n % 2 ^ 32
      ∧ t.role = 2
      ∧ Kept [.sti, .outs] [] [STI_RENEW.SEQ.addr, STI_STAT.PAIRED.addr] s t)
  ∧ (∀ (n : Nat) (ll : Nat) (s : State), Quiet s → s.role = 2 → (s.mode = 2 ∨ s.mode = 6) → s.flag STI_STAT.LINK = true → s.hostOpen = true → s.sti.left = false →
    ∃ t, exec (.renewReceived n ll) s = .next t
      ∧ t.mode = 6
      ∧ t.flag STI_STAT.PAIRED = true
      ∧ t.role = 2
      ∧ t.sti = { s.sti with rn := s.time, lz := ll, waitLease := false }
      ∧ t.flag CLK_STAT.RINGFOLLOW = true
      ∧ t.getF STI_RENEW.SEQ = n % 2 ^ 32
      ∧ .sti "ACK" [n] ∈ t.outs
      ∧ Quiet t)
  ∧ (∀ (n : Nat) (ll : Nat) (s : State), Quiet s → s.role = 3 → s.mode = 8 → s.flag STI_STAT.LINK = true → s.hostOpen = true → s.sti.left = false →
    ∃ t, exec (.renewReceived n ll) s = .next t
      ∧ t.role = 2
      ∧ t.mode = 6
      ∧ t.flag STI_STAT.PAIRED = true
      ∧ t.flag STI_STAT.MVALID = false
      ∧ t.flag CLK_STAT.RINGFOLLOW = true
      ∧ t.sti = { s.sti with rn := s.time, lz := ll, waitLease := false }
      ∧ Quiet t)
  ∧ (∀ (n : Nat) (ll : Nat) (s : State), Quiet s → s.role = 1 → s.flag STI_STAT.LINK = true → s.sti.sent = some (n, ll) →
    ∃ t, exec (.ackReceived n) s = .next t
      ∧ t.sti = { s.sti with tn := s.sti.sentAt, lz := ll, sent := none }
      ∧ t.flag STI_STAT.PAIRED = true
      ∧ t.getF STI_RENEW.SEQ = n % 2 ^ 32
      ∧ (t.outs = (if s.flag STI_STAT.PAIRED = false ∧ s.sti.partnerValid = false then [.sti "WHOLE_STATE" [(s.reg 0x10).toNat, s.getF SYS_TAKE_CNT.COUNT]] else []) ++ s.outs)
      ∧ Kept [.sti, .outs] [] [STI_RENEW.SEQ.addr, STI_STAT.PAIRED.addr] s t)
  ∧ (∀  (s : State), Quiet s → s.pairedHolder = true → s.sti.tn + s.sti.lz * 15360 ≤ s.time + 38400 →
    ∃ t, exec (.fence) s = .next t
      ∧ t.role = 3
      ∧ t.flag STI_STAT.LEASE_OUT = false
      ∧ t.getF STI_EVT.FENCES = min (2 ^ STI_EVT.FENCES.width - 1) (s.getF STI_EVT.FENCES + 1)
      ∧ t.sti.sent = none
      ∧ t.sti.handover = 0
      ∧ (t.sti.restore = (if s.mode = 7 ∧ s.sti.b0 = none then s.sti.restore else startedUnits s))
      ∧ (∀ c, c ∈ txStarted s → (t.ctx c).st = 0)
      ∧ ((s.mode = 3 ∨ s.mode = 4 ∨ s.mode = 5 ∨ s.mode = 7 ∨ s.mode = 9 → t.mode = 8))
      ∧ bitOf (t.getF (FLT_STICKY.BITS 3)) 4 = true
      ∧ Quiet t)
  ∧ (∀  (s : State), Quiet s → s.role = 1 → s.hostOpen = true →
    ∃ t, exec (.leaseInRise) s = .next t
      ∧ t.flag STI_STAT.LEASE_IN = true
      ∧ t.role = 3
      ∧ t.flag STI_STAT.LEASE_OUT = false
      ∧ t.getF STI_EVT.FENCES = min (2 ^ STI_EVT.FENCES.width - 1) (s.getF STI_EVT.FENCES + 1)
      ∧ t.sti.sent = none
      ∧ t.sti.handover = 0
      ∧ (t.sti.restore = (if s.mode = 7 ∧ s.sti.b0 = none then s.sti.restore else startedUnits s))
      ∧ (∀ c, c ∈ txStarted s → (t.ctx c).st = 0)
      ∧ ((s.mode = 3 ∨ s.mode = 4 ∨ s.mode = 5 ∨ s.mode = 7 ∨ s.mode = 9 → t.mode = 8))
      ∧ bitOf (t.getF (FLT_STICKY.BITS 3)) 4 = true
      ∧ Quiet t)
  ∧ (∀  (s : State), Quiet s → s.role ≠ 1 →
    ∃ t, exec (.leaseInRise) s = .next t
      ∧ t.flag STI_STAT.LEASE_IN = true
      ∧ Kept [] [] [STI_STAT.LEASE_IN.addr] s t)

/-- A paired stand-in whose lease has lapsed takes the token where LEASE_IN is low, and waits for its fall where it is high; at a RELEASE with LEASE_IN low it takes it at once, and a FENCED chip with RECLAIM may reclaim it: role HOLDER, LEASE_OUT high, mode TAKEOVER, unpaired, waking, no take pending. The wake counts its steps; at b0 it ends, and released samples fade in from the fourth shot after it, where the mode leaves TAKEOVER. A handover releases the token once its stand-in is awake. What the mirror carries is recorded or applied: a TAKE is pending for the shot that came with it, a TAKE_CANCEL ends it, the pages of a take commit it, and it is shown with its last ones. (R711, R712, R714, R716, R718, R720, R722, R723, R724) -/
def Obligations.TokenAndTakeover : Prop :=
  (∀ (late : Bool) (s : State), Quiet s → mayTake s = true → s.sti.rn + s.sti.lz * 15360 + 38400 ≤ s.time → s.flag STI_STAT.LEASE_IN = false →
    ∃ t, exec (.tokenTake late) s = .next t
      ∧ t.role = 1
      ∧ t.mode = 7
      ∧ t.flag STI_STAT.LEASE_OUT = true
      ∧ t.flag STI_STAT.PAIRED = false
      ∧ t.flag STI_STAT.WAKING = true
      ∧ t.take.pending = none
      ∧ t.getF STI_EVT.TAKEOVERS = min (2 ^ STI_EVT.TAKEOVERS.width - 1) (s.getF STI_EVT.TAKEOVERS + 1)
      ∧ t.sti.mvalidAtTake = s.flag STI_STAT.MVALID
      ∧ (t.sti.wake = (if s.sti.prewoken then 15 else 0))
      ∧ t.sti.b0 = none
      ∧ bitOf (t.getF (FLT_STICKY.BITS 3)) 4 = true
      ∧ Quiet t)
  ∧ (∀ (late : Bool) (s : State), Quiet s → mayTake s = true → s.sti.rn + s.sti.lz * 15360 + 38400 ≤ s.time → s.flag STI_STAT.LEASE_IN = true →
    ∃ t, exec (.tokenTake late) s = .next t
      ∧ t.sti = { s.sti with waitLease := true }
      ∧ Kept [.sti] [] [] s t)
  ∧ (∀ (late : Bool) (s : State), Quiet s → mayTake s = true → s.sti.waitLease = true →
    ∃ t, exec (.leaseInFall late) s = .next t
      ∧ t.flag STI_STAT.LEASE_IN = false
      ∧ t.sti.lowAt = s.time
      ∧ t.role = 1
      ∧ t.mode = 7
      ∧ t.flag STI_STAT.LEASE_OUT = true
      ∧ t.flag STI_STAT.PAIRED = false
      ∧ t.flag STI_STAT.WAKING = true
      ∧ t.take.pending = none
      ∧ t.getF STI_EVT.TAKEOVERS = min (2 ^ STI_EVT.TAKEOVERS.width - 1) (s.getF STI_EVT.TAKEOVERS + 1)
      ∧ t.sti.mvalidAtTake = s.flag STI_STAT.MVALID
      ∧ (t.sti.wake = (if s.sti.prewoken then 15 else 0))
      ∧ t.sti.b0 = none
      ∧ bitOf (t.getF (FLT_STICKY.BITS 3)) 4 = true
      ∧ Quiet t)
  ∧ (∀ (late : Bool) (s : State), Quiet s → s.sti.waitLease = false →
    ∃ t, exec (.leaseInFall late) s = .next t
      ∧ t.flag STI_STAT.LEASE_IN = false
      ∧ t.sti = { s.sti with lowAt := s.time }
      ∧ Kept [.sti] [] [STI_STAT.LEASE_IN.addr] s t)
  ∧ (∀ (late : Bool) (s : State), Quiet s → mayTake s = true → s.flag STI_STAT.LINK = true → s.flag STI_STAT.LEASE_IN = false →
    ∃ t, exec (.releaseReceived late) s = .next t
      ∧ t.role = 1
      ∧ t.mode = 7
      ∧ t.flag STI_STAT.LEASE_OUT = true
      ∧ t.flag STI_STAT.PAIRED = false
      ∧ t.flag STI_STAT.WAKING = true
      ∧ t.take.pending = none
      ∧ t.getF STI_EVT.TAKEOVERS = min (2 ^ STI_EVT.TAKEOVERS.width - 1) (s.getF STI_EVT.TAKEOVERS + 1)
      ∧ t.sti.mvalidAtTake = s.flag STI_STAT.MVALID
      ∧ (t.sti.wake = (if s.sti.prewoken then 15 else 0))
      ∧ t.sti.b0 = none
      ∧ bitOf (t.getF (FLT_STICKY.BITS 3)) 4 = true
      ∧ Quiet t)
  ∧ (∀  (s : State), Quiet s → s.role = 3 → s.flag STI_CFG.RECLAIM = true → s.flag STI_STAT.LEASE_IN = false → max s.sti.lowAt (s.sti.rn + s.sti.lz * 15360 + 38400) + 153600 ≤ s.time →
    ∃ t, exec (.reclaim) s = .next t
      ∧ t.role = 1
      ∧ t.mode = 7
      ∧ t.flag STI_STAT.LEASE_OUT = true
      ∧ t.flag STI_STAT.PAIRED = false
      ∧ t.flag STI_STAT.WAKING = true
      ∧ t.take.pending = none
      ∧ t.getF STI_EVT.TAKEOVERS = min (2 ^ STI_EVT.TAKEOVERS.width - 1) (s.getF STI_EVT.TAKEOVERS + 1)
      ∧ t.sti.mvalidAtTake = s.flag STI_STAT.MVALID
      ∧ (t.sti.wake = (if s.sti.prewoken then 15 else 0))
      ∧ t.sti.b0 = none
      ∧ bitOf (t.getF (FLT_STICKY.BITS 3)) 4 = true
      ∧ Quiet t)
  ∧ (∀ (op : Nat) (p : List Word) (ws : List Word) (s : State), Quiet s → mirrors s = true → recorded op = true →
    ∃ t, exec (.mirrorPacketApply (.packet op p ws)) s = .next t
      ∧ t.sti = { s.sti with restore := s.sti.restore ++ [(op, datedPacket op p s)] }
      ∧ Kept [.sti] [] [] s t)
  ∧ (∀ (p : List Word) (ws : List Word) (s : State), Quiet s → mirrors s = true →
    ∃ t, exec (.mirrorPacketApply (.packet 0x200 p ws)) s = .next t
      ∧ (t.take = { s.take with pending := some (takeOf p (if bits (nAt p 0) 30 2 = 3 then none else some (nAt ws 0 + 2 ^ 32 * nAt ws 1))) })
      ∧ Kept [.take] [] [] s t)
  ∧ (∀ (p : List Word) (ws : List Word) (s : State), Quiet s → mirrors s = true → s.take.pending.isSome = true →
    ∃ t, exec (.mirrorPacketApply (.packet 0x201 p ws)) s = .next t
      ∧ t.take.pending = none
      ∧ t.cs = s.cs
      ∧ t.spl = s.spl
      ∧ t.mem = s.mem)
  ∧ (∀ (n : Nat) (more : Bool) (l : List (Nat × List Byte)) (s : State), Quiet s → mirrors s = true → n < 2 ^ 32 → s.getF SYS_TAKE_CNT.COUNT ≠ n →
    ∃ t, exec (.mirrorPacketApply (.pages n more l)) s = .next t
      ∧ t.getF SYS_TAKE_CNT.COUNT = n
      ∧ (t.getF STI_MIRROR.TAKE = (if more then s.getF STI_MIRROR.TAKE else n))
      ∧ t.take.pending = none
      ∧ t.take.commit = none
      ∧ t.take.hold = false)
  ∧ (∀ (n : Nat) (l : List (Nat × List Byte)) (s : State), Quiet s → mirrors s = true → n < 2 ^ 32 → s.getF SYS_TAKE_CNT.COUNT = n → l ≠ [] →
    ∃ t, exec (.mirrorPacketApply (.pages n false l)) s = .next t
      ∧ t.getF SYS_TAKE_CNT.COUNT = n
      ∧ t.getF STI_MIRROR.TAKE = n
      ∧ Kept [.mem] [] [STI_MIRROR.TAKE.addr] s t)
  ∧ (∀ (x : WholeState) (s : State), Quiet s → s.pairedHolder = true → s.flag STI_STAT.LINK = true → s.sti.partnerValid = false →
    ∃ t, exec (.wholeStateTransferDone x) s = .next t
      ∧ t.sti = { s.sti with partnerValid := true, backlog := 0 }
      ∧ t.getF STI_EVT.RESYNCS = min (2 ^ STI_EVT.RESYNCS.width - 1) (s.getF STI_EVT.RESYNCS + 1)
      ∧ Kept [.sti] [] [STI_EVT.RESYNCS.addr] s t)
  ∧ (∀ (x : WholeState) (s : State), Quiet s → mirrors s = true → s.flag STI_STAT.MVALID = false →
    ∃ t, exec (.wholeStateTransferDone x) s = .next t
      ∧ t.flag STI_STAT.MVALID = true
      ∧ Quiet t)
  ∧ (∀ (n : Nat) (s : State), Quiet s → mayTake s = true → s.tick = false →
    ∃ t, exec (.standinTickStart n) s = .next t
      ∧ t.shot = n
      ∧ t.tick = true
      ∧ t.take.pending = none
      ∧ t.role = s.role
      ∧ t.mem = s.mem)
  ∧ (∀  (s : State), Quiet s → s.mode = 7 → s.flag STI_STAT.WAKING = true → s.sti.wake < 15 →
    ∃ t, exec (.wakeStep) s = .next t
      ∧ t.sti = { s.sti with wake := s.sti.wake + 1 }
      ∧ Kept [.sti] [] [] s t)
  ∧ (∀  (s : State), Quiet s → mayTake s = true → s.sti.prewoken = false →
    ∃ t, exec (.wakeStep) s = .next t
      ∧ t.sti = { s.sti with wake := s.sti.wake + 1, prewoken := decide (14 ≤ s.sti.wake) }
      ∧ t.flag STI_STAT.WAKING = decide (s.sti.wake < 14)
      ∧ (t.outs = (if 14 ≤ s.sti.wake then [.sti "AWAKE" []] else []) ++ s.outs)
      ∧ Kept [.sti, .outs] [] [STI_STAT.WAKING.addr] s t)
  ∧ (∀  (s : State), Quiet s → s.pairedHolder = true → s.sti.handover = 1 → s.tick = true →
    ∃ t, exec (.standinAwake) s = .next t
      ∧ t.sti = { s.sti with handover := 2 }
      ∧ Kept [.sti] [] [] s t)
  ∧ (∀  (s : State), Quiet s → s.pairedHolder = true → s.sti.handover = 1 → s.tick = false →
    ∃ t, exec (.standinAwake) s = .next t
      ∧ t.role = 2
      ∧ t.flag STI_STAT.LEASE_OUT = false
      ∧ t.sti.handover = 0
      ∧ ((s.mode = 3 ∨ s.mode = 4 ∨ s.mode = 5 ∨ s.mode = 7 ∨ s.mode = 8 ∨ s.mode = 9 → t.mode = 6))
      ∧ .sti "RELEASE" [] ∈ t.outs
      ∧ Quiet t)
  ∧ (∀ (phis : List Nat) (s : State), Quiet s → s.mode = 7 → s.role = 1 → s.sti.b0 = none → s.sti.wake = 15 → s.sti.restore = [] → s.pairedHolder = false →
    ∃ t, exec (.takeoverStart phis) s = .next t
      ∧ t.sti = { s.sti with b0 := some s.shot, prewoken := false, wake := 0, restore := [] }
      ∧ t.flag STI_STAT.WAKING = false
      ∧ (t.mode = (if s.sti.mvalidAtTake then 7 else 8))
      ∧ t.role = s.role)
  ∧ (∀ (b : Nat) (s : State), Quiet s → s.mode = 7 → s.role = 1 → s.sti.b0 = some b → b + 4 ≤ s.shot →
    ∃ t, exec (.takeoverRelease) s = .next t
      ∧ (t.mode = (if clkLocked s then runMode false s else 3))
      ∧ t.role = s.role
      ∧ t.sti = s.sti)

/-- A link that comes up shows its delay and, with both links of a configured place up in STANDBY, sends the chip ID downstream; a link that goes down is counted and reported. A block received on a channel enters its input, one in error concealed and counted; a ring partial waits for its bus, and one in error is counted and left out. The ring master's time sets off the phase adjustment of a follower, and a grid mark passes on through a follower in STANDBY. A ring list is forwarded with the own ID appended, waits where no ring is being formed yet, forms the ring where it returns with the configured size, whose master is the chip of the lowest ID and whose other chips take its time, and is a fault where it shows the own ID elsewhere. (R727, R728, R729, R730, R731, R733, R737) -/
def Obligations.ReelLinks : Prop :=
  (∀ (k : Nat) (d : Nat) (s : State), Quiet s → k < 2 → s.hostOpen = true → s.getF (RL_LSTAT.STATE k) ≠ 2 → s.getF RL_STAT.STATE = 2 →
    ∃ t, exec (.rlLinkUp k d) s = .next t
      ∧ t.getF (RL_LSTAT.STATE k) = 2
      ∧ t.getF (RL_LDLY.DELAY k) = d % 2 ^ 20
      ∧ (t.rl = { s.rl with seen := s.rl.seen.filter fun c => chSpace c ≠ rxSpace k })
      ∧ Kept [.rl, .cs] [] [(RL_LSTAT.STATE k).addr, (RL_LDLY.DELAY k).addr] s t)
  ∧ (∀ (k : Nat) (d : Nat) (s : State), Quiet s → k < 2 → s.hostOpen = true → s.getF (RL_LSTAT.STATE k) ≠ 2 → s.getF (RL_LSTAT.STATE (1 - k)) = 2 → s.getF RL_STAT.STATE ≠ 2 → s.rl.size ≠ 0 → s.mode = 2 → s.role < 2 → s.flag CLK_STAT.RINGFOLLOW = false → s.flag PTP_STAT.RINGTIME = false → s.rl.lists = [] →
    ∃ t, exec (.rlLinkUp k d) s = .next t
      ∧ t.getF (RL_LSTAT.STATE k) = 2
      ∧ t.getF RL_STAT.STATE = 1
      ∧ t.outs = .rl 1 "LIST" [s.getF SYS_ID.CHIP_ID] :: s.outs
      ∧ t.rl.ids = []
      ∧ Kept [.rl, .outs, .cs] [0xC] [] s t)
  ∧ (∀ (k : Nat) (s : State), Quiet s → k < 2 → s.hostOpen = true →
    ∃ t, exec (.rlLink k) s = .next t
      ∧ t.getF (RL_LSTAT.STATE k) = 1
      ∧ t.getF (RL_LSTAT.RETRAINS k) = min (2 ^ (RL_LSTAT.RETRAINS k).width - 1) (s.getF (RL_LSTAT.RETRAINS k) + 1)
      ∧ (t.getF (RL_LERR.DOWNS k) = (if s.getF (RL_LSTAT.STATE k) = 2 then min (2 ^ (RL_LERR.DOWNS k).width - 1) (s.getF (RL_LERR.DOWNS k) + 1) else s.getF (RL_LERR.DOWNS k)))
      ∧ (t.getF RL_STAT.FAULT = (if s.getF (RL_LSTAT.STATE k) = 2 then 0 else 1))
      ∧ t.getF RL_STAT.STATE = s.getF RL_STAT.STATE
      ∧ t.rl = s.rl
      ∧ bitOf (t.getF (FLT_STICKY.BITS 3)) 1 = true
      ∧ Quiet t)
  ∧ (∀ (k : Nat) (c : Nat) (sm : List Word) (bsw : Word) (s : State), Quiet s → k < 2 → s.getF (RL_LSTAT.STATE k) = 2 → s.hostOpen = true → c < netChans s → sm.length = s.n →
    ∃ t, exec (.rlBlockReceived k (.chan c sm bsw) true) s = .next t
      ∧ t.blk aIN (rxSpace k * 4096 + c) = ⟨sm, bsw⟩
      ∧ t.rl.seen.contains (rxSpace k * 4096 + c) = true
      ∧ t.getF (RL_LERR.BLKERR k) = s.getF (RL_LERR.BLKERR k)
      ∧ Kept [.stage, .rl, .cs] [] [] s t)
  ∧ (∀ (k : Nat) (c : Nat) (sm : List Word) (bsw : Word) (s : State), Quiet s → k < 2 → s.getF (RL_LSTAT.STATE k) = 2 → s.hostOpen = true → c < netChans s → sm.length = s.n →
    ∃ t, exec (.rlBlockReceived k (.chan c sm bsw) false) s = .next t
      ∧ (t.blk aIN (rxSpace k * 4096 + c)).bsw = bswSet bswCONCEALED true bsw
      ∧ t.getF (RL_LERR.BLKERR k) = min (2 ^ (RL_LERR.BLKERR k).width - 1) (s.getF (RL_LERR.BLKERR k) + 1)
      ∧ bitOf (t.getF (FLT_STICKY.BITS 3)) 2 = true
      ∧ Quiet t)
  ∧ (∀ (b : Nat) (sums : List Int) (bsw : Word) (s : State), Quiet s → s.getF (RL_LSTAT.STATE 0) = 2 → s.hostOpen = true → ringBus b s = true → sums.length = s.n → (sums.all fun a => decide (-(2 ^ 63) ≤ a) && decide (a < 2 ^ 63)) = true →
    ∃ t, exec (.rlBlockReceived 0 (.partials b sums bsw) true) s = .next t
      ∧ t.rl = { s.rl with arrived := keyPut b ⟨sums, [bsw]⟩ s.rl.arrived }
      ∧ Kept [.rl] [] [] s t)
  ∧ (∀ (k : Nat) (b : Nat) (sums : List Int) (bsw : Word) (s : State), Quiet s → k < 2 → s.getF (RL_LSTAT.STATE k) = 2 → s.hostOpen = true →
    ∃ t, exec (.rlBlockReceived k (.partials b sums bsw) false) s = .next t
      ∧ t.rl = s.rl
      ∧ t.stage = s.stage
      ∧ t.getF (RL_LERR.BLKERR k) = min (2 ^ (RL_LERR.BLKERR k).width - 1) (s.getF (RL_LERR.BLKERR k) + 1)
      ∧ bitOf (t.getF (FLT_STICKY.BITS 3)) 2 = true
      ∧ Quiet t)
  ∧ (∀ (sec : Nat) (ns : Nat) (s : State), Quiet s → s.getF (RL_LSTAT.STATE 0) = 2 → s.hostOpen = true → s.flag PTP_STAT.RINGTIME = true →
    ∃ t, exec (.rlBlockReceived 0 (.clock sec ns) true) s = .next t
      ∧ t.ptp = { s.ptp with adj := timeDiff sec ns s.ptp.sec s.ptp.ns * 2 ^ 32 - s.ptp.frac }
      ∧ Kept [.ptp] [] [] s t)
  ∧ (∀ (shot : Nat) (s : State), Quiet s → s.getF (RL_LSTAT.STATE 0) = 2 → s.getF (RL_LSTAT.STATE 1) = 2 → ringFollower s = true → s.role < 2 → s.mode = 2 →
    ∃ t, exec (.rlBlockReceived 0 (.mark shot) true) s = .next t
      ∧ t.outs = .rl 1 "MARK" [shot] :: s.outs
      ∧ Kept [.outs] [] [] s t)
  ∧ (∀ (shot : Nat) (s : State), Quiet s → s.getF (RL_LSTAT.STATE 0) = 2 → s.hostOpen = true → ((ringFollower s = false ∨ s.mode ≠ 2)) →
    ∃ t, exec (.rlBlockReceived 0 (.mark shot) true) s = .next t
      ∧ t = s)
  ∧ (∀ (js : List Nat) (sec : Nat) (ns : Nat) (s : State), Quiet s → s.getF RL_STAT.STATE = 1 → s.role < 2 → s.mode = 2 → js.contains (s.getF SYS_ID.CHIP_ID) = false →
    ∃ t, exec (.ringListReceived js sec ns) s = .next t
      ∧ t.outs = .rl 1 "LIST" (js ++ [s.getF SYS_ID.CHIP_ID]) :: s.outs
      ∧ Kept [.outs] [] [] s t)
  ∧ (∀ (js : List Nat) (sec : Nat) (ns : Nat) (me : Nat) (s : State), Quiet s → s.getF RL_STAT.STATE = 1 → s.role < 2 → s.mode = 2 → me = s.getF SYS_ID.CHIP_ID → js.head? = some me → js.Nodup → js.length = s.rl.size → ((ringBuses s).any fun c => !js.contains (c.2 % 8)) = false → ringFits (s.onRl fun u => { u with ids := fromMaster js }) = true → 2 ≤ js.length → js.length ≤ 8 → (fromMaster js).headD 0 = me →
    ∃ t, exec (.ringListReceived js sec ns) s = .next t
      ∧ t.getF RL_STAT.STATE = 2
      ∧ t.getF RL_STAT.SIZE = js.length
      ∧ t.flag RL_STAT.MASTER = true
      ∧ t.getF RL_STAT.MASTERID = me
      ∧ t.rl = { s.rl with ids := fromMaster js }
      ∧ Kept [.rl] [0xC] [] s t)
  ∧ (∀ (js : List Nat) (sec : Nat) (ns : Nat) (me : Nat) (s : State), Quiet s → s.getF RL_STAT.STATE = 1 → s.role < 2 → s.mode = 2 → me = s.getF SYS_ID.CHIP_ID → js.head? = some me → js.Nodup → js.length = s.rl.size → ((ringBuses s).any fun c => !js.contains (c.2 % 8)) = false → ringFits (s.onRl fun u => { u with ids := fromMaster js }) = true → 2 ≤ js.length → js.length ≤ 8 → (fromMaster js).headD 0 ≠ me →
    ∃ t, exec (.ringListReceived js sec ns) s = .next t
      ∧ t.getF RL_STAT.STATE = 2
      ∧ t.getF RL_STAT.SIZE = js.length
      ∧ t.flag RL_STAT.MASTER = false
      ∧ t.getF RL_STAT.MASTERID = (fromMaster js).headD 0 % 2 ^ RL_STAT.MASTERID.width
      ∧ t.rl = { s.rl with ids := fromMaster js }
      ∧ t.ptp.sec = sec
      ∧ t.ptp.ns = ns
      ∧ t.flag PTP_STAT.RINGTIME = true
      ∧ t.flag PTP_STAT.TVALID = s.flag PTP_STAT.TVALID
      ∧ t.flag CLK_STAT.RINGFOLLOW = true
      ∧ Quiet t)
  ∧ (∀ (js : List Nat) (sec : Nat) (ns : Nat) (s : State), Quiet s → s.getF RL_STAT.STATE = 1 → s.role < 2 → s.mode = 2 → js.contains (s.getF SYS_ID.CHIP_ID) = true → js.head? ≠ some (s.getF SYS_ID.CHIP_ID) →
    ∃ t, exec (.ringListReceived js sec ns) s = .next t
      ∧ t.getF RL_STAT.STATE = 3
      ∧ t.getF RL_STAT.FAULT = 2
      ∧ t.rl.ids = []
      ∧ bitOf (t.getF (FLT_STICKY.BITS 3)) 1 = true
      ∧ Quiet t)
  ∧ (∀ (js : List Nat) (sec : Nat) (ns : Nat) (s : State), Quiet s → s.getF RL_STAT.STATE ≠ 1 → s.getF RL_STAT.STATE ≠ 2 → s.getF (RL_LSTAT.STATE 0) = 2 → js.contains (s.getF SYS_ID.CHIP_ID) = false →
    ∃ t, exec (.ringListReceived js sec ns) s = .next t
      ∧ t.rl = { s.rl with lists := s.rl.lists ++ [(js, sec, ns)] }
      ∧ Kept [.rl] [] [] s t)

/-- A follower checks a proposed take at the shot of the message and votes; one that accepts a take not asked with CHECKONLY holds it unconfirmed until the commit, or abandons it. The master notes each vote; once none is missing or the time is over, a take that all accept stays pending with its reply OK, any other one is refused with the status and the chip of the refusal, and one asked with CHECKONLY is answered alone. A follower that waits for candidate 6 enters ACQUIRE with its tick and the count of the ring. (R334, R335, R336, R731) -/
def Obligations.RingTakes : Prop :=
  (∀ (ws : List Word) (sT : Nat) (chk : Bool) (b : Option Nat) (s : State), Quiet s → s.getF RL_STAT.STATE = 2 → s.flag RL_STAT.MASTER = false → s.role < 2 → s.mode ≠ 7 → ws.length = 5 → b = (if bits (nAt ws 0) 30 2 = 3 then none else some sT) →
    ∃ t, exec (.ringTakeMessage ⟨ws, sT, chk⟩) s = .next t
      ∧ t.outs = .rl 1 "VOTE" [s.getF SYS_ID.CHIP_ID, takeCheckAt (b.map Int.ofNat) false ws s] :: s.outs
      ∧ (t.take = (if takeCheckAt (b.map Int.ofNat) false ws s = 0 ∧ chk = false then { s.take with pending := some (takeOf ws b), unconfirmed := true } else s.take))
      ∧ Kept [.take, .outs] [] [] s t)
  ∧ (∀  (s : State), Quiet s → s.take.unconfirmed = true → s.take.pending.isSome = true → s.pairedHolder = false →
    ∃ t, exec (.ringCommitReceived true) s = .next t
      ∧ t.take = { s.take with unconfirmed := false }
      ∧ Kept [.take] [] [] s t)
  ∧ (∀  (s : State), Quiet s → s.getF RL_STAT.STATE = 2 → s.flag RL_STAT.MASTER = false →
    ∃ t, exec (.ringCommitReceived false) s = .next t
      ∧ t.take.pending = none
      ∧ t.cs = s.cs
      ∧ t.spl = s.spl
      ∧ t.mem = s.mem)
  ∧ (∀ (id : Nat) (st : Nat) (s : State), Quiet s → s.take.voting.isSome = true → s.cmd.waiting = [] → (s.take.voters.any fun v => v.1 ≠ id && v.2.isNone) = true →
    ∃ t, exec (.voteReceived id st) s = .next t
      ∧ (t.take = { s.take with voters := s.take.voters.map fun v => if v.1 = id then (id, some st) else v })
      ∧ Kept [.take] [] [] s t)
  ∧ (∀ (k : Take) (h : CmdHdr) (gap : Bool) (s : State), Quiet s → s.take.voting = some (h, gap) → s.take.asked = none → s.take.pending = some k → s.cmd.waiting = [] → s.pairedHolder = false → h.tr < 3 → (s.take.voters.all fun v => v.2 = some 0) = true →
    ∃ t, exec (.voteTimeout) s = .next t
      ∧ t.take = { s.take with voting := none, voters := [] }
      ∧ (t.sess h.tr).cache.head? = some (h.hseq, replyWords 0x200 h gap (s.sess h.tr).dseq 0 0xFFFF (takeWords k s))
      ∧ (.rl 1 "COMMIT" []) ∈ t.outs)
  ∧ (∀ (k : Take) (h : CmdHdr) (gap : Bool) (id : Nat) (s : State), Quiet s → s.take.voting = some (h, gap) → s.take.asked = none → s.take.pending = some k → s.cmd.waiting = [] → h.tr < 3 → s.take.voters = [(id, none)] →
    ∃ t, exec (.voteTimeout) s = .next t
      ∧ t.take = { s.take with voting := none, voters := [], pending := none }
      ∧ (t.sess h.tr).cache.head? = some (h.hseq, replyWords 0x200 h gap (s.sess h.tr).dseq 5 (0x8000 + id) [])
      ∧ t.getF SYS_TAKE_REFUSED.REFUSED = min (2 ^ SYS_TAKE_REFUSED.REFUSED.width - 1) (s.getF SYS_TAKE_REFUSED.REFUSED + 1)
      ∧ (.rl 1 "ABANDON" []) ∈ t.outs)
  ∧ (∀ (k : Take) (h : CmdHdr) (gap : Bool) (s : State), Quiet s → s.take.voting = some (h, gap) → s.take.asked = some k → s.cmd.waiting = [] → h.tr < 3 → (s.take.voters.all fun v => v.2 = some 0) = true →
    ∃ t, exec (.voteTimeout) s = .next t
      ∧ t.take = { s.take with voting := none, asked := none, voters := [] }
      ∧ (t.sess h.tr).cache.head? = some (h.hseq, replyWords 0x200 h gap (s.sess h.tr).dseq 0 0xFFFF (takeWords k s ++ [wd (takeKind k.forcecut s)]))
      ∧ t.cs = s.cs
      ∧ t.spl = s.spl
      ∧ t.mem = s.mem)
  ∧ (∀ (n : Nat) (m : Nat) (h : CmdHdr) (gap : Bool) (s : State), Quiet s → s.cmd.modeReq = some (m, h, gap) → s.sti.acquireWait = true → s.flag (CLK_CANDST.QUAL 6) = true → modeSetStatus 3 s = 0 → s.cmd.waiting = [] → h.tr < 3 →
    ∃ t, exec (.followerAcquire n) s = .next t
      ∧ t.mode = 3
      ∧ t.shot = n
      ∧ t.tick = true
      ∧ t.sti.acquireWait = false
      ∧ t.cmd.modeReq = none
      ∧ (∃ d, (t.sess h.tr).cache.head? = some (h.hseq, replyWords 0x11 h gap d 0 0xFFFF [])))

/-- POR, RESET_N, a loss of the clock, the thermal trip, a requested reset and a second expiry of the Gaffer watchdog within 10 s each leave every unit, every register but the voltage of the pin banks and the LEASE_IN level, and all memory but the eMRAM as after reset, with the cause shown; fuses, lifetime values and the eMRAM stay. The thermal trip also drives THERM_N low until its release. (R590, R749, R755, R756, R757, R759, R800) -/
def Obligations.Resets : Prop :=
  (∀  (s : State), ∃ t, exec (.por) s = .next t
      ∧ t.mode = 0
      ∧ t.tick = false
      ∧ t.shot = 0
      ∧ t.getF SYS_RSTCAUSE.CAUSE = 1
      ∧ t.cs = State.reset.cs
      ∧ t.eng = State.reset.eng
      ∧ t.spl = State.reset.spl
      ∧ t.take = State.reset.take
      ∧ t.sp = State.reset.sp
      ∧ t.net = State.reset.net
      ∧ t.clk = State.reset.clk
      ∧ t.ptp = State.reset.ptp
      ∧ t.cmd = State.reset.cmd
      ∧ t.sti = State.reset.sti
      ∧ t.rl = State.reset.rl
      ∧ t.stage = State.reset.stage
      ∧ t.fuse = s.fuse
      ∧ t.boot.life = s.boot.life
      ∧ t.pending = s.pending
      ∧ (∀ a, t.byte a = if 0x8000000 ≤ a ∧ a < 0x9000000 then s.byte a else 0)
      ∧ (∀ a, a ≠ 0xE0000 → a ≠ SYS_RSTCAUSE.CAUSE.addr → a ≠ STI_STAT.LEASE_IN.addr → t.reg a = State.reset.reg a)
      ∧ Quiet t)
  ∧ (∀  (s : State), ∃ t, exec (.resetNAssert) s = .next t
      ∧ t.mode = 0
      ∧ t.tick = false
      ∧ t.shot = 0
      ∧ t.getF SYS_RSTCAUSE.CAUSE = (s.getF SYS_RSTCAUSE.CAUSE ||| 2) % 2 ^ SYS_RSTCAUSE.CAUSE.width
      ∧ t.cs = State.reset.cs
      ∧ t.eng = State.reset.eng
      ∧ t.spl = State.reset.spl
      ∧ t.take = State.reset.take
      ∧ t.sp = State.reset.sp
      ∧ t.net = State.reset.net
      ∧ t.clk = State.reset.clk
      ∧ t.ptp = State.reset.ptp
      ∧ t.cmd = State.reset.cmd
      ∧ t.sti = State.reset.sti
      ∧ t.rl = State.reset.rl
      ∧ t.stage = State.reset.stage
      ∧ t.fuse = s.fuse
      ∧ t.boot.life = s.boot.life
      ∧ t.pending = s.pending
      ∧ (∀ a, t.byte a = if 0x8000000 ≤ a ∧ a < 0x9000000 then s.byte a else 0)
      ∧ (∀ a, a ≠ 0xE0000 → a ≠ SYS_RSTCAUSE.CAUSE.addr → a ≠ STI_STAT.LEASE_IN.addr → t.reg a = State.reset.reg a)
      ∧ Quiet t)
  ∧ (∀  (s : State), ∃ t, exec (.clkloss) s = .next t
      ∧ t.mode = 0
      ∧ t.tick = false
      ∧ t.shot = 0
      ∧ t.getF SYS_RSTCAUSE.CAUSE = (s.getF SYS_RSTCAUSE.CAUSE ||| 4) % 2 ^ SYS_RSTCAUSE.CAUSE.width
      ∧ t.cs = State.reset.cs
      ∧ t.eng = State.reset.eng
      ∧ t.spl = State.reset.spl
      ∧ t.take = State.reset.take
      ∧ t.sp = State.reset.sp
      ∧ t.net = State.reset.net
      ∧ t.clk = State.reset.clk
      ∧ t.ptp = State.reset.ptp
      ∧ t.cmd = State.reset.cmd
      ∧ t.sti = State.reset.sti
      ∧ t.rl = State.reset.rl
      ∧ t.stage = State.reset.stage
      ∧ t.fuse = s.fuse
      ∧ t.boot.life = s.boot.life
      ∧ t.pending = s.pending
      ∧ (∀ a, t.byte a = if 0x8000000 ≤ a ∧ a < 0x9000000 then s.byte a else 0)
      ∧ (∀ a, a ≠ 0xE0000 → a ≠ SYS_RSTCAUSE.CAUSE.addr → a ≠ STI_STAT.LEASE_IN.addr → t.reg a = State.reset.reg a)
      ∧ Quiet t)
  ∧ (∀  (s : State), ∃ t, exec (.thermalTrip) s = .next t
      ∧ t.mode = 0
      ∧ t.tick = false
      ∧ t.shot = 0
      ∧ t.getF SYS_RSTCAUSE.CAUSE = (s.getF SYS_RSTCAUSE.CAUSE ||| 16) % 2 ^ SYS_RSTCAUSE.CAUSE.width
      ∧ t.cs = State.reset.cs
      ∧ t.eng = State.reset.eng
      ∧ t.spl = State.reset.spl
      ∧ t.take = State.reset.take
      ∧ t.sp = State.reset.sp
      ∧ t.net = State.reset.net
      ∧ t.clk = State.reset.clk
      ∧ t.ptp = State.reset.ptp
      ∧ t.cmd = State.reset.cmd
      ∧ t.sti = State.reset.sti
      ∧ t.rl = State.reset.rl
      ∧ t.stage = State.reset.stage
      ∧ t.fuse = s.fuse
      ∧ t.boot.life = s.boot.life
      ∧ t.pending = s.pending
      ∧ (∀ a, t.byte a = if 0x8000000 ≤ a ∧ a < 0x9000000 then s.byte a else 0)
      ∧ (∀ a, a ≠ 0xE0000 → a ≠ SYS_RSTCAUSE.CAUSE.addr → a ≠ STI_STAT.LEASE_IN.addr → t.reg a = State.reset.reg a)
      ∧ Quiet t
      ∧ t.boot.thermalHold = true
      ∧ t.pin.thermLow = true
      ∧ t.outs.head? = some (.pin "THERM_N" false))
  ∧ (∀  (s : State), s.boot.softPending = true →
    ∃ t, exec (.modeTransition) s = .next t
      ∧ t.mode = 0
      ∧ t.tick = false
      ∧ t.shot = 0
      ∧ t.getF SYS_RSTCAUSE.CAUSE = (s.getF SYS_RSTCAUSE.CAUSE ||| 8) % 2 ^ SYS_RSTCAUSE.CAUSE.width
      ∧ t.cs = State.reset.cs
      ∧ t.eng = State.reset.eng
      ∧ t.spl = State.reset.spl
      ∧ t.take = State.reset.take
      ∧ t.sp = State.reset.sp
      ∧ t.net = State.reset.net
      ∧ t.clk = State.reset.clk
      ∧ t.ptp = State.reset.ptp
      ∧ t.cmd = State.reset.cmd
      ∧ t.sti = State.reset.sti
      ∧ t.rl = State.reset.rl
      ∧ t.stage = State.reset.stage
      ∧ t.fuse = s.fuse
      ∧ t.boot.life = s.boot.life
      ∧ t.pending = s.pending
      ∧ (∀ a, t.byte a = if 0x8000000 ≤ a ∧ a < 0x9000000 then s.byte a else 0)
      ∧ (∀ a, a ≠ 0xE0000 → a ≠ SYS_RSTCAUSE.CAUSE.addr → a ≠ STI_STAT.LEASE_IN.addr → t.reg a = State.reset.reg a)
      ∧ Quiet t)
  ∧ (∀ (w : Nat) (s : State), s.hostOpen = true → s.boot.wdogAt = some w → s.time ≤ w + 1536000000 →
    ∃ t, exec (.gafferWatchdog) s = .next t
      ∧ t.mode = 0
      ∧ t.tick = false
      ∧ t.shot = 0
      ∧ t.getF SYS_RSTCAUSE.CAUSE = (s.getF SYS_RSTCAUSE.CAUSE ||| 32) % 2 ^ SYS_RSTCAUSE.CAUSE.width
      ∧ t.cs = State.reset.cs
      ∧ t.eng = State.reset.eng
      ∧ t.spl = State.reset.spl
      ∧ t.take = State.reset.take
      ∧ t.sp = State.reset.sp
      ∧ t.net = State.reset.net
      ∧ t.clk = State.reset.clk
      ∧ t.ptp = State.reset.ptp
      ∧ t.cmd = State.reset.cmd
      ∧ t.sti = State.reset.sti
      ∧ t.rl = State.reset.rl
      ∧ t.stage = State.reset.stage
      ∧ t.fuse = s.fuse
      ∧ t.boot.life = s.boot.life
      ∧ t.pending = s.pending
      ∧ (∀ a, t.byte a = if 0x8000000 ≤ a ∧ a < 0x9000000 then s.byte a else 0)
      ∧ (∀ a, a ≠ 0xE0000 → a ≠ SYS_RSTCAUSE.CAUSE.addr → a ≠ STI_STAT.LEASE_IN.addr → t.reg a = State.reset.reg a)
      ∧ Quiet t)
  ∧ (∀  (s : State), Quiet s → s.boot.thermalHold = true →
    ∃ t, exec (.thermalRelease) s = .next t
      ∧ t.boot = { s.boot with thermalHold := false }
      ∧ t.pin = { s.pin with thermLow := false }
      ∧ t.outs = .pin "THERM_N" true :: s.outs
      ∧ Kept [.boot, .pin, .outs] [] [] s t)

/-- A requested mode that its rules allow is entered at the boundary, with its reply; another one is refused with BUSY. ACQUIRE ends in RUN where the reference locks, or DEGRADED where a logical engine is not served; RUN ends in RUN_HOLDOVER where it is lost. The release of reset latches the straps and enters BOOT; a boot stage that succeeds goes on to the next and the last one enters STANDBY, where a primary drives LEASE_OUT; no image, or one of the flash that its check refuses, ends in FAIL. A first watchdog expiry restarts the Gaffer core without its waiting commands. A press opens the presence window, which closes. Lifetime values are recorded. A PCIe link that goes down stops its rings; one that comes up restarts its session. (R623, R645, R706, R751, R752, R756, R757, R760, R767) -/
def Obligations.ModesAndBoot : Prop :=
  (∀ (m : Nat) (h : CmdHdr) (gap : Bool) (s : State), Quiet s → s.boot.softPending = false → s.cmd.waiting = [] → s.cmd.modeReq = some (m, h, gap) → s.sti.acquireWait = false → h.tr < 3 → m = 8 → modeSetStatus m s = 0 →
    ∃ t, exec (.modeTransition) s = .next t
      ∧ t.mode = 8
      ∧ t.cmd.modeReq = none
      ∧ t.take.pending = none
      ∧ t.getF SYS_MODE.PREV = s.mode
      ∧ (∃ d, (t.sess h.tr).cache.head? = some (h.hseq, replyWords 0x11 h gap d 0 0xFFFF [])))
  ∧ (∀ (m : Nat) (h : CmdHdr) (gap : Bool) (s : State), Quiet s → s.boot.softPending = false → s.cmd.waiting = [] → s.cmd.modeReq = some (m, h, gap) → s.sti.acquireWait = false → h.tr < 3 → modeSetStatus m s ≠ 0 → s.mode = 2 →
    ∃ t, exec (.modeTransition) s = .next t
      ∧ t.mode = 2
      ∧ t.cmd.modeReq = none
      ∧ t.take = s.take
      ∧ (t.sess h.tr).cache.head? = some (h.hseq, replyWords 0x11 h gap (s.sess h.tr).dseq 5 0xFFFF [])
      ∧ Kept [.cmd, .outs] [0xD] [] s t)
  ∧ (∀  (s : State), Quiet s → s.boot.softPending = false → s.cmd.waiting = [] → s.cmd.modeReq = none → (s.mode = 3 ∨ s.mode = 5) → clkLocked s = true →
    ∃ t, exec (.modeTransition) s = .next t
      ∧ (t.mode = (if (List.range 16).any (fun n => (s.physOf n).isNone) then 9 else 4))
      ∧ t.take = s.take
      ∧ t.cs = s.cs
      ∧ t.mem = s.mem
      ∧ Quiet t)
  ∧ (∀  (s : State), Quiet s → s.boot.softPending = false → s.cmd.waiting = [] → s.cmd.modeReq = none → s.mode = 4 → clkLostCond s = true →
    ∃ t, exec (.modeTransition) s = .next t
      ∧ (t.mode = (if (List.range 16).any (fun n => (s.physOf n).isNone) then 9 else 5))
      ∧ t.take = s.take
      ∧ t.cs = s.cs
      ∧ t.mem = s.mem
      ∧ Quiet t)
  ∧ (∀ (chip : Nat) (strap : Nat) (banks : Nat) (s : State), Quiet s → s.mode = 0 → s.boot.thermalHold = false →
    ∃ t, exec (.resetRelease chip strap banks) s = .next t
      ∧ t.mode = 1
      ∧ t.getF SYS_ID.CHIP_ID = chip % 2 ^ SYS_ID.CHIP_ID.width
      ∧ t.getF STI_STAT.STRAP = strap % 4
      ∧ t.role = strapRole strap
      ∧ t.getF SYS_BOOT.STAGE = 1
      ∧ t.boot.relAt = s.time
      ∧ ((s.boot.porBoot = true → t.reg 0xE0000 = wd (banks % 2 ^ 14)))
      ∧ t.fuse = s.fuse
      ∧ t.mem = s.mem)
  ∧ (∀ (x : BootStage) (s : State), Quiet s → s.mode = 1 → s.getF SYS_BOOT.FAIL = 0 → s.getF SYS_BOOT.STAGE = 5 → s.flag STI_STAT.PAIRED = false →
    ∃ t, exec (.bootStageDone x) s = .next t
      ∧ t.mode = 2
      ∧ t.getF SYS_BOOT.STAGE = 6
      ∧ (t.role = (if s.role = 1 ∧ s.flag STI_STAT.LEASE_IN = true then 2 else s.role))
      ∧ ((s.role = 1 → s.flag STI_STAT.LEASE_IN = false → t.flag STI_STAT.LEASE_OUT = true))
      ∧ t.fuse = s.fuse
      ∧ Quiet t)
  ∧ (∀ (x : BootStage) (s : State), Quiet s → s.mode = 1 → s.getF SYS_BOOT.FAIL = 0 → s.getF SYS_BOOT.STAGE = 3 → bankValid false s = false → bankValid true s = false → x.qspi = none →
    ∃ t, exec (.bootStageDone x) s = .next t
      ∧ t.mode = 1
      ∧ t.getF SYS_BOOT.STAGE = 3
      ∧ t.getF SYS_BOOT.FAIL = 1
      ∧ t.fuse = s.fuse)
  ∧ (∀ (x : BootStage) (l : List Byte) (s : State), Quiet s → s.mode = 1 → s.getF SYS_BOOT.FAIL = 0 → s.getF SYS_BOOT.STAGE = 3 → bankValid false s = false → bankValid true s = false → x.qspi = some l → (headOk l && signedOk l s) = false →
    ∃ t, exec (.bootStageDone x) s = .next t
      ∧ t.mode = 1
      ∧ t.getF SYS_BOOT.STAGE = 3
      ∧ t.getF SYS_BOOT.FAIL = 1
      ∧ t.fuse = s.fuse)
  ∧ (∀  (s : State), Quiet s → s.hostOpen = true → s.boot.wdogAt = none →
    ∃ t, exec (.gafferWatchdog) s = .next t
      ∧ t.boot.gafferDown = true
      ∧ t.boot.wdogAt = some s.time
      ∧ t.cmd.waiting = []
      ∧ t.cmd.modeReq = none
      ∧ t.cmd.longOp = s.cmd.longOp
      ∧ t.take.pending = none
      ∧ t.getF SYS_RSTCAUSE.CAUSE = (s.getF SYS_RSTCAUSE.CAUSE ||| 64) % 2 ^ SYS_RSTCAUSE.CAUSE.width
      ∧ t.mode = s.mode
      ∧ t.cs = s.cs
      ∧ t.mem = s.mem)
  ∧ (∀  (s : State), Quiet s → s.boot.gafferDown = true → s.cmd.waiting = [] →
    ∃ t, exec (.gafferResume) s = .next t
      ∧ t.boot = { s.boot with gafferDown := false }
      ∧ Kept [.boot, .flt] [9] [] s t)
  ∧ (∀  (s : State), Quiet s → s.hostOpen = true → s.flag CMD_STAT.PWIN = false →
    ∃ t, exec (.presencePress) s = .next t
      ∧ t.flag CMD_STAT.PWIN = true
      ∧ t.cmd.winAt = s.time
      ∧ t.fuse = s.fuse
      ∧ Kept [.cmd, .flt, .outs] [9, 0xD] [] s t)
  ∧ (∀  (s : State), Quiet s → s.hostOpen = true → s.flag CMD_STAT.PWIN = true →
    ∃ t, exec (.presencePress) s = .next t
      ∧ t.cmd = { s.cmd with winAt := s.time }
      ∧ Kept [.cmd] [] [] s t)
  ∧ (∀  (s : State), Quiet s → s.flag CMD_STAT.PWIN = true →
    ∃ t, exec (.presenceWindowClose) s = .next t
      ∧ t.flag CMD_STAT.PWIN = false
      ∧ t.fuse = s.fuse
      ∧ Kept [.cmd, .flt, .outs] [9, 0xD] [] s t)
  ∧ (∀ (a : Nat) (s : State), Quiet s → s.hostOpen = true → a = lifeSlot (lifeNow s).seq → (s.fab.wear.all fun c => decide (c.2 + 1024 < wearLimit s)) = true → 1024 < wearLimit s → s.fab.replacing = [] →
    ∃ t, exec (.lifetimeRecord) s = .next t
      ∧ t.boot = { s.boot with life := lifeNow s }
      ∧ t.wordsAt (mramBase + a) 16 = lifeWords (lifeNow s) (s.getF MRAM_STAT.SPARES)
      ∧ (∀ b, b < mramBase + a ∨ mramBase + a + 64 ≤ b → t.byte b = s.byte b)
      ∧ Kept [.mem, .fab, .boot] [0xB] [] s t)
  ∧ (∀  (s : State), Quiet s → s.flag CMD_STAT.LINKUP = true →
    ∃ t, exec (.pcieLinkDown) s = .next t
      ∧ t.flag CMD_STAT.LINKUP = false
      ∧ t.flag CMD_CTRL.RINGS_EN = false
      ∧ t.cmd = s.cmd
      ∧ ((t.fab.bursts.any fun x => x.master = 0 && !x.granted) = false)
      ∧ Kept [.fab] [] [CMD_STAT.LINKUP.addr, CMD_CTRL.RINGS_EN.addr] s t)
  ∧ (∀  (s : State), Quiet s → s.mode ≠ 0 → s.flag CMD_STAT.LINKUP = false →
    ∃ t, exec (.pcieLinkUp) s = .next t
      ∧ t.flag CMD_STAT.LINKUP = true
      ∧ (t.sess 0).e = none
      ∧ (t.sess 0).cache = []
      ∧ (t.sess 0).mask = (s.sess 0).mask
      ∧ (∀ k, k ≠ 0 → t.sess k = s.sess k)
      ∧ Kept [.cmd] [] [CMD_STAT.LINKUP.addr] s t)
end

