-- ==== Sys2Proof/Laws/Map.lean ====
section
/-! SUPPORT. Laws of the sparse maps: read after write, other keys, and the canonical form. -/

namespace Sys2Proof.Machine

variable {α : Type}

theorem smGet_filter_same (d : α) (k : Nat) : ∀ (m : List (Nat × α)), smGet d (m.filter fun c => c.1 != k) k = d
  | [] => rfl
  | (k', v) :: t => by
    have ih := smGet_filter_same d k t
    by_cases h : k' = k
    · simp [h, ih]
    · simp [h, smGet, Ne.symm h, ih]

theorem smGet_filter_other (d : α) (j k : Nat) (hj : j ≠ k) : ∀ (m : List (Nat × α)), smGet d (m.filter fun c => c.1 != k) j = smGet d m j
  | [] => rfl
  | (k', v) :: t => by
    have ih := smGet_filter_other d j k hj t
    by_cases h : k' = k
    · subst h; simp [smGet, hj, ih]
    · simp [h, smGet, ih]

theorem smGet_smIns_same (d : α) (k : Nat) (v : α) : ∀ (m : List (Nat × α)), (∀ c ∈ m, c.1 ≠ k) → smGet d (smIns k v m) k = v
  | [], _ => by simp [smIns, smGet]
  | (k', v') :: t, h => by
    have h' : k' ≠ k := h (k', v') (by simp)
    have ih := smGet_smIns_same d k v t (fun c hc => h c (by simp [hc]))
    unfold smIns
    split
    · simp [smGet]
    · simp [smGet, Ne.symm h', ih]

theorem smGet_smIns_other (d : α) (j k : Nat) (v : α) (hj : j ≠ k) : ∀ (m : List (Nat × α)), smGet d (smIns k v m) j = smGet d m j
  | [] => by simp [smIns, smGet, hj]
  | (k', v') :: t => by
    have ih := smGet_smIns_other d j k v hj t
    unfold smIns
    split <;> simp [smGet, hj, ih]

/-- A key reads as what was written to it, in every map. -/
@[simp] theorem smGet_smPut_same [DecidableEq α] (d : α) (k : Nat) (v : α) (m : List (Nat × α)) : smGet d (smPut d k v m) k = v := by
  unfold smPut
  by_cases h : v = d
  · simp [h, smGet_filter_same]
  · simp only [h, if_false]
    exact smGet_smIns_same _ _ _ _ (fun c hc => by simpa using (List.mem_filter.1 hc).2)

/-- Another key reads as before, in every map. -/
theorem smGet_smPut_other [DecidableEq α] (d d' : α) (j k : Nat) (v : α) (hj : j ≠ k) (m : List (Nat × α)) :
    smGet d' (smPut d k v m) j = smGet d' m j := by
  unfold smPut
  by_cases h : v = d
  · simp [h, smGet_filter_other, hj]
  · simp [h, smGet_smIns_other, smGet_filter_other, hj]

theorem smAbove_filter (j k : Nat) : ∀ (m : List (Nat × α)), smAbove j m = true → smAbove j (m.filter fun c => c.1 != k) = true
  | [], _ => rfl
  | (k', v) :: t, h => by
    simp only [smAbove, Bool.and_eq_true, decide_eq_true_eq] at h
    have ih := smAbove_filter j k t h.2
    by_cases hk : k' = k
    · simp [hk, ih]
    · simp [hk, smAbove, h.1, ih]

theorem smAbove_mono {j k : Nat} (hjk : j ≤ k) : ∀ (m : List (Nat × α)), smAbove k m = true → smAbove j m = true
  | [], _ => rfl
  | (k', v) :: t, h => by
    simp only [smAbove, Bool.and_eq_true, decide_eq_true_eq] at h ⊢
    exact ⟨Nat.lt_of_le_of_lt hjk h.1, smAbove_mono hjk t h.2⟩

theorem smAbove_smIns (j k : Nat) (v : α) (hj : j < k) : ∀ (m : List (Nat × α)), smAbove j m = true → smAbove j (smIns k v m) = true
  | [], _ => by simp [smIns, smAbove, hj]
  | (k', v') :: t, h => by
    simp only [smAbove, Bool.and_eq_true, decide_eq_true_eq] at h
    have ih := smAbove_smIns j k v hj t h.2
    unfold smIns
    split <;> simp [smAbove, h, hj, ih]

theorem smWf_filter [DecidableEq α] (d : Nat → α) (k : Nat) :
    ∀ (m : List (Nat × α)), smWf d m = true → smWf d (m.filter fun c => c.1 != k) = true
  | [], _ => rfl
  | (k', v) :: t, h => by
    simp only [smWf, Bool.and_eq_true, decide_eq_true_eq] at h
    have ih := smWf_filter d k t h.2
    by_cases hk : k' = k
    · simp [hk, ih]
    · simp [hk, smWf, smAbove_filter k' k t h.1.1, h.1.2, ih]

theorem smWf_smIns [DecidableEq α] (d : Nat → α) (k : Nat) (v : α) (hv : v ≠ d k) :
    ∀ (m : List (Nat × α)), (∀ c ∈ m, c.1 ≠ k) → smWf d m = true → smWf d (smIns k v m) = true
  | [], _, _ => by simp [smIns, smWf, smAbove, hv]
  | (k', v') :: t, hk, h => by
    have hne : k' ≠ k := hk (k', v') (by simp)
    simp only [smWf, Bool.and_eq_true, decide_eq_true_eq] at h
    have ih := smWf_smIns d k v hv t (fun c hc => hk c (by simp [hc])) h.2
    unfold smIns
    split
    · next hlt => simp [smWf, smAbove, hlt, hv, smAbove_mono (Nat.le_of_lt hlt) t h.1.1, h]
    · next hlt =>
      have hlt' : k' < k := by omega
      simp [smWf, smAbove_smIns k' k v hlt' t h.1.1, h.1.2, ih]

/-- A write keeps the canonical form. -/
theorem smWf_smPut [DecidableEq α] (d : Nat → α) (k : Nat) (v : α) (m : List (Nat × α)) (h : smWf d m = true) :
    smWf d (smPut (d k) k v m) = true := by
  unfold smPut
  have hf := smWf_filter d k m h
  by_cases hv : v = d k
  · simp [hv, hf]
  · simp only [hv, if_false]
    exact smWf_smIns d k v hv _ (fun c hc => by simpa using (List.mem_filter.1 hc).2) hf

end Sys2Proof.Machine
end

