-- ==== Sys2Proof/Laws/State.lean ====
section
/-! SUPPORT. One lemma per field and update of the state, true by unfolding, so that no later proof unfolds an update. -/

namespace Sys2Proof.Machine

@[simp] theorem State.onRegs_regs (s : State) (f : List (Nat × Word) → List (Nat × Word)) : (s.onRegs f).regs = f s.regs := rfl
@[simp] theorem State.onRegs_mem (s : State) (f : List (Nat × Word) → List (Nat × Word)) : (s.onRegs f).mem = s.mem := rfl
@[simp] theorem State.onRegs_stage (s : State) (f : List (Nat × Word) → List (Nat × Word)) : (s.onRegs f).stage = s.stage := rfl
@[simp] theorem State.onRegs_shot (s : State) (f : List (Nat × Word) → List (Nat × Word)) : (s.onRegs f).shot = s.shot := rfl
@[simp] theorem State.onRegs_time (s : State) (f : List (Nat × Word) → List (Nat × Word)) : (s.onRegs f).time = s.time := rfl
@[simp] theorem State.onRegs_eng (s : State) (f : List (Nat × Word) → List (Nat × Word)) : (s.onRegs f).eng = s.eng := rfl
@[simp] theorem State.onRegs_cs (s : State) (f : List (Nat × Word) → List (Nat × Word)) : (s.onRegs f).cs = s.cs := rfl
@[simp] theorem State.onRegs_spl (s : State) (f : List (Nat × Word) → List (Nat × Word)) : (s.onRegs f).spl = s.spl := rfl
@[simp] theorem State.onRegs_take (s : State) (f : List (Nat × Word) → List (Nat × Word)) : (s.onRegs f).take = s.take := rfl
@[simp] theorem State.onRegs_sp (s : State) (f : List (Nat × Word) → List (Nat × Word)) : (s.onRegs f).sp = s.sp := rfl
@[simp] theorem State.onRegs_net (s : State) (f : List (Nat × Word) → List (Nat × Word)) : (s.onRegs f).net = s.net := rfl
@[simp] theorem State.onRegs_dl (s : State) (f : List (Nat × Word) → List (Nat × Word)) : (s.onRegs f).dl = s.dl := rfl
@[simp] theorem State.onRegs_clk (s : State) (f : List (Nat × Word) → List (Nat × Word)) : (s.onRegs f).clk = s.clk := rfl
@[simp] theorem State.onRegs_ptp (s : State) (f : List (Nat × Word) → List (Nat × Word)) : (s.onRegs f).ptp = s.ptp := rfl
@[simp] theorem State.onRegs_fab (s : State) (f : List (Nat × Word) → List (Nat × Word)) : (s.onRegs f).fab = s.fab := rfl
@[simp] theorem State.onRegs_flt (s : State) (f : List (Nat × Word) → List (Nat × Word)) : (s.onRegs f).flt = s.flt := rfl
@[simp] theorem State.onRegs_pcn (s : State) (f : List (Nat × Word) → List (Nat × Word)) : (s.onRegs f).pcn = s.pcn := rfl
@[simp] theorem State.onRegs_cmd (s : State) (f : List (Nat × Word) → List (Nat × Word)) : (s.onRegs f).cmd = s.cmd := rfl
@[simp] theorem State.onRegs_fuse (s : State) (f : List (Nat × Word) → List (Nat × Word)) : (s.onRegs f).fuse = s.fuse := rfl
@[simp] theorem State.onRegs_boot (s : State) (f : List (Nat × Word) → List (Nat × Word)) : (s.onRegs f).boot = s.boot := rfl
@[simp] theorem State.onRegs_sti (s : State) (f : List (Nat × Word) → List (Nat × Word)) : (s.onRegs f).sti = s.sti := rfl
@[simp] theorem State.onRegs_rl (s : State) (f : List (Nat × Word) → List (Nat × Word)) : (s.onRegs f).rl = s.rl := rfl
@[simp] theorem State.onRegs_pin (s : State) (f : List (Nat × Word) → List (Nat × Word)) : (s.onRegs f).pin = s.pin := rfl
@[simp] theorem State.onRegs_outs (s : State) (f : List (Nat × Word) → List (Nat × Word)) : (s.onRegs f).outs = s.outs := rfl
@[simp] theorem State.onRegs_free (s : State) (f : List (Nat × Word) → List (Nat × Word)) : (s.onRegs f).free = s.free := rfl
@[simp] theorem State.onRegs_pending (s : State) (f : List (Nat × Word) → List (Nat × Word)) : (s.onRegs f).pending = s.pending := rfl
@[simp] theorem State.onMem_regs (s : State) (f : List Host.Cell → List Host.Cell) : (s.onMem f).regs = s.regs := rfl
@[simp] theorem State.onMem_mem (s : State) (f : List Host.Cell → List Host.Cell) : (s.onMem f).mem = f s.mem := rfl
@[simp] theorem State.onMem_stage (s : State) (f : List Host.Cell → List Host.Cell) : (s.onMem f).stage = s.stage := rfl
@[simp] theorem State.onMem_shot (s : State) (f : List Host.Cell → List Host.Cell) : (s.onMem f).shot = s.shot := rfl
@[simp] theorem State.onMem_time (s : State) (f : List Host.Cell → List Host.Cell) : (s.onMem f).time = s.time := rfl
@[simp] theorem State.onMem_eng (s : State) (f : List Host.Cell → List Host.Cell) : (s.onMem f).eng = s.eng := rfl
@[simp] theorem State.onMem_cs (s : State) (f : List Host.Cell → List Host.Cell) : (s.onMem f).cs = s.cs := rfl
@[simp] theorem State.onMem_spl (s : State) (f : List Host.Cell → List Host.Cell) : (s.onMem f).spl = s.spl := rfl
@[simp] theorem State.onMem_take (s : State) (f : List Host.Cell → List Host.Cell) : (s.onMem f).take = s.take := rfl
@[simp] theorem State.onMem_sp (s : State) (f : List Host.Cell → List Host.Cell) : (s.onMem f).sp = s.sp := rfl
@[simp] theorem State.onMem_net (s : State) (f : List Host.Cell → List Host.Cell) : (s.onMem f).net = s.net := rfl
@[simp] theorem State.onMem_dl (s : State) (f : List Host.Cell → List Host.Cell) : (s.onMem f).dl = s.dl := rfl
@[simp] theorem State.onMem_clk (s : State) (f : List Host.Cell → List Host.Cell) : (s.onMem f).clk = s.clk := rfl
@[simp] theorem State.onMem_ptp (s : State) (f : List Host.Cell → List Host.Cell) : (s.onMem f).ptp = s.ptp := rfl
@[simp] theorem State.onMem_fab (s : State) (f : List Host.Cell → List Host.Cell) : (s.onMem f).fab = s.fab := rfl
@[simp] theorem State.onMem_flt (s : State) (f : List Host.Cell → List Host.Cell) : (s.onMem f).flt = s.flt := rfl
@[simp] theorem State.onMem_pcn (s : State) (f : List Host.Cell → List Host.Cell) : (s.onMem f).pcn = s.pcn := rfl
@[simp] theorem State.onMem_cmd (s : State) (f : List Host.Cell → List Host.Cell) : (s.onMem f).cmd = s.cmd := rfl
@[simp] theorem State.onMem_fuse (s : State) (f : List Host.Cell → List Host.Cell) : (s.onMem f).fuse = s.fuse := rfl
@[simp] theorem State.onMem_boot (s : State) (f : List Host.Cell → List Host.Cell) : (s.onMem f).boot = s.boot := rfl
@[simp] theorem State.onMem_sti (s : State) (f : List Host.Cell → List Host.Cell) : (s.onMem f).sti = s.sti := rfl
@[simp] theorem State.onMem_rl (s : State) (f : List Host.Cell → List Host.Cell) : (s.onMem f).rl = s.rl := rfl
@[simp] theorem State.onMem_pin (s : State) (f : List Host.Cell → List Host.Cell) : (s.onMem f).pin = s.pin := rfl
@[simp] theorem State.onMem_outs (s : State) (f : List Host.Cell → List Host.Cell) : (s.onMem f).outs = s.outs := rfl
@[simp] theorem State.onMem_free (s : State) (f : List Host.Cell → List Host.Cell) : (s.onMem f).free = s.free := rfl
@[simp] theorem State.onMem_pending (s : State) (f : List Host.Cell → List Host.Cell) : (s.onMem f).pending = s.pending := rfl
@[simp] theorem State.onStage_regs (s : State) (f : List (Nat × Blk) → List (Nat × Blk)) : (s.onStage f).regs = s.regs := rfl
@[simp] theorem State.onStage_mem (s : State) (f : List (Nat × Blk) → List (Nat × Blk)) : (s.onStage f).mem = s.mem := rfl
@[simp] theorem State.onStage_stage (s : State) (f : List (Nat × Blk) → List (Nat × Blk)) : (s.onStage f).stage = f s.stage := rfl
@[simp] theorem State.onStage_shot (s : State) (f : List (Nat × Blk) → List (Nat × Blk)) : (s.onStage f).shot = s.shot := rfl
@[simp] theorem State.onStage_time (s : State) (f : List (Nat × Blk) → List (Nat × Blk)) : (s.onStage f).time = s.time := rfl
@[simp] theorem State.onStage_eng (s : State) (f : List (Nat × Blk) → List (Nat × Blk)) : (s.onStage f).eng = s.eng := rfl
@[simp] theorem State.onStage_cs (s : State) (f : List (Nat × Blk) → List (Nat × Blk)) : (s.onStage f).cs = s.cs := rfl
@[simp] theorem State.onStage_spl (s : State) (f : List (Nat × Blk) → List (Nat × Blk)) : (s.onStage f).spl = s.spl := rfl
@[simp] theorem State.onStage_take (s : State) (f : List (Nat × Blk) → List (Nat × Blk)) : (s.onStage f).take = s.take := rfl
@[simp] theorem State.onStage_sp (s : State) (f : List (Nat × Blk) → List (Nat × Blk)) : (s.onStage f).sp = s.sp := rfl
@[simp] theorem State.onStage_net (s : State) (f : List (Nat × Blk) → List (Nat × Blk)) : (s.onStage f).net = s.net := rfl
@[simp] theorem State.onStage_dl (s : State) (f : List (Nat × Blk) → List (Nat × Blk)) : (s.onStage f).dl = s.dl := rfl
@[simp] theorem State.onStage_clk (s : State) (f : List (Nat × Blk) → List (Nat × Blk)) : (s.onStage f).clk = s.clk := rfl
@[simp] theorem State.onStage_ptp (s : State) (f : List (Nat × Blk) → List (Nat × Blk)) : (s.onStage f).ptp = s.ptp := rfl
@[simp] theorem State.onStage_fab (s : State) (f : List (Nat × Blk) → List (Nat × Blk)) : (s.onStage f).fab = s.fab := rfl
@[simp] theorem State.onStage_flt (s : State) (f : List (Nat × Blk) → List (Nat × Blk)) : (s.onStage f).flt = s.flt := rfl
@[simp] theorem State.onStage_pcn (s : State) (f : List (Nat × Blk) → List (Nat × Blk)) : (s.onStage f).pcn = s.pcn := rfl
@[simp] theorem State.onStage_cmd (s : State) (f : List (Nat × Blk) → List (Nat × Blk)) : (s.onStage f).cmd = s.cmd := rfl
@[simp] theorem State.onStage_fuse (s : State) (f : List (Nat × Blk) → List (Nat × Blk)) : (s.onStage f).fuse = s.fuse := rfl
@[simp] theorem State.onStage_boot (s : State) (f : List (Nat × Blk) → List (Nat × Blk)) : (s.onStage f).boot = s.boot := rfl
@[simp] theorem State.onStage_sti (s : State) (f : List (Nat × Blk) → List (Nat × Blk)) : (s.onStage f).sti = s.sti := rfl
@[simp] theorem State.onStage_rl (s : State) (f : List (Nat × Blk) → List (Nat × Blk)) : (s.onStage f).rl = s.rl := rfl
@[simp] theorem State.onStage_pin (s : State) (f : List (Nat × Blk) → List (Nat × Blk)) : (s.onStage f).pin = s.pin := rfl
@[simp] theorem State.onStage_outs (s : State) (f : List (Nat × Blk) → List (Nat × Blk)) : (s.onStage f).outs = s.outs := rfl
@[simp] theorem State.onStage_free (s : State) (f : List (Nat × Blk) → List (Nat × Blk)) : (s.onStage f).free = s.free := rfl
@[simp] theorem State.onStage_pending (s : State) (f : List (Nat × Blk) → List (Nat × Blk)) : (s.onStage f).pending = s.pending := rfl
@[simp] theorem State.onShot_regs (s : State) (f : Nat → Nat) : (s.onShot f).regs = s.regs := rfl
@[simp] theorem State.onShot_mem (s : State) (f : Nat → Nat) : (s.onShot f).mem = s.mem := rfl
@[simp] theorem State.onShot_stage (s : State) (f : Nat → Nat) : (s.onShot f).stage = s.stage := rfl
@[simp] theorem State.onShot_shot (s : State) (f : Nat → Nat) : (s.onShot f).shot = f s.shot := rfl
@[simp] theorem State.onShot_time (s : State) (f : Nat → Nat) : (s.onShot f).time = s.time := rfl
@[simp] theorem State.onShot_eng (s : State) (f : Nat → Nat) : (s.onShot f).eng = s.eng := rfl
@[simp] theorem State.onShot_cs (s : State) (f : Nat → Nat) : (s.onShot f).cs = s.cs := rfl
@[simp] theorem State.onShot_spl (s : State) (f : Nat → Nat) : (s.onShot f).spl = s.spl := rfl
@[simp] theorem State.onShot_take (s : State) (f : Nat → Nat) : (s.onShot f).take = s.take := rfl
@[simp] theorem State.onShot_sp (s : State) (f : Nat → Nat) : (s.onShot f).sp = s.sp := rfl
@[simp] theorem State.onShot_net (s : State) (f : Nat → Nat) : (s.onShot f).net = s.net := rfl
@[simp] theorem State.onShot_dl (s : State) (f : Nat → Nat) : (s.onShot f).dl = s.dl := rfl
@[simp] theorem State.onShot_clk (s : State) (f : Nat → Nat) : (s.onShot f).clk = s.clk := rfl
@[simp] theorem State.onShot_ptp (s : State) (f : Nat → Nat) : (s.onShot f).ptp = s.ptp := rfl
@[simp] theorem State.onShot_fab (s : State) (f : Nat → Nat) : (s.onShot f).fab = s.fab := rfl
@[simp] theorem State.onShot_flt (s : State) (f : Nat → Nat) : (s.onShot f).flt = s.flt := rfl
@[simp] theorem State.onShot_pcn (s : State) (f : Nat → Nat) : (s.onShot f).pcn = s.pcn := rfl
@[simp] theorem State.onShot_cmd (s : State) (f : Nat → Nat) : (s.onShot f).cmd = s.cmd := rfl
@[simp] theorem State.onShot_fuse (s : State) (f : Nat → Nat) : (s.onShot f).fuse = s.fuse := rfl
@[simp] theorem State.onShot_boot (s : State) (f : Nat → Nat) : (s.onShot f).boot = s.boot := rfl
@[simp] theorem State.onShot_sti (s : State) (f : Nat → Nat) : (s.onShot f).sti = s.sti := rfl
@[simp] theorem State.onShot_rl (s : State) (f : Nat → Nat) : (s.onShot f).rl = s.rl := rfl
@[simp] theorem State.onShot_pin (s : State) (f : Nat → Nat) : (s.onShot f).pin = s.pin := rfl
@[simp] theorem State.onShot_outs (s : State) (f : Nat → Nat) : (s.onShot f).outs = s.outs := rfl
@[simp] theorem State.onShot_free (s : State) (f : Nat → Nat) : (s.onShot f).free = s.free := rfl
@[simp] theorem State.onShot_pending (s : State) (f : Nat → Nat) : (s.onShot f).pending = s.pending := rfl
@[simp] theorem State.onTime_regs (s : State) (f : Nat → Nat) : (s.onTime f).regs = s.regs := rfl
@[simp] theorem State.onTime_mem (s : State) (f : Nat → Nat) : (s.onTime f).mem = s.mem := rfl
@[simp] theorem State.onTime_stage (s : State) (f : Nat → Nat) : (s.onTime f).stage = s.stage := rfl
@[simp] theorem State.onTime_shot (s : State) (f : Nat → Nat) : (s.onTime f).shot = s.shot := rfl
@[simp] theorem State.onTime_time (s : State) (f : Nat → Nat) : (s.onTime f).time = f s.time := rfl
@[simp] theorem State.onTime_eng (s : State) (f : Nat → Nat) : (s.onTime f).eng = s.eng := rfl
@[simp] theorem State.onTime_cs (s : State) (f : Nat → Nat) : (s.onTime f).cs = s.cs := rfl
@[simp] theorem State.onTime_spl (s : State) (f : Nat → Nat) : (s.onTime f).spl = s.spl := rfl
@[simp] theorem State.onTime_take (s : State) (f : Nat → Nat) : (s.onTime f).take = s.take := rfl
@[simp] theorem State.onTime_sp (s : State) (f : Nat → Nat) : (s.onTime f).sp = s.sp := rfl
@[simp] theorem State.onTime_net (s : State) (f : Nat → Nat) : (s.onTime f).net = s.net := rfl
@[simp] theorem State.onTime_dl (s : State) (f : Nat → Nat) : (s.onTime f).dl = s.dl := rfl
@[simp] theorem State.onTime_clk (s : State) (f : Nat → Nat) : (s.onTime f).clk = s.clk := rfl
@[simp] theorem State.onTime_ptp (s : State) (f : Nat → Nat) : (s.onTime f).ptp = s.ptp := rfl
@[simp] theorem State.onTime_fab (s : State) (f : Nat → Nat) : (s.onTime f).fab = s.fab := rfl
@[simp] theorem State.onTime_flt (s : State) (f : Nat → Nat) : (s.onTime f).flt = s.flt := rfl
@[simp] theorem State.onTime_pcn (s : State) (f : Nat → Nat) : (s.onTime f).pcn = s.pcn := rfl
@[simp] theorem State.onTime_cmd (s : State) (f : Nat → Nat) : (s.onTime f).cmd = s.cmd := rfl
@[simp] theorem State.onTime_fuse (s : State) (f : Nat → Nat) : (s.onTime f).fuse = s.fuse := rfl
@[simp] theorem State.onTime_boot (s : State) (f : Nat → Nat) : (s.onTime f).boot = s.boot := rfl
@[simp] theorem State.onTime_sti (s : State) (f : Nat → Nat) : (s.onTime f).sti = s.sti := rfl
@[simp] theorem State.onTime_rl (s : State) (f : Nat → Nat) : (s.onTime f).rl = s.rl := rfl
@[simp] theorem State.onTime_pin (s : State) (f : Nat → Nat) : (s.onTime f).pin = s.pin := rfl
@[simp] theorem State.onTime_outs (s : State) (f : Nat → Nat) : (s.onTime f).outs = s.outs := rfl
@[simp] theorem State.onTime_free (s : State) (f : Nat → Nat) : (s.onTime f).free = s.free := rfl
@[simp] theorem State.onTime_pending (s : State) (f : Nat → Nat) : (s.onTime f).pending = s.pending := rfl
@[simp] theorem State.onEng_regs (s : State) (f : List EngU → List EngU) : (s.onEng f).regs = s.regs := rfl
@[simp] theorem State.onEng_mem (s : State) (f : List EngU → List EngU) : (s.onEng f).mem = s.mem := rfl
@[simp] theorem State.onEng_stage (s : State) (f : List EngU → List EngU) : (s.onEng f).stage = s.stage := rfl
@[simp] theorem State.onEng_shot (s : State) (f : List EngU → List EngU) : (s.onEng f).shot = s.shot := rfl
@[simp] theorem State.onEng_time (s : State) (f : List EngU → List EngU) : (s.onEng f).time = s.time := rfl
@[simp] theorem State.onEng_eng (s : State) (f : List EngU → List EngU) : (s.onEng f).eng = f s.eng := rfl
@[simp] theorem State.onEng_cs (s : State) (f : List EngU → List EngU) : (s.onEng f).cs = s.cs := rfl
@[simp] theorem State.onEng_spl (s : State) (f : List EngU → List EngU) : (s.onEng f).spl = s.spl := rfl
@[simp] theorem State.onEng_take (s : State) (f : List EngU → List EngU) : (s.onEng f).take = s.take := rfl
@[simp] theorem State.onEng_sp (s : State) (f : List EngU → List EngU) : (s.onEng f).sp = s.sp := rfl
@[simp] theorem State.onEng_net (s : State) (f : List EngU → List EngU) : (s.onEng f).net = s.net := rfl
@[simp] theorem State.onEng_dl (s : State) (f : List EngU → List EngU) : (s.onEng f).dl = s.dl := rfl
@[simp] theorem State.onEng_clk (s : State) (f : List EngU → List EngU) : (s.onEng f).clk = s.clk := rfl
@[simp] theorem State.onEng_ptp (s : State) (f : List EngU → List EngU) : (s.onEng f).ptp = s.ptp := rfl
@[simp] theorem State.onEng_fab (s : State) (f : List EngU → List EngU) : (s.onEng f).fab = s.fab := rfl
@[simp] theorem State.onEng_flt (s : State) (f : List EngU → List EngU) : (s.onEng f).flt = s.flt := rfl
@[simp] theorem State.onEng_pcn (s : State) (f : List EngU → List EngU) : (s.onEng f).pcn = s.pcn := rfl
@[simp] theorem State.onEng_cmd (s : State) (f : List EngU → List EngU) : (s.onEng f).cmd = s.cmd := rfl
@[simp] theorem State.onEng_fuse (s : State) (f : List EngU → List EngU) : (s.onEng f).fuse = s.fuse := rfl
@[simp] theorem State.onEng_boot (s : State) (f : List EngU → List EngU) : (s.onEng f).boot = s.boot := rfl
@[simp] theorem State.onEng_sti (s : State) (f : List EngU → List EngU) : (s.onEng f).sti = s.sti := rfl
@[simp] theorem State.onEng_rl (s : State) (f : List EngU → List EngU) : (s.onEng f).rl = s.rl := rfl
@[simp] theorem State.onEng_pin (s : State) (f : List EngU → List EngU) : (s.onEng f).pin = s.pin := rfl
@[simp] theorem State.onEng_outs (s : State) (f : List EngU → List EngU) : (s.onEng f).outs = s.outs := rfl
@[simp] theorem State.onEng_free (s : State) (f : List EngU → List EngU) : (s.onEng f).free = s.free := rfl
@[simp] theorem State.onEng_pending (s : State) (f : List EngU → List EngU) : (s.onEng f).pending = s.pending := rfl
@[simp] theorem State.onCs_regs (s : State) (f : CsU → CsU) : (s.onCs f).regs = s.regs := rfl
@[simp] theorem State.onCs_mem (s : State) (f : CsU → CsU) : (s.onCs f).mem = s.mem := rfl
@[simp] theorem State.onCs_stage (s : State) (f : CsU → CsU) : (s.onCs f).stage = s.stage := rfl
@[simp] theorem State.onCs_shot (s : State) (f : CsU → CsU) : (s.onCs f).shot = s.shot := rfl
@[simp] theorem State.onCs_time (s : State) (f : CsU → CsU) : (s.onCs f).time = s.time := rfl
@[simp] theorem State.onCs_eng (s : State) (f : CsU → CsU) : (s.onCs f).eng = s.eng := rfl
@[simp] theorem State.onCs_cs (s : State) (f : CsU → CsU) : (s.onCs f).cs = f s.cs := rfl
@[simp] theorem State.onCs_spl (s : State) (f : CsU → CsU) : (s.onCs f).spl = s.spl := rfl
@[simp] theorem State.onCs_take (s : State) (f : CsU → CsU) : (s.onCs f).take = s.take := rfl
@[simp] theorem State.onCs_sp (s : State) (f : CsU → CsU) : (s.onCs f).sp = s.sp := rfl
@[simp] theorem State.onCs_net (s : State) (f : CsU → CsU) : (s.onCs f).net = s.net := rfl
@[simp] theorem State.onCs_dl (s : State) (f : CsU → CsU) : (s.onCs f).dl = s.dl := rfl
@[simp] theorem State.onCs_clk (s : State) (f : CsU → CsU) : (s.onCs f).clk = s.clk := rfl
@[simp] theorem State.onCs_ptp (s : State) (f : CsU → CsU) : (s.onCs f).ptp = s.ptp := rfl
@[simp] theorem State.onCs_fab (s : State) (f : CsU → CsU) : (s.onCs f).fab = s.fab := rfl
@[simp] theorem State.onCs_flt (s : State) (f : CsU → CsU) : (s.onCs f).flt = s.flt := rfl
@[simp] theorem State.onCs_pcn (s : State) (f : CsU → CsU) : (s.onCs f).pcn = s.pcn := rfl
@[simp] theorem State.onCs_cmd (s : State) (f : CsU → CsU) : (s.onCs f).cmd = s.cmd := rfl
@[simp] theorem State.onCs_fuse (s : State) (f : CsU → CsU) : (s.onCs f).fuse = s.fuse := rfl
@[simp] theorem State.onCs_boot (s : State) (f : CsU → CsU) : (s.onCs f).boot = s.boot := rfl
@[simp] theorem State.onCs_sti (s : State) (f : CsU → CsU) : (s.onCs f).sti = s.sti := rfl
@[simp] theorem State.onCs_rl (s : State) (f : CsU → CsU) : (s.onCs f).rl = s.rl := rfl
@[simp] theorem State.onCs_pin (s : State) (f : CsU → CsU) : (s.onCs f).pin = s.pin := rfl
@[simp] theorem State.onCs_outs (s : State) (f : CsU → CsU) : (s.onCs f).outs = s.outs := rfl
@[simp] theorem State.onCs_free (s : State) (f : CsU → CsU) : (s.onCs f).free = s.free := rfl
@[simp] theorem State.onCs_pending (s : State) (f : CsU → CsU) : (s.onCs f).pending = s.pending := rfl
@[simp] theorem State.onSpl_regs (s : State) (f : SplU → SplU) : (s.onSpl f).regs = s.regs := rfl
@[simp] theorem State.onSpl_mem (s : State) (f : SplU → SplU) : (s.onSpl f).mem = s.mem := rfl
@[simp] theorem State.onSpl_stage (s : State) (f : SplU → SplU) : (s.onSpl f).stage = s.stage := rfl
@[simp] theorem State.onSpl_shot (s : State) (f : SplU → SplU) : (s.onSpl f).shot = s.shot := rfl
@[simp] theorem State.onSpl_time (s : State) (f : SplU → SplU) : (s.onSpl f).time = s.time := rfl
@[simp] theorem State.onSpl_eng (s : State) (f : SplU → SplU) : (s.onSpl f).eng = s.eng := rfl
@[simp] theorem State.onSpl_cs (s : State) (f : SplU → SplU) : (s.onSpl f).cs = s.cs := rfl
@[simp] theorem State.onSpl_spl (s : State) (f : SplU → SplU) : (s.onSpl f).spl = f s.spl := rfl
@[simp] theorem State.onSpl_take (s : State) (f : SplU → SplU) : (s.onSpl f).take = s.take := rfl
@[simp] theorem State.onSpl_sp (s : State) (f : SplU → SplU) : (s.onSpl f).sp = s.sp := rfl
@[simp] theorem State.onSpl_net (s : State) (f : SplU → SplU) : (s.onSpl f).net = s.net := rfl
@[simp] theorem State.onSpl_dl (s : State) (f : SplU → SplU) : (s.onSpl f).dl = s.dl := rfl
@[simp] theorem State.onSpl_clk (s : State) (f : SplU → SplU) : (s.onSpl f).clk = s.clk := rfl
@[simp] theorem State.onSpl_ptp (s : State) (f : SplU → SplU) : (s.onSpl f).ptp = s.ptp := rfl
@[simp] theorem State.onSpl_fab (s : State) (f : SplU → SplU) : (s.onSpl f).fab = s.fab := rfl
@[simp] theorem State.onSpl_flt (s : State) (f : SplU → SplU) : (s.onSpl f).flt = s.flt := rfl
@[simp] theorem State.onSpl_pcn (s : State) (f : SplU → SplU) : (s.onSpl f).pcn = s.pcn := rfl
@[simp] theorem State.onSpl_cmd (s : State) (f : SplU → SplU) : (s.onSpl f).cmd = s.cmd := rfl
@[simp] theorem State.onSpl_fuse (s : State) (f : SplU → SplU) : (s.onSpl f).fuse = s.fuse := rfl
@[simp] theorem State.onSpl_boot (s : State) (f : SplU → SplU) : (s.onSpl f).boot = s.boot := rfl
@[simp] theorem State.onSpl_sti (s : State) (f : SplU → SplU) : (s.onSpl f).sti = s.sti := rfl
@[simp] theorem State.onSpl_rl (s : State) (f : SplU → SplU) : (s.onSpl f).rl = s.rl := rfl
@[simp] theorem State.onSpl_pin (s : State) (f : SplU → SplU) : (s.onSpl f).pin = s.pin := rfl
@[simp] theorem State.onSpl_outs (s : State) (f : SplU → SplU) : (s.onSpl f).outs = s.outs := rfl
@[simp] theorem State.onSpl_free (s : State) (f : SplU → SplU) : (s.onSpl f).free = s.free := rfl
@[simp] theorem State.onSpl_pending (s : State) (f : SplU → SplU) : (s.onSpl f).pending = s.pending := rfl
@[simp] theorem State.onTake_regs (s : State) (f : TakeU → TakeU) : (s.onTake f).regs = s.regs := rfl
@[simp] theorem State.onTake_mem (s : State) (f : TakeU → TakeU) : (s.onTake f).mem = s.mem := rfl
@[simp] theorem State.onTake_stage (s : State) (f : TakeU → TakeU) : (s.onTake f).stage = s.stage := rfl
@[simp] theorem State.onTake_shot (s : State) (f : TakeU → TakeU) : (s.onTake f).shot = s.shot := rfl
@[simp] theorem State.onTake_time (s : State) (f : TakeU → TakeU) : (s.onTake f).time = s.time := rfl
@[simp] theorem State.onTake_eng (s : State) (f : TakeU → TakeU) : (s.onTake f).eng = s.eng := rfl
@[simp] theorem State.onTake_cs (s : State) (f : TakeU → TakeU) : (s.onTake f).cs = s.cs := rfl
@[simp] theorem State.onTake_spl (s : State) (f : TakeU → TakeU) : (s.onTake f).spl = s.spl := rfl
@[simp] theorem State.onTake_take (s : State) (f : TakeU → TakeU) : (s.onTake f).take = f s.take := rfl
@[simp] theorem State.onTake_sp (s : State) (f : TakeU → TakeU) : (s.onTake f).sp = s.sp := rfl
@[simp] theorem State.onTake_net (s : State) (f : TakeU → TakeU) : (s.onTake f).net = s.net := rfl
@[simp] theorem State.onTake_dl (s : State) (f : TakeU → TakeU) : (s.onTake f).dl = s.dl := rfl
@[simp] theorem State.onTake_clk (s : State) (f : TakeU → TakeU) : (s.onTake f).clk = s.clk := rfl
@[simp] theorem State.onTake_ptp (s : State) (f : TakeU → TakeU) : (s.onTake f).ptp = s.ptp := rfl
@[simp] theorem State.onTake_fab (s : State) (f : TakeU → TakeU) : (s.onTake f).fab = s.fab := rfl
@[simp] theorem State.onTake_flt (s : State) (f : TakeU → TakeU) : (s.onTake f).flt = s.flt := rfl
@[simp] theorem State.onTake_pcn (s : State) (f : TakeU → TakeU) : (s.onTake f).pcn = s.pcn := rfl
@[simp] theorem State.onTake_cmd (s : State) (f : TakeU → TakeU) : (s.onTake f).cmd = s.cmd := rfl
@[simp] theorem State.onTake_fuse (s : State) (f : TakeU → TakeU) : (s.onTake f).fuse = s.fuse := rfl
@[simp] theorem State.onTake_boot (s : State) (f : TakeU → TakeU) : (s.onTake f).boot = s.boot := rfl
@[simp] theorem State.onTake_sti (s : State) (f : TakeU → TakeU) : (s.onTake f).sti = s.sti := rfl
@[simp] theorem State.onTake_rl (s : State) (f : TakeU → TakeU) : (s.onTake f).rl = s.rl := rfl
@[simp] theorem State.onTake_pin (s : State) (f : TakeU → TakeU) : (s.onTake f).pin = s.pin := rfl
@[simp] theorem State.onTake_outs (s : State) (f : TakeU → TakeU) : (s.onTake f).outs = s.outs := rfl
@[simp] theorem State.onTake_free (s : State) (f : TakeU → TakeU) : (s.onTake f).free = s.free := rfl
@[simp] theorem State.onTake_pending (s : State) (f : TakeU → TakeU) : (s.onTake f).pending = s.pending := rfl
@[simp] theorem State.onSp_regs (s : State) (f : SpU → SpU) : (s.onSp f).regs = s.regs := rfl
@[simp] theorem State.onSp_mem (s : State) (f : SpU → SpU) : (s.onSp f).mem = s.mem := rfl
@[simp] theorem State.onSp_stage (s : State) (f : SpU → SpU) : (s.onSp f).stage = s.stage := rfl
@[simp] theorem State.onSp_shot (s : State) (f : SpU → SpU) : (s.onSp f).shot = s.shot := rfl
@[simp] theorem State.onSp_time (s : State) (f : SpU → SpU) : (s.onSp f).time = s.time := rfl
@[simp] theorem State.onSp_eng (s : State) (f : SpU → SpU) : (s.onSp f).eng = s.eng := rfl
@[simp] theorem State.onSp_cs (s : State) (f : SpU → SpU) : (s.onSp f).cs = s.cs := rfl
@[simp] theorem State.onSp_spl (s : State) (f : SpU → SpU) : (s.onSp f).spl = s.spl := rfl
@[simp] theorem State.onSp_take (s : State) (f : SpU → SpU) : (s.onSp f).take = s.take := rfl
@[simp] theorem State.onSp_sp (s : State) (f : SpU → SpU) : (s.onSp f).sp = f s.sp := rfl
@[simp] theorem State.onSp_net (s : State) (f : SpU → SpU) : (s.onSp f).net = s.net := rfl
@[simp] theorem State.onSp_dl (s : State) (f : SpU → SpU) : (s.onSp f).dl = s.dl := rfl
@[simp] theorem State.onSp_clk (s : State) (f : SpU → SpU) : (s.onSp f).clk = s.clk := rfl
@[simp] theorem State.onSp_ptp (s : State) (f : SpU → SpU) : (s.onSp f).ptp = s.ptp := rfl
@[simp] theorem State.onSp_fab (s : State) (f : SpU → SpU) : (s.onSp f).fab = s.fab := rfl
@[simp] theorem State.onSp_flt (s : State) (f : SpU → SpU) : (s.onSp f).flt = s.flt := rfl
@[simp] theorem State.onSp_pcn (s : State) (f : SpU → SpU) : (s.onSp f).pcn = s.pcn := rfl
@[simp] theorem State.onSp_cmd (s : State) (f : SpU → SpU) : (s.onSp f).cmd = s.cmd := rfl
@[simp] theorem State.onSp_fuse (s : State) (f : SpU → SpU) : (s.onSp f).fuse = s.fuse := rfl
@[simp] theorem State.onSp_boot (s : State) (f : SpU → SpU) : (s.onSp f).boot = s.boot := rfl
@[simp] theorem State.onSp_sti (s : State) (f : SpU → SpU) : (s.onSp f).sti = s.sti := rfl
@[simp] theorem State.onSp_rl (s : State) (f : SpU → SpU) : (s.onSp f).rl = s.rl := rfl
@[simp] theorem State.onSp_pin (s : State) (f : SpU → SpU) : (s.onSp f).pin = s.pin := rfl
@[simp] theorem State.onSp_outs (s : State) (f : SpU → SpU) : (s.onSp f).outs = s.outs := rfl
@[simp] theorem State.onSp_free (s : State) (f : SpU → SpU) : (s.onSp f).free = s.free := rfl
@[simp] theorem State.onSp_pending (s : State) (f : SpU → SpU) : (s.onSp f).pending = s.pending := rfl
@[simp] theorem State.onNet_regs (s : State) (f : NetU → NetU) : (s.onNet f).regs = s.regs := rfl
@[simp] theorem State.onNet_mem (s : State) (f : NetU → NetU) : (s.onNet f).mem = s.mem := rfl
@[simp] theorem State.onNet_stage (s : State) (f : NetU → NetU) : (s.onNet f).stage = s.stage := rfl
@[simp] theorem State.onNet_shot (s : State) (f : NetU → NetU) : (s.onNet f).shot = s.shot := rfl
@[simp] theorem State.onNet_time (s : State) (f : NetU → NetU) : (s.onNet f).time = s.time := rfl
@[simp] theorem State.onNet_eng (s : State) (f : NetU → NetU) : (s.onNet f).eng = s.eng := rfl
@[simp] theorem State.onNet_cs (s : State) (f : NetU → NetU) : (s.onNet f).cs = s.cs := rfl
@[simp] theorem State.onNet_spl (s : State) (f : NetU → NetU) : (s.onNet f).spl = s.spl := rfl
@[simp] theorem State.onNet_take (s : State) (f : NetU → NetU) : (s.onNet f).take = s.take := rfl
@[simp] theorem State.onNet_sp (s : State) (f : NetU → NetU) : (s.onNet f).sp = s.sp := rfl
@[simp] theorem State.onNet_net (s : State) (f : NetU → NetU) : (s.onNet f).net = f s.net := rfl
@[simp] theorem State.onNet_dl (s : State) (f : NetU → NetU) : (s.onNet f).dl = s.dl := rfl
@[simp] theorem State.onNet_clk (s : State) (f : NetU → NetU) : (s.onNet f).clk = s.clk := rfl
@[simp] theorem State.onNet_ptp (s : State) (f : NetU → NetU) : (s.onNet f).ptp = s.ptp := rfl
@[simp] theorem State.onNet_fab (s : State) (f : NetU → NetU) : (s.onNet f).fab = s.fab := rfl
@[simp] theorem State.onNet_flt (s : State) (f : NetU → NetU) : (s.onNet f).flt = s.flt := rfl
@[simp] theorem State.onNet_pcn (s : State) (f : NetU → NetU) : (s.onNet f).pcn = s.pcn := rfl
@[simp] theorem State.onNet_cmd (s : State) (f : NetU → NetU) : (s.onNet f).cmd = s.cmd := rfl
@[simp] theorem State.onNet_fuse (s : State) (f : NetU → NetU) : (s.onNet f).fuse = s.fuse := rfl
@[simp] theorem State.onNet_boot (s : State) (f : NetU → NetU) : (s.onNet f).boot = s.boot := rfl
@[simp] theorem State.onNet_sti (s : State) (f : NetU → NetU) : (s.onNet f).sti = s.sti := rfl
@[simp] theorem State.onNet_rl (s : State) (f : NetU → NetU) : (s.onNet f).rl = s.rl := rfl
@[simp] theorem State.onNet_pin (s : State) (f : NetU → NetU) : (s.onNet f).pin = s.pin := rfl
@[simp] theorem State.onNet_outs (s : State) (f : NetU → NetU) : (s.onNet f).outs = s.outs := rfl
@[simp] theorem State.onNet_free (s : State) (f : NetU → NetU) : (s.onNet f).free = s.free := rfl
@[simp] theorem State.onNet_pending (s : State) (f : NetU → NetU) : (s.onNet f).pending = s.pending := rfl
@[simp] theorem State.onDl_regs (s : State) (f : DlU → DlU) : (s.onDl f).regs = s.regs := rfl
@[simp] theorem State.onDl_mem (s : State) (f : DlU → DlU) : (s.onDl f).mem = s.mem := rfl
@[simp] theorem State.onDl_stage (s : State) (f : DlU → DlU) : (s.onDl f).stage = s.stage := rfl
@[simp] theorem State.onDl_shot (s : State) (f : DlU → DlU) : (s.onDl f).shot = s.shot := rfl
@[simp] theorem State.onDl_time (s : State) (f : DlU → DlU) : (s.onDl f).time = s.time := rfl
@[simp] theorem State.onDl_eng (s : State) (f : DlU → DlU) : (s.onDl f).eng = s.eng := rfl
@[simp] theorem State.onDl_cs (s : State) (f : DlU → DlU) : (s.onDl f).cs = s.cs := rfl
@[simp] theorem State.onDl_spl (s : State) (f : DlU → DlU) : (s.onDl f).spl = s.spl := rfl
@[simp] theorem State.onDl_take (s : State) (f : DlU → DlU) : (s.onDl f).take = s.take := rfl
@[simp] theorem State.onDl_sp (s : State) (f : DlU → DlU) : (s.onDl f).sp = s.sp := rfl
@[simp] theorem State.onDl_net (s : State) (f : DlU → DlU) : (s.onDl f).net = s.net := rfl
@[simp] theorem State.onDl_dl (s : State) (f : DlU → DlU) : (s.onDl f).dl = f s.dl := rfl
@[simp] theorem State.onDl_clk (s : State) (f : DlU → DlU) : (s.onDl f).clk = s.clk := rfl
@[simp] theorem State.onDl_ptp (s : State) (f : DlU → DlU) : (s.onDl f).ptp = s.ptp := rfl
@[simp] theorem State.onDl_fab (s : State) (f : DlU → DlU) : (s.onDl f).fab = s.fab := rfl
@[simp] theorem State.onDl_flt (s : State) (f : DlU → DlU) : (s.onDl f).flt = s.flt := rfl
@[simp] theorem State.onDl_pcn (s : State) (f : DlU → DlU) : (s.onDl f).pcn = s.pcn := rfl
@[simp] theorem State.onDl_cmd (s : State) (f : DlU → DlU) : (s.onDl f).cmd = s.cmd := rfl
@[simp] theorem State.onDl_fuse (s : State) (f : DlU → DlU) : (s.onDl f).fuse = s.fuse := rfl
@[simp] theorem State.onDl_boot (s : State) (f : DlU → DlU) : (s.onDl f).boot = s.boot := rfl
@[simp] theorem State.onDl_sti (s : State) (f : DlU → DlU) : (s.onDl f).sti = s.sti := rfl
@[simp] theorem State.onDl_rl (s : State) (f : DlU → DlU) : (s.onDl f).rl = s.rl := rfl
@[simp] theorem State.onDl_pin (s : State) (f : DlU → DlU) : (s.onDl f).pin = s.pin := rfl
@[simp] theorem State.onDl_outs (s : State) (f : DlU → DlU) : (s.onDl f).outs = s.outs := rfl
@[simp] theorem State.onDl_free (s : State) (f : DlU → DlU) : (s.onDl f).free = s.free := rfl
@[simp] theorem State.onDl_pending (s : State) (f : DlU → DlU) : (s.onDl f).pending = s.pending := rfl
@[simp] theorem State.onClk_regs (s : State) (f : ClkU → ClkU) : (s.onClk f).regs = s.regs := rfl
@[simp] theorem State.onClk_mem (s : State) (f : ClkU → ClkU) : (s.onClk f).mem = s.mem := rfl
@[simp] theorem State.onClk_stage (s : State) (f : ClkU → ClkU) : (s.onClk f).stage = s.stage := rfl
@[simp] theorem State.onClk_shot (s : State) (f : ClkU → ClkU) : (s.onClk f).shot = s.shot := rfl
@[simp] theorem State.onClk_time (s : State) (f : ClkU → ClkU) : (s.onClk f).time = s.time := rfl
@[simp] theorem State.onClk_eng (s : State) (f : ClkU → ClkU) : (s.onClk f).eng = s.eng := rfl
@[simp] theorem State.onClk_cs (s : State) (f : ClkU → ClkU) : (s.onClk f).cs = s.cs := rfl
@[simp] theorem State.onClk_spl (s : State) (f : ClkU → ClkU) : (s.onClk f).spl = s.spl := rfl
@[simp] theorem State.onClk_take (s : State) (f : ClkU → ClkU) : (s.onClk f).take = s.take := rfl
@[simp] theorem State.onClk_sp (s : State) (f : ClkU → ClkU) : (s.onClk f).sp = s.sp := rfl
@[simp] theorem State.onClk_net (s : State) (f : ClkU → ClkU) : (s.onClk f).net = s.net := rfl
@[simp] theorem State.onClk_dl (s : State) (f : ClkU → ClkU) : (s.onClk f).dl = s.dl := rfl
@[simp] theorem State.onClk_clk (s : State) (f : ClkU → ClkU) : (s.onClk f).clk = f s.clk := rfl
@[simp] theorem State.onClk_ptp (s : State) (f : ClkU → ClkU) : (s.onClk f).ptp = s.ptp := rfl
@[simp] theorem State.onClk_fab (s : State) (f : ClkU → ClkU) : (s.onClk f).fab = s.fab := rfl
@[simp] theorem State.onClk_flt (s : State) (f : ClkU → ClkU) : (s.onClk f).flt = s.flt := rfl
@[simp] theorem State.onClk_pcn (s : State) (f : ClkU → ClkU) : (s.onClk f).pcn = s.pcn := rfl
@[simp] theorem State.onClk_cmd (s : State) (f : ClkU → ClkU) : (s.onClk f).cmd = s.cmd := rfl
@[simp] theorem State.onClk_fuse (s : State) (f : ClkU → ClkU) : (s.onClk f).fuse = s.fuse := rfl
@[simp] theorem State.onClk_boot (s : State) (f : ClkU → ClkU) : (s.onClk f).boot = s.boot := rfl
@[simp] theorem State.onClk_sti (s : State) (f : ClkU → ClkU) : (s.onClk f).sti = s.sti := rfl
@[simp] theorem State.onClk_rl (s : State) (f : ClkU → ClkU) : (s.onClk f).rl = s.rl := rfl
@[simp] theorem State.onClk_pin (s : State) (f : ClkU → ClkU) : (s.onClk f).pin = s.pin := rfl
@[simp] theorem State.onClk_outs (s : State) (f : ClkU → ClkU) : (s.onClk f).outs = s.outs := rfl
@[simp] theorem State.onClk_free (s : State) (f : ClkU → ClkU) : (s.onClk f).free = s.free := rfl
@[simp] theorem State.onClk_pending (s : State) (f : ClkU → ClkU) : (s.onClk f).pending = s.pending := rfl
@[simp] theorem State.onPtp_regs (s : State) (f : PtpU → PtpU) : (s.onPtp f).regs = s.regs := rfl
@[simp] theorem State.onPtp_mem (s : State) (f : PtpU → PtpU) : (s.onPtp f).mem = s.mem := rfl
@[simp] theorem State.onPtp_stage (s : State) (f : PtpU → PtpU) : (s.onPtp f).stage = s.stage := rfl
@[simp] theorem State.onPtp_shot (s : State) (f : PtpU → PtpU) : (s.onPtp f).shot = s.shot := rfl
@[simp] theorem State.onPtp_time (s : State) (f : PtpU → PtpU) : (s.onPtp f).time = s.time := rfl
@[simp] theorem State.onPtp_eng (s : State) (f : PtpU → PtpU) : (s.onPtp f).eng = s.eng := rfl
@[simp] theorem State.onPtp_cs (s : State) (f : PtpU → PtpU) : (s.onPtp f).cs = s.cs := rfl
@[simp] theorem State.onPtp_spl (s : State) (f : PtpU → PtpU) : (s.onPtp f).spl = s.spl := rfl
@[simp] theorem State.onPtp_take (s : State) (f : PtpU → PtpU) : (s.onPtp f).take = s.take := rfl
@[simp] theorem State.onPtp_sp (s : State) (f : PtpU → PtpU) : (s.onPtp f).sp = s.sp := rfl
@[simp] theorem State.onPtp_net (s : State) (f : PtpU → PtpU) : (s.onPtp f).net = s.net := rfl
@[simp] theorem State.onPtp_dl (s : State) (f : PtpU → PtpU) : (s.onPtp f).dl = s.dl := rfl
@[simp] theorem State.onPtp_clk (s : State) (f : PtpU → PtpU) : (s.onPtp f).clk = s.clk := rfl
@[simp] theorem State.onPtp_ptp (s : State) (f : PtpU → PtpU) : (s.onPtp f).ptp = f s.ptp := rfl
@[simp] theorem State.onPtp_fab (s : State) (f : PtpU → PtpU) : (s.onPtp f).fab = s.fab := rfl
@[simp] theorem State.onPtp_flt (s : State) (f : PtpU → PtpU) : (s.onPtp f).flt = s.flt := rfl
@[simp] theorem State.onPtp_pcn (s : State) (f : PtpU → PtpU) : (s.onPtp f).pcn = s.pcn := rfl
@[simp] theorem State.onPtp_cmd (s : State) (f : PtpU → PtpU) : (s.onPtp f).cmd = s.cmd := rfl
@[simp] theorem State.onPtp_fuse (s : State) (f : PtpU → PtpU) : (s.onPtp f).fuse = s.fuse := rfl
@[simp] theorem State.onPtp_boot (s : State) (f : PtpU → PtpU) : (s.onPtp f).boot = s.boot := rfl
@[simp] theorem State.onPtp_sti (s : State) (f : PtpU → PtpU) : (s.onPtp f).sti = s.sti := rfl
@[simp] theorem State.onPtp_rl (s : State) (f : PtpU → PtpU) : (s.onPtp f).rl = s.rl := rfl
@[simp] theorem State.onPtp_pin (s : State) (f : PtpU → PtpU) : (s.onPtp f).pin = s.pin := rfl
@[simp] theorem State.onPtp_outs (s : State) (f : PtpU → PtpU) : (s.onPtp f).outs = s.outs := rfl
@[simp] theorem State.onPtp_free (s : State) (f : PtpU → PtpU) : (s.onPtp f).free = s.free := rfl
@[simp] theorem State.onPtp_pending (s : State) (f : PtpU → PtpU) : (s.onPtp f).pending = s.pending := rfl
@[simp] theorem State.onFab_regs (s : State) (f : FabU → FabU) : (s.onFab f).regs = s.regs := rfl
@[simp] theorem State.onFab_mem (s : State) (f : FabU → FabU) : (s.onFab f).mem = s.mem := rfl
@[simp] theorem State.onFab_stage (s : State) (f : FabU → FabU) : (s.onFab f).stage = s.stage := rfl
@[simp] theorem State.onFab_shot (s : State) (f : FabU → FabU) : (s.onFab f).shot = s.shot := rfl
@[simp] theorem State.onFab_time (s : State) (f : FabU → FabU) : (s.onFab f).time = s.time := rfl
@[simp] theorem State.onFab_eng (s : State) (f : FabU → FabU) : (s.onFab f).eng = s.eng := rfl
@[simp] theorem State.onFab_cs (s : State) (f : FabU → FabU) : (s.onFab f).cs = s.cs := rfl
@[simp] theorem State.onFab_spl (s : State) (f : FabU → FabU) : (s.onFab f).spl = s.spl := rfl
@[simp] theorem State.onFab_take (s : State) (f : FabU → FabU) : (s.onFab f).take = s.take := rfl
@[simp] theorem State.onFab_sp (s : State) (f : FabU → FabU) : (s.onFab f).sp = s.sp := rfl
@[simp] theorem State.onFab_net (s : State) (f : FabU → FabU) : (s.onFab f).net = s.net := rfl
@[simp] theorem State.onFab_dl (s : State) (f : FabU → FabU) : (s.onFab f).dl = s.dl := rfl
@[simp] theorem State.onFab_clk (s : State) (f : FabU → FabU) : (s.onFab f).clk = s.clk := rfl
@[simp] theorem State.onFab_ptp (s : State) (f : FabU → FabU) : (s.onFab f).ptp = s.ptp := rfl
@[simp] theorem State.onFab_fab (s : State) (f : FabU → FabU) : (s.onFab f).fab = f s.fab := rfl
@[simp] theorem State.onFab_flt (s : State) (f : FabU → FabU) : (s.onFab f).flt = s.flt := rfl
@[simp] theorem State.onFab_pcn (s : State) (f : FabU → FabU) : (s.onFab f).pcn = s.pcn := rfl
@[simp] theorem State.onFab_cmd (s : State) (f : FabU → FabU) : (s.onFab f).cmd = s.cmd := rfl
@[simp] theorem State.onFab_fuse (s : State) (f : FabU → FabU) : (s.onFab f).fuse = s.fuse := rfl
@[simp] theorem State.onFab_boot (s : State) (f : FabU → FabU) : (s.onFab f).boot = s.boot := rfl
@[simp] theorem State.onFab_sti (s : State) (f : FabU → FabU) : (s.onFab f).sti = s.sti := rfl
@[simp] theorem State.onFab_rl (s : State) (f : FabU → FabU) : (s.onFab f).rl = s.rl := rfl
@[simp] theorem State.onFab_pin (s : State) (f : FabU → FabU) : (s.onFab f).pin = s.pin := rfl
@[simp] theorem State.onFab_outs (s : State) (f : FabU → FabU) : (s.onFab f).outs = s.outs := rfl
@[simp] theorem State.onFab_free (s : State) (f : FabU → FabU) : (s.onFab f).free = s.free := rfl
@[simp] theorem State.onFab_pending (s : State) (f : FabU → FabU) : (s.onFab f).pending = s.pending := rfl
@[simp] theorem State.onFlt_regs (s : State) (f : FltU → FltU) : (s.onFlt f).regs = s.regs := rfl
@[simp] theorem State.onFlt_mem (s : State) (f : FltU → FltU) : (s.onFlt f).mem = s.mem := rfl
@[simp] theorem State.onFlt_stage (s : State) (f : FltU → FltU) : (s.onFlt f).stage = s.stage := rfl
@[simp] theorem State.onFlt_shot (s : State) (f : FltU → FltU) : (s.onFlt f).shot = s.shot := rfl
@[simp] theorem State.onFlt_time (s : State) (f : FltU → FltU) : (s.onFlt f).time = s.time := rfl
@[simp] theorem State.onFlt_eng (s : State) (f : FltU → FltU) : (s.onFlt f).eng = s.eng := rfl
@[simp] theorem State.onFlt_cs (s : State) (f : FltU → FltU) : (s.onFlt f).cs = s.cs := rfl
@[simp] theorem State.onFlt_spl (s : State) (f : FltU → FltU) : (s.onFlt f).spl = s.spl := rfl
@[simp] theorem State.onFlt_take (s : State) (f : FltU → FltU) : (s.onFlt f).take = s.take := rfl
@[simp] theorem State.onFlt_sp (s : State) (f : FltU → FltU) : (s.onFlt f).sp = s.sp := rfl
@[simp] theorem State.onFlt_net (s : State) (f : FltU → FltU) : (s.onFlt f).net = s.net := rfl
@[simp] theorem State.onFlt_dl (s : State) (f : FltU → FltU) : (s.onFlt f).dl = s.dl := rfl
@[simp] theorem State.onFlt_clk (s : State) (f : FltU → FltU) : (s.onFlt f).clk = s.clk := rfl
@[simp] theorem State.onFlt_ptp (s : State) (f : FltU → FltU) : (s.onFlt f).ptp = s.ptp := rfl
@[simp] theorem State.onFlt_fab (s : State) (f : FltU → FltU) : (s.onFlt f).fab = s.fab := rfl
@[simp] theorem State.onFlt_flt (s : State) (f : FltU → FltU) : (s.onFlt f).flt = f s.flt := rfl
@[simp] theorem State.onFlt_pcn (s : State) (f : FltU → FltU) : (s.onFlt f).pcn = s.pcn := rfl
@[simp] theorem State.onFlt_cmd (s : State) (f : FltU → FltU) : (s.onFlt f).cmd = s.cmd := rfl
@[simp] theorem State.onFlt_fuse (s : State) (f : FltU → FltU) : (s.onFlt f).fuse = s.fuse := rfl
@[simp] theorem State.onFlt_boot (s : State) (f : FltU → FltU) : (s.onFlt f).boot = s.boot := rfl
@[simp] theorem State.onFlt_sti (s : State) (f : FltU → FltU) : (s.onFlt f).sti = s.sti := rfl
@[simp] theorem State.onFlt_rl (s : State) (f : FltU → FltU) : (s.onFlt f).rl = s.rl := rfl
@[simp] theorem State.onFlt_pin (s : State) (f : FltU → FltU) : (s.onFlt f).pin = s.pin := rfl
@[simp] theorem State.onFlt_outs (s : State) (f : FltU → FltU) : (s.onFlt f).outs = s.outs := rfl
@[simp] theorem State.onFlt_free (s : State) (f : FltU → FltU) : (s.onFlt f).free = s.free := rfl
@[simp] theorem State.onFlt_pending (s : State) (f : FltU → FltU) : (s.onFlt f).pending = s.pending := rfl
@[simp] theorem State.onPcn_regs (s : State) (f : PcnU → PcnU) : (s.onPcn f).regs = s.regs := rfl
@[simp] theorem State.onPcn_mem (s : State) (f : PcnU → PcnU) : (s.onPcn f).mem = s.mem := rfl
@[simp] theorem State.onPcn_stage (s : State) (f : PcnU → PcnU) : (s.onPcn f).stage = s.stage := rfl
@[simp] theorem State.onPcn_shot (s : State) (f : PcnU → PcnU) : (s.onPcn f).shot = s.shot := rfl
@[simp] theorem State.onPcn_time (s : State) (f : PcnU → PcnU) : (s.onPcn f).time = s.time := rfl
@[simp] theorem State.onPcn_eng (s : State) (f : PcnU → PcnU) : (s.onPcn f).eng = s.eng := rfl
@[simp] theorem State.onPcn_cs (s : State) (f : PcnU → PcnU) : (s.onPcn f).cs = s.cs := rfl
@[simp] theorem State.onPcn_spl (s : State) (f : PcnU → PcnU) : (s.onPcn f).spl = s.spl := rfl
@[simp] theorem State.onPcn_take (s : State) (f : PcnU → PcnU) : (s.onPcn f).take = s.take := rfl
@[simp] theorem State.onPcn_sp (s : State) (f : PcnU → PcnU) : (s.onPcn f).sp = s.sp := rfl
@[simp] theorem State.onPcn_net (s : State) (f : PcnU → PcnU) : (s.onPcn f).net = s.net := rfl
@[simp] theorem State.onPcn_dl (s : State) (f : PcnU → PcnU) : (s.onPcn f).dl = s.dl := rfl
@[simp] theorem State.onPcn_clk (s : State) (f : PcnU → PcnU) : (s.onPcn f).clk = s.clk := rfl
@[simp] theorem State.onPcn_ptp (s : State) (f : PcnU → PcnU) : (s.onPcn f).ptp = s.ptp := rfl
@[simp] theorem State.onPcn_fab (s : State) (f : PcnU → PcnU) : (s.onPcn f).fab = s.fab := rfl
@[simp] theorem State.onPcn_flt (s : State) (f : PcnU → PcnU) : (s.onPcn f).flt = s.flt := rfl
@[simp] theorem State.onPcn_pcn (s : State) (f : PcnU → PcnU) : (s.onPcn f).pcn = f s.pcn := rfl
@[simp] theorem State.onPcn_cmd (s : State) (f : PcnU → PcnU) : (s.onPcn f).cmd = s.cmd := rfl
@[simp] theorem State.onPcn_fuse (s : State) (f : PcnU → PcnU) : (s.onPcn f).fuse = s.fuse := rfl
@[simp] theorem State.onPcn_boot (s : State) (f : PcnU → PcnU) : (s.onPcn f).boot = s.boot := rfl
@[simp] theorem State.onPcn_sti (s : State) (f : PcnU → PcnU) : (s.onPcn f).sti = s.sti := rfl
@[simp] theorem State.onPcn_rl (s : State) (f : PcnU → PcnU) : (s.onPcn f).rl = s.rl := rfl
@[simp] theorem State.onPcn_pin (s : State) (f : PcnU → PcnU) : (s.onPcn f).pin = s.pin := rfl
@[simp] theorem State.onPcn_outs (s : State) (f : PcnU → PcnU) : (s.onPcn f).outs = s.outs := rfl
@[simp] theorem State.onPcn_free (s : State) (f : PcnU → PcnU) : (s.onPcn f).free = s.free := rfl
@[simp] theorem State.onPcn_pending (s : State) (f : PcnU → PcnU) : (s.onPcn f).pending = s.pending := rfl
@[simp] theorem State.onCmd_regs (s : State) (f : CmdU → CmdU) : (s.onCmd f).regs = s.regs := rfl
@[simp] theorem State.onCmd_mem (s : State) (f : CmdU → CmdU) : (s.onCmd f).mem = s.mem := rfl
@[simp] theorem State.onCmd_stage (s : State) (f : CmdU → CmdU) : (s.onCmd f).stage = s.stage := rfl
@[simp] theorem State.onCmd_shot (s : State) (f : CmdU → CmdU) : (s.onCmd f).shot = s.shot := rfl
@[simp] theorem State.onCmd_time (s : State) (f : CmdU → CmdU) : (s.onCmd f).time = s.time := rfl
@[simp] theorem State.onCmd_eng (s : State) (f : CmdU → CmdU) : (s.onCmd f).eng = s.eng := rfl
@[simp] theorem State.onCmd_cs (s : State) (f : CmdU → CmdU) : (s.onCmd f).cs = s.cs := rfl
@[simp] theorem State.onCmd_spl (s : State) (f : CmdU → CmdU) : (s.onCmd f).spl = s.spl := rfl
@[simp] theorem State.onCmd_take (s : State) (f : CmdU → CmdU) : (s.onCmd f).take = s.take := rfl
@[simp] theorem State.onCmd_sp (s : State) (f : CmdU → CmdU) : (s.onCmd f).sp = s.sp := rfl
@[simp] theorem State.onCmd_net (s : State) (f : CmdU → CmdU) : (s.onCmd f).net = s.net := rfl
@[simp] theorem State.onCmd_dl (s : State) (f : CmdU → CmdU) : (s.onCmd f).dl = s.dl := rfl
@[simp] theorem State.onCmd_clk (s : State) (f : CmdU → CmdU) : (s.onCmd f).clk = s.clk := rfl
@[simp] theorem State.onCmd_ptp (s : State) (f : CmdU → CmdU) : (s.onCmd f).ptp = s.ptp := rfl
@[simp] theorem State.onCmd_fab (s : State) (f : CmdU → CmdU) : (s.onCmd f).fab = s.fab := rfl
@[simp] theorem State.onCmd_flt (s : State) (f : CmdU → CmdU) : (s.onCmd f).flt = s.flt := rfl
@[simp] theorem State.onCmd_pcn (s : State) (f : CmdU → CmdU) : (s.onCmd f).pcn = s.pcn := rfl
@[simp] theorem State.onCmd_cmd (s : State) (f : CmdU → CmdU) : (s.onCmd f).cmd = f s.cmd := rfl
@[simp] theorem State.onCmd_fuse (s : State) (f : CmdU → CmdU) : (s.onCmd f).fuse = s.fuse := rfl
@[simp] theorem State.onCmd_boot (s : State) (f : CmdU → CmdU) : (s.onCmd f).boot = s.boot := rfl
@[simp] theorem State.onCmd_sti (s : State) (f : CmdU → CmdU) : (s.onCmd f).sti = s.sti := rfl
@[simp] theorem State.onCmd_rl (s : State) (f : CmdU → CmdU) : (s.onCmd f).rl = s.rl := rfl
@[simp] theorem State.onCmd_pin (s : State) (f : CmdU → CmdU) : (s.onCmd f).pin = s.pin := rfl
@[simp] theorem State.onCmd_outs (s : State) (f : CmdU → CmdU) : (s.onCmd f).outs = s.outs := rfl
@[simp] theorem State.onCmd_free (s : State) (f : CmdU → CmdU) : (s.onCmd f).free = s.free := rfl
@[simp] theorem State.onCmd_pending (s : State) (f : CmdU → CmdU) : (s.onCmd f).pending = s.pending := rfl
@[simp] theorem State.onFuse_regs (s : State) (f : FuseU → FuseU) : (s.onFuse f).regs = s.regs := rfl
@[simp] theorem State.onFuse_mem (s : State) (f : FuseU → FuseU) : (s.onFuse f).mem = s.mem := rfl
@[simp] theorem State.onFuse_stage (s : State) (f : FuseU → FuseU) : (s.onFuse f).stage = s.stage := rfl
@[simp] theorem State.onFuse_shot (s : State) (f : FuseU → FuseU) : (s.onFuse f).shot = s.shot := rfl
@[simp] theorem State.onFuse_time (s : State) (f : FuseU → FuseU) : (s.onFuse f).time = s.time := rfl
@[simp] theorem State.onFuse_eng (s : State) (f : FuseU → FuseU) : (s.onFuse f).eng = s.eng := rfl
@[simp] theorem State.onFuse_cs (s : State) (f : FuseU → FuseU) : (s.onFuse f).cs = s.cs := rfl
@[simp] theorem State.onFuse_spl (s : State) (f : FuseU → FuseU) : (s.onFuse f).spl = s.spl := rfl
@[simp] theorem State.onFuse_take (s : State) (f : FuseU → FuseU) : (s.onFuse f).take = s.take := rfl
@[simp] theorem State.onFuse_sp (s : State) (f : FuseU → FuseU) : (s.onFuse f).sp = s.sp := rfl
@[simp] theorem State.onFuse_net (s : State) (f : FuseU → FuseU) : (s.onFuse f).net = s.net := rfl
@[simp] theorem State.onFuse_dl (s : State) (f : FuseU → FuseU) : (s.onFuse f).dl = s.dl := rfl
@[simp] theorem State.onFuse_clk (s : State) (f : FuseU → FuseU) : (s.onFuse f).clk = s.clk := rfl
@[simp] theorem State.onFuse_ptp (s : State) (f : FuseU → FuseU) : (s.onFuse f).ptp = s.ptp := rfl
@[simp] theorem State.onFuse_fab (s : State) (f : FuseU → FuseU) : (s.onFuse f).fab = s.fab := rfl
@[simp] theorem State.onFuse_flt (s : State) (f : FuseU → FuseU) : (s.onFuse f).flt = s.flt := rfl
@[simp] theorem State.onFuse_pcn (s : State) (f : FuseU → FuseU) : (s.onFuse f).pcn = s.pcn := rfl
@[simp] theorem State.onFuse_cmd (s : State) (f : FuseU → FuseU) : (s.onFuse f).cmd = s.cmd := rfl
@[simp] theorem State.onFuse_fuse (s : State) (f : FuseU → FuseU) : (s.onFuse f).fuse = f s.fuse := rfl
@[simp] theorem State.onFuse_boot (s : State) (f : FuseU → FuseU) : (s.onFuse f).boot = s.boot := rfl
@[simp] theorem State.onFuse_sti (s : State) (f : FuseU → FuseU) : (s.onFuse f).sti = s.sti := rfl
@[simp] theorem State.onFuse_rl (s : State) (f : FuseU → FuseU) : (s.onFuse f).rl = s.rl := rfl
@[simp] theorem State.onFuse_pin (s : State) (f : FuseU → FuseU) : (s.onFuse f).pin = s.pin := rfl
@[simp] theorem State.onFuse_outs (s : State) (f : FuseU → FuseU) : (s.onFuse f).outs = s.outs := rfl
@[simp] theorem State.onFuse_free (s : State) (f : FuseU → FuseU) : (s.onFuse f).free = s.free := rfl
@[simp] theorem State.onFuse_pending (s : State) (f : FuseU → FuseU) : (s.onFuse f).pending = s.pending := rfl
@[simp] theorem State.onBoot_regs (s : State) (f : BootU → BootU) : (s.onBoot f).regs = s.regs := rfl
@[simp] theorem State.onBoot_mem (s : State) (f : BootU → BootU) : (s.onBoot f).mem = s.mem := rfl
@[simp] theorem State.onBoot_stage (s : State) (f : BootU → BootU) : (s.onBoot f).stage = s.stage := rfl
@[simp] theorem State.onBoot_shot (s : State) (f : BootU → BootU) : (s.onBoot f).shot = s.shot := rfl
@[simp] theorem State.onBoot_time (s : State) (f : BootU → BootU) : (s.onBoot f).time = s.time := rfl
@[simp] theorem State.onBoot_eng (s : State) (f : BootU → BootU) : (s.onBoot f).eng = s.eng := rfl
@[simp] theorem State.onBoot_cs (s : State) (f : BootU → BootU) : (s.onBoot f).cs = s.cs := rfl
@[simp] theorem State.onBoot_spl (s : State) (f : BootU → BootU) : (s.onBoot f).spl = s.spl := rfl
@[simp] theorem State.onBoot_take (s : State) (f : BootU → BootU) : (s.onBoot f).take = s.take := rfl
@[simp] theorem State.onBoot_sp (s : State) (f : BootU → BootU) : (s.onBoot f).sp = s.sp := rfl
@[simp] theorem State.onBoot_net (s : State) (f : BootU → BootU) : (s.onBoot f).net = s.net := rfl
@[simp] theorem State.onBoot_dl (s : State) (f : BootU → BootU) : (s.onBoot f).dl = s.dl := rfl
@[simp] theorem State.onBoot_clk (s : State) (f : BootU → BootU) : (s.onBoot f).clk = s.clk := rfl
@[simp] theorem State.onBoot_ptp (s : State) (f : BootU → BootU) : (s.onBoot f).ptp = s.ptp := rfl
@[simp] theorem State.onBoot_fab (s : State) (f : BootU → BootU) : (s.onBoot f).fab = s.fab := rfl
@[simp] theorem State.onBoot_flt (s : State) (f : BootU → BootU) : (s.onBoot f).flt = s.flt := rfl
@[simp] theorem State.onBoot_pcn (s : State) (f : BootU → BootU) : (s.onBoot f).pcn = s.pcn := rfl
@[simp] theorem State.onBoot_cmd (s : State) (f : BootU → BootU) : (s.onBoot f).cmd = s.cmd := rfl
@[simp] theorem State.onBoot_fuse (s : State) (f : BootU → BootU) : (s.onBoot f).fuse = s.fuse := rfl
@[simp] theorem State.onBoot_boot (s : State) (f : BootU → BootU) : (s.onBoot f).boot = f s.boot := rfl
@[simp] theorem State.onBoot_sti (s : State) (f : BootU → BootU) : (s.onBoot f).sti = s.sti := rfl
@[simp] theorem State.onBoot_rl (s : State) (f : BootU → BootU) : (s.onBoot f).rl = s.rl := rfl
@[simp] theorem State.onBoot_pin (s : State) (f : BootU → BootU) : (s.onBoot f).pin = s.pin := rfl
@[simp] theorem State.onBoot_outs (s : State) (f : BootU → BootU) : (s.onBoot f).outs = s.outs := rfl
@[simp] theorem State.onBoot_free (s : State) (f : BootU → BootU) : (s.onBoot f).free = s.free := rfl
@[simp] theorem State.onBoot_pending (s : State) (f : BootU → BootU) : (s.onBoot f).pending = s.pending := rfl
@[simp] theorem State.onSti_regs (s : State) (f : StiU → StiU) : (s.onSti f).regs = s.regs := rfl
@[simp] theorem State.onSti_mem (s : State) (f : StiU → StiU) : (s.onSti f).mem = s.mem := rfl
@[simp] theorem State.onSti_stage (s : State) (f : StiU → StiU) : (s.onSti f).stage = s.stage := rfl
@[simp] theorem State.onSti_shot (s : State) (f : StiU → StiU) : (s.onSti f).shot = s.shot := rfl
@[simp] theorem State.onSti_time (s : State) (f : StiU → StiU) : (s.onSti f).time = s.time := rfl
@[simp] theorem State.onSti_eng (s : State) (f : StiU → StiU) : (s.onSti f).eng = s.eng := rfl
@[simp] theorem State.onSti_cs (s : State) (f : StiU → StiU) : (s.onSti f).cs = s.cs := rfl
@[simp] theorem State.onSti_spl (s : State) (f : StiU → StiU) : (s.onSti f).spl = s.spl := rfl
@[simp] theorem State.onSti_take (s : State) (f : StiU → StiU) : (s.onSti f).take = s.take := rfl
@[simp] theorem State.onSti_sp (s : State) (f : StiU → StiU) : (s.onSti f).sp = s.sp := rfl
@[simp] theorem State.onSti_net (s : State) (f : StiU → StiU) : (s.onSti f).net = s.net := rfl
@[simp] theorem State.onSti_dl (s : State) (f : StiU → StiU) : (s.onSti f).dl = s.dl := rfl
@[simp] theorem State.onSti_clk (s : State) (f : StiU → StiU) : (s.onSti f).clk = s.clk := rfl
@[simp] theorem State.onSti_ptp (s : State) (f : StiU → StiU) : (s.onSti f).ptp = s.ptp := rfl
@[simp] theorem State.onSti_fab (s : State) (f : StiU → StiU) : (s.onSti f).fab = s.fab := rfl
@[simp] theorem State.onSti_flt (s : State) (f : StiU → StiU) : (s.onSti f).flt = s.flt := rfl
@[simp] theorem State.onSti_pcn (s : State) (f : StiU → StiU) : (s.onSti f).pcn = s.pcn := rfl
@[simp] theorem State.onSti_cmd (s : State) (f : StiU → StiU) : (s.onSti f).cmd = s.cmd := rfl
@[simp] theorem State.onSti_fuse (s : State) (f : StiU → StiU) : (s.onSti f).fuse = s.fuse := rfl
@[simp] theorem State.onSti_boot (s : State) (f : StiU → StiU) : (s.onSti f).boot = s.boot := rfl
@[simp] theorem State.onSti_sti (s : State) (f : StiU → StiU) : (s.onSti f).sti = f s.sti := rfl
@[simp] theorem State.onSti_rl (s : State) (f : StiU → StiU) : (s.onSti f).rl = s.rl := rfl
@[simp] theorem State.onSti_pin (s : State) (f : StiU → StiU) : (s.onSti f).pin = s.pin := rfl
@[simp] theorem State.onSti_outs (s : State) (f : StiU → StiU) : (s.onSti f).outs = s.outs := rfl
@[simp] theorem State.onSti_free (s : State) (f : StiU → StiU) : (s.onSti f).free = s.free := rfl
@[simp] theorem State.onSti_pending (s : State) (f : StiU → StiU) : (s.onSti f).pending = s.pending := rfl
@[simp] theorem State.onRl_regs (s : State) (f : RlU → RlU) : (s.onRl f).regs = s.regs := rfl
@[simp] theorem State.onRl_mem (s : State) (f : RlU → RlU) : (s.onRl f).mem = s.mem := rfl
@[simp] theorem State.onRl_stage (s : State) (f : RlU → RlU) : (s.onRl f).stage = s.stage := rfl
@[simp] theorem State.onRl_shot (s : State) (f : RlU → RlU) : (s.onRl f).shot = s.shot := rfl
@[simp] theorem State.onRl_time (s : State) (f : RlU → RlU) : (s.onRl f).time = s.time := rfl
@[simp] theorem State.onRl_eng (s : State) (f : RlU → RlU) : (s.onRl f).eng = s.eng := rfl
@[simp] theorem State.onRl_cs (s : State) (f : RlU → RlU) : (s.onRl f).cs = s.cs := rfl
@[simp] theorem State.onRl_spl (s : State) (f : RlU → RlU) : (s.onRl f).spl = s.spl := rfl
@[simp] theorem State.onRl_take (s : State) (f : RlU → RlU) : (s.onRl f).take = s.take := rfl
@[simp] theorem State.onRl_sp (s : State) (f : RlU → RlU) : (s.onRl f).sp = s.sp := rfl
@[simp] theorem State.onRl_net (s : State) (f : RlU → RlU) : (s.onRl f).net = s.net := rfl
@[simp] theorem State.onRl_dl (s : State) (f : RlU → RlU) : (s.onRl f).dl = s.dl := rfl
@[simp] theorem State.onRl_clk (s : State) (f : RlU → RlU) : (s.onRl f).clk = s.clk := rfl
@[simp] theorem State.onRl_ptp (s : State) (f : RlU → RlU) : (s.onRl f).ptp = s.ptp := rfl
@[simp] theorem State.onRl_fab (s : State) (f : RlU → RlU) : (s.onRl f).fab = s.fab := rfl
@[simp] theorem State.onRl_flt (s : State) (f : RlU → RlU) : (s.onRl f).flt = s.flt := rfl
@[simp] theorem State.onRl_pcn (s : State) (f : RlU → RlU) : (s.onRl f).pcn = s.pcn := rfl
@[simp] theorem State.onRl_cmd (s : State) (f : RlU → RlU) : (s.onRl f).cmd = s.cmd := rfl
@[simp] theorem State.onRl_fuse (s : State) (f : RlU → RlU) : (s.onRl f).fuse = s.fuse := rfl
@[simp] theorem State.onRl_boot (s : State) (f : RlU → RlU) : (s.onRl f).boot = s.boot := rfl
@[simp] theorem State.onRl_sti (s : State) (f : RlU → RlU) : (s.onRl f).sti = s.sti := rfl
@[simp] theorem State.onRl_rl (s : State) (f : RlU → RlU) : (s.onRl f).rl = f s.rl := rfl
@[simp] theorem State.onRl_pin (s : State) (f : RlU → RlU) : (s.onRl f).pin = s.pin := rfl
@[simp] theorem State.onRl_outs (s : State) (f : RlU → RlU) : (s.onRl f).outs = s.outs := rfl
@[simp] theorem State.onRl_free (s : State) (f : RlU → RlU) : (s.onRl f).free = s.free := rfl
@[simp] theorem State.onRl_pending (s : State) (f : RlU → RlU) : (s.onRl f).pending = s.pending := rfl
@[simp] theorem State.onPin_regs (s : State) (f : PinU → PinU) : (s.onPin f).regs = s.regs := rfl
@[simp] theorem State.onPin_mem (s : State) (f : PinU → PinU) : (s.onPin f).mem = s.mem := rfl
@[simp] theorem State.onPin_stage (s : State) (f : PinU → PinU) : (s.onPin f).stage = s.stage := rfl
@[simp] theorem State.onPin_shot (s : State) (f : PinU → PinU) : (s.onPin f).shot = s.shot := rfl
@[simp] theorem State.onPin_time (s : State) (f : PinU → PinU) : (s.onPin f).time = s.time := rfl
@[simp] theorem State.onPin_eng (s : State) (f : PinU → PinU) : (s.onPin f).eng = s.eng := rfl
@[simp] theorem State.onPin_cs (s : State) (f : PinU → PinU) : (s.onPin f).cs = s.cs := rfl
@[simp] theorem State.onPin_spl (s : State) (f : PinU → PinU) : (s.onPin f).spl = s.spl := rfl
@[simp] theorem State.onPin_take (s : State) (f : PinU → PinU) : (s.onPin f).take = s.take := rfl
@[simp] theorem State.onPin_sp (s : State) (f : PinU → PinU) : (s.onPin f).sp = s.sp := rfl
@[simp] theorem State.onPin_net (s : State) (f : PinU → PinU) : (s.onPin f).net = s.net := rfl
@[simp] theorem State.onPin_dl (s : State) (f : PinU → PinU) : (s.onPin f).dl = s.dl := rfl
@[simp] theorem State.onPin_clk (s : State) (f : PinU → PinU) : (s.onPin f).clk = s.clk := rfl
@[simp] theorem State.onPin_ptp (s : State) (f : PinU → PinU) : (s.onPin f).ptp = s.ptp := rfl
@[simp] theorem State.onPin_fab (s : State) (f : PinU → PinU) : (s.onPin f).fab = s.fab := rfl
@[simp] theorem State.onPin_flt (s : State) (f : PinU → PinU) : (s.onPin f).flt = s.flt := rfl
@[simp] theorem State.onPin_pcn (s : State) (f : PinU → PinU) : (s.onPin f).pcn = s.pcn := rfl
@[simp] theorem State.onPin_cmd (s : State) (f : PinU → PinU) : (s.onPin f).cmd = s.cmd := rfl
@[simp] theorem State.onPin_fuse (s : State) (f : PinU → PinU) : (s.onPin f).fuse = s.fuse := rfl
@[simp] theorem State.onPin_boot (s : State) (f : PinU → PinU) : (s.onPin f).boot = s.boot := rfl
@[simp] theorem State.onPin_sti (s : State) (f : PinU → PinU) : (s.onPin f).sti = s.sti := rfl
@[simp] theorem State.onPin_rl (s : State) (f : PinU → PinU) : (s.onPin f).rl = s.rl := rfl
@[simp] theorem State.onPin_pin (s : State) (f : PinU → PinU) : (s.onPin f).pin = f s.pin := rfl
@[simp] theorem State.onPin_outs (s : State) (f : PinU → PinU) : (s.onPin f).outs = s.outs := rfl
@[simp] theorem State.onPin_free (s : State) (f : PinU → PinU) : (s.onPin f).free = s.free := rfl
@[simp] theorem State.onPin_pending (s : State) (f : PinU → PinU) : (s.onPin f).pending = s.pending := rfl
@[simp] theorem State.onOuts_regs (s : State) (f : List Output → List Output) : (s.onOuts f).regs = s.regs := rfl
@[simp] theorem State.onOuts_mem (s : State) (f : List Output → List Output) : (s.onOuts f).mem = s.mem := rfl
@[simp] theorem State.onOuts_stage (s : State) (f : List Output → List Output) : (s.onOuts f).stage = s.stage := rfl
@[simp] theorem State.onOuts_shot (s : State) (f : List Output → List Output) : (s.onOuts f).shot = s.shot := rfl
@[simp] theorem State.onOuts_time (s : State) (f : List Output → List Output) : (s.onOuts f).time = s.time := rfl
@[simp] theorem State.onOuts_eng (s : State) (f : List Output → List Output) : (s.onOuts f).eng = s.eng := rfl
@[simp] theorem State.onOuts_cs (s : State) (f : List Output → List Output) : (s.onOuts f).cs = s.cs := rfl
@[simp] theorem State.onOuts_spl (s : State) (f : List Output → List Output) : (s.onOuts f).spl = s.spl := rfl
@[simp] theorem State.onOuts_take (s : State) (f : List Output → List Output) : (s.onOuts f).take = s.take := rfl
@[simp] theorem State.onOuts_sp (s : State) (f : List Output → List Output) : (s.onOuts f).sp = s.sp := rfl
@[simp] theorem State.onOuts_net (s : State) (f : List Output → List Output) : (s.onOuts f).net = s.net := rfl
@[simp] theorem State.onOuts_dl (s : State) (f : List Output → List Output) : (s.onOuts f).dl = s.dl := rfl
@[simp] theorem State.onOuts_clk (s : State) (f : List Output → List Output) : (s.onOuts f).clk = s.clk := rfl
@[simp] theorem State.onOuts_ptp (s : State) (f : List Output → List Output) : (s.onOuts f).ptp = s.ptp := rfl
@[simp] theorem State.onOuts_fab (s : State) (f : List Output → List Output) : (s.onOuts f).fab = s.fab := rfl
@[simp] theorem State.onOuts_flt (s : State) (f : List Output → List Output) : (s.onOuts f).flt = s.flt := rfl
@[simp] theorem State.onOuts_pcn (s : State) (f : List Output → List Output) : (s.onOuts f).pcn = s.pcn := rfl
@[simp] theorem State.onOuts_cmd (s : State) (f : List Output → List Output) : (s.onOuts f).cmd = s.cmd := rfl
@[simp] theorem State.onOuts_fuse (s : State) (f : List Output → List Output) : (s.onOuts f).fuse = s.fuse := rfl
@[simp] theorem State.onOuts_boot (s : State) (f : List Output → List Output) : (s.onOuts f).boot = s.boot := rfl
@[simp] theorem State.onOuts_sti (s : State) (f : List Output → List Output) : (s.onOuts f).sti = s.sti := rfl
@[simp] theorem State.onOuts_rl (s : State) (f : List Output → List Output) : (s.onOuts f).rl = s.rl := rfl
@[simp] theorem State.onOuts_pin (s : State) (f : List Output → List Output) : (s.onOuts f).pin = s.pin := rfl
@[simp] theorem State.onOuts_outs (s : State) (f : List Output → List Output) : (s.onOuts f).outs = f s.outs := rfl
@[simp] theorem State.onOuts_free (s : State) (f : List Output → List Output) : (s.onOuts f).free = s.free := rfl
@[simp] theorem State.onOuts_pending (s : State) (f : List Output → List Output) : (s.onOuts f).pending = s.pending := rfl
@[simp] theorem State.onFree_regs (s : State) (f : Nat → Nat) : (s.onFree f).regs = s.regs := rfl
@[simp] theorem State.onFree_mem (s : State) (f : Nat → Nat) : (s.onFree f).mem = s.mem := rfl
@[simp] theorem State.onFree_stage (s : State) (f : Nat → Nat) : (s.onFree f).stage = s.stage := rfl
@[simp] theorem State.onFree_shot (s : State) (f : Nat → Nat) : (s.onFree f).shot = s.shot := rfl
@[simp] theorem State.onFree_time (s : State) (f : Nat → Nat) : (s.onFree f).time = s.time := rfl
@[simp] theorem State.onFree_eng (s : State) (f : Nat → Nat) : (s.onFree f).eng = s.eng := rfl
@[simp] theorem State.onFree_cs (s : State) (f : Nat → Nat) : (s.onFree f).cs = s.cs := rfl
@[simp] theorem State.onFree_spl (s : State) (f : Nat → Nat) : (s.onFree f).spl = s.spl := rfl
@[simp] theorem State.onFree_take (s : State) (f : Nat → Nat) : (s.onFree f).take = s.take := rfl
@[simp] theorem State.onFree_sp (s : State) (f : Nat → Nat) : (s.onFree f).sp = s.sp := rfl
@[simp] theorem State.onFree_net (s : State) (f : Nat → Nat) : (s.onFree f).net = s.net := rfl
@[simp] theorem State.onFree_dl (s : State) (f : Nat → Nat) : (s.onFree f).dl = s.dl := rfl
@[simp] theorem State.onFree_clk (s : State) (f : Nat → Nat) : (s.onFree f).clk = s.clk := rfl
@[simp] theorem State.onFree_ptp (s : State) (f : Nat → Nat) : (s.onFree f).ptp = s.ptp := rfl
@[simp] theorem State.onFree_fab (s : State) (f : Nat → Nat) : (s.onFree f).fab = s.fab := rfl
@[simp] theorem State.onFree_flt (s : State) (f : Nat → Nat) : (s.onFree f).flt = s.flt := rfl
@[simp] theorem State.onFree_pcn (s : State) (f : Nat → Nat) : (s.onFree f).pcn = s.pcn := rfl
@[simp] theorem State.onFree_cmd (s : State) (f : Nat → Nat) : (s.onFree f).cmd = s.cmd := rfl
@[simp] theorem State.onFree_fuse (s : State) (f : Nat → Nat) : (s.onFree f).fuse = s.fuse := rfl
@[simp] theorem State.onFree_boot (s : State) (f : Nat → Nat) : (s.onFree f).boot = s.boot := rfl
@[simp] theorem State.onFree_sti (s : State) (f : Nat → Nat) : (s.onFree f).sti = s.sti := rfl
@[simp] theorem State.onFree_rl (s : State) (f : Nat → Nat) : (s.onFree f).rl = s.rl := rfl
@[simp] theorem State.onFree_pin (s : State) (f : Nat → Nat) : (s.onFree f).pin = s.pin := rfl
@[simp] theorem State.onFree_outs (s : State) (f : Nat → Nat) : (s.onFree f).outs = s.outs := rfl
@[simp] theorem State.onFree_free (s : State) (f : Nat → Nat) : (s.onFree f).free = f s.free := rfl
@[simp] theorem State.onFree_pending (s : State) (f : Nat → Nat) : (s.onFree f).pending = s.pending := rfl
@[simp] theorem State.onPending_regs (s : State) (f : List Instr → List Instr) : (s.onPending f).regs = s.regs := rfl
@[simp] theorem State.onPending_mem (s : State) (f : List Instr → List Instr) : (s.onPending f).mem = s.mem := rfl
@[simp] theorem State.onPending_stage (s : State) (f : List Instr → List Instr) : (s.onPending f).stage = s.stage := rfl
@[simp] theorem State.onPending_shot (s : State) (f : List Instr → List Instr) : (s.onPending f).shot = s.shot := rfl
@[simp] theorem State.onPending_time (s : State) (f : List Instr → List Instr) : (s.onPending f).time = s.time := rfl
@[simp] theorem State.onPending_eng (s : State) (f : List Instr → List Instr) : (s.onPending f).eng = s.eng := rfl
@[simp] theorem State.onPending_cs (s : State) (f : List Instr → List Instr) : (s.onPending f).cs = s.cs := rfl
@[simp] theorem State.onPending_spl (s : State) (f : List Instr → List Instr) : (s.onPending f).spl = s.spl := rfl
@[simp] theorem State.onPending_take (s : State) (f : List Instr → List Instr) : (s.onPending f).take = s.take := rfl
@[simp] theorem State.onPending_sp (s : State) (f : List Instr → List Instr) : (s.onPending f).sp = s.sp := rfl
@[simp] theorem State.onPending_net (s : State) (f : List Instr → List Instr) : (s.onPending f).net = s.net := rfl
@[simp] theorem State.onPending_dl (s : State) (f : List Instr → List Instr) : (s.onPending f).dl = s.dl := rfl
@[simp] theorem State.onPending_clk (s : State) (f : List Instr → List Instr) : (s.onPending f).clk = s.clk := rfl
@[simp] theorem State.onPending_ptp (s : State) (f : List Instr → List Instr) : (s.onPending f).ptp = s.ptp := rfl
@[simp] theorem State.onPending_fab (s : State) (f : List Instr → List Instr) : (s.onPending f).fab = s.fab := rfl
@[simp] theorem State.onPending_flt (s : State) (f : List Instr → List Instr) : (s.onPending f).flt = s.flt := rfl
@[simp] theorem State.onPending_pcn (s : State) (f : List Instr → List Instr) : (s.onPending f).pcn = s.pcn := rfl
@[simp] theorem State.onPending_cmd (s : State) (f : List Instr → List Instr) : (s.onPending f).cmd = s.cmd := rfl
@[simp] theorem State.onPending_fuse (s : State) (f : List Instr → List Instr) : (s.onPending f).fuse = s.fuse := rfl
@[simp] theorem State.onPending_boot (s : State) (f : List Instr → List Instr) : (s.onPending f).boot = s.boot := rfl
@[simp] theorem State.onPending_sti (s : State) (f : List Instr → List Instr) : (s.onPending f).sti = s.sti := rfl
@[simp] theorem State.onPending_rl (s : State) (f : List Instr → List Instr) : (s.onPending f).rl = s.rl := rfl
@[simp] theorem State.onPending_pin (s : State) (f : List Instr → List Instr) : (s.onPending f).pin = s.pin := rfl
@[simp] theorem State.onPending_outs (s : State) (f : List Instr → List Instr) : (s.onPending f).outs = s.outs := rfl
@[simp] theorem State.onPending_free (s : State) (f : List Instr → List Instr) : (s.onPending f).free = s.free := rfl
@[simp] theorem State.onPending_pending (s : State) (f : List Instr → List Instr) : (s.onPending f).pending = f s.pending := rfl

end Sys2Proof.Machine
end

