-- ==== Sys2Proof/Laws/Kept.lean ====
section
/-! SUPPORT. Registers read after they are written, and what messages, replies and the end of a cycle leave unchanged. -/

namespace Sys2Proof.Machine

/-! ### Lists -/

theorem getD_putNth {α : Type} (d : α) : ∀ (l : List α) (n : Nat) (v : α) (j : Nat),
    (putNth d l n v).getD j d = if j = n then v else l.getD j d
  | [], 0, v, j => by cases j <;> simp [putNth]
  | [], n + 1, v, j => by
    cases j with
    | zero => simp [putNth]
    | succ j => simpa [putNth] using getD_putNth d [] n v j
  | x :: t, 0, v, j => by cases j <;> simp [putNth]
  | x :: t, n + 1, v, j => by
    cases j with
    | zero => simp [putNth]
    | succ j => simpa [putNth] using getD_putNth d t n v j

/-- A relation that every element's step keeps holds over a whole list. -/
theorem foldl_keeps {α σ : Type} (R : σ → σ → Prop) (hr : ∀ s, R s s) (ht : ∀ s t u, R s t → R t u → R s u)
    (f : σ → α → σ) (h : ∀ s x, R s (f s x)) : ∀ (l : List α) (s : σ), R s (l.foldl f s)
  | [], s => hr s
  | x :: t, s => ht _ _ _ (h s x) (foldl_keeps R hr ht f h t (f s x))

/-! ### Registers -/

/-- A register reads as what was written to it. -/
@[simp] theorem State.reg_setReg_same (s : State) (a : Nat) (v : Word) : (s.setReg a v).reg a = v := by
  simp [State.reg, State.setReg]

/-- Another register reads as before. -/
theorem State.reg_setReg_other (s : State) (a b : Nat) (v : Word) (h : b ≠ a) : (s.setReg a v).reg b = s.reg b := by
  simp [State.reg, State.setReg, smGet_smPut_other _ _ b a v h]

/-- A field of another register reads as before. -/
theorem State.getF_setReg_other (s : State) (f : Fld) (a : Nat) (v : Word) (h : f.addr ≠ a) : (s.setReg a v).getF f = s.getF f := by
  simp [State.getF, State.reg_setReg_other _ _ _ _ h]

/-- A field of another register reads as before a write of a field. -/
theorem State.getF_setF_other (s : State) (f g : Fld) (v : Nat) (h : g.addr ≠ f.addr) : (s.setF f v).getF g = s.getF g := by
  simp [State.setF, State.getF_setReg_other _ _ _ _ h]

/-- Arithmetic of a field within its word. -/
theorem fldPut_get (n lsb width v : Nat) (h : lsb + width ≤ 32) (hn : n < 2 ^ 32) :
    (fldPut (BitVec.ofNat 32 n) lsb width v).toNat / 2 ^ lsb % 2 ^ width = v % 2 ^ width := by
  have hn' : (BitVec.ofNat 32 n).toNat = n := by simpa using Nat.mod_eq_of_lt hn
  unfold fldPut
  simp only [hn', wd, BitVec.toNat_ofNat]
  set L := 2 ^ lsb with hL
  set W := 2 ^ width with hW
  have hLpos : 0 < L := by positivity
  have hWpos : 0 < W := by positivity
  have hdecomp : n = (n / L / W) * (W * L) + (n / L % W) * L + n % L := by
    have h1 := Nat.div_add_mod n L
    have h2 := Nat.div_add_mod (n / L) W
    nlinarith
  have hsub : n - n / L % W * L = (n / L / W) * (W * L) + n % L := by omega
  rw [hsub]
  have hv : v % W < W := Nat.mod_lt _ hWpos
  have hr : n % L < L := Nat.mod_lt _ hLpos
  have h32 : (2 : Nat) ^ 32 = 2 ^ (32 - (lsb + width)) * (W * L) := by
    rw [hW, hL, ← pow_add, ← pow_add]; congr 1; omega
  have hq : n / L / W < 2 ^ (32 - (lsb + width)) := by
    rw [Nat.div_div_eq_div_mul, Nat.div_lt_iff_lt_mul (by positivity)]
    calc n < 2 ^ 32 := hn
      _ = 2 ^ (32 - (lsb + width)) * (W * L) := h32
      _ = 2 ^ (32 - (lsb + width)) * (L * W) := by ring
  have hlt : (n / L / W) * (W * L) + n % L + v % W * L < 2 ^ 32 := by
    rw [h32]
    have h1 : v % W * L + n % L < W * L := by
      have : (v % W + 1) * L ≤ W * L := Nat.mul_le_mul_right _ hv
      linarith [Nat.succ_mul (v % W) L]
    have h2 : (n / L / W + 1) * (W * L) ≤ 2 ^ (32 - (lsb + width)) * (W * L) := Nat.mul_le_mul_right _ hq
    linarith [Nat.succ_mul (n / L / W) (W * L)]
  rw [Nat.mod_eq_of_lt hlt]
  have : (n / L / W) * (W * L) + n % L + v % W * L = ((n / L / W) * W + v % W) * L + n % L := by ring
  rw [this, Nat.mul_comm _ L, Nat.mul_add_div hLpos, Nat.div_eq_of_lt hr, Nat.add_zero, Nat.mul_comm _ W, Nat.mul_add_mod,
    Nat.mod_eq_of_lt hv]

/-- A field reads as what was written to it, modulo its width. -/
theorem State.getF_setF_same (s : State) (f : Fld) (v : Nat) (h : f.lsb + f.width ≤ 32) : (s.setF f v).getF f = v % 2 ^ f.width := by
  have := fldPut_get (s.reg f.addr).toNat f.lsb f.width v h (s.reg f.addr).isLt
  simpa [State.setF, State.getF] using this

end Sys2Proof.Machine

namespace Sys2Proof

open Machine

/-! ### Frames -/

theorem Part.same_refl (p : Part) (s : State) : p.same s s := by cases p <;> rfl

theorem Part.same_trans (p : Part) {s t u : State} (h : p.same s t) (g : p.same t u) : p.same s u := by
  cases p <;> exact Eq.trans g h

variable {ps : List Part} {pg as : List Nat} {s t u : State}

@[simp] theorem Kept.refl (ps : List Part) (pg as : List Nat) (s : State) : Kept ps pg as s s :=
  ⟨fun p _ => p.same_refl s, fun _ _ _ _ => rfl⟩

theorem Kept.trans (h : Kept ps pg as s t) (g : Kept ps pg as t u) : Kept ps pg as s u :=
  ⟨fun p hp => p.same_trans (h.part p hp) (g.part p hp), fun a ha hb hc => (g.reg a ha hb hc).trans (h.reg a ha hb hc)⟩

/-- A frame with more exceptions. -/
theorem Kept.mono {ps' : List Part} {pg' as' : List Nat} (h : Kept ps pg as s t) (hp : ps ⊆ ps') (hg : pg ⊆ pg') (ha : as ⊆ as') :
    Kept ps' pg' as' s t :=
  ⟨fun p hn => h.part p fun m => hn (hp m), fun a hn hm hc => h.reg a (fun m => hn (hg m)) (fun m => hm (ha m)) fun m => hc (hg m)⟩

/-- A field outside the frame's exceptions reads as before. -/
theorem Kept.getF (h : Kept ps pg as s t) (f : Fld) (hg : f.addr / 65536 ∉ pg) (ha : f.addr ∉ as)
    (hm : f.addr ∉ mgmtTx := by decide) : t.getF f = s.getF f := by
  simp [State.getF, h.reg _ hg ha fun _ => hm]

theorem Kept.flag (h : Kept ps pg as s t) (f : Fld) (hg : f.addr / 65536 ∉ pg) (ha : f.addr ∉ as)
    (hm : f.addr ∉ mgmtTx := by decide) : t.flag f = s.flag f := by
  simp [State.flag, h.getF f hg ha hm]

theorem Kept.foldl {α : Type} (f : State → α → State) (h : ∀ t x, Kept ps pg as t (f t x)) (l : List α) (s : State) :
    Kept ps pg as s (l.foldl f s) :=
  foldl_keeps (Kept ps pg as) (Kept.refl ps pg as) (fun _ _ _ => Kept.trans) f h l s

theorem Kept.ite (c : Prop) [Decidable c] {x y : State} (hx : c → Kept ps pg as s x) (hy : ¬c → Kept ps pg as s y) :
    Kept ps pg as s (if c then x else y) := by
  split
  · exact hx ‹_›
  · exact hy ‹_›

theorem Kept.onMem (f : List Host.Cell → List Host.Cell) (h : Kept ps pg as s t) (hp : .mem ∈ ps := by decide) : Kept ps pg as s (t.onMem f) :=
  h.trans ⟨fun p hn => by cases p <;> first | rfl | exact absurd hp hn, fun _ _ _ _ => rfl⟩

theorem Kept.onStage (f : List (Nat × Blk) → List (Nat × Blk)) (h : Kept ps pg as s t) (hp : .stage ∈ ps := by decide) : Kept ps pg as s (t.onStage f) :=
  h.trans ⟨fun p hn => by cases p <;> first | rfl | exact absurd hp hn, fun _ _ _ _ => rfl⟩

theorem Kept.onShot (f : Nat → Nat) (h : Kept ps pg as s t) (hp : .shot ∈ ps := by decide) : Kept ps pg as s (t.onShot f) :=
  h.trans ⟨fun p hn => by cases p <;> first | rfl | exact absurd hp hn, fun _ _ _ _ => rfl⟩

theorem Kept.onTime (f : Nat → Nat) (h : Kept ps pg as s t) (hp : .time ∈ ps := by decide) : Kept ps pg as s (t.onTime f) :=
  h.trans ⟨fun p hn => by cases p <;> first | rfl | exact absurd hp hn, fun _ _ _ _ => rfl⟩

theorem Kept.onEng (f : List EngU → List EngU) (h : Kept ps pg as s t) (hp : .eng ∈ ps := by decide) : Kept ps pg as s (t.onEng f) :=
  h.trans ⟨fun p hn => by cases p <;> first | rfl | exact absurd hp hn, fun _ _ _ _ => rfl⟩

theorem Kept.onCs (f : CsU → CsU) (h : Kept ps pg as s t) (hp : .cs ∈ ps := by decide) : Kept ps pg as s (t.onCs f) :=
  h.trans ⟨fun p hn => by cases p <;> first | rfl | exact absurd hp hn, fun _ _ _ _ => rfl⟩

theorem Kept.onSpl (f : SplU → SplU) (h : Kept ps pg as s t) (hp : .spl ∈ ps := by decide) : Kept ps pg as s (t.onSpl f) :=
  h.trans ⟨fun p hn => by cases p <;> first | rfl | exact absurd hp hn, fun _ _ _ _ => rfl⟩

theorem Kept.onTake (f : TakeU → TakeU) (h : Kept ps pg as s t) (hp : .take ∈ ps := by decide) : Kept ps pg as s (t.onTake f) :=
  h.trans ⟨fun p hn => by cases p <;> first | rfl | exact absurd hp hn, fun _ _ _ _ => rfl⟩

theorem Kept.onSp (f : SpU → SpU) (h : Kept ps pg as s t) (hp : .sp ∈ ps := by decide) : Kept ps pg as s (t.onSp f) :=
  h.trans ⟨fun p hn => by cases p <;> first | rfl | exact absurd hp hn, fun _ _ _ _ => rfl⟩

theorem Kept.onNet (f : NetU → NetU) (h : Kept ps pg as s t) (hp : .net ∈ ps := by decide) : Kept ps pg as s (t.onNet f) :=
  h.trans ⟨fun p hn => by cases p <;> first | rfl | exact absurd hp hn, fun _ _ _ _ => rfl⟩

theorem Kept.onDl (f : DlU → DlU) (h : Kept ps pg as s t) (hp : .dl ∈ ps := by decide) : Kept ps pg as s (t.onDl f) :=
  h.trans ⟨fun p hn => by cases p <;> first | rfl | exact absurd hp hn, fun _ _ _ _ => rfl⟩

theorem Kept.onClk (f : ClkU → ClkU) (h : Kept ps pg as s t) (hp : .clk ∈ ps := by decide) : Kept ps pg as s (t.onClk f) :=
  h.trans ⟨fun p hn => by cases p <;> first | rfl | exact absurd hp hn, fun _ _ _ _ => rfl⟩

theorem Kept.onPtp (f : PtpU → PtpU) (h : Kept ps pg as s t) (hp : .ptp ∈ ps := by decide) : Kept ps pg as s (t.onPtp f) :=
  h.trans ⟨fun p hn => by cases p <;> first | rfl | exact absurd hp hn, fun _ _ _ _ => rfl⟩

theorem Kept.onFab (f : FabU → FabU) (h : Kept ps pg as s t) (hp : .fab ∈ ps := by decide) : Kept ps pg as s (t.onFab f) :=
  h.trans ⟨fun p hn => by cases p <;> first | rfl | exact absurd hp hn, fun _ _ _ _ => rfl⟩

theorem Kept.onFlt (f : FltU → FltU) (h : Kept ps pg as s t) (hp : .flt ∈ ps := by decide) : Kept ps pg as s (t.onFlt f) :=
  h.trans ⟨fun p hn => by cases p <;> first | rfl | exact absurd hp hn, fun _ _ _ _ => rfl⟩

theorem Kept.onPcn (f : PcnU → PcnU) (h : Kept ps pg as s t) (hp : .pcn ∈ ps := by decide) : Kept ps pg as s (t.onPcn f) :=
  h.trans ⟨fun p hn => by cases p <;> first | rfl | exact absurd hp hn, fun _ _ _ _ => rfl⟩

theorem Kept.onCmd (f : CmdU → CmdU) (h : Kept ps pg as s t) (hp : .cmd ∈ ps := by decide) : Kept ps pg as s (t.onCmd f) :=
  h.trans ⟨fun p hn => by cases p <;> first | rfl | exact absurd hp hn, fun _ _ _ _ => rfl⟩

theorem Kept.onFuse (f : FuseU → FuseU) (h : Kept ps pg as s t) (hp : .fuse ∈ ps := by decide) : Kept ps pg as s (t.onFuse f) :=
  h.trans ⟨fun p hn => by cases p <;> first | rfl | exact absurd hp hn, fun _ _ _ _ => rfl⟩

theorem Kept.onBoot (f : BootU → BootU) (h : Kept ps pg as s t) (hp : .boot ∈ ps := by decide) : Kept ps pg as s (t.onBoot f) :=
  h.trans ⟨fun p hn => by cases p <;> first | rfl | exact absurd hp hn, fun _ _ _ _ => rfl⟩

theorem Kept.onSti (f : StiU → StiU) (h : Kept ps pg as s t) (hp : .sti ∈ ps := by decide) : Kept ps pg as s (t.onSti f) :=
  h.trans ⟨fun p hn => by cases p <;> first | rfl | exact absurd hp hn, fun _ _ _ _ => rfl⟩

theorem Kept.onRl (f : RlU → RlU) (h : Kept ps pg as s t) (hp : .rl ∈ ps := by decide) : Kept ps pg as s (t.onRl f) :=
  h.trans ⟨fun p hn => by cases p <;> first | rfl | exact absurd hp hn, fun _ _ _ _ => rfl⟩

theorem Kept.onPin (f : PinU → PinU) (h : Kept ps pg as s t) (hp : .pin ∈ ps := by decide) : Kept ps pg as s (t.onPin f) :=
  h.trans ⟨fun p hn => by cases p <;> first | rfl | exact absurd hp hn, fun _ _ _ _ => rfl⟩

theorem Kept.onOuts (f : List Output → List Output) (h : Kept ps pg as s t) (hp : .outs ∈ ps := by decide) : Kept ps pg as s (t.onOuts f) :=
  h.trans ⟨fun p hn => by cases p <;> first | rfl | exact absurd hp hn, fun _ _ _ _ => rfl⟩

theorem Kept.onFree (f : Nat → Nat) (h : Kept ps pg as s t) (hp : .free ∈ ps := by decide) : Kept ps pg as s (t.onFree f) :=
  h.trans ⟨fun p hn => by cases p <;> first | rfl | exact absurd hp hn, fun _ _ _ _ => rfl⟩

theorem Kept.onPending (f : List Instr → List Instr) (h : Kept ps pg as s t) (hp : .pending ∈ ps := by decide) : Kept ps pg as s (t.onPending f) :=
  h.trans ⟨fun p hn => by cases p <;> first | rfl | exact absurd hp hn, fun _ _ _ _ => rfl⟩

theorem Kept.setReg (a : Nat) (v : Word) (h : Kept ps pg as s t) (ha : a / 65536 ∈ pg ∨ a ∈ as := by decide) :
    Kept ps pg as s (t.setReg a v) :=
  h.trans ⟨fun p _ => by cases p <;> rfl, fun b hb hc _ => State.reg_setReg_other _ _ _ _ (fun e => by
    subst e; exact ha.elim hb hc)⟩

/-- A counter of what MGMT sends is written. -/
theorem Kept.setTx (f : Fld) (v : Nat) (h : Kept ps pg as s t) (hg : 0xD ∈ pg) (ha : f.addr ∈ mgmtTx := by decide) :
    Kept ps pg as s (t.setF f v) :=
  h.trans ⟨fun p _ => by cases p <;> rfl, fun b _ _ hm => State.reg_setReg_other _ _ _ _ (fun e => by
    subst e; exact hm hg ha)⟩

theorem Kept.setF (f : Fld) (v : Nat) (h : Kept ps pg as s t) (ha : f.addr / 65536 ∈ pg ∨ f.addr ∈ as := by decide) :
    Kept ps pg as s (t.setF f v) := h.setReg _ _ ha

theorem Kept.incF (f : Fld) (n : Nat) (h : Kept ps pg as s t) (ha : f.addr / 65536 ∈ pg ∨ f.addr ∈ as := by decide) :
    Kept ps pg as s (t.incF f n) := h.setReg _ _ ha

theorem Kept.incW (f : Fld) (n : Nat) (h : Kept ps pg as s t) (ha : f.addr / 65536 ∈ pg ∨ f.addr ∈ as := by decide) :
    Kept ps pg as s (t.incW f n) := h.setReg _ _ ha

theorem Kept.orF (f : Fld) (n : Nat) (h : Kept ps pg as s t) (ha : f.addr / 65536 ∈ pg ∨ f.addr ∈ as := by decide) :
    Kept ps pg as s (t.orF f n) := h.setReg _ _ ha

theorem Kept.maxF (f : Fld) (n : Nat) (h : Kept ps pg as s t) (ha : f.addr / 65536 ∈ pg ∨ f.addr ∈ as := by decide) :
    Kept ps pg as s (t.maxF f n) := by
  unfold State.maxF
  split
  · exact h.setF _ _ ha
  · exact h

theorem Kept.out (o : Output) (h : Kept ps pg as s t) (hp : .outs ∈ ps := by decide) : Kept ps pg as s (t.out o) := h.onOuts _ hp

theorem Kept.raise (src kind addr : Nat) (h : Kept ps pg as s t) (hp : .flt ∈ ps := by decide) :
    Kept ps pg as s (Machine.raise src kind addr t) := h.onFlt _ hp

theorem Kept.logEvent (code : Nat) (p : List Nat) (h : Kept ps pg as s t) (hp : .flt ∈ ps := by decide) :
    Kept ps pg as s (Machine.logEvent code p t) := h.onFlt _ hp

/-! ### The command interface -/

/-- An MSI-X vector leaves the block or pends in the command interface. -/
theorem Kept.sendMsix (n : Nat) (h : Kept ps pg as s t) (hc : .cmd ∈ ps) (ho : .outs ∈ ps) : Kept ps pg as s (Machine.sendMsix n t) :=
  Kept.ite _ (fun _ => h.onCmd _ hc) (fun _ => h.out _ ho)

/-- An interrupt source sets: only the command interface and what leaves the block change. -/
theorem Kept.setIrq (n : Nat) (h : Kept ps pg as s t) (hc : .cmd ∈ ps := by decide) (ho : .outs ∈ ps := by decide)
    (hg : 0xD ∈ pg := by decide) : Kept ps pg as s (Machine.setIrq n t) := by
  have h1 : Kept ps pg as s (t.orF CMD_ISTAT.SRC (2 ^ n)) := h.orF _ _ (.inl hg)
  unfold Machine.setIrq
  dsimp only
  split
  · exact h1.sendMsix _ hc ho
  · exact h1

theorem CMD_RING_HOSTPTR.page (k : Nat) (hk : k < 3) : (CMD_RING_HOSTPTR.PTR k).addr / 65536 = 0xD := by
  interval_cases k <;> decide

theorem CMD_RING_DEVPTR.page (k : Nat) (hk : k < 3) : (CMD_RING_DEVPTR.PTR k).addr / 65536 = 0xD := by
  interval_cases k <;> decide

/-- What MGMT sends leaves the block and is counted. -/
theorem Kept.mgmtSend (o : Output) (n : Nat) (h : Kept ps pg as s t) (ho : .outs ∈ ps) (hg : 0xD ∈ pg) :
    Kept ps pg as s (Machine.mgmtSend o n t) := by
  unfold Machine.mgmtSend Machine.countTx Machine.inc64
  rw [if_neg (by decide)]
  exact ((((h.out _ ho).setTx _ _ hg).setTx _ _ hg).setTx _ _ hg).setTx _ _ hg

theorem Kept.mgmtOut (o : Output) (n : Nat) (h : Kept ps pg as s t) (hc : .cmd ∈ ps) (ho : .outs ∈ ps) (hg : 0xD ∈ pg) :
    Kept ps pg as s (Machine.mgmtOut o n t) := by
  unfold Machine.mgmtOut
  split
  · exact h.onCmd _ hc
  · exact h.mgmtSend _ _ ho hg

theorem Kept.onSess (tr : Nat) (f : Sess → Sess) (h : Kept ps pg as s t) (hp : .cmd ∈ ps := by decide) :
    Kept ps pg as s (Machine.onSess tr f t) := h.onCmd _ hp

theorem Kept.takeDseq (tr : Nat) (h : Kept ps pg as s t) (hp : .cmd ∈ ps := by decide) :
    Kept ps pg as s (Machine.takeDseq tr t) := h.onSess tr (fun x => { x with dseq := (x.dseq + 1) % 2 ^ 32 }) hp

theorem Kept.applyRingLen (k : Nat) (ptr : Fld) (h : Kept ps pg as s t) (hc : .cmd ∈ ps) (hg : 0xD ∈ pg)
    (hf : ptr.addr / 65536 = 0xD) : Kept ps pg as s (Machine.applyRingLen k ptr t) := by
  unfold Machine.applyRingLen
  split
  · exact h
  · dsimp only
    exact ((h.onCmd _ hc).setF _ _ (.inl (hf ▸ hg))).setF _ _ (.inl hg)

theorem Kept.ringPlace (k slot : Nat) (ws : List Word) (h : Kept ps pg as s t) (hk : k < 3) (hc : .cmd ∈ ps) (ho : .outs ∈ ps)
    (hg : 0xD ∈ pg) : Kept ps pg as s (Machine.ringPlace k slot ws t) := by
  unfold Machine.ringPlace
  dsimp only
  apply Kept.out _ _ ho
  have h1 : ∀ v, Kept ps pg as s ((t.out (.hostWrite ((t.ring k).base + slot * t.getF (CMD_RING_DEVPTR.PTR k)) ws)).setF
      (CMD_RING_DEVPTR.PTR k) v) := fun v => (h.out _ ho).setF _ _ (.inl (CMD_RING_DEVPTR.page k hk ▸ hg))
  exact Kept.ite _ (fun _ => (h1 _).applyRingLen _ _ hc hg (CMD_RING_HOSTPTR.page k hk)) (fun _ => h1 _)

/-- A notification on one transport changes nothing but the command interface and what leaves the block. -/
theorem Kept.sendNotice (tr code : Nat) (p : List Word) (h : Kept ps pg as s t) (hc : .cmd ∈ ps := by decide)
    (ho : .outs ∈ ps := by decide) (hg : 0xD ∈ pg := by decide) : Kept ps pg as s (Machine.sendNotice tr code p t) := by
  have h1 := h.takeDseq tr hc
  unfold Machine.sendNotice
  dsimp only
  split
  · split
    · exact h1
    · split
      · exact h1.incF _ _ (.inl hg)
      · exact ((h1.out _ ho).ringPlace _ _ _ (by decide) hc ho hg).setIrq _ hc ho hg
  · split
    · exact (h1.mgmtOut _ _ hc ho hg).setIrq _ hc ho hg
    · exact h1
  · split
    · exact h1.incF _ _ (.inl hg)
    · exact ((h1.onCmd _ hc).out _ ho).setIrq _ hc ho hg

/-- So does a notification to every subscriber (R641). -/
theorem Kept.notify (code : Nat) (p : List Nat) (h : Kept ps pg as s t) (hc : .cmd ∈ ps := by decide) (ho : .outs ∈ ps := by decide)
    (hg : 0xD ∈ pg := by decide) : Kept ps pg as s (Machine.notify code p t) := by
  unfold Machine.notify
  refine h.trans (Kept.foldl _ (fun s x => ?_) _ _)
  split
  · exact (Kept.refl _ _ _ _).sendNotice _ _ _ hc ho hg
  · exact .refl _ _ _ _

theorem Kept.placeWords (tr : Nat) (ws : List Word) (h : Kept ps pg as s t) (hc : .cmd ∈ ps := by decide)
    (ho : .outs ∈ ps := by decide) (hg : 0xD ∈ pg := by decide) : Kept ps pg as s (Machine.placeWords tr ws t) := by
  unfold Machine.placeWords
  split
  · split
    · exact ((h.out _ ho).ringPlace _ _ _ (by decide) hc ho hg).setIrq _ hc ho hg
    · exact h
  · exact (h.mgmtOut _ _ hc ho hg).setIrq _ hc ho hg
  · exact Kept.ite _ (fun _ => h.onCmd _ hc) (fun _ => ((h.onCmd _ hc).out _ ho).setIrq _ hc ho hg)

/-- A reply changes nothing but the command interface and what leaves the block. -/
theorem Kept.placeReply (op : Nat) (x : CmdHdr) (gap : Bool) (st d : Nat) (p : List Word) (h : Kept ps pg as s t)
    (hc : .cmd ∈ ps := by decide) (ho : .outs ∈ ps := by decide) (hg : 0xD ∈ pg := by decide) :
    Kept ps pg as s (Machine.placeReply op x gap st d p t) := by
  unfold Machine.placeReply
  exact ((h.takeDseq _ hc).onSess _ _ hc).placeWords _ _ hc ho hg

/-! ### Counters -/

theorem PCN_GCNT.page (g : Nat) (hg : g < 32) : (PCN_GCNT.COUNT g).addr / 65536 = 0xB := by
  interval_cases g <;> decide

theorem Kept.countChainG (fuel : Nat) : ∀ (g k : Nat) (t : State), Kept ps pg as s t → g < 32 → 0xB ∈ pg →
    Kept ps pg as s (Machine.countChainG fuel g k t) := by
  induction fuel with
  | zero => intro g k t h _ _; exact h
  | succ n ih =>
    intro g k t h hk hg
    have h1 : ∀ v, Kept ps pg as s (t.setF (PCN_GCNT.COUNT g) v) := fun v => h.setF _ _ (.inl (PCN_GCNT.page g hk ▸ hg))
    unfold Machine.countChainG
    dsimp only
    split
    · rename_i hc
      exact ih _ _ _ (h1 _) hc.2.1 hg
    · exact h1 _

/-- A counted event changes nothing but counter registers (R691). -/
theorem Kept.countG (evt k : Nat) (h : Kept ps pg as s t) (hg : 0xB ∈ pg := by decide) : Kept ps pg as s (Machine.countG evt k t) := by
  unfold Machine.countG
  split
  · exact h
  · refine h.trans ?_
    have : ∀ (l : List Nat) (t : State), (∀ g ∈ l, g < 32) → Kept ps pg as t (l.foldl (fun s g =>
        if s.getF (PCN_GSEL.EVT g) = evt ∧ !s.flag (PCN_GSEL.CHAIN g) then Machine.countChainG 32 g k s else s) t) := by
      intro l
      induction l with
      | nil => intro t _; exact .refl _ _ _ _
      | cons g l ih =>
        intro t hl
        refine Kept.trans (Kept.ite _ (fun _ => ?_) (fun _ => .refl _ _ _ _)) (ih _ fun x hx => hl x (List.mem_cons_of_mem _ hx))
        exact Kept.countChainG _ _ _ _ (.refl _ _ _ _) (hl g List.mem_cons_self) hg
    exact this _ _ fun g hm => List.mem_range.1 hm

/-! ### The end of a cycle -/

/-- With no message and no record of the cycle, its end changes nothing. -/
theorem settle_quiet (s : State) (h : Quiet s) : settle s = s := by
  obtain ⟨regs, mem, stage, shot, time, eng, cs, spl, take, sp, net, dl, clk, ptp, fab, flt, pcn, cmd, fuse, boot, sti, rl, pin, outs,
    free, pending⟩ := s
  obtain ⟨⟩ := flt
  obtain ⟨h, g⟩ := h
  simp only at h g
  subst h g
  simp [settle, acceptEvents, acceptAll, msgSort, firstPick, State.onFlt]

/-- After the end of a cycle no message and no record waits. -/
theorem settle_wire (s : State) : Quiet (settle s) := ⟨rfl, rfl⟩

theorem Kept.quiet (h : Kept ps pg as s t) (hf : .flt ∉ ps) (q : Quiet s) : Quiet t := by
  have := h.part .flt hf
  simp only [Part.same] at this
  simpa [Quiet, this] using q

theorem Kept.enqueue (x : LogEntry) (h : Kept ps pg as s t) (hf : .flt ∈ ps) (hg : 9 ∈ pg) : Kept ps pg as s (Machine.enqueue x t) := by
  unfold Machine.enqueue
  split
  · exact h.incF _ _ (.inl hg)
  · exact h.onFlt _ hf

theorem Kept.writeFirst (m : Msg) (h : Kept ps pg as s t) (h9 : 9 ∈ pg) (hb : 0xB ∈ pg) : Kept ps pg as s (Machine.writeFirst m t) := by
  unfold Machine.writeFirst
  dsimp only
  have h1 : ∀ v w x y, Kept ps pg as s ((((((((t.setF FLT_FIRST.VALID 1).setF FLT_FIRST.INJ (b2n m.inj)).setF FLT_FIRST.SEV v).setF
      FLT_FIRST.KIND w).setF FLT_FIRST.SRC m.src).setF FLT_FIRST_ADDR.ADDR m.addr).setF FLT_FIRST_SHOT.SHOT x).setF
      FLT_FIRST_SEC.SEC y) := by
    intro v w x y
    iterate 8 refine Kept.setF _ _ ?_ (.inl h9)
    exact h
  exact Kept.ite _ (fun _ => (h1 _ _ _ _).setF _ _ (.inl hb)) (fun _ => h1 _ _ _ _)

theorem FLT_STICKY.page (k : Nat) (hk : k < 1000) : (FLT_STICKY.BITS k).addr / 65536 = 9 := by
  simp only [FLT_STICKY.BITS]; omega

/-- Acceptance of one message (R665 to R671). -/
theorem Kept.acceptMsg (m : Msg) (first : Bool) (h : Kept acceptParts acceptPages as s t) (hm : m.src < 256) :
    Kept acceptParts acceptPages as s (Machine.acceptMsg m first t) := by
  unfold Machine.acceptMsg
  dsimp only
  have h1 : Kept acceptParts acceptPages as s
      ((Machine.countG 0x35 1 (t.incF FLT_COUNT.COUNT 1)).orF (FLT_STICKY.BITS (m.src / 32)) (2 ^ (m.src % 32))) :=
    ((h.incF _ _ (.inl (by decide))).countG _ _ (by decide)).orF _ _ (.inl (FLT_STICKY.page (m.src / 32) (by omega) ▸ by decide))
  have h2 : ∀ x y : State, Kept acceptParts acceptPages as s x → Kept acceptParts acceptPages as s (if first = true then x else x.incF FLT_FIRST.ALSO 1) := by
    intro x _ hx
    split
    · exact hx
    · exact hx.incF _ _ (.inl (by decide))
  have h3 := fun e => (h2 _ t h1).enqueue e (by decide) (by decide)
  split
  · exact (h3 _).setIrq _ (by decide) (by decide)
  · exact h3 _

theorem Kept.abandonTake (r : Nat) (h : Kept acceptParts acceptPages as s t) : Kept acceptParts acceptPages as s (Machine.abandonTake r t) := by
  unfold Machine.abandonTake
  split
  · exact h
  · dsimp only
    split
    · exact (((h.onTake _ (by decide)).incF _ _ (.inl (by decide))).out _ (by decide)).placeReply _ _ _ _ _ _ (by decide) (by decide) (by decide)
    · exact ((h.onTake _ (by decide)).incF _ _ (.inl (by decide))).notify _ _ (by decide) (by decide) (by decide)

theorem engBase_page (e : Nat) (he : e < 18) : engBase e / 65536 ∈ acceptPages ∧ (engBase e + 4) / 65536 ∈ acceptPages := by
  interval_cases e <;> decide

theorem Kept.resumeEngine (e : Nat) (he : e < 18) (h : Kept acceptParts acceptPages as s t) :
    Kept acceptParts acceptPages as s (Machine.resumeEngine e t) := by
  have h0 : (ENG_CTRL.HALT e).addr / 65536 ∈ acceptPages := (engBase_page e he).1
  have h4 : (ENG_STAT.STATE e).addr / 65536 ∈ acceptPages := (engBase_page e he).2
  unfold Machine.resumeEngine
  dsimp only
  split
  · exact ((h.setF _ _ (.inl h0)).onEng _ (by decide)).setF _ _ (.inl h4)
  · exact h.setF _ _ (.inl h0)

theorem Kept.resumeAll (h : Kept acceptParts acceptPages as s t) :
    Kept acceptParts acceptPages as s ((List.range 18).foldl (fun s e => Machine.resumeEngine e s) t) := by
  have : ∀ (l : List Nat) (t : State), (∀ g ∈ l, g < 18) → Kept acceptParts acceptPages as s t →
      Kept acceptParts acceptPages as s (l.foldl (fun s e => Machine.resumeEngine e s) t) := by
    intro l
    induction l with
    | nil => intro t _ h; exact h
    | cons g l ih =>
      intro t hl h
      exact ih _ (fun x hx => hl x (List.mem_cons_of_mem _ hx)) (h.resumeEngine g (hl g List.mem_cons_self))
  exact this _ _ (fun g hm => List.mem_range.1 hm) h

/-- A change of mode (R766). -/
theorem Kept.changeMode (m : Nat) (h : Kept acceptParts acceptPages as s t) : Kept acceptParts acceptPages as s (Machine.changeMode m t) := by
  unfold Machine.changeMode
  dsimp only
  split
  · exact h
  apply Kept.notify (hc := by decide) (ho := by decide) (hg := by decide)
  apply Kept.ite
  · intro _
    apply Kept.onBoot (hp := by decide)
    apply Kept.setIrq (hc := by decide) (ho := by decide) (hg := by decide)
    apply Kept.logEvent (hp := by decide)
    apply Kept.ite
    · intro _
      apply Kept.resumeAll
      apply Kept.setF (ha := .inl (by decide))
      apply Kept.setF (ha := .inl (by decide))
      exact Kept.ite _ (fun _ => h) (fun _ => h.abandonTake 1)
    · intro _
      apply Kept.setF (ha := .inl (by decide))
      apply Kept.setF (ha := .inl (by decide))
      exact Kept.ite _ (fun _ => h) (fun _ => h.abandonTake 1)
  · intro _
    apply Kept.setIrq (hc := by decide) (ho := by decide) (hg := by decide)
    apply Kept.logEvent (hp := by decide)
    apply Kept.ite
    · intro _
      apply Kept.resumeAll
      apply Kept.setF (ha := .inl (by decide))
      apply Kept.setF (ha := .inl (by decide))
      exact Kept.ite _ (fun _ => h) (fun _ => h.abandonTake 1)
    · intro _
      apply Kept.setF (ha := .inl (by decide))
      apply Kept.setF (ha := .inl (by decide))
      exact Kept.ite _ (fun _ => h) (fun _ => h.abandonTake 1)

theorem Kept.safeRequest (h : Kept acceptParts acceptPages as s t) : Kept acceptParts acceptPages as s (Machine.safeRequest t) :=
  Kept.ite _ (fun _ => h.changeMode 8) (fun _ => h)

theorem Kept.releaseToken (h : Kept acceptParts acceptPages as s t) : Kept acceptParts acceptPages as s (Machine.releaseToken t) := by
  unfold Machine.releaseToken
  dsimp only
  have h1 := (((((h.out (.act "PINS_R704" []) (by decide)).out (.sti "RELEASE" []) (by decide)).setF STI_STAT.LEASE_OUT 0 (.inl (by decide))).out
    (.pin "LEASE_OUT" false) (by decide)).setF STI_STAT.ROLE 2 (.inl (by decide))).onSti (fun u => { u with handover := 0, sent := none }) (by decide)
  split
  · refine Kept.changeMode 6 (Kept.ite _ (fun _ => ?_) (fun _ => h1))
    exact (h1.setF _ _ (.inl (by decide))).onSti _ (by decide)
  · exact h1

theorem msgInsert_mem (m x : Msg) : ∀ l : List Msg, x ∈ msgInsert m l → x = m ∨ x ∈ l
  | [], h => by simpa [msgInsert] using h
  | y :: l, h => by
    unfold msgInsert at h
    split at h
    · rcases List.mem_cons.1 h with h | h
      · exact .inr (h ▸ List.mem_cons_self)
      · exact (msgInsert_mem m x l h).imp id (List.mem_cons_of_mem _)
    · exact List.mem_cons.1 h

/-- The messages in their order are the messages of the cycle. -/
theorem msgSort_mem (x : Msg) (l : List Msg) (h : x ∈ msgSort l) : x ∈ l := by
  have : ∀ (l a : List Msg), x ∈ l.foldl (fun a m => msgInsert m a) a → x ∈ a ∨ x ∈ l := by
    intro l
    induction l with
    | nil => intro a h; exact .inl h
    | cons m l ih =>
      intro a h
      rcases ih _ h with h | h
      · exact (msgInsert_mem m x a h).elim (fun e => .inr (e ▸ List.mem_cons_self)) .inl
      · exact .inr (List.mem_cons_of_mem _ h)
  exact (this l [] h).resolve_left (by simp)

theorem Kept.acceptEvents (h : Kept acceptParts acceptPages as s t) : Kept acceptParts acceptPages as s (Machine.acceptEvents t) :=
  h.trans (Kept.foldl _ (fun t x => (Kept.refl _ _ _ t).enqueue x (by decide) (by decide)) _ _)

theorem Kept.acceptAll (h : Kept acceptParts acceptPages as s t) (hw : ∀ m ∈ t.flt.wire, m.src < 256) :
    Kept acceptParts acceptPages as s (Machine.acceptAll t) := by
  have hm : ∀ m ∈ msgSort t.flt.wire, m.src < 256 := fun m h => hw m (msgSort_mem m _ h)
  have hf : ∀ (b : Bool) (k : Nat) (l : List (Msg × Nat)) (x : State), (∀ m ∈ l, m.1.src < 256) → Kept acceptParts acceptPages as s x →
      Kept acceptParts acceptPages as s (l.foldl (fun s x => Machine.acceptMsg x.1 (b && x.2 = k) s) x) := by
    intro b k l
    induction l with
    | nil => intro x _ h; exact h
    | cons m l ih =>
      intro x hl h
      exact ih _ (fun y hy => hl y (List.mem_cons_of_mem _ hy)) (h.acceptMsg m.1 _ (hl m List.mem_cons_self))
  have h0 := h.onFlt (fun u => { u with wire := [] }) (by decide)
  unfold Machine.acceptAll
  dsimp only
  have hz : ∀ m ∈ (msgSort t.flt.wire).zipIdx, m.1.src < 256 := fun m h => hm m.1 (List.fst_mem_of_mem_zipIdx h)
  have h2 : ∀ x : State, Kept acceptParts acceptPages as s x → ∀ k : Nat,
      Kept acceptParts acceptPages as s (match (msgSort t.flt.wire)[k]? with | some m => Machine.writeFirst m x | none => x) := by
    intro x hx k
    split
    · exact hx.writeFirst _ (by decide) (by decide)
    · exact hx
  have h3 := fun b k x hx => hf b k _ x hz hx
  refine Kept.ite _ (fun _ => Kept.safeRequest ?_) (fun _ => ?_)
  all_goals
    refine Kept.ite _ (fun _ => Kept.releaseToken ?_) (fun _ => ?_)
    all_goals
      refine h3 _ _ _ ?_
      refine Kept.ite _ (fun _ => ?_) (fun _ => h0)
      exact h2 _ h0 _

/-- The end of a cycle (R657, R671): whatever messages it accepts, every unit and every other page of registers stays as it was. -/
theorem Kept.settle (h : Kept acceptParts acceptPages as s t) (hw : ∀ m ∈ t.flt.wire, m.src < 256) :
    Kept acceptParts acceptPages as s (Machine.settle t) :=
  ((h.acceptAll hw).acceptEvents).onFlt _ (by decide)

end Sys2Proof
end

