-- ==== Sys2Proof/Laws/Memory.lean ====
section
/-! SUPPORT. Laws of byte memory: every memory operation keeps the canonical form, a byte written is read back, and every other byte
stays. -/

namespace Sys2Proof.Machine

/-- The memory of the state has its canonical form. -/
abbrev MemOk (s : State) : Prop := Memory.wf s.mem = true

theorem reset_memOk : MemOk State.reset := by decide

theorem smWf_filterP {α : Type} [DecidableEq α] (d : Nat → α) (p : Nat × α → Bool) :
    ∀ (m : List (Nat × α)), smWf d m = true → smWf d (m.filter p) = true
  | [], _ => rfl
  | (k, v) :: t, h => by
    simp only [smWf, Bool.and_eq_true, decide_eq_true_eq] at h
    have ih := smWf_filterP d p t h.2
    have above : ∀ (l : List (Nat × α)), smAbove k l = true → smAbove k (l.filter p) = true := by
      intro l
      induction l with
      | nil => intro _; rfl
      | cons c l hl =>
        intro hc
        simp only [smAbove, Bool.and_eq_true, decide_eq_true_eq] at hc
        by_cases hp : p c = true
        · simp [List.filter, hp, smAbove, hc.1, hl hc.2]
        · simp [List.filter, hp, hl hc.2]
    by_cases hp : p (k, v) = true
    · simp [List.filter, hp, smWf, above t h.1.1, h.1.2, ih]
    · simp [List.filter, hp, ih]

/-! ### Bytes and words -/

theorem State.setByte_memOk (s : State) (a : Nat) (b : Byte) (h : MemOk s) : MemOk (s.setByte a b) :=
  smWf_smPut memDefault a b s.mem h

theorem State.setWord_memOk (s : State) (a : Nat) (w : Word) (h : MemOk s) : MemOk (s.setWord a w) :=
  State.setByte_memOk _ _ _ (State.setByte_memOk _ _ _ (State.setByte_memOk _ _ _ (State.setByte_memOk _ _ _ h)))

theorem writeWords_memOk : ∀ (ws : List Word) (a : Nat) (s : State), MemOk s → MemOk (writeWords a ws s)
  | [], _, _, h => h
  | w :: t, a, s, h => writeWords_memOk t (a + 4) _ (State.setWord_memOk s a w h)

theorem writeBytes_memOk : ∀ (l : List Byte) (a : Nat) (s : State), MemOk s → MemOk (writeBytes a l s)
  | [], _, _, h => h
  | b :: t, a, s, h => writeBytes_memOk t (a + 1) _ (State.setByte_memOk s a b h)

theorem zeroBytes_memOk (a n : Nat) (s : State) (h : MemOk s) : MemOk (zeroBytes a n s) := smWf_filterP memDefault _ s.mem h

theorem copyBytes_memOk (dst src n : Nat) (s : State) (h : MemOk s) : MemOk (copyBytes dst src n s) := by
  have put : ∀ (l k : List Host.Cell), smWf memDefault k = true →
      smWf memDefault (l.foldl (fun k c => smPut (memDefault (c.1 - src + dst)) (c.1 - src + dst) c.2 k) k) = true := by
    intro l
    induction l with
    | nil => intro k hk; exact hk
    | cons c l ih => intro k hk; exact ih _ (smWf_smPut memDefault _ _ k hk)
  exact put _ _ (smWf_filterP memDefault _ s.mem h)

theorem keptMem_wf (m : List Host.Cell) (h : Memory.wf m = true) : Memory.wf (keptMem m) = true := smWf_filterP memDefault _ m h

/-- A run of word writes keeps the form. -/
theorem foldl_setWord_memOk {α : Type} (a : α → Nat) (w : α → Word) : ∀ (l : List α) (s : State), MemOk s →
    MemOk (l.foldl (fun s x => s.setWord (a x) (w x)) s)
  | [], _, h => h
  | x :: t, s, h => foldl_setWord_memOk a w t _ (State.setWord_memOk s (a x) (w x) h)

/-- A run of byte writes keeps the form. -/
theorem foldl_setByte_memOk {α : Type} (a : α → Nat) (b : α → Byte) : ∀ (l : List α) (s : State), MemOk s →
    MemOk (l.foldl (fun s x => s.setByte (a x) (b x)) s)
  | [], _, h => h
  | x :: t, s, h => foldl_setByte_memOk a b t _ (State.setByte_memOk s (a x) (b x) h)

theorem storeCells_memOk (o : Option StoreOp) (s : State) (h : MemOk s) : MemOk (storeCells o s) := by
  cases o with
  | none => exact h
  | some st => exact foldl_setWord_memOk _ _ st.cells s h

/-! ### What a read gives after a write -/

/-- A byte written is read back. -/
@[simp] theorem State.byte_setByte_same (s : State) (a : Nat) (b : Byte) : (s.setByte a b).byte a = b :=
  smGet_smPut_same (memDefault a) a b s.mem

/-- Every other byte stays. -/
theorem State.byte_setByte_other (s : State) (a k : Nat) (b : Byte) (h : k ≠ a) : (s.setByte a b).byte k = s.byte k :=
  smGet_smPut_other _ _ k a b h s.mem

/-- A word write leaves every byte outside its four. -/
theorem State.byte_setWord_other (s : State) (a k : Nat) (w : Word) (h : k < a ∨ a + 4 ≤ k) : (s.setWord a w).byte k = s.byte k := by
  simp only [State.setWord]
  rw [State.byte_setByte_other _ _ _ _ (by omega), State.byte_setByte_other _ _ _ _ (by omega),
    State.byte_setByte_other _ _ _ _ (by omega), State.byte_setByte_other _ _ _ _ (by omega)]

/-- A word written is read back. -/
@[simp] theorem State.word_setWord_same (s : State) (a : Nat) (w : Word) : (s.setWord a w).word a = w := by
  have b0 : (s.setWord a w).byte a = BitVec.ofNat 8 w.toNat := by
    simp only [State.setWord]
    rw [State.byte_setByte_other _ _ _ _ (by omega), State.byte_setByte_other _ _ _ _ (by omega),
      State.byte_setByte_other _ _ _ _ (by omega), State.byte_setByte_same]
  have b1 : (s.setWord a w).byte (a + 1) = BitVec.ofNat 8 (w.toNat / 256) := by
    simp only [State.setWord]
    rw [State.byte_setByte_other _ _ _ _ (by omega), State.byte_setByte_other _ _ _ _ (by omega), State.byte_setByte_same]
  have b2 : (s.setWord a w).byte (a + 2) = BitVec.ofNat 8 (w.toNat / 65536) := by
    simp only [State.setWord]
    rw [State.byte_setByte_other _ _ _ _ (by omega), State.byte_setByte_same]
  have b3 : (s.setWord a w).byte (a + 3) = BitVec.ofNat 8 (w.toNat / 16777216) := by
    simp only [State.setWord]
    rw [State.byte_setByte_same]
  have hw := w.isLt
  simp only [State.word, b0, b1, b2, b3, wd, BitVec.toNat_ofNat]
  apply BitVec.eq_of_toNat_eq
  rw [BitVec.toNat_ofNat]
  omega

/-- Writing words leaves every byte outside their range. -/
theorem writeWords_byte_other : ∀ (ws : List Word) (a k : Nat) (s : State), (k < a ∨ a + 4 * ws.length ≤ k) →
    (writeWords a ws s).byte k = s.byte k
  | [], _, _, _, _ => rfl
  | w :: t, a, k, s, h => by
    simp only [List.length_cons] at h
    rw [writeWords, writeWords_byte_other t (a + 4) k _ (by omega), State.byte_setWord_other _ _ _ _ (by omega)]

/-- Writing bytes leaves every byte outside their range. -/
theorem writeBytes_byte_other : ∀ (l : List Byte) (a k : Nat) (s : State), (k < a ∨ a + l.length ≤ k) →
    (writeBytes a l s).byte k = s.byte k
  | [], _, _, _, _ => rfl
  | b :: t, a, k, s, h => by
    simp only [List.length_cons] at h
    rw [writeBytes, writeBytes_byte_other t (a + 1) k _ (by omega), State.byte_setByte_other _ _ _ _ (by omega)]

/-! ### The eMRAM -/

theorem State.setReg_mem (s : State) (a : Nat) (v : Word) : (s.setReg a v).mem = s.mem := rfl
theorem State.setF_mem (s : State) (f : Fld) (v : Nat) : (s.setF f v).mem = s.mem := State.setReg_mem _ _ _

/-- A fold whose every step leaves memory leaves memory. -/
theorem foldl_mem {α : Type} (f : State → α → State) (h : ∀ t x, (f t x).mem = t.mem) : ∀ (l : List α) (s : State), (l.foldl f s).mem = s.mem
  | [], _ => rfl
  | x :: t, s => (foldl_mem f h t (f s x)).trans (h s x)

theorem countChainG_mem : ∀ (fuel g k : Nat) (s : State), (countChainG fuel g k s).mem = s.mem
  | 0, _, _, _ => rfl
  | n + 1, g, k, s => by
    simp only [countChainG]
    split
    · rw [countChainG_mem n]; rfl
    · rfl

theorem countG_mem (evt k : Nat) (s : State) : (countG evt k s).mem = s.mem := by
  unfold countG
  split
  · rfl
  · refine foldl_mem _ (fun t x => ?_) _ s
    split
    · exact countChainG_mem _ _ _ t
    · rfl

theorem startReplace_mem (row : Nat) (s : State) : (startReplace row s).mem = s.mem := by
  unfold startReplace
  by_cases h : s.fab.replacing.contains row = true
  · rw [if_pos h]
  · rw [if_neg h]
    by_cases h : s.getF MRAM_STAT.SPARES ≤ s.fab.replacing.length
    · rw [if_pos h]
      by_cases h : s.fab.worn.contains row = true
      · rw [if_pos h]
      · rw [if_neg h]; rfl
    · rw [if_neg h, State.setF_mem]; rfl

theorem wearBump_mem (row k : Nat) (s : State) : (wearBump row k s).2.mem = s.mem := by
  simp only [wearBump]
  split <;> split
  all_goals first
    | rfl
    | (rw [startReplace_mem]; rfl)

theorem wearAdd_mem (row k : Nat) (s : State) : (wearAdd row k s).mem = s.mem := by
  simp only [wearAdd]
  split
  · exact wearBump_mem _ _ _
  · split
    · rw [wearBump_mem, countG_mem, wearBump_mem]
    · rw [wearBump_mem, countG_mem, wearBump_mem, countG_mem, wearBump_mem]

theorem mramDword_memOk (off : Nat) (lo hi : Word) (s : State) (h : MemOk s) : MemOk (mramDword off lo hi s) := by
  simp only [mramDword]
  split
  · exact h
  · have e := (wearAdd_mem (off / 4096) 1 (countG 0x32 1 ((s.setWord (mramBase + off) lo).setWord (mramBase + off + 4) hi))).trans
      (countG_mem 0x32 1 _)
    unfold MemOk
    rw [e]
    exact State.setWord_memOk _ _ _ (State.setWord_memOk _ _ _ h)

theorem mramWrite_memOk (off : Nat) (ws : List Word) (s : State) (h : MemOk s) : MemOk (mramWrite off ws s) := by
  induction off, ws, s using mramWrite.induct with
  | case1 => simpa [mramWrite] using h
  | case2 off s x => simpa [mramWrite] using mramDword_memOk off x _ s h
  | case3 off s x y t ih => simpa [mramWrite] using ih (mramDword_memOk off x y s h)

/-- A fold whose every step keeps the form of memory keeps it. -/
theorem foldl_memOk {α : Type} (f : State → α → State) (h : ∀ t x, MemOk t → MemOk (f t x)) :
    ∀ (l : List α) (s : State), MemOk s → MemOk (l.foldl f s)
  | [], _, hs => hs
  | x :: t, s, hs => foldl_memOk f h t (f s x) (h s x hs)

theorem mramErase_memOk (off n : Nat) (s : State) (h : MemOk s) : MemOk (mramErase off n s) := by
  refine foldl_memOk _ (fun t i ht => ?_) _ s h
  dsimp only
  split
  · exact ht
  · have e : ∀ (r a : Nat), (wearAdd r 512 (countG 0x32 512 (zeroBytes a 4096 t))).mem = (zeroBytes a 4096 t).mem :=
      fun r a => (wearAdd_mem _ _ _).trans (countG_mem _ _ _)
    unfold MemOk
    rw [e]
    exact zeroBytes_memOk _ _ t ht

end Sys2Proof.Machine
end

