-- ==== Sys2Proof/Laws/Packet.lean ====
section
/-! SUPPORT. Command packets: what the arrival of a packet comes to, and what its reply leaves. -/

namespace Sys2Proof

open Machine

/-- The state in which a packet's own checks are made: its source is noted and bound, its number has passed. -/
def begun (w : Waiting) (s : State) : State :=
  setE w.hdr.tr (w.hdr.hseq + 1) (bind w (takeTurn w s))

@[simp] theorem sess_onSess_same (tr : Nat) (f : Sess → Sess) (s : State) : (onSess tr f s).sess tr = f (s.sess tr) := by
  simp only [onSess, State.sess, State.onCmd, getD_putNth, if_pos]

theorem sess_onSess_other (tr k : Nat) (f : Sess → Sess) (s : State) (h : k ≠ tr) : (onSess tr f s).sess k = s.sess k := by
  simp only [onSess, State.sess, State.onCmd, getD_putNth, if_neg h]

variable {op : Nat} {h : CmdHdr} {p : List Word} {bad : List BadRead} {s : State}

theorem foreign_packetOf (s t : State) (e : t.cmd.mgmtSrc = s.cmd.mgmtSrc) : foreign (packetOf op h p bad s) t = false := by
  unfold foreign packetOf
  cases hs : s.cmd.mgmtSrc <;> simp [e, hs]

theorem seqDiff_ready (hr : (s.sess h.tr).e = none ∨ (s.sess h.tr).e = some h.hseq) : seqDiff h s = 0 := by
  unfold seqDiff
  rcases hr with hr | hr <;> simp [hr, lowBits, sgn]

theorem preStatus_ready (hr : Ready op h p s) (t : State) (hf : t.fuse = s.fuse) (hp : t.flag CMD_STAT.PWIN = s.flag CMD_STAT.PWIN)
    (hl : t.cmd.longOp = s.cmd.longOp) : preStatus (packetOf op h p bad s) t = 0 := by
  obtain ⟨⟨_, _, _, _, hb⟩, _, ⟨hk, hn⟩, hs, hg, hlb, _⟩ := hr
  unfold preStatus packetOf
  dsimp only
  rw [if_neg (by simp [hk]), if_neg (by simp), if_neg (by simp [hn]), if_neg (by rw [hf]; rintro ⟨a, b⟩; simp [hs a] at b),
    if_neg (by rw [hp]; rintro ⟨a, b⟩; simp [hg a] at b), if_neg]
  rw [hl]
  cases hx : s.cmd.longOp with
  | none => simp
  | some l =>
    cases hy : longBusy op with
    | false => simp
    | true => simp [hlb hy] at hx

/-- The queue of waiting packets aside, a state is itself. -/
theorem onCmd_waiting_self (s : State) (w : Waiting) (hw : s.cmd.waiting = []) :
    (s.onCmd fun u => { u with waiting := u.waiting ++ [w] }).onCmd (fun u => { u with waiting := u.waiting.eraseIdx 0 }) = s := by
  obtain ⟨regs, mem, stage, shot, time, eng, cs, spl, take, sp, net, dl, clk, ptp, fab, flt, pcn, cmd, fuse, boot, sti, rl, pin, outs,
    free, pending⟩ := s
  obtain ⟨⟩ := cmd
  simp only at hw
  subst hw
  rfl

theorem held_ready (hr : Ready op h p s) (t : State) (ht : t.take = s.take)
    (hf : t.flag SPL_STAT.SLATE_READY = s.flag SPL_STAT.SLATE_READY) : held (packetOf op h p bad s) t = false := by
  obtain ⟨_, _, _, _, _, _, h1, h2, _⟩ := hr
  unfold held packetOf
  simp only [ht, hf]
  have e1 : (s.take.hold && heldByTake op) = false := by
    cases hx : heldByTake op with
    | false => simp
    | true => simp [h1 hx]
  have e2 : (decide (op = 768) || decide (op = 769)) = true → s.flag SPL_STAT.SLATE_READY = true := fun e => h2 (by simpa using e)
  rw [e1]
  cases hx : (decide (op = 768) || decide (op = 769)) with
  | false => simp
  | true => simp [e2 hx]

/-- A ready packet that arrives takes its turn at once. -/
theorem receive_ready (hr : Ready op h p s) : receive (packetOf op h p bad s) s = turn opBody (packetOf op h p bad s) s := by
  have hr' := hr
  obtain ⟨⟨htr, _, ho, hw, hb⟩, _⟩ := hr
  have he : enter (packetOf op h p bad s) s = s.onCmd fun u => { u with waiting := u.waiting ++ [packetOf op h p bad s] } := by
    unfold enter packetOf waitingOf
    dsimp only
    rw [if_neg (by simp [ho]), if_neg (by simp [hw]), if_neg]
    rintro ⟨e, g⟩
    have e' : h.tr = 2 := e
    simp [trBusy, e', g] at hb
  unfold receive serve
  rw [he]
  have hl : (s.onCmd fun u => { u with waiting := u.waiting ++ [packetOf op h p bad s] }).cmd.waiting = [packetOf op h p bad s] := by
    simp [State.onCmd, hw]
  have hn : nextPacket (s.onCmd fun u => { u with waiting := u.waiting ++ [packetOf op h p bad s] }) = some 0 := by
    have hp : readyPackets (s.onCmd fun u => { u with waiting := u.waiting ++ [packetOf op h p bad s] }) [packetOf op h p bad s] [] 0 = [(h, 0)] := by
      unfold readyPackets
      rw [if_pos]
      · rfl
      refine ⟨by simp, ?_, ?_⟩
      · have : trBusy h.tr (s.onCmd fun u => { u with waiting := u.waiting ++ [packetOf op h p bad s] }) = trBusy h.tr s := rfl
        simp only [packetOf] at this ⊢
        rw [this, hb]; rfl
      · rw [held_ready (bad := bad) hr' (s.onCmd fun u => { u with waiting := u.waiting ++ [packetOf op h p bad s] }) rfl rfl]; rfl
    unfold nextPacket
    rw [hl, hp]
    by_cases hc : h ∈ s.cmd.heldQ <;> simp [firstTurn, hc]
  rw [hl]
  simp only [List.length_singleton, drainN, hl, hn, List.getElem?_cons_zero]
  rw [onCmd_waiting_self s _ hw, if_neg (by simp)]

/-- What a ready packet, RESYNC apart, comes to: its body is executed in the state `begun`, and unless it is late its reply is placed. -/
theorem arrive_ready (hr : Ready op h p s) (h1 : op ≠ 1) :
    arrive op h p bad s =
      (let w := packetOf op h p bad s
       let b := begun w s
       let r := opBody w false b
       let t := settleRes w b r
       if r.late then t else placeReply op h false r.st r.detail r.pay t) := by
  have hr' := hr
  obtain ⟨_, hq, _⟩ := hr
  have hsd := seqDiff_ready hq
  show receive (packetOf op h p bad s) s = _
  rw [receive_ready hr']
  obtain ⟨s1, hs1⟩ : ∃ s1, s1 = takeTurn (packetOf op h p bad s) s := ⟨_, rfl⟩
  have hm : s1.cmd.mgmtSrc = s.cmd.mgmtSrc := by rw [hs1]; rfl
  have hfo : foreign (packetOf op h p bad s) s1 = false := foreign_packetOf _ _ hm
  have hbs : ∀ tr, (bind (packetOf op h p bad s) s1).sess tr = s.sess tr := by
    intro tr
    have h0 : s1.sess tr = s.sess tr := by rw [hs1]; rfl
    unfold Machine.bind
    split
    · exact h0
    · split
      · exact h0
      · rw [hfo]; exact h0
  have hd : seqDiff h (bind (packetOf op h p bad s) s1) = 0 := by
    refine seqDiff_ready ?_
    rw [hbs]; exact hq
  have hb1 : (bind (packetOf op h p bad s) s1).fuse = s.fuse ∧ (bind (packetOf op h p bad s) s1).flag CMD_STAT.PWIN = s.flag CMD_STAT.PWIN
      ∧ (bind (packetOf op h p bad s) s1).cmd.longOp = s.cmd.longOp := by
    have h0 : s1.fuse = s.fuse ∧ s1.flag CMD_STAT.PWIN = s.flag CMD_STAT.PWIN ∧ s1.cmd.longOp = s.cmd.longOp := by
      rw [hs1]; exact ⟨rfl, rfl, rfl⟩
    unfold Machine.bind
    split
    · exact h0
    · split
      · exact h0
      · rw [hfo]; exact h0
  have hpre : preStatus (packetOf op h p bad s) (setE h.tr (h.hseq + 1) (bind (packetOf op h p bad s) s1)) = 0 :=
    preStatus_ready hr' _ hb1.1 hb1.2.1 hb1.2.2
  have hbe : begun (packetOf op h p bad s) s = setE h.tr (h.hseq + 1) (bind (packetOf op h p bad s) s1) := by
    rw [hs1]; rfl
  have ht : turn opBody (packetOf op h p bad s) s =
      inOrder opBody (packetOf op h p bad s) false (bind (packetOf op h p bad s) s1) := by
    have hop : decide (op = 1) = false := decide_eq_false h1
    unfold turn
    show (if (0 : Nat) ≠ 0 then _ else _) = _
    rw [if_neg (by simp)]
    have hx : (packetOf op h p bad s).hdr = h := rfl
    have ho : (packetOf op h p bad s).op = op := rfl
    rw [hx, ho, ← hs1, hop, hfo]
    simp only [Bool.false_eq_true, false_and, and_false, if_false, hd]
    rw [if_neg (by simp)]
  rw [ht]
  unfold inOrder
  have hx : (packetOf op h p bad s).hdr = h := rfl
  have ho : (packetOf op h p bad s).op = op := rfl
  simp only [hx, ho, hd, hpre, hbe, Bool.not_false, Bool.and_true, Bool.false_eq_true, false_and, if_false, lt_irrefl, decide_false,
    ne_eq, not_true_eq_false]

/-! ### The state in which a body is executed -/

/-- Only the command interface differs. -/
theorem begun_kept (w : Waiting) (s : State) : Kept [.cmd] [] [] s (begun w s) := by
  unfold begun setE
  refine Kept.onSess _ _ ?_ (by decide)
  have h0 : Kept [.cmd] [] [] s (takeTurn w s) := (Kept.refl _ _ _ _).onCmd _ (by decide)
  unfold Machine.bind
  refine Kept.ite _ (fun _ => h0) (fun _ => Kept.ite _ (fun _ => h0.onCmd _ (by decide)) (fun _ => Kept.ite _ (fun _ => ?_) (fun _ => h0)))
  exact (h0.onCmd _ (by decide)).onSess _ _ (by decide)

/-- E is the number after the packet's. -/
theorem begun_e (w : Waiting) (s : State) : ((begun w s).sess w.hdr.tr).e = some ((w.hdr.hseq + 1) % 2 ^ 32) := by
  simp [begun, setE]

/-! ### After the body -/

/-- An executed packet leaves its count and its copy: only the command interface and what leaves the block differ, while a paired
holder's link is up. -/
theorem settleRes_kept (w : Waiting) (b : State) (r : Res) (hc : w.hdr.chk = false)
    (hl : r.s.pairedHolder = true → r.s.flag STI_STAT.LINK = true) :
    Kept [.cmd, .outs] [] [] r.s (settleRes w b r) ∧ (settleRes w b r).cmd.sess = r.s.cmd.sess := by
  have h1 : ∀ x y : State, (x = r.s ∨ ∃ f, x = r.s.onCmd f ∧ (r.s.onCmd f).cmd.sess = r.s.cmd.sess) → Kept [.cmd, .outs] [] [] r.s x ∧ x.cmd.sess = r.s.cmd.sess ∧ x.pairedHolder = r.s.pairedHolder ∧
      x.flag STI_STAT.LINK = r.s.flag STI_STAT.LINK := by
    rintro x - (rfl | ⟨f, rfl, g⟩)
    · exact ⟨.refl _ _ _ _, rfl, rfl, rfl⟩
    · exact ⟨(Kept.refl _ _ _ _).onCmd _ (by decide), g, rfl, rfl⟩
  unfold settleRes
  split
  · exact ⟨.refl _ _ _ _, rfl⟩
  rw [if_neg (by simp [hc])]
  obtain ⟨x, hx⟩ : ∃ x, x = (if r.s = b then r.s else noteGen w.op r.s) := ⟨_, rfl⟩
  have hq := h1 x r.s (by
    rw [hx]; split
    · exact .inl rfl
    · exact .inr ⟨_, rfl, rfl⟩)
  dsimp only
  rw [← hx]
  obtain ⟨k, e, ph, lk⟩ := hq
  unfold forward mirrorSend
  split
  · rw [ph, lk]
    split
    · exact ⟨k, e⟩
    · rename_i hn
      have hp : r.s.pairedHolder = true := by
        by_contra hh; simp [hh] at hn
      rw [if_pos (hl hp)]
      exact ⟨k.out _ (by decide), e⟩
  · exact ⟨k, e⟩

theorem placeWords_sess (tr : Nat) (ws : List Word) (s : State) (k : Nat) : (placeWords tr ws s).sess k = s.sess k := by
  have hi : ∀ (n : Nat) (x : State), (setIrq n x).sess k = x.sess k := by
    intro n x
    have hm : ∀ y : State, (sendMsix n y).sess k = y.sess k := by
      intro y; unfold sendMsix; split <;> rfl
    unfold setIrq; dsimp only; split
    · rw [hm]; rfl
    · rfl
  have hr : ∀ (j m : Nat) (x : State), (ringPlace j m ws x).sess k = x.sess k := by
    intro j m x
    have ha : ∀ (i : Nat) (ptr : Fld) (y : State), (applyRingLen i ptr y).sess k = y.sess k := by
      intro i ptr y
      unfold applyRingLen
      split <;> rfl
    have hz : ∀ (c : Prop) [Decidable c] (y z : State), y.sess k = x.sess k → z.sess k = x.sess k → (if c then y else z).sess k = x.sess k := by
      intro c _ y z h1 h2; split
      · exact h1
      · exact h2
    unfold ringPlace
    exact hz _ _ _ ((ha _ _ _).trans rfl) rfl
  unfold placeWords
  split
  · split
    · rw [hi, hr]; rfl
    · rfl
  · rw [hi]
    unfold mgmtOut
    split <;> rfl
  · split
    · rfl
    · rw [hi]; rfl

/-- A placed reply is the newest in the replay cache. -/
theorem placeReply_replied (op : Nat) (h : CmdHdr) (st d : Nat) (pay : List Word) (s : State) :
    ((placeReply op h false st d pay s).sess h.tr).e = (s.sess h.tr).e
    ∧ ((placeReply op h false st d pay s).sess h.tr).cache.head? =
      some (h.hseq, replyWords op h false (s.sess h.tr).dseq st d pay) := by
  unfold placeReply takeDseq
  simp only [placeWords_sess, sess_onSess_same]
  simp

/-- A ready packet whose body executes at once to `x` with reply payload `pay`: the reply goes out with status OK, and nothing but the
command interface and what leaves the block differs from `x`. -/
theorem arrive_accepted (hr : Ready op h p s) (h1 : op ≠ 1) (hc : h.chk = false) (x : State) (pay : List Word)
    (hb : opBody (packetOf op h p bad s) false (begun (packetOf op h p bad s) s) = doneWith pay x)
    (he : (x.sess h.tr).e = some ((h.hseq + 1) % 2 ^ 32)) (hl : x.pairedHolder = true → x.flag STI_STAT.LINK = true) :
    Accepted op h pay (arrive op h p bad s) ∧ Kept [.cmd, .outs] [0xD] [] x (arrive op h p bad s) := by
  rw [arrive_ready hr h1]
  dsimp only
  rw [hb]
  have hs := settleRes_kept (packetOf op h p bad s) (begun (packetOf op h p bad s) s) (doneWith pay x) hc hl
  obtain ⟨k, e⟩ := hs
  have hp := placeReply_replied op h 0 0xFFFF pay (settleRes (packetOf op h p bad s) (begun (packetOf op h p bad s) s) (doneWith pay x))
  have e' : ∀ j, (settleRes (packetOf op h p bad s) (begun (packetOf op h p bad s) s) (doneWith pay x)).sess j = x.sess j := by
    intro j; simp only [State.sess, e]; rfl
  rw [if_neg (by simp [doneWith])]
  refine ⟨⟨?_, ?_⟩, ?_⟩
  · exact hp.1.trans ((congrArg Sess.e (e' h.tr)).trans he)
  · exact ⟨_, hp.2⟩
  · exact (k.mono (by decide) (by simp) (by simp)).placeReply _ _ _ _ _ _ (by decide) (by decide) (by decide)

/-- The same where nothing of the cycle waits: the command row answers that state. -/
theorem arrived_accepted (hr : Ready op h p s) (h1 : op ≠ 1) (hc : h.chk = false) (x : State) (pay : List Word)
    (hb : opBody (packetOf op h p [] s) false (begun (packetOf op h p [] s) s) = doneWith pay x)
    (he : (x.sess h.tr).e = some ((h.hseq + 1) % 2 ^ 32)) (hl : x.pairedHolder = true → x.flag STI_STAT.LINK = true) (hq : Quiet x) :
    ∃ t, arrived op h p s = .next t ∧ Accepted op h pay t ∧ Kept [.cmd, .outs] [0xD] [] x t := by
  obtain ⟨ha, hk⟩ := arrive_accepted (bad := []) hr h1 hc x pay hb he hl
  refine ⟨arrive op h p [] s, ?_, ha, hk⟩
  unfold arrived finish
  rw [settle_quiet _ (hk.quiet (by decide) hq)]

end Sys2Proof
end

