-- ==== Sys2Proof/Laws/PerInstr.lean ====
section
/-! SUPPORT. The opcode with which a command arrives (R639), and the family Opcode: every command that is a packet has an opcode that
R639 defines. -/

namespace Sys2Proof.Laws.Opcode

/-- The opcode of a command packet; none for the other commands. -/
def code : Instr → Option Nat
  | .ping _ _ => some 0x000
  | .resync _ _ => some 0x001
  | .configure _ _ => some 0x010
  | .modeSet _ _ => some 0x011
  | .memRead _ _ _ => some 0x020
  | .memWrite _ _ => some 0x021
  | .notifySub _ _ => some 0x030
  | .memClaim _ _ => some 0x031
  | .slateRevert _ _ => some 0x100
  | .taskWrite _ _ => some 0x101
  | .taskDrop _ _ => some 0x102
  | .taskRearm _ _ => some 0x103
  | .aimgWrite _ _ => some 0x104
  | .xferWrite _ _ => some 0x105
  | .lineSet _ _ => some 0x106
  | .sliceInit _ _ => some 0x107
  | .codeLoad _ _ => some 0x108
  | .coefWrite _ _ => some 0x109
  | .sceneWrite _ _ => some 0x10A
  | .sceneLoad _ _ => some 0x10B
  | .take _ _ => some 0x200
  | .takeCancel _ _ => some 0x201
  | .recast _ _ => some 0x202
  | .xpSet _ _ => some 0x300
  | .xpRow _ _ => some 0x301
  | .patchSet _ _ => some 0x302
  | .portCfg _ _ => some 0x400
  | .portStart _ _ => some 0x401
  | .portStop _ _ => some 0x402
  | .cgCfg _ _ => some 0x403
  | .dlLane _ _ => some 0x404
  | .meterSet _ _ => some 0x405
  | .streamCfg _ _ => some 0x500
  | .streamStart _ _ => some 0x501
  | .streamStop _ _ => some 0x502
  | .timeSet _ _ => some 0x600
  | .clapTrig _ _ => some 0x601
  | .faultCfg _ _ => some 0x700
  | .logRead _ _ => some 0x701
  | .logErasePerm _ _ => some 0x702
  | .handover _ _ => some 0x800
  | .claim _ _ => some 0x800
  | .leave _ _ => some 0x800
  | .join _ _ => some 0x800
  | .ringCfgSize _ _ => some 0x801
  | .ringCfgBusMap _ _ => some 0x801
  | .ringCfgFwdRl0Rl1 _ _ => some 0x801
  | .ringCfgFwdRl1Rl0 _ _ => some 0x801
  | .fwUpdate _ _ => some 0xF00
  | .provision _ _ => some 0xF01
  | .sealDevice _ _ => some 0xF02
  | .retire _ _ => some 0xF03
  | .restore _ _ => some 0xF03
  | .sramrow _ _ => some 0xF03
  | .opDone => none
  | .commandDescriptor _ _ => none
  | .mgmtDatagram _ _ _ => none
  | .writePacket _ => none
  | .readMessage _ => none
  | .readMemory _ _ _ => none
  | .writeMemory _ _ => none
  | .shotCounterRead => none
  | .takeShotRead => none
  | .spTsRead _ => none
  | .ptpTimeRead _ => none
  | .opsecRead => none
  | .mramWearRead => none
  | .netCounterLoRead _ _ => none
  | .tagRecordRead _ => none
  | .rcFieldRead _ _ => none
  | .captureFifoRead _ => none
  | .hbufAlloc => none
  | .hbufFree _ => none
  | .registerWrite _ _ _ => none
  | .unmappedRead _ _ => none
  | .hostMemoryWrite _ _ _ => none
  | .programMemoryWrite _ _ _ => none
  | .laneSliceWrite _ _ _ _ => none
  | .slateViewWrite _ _ _ => none
  | .heldSlateWriteLand _ => none
  | .firstFaultClear => none
  | .faultInject _ _ => none
  | .engStep _ => none
  | .engHalt _ _ => none
  | .debugDataWrite _ _ => none
  | .waitStatsClear => none
  | .reserveWrite _ => none
  | .zskipWrite _ => none
  | .snap => none
  | .freeze _ => none
  | .tagSeedWrite _ => none
  | .counterWrite _ _ _ _ => none
  | .softReset _ => none
  | .txRingReset _ => none
  | .rxRingReset _ => none
  | .rxtailWrite _ _ => none
  | .txtailWrite _ _ _ => none
  | .netRingLenWrite _ _ _ => none
  | .spRingLenWrite _ _ _ => none
  | .cmdRingLenWrite _ _ => none
  | .spRingPointerWrite _ _ _ => none
  | .spMaskWrite _ _ _ _ => none
  | .spInEnWrite _ _ => none
  | .spOutEnWrite _ _ => none
  | .spCapEnWrite _ _ => none
  | .spPlyEnWrite _ _ => none
  | .cgCfgWrite _ _ => none
  | .dlCkEnWrite _ _ => none
  | .dlLaneEnWrite _ _ => none
  | .triggerEnWrite _ _ => none
  | .captureEnWrite _ _ => none
  | .gpioClaimWrite _ => none
  | .mclkEnWrite _ => none
  | .ddrEnWrite _ => none
  | .ringsEnWrite _ => none
  | .candidateCfgWrite _ _ => none
  | .forceWrite _ => none
  | .logRateWrite _ _ => none
  | .preemptEnWrite _ _ => none
  | .shotBoundary _ => none
  | .ledgerAuditNoTick => none
  | .matrixPassEnd _ _ _ => none
  | .stagingEntryLand _ _ => none
  | .dispatchAccept _ _ _ => none
  | .contextLoadDone _ => none
  | .contextSaveDone _ => none
  | .budget _ => none
  | .insNop _ _ => none
  | .insMpy _ _ => none
  | .insMac _ _ => none
  | .insMns _ _ => none
  | .insMacn _ _ => none
  | .insAclr _ _ => none
  | .insAld _ _ => none
  | .insAldw _ _ => none
  | .insAadd _ _ => none
  | .insAsub _ _ => none
  | .insAsh _ _ => none
  | .insRnd _ _ => none
  | .insTrn _ _ => none
  | .insAmv _ _ => none
  | .insAdd _ _ => none
  | .insAdds _ _ => none
  | .insSub _ _ => none
  | .insSubs _ _ => none
  | .insAnd _ _ => none
  | .insOr _ _ => none
  | .insXor _ _ => none
  | .insShl _ _ => none
  | .insShls _ _ => none
  | .insShr _ _ => none
  | .insAsr _ _ => none
  | .insAbs _ _ => none
  | .insNeg _ _ => none
  | .insMin _ _ => none
  | .insMax _ _ => none
  | .insClz _ _ => none
  | .insCmp _ _ => none
  | .insMov _ _ => none
  | .insAddi _ _ => none
  | .insAddis _ _ => none
  | .insAndi _ _ => none
  | .insOri _ _ => none
  | .insXori _ _ => none
  | .insCmpi _ _ => none
  | .insSel _ _ => none
  | .insLog2 _ _ => none
  | .insExp2 _ _ => none
  | .insDivs _ _ => none
  | .insTli _ _ => none
  | .insMova _ _ => none
  | .insAdda _ _ => none
  | .insMvda _ _ => none
  | .insMvad _ _ => none
  | .insRdpc _ _ => none
  | .insLdi _ _ => none
  | .insBra _ _ => none
  | .insBall _ _ => none
  | .insBany _ _ => none
  | .insCall _ _ => none
  | .insRet _ _ => none
  | .insLoop _ _ => none
  | .insLoopu _ _ => none
  | .insYield _ _ => none
  | .insEnd _ _ => none
  | .storeBufferDrain _ _ => none
  | .tagInstruction _ _ _ _ _ _ _ _ => none
  | .lockBoundary => none
  | .takeCommit => none
  | .engineSlateCopyDone _ => none
  | .matrixTakeApply => none
  | .busEngineCommit => none
  | .heldCommandsRelease => none
  | .dissolveEnd => none
  | .recastLoadDone _ => none
  | .cutRecastCopyDone _ => none
  | .cutRecastSwap _ => none
  | .spareBist _ _ => none
  | .serialFrame _ _ _ _ => none
  | .portBlock _ _ => none
  | .spLost _ _ => none
  | .spReturn _ => none
  | .cgRateUpdate _ _ => none
  | .asrcLock _ _ _ => none
  | .portStartAct _ _ _ => none
  | .portStopAct _ => none
  | .streamStartAct _ => none
  | .streamStopAct _ => none
  | .laneStartAct _ => none
  | .laneStopAct _ => none
  | .mpFrameReceived _ _ _ => none
  | .mgmtFrameReceived _ => none
  | .frameTransmitDone _ _ => none
  | .tcDrop _ => none
  | .linkUp _ => none
  | .linkDown _ => none
  | .pauseReceived _ _ => none
  | .pauseExpiry _ => none
  | .pauseBroken _ => none
  | .preemptVerify _ _ => none
  | .bridgeAgeOut _ => none
  | .streamPacketAccept _ _ => none
  | .streamBlockWrite _ => none
  | .streamLost _ => none
  | .streamPacketSend _ => none
  | .txLate _ => none
  | .dlLost _ _ => none
  | .dlReturn _ _ => none
  | .dlSettled _ => none
  | .meterSetApply => none
  | .meterFrameStart => none
  | .meterFrameComplete => none
  | .steerUpdate _ => none
  | .freqMonitorUpdate _ _ _ => none
  | .candidateQualified _ => none
  | .activityEnd _ => none
  | .wtrExpiry => none
  | .buildoutEnd _ => none
  | .loopStep => none
  | .clkUnlock => none
  | .alignComplete => none
  | .historyEntry => none
  | .holdoverSteerEval => none
  | .clkLost => none
  | .tempMeasure _ => none
  | .syncReceived _ _ _ => none
  | .followUpReceived _ _ => none
  | .delayRespReceived _ _ => none
  | .announceReceived _ _ _ _ _ _ _ _ => none
  | .ptpLoss _ _ => none
  | .ptpMessageSend _ => none
  | .clapperTriggerFire _ => none
  | .captureEdge _ _ => none
  | .xbarRequest _ _ _ _ _ _ _ _ => none
  | .burstComplete _ _ => none
  | .masterReset _ => none
  | .scrub _ _ => none
  | .ddrTrainingDone _ => none
  | .ddrRetrain => none
  | .mramReplaceDone => none
  | .faultMessage _ _ _ => none
  | .logRecordWrite => none
  | .logTokenGain _ => none
  | .stiLinkUp => none
  | .stiLinkDown => none
  | .renewSend => none
  | .renewReceived _ _ => none
  | .ackReceived _ => none
  | .fence => none
  | .leaseInRise => none
  | .leaseInFall _ => none
  | .tokenTake _ => none
  | .releaseReceived _ => none
  | .reclaim => none
  | .mirrorPacketApply _ => none
  | .wholeStateTransferDone _ => none
  | .standinTickStart _ => none
  | .wakeStep => none
  | .standinAwake => none
  | .takeoverStart _ => none
  | .takeoverRelease => none
  | .rlLinkUp _ _ => none
  | .rlLink _ => none
  | .rlBlockReceived _ _ _ => none
  | .ringListReceived _ _ _ => none
  | .ringTakeMessage _ => none
  | .voteReceived _ _ => none
  | .voteTimeout => none
  | .ringCommitReceived _ => none
  | .followerAcquire _ => none
  | .modeTransition => none
  | .por => none
  | .resetNAssert => none
  | .clkloss => none
  | .thermalTrip => none
  | .thermalRelease => none
  | .resetRelease _ _ _ => none
  | .bootStageDone _ => none
  | .gafferWatchdog => none
  | .presencePress => none
  | .presenceWindowClose => none
  | .lifetimeRecord => none
  | .pcieLinkDown => none
  | .pcieLinkUp => none
  | .candidateActivity _ _ => none
  | .triggerPulseEnd _ => none
  | .gafferResume => none

/-- The opcode of a command packet is one of R639. -/
def Statement (i : Instr) : Prop := ∀ op, code i = some op → Machine.opKnown op = true

theorem ping (h : CmdHdr) (p : List Word) : Statement (.ping h p) := fun _ e => by cases e; rfl
theorem resync (h : CmdHdr) (p : List Word) : Statement (.resync h p) := fun _ e => by cases e; rfl
theorem configure (h : CmdHdr) (p : List Word) : Statement (.configure h p) := fun _ e => by cases e; rfl
theorem modeSet (h : CmdHdr) (p : List Word) : Statement (.modeSet h p) := fun _ e => by cases e; rfl
theorem memRead (h : CmdHdr) (p : List Word) (bad : List BadRead) : Statement (.memRead h p bad) := fun _ e => by cases e; rfl
theorem memWrite (h : CmdHdr) (p : List Word) : Statement (.memWrite h p) := fun _ e => by cases e; rfl
theorem notifySub (h : CmdHdr) (p : List Word) : Statement (.notifySub h p) := fun _ e => by cases e; rfl
theorem memClaim (h : CmdHdr) (p : List Word) : Statement (.memClaim h p) := fun _ e => by cases e; rfl
theorem slateRevert (h : CmdHdr) (p : List Word) : Statement (.slateRevert h p) := fun _ e => by cases e; rfl
theorem taskWrite (h : CmdHdr) (p : List Word) : Statement (.taskWrite h p) := fun _ e => by cases e; rfl
theorem taskDrop (h : CmdHdr) (p : List Word) : Statement (.taskDrop h p) := fun _ e => by cases e; rfl
theorem taskRearm (h : CmdHdr) (p : List Word) : Statement (.taskRearm h p) := fun _ e => by cases e; rfl
theorem aimgWrite (h : CmdHdr) (p : List Word) : Statement (.aimgWrite h p) := fun _ e => by cases e; rfl
theorem xferWrite (h : CmdHdr) (p : List Word) : Statement (.xferWrite h p) := fun _ e => by cases e; rfl
theorem lineSet (h : CmdHdr) (p : List Word) : Statement (.lineSet h p) := fun _ e => by cases e; rfl
theorem sliceInit (h : CmdHdr) (p : List Word) : Statement (.sliceInit h p) := fun _ e => by cases e; rfl
theorem codeLoad (h : CmdHdr) (p : List Word) : Statement (.codeLoad h p) := fun _ e => by cases e; rfl
theorem coefWrite (h : CmdHdr) (p : List Word) : Statement (.coefWrite h p) := fun _ e => by cases e; rfl
theorem sceneWrite (h : CmdHdr) (p : List Word) : Statement (.sceneWrite h p) := fun _ e => by cases e; rfl
theorem sceneLoad (h : CmdHdr) (p : List Word) : Statement (.sceneLoad h p) := fun _ e => by cases e; rfl
theorem take (h : CmdHdr) (p : List Word) : Statement (.take h p) := fun _ e => by cases e; rfl
theorem takeCancel (h : CmdHdr) (p : List Word) : Statement (.takeCancel h p) := fun _ e => by cases e; rfl
theorem recast (h : CmdHdr) (p : List Word) : Statement (.recast h p) := fun _ e => by cases e; rfl
theorem xpSet (h : CmdHdr) (p : List Word) : Statement (.xpSet h p) := fun _ e => by cases e; rfl
theorem xpRow (h : CmdHdr) (p : List Word) : Statement (.xpRow h p) := fun _ e => by cases e; rfl
theorem patchSet (h : CmdHdr) (p : List Word) : Statement (.patchSet h p) := fun _ e => by cases e; rfl
theorem portCfg (h : CmdHdr) (p : List Word) : Statement (.portCfg h p) := fun _ e => by cases e; rfl
theorem portStart (h : CmdHdr) (p : List Word) : Statement (.portStart h p) := fun _ e => by cases e; rfl
theorem portStop (h : CmdHdr) (p : List Word) : Statement (.portStop h p) := fun _ e => by cases e; rfl
theorem cgCfg (h : CmdHdr) (p : List Word) : Statement (.cgCfg h p) := fun _ e => by cases e; rfl
theorem dlLane (h : CmdHdr) (p : List Word) : Statement (.dlLane h p) := fun _ e => by cases e; rfl
theorem meterSet (h : CmdHdr) (p : List Word) : Statement (.meterSet h p) := fun _ e => by cases e; rfl
theorem streamCfg (h : CmdHdr) (p : List Word) : Statement (.streamCfg h p) := fun _ e => by cases e; rfl
theorem streamStart (h : CmdHdr) (p : List Word) : Statement (.streamStart h p) := fun _ e => by cases e; rfl
theorem streamStop (h : CmdHdr) (p : List Word) : Statement (.streamStop h p) := fun _ e => by cases e; rfl
theorem timeSet (h : CmdHdr) (p : List Word) : Statement (.timeSet h p) := fun _ e => by cases e; rfl
theorem clapTrig (h : CmdHdr) (p : List Word) : Statement (.clapTrig h p) := fun _ e => by cases e; rfl
theorem faultCfg (h : CmdHdr) (p : List Word) : Statement (.faultCfg h p) := fun _ e => by cases e; rfl
theorem logRead (h : CmdHdr) (p : List Word) : Statement (.logRead h p) := fun _ e => by cases e; rfl
theorem logErasePerm (h : CmdHdr) (p : List Word) : Statement (.logErasePerm h p) := fun _ e => by cases e; rfl
theorem handover (h : CmdHdr) (p : List Word) : Statement (.handover h p) := fun _ e => by cases e; rfl
theorem claim (h : CmdHdr) (p : List Word) : Statement (.claim h p) := fun _ e => by cases e; rfl
theorem leave (h : CmdHdr) (p : List Word) : Statement (.leave h p) := fun _ e => by cases e; rfl
theorem join (h : CmdHdr) (p : List Word) : Statement (.join h p) := fun _ e => by cases e; rfl
theorem ringCfgSize (h : CmdHdr) (p : List Word) : Statement (.ringCfgSize h p) := fun _ e => by cases e; rfl
theorem ringCfgBusMap (h : CmdHdr) (p : List Word) : Statement (.ringCfgBusMap h p) := fun _ e => by cases e; rfl
theorem ringCfgFwdRl0Rl1 (h : CmdHdr) (p : List Word) : Statement (.ringCfgFwdRl0Rl1 h p) := fun _ e => by cases e; rfl
theorem ringCfgFwdRl1Rl0 (h : CmdHdr) (p : List Word) : Statement (.ringCfgFwdRl1Rl0 h p) := fun _ e => by cases e; rfl
theorem fwUpdate (h : CmdHdr) (p : List Word) : Statement (.fwUpdate h p) := fun _ e => by cases e; rfl
theorem provision (h : CmdHdr) (p : List Word) : Statement (.provision h p) := fun _ e => by cases e; rfl
theorem sealDevice (h : CmdHdr) (p : List Word) : Statement (.sealDevice h p) := fun _ e => by cases e; rfl
theorem retire (h : CmdHdr) (p : List Word) : Statement (.retire h p) := fun _ e => by cases e; rfl
theorem restore (h : CmdHdr) (p : List Word) : Statement (.restore h p) := fun _ e => by cases e; rfl
theorem sramrow (h : CmdHdr) (p : List Word) : Statement (.sramrow h p) := fun _ e => by cases e; rfl
theorem opDone : Statement (.opDone) := fun _ e => by cases e
theorem commandDescriptor (d : List Word) (data : Option (List (BitVec 8))) : Statement (.commandDescriptor d data) := fun _ e => by cases e
theorem mgmtDatagram (src : Nat) (sumOk : Bool) (l : List (BitVec 8)) : Statement (.mgmtDatagram src sumOk l) := fun _ e => by cases e
theorem writePacket (l : List (BitVec 8)) : Statement (.writePacket l) := fun _ e => by cases e
theorem readMessage (n : Nat) : Statement (.readMessage n) := fun _ e => by cases e
theorem readMemory (a n : Nat) (bad : List BadRead) : Statement (.readMemory a n bad) := fun _ e => by cases e
theorem writeMemory (a : Nat) (ws : List Word) : Statement (.writeMemory a ws) := fun _ e => by cases e
theorem shotCounterRead : Statement (.shotCounterRead) := fun _ e => by cases e
theorem takeShotRead : Statement (.takeShotRead) := fun _ e => by cases e
theorem spTsRead (p : Nat) : Statement (.spTsRead p) := fun _ e => by cases e
theorem ptpTimeRead (shot : Bool) : Statement (.ptpTimeRead shot) := fun _ e => by cases e
theorem opsecRead : Statement (.opsecRead) := fun _ e => by cases e
theorem mramWearRead : Statement (.mramWearRead) := fun _ e => by cases e
theorem netCounterLoRead (p k : Nat) : Statement (.netCounterLoRead p k) := fun _ e => by cases e
theorem tagRecordRead (e : Nat) : Statement (.tagRecordRead e) := fun _ e => by cases e
theorem rcFieldRead (a n : Nat) : Statement (.rcFieldRead a n) := fun _ e => by cases e
theorem captureFifoRead (c : Nat) : Statement (.captureFifoRead c) := fun _ e => by cases e
theorem hbufAlloc : Statement (.hbufAlloc) := fun _ e => by cases e
theorem hbufFree (v : BitVec 32) : Statement (.hbufFree v) := fun _ e => by cases e
theorem registerWrite (a n : Nat) (v : Word) : Statement (.registerWrite a n v) := fun _ e => by cases e
theorem unmappedRead (a : Nat) (x : HostSpan) : Statement (.unmappedRead a x) := fun _ e => by cases e
theorem hostMemoryWrite (bar : HostBar) (a : Nat) (l : List (BitVec 8)) : Statement (.hostMemoryWrite bar a l) := fun _ e => by cases e
theorem programMemoryWrite (e off : Nat) (l : List (BitVec 8)) : Statement (.programMemoryWrite e off l) := fun _ e => by cases e
theorem laneSliceWrite (e : Nat) (isY : Bool) (off : Nat) (l : List (BitVec 8)) : Statement (.laneSliceWrite e isY off l) := fun _ e => by cases e
theorem slateViewWrite (e off : Nat) (l : List (BitVec 8)) : Statement (.slateViewWrite e off l) := fun _ e => by cases e
theorem heldSlateWriteLand (e : Nat) : Statement (.heldSlateWriteLand e) := fun _ e => by cases e
theorem firstFaultClear : Statement (.firstFaultClear) := fun _ e => by cases e
theorem faultInject (src kind : Nat) : Statement (.faultInject src kind) := fun _ e => by cases e
theorem engStep (e : Nat) : Statement (.engStep e) := fun _ e => by cases e
theorem engHalt (e : Nat) (h : Bool) : Statement (.engHalt e h) := fun _ e => by cases e
theorem debugDataWrite (e : Nat) (v : Word) : Statement (.debugDataWrite e v) := fun _ e => by cases e
theorem waitStatsClear : Statement (.waitStatsClear) := fun _ e => by cases e
theorem reserveWrite (r : Nat) : Statement (.reserveWrite r) := fun _ e => by cases e
theorem zskipWrite (on : Bool) : Statement (.zskipWrite on) := fun _ e => by cases e
theorem snap : Statement (.snap) := fun _ e => by cases e
theorem freeze (on : Bool) : Statement (.freeze on) := fun _ e => by cases e
theorem tagSeedWrite (v : Word) : Statement (.tagSeedWrite v) := fun _ e => by cases e
theorem counterWrite (glb : Bool) (e j : Nat) (v : Word) : Statement (.counterWrite glb e j v) := fun _ e => by cases e
theorem softReset (v : Word) : Statement (.softReset v) := fun _ e => by cases e
theorem txRingReset (r : Nat) : Statement (.txRingReset r) := fun _ e => by cases e
theorem rxRingReset (r : Nat) : Statement (.rxRingReset r) := fun _ e => by cases e
theorem rxtailWrite (r : Nat) (v : BitVec 32) : Statement (.rxtailWrite r v) := fun _ e => by cases e
theorem txtailWrite (r : Nat) (v : BitVec 32) (ds : List (List (BitVec 32))) : Statement (.txtailWrite r v ds) := fun _ e => by cases e
theorem netRingLenWrite (tx : Bool) (r : Nat) (v : BitVec 32) : Statement (.netRingLenWrite tx r v) := fun _ e => by cases e
theorem spRingLenWrite (p : Nat) (ply : Bool) (v : Word) : Statement (.spRingLenWrite p ply v) := fun _ e => by cases e
theorem cmdRingLenWrite (k : Nat) (v : Word) : Statement (.cmdRingLenWrite k v) := fun _ e => by cases e
theorem spRingPointerWrite (p : Nat) (ply : Bool) (v : Word) : Statement (.spRingPointerWrite p ply v) := fun _ e => by cases e
theorem spMaskWrite (p : Nat) (out late : Bool) (v : Word) : Statement (.spMaskWrite p out late v) := fun _ e => by cases e
theorem spInEnWrite (p : Nat) (en : Bool) : Statement (.spInEnWrite p en) := fun _ e => by cases e
theorem spOutEnWrite (p : Nat) (en : Bool) : Statement (.spOutEnWrite p en) := fun _ e => by cases e
theorem spCapEnWrite (p : Nat) (en : Bool) : Statement (.spCapEnWrite p en) := fun _ e => by cases e
theorem spPlyEnWrite (p : Nat) (en : Bool) : Statement (.spPlyEnWrite p en) := fun _ e => by cases e
theorem cgCfgWrite (g : Nat) (v : Word) : Statement (.cgCfgWrite g v) := fun _ e => by cases e
theorem dlCkEnWrite (c : Nat) (v : Word) : Statement (.dlCkEnWrite c v) := fun _ e => by cases e
theorem dlLaneEnWrite (l : Nat) (v : Word) : Statement (.dlLaneEnWrite l v) := fun _ e => by cases e
theorem triggerEnWrite (i : Nat) (v : Word) : Statement (.triggerEnWrite i v) := fun _ e => by cases e
theorem captureEnWrite (c : Nat) (v : Word) : Statement (.captureEnWrite c v) := fun _ e => by cases e
theorem gpioClaimWrite (v : Word) : Statement (.gpioClaimWrite v) := fun _ e => by cases e
theorem mclkEnWrite (v : Word) : Statement (.mclkEnWrite v) := fun _ e => by cases e
theorem ddrEnWrite (v : Word) : Statement (.ddrEnWrite v) := fun _ e => by cases e
theorem ringsEnWrite (en : Bool) : Statement (.ringsEnWrite en) := fun _ e => by cases e
theorem candidateCfgWrite (k : Nat) (v : Word) : Statement (.candidateCfgWrite k v) := fun _ e => by cases e
theorem forceWrite (v : Word) : Statement (.forceWrite v) := fun _ e => by cases e
theorem logRateWrite (c : Nat) (v : Word) : Statement (.logRateWrite c v) := fun _ e => by cases e
theorem preemptEnWrite (p : Nat) (v : BitVec 32) : Statement (.preemptEnWrite p v) := fun _ e => by cases e
theorem shotBoundary (bad : List StageBad) : Statement (.shotBoundary bad) := fun _ e => by cases e
theorem ledgerAuditNoTick : Statement (.ledgerAuditNoTick) := fun _ e => by cases e
theorem matrixPassEnd (cyc : Nat) (taps gains : List (Nat × SramErr)) : Statement (.matrixPassEnd cyc taps gains) := fun _ e => by cases e
theorem stagingEntryLand (le : Nat) (meet : EntryMeet) : Statement (.stagingEntryLand le meet) := fun _ e => by cases e
theorem dispatchAccept (e wait hold : Nat) : Statement (.dispatchAccept e wait hold) := fun _ e => by cases e
theorem contextLoadDone (e : Nat) : Statement (.contextLoadDone e) := fun _ e => by cases e
theorem contextSaveDone (e : Nat) : Statement (.contextSaveDone e) := fun _ e => by cases e
theorem budget (e : Nat) : Statement (.budget e) := fun _ e => by cases e
theorem insNop (e : Nat) (ecc : EccHit) : Statement (.insNop e ecc) := fun _ e => by cases e
theorem insMpy (e : Nat) (ecc : EccHit) : Statement (.insMpy e ecc) := fun _ e => by cases e
theorem insMac (e : Nat) (ecc : EccHit) : Statement (.insMac e ecc) := fun _ e => by cases e
theorem insMns (e : Nat) (ecc : EccHit) : Statement (.insMns e ecc) := fun _ e => by cases e
theorem insMacn (e : Nat) (ecc : EccHit) : Statement (.insMacn e ecc) := fun _ e => by cases e
theorem insAclr (e : Nat) (ecc : EccHit) : Statement (.insAclr e ecc) := fun _ e => by cases e
theorem insAld (e : Nat) (ecc : EccHit) : Statement (.insAld e ecc) := fun _ e => by cases e
theorem insAldw (e : Nat) (ecc : EccHit) : Statement (.insAldw e ecc) := fun _ e => by cases e
theorem insAadd (e : Nat) (ecc : EccHit) : Statement (.insAadd e ecc) := fun _ e => by cases e
theorem insAsub (e : Nat) (ecc : EccHit) : Statement (.insAsub e ecc) := fun _ e => by cases e
theorem insAsh (e : Nat) (ecc : EccHit) : Statement (.insAsh e ecc) := fun _ e => by cases e
theorem insRnd (e : Nat) (ecc : EccHit) : Statement (.insRnd e ecc) := fun _ e => by cases e
theorem insTrn (e : Nat) (ecc : EccHit) : Statement (.insTrn e ecc) := fun _ e => by cases e
theorem insAmv (e : Nat) (ecc : EccHit) : Statement (.insAmv e ecc) := fun _ e => by cases e
theorem insAdd (e : Nat) (ecc : EccHit) : Statement (.insAdd e ecc) := fun _ e => by cases e
theorem insAdds (e : Nat) (ecc : EccHit) : Statement (.insAdds e ecc) := fun _ e => by cases e
theorem insSub (e : Nat) (ecc : EccHit) : Statement (.insSub e ecc) := fun _ e => by cases e
theorem insSubs (e : Nat) (ecc : EccHit) : Statement (.insSubs e ecc) := fun _ e => by cases e
theorem insAnd (e : Nat) (ecc : EccHit) : Statement (.insAnd e ecc) := fun _ e => by cases e
theorem insOr (e : Nat) (ecc : EccHit) : Statement (.insOr e ecc) := fun _ e => by cases e
theorem insXor (e : Nat) (ecc : EccHit) : Statement (.insXor e ecc) := fun _ e => by cases e
theorem insShl (e : Nat) (ecc : EccHit) : Statement (.insShl e ecc) := fun _ e => by cases e
theorem insShls (e : Nat) (ecc : EccHit) : Statement (.insShls e ecc) := fun _ e => by cases e
theorem insShr (e : Nat) (ecc : EccHit) : Statement (.insShr e ecc) := fun _ e => by cases e
theorem insAsr (e : Nat) (ecc : EccHit) : Statement (.insAsr e ecc) := fun _ e => by cases e
theorem insAbs (e : Nat) (ecc : EccHit) : Statement (.insAbs e ecc) := fun _ e => by cases e
theorem insNeg (e : Nat) (ecc : EccHit) : Statement (.insNeg e ecc) := fun _ e => by cases e
theorem insMin (e : Nat) (ecc : EccHit) : Statement (.insMin e ecc) := fun _ e => by cases e
theorem insMax (e : Nat) (ecc : EccHit) : Statement (.insMax e ecc) := fun _ e => by cases e
theorem insClz (e : Nat) (ecc : EccHit) : Statement (.insClz e ecc) := fun _ e => by cases e
theorem insCmp (e : Nat) (ecc : EccHit) : Statement (.insCmp e ecc) := fun _ e => by cases e
theorem insMov (e : Nat) (ecc : EccHit) : Statement (.insMov e ecc) := fun _ e => by cases e
theorem insAddi (e : Nat) (ecc : EccHit) : Statement (.insAddi e ecc) := fun _ e => by cases e
theorem insAddis (e : Nat) (ecc : EccHit) : Statement (.insAddis e ecc) := fun _ e => by cases e
theorem insAndi (e : Nat) (ecc : EccHit) : Statement (.insAndi e ecc) := fun _ e => by cases e
theorem insOri (e : Nat) (ecc : EccHit) : Statement (.insOri e ecc) := fun _ e => by cases e
theorem insXori (e : Nat) (ecc : EccHit) : Statement (.insXori e ecc) := fun _ e => by cases e
theorem insCmpi (e : Nat) (ecc : EccHit) : Statement (.insCmpi e ecc) := fun _ e => by cases e
theorem insSel (e : Nat) (ecc : EccHit) : Statement (.insSel e ecc) := fun _ e => by cases e
theorem insLog2 (e : Nat) (ecc : EccHit) : Statement (.insLog2 e ecc) := fun _ e => by cases e
theorem insExp2 (e : Nat) (ecc : EccHit) : Statement (.insExp2 e ecc) := fun _ e => by cases e
theorem insDivs (e : Nat) (ecc : EccHit) : Statement (.insDivs e ecc) := fun _ e => by cases e
theorem insTli (e : Nat) (ecc : EccHit) : Statement (.insTli e ecc) := fun _ e => by cases e
theorem insMova (e : Nat) (ecc : EccHit) : Statement (.insMova e ecc) := fun _ e => by cases e
theorem insAdda (e : Nat) (ecc : EccHit) : Statement (.insAdda e ecc) := fun _ e => by cases e
theorem insMvda (e : Nat) (ecc : EccHit) : Statement (.insMvda e ecc) := fun _ e => by cases e
theorem insMvad (e : Nat) (ecc : EccHit) : Statement (.insMvad e ecc) := fun _ e => by cases e
theorem insRdpc (e : Nat) (ecc : EccHit) : Statement (.insRdpc e ecc) := fun _ e => by cases e
theorem insLdi (e : Nat) (ecc : EccHit) : Statement (.insLdi e ecc) := fun _ e => by cases e
theorem insBra (e : Nat) (ecc : EccHit) : Statement (.insBra e ecc) := fun _ e => by cases e
theorem insBall (e : Nat) (ecc : EccHit) : Statement (.insBall e ecc) := fun _ e => by cases e
theorem insBany (e : Nat) (ecc : EccHit) : Statement (.insBany e ecc) := fun _ e => by cases e
theorem insCall (e : Nat) (ecc : EccHit) : Statement (.insCall e ecc) := fun _ e => by cases e
theorem insRet (e : Nat) (ecc : EccHit) : Statement (.insRet e ecc) := fun _ e => by cases e
theorem insLoop (e : Nat) (ecc : EccHit) : Statement (.insLoop e ecc) := fun _ e => by cases e
theorem insLoopu (e : Nat) (ecc : EccHit) : Statement (.insLoopu e ecc) := fun _ e => by cases e
theorem insYield (e : Nat) (ecc : EccHit) : Statement (.insYield e ecc) := fun _ e => by cases e
theorem insEnd (e : Nat) (ecc : EccHit) : Statement (.insEnd e ecc) := fun _ e => by cases e
theorem storeBufferDrain (e : Nat) (isY : Bool) : Statement (.storeBufferDrain e isY) := fun _ e => by cases e
theorem tagInstruction (e task pc total stall cause : Nat) (disc exc : Bool) : Statement (.tagInstruction e task pc total stall cause disc exc) := fun _ e => by cases e
theorem lockBoundary : Statement (.lockBoundary) := fun _ e => by cases e
theorem takeCommit : Statement (.takeCommit) := fun _ e => by cases e
theorem engineSlateCopyDone (e : CopyDone) : Statement (.engineSlateCopyDone e) := fun _ e => by cases e
theorem matrixTakeApply : Statement (.matrixTakeApply) := fun _ e => by cases e
theorem busEngineCommit : Statement (.busEngineCommit) := fun _ e => by cases e
theorem heldCommandsRelease : Statement (.heldCommandsRelease) := fun _ e => by cases e
theorem dissolveEnd : Statement (.dissolveEnd) := fun _ e => by cases e
theorem recastLoadDone (e : CopyDone) : Statement (.recastLoadDone e) := fun _ e => by cases e
theorem cutRecastCopyDone (le : CopyDone) : Statement (.cutRecastCopyDone le) := fun _ e => by cases e
theorem cutRecastSwap (le : Nat) : Statement (.cutRecastSwap le) := fun _ e => by cases e
theorem spareBist (e failmem : Nat) : Statement (.spareBist e failmem) := fun _ e => by cases e
theorem serialFrame (g bclks : Nat) (data : List PortSlots) (slips : List Slip) : Statement (.serialFrame g bclks data slips) := fun _ e => by cases e
theorem portBlock (p : Nat) (recs : List PlyRec) : Statement (.portBlock p recs) := fun _ e => by cases e
theorem spLost (g : Nat) (silent : Bool) : Statement (.spLost g silent) := fun _ e => by cases e
theorem spReturn (g : Nat) : Statement (.spReturn g) := fun _ e => by cases e
theorem cgRateUpdate (g freq : Nat) : Statement (.cgRateUpdate g freq) := fun _ e => by cases e
theorem asrcLock (kind i : Nat) (lock : Bool) : Statement (.asrcLock kind i lock) := fun _ e => by cases e
theorem portStartAct (p phi : Nat) (recs : List PlyRec) : Statement (.portStartAct p phi recs) := fun _ e => by cases e
theorem portStopAct (p : Nat) : Statement (.portStopAct p) := fun _ e => by cases e
theorem streamStartAct (c : Nat) : Statement (.streamStartAct c) := fun _ e => by cases e
theorem streamStopAct (c : Nat) : Statement (.streamStopAct c) := fun _ e => by cases e
theorem laneStartAct (l : Nat) : Statement (.laneStartAct l) := fun _ e => by cases e
theorem laneStopAct (l : Nat) : Statement (.laneStopAct l) := fun _ e => by cases e
theorem mpFrameReceived (p : Nat) (l : List (BitVec 8)) (frag : Bool) : Statement (.mpFrameReceived p l frag) := fun _ e => by cases e
theorem mgmtFrameReceived (l : List (BitVec 8)) : Statement (.mgmtFrameReceived l) := fun _ e => by cases e
theorem frameTransmitDone (p : Nat) (preempted : Bool) : Statement (.frameTransmitDone p preempted) := fun _ e => by cases e
theorem tcDrop (p : Nat) : Statement (.tcDrop p) := fun _ e => by cases e
theorem linkUp (p : Nat) : Statement (.linkUp p) := fun _ e => by cases e
theorem linkDown (p : Nat) : Statement (.linkDown p) := fun _ e => by cases e
theorem pauseReceived (p q : Nat) : Statement (.pauseReceived p q) := fun _ e => by cases e
theorem pauseExpiry (p : Nat) : Statement (.pauseExpiry p) := fun _ e => by cases e
theorem pauseBroken (p : Nat) : Statement (.pauseBroken p) := fun _ e => by cases e
theorem preemptVerify (p : Nat) (ok : Bool) : Statement (.preemptVerify p ok) := fun _ e => by cases e
theorem bridgeAgeOut (mac : Nat) : Statement (.bridgeAgeOut mac) := fun _ e => by cases e
theorem streamPacketAccept (c pos : Nat) : Statement (.streamPacketAccept c pos) := fun _ e => by cases e
theorem streamBlockWrite (c : Nat) : Statement (.streamBlockWrite c) := fun _ e => by cases e
theorem streamLost (c : Nat) : Statement (.streamLost c) := fun _ e => by cases e
theorem streamPacketSend (c : Nat) : Statement (.streamPacketSend c) := fun _ e => by cases e
theorem txLate (p : Nat) : Statement (.txLate p) := fun _ e => by cases e
theorem dlLost (l pos : Nat) : Statement (.dlLost l pos) := fun _ e => by cases e
theorem dlReturn (l pos : Nat) : Statement (.dlReturn l pos) := fun _ e => by cases e
theorem dlSettled (l : Nat) : Statement (.dlSettled l) := fun _ e => by cases e
theorem meterSetApply : Statement (.meterSetApply) := fun _ e => by cases e
theorem meterFrameStart : Statement (.meterFrameStart) := fun _ e => by cases e
theorem meterFrameComplete : Statement (.meterFrameComplete) := fun _ e => by cases e
theorem steerUpdate (phase : Int) : Statement (.steerUpdate phase) := fun _ e => by cases e
theorem freqMonitorUpdate (k : Nat) (ppm : Int) (adv : Nat) : Statement (.freqMonitorUpdate k ppm adv) := fun _ e => by cases e
theorem candidateQualified (k : Nat) : Statement (.candidateQualified k) := fun _ e => by cases e
theorem activityEnd (k : Nat) : Statement (.activityEnd k) := fun _ e => by cases e
theorem wtrExpiry : Statement (.wtrExpiry) := fun _ e => by cases e
theorem buildoutEnd (b : Int) : Statement (.buildoutEnd b) := fun _ e => by cases e
theorem loopStep : Statement (.loopStep) := fun _ e => by cases e
theorem clkUnlock : Statement (.clkUnlock) := fun _ e => by cases e
theorem alignComplete : Statement (.alignComplete) := fun _ e => by cases e
theorem historyEntry : Statement (.historyEntry) := fun _ e => by cases e
theorem holdoverSteerEval : Statement (.holdoverSteerEval) := fun _ e => by cases e
theorem clkLost : Statement (.clkLost) := fun _ e => by cases e
theorem tempMeasure (u : Int) : Statement (.tempMeasure u) := fun _ e => by cases e
theorem syncReceived (twoStep : Bool) (t1 corr : Int) : Statement (.syncReceived twoStep t1 corr) := fun _ e => by cases e
theorem followUpReceived (t1 corr : Int) : Statement (.followUpReceived t1 corr) := fun _ e => by cases e
theorem delayRespReceived (t4 cdreq : Int) : Statement (.delayRespReceived t4 cdreq) := fun _ e => by cases e
theorem announceReceived (parent gm cls acc var_ : Nat) (utcValid : Bool) (utc st : Nat) : Statement (.announceReceived parent gm cls acc var_ utcValid utc st) := fun _ e => by cases e
theorem ptpLoss (cause st : Nat) : Statement (.ptpLoss cause st) := fun _ e => by cases e
theorem ptpMessageSend (kind : Nat) : Statement (.ptpMessageSend kind) := fun _ e => by cases e
theorem clapperTriggerFire (i : Nat) : Statement (.clapperTriggerFire i) := fun _ e => by cases e
theorem captureEdge (c : Nat) (fall : Bool) : Statement (.captureEdge c fall) := fun _ e => by cases e
theorem xbarRequest (m : Nat) (t : XbarPath) (beats kind : Nat) (at_ : BurstData) (hits : List BankHit) (col : Option DualAccess) (bad : Option SramErr) : Statement (.xbarRequest m t beats kind at_ hits col bad) := fun _ e => by cases e
theorem burstComplete (t lat : Nat) : Statement (.burstComplete t lat) := fun _ e => by cases e
theorem masterReset (x : XbarReset) : Statement (.masterReset x) := fun _ e => by cases e
theorem scrub (x : SramErr) (kind : Nat) : Statement (.scrub x kind) := fun _ e => by cases e
theorem ddrTrainingDone (ok : Bool) : Statement (.ddrTrainingDone ok) := fun _ e => by cases e
theorem ddrRetrain : Statement (.ddrRetrain) := fun _ e => by cases e
theorem mramReplaceDone : Statement (.mramReplaceDone) := fun _ e => by cases e
theorem faultMessage (src kind addr : Nat) : Statement (.faultMessage src kind addr) := fun _ e => by cases e
theorem logRecordWrite : Statement (.logRecordWrite) := fun _ e => by cases e
theorem logTokenGain (c : Nat) : Statement (.logTokenGain c) := fun _ e => by cases e
theorem stiLinkUp : Statement (.stiLinkUp) := fun _ e => by cases e
theorem stiLinkDown : Statement (.stiLinkDown) := fun _ e => by cases e
theorem renewSend : Statement (.renewSend) := fun _ e => by cases e
theorem renewReceived (n lease : Nat) : Statement (.renewReceived n lease) := fun _ e => by cases e
theorem ackReceived (n : Nat) : Statement (.ackReceived n) := fun _ e => by cases e
theorem fence : Statement (.fence) := fun _ e => by cases e
theorem leaseInRise : Statement (.leaseInRise) := fun _ e => by cases e
theorem leaseInFall (late : Bool) : Statement (.leaseInFall late) := fun _ e => by cases e
theorem tokenTake (late : Bool) : Statement (.tokenTake late) := fun _ e => by cases e
theorem releaseReceived (late : Bool) : Statement (.releaseReceived late) := fun _ e => by cases e
theorem reclaim : Statement (.reclaim) := fun _ e => by cases e
theorem mirrorPacketApply (x : MirrorItem) : Statement (.mirrorPacketApply x) := fun _ e => by cases e
theorem wholeStateTransferDone (x : WholeState) : Statement (.wholeStateTransferDone x) := fun _ e => by cases e
theorem standinTickStart (count : Nat) : Statement (.standinTickStart count) := fun _ e => by cases e
theorem wakeStep : Statement (.wakeStep) := fun _ e => by cases e
theorem standinAwake : Statement (.standinAwake) := fun _ e => by cases e
theorem takeoverStart (phis : List Nat) : Statement (.takeoverStart phis) := fun _ e => by cases e
theorem takeoverRelease : Statement (.takeoverRelease) := fun _ e => by cases e
theorem rlLinkUp (k delay : Nat) : Statement (.rlLinkUp k delay) := fun _ e => by cases e
theorem rlLink (k : Nat) : Statement (.rlLink k) := fun _ e => by cases e
theorem rlBlockReceived (k : Nat) (x : RlItem) (ok : Bool) : Statement (.rlBlockReceived k x ok) := fun _ e => by cases e
theorem ringListReceived (ids : List Nat) (sec ns : Nat) : Statement (.ringListReceived ids sec ns) := fun _ e => by cases e
theorem ringTakeMessage (ws : RingTake) : Statement (.ringTakeMessage ws) := fun _ e => by cases e
theorem voteReceived (id status : Nat) : Statement (.voteReceived id status) := fun _ e => by cases e
theorem voteTimeout : Statement (.voteTimeout) := fun _ e => by cases e
theorem ringCommitReceived (commit : Bool) : Statement (.ringCommitReceived commit) := fun _ e => by cases e
theorem followerAcquire (count : Nat) : Statement (.followerAcquire count) := fun _ e => by cases e
theorem modeTransition : Statement (.modeTransition) := fun _ e => by cases e
theorem por : Statement (.por) := fun _ e => by cases e
theorem resetNAssert : Statement (.resetNAssert) := fun _ e => by cases e
theorem clkloss : Statement (.clkloss) := fun _ e => by cases e
theorem thermalTrip : Statement (.thermalTrip) := fun _ e => by cases e
theorem thermalRelease : Statement (.thermalRelease) := fun _ e => by cases e
theorem resetRelease (chip strap banks : Nat) : Statement (.resetRelease chip strap banks) := fun _ e => by cases e
theorem bootStageDone (x : BootStage) : Statement (.bootStageDone x) := fun _ e => by cases e
theorem gafferWatchdog : Statement (.gafferWatchdog) := fun _ e => by cases e
theorem presencePress : Statement (.presencePress) := fun _ e => by cases e
theorem presenceWindowClose : Statement (.presenceWindowClose) := fun _ e => by cases e
theorem lifetimeRecord : Statement (.lifetimeRecord) := fun _ e => by cases e
theorem pcieLinkDown : Statement (.pcieLinkDown) := fun _ e => by cases e
theorem pcieLinkUp : Statement (.pcieLinkUp) := fun _ e => by cases e
theorem candidateActivity (k adv : Nat) : Statement (.candidateActivity k adv) := fun _ e => by cases e
theorem triggerPulseEnd (i : Nat) : Statement (.triggerPulseEnd i) := fun _ e => by cases e
theorem gafferResume : Statement (.gafferResume) := fun _ e => by cases e

end Sys2Proof.Laws.Opcode
end

