-- ==== Sys2Proof/WellFormed.lean ====
section
/-! DEFINITION. Which operands a command may carry: unit numbers within the ranges the spec gives. A command with an operand out
of range names no unit of the block; its meaning changes nothing. -/

namespace Sys2Proof

/-- A command header names a transport and fits its fields (R628). -/
def CmdHdr.ok (h : CmdHdr) : Bool := decide (h.tr < 3) && decide (h.hseq < 2 ^ 32) && decide (h.tag < 2 ^ 16)

/-- A command is well formed: every unit it names exists and every field fits. -/
def Instr.WellFormed : Instr → Bool
  | .ping h p => h.ok && decide (p.length ≤ 1024)
  | .resync h p => h.ok && decide (p.length ≤ 1024)
  | .configure h p => h.ok && decide (p.length ≤ 1024)
  | .modeSet h p => h.ok && decide (p.length ≤ 1024)
  | .memRead h p bad => h.ok && bad.all (fun b => decide (b.err.inst < 1024) && decide (b.err.row < 65536)) && decide (p.length ≤ 1024)
  | .memWrite h p => h.ok && decide (p.length ≤ 1024)
  | .notifySub h p => h.ok && decide (p.length ≤ 1024)
  | .memClaim h p => h.ok && decide (p.length ≤ 1024)
  | .slateRevert h p => h.ok && decide (p.length ≤ 1024)
  | .taskWrite h p => h.ok && decide (p.length ≤ 1024)
  | .taskDrop h p => h.ok && decide (p.length ≤ 1024)
  | .taskRearm h p => h.ok && decide (p.length ≤ 1024)
  | .aimgWrite h p => h.ok && decide (p.length ≤ 1024)
  | .xferWrite h p => h.ok && decide (p.length ≤ 1024)
  | .lineSet h p => h.ok && decide (p.length ≤ 1024)
  | .sliceInit h p => h.ok && decide (p.length ≤ 1024)
  | .codeLoad h p => h.ok && decide (p.length ≤ 1024)
  | .coefWrite h p => h.ok && decide (p.length ≤ 1024)
  | .sceneWrite h p => h.ok && decide (p.length ≤ 1024)
  | .sceneLoad h p => h.ok && decide (p.length ≤ 1024)
  | .take h p => h.ok && decide (p.length ≤ 1024)
  | .takeCancel h p => h.ok && decide (p.length ≤ 1024)
  | .recast h p => h.ok && decide (p.length ≤ 1024)
  | .xpSet h p => h.ok && decide (p.length ≤ 1024)
  | .xpRow h p => h.ok && decide (p.length ≤ 1024)
  | .patchSet h p => h.ok && decide (p.length ≤ 1024)
  | .portCfg h p => h.ok && decide (p.length ≤ 1024)
  | .portStart h p => h.ok && decide (p.length ≤ 1024)
  | .portStop h p => h.ok && decide (p.length ≤ 1024)
  | .cgCfg h p => h.ok && decide (p.length ≤ 1024)
  | .dlLane h p => h.ok && decide (p.length ≤ 1024)
  | .meterSet h p => h.ok && decide (p.length ≤ 1024)
  | .streamCfg h p => h.ok && decide (p.length ≤ 1024)
  | .streamStart h p => h.ok && decide (p.length ≤ 1024)
  | .streamStop h p => h.ok && decide (p.length ≤ 1024)
  | .timeSet h p => h.ok && decide (p.length ≤ 1024)
  | .clapTrig h p => h.ok && decide (p.length ≤ 1024)
  | .faultCfg h p => h.ok && decide (p.length ≤ 1024)
  | .logRead h p => h.ok && decide (p.length ≤ 1024)
  | .logErasePerm h p => h.ok && decide (p.length ≤ 1024)
  | .handover h p => h.ok && decide (p.length ≤ 1024)
  | .claim h p => h.ok && decide (p.length ≤ 1024)
  | .leave h p => h.ok && decide (p.length ≤ 1024)
  | .join h p => h.ok && decide (p.length ≤ 1024)
  | .ringCfgSize h p => h.ok && decide (p.length ≤ 1024)
  | .ringCfgBusMap h p => h.ok && decide (p.length ≤ 1024)
  | .ringCfgFwdRl0Rl1 h p => h.ok && decide (p.length ≤ 1024)
  | .ringCfgFwdRl1Rl0 h p => h.ok && decide (p.length ≤ 1024)
  | .fwUpdate h p => h.ok && decide (p.length ≤ 1024)
  | .provision h p => h.ok && decide (p.length ≤ 1024)
  | .sealDevice h p => h.ok && decide (p.length ≤ 1024)
  | .retire h p => h.ok && decide (p.length ≤ 1024)
  | .restore h p => h.ok && decide (p.length ≤ 1024)
  | .sramrow h p => h.ok && decide (p.length ≤ 1024)
  | .opDone => true
  | .commandDescriptor d _ => decide (d.length = 4)
  | .mgmtDatagram _ _ _ => true
  | .writePacket _ => true
  | .readMessage _ => true
  | .readMemory a _ _ => decide (a < 2 ^ 40)
  | .writeMemory a _ => decide (a < 2 ^ 40)
  | .shotCounterRead => true
  | .takeShotRead => true
  | .spTsRead p => decide (p < 64)
  | .ptpTimeRead _ => true
  | .opsecRead => true
  | .mramWearRead => true
  | .netCounterLoRead p k => decide (p < 5) && decide (k < 4)
  | .tagRecordRead e => decide (e < 18)
  | .rcFieldRead a n => decide (a < 0x100000) && decide (a % 4 + n ≤ 4)
  | .captureFifoRead c => decide (c < 16)
  | .hbufAlloc => true
  | .hbufFree _ => true
  | .registerWrite a _ _ => decide (a < 0x100000)
  | .unmappedRead a x => decide (a < x.bar.size) && decide (a % 4 + x.n ≤ 4)
  | .hostMemoryWrite bar a _ => decide (bar ≠ .bar0 ∨ 0x100000 ≤ a) && decide (a < bar.size) && decide (bar ≠ .config)
  | .programMemoryWrite e off l => decide (e < 18) && decide (off + l.length ≤ 0x20000)
  | .laneSliceWrite e isY off l => decide (e < 18) && decide (off + l.length ≤ (if isY then 0x20000 else 0x40000))
  | .slateViewWrite e off l => decide (e < 18) && decide (off + l.length ≤ 0x10000)
  | .heldSlateWriteLand e => decide (e < 18)
  | .firstFaultClear => true
  | .faultInject src kind => decide (src < 256) && decide (kind < 16)
  | .engStep e => decide (e < 18)
  | .engHalt e _ => decide (e < 18)
  | .debugDataWrite e _ => decide (e < 18)
  | .waitStatsClear => true
  | .reserveWrite r => decide (r < 64)
  | .zskipWrite _ => true
  | .snap => true
  | .freeze _ => true
  | .tagSeedWrite _ => true
  | .counterWrite glb e j _ => decide (e < 18) && decide (j < (if glb then 32 else 8))
  | .softReset _ => true
  | .txRingReset r => decide (r < 8)
  | .rxRingReset r => decide (r < 8)
  | .rxtailWrite r _ => decide (r < 8)
  | .txtailWrite r _ ds => decide (r < 8) && ds.all (fun d => decide (d.length = 4))
  | .netRingLenWrite _ r _ => decide (r < 8)
  | .spRingLenWrite p _ _ => decide (p < 64)
  | .cmdRingLenWrite k _ => decide (k < 3)
  | .spRingPointerWrite p _ _ => decide (p < 64)
  | .spMaskWrite p _ _ _ => decide (p < 64)
  | .spInEnWrite p _ => decide (p < 64)
  | .spOutEnWrite p _ => decide (p < 64)
  | .spCapEnWrite p _ => decide (p < 64)
  | .spPlyEnWrite p _ => decide (p < 64)
  | .cgCfgWrite g _ => decide (g < 16)
  | .dlCkEnWrite c _ => decide (c < 4)
  | .dlLaneEnWrite l _ => decide (l < 32)
  | .triggerEnWrite i _ => decide (i < 32)
  | .captureEnWrite c _ => decide (c < 16)
  | .gpioClaimWrite _ => true
  | .mclkEnWrite _ => true
  | .ddrEnWrite _ => true
  | .ringsEnWrite _ => true
  | .candidateCfgWrite k _ => decide (k < 12)
  | .forceWrite _ => true
  | .logRateWrite c _ => decide (c < 256)
  | .preemptEnWrite p _ => decide (p < 5)
  | .shotBoundary bad => bad.all (fun b => decide (b.ch < 65536) && decide (b.err.inst < 1024) && decide (b.err.row < 65536))
  | .ledgerAuditNoTick => true
  | .matrixPassEnd cyc _ _ => decide (cyc < 2 ^ 20)
  | .stagingEntryLand le x => decide (le < 16) && decide (x.lat ≤ 88)
  | .dispatchAccept e _ _ => decide (e < 18)
  | .contextLoadDone e => decide (e < 18)
  | .contextSaveDone e => decide (e < 18)
  | .budget e => decide (e < 18)
  | .insNop e _ => decide (e < 18)
  | .insMpy e _ => decide (e < 18)
  | .insMac e _ => decide (e < 18)
  | .insMns e _ => decide (e < 18)
  | .insMacn e _ => decide (e < 18)
  | .insAclr e _ => decide (e < 18)
  | .insAld e _ => decide (e < 18)
  | .insAldw e _ => decide (e < 18)
  | .insAadd e _ => decide (e < 18)
  | .insAsub e _ => decide (e < 18)
  | .insAsh e _ => decide (e < 18)
  | .insRnd e _ => decide (e < 18)
  | .insTrn e _ => decide (e < 18)
  | .insAmv e _ => decide (e < 18)
  | .insAdd e _ => decide (e < 18)
  | .insAdds e _ => decide (e < 18)
  | .insSub e _ => decide (e < 18)
  | .insSubs e _ => decide (e < 18)
  | .insAnd e _ => decide (e < 18)
  | .insOr e _ => decide (e < 18)
  | .insXor e _ => decide (e < 18)
  | .insShl e _ => decide (e < 18)
  | .insShls e _ => decide (e < 18)
  | .insShr e _ => decide (e < 18)
  | .insAsr e _ => decide (e < 18)
  | .insAbs e _ => decide (e < 18)
  | .insNeg e _ => decide (e < 18)
  | .insMin e _ => decide (e < 18)
  | .insMax e _ => decide (e < 18)
  | .insClz e _ => decide (e < 18)
  | .insCmp e _ => decide (e < 18)
  | .insMov e _ => decide (e < 18)
  | .insAddi e _ => decide (e < 18)
  | .insAddis e _ => decide (e < 18)
  | .insAndi e _ => decide (e < 18)
  | .insOri e _ => decide (e < 18)
  | .insXori e _ => decide (e < 18)
  | .insCmpi e _ => decide (e < 18)
  | .insSel e _ => decide (e < 18)
  | .insLog2 e _ => decide (e < 18)
  | .insExp2 e _ => decide (e < 18)
  | .insDivs e _ => decide (e < 18)
  | .insTli e _ => decide (e < 18)
  | .insMova e _ => decide (e < 18)
  | .insAdda e _ => decide (e < 18)
  | .insMvda e _ => decide (e < 18)
  | .insMvad e _ => decide (e < 18)
  | .insRdpc e _ => decide (e < 18)
  | .insLdi e _ => decide (e < 18)
  | .insBra e _ => decide (e < 18)
  | .insBall e _ => decide (e < 18)
  | .insBany e _ => decide (e < 18)
  | .insCall e _ => decide (e < 18)
  | .insRet e _ => decide (e < 18)
  | .insLoop e _ => decide (e < 18)
  | .insLoopu e _ => decide (e < 18)
  | .insYield e _ => decide (e < 18)
  | .insEnd e _ => decide (e < 18)
  | .storeBufferDrain e _ => decide (e < 18)
  | .tagInstruction e _ _ _ _ _ _ _ => decide (e < 18)
  | .lockBoundary => true
  | .takeCommit => true
  | .engineSlateCopyDone e => decide (e.e < 18)
  | .matrixTakeApply => true
  | .busEngineCommit => true
  | .heldCommandsRelease => true
  | .dissolveEnd => true
  | .recastLoadDone e => decide (e.e < 18)
  | .cutRecastCopyDone le => decide (le.e < 16)
  | .cutRecastSwap le => decide (le < 16)
  | .spareBist e failmem => decide (e < 18) && decide (failmem < 5)
  | .serialFrame g _ data slips => decide (g < 16) && data.all (fun x => decide (x.port < 64)) && slips.all (fun x => decide (x.port < 64))
  | .portBlock p _ => decide (p < 64)
  | .spLost g _ => decide (g < 16)
  | .spReturn g => decide (g < 16)
  | .cgRateUpdate g freq => decide (g < 16) && decide (freq < 2 ^ 24)
  | .asrcLock kind i _ => decide (kind < 3) && decide (i < 1024)
  | .portStartAct p phi _ => decide (p < 64) && decide (phi < 65)
  | .portStopAct p => decide (p < 64)
  | .streamStartAct c => decide (c < 1024)
  | .streamStopAct c => decide (c < 1024)
  | .laneStartAct l => decide (l < 32)
  | .laneStopAct l => decide (l < 32)
  | .mpFrameReceived p _ _ => decide (p < 4)
  | .mgmtFrameReceived _ => true
  | .frameTransmitDone p _ => decide (p < 4)
  | .tcDrop p => decide (p < 4)
  | .linkUp p => decide (p < 4)
  | .linkDown p => decide (p < 4)
  | .pauseReceived p q => decide (p < 5) && decide (q < 65536)
  | .pauseExpiry p => decide (p < 5)
  | .pauseBroken p => decide (p < 4)
  | .preemptVerify p _ => decide (p < 4)
  | .bridgeAgeOut mac => decide (mac < 2 ^ 48)
  | .streamPacketAccept c pos => decide (c < 1024) && decide (pos < 32)
  | .streamBlockWrite c => decide (c < 1024)
  | .streamLost c => decide (c < 1024)
  | .streamPacketSend c => decide (c < 1024)
  | .txLate p => decide (p < 4)
  | .dlLost l pos => decide (l < 32) && decide (pos < 4096)
  | .dlReturn l pos => decide (l < 32) && decide (pos < 4096)
  | .dlSettled l => decide (l < 32)
  | .meterSetApply => true
  | .meterFrameStart => true
  | .meterFrameComplete => true
  | .steerUpdate _ => true
  | .freqMonitorUpdate k _ adv => decide (k < 12) && decide (adv < 256)
  | .candidateQualified k => decide (k < 12)
  | .activityEnd k => decide (k < 12)
  | .wtrExpiry => true
  | .buildoutEnd _ => true
  | .loopStep => true
  | .clkUnlock => true
  | .alignComplete => true
  | .historyEntry => true
  | .holdoverSteerEval => true
  | .clkLost => true
  | .tempMeasure _ => true
  | .syncReceived _ _ _ => true
  | .followUpReceived _ _ => true
  | .delayRespReceived _ _ => true
  | .announceReceived _ gm cls acc var_ _ utc st => decide (gm < 2 ^ 64) && decide (cls < 256) && decide (acc < 256) && decide (var_ < 65536) && decide (utc < 65536) && decide (st < 10)
  | .ptpLoss cause st => decide (cause < 3) && decide (st < 10)
  | .ptpMessageSend kind => decide (kind = 0 ∨ kind = 1 ∨ kind = 11)
  | .clapperTriggerFire i => decide (i < 32)
  | .captureEdge c _ => decide (c < 16)
  | .xbarRequest m t beats kind _ _ _ _ => decide (m < 12) && decide (t.target < 10) && decide (t.into ≤ 10) && decide (1 ≤ beats) && decide (beats ≤ 64) && decide (kind < 4)
  | .burstComplete t _ => decide (t < 10)
  | .masterReset x => decide (x.master < 12)
  | .scrub x kind => decide (x.inst < 1024) && decide (x.row < 65536) && decide (kind < 3)
  | .ddrTrainingDone _ => true
  | .ddrRetrain => true
  | .mramReplaceDone => true
  | .faultMessage src kind addr => decide (src < 256) && decide (kind < 16) && (decide (kind = 0) || decide (src = 0x11)) && decide (addr < 2 ^ 32)
  | .logRecordWrite => true
  | .logTokenGain c => decide (c < 256)
  | .stiLinkUp => true
  | .stiLinkDown => true
  | .renewSend => true
  | .renewReceived n lease => decide (n < 2 ^ 32) && decide (5 ≤ lease) && decide (lease ≤ 200)
  | .ackReceived n => decide (n < 2 ^ 32)
  | .fence => true
  | .leaseInRise => true
  | .leaseInFall _ => true
  | .tokenTake _ => true
  | .releaseReceived _ => true
  | .reclaim => true
  | .mirrorPacketApply _ => true
  | .wholeStateTransferDone x => decide (x.take < 2 ^ 32)
  | .standinTickStart count => decide (count < 2 ^ 64)
  | .wakeStep => true
  | .standinAwake => true
  | .takeoverStart _ => true
  | .takeoverRelease => true
  | .rlLinkUp k delay => decide (k < 2) && decide (delay < 2 ^ 20)
  | .rlLink k => decide (k < 2)
  | .rlBlockReceived k _ _ => decide (k < 2)
  | .ringListReceived ids sec ns => ids.all (fun i => decide (i < 8)) && decide (sec < 2 ^ 48) && decide (ns < 1000000000)
  | .ringTakeMessage ws => decide (ws.ws.length = 5) && decide (ws.sT < 2 ^ 64)
  | .voteReceived id status => decide (id < 8) && decide (status < 12)
  | .voteTimeout => true
  | .ringCommitReceived _ => true
  | .followerAcquire count => decide (count < 2 ^ 64)
  | .modeTransition => true
  | .por => true
  | .resetNAssert => true
  | .clkloss => true
  | .thermalTrip => true
  | .thermalRelease => true
  | .resetRelease chip strap banks => decide (chip < 8) && decide (strap < 4) && decide (banks < 2 ^ 14)
  | .bootStageDone x => x.rows.all (fun r => decide (r.inst < 1024) && decide (r.row < 65536)) && x.engRows.all (fun c => decide (c.1 < 18) && decide (c.2.inst < 1024) && decide (c.2.row < 65536)) && x.bad.all (fun c => decide (c.1 < 18) && decide (c.2 < 5))
  | .gafferWatchdog => true
  | .presencePress => true
  | .presenceWindowClose => true
  | .lifetimeRecord => true
  | .pcieLinkDown => true
  | .pcieLinkUp => true
  | .candidateActivity k adv => decide (k < 12) && decide (adv < 256)
  | .triggerPulseEnd i => decide (i < 32)
  | .gafferResume => true

end Sys2Proof
end

