-- ==== Sys2Proof/Tests/Slice0.lean ====
section
/-! SUPPORT. Tests of the model on small states. -/

namespace Sys2Proof.Tests

open Sys2Proof.Machine

/-- A state in mode `m`, with the SPI transport open and registers written as listed. -/
def put (m : Nat) (l : List (Nat × Nat)) : State :=
  l.foldl (fun s x => s.setReg x.1 (wd x.2)) ((State.reset.setF SYS_MODE.MODE m).setF CMD_CTRL.SPI_EN 1)

/-- A packet header on SPI. -/
def spi : CmdHdr := ⟨2, 5, 7, false⟩

/-- Mode `m` with logical engines 0 to 15 on the physical engines of the same numbers. -/
def mapped (m : Nat) (l : List (Nat × Nat)) : State :=
  (List.range 16).foldl (fun s e => s.setF (ENG_ROLE.LOGICAL e) e) (put m l)

/-- Port 63 on clock group 0, which the chip drives, with one channel each way, in RUN. -/
def portReady : State := put 4 [(0x54000, 0xC8140000), (0x53F00, 0), (0x53F14, 0x0101)]

/-- Lane 31 on Dailies clock 0, which runs. -/
def laneReady : State := put 4 [(0x70000, 0x80000000)]

/-- Engine 17 runs task 0 at instruction 16, the word with opcode `opc` and operand field `o`; some registers of lane 7 are set. -/
def engAt (opc o : Nat) : State :=
  let s := (((put 4 []).setF (ENG_STAT.STATE 17) 1).setWord (engWin 17 + 128) (wd (o * 2 ^ 26))).setWord (engWin 17 + 132)
    (wd (opc * 2 ^ 26 + o / 64))
  onBank 17 (fun b => (((b.setD 7 1 0x7FFFFFFF).setD 7 2 0x12345678).setAcc 7 1 (BitVec.ofInt 80 (-5)) |>.setField 0x11 9) |> fun b =>
    { b with pc := 16, n := 0x80 }) s

/-- The same with a long-format operand field. -/
def engLong (opc o : Nat) : State :=
  ((engAt opc 0).setWord (engWin 17 + 128) (wd o)).setWord (engWin 17 + 132) (wd (opc * 2 ^ 26 + o / 2 ^ 32))

/-- The same with parallel moves `x` and `y`, and cursor U1 at `c`. -/
def engMoves (opc x y c : Nat) : State :=
  onBank 17 (fun b => b.setField (cCUR 1) (BitVec.ofNat 16 c)) ((engAt opc 0).setWord (engWin 17 + 128) (wd (x * 8192 + y)))

/-- Words of a Converted transmit context with one channel. -/
def txWords : List Word := 0x20008000 :: 0 :: 1 :: List.replicate 17 0

/-- Context 1023 with those words. -/
def streamReady : State := onCtx 1023 (fun u => { u with words := txWords }) (put 4 [])

/-! ### Ill-formed commands are refused -/

/-- A packet header with an unknown transport, or a number that does not fit its field, for every packet row; a payload of 1,025 words. -/
theorem test_packet_headers_refused :
    (packetRows.all fun x => !(x.1 ⟨3, 0, 0, false⟩ [] []).WellFormed && !(x.1 ⟨0, 2 ^ 32, 0, false⟩ [] []).WellFormed
      && !(x.1 ⟨0, 0, 2 ^ 16, false⟩ [] []).WellFormed && (x.1 ⟨2, 2 ^ 32 - 1, 2 ^ 16 - 1, true⟩ [] []).WellFormed) = true := by decide

set_option maxRecDepth 20000 in
theorem test_packet_length_refused :
    (packetRows.all fun x => !(x.1 spi (List.replicate 1025 0) []).WellFormed) = true := by decide

/-- Engine 18 runs no instruction. -/
theorem test_instructions_refused : (shortRows.all fun x => !(x.1 18 .clean).WellFormed && (x.1 17 .clean).WellFormed) = true
    ∧ ([.insLdi 18 .clean, .insBra 18 .clean, .insBall 18 .clean, .insBany 18 .clean, .insCall 18 .clean, .insRet 18 .clean,
      .insLoop 18 .clean, .insLoopu 18 .clean, .insYield 18 .clean, .insEnd 18 .clean] : List Instr).all (fun i => !i.WellFormed) = true := by
  decide

/-- Units out of range, first part. -/
theorem test_units_refused_1 : ([
    .readMemory (2 ^ 40) 0 [], .writeMemory (2 ^ 40) [], .spTsRead 64, .netCounterLoRead 5 0, .netCounterLoRead 0 4,
    .tagRecordRead 18, .rcFieldRead 0x100000 0, .captureFifoRead 16, .registerWrite 0x100000 0 0, .unmappedRead (2 ^ 40) ⟨0, .bar0, none⟩,
    .heldSlateWriteLand 18, .faultInject 256 0, .faultInject 0 16, .engStep 18, .engHalt 18 false, .debugDataWrite 18 0,
    .reserveWrite 64, .counterWrite false 18 0 0, .txRingReset 8, .rxRingReset 8, .spRingLenWrite 64 false 0,
    .cmdRingLenWrite 3 0, .spRingPointerWrite 64 false 0, .spMaskWrite 64 false false 0, .spInEnWrite 64 false,
    .spOutEnWrite 64 false, .spCapEnWrite 64 false, .spPlyEnWrite 64 false, .cgCfgWrite 16 0, .dlCkEnWrite 4 0,
    .dlLaneEnWrite 32 0, .triggerEnWrite 32 0] : List Instr).all (fun i => !i.WellFormed) = true := by decide

/-- Units out of range, second part. -/
theorem test_units_refused_2 : ([
    .captureEnWrite 16 0, .candidateCfgWrite 12 0, .logRateWrite 256 0, .stagingEntryLand 16 ⟨[], [], 0⟩, .stagingEntryLand 0 ⟨[], [], 89⟩, .dispatchAccept 18 0 0,
    .contextLoadDone 18, .contextSaveDone 18, .budget 18, .storeBufferDrain 18 false, .tagInstruction 18 0 0 0 0 0 false false,
    .engineSlateCopyDone ⟨18, []⟩, .recastLoadDone ⟨18, []⟩, .cutRecastCopyDone ⟨16, []⟩, .cutRecastSwap 16, .spareBist 18 0, .spareBist 0 5,
    .serialFrame 16 0 [] [], .portBlock 64 [], .spLost 16 false, .spReturn 16, .cgRateUpdate 16 0, .cgRateUpdate 0 (2 ^ 24),
    .asrcLock 3 0 false, .asrcLock 0 1024 false, .portStartAct 64 0 [], .portStartAct 0 65 [], .portStopAct 64,
    .streamStartAct 1024, .streamStopAct 1024, .laneStartAct 32, .laneStopAct 32, .frameTransmitDone 4 false] : List Instr).all (fun i => !i.WellFormed) = true := by decide

/-- Units out of range, third part. -/
theorem test_units_refused_3 : ([
    .tcDrop 4, .linkUp 4, .linkDown 4, .pauseReceived 5 0, .pauseReceived 0 65536, .pauseExpiry 5, .pauseBroken 4,
    .preemptVerify 4 false, .bridgeAgeOut (2 ^ 48), .streamPacketAccept 1024 0, .streamPacketAccept 0 32, .streamBlockWrite 1024,
    .streamLost 1024, .streamPacketSend 1024, .txLate 4, .dlLost 32 0, .dlLost 0 4096, .dlReturn 32 0, .dlReturn 0 4096, .dlSettled 32,
    .freqMonitorUpdate 12 0 0, .freqMonitorUpdate 0 0 256, .candidateQualified 12, .activityEnd 12,
    .announceReceived 0 (2 ^ 64) 0 0 0 false 0 0, .announceReceived 0 0 256 0 0 false 0 0,
    .announceReceived 0 0 0 256 0 false 0 0, .announceReceived 0 0 0 0 65536 false 0 0,
    .announceReceived 0 0 0 0 0 false 65536 0, .announceReceived 0 0 0 0 0 false 0 10, .ptpLoss 3 0, .ptpLoss 0 10,
    .clapperTriggerFire 32] : List Instr).all (fun i => !i.WellFormed) = true := by decide

/-- Units out of range, fourth part. -/
theorem test_units_refused_4 : ([
    .captureEdge 16 false, .xbarRequest 12 ⟨0, 10, false⟩ 1 0 ⟨0, []⟩ [] none none, .xbarRequest 0 ⟨10, 10, false⟩ 1 0 ⟨0, []⟩ [] none none,
    .xbarRequest 0 ⟨0, 10, false⟩ 1 4 ⟨0, []⟩ [] none none, .burstComplete 10 0, .masterReset ⟨12, []⟩, .faultMessage 256 0 0, .faultMessage 0x10 1 0, .faultMessage 0 16 0,
    .faultMessage 0 0 (2 ^ 32), .logTokenGain 256, .renewReceived (2 ^ 32) 0, .ackReceived (2 ^ 32), .standinTickStart (2 ^ 64),
    .rlLinkUp 2 0, .rlLinkUp 0 (2 ^ 20), .rlLink 2, .ringListReceived [] (2 ^ 48) 0, .ringListReceived [] 0 1000000000,
    .voteReceived 8 0, .voteReceived 0 12, .followerAcquire (2 ^ 64), .resetRelease 8 0 0, .resetRelease 0 4 0,
    .resetRelease 0 0 (2 ^ 14), .candidateActivity 12 0, .candidateActivity 0 256, .triggerPulseEnd 32] : List Instr).all (fun i => !i.WellFormed) = true := by decide

/-- Operands whose check is not the range of one number. -/
theorem test_operands_refused : ([
    .memRead spi [] [⟨0, ⟨1024, 0, false⟩⟩], .memRead spi [] [⟨0, ⟨0, 65536, false⟩⟩], .commandDescriptor [0, 0, 0] none, .rcFieldRead 0x100000 1,
    .rcFieldRead 2 3, .unmappedRead (2 ^ 40) ⟨1, .bar0, none⟩, .unmappedRead 3 ⟨2, .bar0, none⟩, .hostMemoryWrite .bar0 0 [], .hostMemoryWrite .bar2 (2 ^ 28) [],
    .hostMemoryWrite .config 0 [],
    .programMemoryWrite 18 0 [], .programMemoryWrite 0 0x20000 [0], .laneSliceWrite 18 false 0 [], .laneSliceWrite 0 false 0x40000 [0],
    .laneSliceWrite 0 true 0x20000 [0], .slateViewWrite 18 0 [], .slateViewWrite 0 0x10000 [0], .counterWrite true 0 32 0,
    .counterWrite false 0 8 0, .counterWrite true 18 0 0, .rxtailWrite 8 0, .txtailWrite 8 0 [], .txtailWrite 0 0 [[0]],
    .netRingLenWrite false 8 0, .preemptEnWrite 5 0, .shotBoundary [⟨65536, 0, ⟨0, 0, false⟩⟩], .shotBoundary [⟨0, 0, ⟨1024, 0, false⟩⟩],
    .shotBoundary [⟨0, 0, ⟨0, 65536, false⟩⟩], .matrixPassEnd (2 ^ 20) [] [], .serialFrame 16 0 [] [], .serialFrame 0 0 [⟨64, []⟩] [],
    .serialFrame 0 0 [] [⟨64, false, false⟩], .mpFrameReceived 4 [] false, .ptpMessageSend 2, .xbarRequest 0 ⟨0, 10, false⟩ 0 0 ⟨0, []⟩ [] none none,
    .xbarRequest 0 ⟨0, 10, false⟩ 65 0 ⟨0, []⟩ [] none none, .scrub ⟨1024, 0, false⟩ 0, .scrub ⟨0, 65536, false⟩ 0, .scrub ⟨0, 0, false⟩ 3, .renewReceived (2 ^ 32) 5,
    .renewReceived 0 4, .renewReceived 0 201, .wholeStateTransferDone ⟨0, [], [], [], [], [], 2 ^ 32⟩,
    .rlBlockReceived 2 (.chan 0 [] 0) true, .ringListReceived [8] 0 0, .ringListReceived [] (2 ^ 48) 0,
    .ringListReceived [] 0 1000000000, .ringTakeMessage ⟨[], 0, false⟩, .bootStageDone ⟨[⟨1024, 0, false⟩], [], true, none, []⟩,
    .bootStageDone ⟨[⟨0, 65536, false⟩], [], true, none, []⟩, .bootStageDone ⟨[], [(18, ⟨0, 0⟩)], true, none, []⟩, .bootStageDone ⟨[], [], true, none, [(18, 0)]⟩,
    .bootStageDone ⟨[], [], true, none, [(0, 5)]⟩] : List Instr).all (fun i => !i.WellFormed) = true := by decide

/-! ### Examples of the spec -/

/-- R60, R62: 24-bit slots round to even and saturate. -/
theorem test_narrowing : narrowSlot 24 0x12345680 = 0x123456 ∧ narrowSlot 24 0x12345780 = 0x123458 ∧ narrowSlot 24 0x7FFFFF80 = 0x7FFFFF := by
  decide

set_option maxRecDepth 100000 in
/-- R629: the check value of CRC-32C over the bytes of "123456789". -/
theorem test_crc : crc32c [0x31, 0x32, 0x33, 0x34, 0x35, 0x36, 0x37, 0x38, 0x39] = 0xE3069283 := by decide

/-- The encoding example of chapter 04: MPY ACC0, D0, D8 || X: D1 := [U1]-1 || Y: [U3]+1 := D3. -/
theorem test_encoding : insOpc 0x0400800001303343 = 1 ∧ fMSB (insOpnd 0x0400800001303343) = 8 ∧ fMSA (insOpnd 0x0400800001303343) = 0
    ∧ fA (insOpnd 0x0400800001303343) = 0 ∧ moveOf (insX 0x0400800001303343) = ⟨1, 1, 2, 1⟩ ∧ moveOf (insY 0x0400800001303343) = ⟨2, 3, 1, 3⟩
    ∧ insOpc 0xD800000000020111 = 0x36 ∧ lCount (insLong 0xD800000000020111) = 8 ∧ lTarget (insLong 0xD800000000020111) = 0x111 := by decide

/-- R274: a linear fade from 0 to unity over three samples. -/
theorem test_fade : [0, 1, 2].map (fadeGain ⟨0, 0x10000000, false, false, 3, 0⟩) = [0x05555555, 0x0AAAAAAB, 0x10000000] := by decide

/-- R117: the post-modify example, with SPAN 16 and then 6. -/
theorem test_post_modify :
    let b := ((Bank.empty.setField (cORG 2) 0x100).setField (cSTEP 2) 5).setField (cSPAN 2) 16
    postModify (b.setField (cCUR 2) 0x10F) 2 3 = 0x104
    ∧ postModify ((b.setField (cSPAN 2) 6).setField (cCUR 2) 0x104) 2 3 = 0x103
    ∧ postModify (((b.setField (cSPAN 2) 6).setField (cSTEP 2) (BitVec.ofInt 16 (-5))).setField (cCUR 2) 0x103) 2 3 = 0x104 := by decide

/-- An empty queue: one CLK_PER period passes. -/
theorem test_idle : (match step State.reset with | .next t => t.time | _ => 0) = 1 := by decide

/-- After a turn of MGMT it is the SPI slave's, then PCIe's (R614). -/
theorem test_turns : firstTurn 1 [(⟨1, 5, 0, false⟩, 0), (⟨0, 6, 0, false⟩, 1), (⟨2, 7, 0, false⟩, 2)] = some (⟨2, 7, 0, false⟩, 2) := by decide

/-! ### The hypotheses of every statement are met -/

set_option maxRecDepth 100000 in
/-- The hypotheses of MemoryKeepsItsForm are met. -/
theorem test_witness_MemoryKeepsItsForm :
    (Memory.wf (put 4 [(0x40004, 5)]).mem = true) := by
  (repeat' apply And.intro) <;> decide

set_option maxRecDepth 100000 in
/-- The hypotheses of CheckOnlyAppliesNothing are met. -/
theorem test_witness_CheckOnlyAppliesNothing :
    (Ready 0x200 spi (id [0, 0, 0, 0, 0]) (put 4 []) ∧ spi.chk = false ∧ ((put 4 []).sess spi.tr).cache = [])
    ∧ (Ready 0xF02 spi (id [0x5345414C]) ((put 2 []).setF CMD_STAT.PWIN 1)) := by
  (repeat' apply And.intro) <;> decide

set_option maxRecDepth 100000 in
/-- The hypotheses of EngineExceptions are met. -/
theorem test_witness_EngineExceptions :
    (issues 0 17 (engMoves 0 0x0905 0 0x2000) = true ∧ Quiet (engMoves 0 0x0905 0 0x2000) ∧ shortLegal opNop 17 (engMoves 0 0x0905 0 0x2000) = true ∧ (runningOn 17 (engMoves 0 0x0905 0 0x2000)).isSome = true ∧ (moveX 17 (engMoves 0 0x0905 0 0x2000)).used = true ∧ 0x1FFF < (((engMoves 0 0x0905 0 0x2000).bank 17).field (cCUR (moveX 17 (engMoves 0 0x0905 0 0x2000)).csr)).toNat)
    ∧ (issues 0 17 (engMoves 0 0 0x0905 0x5000) = true ∧ shortLegal opNop 17 (engMoves 0 0 0x0905 0x5000) = true ∧ (moveY 17 (engMoves 0 0 0x0905 0x5000)).used = true ∧ 0x4FFF < (((engMoves 0 0 0x0905 0x5000).bank 17).field (cCUR (moveY 17 (engMoves 0 0 0x0905 0x5000)).csr)).toNat)
    ∧ (issues 0 17 (engMoves 0 0 0x1105 0x3FFF) = true ∧ shortLegal opNop 17 (engMoves 0 0 0x1105 0x3FFF) = true ∧ (moveY 17 (engMoves 0 0 0x1105 0x3FFF)).op = 2 ∧ (((engMoves 0 0 0x1105 0x3FFF).bank 17).field (cCUR (moveY 17 (engMoves 0 0 0x1105 0x3FFF)).csr)).toNat < 0x4000)
    ∧ (issues 0 17 (engMoves 0 0x0905 0x0906 0x4000) = true ∧ (moveX 17 (engMoves 0 0x0905 0x0906 0x4000)).used = true ∧ (moveY 17 (engMoves 0 0x0905 0x0906 0x4000)).used = true ∧ (moveX 17 (engMoves 0 0x0905 0x0906 0x4000)).csr = (moveY 17 (engMoves 0 0x0905 0x0906 0x4000)).csr)
    ∧ (RunsLong 0x34 17 0 5 .clean (engLong 0x34 5) ∧ atLoopEnd ((engLong 0x34 5).pcOf 17) ((engLong 0x34 5).bank 17).loops = false ∧ ((engLong 0x34 5).bank 17).stack.length < 4)
    ∧ (RunsLong 0x34 17 0 5 .clean (onBank 17 (fun b => { b with stack := [1, 2, 3, 4] }) (engLong 0x34 5)) ∧ ((onBank 17 (fun b => { b with stack := [1, 2, 3, 4] }) (engLong 0x34 5)).bank 17).stack.length = 4)
    ∧ (RunsLong 0x35 17 0 0 .clean (engLong 0x35 0) ∧ ((engLong 0x35 0).bank 17).stack = []) := by
  (repeat' apply And.intro) <;> decide

set_option maxRecDepth 100000 in
/-- The hypotheses of PingResyncSubscribe are met. -/
theorem test_witness_PingResyncSubscribe :
    ((Ready 0 spi (([] : List Word)) (put 2 [])) ∧ (spi.chk = false))
    ∧ ((Ready 1 spi (([] : List Word)) (setE spi.tr spi.hseq (put 2 []))) ∧ (spi.chk = false))
    ∧ ((Ready 0x30 spi (([3#32, 4#32] : List Word)) (put 2 [])) ∧ (spi.chk = false)) := by
  (repeat' apply And.intro) <;> decide

set_option maxRecDepth 100000 in
/-- The hypotheses of ConfigureAndModeSet are met. -/
theorem test_witness_ConfigureAndModeSet :
    ((Ready 16 spi (([9#32] : List Word)) (put 2 [])) ∧ (spi.chk = false) ∧ ((put 2 []).mode = 2) ∧ (bits (nAt (([9#32] : List Word)) 0) 0 2 ≠ 3) ∧ ((put 2 []).getF SYS_CFG.RATE = bits (nAt (([9#32] : List Word)) 0) 0 2) ∧ ((put 2 []).getF SYS_CFG.SHOT = bits (nAt (([9#32] : List Word)) 0) 2 2) ∧ ((put 2 []).getF SYS_CFG.SHAPE = (if bits (nAt (([9#32] : List Word)) 0) 0 2 = 0 then bits (nAt (([9#32] : List Word)) 0) 4 1 else 0)))
    ∧ ((Ready 16 spi (([0x16#32] : List Word)) (put 2 [])) ∧ (spi.chk = false) ∧ ((put 2 []).mode = 2) ∧ (bits (nAt (([0x16#32] : List Word)) 0) 0 2 ≠ 3) ∧ (¬((put 2 []).getF SYS_CFG.RATE = bits (nAt (([0x16#32] : List Word)) 0) 0 2 ∧ (put 2 []).getF SYS_CFG.SHOT = bits (nAt (([0x16#32] : List Word)) 0) 2 2 ∧ (put 2 []).getF SYS_CFG.SHAPE = (if bits (nAt (([0x16#32] : List Word)) 0) 0 2 = 0 then bits (nAt (([0x16#32] : List Word)) 0) 4 1 else 0))))
    ∧ ((Ready 17 spi (([0#32] : List Word)) (put 4 [])) ∧ (spi.chk = false) ∧ (bits (nAt (([0#32] : List Word)) 0) 0 4 = 0))
    ∧ ((Ready 17 spi (([2#32] : List Word)) ((put 4 []).setF SYS_MODE.TICK 1)) ∧ (spi.chk = false) ∧ (2 = bits (nAt (([2#32] : List Word)) 0) 0 4) ∧ (2 ≠ 0) ∧ (modeSetStatus 2 ((put 4 []).setF SYS_MODE.TICK 1) = 0) ∧ (((put 4 []).setF SYS_MODE.TICK 1).tick = true) ∧ (¬(2 = 3 ∧ ringFollower ((put 4 []).setF SYS_MODE.TICK 1) = true)))
    ∧ ((Ready 17 spi (([11#32] : List Word)) (put 2 [])) ∧ (spi.chk = false) ∧ (bits (nAt (([11#32] : List Word)) 0) 0 4 = 11) ∧ ((put 2 []).fuse.sealFuse = false) ∧ ((put 2 []).mode = 2) ∧ ((put 2 []).tick = false)) := by
  (repeat' apply And.intro) <;> decide

set_option maxRecDepth 100000 in
/-- The hypotheses of MemoryCommands are met. -/
theorem test_witness_MemoryCommands :
    ((Ready 32 spi (([0x7000000#32, 0#32, 2#32] : List Word)) (((put 4 []).setWord 0x7000004 99#32))) ∧ (spi.chk = false) ∧ (((0x7000000 : Nat)) = cmdAddr (([0x7000000#32, 0#32, 2#32] : List Word))) ∧ (2 = nAt (([0x7000000#32, 0#32, 2#32] : List Word)) 2) ∧ (1 ≤ 2) ∧ (2 ≤ 1024) ∧ (spanOk ((0x7000000 : Nat)) 2 = true) ∧ (0x6000000 ≤ ((0x7000000 : Nat)) ∧ ((0x7000000 : Nat)) + 4 * 2 ≤ 0x6400000 ∨ 0x7000000 ≤ ((0x7000000 : Nat)) ∧ ((0x7000000 : Nat)) + 4 * 2 ≤ 0x7040000 ∨ (((put 4 []).setWord 0x7000004 99#32)).flag DDR_STAT.READY = true ∧ 0x100000000 ≤ ((0x7000000 : Nat)) ∧ ((0x7000000 : Nat)) + 4 * 2 ≤ 0x100000000 + (((put 4 []).setWord 0x7000004 99#32)).ddrBytes))
    ∧ ((Ready 33 spi (([0x7000000#32, 0#32, 0xA1B2C3D4#32, 5#32] : List Word)) (put 4 [])) ∧ (spi.chk = false) ∧ (((0x7000000 : Nat)) = cmdAddr (([0x7000000#32, 0#32, 0xA1B2C3D4#32, 5#32] : List Word))) ∧ (2 = (([0x7000000#32, 0#32, 0xA1B2C3D4#32, 5#32] : List Word)).length - 2) ∧ (spanOk ((0x7000000 : Nat)) 2 = true) ∧ (0x6000000 ≤ ((0x7000000 : Nat)) ∧ ((0x7000000 : Nat)) + 4 * 2 ≤ 0x6400000 ∨ 0x7000000 ≤ ((0x7000000 : Nat)) ∧ ((0x7000000 : Nat)) + 4 * 2 ≤ 0x7040000 ∨ (put 4 []).flag DDR_STAT.READY = true ∧ 0x100000000 ≤ ((0x7000000 : Nat)) ∧ ((0x7000000 : Nat)) + 4 * 2 ≤ 0x100000000 + (put 4 []).ddrBytes) ∧ (((List.range 2).all fun i => ((0x7000000 : Nat)) < 0x100000000 || !inLineRange (((0x7000000 : Nat)) + 4 * i) (put 4 [])) = true))
    ∧ ((Ready 49 spi (([0#32, 1#32, 2#32] : List Word)) (put 4 [(0x80200, 0x90000000), (0x80204, 0x80000000)])) ∧ (spi.chk = false) ∧ (1 = nAt (([0#32, 1#32, 2#32] : List Word)) 1) ∧ (2 = nAt (([0#32, 1#32, 2#32] : List Word)) 2) ∧ (2 ≠ 0) ∧ (64 * (1 + 2) ≤ (put 4 [(0x80200, 0x90000000), (0x80204, 0x80000000)]).ddrBytes) ∧ (bitOf (nAt (([0#32, 1#32, 2#32] : List Word)) 0) 0 = false) ∧ ((put 4 [(0x80200, 0x90000000), (0x80204, 0x80000000)]).flag DDR_STAT.READY = true) ∧ (((put 4 [(0x80200, 0x90000000), (0x80204, 0x80000000)]).fab.claims.any fun x => overlap 1 2 x.2.base x.2.len && !(x.2.owner = 0 && x.2.id = 0)) = false) ∧ (freeClaim (put 4 [(0x80200, 0x90000000), (0x80204, 0x80000000)]) = some 0))
    ∧ ((Ready 49 spi (([1#32, 1#32, 2#32] : List Word)) (((put 4 [(0x80200, 0x90000000), (0x80204, 0x80000000)]).onFab fun u => { u with claims := [(0, ⟨0, 0, 1, 2⟩)] }))) ∧ (spi.chk = false) ∧ (1 = nAt (([1#32, 1#32, 2#32] : List Word)) 1) ∧ (2 = nAt (([1#32, 1#32, 2#32] : List Word)) 2) ∧ (2 ≠ 0) ∧ (64 * (1 + 2) ≤ (((put 4 [(0x80200, 0x90000000), (0x80204, 0x80000000)]).onFab fun u => { u with claims := [(0, ⟨0, 0, 1, 2⟩)] })).ddrBytes) ∧ (bitOf (nAt (([1#32, 1#32, 2#32] : List Word)) 0) 0 = true) ∧ (((((put 4 [(0x80200, 0x90000000), (0x80204, 0x80000000)]).onFab fun u => { u with claims := [(0, ⟨0, 0, 1, 2⟩)] })).fab.claims.any fun x => x.2.owner = 0 && x.2.base = 1 && x.2.len = 2) = true)) := by
  (repeat' apply And.intro) <;> decide

set_option maxRecDepth 100000 in
/-- The hypotheses of SlateGraphCommands are met. -/
theorem test_witness_SlateGraphCommands :
    ((Ready 257 spi (([5#32, 0x00000100#32, 0#32, 100#32, 1#32, 0#32, 0#32, 0#32, 0#32] : List Word)) (mapped 4 [])) ∧ (spi.chk = false) ∧ (5 = nAt (([5#32, 0x00000100#32, 0#32, 100#32, 1#32, 0#32, 0#32, 0#32, 0#32] : List Word)) 0) ∧ (taskStatus 5 (slateTask ((([5#32, 0x00000100#32, 0#32, 100#32, 1#32, 0#32, 0#32, 0#32, 0#32] : List Word)).drop 1)) (mapped 4 []) = 0))
    ∧ ((Ready 258 spi (([3#32] : List Word)) ((onTask 3 (fun u => { u with live := true, st := 7, ovr := 2 }) (onTask 3 (fun u => { u with slate := true }) (put 4 []))))) ∧ (spi.chk = false) ∧ (((([3#32] : List Word)).all fun w => w.toNat < 4096 && (((onTask 3 (fun u => { u with live := true, st := 7, ovr := 2 }) (onTask 3 (fun u => { u with slate := true }) (put 4 [])))).task w.toNat).slate) = true) ∧ (breaksTake ((onTask 3 (fun u => { u with live := true, st := 7, ovr := 2 }) (onTask 3 (fun u => { u with slate := true }) (put 4 [])))) ((([3#32] : List Word)).foldl (fun u w => dropTask w.toNat u) ((onTask 3 (fun u => { u with live := true, st := 7, ovr := 2 }) (onTask 3 (fun u => { u with slate := true }) (put 4 []))))) = false))
    ∧ ((Ready 259 spi (([3#32] : List Word)) ((onTask 3 (fun u => { u with live := true, st := 7, ovr := 2 }) (onTask 3 (fun u => { u with slate := true }) (put 4 []))))) ∧ (spi.chk = false) ∧ (((([3#32] : List Word)).all fun w => w.toNat < 4096 && (((onTask 3 (fun u => { u with live := true, st := 7, ovr := 2 }) (onTask 3 (fun u => { u with slate := true }) (put 4 [])))).task w.toNat).live) = true))
    ∧ ((Ready 260 spi (([511#32, 1#32, 0x20003#32, 0#32, 0#32, 0#32, 0#32, 0#32, 0#32, 0#32, 0#32, 0#32, 0#32, 0#32, 0#32, 0#32, 9#32] : List Word)) (put 4 [])) ∧ (spi.chk = false) ∧ (511 = nAt (([511#32, 1#32, 0x20003#32, 0#32, 0#32, 0#32, 0#32, 0#32, 0#32, 0#32, 0#32, 0#32, 0#32, 0#32, 0#32, 0#32, 9#32] : List Word)) 0) ∧ (511 < 512) ∧ (((put 4 []).cs.tasks.any fun c => inGraph c.2 && c.2.aimg = 511) = false))
    ∧ ((Ready 261 spi (([8190#32, 0x10200000#32, 0#32, 0x10200000#32, 0#32] : List Word)) (put 4 [])) ∧ (spi.chk = false) ∧ (8190 = nAt (([8190#32, 0x10200000#32, 0#32, 0x10200000#32, 0#32] : List Word)) 0) ∧ ((([(0x10200000, 0), (0x10200000, 0)] : List (Word × Word))) = pairs ((([8190#32, 0x10200000#32, 0#32, 0x10200000#32, 0#32] : List Word)).drop 1)) ∧ (((([(0x10200000, 0), (0x10200000, 0)] : List (Word × Word))).any xferBad) = false) ∧ (8190 + (([(0x10200000, 0), (0x10200000, 0)] : List (Word × Word))).length ≤ 8192) ∧ (((List.range (([(0x10200000, 0), (0x10200000, 0)] : List (Word × Word))).length).any fun i => xferNamed (8190 + i) (put 4 [])) = false))
    ∧ ((Ready 256 spi (([] : List Word)) ((onTask 3 (fun u => { u with live := true, st := 7, ovr := 2 }) (onTask 3 (fun u => { u with slate := true }) (put 4 []))))) ∧ (spi.chk = false) ∧ (((onTask 3 (fun u => { u with live := true, st := 7, ovr := 2 }) (onTask 3 (fun u => { u with slate := true }) (put 4 [])))).take.pending = none)) := by
  (repeat' apply And.intro) <;> decide

set_option maxRecDepth 100000 in
/-- The hypotheses of SlateMemoryCommands are met. -/
theorem test_witness_SlateMemoryCommands :
    ((Ready 262 spi (([7#32, 0#32, 1#32, 1024#32, 512#32] : List Word)) (put 4 [(0x80200, 0x90000000), (0x80204, 0x80000000)])) ∧ (spi.chk = false) ∧ (7 = nAt (([7#32, 0#32, 1#32, 1024#32, 512#32] : List Word)) 0) ∧ (((⟨0x100000000, 1024, 512⟩ : LineSet)) = ⟨nAt (([7#32, 0#32, 1#32, 1024#32, 512#32] : List Word)) 1 + 2 ^ 32 * nAt (([7#32, 0#32, 1#32, 1024#32, 512#32] : List Word)) 2, nAt (([7#32, 0#32, 1#32, 1024#32, 512#32] : List Word)) 3, nAt (([7#32, 0#32, 1#32, 1024#32, 512#32] : List Word)) 4⟩) ∧ (lineBad 7 ((⟨0x100000000, 1024, 512⟩ : LineSet)).base ((⟨0x100000000, 1024, 512⟩ : LineSet)).len ((⟨0x100000000, 1024, 512⟩ : LineSet)).delay (put 4 [(0x80200, 0x90000000), (0x80204, 0x80000000)]) = false) ∧ ((put 4 [(0x80200, 0x90000000), (0x80204, 0x80000000)]).flag DDR_STAT.READY = true) ∧ ((match ((put 4 [(0x80200, 0x90000000), (0x80204, 0x80000000)]).line 7).live with | some c => decide (c.base ≠ ((⟨0x100000000, 1024, 512⟩ : LineSet)).base) && !overlap (lineBase ((⟨0x100000000, 1024, 512⟩ : LineSet)).base) (lineUnits ((⟨0x100000000, 1024, 512⟩ : LineSet)).len) (lineBase c.base) (lineUnits (max c.len (((put 4 [(0x80200, 0x90000000), (0x80204, 0x80000000)]).line 7).staged.getD 0))) | none => true) = true) ∧ ((claimRange ⟨1, 7, lineBase ((⟨0x100000000, 1024, 512⟩ : LineSet)).base, lineUnits ((⟨0x100000000, 1024, 512⟩ : LineSet)).len⟩ (revertLine 7 (put 4 [(0x80200, 0x90000000), (0x80204, 0x80000000)]))).1 = 0))
    ∧ ((Ready 262 spi (([7#32, 0#32, 1#32, 2048#32, 512#32] : List Word)) (((onLine 7 (fun l => { l with live := some ⟨0x100000000, 1024, 1024⟩ }) (put 4 [(0x80200, 0x90000000), (0x80204, 0x80000000)])).onFab fun u => { u with claims := [(0, ⟨1, 7, 0, 64⟩)] }))) ∧ (spi.chk = false) ∧ (7 = nAt (([7#32, 0#32, 1#32, 2048#32, 512#32] : List Word)) 0) ∧ (((⟨0x100000000, 2048, 512⟩ : LineSet)) = ⟨nAt (([7#32, 0#32, 1#32, 2048#32, 512#32] : List Word)) 1 + 2 ^ 32 * nAt (([7#32, 0#32, 1#32, 2048#32, 512#32] : List Word)) 2, nAt (([7#32, 0#32, 1#32, 2048#32, 512#32] : List Word)) 3, nAt (([7#32, 0#32, 1#32, 2048#32, 512#32] : List Word)) 4⟩) ∧ (lineBad 7 ((⟨0x100000000, 2048, 512⟩ : LineSet)).base ((⟨0x100000000, 2048, 512⟩ : LineSet)).len ((⟨0x100000000, 2048, 512⟩ : LineSet)).delay (((onLine 7 (fun l => { l with live := some ⟨0x100000000, 1024, 1024⟩ }) (put 4 [(0x80200, 0x90000000), (0x80204, 0x80000000)])).onFab fun u => { u with claims := [(0, ⟨1, 7, 0, 64⟩)] })) = false) ∧ ((((onLine 7 (fun l => { l with live := some ⟨0x100000000, 1024, 1024⟩ }) (put 4 [(0x80200, 0x90000000), (0x80204, 0x80000000)])).onFab fun u => { u with claims := [(0, ⟨1, 7, 0, 64⟩)] })).flag DDR_STAT.READY = true) ∧ (((((onLine 7 (fun l => { l with live := some ⟨0x100000000, 1024, 1024⟩ }) (put 4 [(0x80200, 0x90000000), (0x80204, 0x80000000)])).onFab fun u => { u with claims := [(0, ⟨1, 7, 0, 64⟩)] })).line 7).live = some ((⟨0x100000000, 1024, 1024⟩ : LineSet))) ∧ (((⟨0x100000000, 1024, 1024⟩ : LineSet)).base = ((⟨0x100000000, 2048, 512⟩ : LineSet)).base) ∧ ((claimRange ⟨1, 7, lineBase ((⟨0x100000000, 1024, 1024⟩ : LineSet)).base, lineUnits (max (max ((⟨0x100000000, 1024, 1024⟩ : LineSet)).len (((((onLine 7 (fun l => { l with live := some ⟨0x100000000, 1024, 1024⟩ }) (put 4 [(0x80200, 0x90000000), (0x80204, 0x80000000)])).onFab fun u => { u with claims := [(0, ⟨1, 7, 0, 64⟩)] })).line 7).staged.getD 0)) ((⟨0x100000000, 2048, 512⟩ : LineSet)).len)⟩ (((onLine 7 (fun l => { l with live := some ⟨0x100000000, 1024, 1024⟩ }) (put 4 [(0x80200, 0x90000000), (0x80204, 0x80000000)])).onFab fun u => { u with claims := [(0, ⟨1, 7, 0, 64⟩)] }))).1 ≠ 6))
    ∧ ((Ready 263 spi (([0x00100000#32, 0x00010000#32] : List Word)) (mapped 4 [])) ∧ (spi.chk = false) ∧ ((([⟨0x00100000, 0x00010000⟩] : List SliceInit)) = (pairs (([0x00100000#32, 0x00010000#32] : List Word))).map (fun w => ⟨w.1, w.2⟩)) ∧ (sliceInitFault (([⟨0x00100000, 0x00010000⟩] : List SliceInit)) (((mapped 4 []).take.slices.map (·.size)).sum) 0 = none) ∧ (((([⟨0x00100000, 0x00010000⟩] : List SliceInit)).all fun x => ((mapped 4 []).physOf x.logeng).isSome) = true))
    ∧ ((Ready 264 spi (([15#32, 16383#32, 1#32, 0x80000002#32] : List Word)) (mapped 4 [])) ∧ (spi.chk = false) ∧ (16383 = nAt (([15#32, 16383#32, 1#32, 0x80000002#32] : List Word)) 1) ∧ (nAt (([15#32, 16383#32, 1#32, 0x80000002#32] : List Word)) 0 < 16) ∧ (16383 + ((([15#32, 16383#32, 1#32, 0x80000002#32] : List Word)).length - 2) / 2 ≤ 16384) ∧ (((mapped 4 []).cs.tasks.any fun c => inGraph c.2 && c.2.logeng = nAt (([15#32, 16383#32, 1#32, 0x80000002#32] : List Word)) 0 && 16383 ≤ c.2.entry && c.2.entry < 16383 + ((([15#32, 16383#32, 1#32, 0x80000002#32] : List Word)).length - 2) / 2) = false) ∧ ((mapped 4 []).physOf (nAt (([15#32, 16383#32, 1#32, 0x80000002#32] : List Word)) 0) = some 15))
    ∧ ((Ready 265 spi (([15#32, 16383#32, 0x80000002#32] : List Word)) (mapped 4 [])) ∧ (spi.chk = false) ∧ (16383 = nAt (([15#32, 16383#32, 0x80000002#32] : List Word)) 1) ∧ (nAt (([15#32, 16383#32, 0x80000002#32] : List Word)) 0 < 16) ∧ (16383 + ((([15#32, 16383#32, 0x80000002#32] : List Word)).length - 2) ≤ 16384) ∧ ((mapped 4 []).physOf (nAt (([15#32, 16383#32, 0x80000002#32] : List Word)) 0) = some 15) ∧ (engClosed 15 (mapped 4 []) = false) ∧ ((mapped 4 []).flag (ENG_STAT.SLATE_READY 15) = true) ∧ (((mapped 4 []).engine 15).held = []) ∧ (((0x1F9FFFC : Nat)) = pageBase 15 (!((mapped 4 []).livePage 15)) + 4 * 16383)) := by
  (repeat' apply And.intro) <;> decide

set_option maxRecDepth 100000 in
/-- The hypotheses of SceneCommands are met. -/
theorem test_witness_SceneCommands :
    ((Ready 0x10A spi (([0x8000002F#32, 1#32, 2#32, 3#32, 4#32, 5#32, 6#32, 7#32, 8#32] : List Word)) (put 4 [])) ∧ (spi.chk = false) ∧ (47 = bits (nAt (([0x8000002F#32, 1#32, 2#32, 3#32, 4#32, 5#32, 6#32, 7#32, 8#32] : List Word)) 0) 0 6) ∧ (47 < 48) ∧ (bitOf (nAt (([0x8000002F#32, 1#32, 2#32, 3#32, 4#32, 5#32, 6#32, 7#32, 8#32] : List Word)) 0) 31 = true) ∧ (bitOf (nAt (([0x8000002F#32, 1#32, 2#32, 3#32, 4#32, 5#32, 6#32, 7#32, 8#32] : List Word)) 0) 30 = false) ∧ (9 ≤ (([0x8000002F#32, 1#32, 2#32, 3#32, 4#32, 5#32, 6#32, 7#32, 8#32] : List Word)).length) ∧ (0 = (([0x8000002F#32, 1#32, 2#32, 3#32, 4#32, 5#32, 6#32, 7#32, 8#32] : List Word)).length - 9) ∧ (storedPackets 1025 9 ((([0x8000002F#32, 1#32, 2#32, 3#32, 4#32, 5#32, 6#32, 7#32, 8#32] : List Word)).drop 9) = .inr (([] : List (List Word)))) ∧ (((put 4 []).fab.wear.all fun c => decide (c.2 + 1024 < wearLimit (put 4 []))) = true) ∧ (1024 < wearLimit (put 4 [])) ∧ ((put 4 []).fab.replacing = []))
    ∧ ((Ready 0x10B spi (([47#32] : List Word)) (((put 4 []).setWord (mramBase + sceneOff 47) 1))) ∧ (spi.chk = false) ∧ (47 = nAt (([47#32] : List Word)) 0) ∧ ((((put 4 []).setWord (mramBase + sceneOff 47) 1)).take.pending = none) ∧ (47 < 48) ∧ ((sceneStream 47 (((put 4 []).setWord (mramBase + sceneOff 47) 1))).isSome = true)) := by
  (repeat' apply And.intro) <;> decide

set_option maxRecDepth 100000 in
/-- The hypotheses of TakeCommands are met. -/
theorem test_witness_TakeCommands :
    ((Ready 0x200 spi (([0x20000400#32, 1#32, 0#32, 0#32, 0#32] : List Word)) (put 4 [])) ∧ (spi.chk = false) ∧ (takeCheck true (([0x20000400#32, 1#32, 0#32, 0#32, 0#32] : List Word)) (put 4 []) = 0) ∧ (asksRing (put 4 []) = false))
    ∧ ((Ready 0x201 spi (([] : List Word)) (((put 4 []).onTake fun u => { u with pending := some (takeOf [0x20000400#32, 2#32, 0#32, 0#32, 0#32] (some 3)) }))) ∧ (spi.chk = false) ∧ ((((put 4 []).onTake fun u => { u with pending := some (takeOf [0x20000400#32, 2#32, 0#32, 0#32, 0#32] (some 3)) })).take.pending = some (takeOf [0x20000400#32, 2#32, 0#32, 0#32, 0#32] (some 3))) ∧ ((takeOf [0x20000400#32, 2#32, 0#32, 0#32, 0#32] (some 3)).locked = false) ∧ ((((put 4 []).onTake fun u => { u with pending := some (takeOf [0x20000400#32, 2#32, 0#32, 0#32, 0#32] (some 3)) })).getF RL_STAT.STATE ≠ 2) ∧ ((match (takeOf [0x20000400#32, 2#32, 0#32, 0#32, 0#32] (some 3)).sT with | some b => decide ((((put 4 []).onTake fun u => { u with pending := some (takeOf [0x20000400#32, 2#32, 0#32, 0#32, 0#32] (some 3)) })).shot + 1 < b) | none => true) = true))
    ∧ ((Ready 0x202 spi (([0x0000110F#32] : List Word)) ((mapped 4 []).setF (ENG_STAT.STATE 17) 3)) ∧ (spi.chk = false) ∧ (15 = bits (nAt (([0x0000110F#32] : List Word)) 0) 0 4) ∧ (servedBy 15 ((mapped 4 []).setF (ENG_STAT.STATE 17) 3) = some 15) ∧ ((if bits (nAt (([0x0000110F#32] : List Word)) 0) 8 5 = 0x1F then spareEngine ((mapped 4 []).setF (ENG_STAT.STATE 17) 3) else if ((mapped 4 []).setF (ENG_STAT.STATE 17) 3).engState (bits (nAt (([0x0000110F#32] : List Word)) 0) 8 5) = 3 then some (bits (nAt (([0x0000110F#32] : List Word)) 0) 8 5) else none) = some 17) ∧ (17 < 18) ∧ ((((mapped 4 []).setF (ENG_STAT.STATE 17) 3).take.recasts.all fun r => r.logical ≠ 15) = true) ∧ (((mapped 4 []).setF (ENG_STAT.STATE 17) 3).take.pending = none)) := by
  (repeat' apply And.intro) <;> decide

set_option maxRecDepth 100000 in
/-- The hypotheses of RoutingCommands are met. -/
theorem test_witness_RoutingCommands :
    ((Ready 0x300 spi (([0x00100200#32, 0x40000000#32, 64#32] : List Word)) (put 4 [])) ∧ (spi.chk = false) ∧ (1 = (([0x00100200#32, 0x40000000#32, 64#32] : List Word)).length / 3) ∧ (((List.range 1).all fun k => !xpBad (nAt (([0x00100200#32, 0x40000000#32, 64#32] : List Word)) (3 * k)) (nAt (([0x00100200#32, 0x40000000#32, 64#32] : List Word)) (3 * k + 2)) (put 4 [])) = true) ∧ (xpHeld (put 4 []) + 1 ≤ fadeTable) ∧ ((put 4 []).take.pending = none))
    ∧ ((Ready 0x301 spi (([0x00100100#32, 2#32, 0x40000000#32] : List Word)) (put 4 [])) ∧ (spi.chk = false) ∧ (1 = (([0x00100100#32, 2#32, 0x40000000#32] : List Word)).length - 2) ∧ (((0x00100100 : Nat)) = nAt (([0x00100100#32, 2#32, 0x40000000#32] : List Word)) 0) ∧ (bits ((0x00100100 : Nat)) 0 8 = 0) ∧ (bits ((0x00100100 : Nat)) 20 12 < (put 4 []).taps) ∧ (bits ((0x00100100 : Nat)) 10 10 + 1 ≤ (put 4 []).buses) ∧ (bits (nAt (([0x00100100#32, 2#32, 0x40000000#32] : List Word)) 1) 16 16 = 0) ∧ (bits (nAt (([0x00100100#32, 2#32, 0x40000000#32] : List Word)) 1) 0 16 ≠ 0) ∧ (xpHeld (put 4 []) + 1 ≤ fadeTable) ∧ ((put 4 []).take.pending = none))
    ∧ ((Ready 0x302 spi (([0x30001000#32] : List Word)) (put 4 [])) ∧ (spi.chk = false) ∧ (((([0x30001000#32] : List Word)).all fun w => !patchBad w (put 4 []) && !patchTaken w (put 4 [])) = true) ∧ ((put 4 []).take.pending = none)) := by
  (repeat' apply And.intro) <;> decide

set_option maxRecDepth 100000 in
/-- The hypotheses of SerialCommands are met. -/
theorem test_witness_SerialCommands :
    ((Ready 0x400 spi (([63#32, 0#32, 0x101#32, 0#32, 0#32, 0#32, 0#32, 0#32, 0#32, 0#32, 0#32, 1#32, 0#32, 0#32, 0#32, 0#32, 0#32, 0#32, 0#32] : List Word)) portReady) ∧ (spi.chk = false) ∧ (63 = nAt (([63#32, 0#32, 0x101#32, 0#32, 0#32, 0#32, 0#32, 0#32, 0#32, 0#32, 0#32, 1#32, 0#32, 0#32, 0#32, 0#32, 0#32, 0#32, 0#32] : List Word)) 0) ∧ (63 < 64) ∧ (((0x53F00 : Nat)) = 0x50000 + 63 * 0x100) ∧ (portCheck 63 (nAt (([63#32, 0#32, 0x101#32, 0#32, 0#32, 0#32, 0#32, 0#32, 0#32, 0#32, 0#32, 1#32, 0#32, 0#32, 0#32, 0#32, 0#32, 0#32, 0#32] : List Word)) 1 &&& 0xFF800000) (nAt (([63#32, 0#32, 0x101#32, 0#32, 0#32, 0#32, 0#32, 0#32, 0#32, 0#32, 0#32, 1#32, 0#32, 0#32, 0#32, 0#32, 0#32, 0#32, 0#32] : List Word)) 2 &&& 0x3F3F) ((((([63#32, 0#32, 0x101#32, 0#32, 0#32, 0#32, 0#32, 0#32, 0#32, 0#32, 0#32, 1#32, 0#32, 0#32, 0#32, 0#32, 0#32, 0#32, 0#32] : List Word)).drop 3).take 8).map fun w => wd (w.toNat &&& 0x1F1F1F1F)) ((((([63#32, 0#32, 0x101#32, 0#32, 0#32, 0#32, 0#32, 0#32, 0#32, 0#32, 0#32, 1#32, 0#32, 0#32, 0#32, 0#32, 0#32, 0#32, 0#32] : List Word)).drop 11).take 8).map fun w => wd (w.toNat &&& 0x1F1F1F1F)) portReady = 0))
    ∧ ((Ready 0x401 spi (([0x0000013F#32, 0#32, 0#32] : List Word)) portReady) ∧ (spi.chk = false) ∧ (63 = nAt (([0x0000013F#32, 0#32, 0#32] : List Word)) 0 % 64) ∧ ((([false] : List Bool)) = portDirs (nAt (([0x0000013F#32, 0#32, 0#32] : List Word)) 0)) ∧ ((([false] : List Bool)) ≠ []) ∧ ((timing 0x33F (([0x0000013F#32, 0#32, 0#32] : List Word)) portReady).1 = 0) ∧ (portStartFault 63 (([false] : List Bool)) portReady = none))
    ∧ ((Ready 0x402 spi (([0x0000033F#32, 0#32, 0#32] : List Word)) portReady) ∧ (spi.chk = false) ∧ (63 = nAt (([0x0000033F#32, 0#32, 0#32] : List Word)) 0 % 64) ∧ ((([false, true] : List Bool)) = portDirs (nAt (([0x0000033F#32, 0#32, 0#32] : List Word)) 0)) ∧ ((([false, true] : List Bool)) ≠ []) ∧ ((timing 0x33F (([0x0000033F#32, 0#32, 0#32] : List Word)) portReady).1 = 0))
    ∧ ((Ready 0x403 spi (([15#32, 0xC0140000#32, 100#32] : List Word)) (put 4 [])) ∧ (spi.chk = false) ∧ (15 = nAt (([15#32, 0xC0140000#32, 100#32] : List Word)) 0) ∧ (15 < 16) ∧ (((0xC0140000 : Nat)) = nAt (([15#32, 0xC0140000#32, 100#32] : List Word)) 1 &&& 0xFFFFE000) ∧ (1 ≤ nAt (([15#32, 0xC0140000#32, 100#32] : List Word)) 2) ∧ (nAt (([15#32, 0xC0140000#32, 100#32] : List Word)) 2 ≤ 10000) ∧ (cgCheck 15 ((0xC0140000 : Nat)) (put 4 []) = 0) ∧ (∀ k, 8 ≤ k → k < 12 → (put 4 []).flag (CLK_CANDST.ACTIVE k) = false)) := by
  (repeat' apply And.intro) <;> decide

set_option maxRecDepth 100000 in
/-- The hypotheses of DailiesStreamAndTimeCommands are met. -/
theorem test_witness_DailiesStreamAndTimeCommands :
    ((Ready 0x404 spi (([0x11F#32, 0#32, 0#32] : List Word)) laneReady) ∧ (spi.chk = false) ∧ (31 = nAt (([0x11F#32, 0#32, 0#32] : List Word)) 0 % 32) ∧ (true = bitOf (nAt (([0x11F#32, 0#32, 0#32] : List Word)) 0) 8) ∧ ((timing 0x11F (([0x11F#32, 0#32, 0#32] : List Word)) laneReady).1 = 0) ∧ (true = false ∨ laneStartStatus 31 laneReady = 0))
    ∧ ((Ready 0x405 spi (([4095#32, 0x00010000#32] : List Word)) (put 4 [])) ∧ (spi.chk = false) ∧ (4095 = nAt (([4095#32, 0x00010000#32] : List Word)) 0) ∧ (4095 + ((([4095#32, 0x00010000#32] : List Word)).length - 1) ≤ 4096) ∧ ((((([4095#32, 0x00010000#32] : List Word)).drop 1).all fun w => pointOk w (put 4 [])) = true))
    ∧ ((Ready 0x500 spi (([1023#32, 0x20008000#32, 0#32, 1#32, 0#32, 0#32, 0#32, 0#32, 0#32, 0#32, 0#32, 0#32, 0#32, 0#32, 0#32, 0#32, 0#32, 0#32, 0#32, 0#32, 0#32] : List Word)) (put 4 [])) ∧ (spi.chk = false) ∧ (1023 = nAt (([1023#32, 0x20008000#32, 0#32, 1#32, 0#32, 0#32, 0#32, 0#32, 0#32, 0#32, 0#32, 0#32, 0#32, 0#32, 0#32, 0#32, 0#32, 0#32, 0#32, 0#32, 0#32] : List Word)) 0) ∧ (ctxCheck 1023 ((([1023#32, 0x20008000#32, 0#32, 1#32, 0#32, 0#32, 0#32, 0#32, 0#32, 0#32, 0#32, 0#32, 0#32, 0#32, 0#32, 0#32, 0#32, 0#32, 0#32, 0#32, 0#32] : List Word)).drop 1) (put 4 []) = 0))
    ∧ ((Ready 0x501 spi (([1023#32, 0#32, 0#32] : List Word)) streamReady) ∧ (spi.chk = false) ∧ (1023 = nAt (([1023#32, 0#32, 0#32] : List Word)) 0 % 1024) ∧ ((timing 0x3FF (([1023#32, 0#32, 0#32] : List Word)) streamReady).1 = 0) ∧ (streamStartStatus 1023 streamReady = 0))
    ∧ ((Ready 0x502 spi (([1023#32, 0#32, 0#32] : List Word)) (put 4 [])) ∧ (spi.chk = false) ∧ (1023 = nAt (([1023#32, 0#32, 0#32] : List Word)) 0 % 1024) ∧ ((timing 0x3FF (([1023#32, 0#32, 0#32] : List Word)) (put 4 [])).1 = 0))
    ∧ ((Ready 0x600 spi (([999999999#32, 5#32, 65535#32] : List Word)) (put 4 [])) ∧ (spi.chk = false) ∧ (nAt (([999999999#32, 5#32, 65535#32] : List Word)) 0 < 1000000000) ∧ (nAt (([999999999#32, 5#32, 65535#32] : List Word)) 2 < 65536) ∧ ((put 4 []).flag PTP_STAT.SERVOVALID = false) ∧ (ringFollower (put 4 []) = false))
    ∧ ((Ready 0x601 spi (([31#32, 0xB0000001#32, 0#32, 5000#32, 0#32, 0#32, 0#32, 1#32] : List Word)) (put 4 [(0x20010, 0x80000000)])) ∧ (spi.chk = false) ∧ (31 = nAt (([31#32, 0xB0000001#32, 0#32, 5000#32, 0#32, 0#32, 0#32, 1#32] : List Word)) 0) ∧ (31 < 32) ∧ (((0xB0000001 : Nat)) = nAt (([31#32, 0xB0000001#32, 0#32, 5000#32, 0#32, 0#32, 0#32, 1#32] : List Word)) 1 &&& 0xFFFCFFFF) ∧ (bitOf ((0xB0000001 : Nat)) 31 = true) ∧ (trigCheck 31 ((0xB0000001 : Nat)) (nAt (([31#32, 0xB0000001#32, 0#32, 5000#32, 0#32, 0#32, 0#32, 1#32] : List Word)) 3 + 2 ^ 32 * (nAt (([31#32, 0xB0000001#32, 0#32, 5000#32, 0#32, 0#32, 0#32, 1#32] : List Word)) 4 % 65536)) (nAt (([31#32, 0xB0000001#32, 0#32, 5000#32, 0#32, 0#32, 0#32, 1#32] : List Word)) 2) (nAt (([31#32, 0xB0000001#32, 0#32, 5000#32, 0#32, 0#32, 0#32, 1#32] : List Word)) 5) (nAt (([31#32, 0xB0000001#32, 0#32, 5000#32, 0#32, 0#32, 0#32, 1#32] : List Word)) 7) (put 4 [(0x20010, 0x80000000)]) = 0))
    ∧ ((Ready 0x601 spi (([31#32, 0x30000001#32, 0#32, 5000#32, 0#32, 0#32, 0#32, 0#32] : List Word)) (put 4 [])) ∧ (spi.chk = false) ∧ (31 = nAt (([31#32, 0x30000001#32, 0#32, 5000#32, 0#32, 0#32, 0#32, 0#32] : List Word)) 0) ∧ (31 < 32) ∧ (bitOf (nAt (([31#32, 0x30000001#32, 0#32, 5000#32, 0#32, 0#32, 0#32, 0#32] : List Word)) 1) 31 = false) ∧ ((put 4 []).flag (CLP_TCFG.EN 31) = false)) := by
  (repeat' apply And.intro) <;> decide

set_option maxRecDepth 100000 in
/-- The hypotheses of FaultAndLogCommands are met. -/
theorem test_witness_FaultAndLogCommands :
    ((Ready 0x700 spi (([0x00400031#32] : List Word)) (put 4 [])) ∧ (spi.chk = false) ∧ (((([0x00400031#32] : List Word)).all fun w => !faultBad w) = true))
    ∧ ((Ready 0x701 spi (([0#32, 0#32] : List Word)) (put 4 [])) ∧ (spi.chk = false) ∧ (nAt (([0#32, 0#32] : List Word)) 0 ≤ 1) ∧ (0 = nAt (([0#32, 0#32] : List Word)) 1) ∧ (0 = 0xFFFFFFFF ∨ 0 % 8 = 0 ∧ (if nAt (([0#32, 0#32] : List Word)) 0 = 1 then 0x40000 ≤ 0 ∧ 0 < 0x200000 else 0 < 0x40000)))
    ∧ ((Ready 0x702 spi (([0x10E50001#32] : List Word)) (((put 4 []).setWord mramBase 7).setF CMD_STAT.PWIN 1)) ∧ (spi.chk = false) ∧ (nAt (([0x10E50001#32] : List Word)) 0 = 0x10E50001)) := by
  (repeat' apply And.intro) <;> decide

set_option maxRecDepth 100000 in
/-- The hypotheses of RoleCommands are met. -/
theorem test_witness_RoleCommands :
    (((([0#32] : List Word)) = withBits 0 2 0 (([3#32] : List Word))) ∧ (Ready 0x800 spi (([0#32] : List Word)) ((((((put 4 []).setF STI_STAT.ROLE 1).setF STI_STAT.PAIRED 1).setF STI_STAT.LINK 1).onSti fun u => { u with partnerValid := true }).setF CMD_STAT.PWIN 1)) ∧ (spi.chk = false) ∧ (nAt (([0#32] : List Word)) 0 = 0) ∧ (((((((put 4 []).setF STI_STAT.ROLE 1).setF STI_STAT.PAIRED 1).setF STI_STAT.LINK 1).onSti fun u => { u with partnerValid := true }).setF CMD_STAT.PWIN 1).pairedHolder = true) ∧ (((((((put 4 []).setF STI_STAT.ROLE 1).setF STI_STAT.PAIRED 1).setF STI_STAT.LINK 1).onSti fun u => { u with partnerValid := true }).setF CMD_STAT.PWIN 1).sti.partnerValid = true))
    ∧ (((([1#32] : List Word)) = withBits 0 2 1 (([0#32] : List Word))) ∧ (Ready 0x800 spi (([1#32] : List Word)) (((put 8 []).setF STI_STAT.ROLE 3).setF CMD_STAT.PWIN 1)) ∧ (spi.chk = false) ∧ (nAt (([1#32] : List Word)) 0 = 1) ∧ (2 ≤ (((put 8 []).setF STI_STAT.ROLE 3).setF CMD_STAT.PWIN 1).role) ∧ ((((put 8 []).setF STI_STAT.ROLE 3).setF CMD_STAT.PWIN 1).flag STI_STAT.LEASE_IN = false))
    ∧ (((([2#32] : List Word)) = withBits 0 2 2 (([0#32] : List Word))) ∧ (Ready 0x800 spi (([2#32] : List Word)) (((put 4 []).setF STI_STAT.ROLE 1).setF CMD_STAT.PWIN 1)) ∧ (spi.chk = false) ∧ (nAt (([2#32] : List Word)) 0 = 2) ∧ ((((put 4 []).setF STI_STAT.ROLE 1).setF CMD_STAT.PWIN 1).take.pending = none))
    ∧ (((([3#32] : List Word)) = withBits 0 2 3 (([0#32] : List Word))) ∧ (Ready 0x800 spi (([3#32] : List Word)) (((put 2 []).setF STI_STAT.STRAP 1).setF CMD_STAT.PWIN 1)) ∧ (spi.chk = false) ∧ (nAt (([3#32] : List Word)) 0 = 3) ∧ (strapRole ((((put 2 []).setF STI_STAT.STRAP 1).setF CMD_STAT.PWIN 1).getF STI_STAT.STRAP) ≠ 0)) := by
  (repeat' apply And.intro) <;> decide

set_option maxRecDepth 100000 in
/-- The hypotheses of RingConfiguration are met. -/
theorem test_witness_RingConfiguration :
    (((([8#32] : List Word)) = withBits 28 4 0 (([8#32] : List Word))) ∧ (Ready 0x801 spi (([8#32] : List Word)) (put 2 [])) ∧ (spi.chk = false) ∧ ((put 2 []).mode = 2) ∧ (nAt (([8#32] : List Word)) 0 ≤ 8) ∧ (nAt (([8#32] : List Word)) 0 ≠ 1))
    ∧ (((([0x10000008#32, 0x76543210#32] : List Word)) = withBits 28 4 1 (([8#32, 0x76543210#32] : List Word))) ∧ (Ready 0x801 spi (([0x10000008#32, 0x76543210#32] : List Word)) (put 2 [])) ∧ (spi.chk = false) ∧ ((put 2 []).mode = 2) ∧ (8 = nAt (([0x10000008#32, 0x76543210#32] : List Word)) 0 % 2 ^ 28) ∧ (8 % 8 = 0) ∧ (8 < 4096) ∧ (8 + 8 * ((([0x10000008#32, 0x76543210#32] : List Word)).length - 1) ≤ (put 2 []).buses))
    ∧ (((([0x20000020#32, 0x80000001#32] : List Word)) = withBits 28 4 2 (([32#32, 0x80000001#32] : List Word))) ∧ (Ready 0x801 spi (([0x20000020#32, 0x80000001#32] : List Word)) (put 2 [])) ∧ (spi.chk = false) ∧ ((put 2 []).mode = 2) ∧ (32 = nAt (([0x20000020#32, 0x80000001#32] : List Word)) 0 % 2 ^ 28) ∧ (32 % 32 = 0) ∧ (32 < 4096) ∧ (32 + 32 * ((([0x20000020#32, 0x80000001#32] : List Word)).length - 1) ≤ netChans (put 2 [])) ∧ (mapTaken 9 32 ((([0x20000020#32, 0x80000001#32] : List Word)).drop 1) (put 2 []) = false))
    ∧ (((([0x30000020#32, 0x80000001#32] : List Word)) = withBits 28 4 3 (([32#32, 0x80000001#32] : List Word))) ∧ (Ready 0x801 spi (([0x30000020#32, 0x80000001#32] : List Word)) (put 2 [])) ∧ (spi.chk = false) ∧ ((put 2 []).mode = 2) ∧ (32 = nAt (([0x30000020#32, 0x80000001#32] : List Word)) 0 % 2 ^ 28) ∧ (32 % 32 = 0) ∧ (32 < 4096) ∧ (32 + 32 * ((([0x30000020#32, 0x80000001#32] : List Word)).length - 1) ≤ netChans (put 2 [])) ∧ (mapTaken 7 32 ((([0x30000020#32, 0x80000001#32] : List Word)).drop 1) (put 2 []) = false)) := by
  (repeat' apply And.intro) <;> decide

set_option maxRecDepth 100000 in
/-- The hypotheses of MaintenanceCommands are met. -/
theorem test_witness_MaintenanceCommands :
    ((Ready 0xF00 spi (([0x40000001#32, 5#32, 6#32] : List Word)) ((put 4 []).setF CMD_STAT.PWIN 1)) ∧ (spi.chk = false) ∧ (1 = bits (nAt (([0x40000001#32, 5#32, 6#32] : List Word)) 0) 0 18) ∧ (1 + ((([0x40000001#32, 5#32, 6#32] : List Word)).length - 1) ≤ 0x30000) ∧ (((put 4 []).setF CMD_STAT.PWIN 1).fab.replacing = []) ∧ (((((put 4 []).setF CMD_STAT.PWIN 1).fab.wear.all fun c => decide (c.2 + 1024 < wearLimit ((put 4 []).setF CMD_STAT.PWIN 1))) && decide (1024 < wearLimit ((put 4 []).setF CMD_STAT.PWIN 1))) = true))
    ∧ ((Ready 0xF01 spi (([1#32, 1#32, 2#32, 3#32, 4#32, 5#32, 6#32, 7#32, 8#32, 9#32, 10#32, 11#32, 12#32] : List Word)) ((put 4 []).setF CMD_STAT.PWIN 1)) ∧ (spi.chk = false) ∧ (1 = bits (nAt (([1#32, 1#32, 2#32, 3#32, 4#32, 5#32, 6#32, 7#32, 8#32, 9#32, 10#32, 11#32, 12#32] : List Word)) 0) 0 1) ∧ (bitOf (nAt (([1#32, 1#32, 2#32, 3#32, 4#32, 5#32, 6#32, 7#32, 8#32, 9#32, 10#32, 11#32, 12#32] : List Word)) 0) 1 = false) ∧ ((((put 4 []).setF CMD_STAT.PWIN 1).fuse.keys.getD 1 ⟨false, false, List.replicate 12 0⟩).written = false))
    ∧ ((Ready 0xF01 spi (([3#32, 1#32, 2#32, 3#32, 4#32, 5#32, 6#32, 7#32, 8#32, 9#32, 10#32, 11#32, 12#32] : List Word)) ((put 4 []).setF CMD_STAT.PWIN 1)) ∧ (spi.chk = false) ∧ (1 = bits (nAt (([3#32, 1#32, 2#32, 3#32, 4#32, 5#32, 6#32, 7#32, 8#32, 9#32, 10#32, 11#32, 12#32] : List Word)) 0) 0 1) ∧ (bitOf (nAt (([3#32, 1#32, 2#32, 3#32, 4#32, 5#32, 6#32, 7#32, 8#32, 9#32, 10#32, 11#32, 12#32] : List Word)) 0) 1 = true))
    ∧ ((Ready 0xF02 spi (([0x5EA10001#32] : List Word)) ((put 4 []).setF CMD_STAT.PWIN 1)) ∧ (spi.chk = false) ∧ (nAt (([0x5EA10001#32] : List Word)) 0 = 0x5EA10001))
    ∧ (((([0#32, 17#32] : List Word)) = setNth (([9#32, 17#32] : List Word)) 0 0) ∧ (Ready 0xF03 spi (([0#32, 17#32] : List Word)) (put 10 [])) ∧ (spi.chk = false) ∧ (nAt (([0#32, 17#32] : List Word)) 0 = 0) ∧ (repairStatus (([0#32, 17#32] : List Word)) (put 10 []) = 0))
    ∧ (((([1#32, 17#32] : List Word)) = setNth (([9#32, 17#32] : List Word)) 0 1) ∧ (Ready 0xF03 spi (([1#32, 17#32] : List Word)) (((put 10 []).onFab fun u => { u with repair := [repEntry 3 3 17 0 0 (put 10 [])] }))) ∧ (spi.chk = false) ∧ (nAt (([1#32, 17#32] : List Word)) 0 = 1) ∧ (repairStatus (([1#32, 17#32] : List Word)) (((put 10 []).onFab fun u => { u with repair := [repEntry 3 3 17 0 0 (put 10 [])] })) = 0))
    ∧ (((([2#32, 0x00010002#32] : List Word)) = setNth (([9#32, 0x00010002#32] : List Word)) 0 2) ∧ (Ready 0xF03 spi (([2#32, 0x00010002#32] : List Word)) (put 10 [])) ∧ (spi.chk = false) ∧ (nAt (([2#32, 0x00010002#32] : List Word)) 0 = 2) ∧ (repairStatus (([2#32, 0x00010002#32] : List Word)) (put 10 []) = 0)) := by
  (repeat' apply And.intro) <;> decide

set_option maxRecDepth 100000 in
/-- The hypotheses of LatchingReads are met. -/
theorem test_witness_LatchingReads :
    ((((put 4 []).onShot fun _ => 0x123456789A).hostOpen = true) ∧ (Quiet ((put 4 []).onShot fun _ => 0x123456789A)))
    ∧ ((((put 4 []).onTake fun u => { u with lastST := 0x1234567890 }).hostOpen = true) ∧ (Quiet ((put 4 []).onTake fun u => { u with lastST := 0x1234567890 })) ∧ (((0x1234567890 : Nat)) = (match ((put 4 []).onTake fun u => { u with lastST := 0x1234567890 }).take.pending with | some k => k.sT.getD 0 | none => ((put 4 []).onTake fun u => { u with lastST := 0x1234567890 }).take.lastST)))
    ∧ ((((put 4 []).onSp fun u => { u with ports := [(63, { PortU.reset with lastSec := 0x500000007 })] }).hostOpen = true) ∧ (Quiet ((put 4 []).onSp fun u => { u with ports := [(63, { PortU.reset with lastSec := 0x500000007 })] })) ∧ (63 < 64))
    ∧ ((((put 4 []).onPtp fun u => { u with sec := 0x300000004, ns := 5 }).hostOpen = true) ∧ (Quiet ((put 4 []).onPtp fun u => { u with sec := 0x300000004, ns := 5 })))
    ∧ ((((put 4 []).onPtp fun u => { u with shotSec := 0x300000004, shotNs := 5 }).hostOpen = true) ∧ (Quiet ((put 4 []).onPtp fun u => { u with shotSec := 0x300000004, shotNs := 5 })))
    ∧ ((((put 2 []).onBoot fun u => { u with life := { u.life with opsec := 0x700000001 } }).hostOpen = true) ∧ (Quiet ((put 2 []).onBoot fun u => { u with life := { u.life with opsec := 0x700000001 } })))
    ∧ ((((put 2 []).onFab fun u => { u with wear := [(0, 0x300000009)] }).hostOpen = true) ∧ (Quiet ((put 2 []).onFab fun u => { u with wear := [(0, 0x300000009)] })) ∧ (((0x300000009 : Nat)) = smGet 0 ((put 2 []).onFab fun u => { u with wear := [(0, 0x300000009)] }).fab.wear (((put 2 []).onFab fun u => { u with wear := [(0, 0x300000009)] }).getF MRAM_WSEL.ROW)))
    ∧ (((put 2 [(0x61148, 7), (0x6114C, 1)]).hostOpen = true) ∧ (Quiet (put 2 [(0x61148, 7), (0x6114C, 1)])) ∧ (4 < 5) ∧ (3 < 4) ∧ (((0x61148 : Nat)) = 0x60000 + 0x400 * 4 + [0x100, 0x108, 0x140, 0x148].getD 3 0x100))
    ∧ ((((put 2 [(0xB2160, 0xA0000001)]).onPcn fun u => { u with trec1 := [(17, 5#32)] }).hostOpen = true) ∧ (Quiet ((put 2 [(0xB2160, 0xA0000001)]).onPcn fun u => { u with trec1 := [(17, 5#32)] })) ∧ (17 < 18))
    ∧ ((((put 4 []).onPtp fun u => { u with cap := [(15, [⟨0x200000003, 4, true⟩])] }).hostOpen = true) ∧ (Quiet ((put 4 []).onPtp fun u => { u with cap := [(15, [⟨0x200000003, 4, true⟩])] })) ∧ (15 < 16) ∧ (((put 4 []).onPtp fun u => { u with cap := [(15, [⟨0x200000003, 4, true⟩])] }).capFifo 15 = ((⟨0x200000003, 4, true⟩ : CapEntry)) :: (([] : List CapEntry)))) := by
  (repeat' apply And.intro) <;> decide

set_option maxRecDepth 100000 in
/-- The hypotheses of PlainAndUnmappedReads are met. -/
theorem test_witness_PlainAndUnmappedReads :
    (((put 2 [(0x74, 0x00030002)]).hostOpen = true) ∧ (Quiet (put 2 [(0x74, 0x00030002)])) ∧ (((0x76 : Nat)) < 0x100000) ∧ (((0x76 : Nat)) % 4 + 1 ≤ 4) ∧ (((0x74 : Nat)) = ((0x76 : Nat)) / 4 * 4) ∧ (regRow ((0x74 : Nat)) = some ((⟨0x74, 1, 0x4, 1, 0x4, 0x0, 0x0, 0x0, 0x0, 0xFFFFFFFF⟩ : RegRow))) ∧ (((0x74 : Nat)) ≠ 0x6300C) ∧ (¬(0x20800 ≤ ((0x74 : Nat)) ∧ ((0x74 : Nat)) < 0x20A00 ∧ ((0x74 : Nat)) % 0x20 = 8)) ∧ (isLo64 ((0x74 : Nat)) = false) ∧ (isHi64 ((0x74 : Nat)) = false) ∧ (¬(0x64100 ≤ ((0x74 : Nat)) ∧ ((0x74 : Nat)) < 0x64120)) ∧ (((0x74 : Nat)) ≠ 0xE0024) ∧ (¬(0x30020 ≤ ((0x74 : Nat)) ∧ ((0x74 : Nat)) < 0x30040)) ∧ (((0x74 : Nat)) ≠ SPL_FADEMAX.MAX.addr))
    ∧ ((((put 2 [(0x3003C, 0x00070000)]).onCs fun u => { u with ready := [[], [], [], [], [], [], [], [3, 9]] }).hostOpen = true) ∧ (Quiet ((put 2 [(0x3003C, 0x00070000)]).onCs fun u => { u with ready := [[], [], [], [], [], [], [], [3, 9]] })) ∧ (((0x3003E : Nat)) % 4 + 2 ≤ 4) ∧ (((0x3003C : Nat)) = ((0x3003E : Nat)) / 4 * 4) ∧ (7 < 8) ∧ (((0x3003C : Nat)) = (CS_QDEPTH.MAX 7).addr))
    ∧ (((put 2 [(0x40014, 9)]).hostOpen = true) ∧ (Quiet (put 2 [(0x40014, 9)])) ∧ (((0x40015 : Nat)) % 4 + 3 ≤ 4) ∧ (((0x40014 : Nat)) = ((0x40015 : Nat)) / 4 * 4) ∧ (((0x40014 : Nat)) = SPL_FADEMAX.MAX.addr))
    ∧ ((((put 2 [(0xE0024, 0x80000051)]).onPin fun u => { u with thMax := some 81 }).hostOpen = true) ∧ (Quiet ((put 2 [(0xE0024, 0x80000051)]).onPin fun u => { u with thMax := some 81 })) ∧ (((0xE0026 : Nat)) / 4 * 4 = 0xE0024) ∧ (((0xE0026 : Nat)) % 4 + 2 ≤ 4))
    ∧ (((put 2 []).hostOpen = true) ∧ (Quiet (put 2 [])) ∧ (((0x2200001 : Nat)) < 2 ^ 40) ∧ (((0x2200001 : Nat)) % 4 + 2 ≤ 4) ∧ (regionOf (((0x2200001 : Nat)) / 4 * 4) (put 2 []) = .none))
    ∧ ((((put 2 []).setWord 0x7000008 0x01020304).hostOpen = true) ∧ (Quiet ((put 2 []).setWord 0x7000008 0x01020304)) ∧ (((0x7000009 : Nat)) < 2 ^ 40) ∧ (((0x7000009 : Nat)) % 4 + 2 ≤ 4) ∧ (regionOf (((0x7000009 : Nat)) / 4 * 4) ((put 2 []).setWord 0x7000008 0x01020304) = .packet ∨ regionOf (((0x7000009 : Nat)) / 4 * 4) ((put 2 []).setWord 0x7000008 0x01020304) = .swap ∨ (regionOf (((0x7000009 : Nat)) / 4 * 4) ((put 2 []).setWord 0x7000008 0x01020304) = .ddr ∧ ((put 2 []).setWord 0x7000008 0x01020304).flag DDR_STAT.READY = true)))
    ∧ ((((put 2 []).setWord 0x7000008 0x01020304).hostOpen = true) ∧ (Quiet ((put 2 []).setWord 0x7000008 0x01020304)) ∧ (((0x7000009 : Nat)) < 2 ^ 40) ∧ (((0x7000009 : Nat)) % 4 + 2 ≤ 4) ∧ (regionOf (((0x7000009 : Nat)) / 4 * 4) ((put 2 []).setWord 0x7000008 0x01020304) = .packet ∨ regionOf (((0x7000009 : Nat)) / 4 * 4) ((put 2 []).setWord 0x7000008 0x01020304) = .swap) ∧ (((⟨2, 3, false⟩ : SramErr)).single = false))
    ∧ ((((put 2 [(0x80200, 0x90000000), (0x80204, 0x80000000), (0xD0080, 1)]).setWord 0x110000008 9).hostOpen = true) ∧ (Quiet ((put 2 [(0x80200, 0x90000000), (0x80204, 0x80000000), (0xD0080, 1)]).setWord 0x110000008 9)) ∧ (8 < 2 ^ 28) ∧ (8 % 4 + 4 ≤ 4) ∧ (((put 2 [(0x80200, 0x90000000), (0x80204, 0x80000000), (0xD0080, 1)]).setWord 0x110000008 9).flag DDR_STAT.READY = true) ∧ (barAddr 8 ((put 2 [(0x80200, 0x90000000), (0x80204, 0x80000000), (0xD0080, 1)]).setWord 0x110000008 9) / 4 * 4 < 0x100000000 + ((put 2 [(0x80200, 0x90000000), (0x80204, 0x80000000), (0xD0080, 1)]).setWord 0x110000008 9).ddrBytes))
    ∧ (((put 2 [(0x63000, 4)]).hostOpen = true) ∧ (Quiet (put 2 [(0x63000, 4)])) ∧ ((put 2 [(0x63000, 4)]).bufUse 1 < (put 2 [(0x63000, 4)]).bufMax 1) ∧ (9 < 2048) ∧ (((put 2 [(0x63000, 4)]).net.bufs.any fun b => b.1 = 9) = false))
    ∧ (((put 2 [(0x63000, 0)]).hostOpen = true) ∧ (Quiet (put 2 [(0x63000, 0)])) ∧ ((put 2 [(0x63000, 0)]).bufMax 1 ≤ (put 2 [(0x63000, 0)]).bufUse 1))
    ∧ ((((put 2 []).onNet fun u => { u with bufs := [(5, ⟨1, 1, 1⟩)] }).hostOpen = true) ∧ (Quiet ((put 2 []).onNet fun u => { u with bufs := [(5, ⟨1, 1, 1⟩)] })) ∧ ((((put 2 []).onNet fun u => { u with bufs := [(5, ⟨1, 1, 1⟩)] }).net.bufs.any fun b => b.1 = (5#32).toNat % 2048 ∧ b.2.own = 1) = true)) := by
  (repeat' apply And.intro) <;> decide

set_option maxRecDepth 100000 in
/-- The hypotheses of HostMemoryWrites are met. -/
theorem test_witness_HostMemoryWrites :
    (((put 2 []).hostOpen = true) ∧ (Quiet (put 2 [])) ∧ ((0x6000000 ≤ ((0x603FFFE : Nat)) ∧ ((0x603FFFE : Nat)) + (([1#8, 2#8, 3#8] : List Byte)).length ≤ 0x6400000) ∨ (0x7000000 ≤ ((0x603FFFE : Nat)) ∧ ((0x603FFFE : Nat)) + (([1#8, 2#8, 3#8] : List Byte)).length ≤ 0x7040000)))
    ∧ (((put 2 [(0x80200, 0x90000000), (0x80204, 0x80000000), (0xD0080, 1)]).hostOpen = true) ∧ (Quiet (put 2 [(0x80200, 0x90000000), (0x80204, 0x80000000), (0xD0080, 1)])) ∧ (((0x110000008 : Nat)) = barAddr (8 % 0x10000000) (put 2 [(0x80200, 0x90000000), (0x80204, 0x80000000), (0xD0080, 1)])) ∧ ((([1#8, 2#8, 3#8, 4#8] : List Byte)).length = 4) ∧ (((0x110000008 : Nat)) % 4 = 0) ∧ (((0x110000008 : Nat)) < 0x100000000 + (put 2 [(0x80200, 0x90000000), (0x80204, 0x80000000), (0xD0080, 1)]).ddrBytes) ∧ ((put 2 [(0x80200, 0x90000000), (0x80204, 0x80000000), (0xD0080, 1)]).flag DDR_STAT.READY = true) ∧ (inLineRange ((0x110000008 : Nat)) (put 2 [(0x80200, 0x90000000), (0x80204, 0x80000000), (0xD0080, 1)]) = false))
    ∧ (((put 2 []).hostOpen = true) ∧ (Quiet (put 2 [])) ∧ (17 < 18) ∧ (((0x1FFFE : Nat)) + (([1#8, 2#8] : List Byte)).length ≤ 0x20000) ∧ ((put 2 []).fab.t1q = []) ∧ (engClosed 17 (put 2 []) = false))
    ∧ (((put 2 []).hostOpen = true) ∧ (Quiet (put 2 [])) ∧ (0 < 18) ∧ (((0x1FFFE : Nat)) + (([1#8, 2#8] : List Byte)).length ≤ (if true then 0x20000 else 0x40000)) ∧ ((put 2 []).fab.t1q = []) ∧ (engClosed 0 (put 2 []) = false) ∧ (((0x10BFFFE : Nat)) = engWin 0 + (if true then 0xA0000 else 0x40000) + ((0x1FFFE : Nat))))
    ∧ (((put 2 []).hostOpen = true) ∧ (Quiet (put 2 [])) ∧ (0 < 18) ∧ (2 + (([1#8, 2#8, 3#8] : List Byte)).length ≤ 0x10000) ∧ ((([1#8, 2#8, 3#8] : List Byte)) ≠ []) ∧ ((put 2 []).fab.t1q = []) ∧ (engClosed 0 (put 2 []) = false) ∧ ((put 2 []).flag (ENG_STAT.SLATE_READY 0) = true) ∧ (((put 2 []).engine 0).held = []) ∧ (((0x1090002 : Nat)) = engWin 0 + (if (put 2 []).livePage 0 then 0x80000 else 0x90000) + 2))
    ∧ (((put 2 [(0xF0004, 3)]).hostOpen = true) ∧ (Quiet (put 2 [(0xF0004, 3)])) ∧ (0 < 18) ∧ (2 + (([1#8, 2#8, 3#8] : List Byte)).length ≤ 0x10000) ∧ (engClosed 0 (put 2 [(0xF0004, 3)]) = false) ∧ ((put 2 [(0xF0004, 3)]).flag (ENG_STAT.SLATE_READY 0) = false))
    ∧ ((((put 2 []).onFab fun u => { u with t1q := [⟨0x1080002, [1#8], 0, none⟩] }).hostOpen = true) ∧ (Quiet ((put 2 []).onFab fun u => { u with t1q := [⟨0x1080002, [1#8], 0, none⟩] })) ∧ (17 < 18) ∧ (((0x1FFFE : Nat)) + (([1#8, 2#8] : List Byte)).length ≤ 0x20000) ∧ (((put 2 []).onFab fun u => { u with t1q := [⟨0x1080002, [1#8], 0, none⟩] }).fab.t1q ≠ []))
    ∧ ((((onEngine 0 (fun u => { u with held := [(0x80003, 7#8), (0x80003, 9#8)] }) (put 2 []))).hostOpen = true) ∧ (Quiet ((onEngine 0 (fun u => { u with held := [(0x80003, 7#8), (0x80003, 9#8)] }) (put 2 [])))) ∧ (0 < 18) ∧ (((onEngine 0 (fun u => { u with held := [(0x80003, 7#8), (0x80003, 9#8)] }) (put 2 []))).flag (ENG_STAT.SLATE_READY 0) = true) ∧ ((((onEngine 0 (fun u => { u with held := [(0x80003, 7#8), (0x80003, 9#8)] }) (put 2 []))).engine 0).held ≠ []) ∧ (((onEngine 0 (fun u => { u with held := [(0x80003, 7#8), (0x80003, 9#8)] }) (put 2 []))).fab.t1q = []) ∧ (0x80000 ≤ ((0x80003 : Nat))) ∧ (((0x80003 : Nat)) < 0x90000) ∧ (((0x1090003 : Nat)) = engWin 0 + viewOff 0 ((0x80003 : Nat)) ((onEngine 0 (fun u => { u with held := [(0x80003, 7#8), (0x80003, 9#8)] }) (put 2 [])))))
    ∧ ((((put 2 []).onFab fun u => { u with t1q := [⟨0x1080002, [1#8, 2#8], 0, none⟩] }).hostOpen = true) ∧ (Quiet ((put 2 []).onFab fun u => { u with t1q := [⟨0x1080002, [1#8, 2#8], 0, none⟩] })) ∧ (0 < 18) ∧ (((put 2 []).onFab fun u => { u with t1q := [⟨0x1080002, [1#8, 2#8], 0, none⟩] }).flag (ENG_STAT.SLATE_READY 0) = true) ∧ ((((put 2 []).onFab fun u => { u with t1q := [⟨0x1080002, [1#8, 2#8], 0, none⟩] }).engine 0).held = []) ∧ (engClosed 0 ((put 2 []).onFab fun u => { u with t1q := [⟨0x1080002, [1#8, 2#8], 0, none⟩] }) = false) ∧ (0x80000 ≤ ((0x80002 : Nat))) ∧ (((0x80002 : Nat)) + (([1#8, 2#8] : List Byte)).length ≤ 0x90000) ∧ ((([1#8, 2#8] : List Byte)) ≠ []) ∧ (((put 2 []).onFab fun u => { u with t1q := [⟨0x1080002, [1#8, 2#8], 0, none⟩] }).fab.t1q = [⟨engWin 0 + ((0x80002 : Nat)), (([1#8, 2#8] : List Byte)), 0, none⟩]) ∧ (((0x1090002 : Nat)) = engWin 0 + viewOff 0 ((0x80002 : Nat)) ((put 2 []).onFab fun u => { u with t1q := [⟨0x1080002, [1#8, 2#8], 0, none⟩] }))) := by
  (repeat' apply And.intro) <;> decide

set_option maxRecDepth 100000 in
/-- The hypotheses of EngineControlByTheHost are met. -/
theorem test_witness_EngineControlByTheHost :
    (((put 10 [(0xE004, 0x81)]).hostOpen = true) ∧ (Quiet (put 10 [(0xE004, 0x81)])) ∧ (16 < 18) ∧ ((put 10 [(0xE004, 0x81)]).mode = 10 ∨ (put 10 [(0xE004, 0x81)]).mode = 11) ∧ ((put 10 [(0xE004, 0x81)]).engState 16 = 0 ∨ (put 10 [(0xE004, 0x81)]).engState 16 = 1))
    ∧ ((((onEngine 16 (fun u => { u with haltedRun := true }) (put 10 [(0xE004, 0x82)]))).hostOpen = true) ∧ (Quiet ((onEngine 16 (fun u => { u with haltedRun := true }) (put 10 [(0xE004, 0x82)])))) ∧ (16 < 18) ∧ (((onEngine 16 (fun u => { u with haltedRun := true }) (put 10 [(0xE004, 0x82)]))).mode = 10 ∨ ((onEngine 16 (fun u => { u with haltedRun := true }) (put 10 [(0xE004, 0x82)]))).mode = 11) ∧ (((onEngine 16 (fun u => { u with haltedRun := true }) (put 10 [(0xE004, 0x82)]))).engState 16 = 2) ∧ ((((onEngine 16 (fun u => { u with haltedRun := true }) (put 10 [(0xE004, 0x82)]))).engine 16).haltedRun = true))
    ∧ (((put 10 [(0xE004, 0x82), (0xE100, 0x700)]).hostOpen = true) ∧ (Quiet (put 10 [(0xE004, 0x82), (0xE100, 0x700)])) ∧ (16 < 18) ∧ ((put 10 [(0xE004, 0x82), (0xE100, 0x700)]).engState 16 = 2) ∧ (7 = (put 10 [(0xE004, 0x82), (0xE100, 0x700)]).getF (ENG_DBGSEL.LANE 16)) ∧ (0 = (put 10 [(0xE004, 0x82), (0xE100, 0x700)]).getF (ENG_DBGSEL.INDEX 16)))
    ∧ ((((onEngine 16 (fun u => { u with haltedRun := true }) (put 10 [(0xE000, 0x100), (0xE004, 0x82)]))).hostOpen = true) ∧ (Quiet ((onEngine 16 (fun u => { u with haltedRun := true }) (put 10 [(0xE000, 0x100), (0xE004, 0x82)])))) ∧ (16 < 18) ∧ (((onEngine 16 (fun u => { u with haltedRun := true }) (put 10 [(0xE000, 0x100), (0xE004, 0x82)]))).mode = 10 ∨ ((onEngine 16 (fun u => { u with haltedRun := true }) (put 10 [(0xE000, 0x100), (0xE004, 0x82)]))).mode = 11) ∧ (((onEngine 16 (fun u => { u with haltedRun := true }) (put 10 [(0xE000, 0x100), (0xE004, 0x82)]))).flag (ENG_CTRL.HALT 16) = true) ∧ (((onEngine 16 (fun u => { u with haltedRun := true }) (put 10 [(0xE000, 0x100), (0xE004, 0x82)]))).engState 16 = 2) ∧ ((((onEngine 16 (fun u => { u with haltedRun := true }) (put 10 [(0xE000, 0x100), (0xE004, 0x82)]))).engine 16).haltedRun = true)) := by
  (repeat' apply And.intro) <;> decide

set_option maxRecDepth 100000 in
/-- The hypotheses of RegisterWritesOfSystemUnits are met. -/
theorem test_witness_RegisterWritesOfSystemUnits :
    (((put 2 [(0x90040, 0x80000000), (0x90044, 5)]).hostOpen = true) ∧ (Quiet (put 2 [(0x90040, 0x80000000), (0x90044, 5)])))
    ∧ (((put 11 [(FLT_INJADDR.ADDR.addr, 77)]).hostOpen = true) ∧ (Quiet (put 11 [(FLT_INJADDR.ADDR.addr, 77)])) ∧ ((put 11 [(FLT_INJADDR.ADDR.addr, 77)]).mode = 10 ∨ (put 11 [(FLT_INJADDR.ADDR.addr, 77)]).mode = 11) ∧ ((sevDefault (((0x41 : Nat)) % 256)).isSome = true) ∧ ((put 11 [(FLT_INJADDR.ADDR.addr, 77)]).flag FLT_FIRST.VALID = false))
    ∧ ((((onTask 9 (fun t => { t with wmax := 4, wmin := 1 }) (put 4 [(0x30400, 9)]))).hostOpen = true) ∧ (Quiet ((onTask 9 (fun t => { t with wmax := 4, wmin := 1 }) (put 4 [(0x30400, 9)])))) ∧ (9 = ((onTask 9 (fun t => { t with wmax := 4, wmin := 1 }) (put 4 [(0x30400, 9)]))).getF CS_TSEL.TASK))
    ∧ (((put 2 []).hostOpen = true) ∧ (Quiet (put 2 [])) ∧ ((put 2 []).mode = 2) ∧ (10 ≤ 50) ∧ (50 ≤ 50) ∧ (((List.range 16).all fun le => fits (tasksWith (fun t => t.live && t.logeng = le) (put 2 [])) (admitLimit 50 (put 2 []))) = true))
    ∧ (((put 2 []).hostOpen = true) ∧ (Quiet (put 2 [])))
    ∧ (((put 4 [(0xB4000 + 4 * 31, 5), (0xB1000 + 0x100 * 17 + 28, 6)]).hostOpen = true) ∧ (Quiet (put 4 [(0xB4000 + 4 * 31, 5), (0xB1000 + 0x100 * 17 + 28, 6)])) ∧ (31 < 32) ∧ (17 < 18) ∧ (7 < 8))
    ∧ (((put 4 []).hostOpen = true) ∧ (Quiet (put 4 [])))
    ∧ (((put 4 []).hostOpen = true) ∧ (Quiet (put 4 [])) ∧ (((0xFF000001#32 : Word)).toNat % 2 ^ 24 ≠ 0))
    ∧ (((put 4 []).hostOpen = true) ∧ (Quiet (put 4 [])) ∧ (31 < 32))
    ∧ (((put 4 []).hostOpen = true) ∧ (Quiet (put 4 [])) ∧ (17 < 18) ∧ (7 < 8))
    ∧ (((put 4 []).hostOpen = true) ∧ (Quiet (put 4 [])) ∧ (255 < 256) ∧ (3 = bits ((0x30001#32 : Word)).toNat 16 8) ∧ (3 ≠ 0) ∧ (((0x30001#32 : Word)).toNat % 65536 ≠ 0)) := by
  (repeat' apply And.intro) <;> decide

set_option maxRecDepth 100000 in
/-- The hypotheses of RegisterWrites are met. -/
theorem test_witness_RegisterWrites :
    (((put 2 []).hostOpen = true) ∧ (Quiet (put 2 [])) ∧ (((0x30400 : Nat)) ∈ [0x30400, 0x40040, 0x70460, 0x80308, 0xA0500, 0xC0140, 0xE0100]) ∧ (regRow ((0x30400 : Nat)) = some ((⟨0x30400, 1, 0x4, 1, 0x4, 0x0, 0xFFF, 0x0, 0x0, 0x0⟩ : RegRow))) ∧ ((put 2 []).cmd.waiting = []))
    ∧ (((put 2 [(0xD0010, 0x40)]).hostOpen = true) ∧ (Quiet (put 2 [(0xD0010, 0x40)])) ∧ ((put 2 [(0xD0010, 0x40)]).flag CMD_CTRL.RINGS_EN = false))
    ∧ (((put 2 [(0xD0000, 5)]).hostOpen = true) ∧ (Quiet (put 2 [(0xD0000, 5)])) ∧ (2 < 3) ∧ (4096 = (4096#32).toNat % 8192) ∧ (2 ≤ 4096) ∧ (4096 ≤ 4096) ∧ ((put 2 [(0xD0000, 5)]).flag CMD_CTRL.RINGS_EN = true))
    ∧ (((put 2 []).hostOpen = true) ∧ (Quiet (put 2 [])) ∧ (0 < 3) ∧ (2 = (2#32).toNat % 8192) ∧ (2 ≤ 2) ∧ (2 ≤ 4096) ∧ ((put 2 []).flag CMD_CTRL.RINGS_EN = false))
    ∧ (((put 2 []).hostOpen = true) ∧ (Quiet (put 2 [])) ∧ (31 < 32) ∧ (((0x80000000#32 : Word)).toNat = 2 ^ 31 + (put 2 []).getF PIN_GPIO_EN.CLAIM) ∧ (bitOf ((put 2 []).getF PIN_GPIO_EN.CLAIM) 31 = false) ∧ (bankOn (gpioBall 31) (put 2 []) = true) ∧ ((put 2 []).pinClaim (gpioBall 31) = none))
    ∧ ((Quiet (put 2 [])) ∧ ((put 2 []).mode = 1 ∨ (put 2 []).mode = 2) ∧ ((put 2 []).flag DDR_CFG.EN = false) ∧ (bits ((0xC0000000#32 : Word)).toNat 28 3 ≤ 4) ∧ (bits ((0xC0000000#32 : Word)).toNat 24 2 ≠ 3) ∧ (bitOf ((0xC0000000#32 : Word)).toNat 31 = true) ∧ (bits ((0xC0000000#32 : Word)).toNat 28 3 ≠ 0))
    ∧ (((put 4 []).hostOpen = true) ∧ (Quiet (put 4 [])) ∧ (bits ((0x5A5A0001#32 : Word)).toNat 16 16 = 0x5A5A) ∧ (bitOf ((0x5A5A0001#32 : Word)).toNat 0 = true)) := by
  (repeat' apply And.intro) <;> decide

set_option maxRecDepth 100000 in
/-- The hypotheses of SerialRegisterWrites are met. -/
theorem test_witness_SerialRegisterWrites :
    (((put 4 []).hostOpen = true) ∧ (Quiet (put 4 [])) ∧ (63 < 64) ∧ (4096 = bits (4096#32).toNat 0 13) ∧ (2 ≤ 4096) ∧ (4096 ≤ 4096) ∧ (4096 ≠ (if true then (put 4 []).getF (SP_PLY_CFG.LEN 63) else (put 4 []).getF (SP_CAP_CFG.LEN 63))))
    ∧ (((put 4 []).hostOpen = true) ∧ (Quiet (put 4 [])) ∧ (63 < 64) ∧ ((1#32).toNat % 4096 < ((put 4 []).port 63).capLen))
    ∧ (((put 4 []).hostOpen = true) ∧ (Quiet (put 4 [])) ∧ (0 < 64) ∧ (((0xF000#32 : Word)).toNat % 4096 < ((put 4 []).port 0).plyLen) ∧ (((put 4 []).port 0).plyNew = none ∨ (put 4 []).getF (SP_PLY_WPTR.PTR 0) ≤ ((0xF000#32 : Word)).toNat % 4096))
    ∧ ((((onPort 63 (fun u => { u with plyNew := some 8 }) (put 4 [])).setF (SP_PLY_WPTR.PTR 63) 7).hostOpen = true) ∧ (Quiet ((onPort 63 (fun u => { u with plyNew := some 8 }) (put 4 [])).setF (SP_PLY_WPTR.PTR 63) 7)) ∧ (63 < 64) ∧ ((1#32).toNat % 4096 < (((onPort 63 (fun u => { u with plyNew := some 8 }) (put 4 [])).setF (SP_PLY_WPTR.PTR 63) 7).port 63).plyLen) ∧ ((((onPort 63 (fun u => { u with plyNew := some 8 }) (put 4 [])).setF (SP_PLY_WPTR.PTR 63) 7).port 63).plyNew = some 8) ∧ ((1#32).toNat % 4096 < ((onPort 63 (fun u => { u with plyNew := some 8 }) (put 4 [])).setF (SP_PLY_WPTR.PTR 63) 7).getF (SP_PLY_WPTR.PTR 63)))
    ∧ (((put 4 [(0x54000, 0x80400000)]).hostOpen = true) ∧ (Quiet (put 4 [(0x54000, 0x80400000)])) ∧ (63 < 64) ∧ ((put 4 [(0x54000, 0x80400000)]).flag (CG_CFG.ENABLE ((put 4 [(0x54000, 0x80400000)]).cgOf 63)) = true) ∧ (((0xFF#32 : Word)).toNat < 2 ^ (put 4 [(0x54000, 0x80400000)]).getF (CG_CFG.SLOTS ((put 4 [(0x54000, 0x80400000)]).cgOf 63))))
    ∧ ((portReady.hostOpen = true) ∧ (Quiet portReady) ∧ (63 < 64) ∧ (portReady.flag (SP_CTRL.IN_EN 63) = !true) ∧ (true = true → portStartStatus 63 false portReady = 0))
    ∧ (((put 4 [(0x50004, 0x40000000)]).hostOpen = true) ∧ (Quiet (put 4 [(0x50004, 0x40000000)])) ∧ (0 < 64) ∧ ((put 4 [(0x50004, 0x40000000)]).flag (SP_CTRL.OUT_EN 0) = !false) ∧ (false = true → portStartStatus 0 true (put 4 [(0x50004, 0x40000000)]) = 0))
    ∧ (((put 4 []).hostOpen = true) ∧ (Quiet (put 4 [])) ∧ (63 < 64))
    ∧ (((put 4 []).hostOpen = true) ∧ (Quiet (put 4 [])) ∧ (63 < 64))
    ∧ (((put 4 []).hostOpen = true) ∧ (Quiet (put 4 [])) ∧ (15 < 16) ∧ (((0xC0140000 : Nat)) = ((0xC0140000#32 : Word)).toNat &&& 0xFFFFE000) ∧ (cgCheck 15 ((0xC0140000 : Nat)) (put 4 []) = 0) ∧ (bitOf ((0xC0140000 : Nat)) 31 = true) ∧ ((put 4 []).flag (CG_CFG.ENABLE 15) = false) ∧ (([8, 9, 10, 11].all fun k => !(put 4 []).flag (CLK_CANDST.ACTIVE k)) = true))
    ∧ (((put 4 [(0x541E0, 0xC0140000)]).hostOpen = true) ∧ (Quiet (put 4 [(0x541E0, 0xC0140000)])) ∧ (15 < 16) ∧ (((0x40140000 : Nat)) = ((0x40140000#32 : Word)).toNat &&& 0xFFFFE000) ∧ (bitOf ((0x40140000 : Nat)) 31 = false) ∧ ((put 4 [(0x541E0, 0xC0140000)]).flag (CG_CFG.ENABLE 15) = true) ∧ (groupUsed 15 (put 4 [(0x541E0, 0xC0140000)]) = false) ∧ (([8, 9, 10, 11].all fun k => !(put 4 [(0x541E0, 0xC0140000)]).flag (CLK_CANDST.ACTIVE k)) = true))
    ∧ (((put 4 []).hostOpen = true) ∧ (Quiet (put 4 [])) ∧ (15 < 16) ∧ (((0x7FFFE000 : Nat)) = ((0x7FFFFFFF#32 : Word)).toNat &&& 0xFFFFE000) ∧ (bitOf ((0x7FFFE000 : Nat)) 31 = (put 4 []).flag (CG_CFG.ENABLE 15)) ∧ (bitOf ((0x7FFFE000 : Nat)) 31 = true → ((0x7FFFE000 : Nat)) = ((put 4 []).reg (0x54000 + 0x20 * 15)).toNat) ∧ (([8, 9, 10, 11].all fun k => !(put 4 []).flag (CLK_CANDST.ACTIVE k)) = true)) := by
  (repeat' apply And.intro) <;> decide

set_option maxRecDepth 100000 in
/-- The hypotheses of NetworkRegisterWrites are met. -/
theorem test_witness_NetworkRegisterWrites :
    ((((onNRing true 7 (fun u => { u with own := [(2, [0, 0, 0, 0])] }) (put 4 [(0x622EC, 3), (0x622F0, 3)]))).hostOpen = true) ∧ (Quiet ((onNRing true 7 (fun u => { u with own := [(2, [0, 0, 0, 0])] }) (put 4 [(0x622EC, 3), (0x622F0, 3)])))) ∧ (7 < 8))
    ∧ ((((put 4 [(0x620EC, 3)]).onNet fun u => { u with rxDesc := [(7 * 4096 + 1, 5)], bufs := [(5, ⟨1, 1, 3⟩)] }).hostOpen = true) ∧ (Quiet ((put 4 [(0x620EC, 3)]).onNet fun u => { u with rxDesc := [(7 * 4096 + 1, 5)], bufs := [(5, ⟨1, 1, 3⟩)] })) ∧ (7 < 8))
    ∧ (((put 4 []).hostOpen = true) ∧ (Quiet (put 4 [])) ∧ (7 < 8) ∧ (255 = (255#32).toNat % 4096) ∧ (255 < ((put 4 []).nring false 7).len))
    ∧ (((put 4 []).hostOpen = true) ∧ (Quiet (put 4 [])) ∧ (7 < 8) ∧ ((2#32).toNat % 4096 < ((put 4 []).nring true 7).len))
    ∧ (((put 4 []).hostOpen = true) ∧ (Quiet (put 4 [])) ∧ (7 < 8) ∧ (2 = (2#32).toNat % 4096) ∧ (((⟨256, none, [], []⟩ : NRing)) = (put 4 []).nring true 7) ∧ (2 < ((⟨256, none, [], []⟩ : NRing)).len) ∧ (((⟨256, none, [], []⟩ : NRing)).staged = none) ∧ ((put 4 []).flag (NET_TXCTRL.EN 7) = false))
    ∧ (((put 4 []).hostOpen = true) ∧ (Quiet (put 4 [])) ∧ (7 < 8) ∧ (4096 = (4096#32).toNat % 8192) ∧ (2 ≤ 4096) ∧ (4096 ≤ 4096))
    ∧ (((put 4 []).hostOpen = true) ∧ (Quiet (put 4 [])) ∧ (3 < 5) ∧ (((0x5F2 : Nat)) = bits ((0xA00005F2#32 : Word)).toNat 0 14) ∧ (1522 ≤ ((0x5F2 : Nat))) ∧ (((0x5F2 : Nat)) ≤ 9216)) := by
  (repeat' apply And.intro) <;> decide

set_option maxRecDepth 100000 in
/-- The hypotheses of TimingRegisterWrites are met. -/
theorem test_witness_TimingRegisterWrites :
    (((put 4 []).hostOpen = true) ∧ (Quiet (put 4 [])) ∧ (3 < 4) ∧ ((put 4 []).flag (DL_CK.EN 3) = false) ∧ (bitOf ((0xC0000000#32 : Word)).toNat 31 = true) ∧ (bankOn (161 + 3) (put 4 []) = true) ∧ ((put 4 []).pinClaim (161 + 3) = none))
    ∧ ((((put 4 []).setF (DL_CK.EN 3) 1).hostOpen = true) ∧ (Quiet ((put 4 []).setF (DL_CK.EN 3) 1)) ∧ (3 < 4) ∧ (((put 4 []).setF (DL_CK.EN 3) 1).flag (DL_CK.EN 3) = true) ∧ (bitOf (0#32).toNat 31 = false) ∧ (bits (0#32).toNat 30 1 = ((put 4 []).setF (DL_CK.EN 3) 1).getF (DL_CK.OSR 3)) ∧ (((List.range 32).all fun l => !(((put 4 []).setF (DL_CK.EN 3) 1).flag (DL_LCFG.EN l) && ((put 4 []).setF (DL_CK.EN 3) 1).getF (DL_LCFG.CK l) = 3)) = true))
    ∧ ((laneReady.hostOpen = true) ∧ (Quiet laneReady) ∧ (31 < 32) ∧ (laneReady.flag (DL_LCFG.EN 31) = false) ∧ (bitOf ((0x80000000#32 : Word)).toNat 31 = true) ∧ (laneStartStatus 31 (laneReady.setReg (0x70100 + 0x10 * 31) (wd (((0x80000000#32 : Word)).toNat &&& 0x78000000))) = 0))
    ∧ (((laneReady.setF (DL_LCFG.EN 31) 1).hostOpen = true) ∧ (Quiet (laneReady.setF (DL_LCFG.EN 31) 1)) ∧ (31 < 32) ∧ ((laneReady.setF (DL_LCFG.EN 31) 1).flag (DL_LCFG.EN 31) = true) ∧ (bitOf (0#32).toNat 31 = false) ∧ (bits (0#32).toNat 27 4 = bits ((laneReady.setF (DL_LCFG.EN 31) 1).reg (0x70100 + 0x10 * 31)).toNat 27 4))
    ∧ (((put 4 []).hostOpen = true) ∧ (Quiet (put 4 [])) ∧ (31 < 32) ∧ ((put 4 []).flag (DL_LCFG.EN 31) = false) ∧ (bitOf ((0x7FFFFFFF#32 : Word)).toNat 31 = false))
    ∧ ((((put 4 []).setF CLK_MCLK.EN 1).hostOpen = true) ∧ (Quiet ((put 4 []).setF CLK_MCLK.EN 1)) ∧ (((put 4 []).setF CLK_MCLK.EN 1).flag CLK_MCLK.EN = true) ∧ (bitOf (0#32).toNat 31 = false) ∧ (bits (0#32).toNat 30 1 = ((put 4 []).setF CLK_MCLK.EN 1).getF CLK_MCLK.SEL))
    ∧ (((put 4 []).hostOpen = true) ∧ (Quiet (put 4 [])) ∧ ((put 4 []).flag CLK_MCLK.EN = false) ∧ (bitOf ((0xC0000000#32 : Word)).toNat 31 = true) ∧ (bankOn 160 (put 4 []) = true) ∧ ((put 4 []).pinClaim 160 = none))
    ∧ (((put 4 [(0x20010, 0x80000000), (0x20400 + 0x20 * 31 + 4, 5000)]).hostOpen = true) ∧ (Quiet (put 4 [(0x20010, 0x80000000), (0x20400 + 0x20 * 31 + 4, 5000)])) ∧ (31 < 32) ∧ (((0xB0000001 : Nat)) = ((0xB0000001#32 : Word)).toNat &&& 0xFFFCFFFF) ∧ (bitOf ((0xB0000001 : Nat)) 31 = true) ∧ (trigCheck 31 ((0xB0000001 : Nat)) ((put 4 [(0x20010, 0x80000000), (0x20400 + 0x20 * 31 + 4, 5000)]).getF (CLP_TT1.SEC 31) + 2 ^ 32 * (put 4 [(0x20010, 0x80000000), (0x20400 + 0x20 * 31 + 4, 5000)]).getF (CLP_TT2.SEC 31)) ((put 4 [(0x20010, 0x80000000), (0x20400 + 0x20 * 31 + 4, 5000)]).getF (CLP_TT0.NS 31)) ((put 4 [(0x20010, 0x80000000), (0x20400 + 0x20 * 31 + 4, 5000)]).getF (CLP_TPER.NS 31)) ((put 4 [(0x20010, 0x80000000), (0x20400 + 0x20 * 31 + 4, 5000)]).getF (CLP_TCNT.COUNT 31)) (put 4 [(0x20010, 0x80000000), (0x20400 + 0x20 * 31 + 4, 5000)]) = 0))
    ∧ (((put 4 [(0x20400 + 0x20 * 31, 0xB0000001)]).hostOpen = true) ∧ (Quiet (put 4 [(0x20400 + 0x20 * 31, 0xB0000001)])) ∧ (31 < 32) ∧ (bitOf ((0x30000001#32 : Word)).toNat 31 = false) ∧ ((put 4 [(0x20400 + 0x20 * 31, 0xB0000001)]).flag (CLP_TCFG.EN 31) = true) ∧ (trigNamed 31 (put 4 [(0x20400 + 0x20 * 31, 0xB0000001)]) = false))
    ∧ (((put 4 []).hostOpen = true) ∧ (Quiet (put 4 [])) ∧ (31 < 32) ∧ (bitOf ((0x30000001#32 : Word)).toNat 31 = false) ∧ ((put 4 []).flag (CLP_TCFG.EN 31) = false))
    ∧ (((put 4 []).hostOpen = true) ∧ (Quiet (put 4 [])) ∧ (15 < 16) ∧ (((0xA000001F : Nat)) = ((0xA000001F#32 : Word)).toNat &&& 0xF000001F) ∧ (bitOf ((0xA000001F : Nat)) 31 = true) ∧ (bits ((0xA000001F : Nat)) 29 2 ≠ 0) ∧ ((put 4 []).flag (CLP_CCFG.EN 15) = false) ∧ (bankOn (gpioBall (bits ((0xA000001F : Nat)) 0 5)) (put 4 []) = true) ∧ ((put 4 []).pinClaim (gpioBall (bits ((0xA000001F : Nat)) 0 5)) = none))
    ∧ (((put 4 [(0x20800 + 0x20 * 15, 0xA000001F)]).hostOpen = true) ∧ (Quiet (put 4 [(0x20800 + 0x20 * 15, 0xA000001F)])) ∧ (15 < 16) ∧ (bitOf ((0x3000001F#32 : Word)).toNat 31 = false) ∧ ((put 4 [(0x20800 + 0x20 * 15, 0xA000001F)]).flag (CLP_CCFG.EN 15) = true))
    ∧ (((put 4 []).hostOpen = true) ∧ (Quiet (put 4 [])) ∧ (15 < 16) ∧ (bitOf ((0x7FFFFFFF#32 : Word)).toNat 31 = false) ∧ (bits ((0x7FFFFFFF#32 : Word)).toNat 29 2 ≠ 0) ∧ ((put 4 []).flag (CLP_CCFG.EN 15) = false))
    ∧ ((((put 4 []).setF (CLK_CAND.EN 11) 1).hostOpen = true) ∧ (Quiet ((put 4 []).setF (CLK_CAND.EN 11) 1)) ∧ (1 ≤ 11) ∧ (11 < 12) ∧ (candBad 11 (((0x00100003#32 : Word)).toNat &&& 0xF8FFF3FF) ((put 4 []).setF (CLK_CAND.EN 11) 1) = false))
    ∧ (((put 4 []).hostOpen = true) ∧ (Quiet (put 4 [])) ∧ (1 ≤ 11) ∧ (11 < 12) ∧ (candBad 11 (((0x00100010#32 : Word)).toNat &&& 0xF8FFF3FF) (put 4 []) = true))
    ∧ (((put 4 [(0x10004, 0x00200000), (0x10114, 0x40000000)]).hostOpen = true) ∧ (Quiet (put 4 [(0x10004, 0x00200000), (0x10114, 0x40000000)])) ∧ (1 ≤ 1) ∧ (1 < 7) ∧ (candBad 1 (((0x80100000#32 : Word)).toNat &&& 0xF8FFF3FF) (put 4 [(0x10004, 0x00200000), (0x10114, 0x40000000)]) = false) ∧ ((put 4 [(0x10004, 0x00200000), (0x10114, 0x40000000)]).flag (CLK_CAND.EN 1) = false) ∧ (bitOf ((0x80100000#32 : Word)).toNat 31 = true) ∧ ((put 4 [(0x10004, 0x00200000), (0x10114, 0x40000000)]).flag (CLK_CANDST.ACTIVE 1) = true) ∧ ((put 4 [(0x10004, 0x00200000), (0x10114, 0x40000000)]).flag (CLK_CANDST.QUAL 1) = false) ∧ ((put 4 [(0x10004, 0x00200000), (0x10114, 0x40000000)]).flag CLK_STAT.SWITCHING = true))
    ∧ (((put 4 []).hostOpen = true) ∧ (Quiet (put 4 [])) ∧ (bits ((0x8B000001#32 : Word)).toNat 24 4 ≤ 11))
    ∧ (((put 4 []).hostOpen = true) ∧ (Quiet (put 4 [])) ∧ (bitOf ((0x80000000#32 : Word)).toNat 31 = true) ∧ (bits ((0x80000000#32 : Word)).toNat 24 4 = 0) ∧ ((put 4 []).flag CLK_STAT.SWITCHING = false) ∧ ((put 4 []).flag CLK_STAT.RINGFOLLOW = false)) := by
  (repeat' apply And.intro) <;> decide

set_option maxRecDepth 100000 in
/-- The hypotheses of EngineArithmetic are met. -/
theorem test_witness_EngineArithmetic :
    ((Runs opAdd 17 0 ((0x31200000 : Nat)) .clean (engAt 0xe 0x31200000)))
    ∧ ((Runs opAdds 17 0 ((0x31200000 : Nat)) .clean (engAt 0xf 0x31200000)))
    ∧ ((Runs opSub 17 0 ((0x31200000 : Nat)) .clean (engAt 0x10 0x31200000)))
    ∧ ((Runs opSubs 17 0 ((0x31200000 : Nat)) .clean (engAt 0x11 0x31200000)))
    ∧ ((Runs opAbs 17 0 ((0x31000000 : Nat)) .clean (engAt 0x19 0x31000000)))
    ∧ ((Runs opNeg 17 0 ((0x31000000 : Nat)) .clean (engAt 0x1a 0x31000000)))
    ∧ ((Runs opMin 17 0 ((0x31200000 : Nat)) .clean (engAt 0x1b 0x31200000)))
    ∧ ((Runs opMax 17 0 ((0x31200000 : Nat)) .clean (engAt 0x1c 0x31200000)))
    ∧ ((Runs opAddi 17 0 ((0x31fffffe : Nat)) .clean (engAt 0x20 0x31fffffe)))
    ∧ ((Runs opAddis 17 0 ((0x31fffffe : Nat)) .clean (engAt 0x21 0x31fffffe))) := by
  (repeat' apply And.intro) <;> decide

set_option maxRecDepth 100000 in
/-- The hypotheses of EngineLogicAndShifts are met. -/
theorem test_witness_EngineLogicAndShifts :
    ((Runs opAnd 17 0 ((0x31200000 : Nat)) .clean (engAt 0x12 0x31200000)))
    ∧ ((Runs opOr 17 0 ((0x31200000 : Nat)) .clean (engAt 0x13 0x31200000)))
    ∧ ((Runs opXor 17 0 ((0x31200000 : Nat)) .clean (engAt 0x14 0x31200000)))
    ∧ ((Runs opShl 17 0 ((0x31088000 : Nat)) .clean (engAt 0x15 0x31088000)))
    ∧ ((Runs opShls 17 0 ((0x31088000 : Nat)) .clean (engAt 0x16 0x31088000)))
    ∧ ((Runs opShr 17 0 ((0x31088000 : Nat)) .clean (engAt 0x17 0x31088000)))
    ∧ ((Runs opAsr 17 0 ((0x31088000 : Nat)) .clean (engAt 0x18 0x31088000)))
    ∧ ((Runs opClz 17 0 ((0x31000000 : Nat)) .clean (engAt 0x1d 0x31000000)))
    ∧ ((Runs opMov 17 0 ((0x31000000 : Nat)) .clean (engAt 0x1f 0x31000000)))
    ∧ ((Runs opAndi 17 0 ((0x31fffffe : Nat)) .clean (engAt 0x22 0x31fffffe)))
    ∧ ((Runs opOri 17 0 ((0x31fffffe : Nat)) .clean (engAt 0x23 0x31fffffe)))
    ∧ ((Runs opXori 17 0 ((0x31fffffe : Nat)) .clean (engAt 0x24 0x31fffffe)))
    ∧ ((Runs opCmp 17 0 ((0x1200000 : Nat)) .clean (engAt 0x1e 0x1200000)))
    ∧ ((Runs opCmpi 17 0 ((0x1000005 : Nat)) .clean (engAt 0x25 0x1000005))) := by
  (repeat' apply And.intro) <;> decide

set_option maxRecDepth 100000 in
/-- The hypotheses of EngineAccumulators are met. -/
theorem test_witness_EngineAccumulators :
    ((Runs opMpy 17 0 ((0x4480000 : Nat)) .clean (engAt 0x1 0x4480000)))
    ∧ ((Runs opMac 17 0 ((0x4480000 : Nat)) .clean (engAt 0x2 0x4480000)))
    ∧ ((Runs opMns 17 0 ((0x4480000 : Nat)) .clean (engAt 0x3 0x4480000)))
    ∧ ((Runs opMacn 17 0 ((0x34480000 : Nat)) .clean (engAt 0x4 0x34480000)))
    ∧ ((Runs opAclr 17 0 ((0x4000000 : Nat)) .clean (engAt 0x5 0x4000000)))
    ∧ ((Runs opAld 17 0 ((0x14000000 : Nat)) .clean (engAt 0x6 0x14000000)))
    ∧ ((Runs opAldw 17 0 ((0x14020000 : Nat)) .clean (engAt 0x7 0x14020000)))
    ∧ ((Runs opAadd 17 0 ((0x4000000 : Nat)) .clean (engAt 0x8 0x4000000)))
    ∧ ((Runs opAsub 17 0 ((0x4000000 : Nat)) .clean (engAt 0x9 0x4000000)))
    ∧ ((Runs opAsh 17 0 ((0x4fc0000 : Nat)) .clean (engAt 0xa 0x4fc0000)))
    ∧ ((Runs opRnd 17 0 ((0x34040000 : Nat)) .clean (engAt 0xb 0x34040000)))
    ∧ ((Runs opTrn 17 0 ((0x34040000 : Nat)) .clean (engAt 0xc 0x34040000)))
    ∧ ((Runs opAmv 17 0 ((0x34010000 : Nat)) .clean (engAt 0xd 0x34010000))) := by
  (repeat' apply And.intro) <;> decide

set_option maxRecDepth 100000 in
/-- The hypotheses of EngineSpecialAndCursors are met. -/
theorem test_witness_EngineSpecialAndCursors :
    ((Runs opNop 17 0 ((0x0 : Nat)) .clean (engAt 0x0 0x0)))
    ∧ ((Runs opSel 17 0 ((0x31210000 : Nat)) .clean (engAt 0x26 0x31210000)))
    ∧ ((Runs opLog2 17 0 ((0x31000000 : Nat)) .clean (engAt 0x27 0x31000000)))
    ∧ ((Runs opExp2 17 0 ((0x31800000 : Nat)) .clean (engAt 0x28 0x31800000)))
    ∧ ((Runs opDivs 17 0 ((0x31400000 : Nat)) .clean (engAt 0x29 0x31400000)))
    ∧ ((Runs opTli 17 0 ((0x31040000 : Nat)) .clean (engAt 0x2a 0x31040000)) ∧ (storesDue 17 (engAt 0x2a 0x31040000) = []))
    ∧ ((Runs opMova 17 0 ((0x40000005 : Nat)) .clean (engAt 0x2b 0x40000005)))
    ∧ ((Runs opAdda 17 0 ((0x4400ffff : Nat)) .clean (engAt 0x2c 0x4400ffff)))
    ∧ ((Runs opMvda 17 0 ((0x40400000 : Nat)) .clean (engAt 0x2d 0x40400000)))
    ∧ ((Runs opMvad 17 0 ((0x34400000 : Nat)) .clean (engAt 0x2e 0x34400000)))
    ∧ ((Runs opRdpc 17 0 ((0x32000000 : Nat)) .clean (engAt 0x2f 0x32000000))) := by
  (repeat' apply And.intro) <;> decide

set_option maxRecDepth 100000 in
/-- The hypotheses of EngineControlFlow are met. -/
theorem test_witness_EngineControlFlow :
    ((RunsLong 0x30 17 0 ((0xe1d950c8400000 : Nat)) .clean (engLong 0x30 0xe1d950c8400000)) ∧ (((0xe1d950c8400000 : Nat)) % 2 ^ 22 = 0) ∧ (runsOut ((engLong 0x30 0xe1d950c8400000).pcOf 17) ((engLong 0x30 0xe1d950c8400000).bank 17).loops = false))
    ∧ ((RunsLong 0x31 17 0 ((0x3fff : Nat)) .clean (engLong 0x31 0x3fff)) ∧ (((0x3fff : Nat)) < 2 ^ 14) ∧ (atLoopEnd ((engLong 0x31 0x3fff).pcOf 17) ((engLong 0x31 0x3fff).bank 17).loops = false))
    ∧ ((RunsLong 0x32 17 0 ((0x4011 : Nat)) .clean (engLong 0x32 0x4011)) ∧ (((0x4011 : Nat)) < 2 ^ 18) ∧ (lCond ((0x4011 : Nat)) < 12) ∧ (atLoopEnd ((engLong 0x32 0x4011).pcOf 17) ((engLong 0x32 0x4011).bank 17).loops = false) ∧ (allHold (lCond ((0x4011 : Nat))) ((engLong 0x32 0x4011).task 0).laneMask ((engLong 0x32 0x4011).bank 17) = true ∨ runsOut ((engLong 0x32 0x4011).pcOf 17) ((engLong 0x32 0x4011).bank 17).loops = false))
    ∧ ((RunsLong 0x33 17 0 ((0x4011 : Nat)) .clean (engLong 0x33 0x4011)) ∧ (((0x4011 : Nat)) < 2 ^ 18) ∧ (lCond ((0x4011 : Nat)) < 12) ∧ (atLoopEnd ((engLong 0x33 0x4011).pcOf 17) ((engLong 0x33 0x4011).bank 17).loops = false) ∧ (anyHolds (lCond ((0x4011 : Nat))) ((engLong 0x33 0x4011).task 0).laneMask ((engLong 0x33 0x4011).bank 17) = true ∨ runsOut ((engLong 0x33 0x4011).pcOf 17) ((engLong 0x33 0x4011).bank 17).loops = false))
    ∧ ((RunsLong 0x34 17 0 ((0x3fff : Nat)) .clean (engLong 0x34 0x3fff)) ∧ (((0x3fff : Nat)) < 2 ^ 14) ∧ (atLoopEnd ((engLong 0x34 0x3fff).pcOf 17) ((engLong 0x34 0x3fff).bank 17).loops = false) ∧ (((engLong 0x34 0x3fff).bank 17).stack.length < 4))
    ∧ ((RunsLong 0x35 17 0 ((0x0 : Nat)) .clean (onBank 17 (fun b => { b with stack := [5, 6] }) (engLong 0x35 0))) ∧ (((0x0 : Nat)) = 0) ∧ (atLoopEnd ((onBank 17 (fun b => { b with stack := [5, 6] }) (engLong 0x35 0)).pcOf 17) ((onBank 17 (fun b => { b with stack := [5, 6] }) (engLong 0x35 0)).bank 17).loops = false) ∧ (((onBank 17 (fun b => { b with stack := [5, 6] }) (engLong 0x35 0)).bank 17).stack ≠ []))
    ∧ ((RunsLong 0x36 17 0 ((0xc020 : Nat)) .clean (engLong 0x36 0xc020)) ∧ (((0xc020 : Nat)) < 2 ^ 30) ∧ (loopLegal ((0xc020 : Nat)) (lCount ((0xc020 : Nat))) ((engLong 0x36 0xc020).bank 17) = true) ∧ (lCount ((0xc020 : Nat)) = 0 ∨ ((engLong 0x36 0xc020).bank 17).loops.length < 3) ∧ (atLoopEnd ((engLong 0x36 0xc020).pcOf 17) ((engLong 0x36 0xc020).bank 17).loops = false) ∧ (runsOut ((engLong 0x36 0xc020).pcOf 17) ((engLong 0x36 0xc020).bank 17).loops = false))
    ∧ ((RunsLong 0x37 17 0 ((0x44020 : Nat)) .clean (engLong 0x37 0x44020)) ∧ (((0x44020 : Nat)) < 2 ^ 20) ∧ (arLegal (lAR ((0x44020 : Nat))) = true) ∧ (loopLegal ((0x44020 : Nat)) ((((engLong 0x37 0x44020).bank 17).field (lAR ((0x44020 : Nat)))).toNat) ((engLong 0x37 0x44020).bank 17) = true) ∧ ((((engLong 0x37 0x44020).bank 17).field (lAR ((0x44020 : Nat)))).toNat = 0 ∨ ((engLong 0x37 0x44020).bank 17).loops.length < 3) ∧ (atLoopEnd ((engLong 0x37 0x44020).pcOf 17) ((engLong 0x37 0x44020).bank 17).loops = false) ∧ (runsOut ((engLong 0x37 0x44020).pcOf 17) ((engLong 0x37 0x44020).bank 17).loops = false)) := by
  (repeat' apply And.intro) <;> decide

set_option maxRecDepth 100000 in
/-- The hypotheses of EngineTaskSwitch are met. -/
theorem test_witness_EngineTaskSwitch :
    ((RunsLong 0x38 17 0 0 .clean (onTask 0 (fun t => { t with words := [0x02000100, 0, 100, 1, 0, 0, 1, 0], live := true, st := 4 }) (engLong 0x38 0))) ∧ (atLoopEnd ((onTask 0 (fun t => { t with words := [0x02000100, 0, 100, 1, 0, 0, 1, 0], live := true, st := 4 }) (engLong 0x38 0)).pcOf 17) ((onTask 0 (fun t => { t with words := [0x02000100, 0, 100, 1, 0, 0, 1, 0], live := true, st := 4 }) (engLong 0x38 0)).bank 17).loops = false) ∧ (((onTask 0 (fun t => { t with words := [0x02000100, 0, 100, 1, 0, 0, 1, 0], live := true, st := 4 }) (engLong 0x38 0)).task 0).yieldOk = true) ∧ (((onTask 0 (fun t => { t with words := [0x02000100, 0, 100, 1, 0, 0, 1, 0], live := true, st := 4 }) (engLong 0x38 0)).task 0).count 2 ≠ 0))
    ∧ ((RunsLong 0x39 17 0 0 .clean (onTask 0 (fun t => { t with words := [0x00000100, 0, 100, 1, 0, 1, 0, 0], live := true, st := 4 }) (engLong 0x39 0))) ∧ (atLoopEnd ((onTask 0 (fun t => { t with words := [0x00000100, 0, 100, 1, 0, 1, 0, 0], live := true, st := 4 }) (engLong 0x39 0)).pcOf 17) ((onTask 0 (fun t => { t with words := [0x00000100, 0, 100, 1, 0, 1, 0, 0], live := true, st := 4 }) (engLong 0x39 0)).bank 17).loops = false) ∧ (((onTask 0 (fun t => { t with words := [0x00000100, 0, 100, 1, 0, 1, 0, 0], live := true, st := 4 }) (engLong 0x39 0)).task 0).count 1 ≠ 0)) := by
  (repeat' apply And.intro) <;> decide

set_option maxRecDepth 100000 in
/-- The hypotheses of ShotBoundaryAndMatrix are met. -/
theorem test_witness_ShotBoundaryAndMatrix :
    ((Quiet ((put 4 []).setF SYS_MODE.TICK 1)) ∧ (((put 4 []).setF SYS_MODE.TICK 1).tick = true))
    ∧ ((Quiet (put 4 [])) ∧ ((put 4 []).tick = false))
    ∧ ((Quiet (put 4 [])) ∧ ((put 4 []).tick = false) ∧ ((put 4 []).mode ≠ 0) ∧ ((put 4 []).mode ≠ 11) ∧ ((put 4 []).fab.bursts.length ≤ 480) ∧ ((put 4 []).net.bufs.length + (put 4 []).freeBufs.length = 2048) ∧ (((List.range 8).all fun r => [false, true].all fun tx => (ringCounts tx r (put 4 [])).1 + (ringCounts tx r (put 4 [])).2 = ((put 4 []).nring tx r).len) = true) ∧ (tokensUsed (put 4 []) ≤ 4096) ∧ ((put 4 []).asrcUse ≤ 1024) ∧ (leaseUse (put 4 []) ≤ (if (put 4 []).role = 0 then 0 else 1)))
    ∧ ((Quiet (((put 4 []).setF SPL_STAT.PASS 1).onSpl fun u => { u with live := [(5, 0x40000000)] })) ∧ ((((put 4 []).setF SPL_STAT.PASS 1).onSpl fun u => { u with live := [(5, 0x40000000)] }).flag SPL_STAT.PASS = true) ∧ ((((put 4 []).setF SPL_STAT.PASS 1).onSpl fun u => { u with live := [(5, 0x40000000)] }).spl.fades = []) ∧ ((((put 4 []).setF SPL_STAT.PASS 1).onSpl fun u => { u with live := [(5, 0x40000000)] }).take.dissolve = none) ∧ ((((put 4 []).setF SPL_STAT.PASS 1).onSpl fun u => { u with live := [(5, 0x40000000)] }).getF RL_STAT.STATE ≠ 2) ∧ ((((put 4 []).setF SPL_STAT.PASS 1).onSpl fun u => { u with live := [(5, 0x40000000)] }).buses ≤ 4096)) := by
  (repeat' apply And.intro) <;> decide

set_option maxRecDepth 100000 in
/-- The hypotheses of CallSheetEvents are met. -/
theorem test_witness_CallSheetEvents :
    ((Quiet ((onTask 0 (fun t => { t with words := [0x00000100, 0, 100, 1, 2, 0, 0, 0], live := true }) (mapped 4 [])).onCs fun u => { u with staging := [⟨0, 0, 0, 2⟩], xfer := [(0, (0x10200000, 0x20000000))] })) ∧ (0 < 16) ∧ (((onTask 0 (fun t => { t with words := [0x00000100, 0, 100, 1, 2, 0, 0, 0], live := true }) (mapped 4 [])).onCs fun u => { u with staging := [⟨0, 0, 0, 2⟩], xfer := [(0, (0x10200000, 0x20000000))] }).served = some 0) ∧ (nextStaging 0 ((onTask 0 (fun t => { t with words := [0x00000100, 0, 100, 1, 2, 0, 0, 0], live := true }) (mapped 4 [])).onCs fun u => { u with staging := [⟨0, 0, 0, 2⟩], xfer := [(0, (0x10200000, 0x20000000))] }) = some ((⟨0, 0, 0, 2⟩ : Staging))))
    ∧ ((Quiet ((onTask 0 (fun t => { t with words := [0x00000100, 0, 100, 1, 2, 0, 0, 0], live := true }) (mapped 4 [])).onCs fun u => { u with staging := [⟨0, 0, 0, 2⟩], xfer := [(0, (0x10200000, 0x20000000))] })) ∧ (0 < 16) ∧ (((onTask 0 (fun t => { t with words := [0x00000100, 0, 100, 1, 2, 0, 0, 0], live := true }) (mapped 4 [])).onCs fun u => { u with staging := [⟨0, 0, 0, 2⟩], xfer := [(0, (0x10200000, 0x20000000))] }).served = some 0) ∧ (nextStaging 0 ((onTask 0 (fun t => { t with words := [0x00000100, 0, 100, 1, 2, 0, 0, 0], live := true }) (mapped 4 [])).onCs fun u => { u with staging := [⟨0, 0, 0, 2⟩], xfer := [(0, (0x10200000, 0x20000000))] }) = some ((⟨0, 0, 0, 2⟩ : Staging))) ∧ (((onTask 0 (fun t => { t with words := [0x00000100, 0, 100, 1, 2, 0, 0, 0], live := true }) (mapped 4 [])).onCs fun u => { u with staging := [⟨0, 0, 0, 2⟩], xfer := [(0, (0x10200000, 0x20000000))] }).taskEng ((⟨0, 0, 0, 2⟩ : Staging)).task = some 0) ∧ (0 < 18) ∧ (((⟨[], [], 0⟩ : EntryMeet)).errs = []) ∧ ((((onTask 0 (fun t => { t with words := [0x00000100, 0, 100, 1, 2, 0, 0, 0], live := true }) (mapped 4 [])).onCs fun u => { u with staging := [⟨0, 0, 0, 2⟩], xfer := [(0, (0x10200000, 0x20000000))] }).xfer ((((onTask 0 (fun t => { t with words := [0x00000100, 0, 100, 1, 2, 0, 0, 0], live := true }) (mapped 4 [])).onCs fun u => { u with staging := [⟨0, 0, 0, 2⟩], xfer := [(0, (0x10200000, 0x20000000))] }).task ((⟨0, 0, 0, 2⟩ : Staging)).task).first ((⟨0, 0, 0, 2⟩ : Staging)).kind + ((⟨0, 0, 0, 2⟩ : Staging)).next)).kind = 1) ∧ ((((onTask 0 (fun t => { t with words := [0x00000100, 0, 100, 1, 2, 0, 0, 0], live := true }) (mapped 4 [])).onCs fun u => { u with staging := [⟨0, 0, 0, 2⟩], xfer := [(0, (0x10200000, 0x20000000))] }).xfer ((((onTask 0 (fun t => { t with words := [0x00000100, 0, 100, 1, 2, 0, 0, 0], live := true }) (mapped 4 [])).onCs fun u => { u with staging := [⟨0, 0, 0, 2⟩], xfer := [(0, (0x10200000, 0x20000000))] }).task ((⟨0, 0, 0, 2⟩ : Staging)).task).first ((⟨0, 0, 0, 2⟩ : Staging)).kind + ((⟨0, 0, 0, 2⟩ : Staging)).next)).lane0 + (((onTask 0 (fun t => { t with words := [0x00000100, 0, 100, 1, 2, 0, 0, 0], live := true }) (mapped 4 [])).onCs fun u => { u with staging := [⟨0, 0, 0, 2⟩], xfer := [(0, (0x10200000, 0x20000000))] }).xfer ((((onTask 0 (fun t => { t with words := [0x00000100, 0, 100, 1, 2, 0, 0, 0], live := true }) (mapped 4 [])).onCs fun u => { u with staging := [⟨0, 0, 0, 2⟩], xfer := [(0, (0x10200000, 0x20000000))] }).task ((⟨0, 0, 0, 2⟩ : Staging)).task).first ((⟨0, 0, 0, 2⟩ : Staging)).kind + ((⟨0, 0, 0, 2⟩ : Staging)).next)).count ≤ 8) ∧ (sliceOk (((onTask 0 (fun t => { t with words := [0x00000100, 0, 100, 1, 2, 0, 0, 0], live := true }) (mapped 4 [])).onCs fun u => { u with staging := [⟨0, 0, 0, 2⟩], xfer := [(0, (0x10200000, 0x20000000))] }).xfer ((((onTask 0 (fun t => { t with words := [0x00000100, 0, 100, 1, 2, 0, 0, 0], live := true }) (mapped 4 [])).onCs fun u => { u with staging := [⟨0, 0, 0, 2⟩], xfer := [(0, (0x10200000, 0x20000000))] }).task ((⟨0, 0, 0, 2⟩ : Staging)).task).first ((⟨0, 0, 0, 2⟩ : Staging)).kind + ((⟨0, 0, 0, 2⟩ : Staging)).next)) ((onTask 0 (fun t => { t with words := [0x00000100, 0, 100, 1, 2, 0, 0, 0], live := true }) (mapped 4 [])).onCs fun u => { u with staging := [⟨0, 0, 0, 2⟩], xfer := [(0, (0x10200000, 0x20000000))] }) = true) ∧ (∀ j, j < (((onTask 0 (fun t => { t with words := [0x00000100, 0, 100, 1, 2, 0, 0, 0], live := true }) (mapped 4 [])).onCs fun u => { u with staging := [⟨0, 0, 0, 2⟩], xfer := [(0, (0x10200000, 0x20000000))] }).xfer ((((onTask 0 (fun t => { t with words := [0x00000100, 0, 100, 1, 2, 0, 0, 0], live := true }) (mapped 4 [])).onCs fun u => { u with staging := [⟨0, 0, 0, 2⟩], xfer := [(0, (0x10200000, 0x20000000))] }).task ((⟨0, 0, 0, 2⟩ : Staging)).task).first ((⟨0, 0, 0, 2⟩ : Staging)).kind + ((⟨0, 0, 0, 2⟩ : Staging)).next)).count → (((onTask 0 (fun t => { t with words := [0x00000100, 0, 100, 1, 2, 0, 0, 0], live := true }) (mapped 4 [])).onCs fun u => { u with staging := [⟨0, 0, 0, 2⟩], xfer := [(0, (0x10200000, 0x20000000))] }).blk (inArea ((⟨0, 0, 0, 2⟩ : Staging)).task ((((onTask 0 (fun t => { t with words := [0x00000100, 0, 100, 1, 2, 0, 0, 0], live := true }) (mapped 4 [])).onCs fun u => { u with staging := [⟨0, 0, 0, 2⟩], xfer := [(0, (0x10200000, 0x20000000))] }).xfer ((((onTask 0 (fun t => { t with words := [0x00000100, 0, 100, 1, 2, 0, 0, 0], live := true }) (mapped 4 [])).onCs fun u => { u with staging := [⟨0, 0, 0, 2⟩], xfer := [(0, (0x10200000, 0x20000000))] }).task ((⟨0, 0, 0, 2⟩ : Staging)).task).first ((⟨0, 0, 0, 2⟩ : Staging)).kind + ((⟨0, 0, 0, 2⟩ : Staging)).next)).chan + j) ((onTask 0 (fun t => { t with words := [0x00000100, 0, 100, 1, 2, 0, 0, 0], live := true }) (mapped 4 [])).onCs fun u => { u with staging := [⟨0, 0, 0, 2⟩], xfer := [(0, (0x10200000, 0x20000000))] })) ((((onTask 0 (fun t => { t with words := [0x00000100, 0, 100, 1, 2, 0, 0, 0], live := true }) (mapped 4 [])).onCs fun u => { u with staging := [⟨0, 0, 0, 2⟩], xfer := [(0, (0x10200000, 0x20000000))] }).xfer ((((onTask 0 (fun t => { t with words := [0x00000100, 0, 100, 1, 2, 0, 0, 0], live := true }) (mapped 4 [])).onCs fun u => { u with staging := [⟨0, 0, 0, 2⟩], xfer := [(0, (0x10200000, 0x20000000))] }).task ((⟨0, 0, 0, 2⟩ : Staging)).task).first ((⟨0, 0, 0, 2⟩ : Staging)).kind + ((⟨0, 0, 0, 2⟩ : Staging)).next)).chan + j)).samples.length = ((onTask 0 (fun t => { t with words := [0x00000100, 0, 100, 1, 2, 0, 0, 0], live := true }) (mapped 4 [])).onCs fun u => { u with staging := [⟨0, 0, 0, 2⟩], xfer := [(0, (0x10200000, 0x20000000))] }).n))
    ∧ ((Quiet ((onTask 0 (fun t => { t with words := [0x00000100, 0, 100, 1, 0, 1, 0, 0], live := true, due := true }) (mapped 4 [])).onCs fun u => { u with staging := [⟨0, 1, 0, 1⟩], xfer := [(0, (0x20200000, 0x10000000))] })) ∧ (0 < 16) ∧ (((onTask 0 (fun t => { t with words := [0x00000100, 0, 100, 1, 0, 1, 0, 0], live := true, due := true }) (mapped 4 [])).onCs fun u => { u with staging := [⟨0, 1, 0, 1⟩], xfer := [(0, (0x20200000, 0x10000000))] }).served = some 0) ∧ (nextStaging 0 ((onTask 0 (fun t => { t with words := [0x00000100, 0, 100, 1, 0, 1, 0, 0], live := true, due := true }) (mapped 4 [])).onCs fun u => { u with staging := [⟨0, 1, 0, 1⟩], xfer := [(0, (0x20200000, 0x10000000))] }) = some ((⟨0, 1, 0, 1⟩ : Staging))) ∧ (((onTask 0 (fun t => { t with words := [0x00000100, 0, 100, 1, 0, 1, 0, 0], live := true, due := true }) (mapped 4 [])).onCs fun u => { u with staging := [⟨0, 1, 0, 1⟩], xfer := [(0, (0x20200000, 0x10000000))] }).taskEng ((⟨0, 1, 0, 1⟩ : Staging)).task = some 0) ∧ (((⟨[], [], 0⟩ : EntryMeet)).errs = []) ∧ ((((onTask 0 (fun t => { t with words := [0x00000100, 0, 100, 1, 0, 1, 0, 0], live := true, due := true }) (mapped 4 [])).onCs fun u => { u with staging := [⟨0, 1, 0, 1⟩], xfer := [(0, (0x20200000, 0x10000000))] }).xfer ((((onTask 0 (fun t => { t with words := [0x00000100, 0, 100, 1, 0, 1, 0, 0], live := true, due := true }) (mapped 4 [])).onCs fun u => { u with staging := [⟨0, 1, 0, 1⟩], xfer := [(0, (0x20200000, 0x10000000))] }).task ((⟨0, 1, 0, 1⟩ : Staging)).task).first ((⟨0, 1, 0, 1⟩ : Staging)).kind + ((⟨0, 1, 0, 1⟩ : Staging)).next)).kind = 2) ∧ ((((onTask 0 (fun t => { t with words := [0x00000100, 0, 100, 1, 0, 1, 0, 0], live := true, due := true }) (mapped 4 [])).onCs fun u => { u with staging := [⟨0, 1, 0, 1⟩], xfer := [(0, (0x20200000, 0x10000000))] }).xfer ((((onTask 0 (fun t => { t with words := [0x00000100, 0, 100, 1, 0, 1, 0, 0], live := true, due := true }) (mapped 4 [])).onCs fun u => { u with staging := [⟨0, 1, 0, 1⟩], xfer := [(0, (0x20200000, 0x10000000))] }).task ((⟨0, 1, 0, 1⟩ : Staging)).task).first ((⟨0, 1, 0, 1⟩ : Staging)).kind + ((⟨0, 1, 0, 1⟩ : Staging)).next)).chan + (((onTask 0 (fun t => { t with words := [0x00000100, 0, 100, 1, 0, 1, 0, 0], live := true, due := true }) (mapped 4 [])).onCs fun u => { u with staging := [⟨0, 1, 0, 1⟩], xfer := [(0, (0x20200000, 0x10000000))] }).xfer ((((onTask 0 (fun t => { t with words := [0x00000100, 0, 100, 1, 0, 1, 0, 0], live := true, due := true }) (mapped 4 [])).onCs fun u => { u with staging := [⟨0, 1, 0, 1⟩], xfer := [(0, (0x20200000, 0x10000000))] }).task ((⟨0, 1, 0, 1⟩ : Staging)).task).first ((⟨0, 1, 0, 1⟩ : Staging)).kind + ((⟨0, 1, 0, 1⟩ : Staging)).next)).count ≤ 65536) ∧ ((((onTask 0 (fun t => { t with words := [0x00000100, 0, 100, 1, 0, 1, 0, 0], live := true, due := true }) (mapped 4 [])).onCs fun u => { u with staging := [⟨0, 1, 0, 1⟩], xfer := [(0, (0x20200000, 0x10000000))] }).task ((⟨0, 1, 0, 1⟩ : Staging)).task).stopped = false))
    ∧ ((Quiet (onEngine 17 (fun u => { u with pending := some (5, false) }) (onTask 5 (fun t => { t with words := [0x00000100, 0x00400000, 100, 1, 0, 0, 0, 0], live := true, st := 3 }) ((put 4 []).setF (ENG_STAT.STATE 17) 0)))) ∧ (17 < 18) ∧ ((onEngine 17 (fun u => { u with pending := some (5, false) }) (onTask 5 (fun t => { t with words := [0x00000100, 0x00400000, 100, 1, 0, 0, 0, 0], live := true, st := 3 }) ((put 4 []).setF (ENG_STAT.STATE 17) 0))).engState 17 < 2) ∧ (((onEngine 17 (fun u => { u with pending := some (5, false) }) (onTask 5 (fun t => { t with words := [0x00000100, 0x00400000, 100, 1, 0, 0, 0, 0], live := true, st := 3 }) ((put 4 []).setF (ENG_STAT.STATE 17) 0))).engine 17).pending = some (5, false)) ∧ (runningOn 17 (onEngine 17 (fun u => { u with pending := some (5, false) }) (onTask 5 (fun t => { t with words := [0x00000100, 0x00400000, 100, 1, 0, 0, 0, 0], live := true, st := 3 }) ((put 4 []).setF (ENG_STAT.STATE 17) 0))) = none))
    ∧ ((Quiet (onEngine 17 (fun u => { u with pending := some (5, true) }) (onTask 5 (fun t => { t with words := [0x00000100, 0x00400000, 100, 1, 0, 0, 0, 0], live := true, st := 3 }) (onTask 0 (fun t => { t with words := [0x00000100, 0, 0, 1, 0, 0, 0, 0], live := true, due := true, st := 4 }) (engAt 0 0))))) ∧ (17 < 18) ∧ ((onEngine 17 (fun u => { u with pending := some (5, true) }) (onTask 5 (fun t => { t with words := [0x00000100, 0x00400000, 100, 1, 0, 0, 0, 0], live := true, st := 3 }) (onTask 0 (fun t => { t with words := [0x00000100, 0, 0, 1, 0, 0, 0, 0], live := true, due := true, st := 4 }) (engAt 0 0)))).engState 17 < 2) ∧ (((onEngine 17 (fun u => { u with pending := some (5, true) }) (onTask 5 (fun t => { t with words := [0x00000100, 0x00400000, 100, 1, 0, 0, 0, 0], live := true, st := 3 }) (onTask 0 (fun t => { t with words := [0x00000100, 0, 0, 1, 0, 0, 0, 0], live := true, due := true, st := 4 }) (engAt 0 0)))).engine 17).pending = some (5, true)) ∧ (runningOn 17 (onEngine 17 (fun u => { u with pending := some (5, true) }) (onTask 5 (fun t => { t with words := [0x00000100, 0x00400000, 100, 1, 0, 0, 0, 0], live := true, st := 3 }) (onTask 0 (fun t => { t with words := [0x00000100, 0, 0, 1, 0, 0, 0, 0], live := true, due := true, st := 4 }) (engAt 0 0)))) = some 0) ∧ (5 ≠ 0) ∧ ((overNow 0 (chargeTask 0 1 (onEngine 17 (fun u => { u with pending := some (5, true) }) (onTask 5 (fun t => { t with words := [0x00000100, 0x00400000, 100, 1, 0, 0, 0, 0], live := true, st := 3 }) (onTask 0 (fun t => { t with words := [0x00000100, 0, 0, 1, 0, 0, 0, 0], live := true, due := true, st := 4 }) (engAt 0 0))))) && ((onEngine 17 (fun u => { u with pending := some (5, true) }) (onTask 5 (fun t => { t with words := [0x00000100, 0x00400000, 100, 1, 0, 0, 0, 0], live := true, st := 3 }) (onTask 0 (fun t => { t with words := [0x00000100, 0, 0, 1, 0, 0, 0, 0], live := true, due := true, st := 4 }) (engAt 0 0)))).task 0).enforce) = false))
    ∧ ((Quiet (onEngine 17 (fun u => { u with pending := some (5, true) }) (onTask 5 (fun t => { t with words := [0x00000100, 0x00400000, 100, 1, 0, 0, 0, 0], live := true, st := 3 }) (onTask 0 (fun t => { t with words := [0x01000100, 0, 0, 1, 0, 0, 0, 0], live := true, due := true, st := 4 }) (engAt 0 0))))) ∧ (17 < 18) ∧ ((onEngine 17 (fun u => { u with pending := some (5, true) }) (onTask 5 (fun t => { t with words := [0x00000100, 0x00400000, 100, 1, 0, 0, 0, 0], live := true, st := 3 }) (onTask 0 (fun t => { t with words := [0x01000100, 0, 0, 1, 0, 0, 0, 0], live := true, due := true, st := 4 }) (engAt 0 0)))).engState 17 < 2) ∧ (((onEngine 17 (fun u => { u with pending := some (5, true) }) (onTask 5 (fun t => { t with words := [0x00000100, 0x00400000, 100, 1, 0, 0, 0, 0], live := true, st := 3 }) (onTask 0 (fun t => { t with words := [0x01000100, 0, 0, 1, 0, 0, 0, 0], live := true, due := true, st := 4 }) (engAt 0 0)))).engine 17).pending = some (5, true)) ∧ (runningOn 17 (onEngine 17 (fun u => { u with pending := some (5, true) }) (onTask 5 (fun t => { t with words := [0x00000100, 0x00400000, 100, 1, 0, 0, 0, 0], live := true, st := 3 }) (onTask 0 (fun t => { t with words := [0x01000100, 0, 0, 1, 0, 0, 0, 0], live := true, due := true, st := 4 }) (engAt 0 0)))) = some 0) ∧ (5 ≠ 0) ∧ ((overNow 0 (chargeTask 0 1 (onEngine 17 (fun u => { u with pending := some (5, true) }) (onTask 5 (fun t => { t with words := [0x00000100, 0x00400000, 100, 1, 0, 0, 0, 0], live := true, st := 3 }) (onTask 0 (fun t => { t with words := [0x01000100, 0, 0, 1, 0, 0, 0, 0], live := true, due := true, st := 4 }) (engAt 0 0))))) && ((onEngine 17 (fun u => { u with pending := some (5, true) }) (onTask 5 (fun t => { t with words := [0x00000100, 0x00400000, 100, 1, 0, 0, 0, 0], live := true, st := 3 }) (onTask 0 (fun t => { t with words := [0x01000100, 0, 0, 1, 0, 0, 0, 0], live := true, due := true, st := 4 }) (engAt 0 0)))).task 0).enforce) = true))
    ∧ ((Quiet (onTask 5 (fun t => { t with words := [0x00000100, 0, 100, 1, 0, 0, 0, 0], live := true, due := true, st := 2 }) (mapped 4 []))) ∧ (0 < 18) ∧ (candidate 0 (onTask 5 (fun t => { t with words := [0x00000100, 0, 100, 1, 0, 0, 0, 0], live := true, due := true, st := 2 }) (mapped 4 [])) = some 5))
    ∧ ((Quiet (put 4 [])) ∧ (17 < 18) ∧ (candidate 17 (put 4 []) = none))
    ∧ ((Quiet (onEngine 17 (fun u => { u with inact := .kept 5 }) (put 4 []))) ∧ (17 < 18) ∧ (((onEngine 17 (fun u => { u with inact := .kept 5 }) (put 4 [])).engine 17).inact = .kept 5))
    ∧ ((Quiet (put 4 [])) ∧ (17 < 18) ∧ ((match ((put 4 []).engine 17).inact with | .kept _ => false | _ => true) = true))
    ∧ ((Quiet (onTask 0 (fun t => { t with charge := 1 }) (engAt 0 0))) ∧ (17 < 18) ∧ (runningOn 17 (onTask 0 (fun t => { t with charge := 1 }) (engAt 0 0)) = some 0) ∧ (overNow 0 (onTask 0 (fun t => { t with charge := 1 }) (engAt 0 0)) = true) ∧ (((onTask 0 (fun t => { t with charge := 1 }) (engAt 0 0)).task 0).enforce = false))
    ∧ ((Quiet (onTask 0 (fun t => { t with words := [0x01000100, 0, 0, 1, 0, 0, 0, 0], charge := 1 }) (engAt 0 0))) ∧ (17 < 18) ∧ (runningOn 17 (onTask 0 (fun t => { t with words := [0x01000100, 0, 0, 1, 0, 0, 0, 0], charge := 1 }) (engAt 0 0)) = some 0) ∧ (overNow 0 (onTask 0 (fun t => { t with words := [0x01000100, 0, 0, 1, 0, 0, 0, 0], charge := 1 }) (engAt 0 0)) = true) ∧ (((onTask 0 (fun t => { t with words := [0x01000100, 0, 0, 1, 0, 0, 0, 0], charge := 1 }) (engAt 0 0)).task 0).enforce = true))
    ∧ ((Quiet (put 4 [])) ∧ (17 < 18) ∧ ((match runningOn 17 (put 4 []) with | some n => !overNow n (put 4 []) | none => true) = true))
    ∧ ((Quiet (onEngine 17 (fun u => { u with bufY := some ⟨true, [(0x1000000, 5)]⟩ }) (put 4 []))) ∧ (17 < 18))
    ∧ ((Quiet ((put 4 []).onPcn fun u => { u with tagged := [(17, ⟨4095, 16383, 2, 3, false, true⟩)] })) ∧ (17 < 18) ∧ (((put 4 []).onPcn fun u => { u with tagged := [(17, ⟨4095, 16383, 2, 3, false, true⟩)] }).pcn.tagged.find? (fun c => c.1 = 17) = some (17, ⟨4095, 16383, 2, 3, false, true⟩)) ∧ (false = true ∨ 6 + 2 ≤ 8)) := by
  (repeat' apply And.intro) <;> decide

set_option maxRecDepth 100000 in
/-- The hypotheses of TransportEvents are met. -/
theorem test_witness_TransportEvents :
    ((descReady (((((put 2 []).setF CMD_STAT.LINKUP 1).setF CMD_CTRL.RINGS_EN 1).setF (CMD_RING_HOSTPTR.PTR 0) 1)) = true) ∧ (cmdDescBad (([0#32, 0#32, 16#32, 1#32] : List Word)) = true) ∧ (Quiet (((((put 2 []).setF CMD_STAT.LINKUP 1).setF CMD_CTRL.RINGS_EN 1).setF (CMD_RING_HOSTPTR.PTR 0) 1))))
    ∧ ((descReady (((((put 2 []).setF CMD_STAT.LINKUP 1).setF CMD_CTRL.RINGS_EN 1).setF (CMD_RING_HOSTPTR.PTR 0) 1)) = true) ∧ (cmdDescBad (([0#32, 0#32, 16#32, 0#32] : List Word)) = false) ∧ (((⟨0, 5, 0, false⟩ : CmdHdr)).tr = 0) ∧ (parsePacket 0 0 ((([1#8, 0#8, 0#8, 0#8, 5#8, 0#8, 0#8, 0#8, 0#8, 0#8, 0#8, 0#8, 39#8, 158#8, 48#8, 114#8] : List Byte)).take (nAt (([0#32, 0#32, 16#32, 0#32] : List Word)) 2)) = ⟨0, ((⟨0, 5, 0, false⟩ : CmdHdr)), true, true, [], 0, [], 0⟩) ∧ (Ready 0 ((⟨0, 5, 0, false⟩ : CmdHdr)) [] (((((put 2 []).setF CMD_STAT.LINKUP 1).setF CMD_CTRL.RINGS_EN 1).setF (CMD_RING_HOSTPTR.PTR 0) 1))) ∧ (((⟨0, 5, 0, false⟩ : CmdHdr)).chk = false))
    ∧ ((((⟨1, 5, 0, false⟩ : CmdHdr)).tr = 1) ∧ (parsePacket 1 77 (([1#8, 0#8, 0#8, 0#8, 5#8, 0#8, 0#8, 0#8, 0#8, 0#8, 0#8, 0#8, 39#8, 158#8, 48#8, 114#8] : List Byte)) = ⟨0, ((⟨1, 5, 0, false⟩ : CmdHdr)), true, true, [], 77, [], 0⟩) ∧ (Ready 0 ((⟨1, 5, 0, false⟩ : CmdHdr)) [] (((put 2 []).setF CMD_CTRL.UDP_EN 1).onCmd fun u => { u with mgmtSrc := some 77 })) ∧ (((⟨1, 5, 0, false⟩ : CmdHdr)).chk = false) ∧ ((((put 2 []).setF CMD_CTRL.UDP_EN 1).onCmd fun u => { u with mgmtSrc := some 77 }).cmd.mgmtSrc = some 77))
    ∧ ((trOpen 1 ((put 2 []).setF CMD_CTRL.UDP_EN 1) = true) ∧ (Quiet ((put 2 []).setF CMD_CTRL.UDP_EN 1)))
    ∧ ((((⟨2, 5, 0, false⟩ : CmdHdr)).tr = 2) ∧ (parsePacket 2 0 (([1#8, 0#8, 0#8, 0#8, 5#8, 0#8, 0#8, 0#8, 0#8, 0#8, 0#8, 0#8, 39#8, 158#8, 48#8, 114#8] : List Byte)) = ⟨0, ((⟨2, 5, 0, false⟩ : CmdHdr)), true, true, [], 0, [], 0⟩) ∧ (Ready 0 ((⟨2, 5, 0, false⟩ : CmdHdr)) [] (put 2 [])) ∧ (((⟨2, 5, 0, false⟩ : CmdHdr)).chk = false) ∧ (spiOn (put 2 []) = true))
    ∧ ((spiOn ((put 2 []).onCmd fun u => { u with spiQueue := [[7#32], [8#32]] }) = true) ∧ (((put 2 []).onCmd fun u => { u with spiQueue := [[7#32], [8#32]] }).cmd.waiting = []) ∧ (((put 2 []).onCmd fun u => { u with spiQueue := [[7#32], [8#32]] }).cmd.spiQueue = (([7#32] : List Word)) :: (([[8#32]] : List (List Word)))) ∧ (Quiet ((put 2 []).onCmd fun u => { u with spiQueue := [[7#32], [8#32]] })))
    ∧ ((spiOn ((put 2 []).setWord 0x7000008 9) = true) ∧ (((put 2 []).setWord 0x7000008 9).hostOpen = true) ∧ (((0x7000004 : Nat)) % 4 = 0) ∧ (0x6000000 ≤ ((0x7000004 : Nat)) ∧ ((0x7000004 : Nat)) + 4 * 2 ≤ 0x6400000 ∨ 0x7000000 ≤ ((0x7000004 : Nat)) ∧ ((0x7000004 : Nat)) + 4 * 2 ≤ 0x7040000) ∧ (Quiet ((put 2 []).setWord 0x7000008 9)))
    ∧ ((spiOn (put 2 []) = true) ∧ ((put 2 []).hostOpen = true) ∧ ((put 2 []).cmd.waiting = []) ∧ (((0x7000004 : Nat)) % 4 = 0) ∧ (0x6000000 ≤ ((0x7000004 : Nat)) ∧ ((0x7000004 : Nat)) + 4 * (([5#32, 6#32] : List Word)).length ≤ 0x6400000 ∨ 0x7000000 ≤ ((0x7000004 : Nat)) ∧ ((0x7000004 : Nat)) + 4 * (([5#32, 6#32] : List Word)).length ≤ 0x7040000) ∧ (Quiet (put 2 []))) := by
  (repeat' apply And.intro) <;> decide

set_option maxRecDepth 100000 in
/-- The hypotheses of LongOperationEnds are met. -/
theorem test_witness_LongOperationEnds :
    ((((((put 4 []).setF CMD_STAT.LONGOP 1).onCmd fun u => { u with longOp := some ⟨0x702, 2, 5, 0, 0, 0⟩ }).setF LOG_STAT.ERASING 1).cmd.longOp = some ((⟨0x702, 2, 5, 0, 0, 0⟩ : LongOp))) ∧ (((⟨0x702, 2, 5, 0, 0, 0⟩ : LongOp)).op = 0x702))
    ∧ ((((((put 4 []).setF CMD_STAT.LONGOP 1).onCmd fun u => { u with longOp := some ⟨0x702, 2, 5, 0, 0, 0⟩ }).setF LOG_STAT.ERASING 1).cmd.longOp = some ((⟨0x702, 2, 5, 0, 0, 0⟩ : LongOp))) ∧ (((⟨0x702, 2, 5, 0, 0, 0⟩ : LongOp)).op = 0x702) ∧ (((((put 4 []).setF CMD_STAT.LONGOP 1).onCmd fun u => { u with longOp := some ⟨0x702, 2, 5, 0, 0, 0⟩ }).setF LOG_STAT.ERASING 1).fab.held.all (fun c => decide (c.1 < mramBase ∨ mramBase + 16 ≤ c.1)) = true ∨ (((((put 4 []).setF CMD_STAT.LONGOP 1).onCmd fun u => { u with longOp := some ⟨0x702, 2, 5, 0, 0, 0⟩ }).setF LOG_STAT.ERASING 1).flag MRAM_STAT.BUSY = true ∧ ((((put 4 []).setF CMD_STAT.LONGOP 1).onCmd fun u => { u with longOp := some ⟨0x702, 2, 5, 0, 0, 0⟩ }).setF LOG_STAT.ERASING 1).fab.replacing.head? = some 0)))
    ∧ (((((put 4 []).setF CMD_STAT.LONGOP 1).onCmd fun u => { u with longOp := some ⟨0xF00, 2, 5, 0, 0, 1⟩ }).cmd.longOp = some ((⟨0xF00, 2, 5, 0, 0, 1⟩ : LongOp))) ∧ (((⟨0xF00, 2, 5, 0, 0, 1⟩ : LongOp)).op = 0xF00))
    ∧ (((((put 4 []).setF CMD_STAT.LONGOP 1).onCmd fun u => { u with longOp := some ⟨0x10B, 2, 5, 0, 0, 47⟩ }).cmd.longOp = some ((⟨0x10B, 2, 5, 0, 0, 47⟩ : LongOp))) ∧ (((⟨0x10B, 2, 5, 0, 0, 47⟩ : LongOp)).op = 0x10B) ∧ (sceneStream ((⟨0x10B, 2, 5, 0, 0, 47⟩ : LongOp)).arg (((put 4 []).setF CMD_STAT.LONGOP 1).onCmd fun u => { u with longOp := some ⟨0x10B, 2, 5, 0, 0, 47⟩ }) = none))
    ∧ ((((((put 4 []).setF CMD_STAT.LONGOP 1).onCmd fun u => { u with longOp := some ⟨0x10B, 2, 5, 0, 0, 47⟩ }).setWord (mramBase + sceneOff 47) 1).cmd.longOp = some ((⟨0x10B, 2, 5, 0, 0, 47⟩ : LongOp))) ∧ (((⟨0x10B, 2, 5, 0, 0, 47⟩ : LongOp)).op = 0x10B) ∧ (sceneStream ((⟨0x10B, 2, 5, 0, 0, 47⟩ : LongOp)).arg ((((put 4 []).setF CMD_STAT.LONGOP 1).onCmd fun u => { u with longOp := some ⟨0x10B, 2, 5, 0, 0, 47⟩ }).setWord (mramBase + sceneOff 47) 1) = some (([] : List Word))) ∧ (storedPackets ((([] : List Word)).length + 1) 0 (([] : List Word)) = .inr (([] : List (List Word)))) ∧ ((runScene 2 [] 0 ((((put 4 []).setF CMD_STAT.LONGOP 1).onCmd fun u => { u with longOp := some ⟨0x10B, 2, 5, 0, 0, 47⟩ }).setWord (mramBase + sceneOff 47) 1)) = runScene ((⟨0x10B, 2, 5, 0, 0, 47⟩ : LongOp)).tr (([] : List (List Word))) 0 ((((put 4 []).setF CMD_STAT.LONGOP 1).onCmd fun u => { u with longOp := some ⟨0x10B, 2, 5, 0, 0, 47⟩ }).setWord (mramBase + sceneOff 47) 1)))
    ∧ (((put 2 []).cmd.longOp = none) ∧ ((put 2 []).cmd.waiting = []) ∧ (Quiet (put 2 []))) := by
  (repeat' apply And.intro) <;> decide

set_option maxRecDepth 100000 in
/-- The hypotheses of TakeStages are met. -/
theorem test_witness_TakeStages :
    ((Quiet ((mapped 4 []).onTake fun u => { u with pending := some { takeOf [0x20000400#32, 1#32, 0#32, 0#32, 0#32] none with sT := some 1, locked := false } })) ∧ (((mapped 4 []).onTake fun u => { u with pending := some { takeOf [0x20000400#32, 1#32, 0#32, 0#32, 0#32] none with sT := some 1, locked := false } }).take.pending = some ({ takeOf [0x20000400#32, 1#32, 0#32, 0#32, 0#32] none with sT := some 1, locked := false })) ∧ (({ takeOf [0x20000400#32, 1#32, 0#32, 0#32, 0#32] none with sT := some 1, locked := false }).sT = some (((mapped 4 []).onTake fun u => { u with pending := some { takeOf [0x20000400#32, 1#32, 0#32, 0#32, 0#32] none with sT := some 1, locked := false } }).shot + 1)) ∧ (({ takeOf [0x20000400#32, 1#32, 0#32, 0#32, 0#32] none with sT := some 1, locked := false }).locked = false) ∧ (((mapped 4 []).onTake fun u => { u with pending := some { takeOf [0x20000400#32, 1#32, 0#32, 0#32, 0#32] none with sT := some 1, locked := false } }).take.unconfirmed = false))
    ∧ ((Quiet ((mapped 4 []).onTake fun u => { u with unconfirmed := true, pending := some { takeOf [0x20000400#32, 1#32, 0#32, 0#32, 0#32] none with sT := some 1, locked := false } })) ∧ (((mapped 4 []).onTake fun u => { u with unconfirmed := true, pending := some { takeOf [0x20000400#32, 1#32, 0#32, 0#32, 0#32] none with sT := some 1, locked := false } }).take.pending = some ({ takeOf [0x20000400#32, 1#32, 0#32, 0#32, 0#32] none with sT := some 1, locked := false })) ∧ (({ takeOf [0x20000400#32, 1#32, 0#32, 0#32, 0#32] none with sT := some 1, locked := false }).sT = some (((mapped 4 []).onTake fun u => { u with unconfirmed := true, pending := some { takeOf [0x20000400#32, 1#32, 0#32, 0#32, 0#32] none with sT := some 1, locked := false } }).shot + 1)) ∧ (({ takeOf [0x20000400#32, 1#32, 0#32, 0#32, 0#32] none with sT := some 1, locked := false }).locked = false) ∧ (((mapped 4 []).onTake fun u => { u with unconfirmed := true, pending := some { takeOf [0x20000400#32, 1#32, 0#32, 0#32, 0#32] none with sT := some 1, locked := false } }).take.unconfirmed = true) ∧ (((mapped 4 []).onTake fun u => { u with unconfirmed := true, pending := some { takeOf [0x20000400#32, 1#32, 0#32, 0#32, 0#32] none with sT := some 1, locked := false } }).take.voting = none))
    ∧ ((Quiet ((mapped 4 [(0xF0004, 0xC0)]).onTake fun u => { u with pending := some { takeOf [0x20000400#32, 1#32, 0#32, 0#32, 0#32] none with sT := some 0, locked := true } })) ∧ (((mapped 4 [(0xF0004, 0xC0)]).onTake fun u => { u with pending := some { takeOf [0x20000400#32, 1#32, 0#32, 0#32, 0#32] none with sT := some 0, locked := true } }).take.pending = some ({ takeOf [0x20000400#32, 1#32, 0#32, 0#32, 0#32] none with sT := some 0, locked := true })) ∧ (({ takeOf [0x20000400#32, 1#32, 0#32, 0#32, 0#32] none with sT := some 0, locked := true }).sT = some ((mapped 4 [(0xF0004, 0xC0)]).onTake fun u => { u with pending := some { takeOf [0x20000400#32, 1#32, 0#32, 0#32, 0#32] none with sT := some 0, locked := true } }).shot) ∧ (({ takeOf [0x20000400#32, 1#32, 0#32, 0#32, 0#32] none with sT := some 0, locked := true }).locked = true) ∧ (((mapped 4 [(0xF0004, 0xC0)]).onTake fun u => { u with pending := some { takeOf [0x20000400#32, 1#32, 0#32, 0#32, 0#32] none with sT := some 0, locked := true } }).take.commit = none))
    ∧ ((Quiet (((onEngine 17 (fun u => { u with copying := true }) (put 4 [])).setWord (pageBase 17 false + 4) 5))) ∧ (17 < 18) ∧ (((((onEngine 17 (fun u => { u with copying := true }) (put 4 [])).setWord (pageBase 17 false + 4) 5)).engine 17).copying = true) ∧ (false = (((onEngine 17 (fun u => { u with copying := true }) (put 4 [])).setWord (pageBase 17 false + 4) 5)).livePage 17) ∧ (pageBase 17 false ≤ (pageBase 17 false + 4)) ∧ ((pageBase 17 false + 4) < pageBase 17 false + 0x10000))
    ∧ ((Quiet ((put 4 []).onSpl fun u => { u with commitDue := true, commit := [(7, ⟨5, true, 64⟩)] })) ∧ (((put 4 []).onSpl fun u => { u with commitDue := true, commit := [(7, ⟨5, true, 64⟩)] }).spl.commitDue = true) ∧ (((put 4 []).onSpl fun u => { u with commitDue := true, commit := [(7, ⟨5, true, 64⟩)] }).take.commit = none) ∧ ((((put 4 []).onSpl fun u => { u with commitDue := true, commit := [(7, ⟨5, true, 64⟩)] }).spl.commit.map (·.1)).Nodup))
    ∧ ((Quiet ((((mapped 4 [(0xFF004, 0xC0)]).setF (ENG_ROLE.LOGICAL 15) 15).onShot fun _ => 2).onTake fun u => { u with commit := some ⟨0, 0, 1, 64, false, [15]⟩ })) ∧ (((((mapped 4 [(0xFF004, 0xC0)]).setF (ENG_ROLE.LOGICAL 15) 15).onShot fun _ => 2).onTake fun u => { u with commit := some ⟨0, 0, 1, 64, false, [15]⟩ }).take.commit = some ((⟨0, 0, 1, 64, false, [15]⟩ : Commit))) ∧ (((⟨0, 0, 1, 64, false, [15]⟩ : Commit)).t0 + 2 ≤ ((((mapped 4 [(0xFF004, 0xC0)]).setF (ENG_ROLE.LOGICAL 15) 15).onShot fun _ => 2).onTake fun u => { u with commit := some ⟨0, 0, 1, 64, false, [15]⟩ }).shot) ∧ (((⟨0, 0, 1, 64, false, [15]⟩ : Commit)).busDone = false))
    ∧ (((((put 4 []).setF SPL_STAT.SLATE_READY 1).onTake fun u => { u with hold := true }).take.hold = true) ∧ ((match (((put 4 []).setF SPL_STAT.SLATE_READY 1).onTake fun u => { u with hold := true }).take.pending with | some k => k.locked | none => false) = false) ∧ (copiesDone (((put 4 []).setF SPL_STAT.SLATE_READY 1).onTake fun u => { u with hold := true }) = true))
    ∧ ((Quiet (put 4 [])) ∧ ((put 4 []).take.hold = false ∨ copiesDone (put 4 []) = false) ∧ ((put 4 []).cmd.waiting = [])) := by
  (repeat' apply And.intro) <;> decide

set_option maxRecDepth 100000 in
/-- The hypotheses of DissolvesRecastsAndSpares are met. -/
theorem test_witness_DissolvesRecastsAndSpares :
    ((Quiet (((onTask 5 (fun t => { t with outgoing := true }) (put 4 [])).onShot fun _ => 66).onTake fun u => { u with dissolve := some ⟨0, 64, 1, true, [], []⟩ })) ∧ ((((onTask 5 (fun t => { t with outgoing := true }) (put 4 [])).onShot fun _ => 66).onTake fun u => { u with dissolve := some ⟨0, 64, 1, true, [], []⟩ }).take.dissolve = some ((⟨0, 64, 1, true, [], []⟩ : Dissolve))) ∧ (((⟨0, 64, 1, true, [], []⟩ : Dissolve)).t0 + ((⟨0, 64, 1, true, [], []⟩ : Dissolve)).dlen + 2 ≤ (((onTask 5 (fun t => { t with outgoing := true }) (put 4 [])).onShot fun _ => 66).onTake fun u => { u with dissolve := some ⟨0, 64, 1, true, [], []⟩ }).shot) ∧ ((((onTask 5 (fun t => { t with outgoing := true }) (put 4 [])).onShot fun _ => 66).onTake fun u => { u with dissolve := some ⟨0, 64, 1, true, [], []⟩ }).take.dissRecasts = []))
    ∧ ((Quiet (((mapped 4 []).onShot fun _ => 66).onTake fun u => { u with dissolve := some ⟨0, 64, 1, true, [], []⟩, dissRecasts := [⟨3, 3, 17, false⟩] })) ∧ ((((mapped 4 []).onShot fun _ => 66).onTake fun u => { u with dissolve := some ⟨0, 64, 1, true, [], []⟩, dissRecasts := [⟨3, 3, 17, false⟩] }).take.dissolve = some ((⟨0, 64, 1, true, [], []⟩ : Dissolve))) ∧ (((⟨0, 64, 1, true, [], []⟩ : Dissolve)).t0 + ((⟨0, 64, 1, true, [], []⟩ : Dissolve)).dlen + 2 ≤ (((mapped 4 []).onShot fun _ => 66).onTake fun u => { u with dissolve := some ⟨0, 64, 1, true, [], []⟩, dissRecasts := [⟨3, 3, 17, false⟩] }).shot) ∧ ((((mapped 4 []).onShot fun _ => 66).onTake fun u => { u with dissolve := some ⟨0, 64, 1, true, [], []⟩, dissRecasts := [⟨3, 3, 17, false⟩] }).take.dissRecasts = [((⟨3, 3, 17, false⟩ : Recast))]) ∧ (((⟨3, 3, 17, false⟩ : Recast)).source < 18) ∧ (((⟨3, 3, 17, false⟩ : Recast)).target < 18) ∧ (((⟨3, 3, 17, false⟩ : Recast)).source ≠ ((⟨3, 3, 17, false⟩ : Recast)).target) ∧ (((⟨3, 3, 17, false⟩ : Recast)).logical < 16) ∧ (((((mapped 4 []).onShot fun _ => 66).onTake fun u => { u with dissolve := some ⟨0, 64, 1, true, [], []⟩, dissRecasts := [⟨3, 3, 17, false⟩] }).engine ((⟨3, 3, 17, false⟩ : Recast)).source).retire = false))
    ∧ ((Quiet ((((mapped 4 []).setF (ENG_STAT.STATE 17) 4).setWord (engWin 0 + 4) 7).onTake fun u => { u with recasts := [⟨0, 0, 17, false⟩] })) ∧ (17 < 18) ∧ (((((mapped 4 []).setF (ENG_STAT.STATE 17) 4).setWord (engWin 0 + 4) 7).onTake fun u => { u with recasts := [⟨0, 0, 17, false⟩] }).engState 17 = 4) ∧ (((((mapped 4 []).setF (ENG_STAT.STATE 17) 4).setWord (engWin 0 + 4) 7).onTake fun u => { u with recasts := [⟨0, 0, 17, false⟩] }).take.recasts.find? (fun x => x.target = 17) = some ((⟨0, 0, 17, false⟩ : Recast))) ∧ (((⟨0, 0, 17, false⟩ : Recast)).source < 18) ∧ (((⟨0, 0, 17, false⟩ : Recast)).source ≠ 17) ∧ (4 < 0x10000))
    ∧ ((Quiet (((mapped 4 []).setWord (engWin 0 + 0x40004) 7).onTake fun u => { u with cutRecasts := [⟨⟨0, 0, 17, false⟩, 5, false⟩] })) ∧ ((((mapped 4 []).setWord (engWin 0 + 0x40004) 7).onTake fun u => { u with cutRecasts := [⟨⟨0, 0, 17, false⟩, 5, false⟩] }).take.cutRecasts.find? (fun x => x.r.logical = 0 ∧ !x.copied) = some ((⟨⟨0, 0, 17, false⟩, 5, false⟩ : CutRecast))) ∧ (((⟨⟨0, 0, 17, false⟩, 5, false⟩ : CutRecast)).r.source < 18) ∧ (((⟨⟨0, 0, 17, false⟩, 5, false⟩ : CutRecast)).r.target < 18) ∧ (((⟨⟨0, 0, 17, false⟩, 5, false⟩ : CutRecast)).r.source ≠ ((⟨⟨0, 0, 17, false⟩, 5, false⟩ : CutRecast)).r.target) ∧ (4 < 0x20000))
    ∧ ((Quiet (((mapped 4 []).onShot fun _ => 6).onTake fun u => { u with cutRecasts := [⟨⟨0, 0, 17, false⟩, 5, true⟩] })) ∧ ((((mapped 4 []).onShot fun _ => 6).onTake fun u => { u with cutRecasts := [⟨⟨0, 0, 17, false⟩, 5, true⟩] }).take.cutRecasts.find? (fun x => x.r.logical = 0 ∧ x.copied ∧ x.t0 + 1 ≤ (((mapped 4 []).onShot fun _ => 6).onTake fun u => { u with cutRecasts := [⟨⟨0, 0, 17, false⟩, 5, true⟩] }).shot) = some ((⟨⟨0, 0, 17, false⟩, 5, true⟩ : CutRecast))) ∧ (0 < 16) ∧ (((⟨⟨0, 0, 17, false⟩, 5, true⟩ : CutRecast)).r.source < 18) ∧ (((⟨⟨0, 0, 17, false⟩, 5, true⟩ : CutRecast)).r.target < 18) ∧ (((⟨⟨0, 0, 17, false⟩, 5, true⟩ : CutRecast)).r.source ≠ ((⟨⟨0, 0, 17, false⟩, 5, true⟩ : CutRecast)).r.target) ∧ (((⟨⟨0, 0, 17, false⟩, 5, true⟩ : CutRecast)).r.logical = 0) ∧ (((((mapped 4 []).onShot fun _ => 6).onTake fun u => { u with cutRecasts := [⟨⟨0, 0, 17, false⟩, 5, true⟩] }).engine ((⟨⟨0, 0, 17, false⟩, 5, true⟩ : CutRecast)).r.source).retire = false))
    ∧ ((Quiet ((put 4 []).setF (ENG_STAT.STATE 17) 3)) ∧ (17 < 18) ∧ (((put 4 []).setF (ENG_STAT.STATE 17) 3).engState 17 = 3) ∧ (((put 4 []).setF (ENG_STAT.STATE 17) 3).mode = 4))
    ∧ ((Quiet ((put 4 []).setF (ENG_STAT.STATE 17) 3)) ∧ (17 < 18) ∧ (((put 4 []).setF (ENG_STAT.STATE 17) 3).engState 17 = 3) ∧ (((put 4 []).setF (ENG_STAT.STATE 17) 3).mode = 4) ∧ (3 % 5 ≠ 0) ∧ (((put 4 []).setF (ENG_STAT.STATE 17) 3).fab.repair.length < 4092)) := by
  (repeat' apply And.intro) <;> decide

set_option maxRecDepth 100000 in
/-- The hypotheses of SerialFramesAndBlocks are met. -/
theorem test_witness_SerialFramesAndBlocks :
    ((Quiet (portReady.setF (SP_STAT.ISTATE 63) 2)) ∧ (0 < 16) ∧ (63 < 64) ∧ ((portReady.setF (SP_STAT.ISTATE 63) 2).cgOf 63 = 0) ∧ ((portReady.setF (SP_STAT.ISTATE 63) 2).flag (CG_CFG.ENABLE 0) = true) ∧ (((portReady.setF (SP_STAT.ISTATE 63) 2).flag (CG_CFG.DIR 0) = true ∨ 512 = (portReady.setF (SP_STAT.ISTATE 63) 2).getF (CG_CFG.SLOTS 0) * widthOf ((portReady.setF (SP_STAT.ISTATE 63) 2).getF (CG_CFG.SLOTW 0)))) ∧ (((portReady.setF (SP_STAT.ISTATE 63) 2).group 0).lost = false) ∧ ((portReady.setF (SP_STAT.ISTATE 63) 2).istate 63 ≠ 0 ∨ (portReady.setF (SP_STAT.ISTATE 63) 2).ostate 63 ≠ 0))
    ∧ ((Quiet ((portReady.setF (CG_CFG.DIR 0) 0).setF (SP_STAT.ISTATE 63) 2)) ∧ (0 < 16) ∧ (63 < 64) ∧ (((portReady.setF (CG_CFG.DIR 0) 0).setF (SP_STAT.ISTATE 63) 2).cgOf 63 = 0) ∧ (((portReady.setF (CG_CFG.DIR 0) 0).setF (SP_STAT.ISTATE 63) 2).flag (CG_CFG.ENABLE 0) = true) ∧ (((portReady.setF (CG_CFG.DIR 0) 0).setF (SP_STAT.ISTATE 63) 2).flag (CG_CFG.DIR 0) = false) ∧ (1 ≠ ((portReady.setF (CG_CFG.DIR 0) 0).setF (SP_STAT.ISTATE 63) 2).getF (CG_CFG.SLOTS 0) * widthOf (((portReady.setF (CG_CFG.DIR 0) 0).setF (SP_STAT.ISTATE 63) 2).getF (CG_CFG.SLOTW 0))) ∧ (((portReady.setF (CG_CFG.DIR 0) 0).setF (SP_STAT.ISTATE 63) 2).istate 63 ≠ 0 ∨ ((portReady.setF (CG_CFG.DIR 0) 0).setF (SP_STAT.ISTATE 63) 2).ostate 63 ≠ 0))
    ∧ ((Quiet (onPort 63 (fun u => { u with blkN := 17, tsNs := 99 }) (portReady.setF (SP_STAT.OSTATE 63) 2))) ∧ (63 < 64) ∧ ((onPort 63 (fun u => { u with blkN := 17, tsNs := 99 }) (portReady.setF (SP_STAT.OSTATE 63) 2)).istate 63 ≠ 0 ∨ (onPort 63 (fun u => { u with blkN := 17, tsNs := 99 }) (portReady.setF (SP_STAT.OSTATE 63) 2)).ostate 63 ≠ 0) ∧ ((onPort 63 (fun u => { u with blkN := 17, tsNs := 99 }) (portReady.setF (SP_STAT.OSTATE 63) 2)).n ≤ ((onPort 63 (fun u => { u with blkN := 17, tsNs := 99 }) (portReady.setF (SP_STAT.OSTATE 63) 2)).port 63).blkN) ∧ (((onPort 63 (fun u => { u with blkN := 17, tsNs := 99 }) (portReady.setF (SP_STAT.OSTATE 63) 2)).port 63).capOn = false) ∧ ((onPort 63 (fun u => { u with blkN := 17, tsNs := 99 }) (portReady.setF (SP_STAT.OSTATE 63) 2)).flag (SP_CFG.INSRC 63) = false))
    ∧ ((Quiet (onPort 63 (fun u => { u with capOn := true, blkN := 16, tsNs := 99, blk := List.replicate 16 [(5, 0)] }) (((portReady.setF (SP_STAT.ISTATE 63) 2).setF (SP_CTRL.CAP_EN 63) 1).setF CMD_STAT.LINKUP 1))) ∧ (63 < 64) ∧ ((onPort 63 (fun u => { u with capOn := true, blkN := 16, tsNs := 99, blk := List.replicate 16 [(5, 0)] }) (((portReady.setF (SP_STAT.ISTATE 63) 2).setF (SP_CTRL.CAP_EN 63) 1).setF CMD_STAT.LINKUP 1)).istate 63 ≠ 0) ∧ ((onPort 63 (fun u => { u with capOn := true, blkN := 16, tsNs := 99, blk := List.replicate 16 [(5, 0)] }) (((portReady.setF (SP_STAT.ISTATE 63) 2).setF (SP_CTRL.CAP_EN 63) 1).setF CMD_STAT.LINKUP 1)).n ≤ ((onPort 63 (fun u => { u with capOn := true, blkN := 16, tsNs := 99, blk := List.replicate 16 [(5, 0)] }) (((portReady.setF (SP_STAT.ISTATE 63) 2).setF (SP_CTRL.CAP_EN 63) 1).setF CMD_STAT.LINKUP 1)).port 63).blkN) ∧ (((onPort 63 (fun u => { u with capOn := true, blkN := 16, tsNs := 99, blk := List.replicate 16 [(5, 0)] }) (((portReady.setF (SP_STAT.ISTATE 63) 2).setF (SP_CTRL.CAP_EN 63) 1).setF CMD_STAT.LINKUP 1)).port 63).capOn = true) ∧ ((onPort 63 (fun u => { u with capOn := true, blkN := 16, tsNs := 99, blk := List.replicate 16 [(5, 0)] }) (((portReady.setF (SP_STAT.ISTATE 63) 2).setF (SP_CTRL.CAP_EN 63) 1).setF CMD_STAT.LINKUP 1)).flag (SP_CFG.INSRC 63) = false) ∧ ((onPort 63 (fun u => { u with capOn := true, blkN := 16, tsNs := 99, blk := List.replicate 16 [(5, 0)] }) (((portReady.setF (SP_STAT.ISTATE 63) 2).setF (SP_CTRL.CAP_EN 63) 1).setF CMD_STAT.LINKUP 1)).flag CMD_STAT.LINKUP = true) ∧ (0 = (onPort 63 (fun u => { u with capOn := true, blkN := 16, tsNs := 99, blk := List.replicate 16 [(5, 0)] }) (((portReady.setF (SP_STAT.ISTATE 63) 2).setF (SP_CTRL.CAP_EN 63) 1).setF CMD_STAT.LINKUP 1)).getF (SP_CAP_WPTR.PTR 63)) ∧ (1 = (if 0 + 1 < ((onPort 63 (fun u => { u with capOn := true, blkN := 16, tsNs := 99, blk := List.replicate 16 [(5, 0)] }) (((portReady.setF (SP_STAT.ISTATE 63) 2).setF (SP_CTRL.CAP_EN 63) 1).setF CMD_STAT.LINKUP 1)).port 63).capLen then 0 + 1 else 0)) ∧ (1 < 4096) ∧ (1 ≠ (onPort 63 (fun u => { u with capOn := true, blkN := 16, tsNs := 99, blk := List.replicate 16 [(5, 0)] }) (((portReady.setF (SP_STAT.ISTATE 63) 2).setF (SP_CTRL.CAP_EN 63) 1).setF CMD_STAT.LINKUP 1)).getF (SP_CAP_RPTR.PTR 63)))
    ∧ ((Quiet ((portReady.setF (CG_CFG.DIR 0) 0).setF (SP_STAT.ISTATE 63) 2)) ∧ (0 < 16) ∧ (((portReady.setF (CG_CFG.DIR 0) 0).setF (SP_STAT.ISTATE 63) 2).flag (CG_CFG.ENABLE 0) = true) ∧ (((portReady.setF (CG_CFG.DIR 0) 0).setF (SP_STAT.ISTATE 63) 2).flag (CG_CFG.DIR 0) = false) ∧ (true = true ∨ 2 ≤ (((portReady.setF (CG_CFG.DIR 0) 0).setF (SP_STAT.ISTATE 63) 2).group 0).bad))
    ∧ ((Quiet (onGroup 0 (fun u => { u with lost := true, good := 16 }) (portReady.setF (SP_STAT.ISTATE 63) 3))) ∧ (0 < 16) ∧ (((onGroup 0 (fun u => { u with lost := true, good := 16 }) (portReady.setF (SP_STAT.ISTATE 63) 3)).group 0).lost = true) ∧ (16 ≤ ((onGroup 0 (fun u => { u with lost := true, good := 16 }) (portReady.setF (SP_STAT.ISTATE 63) 3)).group 0).good))
    ∧ ((Quiet (portReady.setF (CG_CFG.DIR 0) 0)) ∧ (0 < 16) ∧ ((portReady.setF (CG_CFG.DIR 0) 0).flag (CG_CFG.ENABLE 0) = true) ∧ ((portReady.setF (CG_CFG.DIR 0) 0).flag (CG_CFG.DIR 0) = false))
    ∧ ((Quiet (onPort 63 (fun u => { u with asrcOut := 1 }) (portReady.setF (CG_CFG.DIR 0) 0))) ∧ (63 < 64) ∧ ((onPort 63 (fun u => { u with asrcOut := 1 }) (portReady.setF (CG_CFG.DIR 0) 0)).flag (CG_CFG.DIR ((onPort 63 (fun u => { u with asrcOut := 1 }) (portReady.setF (CG_CFG.DIR 0) 0)).cgOf 63)) = false) ∧ ((if true then ((onPort 63 (fun u => { u with asrcOut := 1 }) (portReady.setF (CG_CFG.DIR 0) 0)).port 63).asrcOut else ((onPort 63 (fun u => { u with asrcOut := 1 }) (portReady.setF (CG_CFG.DIR 0) 0)).port 63).asrcIn) ≠ 0) ∧ (true = false ∨ (if true then ((onPort 63 (fun u => { u with asrcOut := 1 }) (portReady.setF (CG_CFG.DIR 0) 0)).port 63).badOut else ((onPort 63 (fun u => { u with asrcOut := 1 }) (portReady.setF (CG_CFG.DIR 0) 0)).port 63).badIn) = false ∧ (true = true ∨ (onPort 63 (fun u => { u with asrcOut := 1 }) (portReady.setF (CG_CFG.DIR 0) 0)).istate 63 ≠ 3)))
    ∧ ((Quiet (onCtx 1023 (fun u => { u with asrc := 1 }) streamReady)) ∧ (1023 < 1024) ∧ (0 < ((onCtx 1023 (fun u => { u with asrc := 1 }) streamReady).ctx 1023).asrc) ∧ (true = false ∨ ((onCtx 1023 (fun u => { u with asrc := 1 }) streamReady).ctx 1023).lost = false)) := by
  (repeat' apply And.intro) <;> decide

set_option maxRecDepth 100000 in
/-- The hypotheses of SerialStartsAndStops are met. -/
theorem test_witness_SerialStartsAndStops :
    ((Quiet (onPort 63 (fun u => { u with reqs := [⟨false, true, some 0, none⟩] }) portReady)) ∧ (63 < 64) ∧ (((onPort 63 (fun u => { u with reqs := [⟨false, true, some 0, none⟩] }) portReady).port 63).reqs = [⟨false, true, some 0, none⟩]) ∧ (0 ≤ (onPort 63 (fun u => { u with reqs := [⟨false, true, some 0, none⟩] }) portReady).shot) ∧ ((onPort 63 (fun u => { u with reqs := [⟨false, true, some 0, none⟩] }) portReady).istate 63 = 0) ∧ (startCheck 63 false (onPort 63 (fun u => { u with reqs := [⟨false, true, some 0, none⟩] }) portReady) = 0) ∧ ((onPort 63 (fun u => { u with reqs := [⟨false, true, some 0, none⟩] }) portReady).getF (SP_CFG.INSRC 63) = 0))
    ∧ ((Quiet (onPort 63 (fun u => { u with reqs := [⟨true, true, some 0, none⟩] }) portReady)) ∧ (63 < 64) ∧ (((onPort 63 (fun u => { u with reqs := [⟨true, true, some 0, none⟩] }) portReady).port 63).reqs = [⟨true, true, some 0, none⟩]) ∧ (0 ≤ (onPort 63 (fun u => { u with reqs := [⟨true, true, some 0, none⟩] }) portReady).shot) ∧ ((onPort 63 (fun u => { u with reqs := [⟨true, true, some 0, none⟩] }) portReady).ostate 63 = 0) ∧ (startCheck 63 true (onPort 63 (fun u => { u with reqs := [⟨true, true, some 0, none⟩] }) portReady) = 0))
    ∧ ((Quiet ((onPort 63 (fun u => { u with reqs := [⟨false, true, some 0, none⟩] }) portReady).onPin fun u => { u with claims := [(63, ⟨9, 9⟩)] })) ∧ (63 < 64) ∧ ((((onPort 63 (fun u => { u with reqs := [⟨false, true, some 0, none⟩] }) portReady).onPin fun u => { u with claims := [(63, ⟨9, 9⟩)] }).port 63).reqs = [⟨false, true, some 0, none⟩]) ∧ (0 ≤ ((onPort 63 (fun u => { u with reqs := [⟨false, true, some 0, none⟩] }) portReady).onPin fun u => { u with claims := [(63, ⟨9, 9⟩)] }).shot) ∧ ((if false then ((onPort 63 (fun u => { u with reqs := [⟨false, true, some 0, none⟩] }) portReady).onPin fun u => { u with claims := [(63, ⟨9, 9⟩)] }).ostate 63 else ((onPort 63 (fun u => { u with reqs := [⟨false, true, some 0, none⟩] }) portReady).onPin fun u => { u with claims := [(63, ⟨9, 9⟩)] }).istate 63) = 0) ∧ (startCheck 63 false ((onPort 63 (fun u => { u with reqs := [⟨false, true, some 0, none⟩] }) portReady).onPin fun u => { u with claims := [(63, ⟨9, 9⟩)] }) = 6))
    ∧ ((Quiet (((onPort 63 (fun u => { u with reqs := [⟨true, false, some 0, none⟩] }) portReady).setF (SP_STAT.OSTATE 63) 2).onPin fun u => { u with claims := [(127, ⟨1, 63⟩)] })) ∧ (63 < 64) ∧ (((((onPort 63 (fun u => { u with reqs := [⟨true, false, some 0, none⟩] }) portReady).setF (SP_STAT.OSTATE 63) 2).onPin fun u => { u with claims := [(127, ⟨1, 63⟩)] }).port 63).reqs = [⟨true, false, some 0, none⟩]) ∧ (0 ≤ (((onPort 63 (fun u => { u with reqs := [⟨true, false, some 0, none⟩] }) portReady).setF (SP_STAT.OSTATE 63) 2).onPin fun u => { u with claims := [(127, ⟨1, 63⟩)] }).shot) ∧ ((if true then (((onPort 63 (fun u => { u with reqs := [⟨true, false, some 0, none⟩] }) portReady).setF (SP_STAT.OSTATE 63) 2).onPin fun u => { u with claims := [(127, ⟨1, 63⟩)] }).ostate 63 else (((onPort 63 (fun u => { u with reqs := [⟨true, false, some 0, none⟩] }) portReady).setF (SP_STAT.OSTATE 63) 2).onPin fun u => { u with claims := [(127, ⟨1, 63⟩)] }).istate 63) ≠ 0)) := by
  (repeat' apply And.intro) <;> decide

set_option maxRecDepth 100000 in
/-- The hypotheses of StreamStartsStopsAndLoss are met. -/
theorem test_witness_StreamStartsStopsAndLoss :
    ((Quiet (streamReady.onNet fun u => { u with reqs := [(1023, ⟨false, true, some 0, none⟩)] })) ∧ (1023 < 1024) ∧ ((streamReady.onNet fun u => { u with reqs := [(1023, ⟨false, true, some 0, none⟩)] }).net.reqs = [(1023, ⟨false, true, some 0, none⟩)]) ∧ (0 ≤ (streamReady.onNet fun u => { u with reqs := [(1023, ⟨false, true, some 0, none⟩)] }).shot) ∧ (((streamReady.onNet fun u => { u with reqs := [(1023, ⟨false, true, some 0, none⟩)] }).ctx 1023).st = 0) ∧ (streamStartCheck 1023 ((streamReady.onNet fun u => { u with reqs := [(1023, ⟨false, true, some 0, none⟩)] }).onNet fun u => { u with reqs := [] }) = 0))
    ∧ ((Quiet (onCtx 1023 (fun u => { u with st := 2 }) (streamReady.onNet fun u => { u with reqs := [(1023, ⟨false, false, some 0, none⟩)] }))) ∧ (1023 < 1024) ∧ ((onCtx 1023 (fun u => { u with st := 2 }) (streamReady.onNet fun u => { u with reqs := [(1023, ⟨false, false, some 0, none⟩)] })).net.reqs = [(1023, ⟨false, false, some 0, none⟩)]) ∧ (0 ≤ (onCtx 1023 (fun u => { u with st := 2 }) (streamReady.onNet fun u => { u with reqs := [(1023, ⟨false, false, some 0, none⟩)] })).shot) ∧ (((onCtx 1023 (fun u => { u with st := 2 }) (streamReady.onNet fun u => { u with reqs := [(1023, ⟨false, false, some 0, none⟩)] })).ctx 1023).st ≠ 0))
    ∧ ((Quiet (onCtx 0 (fun u => { u with st := 2 }) (put 4 []))) ∧ (0 < 1024) ∧ (0 < (onCtx 0 (fun u => { u with st := 2 }) (put 4 [])).getF NET_SPART.RXCOUNT) ∧ (((onCtx 0 (fun u => { u with st := 2 }) (put 4 [])).ctx 0).st ≠ 0) ∧ (((onCtx 0 (fun u => { u with st := 2 }) (put 4 [])).ctx 0).lost = false)) := by
  (repeat' apply And.intro) <;> decide

set_option maxRecDepth 100000 in
/-- The hypotheses of StreamPackets are met. -/
theorem test_witness_StreamPackets :
    ((Quiet (onCtx 0 (fun u => { u with words := txWords, st := 1 }) ((put 4 []).onNet fun u => { u with matched := [(0, (streamFrame { CtxU.reset with words := txWords } 9 100 [0#8, 1#8, 0#8, 2#8, 0#8, 3#8, 0#8, 4#8, 0#8, 5#8, 0#8, 6#8] 0 State.reset ++ [0#8, 0#8, 0#8, 0#8]), [3])] }))) ∧ (0 < 1024) ∧ ((onCtx 0 (fun u => { u with words := txWords, st := 1 }) ((put 4 []).onNet fun u => { u with matched := [(0, (streamFrame { CtxU.reset with words := txWords } 9 100 [0#8, 1#8, 0#8, 2#8, 0#8, 3#8, 0#8, 4#8, 0#8, 5#8, 0#8, 6#8] 0 State.reset ++ [0#8, 0#8, 0#8, 0#8]), [3])] })).net.matched = [(0, ((streamFrame { CtxU.reset with words := txWords } 9 100 [0#8, 1#8, 0#8, 2#8, 0#8, 3#8, 0#8, 4#8, 0#8, 5#8, 0#8, 6#8] 0 State.reset ++ [0#8, 0#8, 0#8, 0#8])), (([3] : List Nat)))]) ∧ (((onCtx 0 (fun u => { u with words := txWords, st := 1 }) ((put 4 []).onNet fun u => { u with matched := [(0, (streamFrame { CtxU.reset with words := txWords } 9 100 [0#8, 1#8, 0#8, 2#8, 0#8, 3#8, 0#8, 4#8, 0#8, 5#8, 0#8, 6#8] 0 State.reset ++ [0#8, 0#8, 0#8, 0#8]), [3])] })).ctx 0).st ≠ 0) ∧ ((onCtx 0 (fun u => { u with words := txWords, st := 1 }) ((put 4 []).onNet fun u => { u with matched := [(0, (streamFrame { CtxU.reset with words := txWords } 9 100 [0#8, 1#8, 0#8, 2#8, 0#8, 3#8, 0#8, 4#8, 0#8, 5#8, 0#8, 6#8] 0 State.reset ++ [0#8, 0#8, 0#8, 0#8]), [3])] })).isRx 0 = true) ∧ (rtpPayload ((onCtx 0 (fun u => { u with words := txWords, st := 1 }) ((put 4 []).onNet fun u => { u with matched := [(0, (streamFrame { CtxU.reset with words := txWords } 9 100 [0#8, 1#8, 0#8, 2#8, 0#8, 3#8, 0#8, 4#8, 0#8, 5#8, 0#8, 6#8] 0 State.reset ++ [0#8, 0#8, 0#8, 0#8]), [3])] })).ctx 0) ((streamFrame { CtxU.reset with words := txWords } 9 100 [0#8, 1#8, 0#8, 2#8, 0#8, 3#8, 0#8, 4#8, 0#8, 5#8, 0#8, 6#8] 0 State.reset ++ [0#8, 0#8, 0#8, 0#8])) = some 54) ∧ ((udpInfo ((streamFrame { CtxU.reset with words := txWords } 9 100 [0#8, 1#8, 0#8, 2#8, 0#8, 3#8, 0#8, 4#8, 0#8, 5#8, 0#8, 6#8] 0 State.reset ++ [0#8, 0#8, 0#8, 0#8]))).map (fun x => x.1.l4) = some 34) ∧ (((onCtx 0 (fun u => { u with words := txWords, st := 1 }) ((put 4 []).onNet fun u => { u with matched := [(0, (streamFrame { CtxU.reset with words := txWords } 9 100 [0#8, 1#8, 0#8, 2#8, 0#8, 3#8, 0#8, 4#8, 0#8, 5#8, 0#8, 6#8] 0 State.reset ++ [0#8, 0#8, 0#8, 0#8]), [3])] })).ctx 0).held.length < reservePackets 0 ((onCtx 0 (fun u => { u with words := txWords, st := 1 }) ((put 4 []).onNet fun u => { u with matched := [(0, (streamFrame { CtxU.reset with words := txWords } 9 100 [0#8, 1#8, 0#8, 2#8, 0#8, 3#8, 0#8, 4#8, 0#8, 5#8, 0#8, 6#8] 0 State.reset ++ [0#8, 0#8, 0#8, 0#8]), [3])] })).ctx 0) (onCtx 0 (fun u => { u with words := txWords, st := 1 }) ((put 4 []).onNet fun u => { u with matched := [(0, (streamFrame { CtxU.reset with words := txWords } 9 100 [0#8, 1#8, 0#8, 2#8, 0#8, 3#8, 0#8, 4#8, 0#8, 5#8, 0#8, 6#8] 0 State.reset ++ [0#8, 0#8, 0#8, 0#8]), [3])] }))) ∧ (((onCtx 0 (fun u => { u with words := txWords, st := 1 }) ((put 4 []).onNet fun u => { u with matched := [(0, (streamFrame { CtxU.reset with words := txWords } 9 100 [0#8, 1#8, 0#8, 2#8, 0#8, 3#8, 0#8, 4#8, 0#8, 5#8, 0#8, 6#8] 0 State.reset ++ [0#8, 0#8, 0#8, 0#8]), [3])] })).ctx 0).seq = none) ∧ (((onCtx 0 (fun u => { u with words := txWords, st := 1 }) ((put 4 []).onNet fun u => { u with matched := [(0, (streamFrame { CtxU.reset with words := txWords } 9 100 [0#8, 1#8, 0#8, 2#8, 0#8, 3#8, 0#8, 4#8, 0#8, 5#8, 0#8, 6#8] 0 State.reset ++ [0#8, 0#8, 0#8, 0#8]), [3])] })).ctx 0).conv = true) ∧ (((onCtx 0 (fun u => { u with words := txWords, st := 1 }) ((put 4 []).onNet fun u => { u with matched := [(0, (streamFrame { CtxU.reset with words := txWords } 9 100 [0#8, 1#8, 0#8, 2#8, 0#8, 3#8, 0#8, 4#8, 0#8, 5#8, 0#8, 6#8] 0 State.reset ++ [0#8, 0#8, 0#8, 0#8]), [3])] })).ctx 0).playing = false) ∧ (((onCtx 0 (fun u => { u with words := txWords, st := 1 }) ((put 4 []).onNet fun u => { u with matched := [(0, (streamFrame { CtxU.reset with words := txWords } 9 100 [0#8, 1#8, 0#8, 2#8, 0#8, 3#8, 0#8, 4#8, 0#8, 5#8, 0#8, 6#8] 0 State.reset ++ [0#8, 0#8, 0#8, 0#8]), [3])] })).ctx 0).got = []) ∧ (0 < ((onCtx 0 (fun u => { u with words := txWords, st := 1 }) ((put 4 []).onNet fun u => { u with matched := [(0, (streamFrame { CtxU.reset with words := txWords } 9 100 [0#8, 1#8, 0#8, 2#8, 0#8, 3#8, 0#8, 4#8, 0#8, 5#8, 0#8, 6#8] 0 State.reset ++ [0#8, 0#8, 0#8, 0#8]), [3])] })).ctx 0).spp))
    ∧ ((Quiet (onCtx 0 (fun u => { u with words := (0x00008000#32 :: 0#32 :: List.replicate 18 0#32), st := 1 }) ((put 4 []).onNet fun u => { u with matched := [(0, (streamFrame { CtxU.reset with words := (0x00008000#32 :: 0#32 :: List.replicate 18 0#32) } 9 100 [0#8, 1#8, 0#8, 2#8, 0#8, 3#8, 0#8, 4#8, 0#8, 5#8, 0#8, 6#8] 0 State.reset ++ [0#8, 0#8, 0#8, 0#8]), [3])] }))) ∧ (0 < 1024) ∧ ((onCtx 0 (fun u => { u with words := (0x00008000#32 :: 0#32 :: List.replicate 18 0#32), st := 1 }) ((put 4 []).onNet fun u => { u with matched := [(0, (streamFrame { CtxU.reset with words := (0x00008000#32 :: 0#32 :: List.replicate 18 0#32) } 9 100 [0#8, 1#8, 0#8, 2#8, 0#8, 3#8, 0#8, 4#8, 0#8, 5#8, 0#8, 6#8] 0 State.reset ++ [0#8, 0#8, 0#8, 0#8]), [3])] })).net.matched = [(0, ((streamFrame { CtxU.reset with words := (0x00008000#32 :: 0#32 :: List.replicate 18 0#32) } 9 100 [0#8, 1#8, 0#8, 2#8, 0#8, 3#8, 0#8, 4#8, 0#8, 5#8, 0#8, 6#8] 0 State.reset ++ [0#8, 0#8, 0#8, 0#8])), (([3] : List Nat)))]) ∧ (((onCtx 0 (fun u => { u with words := (0x00008000#32 :: 0#32 :: List.replicate 18 0#32), st := 1 }) ((put 4 []).onNet fun u => { u with matched := [(0, (streamFrame { CtxU.reset with words := (0x00008000#32 :: 0#32 :: List.replicate 18 0#32) } 9 100 [0#8, 1#8, 0#8, 2#8, 0#8, 3#8, 0#8, 4#8, 0#8, 5#8, 0#8, 6#8] 0 State.reset ++ [0#8, 0#8, 0#8, 0#8]), [3])] })).ctx 0).st ≠ 0) ∧ ((onCtx 0 (fun u => { u with words := (0x00008000#32 :: 0#32 :: List.replicate 18 0#32), st := 1 }) ((put 4 []).onNet fun u => { u with matched := [(0, (streamFrame { CtxU.reset with words := (0x00008000#32 :: 0#32 :: List.replicate 18 0#32) } 9 100 [0#8, 1#8, 0#8, 2#8, 0#8, 3#8, 0#8, 4#8, 0#8, 5#8, 0#8, 6#8] 0 State.reset ++ [0#8, 0#8, 0#8, 0#8]), [3])] })).isRx 0 = true) ∧ (rtpPayload ((onCtx 0 (fun u => { u with words := (0x00008000#32 :: 0#32 :: List.replicate 18 0#32), st := 1 }) ((put 4 []).onNet fun u => { u with matched := [(0, (streamFrame { CtxU.reset with words := (0x00008000#32 :: 0#32 :: List.replicate 18 0#32) } 9 100 [0#8, 1#8, 0#8, 2#8, 0#8, 3#8, 0#8, 4#8, 0#8, 5#8, 0#8, 6#8] 0 State.reset ++ [0#8, 0#8, 0#8, 0#8]), [3])] })).ctx 0) ((streamFrame { CtxU.reset with words := (0x00008000#32 :: 0#32 :: List.replicate 18 0#32) } 9 100 [0#8, 1#8, 0#8, 2#8, 0#8, 3#8, 0#8, 4#8, 0#8, 5#8, 0#8, 6#8] 0 State.reset ++ [0#8, 0#8, 0#8, 0#8])) = some 54) ∧ ((udpInfo ((streamFrame { CtxU.reset with words := (0x00008000#32 :: 0#32 :: List.replicate 18 0#32) } 9 100 [0#8, 1#8, 0#8, 2#8, 0#8, 3#8, 0#8, 4#8, 0#8, 5#8, 0#8, 6#8] 0 State.reset ++ [0#8, 0#8, 0#8, 0#8]))).map (fun x => x.1.l4) = some 34) ∧ (((onCtx 0 (fun u => { u with words := (0x00008000#32 :: 0#32 :: List.replicate 18 0#32), st := 1 }) ((put 4 []).onNet fun u => { u with matched := [(0, (streamFrame { CtxU.reset with words := (0x00008000#32 :: 0#32 :: List.replicate 18 0#32) } 9 100 [0#8, 1#8, 0#8, 2#8, 0#8, 3#8, 0#8, 4#8, 0#8, 5#8, 0#8, 6#8] 0 State.reset ++ [0#8, 0#8, 0#8, 0#8]), [3])] })).ctx 0).held.length < reservePackets 0 ((onCtx 0 (fun u => { u with words := (0x00008000#32 :: 0#32 :: List.replicate 18 0#32), st := 1 }) ((put 4 []).onNet fun u => { u with matched := [(0, (streamFrame { CtxU.reset with words := (0x00008000#32 :: 0#32 :: List.replicate 18 0#32) } 9 100 [0#8, 1#8, 0#8, 2#8, 0#8, 3#8, 0#8, 4#8, 0#8, 5#8, 0#8, 6#8] 0 State.reset ++ [0#8, 0#8, 0#8, 0#8]), [3])] })).ctx 0) (onCtx 0 (fun u => { u with words := (0x00008000#32 :: 0#32 :: List.replicate 18 0#32), st := 1 }) ((put 4 []).onNet fun u => { u with matched := [(0, (streamFrame { CtxU.reset with words := (0x00008000#32 :: 0#32 :: List.replicate 18 0#32) } 9 100 [0#8, 1#8, 0#8, 2#8, 0#8, 3#8, 0#8, 4#8, 0#8, 5#8, 0#8, 6#8] 0 State.reset ++ [0#8, 0#8, 0#8, 0#8]), [3])] }))) ∧ (((onCtx 0 (fun u => { u with words := (0x00008000#32 :: 0#32 :: List.replicate 18 0#32), st := 1 }) ((put 4 []).onNet fun u => { u with matched := [(0, (streamFrame { CtxU.reset with words := (0x00008000#32 :: 0#32 :: List.replicate 18 0#32) } 9 100 [0#8, 1#8, 0#8, 2#8, 0#8, 3#8, 0#8, 4#8, 0#8, 5#8, 0#8, 6#8] 0 State.reset ++ [0#8, 0#8, 0#8, 0#8]), [3])] })).ctx 0).seq = none) ∧ (((onCtx 0 (fun u => { u with words := (0x00008000#32 :: 0#32 :: List.replicate 18 0#32), st := 1 }) ((put 4 []).onNet fun u => { u with matched := [(0, (streamFrame { CtxU.reset with words := (0x00008000#32 :: 0#32 :: List.replicate 18 0#32) } 9 100 [0#8, 1#8, 0#8, 2#8, 0#8, 3#8, 0#8, 4#8, 0#8, 5#8, 0#8, 6#8] 0 State.reset ++ [0#8, 0#8, 0#8, 0#8]), [3])] })).ctx 0).conv = false) ∧ (bitOf ((onCtx 0 (fun u => { u with words := (0x00008000#32 :: 0#32 :: List.replicate 18 0#32), st := 1 }) ((put 4 []).onNet fun u => { u with matched := [(0, (streamFrame { CtxU.reset with words := (0x00008000#32 :: 0#32 :: List.replicate 18 0#32) } 9 100 [0#8, 1#8, 0#8, 2#8, 0#8, 3#8, 0#8, 4#8, 0#8, 5#8, 0#8, 6#8] 0 State.reset ++ [0#8, 0#8, 0#8, 0#8]), [3])] })).ctx 0).w0 28 = false) ∧ (((onCtx 0 (fun u => { u with words := (0x00008000#32 :: 0#32 :: List.replicate 18 0#32), st := 1 }) ((put 4 []).onNet fun u => { u with matched := [(0, (streamFrame { CtxU.reset with words := (0x00008000#32 :: 0#32 :: List.replicate 18 0#32) } 9 100 [0#8, 1#8, 0#8, 2#8, 0#8, 3#8, 0#8, 4#8, 0#8, 5#8, 0#8, 6#8] 0 State.reset ++ [0#8, 0#8, 0#8, 0#8]), [3])] })).ctx 0).got = []) ∧ (100 = nearIndex ((beAt ((streamFrame { CtxU.reset with words := (0x00008000#32 :: 0#32 :: List.replicate 18 0#32) } 9 100 [0#8, 1#8, 0#8, 2#8, 0#8, 3#8, 0#8, 4#8, 0#8, 5#8, 0#8, 6#8] 0 State.reset ++ [0#8, 0#8, 0#8, 0#8])) (34 + 12) 4 + (((onCtx 0 (fun u => { u with words := (0x00008000#32 :: 0#32 :: List.replicate 18 0#32), st := 1 }) ((put 4 []).onNet fun u => { u with matched := [(0, (streamFrame { CtxU.reset with words := (0x00008000#32 :: 0#32 :: List.replicate 18 0#32) } 9 100 [0#8, 1#8, 0#8, 2#8, 0#8, 3#8, 0#8, 4#8, 0#8, 5#8, 0#8, 6#8] 0 State.reset ++ [0#8, 0#8, 0#8, 0#8]), [3])] })).ctx 0).delay + 2 ^ 32 - nAt ((onCtx 0 (fun u => { u with words := (0x00008000#32 :: 0#32 :: List.replicate 18 0#32), st := 1 }) ((put 4 []).onNet fun u => { u with matched := [(0, (streamFrame { CtxU.reset with words := (0x00008000#32 :: 0#32 :: List.replicate 18 0#32) } 9 100 [0#8, 1#8, 0#8, 2#8, 0#8, 3#8, 0#8, 4#8, 0#8, 5#8, 0#8, 6#8] 0 State.reset ++ [0#8, 0#8, 0#8, 0#8]), [3])] })).ctx 0).words 6) % 2 ^ 32) % 2 ^ 32) ((onCtx 0 (fun u => { u with words := (0x00008000#32 :: 0#32 :: List.replicate 18 0#32), st := 1 }) ((put 4 []).onNet fun u => { u with matched := [(0, (streamFrame { CtxU.reset with words := (0x00008000#32 :: 0#32 :: List.replicate 18 0#32) } 9 100 [0#8, 1#8, 0#8, 2#8, 0#8, 3#8, 0#8, 4#8, 0#8, 5#8, 0#8, 6#8] 0 State.reset ++ [0#8, 0#8, 0#8, 0#8]), [3])] })).shot * (onCtx 0 (fun u => { u with words := (0x00008000#32 :: 0#32 :: List.replicate 18 0#32), st := 1 }) ((put 4 []).onNet fun u => { u with matched := [(0, (streamFrame { CtxU.reset with words := (0x00008000#32 :: 0#32 :: List.replicate 18 0#32) } 9 100 [0#8, 1#8, 0#8, 2#8, 0#8, 3#8, 0#8, 4#8, 0#8, 5#8, 0#8, 6#8] 0 State.reset ++ [0#8, 0#8, 0#8, 0#8]), [3])] })).n + 0)) ∧ ((((onCtx 0 (fun u => { u with words := (0x00008000#32 :: 0#32 :: List.replicate 18 0#32), st := 1 }) ((put 4 []).onNet fun u => { u with matched := [(0, (streamFrame { CtxU.reset with words := (0x00008000#32 :: 0#32 :: List.replicate 18 0#32) } 9 100 [0#8, 1#8, 0#8, 2#8, 0#8, 3#8, 0#8, 4#8, 0#8, 5#8, 0#8, 6#8] 0 State.reset ++ [0#8, 0#8, 0#8, 0#8]), [3])] })).ctx 0).next : Int) ≤ 100) ∧ (0 < ((onCtx 0 (fun u => { u with words := (0x00008000#32 :: 0#32 :: List.replicate 18 0#32), st := 1 }) ((put 4 []).onNet fun u => { u with matched := [(0, (streamFrame { CtxU.reset with words := (0x00008000#32 :: 0#32 :: List.replicate 18 0#32) } 9 100 [0#8, 1#8, 0#8, 2#8, 0#8, 3#8, 0#8, 4#8, 0#8, 5#8, 0#8, 6#8] 0 State.reset ++ [0#8, 0#8, 0#8, 0#8]), [3])] })).ctx 0).spp))
    ∧ ((Quiet (onCtx 0 (fun u => { u with words := txWords, st := 1 }) (put 4 []))) ∧ (0 < 1024) ∧ (((onCtx 0 (fun u => { u with words := txWords, st := 1 }) (put 4 [])).ctx 0).st = 1) ∧ ((onCtx 0 (fun u => { u with words := txWords, st := 1 }) (put 4 [])).isRx 0 = true) ∧ (((onCtx 0 (fun u => { u with words := txWords, st := 1 }) (put 4 [])).ctx 0).next < (onCtx 0 (fun u => { u with words := txWords, st := 1 }) (put 4 [])).shot * (onCtx 0 (fun u => { u with words := txWords, st := 1 }) (put 4 [])).n + (onCtx 0 (fun u => { u with words := txWords, st := 1 }) (put 4 [])).n) ∧ (0 < ((onCtx 0 (fun u => { u with words := txWords, st := 1 }) (put 4 [])).ctx 0).nch))
    ∧ ((Quiet (onCtx 0 (fun u => { u with words := (0x00008000#32 :: 0#32 :: List.replicate 18 0#32), st := 2, got := (List.range 16).map fun i => (i, [5#32]) }) (put 4 []))) ∧ (0 < 1024) ∧ (((onCtx 0 (fun u => { u with words := (0x00008000#32 :: 0#32 :: List.replicate 18 0#32), st := 2, got := (List.range 16).map fun i => (i, [5#32]) }) (put 4 [])).ctx 0).st = 2) ∧ ((onCtx 0 (fun u => { u with words := (0x00008000#32 :: 0#32 :: List.replicate 18 0#32), st := 2, got := (List.range 16).map fun i => (i, [5#32]) }) (put 4 [])).isRx 0 = true) ∧ (((onCtx 0 (fun u => { u with words := (0x00008000#32 :: 0#32 :: List.replicate 18 0#32), st := 2, got := (List.range 16).map fun i => (i, [5#32]) }) (put 4 [])).ctx 0).next < (onCtx 0 (fun u => { u with words := (0x00008000#32 :: 0#32 :: List.replicate 18 0#32), st := 2, got := (List.range 16).map fun i => (i, [5#32]) }) (put 4 [])).shot * (onCtx 0 (fun u => { u with words := (0x00008000#32 :: 0#32 :: List.replicate 18 0#32), st := 2, got := (List.range 16).map fun i => (i, [5#32]) }) (put 4 [])).n + (onCtx 0 (fun u => { u with words := (0x00008000#32 :: 0#32 :: List.replicate 18 0#32), st := 2, got := (List.range 16).map fun i => (i, [5#32]) }) (put 4 [])).n) ∧ (((onCtx 0 (fun u => { u with words := (0x00008000#32 :: 0#32 :: List.replicate 18 0#32), st := 2, got := (List.range 16).map fun i => (i, [5#32]) }) (put 4 [])).ctx 0).conv = false) ∧ (0 < ((onCtx 0 (fun u => { u with words := (0x00008000#32 :: 0#32 :: List.replicate 18 0#32), st := 2, got := (List.range 16).map fun i => (i, [5#32]) }) (put 4 [])).ctx 0).nch) ∧ ((∀ i, i < (onCtx 0 (fun u => { u with words := (0x00008000#32 :: 0#32 :: List.replicate 18 0#32), st := 2, got := (List.range 16).map fun i => (i, [5#32]) }) (put 4 [])).n → (((onCtx 0 (fun u => { u with words := (0x00008000#32 :: 0#32 :: List.replicate 18 0#32), st := 2, got := (List.range 16).map fun i => (i, [5#32]) }) (put 4 [])).ctx 0).got.any fun g => g.1 = (onCtx 0 (fun u => { u with words := (0x00008000#32 :: 0#32 :: List.replicate 18 0#32), st := 2, got := (List.range 16).map fun i => (i, [5#32]) }) (put 4 [])).shot * (onCtx 0 (fun u => { u with words := (0x00008000#32 :: 0#32 :: List.replicate 18 0#32), st := 2, got := (List.range 16).map fun i => (i, [5#32]) }) (put 4 [])).n + i) = true)))
    ∧ ((Quiet (onCtx 1023 (fun u => { u with words := (0x00008000#32 :: 0#32 :: List.replicate 18 0#32), st := 2, tx := List.replicate 6 [5#32] }) ((put 4 []).setF SYS_MODE.TICK 1))) ∧ (1023 < 1024) ∧ (((onCtx 1023 (fun u => { u with words := (0x00008000#32 :: 0#32 :: List.replicate 18 0#32), st := 2, tx := List.replicate 6 [5#32] }) ((put 4 []).setF SYS_MODE.TICK 1)).ctx 1023).st ≠ 0) ∧ ((onCtx 1023 (fun u => { u with words := (0x00008000#32 :: 0#32 :: List.replicate 18 0#32), st := 2, tx := List.replicate 6 [5#32] }) ((put 4 []).setF SYS_MODE.TICK 1)).isRx 1023 = false) ∧ (releases (onCtx 1023 (fun u => { u with words := (0x00008000#32 :: 0#32 :: List.replicate 18 0#32), st := 2, tx := List.replicate 6 [5#32] }) ((put 4 []).setF SYS_MODE.TICK 1)) = true) ∧ (((onCtx 1023 (fun u => { u with words := (0x00008000#32 :: 0#32 :: List.replicate 18 0#32), st := 2, tx := List.replicate 6 [5#32] }) ((put 4 []).setF SYS_MODE.TICK 1)).ctx 1023).conv = false) ∧ (((onCtx 1023 (fun u => { u with words := (0x00008000#32 :: 0#32 :: List.replicate 18 0#32), st := 2, tx := List.replicate 6 [5#32] }) ((put 4 []).setF SYS_MODE.TICK 1)).ctx 1023).txBase ≤ ((onCtx 1023 (fun u => { u with words := (0x00008000#32 :: 0#32 :: List.replicate 18 0#32), st := 2, tx := List.replicate 6 [5#32] }) ((put 4 []).setF SYS_MODE.TICK 1)).ctx 1023).next) ∧ (((onCtx 1023 (fun u => { u with words := (0x00008000#32 :: 0#32 :: List.replicate 18 0#32), st := 2, tx := List.replicate 6 [5#32] }) ((put 4 []).setF SYS_MODE.TICK 1)).ctx 1023).next + ((onCtx 1023 (fun u => { u with words := (0x00008000#32 :: 0#32 :: List.replicate 18 0#32), st := 2, tx := List.replicate 6 [5#32] }) ((put 4 []).setF SYS_MODE.TICK 1)).ctx 1023).spp ≤ ((onCtx 1023 (fun u => { u with words := (0x00008000#32 :: 0#32 :: List.replicate 18 0#32), st := 2, tx := List.replicate 6 [5#32] }) ((put 4 []).setF SYS_MODE.TICK 1)).ctx 1023).txBase + ((onCtx 1023 (fun u => { u with words := (0x00008000#32 :: 0#32 :: List.replicate 18 0#32), st := 2, tx := List.replicate 6 [5#32] }) ((put 4 []).setF SYS_MODE.TICK 1)).ctx 1023).tx.length))
    ∧ ((Quiet (onNPort 3 (fun u => { u with q := [⟨2, 0, false, [1#8], [], none, 1023, 0, 5⟩] }) (put 4 []))) ∧ (3 < 4) ∧ (((onNPort 3 (fun u => { u with q := [⟨2, 0, false, [1#8], [], none, 1023, 0, 5⟩] }) (put 4 [])).nport 3).q = ((⟨2, 0, false, [1#8], [], none, 1023, 0, 5⟩ : EgFrame)) :: (([] : List EgFrame))) ∧ (((⟨2, 0, false, [1#8], [], none, 1023, 0, 5⟩ : EgFrame)).kind = 2) ∧ (((⟨2, 0, false, [1#8], [], none, 1023, 0, 5⟩ : EgFrame)).host = none) ∧ (firstDue 3 (onNPort 3 (fun u => { u with q := [⟨2, 0, false, [1#8], [], none, 1023, 0, 5⟩] }) (put 4 [])) = some ((⟨2, 0, false, [1#8], [], none, 1023, 0, 5⟩ : EgFrame)).due)) := by
  (repeat' apply And.intro) <;> decide

set_option maxRecDepth 100000 in
/-- The hypotheses of DailiesEvents are met. -/
theorem test_witness_DailiesEvents :
    ((Quiet (laneReady.onDl fun u => { u with reqs := [(31, ⟨false, true, some 0, none⟩)] })) ∧ (31 < 32) ∧ ((laneReady.onDl fun u => { u with reqs := [(31, ⟨false, true, some 0, none⟩)] }).dl.reqs = [(31, ⟨false, true, some 0, none⟩)]) ∧ (0 ≤ (laneReady.onDl fun u => { u with reqs := [(31, ⟨false, true, some 0, none⟩)] }).shot) ∧ ((laneReady.onDl fun u => { u with reqs := [(31, ⟨false, true, some 0, none⟩)] }).lstate 31 = 0) ∧ (laneCheck 31 (laneReady.onDl fun u => { u with reqs := [(31, ⟨false, true, some 0, none⟩)] }) = 0))
    ∧ ((Quiet ((laneReady.setF (DL_LSTAT.STATE 31) 2).onDl fun u => { u with reqs := [(31, ⟨false, false, some 0, none⟩)] })) ∧ (31 < 32) ∧ (((laneReady.setF (DL_LSTAT.STATE 31) 2).onDl fun u => { u with reqs := [(31, ⟨false, false, some 0, none⟩)] }).dl.reqs = [(31, ⟨false, false, some 0, none⟩)]) ∧ (0 ≤ ((laneReady.setF (DL_LSTAT.STATE 31) 2).onDl fun u => { u with reqs := [(31, ⟨false, false, some 0, none⟩)] }).shot) ∧ (((laneReady.setF (DL_LSTAT.STATE 31) 2).onDl fun u => { u with reqs := [(31, ⟨false, false, some 0, none⟩)] }).lstate 31 ≠ 0))
    ∧ ((Quiet (laneReady.setF (DL_LSTAT.STATE 31) 2)) ∧ (31 < 32) ∧ ((laneReady.setF (DL_LSTAT.STATE 31) 2).lstate 31 = 1 ∨ (laneReady.setF (DL_LSTAT.STATE 31) 2).lstate 31 = 2))
    ∧ ((Quiet (laneReady.setF (DL_LSTAT.STATE 31) 3)) ∧ (31 < 32) ∧ ((laneReady.setF (DL_LSTAT.STATE 31) 3).lstate 31 = 3))
    ∧ ((Quiet (laneReady.setF (DL_LSTAT.STATE 31) 1)) ∧ (31 < 32) ∧ ((laneReady.setF (DL_LSTAT.STATE 31) 1).lstate 31 = 1) ∧ ((laneReady.setF (DL_LSTAT.STATE 31) 1).getF (DL_LSTAT.UNSET 31) = 0))
    ∧ ((Quiet ((put 4 []).onDl fun u => { u with pend := [(4095, 0x00010000#32)] })) ∧ (((put 4 []).onDl fun u => { u with pend := [(4095, 0x00010000#32)] }).dl.pend = [(4095, ((0x00010000#32 : Word)))]) ∧ (((put 4 []).onDl fun u => { u with pend := [(4095, 0x00010000#32)] }).dl.sets = 0) ∧ (((put 4 []).onDl fun u => { u with pend := [(4095, 0x00010000#32)] }).dl.enPend = false))
    ∧ ((Quiet (((((put 4 []).setF DL_MCTRL.EN 1).setF DL_MLEN.LEN 2).setF CMD_STAT.LINKUP 1).onShot (fun _ => 20) |>.onDl fun u => { u with nextK := some 0 })) ∧ (frameDue (((((put 4 []).setF DL_MCTRL.EN 1).setF DL_MLEN.LEN 2).setF CMD_STAT.LINKUP 1).onShot (fun _ => 20) |>.onDl fun u => { u with nextK := some 0 }) = some 0) ∧ (((((((put 4 []).setF DL_MCTRL.EN 1).setF DL_MLEN.LEN 2).setF CMD_STAT.LINKUP 1).onShot (fun _ => 20) |>.onDl fun u => { u with nextK := some 0 }).getF DL_MWPTR.PTR + 1) % (((((put 4 []).setF DL_MCTRL.EN 1).setF DL_MLEN.LEN 2).setF CMD_STAT.LINKUP 1).onShot (fun _ => 20) |>.onDl fun u => { u with nextK := some 0 }).getF DL_MLEN.LEN ≠ (((((put 4 []).setF DL_MCTRL.EN 1).setF DL_MLEN.LEN 2).setF CMD_STAT.LINKUP 1).onShot (fun _ => 20) |>.onDl fun u => { u with nextK := some 0 }).getF DL_MRPTR.PTR) ∧ ((((((put 4 []).setF DL_MCTRL.EN 1).setF DL_MLEN.LEN 2).setF CMD_STAT.LINKUP 1).onShot (fun _ => 20) |>.onDl fun u => { u with nextK := some 0 }).flag CMD_STAT.LINKUP = true))
    ∧ ((Quiet ((((put 4 []).setF DL_MCTRL.EN 1).onShot fun _ => 20).onDl fun u => { u with nextK := some 0 })) ∧ (frameDue ((((put 4 []).setF DL_MCTRL.EN 1).onShot fun _ => 20).onDl fun u => { u with nextK := some 0 }) = some 0) ∧ (((((put 4 []).setF DL_MCTRL.EN 1).onShot fun _ => 20).onDl fun u => { u with nextK := some 0 }).flag CMD_STAT.LINKUP = false))
    ∧ ((Quiet ((((put 4 []).setF CMD_STAT.LINKUP 1).setF DL_MLEN.LEN 2).onDl fun u => { u with frame := some [1#8] })) ∧ (((((put 4 []).setF CMD_STAT.LINKUP 1).setF DL_MLEN.LEN 2).onDl fun u => { u with frame := some [1#8] }).dl.frame = some (([1#8] : List Byte))) ∧ (((((put 4 []).setF CMD_STAT.LINKUP 1).setF DL_MLEN.LEN 2).onDl fun u => { u with frame := some [1#8] }).flag CMD_STAT.LINKUP = true) ∧ (((((put 4 []).setF CMD_STAT.LINKUP 1).setF DL_MLEN.LEN 2).onDl fun u => { u with frame := some [1#8] }).flag DL_MCTRL.IE = false) ∧ (((((put 4 []).setF CMD_STAT.LINKUP 1).setF DL_MLEN.LEN 2).onDl fun u => { u with frame := some [1#8] }).getF DL_MLEN.LEN ≤ 4096) ∧ (0 < ((((put 4 []).setF CMD_STAT.LINKUP 1).setF DL_MLEN.LEN 2).onDl fun u => { u with frame := some [1#8] }).getF DL_MLEN.LEN) ∧ (((((put 4 []).setF CMD_STAT.LINKUP 1).setF DL_MLEN.LEN 2).onDl fun u => { u with frame := some [1#8] }).dl.fseq < 2 ^ 32)) := by
  (repeat' apply And.intro) <;> decide

set_option maxRecDepth 100000 in
/-- The hypotheses of NetworkFrames are met. -/
theorem test_witness_NetworkFrames :
    ((Quiet (((put 4 []).setF (NET_PCFG.ENABLE 0) 1).setF (NET_PSTAT.LINK 0) 1)) ∧ (0 < 4) ∧ ((((put 4 []).setF (NET_PCFG.ENABLE 0) 1).setF (NET_PSTAT.LINK 0) 1).flag (NET_PCFG.ENABLE 0) = true) ∧ ((((put 4 []).setF (NET_PCFG.ENABLE 0) 1).setF (NET_PSTAT.LINK 0) 1).flag (NET_PSTAT.LINK 0) = true) ∧ (false = true ∨ (List.replicate 63 0#8).length < 64 ∨ (((put 4 []).setF (NET_PCFG.ENABLE 0) 1).setF (NET_PSTAT.LINK 0) 1).getF (NET_PCFG.MAXF 0) < (List.replicate 63 0#8).length ∨ fcsOk (List.replicate 63 0#8) = false))
    ∧ ((Quiet (onCtx 0 (fun u => { u with words := txWords, st := 1 }) (((put 4 []).setF (NET_PCFG.ENABLE 0) 1).setF (NET_PSTAT.LINK 0) 1))) ∧ (0 < 4) ∧ ((onCtx 0 (fun u => { u with words := txWords, st := 1 }) (((put 4 []).setF (NET_PCFG.ENABLE 0) 1).setF (NET_PSTAT.LINK 0) 1)).flag (NET_PCFG.ENABLE 0) = true) ∧ ((onCtx 0 (fun u => { u with words := txWords, st := 1 }) (((put 4 []).setF (NET_PCFG.ENABLE 0) 1).setF (NET_PSTAT.LINK 0) 1)).flag (NET_PSTAT.LINK 0) = true) ∧ (64 ≤ ((withFcs (streamFrame { CtxU.reset with words := txWords } 9 100 [0#8, 1#8, 0#8, 2#8, 0#8, 3#8, 0#8, 4#8, 0#8, 5#8, 0#8, 6#8] 0 State.reset))).length) ∧ (((withFcs (streamFrame { CtxU.reset with words := txWords } 9 100 [0#8, 1#8, 0#8, 2#8, 0#8, 3#8, 0#8, 4#8, 0#8, 5#8, 0#8, 6#8] 0 State.reset))).length ≤ (onCtx 0 (fun u => { u with words := txWords, st := 1 }) (((put 4 []).setF (NET_PCFG.ENABLE 0) 1).setF (NET_PSTAT.LINK 0) 1)).getF (NET_PCFG.MAXF 0)) ∧ (fcsOk ((withFcs (streamFrame { CtxU.reset with words := txWords } 9 100 [0#8, 1#8, 0#8, 2#8, 0#8, 3#8, 0#8, 4#8, 0#8, 5#8, 0#8, 6#8] 0 State.reset))) = true) ∧ (isMember 0 (onCtx 0 (fun u => { u with words := txWords, st := 1 }) (((put 4 []).setF (NET_PCFG.ENABLE 0) 1).setF (NET_PSTAT.LINK 0) 1)) = false) ∧ (etherType ((withFcs (streamFrame { CtxU.reset with words := txWords } 9 100 [0#8, 1#8, 0#8, 2#8, 0#8, 3#8, 0#8, 4#8, 0#8, 5#8, 0#8, 6#8] 0 State.reset))) ≠ 0x8808) ∧ (ptpOff ((withFcs (streamFrame { CtxU.reset with words := txWords } 9 100 [0#8, 1#8, 0#8, 2#8, 0#8, 3#8, 0#8, 4#8, 0#8, 5#8, 0#8, 6#8] 0 State.reset))) = none) ∧ (matchCtx 0 ((withFcs (streamFrame { CtxU.reset with words := txWords } 9 100 [0#8, 1#8, 0#8, 2#8, 0#8, 3#8, 0#8, 4#8, 0#8, 5#8, 0#8, 6#8] 0 State.reset))) (onCtx 0 (fun u => { u with words := txWords, st := 1 }) (((put 4 []).setF (NET_PCFG.ENABLE 0) 1).setF (NET_PSTAT.LINK 0) 1)) = some 0) ∧ ((onCtx 0 (fun u => { u with words := txWords, st := 1 }) (((put 4 []).setF (NET_PCFG.ENABLE 0) 1).setF (NET_PSTAT.LINK 0) 1)).bufUse 3 + bufsFor ((withFcs (streamFrame { CtxU.reset with words := txWords } 9 100 [0#8, 1#8, 0#8, 2#8, 0#8, 3#8, 0#8, 4#8, 0#8, 5#8, 0#8, 6#8] 0 State.reset))).length ≤ (onCtx 0 (fun u => { u with words := txWords, st := 1 }) (((put 4 []).setF (NET_PCFG.ENABLE 0) 1).setF (NET_PSTAT.LINK 0) 1)).bufMax 3) ∧ (bufsFor ((withFcs (streamFrame { CtxU.reset with words := txWords } 9 100 [0#8, 1#8, 0#8, 2#8, 0#8, 3#8, 0#8, 4#8, 0#8, 5#8, 0#8, 6#8] 0 State.reset))).length ≤ (onCtx 0 (fun u => { u with words := txWords, st := 1 }) (((put 4 []).setF (NET_PCFG.ENABLE 0) 1).setF (NET_PSTAT.LINK 0) 1)).freeBufs.length))
    ∧ ((Quiet (put 4 [])) ∧ ((([1#8] : List Byte)).length < 64))
    ∧ ((Quiet (put 4 [])) ∧ (64 ≤ ((withFcs [255#8, 255#8, 255#8, 255#8, 255#8, 255#8, 2#8, 0#8, 0#8, 0#8, 0#8, 1#8, 8#8, 6#8, 0#8, 1#8, 8#8, 0#8, 6#8, 4#8, 0#8, 1#8, 2#8, 0#8, 0#8, 0#8, 0#8, 1#8, 10#8, 0#8, 0#8, 2#8, 0#8, 0#8, 0#8, 0#8, 0#8, 0#8, 0#8, 0#8, 0#8, 0#8])).length) ∧ (((withFcs [255#8, 255#8, 255#8, 255#8, 255#8, 255#8, 2#8, 0#8, 0#8, 0#8, 0#8, 1#8, 8#8, 6#8, 0#8, 1#8, 8#8, 0#8, 6#8, 4#8, 0#8, 1#8, 2#8, 0#8, 0#8, 0#8, 0#8, 1#8, 10#8, 0#8, 0#8, 2#8, 0#8, 0#8, 0#8, 0#8, 0#8, 0#8, 0#8, 0#8, 0#8, 0#8])).length ≤ 1522) ∧ (fcsOk ((withFcs [255#8, 255#8, 255#8, 255#8, 255#8, 255#8, 2#8, 0#8, 0#8, 0#8, 0#8, 1#8, 8#8, 6#8, 0#8, 1#8, 8#8, 0#8, 6#8, 4#8, 0#8, 1#8, 2#8, 0#8, 0#8, 0#8, 0#8, 1#8, 10#8, 0#8, 0#8, 2#8, 0#8, 0#8, 0#8, 0#8, 0#8, 0#8, 0#8, 0#8, 0#8, 0#8])) = true) ∧ (sysFree (put 4 []) = true) ∧ ((put 4 []).flag (NET_PSTAT.PAUSED 4) = false) ∧ (etherType ((withFcs [255#8, 255#8, 255#8, 255#8, 255#8, 255#8, 2#8, 0#8, 0#8, 0#8, 0#8, 1#8, 8#8, 6#8, 0#8, 1#8, 8#8, 0#8, 6#8, 4#8, 0#8, 1#8, 2#8, 0#8, 0#8, 0#8, 0#8, 1#8, 10#8, 0#8, 0#8, 2#8, 0#8, 0#8, 0#8, 0#8, 0#8, 0#8, 0#8, 0#8, 0#8, 0#8])) = 0x0806) ∧ (mgmtAnswer ((withFcs [255#8, 255#8, 255#8, 255#8, 255#8, 255#8, 2#8, 0#8, 0#8, 0#8, 0#8, 1#8, 8#8, 6#8, 0#8, 1#8, 8#8, 0#8, 6#8, 4#8, 0#8, 1#8, 2#8, 0#8, 0#8, 0#8, 0#8, 1#8, 10#8, 0#8, 0#8, 2#8, 0#8, 0#8, 0#8, 0#8, 0#8, 0#8, 0#8, 0#8, 0#8, 0#8])) 0 (put 4 []) = some (([2#8, 0#8, 0#8, 0#8, 0#8, 1#8, 0#8, 0#8, 0#8, 0#8, 0#8, 0#8, 8#8, 6#8, 0#8, 1#8, 8#8, 0#8, 6#8, 4#8, 0#8, 2#8, 0#8, 0#8, 0#8, 0#8, 0#8, 0#8, 0#8, 0#8, 0#8, 0#8, 2#8, 0#8, 0#8, 0#8, 0#8, 1#8, 10#8, 0#8, 0#8, 2#8] ++ List.replicate 18 0))))
    ∧ ((Quiet ((put 4 []).setF (NET_PIP4.ADDR 4) 7)) ∧ (64 ≤ ((withFcs [255#8, 255#8, 255#8, 255#8, 255#8, 255#8, 2#8, 0#8, 0#8, 0#8, 0#8, 1#8, 8#8, 6#8, 0#8, 1#8, 8#8, 0#8, 6#8, 4#8, 0#8, 1#8, 2#8, 0#8, 0#8, 0#8, 0#8, 1#8, 10#8, 0#8, 0#8, 2#8, 0#8, 0#8, 0#8, 0#8, 0#8, 0#8, 0#8, 0#8, 0#8, 0#8])).length) ∧ (((withFcs [255#8, 255#8, 255#8, 255#8, 255#8, 255#8, 2#8, 0#8, 0#8, 0#8, 0#8, 1#8, 8#8, 6#8, 0#8, 1#8, 8#8, 0#8, 6#8, 4#8, 0#8, 1#8, 2#8, 0#8, 0#8, 0#8, 0#8, 1#8, 10#8, 0#8, 0#8, 2#8, 0#8, 0#8, 0#8, 0#8, 0#8, 0#8, 0#8, 0#8, 0#8, 0#8])).length ≤ 1522) ∧ (fcsOk ((withFcs [255#8, 255#8, 255#8, 255#8, 255#8, 255#8, 2#8, 0#8, 0#8, 0#8, 0#8, 1#8, 8#8, 6#8, 0#8, 1#8, 8#8, 0#8, 6#8, 4#8, 0#8, 1#8, 2#8, 0#8, 0#8, 0#8, 0#8, 1#8, 10#8, 0#8, 0#8, 2#8, 0#8, 0#8, 0#8, 0#8, 0#8, 0#8, 0#8, 0#8, 0#8, 0#8])) = true) ∧ (sysFree ((put 4 []).setF (NET_PIP4.ADDR 4) 7) = true) ∧ (etherType ((withFcs [255#8, 255#8, 255#8, 255#8, 255#8, 255#8, 2#8, 0#8, 0#8, 0#8, 0#8, 1#8, 8#8, 6#8, 0#8, 1#8, 8#8, 0#8, 6#8, 4#8, 0#8, 1#8, 2#8, 0#8, 0#8, 0#8, 0#8, 1#8, 10#8, 0#8, 0#8, 2#8, 0#8, 0#8, 0#8, 0#8, 0#8, 0#8, 0#8, 0#8, 0#8, 0#8])) = 0x0806) ∧ (mgmtAnswer ((withFcs [255#8, 255#8, 255#8, 255#8, 255#8, 255#8, 2#8, 0#8, 0#8, 0#8, 0#8, 1#8, 8#8, 6#8, 0#8, 1#8, 8#8, 0#8, 6#8, 4#8, 0#8, 1#8, 2#8, 0#8, 0#8, 0#8, 0#8, 1#8, 10#8, 0#8, 0#8, 2#8, 0#8, 0#8, 0#8, 0#8, 0#8, 0#8, 0#8, 0#8, 0#8, 0#8])) 0 ((put 4 []).setF (NET_PIP4.ADDR 4) 7) = none))
    ∧ ((Quiet (onNPort 0 (fun u => { u with q := [⟨0, 3, false, [1#8], [], none, 0, 0, 0⟩] }) (((put 4 []).setF (NET_PCFG.ENABLE 0) 1).setF (NET_PSTAT.LINK 0) 1))) ∧ (0 < 4) ∧ ((onNPort 0 (fun u => { u with q := [⟨0, 3, false, [1#8], [], none, 0, 0, 0⟩] }) (((put 4 []).setF (NET_PCFG.ENABLE 0) 1).setF (NET_PSTAT.LINK 0) 1)).flag (NET_PSTAT.LINK 0) = true) ∧ ((onNPort 0 (fun u => { u with q := [⟨0, 3, false, [1#8], [], none, 0, 0, 0⟩] }) (((put 4 []).setF (NET_PCFG.ENABLE 0) 1).setF (NET_PSTAT.LINK 0) 1)).flag (NET_PSTAT.PAUSED 0) = false) ∧ (nextEg ((onNPort 0 (fun u => { u with q := [⟨0, 3, false, [1#8], [], none, 0, 0, 0⟩] }) (((put 4 []).setF (NET_PCFG.ENABLE 0) 1).setF (NET_PSTAT.LINK 0) 1)).nport 0).q = some (((⟨0, 3, false, [1#8], [], none, 0, 0, 0⟩ : EgFrame)), (([] : List EgFrame)))) ∧ (((⟨0, 3, false, [1#8], [], none, 0, 0, 0⟩ : EgFrame)).kind ≠ 3) ∧ (((⟨0, 3, false, [1#8], [], none, 0, 0, 0⟩ : EgFrame)).kind ≠ 4) ∧ (((⟨0, 3, false, [1#8], [], none, 0, 0, 0⟩ : EgFrame)).host = none))
    ∧ ((Quiet (onNPort 0 (fun u => { u with q := [⟨3, 3, false, [1#8], [], none, 0, 0, 0⟩] }) (((put 4 []).setF (NET_PCFG.ENABLE 0) 1).setF (NET_PSTAT.LINK 0) 1))) ∧ (0 < 4) ∧ ((onNPort 0 (fun u => { u with q := [⟨3, 3, false, [1#8], [], none, 0, 0, 0⟩] }) (((put 4 []).setF (NET_PCFG.ENABLE 0) 1).setF (NET_PSTAT.LINK 0) 1)).flag (NET_PSTAT.LINK 0) = true) ∧ ((onNPort 0 (fun u => { u with q := [⟨3, 3, false, [1#8], [], none, 0, 0, 0⟩] }) (((put 4 []).setF (NET_PCFG.ENABLE 0) 1).setF (NET_PSTAT.LINK 0) 1)).flag (NET_PSTAT.PAUSED 0) = false) ∧ (nextEg ((onNPort 0 (fun u => { u with q := [⟨3, 3, false, [1#8], [], none, 0, 0, 0⟩] }) (((put 4 []).setF (NET_PCFG.ENABLE 0) 1).setF (NET_PSTAT.LINK 0) 1)).nport 0).q = some (((⟨3, 3, false, [1#8], [], none, 0, 0, 0⟩ : EgFrame)), (([] : List EgFrame)))) ∧ (((⟨3, 3, false, [1#8], [], none, 0, 0, 0⟩ : EgFrame)).kind = 3) ∧ (((⟨3, 3, false, [1#8], [], none, 0, 0, 0⟩ : EgFrame)).host = none))
    ∧ ((Quiet (onNPort 3 (fun u => { u with q := [⟨0, 0, false, [2#8], [], none, 0, 0, 0⟩, ⟨3, 0, false, [1#8], [], none, 0, 0, 0⟩] }) ((put 4 []).setF (NET_PSTAT.PAUSED 3) 1))) ∧ (3 < 4) ∧ ((onNPort 3 (fun u => { u with q := [⟨0, 0, false, [2#8], [], none, 0, 0, 0⟩, ⟨3, 0, false, [1#8], [], none, 0, 0, 0⟩] }) ((put 4 []).setF (NET_PSTAT.PAUSED 3) 1)).flag (NET_PSTAT.PAUSED 3) = true) ∧ (((onNPort 3 (fun u => { u with q := [⟨0, 0, false, [2#8], [], none, 0, 0, 0⟩, ⟨3, 0, false, [1#8], [], none, 0, 0, 0⟩] }) ((put 4 []).setF (NET_PSTAT.PAUSED 3) 1)).nport 3).q.findIdx? (fun f => decide (f.kind = 3) && decide (f.due ≤ (onNPort 3 (fun u => { u with q := [⟨0, 0, false, [2#8], [], none, 0, 0, 0⟩, ⟨3, 0, false, [1#8], [], none, 0, 0, 0⟩] }) ((put 4 []).setF (NET_PSTAT.PAUSED 3) 1)).time)) = some 1) ∧ (((onNPort 3 (fun u => { u with q := [⟨0, 0, false, [2#8], [], none, 0, 0, 0⟩, ⟨3, 0, false, [1#8], [], none, 0, 0, 0⟩] }) ((put 4 []).setF (NET_PSTAT.PAUSED 3) 1)).nport 3).q[1]? = some ((⟨3, 0, false, [1#8], [], none, 0, 0, 0⟩ : EgFrame))) ∧ (((⟨3, 0, false, [1#8], [], none, 0, 0, 0⟩ : EgFrame)).host = none)) := by
  (repeat' apply And.intro) <;> decide

set_option maxRecDepth 100000 in
/-- The hypotheses of LinksAndPause are met. -/
theorem test_witness_LinksAndPause :
    ((Quiet ((put 4 []).setF (NET_PCFG.ENABLE 3) 1)) ∧ (3 < 4) ∧ (((put 4 []).setF (NET_PCFG.ENABLE 3) 1).flag (NET_PCFG.ENABLE 3) = true) ∧ (((put 4 []).setF (NET_PCFG.ENABLE 3) 1).flag (NET_PSTAT.LINK 3) = false))
    ∧ ((Quiet (onNPort 3 (fun u => { u with q := [⟨2, 0, false, [1#8], [], none, 1023, 0, 0⟩] }) ((put 4 []).setF (NET_PSTAT.LINK 3) 1))) ∧ (3 < 4) ∧ ((onNPort 3 (fun u => { u with q := [⟨2, 0, false, [1#8], [], none, 1023, 0, 0⟩] }) ((put 4 []).setF (NET_PSTAT.LINK 3) 1)).flag (NET_PSTAT.LINK 3) = true))
    ∧ ((Quiet (put 4 [])) ∧ (4 < 5) ∧ (4 < 4 ∨ 65535 % 65536 ≠ 0 ∨ (put 4 []).cmd.mgmtHeld = []) ∧ (4 ≤ 4 ∨ (put 4 []).flag (NET_PCFG.PAUSELEGACY 4) = true ∨ ((put 4 []).nport 4).ignore ≤ (put 4 []).time))
    ∧ ((Quiet (onNPort 3 (fun u => { u with ignore := 1 }) (put 4 []))) ∧ (3 < 4) ∧ ((onNPort 3 (fun u => { u with ignore := 1 }) (put 4 [])).flag (NET_PCFG.PAUSELEGACY 3) = false) ∧ ((onNPort 3 (fun u => { u with ignore := 1 }) (put 4 [])).time < ((onNPort 3 (fun u => { u with ignore := 1 }) (put 4 [])).nport 3).ignore))
    ∧ ((Quiet (put 4 [])) ∧ (4 < 5) ∧ (4 < 4 ∨ (put 4 []).cmd.mgmtHeld = []))
    ∧ ((Quiet (((put 4 []).setF (NET_PSTAT.PAUSED 4) 1).onCmd fun u => { u with mgmtHeld := [(.frame 4 [1#8], 64)] })) ∧ ((((put 4 []).setF (NET_PSTAT.PAUSED 4) 1).onCmd fun u => { u with mgmtHeld := [(.frame 4 [1#8], 64)] }).cmd.mgmtHeld = [((.frame 4 [1#8]), 64)]))
    ∧ ((Quiet ((put 4 []).setF (NET_PSTAT.PAUSED 3) 1)) ∧ (3 < 4) ∧ (((put 4 []).setF (NET_PSTAT.PAUSED 3) 1).flag (NET_PSTAT.PAUSED 3) = true) ∧ (((put 4 []).setF (NET_PSTAT.PAUSED 3) 1).flag (NET_PCFG.PAUSELEGACY 3) = false))
    ∧ ((Quiet ((put 4 []).setF (NET_PCFG.PREEMPT_EN 3) 1)) ∧ (3 < 4) ∧ (((put 4 []).setF (NET_PCFG.PREEMPT_EN 3) 1).flag (NET_PCFG.PREEMPT_EN 3) = true) ∧ (((put 4 []).setF (NET_PCFG.PREEMPT_EN 3) 1).flag (NET_PSTAT.PREEMPT 3) = false) ∧ ((((put 4 []).setF (NET_PCFG.PREEMPT_EN 3) 1).nport 3).attempts < 3))
    ∧ ((Quiet ((put 4 []).onNet fun u => { u with learn := [(5, 1), (6, 2)] }))) := by
  (repeat' apply And.intro) <;> decide

set_option maxRecDepth 100000 in
/-- The hypotheses of ReferenceCandidates are met. -/
theorem test_witness_ReferenceCandidates :
    ((Quiet ((put 4 []).setF (CLK_CAND.EN 1) 1)) ∧ (1 ≤ 1) ∧ (1 ≤ 11) ∧ (((put 4 []).setF (CLK_CAND.EN 1) 1).flag (CLK_CANDST.ACTIVE 1) = false) ∧ (sourceUp 1 ((put 4 []).setF (CLK_CAND.EN 1) 1) = true) ∧ (((put 4 []).setF (CLK_CAND.EN 1) 1).flag (CLK_CAND.EN 1) = true) ∧ (((put 4 []).setF (CLK_CAND.EN 1) 1).flag (CLK_CANDST.QUAL 1) = false))
    ∧ ((Quiet (((((put 4 [(0x10004, 0x00200000)]).setF (CLK_CANDST.ACTIVE 1) 1).setF (CLK_CANDST.QUALIFYING 1) 1).setF (CLK_CANDST.QLEFT 1) 9).onClk fun u => { u with gates := [(1, 10)] })) ∧ (((-5 : Int)) = (if smGet 0 (((((put 4 [(0x10004, 0x00200000)]).setF (CLK_CANDST.ACTIVE 1) 1).setF (CLK_CANDST.QUALIFYING 1) 1).setF (CLK_CANDST.QLEFT 1) 9).onClk fun u => { u with gates := [(1, 10)] }).clk.gates 1 < 9 then 0 else monitorPpm 1 ((-5 : Int)) ((((((put 4 [(0x10004, 0x00200000)]).setF (CLK_CANDST.ACTIVE 1) 1).setF (CLK_CANDST.QUALIFYING 1) 1).setF (CLK_CANDST.QLEFT 1) 9).onClk fun u => { u with gates := [(1, 10)] }).onClk fun u => { u with fills := if 1 = 7 then (fillLevel ((((((put 4 [(0x10004, 0x00200000)]).setF (CLK_CANDST.ACTIVE 1) 1).setF (CLK_CANDST.QUALIFYING 1) 1).setF (CLK_CANDST.QLEFT 1) 9).onClk fun u => { u with gates := [(1, 10)] }).getF (CLK_CAND.SRC 7)) (((((put 4 [(0x10004, 0x00200000)]).setF (CLK_CANDST.ACTIVE 1) 1).setF (CLK_CANDST.QUALIFYING 1) 1).setF (CLK_CANDST.QLEFT 1) 9).onClk fun u => { u with gates := [(1, 10)] }) :: u.fills).take 11 else u.fills }))) ∧ (1 ≤ 1) ∧ (1 ≤ 11) ∧ ((((((put 4 [(0x10004, 0x00200000)]).setF (CLK_CANDST.ACTIVE 1) 1).setF (CLK_CANDST.QUALIFYING 1) 1).setF (CLK_CANDST.QLEFT 1) 9).onClk fun u => { u with gates := [(1, 10)] }).flag (CLK_CANDST.ACTIVE 1) = true) ∧ ((((((put 4 [(0x10004, 0x00200000)]).setF (CLK_CANDST.ACTIVE 1) 1).setF (CLK_CANDST.QUALIFYING 1) 1).setF (CLK_CANDST.QLEFT 1) 9).onClk fun u => { u with gates := [(1, 10)] }).flag (CLK_CANDST.QUAL 1) = false) ∧ ((((((put 4 [(0x10004, 0x00200000)]).setF (CLK_CANDST.ACTIVE 1) 1).setF (CLK_CANDST.QUALIFYING 1) 1).setF (CLK_CANDST.QLEFT 1) 9).onClk fun u => { u with gates := [(1, 10)] }).flag (CLK_CANDST.QUALIFYING 1) = true) ∧ ((((((put 4 [(0x10004, 0x00200000)]).setF (CLK_CANDST.ACTIVE 1) 1).setF (CLK_CANDST.QUALIFYING 1) 1).setF (CLK_CANDST.QLEFT 1) 9).onClk fun u => { u with gates := [(1, 10)] }).flag CLK_STAT.SWITCHING = true))
    ∧ ((Quiet ((((put 4 []).setF (CLK_CANDST.ACTIVE 2) 1).setF (CLK_CANDST.QUAL 2) 1).onClk fun u => { u with gates := [(2, 10)] })) ∧ (2000000000 = (if smGet 0 ((((put 4 []).setF (CLK_CANDST.ACTIVE 2) 1).setF (CLK_CANDST.QUAL 2) 1).onClk fun u => { u with gates := [(2, 10)] }).clk.gates 2 < 9 then 0 else monitorPpm 2 2000000000 (((((put 4 []).setF (CLK_CANDST.ACTIVE 2) 1).setF (CLK_CANDST.QUAL 2) 1).onClk fun u => { u with gates := [(2, 10)] }).onClk fun u => { u with fills := if 2 = 7 then (fillLevel (((((put 4 []).setF (CLK_CANDST.ACTIVE 2) 1).setF (CLK_CANDST.QUAL 2) 1).onClk fun u => { u with gates := [(2, 10)] }).getF (CLK_CAND.SRC 7)) ((((put 4 []).setF (CLK_CANDST.ACTIVE 2) 1).setF (CLK_CANDST.QUAL 2) 1).onClk fun u => { u with gates := [(2, 10)] }) :: u.fills).take 11 else u.fills }))) ∧ (1 ≤ 2) ∧ (2 ≤ 11) ∧ (((((put 4 []).setF (CLK_CANDST.ACTIVE 2) 1).setF (CLK_CANDST.QUAL 2) 1).onClk fun u => { u with gates := [(2, 10)] }).flag (CLK_CANDST.ACTIVE 2) = true) ∧ (((((put 4 []).setF (CLK_CANDST.ACTIVE 2) 1).setF (CLK_CANDST.QUAL 2) 1).onClk fun u => { u with gates := [(2, 10)] }).flag (CLK_CANDST.QUAL 2) = true) ∧ (((((put 4 []).setF (CLK_CANDST.ACTIVE 2) 1).setF (CLK_CANDST.QUAL 2) 1).onClk fun u => { u with gates := [(2, 10)] }).flag (CLK_CANDST.QUALIFYING 2) = false) ∧ (((((put 4 []).setF (CLK_CANDST.ACTIVE 2) 1).setF (CLK_CANDST.QUAL 2) 1).onClk fun u => { u with gates := [(2, 10)] }).getF CLK_QUALCFG.REJECT * 65536 < Int.natAbs 2000000000))
    ∧ ((Quiet ((((((put 4 []).setF (CLK_CANDST.ACTIVE 2) 1).setF (CLK_CANDST.QUAL 2) 1).setF CLK_QUALCFG.REJECT 100).setF CLK_QUALCFG.ACCEPT 10).onClk fun u => { u with gates := [(2, 10)] })) ∧ (1000000 = (if smGet 0 ((((((put 4 []).setF (CLK_CANDST.ACTIVE 2) 1).setF (CLK_CANDST.QUAL 2) 1).setF CLK_QUALCFG.REJECT 100).setF CLK_QUALCFG.ACCEPT 10).onClk fun u => { u with gates := [(2, 10)] }).clk.gates 2 < 9 then 0 else monitorPpm 2 1000000 (((((((put 4 []).setF (CLK_CANDST.ACTIVE 2) 1).setF (CLK_CANDST.QUAL 2) 1).setF CLK_QUALCFG.REJECT 100).setF CLK_QUALCFG.ACCEPT 10).onClk fun u => { u with gates := [(2, 10)] }).onClk fun u => { u with fills := if 2 = 7 then (fillLevel (((((((put 4 []).setF (CLK_CANDST.ACTIVE 2) 1).setF (CLK_CANDST.QUAL 2) 1).setF CLK_QUALCFG.REJECT 100).setF CLK_QUALCFG.ACCEPT 10).onClk fun u => { u with gates := [(2, 10)] }).getF (CLK_CAND.SRC 7)) ((((((put 4 []).setF (CLK_CANDST.ACTIVE 2) 1).setF (CLK_CANDST.QUAL 2) 1).setF CLK_QUALCFG.REJECT 100).setF CLK_QUALCFG.ACCEPT 10).onClk fun u => { u with gates := [(2, 10)] }) :: u.fills).take 11 else u.fills }))) ∧ (1 ≤ 2) ∧ (2 ≤ 11) ∧ (((((((put 4 []).setF (CLK_CANDST.ACTIVE 2) 1).setF (CLK_CANDST.QUAL 2) 1).setF CLK_QUALCFG.REJECT 100).setF CLK_QUALCFG.ACCEPT 10).onClk fun u => { u with gates := [(2, 10)] }).flag (CLK_CANDST.ACTIVE 2) = true) ∧ (((((((put 4 []).setF (CLK_CANDST.ACTIVE 2) 1).setF (CLK_CANDST.QUAL 2) 1).setF CLK_QUALCFG.REJECT 100).setF CLK_QUALCFG.ACCEPT 10).onClk fun u => { u with gates := [(2, 10)] }).flag (CLK_CANDST.QUAL 2) = true) ∧ (((((((put 4 []).setF (CLK_CANDST.ACTIVE 2) 1).setF (CLK_CANDST.QUAL 2) 1).setF CLK_QUALCFG.REJECT 100).setF CLK_QUALCFG.ACCEPT 10).onClk fun u => { u with gates := [(2, 10)] }).flag (CLK_CANDST.DRIFT 2) = false) ∧ (((((((put 4 []).setF (CLK_CANDST.ACTIVE 2) 1).setF (CLK_CANDST.QUAL 2) 1).setF CLK_QUALCFG.REJECT 100).setF CLK_QUALCFG.ACCEPT 10).onClk fun u => { u with gates := [(2, 10)] }).getF CLK_QUALCFG.ACCEPT * 65536 < Int.natAbs 1000000) ∧ (Int.natAbs 1000000 ≤ ((((((put 4 []).setF (CLK_CANDST.ACTIVE 2) 1).setF (CLK_CANDST.QUAL 2) 1).setF CLK_QUALCFG.REJECT 100).setF CLK_QUALCFG.ACCEPT 10).onClk fun u => { u with gates := [(2, 10)] }).getF CLK_QUALCFG.REJECT * 65536))
    ∧ ((Quiet (((((put 4 []).setF (CLK_CANDST.ACTIVE 2) 1).setF (CLK_CANDST.QUAL 2) 1).setF (CLK_CANDST.DRIFT 2) 1).onClk fun u => { u with gates := [(2, 10)] })) ∧ (((-9 : Int)) = (if smGet 0 (((((put 4 []).setF (CLK_CANDST.ACTIVE 2) 1).setF (CLK_CANDST.QUAL 2) 1).setF (CLK_CANDST.DRIFT 2) 1).onClk fun u => { u with gates := [(2, 10)] }).clk.gates 2 < 9 then 0 else monitorPpm 2 ((-9 : Int)) ((((((put 4 []).setF (CLK_CANDST.ACTIVE 2) 1).setF (CLK_CANDST.QUAL 2) 1).setF (CLK_CANDST.DRIFT 2) 1).onClk fun u => { u with gates := [(2, 10)] }).onClk fun u => { u with fills := if 2 = 7 then (fillLevel ((((((put 4 []).setF (CLK_CANDST.ACTIVE 2) 1).setF (CLK_CANDST.QUAL 2) 1).setF (CLK_CANDST.DRIFT 2) 1).onClk fun u => { u with gates := [(2, 10)] }).getF (CLK_CAND.SRC 7)) (((((put 4 []).setF (CLK_CANDST.ACTIVE 2) 1).setF (CLK_CANDST.QUAL 2) 1).setF (CLK_CANDST.DRIFT 2) 1).onClk fun u => { u with gates := [(2, 10)] }) :: u.fills).take 11 else u.fills }))) ∧ (1 ≤ 2) ∧ (2 ≤ 11) ∧ ((((((put 4 []).setF (CLK_CANDST.ACTIVE 2) 1).setF (CLK_CANDST.QUAL 2) 1).setF (CLK_CANDST.DRIFT 2) 1).onClk fun u => { u with gates := [(2, 10)] }).flag (CLK_CANDST.ACTIVE 2) = true) ∧ ((((((put 4 []).setF (CLK_CANDST.ACTIVE 2) 1).setF (CLK_CANDST.QUAL 2) 1).setF (CLK_CANDST.DRIFT 2) 1).onClk fun u => { u with gates := [(2, 10)] }).flag (CLK_CANDST.QUAL 2) = true) ∧ (Int.natAbs ((-9 : Int)) ≤ (((((put 4 []).setF (CLK_CANDST.ACTIVE 2) 1).setF (CLK_CANDST.QUAL 2) 1).setF (CLK_CANDST.DRIFT 2) 1).onClk fun u => { u with gates := [(2, 10)] }).getF CLK_QUALCFG.ACCEPT * 65536) ∧ ((((((put 4 []).setF (CLK_CANDST.ACTIVE 2) 1).setF (CLK_CANDST.QUAL 2) 1).setF (CLK_CANDST.DRIFT 2) 1).onClk fun u => { u with gates := [(2, 10)] }).getF CLK_QUALCFG.ACCEPT ≤ (((((put 4 []).setF (CLK_CANDST.ACTIVE 2) 1).setF (CLK_CANDST.QUAL 2) 1).setF (CLK_CANDST.DRIFT 2) 1).onClk fun u => { u with gates := [(2, 10)] }).getF CLK_QUALCFG.REJECT))
    ∧ ((Quiet (((put 4 []).setF (CLK_CANDST.ACTIVE 11) 1).setF (CLK_CANDST.QUALIFYING 11) 1)) ∧ (1 ≤ 11) ∧ (11 ≤ 11) ∧ ((((put 4 []).setF (CLK_CANDST.ACTIVE 11) 1).setF (CLK_CANDST.QUALIFYING 11) 1).flag (CLK_CANDST.QUALIFYING 11) = true) ∧ ((((put 4 []).setF (CLK_CANDST.ACTIVE 11) 1).setF (CLK_CANDST.QUALIFYING 11) 1).flag (CLK_CANDST.ACTIVE 11) = true) ∧ ((((put 4 []).setF (CLK_CANDST.ACTIVE 11) 1).setF (CLK_CANDST.QUALIFYING 11) 1).getF (CLK_CANDST.QLEFT 11) = 0))
    ∧ ((Quiet (((put 4 []).setF (CLK_CANDST.ACTIVE 11) 1).setF (CLK_CANDST.QUAL 11) 1)) ∧ (1 ≤ 11) ∧ (11 ≤ 11) ∧ ((((put 4 []).setF (CLK_CANDST.ACTIVE 11) 1).setF (CLK_CANDST.QUAL 11) 1).flag (CLK_CANDST.ACTIVE 11) = true)) := by
  (repeat' apply And.intro) <;> decide

set_option maxRecDepth 100000 in
/-- The hypotheses of ReferenceLoop are met. -/
theorem test_witness_ReferenceLoop :
    ((Quiet ((((((put 4 []).setF (CLK_CAND.EN 2) 1).setF (CLK_CANDST.QUAL 2) 1).setF CLK_STAT.WTR 1).setF CLK_STAT.SEL 1).setF CLK_STAT.STATE 2)) ∧ (((((((put 4 []).setF (CLK_CAND.EN 2) 1).setF (CLK_CANDST.QUAL 2) 1).setF CLK_STAT.WTR 1).setF CLK_STAT.SEL 1).setF CLK_STAT.STATE 2).flag CLK_STAT.WTR = true) ∧ (((((((put 4 []).setF (CLK_CAND.EN 2) 1).setF (CLK_CANDST.QUAL 2) 1).setF CLK_STAT.WTR 1).setF CLK_STAT.SEL 1).setF CLK_STAT.STATE 2).getF CLK_STAT.WTRLEFT = 0) ∧ (((((((put 4 []).setF (CLK_CAND.EN 2) 1).setF (CLK_CANDST.QUAL 2) 1).setF CLK_STAT.WTR 1).setF CLK_STAT.SEL 1).setF CLK_STAT.STATE 2).flag CLK_STAT.SWITCHING = false))
    ∧ ((Quiet (put 4 [])) ∧ ((put 4 []).flag CLK_STAT.WTR = false ∨ (put 4 []).getF CLK_STAT.WTRLEFT ≠ 0 ∨ (put 4 []).flag CLK_STAT.SWITCHING = true))
    ∧ ((Quiet (((((put 4 []).setF (CLK_CAND.EN 2) 1).setF (CLK_CANDST.QUAL 2) 1).setF CLK_STAT.SWITCHING 1).onClk fun u => { u with target := some 2 })) ∧ ((((((put 4 []).setF (CLK_CAND.EN 2) 1).setF (CLK_CANDST.QUAL 2) 1).setF CLK_STAT.SWITCHING 1).onClk fun u => { u with target := some 2 }).clk.target = some 2) ∧ ((((((put 4 []).setF (CLK_CAND.EN 2) 1).setF (CLK_CANDST.QUAL 2) 1).setF CLK_STAT.SWITCHING 1).onClk fun u => { u with target := some 2 }).flag CLK_STAT.SWITCHING = true) ∧ (1 ≤ 2) ∧ (2 ≤ 11) ∧ (((-7 : Int)) = (if ((((((put 4 []).setF (CLK_CAND.EN 2) 1).setF (CLK_CANDST.QUAL 2) 1).setF CLK_STAT.SWITCHING 1).onClk fun u => { u with target := some 2 }).flag CLK_STAT.RINGFOLLOW && decide (2 = 6) && !(((((put 4 []).setF (CLK_CAND.EN 2) 1).setF (CLK_CANDST.QUAL 2) 1).setF CLK_STAT.SWITCHING 1).onClk fun u => { u with target := some 2 }).clk.followed) = true ∧ (((((put 4 []).setF (CLK_CAND.EN 2) 1).setF (CLK_CANDST.QUAL 2) 1).setF CLK_STAT.SWITCHING 1).onClk fun u => { u with target := some 2 }).tick = false then 0 else wrapPhase 2 (measuredBuild 2 ((-7 : Int)) (((((put 4 []).setF (CLK_CAND.EN 2) 1).setF (CLK_CANDST.QUAL 2) 1).setF CLK_STAT.SWITCHING 1).onClk fun u => { u with target := some 2 })) (((((put 4 []).setF (CLK_CAND.EN 2) 1).setF (CLK_CANDST.QUAL 2) 1).setF CLK_STAT.SWITCHING 1).onClk fun u => { u with target := some 2 }))))
    ∧ ((Quiet (((((put 4 []).setF (CLK_CAND.EN 5) 1).setF (CLK_CANDST.QUAL 5) 1).setF CLK_STAT.SWITCHING 1).onClk fun u => { u with target := some 5 })) ∧ ((((((put 4 []).setF (CLK_CAND.EN 5) 1).setF (CLK_CANDST.QUAL 5) 1).setF CLK_STAT.SWITCHING 1).onClk fun u => { u with target := some 5 }).clk.target = some 5) ∧ ((((((put 4 []).setF (CLK_CAND.EN 5) 1).setF (CLK_CANDST.QUAL 5) 1).setF CLK_STAT.SWITCHING 1).onClk fun u => { u with target := some 5 }).flag CLK_STAT.SWITCHING = true) ∧ (1 ≤ 5) ∧ (5 ≤ 11) ∧ ((((((put 4 []).setF (CLK_CAND.EN 5) 1).setF (CLK_CANDST.QUAL 5) 1).setF CLK_STAT.SWITCHING 1).onClk fun u => { u with target := some 5 }).flag CLK_STAT.RINGFOLLOW = false) ∧ ((((((put 4 []).setF (CLK_CAND.EN 5) 1).setF (CLK_CANDST.QUAL 5) 1).setF CLK_STAT.SWITCHING 1).onClk fun u => { u with target := some 5 }).flag CLK_CTRL.FORCE = false) ∧ (bestCand (((((put 4 []).setF (CLK_CAND.EN 5) 1).setF (CLK_CANDST.QUAL 5) 1).setF CLK_STAT.SWITCHING 1).onClk fun u => { u with target := some 5 }) = some 5))
    ∧ ((Quiet (((((put 4 []).setF CLK_STAT.STATE 1).setF CLK_STAT.SEL 5).setF CLK_STAT.STEP 2).onClk fun u => { u with dwell := 200000, wide := 50000 })) ∧ ((((((put 4 []).setF CLK_STAT.STATE 1).setF CLK_STAT.SEL 5).setF CLK_STAT.STEP 2).onClk fun u => { u with dwell := 200000, wide := 50000 }).cstate = 1) ∧ (stepReady (((((put 4 []).setF CLK_STAT.STATE 1).setF CLK_STAT.SEL 5).setF CLK_STAT.STEP 2).onClk fun u => { u with dwell := 200000, wide := 50000 }) = true) ∧ ((((((put 4 []).setF CLK_STAT.STATE 1).setF CLK_STAT.SEL 5).setF CLK_STAT.STEP 2).onClk fun u => { u with dwell := 200000, wide := 50000 }).getF CLK_STAT.STEP < lastStep (((((put 4 []).setF CLK_STAT.STATE 1).setF CLK_STAT.SEL 5).setF CLK_STAT.STEP 2).onClk fun u => { u with dwell := 200000, wide := 50000 }).csel))
    ∧ ((Quiet (((((put 4 []).setF CLK_STAT.STATE 1).setF CLK_STAT.SEL 5).setF CLK_STAT.STEP 3).onClk fun u => { u with dwell := 300000, near := 300000 })) ∧ ((((((put 4 []).setF CLK_STAT.STATE 1).setF CLK_STAT.SEL 5).setF CLK_STAT.STEP 3).onClk fun u => { u with dwell := 300000, near := 300000 }).cstate = 1) ∧ (stepReady (((((put 4 []).setF CLK_STAT.STATE 1).setF CLK_STAT.SEL 5).setF CLK_STAT.STEP 3).onClk fun u => { u with dwell := 300000, near := 300000 }) = true) ∧ (lastStep (((((put 4 []).setF CLK_STAT.STATE 1).setF CLK_STAT.SEL 5).setF CLK_STAT.STEP 3).onClk fun u => { u with dwell := 300000, near := 300000 }).csel ≤ (((((put 4 []).setF CLK_STAT.STATE 1).setF CLK_STAT.SEL 5).setF CLK_STAT.STEP 3).onClk fun u => { u with dwell := 300000, near := 300000 }).getF CLK_STAT.STEP))
    ∧ ((Quiet (put 4 [])) ∧ ((put 4 []).cstate ≠ 1 ∨ stepReady (put 4 []) = false))
    ∧ ((Quiet ((((put 4 []).setF CLK_STAT.STATE 2).setF CLK_STAT.SEL 5).onClk fun u => { u with far := 100000 })) ∧ (((((put 4 []).setF CLK_STAT.STATE 2).setF CLK_STAT.SEL 5).onClk fun u => { u with far := 100000 }).cstate = 2) ∧ (100000 ≤ ((((put 4 []).setF CLK_STAT.STATE 2).setF CLK_STAT.SEL 5).onClk fun u => { u with far := 100000 }).clk.far))
    ∧ ((Quiet (put 4 [])) ∧ ((put 4 []).cstate ≠ 2 ∨ (put 4 []).clk.far < 100000))
    ∧ ((Quiet ((put 4 []).setF CLK_STAT.ALIGNING 1)) ∧ (((put 4 []).setF CLK_STAT.ALIGNING 1).flag CLK_STAT.ALIGNING = true) ∧ (((put 4 []).setF CLK_STAT.ALIGNING 1).clk.bo = 0))
    ∧ ((Quiet (put 4 [])) ∧ ((put 4 []).flag CLK_STAT.ALIGNING = false ∨ (put 4 []).clk.bo ≠ 0))
    ∧ ((Quiet ((put 4 []).setF CLK_STEER.S 5)) ∧ (((put 4 []).setF CLK_STEER.S 5).cstate = 0))
    ∧ ((Quiet ((((put 4 []).setF CLK_STEER.S (2 ^ 32 - 5)).setF CLK_STAT.STATE 3).onClk fun u => { u with hold := 9000 })) ∧ (((((put 4 []).setF CLK_STEER.S (2 ^ 32 - 5)).setF CLK_STAT.STATE 3).onClk fun u => { u with hold := 9000 }).cstate = 3 ∨ ((((put 4 []).setF CLK_STEER.S (2 ^ 32 - 5)).setF CLK_STAT.STATE 3).onClk fun u => { u with hold := 9000 }).cstate = 4) ∧ (((((put 4 []).setF CLK_STEER.S (2 ^ 32 - 5)).setF CLK_STAT.STATE 3).onClk fun u => { u with hold := 9000 }).clk.hold.natAbs < 2 ^ 31))
    ∧ ((Quiet (((put 4 []).setF CLK_STAT.STATE 2).setF CLK_STAT.SEL 2)) ∧ ((((put 4 []).setF CLK_STAT.STATE 2).setF CLK_STAT.SEL 2).cstate = 1 ∨ (((put 4 []).setF CLK_STAT.STATE 2).setF CLK_STAT.SEL 2).cstate = 2))
    ∧ ((Quiet (put 4 [])))
    ∧ ((Quiet (((put 4 []).setF CLK_STAT.STATE 3).onClk fun u => { u with avgN := 1 })) ∧ ((((put 4 []).setF CLK_STAT.STATE 3).onClk fun u => { u with avgN := 1 }).cstate = 3 ∨ (((put 4 []).setF CLK_STAT.STATE 3).onClk fun u => { u with avgN := 1 }).cstate = 4))
    ∧ ((Quiet (put 4 [])) ∧ ((put 4 []).cstate ≠ 3) ∧ ((put 4 []).cstate ≠ 4))
    ∧ ((Quiet (((put 4 []).setF CLK_STAT.STATE 3).setF CLK_HOLDCFG.LIMIT 0)) ∧ ((((put 4 []).setF CLK_STAT.STATE 3).setF CLK_HOLDCFG.LIMIT 0).cstate = 3) ∧ ((((put 4 []).setF CLK_STAT.STATE 3).setF CLK_HOLDCFG.LIMIT 0).getF CLK_HOLDCFG.LIMIT ≤ (((put 4 []).setF CLK_STAT.STATE 3).setF CLK_HOLDCFG.LIMIT 0).getF CLK_HOLDSTAT.ELAPSED))
    ∧ ((Quiet (put 4 [])) ∧ ((put 4 []).cstate ≠ 3 ∨ (put 4 []).getF CLK_HOLDSTAT.ELAPSED < (put 4 []).getF CLK_HOLDCFG.LIMIT))
    ∧ ((Quiet (put 4 []))) := by
  (repeat' apply And.intro) <;> decide

set_option maxRecDepth 100000 in
/-- The hypotheses of PtpMessages are met. -/
theorem test_witness_PtpMessages :
    ((Quiet (((put 4 []).setF PTP_CFG.ENABLE 1).setF PTP_STAT.PORTSTATE 9)) ∧ (((((put 4 []).setF PTP_CFG.ENABLE 1).setF PTP_STAT.PORTSTATE 9).nport ((((put 4 []).setF PTP_CFG.ENABLE 1).setF PTP_STAT.PORTSTATE 9).getF PTP_CFG.PORT)).ptpIn.getD (sysFree (((put 4 []).setF PTP_CFG.ENABLE 1).setF PTP_STAT.PORTSTATE 9)) = true) ∧ (ptpOn (((put 4 []).setF PTP_CFG.ENABLE 1).setF PTP_STAT.PORTSTATE 9) = true) ∧ ((((put 4 []).setF PTP_CFG.ENABLE 1).setF PTP_STAT.PORTSTATE 9).pstate = 9))
    ∧ ((Quiet ((((put 4 []).setF PTP_CFG.ENABLE 1).setF PTP_STAT.PORTSTATE 9).onPtp fun u => { u with t2 := some 7 })) ∧ ((((((put 4 []).setF PTP_CFG.ENABLE 1).setF PTP_STAT.PORTSTATE 9).onPtp fun u => { u with t2 := some 7 }).nport (((((put 4 []).setF PTP_CFG.ENABLE 1).setF PTP_STAT.PORTSTATE 9).onPtp fun u => { u with t2 := some 7 }).getF PTP_CFG.PORT)).ptpIn.getD (sysFree ((((put 4 []).setF PTP_CFG.ENABLE 1).setF PTP_STAT.PORTSTATE 9).onPtp fun u => { u with t2 := some 7 })) = true) ∧ (ptpOn ((((put 4 []).setF PTP_CFG.ENABLE 1).setF PTP_STAT.PORTSTATE 9).onPtp fun u => { u with t2 := some 7 }) = true) ∧ (((((put 4 []).setF PTP_CFG.ENABLE 1).setF PTP_STAT.PORTSTATE 9).onPtp fun u => { u with t2 := some 7 }).pstate = 9) ∧ (((((put 4 []).setF PTP_CFG.ENABLE 1).setF PTP_STAT.PORTSTATE 9).onPtp fun u => { u with t2 := some 7 }).ptp.t2.isSome = true) ∧ (((((put 4 []).setF PTP_CFG.ENABLE 1).setF PTP_STAT.PORTSTATE 9).onPtp fun u => { u with t2 := some 7 }).ptp.t1 = none) ∧ ((match ((((put 4 []).setF PTP_CFG.ENABLE 1).setF PTP_STAT.PORTSTATE 9).onPtp fun u => { u with t2 := some 7 }).ptp.meas with | some m => m.last | none => false) = false))
    ∧ ((Quiet ((((put 4 []).setF PTP_CFG.ENABLE 1).setF PTP_STAT.PORTSTATE 9).onPtp fun u => { u with t2 := some 7, meas := some ⟨none, 500, 0, 600, none, true⟩ })) ∧ ((((((put 4 []).setF PTP_CFG.ENABLE 1).setF PTP_STAT.PORTSTATE 9).onPtp fun u => { u with t2 := some 7, meas := some ⟨none, 500, 0, 600, none, true⟩ }).nport (((((put 4 []).setF PTP_CFG.ENABLE 1).setF PTP_STAT.PORTSTATE 9).onPtp fun u => { u with t2 := some 7, meas := some ⟨none, 500, 0, 600, none, true⟩ }).getF PTP_CFG.PORT)).ptpIn.getD (sysFree ((((put 4 []).setF PTP_CFG.ENABLE 1).setF PTP_STAT.PORTSTATE 9).onPtp fun u => { u with t2 := some 7, meas := some ⟨none, 500, 0, 600, none, true⟩ })) = true) ∧ (ptpOn ((((put 4 []).setF PTP_CFG.ENABLE 1).setF PTP_STAT.PORTSTATE 9).onPtp fun u => { u with t2 := some 7, meas := some ⟨none, 500, 0, 600, none, true⟩ }) = true) ∧ (((((put 4 []).setF PTP_CFG.ENABLE 1).setF PTP_STAT.PORTSTATE 9).onPtp fun u => { u with t2 := some 7, meas := some ⟨none, 500, 0, 600, none, true⟩ }).pstate = 9) ∧ (((((put 4 []).setF PTP_CFG.ENABLE 1).setF PTP_STAT.PORTSTATE 9).onPtp fun u => { u with t2 := some 7, meas := some ⟨none, 500, 0, 600, none, true⟩ }).ptp.t2.isSome = true) ∧ (((((put 4 []).setF PTP_CFG.ENABLE 1).setF PTP_STAT.PORTSTATE 9).onPtp fun u => { u with t2 := some 7, meas := some ⟨none, 500, 0, 600, none, true⟩ }).ptp.t1 = none) ∧ (((((put 4 []).setF PTP_CFG.ENABLE 1).setF PTP_STAT.PORTSTATE 9).onPtp fun u => { u with t2 := some 7, meas := some ⟨none, 500, 0, 600, none, true⟩ }).ptp.meas = some ((⟨none, 500, 0, 600, none, true⟩ : PtpMeas))) ∧ (((⟨none, 500, 0, 600, none, true⟩ : PtpMeas)).last = true) ∧ (((⟨none, 500, 0, 600, none, true⟩ : PtpMeas)).resp = none))
    ∧ ((Quiet ((((put 4 []).setF PTP_CFG.ENABLE 1).setF PTP_STAT.PORTSTATE 9).onPtp fun u => { u with meas := some ⟨some 100, 500, 0, 600, none, true⟩ })) ∧ ((((((put 4 []).setF PTP_CFG.ENABLE 1).setF PTP_STAT.PORTSTATE 9).onPtp fun u => { u with meas := some ⟨some 100, 500, 0, 600, none, true⟩ }).nport (((((put 4 []).setF PTP_CFG.ENABLE 1).setF PTP_STAT.PORTSTATE 9).onPtp fun u => { u with meas := some ⟨some 100, 500, 0, 600, none, true⟩ }).getF PTP_CFG.PORT)).ptpIn.getD (sysFree ((((put 4 []).setF PTP_CFG.ENABLE 1).setF PTP_STAT.PORTSTATE 9).onPtp fun u => { u with meas := some ⟨some 100, 500, 0, 600, none, true⟩ })) = true) ∧ (ptpOn ((((put 4 []).setF PTP_CFG.ENABLE 1).setF PTP_STAT.PORTSTATE 9).onPtp fun u => { u with meas := some ⟨some 100, 500, 0, 600, none, true⟩ }) = true) ∧ (((((put 4 []).setF PTP_CFG.ENABLE 1).setF PTP_STAT.PORTSTATE 9).onPtp fun u => { u with meas := some ⟨some 100, 500, 0, 600, none, true⟩ }).pstate = 9) ∧ (((((put 4 []).setF PTP_CFG.ENABLE 1).setF PTP_STAT.PORTSTATE 9).onPtp fun u => { u with meas := some ⟨some 100, 500, 0, 600, none, true⟩ }).ptp.meas = some ((⟨some 100, 500, 0, 600, none, true⟩ : PtpMeas))) ∧ (((⟨some 100, 500, 0, 600, none, true⟩ : PtpMeas)).resp = none) ∧ (((⟨some 100, 500, 0, 600, none, true⟩ : PtpMeas)).t1 = some 100) ∧ (rndDiv ((((⟨some 100, 500, 0, 600, none, true⟩ : PtpMeas)).t2 - 100 - ((⟨some 100, 500, 0, 600, none, true⟩ : PtpMeas)).csync) + (900 - ((⟨some 100, 500, 0, 600, none, true⟩ : PtpMeas)).t3 - 0)) 2 ≤ ((((put 4 []).setF PTP_CFG.ENABLE 1).setF PTP_STAT.PORTSTATE 9).onPtp fun u => { u with meas := some ⟨some 100, 500, 0, 600, none, true⟩ }).ptp.pds.foldl min (rndDiv ((((⟨some 100, 500, 0, 600, none, true⟩ : PtpMeas)).t2 - 100 - ((⟨some 100, 500, 0, 600, none, true⟩ : PtpMeas)).csync) + (900 - ((⟨some 100, 500, 0, 600, none, true⟩ : PtpMeas)).t3 - 0)) 2) + ((((put 4 []).setF PTP_CFG.ENABLE 1).setF PTP_STAT.PORTSTATE 9).onPtp fun u => { u with meas := some ⟨some 100, 500, 0, 600, none, true⟩ }).getF PTP_SERVO2.PDWIN * 1600))
    ∧ ((Quiet (((((put 4 []).setF PTP_CFG.ENABLE 1).setF PTP_STAT.PORTSTATE 9).setF PTP_SERVO2.PDWIN 1).onPtp fun u => { u with meas := some ⟨some 100, 500, 0, 600, none, true⟩, pds := [0] })) ∧ (((((((put 4 []).setF PTP_CFG.ENABLE 1).setF PTP_STAT.PORTSTATE 9).setF PTP_SERVO2.PDWIN 1).onPtp fun u => { u with meas := some ⟨some 100, 500, 0, 600, none, true⟩, pds := [0] }).nport ((((((put 4 []).setF PTP_CFG.ENABLE 1).setF PTP_STAT.PORTSTATE 9).setF PTP_SERVO2.PDWIN 1).onPtp fun u => { u with meas := some ⟨some 100, 500, 0, 600, none, true⟩, pds := [0] }).getF PTP_CFG.PORT)).ptpIn.getD (sysFree (((((put 4 []).setF PTP_CFG.ENABLE 1).setF PTP_STAT.PORTSTATE 9).setF PTP_SERVO2.PDWIN 1).onPtp fun u => { u with meas := some ⟨some 100, 500, 0, 600, none, true⟩, pds := [0] })) = true) ∧ (ptpOn (((((put 4 []).setF PTP_CFG.ENABLE 1).setF PTP_STAT.PORTSTATE 9).setF PTP_SERVO2.PDWIN 1).onPtp fun u => { u with meas := some ⟨some 100, 500, 0, 600, none, true⟩, pds := [0] }) = true) ∧ ((((((put 4 []).setF PTP_CFG.ENABLE 1).setF PTP_STAT.PORTSTATE 9).setF PTP_SERVO2.PDWIN 1).onPtp fun u => { u with meas := some ⟨some 100, 500, 0, 600, none, true⟩, pds := [0] }).pstate = 9) ∧ ((((((put 4 []).setF PTP_CFG.ENABLE 1).setF PTP_STAT.PORTSTATE 9).setF PTP_SERVO2.PDWIN 1).onPtp fun u => { u with meas := some ⟨some 100, 500, 0, 600, none, true⟩, pds := [0] }).ptp.meas = some ((⟨some 100, 500, 0, 600, none, true⟩ : PtpMeas))) ∧ (((⟨some 100, 500, 0, 600, none, true⟩ : PtpMeas)).resp = none) ∧ (((⟨some 100, 500, 0, 600, none, true⟩ : PtpMeas)).t1 = some 100) ∧ ((((((put 4 []).setF PTP_CFG.ENABLE 1).setF PTP_STAT.PORTSTATE 9).setF PTP_SERVO2.PDWIN 1).onPtp fun u => { u with meas := some ⟨some 100, 500, 0, 600, none, true⟩, pds := [0] }).ptp.pds.foldl min (rndDiv ((((⟨some 100, 500, 0, 600, none, true⟩ : PtpMeas)).t2 - 100 - ((⟨some 100, 500, 0, 600, none, true⟩ : PtpMeas)).csync) + (900000 - ((⟨some 100, 500, 0, 600, none, true⟩ : PtpMeas)).t3 - 0)) 2) + (((((put 4 []).setF PTP_CFG.ENABLE 1).setF PTP_STAT.PORTSTATE 9).setF PTP_SERVO2.PDWIN 1).onPtp fun u => { u with meas := some ⟨some 100, 500, 0, 600, none, true⟩, pds := [0] }).getF PTP_SERVO2.PDWIN * 1600 < rndDiv ((((⟨some 100, 500, 0, 600, none, true⟩ : PtpMeas)).t2 - 100 - ((⟨some 100, 500, 0, 600, none, true⟩ : PtpMeas)).csync) + (900000 - ((⟨some 100, 500, 0, 600, none, true⟩ : PtpMeas)).t3 - 0)) 2))
    ∧ ((Quiet ((((put 4 []).setF PTP_CFG.ENABLE 1).setF PTP_STAT.PORTSTATE 9).onPtp fun u => { u with meas := some ⟨none, 500, 0, 600, none, true⟩ })) ∧ ((((((put 4 []).setF PTP_CFG.ENABLE 1).setF PTP_STAT.PORTSTATE 9).onPtp fun u => { u with meas := some ⟨none, 500, 0, 600, none, true⟩ }).nport (((((put 4 []).setF PTP_CFG.ENABLE 1).setF PTP_STAT.PORTSTATE 9).onPtp fun u => { u with meas := some ⟨none, 500, 0, 600, none, true⟩ }).getF PTP_CFG.PORT)).ptpIn.getD (sysFree ((((put 4 []).setF PTP_CFG.ENABLE 1).setF PTP_STAT.PORTSTATE 9).onPtp fun u => { u with meas := some ⟨none, 500, 0, 600, none, true⟩ })) = true) ∧ (ptpOn ((((put 4 []).setF PTP_CFG.ENABLE 1).setF PTP_STAT.PORTSTATE 9).onPtp fun u => { u with meas := some ⟨none, 500, 0, 600, none, true⟩ }) = true) ∧ (((((put 4 []).setF PTP_CFG.ENABLE 1).setF PTP_STAT.PORTSTATE 9).onPtp fun u => { u with meas := some ⟨none, 500, 0, 600, none, true⟩ }).pstate = 9) ∧ (((((put 4 []).setF PTP_CFG.ENABLE 1).setF PTP_STAT.PORTSTATE 9).onPtp fun u => { u with meas := some ⟨none, 500, 0, 600, none, true⟩ }).ptp.meas = some ((⟨none, 500, 0, 600, none, true⟩ : PtpMeas))) ∧ (((⟨none, 500, 0, 600, none, true⟩ : PtpMeas)).resp = none) ∧ (((⟨none, 500, 0, 600, none, true⟩ : PtpMeas)).t1 = none))
    ∧ ((Quiet (((put 4 []).setF PTP_CFG.ENABLE 1).setF PTP_STAT.PORTSTATE 4)) ∧ (((((put 4 []).setF PTP_CFG.ENABLE 1).setF PTP_STAT.PORTSTATE 4).nport ((((put 4 []).setF PTP_CFG.ENABLE 1).setF PTP_STAT.PORTSTATE 4).getF PTP_CFG.PORT)).ptpIn.getD (sysFree (((put 4 []).setF PTP_CFG.ENABLE 1).setF PTP_STAT.PORTSTATE 4)) = true) ∧ (ptpOn (((put 4 []).setF PTP_CFG.ENABLE 1).setF PTP_STAT.PORTSTATE 4) = true) ∧ ((((put 4 []).setF PTP_CFG.ENABLE 1).setF PTP_STAT.PORTSTATE 4).pstate ≠ 2) ∧ (roleAdmits (ptpRole (((put 4 []).setF PTP_CFG.ENABLE 1).setF PTP_STAT.PORTSTATE 4)) 9 = true) ∧ (((((put 4 []).setF PTP_CFG.ENABLE 1).setF PTP_STAT.PORTSTATE 4).pstate ≠ 8 ∧ (((put 4 []).setF PTP_CFG.ENABLE 1).setF PTP_STAT.PORTSTATE 4).pstate ≠ 9) ∨ (((put 4 []).setF PTP_CFG.ENABLE 1).setF PTP_STAT.PORTSTATE 4).ptp.parent = 1 * 2 ^ 64 + 2))
    ∧ ((Quiet ((((put 4 []).setF PTP_CFG.ENABLE 1).setF PTP_STAT.PORTSTATE 9).setF PTP_STAT.SERVOVALID 1)) ∧ ((((((put 4 []).setF PTP_CFG.ENABLE 1).setF PTP_STAT.PORTSTATE 9).setF PTP_STAT.SERVOVALID 1).nport (((((put 4 []).setF PTP_CFG.ENABLE 1).setF PTP_STAT.PORTSTATE 9).setF PTP_STAT.SERVOVALID 1).getF PTP_CFG.PORT)).ptpIn.getD (sysFree ((((put 4 []).setF PTP_CFG.ENABLE 1).setF PTP_STAT.PORTSTATE 9).setF PTP_STAT.SERVOVALID 1)) = true) ∧ (ptpOn ((((put 4 []).setF PTP_CFG.ENABLE 1).setF PTP_STAT.PORTSTATE 9).setF PTP_STAT.SERVOVALID 1) = true) ∧ (((((put 4 []).setF PTP_CFG.ENABLE 1).setF PTP_STAT.PORTSTATE 9).setF PTP_STAT.SERVOVALID 1).pstate = 8 ∨ ((((put 4 []).setF PTP_CFG.ENABLE 1).setF PTP_STAT.PORTSTATE 9).setF PTP_STAT.SERVOVALID 1).pstate = 9) ∧ (roleAdmits (ptpRole ((((put 4 []).setF PTP_CFG.ENABLE 1).setF PTP_STAT.PORTSTATE 9).setF PTP_STAT.SERVOVALID 1)) 8 = true) ∧ (8 = 8 ∨ 8 = 9) ∧ (((((put 4 []).setF PTP_CFG.ENABLE 1).setF PTP_STAT.PORTSTATE 9).setF PTP_STAT.SERVOVALID 1).ptp.parent ≠ 1 * 2 ^ 64 + 2))
    ∧ ((Quiet (((put 4 []).setF PTP_CFG.ENABLE 1).setF PTP_STAT.PORTSTATE 8)) ∧ (((((put 4 []).setF PTP_CFG.ENABLE 1).setF PTP_STAT.PORTSTATE 8).nport ((((put 4 []).setF PTP_CFG.ENABLE 1).setF PTP_STAT.PORTSTATE 8).getF PTP_CFG.PORT)).ptpIn.getD (sysFree (((put 4 []).setF PTP_CFG.ENABLE 1).setF PTP_STAT.PORTSTATE 8)) = true) ∧ (ptpOn (((put 4 []).setF PTP_CFG.ENABLE 1).setF PTP_STAT.PORTSTATE 8) = true) ∧ ((((put 4 []).setF PTP_CFG.ENABLE 1).setF PTP_STAT.PORTSTATE 8).pstate ≠ 2) ∧ ((((put 4 []).setF PTP_CFG.ENABLE 1).setF PTP_STAT.PORTSTATE 8).pstate ≠ 9) ∧ (roleAdmits (ptpRole (((put 4 []).setF PTP_CFG.ENABLE 1).setF PTP_STAT.PORTSTATE 8)) 4 = true) ∧ (4 < 8))
    ∧ ((Quiet ((((put 4 []).setF PTP_CFG.ENABLE 1).setF PTP_STAT.PORTSTATE 9).setF PTP_STAT.SERVOVALID 1)) ∧ (ptpOn ((((put 4 []).setF PTP_CFG.ENABLE 1).setF PTP_STAT.PORTSTATE 9).setF PTP_STAT.SERVOVALID 1) = true) ∧ (((((put 4 []).setF PTP_CFG.ENABLE 1).setF PTP_STAT.PORTSTATE 9).setF PTP_STAT.SERVOVALID 1).pstate ≠ 2))
    ∧ ((Quiet ((((put 4 []).setF PTP_CFG.ENABLE 1).setF PTP_STAT.PORTSTATE 9).setF PTP_STAT.SERVOVALID 1)) ∧ (ptpOn ((((put 4 []).setF PTP_CFG.ENABLE 1).setF PTP_STAT.PORTSTATE 9).setF PTP_STAT.SERVOVALID 1) = true) ∧ (((((put 4 []).setF PTP_CFG.ENABLE 1).setF PTP_STAT.PORTSTATE 9).setF PTP_STAT.SERVOVALID 1).pstate = 9))
    ∧ ((Quiet ((((put 4 []).setF PTP_CFG.ENABLE 1).setF PTP_STAT.PORTSTATE 9).setF PTP_STAT.SERVOVALID 1)) ∧ (ptpOn ((((put 4 []).setF PTP_CFG.ENABLE 1).setF PTP_STAT.PORTSTATE 9).setF PTP_STAT.SERVOVALID 1) = true) ∧ (((((put 4 []).setF PTP_CFG.ENABLE 1).setF PTP_STAT.PORTSTATE 9).setF PTP_STAT.SERVOVALID 1).pstate ≠ 2) ∧ (roleAdmits (ptpRole ((((put 4 []).setF PTP_CFG.ENABLE 1).setF PTP_STAT.PORTSTATE 9).setF PTP_STAT.SERVOVALID 1)) 4 = true) ∧ (4 ≠ 9) ∧ (4 < 16))
    ∧ ((Quiet (((((put 4 [(0x63000, 1)]).setF PTP_CFG.ENABLE 1).setF PTP_STAT.PORTSTATE 6).setF (NET_PSTAT.LINK 0) 1))) ∧ (sysFree (((((put 4 [(0x63000, 1)]).setF PTP_CFG.ENABLE 1).setF PTP_STAT.PORTSTATE 6).setF (NET_PSTAT.LINK 0) 1)) = true) ∧ ((((((put 4 [(0x63000, 1)]).setF PTP_CFG.ENABLE 1).setF PTP_STAT.PORTSTATE 6).setF (NET_PSTAT.LINK 0) 1)).flag (NET_PSTAT.LINK ((((((put 4 [(0x63000, 1)]).setF PTP_CFG.ENABLE 1).setF PTP_STAT.PORTSTATE 6).setF (NET_PSTAT.LINK 0) 1)).getF PTP_CFG.PORT)) = true) ∧ (ptpOn (((((put 4 [(0x63000, 1)]).setF PTP_CFG.ENABLE 1).setF PTP_STAT.PORTSTATE 6).setF (NET_PSTAT.LINK 0) 1)) = true) ∧ ((((((put 4 [(0x63000, 1)]).setF PTP_CFG.ENABLE 1).setF PTP_STAT.PORTSTATE 6).setF (NET_PSTAT.LINK 0) 1)).pstate = 6))
    ∧ ((Quiet (((((put 4 [(0x63000, 1)]).setF PTP_CFG.ENABLE 1).setF PTP_STAT.PORTSTATE 9).setF (NET_PSTAT.LINK 0) 1))) ∧ (sysFree (((((put 4 [(0x63000, 1)]).setF PTP_CFG.ENABLE 1).setF PTP_STAT.PORTSTATE 9).setF (NET_PSTAT.LINK 0) 1)) = true) ∧ ((((((put 4 [(0x63000, 1)]).setF PTP_CFG.ENABLE 1).setF PTP_STAT.PORTSTATE 9).setF (NET_PSTAT.LINK 0) 1)).flag (NET_PSTAT.LINK ((((((put 4 [(0x63000, 1)]).setF PTP_CFG.ENABLE 1).setF PTP_STAT.PORTSTATE 9).setF (NET_PSTAT.LINK 0) 1)).getF PTP_CFG.PORT)) = true) ∧ (ptpOn (((((put 4 [(0x63000, 1)]).setF PTP_CFG.ENABLE 1).setF PTP_STAT.PORTSTATE 9).setF (NET_PSTAT.LINK 0) 1)) = true) ∧ ((((((put 4 [(0x63000, 1)]).setF PTP_CFG.ENABLE 1).setF PTP_STAT.PORTSTATE 9).setF (NET_PSTAT.LINK 0) 1)).pstate = 9))
    ∧ ((Quiet (((((put 4 [(0x63000, 1)]).setF PTP_CFG.ENABLE 1).setF PTP_STAT.PORTSTATE 6).setF (NET_PSTAT.LINK 0) 1))) ∧ (sysFree (((((put 4 [(0x63000, 1)]).setF PTP_CFG.ENABLE 1).setF PTP_STAT.PORTSTATE 6).setF (NET_PSTAT.LINK 0) 1)) = true) ∧ ((((((put 4 [(0x63000, 1)]).setF PTP_CFG.ENABLE 1).setF PTP_STAT.PORTSTATE 6).setF (NET_PSTAT.LINK 0) 1)).flag (NET_PSTAT.LINK ((((((put 4 [(0x63000, 1)]).setF PTP_CFG.ENABLE 1).setF PTP_STAT.PORTSTATE 6).setF (NET_PSTAT.LINK 0) 1)).getF PTP_CFG.PORT)) = true) ∧ (ptpOn (((((put 4 [(0x63000, 1)]).setF PTP_CFG.ENABLE 1).setF PTP_STAT.PORTSTATE 6).setF (NET_PSTAT.LINK 0) 1)) = true) ∧ ((((((put 4 [(0x63000, 1)]).setF PTP_CFG.ENABLE 1).setF PTP_STAT.PORTSTATE 6).setF (NET_PSTAT.LINK 0) 1)).pstate = 6))
    ∧ ((Quiet (put 4 [])) ∧ (ptpOn (put 4 []) = false))
    ∧ ((Quiet (onNPort 0 (fun u => { u with q := [⟨4, 0, true, beBytes 0x011B19000000 12 ++ beBytes 0x88F7 2 ++ beBytes (2 ^ 264) 34, [], none, 0, 0, 0⟩] }) (((((put 4 []).setF PTP_CFG.ENABLE 1).setF PTP_STAT.PORTSTATE 9).setF (NET_PSTAT.LINK 0) 1).onPtp fun u => { u with t2 := some 7 }))) ∧ (0 < 4) ∧ ((onNPort 0 (fun u => { u with q := [⟨4, 0, true, beBytes 0x011B19000000 12 ++ beBytes 0x88F7 2 ++ beBytes (2 ^ 264) 34, [], none, 0, 0, 0⟩] }) (((((put 4 []).setF PTP_CFG.ENABLE 1).setF PTP_STAT.PORTSTATE 9).setF (NET_PSTAT.LINK 0) 1).onPtp fun u => { u with t2 := some 7 })).flag (NET_PSTAT.LINK 0) = true) ∧ ((onNPort 0 (fun u => { u with q := [⟨4, 0, true, beBytes 0x011B19000000 12 ++ beBytes 0x88F7 2 ++ beBytes (2 ^ 264) 34, [], none, 0, 0, 0⟩] }) (((((put 4 []).setF PTP_CFG.ENABLE 1).setF PTP_STAT.PORTSTATE 9).setF (NET_PSTAT.LINK 0) 1).onPtp fun u => { u with t2 := some 7 })).flag (NET_PSTAT.PAUSED 0) = false) ∧ (nextEg ((onNPort 0 (fun u => { u with q := [⟨4, 0, true, beBytes 0x011B19000000 12 ++ beBytes 0x88F7 2 ++ beBytes (2 ^ 264) 34, [], none, 0, 0, 0⟩] }) (((((put 4 []).setF PTP_CFG.ENABLE 1).setF PTP_STAT.PORTSTATE 9).setF (NET_PSTAT.LINK 0) 1).onPtp fun u => { u with t2 := some 7 })).nport 0).q = some (((⟨4, 0, true, beBytes 0x011B19000000 12 ++ beBytes 0x88F7 2 ++ beBytes (2 ^ 264) 34, [], none, 0, 0, 0⟩ : EgFrame)), (([] : List EgFrame)))) ∧ (((⟨4, 0, true, beBytes 0x011B19000000 12 ++ beBytes 0x88F7 2 ++ beBytes (2 ^ 264) 34, [], none, 0, 0, 0⟩ : EgFrame)).kind = 4) ∧ (((⟨4, 0, true, beBytes 0x011B19000000 12 ++ beBytes 0x88F7 2 ++ beBytes (2 ^ 264) 34, [], none, 0, 0, 0⟩ : EgFrame)).host = none) ∧ (ptpOff ((⟨4, 0, true, beBytes 0x011B19000000 12 ++ beBytes 0x88F7 2 ++ beBytes (2 ^ 264) 34, [], none, 0, 0, 0⟩ : EgFrame)).bytes = some 14) ∧ (ptpType ((⟨4, 0, true, beBytes 0x011B19000000 12 ++ beBytes 0x88F7 2 ++ beBytes (2 ^ 264) 34, [], none, 0, 0, 0⟩ : EgFrame)).bytes 14 = 1) ∧ ((onNPort 0 (fun u => { u with q := [⟨4, 0, true, beBytes 0x011B19000000 12 ++ beBytes 0x88F7 2 ++ beBytes (2 ^ 264) 34, [], none, 0, 0, 0⟩] }) (((((put 4 []).setF PTP_CFG.ENABLE 1).setF PTP_STAT.PORTSTATE 9).setF (NET_PSTAT.LINK 0) 1).onPtp fun u => { u with t2 := some 7 })).ptp.t2 = some 7) ∧ ((onNPort 0 (fun u => { u with q := [⟨4, 0, true, beBytes 0x011B19000000 12 ++ beBytes 0x88F7 2 ++ beBytes (2 ^ 264) 34, [], none, 0, 0, 0⟩] }) (((((put 4 []).setF PTP_CFG.ENABLE 1).setF PTP_STAT.PORTSTATE 9).setF (NET_PSTAT.LINK 0) 1).onPtp fun u => { u with t2 := some 7 })).ptp.used = false)) := by
  (repeat' apply And.intro) <;> decide

set_option maxRecDepth 100000 in
/-- The hypotheses of ClapperEvents are met. -/
theorem test_witness_ClapperEvents :
    ((Quiet (((((put 4 [(0x207E0, 0x90000000)]).setF SYS_MODE.TICK 1).setF (CLP_TSTAT.STATE 31) 1).onPtp fun u => { u with trig := [(31, ⟨0, 0, 0, 1, false⟩)] }).onTake fun u => { u with pending := some { takeOf [0x20000400#32, 1#32, 0#32, 0#32, 0#32] none with when := 3, trigger := 31, sT := none, k := 2 } })) ∧ (31 < 32) ∧ ((((((put 4 [(0x207E0, 0x90000000)]).setF SYS_MODE.TICK 1).setF (CLP_TSTAT.STATE 31) 1).onPtp fun u => { u with trig := [(31, ⟨0, 0, 0, 1, false⟩)] }).onTake fun u => { u with pending := some { takeOf [0x20000400#32, 1#32, 0#32, 0#32, 0#32] none with when := 3, trigger := 31, sT := none, k := 2 } }).ptp.trig.find? (fun c => c.1 = 31) = some (31, ((⟨0, 0, 0, 1, false⟩ : TrigU)))) ∧ ((((((put 4 [(0x207E0, 0x90000000)]).setF SYS_MODE.TICK 1).setF (CLP_TSTAT.STATE 31) 1).onPtp fun u => { u with trig := [(31, ⟨0, 0, 0, 1, false⟩)] }).onTake fun u => { u with pending := some { takeOf [0x20000400#32, 1#32, 0#32, 0#32, 0#32] none with when := 3, trigger := 31, sT := none, k := 2 } }).getF (CLP_TSTAT.STATE 31) = 1) ∧ (0 ≤ (((((put 4 [(0x207E0, 0x90000000)]).setF SYS_MODE.TICK 1).setF (CLP_TSTAT.STATE 31) 1).onPtp fun u => { u with trig := [(31, ⟨0, 0, 0, 1, false⟩)] }).onTake fun u => { u with pending := some { takeOf [0x20000400#32, 1#32, 0#32, 0#32, 0#32] none with when := 3, trigger := 31, sT := none, k := 2 } }).since ((⟨0, 0, 0, 1, false⟩ : TrigU)).sec ((⟨0, 0, 0, 1, false⟩ : TrigU)).ns) ∧ (((0x90000000 : Nat)) = ((((((put 4 [(0x207E0, 0x90000000)]).setF SYS_MODE.TICK 1).setF (CLP_TSTAT.STATE 31) 1).onPtp fun u => { u with trig := [(31, ⟨0, 0, 0, 1, false⟩)] }).onTake fun u => { u with pending := some { takeOf [0x20000400#32, 1#32, 0#32, 0#32, 0#32] none with when := 3, trigger := 31, sT := none, k := 2 } }).reg (0x20400 + 0x20 * 31)).toNat) ∧ (bitOf ((0x90000000 : Nat)) 19 = false) ∧ (bitOf ((0x90000000 : Nat)) 18 = false) ∧ (bits ((0x90000000 : Nat)) 28 3 = 1) ∧ ((((((put 4 [(0x207E0, 0x90000000)]).setF SYS_MODE.TICK 1).setF (CLP_TSTAT.STATE 31) 1).onPtp fun u => { u with trig := [(31, ⟨0, 0, 0, 1, false⟩)] }).onTake fun u => { u with pending := some { takeOf [0x20000400#32, 1#32, 0#32, 0#32, 0#32] none with when := 3, trigger := 31, sT := none, k := 2 } }).take.pending = some ({ takeOf [0x20000400#32, 1#32, 0#32, 0#32, 0#32] none with when := 3, trigger := 31, sT := none, k := 2 })) ∧ ((((((put 4 [(0x207E0, 0x90000000)]).setF SYS_MODE.TICK 1).setF (CLP_TSTAT.STATE 31) 1).onPtp fun u => { u with trig := [(31, ⟨0, 0, 0, 1, false⟩)] }).onTake fun u => { u with pending := some { takeOf [0x20000400#32, 1#32, 0#32, 0#32, 0#32] none with when := 3, trigger := 31, sT := none, k := 2 } }).tick = true) ∧ (({ takeOf [0x20000400#32, 1#32, 0#32, 0#32, 0#32] none with when := 3, trigger := 31, sT := none, k := 2 }).when = 3) ∧ (({ takeOf [0x20000400#32, 1#32, 0#32, 0#32, 0#32] none with when := 3, trigger := 31, sT := none, k := 2 }).trigger = 31) ∧ (({ takeOf [0x20000400#32, 1#32, 0#32, 0#32, 0#32] none with when := 3, trigger := 31, sT := none, k := 2 }).sT = none) ∧ ((List.range 3).all (fun tr => !bitOf ((((((put 4 [(0x207E0, 0x90000000)]).setF SYS_MODE.TICK 1).setF (CLP_TSTAT.STATE 31) 1).onPtp fun u => { u with trig := [(31, ⟨0, 0, 0, 1, false⟩)] }).onTake fun u => { u with pending := some { takeOf [0x20000400#32, 1#32, 0#32, 0#32, 0#32] none with when := 3, trigger := 31, sT := none, k := 2 } }).sess tr).mask 1) = true))
    ∧ ((Quiet (((((put 4 [(0x207E0, 0xA0000000)]).setF SYS_MODE.TICK 1).setF (CLP_TSTAT.STATE 31) 1).onPtp fun u => { u with trig := [(31, ⟨0, 0, 0, 1, false⟩)] }).onDl fun u => { u with reqs := [(3, ⟨false, true, none, some 31⟩)] })) ∧ (31 < 32) ∧ ((((((put 4 [(0x207E0, 0xA0000000)]).setF SYS_MODE.TICK 1).setF (CLP_TSTAT.STATE 31) 1).onPtp fun u => { u with trig := [(31, ⟨0, 0, 0, 1, false⟩)] }).onDl fun u => { u with reqs := [(3, ⟨false, true, none, some 31⟩)] }).ptp.trig.find? (fun c => c.1 = 31) = some (31, ((⟨0, 0, 0, 1, false⟩ : TrigU)))) ∧ ((((((put 4 [(0x207E0, 0xA0000000)]).setF SYS_MODE.TICK 1).setF (CLP_TSTAT.STATE 31) 1).onPtp fun u => { u with trig := [(31, ⟨0, 0, 0, 1, false⟩)] }).onDl fun u => { u with reqs := [(3, ⟨false, true, none, some 31⟩)] }).getF (CLP_TSTAT.STATE 31) = 1) ∧ (0 ≤ (((((put 4 [(0x207E0, 0xA0000000)]).setF SYS_MODE.TICK 1).setF (CLP_TSTAT.STATE 31) 1).onPtp fun u => { u with trig := [(31, ⟨0, 0, 0, 1, false⟩)] }).onDl fun u => { u with reqs := [(3, ⟨false, true, none, some 31⟩)] }).since ((⟨0, 0, 0, 1, false⟩ : TrigU)).sec ((⟨0, 0, 0, 1, false⟩ : TrigU)).ns) ∧ (((0xA0000000 : Nat)) = ((((((put 4 [(0x207E0, 0xA0000000)]).setF SYS_MODE.TICK 1).setF (CLP_TSTAT.STATE 31) 1).onPtp fun u => { u with trig := [(31, ⟨0, 0, 0, 1, false⟩)] }).onDl fun u => { u with reqs := [(3, ⟨false, true, none, some 31⟩)] }).reg (0x20400 + 0x20 * 31)).toNat) ∧ (bitOf ((0xA0000000 : Nat)) 19 = false) ∧ (bitOf ((0xA0000000 : Nat)) 18 = false) ∧ (bits ((0xA0000000 : Nat)) 28 3 = 2) ∧ ((((((put 4 [(0x207E0, 0xA0000000)]).setF SYS_MODE.TICK 1).setF (CLP_TSTAT.STATE 31) 1).onPtp fun u => { u with trig := [(31, ⟨0, 0, 0, 1, false⟩)] }).onDl fun u => { u with reqs := [(3, ⟨false, true, none, some 31⟩)] }).tick = true))
    ∧ ((Quiet ((((put 4 [(0x207E0, 0xB0200000)]).setF SYS_MODE.TICK 1).setF (CLP_TSTAT.STATE 31) 1).onPtp fun u => { u with trig := [(31, ⟨0, 0, 0, 1, false⟩)] })) ∧ (31 < 32) ∧ (((((put 4 [(0x207E0, 0xB0200000)]).setF SYS_MODE.TICK 1).setF (CLP_TSTAT.STATE 31) 1).onPtp fun u => { u with trig := [(31, ⟨0, 0, 0, 1, false⟩)] }).ptp.trig.find? (fun c => c.1 = 31) = some (31, ((⟨0, 0, 0, 1, false⟩ : TrigU)))) ∧ (((((put 4 [(0x207E0, 0xB0200000)]).setF SYS_MODE.TICK 1).setF (CLP_TSTAT.STATE 31) 1).onPtp fun u => { u with trig := [(31, ⟨0, 0, 0, 1, false⟩)] }).getF (CLP_TSTAT.STATE 31) = 1) ∧ (0 ≤ ((((put 4 [(0x207E0, 0xB0200000)]).setF SYS_MODE.TICK 1).setF (CLP_TSTAT.STATE 31) 1).onPtp fun u => { u with trig := [(31, ⟨0, 0, 0, 1, false⟩)] }).since ((⟨0, 0, 0, 1, false⟩ : TrigU)).sec ((⟨0, 0, 0, 1, false⟩ : TrigU)).ns) ∧ (((0xB0200000 : Nat)) = (((((put 4 [(0x207E0, 0xB0200000)]).setF SYS_MODE.TICK 1).setF (CLP_TSTAT.STATE 31) 1).onPtp fun u => { u with trig := [(31, ⟨0, 0, 0, 1, false⟩)] }).reg (0x20400 + 0x20 * 31)).toNat) ∧ (bitOf ((0xB0200000 : Nat)) 19 = false) ∧ (bitOf ((0xB0200000 : Nat)) 18 = false) ∧ (trigBall ((0xB0200000 : Nat)) = some (gpioBall 0)) ∧ (bits ((0xB0200000 : Nat)) 20 3 = (if true then 2 else 3)))
    ∧ ((Quiet ((((put 4 [(0x207E0, 0x80080000)]).setF (CLP_TPER.NS 31) 1000).setF (CLP_TSTAT.STATE 31) 1).onPtp fun u => { u with trig := [(31, ⟨0, 0, 0, 2, false⟩)] })) ∧ (31 < 32) ∧ (((((put 4 [(0x207E0, 0x80080000)]).setF (CLP_TPER.NS 31) 1000).setF (CLP_TSTAT.STATE 31) 1).onPtp fun u => { u with trig := [(31, ⟨0, 0, 0, 2, false⟩)] }).ptp.trig.find? (fun c => c.1 = 31) = some (31, ((⟨0, 0, 0, 2, false⟩ : TrigU)))) ∧ (((((put 4 [(0x207E0, 0x80080000)]).setF (CLP_TPER.NS 31) 1000).setF (CLP_TSTAT.STATE 31) 1).onPtp fun u => { u with trig := [(31, ⟨0, 0, 0, 2, false⟩)] }).getF (CLP_TSTAT.STATE 31) = 1) ∧ (0 ≤ ((((put 4 [(0x207E0, 0x80080000)]).setF (CLP_TPER.NS 31) 1000).setF (CLP_TSTAT.STATE 31) 1).onPtp fun u => { u with trig := [(31, ⟨0, 0, 0, 2, false⟩)] }).since ((⟨0, 0, 0, 2, false⟩ : TrigU)).sec ((⟨0, 0, 0, 2, false⟩ : TrigU)).ns) ∧ (((0x80080000 : Nat)) = (((((put 4 [(0x207E0, 0x80080000)]).setF (CLP_TPER.NS 31) 1000).setF (CLP_TSTAT.STATE 31) 1).onPtp fun u => { u with trig := [(31, ⟨0, 0, 0, 2, false⟩)] }).reg (0x20400 + 0x20 * 31)).toNat) ∧ (bitOf ((0x80080000 : Nat)) 18 = false) ∧ (bitOf ((0x80080000 : Nat)) 19 = true) ∧ (bits ((0x80080000 : Nat)) 28 3 = 0) ∧ (nextTrig ((⟨0, 0, 0, 2, false⟩ : TrigU)) (((((put 4 [(0x207E0, 0x80080000)]).setF (CLP_TPER.NS 31) 1000).setF (CLP_TSTAT.STATE 31) 1).onPtp fun u => { u with trig := [(31, ⟨0, 0, 0, 2, false⟩)] }).getF (CLP_TPER.NS 31) * 2 ^ 32 + ((((put 4 [(0x207E0, 0x80080000)]).setF (CLP_TPER.NS 31) 1000).setF (CLP_TSTAT.STATE 31) 1).onPtp fun u => { u with trig := [(31, ⟨0, 0, 0, 2, false⟩)] }).getF (CLP_TPERF.FRAC 31)) ((((put 4 [(0x207E0, 0x80080000)]).setF (CLP_TPER.NS 31) 1000).setF (CLP_TSTAT.STATE 31) 1).onPtp fun u => { u with trig := [(31, ⟨0, 0, 0, 2, false⟩)] }) = (((⟨0, 1000, 0, 1, false⟩ : TrigU)), 0)))
    ∧ ((Quiet ((put 4 [(0x207E0, 0xB0000000)]).onPtp fun u => { u with trig := [(31, ⟨0, 0, 0, 1, true⟩)] })) ∧ (((put 4 [(0x207E0, 0xB0000000)]).onPtp fun u => { u with trig := [(31, ⟨0, 0, 0, 1, true⟩)] }).ptp.trig.find? (fun c => c.1 = 31 && c.2.pulse) = some (31, ((⟨0, 0, 0, 1, true⟩ : TrigU)))) ∧ (trigBall (((put 4 [(0x207E0, 0xB0000000)]).onPtp fun u => { u with trig := [(31, ⟨0, 0, 0, 1, true⟩)] }).reg (0x20400 + 0x20 * 31)).toNat = some (gpioBall 0)))
    ∧ ((Quiet (((put 4 []).setF (CLP_CCFG.EN 15) 1).setF (CLP_CCFG.EDGE 15) 1)) ∧ (15 < 16) ∧ ((((put 4 []).setF (CLP_CCFG.EN 15) 1).setF (CLP_CCFG.EDGE 15) 1).flag (CLP_CCFG.EN 15) = true) ∧ (bitOf ((((put 4 []).setF (CLP_CCFG.EN 15) 1).setF (CLP_CCFG.EDGE 15) 1).getF (CLP_CCFG.EDGE 15)) (b2n false) = true) ∧ (edgeClose 15 (((put 4 []).setF (CLP_CCFG.EN 15) 1).setF (CLP_CCFG.EDGE 15) 1) = false) ∧ (((((put 4 []).setF (CLP_CCFG.EN 15) 1).setF (CLP_CCFG.EDGE 15) 1).capFifo 15).length < 16))
    ∧ ((Quiet (putFifo 15 (List.replicate 16 ⟨0, 0, true⟩) (((put 4 []).setF (CLP_CCFG.EN 15) 1).setF (CLP_CCFG.EDGE 15) 2))) ∧ (15 < 16) ∧ ((putFifo 15 (List.replicate 16 ⟨0, 0, true⟩) (((put 4 []).setF (CLP_CCFG.EN 15) 1).setF (CLP_CCFG.EDGE 15) 2)).flag (CLP_CCFG.EN 15) = true) ∧ (bitOf ((putFifo 15 (List.replicate 16 ⟨0, 0, true⟩) (((put 4 []).setF (CLP_CCFG.EN 15) 1).setF (CLP_CCFG.EDGE 15) 2)).getF (CLP_CCFG.EDGE 15)) (b2n true) = true) ∧ (edgeClose 15 (putFifo 15 (List.replicate 16 ⟨0, 0, true⟩) (((put 4 []).setF (CLP_CCFG.EN 15) 1).setF (CLP_CCFG.EDGE 15) 2)) = false) ∧ (16 ≤ ((putFifo 15 (List.replicate 16 ⟨0, 0, true⟩) (((put 4 []).setF (CLP_CCFG.EN 15) 1).setF (CLP_CCFG.EDGE 15) 2)).capFifo 15).length)) := by
  (repeat' apply And.intro) <;> decide

set_option maxRecDepth 100000 in
/-- The hypotheses of CrossbarAndMemoryEvents are met. -/
theorem test_witness_CrossbarAndMemoryEvents :
    ((Quiet (put 4 [])) ∧ (3 < 12) ∧ (((⟨0, 10, false⟩ : XbarPath)).target < 10) ∧ (((⟨0, 10, false⟩ : XbarPath)).into ≤ 10) ∧ (1 ≤ 1) ∧ (1 ≤ 64) ∧ (0 < 4) ∧ (turnedAway 3 ((⟨0, 10, false⟩ : XbarPath)) 0 ((⟨0, []⟩ : BurstData)).addr (put 4 []) = true))
    ∧ ((Quiet (put 4 [])) ∧ (1 < 12) ∧ (((⟨9, 7, false⟩ : XbarPath)).target < 10) ∧ (((⟨9, 7, false⟩ : XbarPath)).into ≤ 10) ∧ (1 ≤ 64) ∧ (64 ≤ 64) ∧ (2 < 4) ∧ (turnedAway 1 ((⟨9, 7, false⟩ : XbarPath)) 2 ((⟨0, []⟩ : BurstData)).addr (put 4 []) = false) ∧ (mayIssue 1 ((⟨9, 7, false⟩ : XbarPath)).target (put 4 []) = true) ∧ (((put 4 []).fab.bursts.all fun b => b.target ≠ ((⟨9, 7, false⟩ : XbarPath)).target) = true) ∧ (holdsPath ((⟨9, 7, false⟩ : XbarPath)).target (put 4 []) = false) ∧ (7 = (if 2 = 2 then ((⟨9, 7, false⟩ : XbarPath)).into else 10)) ∧ (holdsPath 7 (put 4 []) = false) ∧ ((put 4 []).fab.ddrBuf + ddrPosted (⟨1, ((⟨9, 7, false⟩ : XbarPath)).target, 64, 2, false, 0, 0, false, 7, ((⟨9, 7, false⟩ : XbarPath)).chain && decide (1 = 2), ((⟨0, []⟩ : BurstData)).addr, ((⟨0, []⟩ : BurstData)).data⟩) ≤ 32768) ∧ (1 ≠ 0 ∨ ((⟨9, 7, false⟩ : XbarPath)).target ≠ 1 ∨ (put 4 []).fab.t1q = []))
    ∧ ((Quiet ((put 4 []).onFab fun u => { u with bursts := [⟨0, 4, 1, 0, true, 0, 0, false, 10, false, 0, []⟩] })) ∧ (1 < 12) ∧ (((⟨4, 10, false⟩ : XbarPath)).target < 10) ∧ (((⟨4, 10, false⟩ : XbarPath)).into ≤ 10) ∧ (1 ≤ 64) ∧ (64 ≤ 64) ∧ (0 < 4) ∧ (turnedAway 1 ((⟨4, 10, false⟩ : XbarPath)) 0 ((⟨0x6000000, []⟩ : BurstData)).addr ((put 4 []).onFab fun u => { u with bursts := [⟨0, 4, 1, 0, true, 0, 0, false, 10, false, 0, []⟩] }) = false) ∧ (mayIssue 1 ((⟨4, 10, false⟩ : XbarPath)).target ((put 4 []).onFab fun u => { u with bursts := [⟨0, 4, 1, 0, true, 0, 0, false, 10, false, 0, []⟩] }) = true) ∧ (holdsPath ((⟨4, 10, false⟩ : XbarPath)).target ((put 4 []).onFab fun u => { u with bursts := [⟨0, 4, 1, 0, true, 0, 0, false, 10, false, 0, []⟩] }) = true) ∧ (10 = (if 0 = 2 then ((⟨4, 10, false⟩ : XbarPath)).into else 10)))
    ∧ ((Quiet ((put 4 []).onFab fun u => { u with bursts := List.replicate 4 ⟨1, 9, 1, 0, true, 0, 0, false, 10, false, 0, []⟩ })) ∧ (1 < 12) ∧ (((⟨9, 10, false⟩ : XbarPath)).target < 10) ∧ (((⟨9, 10, false⟩ : XbarPath)).into ≤ 10) ∧ (1 ≤ 64) ∧ (64 ≤ 64) ∧ (0 < 4) ∧ (turnedAway 1 ((⟨9, 10, false⟩ : XbarPath)) 0 ((⟨0, []⟩ : BurstData)).addr ((put 4 []).onFab fun u => { u with bursts := List.replicate 4 ⟨1, 9, 1, 0, true, 0, 0, false, 10, false, 0, []⟩ }) = false) ∧ (mayIssue 1 ((⟨9, 10, false⟩ : XbarPath)).target ((put 4 []).onFab fun u => { u with bursts := List.replicate 4 ⟨1, 9, 1, 0, true, 0, 0, false, 10, false, 0, []⟩ }) = false))
    ∧ ((Quiet (put 4 [])) ∧ (1 < 12) ∧ (((⟨5, 10, false⟩ : XbarPath)).target < 10) ∧ (((⟨5, 10, false⟩ : XbarPath)).into ≤ 10) ∧ (1 ≤ 1) ∧ (1 ≤ 64) ∧ (1 < 4) ∧ (turnedAway 1 ((⟨5, 10, false⟩ : XbarPath)) 1 ((⟨0x7000000, []⟩ : BurstData)).addr (put 4 []) = false) ∧ (mayIssue 1 ((⟨5, 10, false⟩ : XbarPath)).target (put 4 []) = true) ∧ (((⟨5, 10, false⟩ : XbarPath)).target = 5) ∧ (((0x7000004 : Nat)) = ((⟨0x7000004, some (0x11111111, 15), some (0x22222222, 3)⟩ : DualAccess)).addr / 4 * 4) ∧ (0x7000000 ≤ ((0x7000004 : Nat))) ∧ (((0x7000004 : Nat)) < 0x7040000) ∧ (((⟨0x7000004, some (0x11111111, 15), some (0x22222222, 3)⟩ : DualAccess)).port0 = some ((0x11111111, 15))) ∧ (((⟨0x7000004, some (0x11111111, 15), some (0x22222222, 3)⟩ : DualAccess)).port1 = some ((0x22222222, 3))))
    ∧ ((Quiet (put 4 [])) ∧ (1 < 12) ∧ (((⟨4, 10, false⟩ : XbarPath)).target < 10) ∧ (((⟨4, 10, false⟩ : XbarPath)).into ≤ 10) ∧ (1 ≤ 1) ∧ (1 ≤ 64) ∧ (0 < 4) ∧ (turnedAway 1 ((⟨4, 10, false⟩ : XbarPath)) 0 ((⟨0x6000000, []⟩ : BurstData)).addr (put 4 []) = false) ∧ (mayIssue 1 ((⟨4, 10, false⟩ : XbarPath)).target (put 4 []) = true) ∧ (0 ≠ 1) ∧ (((⟨4, 10, false⟩ : XbarPath)).target = 3 ∨ ((⟨4, 10, false⟩ : XbarPath)).target = 4 ∨ ((⟨4, 10, false⟩ : XbarPath)).target = 5))
    ∧ ((Quiet ((put 4 []).onFab fun u => { u with bursts := [⟨1, 4, 1, 1, true, 0, 0, false, 10, false, 0x6000000, [7#32, 8#32]⟩] })) ∧ (4 < 10) ∧ (((put 4 []).onFab fun u => { u with bursts := [⟨1, 4, 1, 1, true, 0, 0, false, 10, false, 0x6000000, [7#32, 8#32]⟩] }).fab.bursts.find? (fun x => x.target = 4 ∧ x.granted) = some ((⟨1, 4, 1, 1, true, 0, 0, false, 10, false, 0x6000000, [7#32, 8#32]⟩ : Burst))) ∧ ((((put 4 []).onFab fun u => { u with bursts := [⟨1, 4, 1, 1, true, 0, 0, false, 10, false, 0x6000000, [7#32, 8#32]⟩] }).fab.bursts.filter fun x => x.target = 4).length = 1) ∧ (((⟨1, 4, 1, 1, true, 0, 0, false, 10, false, 0x6000000, [7#32, 8#32]⟩ : Burst)).into ≠ 4) ∧ ((((put 4 []).onFab fun u => { u with bursts := [⟨1, 4, 1, 1, true, 0, 0, false, 10, false, 0x6000000, [7#32, 8#32]⟩] }).fab.bursts.all fun x => x.granted) = true))
    ∧ ((Quiet ((put 4 []).onFab fun u => { u with bursts := [⟨11, 9, 1, 0, true, 0, 0, false, 10, false, 0, []⟩, ⟨11, 8, 1, 0, false, 0, 0, false, 10, false, 0, []⟩] })) ∧ (((⟨11, [(9, 1)]⟩ : XbarReset)).master < 12))
    ∧ ((Quiet (put 4 [])) ∧ (((⟨1023, 65535, false⟩ : SramErr)).inst < 1024) ∧ (((⟨1023, 65535, false⟩ : SramErr)).row < 65536) ∧ (((1023 * 65536 + 65535)) = ((⟨1023, 65535, false⟩ : SramErr)).inst * 65536 + ((⟨1023, 65535, false⟩ : SramErr)).row) ∧ (smGet 0 (put 4 []).fab.rowErr ((1023 * 65536 + 65535)) ≤ 1))
    ∧ ((Quiet ((put 4 []).onFab fun u => { u with rowErr := [(1023 * 65536 + 65535, 2)] })) ∧ (((⟨1023, 65535, false⟩ : SramErr)).inst < 1024) ∧ (((⟨1023, 65535, false⟩ : SramErr)).row < 65536) ∧ (((1023 * 65536 + 65535)) = ((⟨1023, 65535, false⟩ : SramErr)).inst * 65536 + ((⟨1023, 65535, false⟩ : SramErr)).row) ∧ (2 ≤ smGet 0 ((put 4 []).onFab fun u => { u with rowErr := [(1023 * 65536 + 65535, 2)] }).fab.rowErr ((1023 * 65536 + 65535))) ∧ (((put 4 []).onFab fun u => { u with rowErr := [(1023 * 65536 + 65535, 2)] }).fab.repair.length < 4092))
    ∧ ((Quiet (put 4 [])) ∧ (((⟨1023, 65535, false⟩ : SramErr)).inst < 1024) ∧ (((⟨1023, 65535, false⟩ : SramErr)).row < 65536) ∧ ((put 4 []).fab.repair.length < 4092))
    ∧ ((Quiet ((put 2 []).onFab fun u => { u with training := true })) ∧ (((put 2 []).onFab fun u => { u with training := true }).fab.training = true))
    ∧ ((Quiet (((put 2 []).setF DDR_CFG.EN 1).onFab fun u => { u with training := true })) ∧ ((((put 2 []).setF DDR_CFG.EN 1).onFab fun u => { u with training := true }).fab.training = true))
    ∧ ((Quiet ((put 2 []).setF DDR_STAT.READY 1)) ∧ (((put 2 []).setF DDR_STAT.READY 1).flag DDR_STAT.READY = true))
    ∧ ((Quiet ((((put 2 []).setF MRAM_STAT.SPARES 82).setF MRAM_STAT.BUSY 1).onFab fun u => { u with replacing := [5] })) ∧ (((((put 2 []).setF MRAM_STAT.SPARES 82).setF MRAM_STAT.BUSY 1).onFab fun u => { u with replacing := [5] }).fab.replacing = 5 :: (([] : List Nat))) ∧ (((((put 2 []).setF MRAM_STAT.SPARES 82).setF MRAM_STAT.BUSY 1).onFab fun u => { u with replacing := [5] }).fab.held = []) ∧ (0 < ((((put 2 []).setF MRAM_STAT.SPARES 82).setF MRAM_STAT.BUSY 1).onFab fun u => { u with replacing := [5] }).getF MRAM_STAT.SPARES)) := by
  (repeat' apply And.intro) <;> decide

set_option maxRecDepth 100000 in
/-- The hypotheses of FaultsAndTheLog are met. -/
theorem test_witness_FaultsAndTheLog :
    ((Quiet (put 4 [])) ∧ ((sevDefault ((0x70 : Nat))).isSome = true) ∧ (0 = 0 ∨ ((0x70 : Nat)) = 0x11))
    ∧ ((Quiet (((put 4 []).setF LOG_PHEAD.OFF 8).onFlt fun u => { u with scanned := true, queue := [⟨0x70, [1#32, 2#32], false⟩] })) ∧ ((((put 4 []).setF LOG_PHEAD.OFF 8).onFlt fun u => { u with scanned := true, queue := [⟨0x70, [1#32, 2#32], false⟩] }).mode ≠ 0) ∧ ((((put 4 []).setF LOG_PHEAD.OFF 8).onFlt fun u => { u with scanned := true, queue := [⟨0x70, [1#32, 2#32], false⟩] }).flt.scanned = true) ∧ ((((put 4 []).setF LOG_PHEAD.OFF 8).onFlt fun u => { u with scanned := true, queue := [⟨0x70, [1#32, 2#32], false⟩] }).flt.queue = ((⟨0x70, [1#32, 2#32], false⟩ : LogEntry)) :: (([] : List LogEntry))) ∧ ((((put 4 []).setF LOG_PHEAD.OFF 8).onFlt fun u => { u with scanned := true, queue := [⟨0x70, [1#32, 2#32], false⟩] }).flag (LOG_RATE.UNLIM ((⟨0x70, [1#32, 2#32], false⟩ : LogEntry)).code) = true ∨ (((put 4 []).setF LOG_PHEAD.OFF 8).onFlt fun u => { u with scanned := true, queue := [⟨0x70, [1#32, 2#32], false⟩] }).tokens ((⟨0x70, [1#32, 2#32], false⟩ : LogEntry)).code ≠ 0) ∧ (((⟨0x70, [1#32, 2#32], false⟩ : LogEntry)).payload.length % 2 = 0) ∧ (((⟨0x70, [1#32, 2#32], false⟩ : LogEntry)).payload.length ≤ 60) ∧ ((((put 4 []).setF LOG_PHEAD.OFF 8).onFlt fun u => { u with scanned := true, queue := [⟨0x70, [1#32, 2#32], false⟩] }).flag LOG_STAT.PERMFULL = false) ∧ ((((put 4 []).setF LOG_PHEAD.OFF 8).onFlt fun u => { u with scanned := true, queue := [⟨0x70, [1#32, 2#32], false⟩] }).flag LOG_STAT.ERASING = false) ∧ (8 = (((put 4 []).setF LOG_PHEAD.OFF 8).onFlt fun u => { u with scanned := true, queue := [⟨0x70, [1#32, 2#32], false⟩] }).getF LOG_PHEAD.OFF) ∧ (8 % 8 = 0) ∧ (8 + 4 * (((⟨0x70, [1#32, 2#32], false⟩ : LogEntry)).payload.length + 4) + 8 ≤ 0x40000) ∧ (((⟨0x70, [1#32, 2#32], false⟩ : LogEntry)).notify = false) ∧ (((((put 4 []).setF LOG_PHEAD.OFF 8).onFlt fun u => { u with scanned := true, queue := [⟨0x70, [1#32, 2#32], false⟩] }).fab.wear.all fun c => decide (c.2 + 1024 < wearLimit (((put 4 []).setF LOG_PHEAD.OFF 8).onFlt fun u => { u with scanned := true, queue := [⟨0x70, [1#32, 2#32], false⟩] }))) = true) ∧ (1024 < wearLimit (((put 4 []).setF LOG_PHEAD.OFF 8).onFlt fun u => { u with scanned := true, queue := [⟨0x70, [1#32, 2#32], false⟩] })) ∧ ((((put 4 []).setF LOG_PHEAD.OFF 8).onFlt fun u => { u with scanned := true, queue := [⟨0x70, [1#32, 2#32], false⟩] }).fab.replacing = []))
    ∧ ((Quiet ((put 4 []).onFlt fun u => { u with scanned := true, queue := [⟨0x70, [1#32, 2#32], false⟩], tokens := [(0x70, 0)] })) ∧ (((put 4 []).onFlt fun u => { u with scanned := true, queue := [⟨0x70, [1#32, 2#32], false⟩], tokens := [(0x70, 0)] }).mode ≠ 0) ∧ (((put 4 []).onFlt fun u => { u with scanned := true, queue := [⟨0x70, [1#32, 2#32], false⟩], tokens := [(0x70, 0)] }).flt.scanned = true) ∧ (((put 4 []).onFlt fun u => { u with scanned := true, queue := [⟨0x70, [1#32, 2#32], false⟩], tokens := [(0x70, 0)] }).flt.queue = ((⟨0x70, [1#32, 2#32], false⟩ : LogEntry)) :: (([] : List LogEntry))) ∧ (((put 4 []).onFlt fun u => { u with scanned := true, queue := [⟨0x70, [1#32, 2#32], false⟩], tokens := [(0x70, 0)] }).flag (LOG_RATE.UNLIM ((⟨0x70, [1#32, 2#32], false⟩ : LogEntry)).code) = false) ∧ (((put 4 []).onFlt fun u => { u with scanned := true, queue := [⟨0x70, [1#32, 2#32], false⟩], tokens := [(0x70, 0)] }).tokens ((⟨0x70, [1#32, 2#32], false⟩ : LogEntry)).code = 0))
    ∧ ((Quiet (((put 4 []).onTime fun _ => 1000000000).onFlt fun u => { u with tokens := [(255, 3)] })) ∧ (255 < 256) ∧ (tokenDue 255 (((put 4 []).onTime fun _ => 1000000000).onFlt fun u => { u with tokens := [(255, 3)] }) ≤ (((put 4 []).onTime fun _ => 1000000000).onFlt fun u => { u with tokens := [(255, 3)] }).time)) := by
  (repeat' apply And.intro) <;> decide

set_option maxRecDepth 100000 in
/-- The hypotheses of LeaseAndFence are met. -/
theorem test_witness_LeaseAndFence :
    ((Quiet (put 2 [])) ∧ ((put 2 []).hostOpen = true) ∧ ((put 2 []).flag STI_STAT.LINK = false))
    ∧ ((Quiet (((((put 6 []).setF STI_STAT.ROLE 2).setF STI_STAT.PAIRED 1).setF STI_STAT.LINK 1).setF STI_STAT.MVALID 1)) ∧ ((((((put 6 []).setF STI_STAT.ROLE 2).setF STI_STAT.PAIRED 1).setF STI_STAT.LINK 1).setF STI_STAT.MVALID 1).flag STI_STAT.LINK = true))
    ∧ ((Quiet ((((put 4 []).setF STI_STAT.ROLE 1).setF STI_STAT.PAIRED 1).setF STI_STAT.LINK 1)) ∧ (((((put 4 []).setF STI_STAT.ROLE 1).setF STI_STAT.PAIRED 1).setF STI_STAT.LINK 1).role = 1) ∧ (((((put 4 []).setF STI_STAT.ROLE 1).setF STI_STAT.PAIRED 1).setF STI_STAT.LINK 1).flag STI_STAT.LINK = true) ∧ (((((put 4 []).setF STI_STAT.ROLE 1).setF STI_STAT.PAIRED 1).setF STI_STAT.LINK 1).hostOpen = true))
    ∧ ((Quiet (((((put 6 []).setF STI_STAT.ROLE 2).setF STI_STAT.PAIRED 1).setF STI_STAT.LINK 1).setF CLK_STAT.RINGFOLLOW 1)) ∧ ((((((put 6 []).setF STI_STAT.ROLE 2).setF STI_STAT.PAIRED 1).setF STI_STAT.LINK 1).setF CLK_STAT.RINGFOLLOW 1).role = 2) ∧ ((((((put 6 []).setF STI_STAT.ROLE 2).setF STI_STAT.PAIRED 1).setF STI_STAT.LINK 1).setF CLK_STAT.RINGFOLLOW 1).mode ≠ 2) ∧ ((((((put 6 []).setF STI_STAT.ROLE 2).setF STI_STAT.PAIRED 1).setF STI_STAT.LINK 1).setF CLK_STAT.RINGFOLLOW 1).mode ≠ 6 ∨ (((((put 6 []).setF STI_STAT.ROLE 2).setF STI_STAT.PAIRED 1).setF STI_STAT.LINK 1).setF CLK_STAT.RINGFOLLOW 1).flag CLK_STAT.RINGFOLLOW = true) ∧ ((((((put 6 []).setF STI_STAT.ROLE 2).setF STI_STAT.PAIRED 1).setF STI_STAT.LINK 1).setF CLK_STAT.RINGFOLLOW 1).flag STI_STAT.LINK = true) ∧ ((((((put 6 []).setF STI_STAT.ROLE 2).setF STI_STAT.PAIRED 1).setF STI_STAT.LINK 1).setF CLK_STAT.RINGFOLLOW 1).hostOpen = true) ∧ ((((((put 6 []).setF STI_STAT.ROLE 2).setF STI_STAT.PAIRED 1).setF STI_STAT.LINK 1).setF CLK_STAT.RINGFOLLOW 1).sti.left = false))
    ∧ ((Quiet ((((put 2 []).setF STI_STAT.ROLE 2)).setF STI_STAT.LINK 1)) ∧ (((((put 2 []).setF STI_STAT.ROLE 2)).setF STI_STAT.LINK 1).role = 2) ∧ (((((put 2 []).setF STI_STAT.ROLE 2)).setF STI_STAT.LINK 1).mode = 2 ∨ ((((put 2 []).setF STI_STAT.ROLE 2)).setF STI_STAT.LINK 1).mode = 6) ∧ (((((put 2 []).setF STI_STAT.ROLE 2)).setF STI_STAT.LINK 1).flag STI_STAT.LINK = true) ∧ (((((put 2 []).setF STI_STAT.ROLE 2)).setF STI_STAT.LINK 1).hostOpen = true) ∧ (((((put 2 []).setF STI_STAT.ROLE 2)).setF STI_STAT.LINK 1).sti.left = false))
    ∧ ((Quiet (((put 8 []).setF STI_STAT.ROLE 3).setF STI_STAT.LINK 1)) ∧ ((((put 8 []).setF STI_STAT.ROLE 3).setF STI_STAT.LINK 1).role = 3) ∧ ((((put 8 []).setF STI_STAT.ROLE 3).setF STI_STAT.LINK 1).mode = 8) ∧ ((((put 8 []).setF STI_STAT.ROLE 3).setF STI_STAT.LINK 1).flag STI_STAT.LINK = true) ∧ ((((put 8 []).setF STI_STAT.ROLE 3).setF STI_STAT.LINK 1).hostOpen = true) ∧ ((((put 8 []).setF STI_STAT.ROLE 3).setF STI_STAT.LINK 1).sti.left = false))
    ∧ ((Quiet (((((put 4 []).setF STI_STAT.ROLE 1).setF STI_STAT.PAIRED 1).setF STI_STAT.LINK 1).onSti fun u => { u with sent := some (5, 20) })) ∧ ((((((put 4 []).setF STI_STAT.ROLE 1).setF STI_STAT.PAIRED 1).setF STI_STAT.LINK 1).onSti fun u => { u with sent := some (5, 20) }).role = 1) ∧ ((((((put 4 []).setF STI_STAT.ROLE 1).setF STI_STAT.PAIRED 1).setF STI_STAT.LINK 1).onSti fun u => { u with sent := some (5, 20) }).flag STI_STAT.LINK = true) ∧ ((((((put 4 []).setF STI_STAT.ROLE 1).setF STI_STAT.PAIRED 1).setF STI_STAT.LINK 1).onSti fun u => { u with sent := some (5, 20) }).sti.sent = some (5, 20)))
    ∧ ((Quiet ((onCtx 1023 (fun u => { u with st := 2 }) ((((put 4 []).setF STI_STAT.ROLE 1).setF STI_STAT.PAIRED 1).setF STI_STAT.LINK 1)).onTime fun _ => 300000)) ∧ (((onCtx 1023 (fun u => { u with st := 2 }) ((((put 4 []).setF STI_STAT.ROLE 1).setF STI_STAT.PAIRED 1).setF STI_STAT.LINK 1)).onTime fun _ => 300000).pairedHolder = true) ∧ (((onCtx 1023 (fun u => { u with st := 2 }) ((((put 4 []).setF STI_STAT.ROLE 1).setF STI_STAT.PAIRED 1).setF STI_STAT.LINK 1)).onTime fun _ => 300000).sti.tn + ((onCtx 1023 (fun u => { u with st := 2 }) ((((put 4 []).setF STI_STAT.ROLE 1).setF STI_STAT.PAIRED 1).setF STI_STAT.LINK 1)).onTime fun _ => 300000).sti.lz * 15360 ≤ ((onCtx 1023 (fun u => { u with st := 2 }) ((((put 4 []).setF STI_STAT.ROLE 1).setF STI_STAT.PAIRED 1).setF STI_STAT.LINK 1)).onTime fun _ => 300000).time + 38400))
    ∧ ((Quiet (((put 4 []).setF STI_STAT.ROLE 1).setF STI_STAT.PAIRED 1)) ∧ ((((put 4 []).setF STI_STAT.ROLE 1).setF STI_STAT.PAIRED 1).role = 1) ∧ ((((put 4 []).setF STI_STAT.ROLE 1).setF STI_STAT.PAIRED 1).hostOpen = true))
    ∧ ((Quiet (((put 6 []).setF STI_STAT.ROLE 2).setF STI_STAT.PAIRED 1)) ∧ ((((put 6 []).setF STI_STAT.ROLE 2).setF STI_STAT.PAIRED 1).role ≠ 1)) := by
  (repeat' apply And.intro) <;> decide

set_option maxRecDepth 100000 in
/-- The hypotheses of TokenAndTakeover are met. -/
theorem test_witness_TokenAndTakeover :
    ((Quiet ((((put 6 []).setF STI_STAT.ROLE 2).setF STI_STAT.PAIRED 1).onTime fun _ => 400000)) ∧ (mayTake ((((put 6 []).setF STI_STAT.ROLE 2).setF STI_STAT.PAIRED 1).onTime fun _ => 400000) = true) ∧ (((((put 6 []).setF STI_STAT.ROLE 2).setF STI_STAT.PAIRED 1).onTime fun _ => 400000).sti.rn + ((((put 6 []).setF STI_STAT.ROLE 2).setF STI_STAT.PAIRED 1).onTime fun _ => 400000).sti.lz * 15360 + 38400 ≤ ((((put 6 []).setF STI_STAT.ROLE 2).setF STI_STAT.PAIRED 1).onTime fun _ => 400000).time) ∧ (((((put 6 []).setF STI_STAT.ROLE 2).setF STI_STAT.PAIRED 1).onTime fun _ => 400000).flag STI_STAT.LEASE_IN = false))
    ∧ ((Quiet (((((put 6 []).setF STI_STAT.ROLE 2).setF STI_STAT.PAIRED 1).setF STI_STAT.LEASE_IN 1).onTime fun _ => 400000)) ∧ (mayTake (((((put 6 []).setF STI_STAT.ROLE 2).setF STI_STAT.PAIRED 1).setF STI_STAT.LEASE_IN 1).onTime fun _ => 400000) = true) ∧ ((((((put 6 []).setF STI_STAT.ROLE 2).setF STI_STAT.PAIRED 1).setF STI_STAT.LEASE_IN 1).onTime fun _ => 400000).sti.rn + (((((put 6 []).setF STI_STAT.ROLE 2).setF STI_STAT.PAIRED 1).setF STI_STAT.LEASE_IN 1).onTime fun _ => 400000).sti.lz * 15360 + 38400 ≤ (((((put 6 []).setF STI_STAT.ROLE 2).setF STI_STAT.PAIRED 1).setF STI_STAT.LEASE_IN 1).onTime fun _ => 400000).time) ∧ ((((((put 6 []).setF STI_STAT.ROLE 2).setF STI_STAT.PAIRED 1).setF STI_STAT.LEASE_IN 1).onTime fun _ => 400000).flag STI_STAT.LEASE_IN = true))
    ∧ ((Quiet (((((put 6 []).setF STI_STAT.ROLE 2).setF STI_STAT.PAIRED 1).setF STI_STAT.LEASE_IN 1).onSti fun u => { u with waitLease := true })) ∧ (mayTake (((((put 6 []).setF STI_STAT.ROLE 2).setF STI_STAT.PAIRED 1).setF STI_STAT.LEASE_IN 1).onSti fun u => { u with waitLease := true }) = true) ∧ ((((((put 6 []).setF STI_STAT.ROLE 2).setF STI_STAT.PAIRED 1).setF STI_STAT.LEASE_IN 1).onSti fun u => { u with waitLease := true }).sti.waitLease = true))
    ∧ ((Quiet ((((put 4 []).setF STI_STAT.ROLE 1).setF STI_STAT.PAIRED 1).setF STI_STAT.LEASE_IN 1)) ∧ (((((put 4 []).setF STI_STAT.ROLE 1).setF STI_STAT.PAIRED 1).setF STI_STAT.LEASE_IN 1).sti.waitLease = false))
    ∧ ((Quiet ((((put 6 []).setF STI_STAT.ROLE 2).setF STI_STAT.PAIRED 1).setF STI_STAT.LINK 1)) ∧ (mayTake ((((put 6 []).setF STI_STAT.ROLE 2).setF STI_STAT.PAIRED 1).setF STI_STAT.LINK 1) = true) ∧ (((((put 6 []).setF STI_STAT.ROLE 2).setF STI_STAT.PAIRED 1).setF STI_STAT.LINK 1).flag STI_STAT.LINK = true) ∧ (((((put 6 []).setF STI_STAT.ROLE 2).setF STI_STAT.PAIRED 1).setF STI_STAT.LINK 1).flag STI_STAT.LEASE_IN = false))
    ∧ ((Quiet ((((put 8 []).setF STI_STAT.ROLE 3).setF STI_CFG.RECLAIM 1).onTime fun _ => 600000)) ∧ (((((put 8 []).setF STI_STAT.ROLE 3).setF STI_CFG.RECLAIM 1).onTime fun _ => 600000).role = 3) ∧ (((((put 8 []).setF STI_STAT.ROLE 3).setF STI_CFG.RECLAIM 1).onTime fun _ => 600000).flag STI_CFG.RECLAIM = true) ∧ (((((put 8 []).setF STI_STAT.ROLE 3).setF STI_CFG.RECLAIM 1).onTime fun _ => 600000).flag STI_STAT.LEASE_IN = false) ∧ (max ((((put 8 []).setF STI_STAT.ROLE 3).setF STI_CFG.RECLAIM 1).onTime fun _ => 600000).sti.lowAt (((((put 8 []).setF STI_STAT.ROLE 3).setF STI_CFG.RECLAIM 1).onTime fun _ => 600000).sti.rn + ((((put 8 []).setF STI_STAT.ROLE 3).setF STI_CFG.RECLAIM 1).onTime fun _ => 600000).sti.lz * 15360 + 38400) + 153600 ≤ ((((put 8 []).setF STI_STAT.ROLE 3).setF STI_CFG.RECLAIM 1).onTime fun _ => 600000).time))
    ∧ ((Quiet ((((put 6 []).setF STI_STAT.ROLE 2).setF STI_STAT.PAIRED 1).setF STI_STAT.LINK 1)) ∧ (mirrors ((((put 6 []).setF STI_STAT.ROLE 2).setF STI_STAT.PAIRED 1).setF STI_STAT.LINK 1) = true) ∧ (recorded ((0x401 : Nat)) = true))
    ∧ ((Quiet ((((put 6 []).setF STI_STAT.ROLE 2).setF STI_STAT.PAIRED 1).setF STI_STAT.LINK 1)) ∧ (mirrors ((((put 6 []).setF STI_STAT.ROLE 2).setF STI_STAT.PAIRED 1).setF STI_STAT.LINK 1) = true))
    ∧ ((Quiet (((((put 6 []).setF STI_STAT.ROLE 2).setF STI_STAT.PAIRED 1).setF STI_STAT.LINK 1).onTake fun u => { u with pending := some (takeOf [0x20000400#32, 1#32, 0#32, 0#32, 0#32] (some 2)) })) ∧ (mirrors (((((put 6 []).setF STI_STAT.ROLE 2).setF STI_STAT.PAIRED 1).setF STI_STAT.LINK 1).onTake fun u => { u with pending := some (takeOf [0x20000400#32, 1#32, 0#32, 0#32, 0#32] (some 2)) }) = true) ∧ ((((((put 6 []).setF STI_STAT.ROLE 2).setF STI_STAT.PAIRED 1).setF STI_STAT.LINK 1).onTake fun u => { u with pending := some (takeOf [0x20000400#32, 1#32, 0#32, 0#32, 0#32] (some 2)) }).take.pending.isSome = true))
    ∧ ((Quiet ((((put 6 []).setF STI_STAT.ROLE 2).setF STI_STAT.PAIRED 1).setF STI_STAT.LINK 1)) ∧ (mirrors ((((put 6 []).setF STI_STAT.ROLE 2).setF STI_STAT.PAIRED 1).setF STI_STAT.LINK 1) = true) ∧ (7 < 2 ^ 32) ∧ (((((put 6 []).setF STI_STAT.ROLE 2).setF STI_STAT.PAIRED 1).setF STI_STAT.LINK 1).getF SYS_TAKE_CNT.COUNT ≠ 7))
    ∧ ((Quiet (((((put 6 []).setF STI_STAT.ROLE 2).setF STI_STAT.PAIRED 1).setF STI_STAT.LINK 1).setF SYS_TAKE_CNT.COUNT 7)) ∧ (mirrors (((((put 6 []).setF STI_STAT.ROLE 2).setF STI_STAT.PAIRED 1).setF STI_STAT.LINK 1).setF SYS_TAKE_CNT.COUNT 7) = true) ∧ (7 < 2 ^ 32) ∧ ((((((put 6 []).setF STI_STAT.ROLE 2).setF STI_STAT.PAIRED 1).setF STI_STAT.LINK 1).setF SYS_TAKE_CNT.COUNT 7).getF SYS_TAKE_CNT.COUNT = 7) ∧ ((([(15, [1#8])] : List (Nat × List Byte))) ≠ []))
    ∧ ((Quiet ((((put 4 []).setF STI_STAT.ROLE 1).setF STI_STAT.PAIRED 1).setF STI_STAT.LINK 1)) ∧ (((((put 4 []).setF STI_STAT.ROLE 1).setF STI_STAT.PAIRED 1).setF STI_STAT.LINK 1).pairedHolder = true) ∧ (((((put 4 []).setF STI_STAT.ROLE 1).setF STI_STAT.PAIRED 1).setF STI_STAT.LINK 1).flag STI_STAT.LINK = true) ∧ (((((put 4 []).setF STI_STAT.ROLE 1).setF STI_STAT.PAIRED 1).setF STI_STAT.LINK 1).sti.partnerValid = false))
    ∧ ((Quiet ((((put 6 []).setF STI_STAT.ROLE 2).setF STI_STAT.PAIRED 1).setF STI_STAT.LINK 1)) ∧ (mirrors ((((put 6 []).setF STI_STAT.ROLE 2).setF STI_STAT.PAIRED 1).setF STI_STAT.LINK 1) = true) ∧ (((((put 6 []).setF STI_STAT.ROLE 2).setF STI_STAT.PAIRED 1).setF STI_STAT.LINK 1).flag STI_STAT.MVALID = false))
    ∧ ((Quiet (((put 6 []).setF STI_STAT.ROLE 2).setF STI_STAT.PAIRED 1)) ∧ (mayTake (((put 6 []).setF STI_STAT.ROLE 2).setF STI_STAT.PAIRED 1) = true) ∧ ((((put 6 []).setF STI_STAT.ROLE 2).setF STI_STAT.PAIRED 1).tick = false))
    ∧ ((Quiet ((put 7 []).setF STI_STAT.WAKING 1)) ∧ (((put 7 []).setF STI_STAT.WAKING 1).mode = 7) ∧ (((put 7 []).setF STI_STAT.WAKING 1).flag STI_STAT.WAKING = true) ∧ (((put 7 []).setF STI_STAT.WAKING 1).sti.wake < 15))
    ∧ ((Quiet ((((put 6 []).setF STI_STAT.ROLE 2).setF STI_STAT.PAIRED 1).onSti fun u => { u with wake := 14 })) ∧ (mayTake ((((put 6 []).setF STI_STAT.ROLE 2).setF STI_STAT.PAIRED 1).onSti fun u => { u with wake := 14 }) = true) ∧ (((((put 6 []).setF STI_STAT.ROLE 2).setF STI_STAT.PAIRED 1).onSti fun u => { u with wake := 14 }).sti.prewoken = false))
    ∧ ((Quiet ((((((put 4 []).setF STI_STAT.ROLE 1).setF STI_STAT.PAIRED 1).setF STI_STAT.LINK 1).setF SYS_MODE.TICK 1).onSti fun u => { u with handover := 1 })) ∧ (((((((put 4 []).setF STI_STAT.ROLE 1).setF STI_STAT.PAIRED 1).setF STI_STAT.LINK 1).setF SYS_MODE.TICK 1).onSti fun u => { u with handover := 1 }).pairedHolder = true) ∧ (((((((put 4 []).setF STI_STAT.ROLE 1).setF STI_STAT.PAIRED 1).setF STI_STAT.LINK 1).setF SYS_MODE.TICK 1).onSti fun u => { u with handover := 1 }).sti.handover = 1) ∧ (((((((put 4 []).setF STI_STAT.ROLE 1).setF STI_STAT.PAIRED 1).setF STI_STAT.LINK 1).setF SYS_MODE.TICK 1).onSti fun u => { u with handover := 1 }).tick = true))
    ∧ ((Quiet (((((put 4 []).setF STI_STAT.ROLE 1).setF STI_STAT.PAIRED 1).setF STI_STAT.LINK 1).onSti fun u => { u with handover := 1 })) ∧ ((((((put 4 []).setF STI_STAT.ROLE 1).setF STI_STAT.PAIRED 1).setF STI_STAT.LINK 1).onSti fun u => { u with handover := 1 }).pairedHolder = true) ∧ ((((((put 4 []).setF STI_STAT.ROLE 1).setF STI_STAT.PAIRED 1).setF STI_STAT.LINK 1).onSti fun u => { u with handover := 1 }).sti.handover = 1) ∧ ((((((put 4 []).setF STI_STAT.ROLE 1).setF STI_STAT.PAIRED 1).setF STI_STAT.LINK 1).onSti fun u => { u with handover := 1 }).tick = false))
    ∧ ((Quiet ((((put 7 []).setF STI_STAT.WAKING 1).setF STI_STAT.ROLE 1).onSti fun u => { u with wake := 15, mvalidAtTake := true })) ∧ (((((put 7 []).setF STI_STAT.WAKING 1).setF STI_STAT.ROLE 1).onSti fun u => { u with wake := 15, mvalidAtTake := true }).mode = 7) ∧ (((((put 7 []).setF STI_STAT.WAKING 1).setF STI_STAT.ROLE 1).onSti fun u => { u with wake := 15, mvalidAtTake := true }).role = 1) ∧ (((((put 7 []).setF STI_STAT.WAKING 1).setF STI_STAT.ROLE 1).onSti fun u => { u with wake := 15, mvalidAtTake := true }).sti.b0 = none) ∧ (((((put 7 []).setF STI_STAT.WAKING 1).setF STI_STAT.ROLE 1).onSti fun u => { u with wake := 15, mvalidAtTake := true }).sti.wake = 15) ∧ (((((put 7 []).setF STI_STAT.WAKING 1).setF STI_STAT.ROLE 1).onSti fun u => { u with wake := 15, mvalidAtTake := true }).sti.restore = []) ∧ (((((put 7 []).setF STI_STAT.WAKING 1).setF STI_STAT.ROLE 1).onSti fun u => { u with wake := 15, mvalidAtTake := true }).pairedHolder = false))
    ∧ ((Quiet ((((mapped 7 []).setF STI_STAT.ROLE 1).onShot fun _ => 9).onSti fun u => { u with b0 := some 5 })) ∧ (((((mapped 7 []).setF STI_STAT.ROLE 1).onShot fun _ => 9).onSti fun u => { u with b0 := some 5 }).mode = 7) ∧ (((((mapped 7 []).setF STI_STAT.ROLE 1).onShot fun _ => 9).onSti fun u => { u with b0 := some 5 }).role = 1) ∧ (((((mapped 7 []).setF STI_STAT.ROLE 1).onShot fun _ => 9).onSti fun u => { u with b0 := some 5 }).sti.b0 = some 5) ∧ (5 + 4 ≤ ((((mapped 7 []).setF STI_STAT.ROLE 1).onShot fun _ => 9).onSti fun u => { u with b0 := some 5 }).shot)) := by
  (repeat' apply And.intro) <;> decide

set_option maxRecDepth 100000 in
/-- The hypotheses of ReelLinks are met. -/
theorem test_witness_ReelLinks :
    ((Quiet ((put 4 []).setF RL_STAT.STATE 2)) ∧ (1 < 2) ∧ (((put 4 []).setF RL_STAT.STATE 2).hostOpen = true) ∧ (((put 4 []).setF RL_STAT.STATE 2).getF (RL_LSTAT.STATE 1) ≠ 2) ∧ (((put 4 []).setF RL_STAT.STATE 2).getF RL_STAT.STATE = 2))
    ∧ ((Quiet (((put 2 []).setF (RL_LSTAT.STATE 0) 2).onRl fun u => { u with size := 2 })) ∧ (1 < 2) ∧ ((((put 2 []).setF (RL_LSTAT.STATE 0) 2).onRl fun u => { u with size := 2 }).hostOpen = true) ∧ ((((put 2 []).setF (RL_LSTAT.STATE 0) 2).onRl fun u => { u with size := 2 }).getF (RL_LSTAT.STATE 1) ≠ 2) ∧ ((((put 2 []).setF (RL_LSTAT.STATE 0) 2).onRl fun u => { u with size := 2 }).getF (RL_LSTAT.STATE (1 - 1)) = 2) ∧ ((((put 2 []).setF (RL_LSTAT.STATE 0) 2).onRl fun u => { u with size := 2 }).getF RL_STAT.STATE ≠ 2) ∧ ((((put 2 []).setF (RL_LSTAT.STATE 0) 2).onRl fun u => { u with size := 2 }).rl.size ≠ 0) ∧ ((((put 2 []).setF (RL_LSTAT.STATE 0) 2).onRl fun u => { u with size := 2 }).mode = 2) ∧ ((((put 2 []).setF (RL_LSTAT.STATE 0) 2).onRl fun u => { u with size := 2 }).role < 2) ∧ ((((put 2 []).setF (RL_LSTAT.STATE 0) 2).onRl fun u => { u with size := 2 }).flag CLK_STAT.RINGFOLLOW = false) ∧ ((((put 2 []).setF (RL_LSTAT.STATE 0) 2).onRl fun u => { u with size := 2 }).flag PTP_STAT.RINGTIME = false) ∧ ((((put 2 []).setF (RL_LSTAT.STATE 0) 2).onRl fun u => { u with size := 2 }).rl.lists = []))
    ∧ ((Quiet (((put 4 []).setF (RL_LSTAT.STATE 1) 2))) ∧ (1 < 2) ∧ ((((put 4 []).setF (RL_LSTAT.STATE 1) 2)).hostOpen = true))
    ∧ ((Quiet (((put 4 []).setF (RL_LSTAT.STATE 1) 2))) ∧ (1 < 2) ∧ ((((put 4 []).setF (RL_LSTAT.STATE 1) 2)).getF (RL_LSTAT.STATE 1) = 2) ∧ ((((put 4 []).setF (RL_LSTAT.STATE 1) 2)).hostOpen = true) ∧ (2047 < netChans (((put 4 []).setF (RL_LSTAT.STATE 1) 2))) ∧ ((List.replicate 16 5#32).length = (((put 4 []).setF (RL_LSTAT.STATE 1) 2)).n))
    ∧ ((Quiet (((put 4 []).setF (RL_LSTAT.STATE 1) 2))) ∧ (1 < 2) ∧ ((((put 4 []).setF (RL_LSTAT.STATE 1) 2)).getF (RL_LSTAT.STATE 1) = 2) ∧ ((((put 4 []).setF (RL_LSTAT.STATE 1) 2)).hostOpen = true) ∧ (2047 < netChans (((put 4 []).setF (RL_LSTAT.STATE 1) 2))) ∧ ((List.replicate 16 5#32).length = (((put 4 []).setF (RL_LSTAT.STATE 1) 2)).n))
    ∧ ((Quiet ((((put 4 []).setF (RL_LSTAT.STATE 0) 2).setF RL_STAT.STATE 2).onRl fun u => { u with bmap := [(7, 9)] })) ∧ (((((put 4 []).setF (RL_LSTAT.STATE 0) 2).setF RL_STAT.STATE 2).onRl fun u => { u with bmap := [(7, 9)] }).getF (RL_LSTAT.STATE 0) = 2) ∧ (((((put 4 []).setF (RL_LSTAT.STATE 0) 2).setF RL_STAT.STATE 2).onRl fun u => { u with bmap := [(7, 9)] }).hostOpen = true) ∧ (ringBus 7 ((((put 4 []).setF (RL_LSTAT.STATE 0) 2).setF RL_STAT.STATE 2).onRl fun u => { u with bmap := [(7, 9)] }) = true) ∧ ((List.replicate 16 (-5)).length = ((((put 4 []).setF (RL_LSTAT.STATE 0) 2).setF RL_STAT.STATE 2).onRl fun u => { u with bmap := [(7, 9)] }).n) ∧ (((List.replicate 16 (-5)).all fun a => decide (-(2 ^ 63) ≤ a) && decide (a < 2 ^ 63)) = true))
    ∧ ((Quiet (((put 4 []).setF (RL_LSTAT.STATE 1) 2))) ∧ (1 < 2) ∧ ((((put 4 []).setF (RL_LSTAT.STATE 1) 2)).getF (RL_LSTAT.STATE 1) = 2) ∧ ((((put 4 []).setF (RL_LSTAT.STATE 1) 2)).hostOpen = true))
    ∧ ((Quiet (((put 2 []).setF (RL_LSTAT.STATE 0) 2).setF PTP_STAT.RINGTIME 1)) ∧ ((((put 2 []).setF (RL_LSTAT.STATE 0) 2).setF PTP_STAT.RINGTIME 1).getF (RL_LSTAT.STATE 0) = 2) ∧ ((((put 2 []).setF (RL_LSTAT.STATE 0) 2).setF PTP_STAT.RINGTIME 1).hostOpen = true) ∧ ((((put 2 []).setF (RL_LSTAT.STATE 0) 2).setF PTP_STAT.RINGTIME 1).flag PTP_STAT.RINGTIME = true))
    ∧ ((Quiet ((((put 2 []).setF (RL_LSTAT.STATE 0) 2).setF (RL_LSTAT.STATE 1) 2).setF RL_STAT.STATE 2)) ∧ (((((put 2 []).setF (RL_LSTAT.STATE 0) 2).setF (RL_LSTAT.STATE 1) 2).setF RL_STAT.STATE 2).getF (RL_LSTAT.STATE 0) = 2) ∧ (((((put 2 []).setF (RL_LSTAT.STATE 0) 2).setF (RL_LSTAT.STATE 1) 2).setF RL_STAT.STATE 2).getF (RL_LSTAT.STATE 1) = 2) ∧ (ringFollower ((((put 2 []).setF (RL_LSTAT.STATE 0) 2).setF (RL_LSTAT.STATE 1) 2).setF RL_STAT.STATE 2) = true) ∧ (((((put 2 []).setF (RL_LSTAT.STATE 0) 2).setF (RL_LSTAT.STATE 1) 2).setF RL_STAT.STATE 2).role < 2) ∧ (((((put 2 []).setF (RL_LSTAT.STATE 0) 2).setF (RL_LSTAT.STATE 1) 2).setF RL_STAT.STATE 2).mode = 2))
    ∧ ((Quiet ((put 4 []).setF (RL_LSTAT.STATE 0) 2)) ∧ (((put 4 []).setF (RL_LSTAT.STATE 0) 2).getF (RL_LSTAT.STATE 0) = 2) ∧ (((put 4 []).setF (RL_LSTAT.STATE 0) 2).hostOpen = true) ∧ ((ringFollower ((put 4 []).setF (RL_LSTAT.STATE 0) 2) = false ∨ ((put 4 []).setF (RL_LSTAT.STATE 0) 2).mode ≠ 2)))
    ∧ ((Quiet ((((put 2 []).setF RL_STAT.STATE 1).onRl fun u => { u with size := 2 }))) ∧ (((((put 2 []).setF RL_STAT.STATE 1).onRl fun u => { u with size := 2 })).getF RL_STAT.STATE = 1) ∧ (((((put 2 []).setF RL_STAT.STATE 1).onRl fun u => { u with size := 2 })).role < 2) ∧ (((((put 2 []).setF RL_STAT.STATE 1).onRl fun u => { u with size := 2 })).mode = 2) ∧ ((([5] : List Nat)).contains (((((put 2 []).setF RL_STAT.STATE 1).onRl fun u => { u with size := 2 })).getF SYS_ID.CHIP_ID) = false))
    ∧ ((Quiet ((((put 2 []).setF RL_STAT.STATE 1).onRl fun u => { u with size := 2 }))) ∧ (((((put 2 []).setF RL_STAT.STATE 1).onRl fun u => { u with size := 2 })).getF RL_STAT.STATE = 1) ∧ (((((put 2 []).setF RL_STAT.STATE 1).onRl fun u => { u with size := 2 })).role < 2) ∧ (((((put 2 []).setF RL_STAT.STATE 1).onRl fun u => { u with size := 2 })).mode = 2) ∧ (0 = ((((put 2 []).setF RL_STAT.STATE 1).onRl fun u => { u with size := 2 })).getF SYS_ID.CHIP_ID) ∧ ((([0, 5] : List Nat)).head? = some 0) ∧ ((([0, 5] : List Nat)).Nodup) ∧ ((([0, 5] : List Nat)).length = ((((put 2 []).setF RL_STAT.STATE 1).onRl fun u => { u with size := 2 })).rl.size) ∧ (((ringBuses ((((put 2 []).setF RL_STAT.STATE 1).onRl fun u => { u with size := 2 }))).any fun c => !(([0, 5] : List Nat)).contains (c.2 % 8)) = false) ∧ (ringFits (((((put 2 []).setF RL_STAT.STATE 1).onRl fun u => { u with size := 2 })).onRl fun u => { u with ids := fromMaster (([0, 5] : List Nat)) }) = true) ∧ (2 ≤ (([0, 5] : List Nat)).length) ∧ ((([0, 5] : List Nat)).length ≤ 8) ∧ ((fromMaster (([0, 5] : List Nat))).headD 0 = 0))
    ∧ ((Quiet (((((put 2 []).setF RL_STAT.STATE 1).onRl fun u => { u with size := 2 })).setF SYS_ID.CHIP_ID 5)) ∧ ((((((put 2 []).setF RL_STAT.STATE 1).onRl fun u => { u with size := 2 })).setF SYS_ID.CHIP_ID 5).getF RL_STAT.STATE = 1) ∧ ((((((put 2 []).setF RL_STAT.STATE 1).onRl fun u => { u with size := 2 })).setF SYS_ID.CHIP_ID 5).role < 2) ∧ ((((((put 2 []).setF RL_STAT.STATE 1).onRl fun u => { u with size := 2 })).setF SYS_ID.CHIP_ID 5).mode = 2) ∧ (5 = (((((put 2 []).setF RL_STAT.STATE 1).onRl fun u => { u with size := 2 })).setF SYS_ID.CHIP_ID 5).getF SYS_ID.CHIP_ID) ∧ ((([5, 0] : List Nat)).head? = some 5) ∧ ((([5, 0] : List Nat)).Nodup) ∧ ((([5, 0] : List Nat)).length = (((((put 2 []).setF RL_STAT.STATE 1).onRl fun u => { u with size := 2 })).setF SYS_ID.CHIP_ID 5).rl.size) ∧ (((ringBuses (((((put 2 []).setF RL_STAT.STATE 1).onRl fun u => { u with size := 2 })).setF SYS_ID.CHIP_ID 5)).any fun c => !(([5, 0] : List Nat)).contains (c.2 % 8)) = false) ∧ (ringFits ((((((put 2 []).setF RL_STAT.STATE 1).onRl fun u => { u with size := 2 })).setF SYS_ID.CHIP_ID 5).onRl fun u => { u with ids := fromMaster (([5, 0] : List Nat)) }) = true) ∧ (2 ≤ (([5, 0] : List Nat)).length) ∧ ((([5, 0] : List Nat)).length ≤ 8) ∧ ((fromMaster (([5, 0] : List Nat))).headD 0 ≠ 5))
    ∧ ((Quiet ((((put 2 []).setF RL_STAT.STATE 1).onRl fun u => { u with size := 2 }))) ∧ (((((put 2 []).setF RL_STAT.STATE 1).onRl fun u => { u with size := 2 })).getF RL_STAT.STATE = 1) ∧ (((((put 2 []).setF RL_STAT.STATE 1).onRl fun u => { u with size := 2 })).role < 2) ∧ (((((put 2 []).setF RL_STAT.STATE 1).onRl fun u => { u with size := 2 })).mode = 2) ∧ ((([5, 0] : List Nat)).contains (((((put 2 []).setF RL_STAT.STATE 1).onRl fun u => { u with size := 2 })).getF SYS_ID.CHIP_ID) = true) ∧ ((([5, 0] : List Nat)).head? ≠ some (((((put 2 []).setF RL_STAT.STATE 1).onRl fun u => { u with size := 2 })).getF SYS_ID.CHIP_ID)))
    ∧ ((Quiet ((put 2 []).setF (RL_LSTAT.STATE 0) 2)) ∧ (((put 2 []).setF (RL_LSTAT.STATE 0) 2).getF RL_STAT.STATE ≠ 1) ∧ (((put 2 []).setF (RL_LSTAT.STATE 0) 2).getF RL_STAT.STATE ≠ 2) ∧ (((put 2 []).setF (RL_LSTAT.STATE 0) 2).getF (RL_LSTAT.STATE 0) = 2) ∧ ((([5] : List Nat)).contains (((put 2 []).setF (RL_LSTAT.STATE 0) 2).getF SYS_ID.CHIP_ID) = false)) := by
  (repeat' apply And.intro) <;> decide

set_option maxRecDepth 100000 in
/-- The hypotheses of RingTakes are met. -/
theorem test_witness_RingTakes :
    ((Quiet (((put 4 []).setF RL_STAT.STATE 2))) ∧ ((((put 4 []).setF RL_STAT.STATE 2)).getF RL_STAT.STATE = 2) ∧ ((((put 4 []).setF RL_STAT.STATE 2)).flag RL_STAT.MASTER = false) ∧ ((((put 4 []).setF RL_STAT.STATE 2)).role < 2) ∧ ((((put 4 []).setF RL_STAT.STATE 2)).mode ≠ 7) ∧ ((([0x20000400#32, 1#32, 0#32, 0#32, 0#32] : List Word)).length = 5) ∧ ((some 9) = (if bits (nAt (([0x20000400#32, 1#32, 0#32, 0#32, 0#32] : List Word)) 0) 30 2 = 3 then none else some 9)))
    ∧ ((Quiet ((((put 4 []).setF RL_STAT.STATE 2)).onTake fun u => { u with pending := some (takeOf [0x20000400#32, 1#32, 0#32, 0#32, 0#32] (some 2)), unconfirmed := true })) ∧ (((((put 4 []).setF RL_STAT.STATE 2)).onTake fun u => { u with pending := some (takeOf [0x20000400#32, 1#32, 0#32, 0#32, 0#32] (some 2)), unconfirmed := true }).take.unconfirmed = true) ∧ (((((put 4 []).setF RL_STAT.STATE 2)).onTake fun u => { u with pending := some (takeOf [0x20000400#32, 1#32, 0#32, 0#32, 0#32] (some 2)), unconfirmed := true }).take.pending.isSome = true) ∧ (((((put 4 []).setF RL_STAT.STATE 2)).onTake fun u => { u with pending := some (takeOf [0x20000400#32, 1#32, 0#32, 0#32, 0#32] (some 2)), unconfirmed := true }).pairedHolder = false))
    ∧ ((Quiet ((((put 4 []).setF RL_STAT.STATE 2)).onTake fun u => { u with pending := some (takeOf [0x20000400#32, 1#32, 0#32, 0#32, 0#32] (some 2)), unconfirmed := true })) ∧ (((((put 4 []).setF RL_STAT.STATE 2)).onTake fun u => { u with pending := some (takeOf [0x20000400#32, 1#32, 0#32, 0#32, 0#32] (some 2)), unconfirmed := true }).getF RL_STAT.STATE = 2) ∧ (((((put 4 []).setF RL_STAT.STATE 2)).onTake fun u => { u with pending := some (takeOf [0x20000400#32, 1#32, 0#32, 0#32, 0#32] (some 2)), unconfirmed := true }).flag RL_STAT.MASTER = false))
    ∧ ((Quiet ((put 4 []).onTake fun u => { u with pending := some (takeOf [0x20000400#32, 1#32, 0#32, 0#32, 0#32] (some 2)), voting := some (spi, false), voters := [(3, none)] })) ∧ (((put 4 []).onTake fun u => { u with pending := some (takeOf [0x20000400#32, 1#32, 0#32, 0#32, 0#32] (some 2)), voting := some (spi, false), voters := [(3, none)] }).take.voting.isSome = true) ∧ (((put 4 []).onTake fun u => { u with pending := some (takeOf [0x20000400#32, 1#32, 0#32, 0#32, 0#32] (some 2)), voting := some (spi, false), voters := [(3, none)] }).cmd.waiting = []) ∧ ((((put 4 []).onTake fun u => { u with pending := some (takeOf [0x20000400#32, 1#32, 0#32, 0#32, 0#32] (some 2)), voting := some (spi, false), voters := [(3, none)] }).take.voters.any fun v => v.1 ≠ 4 && v.2.isNone) = true))
    ∧ ((Quiet ((put 4 []).onTake fun u => { u with pending := some (takeOf [0x20000400#32, 1#32, 0#32, 0#32, 0#32] (some 2)), voting := some (spi, false), voters := [(3, some 0)] })) ∧ (((put 4 []).onTake fun u => { u with pending := some (takeOf [0x20000400#32, 1#32, 0#32, 0#32, 0#32] (some 2)), voting := some (spi, false), voters := [(3, some 0)] }).take.voting = some (spi, false)) ∧ (((put 4 []).onTake fun u => { u with pending := some (takeOf [0x20000400#32, 1#32, 0#32, 0#32, 0#32] (some 2)), voting := some (spi, false), voters := [(3, some 0)] }).take.asked = none) ∧ (((put 4 []).onTake fun u => { u with pending := some (takeOf [0x20000400#32, 1#32, 0#32, 0#32, 0#32] (some 2)), voting := some (spi, false), voters := [(3, some 0)] }).take.pending = some (takeOf [0x20000400#32, 1#32, 0#32, 0#32, 0#32] (some 2))) ∧ (((put 4 []).onTake fun u => { u with pending := some (takeOf [0x20000400#32, 1#32, 0#32, 0#32, 0#32] (some 2)), voting := some (spi, false), voters := [(3, some 0)] }).cmd.waiting = []) ∧ (((put 4 []).onTake fun u => { u with pending := some (takeOf [0x20000400#32, 1#32, 0#32, 0#32, 0#32] (some 2)), voting := some (spi, false), voters := [(3, some 0)] }).pairedHolder = false) ∧ (spi.tr < 3) ∧ ((((put 4 []).onTake fun u => { u with pending := some (takeOf [0x20000400#32, 1#32, 0#32, 0#32, 0#32] (some 2)), voting := some (spi, false), voters := [(3, some 0)] }).take.voters.all fun v => v.2 = some 0) = true))
    ∧ ((Quiet ((put 4 []).onTake fun u => { u with pending := some (takeOf [0x20000400#32, 1#32, 0#32, 0#32, 0#32] (some 2)), voting := some (spi, false), voters := [(3, none)] })) ∧ (((put 4 []).onTake fun u => { u with pending := some (takeOf [0x20000400#32, 1#32, 0#32, 0#32, 0#32] (some 2)), voting := some (spi, false), voters := [(3, none)] }).take.voting = some (spi, false)) ∧ (((put 4 []).onTake fun u => { u with pending := some (takeOf [0x20000400#32, 1#32, 0#32, 0#32, 0#32] (some 2)), voting := some (spi, false), voters := [(3, none)] }).take.asked = none) ∧ (((put 4 []).onTake fun u => { u with pending := some (takeOf [0x20000400#32, 1#32, 0#32, 0#32, 0#32] (some 2)), voting := some (spi, false), voters := [(3, none)] }).take.pending = some (takeOf [0x20000400#32, 1#32, 0#32, 0#32, 0#32] (some 2))) ∧ (((put 4 []).onTake fun u => { u with pending := some (takeOf [0x20000400#32, 1#32, 0#32, 0#32, 0#32] (some 2)), voting := some (spi, false), voters := [(3, none)] }).cmd.waiting = []) ∧ (spi.tr < 3) ∧ (((put 4 []).onTake fun u => { u with pending := some (takeOf [0x20000400#32, 1#32, 0#32, 0#32, 0#32] (some 2)), voting := some (spi, false), voters := [(3, none)] }).take.voters = [(3, none)]))
    ∧ ((Quiet ((put 4 []).onTake fun u => { u with asked := some (takeOf [0x20000400#32, 1#32, 0#32, 0#32, 0#32] (some 2)), voting := some (spi, false), voters := [(3, some 0)] })) ∧ (((put 4 []).onTake fun u => { u with asked := some (takeOf [0x20000400#32, 1#32, 0#32, 0#32, 0#32] (some 2)), voting := some (spi, false), voters := [(3, some 0)] }).take.voting = some (spi, false)) ∧ (((put 4 []).onTake fun u => { u with asked := some (takeOf [0x20000400#32, 1#32, 0#32, 0#32, 0#32] (some 2)), voting := some (spi, false), voters := [(3, some 0)] }).take.asked = some (takeOf [0x20000400#32, 1#32, 0#32, 0#32, 0#32] (some 2))) ∧ (((put 4 []).onTake fun u => { u with asked := some (takeOf [0x20000400#32, 1#32, 0#32, 0#32, 0#32] (some 2)), voting := some (spi, false), voters := [(3, some 0)] }).cmd.waiting = []) ∧ (spi.tr < 3) ∧ ((((put 4 []).onTake fun u => { u with asked := some (takeOf [0x20000400#32, 1#32, 0#32, 0#32, 0#32] (some 2)), voting := some (spi, false), voters := [(3, some 0)] }).take.voters.all fun v => v.2 = some 0) = true))
    ∧ ((Quiet (((((put 2 []).setF SYS_CFG.VALID 1).setF (CLK_CANDST.QUAL 6) 1).onSti fun u => { u with acquireWait := true }).onCmd fun u => { u with modeReq := some (3, spi, false) })) ∧ ((((((put 2 []).setF SYS_CFG.VALID 1).setF (CLK_CANDST.QUAL 6) 1).onSti fun u => { u with acquireWait := true }).onCmd fun u => { u with modeReq := some (3, spi, false) }).cmd.modeReq = some (3, spi, false)) ∧ ((((((put 2 []).setF SYS_CFG.VALID 1).setF (CLK_CANDST.QUAL 6) 1).onSti fun u => { u with acquireWait := true }).onCmd fun u => { u with modeReq := some (3, spi, false) }).sti.acquireWait = true) ∧ ((((((put 2 []).setF SYS_CFG.VALID 1).setF (CLK_CANDST.QUAL 6) 1).onSti fun u => { u with acquireWait := true }).onCmd fun u => { u with modeReq := some (3, spi, false) }).flag (CLK_CANDST.QUAL 6) = true) ∧ (modeSetStatus 3 (((((put 2 []).setF SYS_CFG.VALID 1).setF (CLK_CANDST.QUAL 6) 1).onSti fun u => { u with acquireWait := true }).onCmd fun u => { u with modeReq := some (3, spi, false) }) = 0) ∧ ((((((put 2 []).setF SYS_CFG.VALID 1).setF (CLK_CANDST.QUAL 6) 1).onSti fun u => { u with acquireWait := true }).onCmd fun u => { u with modeReq := some (3, spi, false) }).cmd.waiting = []) ∧ (spi.tr < 3)) := by
  (repeat' apply And.intro) <;> decide

set_option maxRecDepth 100000 in
/-- The hypotheses of Resets are met. -/
theorem test_witness_Resets :
    ((((((put 4 [(0x40004, 5)]).setWord 0x8000000 9).onShot fun _ => 7).onBoot fun u => { u with softPending := true }).boot.softPending = true))
    ∧ ((((((put 4 [(0x40004, 5)]).setWord 0x8000000 9).onShot fun _ => 7).onBoot fun u => { u with wdogAt := some 3 }).hostOpen = true) ∧ (((((put 4 [(0x40004, 5)]).setWord 0x8000000 9).onShot fun _ => 7).onBoot fun u => { u with wdogAt := some 3 }).boot.wdogAt = some 3) ∧ (((((put 4 [(0x40004, 5)]).setWord 0x8000000 9).onShot fun _ => 7).onBoot fun u => { u with wdogAt := some 3 }).time ≤ 3 + 1536000000))
    ∧ ((Quiet ((put 0 []).onBoot fun u => { u with thermalHold := true })) ∧ (((put 0 []).onBoot fun u => { u with thermalHold := true }).boot.thermalHold = true)) := by
  (repeat' apply And.intro) <;> decide

set_option maxRecDepth 100000 in
/-- The hypotheses of ModesAndBoot are met. -/
theorem test_witness_ModesAndBoot :
    ((Quiet ((put 4 []).onCmd fun u => { u with modeReq := some (8, spi, false) })) ∧ (((put 4 []).onCmd fun u => { u with modeReq := some (8, spi, false) }).boot.softPending = false) ∧ (((put 4 []).onCmd fun u => { u with modeReq := some (8, spi, false) }).cmd.waiting = []) ∧ (((put 4 []).onCmd fun u => { u with modeReq := some (8, spi, false) }).cmd.modeReq = some (8, spi, false)) ∧ (((put 4 []).onCmd fun u => { u with modeReq := some (8, spi, false) }).sti.acquireWait = false) ∧ (spi.tr < 3) ∧ (8 = 8) ∧ (modeSetStatus 8 ((put 4 []).onCmd fun u => { u with modeReq := some (8, spi, false) }) = 0))
    ∧ ((Quiet ((put 2 []).onCmd fun u => { u with modeReq := some (4, spi, false) })) ∧ (((put 2 []).onCmd fun u => { u with modeReq := some (4, spi, false) }).boot.softPending = false) ∧ (((put 2 []).onCmd fun u => { u with modeReq := some (4, spi, false) }).cmd.waiting = []) ∧ (((put 2 []).onCmd fun u => { u with modeReq := some (4, spi, false) }).cmd.modeReq = some (4, spi, false)) ∧ (((put 2 []).onCmd fun u => { u with modeReq := some (4, spi, false) }).sti.acquireWait = false) ∧ (spi.tr < 3) ∧ (modeSetStatus 4 ((put 2 []).onCmd fun u => { u with modeReq := some (4, spi, false) }) ≠ 0) ∧ (((put 2 []).onCmd fun u => { u with modeReq := some (4, spi, false) }).mode = 2))
    ∧ ((Quiet ((mapped 3 []).setF CLK_STAT.STATE 2)) ∧ (((mapped 3 []).setF CLK_STAT.STATE 2).boot.softPending = false) ∧ (((mapped 3 []).setF CLK_STAT.STATE 2).cmd.waiting = []) ∧ (((mapped 3 []).setF CLK_STAT.STATE 2).cmd.modeReq = none) ∧ (((mapped 3 []).setF CLK_STAT.STATE 2).mode = 3 ∨ ((mapped 3 []).setF CLK_STAT.STATE 2).mode = 5) ∧ (clkLocked ((mapped 3 []).setF CLK_STAT.STATE 2) = true))
    ∧ ((Quiet ((mapped 4 []).setF CLK_STAT.STATE 3)) ∧ (((mapped 4 []).setF CLK_STAT.STATE 3).boot.softPending = false) ∧ (((mapped 4 []).setF CLK_STAT.STATE 3).cmd.waiting = []) ∧ (((mapped 4 []).setF CLK_STAT.STATE 3).cmd.modeReq = none) ∧ (((mapped 4 []).setF CLK_STAT.STATE 3).mode = 4) ∧ (clkLostCond ((mapped 4 []).setF CLK_STAT.STATE 3) = true))
    ∧ ((Quiet State.reset) ∧ (State.reset.mode = 0) ∧ (State.reset.boot.thermalHold = false))
    ∧ ((Quiet (((put 1 []).setF SYS_BOOT.STAGE 5).setF STI_STAT.ROLE 1)) ∧ ((((put 1 []).setF SYS_BOOT.STAGE 5).setF STI_STAT.ROLE 1).mode = 1) ∧ ((((put 1 []).setF SYS_BOOT.STAGE 5).setF STI_STAT.ROLE 1).getF SYS_BOOT.FAIL = 0) ∧ ((((put 1 []).setF SYS_BOOT.STAGE 5).setF STI_STAT.ROLE 1).getF SYS_BOOT.STAGE = 5) ∧ ((((put 1 []).setF SYS_BOOT.STAGE 5).setF STI_STAT.ROLE 1).flag STI_STAT.PAIRED = false))
    ∧ ((Quiet ((put 1 []).setF SYS_BOOT.STAGE 3)) ∧ (((put 1 []).setF SYS_BOOT.STAGE 3).mode = 1) ∧ (((put 1 []).setF SYS_BOOT.STAGE 3).getF SYS_BOOT.FAIL = 0) ∧ (((put 1 []).setF SYS_BOOT.STAGE 3).getF SYS_BOOT.STAGE = 3) ∧ (bankValid false ((put 1 []).setF SYS_BOOT.STAGE 3) = false) ∧ (bankValid true ((put 1 []).setF SYS_BOOT.STAGE 3) = false) ∧ (((⟨[], [], true, none, []⟩ : BootStage)).qspi = none))
    ∧ ((Quiet ((put 1 []).setF SYS_BOOT.STAGE 3)) ∧ (((put 1 []).setF SYS_BOOT.STAGE 3).mode = 1) ∧ (((put 1 []).setF SYS_BOOT.STAGE 3).getF SYS_BOOT.FAIL = 0) ∧ (((put 1 []).setF SYS_BOOT.STAGE 3).getF SYS_BOOT.STAGE = 3) ∧ (bankValid false ((put 1 []).setF SYS_BOOT.STAGE 3) = false) ∧ (bankValid true ((put 1 []).setF SYS_BOOT.STAGE 3) = false) ∧ (((⟨[], [], true, some [1#8], []⟩ : BootStage)).qspi = some (([1#8] : List Byte))) ∧ ((headOk (([1#8] : List Byte)) && signedOk (([1#8] : List Byte)) ((put 1 []).setF SYS_BOOT.STAGE 3)) = false))
    ∧ ((Quiet (put 4 [])) ∧ ((put 4 []).hostOpen = true) ∧ ((put 4 []).boot.wdogAt = none))
    ∧ ((Quiet ((put 4 []).onBoot fun u => { u with gafferDown := true })) ∧ (((put 4 []).onBoot fun u => { u with gafferDown := true }).boot.gafferDown = true) ∧ (((put 4 []).onBoot fun u => { u with gafferDown := true }).cmd.waiting = []))
    ∧ ((Quiet ((put 4 []).onTime fun _ => 5)) ∧ (((put 4 []).onTime fun _ => 5).hostOpen = true) ∧ (((put 4 []).onTime fun _ => 5).flag CMD_STAT.PWIN = false))
    ∧ ((Quiet (((put 4 []).onTime fun _ => 5).setF CMD_STAT.PWIN 1)) ∧ ((((put 4 []).onTime fun _ => 5).setF CMD_STAT.PWIN 1).hostOpen = true) ∧ ((((put 4 []).onTime fun _ => 5).setF CMD_STAT.PWIN 1).flag CMD_STAT.PWIN = true))
    ∧ ((Quiet ((put 4 []).setF CMD_STAT.PWIN 1)) ∧ (((put 4 []).setF CMD_STAT.PWIN 1).flag CMD_STAT.PWIN = true))
    ∧ ((Quiet (put 4 [])) ∧ ((put 4 []).hostOpen = true) ∧ ((lifeSlot 1) = lifeSlot (lifeNow (put 4 [])).seq) ∧ (((put 4 []).fab.wear.all fun c => decide (c.2 + 1024 < wearLimit (put 4 []))) = true) ∧ (1024 < wearLimit (put 4 [])) ∧ ((put 4 []).fab.replacing = []))
    ∧ ((Quiet (((put 4 []).setF CMD_STAT.LINKUP 1).setF CMD_CTRL.RINGS_EN 1)) ∧ ((((put 4 []).setF CMD_STAT.LINKUP 1).setF CMD_CTRL.RINGS_EN 1).flag CMD_STAT.LINKUP = true))
    ∧ ((Quiet (put 4 [])) ∧ ((put 4 []).mode ≠ 0) ∧ ((put 4 []).flag CMD_STAT.LINKUP = false)) := by
  (repeat' apply And.intro) <;> decide

end Sys2Proof.Tests
end

section
/-! ### A double-bit error rewrites the repair table (O22) -/

namespace Sys2Proof.Machine

/-- Row `r` is the first under replacement, and every message of the cycle names a source of R658. -/
def ReplacesFirst (r : Nat) (s : State) : Prop := s.fab.replacing.head? = some r ∧ ∀ m ∈ s.flt.wire, m.src < 256

namespace ReplacesFirst

variable {r : Nat} {s t : State}

/-- Only the list of replacements and the messages of the cycle matter. -/
theorem congr (h : ReplacesFirst r s) (hr : t.fab.replacing = s.fab.replacing) (hw : t.flt.wire = s.flt.wire) :
    ReplacesFirst r t := by
  simpa [ReplacesFirst, hr, hw] using h

theorem setF (h : ReplacesFirst r s) (f : Fld) (v : Nat) : ReplacesFirst r (s.setF f v) := h

/-- A change of the memory unit that leaves its replacements. -/
theorem onFab (h : ReplacesFirst r s) (f : FabU → FabU) (hf : (f s.fab).replacing = s.fab.replacing) : ReplacesFirst r (s.onFab f) :=
  h.congr hf rfl

theorem incF (h : ReplacesFirst r s) (f : Fld) (n : Nat) : ReplacesFirst r (s.incF f n) := h

theorem onFree (h : ReplacesFirst r s) (f : Nat → Nat) : ReplacesFirst r (s.onFree f) := h

theorem logEvent (h : ReplacesFirst r s) (code : Nat) (p : List Nat) : ReplacesFirst r (logEvent code p s) := h

theorem raise (h : ReplacesFirst r s) (src kind addr : Nat) (hs : src < 256) : ReplacesFirst r (raise src kind addr s) := by
  refine ⟨h.1, fun m hm => ?_⟩
  rcases List.mem_append.1 hm with hm | hm
  · exact h.2 m hm
  · rw [List.mem_singleton.1 hm]
    exact hs

theorem countG (h : ReplacesFirst r s) (evt k : Nat) : ReplacesFirst r (countG evt k s) := by
  have hk : Kept [] [0xB] [] s (Machine.countG evt k s) := (Kept.refl _ _ _ s).countG evt k
  exact h.congr (congrArg FabU.replacing (hk.part .fab (by decide))) (congrArg FltU.wire (hk.part .flt (by decide)))

/-- A further row to replace waits behind the first one. -/
theorem startReplace (h : ReplacesFirst r s) (row : Nat) : ReplacesFirst r (startReplace row s) := by
  have happ : ReplacesFirst r (s.onFab fun u => { u with replacing := u.replacing ++ [row] }) :=
    ⟨by simp [State.onFab_fab, List.head?_append, h.1], h.2⟩
  unfold Machine.startReplace
  split
  · exact h
  · split
    · split
      · exact h
      · exact (h.congr (t := s.onFab fun u => { u with worn := row :: u.worn }) rfl rfl).raise _ _ _ (by decide)
    · exact happ.congr rfl rfl

theorem wearBump (h : ReplacesFirst r s) (row k : Nat) : ReplacesFirst r (wearBump row k s).2 := by
  have h1 : ∀ n, ReplacesFirst r (s.onFab fun u => { u with wear := smPut 0 row n u.wear }) := fun _ => h.onFab _ rfl
  simp only [Machine.wearBump]
  split <;> split
  · exact ((h1 _).onFab _ rfl).startReplace row
  · exact (h1 _).onFab _ rfl
  · exact (h1 _).startReplace row
  · exact h1 _

theorem wearAdd (h : ReplacesFirst r s) (row k : Nat) : ReplacesFirst r (wearAdd row k s) := by
  simp only [Machine.wearAdd]
  split
  · exact h.wearBump _ _
  · split
    · exact ((h.wearBump _ _).countG _ _).wearBump _ _
    · exact ((((h.wearBump _ _).countG _ _).wearBump _ _).countG _ _).wearBump _ _

theorem mramDword (h : ReplacesFirst r s) (off : Nat) (lo hi : Word) : ReplacesFirst r (mramDword off lo hi s) := by
  simp only [Machine.mramDword]
  split
  · exact h.congr rfl rfl
  · exact ((h.congr (t := (s.setWord (mramBase + off) lo).setWord (mramBase + off + 4) hi) rfl rfl).countG _ _).wearAdd _ _

theorem mramWrite (h : ReplacesFirst r s) (off : Nat) (ws : List Word) : ReplacesFirst r (mramWrite off ws s) := by
  induction off, ws, s using mramWrite.induct with
  | case1 => exact h
  | case2 off s x => exact h.mramDword off _ _
  | case3 off s x y t ih => exact ih (h.mramDword off x y)

theorem writeRepair (h : ReplacesFirst r s) (es : List (List Word)) : ReplacesFirst r (writeRepair es s) :=
  (((h.mramWrite _ _).onFab _ rfl).setF _ _).setF _ _

theorem fieldRepair (h : ReplacesFirst r s) (inst row : Nat) : ReplacesFirst r (fieldRepair inst row s) := by
  have h1 : ReplacesFirst r (s.onFab fun u => { u with repaired := (inst * 65536 + row) :: u.repaired }) := h.onFab _ rfl
  unfold Machine.fieldRepair addRepair
  dsimp only
  split
  · exact h
  · split
    · exact h1.incF _ _
    · exact ((h1.writeRepair _).logEvent _ _).incF _ _

theorem eccDouble (h : ReplacesFirst r s) (x : SramErr) : ReplacesFirst r (eccDouble x s) := by
  unfold Machine.eccDouble raiseOpen fresh
  exact ((((h.incF _ _).setF _ _).setF _ _).onFree _).raise _ _ _ (by decide)

theorem sramDouble (h : ReplacesFirst r s) (x : SramErr) : ReplacesFirst r (sramDouble x s) := (h.eccDouble x).fieldRepair _ _

end ReplacesFirst

/-! ### Bytes that a write of the eMRAM lands -/

/-- A 64-bit word lands where its row is not the one under replacement. -/
theorem mramDword_mem_of_lands (off r : Nat) (lo hi : Word) (s : State) (h : ReplacesFirst r s) (hr : r ≠ off / 4096) :
    (mramDword off lo hi s).mem = ((s.setWord (mramBase + off) lo).setWord (mramBase + off + 4) hi).mem := by
  have hn : ¬(s.flag MRAM_STAT.BUSY ∧ s.fab.replacing.head? = some (off / 4096)) := by
    rintro ⟨-, e⟩
    exact hr (Option.some.inj (h.1.symm.trans e))
  simp only [mramDword, if_neg hn, wearAdd_mem, countG_mem]

/-- A write of a 64-bit word, landed or held, leaves every byte below it. -/
theorem mramDword_byte_below (off k : Nat) (lo hi : Word) (s : State) (hk : k < mramBase + off) :
    (mramDword off lo hi s).byte k = s.byte k := by
  simp only [mramDword]
  split
  · rfl
  · simp only [State.byte, wearAdd_mem, countG_mem]
    exact (State.byte_setWord_other _ _ _ _ (by omega)).trans (State.byte_setWord_other _ _ _ _ (by omega))

/-- A write of the eMRAM leaves every byte below its offset. -/
theorem mramWrite_byte_below (off k : Nat) (ws : List Word) (s : State) (hk : k < mramBase + off) :
    (mramWrite off ws s).byte k = s.byte k := by
  induction off, ws, s using mramWrite.induct with
  | case1 => rfl
  | case2 off s x => exact mramDword_byte_below off k _ _ s hk
  | case3 off s x y t ih => exact (ih (by omega)).trans (mramDword_byte_below off k x y s hk)

/-- Words written after an even number of words. -/
theorem mramWrite_append (off : Nat) (l l' : List Word) (s : State) (hl : l.length % 2 = 0) :
    mramWrite off (l ++ l') s = mramWrite (off + 4 * l.length) l' (mramWrite off l s) := by
  induction off, l, s using mramWrite.induct with
  | case1 => rfl
  | case2 off s x => simp at hl
  | case3 off s x y t ih =>
    simp only [List.length_cons] at hl
    have ht := ih (by omega)
    simp only [List.cons_append, mramWrite, ht, List.length_cons]
    congr 1
    omega

/-- The first byte of a word is the low byte of what was written. -/
theorem State.byte_setWord_first (s : State) (a : Nat) (w : Word) : (s.setWord a w).byte a = BitVec.ofNat 8 w.toNat := by
  simp only [State.setWord]
  rw [State.byte_setByte_other _ _ _ _ (by omega), State.byte_setByte_other _ _ _ _ (by omega),
    State.byte_setByte_other _ _ _ _ (by omega), State.byte_setByte_same]

/-- A write whose first row is not under replacement lands its first byte. -/
theorem mramWrite_byte_first (off r : Nat) (x y : Word) (t : List Word) (s : State) (h : ReplacesFirst r s) (hr : r ≠ off / 4096) :
    (mramWrite off (x :: y :: t) s).byte (mramBase + off) = BitVec.ofNat 8 x.toNat := by
  rw [mramWrite, mramWrite_byte_below _ _ _ _ (by omega)]
  simp only [State.byte, mramDword_mem_of_lands off r x y s h hr]
  exact (State.byte_setWord_other _ _ _ _ (by omega)).trans (State.byte_setWord_first _ _ _)

theorem writeRepair_mem (es : List (List Word)) (s : State) :
    (writeRepair es s).mem = (mramWrite (repCopy (!s.flag REP_STAT.COPY)) (repWords (s.fab.repSeq + 1) es) s).mem := by
  simp only [writeRepair, State.setF_mem, State.onFab_mem]

/-- Where the entries of the repair table go: word `z.length` of their concatenation stands behind the 16 words of the header, whatever
lies there. -/
theorem writeRepair_byte (es : List (List Word)) (z t : List Word) (x y : Word) (off r : Nat) (s : State)
    (hes : es.flatten = z ++ x :: y :: t) (hz : z.length % 2 = 0)
    (hoff : off = repCopy (!s.flag REP_STAT.COPY) + 4 * (16 + z.length)) (h : ReplacesFirst r s) (hr : r ≠ off / 4096) :
    (writeRepair es s).byte (mramBase + off) = BitVec.ofNat 8 x.toNat := by
  obtain ⟨head, hlen, hws⟩ : ∃ head, head.length = 16 + z.length ∧ repWords (s.fab.repSeq + 1) es = head ++ x :: y :: t := by
    simp only [repWords, hes]
    refine ⟨_, ?_, (List.append_assoc _ z _).symm.trans rfl⟩
    simp
    omega
  simp only [State.byte, writeRepair_mem, hws]
  rw [mramWrite_append _ _ _ _ (by omega), hlen, ← hoff]
  exact mramWrite_byte_first off r x y t _ (h.mramWrite _ head) hr

theorem logEvent_mem (code : Nat) (p : List Nat) (s : State) : (logEvent code p s).mem = s.mem := rfl

/-- The repair of an SRAM row is recorded for this power cycle. -/
def markRepaired (inst row : Nat) (s : State) : State :=
  s.onFab fun u => { u with repaired := (inst * 65536 + row) :: u.repaired }

theorem ReplacesFirst.markRepaired {r : Nat} {s : State} (h : ReplacesFirst r s) (inst row : Nat) :
    ReplacesFirst r (markRepaired inst row s) := h.onFab _ rfl

/-- A field repair that is recorded writes the repair table with its entry at the end. -/
theorem fieldRepair_mem (inst row : Nat) (s : State) (hn : s.fab.repaired.contains (inst * 65536 + row) = false)
    (hl : s.fab.repair.length < 4092) :
    ∃ e, (fieldRepair inst row s).mem = (writeRepair (s.fab.repair ++ [e]) (markRepaired inst row s)).mem := by
  refine ⟨repEntry 1 2 inst row (sparesUsed inst (markRepaired inst row s)) (markRepaired inst row s), ?_⟩
  unfold fieldRepair addRepair
  dsimp only
  rw [if_neg (by rw [hn]; simpa using hl), if_neg (by simpa using hl), State.incF, State.setF_mem, logEvent_mem]
  rfl

/-- A double-bit error of an SRAM row whose repair is recorded: it writes the repair table with the row's entry at the end. -/
theorem sramDouble_byte (x : SramErr) (z t : List Word) (v w : Word) (off r : Nat) (s : State)
    (hn : s.fab.repaired.contains (x.inst % 1024 * 65536 + x.row % 65536) = false) (hl : s.fab.repair.length < 4092)
    (hes : s.fab.repair.flatten = z ++ v :: w :: t) (hz : z.length % 2 = 0)
    (hoff : off = repCopy (!s.flag REP_STAT.COPY) + 4 * (16 + z.length)) (h : ReplacesFirst r s) (hr : r ≠ off / 4096) :
    (sramDouble x s).byte (mramBase + off) = BitVec.ofNat 8 v.toNat := by
  have hk : Kept [.flt, .free] [] [MEM_ECC.UNCORR.addr, MEM_ECCADDR.ROW.addr] s (eccDouble x s) := by
    unfold eccDouble raiseOpen fresh
    exact (((((Kept.refl _ _ _ s).incF _ _).setF _ _).setF _ _).onFree _).raise _ _ _
  have hfab : (eccDouble x s).fab = s.fab := hk.part .fab (by decide)
  obtain ⟨e, he⟩ := fieldRepair_mem (x.inst % 1024) (x.row % 65536) (eccDouble x s) (hfab ▸ hn) (hfab ▸ hl)
  have hcopy : (markRepaired (x.inst % 1024) (x.row % 65536) (eccDouble x s)).flag REP_STAT.COPY = s.flag REP_STAT.COPY :=
    hk.flag _ (by decide) (by decide)
  rw [sramDouble, State.byte, he, hfab]
  exact writeRepair_byte _ z (t ++ e) v w off r _ (by simp [hes]) hz (hcopy ▸ hoff) ((h.eccDouble x).markRepaired _ _) hr

/-- The end of a cycle, and what leaves the block in it, leave memory. -/
theorem byte_settle_out (s : State) (o : Output) (k : Nat) (h : ∀ m ∈ s.flt.wire, m.src < 256) :
    (settle (s.out o)).byte k = s.byte k := by
  have hm : (settle (s.out o)).mem = (s.out o).mem := ((Kept.refl acceptParts acceptPages [] (s.out o)).settle h).part .mem (by decide)
  rw [State.byte, hm]
  rfl

theorem exec_unmappedRead (a : Nat) (x : HostSpan) (s : State) : exec (.unmappedRead a x) s = execUnmappedRead a x s := rfl

@[simp] theorem byteLanes_zero (o n : Nat) : byteLanes 0#32 o n = 0#32 := by simp [byteLanes, wd]

/-- The bytes of a word of the packet buffers lie in them. -/
theorem regionOf_of_word_packet {a : Nat} {s : State} (h : regionOf (a / 4 * 4) s = .packet) : regionOf a s = .packet := by
  have hb : 0x6000000 ≤ a / 4 * 4 ∧ a / 4 * 4 < 0x6400000 := by
    unfold regionOf at h
    split_ifs at h
    assumption
  unfold regionOf
  iterate 4 rw [if_neg (by omega)]
  rw [if_pos (by omega)]

/-- The bytes of a word of the swap window lie in it. -/
theorem regionOf_of_word_swap {a : Nat} {s : State} (h : regionOf (a / 4 * 4) s = .swap) : regionOf a s = .swap := by
  have hb : 0x7000000 ≤ a / 4 * 4 ∧ a / 4 * 4 < 0x7040000 := by
    unfold regionOf at h
    split_ifs at h
    assumption
  unfold regionOf
  iterate 5 rw [if_neg (by omega)]
  rw [if_pos (by omega)]

/-- A read of the packet buffers or of the swap window that meets an error of its word. -/
theorem unmappedRead_error (a n : Nat) (x : SramErr) (s : State) (ho : s.hostOpen = true) (ha : a < 2 ^ 40) (hn : a % 4 + n ≤ 4)
    (hr : regionOf (a / 4 * 4) s = .packet ∨ regionOf (a / 4 * 4) s = .swap) (hx : x.single = false) :
    exec (.unmappedRead a ⟨n, .bar0, some x⟩) s = .next (settle ((sramDouble x s).out (.readData [0]))) := by
  have hmem : readsMemory (a / 4 * 4) s = true := by
    rcases hr with hr | hr <;> simp [readsMemory, hr, ho]
  have hbad : readBad ⟨a / 4 * 4, x⟩ s = sramDouble x s := by
    rcases hr with hr | hr <;> simp [readBad, hr, sramError, hx]
  have hzero : readsZero ⟨a / 4 * 4, x⟩ s = true := by
    rcases hr with hr | hr <;> simp [readsZero, hr, hx]
  have hread : (hostRead (a / 4 * 4) s).2 = s := by
    rcases hr with hr | hr <;> simp [hostRead, hr, ho]
  have hword : hostReadN a n (some x) s = (0, sramDouble x s) := by
    simp [hostReadN, hostWord, hmem, hzero, hread, hbad]
  have hat : hostReadAt a n (some x) s = (sramDouble x s).out (.readData [0]) := by
    simp only [hostReadAt, hword]
    rcases hr with hr | hr
    · rw [regionOf_of_word_packet hr]
      rfl
    · rw [regionOf_of_word_swap hr]
      rfl
  rw [exec_unmappedRead, execUnmappedRead, if_neg (not_not.2 ⟨ha, hn⟩)]
  exact congrArg finish hat

/-- A state in STANDBY whose repair table holds one entry of 49,138 words, where an entry of R608 has four: the copy that is written
next then runs past the end of the eMRAM. -/
def overlongRepair : State :=
  (State.reset.setF SYS_MODE.MODE 2).onFab fun u => { u with replacing := [0], repair := [List.replicate 49136 0 ++ [1, 1]] }

end Sys2Proof.Machine

namespace Sys2Proof

open Machine

/-- Refutes O22: the clause on a double-bit error in the packet buffers says that no byte outside the eMRAM changes. The error records a
field repair, which rewrites the repair table from offset 0xFD_0000 of the eMRAM on, all its entries behind the 16 words of its header. No
premise says that these have the four words of R608: the entry of `overlongRepair` is so long that its last two
words land behind the eMRAM, from address 0x900_0000 on. -/
theorem not_plainAndUnmappedReads : ¬ Obligations.PlainAndUnmappedReads := by
  unfold Obligations.PlainAndUnmappedReads
  rintro ⟨-, -, -, -, -, -, h, -⟩
  have hrep : ReplacesFirst 0 overlongRepair := ⟨rfl, by decide⟩
  have ho : overlongRepair.hostOpen = true := by decide
  have hreg : regionOf (0x6000000 / 4 * 4) overlongRepair = .packet := by decide
  obtain ⟨t, ht, -, hbytes, -⟩ := h 0x6000000 4 ⟨0, 0, false⟩ overlongRepair ho ⟨rfl, rfl⟩ (by decide) (by decide)
    (.inl hreg) rfl
  rw [unmappedRead_error _ _ _ _ ho (by decide) (by decide) (.inl hreg) rfl] at ht
  obtain rfl := Host.Outcome.next.inj ht
  have hpast : (sramDouble ⟨0, 0, false⟩ overlongRepair).byte 0x9000000 = 1 :=
    sramDouble_byte _ (List.replicate 49136 0) [] 1 1 0x1000000 0 _ rfl (by decide) List.flatten_singleton
      (by rw [List.length_replicate]) (by rw [List.length_replicate]; decide) hrep (by decide)
  have hkept := hbytes 0x9000000 (.inr le_rfl)
  rw [byte_settle_out _ _ _ (hrep.sramDouble _).2, hpast] at hkept
  exact absurd hkept (by decide)

end Sys2Proof
end

section
/-! ### Register writes (O26) -/

namespace Sys2Proof.Machine

/-! #### Bits of a written word -/

theorem bitOf_eq_testBit (x n : Nat) : bitOf x n = x.testBit n := Nat.testBit_eq_decide_div_mod_eq.symm

/-- A bit of access RW or RWT takes the written bit (R9). -/
theorem genValue_getLsbD_of_rw (r : RegRow) (old v : Word) (i : Nat) (h : (wd (r.rw ||| r.rwt)).getLsbD i = true) :
    (genValue r old v).getLsbD i = v.getLsbD i := by
  have hi : i < 32 := BitVec.lt_of_getLsbD h
  rw [BitVec.getLsbD_eq_getElem hi] at h
  simp [genValue, h, hi]

/-- Fields of words that agree on their bits. -/
theorem bits_congr (x y : Word) (lsb width : Nat) (h : ∀ i < width, x.getLsbD (lsb + i) = y.getLsbD (lsb + i)) :
    bits x.toNat lsb width = bits y.toNat lsb width := by
  refine Nat.eq_of_testBit_eq fun i => ?_
  simp only [bits, Nat.testBit_mod_two_pow, Nat.testBit_div_two_pow]
  by_cases hi : i < width
  · simpa [hi, BitVec.testBit_toNat, Nat.add_comm] using h i hi
  · simp [hi]

/-- A write under the access codes of an implemented register. -/
theorem genWrite_of_row {a : Nat} {r : RegRow} (h : regRow a = some r) (v : Word) (s : State) :
    genWrite a v s = s.setReg a (genValue r (s.reg a) v) := by
  simp [genWrite, h]

/-- A field of RW bits reads as written. -/
theorem getF_genWrite {f : Fld} {r : RegRow} (h : regRow f.addr = some r) (v : Word) (s : State)
    (hm : ∀ i < f.width, (wd (r.rw ||| r.rwt)).getLsbD (f.lsb + i) = true) :
    (genWrite f.addr v s).getF f = bits v.toNat f.lsb f.width := by
  rw [genWrite_of_row h, State.getF, State.reg_setReg_same]
  exact bits_congr _ _ _ _ fun i hi => genValue_getLsbD_of_rw _ _ _ _ (hm i hi)

/-! #### Writes that reach a slot -/

theorem writeReg_cmd {off : Nat} (v : Word) {s : State} (ho : s.hostOpen = true) (hoff : off < 0x10000)
    (hr : (regRow (0xD0000 + off)).isNone = false) : writeReg (0xD0000 + off) v s = writeCmd off v s := by
  have hslot : (0xD0000 + off) / 0x10000 = 13 := by omega
  have hlow : (0xD0000 + off) % 0x10000 = off := by omega
  simp [writeReg, ho, hr, hslot, hlow]

/-- The selection registers have no behaviour of their own. -/
theorem writeReg_selection {a : Nat} {r : RegRow} (v : Word) {s : State} (ho : s.hostOpen = true)
    (ha : a ∈ [0x30400, 0x40040, 0x70460, 0x80308, 0xA0500, 0xC0140, 0xE0100]) (hr : regRow a = some r) :
    writeReg a v s = genWrite a v s := by
  unfold writeReg
  rw [if_neg (by simp [ho]), if_neg (by simp [hr])]
  fin_cases ha <;> rfl

/-- Without a waiting packet none proceeds. -/
theorem serve_of_none {s : State} (h : s.cmd.waiting = []) : serve s = s := by
  simp [serve, h, drainN]

/-- Where no message and no record of the cycle waits, a command ends in its state. -/
theorem finish_of_quiet {s : State} (h : Quiet s) : finish s = .next s := by
  rw [finish, settle_quiet s h]

end Sys2Proof.Machine

namespace Sys2Proof

open Machine

/-- A selection register takes its RW bits (R9). -/
theorem registerWrite_selection (a : Nat) (v : Word) (r : RegRow) (s : State) (ho : s.hostOpen = true) (hq : Quiet s)
    (ha : a ∈ [0x30400, 0x40040, 0x70460, 0x80308, 0xA0500, 0xC0140, 0xE0100]) (hr : regRow a = some r) (hw : s.cmd.waiting = []) :
    ∃ t, exec (.registerWrite a 4 v) s = .next t ∧ t.reg a = genValue r (s.reg a) v ∧ Kept [] [] [a] s t := by
  have hk : Kept [] [] [a] s (s.setReg a (genValue r (s.reg a) v)) := (Kept.refl _ _ _ s).setReg a _ (.inr (by simp))
  have hal : a < 0x100000 ∧ a % 4 = 0 ∧ 4 = 4 := by fin_cases ha <;> decide
  have hx : exec (.registerWrite a 4 v) s = finish (serve (writeReg a v s)) := by
    show finish (if a < 0x100000 ∧ a % 4 = 0 ∧ 4 = 4 then serve (writeReg a v s) else s) = _
    rw [if_pos hal]
  refine ⟨_, ?_, State.reg_setReg_same _ _ _, hk⟩
  rw [hx, writeReg_selection v ho ha hr, genWrite_of_row hr, serve_of_none (s := s.setReg a _) hw,
    finish_of_quiet (hk.quiet (by decide) hq)]

theorem startRings_rings (s : State) :
    (startRings s).cmd.rings = (List.range 3).map fun k =>
      ⟨s.getF (CMD_RING_BASE_LO.ADDR k) * 64 + s.getF (CMD_RING_BASE_HI.ADDR k) * 2 ^ 32, s.getF (CMD_RING_LEN.LEN k), none⟩ := rfl

/-- The rings start with the bases and lengths in their registers (R655). -/
theorem ringsEnWrite_starts (s : State) (ho : s.hostOpen = true) (hq : Quiet s) (hoff : s.flag CMD_CTRL.RINGS_EN = false) :
    ∃ t, exec (.ringsEnWrite true) s = .next t
      ∧ t.flag CMD_CTRL.RINGS_EN = true
      ∧ (t.cmd.rings = (List.range 3).map fun k =>
        ⟨s.getF (CMD_RING_BASE_LO.ADDR k) * 64 + s.getF (CMD_RING_BASE_HI.ADDR k) * 2 ^ 32, s.getF (CMD_RING_LEN.LEN k), none⟩)
      ∧ t.getF CMD_RCTRL.LENPEND = 0
      ∧ Kept [.cmd] [] [0xD0000, CMD_RCTRL.LENPEND.addr] s t := by
  have hrow : regRow CMD_CTRL.RINGS_EN.addr = some ⟨0xD0000, 1, 0x4, 1, 0x4, 0x6, 0x7, 0x0, 0x0, 0x0⟩ := rfl
  obtain ⟨v, hv⟩ : ∃ v, v = wd (((s.reg 0xD0000).toNat &&& 6) + b2n true) := ⟨_, rfl⟩
  obtain ⟨u, hu⟩ : ∃ u, u = genWrite CMD_CTRL.RINGS_EN.addr v s := ⟨_, rfl⟩
  have hset := hu.trans (genWrite_of_row hrow v s)
  have hbit : bits v.toNat 0 1 = 1 := by
    have h6 : ((s.reg 0xD0000).toNat &&& 6) % 2 = 0 := by
      simpa using @Nat.and_mod_two_pow (s.reg 0xD0000).toNat 6 1
    simp only [hv, bits, wd, b2n, if_true, BitVec.toNat_ofNat, pow_zero, pow_one, Nat.div_one]
    omega
  have hen : u.flag CMD_CTRL.RINGS_EN = true := by
    rw [hu, State.flag, getF_genWrite hrow v s (by decide)]
    exact decide_eq_true hbit
  have hother : ∀ f : Fld, f.addr ≠ CMD_CTRL.RINGS_EN.addr → u.getF f = s.getF f := fun f hf => by
    rw [hset, State.getF_setReg_other _ _ _ _ hf]
  have hku : Kept [.cmd] [] [0xD0000, CMD_RCTRL.LENPEND.addr] s u := hset ▸ (Kept.refl _ _ _ s).setReg _ _
  have hk : Kept [.cmd] [] [0xD0000, CMD_RCTRL.LENPEND.addr] s (startRings u) := (hku.onCmd _).setF _ _
  have hw : writeCmd 0 v s = startRings u := by
    show (if !s.flag CMD_CTRL.RINGS_EN ∧ (genWrite CMD_CTRL.RINGS_EN.addr v s).flag CMD_CTRL.RINGS_EN then
      startRings (genWrite CMD_CTRL.RINGS_EN.addr v s) else genWrite CMD_CTRL.RINGS_EN.addr v s) = _
    rw [← hu, if_pos (by simp [hoff, hen])]
  refine ⟨startRings u, ?_, ?_, ?_, ?_, hk⟩
  · show finish (writeReg (0xD0000 + 0) _ s) = _
    rw [← hv, writeReg_cmd v ho (by decide) rfl, hw, finish_of_quiet (hk.quiet (by decide) hq)]
  · have hkeep : (startRings u).getF CMD_CTRL.RINGS_EN = u.getF CMD_CTRL.RINGS_EN :=
      State.getF_setF_other _ CMD_RCTRL.LENPEND _ _ (by decide)
    rw [State.flag, hkeep]
    exact hen
  · rw [startRings_rings]
    refine List.map_congr_left fun k _ => ?_
    rw [hother _ (by simp only [CMD_RING_BASE_LO.ADDR, CMD_CTRL.RINGS_EN]; omega),
      hother _ (by simp only [CMD_RING_BASE_HI.ADDR, CMD_CTRL.RINGS_EN]; omega),
      hother _ (by simp only [CMD_RING_LEN.LEN, CMD_CTRL.RINGS_EN]; omega)]
  · exact State.getF_setF_same _ CMD_RCTRL.LENPEND 0 (by decide)

/-! #### Ring lengths -/

/-- A write of the length of ring `k` (R622). -/
theorem exec_cmdRingLenWrite (k : Nat) (v : Word) (s : State) (ho : s.hostOpen = true) (hk : k < 3) :
    exec (.cmdRingLenWrite k v) s = finish (writeRingLen k v.toNat s) := by
  have hslot : writeCmd (0x18 + 0x20 * k) v s = writeRingLen k v.toNat s := by
    interval_cases k <;> rfl
  show finish (if k < 3 then writeReg (0xD0018 + 0x20 * k) v s else s) = _
  rw [if_pos hk, ← hslot, show 0xD0018 + 0x20 * k = 0xD0000 + (0x18 + 0x20 * k) by omega,
    writeReg_cmd v ho (by omega) (by interval_cases k <;> rfl)]

/-- The length of a ring stands beside RINGS_EN. -/
theorem flag_ringsEn_setF_ringLen (k l : Nat) (s : State) :
    (s.setF (CMD_RING_LEN.LEN k) l).flag CMD_CTRL.RINGS_EN = s.flag CMD_CTRL.RINGS_EN := by
  rw [State.flag, State.getF_setF_other _ _ _ _ (by simp only [CMD_RING_LEN.LEN, CMD_CTRL.RINGS_EN]; omega)]
  rfl

/-- A length in range is stored. -/
theorem writeRingLen_stopped (k v : Nat) (s : State) (h2 : 2 ≤ v % 8192) (hmax : v % 8192 ≤ 4096)
    (hoff : s.flag CMD_CTRL.RINGS_EN = false) : writeRingLen k v s = s.setF (CMD_RING_LEN.LEN k) (v % 8192) := by
  simp only [writeRingLen]
  rw [if_neg (by omega), flag_ringsEn_setF_ringLen, hoff, if_neg (by simp)]

/-- The unit of the command interface with length `l` of ring `k` staged. -/
def stageRing (k l : Nat) (u : CmdU) : CmdU :=
  { u with rings := putNth ⟨0, 256, none⟩ u.rings k { (u.rings.getD k ⟨0, 256, none⟩) with staged := some l } }

/-- While the rings run it is staged too. -/
theorem writeRingLen_running (k v : Nat) (s : State) (h2 : 2 ≤ v % 8192) (hmax : v % 8192 ≤ 4096)
    (hon : s.flag CMD_CTRL.RINGS_EN = true) :
    writeRingLen k v s = ((s.setF (CMD_RING_LEN.LEN k) (v % 8192)).onCmd (stageRing k (v % 8192))).orF CMD_RCTRL.LENPEND (2 ^ k) := by
  simp only [writeRingLen]
  rw [if_neg (by omega), flag_ringsEn_setF_ringLen, if_pos hon]
  rfl

/-- The length field of a ring takes a length up to 8,191. -/
theorem getF_setF_ringLen (k l : Nat) (s : State) (h : l < 8192) : (s.setF (CMD_RING_LEN.LEN k) l).getF (CMD_RING_LEN.LEN k) = l :=
  (State.getF_setF_same s (CMD_RING_LEN.LEN k) l (Nat.le_of_ble_eq_true rfl)).trans (Nat.mod_eq_of_lt h)

theorem cmdRingLenWrite_running (k : Nat) (v : Word) (l : Nat) (s : State) (ho : s.hostOpen = true) (hq : Quiet s) (hk : k < 3)
    (hl : l = v.toNat % 8192) (h2 : 2 ≤ l) (hmax : l ≤ 4096) (hon : s.flag CMD_CTRL.RINGS_EN = true) :
    ∃ t, exec (.cmdRingLenWrite k v) s = .next t
      ∧ t.getF (CMD_RING_LEN.LEN k) = l
      ∧ (t.ring k).staged = some l
      ∧ (t.ring k).len = (s.ring k).len
      ∧ bitOf (t.getF CMD_RCTRL.LENPEND) k = true
      ∧ Kept [.cmd] [] [(CMD_RING_LEN.LEN k).addr, CMD_RCTRL.LENPEND.addr] s t := by
  obtain ⟨u, hu⟩ : ∃ u, u = (s.setF (CMD_RING_LEN.LEN k) l).onCmd (stageRing k l) := ⟨_, rfl⟩
  have hkept : Kept [.cmd] [] [(CMD_RING_LEN.LEN k).addr, CMD_RCTRL.LENPEND.addr] s (u.orF CMD_RCTRL.LENPEND (2 ^ k)) := by
    rw [hu]
    exact (((Kept.refl _ _ _ s).setF _ _ (.inr (by simp))).onCmd _).orF _ _ (.inr (by simp))
  have hring : (u.orF CMD_RCTRL.LENPEND (2 ^ k)).ring k = { s.ring k with staged := some l } := by
    rw [hu]
    exact (getD_putNth _ _ _ _ _).trans (if_pos rfl)
  have hlen : (u.orF CMD_RCTRL.LENPEND (2 ^ k)).getF (CMD_RING_LEN.LEN k) = u.getF (CMD_RING_LEN.LEN k) :=
    State.getF_setF_other _ _ _ _ (by simp only [CMD_RING_LEN.LEN, CMD_RCTRL.LENPEND]; omega)
  have hpend : (u.orF CMD_RCTRL.LENPEND (2 ^ k)).getF CMD_RCTRL.LENPEND = (u.getF CMD_RCTRL.LENPEND ||| 2 ^ k) % 2 ^ 3 :=
    State.getF_setF_same _ CMD_RCTRL.LENPEND _ (by decide)
  refine ⟨u.orF CMD_RCTRL.LENPEND (2 ^ k), ?_, ?_, by rw [hring], by rw [hring], ?_, hkept⟩
  · rw [exec_cmdRingLenWrite k v s ho hk, writeRingLen_running k _ s (hl ▸ h2) (hl ▸ hmax) hon, ← hl, ← hu,
      finish_of_quiet (hkept.quiet (by decide) hq)]
  · rw [hlen, hu]
    exact getF_setF_ringLen k l s (by omega)
  · rw [hpend, bitOf_eq_testBit, Nat.testBit_mod_two_pow, Nat.testBit_or, Nat.testBit_two_pow_self]
    simp [hk]

theorem cmdRingLenWrite_stopped (k : Nat) (v : Word) (l : Nat) (s : State) (ho : s.hostOpen = true) (hq : Quiet s) (hk : k < 3)
    (hl : l = v.toNat % 8192) (h2 : 2 ≤ l) (hmax : l ≤ 4096) (hoff : s.flag CMD_CTRL.RINGS_EN = false) :
    ∃ t, exec (.cmdRingLenWrite k v) s = .next t ∧ t.getF (CMD_RING_LEN.LEN k) = l ∧ Kept [] [] [(CMD_RING_LEN.LEN k).addr] s t := by
  have hkept : Kept [] [] [(CMD_RING_LEN.LEN k).addr] s (s.setF (CMD_RING_LEN.LEN k) l) :=
    (Kept.refl _ _ _ s).setF _ _ (.inr (by simp))
  refine ⟨_, ?_, getF_setF_ringLen k l s (by omega), hkept⟩
  rw [exec_cmdRingLenWrite k v s ho hk, writeRingLen_stopped k _ s (hl ▸ h2) (hl ▸ hmax) hoff, ← hl,
    finish_of_quiet (hkept.quiet (by decide) hq)]

/-! #### GPIO balls -/

/-- A ball that is driven changes what leaves the block, and nothing else. -/
theorem driveGpio_eq (n : Nat) (s : State) : ∃ f, driveGpio n s = s.onOuts f := by
  unfold driveGpio
  split
  · split
    · exact ⟨_, rfl⟩
    · exact ⟨_, rfl⟩
  · exact ⟨id, rfl⟩

/-- A bit of `PIN_GPIO_EN` written as it stands has no effect. -/
theorem writeGpioEn_same (n : Nat) (en : Bool) (s : State) (h : bitOf (s.getF PIN_GPIO_EN.CLAIM) n = en) : writeGpioEn n en s = s := by
  cases en <;> simp [writeGpioEn, h]

/-- A bit that rises claims its ball for the host where it is free and its bank is on (R791). -/
theorem writeGpioEn_claims (n : Nat) (s : State) (h : bitOf (s.getF PIN_GPIO_EN.CLAIM) n = false) (hb : bankOn (gpioBall n) s = true)
    (hc : s.pinClaim (gpioBall n) = none) :
    ∃ f, writeGpioEn n true s =
      ((s.onPin fun u => { u with claims := (gpioBall n, ⟨0, 0⟩) :: u.claims }).orF PIN_GPIO_EN.CLAIM (2 ^ n)).onOuts f := by
  have hcl : claimPin (gpioBall n) ⟨0, 0⟩ s = (0, s.onPin fun u => { u with claims := (gpioBall n, ⟨0, 0⟩) :: u.claims }) := by
    simp [claimPin, hb, hc]
  obtain ⟨f, hf⟩ := driveGpio_eq n
    ((s.onPin fun u => { u with claims := (gpioBall n, ⟨0, 0⟩) :: u.claims }).orF PIN_GPIO_EN.CLAIM (2 ^ n))
  refine ⟨f, ?_⟩
  simp [writeGpioEn, h, hcl, hf]

/-- Bits of `PIN_GPIO_EN` written as they stand have no effect. -/
theorem foldl_writeGpioEn_same (w : Nat) (l : List Nat) (s : State) (h : ∀ i ∈ l, bitOf (s.getF PIN_GPIO_EN.CLAIM) i = bitOf w i) :
    l.foldl (fun s i => writeGpioEn i (bitOf w i) s) s = s := by
  induction l with
  | nil => rfl
  | cons i l ih =>
    rw [List.foldl_cons, writeGpioEn_same i _ s (h i List.mem_cons_self)]
    exact ih fun j hj => h j (List.mem_cons_of_mem _ hj)

/-- A number whose bit `n` is clear takes it by addition. -/
theorem two_pow_add_eq_or (n c : Nat) (hn : n < 32) (hc : c < 2 ^ 32) (hb : bitOf c n = false) (hs : 2 ^ n + c < 2 ^ 32) :
    2 ^ n + c = c ||| 2 ^ n := by
  have hand : BitVec.twoPow 32 n &&& BitVec.ofNat 32 c = 0#32 := by
    refine BitVec.eq_of_getLsbD_eq fun i hi => ?_
    by_cases e : n = i
    · subst e
      rw [bitOf_eq_testBit] at hb
      simp [BitVec.getLsbD_ofNat, hb]
    · simp [e]
  have hsum := congrArg BitVec.toNat (BitVec.add_eq_or_of_and_eq_zero _ _ hand)
  have hp : 2 ^ n < 2 ^ 32 := Nat.pow_lt_pow_right (by decide) hn
  rw [BitVec.toNat_add, BitVec.toNat_or, BitVec.toNat_twoPow, BitVec.toNat_ofNat, Nat.mod_eq_of_lt hp, Nat.mod_eq_of_lt hc,
    Nat.mod_eq_of_lt hs] at hsum
  rw [hsum, Nat.or_comm]

/-- A write that raises bit `n` alone comes to that bit. -/
theorem foldl_writeGpioEn_one (w n : Nat) (s t : State) (hn : n < 32) (hbit : bitOf w n = true)
    (hs : ∀ i, i ≠ n → bitOf (s.getF PIN_GPIO_EN.CLAIM) i = bitOf w i) (ht : t.getF PIN_GPIO_EN.CLAIM = w)
    (hst : writeGpioEn n true s = t) : (List.range 32).foldl (fun s i => writeGpioEn i (bitOf w i) s) s = t := by
  obtain ⟨l, r, hlr⟩ := List.append_of_mem (List.mem_range.2 hn)
  have hnd : (l ++ n :: r).Nodup := hlr ▸ List.nodup_range
  have hl : ∀ i ∈ l, i ≠ n := fun i hi e => (List.nodup_append.1 hnd).2.2 i hi n List.mem_cons_self e
  rw [hlr, List.foldl_append, List.foldl_cons, foldl_writeGpioEn_same w l s fun i hi => hs i (hl i hi), hbit, hst]
  exact foldl_writeGpioEn_same w r t fun i _ => by rw [ht]

/-- A claim of ball `i` stands first in the list. -/
theorem pinClaim_cons (i : Nat) (c : Claim) (s : State) (j : Nat) :
    (s.onPin fun u => { u with claims := (i, c) :: u.claims }).pinClaim j = if j = i then some c else s.pinClaim j := by
  by_cases h : j = i
  · simp [State.pinClaim, h]
  · simp [State.pinClaim, h, Ne.symm h]

/-- A GPIO ball that is free is the host's once its bit of `PIN_GPIO_EN` rises (R791). -/
theorem gpioClaimWrite_claims (v : Word) (n : Nat) (s : State) (ho : s.hostOpen = true) (hq : Quiet s) (hn : n < 32)
    (hv : v.toNat = 2 ^ n + s.getF PIN_GPIO_EN.CLAIM) (hc : bitOf (s.getF PIN_GPIO_EN.CLAIM) n = false)
    (hb : bankOn (gpioBall n) s = true) (hp : s.pinClaim (gpioBall n) = none) :
    ∃ t, exec (.gpioClaimWrite v) s = .next t
      ∧ t.pinClaim (gpioBall n) = some ⟨0, 0⟩
      ∧ t.getF PIN_GPIO_EN.CLAIM = v.toNat
      ∧ (∀ i, i ≠ gpioBall n → t.pinClaim i = s.pinClaim i)
      ∧ Kept [.pin, .outs] [] [PIN_GPIO_EN.CLAIM.addr] s t := by
  have hor : v.toNat = s.getF PIN_GPIO_EN.CLAIM ||| 2 ^ n :=
    hv.trans (two_pow_add_eq_or n _ hn (Nat.mod_lt _ (by decide)) hc (hv ▸ v.isLt))
  have hbit : ∀ i, bitOf v.toNat i = (bitOf (s.getF PIN_GPIO_EN.CLAIM) i || decide (n = i)) := fun i => by
    simp only [hor, bitOf_eq_testBit, Nat.testBit_or, Nat.testBit_two_pow]
  obtain ⟨f, hf⟩ := writeGpioEn_claims n s hc hb hp
  obtain ⟨p, hpin⟩ : ∃ p, p = s.onPin fun u => { u with claims := (gpioBall n, ⟨0, 0⟩) :: u.claims } := ⟨_, rfl⟩
  rw [← hpin] at hf
  have hclaim : ((p.orF PIN_GPIO_EN.CLAIM (2 ^ n)).onOuts f).getF PIN_GPIO_EN.CLAIM = v.toNat := by
    have hset := State.getF_setF_same p PIN_GPIO_EN.CLAIM (p.getF PIN_GPIO_EN.CLAIM ||| 2 ^ n) (by decide)
    have hsame : p.getF PIN_GPIO_EN.CLAIM = s.getF PIN_GPIO_EN.CLAIM := by rw [hpin]; rfl
    exact (hset.trans (by rw [hsame, ← hor]; exact Nat.mod_eq_of_lt v.isLt))
  have hkept : Kept [.pin, .outs] [] [PIN_GPIO_EN.CLAIM.addr] s ((p.orF PIN_GPIO_EN.CLAIM (2 ^ n)).onOuts f) := by
    rw [hpin]
    exact (((Kept.refl _ _ _ s).onPin _).orF _ _).onOuts _
  have hclaims : ∀ i, ((p.orF PIN_GPIO_EN.CLAIM (2 ^ n)).onOuts f).pinClaim i =
      if i = gpioBall n then some ⟨0, 0⟩ else s.pinClaim i :=
    fun i => by rw [← pinClaim_cons, ← hpin]; rfl
  have hslot : writeReg 0xE0010 v s = (List.range 32).foldl (fun s i => writeGpioEn i (bitOf v.toNat i) s) s := by
    unfold writeReg
    rw [if_neg (by simp [ho]), if_neg (by decide)]
    rfl
  refine ⟨_, ?_, (hclaims _).trans (if_pos rfl), hclaim, fun i hi => (hclaims i).trans (if_neg hi), hkept⟩
  show finish (writeReg 0xE0010 v s) = _
  rw [hslot, foldl_writeGpioEn_one v.toNat n s _ hn (by simp [hbit]) (fun i hi => by simp [hbit, Ne.symm hi]) hclaim hf,
    finish_of_quiet (hkept.quiet (by decide) hq)]

/-! #### LPDDR5 and reset -/

/-- `DDR_CFG` with EN, written where its conditions hold, starts the training (R594). -/
theorem ddrEnWrite_trains (v : Word) (s : State) (hq : Quiet s) (hm : s.mode = 1 ∨ s.mode = 2) (hoff : s.flag DDR_CFG.EN = false)
    (hsize : bits v.toNat 28 3 ≤ 4) (hspeed : bits v.toNat 24 2 ≠ 3) (hen : bitOf v.toNat 31 = true) (h0 : bits v.toNat 28 3 ≠ 0) :
    ∃ t, exec (.ddrEnWrite v) s = .next t
      ∧ t.flag DDR_CFG.EN = true
      ∧ t.getF DDR_CFG.SIZE = bits v.toNat 28 3
      ∧ t.fab.training = true
      ∧ Kept [.fab] [] [0x80200] s t := by
  have hrow : regRow DDR_CFG.EN.addr = some ⟨0x80200, 1, 0x4, 1, 0x4, 0x0, 0xFF000000, 0x0, 0x0, 0x0⟩ := rfl
  obtain ⟨t, ht⟩ : ∃ t, t = (genWrite DDR_CFG.EN.addr v s).onFab fun u => { u with training := true } := ⟨_, rfl⟩
  have hkept : Kept [.fab] [] [0x80200] s t := by
    rw [ht, genWrite_of_row hrow]
    exact ((Kept.refl _ _ _ s).setReg _ _).onFab _
  have hw : writeDdrCfg v s = t := by
    have hm' : (decide (s.mode = 1) || decide (s.mode = 2)) = true := by simpa using hm
    simp only [writeDdrCfg]
    rw [if_neg (by simp [hm', hoff, hsize, hspeed, h0]), if_pos hen]
    exact ht.symm
  have hx : exec (.ddrEnWrite v) s = finish (writeDdrCfg v s) := by
    show finish (if s.mode = 1 then writeDdrCfg v s else writeReg 0x80200 v s) = _
    by_cases h1 : s.mode = 1
    · rw [if_pos h1]
    · have ho : s.hostOpen = true := decide_eq_true (hm.resolve_left h1).ge
      rw [if_neg h1]
      unfold writeReg
      rw [if_neg (by simp [ho]), if_neg (by decide)]
      rfl
  refine ⟨t, by rw [hx, hw, finish_of_quiet (hkept.quiet (by decide) hq)], ?_, ?_, by rw [ht]; rfl, hkept⟩
  · have h31 : t.getF DDR_CFG.EN = bits v.toNat 31 1 := ht ▸ getF_genWrite hrow v s (by decide)
    rw [State.flag, h31]
    exact hen
  · exact ht ▸ getF_genWrite (f := DDR_CFG.SIZE) hrow v s (by decide)

@[simp] theorem State.getF_out (s : State) (o : Output) (f : Fld) : (s.out o).getF f = s.getF f := rfl

/-- A soft reset: `t` at rest, in which the cause, `PIN_BANK` and the level of the lease are written (R757). -/
theorem resetTo_soft (s : State) : ∃ (t : State) (bank : Word) (lease : Nat),
    resetTo 3 s = ((((t.setF SYS_RSTCAUSE.CAUSE (s.getF SYS_RSTCAUSE.CAUSE ||| 2 ^ 3)).setReg 0xE0000 bank).setF
      STI_STAT.LEASE_IN lease).out (.pin "LEASE_OUT" false)).out (.act "RESET" [3])
    ∧ t.regs = [] ∧ t.flt = FltU.reset ∧ t.fuse = (abandonTake 1 s).fuse ∧ t.pending = (abandonTake 1 s).pending
    ∧ t.cs = CsU.reset ∧ t.take = TakeU.reset ∧ t.stage = [] := by
  unfold resetTo causeAfter
  dsimp only
  rw [if_neg (by decide), if_neg (by decide)]
  exact ⟨_, _, _, rfl, rfl, rfl, rfl, rfl, rfl, rfl, rfl⟩

/-- A soft reset records its cause, and leaves the fuses and the commands that wait (R755, R757). -/
theorem softReset_resets (v : Word) (s : State) (ho : s.hostOpen = true) (hkey : bits v.toNat 16 16 = 0x5A5A)
    (hsoft : bitOf v.toNat 0 = true) :
    ∃ t, exec (.softReset v) s = .next t
      ∧ t = settle (resetTo 3 s)
      ∧ t.mode = 0
      ∧ bitOf (t.getF SYS_RSTCAUSE.CAUSE) 3 = true
      ∧ t.fuse = s.fuse
      ∧ t.pending = s.pending
      ∧ t.cs = CsU.reset
      ∧ t.take = TakeU.reset
      ∧ t.stage = [] := by
  obtain ⟨t, bank, lease, ht, hregs, hflt, hfuse, hpending, hcs, htake, hstage⟩ := resetTo_soft s
  have hab : Kept acceptParts acceptPages [] s (abandonTake 1 s) := (Kept.refl _ _ _ s).abandonTake 1
  have hk : Kept [.outs] [] [SYS_RSTCAUSE.CAUSE.addr, 0xE0000, STI_STAT.LEASE_IN.addr] t (resetTo 3 s) := by
    rw [ht]
    exact (((((Kept.refl _ _ _ t).setF _ _).setReg _ _).setF _ _).out _).out _
  have hquiet : Quiet (resetTo 3 s) := hk.quiet (by decide) ⟨congrArg FltU.wire hflt, congrArg FltU.wireEv hflt⟩
  have hw : writeReg 0xC v s = resetTo 3 s := by
    unfold writeReg
    rw [if_neg (by simp [ho]), if_neg (by decide)]
    exact if_pos ⟨hkey, hsoft⟩
  have hx : exec (.softReset v) s = finish (writeReg 0xC v s) := rfl
  have hmode : t.getF SYS_MODE.MODE = 0 := by
    rw [State.getF, State.reg, hregs]
    decide
  have hcause : (resetTo 3 s).getF SYS_RSTCAUSE.CAUSE = (s.getF SYS_RSTCAUSE.CAUSE ||| 2 ^ 3) % 2 ^ 7 := by
    rw [ht, State.getF_out, State.getF_out, State.getF_setF_other _ _ _ _ (by decide), State.getF_setReg_other _ _ _ _ (by decide),
      State.getF_setF_same _ _ _ (by decide)]
    rfl
  refine ⟨settle (resetTo 3 s), by rw [hx, hw, finish], rfl, ?_⟩
  rw [settle_quiet _ hquiet]
  refine ⟨(hk.getF _ (by decide) (by decide)).trans hmode, ?_,
    (hk.part .fuse (by decide)).trans (hfuse.trans (hab.part .fuse (by decide))),
    (hk.part .pending (by decide)).trans (hpending.trans (hab.part .pending (by decide))), (hk.part .cs (by decide)).trans hcs,
    (hk.part .take (by decide)).trans htake, (hk.part .stage (by decide)).trans hstage⟩
  rw [hcause, bitOf_eq_testBit, Nat.testBit_mod_two_pow, Nat.testBit_or, Nat.testBit_two_pow_self]
  simp

/-- Settles O26, clause by clause: each write reaches the branch of its slot whose conditions the premises state, and nothing of the
cycle waits after it. -/
theorem registerWrites : Obligations.RegisterWrites :=
  ⟨registerWrite_selection, ringsEnWrite_starts, cmdRingLenWrite_running, cmdRingLenWrite_stopped, gpioClaimWrite_claims,
    ddrEnWrite_trains, fun v s ho _ => softReset_resets v s ho⟩

end Sys2Proof
end

section
/-! ### Every step keeps memory in its canonical form (O4)

One lemma per function of the model that a step can reach, named after the function and in the order of the model's files: the
relation `KeepsForm s` that holds of a function's argument holds of its answer. -/

namespace Sys2Proof

open Machine

/-- From `s` to `t` byte memory keeps its canonical form, and the same commands wait. -/
structure KeepsForm (s t : State) : Prop where
  wf : MemOk s → MemOk t
  queue : t.pending = s.pending

/-- Every next state of the outcome keeps the form of memory and the queue of `s`. -/
def KeepsOut (s : State) (o : Host.Outcome State Fault Refusal) : Prop := ∀ t, o = .next t → KeepsForm s t

variable {s t u : State}

/-! ### How the relation composes -/

theorem KeepsForm.refl (s : State) : KeepsForm s s := ⟨id, rfl⟩

/-- An update of anything but memory and the queue. -/
theorem KeepsForm.upd (h : KeepsForm s t) (hm : u.mem = t.mem := by rfl) (hp : u.pending = t.pending := by rfl) : KeepsForm s u :=
  ⟨fun w => by simpa only [MemOk, hm] using h.wf w, hp.trans h.queue⟩

/-- An operation on byte memory that keeps its form. -/
theorem KeepsForm.memOp (h : KeepsForm s t) (hm : MemOk t → MemOk u) (hp : u.pending = t.pending := by rfl) : KeepsForm s u :=
  ⟨fun w => hm (h.wf w), hp.trans h.queue⟩

theorem KeepsForm.ite {c : Prop} [Decidable c] (ht : KeepsForm s t) (hu : KeepsForm s u) : KeepsForm s (if c then t else u) := by
  split
  · exact ht
  · exact hu

/-- Two ways on from one state `t`. -/
theorem KeepsForm.branch {c : Prop} [Decidable c] {v : State} (h : KeepsForm s t) (hu : KeepsForm s t → KeepsForm s u)
    (hv : KeepsForm s t → KeepsForm s v) : KeepsForm s (if c then u else v) := .ite (hu h) (hv h)

theorem KeepsOut.ite {c : Prop} [Decidable c] {o p : Host.Outcome State Fault Refusal} (ho : KeepsOut s o) (hp : KeepsOut s p) :
    KeepsOut s (if c then o else p) := by
  split
  · exact ho
  · exact hp

theorem KeepsForm.iteSnd {α : Type} {c : Prop} [Decidable c] {p q : α × State} (hp : KeepsForm s p.2) (hq : KeepsForm s q.2) :
    KeepsForm s (if c then p else q).2 := by
  split
  · exact hp
  · exact hq

theorem KeepsForm.iteRes {c : Prop} [Decidable c] {p q : Res} (hp : KeepsForm s p.s) (hq : KeepsForm s q.s) :
    KeepsForm s (if c then p else q).s := by
  split
  · exact hp
  · exact hq

theorem KeepsForm.pair {α : Type} {a : α} (h : KeepsForm s t) : KeepsForm s (a, t).2 := h

theorem KeepsForm.res {st d pay late} (h : KeepsForm s t) : KeepsForm s (Res.mk st d pay late t).s := h

theorem KeepsForm.foldl {α : Type} {f : State → α → State} {l : List α} (h : KeepsForm s t)
    (hf : ∀ {u x}, KeepsForm s u → KeepsForm s (f u x)) : KeepsForm s (l.foldl f t) := by
  induction l generalizing t with
  | nil => exact h
  | cons x l ih => exact ih (hf h)

theorem KeepsForm.foldl_snd {α β : Type} {f : β × State → α → β × State} {b : β × State} {l : List α} (h : KeepsForm s b.2)
    (hf : ∀ {b x}, KeepsForm s b.2 → KeepsForm s (f b x).2) : KeepsForm s (l.foldl f b).2 := by
  induction l generalizing b with
  | nil => exact h
  | cons x l ih => exact ih (hf h)

theorem KeepsForm.foldl_snd2 {α β γ : Type} {f : β × γ × State → α → β × γ × State} {b : β × γ × State} {l : List α}
    (h : KeepsForm s b.2.2) (hf : ∀ {b x}, KeepsForm s b.2.2 → KeepsForm s (f b x).2.2) : KeepsForm s (l.foldl f b).2.2 := by
  induction l generalizing b with
  | nil => exact h
  | cons x l ih => exact ih (hf h)

theorem KeepsForm.of_snd {α : Type} {a : α} {p : α × State} (h : KeepsForm s p.2) (e : p = (a, u)) : KeepsForm s u := by
  rwa [e] at h

theorem KeepsForm.of_fst {α : Type} {a : α} {p : State × α} (h : KeepsForm s p.1) (e : p = (u, a)) : KeepsForm s u := by
  rwa [e] at h

/-! ### State -/

theorem KeepsForm.onRegs {f} (h : KeepsForm s t) : KeepsForm s (t.onRegs f) := h.upd

theorem KeepsForm.onStage {f} (h : KeepsForm s t) : KeepsForm s (t.onStage f) := h.upd

theorem KeepsForm.onShot {f} (h : KeepsForm s t) : KeepsForm s (t.onShot f) := h.upd

theorem KeepsForm.onTime {f} (h : KeepsForm s t) : KeepsForm s (t.onTime f) := h.upd

theorem KeepsForm.onEng {f} (h : KeepsForm s t) : KeepsForm s (t.onEng f) := h.upd

theorem KeepsForm.onCs {f} (h : KeepsForm s t) : KeepsForm s (t.onCs f) := h.upd

theorem KeepsForm.onSpl {f} (h : KeepsForm s t) : KeepsForm s (t.onSpl f) := h.upd

theorem KeepsForm.onTake {f} (h : KeepsForm s t) : KeepsForm s (t.onTake f) := h.upd

theorem KeepsForm.onSp {f} (h : KeepsForm s t) : KeepsForm s (t.onSp f) := h.upd

theorem KeepsForm.onNet {f} (h : KeepsForm s t) : KeepsForm s (t.onNet f) := h.upd

theorem KeepsForm.onDl {f} (h : KeepsForm s t) : KeepsForm s (t.onDl f) := h.upd

theorem KeepsForm.onClk {f} (h : KeepsForm s t) : KeepsForm s (t.onClk f) := h.upd

theorem KeepsForm.onPtp {f} (h : KeepsForm s t) : KeepsForm s (t.onPtp f) := h.upd

theorem KeepsForm.onFab {f} (h : KeepsForm s t) : KeepsForm s (t.onFab f) := h.upd

theorem KeepsForm.onFlt {f} (h : KeepsForm s t) : KeepsForm s (t.onFlt f) := h.upd

theorem KeepsForm.onPcn {f} (h : KeepsForm s t) : KeepsForm s (t.onPcn f) := h.upd

theorem KeepsForm.onCmd {f} (h : KeepsForm s t) : KeepsForm s (t.onCmd f) := h.upd

theorem KeepsForm.onFuse {f} (h : KeepsForm s t) : KeepsForm s (t.onFuse f) := h.upd

theorem KeepsForm.onBoot {f} (h : KeepsForm s t) : KeepsForm s (t.onBoot f) := h.upd

theorem KeepsForm.onSti {f} (h : KeepsForm s t) : KeepsForm s (t.onSti f) := h.upd

theorem KeepsForm.onRl {f} (h : KeepsForm s t) : KeepsForm s (t.onRl f) := h.upd

theorem KeepsForm.onPin {f} (h : KeepsForm s t) : KeepsForm s (t.onPin f) := h.upd

theorem KeepsForm.onOuts {f} (h : KeepsForm s t) : KeepsForm s (t.onOuts f) := h.upd

theorem KeepsForm.onFree {f} (h : KeepsForm s t) : KeepsForm s (t.onFree f) := h.upd

/-! ### Shared operations -/

theorem KeepsForm.setReg {a v} (h : KeepsForm s t) : KeepsForm s (t.setReg a v) := h.onRegs

theorem KeepsForm.setF {f v} (h : KeepsForm s t) : KeepsForm s (t.setF f v) := h.setReg

theorem KeepsForm.incF {f n} (h : KeepsForm s t) : KeepsForm s (t.incF f n) := h.setF

theorem KeepsForm.incW {f n} (h : KeepsForm s t) : KeepsForm s (t.incW f n) := h.setF

theorem KeepsForm.maxF {f n} (h : KeepsForm s t) : KeepsForm s (t.maxF f n) := .ite h.setF h

theorem KeepsForm.orF {f m} (h : KeepsForm s t) : KeepsForm s (t.orF f m) := h.setF

theorem KeepsForm.out {o} (h : KeepsForm s t) : KeepsForm s (t.out o) := h.onOuts

theorem KeepsForm.countChainG {fuel g k} (h : KeepsForm s t) : KeepsForm s (Machine.countChainG fuel g k t) := by
  induction fuel generalizing g k t with
  | zero => exact h
  | succ n ih => exact .ite (ih h.setF) h.setF

theorem KeepsForm.countG {evt k} (h : KeepsForm s t) : KeepsForm s (Machine.countG evt k t) :=
  .ite h (h.foldl (fun h => .ite h.countChainG h))

theorem KeepsForm.countChainE {fuel e j k} (h : KeepsForm s t) : KeepsForm s (Machine.countChainE fuel e j k t) := by
  induction fuel generalizing e j k t with
  | zero => exact h
  | succ n ih => exact .ite (ih h.setF) h.setF

theorem KeepsForm.countE {e evt k task} (h : KeepsForm s t) : KeepsForm s (Machine.countE e evt k task t) :=
  .ite h (h.foldl (fun h => .ite h.countChainE h))

theorem KeepsForm.snapshot (h : KeepsForm s t) : KeepsForm s (Machine.snapshot t) :=
  ((h.foldl (fun h => h.setF)).foldl (fun h => h.foldl (fun h => h.setF))).incW

theorem KeepsForm.sendMsix {n} (h : KeepsForm s t) : KeepsForm s (Machine.sendMsix n t) := .ite h.onCmd h.out

theorem KeepsForm.setIrq {n} (h : KeepsForm s t) : KeepsForm s (Machine.setIrq n t) := .ite h.orF.sendMsix h.orF

theorem KeepsForm.portIrq {p} (h : KeepsForm s t) : KeepsForm s (Machine.portIrq p t) :=
  (KeepsForm.ite h.orF h.orF).branch (fun h => h.sendMsix) id

theorem KeepsForm.onSess {tr f} (h : KeepsForm s t) : KeepsForm s (Machine.onSess tr f t) := h.onCmd

theorem KeepsForm.writeBack (h : KeepsForm s t) : KeepsForm s (Machine.writeBack t) := h.out

theorem KeepsForm.applyRingLen {k ptr} (h : KeepsForm s t) : KeepsForm s (Machine.applyRingLen k ptr t) := by
  unfold Machine.applyRingLen
  split
  · exact h
  · exact h.onCmd.setF.setF

theorem KeepsForm.ringPlace {k slot words} (h : KeepsForm s t) : KeepsForm s (Machine.ringPlace k slot words t) :=
  KeepsForm.writeBack (.ite h.out.setF.applyRingLen h.out.setF)

theorem KeepsForm.inc64 {lo hi n} (h : KeepsForm s t) : KeepsForm s (Machine.inc64 lo hi n t) := h.setF.setF

theorem KeepsForm.countTx {p len} (h : KeepsForm s t) : KeepsForm s (Machine.countTx p len t) := (KeepsForm.inc64 (.ite h.countG h)).inc64

theorem KeepsForm.mgmtSend {o len} (h : KeepsForm s t) : KeepsForm s (Machine.mgmtSend o len t) := h.out.countTx

theorem KeepsForm.mgmtOut {o len} (h : KeepsForm s t) : KeepsForm s (Machine.mgmtOut o len t) := .ite h.onCmd h.mgmtSend

theorem KeepsForm.mgmtFlush (h : KeepsForm s t) : KeepsForm s (Machine.mgmtFlush t) := h.onCmd.foldl (fun h => h.mgmtSend)

theorem KeepsForm.takeDseq {tr} (h : KeepsForm s t) : KeepsForm s (Machine.takeDseq tr t) := h.onSess

theorem KeepsForm.sendNotice {tr code payload} (h : KeepsForm s t) : KeepsForm s (Machine.sendNotice tr code payload t) := by
  unfold Machine.sendNotice
  split
  · exact .ite h.takeDseq (.ite h.takeDseq.incF h.takeDseq.out.ringPlace.setIrq)
  · split
    · exact h.takeDseq.mgmtOut.setIrq
    · exact h.takeDseq
  · exact .ite h.takeDseq.incF h.takeDseq.onCmd.out.setIrq

theorem KeepsForm.notify {code payload} (h : KeepsForm s t) : KeepsForm s (Machine.notify code payload t) :=
  h.foldl (fun h => .ite h.sendNotice h)

theorem KeepsForm.noteGen {op} (h : KeepsForm s t) : KeepsForm s (Machine.noteGen op t) := h.onCmd

theorem KeepsForm.placeWords {tr ws} (h : KeepsForm s t) : KeepsForm s (Machine.placeWords tr ws t) := by
  unfold Machine.placeWords
  split
  · exact .ite h.out.ringPlace.setIrq h
  · exact h.mgmtOut.setIrq
  · exact .ite h.onCmd h.onCmd.out.setIrq

theorem KeepsForm.placeReply {op h' gap status detail payload} (h : KeepsForm s t) : KeepsForm s (Machine.placeReply op h' gap status
    detail payload t) :=
  h.takeDseq.onSess.placeWords

theorem KeepsForm.raise {src kind addr} (h : KeepsForm s t) : KeepsForm s (Machine.raise src kind addr t) := h.onFlt

theorem KeepsForm.logEvent {code payload} (h : KeepsForm s t) : KeepsForm s (Machine.logEvent code payload t) := h.onFlt

theorem KeepsForm.enqueue {x} (h : KeepsForm s t) : KeepsForm s (Machine.enqueue x t) := .ite h.incF h.onFlt

theorem KeepsForm.writeFirst {m} (h : KeepsForm s t) : KeepsForm s (Machine.writeFirst m t) :=
  .ite h.setF.setF.setF.setF.setF.setF.setF.setF.setF h.setF.setF.setF.setF.setF.setF.setF.setF

theorem KeepsForm.acceptMsg {m first} (h : KeepsForm s t) : KeepsForm s (Machine.acceptMsg m first t) :=
  (KeepsForm.ite h.incF.countG.orF h.incF.countG.orF.incF).branch (fun h => h.enqueue.setIrq) (fun h => h.enqueue)

theorem KeepsForm.abandonTake {reason} (h : KeepsForm s t) : KeepsForm s (Machine.abandonTake reason t) := by
  unfold Machine.abandonTake
  dsimp only
  split
  · exact h
  · split
    · exact h.onTake.incF.out.placeReply
    · exact h.onTake.incF.notify

theorem KeepsForm.resumeEngine {e} (h : KeepsForm s t) : KeepsForm s (Machine.resumeEngine e t) := .ite h.setF.onEng.setF h.setF

theorem KeepsForm.changeMode {m} (h : KeepsForm s t) : KeepsForm s (Machine.changeMode m t) :=
  .ite h ((KeepsForm.ite ((KeepsForm.setF (.ite h h.abandonTake)).setF.foldl (fun h => h.resumeEngine)) (KeepsForm.setF (.ite h
    h.abandonTake)).setF).branch (fun h => h.logEvent.setIrq.onBoot) (fun h => h.logEvent.setIrq)).notify

theorem KeepsForm.safeRequest (h : KeepsForm s t) : KeepsForm s (Machine.safeRequest t) := .ite h.changeMode h

theorem KeepsForm.endWake (h : KeepsForm s t) : KeepsForm s (Machine.endWake t) := .ite h.setF.onSti h

theorem KeepsForm.releaseToken (h : KeepsForm s t) : KeepsForm s (Machine.releaseToken t) :=
  .ite h.out.out.setF.out.setF.onSti.endWake.changeMode h.out.out.setF.out.setF.onSti

theorem KeepsForm.acceptAll (h : KeepsForm s t) : KeepsForm s (Machine.acceptAll t) := by
  unfold Machine.acceptAll
  extract_lets l t1 empty pick top t2 t3 t4
  have h2 : KeepsForm s t2 := by
    unfold t2
    split
    · split
      · exact h.onFlt.writeFirst
      · exact h.onFlt
    · exact h.onFlt
  have h4 : KeepsForm s t4 := (h2.foldl fun h => h.acceptMsg).branch (fun h => h.releaseToken) id
  exact .ite h4.safeRequest h4

theorem KeepsForm.acceptEvents (h : KeepsForm s t) : KeepsForm s (Machine.acceptEvents t) := h.foldl (fun h => h.enqueue)

theorem KeepsForm.settle (h : KeepsForm s t) : KeepsForm s (Machine.settle t) := h.acceptAll.acceptEvents.onFlt

theorem KeepsForm.finish (h : KeepsForm s t) : KeepsOut s (Machine.finish t) := fun _ e => by
  cases e
  exact h.settle

theorem KeepsForm.claimPin {i c} (h : KeepsForm s t) : KeepsForm s (Machine.claimPin i c t).2 := by
  unfold Machine.claimPin
  exact .iteSnd h.raise (.iteSnd h.raise (h.onPin (f := fun u => { u with claims := (i, c) :: u.claims })))

theorem KeepsForm.releasePin {i} (h : KeepsForm s t) : KeepsForm s (Machine.releasePin i t) := h.onPin

theorem KeepsForm.claimPins {is c} (h : KeepsForm s t) : KeepsForm s (Machine.claimPins is c t).2 := by
  induction is generalizing t with
  | nil => exact h
  | cons i is ih =>
    unfold Machine.claimPins
    split
    · have h1 := ih (h.claimPin.of_snd ‹_›)
      split
      · exact h1.of_snd ‹_›
      · exact (h1.of_snd ‹_›).releasePin
    · exact h.claimPin.of_snd ‹_›

/-! ### Byte memory -/

theorem KeepsForm.setByte {a b} (h : KeepsForm s t) : KeepsForm s (t.setByte a b) := h.memOp (t.setByte_memOk a b)

theorem KeepsForm.setWord {a w} (h : KeepsForm s t) : KeepsForm s (t.setWord a w) := h.setByte.setByte.setByte.setByte

theorem KeepsForm.writeWords {ws a} (h : KeepsForm s t) : KeepsForm s (Machine.writeWords a ws t) := by
  induction ws generalizing a t with
  | nil => exact h
  | cons w ws ih => exact ih h.setWord

theorem KeepsForm.writeBytes {l a} (h : KeepsForm s t) : KeepsForm s (Machine.writeBytes a l t) := by
  induction l generalizing a t with
  | nil => exact h
  | cons b l ih => exact ih h.setByte

theorem KeepsForm.copyBytes {dst src n} (h : KeepsForm s t) : KeepsForm s (Machine.copyBytes dst src n t) :=
  h.memOp (copyBytes_memOk dst src n t)

theorem KeepsForm.zeroBytes {dst n} (h : KeepsForm s t) : KeepsForm s (Machine.zeroBytes dst n t) := h.memOp (zeroBytes_memOk dst n t)

theorem KeepsForm.fresh {α : Type} {f : Nat → α} (h : KeepsForm s t) : KeepsForm s (Machine.fresh f t).2 := h.onFree

theorem KeepsForm.raiseOpen {src} (h : KeepsForm s t) : KeepsForm s (Machine.raiseOpen src t) := h.onFree.raise

theorem KeepsForm.freshN {α : Type} {f : Nat → α} {n} (h : KeepsForm s t) : KeepsForm s (Machine.freshN f n t).2 := h.upd

theorem KeepsForm.decodeFault {a} (h : KeepsForm s t) : KeepsForm s (Machine.decodeFault a t) := h.raise

theorem KeepsForm.onEngine {e f} (h : KeepsForm s t) : KeepsForm s (Machine.onEngine e f t) := h.onEng

theorem KeepsForm.onBank {e f} (h : KeepsForm s t) : KeepsForm s (Machine.onBank e f t) := by
  unfold Machine.onBank
  exact h.onEngine

/-! ### The shot schedule -/

theorem KeepsForm.stepCounter {d} (h : KeepsForm s t) : KeepsForm s (Machine.stepCounter d t) := h.onPtp

theorem KeepsForm.setInc {i} (h : KeepsForm s t) : KeepsForm s (Machine.setInc i t) := h.setF.setF

theorem KeepsForm.counterTick (h : KeepsForm s t) : KeepsForm s (Machine.counterTick t) := h.onPtp.stepCounter

theorem KeepsForm.driveBall {i level} (h : KeepsForm s t) : KeepsForm s (Machine.driveBall i level t) := .ite h.onPin h.onPin.out

theorem KeepsForm.armTrig {i w} (h : KeepsForm s t) : KeepsForm s (Machine.armTrig i w t) := by
  unfold Machine.armTrig
  dsimp only
  split
  · exact h.setReg.setF.orF.setF.onPtp.claimPin.driveBall
  · exact h.setReg.setF.orF.setF.onPtp

theorem KeepsForm.trigRefused {i w st} (h : KeepsForm s t) : KeepsForm s (Machine.trigRefused i w st t) := by
  unfold Machine.trigRefused
  refine .ite ?_ ?_
  · refine .ite ?_ ?_
    · exact h.raise
    · split
      · exact h.raise
      · exact h
  · exact h

theorem KeepsForm.releaseTrig {i} (h : KeepsForm s t) : KeepsForm s (Machine.releaseTrig i t) := by
  unfold Machine.releaseTrig
  dsimp only
  split
  · exact h.setF.setF.setF.onPtp.driveBall.onPin.releasePin.out
  · exact h.setF.setF.setF.onPtp

theorem KeepsForm.putTrigRegs {i ws} (h : KeepsForm s t) : KeepsForm s (Machine.putTrigRegs i ws t) := h.foldl (fun h => h.setReg)

theorem KeepsForm.writeTcfg {i v} (h : KeepsForm s t) : KeepsForm s (Machine.writeTcfg i v t) :=
  .ite (.ite h h.releaseTrig.setReg) (.ite h.trigRefused (.ite h.setReg (.ite h.armTrig h.setReg.trigRefused)))

theorem KeepsForm.trigPin {i w b} (h : KeepsForm s t) : KeepsForm s (Machine.trigPin i w b t) := by
  unfold Machine.trigPin
  split
  · exact h.onPtp.driveBall
  · exact h.onPtp.driveBall
  · exact h.driveBall
  · exact h.driveBall
  · exact h.driveBall

theorem KeepsForm.fireTrig {i} (h : KeepsForm s t) : KeepsForm s (Machine.fireTrig i t) := by
  unfold Machine.fireTrig
  split
  · exact h
  · refine .ite h ?_
    extract_lets w act named t1 t2 t3 n t4 t5 t6 t7 t8 per
    have h2 : KeepsForm s t2 := .ite h.incF.onTake h.incF
    have h3 : KeepsForm s t3 := .ite h2.notify h2
    have h6 : KeepsForm s t6 := .ite h3.onSp.onNet.onDl h3
    have h7 : KeepsForm s t7 := by
      unfold t7
      split
      · exact h6.trigPin
      · exact h6
    have h8 : KeepsForm s t8 := .ite h7.notify h7
    exact .ite (h8.incF.onPtp.branch (fun h => h.setF) id) h8.setF

theorem KeepsForm.execClapperTriggerFire {i} (h : KeepsForm s t) : KeepsOut s (Machine.execClapperTriggerFire i t) :=
  KeepsForm.finish (.ite h.fireTrig h)

theorem KeepsForm.execTriggerPulseEnd {i} (h : KeepsForm s t) : KeepsOut s (Machine.execTriggerPulseEnd i t) := by
  unfold Machine.execTriggerPulseEnd
  dsimp only
  refine .finish ?_
  split
  · exact h
  · split
    · exact h.onPtp.driveBall
    · exact h.onPtp

theorem KeepsForm.writeCcfg {c v} (h : KeepsForm s t) : KeepsForm s (Machine.writeCcfg c v t) :=
  .ite (.ite (.ite h.setF h.raise) h.setF.releasePin.setF.setF) (.ite h (.ite h.setReg (.ite h.setReg.claimPin.setF.orF
    h.setReg.claimPin)))

theorem KeepsForm.putFifo {c l} (h : KeepsForm s t) : KeepsForm s (Machine.putFifo c l t) := h.onPtp

theorem KeepsForm.execCaptureEdge {c fall} (h : KeepsForm s t) : KeepsOut s (Machine.execCaptureEdge c fall t) :=
  KeepsForm.finish (.ite (.ite h.onPtp.incF (.ite h.onPtp.putFifo.notify h.onPtp.putFifo)) h)

theorem KeepsForm.readCapture {c} (h : KeepsForm s t) : KeepsForm s (Machine.readCapture c t).2 := by
  unfold Machine.readCapture
  split
  · exact h.setF.setF
  · exact h.putFifo.setF.setF.setF.setF.setF

/-! ### The fabric and SRAM -/

theorem KeepsForm.startReplace {row} (h : KeepsForm s t) : KeepsForm s (Machine.startReplace row t) :=
  .ite h (.ite (.ite h h.onFab.raise) h.onFab.setF)

theorem KeepsForm.wearBump {row k} (h : KeepsForm s t) : KeepsForm s (Machine.wearBump row k t).2 :=
  (KeepsForm.ite h.onFab.onFab h.onFab).branch (fun h => h.startReplace) id

theorem KeepsForm.wearAdd {row k} (h : KeepsForm s t) : KeepsForm s (Machine.wearAdd row k t) :=
  .ite h.wearBump (.ite h.wearBump.countG.wearBump h.wearBump.countG.wearBump.countG.wearBump)

theorem KeepsForm.mramDword {off lo hi} (h : KeepsForm s t) : KeepsForm s (Machine.mramDword off lo hi t) :=
  .ite h.onFab h.setWord.setWord.countG.wearAdd

theorem KeepsForm.mramWrite {off ws} (h : KeepsForm s t) : KeepsForm s (Machine.mramWrite off ws t) := by
  induction off, ws, t using mramWrite.induct with
  | case1 => rwa [Machine.mramWrite]
  | case2 => rw [Machine.mramWrite]; exact h.mramDword
  | case3 off t x y l ih => rw [Machine.mramWrite]; exact ih h.mramDword

theorem KeepsForm.mramErase {off n} (h : KeepsForm s t) : KeepsForm s (Machine.mramErase off n t) :=
  h.foldl (fun h => .ite h.onFab h.zeroBytes.countG.wearAdd)

theorem KeepsForm.storeWear (h : KeepsForm s t) : KeepsForm s (Machine.storeWear t) := h.onFab.foldl (fun h => h.countG.wearAdd)

theorem KeepsForm.wearCheck (h : KeepsForm s t) : KeepsForm s (Machine.wearCheck t) := h.foldl (fun h => .ite h.startReplace h)

theorem KeepsForm.writeRepair {es} (h : KeepsForm s t) : KeepsForm s (Machine.writeRepair es t) := h.mramWrite.onFab.setF.setF

theorem KeepsForm.addRepair {e} (h : KeepsForm s t) : KeepsForm s (Machine.addRepair e t) := .ite h h.writeRepair.logEvent

theorem KeepsForm.fieldRepair {inst row} (h : KeepsForm s t) : KeepsForm s (Machine.fieldRepair inst row t) :=
  .ite h h.onFab.addRepair.incF

theorem KeepsForm.rowFixed {inst row} (h : KeepsForm s t) : KeepsForm s (Machine.rowFixed inst row t) := .ite h.onFab.fieldRepair h.onFab

theorem KeepsForm.sramCorrected {inst row} (h : KeepsForm s t) : KeepsForm s (Machine.sramCorrected inst row t) := h.incF.rowFixed

theorem KeepsForm.engFixed {e task w} (h : KeepsForm s t) : KeepsForm s (Machine.engFixed e task w t) := h.incF.countE.rowFixed

theorem KeepsForm.engDouble {e w} (h : KeepsForm s t) : KeepsForm s (Machine.engDouble e w t) := h.incF.fieldRepair

theorem KeepsForm.engReadError {e x} (h : KeepsForm s t) : KeepsForm s (Machine.engReadError e x t) :=
  .ite h.engFixed h.engDouble.onFree.raise

theorem KeepsForm.eccDouble {x} (h : KeepsForm s t) : KeepsForm s (Machine.eccDouble x t) := h.incF.setF.setF.raiseOpen

theorem KeepsForm.sramDouble {x} (h : KeepsForm s t) : KeepsForm s (Machine.sramDouble x t) := h.eccDouble.fieldRepair

theorem KeepsForm.sramError {x} (h : KeepsForm s t) : KeepsForm s (Machine.sramError x t) := .ite h.sramCorrected h.sramDouble

theorem KeepsForm.mramCorrected {row} (h : KeepsForm s t) : KeepsForm s (Machine.mramCorrected row t) := .ite h.onFab.startReplace h.onFab

theorem KeepsForm.execScrub {x kind} (h : KeepsForm s t) : KeepsOut s (Machine.execScrub x kind t) :=
  KeepsForm.finish (.ite h.sramCorrected (.ite h.sramDouble h))

theorem KeepsForm.replaceDone (h : KeepsForm s t) : KeepsForm s (Machine.replaceDone t) := by
  unfold Machine.replaceDone
  split
  · exact h
  · exact (h.addRepair.setF.onFab.setF.foldl (fun h => h.setWord)).countG.wearAdd.raise

theorem KeepsForm.execMramReplaceDone (h : KeepsForm s t) : KeepsOut s (Machine.execMramReplaceDone t) := h.replaceDone.finish

theorem KeepsForm.claimRange {c} (h : KeepsForm s t) : KeepsForm s (Machine.claimRange c t).2 := by
  unfold Machine.claimRange
  split
  · exact h.raise
  · split
    · exact h
    · exact h.upd

theorem KeepsForm.releaseRange {p} (h : KeepsForm s t) : KeepsForm s (Machine.releaseRange p t) := h.onFab

theorem KeepsForm.grant {t'} (h : KeepsForm s t) : KeepsForm s (Machine.grant t' t) := by
  unfold Machine.grant
  refine .ite ?_ ?_
  · exact h
  · split
    · exact h
    · exact h.onFab.countG

theorem KeepsForm.bankStalls {rank at_ hits} (h : KeepsForm s t) : KeepsForm s (Machine.bankStalls rank at_ hits t).2 :=
  .ite h h.incF.countG

theorem KeepsForm.dualAccess {table c} (h : KeepsForm s t) : KeepsForm s (Machine.dualAccess table c t) :=
  (KeepsForm.ite (.ite h.onCs h) (.ite ((KeepsForm.ite h h.setWord).branch (fun h => h.out) id) h)).branch (fun h => .ite
    h.incF.raiseOpen h.incF.raise) id

theorem KeepsForm.request {m t' beats kind at_ hits} (h : KeepsForm s t) : KeepsForm s (Machine.request m t' beats kind at_ hits t) := by
  unfold Machine.request
  dsimp only
  exact .ite h.decodeFault (.ite h h.bankStalls.onFab.grant)

theorem KeepsForm.burstError {t' addr x} (h : KeepsForm s t) : KeepsForm s (Machine.burstError t' addr x t) := by
  unfold Machine.burstError
  split
  · exact h.engReadError
  · exact .ite h.mramCorrected h.eccDouble
  · exact .ite h (.ite h.raiseOpen h)
  · exact h
  · exact h.sramError

theorem KeepsForm.execXbarRequest {m t' beats kind at_ hits col bad} (h : KeepsForm s t) : KeepsOut s (Machine.execXbarRequest m t' beats
    kind at_ hits col bad t) := by
  unfold Machine.execXbarRequest
  dsimp only
  refine .finish ?_
  refine .ite ?_ ?_
  · exact h
  · refine .ite ?_ ?_
    · exact h.request
    · split
      · refine .ite ?_ ?_
        · split
          · exact .ite h.request.dualAccess h.request
          · exact h.request
        · refine .burstError ?_
          split
          · exact .ite h.request.dualAccess h.request
          · exact h.request
      · split
        · exact .ite h.request.dualAccess h.request
        · exact h.request

theorem KeepsForm.landBurst {b} (h : KeepsForm s t) : KeepsForm s (Machine.landBurst b t) := by
  unfold Machine.landBurst
  refine .ite h (h.foldl fun {u x} h => ?_)
  dsimp only
  split
  · exact .ite h.setWord h
  · exact .ite h.setWord h
  · exact .ite h.setWord h
  · exact .ite h.setWord h
  · exact h

theorem KeepsForm.drainDdr (h : KeepsForm s t) : KeepsForm s (Machine.drainDdr t) := .ite h h.onFree.onFab

theorem KeepsForm.emptyBuffer (h : KeepsForm s t) : KeepsForm s (Machine.emptyBuffer t) := .ite h (h.drainDdr.foldl (fun h => h.grant))

theorem KeepsForm.countPath {b c lat} (h : KeepsForm s t) : KeepsForm s (Machine.countPath b c lat t) :=
  (KeepsForm.ite (KeepsForm.countG (.ite h.incF.countG.incF.countG h.incF.countG)) (.ite (KeepsForm.countG (.ite
    h.incF.countG.incF.countG h.incF.countG)) (.ite h.incF.countG.incF.countG h.incF.countG))).branch (fun h => h.maxF) id

theorem KeepsForm.keepChain {b t'} (h : KeepsForm s t) : KeepsForm s (Machine.keepChain b t' t) := by
  unfold Machine.keepChain
  split
  · exact .ite h.grant h
  · exact h

theorem KeepsForm.burstComplete {t' lat} (h : KeepsForm s t) : KeepsForm s (Machine.burstComplete t' lat t) := by
  unfold Machine.burstComplete
  split
  · exact h
  · exact (h.onFab.countPath.landBurst.branch (fun h => h.incF) id).onFab.drainDdr.keepChain.foldl (fun h => h.grant)

theorem KeepsForm.execBurstComplete {t' lat} (h : KeepsForm s t) : KeepsOut s (Machine.execBurstComplete t' lat t) :=
  KeepsForm.finish (.ite h.burstComplete h)

theorem KeepsForm.masterReset {r} (h : KeepsForm s t) : KeepsForm s (Machine.masterReset r t) := by
  unfold Machine.masterReset
  exact h.onFab

theorem KeepsForm.unitReset {m} (h : KeepsForm s t) : KeepsForm s (Machine.unitReset m t) := .ite h.onFree.masterReset h.masterReset

theorem KeepsForm.execMasterReset {x} (h : KeepsForm s t) : KeepsOut s (Machine.execMasterReset x t) :=
  KeepsForm.finish (.ite h.masterReset h)

theorem KeepsForm.ddrEcc (h : KeepsForm s t) : KeepsForm s (Machine.ddrEcc t) := .ite h.raiseOpen h

theorem KeepsForm.execDdrTrainingDone {ok} (h : KeepsForm s t) : KeepsOut s (Machine.execDdrTrainingDone ok t) :=
  KeepsForm.finish (.ite (.ite h.onFab.setF.setF h.onFab.setF.setF.raiseOpen) h)

theorem KeepsForm.execDdrRetrain (h : KeepsForm s t) : KeepsOut s (Machine.execDdrRetrain t) := KeepsForm.finish (.ite h.incF h)

/-! ### Stage memory -/

theorem KeepsForm.shiftAreas (h : KeepsForm s t) : KeepsForm s (Machine.shiftAreas t) := h.onStage

theorem KeepsForm.putBlk {area ch b} (h : KeepsForm s t) : KeepsForm s (Machine.putBlk area ch b t) := .ite h.onStage.countG h.onStage

theorem KeepsForm.concealSamples {k n} (h : KeepsForm s t) : KeepsForm s (Machine.concealSamples k n t).2 := by
  unfold Machine.concealSamples
  dsimp only
  exact h.onCs

theorem KeepsForm.delivered {k last} (h : KeepsForm s t) : KeepsForm s (Machine.delivered k last t) := h.onCs

/-! ### The call sheet -/

theorem KeepsForm.onTask {n f} (h : KeepsForm s t) : KeepsForm s (Machine.onTask n f t) := h.onCs

theorem KeepsForm.unready {n} (h : KeepsForm s t) : KeepsForm s (Machine.unready n t) := h.onCs

theorem KeepsForm.notePeak {p} (h : KeepsForm s t) : KeepsForm s (Machine.notePeak p t) := h.maxF

theorem KeepsForm.signal {e n pre} (h : KeepsForm s t) : KeepsForm s (Machine.signal e n pre t) := h.unready.onEngine

theorem KeepsForm.check {e} (h : KeepsForm s t) : KeepsForm s (Machine.check e t) := by
  unfold Machine.check
  refine .ite ?_ ?_
  · exact h
  · split
    · exact h
    · split
      · exact h.signal
      · exact .ite h.signal h

theorem KeepsForm.afterEnd {e} (h : KeepsForm s t) : KeepsForm s (Machine.afterEnd e t) := by
  unfold Machine.afterEnd
  refine .ite ?_ ?_
  · exact h
  · split
    · exact h
    · exact h.signal

theorem KeepsForm.enterReady {n} (h : KeepsForm s t) : KeepsForm s (Machine.enterReady n t) := by
  unfold Machine.enterReady
  dsimp only
  split
  · exact h.onTask.onCs.notePeak.check
  · exact h.onTask.onCs.notePeak

theorem KeepsForm.concealLane {n x j} (h : KeepsForm s t) : KeepsForm s (Machine.concealLane n x j t) := h.concealSamples.putBlk

theorem KeepsForm.concealEntry {n x} (h : KeepsForm s t) : KeepsForm s (Machine.concealEntry n x t) :=
  .ite (h.foldl (fun h => h.concealLane)) h

theorem KeepsForm.blockToSlice {e lane isY w b} (h : KeepsForm s t) : KeepsForm s (Machine.blockToSlice e lane isY w b t) :=
  h.writeWords.writeWords

theorem KeepsForm.moveIn {n e x j} (h : KeepsForm s t) : KeepsForm s (Machine.moveIn n e x j t) := h.blockToSlice

theorem KeepsForm.moveOut {n e x j} (h : KeepsForm s t) : KeepsForm s (Machine.moveOut n e x j t) := .ite h.concealLane h.putBlk.delivered

theorem KeepsForm.moveBuf {e x j} (h : KeepsForm s t) : KeepsForm s (Machine.moveBuf e x j t) := h.putBlk

theorem KeepsForm.onLine {i f} (h : KeepsForm s t) : KeepsForm s (Machine.onLine i f t) := h.onCs

theorem KeepsForm.sizeLineClaim {i base len} (h : KeepsForm s t) : KeepsForm s (Machine.sizeLineClaim i base len t) := h.onFab

theorem KeepsForm.lineWrite {i sm} (h : KeepsForm s t) : KeepsForm s (Machine.lineWrite i sm t) := by
  unfold Machine.lineWrite
  dsimp only
  split
  · exact h
  · exact .ite h.writeWords.onLine (KeepsForm.onLine (.ite h.writeWords.sizeLineClaim h.writeWords))

theorem KeepsForm.moveLine {e x j} (h : KeepsForm s t) : KeepsForm s (Machine.moveLine e x j t) := .ite h.writeWords h.lineWrite

theorem KeepsForm.serveStaging (h : KeepsForm s t) : KeepsForm s (Machine.serveStaging t) := h.onCs

theorem KeepsForm.issueList {n k} (h : KeepsForm s t) : KeepsForm s (Machine.issueList n k t) := h.onCs

theorem KeepsForm.inputsDue {n} (h : KeepsForm s t) : KeepsForm s (Machine.inputsDue n t) := .ite h.enterReady h.issueList

theorem KeepsForm.notifyTask {n} (h : KeepsForm s t) : KeepsForm s (Machine.notifyTask n t) := .ite (.ite h.onTask.inputsDue h.onTask) h

theorem KeepsForm.completeTask {n} (h : KeepsForm s t) : KeepsForm s (Machine.completeTask n t) := h.onTask

theorem KeepsForm.outputsDue {n} (h : KeepsForm s t) : KeepsForm s (Machine.outputsDue n t) := .ite h.completeTask h.issueList

theorem KeepsForm.entryEffect {n e x} (h : KeepsForm s t) : KeepsForm s (Machine.entryEffect n e x t) := by
  unfold Machine.entryEffect
  split
  · exact h.foldl (fun h => h.moveIn)
  · exact h.foldl (fun h => h.moveOut)
  · exact h.notifyTask
  · exact h.foldl (fun h => h.moveLine)
  · exact h.foldl (fun h => h.moveLine)
  · exact h.foldl (fun h => h.moveIn)
  · exact h.foldl (fun h => h.moveBuf)
  · exact h

theorem KeepsForm.listLanded {n k} (h : KeepsForm s t) : KeepsForm s (Machine.listLanded n k t) := by
  unfold Machine.listLanded
  split
  · exact h.enterReady
  · exact h.completeTask
  · exact .ite h.enterReady h

theorem KeepsForm.storeCells {o} (h : KeepsForm s t) : KeepsForm s (Machine.storeCells o t) := by
  unfold Machine.storeCells
  split
  · exact h
  · exact h.foldl (fun h => h.setWord)

theorem KeepsForm.flushStores {e} (h : KeepsForm s t) : KeepsForm s (Machine.flushStores e t) := by
  unfold Machine.flushStores
  exact (((h.storeCells.storeCells.foldl (fun h => h.storeCells)).foldl (fun h => h.storeCells)).foldl (fun h => h.storeCells)).onEngine

theorem KeepsForm.vacate {e} (h : KeepsForm s t) : KeepsForm s (Machine.vacate e t) :=
  .ite h.flushStores.onBank.onEngine.onEngine h.flushStores.onBank.onEngine.setF

theorem KeepsForm.addLoad {le k} (h : KeepsForm s t) : KeepsForm s (Machine.addLoad le k t) := h.onCs

theorem KeepsForm.startOuts {n} (h : KeepsForm s t) : KeepsForm s (Machine.startOuts n t) :=
  h.foldl (fun h => h.foldl (fun h => h.delivered))

theorem KeepsForm.chargeTask {n k} (h : KeepsForm s t) : KeepsForm s (Machine.chargeTask n k t) := h.onTask.addLoad

theorem KeepsForm.endRunning {e n stopped} (h : KeepsForm s t) : KeepsForm s (Machine.endRunning e n stopped t) :=
  h.vacate.onTask.outputsDue.serveStaging.afterEnd

theorem KeepsForm.withdraw {n} (h : KeepsForm s t) : KeepsForm s (Machine.withdraw n t) := h.unready.onCs.onEng

theorem KeepsForm.quarantine {n} (h : KeepsForm s t) : KeepsForm s (Machine.quarantine n t) := h.onTask

theorem KeepsForm.overrun {n} (h : KeepsForm s t) : KeepsForm s (Machine.overrun n t) := by
  unfold Machine.overrun
  refine .onTask (.incF (.raise (.foldl (.withdraw ?_) (fun h => h.concealEntry))))
  split
  · refine .ite ?_ ?_
    · exact h.onTask.vacate.countE
    · split
      · exact .ite h h.onTask
      · exact h
  · exact h

theorem KeepsForm.checkAll (h : KeepsForm s t) : KeepsForm s (Machine.checkAll t) := h.foldl (fun h => h.check)

theorem KeepsForm.setArmed {n} (h : KeepsForm s t) : KeepsForm s (Machine.setArmed n t) := h.onTask

theorem KeepsForm.notifyArmed {n} (h : KeepsForm s t) : KeepsForm s (Machine.notifyArmed n t) := .ite h.onTask h

theorem KeepsForm.concealAtBoundary {n} (h : KeepsForm s t) : KeepsForm s (Machine.concealAtBoundary n t) :=
  h.onTask.foldl (fun h => .ite h.notifyArmed h.concealEntry)

theorem KeepsForm.joinReady {n} (h : KeepsForm s t) : KeepsForm s (Machine.joinReady n t) := h.onTask.onCs.notePeak

theorem KeepsForm.stageArmed {n} (h : KeepsForm s t) : KeepsForm s (Machine.stageArmed n t) := .ite (.ite h.joinReady h.issueList) h

theorem KeepsForm.armTasks {ns} (h : KeepsForm s t) : KeepsForm s (Machine.armTasks ns t) :=
  (((h.foldl (fun h => h.setArmed)).foldl (fun h => h.concealAtBoundary)).foldl (fun h => h.stageArmed)).serveStaging.checkAll

theorem KeepsForm.armDue (h : KeepsForm s t) : KeepsForm s (Machine.armDue t) := h.armTasks

theorem KeepsForm.armBoundary (h : KeepsForm s t) : KeepsForm s (Machine.armBoundary t) := .ite h.onCs.armDue h

theorem KeepsForm.rearmTasks {ns} (h : KeepsForm s t) : KeepsForm s (Machine.rearmTasks ns t) :=
  ((h.foldl (fun h => h.withdraw.onTask)).foldl (fun h => h.stageArmed)).serveStaging.checkAll

theorem KeepsForm.saveKept {e} (h : KeepsForm s t) : KeepsForm s (Machine.saveKept e t) := h.onEngine

theorem KeepsForm.setAside {e n st} (h : KeepsForm s t) : KeepsForm s (Machine.setAside e n st t) :=
  h.flushStores.saveKept.branch (fun h => h.onTask.onEngine.onCs.notePeak) (fun h => h.onTask.onEngine)

theorem KeepsForm.startTask {e n wait} (h : KeepsForm s t) : KeepsForm s (Machine.startTask e n wait t) :=
  (KeepsForm.onTask (.ite h.setF.onBank.onEngine h.setF.onBank.onEngine.onTask)).setF.setF.addLoad.countE

theorem KeepsForm.showAdmit (h : KeepsForm s t) : KeepsForm s (Machine.showAdmit t) := h.foldl (fun h => h.setF)

/-! ### Releases -/

theorem KeepsForm.fadeBuses (h : KeepsForm s t) : KeepsForm s (Machine.fadeBuses t) := by
  unfold Machine.fadeBuses
  split
  · exact h
  · exact h.foldl (fun h => .ite h.onStage.onStage h)

/-! ### Serial ports -/

theorem KeepsForm.onPort {p f} (h : KeepsForm s t) : KeepsForm s (Machine.onPort p f t) := h.onSp

theorem KeepsForm.onGroup {g f} (h : KeepsForm s t) : KeepsForm s (Machine.onGroup g f t) := h.onSp

theorem KeepsForm.showLock {p} (h : KeepsForm s t) : KeepsForm s (Machine.showLock p t) := h.setF

theorem KeepsForm.spCfg {n} (h : KeepsForm s t) : KeepsForm s (Machine.spCfg n t) := h.raise

theorem KeepsForm.writePortCfg {p off v} (h : KeepsForm s t) : KeepsForm s (Machine.writePortCfg p off v t) := .ite h.setReg h.spCfg

theorem KeepsForm.cgApply {g w} (h : KeepsForm s t) : KeepsForm s (Machine.cgApply g w t) :=
  .ite (.ite h.setReg.claimPins.onGroup.setF.setF.setF.setF.onGroup h.setReg.claimPins.onGroup.setF) (.ite
    h.setReg.releasePin.releasePin.setF.setF.setF.onGroup h.setReg)

theorem KeepsForm.cgRefused {g st} (h : KeepsForm s t) : KeepsForm s (Machine.cgRefused g st t) := .ite h.raise h.spCfg

theorem KeepsForm.writeCg {g v} (h : KeepsForm s t) : KeepsForm s (Machine.writeCg g v t) := .ite h.cgApply h.cgRefused

theorem KeepsForm.clearRatechg {g} (h : KeepsForm s t) : KeepsForm s (Machine.clearRatechg g t) := h.setF.onGroup

theorem KeepsForm.writeMask {p out late v} (h : KeepsForm s t) : KeepsForm s (Machine.writeMask p out late v t) :=
  .ite h.spCfg (.ite h.setF.setF.onPort h.setF.setF.onPort)

theorem KeepsForm.showLat {p phi} (h : KeepsForm s t) : KeepsForm s (Machine.showLat p phi t) := h.setF.setF

theorem KeepsForm.portRelease {p} (h : KeepsForm s t) : KeepsForm s (Machine.portRelease p t) := .ite h (.ite h.onPort h.onPort)

theorem KeepsForm.startDir {p out phi} (h : KeepsForm s t) : KeepsForm s (Machine.startDir p out phi t) :=
  .ite h (.ite (.ite h.setF.raise h.setF) ((KeepsForm.ite (KeepsForm.onPort (.ite h.setF.claimPin h.setF)).setF (.ite h.setF.claimPin
    h.setF)).branch (fun h => h.showLat.setF.onPort.portRelease.showLock) (fun h => h.showLat.setF.onCs.onPort.onPort.showLock)))

theorem KeepsForm.stopDir {p out} (h : KeepsForm s t) : KeepsForm s (Machine.stopDir p out t) :=
  .ite (.ite h.setF h.setF.setF.onPort.releasePin.out.showLock) (.ite h.setF h.setF.setF.onPort.releasePin.showLock)

theorem KeepsForm.actPort {p start phi} (h : KeepsForm s t) : KeepsForm s (Machine.actPort p start phi t) :=
  h.onPort.foldl (fun h => .ite h.startDir h.stopDir)

theorem KeepsForm.playNext {p due recs fuel} (h : KeepsForm s t) : KeepsForm s (Machine.playNext p due recs fuel t) := by
  induction fuel generalizing recs t with
  | zero => unfold Machine.playNext; exact h.onPort.incF
  | succ n ih =>
    cases recs with
    | nil => unfold Machine.playNext; exact h.onPort.incF
    | cons r l => unfold Machine.playNext; exact .ite h.onPort.incF (.ite h.onPort.setF (.ite (ih h.setF.incF) h.onPort.incF))

theorem KeepsForm.playBlock {p due recs} (h : KeepsForm s t) : KeepsForm s (Machine.playBlock p due recs t) := .ite h.playNext h

theorem KeepsForm.captureBlock {p frames} (h : KeepsForm s t) : KeepsForm s (Machine.captureBlock p frames t) := by
  unfold Machine.captureBlock
  dsimp only
  refine .ite ?_ ?_
  · exact h
  · refine .ite ?_ ?_
    · exact h.incF
    · split
      · exact h.out.incF.setF.onPort.setF.setF
      · exact h.out.incF.setF

theorem KeepsForm.portBlock {p recs} (h : KeepsForm s t) : KeepsForm s (Machine.portBlock p recs t) :=
  .ite h h.setF.onPort.captureBlock.incW.onPort.playBlock

theorem KeepsForm.execPortBlock {p recs} (h : KeepsForm s t) : KeepsOut s (Machine.execPortBlock p recs t) :=
  KeepsForm.finish (.ite h.portBlock h)

theorem KeepsForm.execPortStartAct {p phi recs} (h : KeepsForm s t) : KeepsOut s (Machine.execPortStartAct p phi recs t) :=
  KeepsForm.finish (.ite (.ite h.actPort.playBlock h.actPort) h)

theorem KeepsForm.execPortStopAct {p} (h : KeepsForm s t) : KeepsOut s (Machine.execPortStopAct p t) :=
  KeepsForm.finish (.ite h.actPort h)

theorem KeepsForm.stopPorts (h : KeepsForm s t) : KeepsForm s (Machine.stopPorts t) := h.foldl (fun h => h.stopDir.stopDir.onPort)

theorem KeepsForm.applyMasks {p} (h : KeepsForm s t) : KeepsForm s (Machine.applyMasks p t) := h.onPort.setF.setF

theorem KeepsForm.inSample {p c oldMask good slots} (h : KeepsForm s t) : KeepsForm s (Machine.inSample p c oldMask good slots t).2 := by
  unfold Machine.inSample
  dsimp only
  refine .iteSnd ?_ ?_
  · exact h
  · refine .iteSnd ?_ ?_
    · exact h
    · split
      · exact h.delivered
      · exact h.concealSamples

theorem KeepsForm.frameIn {p oldMask good slots} (h : KeepsForm s t) : KeepsForm s (Machine.frameIn p oldMask good slots t) := by
  unfold Machine.frameIn
  refine .ite h.onPort ?_
  extract_lets master t1 r f t2
  have h1 : KeepsForm s t1 := .ite h.setF h
  have h2 : KeepsForm s t2 := .foldl_snd h1 fun h => h.inSample
  exact h2.onPort

theorem KeepsForm.frameOut {p oldMask} (h : KeepsForm s t) : KeepsForm s (Machine.frameOut p oldMask t) := by
  unfold Machine.frameOut
  refine .ite h ?_
  extract_lets u n lost lead r t1
  have h1 : KeepsForm s t1 := by
    unfold t1 r
    refine .iteSnd h (.iteSnd (.iteSnd h.pair ?_) h)
    split
    exact h.freshN.of_snd ‹_›
  split
  rename_i clips t2 e2
  have h2 : KeepsForm s t2 := .of_snd (.iteSnd h1.freshN h1.pair) e2
  exact (h2.onPort.branch (fun h => h.setF) id).incF.out

theorem KeepsForm.framePort {p good slots} (h : KeepsForm s t) : KeepsForm s (Machine.framePort p good slots t) := by
  unfold Machine.framePort
  exact (KeepsForm.onPort (.ite h.applyMasks h.applyMasks.incF)).frameIn.frameOut

theorem KeepsForm.slipPort {x} (h : KeepsForm s t) : KeepsForm s (Machine.slipPort x t) :=
  .ite h (KeepsForm.incF (.ite h.onPort h.onPort)).raise

theorem KeepsForm.rangeFrame {p} (h : KeepsForm s t) : KeepsForm s (Machine.rangeFrame p t) := by
  unfold Machine.rangeFrame
  exact h.onPort

theorem KeepsForm.serialFrame {g bclks data slips} (h : KeepsForm s t) : KeepsForm s (Machine.serialFrame g bclks data slips t) :=
  .ite h ((KeepsForm.foldl (.ite h.onGroup h.onGroup.setF) (fun h => .ite (.ite h.framePort.rangeFrame h.applyMasks) h)).foldl (fun h =>
    .ite h.slipPort h))

theorem KeepsForm.execSerialFrame {g bclks data slips} (h : KeepsForm s t) : KeepsOut s (Machine.execSerialFrame g bclks data slips t) :=
  KeepsForm.finish (.ite h.serialFrame h)

theorem KeepsForm.loseGroup {g} (h : KeepsForm s t) : KeepsForm s (Machine.loseGroup g t) :=
  h.setF.onGroup.foldl (fun h => .ite ((KeepsForm.ite h.onPort h).branch (fun h => h.setF.onPort.raise.showLock) id) h)

theorem KeepsForm.execSpLost {g silent} (h : KeepsForm s t) : KeepsOut s (Machine.execSpLost g silent t) :=
  KeepsForm.finish (.ite h.loseGroup h)

theorem KeepsForm.execSpReturn {g} (h : KeepsForm s t) : KeepsOut s (Machine.execSpReturn g t) :=
  KeepsForm.finish (.ite (h.onGroup.setF.foldl (fun h => .ite ((KeepsForm.ite h.setF.onPort h).branch (fun h => h.onPort) id) h)) h)

theorem KeepsForm.ratechg {g} (h : KeepsForm s t) : KeepsForm s (Machine.ratechg g t) := (h.setF.foldl (fun h => .ite h.portIrq h)).notify

theorem KeepsForm.judgeRate {g oldCls} (h : KeepsForm s t) : KeepsForm s (Machine.judgeRate g oldCls t) := .ite h.ratechg h

theorem KeepsForm.execCgRateUpdate {g freq} (h : KeepsForm s t) : KeepsOut s (Machine.execCgRateUpdate g freq t) :=
  KeepsForm.finish (.ite (h.setF.setF.judgeRate.foldl (fun h => .ite ((KeepsForm.ite (KeepsForm.onPort (.ite h.showLat h)) (.ite
    h.showLat h)).branch (fun h => h.onPort) id).showLock h)) h)

theorem KeepsForm.portAsrc {out p lock} (h : KeepsForm s t) : KeepsForm s (Machine.portAsrc out p lock t) :=
  .ite h (.ite (.ite h h.onPort.showLock) (.ite h h.onPort.showLock))

theorem KeepsForm.takeSample {p c x} (h : KeepsForm s t) : KeepsForm s (Machine.takeSample p c x t).2 :=
  .iteSnd (KeepsForm.delivered (.iteSnd h.onFree h)) (.iteSnd h.concealSamples h)

theorem KeepsForm.portBlk {p c fr} (h : KeepsForm s t) : KeepsForm s (Machine.portBlk p c fr t).2 := by
  unfold Machine.portBlk
  extract_lets xs r
  have hr : KeepsForm s r.2 := .foldl_snd h fun h => h.takeSample
  split
  rename_i clip t2 e2
  exact (KeepsForm.iteSnd hr.fresh hr.pair).of_snd e2

theorem KeepsForm.portInputs {p} (h : KeepsForm s t) : KeepsForm s (Machine.portInputs p t) :=
  .ite h (h.onPort.foldl (fun h => h.portBlk.putBlk))

theorem KeepsForm.allPortInputs (h : KeepsForm s t) : KeepsForm s (Machine.allPortInputs t) := h.foldl (fun h => h.portInputs)

theorem KeepsForm.allPortReleases (h : KeepsForm s t) : KeepsForm s (Machine.allPortReleases t) := h.foldl (fun h => h.portRelease)

theorem KeepsForm.stageSpLen {p ply len} (h : KeepsForm s t) : KeepsForm s (Machine.stageSpLen p ply len t) :=
  .ite h.setF.setF.onPort h.setF.setF.onPort

theorem KeepsForm.writeRingCfg {p ply v} (h : KeepsForm s t) : KeepsForm s (Machine.writeRingCfg p ply v t) :=
  .ite h.spCfg ((KeepsForm.ite h (.ite h.setF h.setF)).branch id (fun h => h.stageSpLen))

theorem KeepsForm.writeSpPtr {p ply v} (h : KeepsForm s t) : KeepsForm s (Machine.writeSpPtr p ply v t) := by
  unfold Machine.writeSpPtr
  refine .ite ?_ ?_
  · refine .ite ?_ ?_
    · exact h.spCfg
    · split
      · exact .ite h.setF.onPort.setF.setF h.setF
      · exact h.setF
  · exact .ite h.spCfg h.setF

theorem KeepsForm.writeSpBase {p off v} (h : KeepsForm s t) : KeepsForm s (Machine.writeSpBase p off v t) :=
  .ite h.spCfg (.ite h h.setReg)

theorem KeepsForm.allRingEnables (h : KeepsForm s t) : KeepsForm s (Machine.allRingEnables t) := h.foldl (fun h => .ite h h.onPort)

theorem KeepsForm.schedulePort {p out start shot trig} (h : KeepsForm s t) : KeepsForm s (Machine.schedulePort p out start shot trig t)
    := by
  unfold Machine.schedulePort
  exact h.setF.onPort

theorem KeepsForm.startRefused {p out st} (h : KeepsForm s t) : KeepsForm s (Machine.startRefused p out st t) := .ite h.raise h

theorem KeepsForm.writeDirEn {p out en} (h : KeepsForm s t) : KeepsForm s (Machine.writeDirEn p out en t) :=
  .ite h (.ite h.startRefused h.schedulePort)

theorem KeepsForm.writeSpCtrl {p v} (h : KeepsForm s t) : KeepsForm s (Machine.writeSpCtrl p v t) :=
  h.writeDirEn.writeDirEn.setF.setF.setF

theorem KeepsForm.writeSpReg {p off v} (h : KeepsForm s t) : KeepsForm s (Machine.writeSpReg p off v t) :=
  .ite h.writePortCfg (.ite h.writeSpCtrl (.ite h.writeMask (.ite h.writeMask (.ite h.writeRingCfg (.ite h.writeRingCfg (.ite
    h.writeSpPtr (.ite h.writeSpPtr (.ite h.writeSpBase h))))))))

/-! ### The network ports -/

theorem KeepsForm.netCfg (h : KeepsForm s t) : KeepsForm s (Machine.netCfg t) := h.raiseOpen

theorem KeepsForm.onNPort {p f} (h : KeepsForm s t) : KeepsForm s (Machine.onNPort p f t) := h.onNet

theorem KeepsForm.onNRing {tx r f} (h : KeepsForm s t) : KeepsForm s (Machine.onNRing tx r f t) := h.onNet

theorem KeepsForm.onCtx {c f} (h : KeepsForm s t) : KeepsForm s (Machine.onCtx c f t) := h.onNet

theorem KeepsForm.incCtx {c k n} (h : KeepsForm s t) : KeepsForm s (Machine.incCtx c k n t) := h.onCtx

theorem KeepsForm.takeBuf {b} (h : KeepsForm s t) : KeepsForm s (Machine.takeBuf b t).2 := by
  unfold Machine.takeBuf
  dsimp only
  exact h.onFree.onNet

theorem KeepsForm.drawBufs {n b l} (h : KeepsForm s t) (e : Machine.drawBufs n b t = some (l, u)) : KeepsForm s u := by
  unfold Machine.drawBufs at e
  split at e
  · cases e
  · refine .of_snd (.foldl_snd h fun {acc x} h => ?_) (Option.some.inj e)
    split
    exact h.takeBuf.of_snd ‹_›

theorem KeepsForm.dropBufs {l} (h : KeepsForm s t) : KeepsForm s (Machine.dropBufs l t) := h.onNet

theorem KeepsForm.ownBufs {l own} (h : KeepsForm s t) : KeepsForm s (Machine.ownBufs l own t) := h.onNet

theorem KeepsForm.storeFrame {bytes l} (h : KeepsForm s t) : KeepsForm s (Machine.storeFrame bytes l t) := h.foldl (fun h => h.writeBytes)

theorem KeepsForm.writeDone {r status descs} (h : KeepsForm s t) : KeepsForm s (Machine.writeDone r status descs t) :=
  .ite h (h.foldl (fun h => h.out))

theorem KeepsForm.passHead {r k} (h : KeepsForm s t) : KeepsForm s (Machine.passHead r k t) := by
  induction k generalizing t with
  | zero => exact h
  | succ k ih =>
    unfold Machine.passHead
    split
    · exact .ite (ih h.onNRing.setF) h
    · exact h

theorem KeepsForm.finishTx {r status f} (h : KeepsForm s t) : KeepsForm s (Machine.finishTx r status f t) :=
  h.writeDone.setIrq.onNRing.passHead

theorem KeepsForm.completeTx {r id status} (h : KeepsForm s t) : KeepsForm s (Machine.completeTx r id status t) := by
  unfold Machine.completeTx
  split
  · exact h
  · exact .ite h (.ite h.dropBufs.finishTx h.dropBufs.onNRing)

theorem KeepsForm.discardEg {f status} (h : KeepsForm s t) : KeepsForm s (Machine.discardEg f status t) := by
  unfold Machine.discardEg
  split
  · exact h.completeTx
  · exact h.dropBufs

theorem KeepsForm.dropDown {p f} (h : KeepsForm s t) : KeepsForm s (Machine.dropDown p t f) :=
  KeepsForm.discardEg (.ite h.incF.incF h.incF)

theorem KeepsForm.enqueueEg {p f} (h : KeepsForm s t) : KeepsForm s (Machine.enqueueEg p f t) := .ite h.onNPort h.dropDown

theorem KeepsForm.ptpQueue {p m} (h : KeepsForm s t) : KeepsForm s (Machine.ptpQueue p m t) := by
  unfold Machine.ptpQueue
  dsimp only [Machine.fresh]
  split
  · exact h.onFree
  · exact (h.onFree.drawBufs ‹_›).storeFrame.enqueueEg

theorem KeepsForm.ptpLeft {p bytes t'} (h : KeepsForm s t) : KeepsForm s (Machine.ptpLeft p bytes t' t) := by
  unfold Machine.ptpLeft
  split
  · exact h
  · refine .ite ?_ ?_
    · exact h.ptpQueue
    · refine .ite ?_ ?_
      · split
        · exact .ite h h.onPtp
        · exact h
      · exact h

theorem KeepsForm.sendNext {p preempted} (h : KeepsForm s t) : KeepsForm s (Machine.sendNext p preempted t) := by
  unfold Machine.sendNext
  dsimp only
  refine .ite ?_ ?_
  · exact h
  · split
    · exact h
    · split
      · exact .ite (KeepsForm.completeTx (.ite (KeepsForm.incF (.ite (KeepsForm.out (.ite h.onNPort.incF h.onNPort)).countTx.incF
          (KeepsForm.out (.ite h.onNPort.incF h.onNPort)).countTx)) (.ite (KeepsForm.out (.ite h.onNPort.incF h.onNPort)).countTx.incF
          (KeepsForm.out (.ite h.onNPort.incF h.onNPort)).countTx))) (.ite (KeepsForm.incF (.ite (KeepsForm.out (.ite h.onNPort.incF
          h.onNPort)).countTx.incF (KeepsForm.out (.ite h.onNPort.incF h.onNPort)).countTx)) (.ite (KeepsForm.out (.ite h.onNPort.incF
          h.onNPort)).countTx.incF (KeepsForm.out (.ite h.onNPort.incF h.onNPort)).countTx))
      · exact .ite (KeepsForm.dropBufs (.ite (KeepsForm.incF (.ite (KeepsForm.out (.ite h.onNPort.incF h.onNPort)).countTx.incF
          (KeepsForm.out (.ite h.onNPort.incF h.onNPort)).countTx)) (.ite (KeepsForm.out (.ite h.onNPort.incF h.onNPort)).countTx.incF
          (KeepsForm.out (.ite h.onNPort.incF h.onNPort)).countTx))).incCtx.onCtx.countG (.ite (KeepsForm.dropBufs (.ite (KeepsForm.incF
          (.ite (KeepsForm.out (.ite h.onNPort.incF h.onNPort)).countTx.incF (KeepsForm.out (.ite h.onNPort.incF h.onNPort)).countTx))
          (.ite (KeepsForm.out (.ite h.onNPort.incF h.onNPort)).countTx.incF (KeepsForm.out (.ite h.onNPort.incF
          h.onNPort)).countTx))).ptpLeft (KeepsForm.dropBufs (.ite (KeepsForm.incF (.ite (KeepsForm.out (.ite h.onNPort.incF
          h.onNPort)).countTx.incF (KeepsForm.out (.ite h.onNPort.incF h.onNPort)).countTx)) (.ite (KeepsForm.out (.ite h.onNPort.incF
          h.onNPort)).countTx.incF (KeepsForm.out (.ite h.onNPort.incF h.onNPort)).countTx))))

theorem KeepsForm.execFrameTransmitDone {p preempted} (h : KeepsForm s t) : KeepsOut s (Machine.execFrameTransmitDone p preempted t) :=
  KeepsForm.finish (.ite h.sendNext h)

theorem KeepsForm.dropFirst {p f count} (h : KeepsForm s t) (hc : ∀ {u}, KeepsForm s u → KeepsForm s (count u)) :
    KeepsForm s (Machine.dropFirst p f count t) := by
  unfold Machine.dropFirst
  dsimp only
  split
  · split
    · exact (hc h.onNPort).discardEg
    · exact h
  · exact h

theorem KeepsForm.execTcDrop {p} (h : KeepsForm s t) : KeepsOut s (Machine.execTcDrop p t) :=
  KeepsForm.finish (.ite (h.dropFirst (fun h => h.incF)) h)

theorem KeepsForm.execTxLate {p} (h : KeepsForm s t) : KeepsOut s (Machine.execTxLate p t) :=
  KeepsForm.finish (.ite (h.dropFirst (fun h => h.incF)) h)

theorem KeepsForm.loseCtx {c} (h : KeepsForm s t) : KeepsForm s (Machine.loseCtx c t) :=
  .ite h (KeepsForm.onCtx (.ite h.onCtx.dropBufs h)).raise

theorem KeepsForm.linkUp {p} (h : KeepsForm s t) : KeepsForm s (Machine.linkUp p t) := .ite h.setF.raise h

theorem KeepsForm.linkDown {p} (h : KeepsForm s t) : KeepsForm s (Machine.linkDown p t) := by
  unfold Machine.linkDown
  dsimp only
  exact .ite h ((h.setF.setF.onNPort.foldl fun h => h.dropDown).foldl fun h => .ite h.loseCtx h).raise

theorem KeepsForm.execPauseReceived {p q} (h : KeepsForm s t) : KeepsOut s (Machine.execPauseReceived p q t) :=
  KeepsForm.finish (.ite (.ite h.incF (.ite h.incF.setF.mgmtFlush h.incF.setF)) h)

theorem KeepsForm.execPauseExpiry {p} (h : KeepsForm s t) : KeepsOut s (Machine.execPauseExpiry p t) :=
  KeepsForm.finish (.ite (.ite h.setF.mgmtFlush h.setF) h)

theorem KeepsForm.execPauseBroken {p} (h : KeepsForm s t) : KeepsOut s (Machine.execPauseBroken p t) :=
  KeepsForm.finish (.ite h.setF.incF.onNPort h)

theorem KeepsForm.execPreemptVerify {p ok} (h : KeepsForm s t) : KeepsOut s (Machine.execPreemptVerify p ok t) :=
  KeepsForm.finish (.ite (.ite h.onNPort.setF h.onNPort) h)

theorem KeepsForm.writePreempt {p en} (h : KeepsForm s t) : KeepsForm s (Machine.writePreempt p en t) := .ite h h.setF.setF.onNPort

theorem KeepsForm.writePcfg {p v} (h : KeepsForm s t) : KeepsForm s (Machine.writePcfg p v t) :=
  .ite h.netCfg (h.writePreempt.setF.setF.setF.setF.branch (fun h => h.unitReset.unitReset.linkDown) id)

theorem KeepsForm.execBridgeAgeOut {mac} (h : KeepsForm s t) : KeepsOut s (Machine.execBridgeAgeOut mac t) := h.onNet.finish

theorem KeepsForm.learnMac {m p} (h : KeepsForm s t) : KeepsForm s (Machine.learnMac m p t) := .ite h.onNet (.ite h.incF h.onNet)

theorem KeepsForm.dropRxDescs {r p} (h : KeepsForm s t) : KeepsForm s (Machine.dropRxDescs r p t) := by
  unfold Machine.dropRxDescs
  exact h.dropBufs.onNet

theorem KeepsForm.rxAdvance {r} (h : KeepsForm s t) : KeepsForm s (Machine.rxAdvance r t) := by
  unfold Machine.rxAdvance
  refine .ite ?_ ?_
  · exact h.setF
  · split
    · exact h.setF
    · exact h.setF.onNRing.setF.setF.dropRxDescs

theorem KeepsForm.deliverHost {p l bufs} (h : KeepsForm s t) : KeepsForm s (Machine.deliverHost p l bufs t) :=
  .ite h.incF.dropBufs (h.foldl (fun h => h.out.ownBufs.onNet.rxAdvance)).setIrq

theorem KeepsForm.tcForward {p dests l} (h : KeepsForm s t) (e : Machine.tcForward p dests l t = some u) : KeepsForm s u := by
  obtain ⟨⟨is, v⟩, hv, rfl⟩ := Option.map_eq_some_iff.1 e
  exact (h.drawBufs hv).storeFrame.foldl fun h => h.enqueueEg

theorem KeepsForm.ptpAnswer {p l o} (h : KeepsForm s t) : KeepsForm s (Machine.ptpAnswer p l o t) := .ite h.ptpQueue h

theorem KeepsForm.ptpArrives {p l o} (h : KeepsForm s t) : KeepsForm s (Machine.ptpArrives p l o t) := by
  unfold Machine.ptpArrives
  extract_lets t1 own dests mark
  have h1 : KeepsForm s t1 := .ite h.incF h
  have hm : ∀ {b v}, KeepsForm s v → KeepsForm s (mark b v) := fun h => .ite h.onNPort h
  split
  · exact hm h1.incF
  · rename_i v e
    have hv : KeepsForm s v := by
      split at e
      · split at e
        · cases e; exact h1
        · cases e
      · exact h1.tcForward e
    exact .ite (hm hv).ptpAnswer hv

theorem KeepsForm.classify {p l} (h : KeepsForm s t) : KeepsForm s (Machine.classify p l t) := by
  unfold Machine.classify
  extract_lets t1 dests c host users cls
  have h1 : KeepsForm s t1 := .ite h.learnMac h
  refine .ite (.ite h1 h1.incF) ?_
  split
  · exact h1.ptpArrives
  · refine .ite h1 ?_
    split
    · exact .ite h1.incF.incF h1.incF
    · rename_i is u e
      extract_lets t2 pcp t3 t4
      have h3 : KeepsForm s t3 := (h1.drawBufs e).storeFrame.foldl fun h => h.enqueueEg
      have h4 : KeepsForm s t4 := by
        unfold t4
        clear_value c
        split
        · exact h3.onNet
        · exact h3
      exact .ite h4.deliverHost h4

theorem KeepsForm.receiveCheck {p maxf l frag} (h : KeepsForm s t) : KeepsForm s (Machine.receiveCheck p maxf l frag t).2 :=
  .iteSnd h.incF (.iteSnd h.incF (.iteSnd h.incF (.iteSnd h.incF (KeepsForm.inc64 (.ite h.countG h)).inc64)))

theorem KeepsForm.execMpFrameReceived {p l frag} (h : KeepsForm s t) : KeepsOut s (Machine.execMpFrameReceived p l frag t) :=
  KeepsForm.finish (.ite (.ite h.receiveCheck.classify h.receiveCheck) h)

theorem KeepsForm.execMgmtFrameReceived {l} (h : KeepsForm s t) : KeepsOut s (Machine.execMgmtFrameReceived l t) := by
  unfold Machine.execMgmtFrameReceived
  refine .finish ?_
  split
  refine .ite ?_ ?_
  · exact (h.receiveCheck.of_snd ‹_›)
  · refine .ite ?_ ?_
    · exact (h.receiveCheck.of_snd ‹_›).incF
    · refine .ite ?_ ?_
      · exact .ite (h.receiveCheck.of_snd ‹_›) (h.receiveCheck.of_snd ‹_›).incF
      · split
        split
        · exact ((h.receiveCheck.of_snd ‹_›).onFree.of_snd ‹_›).mgmtOut
        · exact .ite ((h.receiveCheck.of_snd ‹_›).onFree.of_snd ‹_›) ((h.receiveCheck.of_snd ‹_›).onFree.of_snd ‹_›).incF

theorem KeepsForm.hbufAlloc (h : KeepsForm s t) : KeepsForm s (Machine.hbufAlloc t).2 := by
  unfold Machine.hbufAlloc
  split
  · exact (h.drawBufs ‹_›)
  · exact h

theorem KeepsForm.hbufFree {v} (h : KeepsForm s t) : KeepsForm s (Machine.hbufFree v t) := .ite h.dropBufs h.netCfg

theorem KeepsForm.execHbufAlloc (h : KeepsForm s t) : KeepsOut s (Machine.execHbufAlloc t) :=
  (KeepsForm.out (.iteSnd h.hbufAlloc h)).finish

theorem KeepsForm.execHbufFree {v} (h : KeepsForm s t) : KeepsOut s (Machine.execHbufFree v t) := KeepsForm.finish (.ite h.hbufFree h)

theorem KeepsForm.txFrame {r err ds} (h : KeepsForm s t) : KeepsForm s (Machine.txFrame r err ds t) :=
  .ite h.onNet.ownBufs.onNRing.incF.completeTx (.ite h.onNet.ownBufs.onNRing.incF.completeTx (h.onNet.ownBufs.onNRing.foldl (fun h =>
    h.enqueueEg)))

theorem KeepsForm.txPump {r k} (h : KeepsForm s t) : KeepsForm s (Machine.txPump r k t) := by
  induction k generalizing t with
  | zero => exact h
  | succ k ih =>
    unfold Machine.txPump
    refine .ite h ?_
    dsimp only
    split
    · exact ih h.onNRing.txFrame
    · exact .ite h (ih h.onNRing.txFrame)

theorem KeepsForm.resumeTx {r} (h : KeepsForm s t) : KeepsForm s (Machine.resumeTx r t) := by
  unfold Machine.resumeTx
  refine .txPump (h.foldl fun {u x} h => ?_)
  split
  · exact h.finishTx
  · exact h

theorem KeepsForm.writeTxTail {r v ds} (h : KeepsForm s t) : KeepsForm s (Machine.writeTxTail r v ds t) := by
  unfold Machine.writeTxTail
  refine .ite ?_ ?_
  · exact h.netCfg
  · refine .txPump ?_
    split
    · exact .ite h.setF.onNRing.onNRing.setF.setF h.setF.onNRing
    · exact h.setF.onNRing

theorem KeepsForm.writeRxTail {r v} (h : KeepsForm s t) : KeepsForm s (Machine.writeRxTail r v t) := .ite h.netCfg h.setF.dropRxDescs

theorem KeepsForm.resetTx {r} (h : KeepsForm s t) : KeepsForm s (Machine.resetTx r t) := by
  unfold Machine.resetTx
  refine KeepsForm.setF (.setF (.foldl (.onNRing (.dropBufs (.writeDone (h.foldl fun h => ?_)))) fun h => h.onNPort))
  split
  · exact h.writeDone
  · exact h.writeDone.dropBufs

theorem KeepsForm.resetRx {r} (h : KeepsForm s t) : KeepsForm s (Machine.resetRx r t) := h.dropRxDescs.setF.setF

theorem KeepsForm.writeNetLen {tx r v} (h : KeepsForm s t) : KeepsForm s (Machine.writeNetLen tx r v t) :=
  .ite h.netCfg (KeepsForm.onNRing (.ite h.setF.setF h.setF.setF))

theorem KeepsForm.writeNetCtrl {tx r v} (h : KeepsForm s t) : KeepsForm s (Machine.writeNetCtrl tx r v t) :=
  (KeepsForm.ite (.ite h.resetTx h.resetRx) h).branch (fun h => h.setF.txPump) (fun h => h.setF)

theorem KeepsForm.execTxtailWrite {r v ds} (h : KeepsForm s t) : KeepsOut s (Machine.execTxtailWrite r v ds t) :=
  KeepsForm.finish (.ite h.writeTxTail h)

theorem KeepsForm.execRxtailWrite {r v} (h : KeepsForm s t) : KeepsOut s (Machine.execRxtailWrite r v t) :=
  KeepsForm.finish (.ite h.writeRxTail h)

theorem KeepsForm.execTxRingReset {r} (h : KeepsForm s t) : KeepsOut s (Machine.execTxRingReset r t) :=
  KeepsForm.finish (.ite h.resetTx h)

theorem KeepsForm.execRxRingReset {r} (h : KeepsForm s t) : KeepsOut s (Machine.execRxRingReset r t) :=
  KeepsForm.finish (.ite h.resetRx h)

theorem KeepsForm.execNetRingLenWrite {tx r v} (h : KeepsForm s t) : KeepsOut s (Machine.execNetRingLenWrite tx r v t) :=
  KeepsForm.finish (.ite h.writeNetLen h)

/-! ### Streams -/

theorem KeepsForm.streamRelease {c} (h : KeepsForm s t) : KeepsForm s (Machine.streamRelease c t) :=
  .ite h (.ite (.ite h.onCtx h) (.ite h.onCtx (.ite h.onCtx h.onCtx)))

theorem KeepsForm.startCtx {c} (h : KeepsForm s t) : KeepsForm s (Machine.startCtx c t) := by
  unfold Machine.startCtx
  refine .ite ?_ ?_
  · exact h
  · refine .ite ?_ ?_
    · split
      · exact h.raise
      · exact h
    · exact (KeepsForm.onCtx (.ite h.onFab.onNet.onCs h.onFab.onNet)).streamRelease

theorem KeepsForm.stopCtx {c} (h : KeepsForm s t) : KeepsForm s (Machine.stopCtx c t) :=
  .ite h h.onFab.onNet.dropBufs.dropBufs.onNet.onCtx

theorem KeepsForm.actCtx {c start} (h : KeepsForm s t) : KeepsForm s (Machine.actCtx c start t) :=
  h.onNet.foldl (fun h => .ite h.startCtx h.stopCtx)

theorem KeepsForm.execStreamStartAct {c} (h : KeepsForm s t) : KeepsOut s (Machine.execStreamStartAct c t) :=
  KeepsForm.finish (.ite h.actCtx h)

theorem KeepsForm.stopStreams (h : KeepsForm s t) : KeepsForm s (Machine.stopStreams t) := h.onNet.foldl (fun h => h.stopCtx)

theorem KeepsForm.execAsrcLock {kind i lock} (h : KeepsForm s t) : KeepsOut s (Machine.execAsrcLock kind i lock t) := by
  unfold Machine.execAsrcLock
  refine .finish ?_
  split
  · exact .ite h.portAsrc h
  · exact .ite h.portAsrc h
  · exact .ite h.onCtx h

theorem KeepsForm.seqStep {c seq} (h : KeepsForm s t) : KeepsForm s (Machine.seqStep c seq t) := by
  unfold Machine.seqStep
  split
  · exact h.onCtx
  · exact .ite h.incCtx.onCtx h

theorem KeepsForm.acceptCtx {c} (h : KeepsForm s t) : KeepsForm s (Machine.acceptCtx c t) := h.incCtx.onCtx.countG

theorem KeepsForm.placeLocked {c m xs bufs} (h : KeepsForm s t) : KeepsForm s (Machine.placeLocked c m xs bufs t) :=
  .ite h.incCtx.dropBufs ((KeepsForm.ite h.incCtx h).branch (fun h => h.dropBufs) (fun h => h.onCtx)).acceptCtx

theorem KeepsForm.placeConv {c t' bufs} (h : KeepsForm s t) : KeepsForm s (Machine.placeConv c t' bufs t) :=
  .ite h.incCtx.dropBufs ((KeepsForm.ite h.incCtx h).branch (fun h => h.dropBufs) (fun h => h.onCtx)).acceptCtx

theorem KeepsForm.packetAccept {c pos} (h : KeepsForm s t) : KeepsForm s (Machine.packetAccept c pos t) := by
  unfold Machine.packetAccept
  split
  · exact h
  · refine .ite ?_ ?_
    · exact h.onNet.dropBufs
    · split
      · exact .ite h.onNet.incCtx.dropBufs (.ite h.onNet.seqStep.placeConv h.onNet.seqStep.onCtx.placeLocked)
      · exact h.onNet.incCtx.dropBufs

theorem KeepsForm.lockedBlk {c k base} (h : KeepsForm s t) : KeepsForm s (Machine.lockedBlk c k base t).2 := by
  unfold Machine.lockedBlk
  refine .foldl_snd2 h fun {acc x} h => ?_
  dsimp only
  split
  · exact h.delivered
  · exact h.concealSamples

theorem KeepsForm.convBlk {c k play} (h : KeepsForm s t) : KeepsForm s (Machine.convBlk c k play t).2 := by
  unfold Machine.convBlk
  extract_lets u key flags r
  have hr : KeepsForm s r.2 := .foldl_snd h fun h => .iteSnd h.fresh.delivered h.concealSamples
  split
  rename_i clip t2 e2
  exact (KeepsForm.iteSnd hr.fresh hr.pair).of_snd e2

theorem KeepsForm.convNeed {c} (h : KeepsForm s t) : KeepsForm s (Machine.convNeed c t).2 := h.onFree

theorem KeepsForm.convStep {c} (h : KeepsForm s t) : KeepsForm s (Machine.convStep c t).2 := by
  unfold Machine.convStep
  dsimp only
  exact .iteSnd h (.iteSnd h.incCtx.onCtx.pair (.iteSnd h.convNeed.onCtx.pair h.convNeed.incCtx.onCtx.pair))

theorem KeepsForm.streamBlock {c} (h : KeepsForm s t) : KeepsForm s (Machine.streamBlock c t) :=
  .ite h (.ite (h.onCtx.foldl (fun h => h.putBlk)) ((KeepsForm.foldl (.iteSnd h.convStep h) (fun h => KeepsForm.putBlk (.iteSnd h.convBlk
    h.lockedBlk))).branch id (fun h => h.incCtx)).onCtx.dropBufs)

theorem KeepsForm.execStreamBlockWrite {c} (h : KeepsForm s t) : KeepsOut s (Machine.execStreamBlockWrite c t) :=
  KeepsForm.finish (.ite h.streamBlock h)

theorem KeepsForm.allStreamInputs (h : KeepsForm s t) : KeepsForm s (Machine.allStreamInputs t) := h.foldl (fun h => h.streamBlock)

theorem KeepsForm.allStreamReleases (h : KeepsForm s t) : KeepsForm s (Machine.allStreamReleases t) := h.foldl (fun h => h.streamRelease)

theorem KeepsForm.packetSend {c} (h : KeepsForm s t) : KeepsForm s (Machine.packetSend c t) := by
  unfold Machine.packetSend
  extract_lets u
  refine .ite h (.ite h ?_)
  split
  rename_i rows t1 e1
  have h1 : KeepsForm s t1 := by
    refine .of_snd (.iteSnd (.foldl_snd h fun {acc x} h => ?_) h.pair) e1
    split
    exact h.freshN.of_snd ‹_›
  dsimp only [Machine.fresh]
  split
  · exact h1.onFree.incCtx.onCtx.incF
  · exact (h1.onFree.incCtx.onCtx.drawBufs ‹_›).storeFrame.enqueueEg

theorem KeepsForm.execStreamPacketSend {c} (h : KeepsForm s t) : KeepsOut s (Machine.execStreamPacketSend c t) :=
  KeepsForm.finish (.ite h.packetSend h)

theorem KeepsForm.writeNetReg {off v} (h : KeepsForm s t) : KeepsForm s (Machine.writeNetReg off v t) := by
  unfold Machine.writeNetReg
  refine .ite ?_ ?_
  · exact h.writePcfg
  · refine .ite ?_ ?_
    · exact .ite h.netCfg h.setReg
    · refine .ite ?_ ?_
      · exact .ite h.netCfg (.ite h h.setReg)
      · refine .ite ?_ ?_
        · exact .ite h.netCfg (.ite h h.setReg)
        · refine .ite ?_ ?_
          · exact h.hbufFree
          · refine .ite ?_ ?_
            · exact .ite h.netCfg h.setReg
            · refine .ite ?_ ?_
              · split
                · exact .ite h h.setReg
                · exact h.setReg
                · exact h.writeNetLen
                · exact .ite h.writeTxTail h.writeRxTail
                · exact h.writeNetCtrl
                · exact h
              · exact h

/-! ### Dailies -/

theorem KeepsForm.onLane {l f} (h : KeepsForm s t) : KeepsForm s (Machine.onLane l f t) := h.onDl

theorem KeepsForm.dlCfg {n} (h : KeepsForm s t) : KeepsForm s (Machine.dlCfg n t) := h.raise

theorem KeepsForm.dlCfgOpen (h : KeepsForm s t) : KeepsForm s (Machine.dlCfgOpen t) := h.raiseOpen

theorem KeepsForm.showUnset {l now} (h : KeepsForm s t) : KeepsForm s (Machine.showUnset l now t) := h.setF

theorem KeepsForm.unsettle {l first n} (h : KeepsForm s t) : KeepsForm s (Machine.unsettle l first n t) := h.onLane.showUnset.setF

theorem KeepsForm.writeDlCk {c v} (h : KeepsForm s t) : KeepsForm s (Machine.writeDlCk c v t) := by
  unfold Machine.writeDlCk
  extract_lets en used t1
  refine .ite (.ite h.dlCfg (.ite h h.setF.releasePin)) (.ite ?_ h.setF)
  split
  rename_i st t2 e
  have h2 : KeepsForm s t2 := .of_snd (.claimPin h.setF) e
  exact .ite h2.setF h2

theorem KeepsForm.startLane {l} (h : KeepsForm s t) : KeepsForm s (Machine.startLane l t) :=
  .ite h (.ite (KeepsForm.setF (.ite h.raise h)) h.setF.claimPin.onCs.onLane.unsettle)

theorem KeepsForm.stopLane {l} (h : KeepsForm s t) : KeepsForm s (Machine.stopLane l t) := .ite h.setF h.setF.setF.setF.onLane.releasePin

theorem KeepsForm.laneRefused {l st} (h : KeepsForm s t) : KeepsForm s (Machine.laneRefused l st t) := .ite h.raise h

theorem KeepsForm.scheduleLane {l start shot trig} (h : KeepsForm s t) : KeepsForm s (Machine.scheduleLane l start shot trig t) :=
  h.setF.onDl

theorem KeepsForm.writeDlLane {l v} (h : KeepsForm s t) : KeepsForm s (Machine.writeDlLane l v t) :=
  .ite h.dlCfg ((KeepsForm.ite h h.setReg).branch id (fun h => .ite h.laneRefused h.scheduleLane))

theorem KeepsForm.actLane {l start} (h : KeepsForm s t) : KeepsForm s (Machine.actLane l start t) :=
  h.onDl.foldl (fun h => .ite h.startLane h.stopLane)

theorem KeepsForm.execLaneStartAct {l} (h : KeepsForm s t) : KeepsOut s (Machine.execLaneStartAct l t) :=
  KeepsForm.finish (.ite h.actLane h)

theorem KeepsForm.execLaneStopAct {l} (h : KeepsForm s t) : KeepsOut s (Machine.execLaneStopAct l t) :=
  KeepsForm.finish (.ite h.actLane h)

theorem KeepsForm.stopLanes (h : KeepsForm s t) : KeepsForm s (Machine.stopLanes t) := h.onDl.foldl (fun h => h.stopLane)

theorem KeepsForm.commitLanes (h : KeepsForm s t) : KeepsForm s (Machine.commitLanes t) :=
  h.foldl (fun h => .ite h (h.setF.onLane.branch (fun h => h.unsettle) id))

theorem KeepsForm.revertLanes (h : KeepsForm s t) : KeepsForm s (Machine.revertLanes t) := h.foldl (fun h => h.setReg)

theorem KeepsForm.execDlLost {l pos} (h : KeepsForm s t) : KeepsOut s (Machine.execDlLost l pos t) :=
  KeepsForm.finish (.ite h.onLane.setF.incF.raise h)

theorem KeepsForm.execDlReturn {l pos} (h : KeepsForm s t) : KeepsOut s (Machine.execDlReturn l pos t) :=
  KeepsForm.finish (.ite h.onLane.unsettle h)

theorem KeepsForm.execDlSettled {l} (h : KeepsForm s t) : KeepsOut s (Machine.execDlSettled l t) := KeepsForm.finish (.ite h.setF h)

theorem KeepsForm.execDlCkEnWrite {c v} (h : KeepsForm s t) : KeepsOut s (Machine.execDlCkEnWrite c v t) :=
  KeepsForm.finish (.ite h.writeDlCk h)

theorem KeepsForm.execDlLaneEnWrite {l v} (h : KeepsForm s t) : KeepsOut s (Machine.execDlLaneEnWrite l v t) :=
  KeepsForm.finish (.ite h.writeDlLane h)

theorem KeepsForm.chainTs {l from_ x} (h : KeepsForm s t) : KeepsForm s (Machine.chainTs l from_ x t).2 := by
  unfold Machine.chainTs
  dsimp only
  exact h.onLane

theorem KeepsForm.laneSamples {l m k acc} (h : KeepsForm s t) : KeepsForm s (Machine.laneSamples l m k acc t).2 := by
  induction k generalizing m acc t with
  | zero => exact h
  | succ k ih =>
    unfold Machine.laneSamples
    dsimp only [Machine.fresh]
    refine .iteSnd (ih (.concealSamples (.chainTs ?_))) (ih (.delivered (.chainTs ?_)))
    all_goals
      split
      · exact h.onFree.onLane.pair
      · exact h.onFree.pair

theorem KeepsForm.laneBlock {l} (h : KeepsForm s t) : KeepsForm s (Machine.laneBlock l t) :=
  .ite h (KeepsForm.onLane (.ite h.laneSamples.incF h.laneSamples)).showUnset.putBlk

theorem KeepsForm.allLaneInputs (h : KeepsForm s t) : KeepsForm s (Machine.allLaneInputs t) := h.foldl (fun h => h.laneBlock)

theorem KeepsForm.onPoint {i f} (h : KeepsForm s t) : KeepsForm s (Machine.onPoint i f t) := h.onDl

theorem KeepsForm.meterApply (h : KeepsForm s t) : KeepsForm s (Machine.meterApply t) := by
  unfold Machine.meterApply
  exact ((h.foldl (fun h => .ite h.onPoint h)).foldl (fun h => h.onPoint)).onDl

theorem KeepsForm.execMeterSetApply (h : KeepsForm s t) : KeepsOut s (Machine.execMeterSetApply t) := h.meterApply.finish

theorem KeepsForm.meterFeed (h : KeepsForm s t) : KeepsForm s (Machine.meterFeed t) := .ite h (h.foldl (fun h => h.onPoint))

theorem KeepsForm.frameStart (h : KeepsForm s t) : KeepsForm s (Machine.frameStart t) := by
  unfold Machine.frameStart
  split
  · exact h
  · exact .ite h.onDl.incF.onDl h.onDl.onDl

theorem KeepsForm.execMeterFrameStart (h : KeepsForm s t) : KeepsOut s (Machine.execMeterFrameStart t) := h.frameStart.finish

theorem KeepsForm.frameComplete (h : KeepsForm s t) : KeepsForm s (Machine.frameComplete t) := by
  unfold Machine.frameComplete
  split
  · exact h
  · exact .ite h.incF.onDl (.ite h.out.setF.onDl.setF.setIrq h.out.setF.onDl.setF)

theorem KeepsForm.execMeterFrameComplete (h : KeepsForm s t) : KeepsOut s (Machine.execMeterFrameComplete t) := h.frameComplete.finish

theorem KeepsForm.writeMctrl {v} (h : KeepsForm s t) : KeepsForm s (Machine.writeMctrl v t) :=
  .ite h.dlCfgOpen (.ite h.setReg (.ite h.setReg.onDl h.setReg.onDl))

theorem KeepsForm.writeDlReg {off v} (h : KeepsForm s t) : KeepsForm s (Machine.writeDlReg off v t) :=
  .ite h.writeDlCk (.ite h.writeDlLane (.ite h.writeMctrl (.ite (.ite h.dlCfgOpen (.ite h h.setReg.onDl)) (.ite (.ite h.dlCfgOpen (.ite h
    h.setReg.onDl)) (.ite (.ite h.dlCfgOpen h.setReg) (.ite (.ite h.dlCfgOpen h.setReg) (.ite (.ite h.dlCfgOpen h.setReg) (.ite (.ite
    h.dlCfgOpen h.setReg) h))))))))

/-! ### Operands -/

theorem KeepsForm.drainBuf {e isY} (h : KeepsForm s t) : KeepsForm s (Machine.drainBuf e isY t) :=
  .ite h.storeCells.onEngine h.storeCells.onEngine

theorem KeepsForm.putBuf {e isY o} (h : KeepsForm s t) : KeepsForm s (Machine.putBuf e isY o t) := h.onEngine

theorem KeepsForm.memBefore {e isY loads} (h : KeepsForm s t) : KeepsForm s (Machine.memBefore e isY loads t) := by
  unfold Machine.memBefore
  refine .ite ?_ ?_
  · exact .ite h.drainBuf h
  · refine .ite ?_ ?_
    · split
      · exact h.drainBuf.putBuf
      · exact h.drainBuf
    · exact h.storeCells

theorem KeepsForm.stallCycle {e isY} (h : KeepsForm s t) : KeepsForm s (Machine.stallCycle e isY t) := h.memBefore.onEngine

theorem KeepsForm.memAfter {e isY loads} (h : KeepsForm s t) : KeepsForm s (Machine.memAfter e isY loads t) := by
  unfold Machine.memAfter
  split
  · exact h.putBuf
  · exact h

theorem KeepsForm.pushStores {e sts} (h : KeepsForm s t) : KeepsForm s (Machine.pushStores e sts t) := h.onEngine

/-! ### Engines -/

theorem KeepsForm.startRecast {le src tgt auto} (h : KeepsForm s t) : KeepsForm s (Machine.startRecast le src tgt auto t) := by
  unfold Machine.startRecast
  exact h.setF.onTake

theorem KeepsForm.autoRecast {le} (h : KeepsForm s t) : KeepsForm s (Machine.autoRecast le t) := by
  unfold Machine.autoRecast
  refine .ite ?_ ?_
  · exact h.onTake
  · split
    · exact .ite h h.startRecast
    · exact h

theorem KeepsForm.releaseRecasts (h : KeepsForm s t) : KeepsForm s (Machine.releaseRecasts t) :=
  .ite h (h.onTake.foldl (fun h => h.autoRecast))

theorem KeepsForm.noteExc {e n k pc} (h : KeepsForm s t) : KeepsForm s (Machine.noteExc e n k pc t) := .ite h.orF.setF.setF.setF h.orF

theorem KeepsForm.noteBudget {e n} (h : KeepsForm s t) : KeepsForm s (Machine.noteBudget e n t) := .ite h.onTask.raise h

theorem KeepsForm.tagCount {e r} (h : KeepsForm s t) : KeepsForm s (Machine.tagCount e r t) :=
  .ite h ((KeepsForm.ite h h.onPcn).branch (fun h => h.onPcn.onPcn) (fun h => h.onPcn))

theorem KeepsForm.stopAt {e k gone} (h : KeepsForm s t) : KeepsForm s (Machine.stopAt e k gone t) := by
  unfold Machine.stopAt
  split
  · exact h
  · exact h.countE.countE.tagCount.branch (fun h => h.noteExc.raise.endRunning.onEngine.autoRecast) (fun h =>
      h.noteExc.raise.endRunning.quarantine)

theorem KeepsForm.stopTask {e k} (h : KeepsForm s t) : KeepsForm s (Machine.stopTask e k t) := h.stopAt

theorem KeepsForm.stopEcc {e fetch w} (h : KeepsForm s t) : KeepsForm s (Machine.stopEcc e fetch w t) := h.engDouble.stopAt

theorem KeepsForm.arith {e n pc newG} (h : KeepsForm s t) : KeepsForm s (Machine.arith e n pc newG t) :=
  .ite h.noteExc h.noteExc.onEngine.raise

theorem KeepsForm.retire {e n pc exc stall kind buf more} (h : KeepsForm s t) : KeepsForm s (Machine.retire e n pc exc stall kind buf
    more t) :=
  h.chargeTask.tagCount.countE.countE.countE.countE

theorem KeepsForm.idleMem {e k} (h : KeepsForm s t) : KeepsForm s (Machine.idleMem e k t) := .ite h h.drainBuf.drainBuf

theorem KeepsForm.pushHist {e p} (h : KeepsForm s t) : KeepsForm s (Machine.pushHist e p t) := h.onEngine

theorem KeepsForm.eccNote {e n ecc} (h : KeepsForm s t) : KeepsForm s (Machine.eccNote e n ecc t) := by
  unfold Machine.eccNote
  split
  · exact h.foldl (fun h => h.engFixed)
  · exact h

theorem KeepsForm.runShort {d e ecc} (h : KeepsForm s t) : KeepsForm s (Machine.runShort d e ecc t) := by
  unfold Machine.runShort
  refine .ite h ?_
  split
  · exact h
  extract_lets b u w o x y t1 own legal ax ay inRange ldX ldY st t2 stX stY t3 t4
  have h1 : KeepsForm s t1 := h.eccNote
  have h3 : KeepsForm s t3 := h1.idleMem.branch (fun h => h.stallCycle) fun h => .ite h.stallCycle h
  have h4 : KeepsForm s t4 := h3.memBefore.memBefore
  clear_value t4
  split
  · exact h1.stopEcc
  refine .ite h1.stopTask (.ite h1.stopTask ?_)
  split
  · exact h1.stopEcc
  split
  extract_lets b2 b3 b4 b5 b6 t5 t6 mask t7 inMask t8 t9 t10 t11
  have h6 : KeepsForm s t6 := h4.memAfter.memAfter.pushStores.onBank.pushHist
  have h7 : KeepsForm s t7 := by
    unfold t7
    clear_value own
    split
    · exact h6.drainBuf
    · exact h6
  have h11 : KeepsForm s t11 := (h7.retire.branch (fun h => h.countE) id).countE.countE
  exact .ite h11 h11.arith

theorem KeepsForm.runLong {opc control legal uses exc eff e ecc} (h : KeepsForm s t) : KeepsForm s (Machine.runLong opc control legal
    uses exc eff e ecc t) := by
  unfold Machine.runLong
  refine .ite ?_ ?_
  · exact h
  · split
    · exact h
    · split
      · exact h.eccNote.stopEcc
      · refine .ite ?_ ?_
        · exact h.eccNote.stopTask
        · split
          · exact h.eccNote.stopTask
          · exact .ite h.eccNote.stopTask (h.eccNote.idleMem.memBefore.memBefore.pushStores.onBank.pushHist.idleMem.branch (fun h =>
              h.retire.countE.countE) (fun h => h.retire))

/-! ### Multiply and accumulate -/

theorem KeepsForm.execMpy {e ecc} (h : KeepsForm s t) : KeepsOut s (Machine.execMpy e ecc t) := h.runShort.finish

theorem KeepsForm.execMac {e ecc} (h : KeepsForm s t) : KeepsOut s (Machine.execMac e ecc t) := h.runShort.finish

theorem KeepsForm.execMns {e ecc} (h : KeepsForm s t) : KeepsOut s (Machine.execMns e ecc t) := h.runShort.finish

theorem KeepsForm.execMacn {e ecc} (h : KeepsForm s t) : KeepsOut s (Machine.execMacn e ecc t) := h.runShort.finish

theorem KeepsForm.execAclr {e ecc} (h : KeepsForm s t) : KeepsOut s (Machine.execAclr e ecc t) := h.runShort.finish

theorem KeepsForm.execAld {e ecc} (h : KeepsForm s t) : KeepsOut s (Machine.execAld e ecc t) := h.runShort.finish

theorem KeepsForm.execAldw {e ecc} (h : KeepsForm s t) : KeepsOut s (Machine.execAldw e ecc t) := h.runShort.finish

theorem KeepsForm.execAadd {e ecc} (h : KeepsForm s t) : KeepsOut s (Machine.execAadd e ecc t) := h.runShort.finish

theorem KeepsForm.execAsub {e ecc} (h : KeepsForm s t) : KeepsOut s (Machine.execAsub e ecc t) := h.runShort.finish

theorem KeepsForm.execAsh {e ecc} (h : KeepsForm s t) : KeepsOut s (Machine.execAsh e ecc t) := h.runShort.finish

theorem KeepsForm.execRnd {e ecc} (h : KeepsForm s t) : KeepsOut s (Machine.execRnd e ecc t) := h.runShort.finish

theorem KeepsForm.execTrn {e ecc} (h : KeepsForm s t) : KeepsOut s (Machine.execTrn e ecc t) := h.runShort.finish

theorem KeepsForm.execAmv {e ecc} (h : KeepsForm s t) : KeepsOut s (Machine.execAmv e ecc t) := h.runShort.finish

/-! ### The ALU -/

theorem KeepsForm.execAdd {e ecc} (h : KeepsForm s t) : KeepsOut s (Machine.execAdd e ecc t) := h.runShort.finish

theorem KeepsForm.execAdds {e ecc} (h : KeepsForm s t) : KeepsOut s (Machine.execAdds e ecc t) := h.runShort.finish

theorem KeepsForm.execSub {e ecc} (h : KeepsForm s t) : KeepsOut s (Machine.execSub e ecc t) := h.runShort.finish

theorem KeepsForm.execSubs {e ecc} (h : KeepsForm s t) : KeepsOut s (Machine.execSubs e ecc t) := h.runShort.finish

theorem KeepsForm.execAnd {e ecc} (h : KeepsForm s t) : KeepsOut s (Machine.execAnd e ecc t) := h.runShort.finish

theorem KeepsForm.execOr {e ecc} (h : KeepsForm s t) : KeepsOut s (Machine.execOr e ecc t) := h.runShort.finish

theorem KeepsForm.execXor {e ecc} (h : KeepsForm s t) : KeepsOut s (Machine.execXor e ecc t) := h.runShort.finish

theorem KeepsForm.execShl {e ecc} (h : KeepsForm s t) : KeepsOut s (Machine.execShl e ecc t) := h.runShort.finish

theorem KeepsForm.execShls {e ecc} (h : KeepsForm s t) : KeepsOut s (Machine.execShls e ecc t) := h.runShort.finish

theorem KeepsForm.execShr {e ecc} (h : KeepsForm s t) : KeepsOut s (Machine.execShr e ecc t) := h.runShort.finish

theorem KeepsForm.execAsr {e ecc} (h : KeepsForm s t) : KeepsOut s (Machine.execAsr e ecc t) := h.runShort.finish

theorem KeepsForm.execAbs {e ecc} (h : KeepsForm s t) : KeepsOut s (Machine.execAbs e ecc t) := h.runShort.finish

theorem KeepsForm.execNeg {e ecc} (h : KeepsForm s t) : KeepsOut s (Machine.execNeg e ecc t) := h.runShort.finish

theorem KeepsForm.execMin {e ecc} (h : KeepsForm s t) : KeepsOut s (Machine.execMin e ecc t) := h.runShort.finish

theorem KeepsForm.execMax {e ecc} (h : KeepsForm s t) : KeepsOut s (Machine.execMax e ecc t) := h.runShort.finish

theorem KeepsForm.execClz {e ecc} (h : KeepsForm s t) : KeepsOut s (Machine.execClz e ecc t) := h.runShort.finish

theorem KeepsForm.execCmp {e ecc} (h : KeepsForm s t) : KeepsOut s (Machine.execCmp e ecc t) := h.runShort.finish

theorem KeepsForm.execMov {e ecc} (h : KeepsForm s t) : KeepsOut s (Machine.execMov e ecc t) := h.runShort.finish

theorem KeepsForm.execAddi {e ecc} (h : KeepsForm s t) : KeepsOut s (Machine.execAddi e ecc t) := h.runShort.finish

theorem KeepsForm.execAddis {e ecc} (h : KeepsForm s t) : KeepsOut s (Machine.execAddis e ecc t) := h.runShort.finish

theorem KeepsForm.execAndi {e ecc} (h : KeepsForm s t) : KeepsOut s (Machine.execAndi e ecc t) := h.runShort.finish

theorem KeepsForm.execOri {e ecc} (h : KeepsForm s t) : KeepsOut s (Machine.execOri e ecc t) := h.runShort.finish

theorem KeepsForm.execXori {e ecc} (h : KeepsForm s t) : KeepsOut s (Machine.execXori e ecc t) := h.runShort.finish

theorem KeepsForm.execCmpi {e ecc} (h : KeepsForm s t) : KeepsOut s (Machine.execCmpi e ecc t) := h.runShort.finish

/-! ### Other instructions -/

theorem KeepsForm.execSel {e ecc} (h : KeepsForm s t) : KeepsOut s (Machine.execSel e ecc t) := h.runShort.finish

theorem KeepsForm.execLog2 {e ecc} (h : KeepsForm s t) : KeepsOut s (Machine.execLog2 e ecc t) := h.runShort.finish

theorem KeepsForm.execExp2 {e ecc} (h : KeepsForm s t) : KeepsOut s (Machine.execExp2 e ecc t) := h.runShort.finish

theorem KeepsForm.execDivs {e ecc} (h : KeepsForm s t) : KeepsOut s (Machine.execDivs e ecc t) := h.runShort.finish

theorem KeepsForm.execTli {e ecc} (h : KeepsForm s t) : KeepsOut s (Machine.execTli e ecc t) := h.runShort.finish

theorem KeepsForm.execMova {e ecc} (h : KeepsForm s t) : KeepsOut s (Machine.execMova e ecc t) := h.runShort.finish

theorem KeepsForm.execAdda {e ecc} (h : KeepsForm s t) : KeepsOut s (Machine.execAdda e ecc t) := h.runShort.finish

theorem KeepsForm.execMvda {e ecc} (h : KeepsForm s t) : KeepsOut s (Machine.execMvda e ecc t) := h.runShort.finish

theorem KeepsForm.execMvad {e ecc} (h : KeepsForm s t) : KeepsOut s (Machine.execMvad e ecc t) := h.runShort.finish

theorem KeepsForm.execRdpc {e ecc} (h : KeepsForm s t) : KeepsOut s (Machine.execRdpc e ecc t) := h.runShort.finish

/-! ### Control flow of engines -/

theorem KeepsForm.runLdi {e ecc} (h : KeepsForm s t) : KeepsForm s (Machine.runLdi e ecc t) := h.runLong

theorem KeepsForm.runBra {e ecc} (h : KeepsForm s t) : KeepsForm s (Machine.runBra e ecc t) := h.runLong

theorem KeepsForm.runBall {e ecc} (h : KeepsForm s t) : KeepsForm s (Machine.runBall e ecc t) := h.runLong

theorem KeepsForm.runBany {e ecc} (h : KeepsForm s t) : KeepsForm s (Machine.runBany e ecc t) := h.runLong

theorem KeepsForm.runCall {e ecc} (h : KeepsForm s t) : KeepsForm s (Machine.runCall e ecc t) := h.runLong

theorem KeepsForm.runRet {e ecc} (h : KeepsForm s t) : KeepsForm s (Machine.runRet e ecc t) := h.runLong

theorem KeepsForm.runLoop {e ecc} (h : KeepsForm s t) : KeepsForm s (Machine.runLoop e ecc t) := h.runLong

theorem KeepsForm.runLoopu {e ecc} (h : KeepsForm s t) : KeepsForm s (Machine.runLoopu e ecc t) := h.runLong

theorem KeepsForm.endOver {e n} (h : KeepsForm s t) : KeepsForm s (Machine.endOver e n t) := h.noteBudget.endRunning

theorem KeepsForm.runSwitch {opc e ecc} (h : KeepsForm s t) : KeepsForm s (Machine.runSwitch opc e ecc t).1 := by
  unfold Machine.runSwitch
  split
  · exact h
  · split
    · exact h
    · dsimp only
      split
      · exact h.eccNote.stopEcc
      · split
        · exact h.eccNote.stopTask
        · exact h.eccNote.memBefore.memBefore.pushStores.retire.countE

theorem KeepsForm.runEnd {e ecc} (h : KeepsForm s t) : KeepsForm s (Machine.runEnd e ecc t) := by
  unfold Machine.runEnd
  split
  · exact h.runSwitch.of_fst ‹_›
  · exact (h.runSwitch.of_fst ‹_›).countE.endOver

theorem KeepsForm.runYield {e ecc} (h : KeepsForm s t) : KeepsForm s (Machine.runYield e ecc t) := by
  unfold Machine.runYield
  split
  · exact h.runSwitch.of_fst ‹_›
  · rename_i t1 n e1
    have h0 : KeepsForm s t1 := h.runSwitch.of_fst e1
    extract_lets t2
    have h1 : KeepsForm s t2 := h0.countE
    exact .ite h1.endOver
      (h1.noteBudget.onBank.setAside.vacate.branch (fun h => h.enterReady) fun h => h.issueList.serveStaging).afterEnd

theorem KeepsForm.runReserved {e ecc} (h : KeepsForm s t) : KeepsForm s (Machine.runReserved e ecc t) := by
  unfold Machine.runReserved
  split
  · exact h
  · split
    · exact h.eccNote.stopEcc
    · exact h.eccNote.stopTask

theorem KeepsForm.runAny {e ecc} (h : KeepsForm s t) : KeepsForm s (Machine.runAny e ecc t) := by
  unfold Machine.runAny
  dsimp only
  split
  · exact h.runShort
  · split
    · exact h.runLdi
    · exact h.runBra
    · exact h.runBall
    · exact h.runBany
    · exact h.runCall
    · exact h.runRet
    · exact h.runLoop
    · exact h.runLoopu
    · exact h.runYield
    · exact h.runEnd
    · exact h.runReserved

theorem KeepsForm.stepEngine {e} (h : KeepsForm s t) : KeepsForm s (Machine.stepEngine e t) := .ite h.setF.runAny.onEngine.setF h

theorem KeepsForm.execNop {e ecc} (h : KeepsForm s t) : KeepsOut s (Machine.execNop e ecc t) :=
  KeepsForm.finish (.ite h.runReserved h.runShort)

theorem KeepsForm.execLdi {e ecc} (h : KeepsForm s t) : KeepsOut s (Machine.execLdi e ecc t) := h.runLdi.finish

theorem KeepsForm.execBra {e ecc} (h : KeepsForm s t) : KeepsOut s (Machine.execBra e ecc t) := h.runBra.finish

theorem KeepsForm.execBall {e ecc} (h : KeepsForm s t) : KeepsOut s (Machine.execBall e ecc t) := h.runBall.finish

theorem KeepsForm.execBany {e ecc} (h : KeepsForm s t) : KeepsOut s (Machine.execBany e ecc t) := h.runBany.finish

theorem KeepsForm.execCall {e ecc} (h : KeepsForm s t) : KeepsOut s (Machine.execCall e ecc t) := h.runCall.finish

theorem KeepsForm.execRet {e ecc} (h : KeepsForm s t) : KeepsOut s (Machine.execRet e ecc t) := h.runRet.finish

theorem KeepsForm.execLoop {e ecc} (h : KeepsForm s t) : KeepsOut s (Machine.execLoop e ecc t) := h.runLoop.finish

theorem KeepsForm.execLoopu {e ecc} (h : KeepsForm s t) : KeepsOut s (Machine.execLoopu e ecc t) := h.runLoopu.finish

theorem KeepsForm.execYield {e ecc} (h : KeepsForm s t) : KeepsOut s (Machine.execYield e ecc t) := h.runYield.finish

theorem KeepsForm.execEnd {e ecc} (h : KeepsForm s t) : KeepsOut s (Machine.execEnd e ecc t) := h.runEnd.finish

theorem KeepsForm.execStoreBufferDrain {e isY} (h : KeepsForm s t) : KeepsOut s (Machine.execStoreBufferDrain e isY t) :=
  KeepsForm.finish (.ite h.drainBuf h)

theorem KeepsForm.execTagInstruction {e task pc total stall cause disc exc} (h : KeepsForm s t) : KeepsOut s (Machine.execTagInstruction
    e task pc total stall cause disc exc t) :=
  KeepsForm.finish (.ite h.setF.setF.setF.setF.setF.onPcn.countE h)

/-! ### Clocks -/

theorem KeepsForm.loopCount (h : KeepsForm s t) : KeepsForm s (Machine.loopCount t) := h.onClk

theorem KeepsForm.clkCfg (h : KeepsForm s t) : KeepsForm s (Machine.clkCfg t) := h.raiseOpen

theorem KeepsForm.setClk {state sel} (h : KeepsForm s t) : KeepsForm s (Machine.setClk state sel t) :=
  (KeepsForm.ite (.ite h.onBoot.setF.setF.setInc h.onBoot.setF.setF) (KeepsForm.onClk (.ite h.onBoot.setF.setF.setInc
    h.onBoot.setF.setF))).branch id (fun h => h.logEvent.notify)

theorem KeepsForm.showQs (h : KeepsForm s t) : KeepsForm s (Machine.showQs t) := h.foldl (fun h => h.setF)

theorem KeepsForm.clampSteer {x} (h : KeepsForm s t) : KeepsForm s (Machine.clampSteer x t).2 := .iteSnd h.setF (.ite h h.setF.raiseOpen)

theorem KeepsForm.evalHold (h : KeepsForm s t) : KeepsForm s (Machine.evalHold t) := by
  unfold Machine.evalHold
  exact h.clampSteer.onClk

theorem KeepsForm.latchHold (h : KeepsForm s t) : KeepsForm s (Machine.latchHold t) := by
  unfold Machine.latchHold
  exact h.setF.setF.onClk

theorem KeepsForm.cancelWtr (h : KeepsForm s t) : KeepsForm s (Machine.cancelWtr t) := h.setF.setF

theorem KeepsForm.startSwitch {k} (h : KeepsForm s t) : KeepsForm s (Machine.startSwitch k t) := h.setF.cancelWtr.onClk

theorem KeepsForm.leaveSel (h : KeepsForm s t) : KeepsForm s (Machine.leaveSel t) :=
  h.cancelWtr.setF.branch (fun h => h.setF.latchHold.evalHold.setClk.raiseOpen) (fun h => h.setClk)

theorem KeepsForm.reselect (h : KeepsForm s t) : KeepsForm s (Machine.reselect t) := by
  unfold Machine.reselect
  refine .ite ?_ ?_
  · exact h.showQs
  · refine .ite ?_ ?_
    · exact .ite h.showQs.startSwitch h.showQs.cancelWtr
    · refine .ite ?_ ?_
      · exact .ite (.ite h.showQs h.showQs.cancelWtr.setF.setClk) (.ite (.ite h.showQs.cancelWtr h.showQs.startSwitch) (.ite
          h.showQs.leaveSel h.showQs))
      · split
        · exact h.showQs.cancelWtr
        · exact .ite h.showQs.startSwitch (.ite h.showQs.cancelWtr (.ite h.showQs h.showQs.setF.setF))

theorem KeepsForm.unqualify {k} (h : KeepsForm s t) : KeepsForm s (Machine.unqualify k t) := h.setF.setF.setF.setF

theorem KeepsForm.startQual {k} (h : KeepsForm s t) : KeepsForm s (Machine.startQual k t) := .ite h.setF.setF h

theorem KeepsForm.followMarks (h : KeepsForm s t) : KeepsForm s (Machine.followMarks t) :=
  ((KeepsForm.ite (KeepsForm.setF (.ite h (h.setF.onClk.cancelWtr.foldl (fun h => h.unqualify)))).onClk (.ite h
    (h.setF.onClk.cancelWtr.foldl (fun h => h.unqualify)))).branch (fun h => h.leaveSel) id).reselect

theorem KeepsForm.unfollowMarks (h : KeepsForm s t) : KeepsForm s (Machine.unfollowMarks t) :=
  .ite (h.setF.onClk.foldl (fun h => h.startQual)).reselect h

theorem KeepsForm.loseSel (h : KeepsForm s t) : KeepsForm s (Machine.loseSel t) := h.leaveSel.reselect

theorem KeepsForm.dropCand {k} (h : KeepsForm s t) : KeepsForm s (Machine.dropCand k t) :=
  .ite h.loseSel (.ite h.setF.onClk.reselect h.reselect)

theorem KeepsForm.qualify {k} (h : KeepsForm s t) : KeepsForm s (Machine.qualify k t) := .ite h.setF.setF h

theorem KeepsForm.disqualify {k} (h : KeepsForm s t) : KeepsForm s (Machine.disqualify k t) :=
  (h.setF.setF.foldl (fun h => h.qualify)).incF.raise.startQual.dropCand

theorem KeepsForm.beginActivity {k adv} (h : KeepsForm s t) : KeepsForm s (Machine.beginActivity k adv t) :=
  .ite h.setF.onClk.startQual.showQs h

theorem KeepsForm.endActivity {k} (h : KeepsForm s t) : KeepsForm s (Machine.endActivity k t) :=
  .ite (h.setF.setF.setF.branch (fun h => h.setF.disqualify) (fun h => h.setF)) h

theorem KeepsForm.execCandidateActivity {k adv} (h : KeepsForm s t) : KeepsOut s (Machine.execCandidateActivity k adv t) :=
  h.beginActivity.finish

theorem KeepsForm.execActivityEnd {k} (h : KeepsForm s t) : KeepsOut s (Machine.execActivityEnd k t) :=
  KeepsForm.finish (.ite h h.endActivity)

theorem KeepsForm.freqUpdate {k ppm adv} (h : KeepsForm s t) : KeepsForm s (Machine.freqUpdate k ppm adv t) :=
  .ite h ((KeepsForm.ite h.onClk.setF.setF h.onClk.setF).branch (fun h => h.reselect) (fun h => .ite h.disqualify (.ite ((KeepsForm.ite
    h.onClk h).branch id (fun h => h.setF.incF.raise)).reselect h.setF.reselect)))

theorem KeepsForm.execFreqMonitorUpdate {k ppm adv} (h : KeepsForm s t) : KeepsOut s (Machine.execFreqMonitorUpdate k ppm adv t) :=
  h.freqUpdate.finish

theorem KeepsForm.candQualified {k} (h : KeepsForm s t) : KeepsForm s (Machine.candQualified k t) := .ite h.qualify.reselect h

theorem KeepsForm.execCandidateQualified {k} (h : KeepsForm s t) : KeepsOut s (Machine.execCandidateQualified k t) :=
  h.candQualified.finish

theorem KeepsForm.bufCand (h : KeepsForm s t) : KeepsForm s (Machine.bufCand t) := .ite h.beginActivity h.endActivity

theorem KeepsForm.stopAllStreams (h : KeepsForm s t) : KeepsForm s (Machine.stopAllStreams t) := h.stopStreams.bufCand

theorem KeepsForm.execStreamStopAct {c} (h : KeepsForm s t) : KeepsOut s (Machine.execStreamStopAct c t) :=
  KeepsForm.finish (.ite h.actCtx.bufCand h)

theorem KeepsForm.execStreamPacketAccept {c pos} (h : KeepsForm s t) : KeepsOut s (Machine.execStreamPacketAccept c pos t) :=
  KeepsForm.finish (.ite h.packetAccept.bufCand h)

theorem KeepsForm.execStreamLost {c} (h : KeepsForm s t) : KeepsOut s (Machine.execStreamLost c t) :=
  KeepsForm.finish (.ite h.loseCtx.bufCand h)

theorem KeepsForm.execWtrExpiry (h : KeepsForm s t) : KeepsOut s (Machine.execWtrExpiry t) := by
  unfold Machine.execWtrExpiry
  refine .finish ?_
  refine .ite ?_ ?_
  · split
    · exact .ite h.cancelWtr h.startSwitch
    · exact h.cancelWtr
  · exact h

theorem KeepsForm.buildSample (h : KeepsForm s t) : KeepsForm s (Machine.buildSample t) := by
  unfold Machine.buildSample
  refine .ite ?_ ?_
  · exact h
  · split
    · exact h.onClk
    · exact h.onClk
    · exact h

theorem KeepsForm.buildoutEnd {b} (h : KeepsForm s t) : KeepsForm s (Machine.buildoutEnd b t) := by
  unfold Machine.buildoutEnd
  split
  · exact h
  · exact .ite h (h.setF.onClk.setF.setF.setF.branch (fun h => h.setF.raiseOpen) id).setClk.loopCount.onClk.raise.reselect

theorem KeepsForm.execBuildoutEnd {b} (h : KeepsForm s t) : KeepsOut s (Machine.execBuildoutEnd b t) := h.buildoutEnd.finish

theorem KeepsForm.execAlignComplete (h : KeepsForm s t) : KeepsOut s (Machine.execAlignComplete t) := KeepsForm.finish (.ite h.setF h)

theorem KeepsForm.alignStep (h : KeepsForm s t) : KeepsForm s (Machine.alignStep t) := .ite h h.setF.onClk

theorem KeepsForm.countPhase {e} (h : KeepsForm s t) : KeepsForm s (Machine.countPhase e t) := by
  unfold Machine.countPhase
  exact h.onClk

theorem KeepsForm.steerUpdate {phase} (h : KeepsForm s t) : KeepsForm s (Machine.steerUpdate phase t) := by
  unfold Machine.steerUpdate
  refine .onClk (.setF (.alignStep ?_))
  split
  · exact h.setF
  · exact h
  · exact h
  · exact h.setF.countPhase.onFree.clampSteer

theorem KeepsForm.execSteerUpdate {phase} (h : KeepsForm s t) : KeepsOut s (Machine.execSteerUpdate phase t) := h.steerUpdate.finish

theorem KeepsForm.execLoopStep (h : KeepsForm s t) : KeepsOut s (Machine.execLoopStep t) :=
  KeepsForm.finish (.ite (KeepsForm.loopCount (.ite h.setF h.setClk)) h)

theorem KeepsForm.execClkUnlock (h : KeepsForm s t) : KeepsOut s (Machine.execClkUnlock t) :=
  KeepsForm.finish (.ite h.setF.setClk.loopCount.raiseOpen h)

theorem KeepsForm.execHistoryEntry (h : KeepsForm s t) : KeepsOut s (Machine.execHistoryEntry t) := h.setF.onClk.finish

theorem KeepsForm.execHoldoverSteerEval (h : KeepsForm s t) : KeepsOut s (Machine.execHoldoverSteerEval t) :=
  KeepsForm.finish (.ite h.incF.evalHold h)

theorem KeepsForm.execClkLost (h : KeepsForm s t) : KeepsOut s (Machine.execClkLost t) := KeepsForm.finish (.ite h.raise.setClk h)

theorem KeepsForm.execTempMeasure {u'} (h : KeepsForm s t) : KeepsOut s (Machine.execTempMeasure u' t) :=
  (h.setF.onClk.setF.onPin.branch (fun h => h.setF.raise) (fun h => .ite h.setF h)).finish

theorem KeepsForm.groupCands {g} (h : KeepsForm s t) : KeepsForm s (Machine.groupCands g t) := h.foldl (fun h => .ite h.endActivity h)

theorem KeepsForm.writeCand {k v} (h : KeepsForm s t) : KeepsForm s (Machine.writeCand k v t) :=
  .ite h (.ite h.raise ((KeepsForm.ite h.setReg.bufCand (.ite h.setReg.endActivity h.setReg)).branch (fun h => h.unqualify.dropCand) (fun
    h => .ite h.startQual.reselect h.reselect)))

theorem KeepsForm.execCandidateCfgWrite {k v} (h : KeepsForm s t) : KeepsOut s (Machine.execCandidateCfgWrite k v t) :=
  KeepsForm.finish (.ite h.writeCand h)

theorem KeepsForm.writeClkCtrl {v} (h : KeepsForm s t) : KeepsForm s (Machine.writeClkCtrl v t) := .ite h.clkCfg h.setReg.reselect

theorem KeepsForm.execForceWrite {v} (h : KeepsForm s t) : KeepsOut s (Machine.execForceWrite v t) :=
  KeepsForm.finish (.ite h.writeClkCtrl h)

theorem KeepsForm.mclkOut {on} (h : KeepsForm s t) : KeepsForm s (Machine.mclkOut on t) := .ite h h.out

theorem KeepsForm.writeMclk {v} (h : KeepsForm s t) : KeepsForm s (Machine.writeMclk v t) := by
  unfold Machine.writeMclk
  extract_lets en t1
  refine .ite h.clkCfg (.ite (.ite h (.ite h.clkCfg h.setF.releasePin.mclkOut)) (.ite ?_ h.setF))
  split
  rename_i st t2 e
  have h2 : KeepsForm s t2 := .of_snd (.claimPin h.setF) e
  exact .ite h2.setF.mclkOut h2

theorem KeepsForm.execMclkEnWrite {v} (h : KeepsForm s t) : KeepsOut s (Machine.execMclkEnWrite v t) :=
  KeepsForm.finish (.ite h.writeMclk h)

theorem KeepsForm.writeClkReg {off v} (h : KeepsForm s t) : KeepsForm s (Machine.writeClkReg off v t) := by
  unfold Machine.writeClkReg
  split
  · exact h.writeClkCtrl
  · exact .ite h.setReg.onSti h.clkCfg
  · exact .ite h.setReg h.clkCfg
  · exact .ite h.setReg h.clkCfg
  · exact .ite h.setReg h.clkCfg
  · exact .ite h.setReg h.clkCfg
  · exact h.writeMclk
  · exact .ite h.writeCand h

/-! ### PTP -/

theorem KeepsForm.ptpCfg (h : KeepsForm s t) : KeepsForm s (Machine.ptpCfg t) := h.raiseOpen

theorem KeepsForm.servoLoss (h : KeepsForm s t) : KeepsForm s (Machine.servoLoss t) :=
  .ite h.onPtp.setF.onPtp.incF.raiseOpen.endActivity h.onPtp

theorem KeepsForm.setPortState {st} (h : KeepsForm s t) : KeepsForm s (Machine.setPortState st t) := .ite h.setF.servoLoss h.setF

theorem KeepsForm.ptpSync (h : KeepsForm s t) : KeepsForm s (Machine.ptpSync t) :=
  .ite (.ite h h.setPortState) (.ite h.setPortState (.ite h.setPortState h))

theorem KeepsForm.ptpTake {f} (h : KeepsForm s t) (hf : ∀ {u}, KeepsForm s u → KeepsForm s (f u)) :
    KeepsForm s (Machine.ptpTake f t) :=
  .ite (hf h.onNPort) (.ite h.onNPort.incF h.onNPort)

theorem KeepsForm.execSyncReceived {twoStep t1 corr} (h : KeepsForm s t) : KeepsOut s (Machine.execSyncReceived twoStep t1 corr t) :=
  (h.ptpTake (fun h => .ite h.onPtp h)).finish

theorem KeepsForm.servoSteer {th} (h : KeepsForm s t) : KeepsForm s (Machine.servoSteer th t) := .ite h h.onFree.setInc

theorem KeepsForm.measured {th} (h : KeepsForm s t) : KeepsForm s (Machine.measured th t) :=
  (KeepsForm.ite h.onPtp.stepCounter.setF.incF.raiseOpen h.onPtp).branch (fun h => .ite h.onPtp.servoLoss h.onPtp.servoSteer) (fun h =>
    .ite h.onPtp.setF.beginActivity h.onPtp)

theorem KeepsForm.formMeas {m t1 t4 cdreq} (h : KeepsForm s t) : KeepsForm s (Machine.formMeas m t1 t4 cdreq t) :=
  .ite h.onPtp h.onPtp.setF.setF.measured

theorem KeepsForm.stepMeas {m} (h : KeepsForm s t) : KeepsForm s (Machine.stepMeas m t) := by
  unfold Machine.stepMeas
  split
  · exact h.formMeas
  · exact h.onPtp

theorem KeepsForm.followUp {t1 corr} (h : KeepsForm s t) : KeepsForm s (Machine.followUp t1 corr t) := by
  unfold Machine.followUp
  dsimp only
  refine .ite ?_ ?_
  · split
    · exact .ite h.onPtp.stepMeas h.onPtp
    · exact h.onPtp
  · exact h

theorem KeepsForm.execFollowUpReceived {t1 corr} (h : KeepsForm s t) : KeepsOut s (Machine.execFollowUpReceived t1 corr t) :=
  (h.ptpTake (fun h => h.followUp)).finish

theorem KeepsForm.delayResp {t4 cdreq} (h : KeepsForm s t) : KeepsForm s (Machine.delayResp t4 cdreq t) := by
  unfold Machine.delayResp
  split
  · exact .ite h.stepMeas h
  · exact h

theorem KeepsForm.execDelayRespReceived {t4 cdreq} (h : KeepsForm s t) : KeepsOut s (Machine.execDelayRespReceived t4 cdreq t) :=
  (h.ptpTake (fun h => h.delayResp)).finish

theorem KeepsForm.announce {parent gm cls acc var_ utcValid utc st} (h : KeepsForm s t) : KeepsForm s (Machine.announce parent gm cls acc
    var_ utcValid utc st t) :=
  .ite h ((KeepsForm.ite (KeepsForm.setPortState (.ite h.incF.servoLoss h)).onPtp (KeepsForm.setPortState (.ite h.incF.servoLoss
    h))).branch id (fun h => (h.setF.setF.setF.setF.setF.branch (fun h => h.setF.setF) id).reselect))

theorem KeepsForm.execAnnounceReceived {parent gm cls acc var_ utcValid utc st} (h : KeepsForm s t) : KeepsOut s
    (Machine.execAnnounceReceived parent gm cls acc var_ utcValid utc st t) :=
  (h.ptpTake (fun h => h.announce)).finish

theorem KeepsForm.execPtpLoss {cause st} (h : KeepsForm s t) : KeepsOut s (Machine.execPtpLoss cause st t) := by
  unfold Machine.execPtpLoss
  refine .finish ?_
  refine .ite ?_ ?_
  · exact h
  · split
    · exact h.setPortState
    · exact .ite h.servoLoss h
    · exact .ite h.setPortState h

theorem KeepsForm.ptpSend {kind} (h : KeepsForm s t) : KeepsForm s (Machine.ptpSend kind t) := by
  unfold Machine.ptpSend
  extract_lets
  refine .ite ?_ ?_
  · exact h
  · split
    split
    · exact (h.onFree.of_snd ‹_›)
    · exact (h.onFree.of_snd ‹_›).onPtp.ptpQueue

theorem KeepsForm.execPtpMessageSend {kind} (h : KeepsForm s t) : KeepsOut s (Machine.execPtpMessageSend kind t) := h.ptpSend.finish

theorem KeepsForm.boundaryPhase (h : KeepsForm s t) : KeepsForm s (Machine.boundaryPhase t) := .ite h.onPtp h

theorem KeepsForm.incReturn (h : KeepsForm s t) : KeepsForm s (Machine.incReturn t) := .ite h (.ite h h.onPtp.setInc)

theorem KeepsForm.boundaryTime (h : KeepsForm s t) : KeepsForm s (Machine.boundaryTime t) := by
  unfold Machine.boundaryTime
  refine .buildSample (.boundaryPhase (.incReturn (.onPtp ?_)))
  split
  · exact h.onPtp.setF
  · exact h

theorem KeepsForm.execLinkUp {p} (h : KeepsForm s t) : KeepsOut s (Machine.execLinkUp p t) := KeepsForm.finish (.ite h.linkUp.ptpSync h)

theorem KeepsForm.execLinkDown {p} (h : KeepsForm s t) : KeepsOut s (Machine.execLinkDown p t) :=
  KeepsForm.finish (.ite h.linkDown.bufCand.ptpSync h)

theorem KeepsForm.execPreemptEnWrite {p v} (h : KeepsForm s t) : KeepsOut s (Machine.execPreemptEnWrite p v t) :=
  KeepsForm.finish (.ite h.writePcfg.ptpSync h)

theorem KeepsForm.writePtpCfg {v} (h : KeepsForm s t) : KeepsForm s (Machine.writePtpCfg v t) := .ite h.ptpCfg h.setReg.ptpSync

theorem KeepsForm.writePtpReg {off v} (h : KeepsForm s t) : KeepsForm s (Machine.writePtpReg off v t) := by
  unfold Machine.writePtpReg
  split
  · exact h.writePtpCfg
  · exact .ite h.setReg h.ptpCfg
  · exact .ite h.setReg h.ptpCfg
  · exact .ite h.setReg h.ptpCfg
  · exact .ite h.setReg h.ptpCfg
  · exact .ite h.setReg h.ptpCfg
  · exact h

/-! ### Faults -/

theorem KeepsForm.logScan (h : KeepsForm s t) : KeepsForm s (Machine.logScan t) := by
  unfold Machine.logScan
  exact h.setF.setF.setF.setF.onFlt

theorem KeepsForm.putRecord {off ws} (h : KeepsForm s t) : KeepsForm s (Machine.putRecord off ws t) := h.mramWrite.mramWrite.mramWrite

theorem KeepsForm.appendRecord {ws} (h : KeepsForm s t) : KeepsForm s (Machine.appendRecord ws t) :=
  h.incF.countG.branch (fun h => h.putRecord.setF.setF) (fun h => h.putRecord.setF.setF)

theorem KeepsForm.logNext (h : KeepsForm s t) : KeepsForm s (Machine.logNext t) := by
  unfold Machine.logNext
  split
  · exact h
  · exact .ite h.onFlt.onFlt.incF.countG (.ite h.onFlt.onFlt.appendRecord.notify h.onFlt.onFlt.appendRecord)

theorem KeepsForm.execLogRecordWrite (h : KeepsForm s t) : KeepsOut s (Machine.execLogRecordWrite t) :=
  KeepsForm.finish (.ite h h.logNext)

theorem KeepsForm.tokenGain {c} (h : KeepsForm s t) : KeepsForm s (Machine.tokenGain c t) := .ite h.onFlt.onFlt h.onFlt

theorem KeepsForm.execLogTokenGain {c} (h : KeepsForm s t) : KeepsOut s (Machine.execLogTokenGain c t) :=
  KeepsForm.finish (.ite h.tokenGain h)

theorem KeepsForm.tokenRestart {c} (h : KeepsForm s t) : KeepsForm s (Machine.tokenRestart c t) := h.onFlt

theorem KeepsForm.tokenDepth {c depth} (h : KeepsForm s t) : KeepsForm s (Machine.tokenDepth c depth t) := h.onFlt

theorem KeepsForm.eraseStart (h : KeepsForm s t) : KeepsForm s (Machine.eraseStart t) := h.setF.mramErase

theorem KeepsForm.eraseEnd (h : KeepsForm s t) : KeepsForm s (Machine.eraseEnd t) := h.putRecord.incF.countG.setF.setF.setF

theorem KeepsForm.execFaultMessage {src kind addr} (h : KeepsForm s t) : KeepsOut s (Machine.execFaultMessage src kind addr t) :=
  KeepsForm.finish (.ite h.raise h)

theorem KeepsForm.firstClear (h : KeepsForm s t) : KeepsForm s (Machine.firstClear t) := h.setReg.setF.setF.setF

theorem KeepsForm.inject {src kind} (h : KeepsForm s t) : KeepsForm s (Machine.inject src kind t) := .ite h.onFlt h

/-! ### Staged configuration -/

theorem KeepsForm.noteStaged {e x bad} (h : KeepsForm s t) : KeepsForm s (Machine.noteStaged e x bad t) :=
  .ite (h.foldl (fun h => .ite h h.delivered)) h

theorem KeepsForm.concealStaged {e x j} (h : KeepsForm s t) : KeepsForm s (Machine.concealStaged e x j t) :=
  .ite h.concealSamples.writeWords h.concealSamples.writeWords.setWord

theorem KeepsForm.badEntry {e n x b} (h : KeepsForm s t) : KeepsForm s (Machine.badEntry e n x b t) :=
  .ite h (.ite (.ite h.engFixed h.engDouble) (.ite (.ite h.sramCorrected h.sramDouble.concealStaged) (.ite h.ddrEcc.concealStaged h)))

theorem KeepsForm.entryPath {e x m} (h : KeepsForm s t) : KeepsForm s (Machine.entryPath e x m t) := by
  unfold Machine.entryPath
  dsimp only
  exact .ite h (KeepsForm.countPath (.ite h.bankStalls.onFab h.bankStalls)).countG

theorem KeepsForm.noteBsws {n e off x} (h : KeepsForm s t) : KeepsForm s (Machine.noteBsws n e off x t) := .ite h h.onTask

theorem KeepsForm.landEntry {le m} (h : KeepsForm s t) : KeepsForm s (Machine.landEntry le m t) := by
  unfold Machine.landEntry
  split
  · exact h
  · extract_lets k ent t1 t2 t3
    have h1 : KeepsForm s t1 := by
      unfold t1
      split
      · exact (h.entryEffect.noteStaged.entryPath.foldl fun h => h.badEntry).branch (fun h => h.noteBsws) id
      · exact h
    have h3 : KeepsForm s t3 := h1.onCs.countG.branch (fun h => h.onCs.listLanded) fun h => h.onCs
    exact h3.serveStaging

theorem KeepsForm.execStagingEntryLand {le meet} (h : KeepsForm s t) : KeepsOut s (Machine.execStagingEntryLand le meet t) :=
  KeepsForm.finish (.ite h.landEntry h)

theorem KeepsForm.accept {e wait hold} (h : KeepsForm s t) : KeepsForm s (Machine.accept e wait hold t) := by
  unfold Machine.accept
  refine .ite ?_ ?_
  · exact h
  · split
    · exact h
    · refine .check (.countE (.addLoad (.startTask ?_)))
      split
      · exact h
      · exact .ite h.chargeTask.countE.noteBudget.endRunning h.chargeTask.noteBudget.setAside.incF.countE.countE

theorem KeepsForm.execDispatchAccept {e wait hold} (h : KeepsForm s t) : KeepsOut s (Machine.execDispatchAccept e wait hold t) :=
  h.accept.finish

theorem KeepsForm.execContextLoadDone {e} (h : KeepsForm s t) : KeepsOut s (Machine.execContextLoadDone e t) := by
  unfold Machine.execContextLoadDone
  refine .finish ?_
  refine .ite ?_ ?_
  · split
    · exact h
    · split
      · exact .ite h.onEngine h
      · exact h.onEngine
  · exact h

theorem KeepsForm.execContextSaveDone {e} (h : KeepsForm s t) : KeepsOut s (Machine.execContextSaveDone e t) :=
  KeepsForm.finish (.ite h.saveKept h)

theorem KeepsForm.execBudget {e} (h : KeepsForm s t) : KeepsOut s (Machine.execBudget e t) := by
  unfold Machine.execBudget
  refine .finish ?_
  refine .ite ?_ ?_
  · split
    · exact h
    · exact .ite h (.ite h.countE.noteBudget.endRunning h.noteBudget)
  · exact h

theorem KeepsForm.retireEngine {e} (h : KeepsForm s t) : KeepsForm s (Machine.retireEngine e t) := h.setF.addRepair.onEngine.raise

theorem KeepsForm.execSpareBist {e failmem} (h : KeepsForm s t) : KeepsOut s (Machine.execSpareBist e failmem t) :=
  KeepsForm.finish (.ite (.ite h.setF.setF.setF (.ite h.setF.setF.setF.retireEngine.autoRecast h.setF.setF.setF.retireEngine)) h)

theorem KeepsForm.putImage {e x img} (h : KeepsForm s t) : KeepsForm s (Machine.putImage e x img t) := h.foldl (fun h => h.writeWords)

theorem KeepsForm.loadTarget {le src tgt} (h : KeepsForm s t) : KeepsForm s (Machine.loadTarget le src tgt t) :=
  h.copyBytes.copyBytes.copyBytes.zeroBytes.zeroBytes.foldl (fun h => h.putImage)

theorem KeepsForm.execRecastLoadDone {x} (h : KeepsForm s t) : KeepsOut s (Machine.execRecastLoadDone x t) := by
  unfold Machine.execRecastLoadDone
  refine .finish ?_
  refine .ite ?_ ?_
  · split
    · exact h
    · exact (h.foldl (fun h => h.engFixed)).loadTarget.branch (fun h => h.setF.setF.setF.notify) (fun h => h.setF.setF.setF)
  · exact h

theorem KeepsForm.execCutRecastCopyDone {x} (h : KeepsForm s t) : KeepsOut s (Machine.execCutRecastCopyDone x t) := by
  unfold Machine.execCutRecastCopyDone
  dsimp only
  refine .finish ?_
  split
  · exact h
  · exact (h.foldl (fun h => h.engFixed)).copyBytes.copyBytes.onTake

theorem KeepsForm.leaveMapping {src} (h : KeepsForm s t) : KeepsForm s (Machine.leaveMapping src t) :=
  .ite h.setF.retireEngine h.setF.setF

/-! ### Reset -/

theorem KeepsForm.resetTo {cause} (h : KeepsForm s t) : KeepsForm s (Machine.resetTo cause t) := by
  unfold Machine.resetTo
  extract_lets bank leaseIn causes por life t1 src boot pin t2 t3 t4 t5
  have h1 : KeepsForm s t1 := h.abandonTake
  have h2 : KeepsForm s t2 := ⟨fun w => keptMem_wf t1.mem (h1.wf w), h1.queue⟩
  have h4 : KeepsForm s t4 := .ite h2.setF h2.setF.setReg
  exact h4.setF.out.out

/-! ### The Splice matrix -/

theorem KeepsForm.notePeakFades (h : KeepsForm s t) : KeepsForm s (Machine.notePeakFades t) := h.maxF

theorem KeepsForm.xpWrite {k g} (h : KeepsForm s t) : KeepsForm s (Machine.xpWrite k g t) := .ite h.onSpl h.onSpl

theorem KeepsForm.xpApply {k g} (h : KeepsForm s t) : KeepsForm s (Machine.xpApply k g t) :=
  .ite (KeepsForm.onSpl (.ite h.onSpl.incF h.onSpl)) h.onSpl

theorem KeepsForm.spliceApply (h : KeepsForm s t) : KeepsForm s (Machine.spliceApply t) :=
  (h.onSpl.foldl (fun h => h.xpApply)).branch (fun h => h.notePeakFades) (fun h => h.notePeakFades.setF.setF)

theorem KeepsForm.spliceCommit (h : KeepsForm s t) : KeepsForm s (Machine.spliceCommit t) := .ite h.onSpl.setF (.ite h.onSpl.setF h)

theorem KeepsForm.execMatrixTakeApply (h : KeepsForm s t) : KeepsOut s (Machine.execMatrixTakeApply t) := by
  unfold Machine.execMatrixTakeApply
  refine .finish ?_
  refine .ite ?_ ?_
  · split
    · exact .ite h.spliceApply h
    · exact h.spliceApply
  · exact h

theorem KeepsForm.passStart (h : KeepsForm s t) : KeepsForm s (Machine.passStart t) := h.onSpl.setF

theorem KeepsForm.tapIn {k bad} (h : KeepsForm s t) : KeepsForm s (Machine.tapIn k bad t).2 := by
  unfold Machine.tapIn
  dsimp only
  exact .iteSnd h.onCs.pair (KeepsForm.concealSamples (.ite h.delivered h))

theorem KeepsForm.tapsIn {l bad} (h : KeepsForm s t) : KeepsForm s (Machine.tapsIn l bad t).2 := by
  induction l generalizing t with
  | nil => exact h
  | cons x l ih => exact ih h.tapIn

/- `putBlk` stands as an opaque function here: the kernel would evaluate its block else. -/
theorem KeepsForm.writeSum {b p} (h : KeepsForm s t) : KeepsForm s (Machine.writeSum b p t) := by
  have hput : ∀ {a c x v}, KeepsForm s v → KeepsForm s (Machine.putBlk a c x v) := .putBlk
  obtain ⟨put, e⟩ := exists_eq' (a' := Machine.putBlk)
  generalize ew : Machine.writeSum = f
  delta Machine.writeSum at ew
  rw [e] at ew hput
  subst ew
  beta_reduce
  split
  extract_lets _ _ _ t2
  have h2 : KeepsForm s t2 := hput (.ite h.incF h)
  split
  · exact .ite h2.onStage h2
  · exact h2

theorem KeepsForm.ringSum {b l} (h : KeepsForm s t) : KeepsForm s (Machine.ringSum b l t) := .ite h.onRl.writeSum h.onRl.out

theorem KeepsForm.stepFades (h : KeepsForm s t) : KeepsForm s (Machine.stepFades t) := h.onSpl

theorem KeepsForm.passEnd {cyc taps gains} (h : KeepsForm s t) : KeepsForm s (Machine.passEnd cyc taps gains t) := by
  unfold Machine.passEnd
  extract_lets t1 badT badG keys used
  have h1 : KeepsForm s t1 := h.foldl fun h => h.sramError
  split
  rename_i blks t2 e2
  have h2 : KeepsForm s t2 := h1.tapsIn.of_snd e2
  extract_lets t3 t4 t5 t6 all t7 t8 t9 t10 t11
  have h3 : KeepsForm s t3 := h2.foldl fun h => .ite h.ringSum (.ite h h.writeSum)
  have h5 : KeepsForm s t5 := by
    unfold t5
    split
    · exact h3.onSpl.onSpl
    · exact h3.onSpl.onSpl
  have h9 : KeepsForm s t9 := h5.stepFades.setF.setF.maxF.countG
  have h10 : KeepsForm s t10 := .ite h9.countG.countG h9.countG
  exact .ite h10.setF h10.setF.setF

theorem KeepsForm.execMatrixPassEnd {cyc taps gains} (h : KeepsForm s t) : KeepsOut s (Machine.execMatrixPassEnd cyc taps gains t) :=
  KeepsForm.finish (.ite h.passEnd h)

/-! ### Takes -/

theorem KeepsForm.mirrorSend {kind words n} (h : KeepsForm s t) : KeepsForm s (Machine.mirrorSend kind words n t) :=
  .ite h (.ite h.out (.ite h.onSti (.ite h.onSti.raise h)))

theorem KeepsForm.commitEngine {e} (h : KeepsForm s t) : KeepsForm s (Machine.commitEngine e t) :=
  .ite h.onEngine.setF.setF.setF.onEngine h.onEngine

theorem KeepsForm.execEngineSlateCopyDone {x} (h : KeepsForm s t) : KeepsOut s (Machine.execEngineSlateCopyDone x t) :=
  KeepsForm.finish (.ite (h.foldl (fun h => h.engFixed)).copyBytes.onEngine.setF h)

theorem KeepsForm.mirrorPages {number more es} (h : KeepsForm s t) : KeepsForm s (Machine.mirrorPages number more es t) := h.mirrorSend

theorem KeepsForm.busCommit (h : KeepsForm s t) : KeepsForm s (Machine.busCommit t) := by
  unfold Machine.busCommit
  split
  · exact h
  · exact .ite h ((KeepsForm.foldl (.ite h.mirrorPages h) (fun h => h.commitEngine)).foldl (fun h => h.onTask)).onTake

theorem KeepsForm.execBusEngineCommit (h : KeepsForm s t) : KeepsOut s (Machine.execBusEngineCommit t) := by
  unfold Machine.execBusEngineCommit
  refine .finish ?_
  split
  · exact .ite h.busCommit.armBoundary h
  · exact h

theorem KeepsForm.copySlice {e x} (h : KeepsForm s t) : KeepsForm s (Machine.copySlice e x t) := by
  unfold Machine.copySlice
  exact h.putImage.onTake

theorem KeepsForm.copySlices {kind} (h : KeepsForm s t) : KeepsForm s (Machine.copySlices kind t) := by
  unfold Machine.copySlices
  refine .onTake (h.foldl fun {u x} h => ?_)
  split
  · exact h.copySlice
  · exact h

theorem KeepsForm.lockTake (h : KeepsForm s t) : KeepsForm s (Machine.lockTake t) := by
  unfold Machine.lockTake
  split
  · exact h
  · exact h.copySlices.onTake

theorem KeepsForm.execLockBoundary (h : KeepsForm s t) : KeepsOut s (Machine.execLockBoundary t) := by
  unfold Machine.execLockBoundary
  refine .finish ?_
  split
  · exact .ite (.ite h.abandonTake.raise h.lockTake) h
  · exact h

theorem KeepsForm.freeTask {n} (h : KeepsForm s t) : KeepsForm s (Machine.freeTask n t) := h.withdraw.onCs

theorem KeepsForm.enterLive {n} (h : KeepsForm s t) : KeepsForm s (Machine.enterLive n t) := h.onTask

theorem KeepsForm.commitLine {i} (h : KeepsForm s t) : KeepsForm s (Machine.commitLine i t) := by
  unfold Machine.commitLine
  dsimp only
  split
  · exact h
  · split
    · exact h.onLine.onLine
    · exact .ite h.onLine.onLine.sizeLineClaim h.onLine.releaseRange.onLine

theorem KeepsForm.commitPatches {cut} (h : KeepsForm s t) : KeepsForm s (Machine.commitPatches cut t) := by
  unfold Machine.commitPatches
  exact h.onTake

theorem KeepsForm.carryConceal {aff} (h : KeepsForm s t) : KeepsForm s (Machine.carryConceal aff t) := h.foldl (fun h => h.onCs)

theorem KeepsForm.commitGraph {kind bus} (h : KeepsForm s t) : KeepsForm s (Machine.commitGraph kind bus t) :=
  ((((KeepsForm.onTake (.ite ((h.foldl (fun h => h.onTask)).foldl (fun h => h.onTask)).carryConceal (h.foldl (fun h =>
    h.freeTask)))).foldl (fun h => h.setF)).foldl (fun h => h.enterLive.startOuts)).foldl (fun h => .ite h.onTask h)).showAdmit

theorem KeepsForm.commitWork {t'} (h : KeepsForm s t) : KeepsForm s (Machine.commitWork t' t) :=
  ((h.busCommit.mirrorPages.foldl (fun h => h.commitEngine)).onTake.commitPatches.commitGraph.foldl (fun h => h.commitLine)).branch (fun
    h => h.commitLanes.spliceCommit.setF) (fun h => h.commitLanes.spliceCommit)

theorem KeepsForm.commitTake {t'} (h : KeepsForm s t) : KeepsForm s (Machine.commitTake t' t) := h.commitWork.setF.logEvent.setIrq.notify

theorem KeepsForm.execTakeCommit (h : KeepsForm s t) : KeepsOut s (Machine.execTakeCommit t) := by
  unfold Machine.execTakeCommit
  refine .finish ?_
  split
  · exact .ite h.commitTake.armBoundary h
  · exact h

theorem KeepsForm.endDissolve {d} (h : KeepsForm s t) : KeepsForm s (Machine.endDissolve d t) :=
  ((h.foldl (fun h => h.freeTask)).onTake.foldl (fun h => h.leaveMapping.setF)).onStage.checkAll.showAdmit.notify

theorem KeepsForm.execDissolveEnd (h : KeepsForm s t) : KeepsOut s (Machine.execDissolveEnd t) := by
  unfold Machine.execDissolveEnd
  refine .finish ?_
  split
  · exact .ite h.endDissolve.armBoundary h
  · exact h

theorem KeepsForm.swapRecast {c} (h : KeepsForm s t) : KeepsForm s (Machine.swapRecast c t) :=
  .ite h.onTake h.onTake.leaveMapping.setF.setF.rearmTasks

theorem KeepsForm.execCutRecastSwap {le} (h : KeepsForm s t) : KeepsOut s (Machine.execCutRecastSwap le t) := by
  unfold Machine.execCutRecastSwap
  refine .finish ?_
  split
  · exact h.swapRecast.armBoundary
  · exact h

/-! ### Reads by the host -/

theorem KeepsForm.showSys {a} (h : KeepsForm s t) : KeepsForm s (Machine.showSys a t) := by
  unfold Machine.showSys
  split
  · split
    · exact .ite h h.setF
    · exact h.setF
    · exact h.setF.setF
    · exact h.setF
    · exact h
  · split
    · exact h.setF
    · exact h.setF.setF.setF
    · exact h.setF.setF
    · exact h.setF
    · exact h.setF.setF.setF.setF.setF
    · exact h.setF.setF
    · exact h.setF.setF
    · exact h.setF
    · exact h.setF
    · exact h.setF
    · exact h.setF
    · exact h.setF.setF.setF.setF
    · exact h

theorem KeepsForm.showMid {a} (h : KeepsForm s t) : KeepsForm s (Machine.showMid a t) := by
  unfold Machine.showMid
  refine .ite ?_ ?_
  · exact h.setF
  · refine .ite ?_ ?_
    · exact h.setF
    · refine .ite ?_ ?_
      · exact h.setF.setF.setF
      · refine .ite ?_ ?_
        · exact h.setF.setF.setF
        · refine .ite ?_ ?_
          · exact h.setF
          · split
            · exact h.setF
            · exact h.setF
            · exact h.setF
            · exact h.setF
            · exact h.setF.setF.setF.setF
            · exact h.setF
            · exact h.setF
            · exact h.setF
            · exact h.setF
            · exact .ite h.setF h

theorem KeepsForm.showSpl {a} (h : KeepsForm s t) : KeepsForm s (Machine.showSpl a t) := by
  unfold Machine.showSpl
  split
  · exact h.setF
  · exact h.setF
  · exact h.setF
  · exact h.setF
  · split
    · exact h.setReg
    · exact h.setF.setF.setF
  · split
    · exact h.setReg
    · exact h.setReg
  · exact h

theorem KeepsForm.showNet {a} (h : KeepsForm s t) : KeepsForm s (Machine.showNet a t) :=
  .ite h.setF.setF (.ite h.setReg (.ite h.setReg (.ite h.setReg h)))

theorem KeepsForm.showMem {a} (h : KeepsForm s t) : KeepsForm s (Machine.showMem a t) := by
  unfold Machine.showMem
  dsimp only
  split
  · exact h.setF
  · exact h.setF.setF
  · exact h.setReg
  · exact h.setReg
  · exact h.setReg
  · exact h.setF
  · exact h.setF.setF
  · exact .ite h.setReg h

theorem KeepsForm.showLow {a} (h : KeepsForm s t) : KeepsForm s (Machine.showLow a t) := by
  unfold Machine.showLow
  split
  · exact h.setF
  · exact h.setF
  · exact h.setF.setF.branch (fun h => h.setF) (fun h => h.onFree.setF)
  · exact h.setF.setF
  · exact h.setReg
  · exact h.setReg
  · exact h.setReg
  · exact .ite h.setF (.ite h.setF (.ite h.setReg h))

theorem KeepsForm.showReg {a} (h : KeepsForm s t) : KeepsForm s (Machine.showReg a t) := by
  unfold Machine.showReg
  split
  · exact h.showSys
  · exact h.showSys
  · exact h.showMid
  · exact h.showMid
  · exact h.showMid
  · exact h.showSpl
  · exact h.showNet
  · exact h.showNet
  · exact h.showLow
  · exact h.showLow
  · exact h.showLow
  · exact h.showMem

theorem KeepsForm.clearRc {a} (h : KeepsForm s t) : KeepsForm s (Machine.clearRc a t) := by
  unfold Machine.clearRc
  extract_lets t1
  have h1 : KeepsForm s t1 := by
    unfold t1
    split
    · exact h.setReg
    · exact h
  exact .ite h1.notePeak (.ite h1.notePeakFades h1)

theorem KeepsForm.readReg {a} (h : KeepsForm s t) : KeepsForm s (Machine.readReg a t).2 := by
  unfold Machine.readReg
  dsimp only
  exact .iteSnd h (.iteSnd h.hbufAlloc (.iteSnd h.readCapture (.iteSnd h.onNet.setReg.setReg.pair (.iteSnd h
    (.iteSnd h.showReg.onCtx.pair (.iteSnd h.onPin.clearRc.pair h.showReg.clearRc.pair))))))

theorem KeepsForm.countWin {e} (h : KeepsForm s t) : KeepsForm s (Machine.countWin e t) := h.countE

theorem KeepsForm.readEng {e off a} (h : KeepsForm s t) : KeepsForm s (Machine.readEng e off a t).2 :=
  .iteSnd h.decodeFault (.iteSnd h (.iteSnd h.countWin h.countWin))

theorem KeepsForm.hostRead {a} (h : KeepsForm s t) : KeepsForm s (Machine.hostRead a t).2 := by
  unfold Machine.hostRead
  refine .iteSnd ?_ ?_
  · exact h
  · split
    · exact h.readReg
    · exact h.readEng
    · exact h
    · exact h.onFree
    · exact .iteSnd h.onFree h
    · exact .iteSnd h h.decodeFault
    · exact h.decodeFault
    · exact h

theorem KeepsForm.readBad {x} (h : KeepsForm s t) : KeepsForm s (Machine.readBad x t) := by
  unfold Machine.readBad
  split
  · exact h.engReadError
  · exact .ite h.mramCorrected h.eccDouble
  · exact .ite h h.ddrEcc
  · exact h.sramError

theorem KeepsForm.hostWord {a bad} (h : KeepsForm s t) : KeepsForm s (Machine.hostWord a bad t).2 := by
  unfold Machine.hostWord
  split
  · exact .iteSnd h.hostRead (.iteSnd h.hostRead.readBad h.readBad.hostRead)
  · exact h.hostRead

theorem KeepsForm.hostReads {a bad n} (h : KeepsForm s t) : KeepsForm s (Machine.hostReads a bad n t).2 := by
  induction n generalizing a t with
  | zero => exact h
  | succ n ih => exact ih h.hostWord

theorem KeepsForm.hostReadN {a n bad} (h : KeepsForm s t) : KeepsForm s (Machine.hostReadN a n bad t).2 := h.hostWord

theorem KeepsForm.readAns {r} (h : KeepsForm s r.2) : KeepsOut s (Machine.readAns r) := h.out.finish

theorem KeepsForm.execShotCounterRead (h : KeepsForm s t) : KeepsOut s (Machine.execShotCounterRead t) := h.readReg.readAns

theorem KeepsForm.execTakeShotRead (h : KeepsForm s t) : KeepsOut s (Machine.execTakeShotRead t) := h.readReg.readAns

theorem KeepsForm.execSpTsRead {p} (h : KeepsForm s t) : KeepsOut s (Machine.execSpTsRead p t) := .ite h.readReg.readAns h.finish

theorem KeepsForm.execPtpTimeRead {shot} (h : KeepsForm s t) : KeepsOut s (Machine.execPtpTimeRead shot t) := h.readReg.readAns

theorem KeepsForm.execOpsecRead (h : KeepsForm s t) : KeepsOut s (Machine.execOpsecRead t) := h.readReg.readAns

theorem KeepsForm.execMramWearRead (h : KeepsForm s t) : KeepsOut s (Machine.execMramWearRead t) := h.readReg.readAns

theorem KeepsForm.execNetCounterLoRead {p k} (h : KeepsForm s t) : KeepsOut s (Machine.execNetCounterLoRead p k t) :=
  .ite h.readReg.readAns h.finish

theorem KeepsForm.execTagRecordRead {e} (h : KeepsForm s t) : KeepsOut s (Machine.execTagRecordRead e t) :=
  .ite h.readReg.readAns h.finish

theorem KeepsForm.execRcFieldRead {a n} (h : KeepsForm s t) : KeepsOut s (Machine.execRcFieldRead a n t) :=
  .ite h.hostReadN.readAns h.finish

theorem KeepsForm.execCaptureFifoRead {c} (h : KeepsForm s t) : KeepsOut s (Machine.execCaptureFifoRead c t) :=
  .ite h.readReg.readAns h.finish

theorem KeepsForm.hostReadAt {a n bad} (h : KeepsForm s t) : KeepsForm s (Machine.hostReadAt a n bad t) := .ite h.onFab h.hostReadN.out

theorem KeepsForm.execUnmappedRead {a x} (h : KeepsForm s t) : KeepsOut s (Machine.execUnmappedRead a x t) := by
  unfold Machine.execUnmappedRead
  refine .ite ?_ ?_
  · exact h.finish
  · split
    · exact h.hostReadAt.finish
    · exact h.hostReadAt.finish
    · exact h.readAns
    · exact h.readAns

/-! ### Writes by the host -/

theorem KeepsForm.genWrite {a v} (h : KeepsForm s t) : KeepsForm s (Machine.genWrite a v t) := by
  unfold Machine.genWrite
  split
  · exact h.setReg
  · exact h

theorem KeepsForm.condWrite {ok a v} (h : KeepsForm s t) : KeepsForm s (Machine.condWrite ok a v t) := .ite h.genWrite h

theorem KeepsForm.haltEngine {e} (h : KeepsForm s t) : KeepsForm s (Machine.haltEngine e t) := .ite h.onEngine.setF (.ite h.setF h)

theorem KeepsForm.writeEngCtrl {e v} (h : KeepsForm s t) : KeepsForm s (Machine.writeEngCtrl e v t) :=
  (KeepsForm.ite h.setF.stepEngine h.setF).branch (fun h => .ite h.setF.haltEngine (.ite h.setF.resumeEngine.check h.setF)) id

theorem KeepsForm.writeDbg {e v} (h : KeepsForm s t) : KeepsForm s (Machine.writeDbg e v t) := .ite h.onBank h

theorem KeepsForm.writeSys {a v} (h : KeepsForm s t) : KeepsForm s (Machine.writeSys a v t) := by
  unfold Machine.writeSys
  split
  · split
    · exact h.writeEngCtrl
    · exact h.writeDbg
    · exact h.genWrite
  · exact .ite (.ite h.resetTo h) h.genWrite

theorem KeepsForm.writeReserve {v} (h : KeepsForm s t) : KeepsForm s (Machine.writeReserve v t) := .ite h.setF.setF h

theorem KeepsForm.writeTctl {v} (h : KeepsForm s t) : KeepsForm s (Machine.writeTctl v t) := .ite h.onTask h

theorem KeepsForm.writeCsReg {off v} (h : KeepsForm s t) : KeepsForm s (Machine.writeCsReg off v t) := by
  unfold Machine.writeCsReg
  split
  · exact h.condWrite
  · exact h.writeReserve
  · exact h.writeTctl
  · exact h.genWrite

theorem KeepsForm.writeClk {off v} (h : KeepsForm s t) : KeepsForm s (Machine.writeClk off v t) := .ite h.writeClkReg h.genWrite

theorem KeepsForm.writePtp {off v} (h : KeepsForm s t) : KeepsForm s (Machine.writePtp off v t) :=
  .ite (.ite h.writeTcfg h.condWrite) (.ite h.writeCcfg (.ite h.writePtpReg h.genWrite))

theorem KeepsForm.writeSp {off v} (h : KeepsForm s t) : KeepsForm s (Machine.writeSp off v t) := by
  unfold Machine.writeSp
  refine .ite ?_ ?_
  · exact h.writeSpReg
  · refine .ite ?_ ?_
    · split
      · exact h.writeCg.groupCands
      · exact .ite h.clearRatechg h
      · exact .ite h h.setF
      · exact h
    · exact h

theorem KeepsForm.writeNet {off v} (h : KeepsForm s t) : KeepsForm s (Machine.writeNet off v t) :=
  .ite h.onFree.writeTxTail (.ite h.writeNetReg.ptpSync h.genWrite.ptpSync)

theorem KeepsForm.writeDl {off v} (h : KeepsForm s t) : KeepsForm s (Machine.writeDl off v t) := .ite h.genWrite h.writeDlReg

theorem KeepsForm.memCfg (h : KeepsForm s t) : KeepsForm s (Machine.memCfg t) := h.raiseOpen

theorem KeepsForm.writeDdrCfg {v} (h : KeepsForm s t) : KeepsForm s (Machine.writeDdrCfg v t) :=
  .ite h.memCfg (.ite h.genWrite.onFab h.genWrite)

theorem KeepsForm.writeMem {off v} (h : KeepsForm s t) : KeepsForm s (Machine.writeMem off v t) := by
  unfold Machine.writeMem
  split
  · exact .ite h.memCfg h.genWrite
  · exact h.writeDdrCfg
  · exact .ite h.memCfg h.genWrite.wearCheck
  · exact .ite h.memCfg h.genWrite
  · exact h.genWrite

theorem KeepsForm.writeFlt {off v} (h : KeepsForm s t) : KeepsForm s (Machine.writeFlt off v t) :=
  .ite (.ite h.firstClear h) (.ite h.inject (.ite h.condWrite h.genWrite))

theorem KeepsForm.writeLog {off v} (h : KeepsForm s t) : KeepsForm s (Machine.writeLog off v t) :=
  .ite (.ite h h.genWrite.tokenDepth.tokenRestart) h.genWrite

theorem KeepsForm.writePcn {off v} (h : KeepsForm s t) : KeepsForm s (Machine.writePcn off v t) :=
  .ite (KeepsForm.genWrite (.ite h.snapshot h)) (.ite h.condWrite (.ite (.ite h h.genWrite.onPcn) (.ite h.condWrite (.ite h.condWrite
    h.genWrite))))

theorem KeepsForm.startRings (h : KeepsForm s t) : KeepsForm s (Machine.startRings t) := h.onCmd.setF

theorem KeepsForm.writeRingLen {k v} (h : KeepsForm s t) : KeepsForm s (Machine.writeRingLen k v t) :=
  .ite h (.ite h.setF.onCmd.orF h.setF)

theorem KeepsForm.writeHostPtr {k v} (h : KeepsForm s t) : KeepsForm s (Machine.writeHostPtr k v t) :=
  .ite h (.ite h.setF.applyRingLen h.setF)

theorem KeepsForm.msixSettle (h : KeepsForm s t) : KeepsForm s (Machine.msixSettle t) := h.onCmd

theorem KeepsForm.writeCmd {off v} (h : KeepsForm s t) : KeepsForm s (Machine.writeCmd off v t) := by
  unfold Machine.writeCmd
  refine .ite ?_ ?_
  · split
    · exact h.condWrite
    · exact h.genWrite
    · exact h.writeRingLen
    · exact h.writeHostPtr
    · exact h
  · split
    · exact .ite h.genWrite.startRings h.genWrite
    · exact h.condWrite
    · exact h.setReg.msixSettle
    · exact h.genWrite.msixSettle

theorem KeepsForm.driveGpio {n} (h : KeepsForm s t) : KeepsForm s (Machine.driveGpio n t) := .ite (.ite h.out h.out) h

theorem KeepsForm.writeGpioEn {n en} (h : KeepsForm s t) : KeepsForm s (Machine.writeGpioEn n en t) :=
  .ite (.ite h.claimPin.orF.driveGpio h.claimPin) (.ite h.releasePin.setF.out h)

theorem KeepsForm.writePin {off v} (h : KeepsForm s t) : KeepsForm s (Machine.writePin off v t) := by
  unfold Machine.writePin
  split
  · exact h.condWrite
  · exact h.foldl (fun h => h.writeGpioEn)
  · exact h.genWrite.foldl (fun h => .ite h h.driveGpio)
  · exact h.genWrite.foldl (fun h => .ite h.driveGpio h)
  · exact h.condWrite
  · exact h.genWrite

theorem KeepsForm.writeReg {a v} (h : KeepsForm s t) : KeepsForm s (Machine.writeReg a v t) := by
  unfold Machine.writeReg
  refine .ite ?_ ?_
  · exact h
  · refine .ite ?_ ?_
    · exact h
    · split
      · exact h.writeSys
      · exact h.writeClk
      · exact h.writePtp
      · exact h.writeCsReg
      · exact h.writeSp
      · exact h.writeNet
      · exact h.writeDl
      · exact h.writeMem
      · exact h.writeFlt
      · exact h.writeLog
      · exact h.writePcn
      · exact .ite h.condWrite h.genWrite
      · exact h.writeCmd
      · exact h.writePin
      · exact h.writeSys
      · exact h.genWrite

theorem KeepsForm.writeSlate {e off l} (h : KeepsForm s t) : KeepsForm s (Machine.writeSlate e off l t) :=
  .ite h.onEngine h.writeBytes.setF

theorem KeepsForm.writeEng {e off a l} (h : KeepsForm s t) : KeepsForm s (Machine.writeEng e off a l t) :=
  .ite h.decodeFault (.ite h.countWin.writeSlate h.countWin.writeBytes)

theorem KeepsForm.hostWriteWord {a l} (h : KeepsForm s t) : KeepsForm s (Machine.hostWriteWord a l t) := by
  unfold Machine.hostWriteWord
  refine .ite ?_ ?_
  · exact h
  · split
    · exact .ite h.writeReg h
    · exact h.writeEng
    · exact h.writeBytes
    · exact h.writeBytes
    · exact .ite h.writeBytes h.decodeFault
    · exact h.decodeFault

theorem KeepsForm.eachWord {f fuel a l} (h : KeepsForm s t) (hf : ∀ {a l u}, KeepsForm s u → KeepsForm s (f a l u)) :
    KeepsForm s (Machine.eachWord f fuel a l t) := by
  induction fuel generalizing a l t with
  | zero => exact h
  | succ n ih => exact .ite h (ih (hf h))

theorem KeepsForm.postWord {a l} (h : KeepsForm s t) : KeepsForm s (Machine.postWord a l t) := by
  unfold Machine.postWord
  split
  · exact .ite h.onFab h.hostWriteWord
  · exact h.hostWriteWord

theorem KeepsForm.postBytes {a l} (h : KeepsForm s t) : KeepsForm s (Machine.postBytes a l t) := h.eachWord (fun h => h.postWord)

theorem KeepsForm.drainT1 {l} (h : KeepsForm s t) : KeepsForm s (Machine.drainT1 l t) := by
  induction l generalizing t with
  | nil => exact h.onFab
  | cons x l ih => exact .ite h.onFab (.ite (ih h.hostReadN.out) (ih h.hostWriteWord))

theorem KeepsForm.hostWrite {a v} (h : KeepsForm s t) : KeepsForm s (Machine.hostWrite a v t) := h.hostWriteWord

theorem KeepsForm.hostWrites {ws a} (h : KeepsForm s t) : KeepsForm s (Machine.hostWrites a ws t) := by
  induction ws generalizing a t with
  | nil => exact h
  | cons w ws ih => exact ih h.hostWrite

theorem KeepsForm.writeBar4 {a l} (h : KeepsForm s t) : KeepsForm s (Machine.writeBar4 a l t) :=
  (h.foldl (fun h => .ite h.onCmd h)).foldl (fun h => .ite h.onCmd.out h)

theorem KeepsForm.execHostMemoryWrite {bar a l} (h : KeepsForm s t) : KeepsOut s (Machine.execHostMemoryWrite bar a l t) := by
  unfold Machine.execHostMemoryWrite
  refine .finish ?_
  split
  · exact .ite h.postBytes h
  · exact .ite h.postBytes h
  · exact h.writeBar4
  · exact h

theorem KeepsForm.execProgramMemoryWrite {e off l} (h : KeepsForm s t) : KeepsOut s (Machine.execProgramMemoryWrite e off l t) :=
  KeepsForm.finish (.ite h.postBytes h)

theorem KeepsForm.execLaneSliceWrite {e isY off l} (h : KeepsForm s t) : KeepsOut s (Machine.execLaneSliceWrite e isY off l t) :=
  KeepsForm.finish (.ite h.postBytes h)

theorem KeepsForm.execSlateViewWrite {e off l} (h : KeepsForm s t) : KeepsOut s (Machine.execSlateViewWrite e off l t) :=
  KeepsForm.finish (.ite h.postBytes h)

theorem KeepsForm.landHeld {e} (h : KeepsForm s t) : KeepsForm s (Machine.landHeld e t) :=
  .ite h ((KeepsForm.ite h (h.onEngine.foldl (fun h => h.setByte)).setF).branch (fun h => h.drainT1.foldl (fun h => h.grant)) id)

theorem KeepsForm.execHeldSlateWriteLand {e} (h : KeepsForm s t) : KeepsOut s (Machine.execHeldSlateWriteLand e t) :=
  KeepsForm.finish (.ite h.landHeld h)

theorem KeepsForm.execFirstFaultClear (h : KeepsForm s t) : KeepsOut s (Machine.execFirstFaultClear t) := h.writeReg.finish

theorem KeepsForm.execFaultInject {src kind} (h : KeepsForm s t) : KeepsOut s (Machine.execFaultInject src kind t) := h.writeReg.finish

theorem KeepsForm.execEngStep {e} (h : KeepsForm s t) : KeepsOut s (Machine.execEngStep e t) := KeepsForm.finish (.ite h.writeReg h)

theorem KeepsForm.execEngHalt {e h'} (h : KeepsForm s t) : KeepsOut s (Machine.execEngHalt e h' t) := KeepsForm.finish (.ite h.writeReg h)

theorem KeepsForm.execDebugDataWrite {e v} (h : KeepsForm s t) : KeepsOut s (Machine.execDebugDataWrite e v t) :=
  KeepsForm.finish (.ite h.writeReg h)

theorem KeepsForm.execWaitStatsClear (h : KeepsForm s t) : KeepsOut s (Machine.execWaitStatsClear t) := h.writeReg.finish

theorem KeepsForm.execReserveWrite {r} (h : KeepsForm s t) : KeepsOut s (Machine.execReserveWrite r t) := h.writeReg.finish

theorem KeepsForm.execZskipWrite {on} (h : KeepsForm s t) : KeepsOut s (Machine.execZskipWrite on t) := h.writeReg.finish

theorem KeepsForm.execSnap (h : KeepsForm s t) : KeepsOut s (Machine.execSnap t) := h.writeReg.finish

theorem KeepsForm.execFreeze {on} (h : KeepsForm s t) : KeepsOut s (Machine.execFreeze on t) := h.writeReg.finish

theorem KeepsForm.execTagSeedWrite {v} (h : KeepsForm s t) : KeepsOut s (Machine.execTagSeedWrite v t) := h.writeReg.finish

theorem KeepsForm.execCounterWrite {glb e j v} (h : KeepsForm s t) : KeepsOut s (Machine.execCounterWrite glb e j v t) :=
  KeepsForm.finish (.ite (.ite h.writeReg h) (.ite h.writeReg h))

theorem KeepsForm.execSoftReset {v} (h : KeepsForm s t) : KeepsOut s (Machine.execSoftReset v t) := h.writeReg.finish

theorem KeepsForm.execSpRingLenWrite {p ply v} (h : KeepsForm s t) : KeepsOut s (Machine.execSpRingLenWrite p ply v t) :=
  KeepsForm.finish (.ite h.writeReg h)

theorem KeepsForm.execCmdRingLenWrite {k v} (h : KeepsForm s t) : KeepsOut s (Machine.execCmdRingLenWrite k v t) :=
  KeepsForm.finish (.ite h.writeReg h)

theorem KeepsForm.execSpRingPointerWrite {p ply v} (h : KeepsForm s t) : KeepsOut s (Machine.execSpRingPointerWrite p ply v t) :=
  KeepsForm.finish (.ite h.writeReg h)

theorem KeepsForm.execSpMaskWrite {p out late v} (h : KeepsForm s t) : KeepsOut s (Machine.execSpMaskWrite p out late v t) :=
  KeepsForm.finish (.ite h.writeMask h)

theorem KeepsForm.spCtrlBit {p bit en} (h : KeepsForm s t) : KeepsForm s (Machine.spCtrlBit p bit en t) := .ite h.writeReg h

theorem KeepsForm.execSpInEnWrite {p en} (h : KeepsForm s t) : KeepsOut s (Machine.execSpInEnWrite p en t) := h.spCtrlBit.finish

theorem KeepsForm.execSpOutEnWrite {p en} (h : KeepsForm s t) : KeepsOut s (Machine.execSpOutEnWrite p en t) := h.spCtrlBit.finish

theorem KeepsForm.execSpCapEnWrite {p en} (h : KeepsForm s t) : KeepsOut s (Machine.execSpCapEnWrite p en t) := h.spCtrlBit.finish

theorem KeepsForm.execSpPlyEnWrite {p en} (h : KeepsForm s t) : KeepsOut s (Machine.execSpPlyEnWrite p en t) := h.spCtrlBit.finish

theorem KeepsForm.execCgCfgWrite {g v} (h : KeepsForm s t) : KeepsOut s (Machine.execCgCfgWrite g v t) :=
  KeepsForm.finish (.ite h.writeReg h)

theorem KeepsForm.execTriggerEnWrite {i v} (h : KeepsForm s t) : KeepsOut s (Machine.execTriggerEnWrite i v t) :=
  KeepsForm.finish (.ite h.writeReg h)

theorem KeepsForm.execCaptureEnWrite {c v} (h : KeepsForm s t) : KeepsOut s (Machine.execCaptureEnWrite c v t) :=
  KeepsForm.finish (.ite h.writeReg h)

theorem KeepsForm.execGpioClaimWrite {v} (h : KeepsForm s t) : KeepsOut s (Machine.execGpioClaimWrite v t) := h.writeReg.finish

theorem KeepsForm.execDdrEnWrite {v} (h : KeepsForm s t) : KeepsOut s (Machine.execDdrEnWrite v t) :=
  KeepsForm.finish (.ite h.writeDdrCfg h.writeReg)

theorem KeepsForm.execRingsEnWrite {en} (h : KeepsForm s t) : KeepsOut s (Machine.execRingsEnWrite en t) := h.writeReg.finish

theorem KeepsForm.execLogRateWrite {c v} (h : KeepsForm s t) : KeepsOut s (Machine.execLogRateWrite c v t) :=
  KeepsForm.finish (.ite h.writeReg h)

/-! ### Modes -/

theorem KeepsForm.lifeRecord (h : KeepsForm s t) : KeepsForm s (Machine.lifeRecord t) := h.onBoot.mramWrite

theorem KeepsForm.execLifetimeRecord (h : KeepsForm s t) : KeepsOut s (Machine.execLifetimeRecord t) :=
  KeepsForm.finish (.ite h.lifeRecord h)

theorem KeepsForm.clockCond (h : KeepsForm s t) : KeepsForm s (Machine.clockCond t) := by
  unfold Machine.clockCond
  split
  · exact .ite h.changeMode h
  · exact .ite h.changeMode h
  · exact .ite h.changeMode h
  · exact h

theorem KeepsForm.loadShot {n} (h : KeepsForm s t) : KeepsForm s (Machine.loadShot n t) :=
  h.abandonTake.onTake.onShot.branch (fun h => h.onDl) id

theorem KeepsForm.enterAcquire (h : KeepsForm s t) : KeepsForm s (Machine.enterAcquire t) :=
  h.setF.changeMode.branch (fun h => h.loadShot.setF) (fun h => h.onBoot)

theorem KeepsForm.endWork (h : KeepsForm s t) : KeepsForm s (Machine.endWork t) :=
  (h.onCs.foldl (fun h => h.withdraw.onTask)).foldl (fun h => .ite h.vacate h)

theorem KeepsForm.endSplice (h : KeepsForm s t) : KeepsForm s (Machine.endSplice t) := .ite h.spliceApply.setF h

theorem KeepsForm.endStages (h : KeepsForm s t) : KeepsForm s (Machine.endStages t) :=
  h.busCommit.endSplice.foldl (fun h => KeepsForm.swapRecast (.ite h h.copyBytes.copyBytes))

theorem KeepsForm.endTakes (h : KeepsForm s t) : KeepsForm s (Machine.endTakes t) := by
  unfold Machine.endTakes
  dsimp only
  split
  · exact h.endStages.endDissolve
  · exact h.endStages

theorem KeepsForm.enterRest (h : KeepsForm s t) : KeepsForm s (Machine.enterRest t) := h.storeWear.lifeRecord

theorem KeepsForm.enterStandby (h : KeepsForm s t) : KeepsForm s (Machine.enterStandby t) :=
  .ite h.stopPorts.stopAllStreams.stopLanes.abandonTake.endTakes.endWork.setF.onBoot.changeMode.enterRest h.changeMode.enterRest

theorem KeepsForm.applyModeSet {m} (h : KeepsForm s t) : KeepsForm s (Machine.applyModeSet m t) := by
  unfold Machine.applyModeSet
  split
  · exact h.onBoot
  · exact h.enterStandby
  · exact h.enterAcquire
  · exact h.changeMode
  · exact h.changeMode
  · exact h.changeMode.enterRest
  · exact h.changeMode
  · exact h

theorem KeepsForm.execPor (h : KeepsForm s t) : KeepsOut s (Machine.execPor t) := h.resetTo.finish

theorem KeepsForm.execResetNAssert (h : KeepsForm s t) : KeepsOut s (Machine.execResetNAssert t) := h.resetTo.finish

theorem KeepsForm.execClkloss (h : KeepsForm s t) : KeepsOut s (Machine.execClkloss t) := h.resetTo.finish

theorem KeepsForm.execThermalTrip (h : KeepsForm s t) : KeepsOut s (Machine.execThermalTrip t) := h.resetTo.onBoot.onPin.out.finish

theorem KeepsForm.execThermalRelease (h : KeepsForm s t) : KeepsOut s (Machine.execThermalRelease t) :=
  KeepsForm.finish (.ite h.onBoot.onPin.out h)

theorem KeepsForm.resetRelease {chip strap banks} (h : KeepsForm s t) : KeepsForm s (Machine.resetRelease chip strap banks t) :=
  .ite h (h.setF.setF.setF.setF.setF.branch (fun h => h.setReg) id).setF.onBoot.changeMode

theorem KeepsForm.execResetRelease {chip strap banks} (h : KeepsForm s t) : KeepsOut s (Machine.execResetRelease chip strap banks t) :=
  h.resetRelease.finish

theorem KeepsForm.loadRepair (h : KeepsForm s t) : KeepsForm s (Machine.loadRepair t) := by
  unfold Machine.loadRepair
  split
  · exact .ite h.onFab.setF.setF h.onFab.setF.setF
  · exact h.onFab.setF.setF
  · exact h.onFab.setF.setF
  · exact h.onFab.setF.setF

theorem KeepsForm.bootFail {f} (h : KeepsForm s t) : KeepsForm s (Machine.bootFail f t) := h.setF

theorem KeepsForm.loadLife (h : KeepsForm s t) : KeepsForm s (Machine.loadLife t) := by
  unfold Machine.loadLife
  exact h.onBoot

theorem KeepsForm.bistRow {r} (h : KeepsForm s t) : KeepsForm s (Machine.bistRow r t).2 := .iteSnd h.addRepair h

theorem KeepsForm.sparesOut {inst} (h : KeepsForm s t) : KeepsForm s (Machine.sparesOut inst t) := h.raise.bootFail

theorem KeepsForm.bootSram {x} (h : KeepsForm s t) : KeepsForm s (Machine.bootSram x t) :=
  .ite h (h.loadRepair.loadLife.branch id (fun h => (h.foldl (fun h => .ite h.sparesOut h)).foldl (fun h => .ite h.bistRow
    h.bistRow.sparesOut)))

theorem KeepsForm.loadWear (h : KeepsForm s t) : KeepsForm s (Machine.loadWear t) := KeepsForm.wearCheck (.ite h.onFab h.onFab.setF)

theorem KeepsForm.bootMram {x} (h : KeepsForm s t) : KeepsForm s (Machine.bootMram x t) :=
  .ite h.bootFail (h.loadRepair.loadLife.branch (fun h => h.bootFail) (fun h => (KeepsForm.onFab (.ite h
    h.writeRepair)).setF.loadWear.onBoot.lifeRecord.logScan))

theorem KeepsForm.bootImage {x} (h : KeepsForm s t) : KeepsForm s (Machine.bootImage x t) := by
  unfold Machine.bootImage
  refine .ite ?_ ?_
  · exact h.setF.onBoot
  · refine .ite ?_ ?_
    · exact h.setF.onBoot
    · split
      · exact .ite h.bootFail (.ite h.bootFail h.setF.onBoot)
      · exact h.bootFail

theorem KeepsForm.bootEngine {x e} (h : KeepsForm s t) : KeepsForm s (Machine.bootEngine x e t) := by
  unfold Machine.bootEngine
  extract_lets mem f g
  split
  rename_i f' t1 e1
  have h1 : KeepsForm s t1 := (KeepsForm.foldl_snd (b := (g, t)) h fun h => h.bistRow).of_snd e1
  exact (h1.setF.setF.setF.branch id fun h => h.addRepair).onEngine.setF.setF

theorem KeepsForm.assign {n e} (h : KeepsForm s t) : KeepsForm s (Machine.assign n e t) := h.setF.setF

theorem KeepsForm.assignFirst (h : KeepsForm s t) : KeepsForm s (Machine.assignFirst t) := by
  unfold Machine.assignFirst
  refine (h.foldl fun h => .ite h.assign h).foldl fun {u x} h => ?_
  refine .ite h ?_
  split
  · exact h.assign
  · exact h

theorem KeepsForm.assignDown {k} (h : KeepsForm s t) : KeepsForm s (Machine.assignDown k t) := by
  unfold Machine.assignDown
  refine h.foldl fun {u x} h => .ite h ?_
  split
  · split
    · exact .ite h.assign h
    · exact h
  · exact h

theorem KeepsForm.bootEngines {x} (h : KeepsForm s t) : KeepsForm s (Machine.bootEngines x t) := by
  unfold Machine.bootEngines
  exact (h.foldl (fun h => h.bootEngine)).assignFirst.assignDown

theorem KeepsForm.bootEnd (h : KeepsForm s t) : KeepsForm s (Machine.bootEnd t) :=
  (KeepsForm.setF (.ite h.logEvent (.ite h.logEvent.setF h.logEvent.setF.out))).setF.setF.changeMode.enterRest

theorem KeepsForm.bootStage {x} (h : KeepsForm s t) : KeepsForm s (Machine.bootStage x t) := by
  unfold Machine.bootStage
  extract_lets k t1
  have h1 : KeepsForm s t1 := by
    unfold t1
    clear_value k
    split
    · exact h.bootSram
    · exact h.bootMram
    · exact h.bootImage
    · exact h.bootEngines
    · exact h.bootEnd
  exact .ite h (.ite h1.setF h1)

theorem KeepsForm.execBootStageDone {x} (h : KeepsForm s t) : KeepsOut s (Machine.execBootStageDone x t) := h.bootStage.finish

theorem KeepsForm.restartSession {tr} (h : KeepsForm s t) : KeepsForm s (Machine.restartSession tr t) := h.onSess

theorem KeepsForm.gafferWatchdog (h : KeepsForm s t) : KeepsForm s (Machine.gafferWatchdog t) :=
  .ite h (.ite h.resetTo (h.setF.unitReset.abandonTake.foldl (fun h => h.restartSession)).onCmd.onTake.onSti.onBoot)

theorem KeepsForm.execGafferWatchdog (h : KeepsForm s t) : KeepsOut s (Machine.execGafferWatchdog t) := h.gafferWatchdog.finish

theorem KeepsForm.presence {on} (h : KeepsForm s t) : KeepsForm s (Machine.presence on t) := h.setF.setIrq.logEvent.notify

theorem KeepsForm.execPresencePress (h : KeepsForm s t) : KeepsOut s (Machine.execPresencePress t) :=
  KeepsForm.finish (.ite h (.ite h.onCmd h.onCmd.presence))

theorem KeepsForm.execPresenceWindowClose (h : KeepsForm s t) : KeepsOut s (Machine.execPresenceWindowClose t) :=
  KeepsForm.finish (.ite h.presence h)

theorem KeepsForm.execPcieLinkDown (h : KeepsForm s t) : KeepsOut s (Machine.execPcieLinkDown t) :=
  KeepsForm.finish (.ite h.unitReset.setF.setF h)

theorem KeepsForm.execPcieLinkUp (h : KeepsForm s t) : KeepsOut s (Machine.execPcieLinkUp t) :=
  KeepsForm.finish (.ite (h.setF.restartSession.foldl (fun h => h.resumeTx)) h)

/-! ### The standby link -/

theorem KeepsForm.pinsOff (h : KeepsForm s t) : KeepsForm s (Machine.pinsOff t) := h.out

theorem KeepsForm.roleRecord {new old} (h : KeepsForm s t) : KeepsForm s (Machine.roleRecord new old t) := h.logEvent

theorem KeepsForm.mirrorLost (h : KeepsForm s t) : KeepsForm s (Machine.mirrorLost t) := .ite h.setF.raise h

theorem KeepsForm.sendWhole (h : KeepsForm s t) : KeepsForm s (Machine.sendWhole t) := .ite h.out h

theorem KeepsForm.execStiLinkUp (h : KeepsForm s t) : KeepsOut s (Machine.execStiLinkUp t) :=
  KeepsForm.finish (.ite h.setF.raise.sendWhole h)

theorem KeepsForm.renewSend (h : KeepsForm s t) : KeepsForm s (Machine.renewSend t) := .ite (KeepsForm.onSti (.ite h.incF h)).out h

theorem KeepsForm.execRenewSend (h : KeepsForm s t) : KeepsOut s (Machine.execRenewSend t) := h.renewSend.finish

theorem KeepsForm.ackReceived {n} (h : KeepsForm s t) : KeepsForm s (Machine.ackReceived n t) := by
  unfold Machine.ackReceived
  split
  · exact h
  · exact .ite (h.onSti.setF.setF.branch (fun h => h.sendWhole) id) h

theorem KeepsForm.execAckReceived {n} (h : KeepsForm s t) : KeepsOut s (Machine.execAckReceived n t) := h.ackReceived.finish

theorem KeepsForm.acknowledge {n l} (h : KeepsForm s t) : KeepsForm s (Machine.acknowledge n l t) := h.onSti.setF.setF.out

theorem KeepsForm.followHolder (h : KeepsForm s t) : KeepsForm s (Machine.followHolder t) := .ite h h.followMarks

theorem KeepsForm.marksEnd (h : KeepsForm s t) : KeepsForm s (Machine.marksEnd t) := .ite h.endActivity h

theorem KeepsForm.execStiLinkDown (h : KeepsForm s t) : KeepsOut s (Machine.execStiLinkDown t) :=
  KeepsForm.finish (.ite h.setF.raise.unitReset.onSti.mirrorLost.marksEnd h)

theorem KeepsForm.unfollow (h : KeepsForm s t) : KeepsForm s (Machine.unfollow t) := .ite h h.marksEnd.unfollowMarks

theorem KeepsForm.renewReceived {n l} (h : KeepsForm s t) : KeepsForm s (Machine.renewReceived n l t) :=
  .ite h (.ite (.ite h.acknowledge.changeMode.followHolder (.ite h.acknowledge.followHolder h.acknowledge)) (.ite
    (h.acknowledge.setF.setF.followHolder.branch (fun h => h.changeMode) id) h))

theorem KeepsForm.execRenewReceived {n lease} (h : KeepsForm s t) : KeepsOut s (Machine.execRenewReceived n lease t) :=
  h.renewReceived.finish

theorem KeepsForm.restUnits (h : KeepsForm s t) : KeepsForm s (Machine.restUnits t) :=
  (KeepsForm.stopPorts (.ite h.onSti h)).stopAllStreams.stopLanes.endSplice.endWork.branch (fun h => h.setPortState) id

theorem KeepsForm.fence {why} (h : KeepsForm s t) : KeepsForm s (Machine.fence why t) :=
  (KeepsForm.foldl (.ite h.pinsOff h.pinsOff.onSti) (fun h => h.stopCtx)).bufCand.setF.out.branch (fun h =>
    h.setF.incF.onSti.raise.endWake.changeMode) (fun h => h.setF.incF.onSti.raise.safeRequest)

theorem KeepsForm.execFence (h : KeepsForm s t) : KeepsOut s (Machine.execFence t) := KeepsForm.finish (.ite h.fence h)

theorem KeepsForm.execLeaseInRise (h : KeepsForm s t) : KeepsOut s (Machine.execLeaseInRise t) :=
  KeepsForm.finish (.ite h.setF.fence h.setF)

theorem KeepsForm.emptyLines (h : KeepsForm s t) : KeepsForm s (Machine.emptyLines t) := h.foldl (fun h => h.onLine)

theorem KeepsForm.imagesBack (h : KeepsForm s t) : KeepsForm s (Machine.imagesBack t) := by
  unfold Machine.imagesBack
  refine (h.foldl fun h => .ite h.zeroBytes.zeroBytes h).foldl fun {u x} h => ?_
  split
  · exact h.putImage
  · exact h

theorem KeepsForm.endFades (h : KeepsForm s t) : KeepsForm s (Machine.endFades t) := by
  unfold Machine.endFades
  exact KeepsForm.onSpl (.ite h.spliceApply h)

theorem KeepsForm.takeToken {why late} (h : KeepsForm s t) : KeepsForm s (Machine.takeToken why late t) :=
  (KeepsForm.abandonTake (.ite (KeepsForm.raise (.ite h.setF.out.setF.setF h.setF.out.setF.setF.incF)).raise (.ite (KeepsForm.raise (.ite
    h.setF.out.setF.setF h.setF.out.setF.setF.incF)).raise (KeepsForm.raise (.ite h.setF.out.setF.setF
    h.setF.out.setF.setF.incF))))).restUnits.endTakes.endFades.emptyLines.imagesBack.setF.onSti.logEvent.setF.changeMode.branch id (fun h
    => h.unfollowMarks.endActivity)

theorem KeepsForm.execTokenTake {late} (h : KeepsForm s t) : KeepsOut s (Machine.execTokenTake late t) :=
  KeepsForm.finish (.ite (.ite h.onSti h.takeToken) h)

theorem KeepsForm.execLeaseInFall {late} (h : KeepsForm s t) : KeepsOut s (Machine.execLeaseInFall late t) :=
  (h.setF.onSti.branch (fun h => h.takeToken) id).finish

theorem KeepsForm.execReleaseReceived {late} (h : KeepsForm s t) : KeepsOut s (Machine.execReleaseReceived late t) :=
  KeepsForm.finish (.ite h.takeToken h)

theorem KeepsForm.execReclaim (h : KeepsForm s t) : KeepsOut s (Machine.execReclaim t) := KeepsForm.finish (.ite h.takeToken h)

theorem KeepsForm.wakeStep (h : KeepsForm s t) : KeepsForm s (Machine.wakeStep t) :=
  .ite h.onSti (.ite (h.setF.onSti.branch id (fun h => h.setF.onSti.out)) h)

theorem KeepsForm.execWakeStep (h : KeepsForm s t) : KeepsOut s (Machine.execWakeStep t) := h.wakeStep.finish

theorem KeepsForm.execStandinAwake (h : KeepsForm s t) : KeepsOut s (Machine.execStandinAwake t) :=
  KeepsForm.finish (.ite (.ite h.onSti h.onSti.releaseToken) h)

theorem KeepsForm.execStandinTickStart {count} (h : KeepsForm s t) : KeepsOut s (Machine.execStandinTickStart count t) :=
  KeepsForm.finish (.ite h.setF.loadShot h)

theorem KeepsForm.execTakeoverRelease (h : KeepsForm s t) : KeepsOut s (Machine.execTakeoverRelease t) := by
  unfold Machine.execTakeoverRelease
  refine .finish ?_
  split
  · exact .ite h.changeMode h
  · exact h

theorem KeepsForm.leavePair (h : KeepsForm s t) : KeepsForm s (Machine.leavePair t) :=
  (KeepsForm.ite h.onSti.setF.unfollow h.onSti.setF).branch (fun h => h.setF.setF.out.roleRecord) (fun h => h.roleRecord)

theorem KeepsForm.joinPair (h : KeepsForm s t) : KeepsForm s (Machine.joinPair t) :=
  h.onSti.setF.branch (fun h => .ite h.roleRecord h.roleRecord.releaseToken) (fun h => .ite h.roleRecord.takeToken
    h.roleRecord.setF.setF.out)

theorem KeepsForm.applyRoleSet {a} (h : KeepsForm s t) : KeepsForm s (Machine.applyRoleSet a t) := by
  unfold Machine.applyRoleSet
  split
  · exact h.onSti.roleRecord.out
  · exact h.roleRecord.takeToken
  · exact h.leavePair
  · exact h.joinPair

theorem KeepsForm.forward {op p images} (h : KeepsForm s t) : KeepsForm s (Machine.forward op p images t) := .ite h.mirrorSend h

/-! ### The ring link -/

theorem KeepsForm.ringFault {link kind} (h : KeepsForm s t) : KeepsForm s (Machine.ringFault link kind t) := h.setF.raise

theorem KeepsForm.leaveRing (h : KeepsForm s t) : KeepsForm s (Machine.leaveRing t) := .ite h.setF.unfollowMarks.ptpSync h

theorem KeepsForm.ringOff {state} (h : KeepsForm s t) : KeepsForm s (Machine.ringOff state t) := by
  unfold Machine.ringOff
  exact h.leaveRing.setF.setF.setF.setF.setF.setF.onRl

theorem KeepsForm.formRing {ids sec ns} (h : KeepsForm s t) : KeepsForm s (Machine.formRing ids sec ns t) :=
  .ite h.ringOff.ringFault (.ite h.ringOff.ringFault (.ite h.ringOff.ringFault (h.onRl.setF.setF.setF.setF.setF.setF.branch id (fun h =>
    (KeepsForm.followMarks (.ite h h.setF)).setF.onPtp.setInc.ptpSync))))

theorem KeepsForm.ringList {ids sec ns} (h : KeepsForm s t) : KeepsForm s (Machine.ringList ids sec ns t) :=
  .ite (.ite h.onRl h) (.ite h.formRing (.ite h.ringOff.ringFault h.out))

theorem KeepsForm.startRing (h : KeepsForm s t) : KeepsForm s (Machine.startRing t) :=
  .ite (h.ringOff.onRl.out.foldl (fun h => h.ringList)) h.ringOff

theorem KeepsForm.standbyRing (h : KeepsForm s t) : KeepsForm s (Machine.standbyRing t) := .ite h.startRing h

theorem KeepsForm.execRingListReceived {ids sec ns} (h : KeepsForm s t) : KeepsOut s (Machine.execRingListReceived ids sec ns t) :=
  h.ringList.finish

theorem KeepsForm.rlFresh {k} (h : KeepsForm s t) : KeepsForm s (Machine.rlFresh k t) := h.onRl.onCs

theorem KeepsForm.execRlLinkUp {k delay} (h : KeepsForm s t) : KeepsOut s (Machine.execRlLinkUp k delay t) :=
  KeepsForm.finish (.ite (h.rlFresh.setF.setF.branch id (fun h => h.startRing)) h)

theorem KeepsForm.rlLink {k} (h : KeepsForm s t) : KeepsForm s (Machine.rlLink k t) :=
  (KeepsForm.ite (KeepsForm.onRl (.ite h.setF.incF.unitReset.incF.ringFault h.setF.incF.unitReset.ringFault)) (.ite
    h.setF.incF.unitReset.incF.ringFault h.setF.incF.unitReset.ringFault)).branch (fun h => h.endActivity) id

theorem KeepsForm.execRlLink {k} (h : KeepsForm s t) : KeepsOut s (Machine.execRlLink k t) := KeepsForm.finish (.ite h.rlLink h)

theorem KeepsForm.rlChannel {k c b ok} (h : KeepsForm s t) : KeepsForm s (Machine.rlChannel k c b ok t) := by
  unfold Machine.rlChannel
  extract_lets ch
  split
  rename_i b' t1 e1
  have h1 : KeepsForm s t1 := by
    refine .of_snd (.iteSnd h.delivered.pair ?_) e1
    split
    exact h.concealSamples.of_snd ‹_›
  exact h1.onRl.putBlk

theorem KeepsForm.rlReceived {k x ok} (h : KeepsForm s t) : KeepsForm s (Machine.rlReceived k x ok t) := by
  unfold Machine.rlReceived
  dsimp only
  refine .ite ?_ ?_
  · exact h
  · split
    · exact .ite (KeepsForm.rlChannel (.ite h h.incF.raise)) (.ite h h.incF.raise)
    · exact .ite (KeepsForm.onRl (.ite h h.incF.raise)) (.ite h h.incF.raise)
    · exact .ite (KeepsForm.onPtp (.ite h h.incF.raise)) (.ite h h.incF.raise)
    · exact .ite (KeepsForm.out (.ite h h.incF.raise)) (.ite h h.incF.raise)

theorem KeepsForm.execRlBlockReceived {k x ok} (h : KeepsForm s t) : KeepsOut s (Machine.execRlBlockReceived k x ok t) :=
  h.rlReceived.finish

theorem KeepsForm.rlBlocks (h : KeepsForm s t) : KeepsForm s (Machine.rlBlocks t) :=
  (h.foldl (fun h => h.onStage.countG)).foldl (fun h => .ite (.ite h h.onStage) h.concealSamples.putBlk)

theorem KeepsForm.rlInputs (h : KeepsForm s t) : KeepsForm s (Machine.rlInputs t) := by
  unfold Machine.rlInputs
  exact h.rlBlocks.onRl

theorem KeepsForm.rlPartials (h : KeepsForm s t) : KeepsForm s (Machine.rlPartials t) := h.onRl

theorem KeepsForm.rlReleases (h : KeepsForm s t) : KeepsForm s (Machine.rlReleases t) :=
  .ite h.onRl ((h.onRl.foldl (fun h => .ite h.out h)).branch id (fun h => h.foldl (fun h => .ite h (h.foldl (fun h => h.out)))))

theorem KeepsForm.askRing {h' gap t'} (h : KeepsForm s t) : KeepsForm s (Machine.askRing h' gap t' t) := h.onTake.out

theorem KeepsForm.decideTake (h : KeepsForm s t) : KeepsForm s (Machine.decideTake t) := by
  unfold Machine.decideTake
  dsimp only
  split
  · split
    · exact .ite h.onTake.placeReply h.onTake.out.forward.noteGen.placeReply
    · exact .ite h.onTake.placeReply h.onTake.onTake.incF.out.placeReply
  · exact h

theorem KeepsForm.voteReceived {id status} (h : KeepsForm s t) : KeepsForm s (Machine.voteReceived id status t) :=
  .ite h (.ite h.onTake.decideTake h.onTake)

theorem KeepsForm.ringTake {ws sT chk} (h : KeepsForm s t) : KeepsForm s (Machine.ringTake ws sT chk t) :=
  .ite h (.ite h.out.onTake h.out)

theorem KeepsForm.execRingTakeMessage {ws} (h : KeepsForm s t) : KeepsOut s (Machine.execRingTakeMessage ws t) := h.ringTake.finish

theorem KeepsForm.execRingCommitReceived {commit} (h : KeepsForm s t) : KeepsOut s (Machine.execRingCommitReceived commit t) := by
  unfold Machine.execRingCommitReceived
  refine .finish ?_
  refine .ite ?_ ?_
  · split
    · exact .ite h.onTake.forward h
    · exact h
  · exact .ite h.abandonTake h

/-! ### The shot boundary -/

theorem KeepsForm.audit {bit use free pool} (h : KeepsForm s t) : KeepsForm s (Machine.audit bit use free pool t) := .ite h h.orF.raise

theorem KeepsForm.auditRings {bit tx} (h : KeepsForm s t) : KeepsForm s (Machine.auditRings bit tx t) := h.audit

theorem KeepsForm.audits (h : KeepsForm s t) : KeepsForm s (Machine.audits t) :=
  .ite h h.setF.setF.setF.setF.setF.setF.setF.setF.audit.audit.auditRings.auditRings.audit.audit.audit

theorem KeepsForm.execLedgerAuditNoTick (h : KeepsForm s t) : KeepsOut s (Machine.execLedgerAuditNoTick t) :=
  KeepsForm.finish (.ite h h.audits)

theorem KeepsForm.takeInputs (h : KeepsForm s t) : KeepsForm s (Machine.takeInputs t) :=
  h.allPortInputs.allStreamInputs.allLaneInputs.rlInputs

theorem KeepsForm.deadlines (h : KeepsForm s t) : KeepsForm s (Machine.deadlines t) := h.foldl (fun h => h.overrun)

theorem KeepsForm.loads (h : KeepsForm s t) : KeepsForm s (Machine.loads t) := by
  unfold Machine.loads
  exact (h.foldl (fun h => h.setF.maxF)).onCs

theorem KeepsForm.latchLines (h : KeepsForm s t) : KeepsForm s (Machine.latchLines t) := h.onCs

theorem KeepsForm.count (h : KeepsForm s t) : KeepsForm s (Machine.count t) := .ite h.setF.onBoot.loadShot h.onShot

theorem KeepsForm.stampShot (h : KeepsForm s t) : KeepsForm s (Machine.stampShot t) := by
  unfold Machine.stampShot
  exact h.boundaryTime.onDl

theorem KeepsForm.badWord {x} (h : KeepsForm s t) : KeepsForm s (Machine.badWord x t) := .ite h.sramError h.sramError.onStage

theorem KeepsForm.releaseAll (h : KeepsForm s t) : KeepsForm s (Machine.releaseAll t) :=
  h.fadeBuses.allPortReleases.allStreamReleases.rlReleases

theorem KeepsForm.countShot (h : KeepsForm s t) : KeepsForm s (Machine.countShot t) := KeepsForm.countG (.ite h.snapshot h)

theorem KeepsForm.openShot (h : KeepsForm s t) : KeepsForm s (Machine.openShot t) := h.onCs.armBoundary

theorem KeepsForm.sendMark (h : KeepsForm s t) : KeepsForm s (Machine.sendMark t) :=
  KeepsForm.foldl (.ite h.out h) (fun h => .ite h.out h)

theorem KeepsForm.shotBoundary {bad} (h : KeepsForm s t) : KeepsForm s (Machine.shotBoundary bad t) := by
  unfold Machine.shotBoundary
  exact .ite h ((KeepsForm.ite (KeepsForm.count (.ite h.loads
    h.takeInputs.deadlines.loads.shiftAreas.latchLines)).stampShot.allRingEnables.sendMark.releaseToken (KeepsForm.count (.ite h.loads
    h.takeInputs.deadlines.loads.shiftAreas.latchLines)).stampShot.allRingEnables.sendMark).branch (fun h => h.restUnits) (fun h =>
    (h.foldl (fun h => h.badWord)).releaseAll.meterFeed.rlPartials.passStart.openShot)).audits.countShot

theorem KeepsForm.execShotBoundary {bad} (h : KeepsForm s t) : KeepsOut s (Machine.execShotBoundary bad t) := h.shotBoundary.finish

/-! ### Command packets -/

theorem KeepsForm.done (h : KeepsForm s t) : KeepsForm s (Machine.done t).s := h

theorem KeepsForm.doneWith {pay} (h : KeepsForm s t) : KeepsForm s (Machine.doneWith pay t).s := h

theorem KeepsForm.refuse {st} (h : KeepsForm s t) : KeepsForm s (Machine.refuse st t).s := h

theorem KeepsForm.refuseAt {st i} (h : KeepsForm s t) : KeepsForm s (Machine.refuseAt st i t).s := h

theorem KeepsForm.okOr {st} (h : KeepsForm s t) (hu : KeepsForm s u) : KeepsForm s (Machine.okOr st t u).s := by
  unfold Machine.okOr
  split
  · exact hu
  · exact h

theorem KeepsForm.setE {tr e} (h : KeepsForm s t) : KeepsForm s (Machine.setE tr e t) := h.onSess

theorem KeepsForm.noteHeld (h : KeepsForm s t) : KeepsForm s (Machine.noteHeld t) := by
  unfold Machine.noteHeld
  split
  · exact h
  · exact h.onCmd

theorem KeepsForm.answer {op h' st} (h : KeepsForm s t) : KeepsForm s (Machine.answer op h' st t) := h.takeDseq.placeWords

theorem KeepsForm.oldPacket {op h' d} (h : KeepsForm s t) : KeepsForm s (Machine.oldPacket op h' d t) := by
  unfold Machine.oldPacket
  split
  · exact .ite h.placeWords h.answer
  · exact h.answer

/-- What a packet leaves, where the result of its body keeps the form. -/
theorem KeepsForm.settleRes {w r} (h : KeepsForm s t) (hr : KeepsForm s r.s) : KeepsForm s (Machine.settleRes w t r) :=
  .ite hr (.ite h (KeepsForm.ite hr hr.noteGen).forward)

theorem KeepsForm.answerForeign {op h'} (h : KeepsForm s t) : KeepsForm s (Machine.answerForeign op h' t) := h.onFree.placeWords

theorem KeepsForm.bind {w} (h : KeepsForm s t) : KeepsForm s (Machine.bind w t) := .ite h (.ite h.onCmd (.ite h.onCmd.onSess h))

/-- A packet that is executed by a body which keeps the form. -/
theorem KeepsForm.inOrder {body w resync} (h : KeepsForm s t)
    (hb : ∀ {w g u}, KeepsForm s u → KeepsForm s (body w g u).s) : KeepsForm s (Machine.inOrder body w resync t) := by
  unfold Machine.inOrder
  extract_lets hd gap s1 s2 s3 st r v
  have h1 : KeepsForm s s1 := .ite h.incF h
  have h2 : KeepsForm s s2 := .ite h1 h1.setE
  have h3 : KeepsForm s s3 := .ite h2.onSess h2
  exact .ite h3.placeReply (.ite (h3.settleRes (hb h3)) (h3.settleRes (hb h3)).placeReply)

theorem KeepsForm.takeTurn {w} (h : KeepsForm s t) : KeepsForm s (Machine.takeTurn w t) := h.onCmd

theorem KeepsForm.turn {body w} (h : KeepsForm s t) (hb : ∀ {w g u}, KeepsForm s u → KeepsForm s (body w g u).s) :
    KeepsForm s (Machine.turn body w t) :=
  h.takeTurn.branch (fun h => h.answer) fun h => .ite h.answerForeign
    ((KeepsForm.ite h h.bind).branch (fun h => h.oldPacket) fun h => h.inOrder hb)

/-- Packets that are executed by a body which keeps the form, as far as their turn has come. -/
theorem KeepsForm.drainN {body n} (h : KeepsForm s t) (hb : ∀ {w g u}, KeepsForm s u → KeepsForm s (body w g u).s) :
    KeepsForm s (Machine.drainN body n t) := by
  induction n generalizing t with
  | zero => exact h
  | succ n ih =>
    unfold Machine.drainN
    split
    · exact h.noteHeld
    · split
      · exact h
      · exact ih (.branch (h.onCmd.turn hb) (fun h => h.settle) id)

theorem KeepsForm.enter {w} (h : KeepsForm s t) : KeepsForm s (Machine.enter w t) := .ite h (.ite h.incF (.ite h.incF h.onCmd))

/-! ### Packets for the slate -/

theorem KeepsForm.unlessBreaks (h : KeepsForm s t) (hu : KeepsForm s u) : KeepsForm s (Machine.unlessBreaks t u).s := by
  unfold Machine.unlessBreaks
  split
  · exact h
  · exact hu

theorem KeepsForm.unlessEntryBreaks {α : Type} {f : α → State → State} {l} (h : KeepsForm s t) (hu : KeepsForm s u) :
    KeepsForm s (Machine.unlessEntryBreaks f l t u).s := by
  unfold Machine.unlessEntryBreaks
  split
  · exact h
  · exact hu

theorem KeepsForm.revertLine {i} (h : KeepsForm s t) : KeepsForm s (Machine.revertLine i t) := by
  unfold Machine.revertLine
  dsimp only
  split
  · exact h
  · split
    · exact .ite h.onLine.sizeLineClaim h.onLine.releaseRange
    · exact h.onLine.releaseRange

theorem KeepsForm.dropRecast {r} (h : KeepsForm s t) : KeepsForm s (Machine.dropRecast r t) := .ite h.setF h

theorem KeepsForm.revertEngine {e} (h : KeepsForm s t) : KeepsForm s (Machine.revertEngine e t) := h.copyBytes.setF.setF

theorem KeepsForm.revertTasks (h : KeepsForm s t) : KeepsForm s (Machine.revertTasks t) := h.onCs

theorem KeepsForm.revertSlate (h : KeepsForm s t) : KeepsForm s (Machine.revertSlate t) :=
  (((h.foldl (fun h => h.revertEngine)).onSpl.setF.revertTasks.foldl (fun h => h.revertLine)).foldl (fun h =>
    h.dropRecast)).onTake.revertLanes

theorem KeepsForm.cmdSlateRevert (h : KeepsForm s t) : KeepsForm s (Machine.cmdSlateRevert t).s := .iteRes h.refuse h.revertSlate.done

theorem KeepsForm.cmdTaskWrite {p} (h : KeepsForm s t) : KeepsForm s (Machine.cmdTaskWrite p t).s := h.okOr h.onTask

theorem KeepsForm.dropTask {n} (h : KeepsForm s t) : KeepsForm s (Machine.dropTask n t) := .ite h.onTask h.freeTask

theorem KeepsForm.cmdTaskDrop {p} (h : KeepsForm s t) : KeepsForm s (Machine.cmdTaskDrop p t).s := by
  unfold Machine.cmdTaskDrop
  split
  · exact h.refuseAt
  · exact .iteRes (h.unlessEntryBreaks (h.foldl fun h => h.dropTask)) h.refuse

theorem KeepsForm.cmdTaskRearm {p} (h : KeepsForm s t) : KeepsForm s (Machine.cmdTaskRearm p t).s := by
  unfold Machine.cmdTaskRearm
  split
  · exact h.refuseAt
  · exact (h.foldl (fun h => h.onTask)).done

theorem KeepsForm.cmdAimgWrite {p} (h : KeepsForm s t) : KeepsForm s (Machine.cmdAimgWrite p t).s :=
  .iteRes h.refuse (.iteRes h.refuse h.onCs.done)

theorem KeepsForm.cmdXferWrite {p} (h : KeepsForm s t) : KeepsForm s (Machine.cmdXferWrite p t).s := by
  unfold Machine.cmdXferWrite
  dsimp only
  split
  · exact h.refuseAt
  · split
    · exact h.refuseAt
    · exact (h.foldl (fun h => h.onCs)).done

theorem KeepsForm.lineKeep {i c x} (h : KeepsForm s t) : KeepsForm s (Machine.lineKeep i c x t).s :=
  .iteRes h.claimRange h.revertLine.sizeLineClaim.onLine.done

theorem KeepsForm.lineMove {i x} (h : KeepsForm s t) : KeepsForm s (Machine.lineMove i x t).s :=
  .iteRes h.revertLine.claimRange.onLine.done (.iteRes h.claimRange h.refuse)

theorem KeepsForm.cmdLineSet {p} (h : KeepsForm s t) : KeepsForm s (Machine.cmdLineSet p t).s := by
  unfold Machine.cmdLineSet
  refine .iteRes ?_ ?_
  · exact h.refuse
  · refine .iteRes ?_ ?_
    · exact h.refuse
    · split
      · exact .iteRes h.lineKeep (.iteRes h.refuse h.lineMove)
      · exact h.lineMove

theorem KeepsForm.cmdSliceInit {p} (h : KeepsForm s t) : KeepsForm s (Machine.cmdSliceInit p t).s := by
  unfold Machine.cmdSliceInit
  dsimp only
  split
  · exact h.refuseAt
  · split
    · exact h.refuseAt
    · exact h.onTake.done

theorem KeepsForm.cmdCodeLoad {p} (h : KeepsForm s t) : KeepsForm s (Machine.cmdCodeLoad p t).s := by
  unfold Machine.cmdCodeLoad
  refine .iteRes ?_ ?_
  · exact h.refuse
  · refine .iteRes ?_ ?_
    · exact h.refuse
    · split
      · exact h.refuse
      · exact h.writeWords.done

theorem KeepsForm.cmdCoefWrite {p} (h : KeepsForm s t) : KeepsForm s (Machine.cmdCoefWrite p t).s := by
  unfold Machine.cmdCoefWrite
  refine .iteRes ?_ ?_
  · exact h.refuse
  · split
    · exact h.refuse
    · exact h.hostWrites.done

theorem KeepsForm.xpPut {l} (h : KeepsForm s t) (e : Machine.xpPut l t = .inr u) : KeepsForm s u := by
  induction l generalizing t with
  | nil => cases e; exact h
  | cons x l ih =>
    unfold Machine.xpPut at e
    dsimp only at e
    split at e
    · cases e
    · exact ih h.xpWrite.notePeakFades e

theorem KeepsForm.xpCommand {l} (h : KeepsForm s t) : KeepsForm s (Machine.xpCommand l t).s := by
  unfold Machine.xpCommand
  split
  · exact h.refuseAt
  · exact h.unlessEntryBreaks (h.xpPut ‹_›).setF

theorem KeepsForm.cmdXpSet {p} (h : KeepsForm s t) : KeepsForm s (Machine.cmdXpSet p t).s := by
  unfold Machine.cmdXpSet
  dsimp only
  split
  · exact h.refuseAt
  · exact h.xpCommand

theorem KeepsForm.cmdXpRow {p} (h : KeepsForm s t) : KeepsForm s (Machine.cmdXpRow p t).s :=
  .iteRes h.refuseAt (.iteRes h.refuseAt (.iteRes h.refuseAt h.xpCommand))

theorem KeepsForm.putPatch {w} (h : KeepsForm s t) : KeepsForm s (Machine.putPatch w t) := h.onTake

theorem KeepsForm.cmdPatchSet {p} (h : KeepsForm s t) : KeepsForm s (Machine.cmdPatchSet p t).s := by
  unfold Machine.cmdPatchSet
  split
  · exact h.refuseAt
  · split
    · exact h.refuseAt
    · exact h.unlessEntryBreaks (h.foldl fun h => h.putPatch)

theorem KeepsForm.cmdRecast {p} (h : KeepsForm s t) : KeepsForm s (Machine.cmdRecast p t).s := by
  unfold Machine.cmdRecast
  dsimp only
  split
  · exact h.refuse
  · refine .iteRes ?_ ?_
    · exact h.refuse
    · split
      · exact h.refuse
      · exact h.unlessBreaks (h.foldl (fun h => h.dropRecast)).onTake.startRecast

theorem KeepsForm.cmdTake {h' gap p} (h : KeepsForm s t) : KeepsForm s (Machine.cmdTake h' gap p t).s :=
  .iteRes h.incF.refuse (.iteRes h.askRing (.iteRes h.doneWith h.onTake.doneWith))

theorem KeepsForm.cmdTakeCancel (h : KeepsForm s t) : KeepsForm s (Machine.cmdTakeCancel t).s := by
  unfold Machine.cmdTakeCancel
  split
  · exact h.refuse
  · exact .iteRes h.refuse (.iteRes h.refuse (KeepsForm.abandonTake (.ite h.out h)).done)

/-! ### Packets for ports -/

theorem KeepsForm.cmdPortCfg {p} (h : KeepsForm s t) : KeepsForm s (Machine.cmdPortCfg p t).s :=
  .iteRes h.refuse (.iteRes h.spCfg.refuse ((h.setReg.setReg.foldl (fun h => h.setReg)).foldl (fun h => h.setReg)).done)

theorem KeepsForm.cmdPortTime {start p} (h : KeepsForm s t) : KeepsForm s (Machine.cmdPortTime start p t).s := by
  unfold Machine.cmdPortTime
  refine .iteRes ?_ ?_
  · exact h.refuse
  · refine .iteRes ?_ ?_
    · exact h.refuse
    · split
      · exact h.startRefused.refuse
      · exact (h.foldl (fun h => h.schedulePort)).done

theorem KeepsForm.cmdCgCfg {p} (h : KeepsForm s t) : KeepsForm s (Machine.cmdCgCfg p t).s :=
  .iteRes h.refuse (.iteRes h.cgRefused.refuse h.cgApply.groupCands.setF.done)

theorem KeepsForm.cmdDlLane {p} (h : KeepsForm s t) : KeepsForm s (Machine.cmdDlLane p t).s :=
  .iteRes h.refuse (.iteRes h.laneRefused.refuse h.scheduleLane.done)

theorem KeepsForm.setPoint {i w} (h : KeepsForm s t) : KeepsForm s (Machine.setPoint i w t) := h.onDl

theorem KeepsForm.cmdMeterSet {p} (h : KeepsForm s t) : KeepsForm s (Machine.cmdMeterSet p t).s := by
  unfold Machine.cmdMeterSet
  dsimp only
  split
  · exact h.refuseAt
  · exact (h.foldl (fun h => h.setPoint)).done

theorem KeepsForm.cmdStreamCfg {p} (h : KeepsForm s t) : KeepsForm s (Machine.cmdStreamCfg p t).s := h.okOr h.onCtx

theorem KeepsForm.streamRefused {c st} (h : KeepsForm s t) : KeepsForm s (Machine.streamRefused c st t) := .ite h.raise h

theorem KeepsForm.cmdStreamTime {start p} (h : KeepsForm s t) : KeepsForm s (Machine.cmdStreamTime start p t).s :=
  .iteRes h.refuse (.iteRes h.streamRefused.refuse h.onNet.done)

theorem KeepsForm.cmdTimeSet {p} (h : KeepsForm s t) : KeepsForm s (Machine.cmdTimeSet p t).s :=
  .iteRes h.refuse (.iteRes h.refuse h.onPtp.done)

theorem KeepsForm.cmdClapTrig {p} (h : KeepsForm s t) : KeepsForm s (Machine.cmdClapTrig p t).s :=
  .iteRes h.refuse (.iteRes (.iteRes h.putTrigRegs.done (.iteRes h.refuse h.releaseTrig.putTrigRegs.done)) (.iteRes h.trigRefused.refuse
    h.putTrigRegs.armTrig.done))

/-! ### Packets for the system -/

theorem KeepsForm.cmdNotifySub {h' p} (h : KeepsForm s t) : KeepsForm s (Machine.cmdNotifySub h' p t).s := h.onSess.done

theorem KeepsForm.clearLive (h : KeepsForm s t) : KeepsForm s (Machine.clearLive t) := by
  unfold Machine.clearLive
  exact (h.revertSlate.foldl (fun h => h.freeTask)).onCs.releaseRange.onSpl.setF.onTake.onDl.onRl.onStage

theorem KeepsForm.cmdConfigure {p} (h : KeepsForm s t) : KeepsForm s (Machine.cmdConfigure p t).s :=
  .iteRes h.refuse (.iteRes h.refuse (.iteRes h.setF.done h.clearLive.setF.setF.setF.setF.showAdmit.startRing.done))

theorem KeepsForm.cmdModeSet {hd gap p} (h : KeepsForm s t) : KeepsForm s (Machine.cmdModeSet hd gap p t).s := by
  unfold Machine.cmdModeSet
  extract_lets m st wait
  have hw : KeepsForm s wait := h.onCmd
  exact .iteRes h.refuse (.iteRes h.done (.iteRes h.applyModeSet.done (.iteRes hw.onSti.res (.iteRes hw.res
    h.applyModeSet.standbyRing.done))))

theorem KeepsForm.cmdMemRead {h' p bad} (h : KeepsForm s t) : KeepsForm s (Machine.cmdMemRead h' p bad t).s :=
  .iteRes h.refuse (.iteRes h.done h.hostReads.doneWith)

theorem KeepsForm.cmdMemWrite {p} (h : KeepsForm s t) : KeepsForm s (Machine.cmdMemWrite p t).s := by
  unfold Machine.cmdMemWrite
  refine .iteRes ?_ ?_
  · exact h.refuse
  · split
    · exact h.hostWrites.done
    · exact h.hostWrite.refuse

theorem KeepsForm.cmdMemClaim {p} (h : KeepsForm s t) : KeepsForm s (Machine.cmdMemClaim p t).s :=
  .iteRes h.refuse (.iteRes (.iteRes h.releaseRange.done h.refuse) (.iteRes h.refuse (.iteRes h.claimRange.done h.claimRange)))

theorem KeepsForm.cmdFaultCfg {p} (h : KeepsForm s t) : KeepsForm s (Machine.cmdFaultCfg p t).s := by
  unfold Machine.cmdFaultCfg
  split
  · exact h.refuseAt
  · exact (h.foldl (fun h => h.setF.setF)).done

theorem KeepsForm.cmdLogRead {p} (h : KeepsForm s t) : KeepsForm s (Machine.cmdLogRead p t).s :=
  .iteRes h.refuse (.iteRes h.refuse h.doneWith)

theorem KeepsForm.beginLong {op arg h'} (h : KeepsForm s t) : KeepsForm s (Machine.beginLong op arg h' t) := h.onCmd.setF

theorem KeepsForm.cmdLogErase {h' p} (h : KeepsForm s t) : KeepsForm s (Machine.cmdLogErase h' p t).s :=
  .iteRes h.refuse h.eraseStart.beginLong.done

theorem KeepsForm.cmdRoleSet {p} (h : KeepsForm s t) : KeepsForm s (Machine.cmdRoleSet p t).s :=
  .iteRes h.refuse (h.okOr h.applyRoleSet.standbyRing)

theorem KeepsForm.ringMap {first ws} (h : KeepsForm s t) : KeepsForm s (Machine.ringMap first ws t) := h.foldl (fun h => h.onRl)

theorem KeepsForm.ringSet {sub x ws} (h : KeepsForm s t) : KeepsForm s (Machine.ringSet sub x ws t) := by
  unfold Machine.ringSet
  split
  · exact h.onRl.startRing
  · exact h.ringMap.startRing
  · exact h.onRl
  · exact h.onRl

theorem KeepsForm.cmdRingCfg {p} (h : KeepsForm s t) : KeepsForm s (Machine.cmdRingCfg p t).s := by
  unfold Machine.cmdRingCfg
  refine .iteRes ?_ ?_
  · exact h.refuse
  · split
    · exact .iteRes h.refuse h.ringSet.done
    · exact .iteRes h.refuse h.ringSet.done
    · exact .iteRes h.refuse (.iteRes h.refuse h.ringSet.done)
    · exact .iteRes h.refuse (.iteRes h.refuse h.ringSet.done)
    · exact h.refuse

theorem KeepsForm.mramWords {off ws} (h : KeepsForm s t) : KeepsForm s (Machine.mramWords off ws t) := by
  unfold Machine.mramWords
  refine .ite ?_ ?_
  · split
    · exact h
    · exact h.mramDword.mramWrite
  · exact h.mramWrite

theorem KeepsForm.cmdFwUpdate {h' p} (h : KeepsForm s t) : KeepsForm s (Machine.cmdFwUpdate h' p t).s :=
  .iteRes h.refuse ((KeepsForm.ite h.mramWords h).branch (fun h => h.mramWords.beginLong) (fun h => h.mramWords)).done

theorem KeepsForm.cmdProvision {p} (h : KeepsForm s t) : KeepsForm s (Machine.cmdProvision p t).s :=
  .iteRes h.onFuse.logEvent.done (.iteRes h.refuse h.onFuse.logEvent.done)

theorem KeepsForm.cmdSeal {p} (h : KeepsForm s t) : KeepsForm s (Machine.cmdSeal p t).s := .iteRes h.refuse h.onFuse.logEvent.done

theorem KeepsForm.restoreEngine {e} (h : KeepsForm s t) : KeepsForm s (Machine.restoreEngine e t) := h.writeRepair.logEvent

theorem KeepsForm.cmdRepairSet {p} (h : KeepsForm s t) : KeepsForm s (Machine.cmdRepairSet p t).s := by
  unfold Machine.cmdRepairSet
  refine .okOr h (.incF ?_)
  split
  · exact h.addRepair
  · exact h.restoreEngine
  · exact h.addRepair

theorem KeepsForm.cmdSceneWrite {p} (h : KeepsForm s t) : KeepsForm s (Machine.cmdSceneWrite p t).s := by
  unfold Machine.cmdSceneWrite
  dsimp only
  refine .iteRes ?_ ?_
  · exact h.refuse
  · split
    · exact h.refuseAt
    · exact .iteRes h.refuse (.iteRes (KeepsForm.mramWords (.ite h.mramWords.mramWords h)).mramWords.mramWords.onCmd.done
        (KeepsForm.mramWords (.ite h.mramWords.mramWords h)).onCmd.done)

theorem KeepsForm.cmdSceneLoad {h' p} (h : KeepsForm s t) : KeepsForm s (Machine.cmdSceneLoad h' p t).s :=
  .iteRes h.refuse (.iteRes h.refuse h.beginLong.done)

theorem KeepsForm.slateBody {w gap} (h : KeepsForm s t) : KeepsForm s (Machine.slateBody w gap t).s := by
  unfold Machine.slateBody
  split
  · exact h.cmdSlateRevert
  · exact h.cmdTaskWrite
  · exact h.cmdTaskDrop
  · exact h.cmdTaskRearm
  · exact h.cmdAimgWrite
  · exact h.cmdXferWrite
  · exact h.cmdLineSet
  · exact h.cmdSliceInit
  · exact h.cmdCodeLoad
  · exact h.cmdCoefWrite
  · exact h.cmdSceneWrite
  · exact h.cmdSceneLoad
  · exact h.cmdTake
  · exact h.cmdTakeCancel
  · exact h.cmdRecast
  · exact h.cmdXpSet
  · exact h.cmdXpRow
  · exact h.cmdPatchSet

theorem KeepsForm.unitBody {w} (h : KeepsForm s t) : KeepsForm s (Machine.unitBody w t).s := by
  unfold Machine.unitBody
  split
  · exact h.cmdPortCfg
  · exact h.cmdPortTime
  · exact h.cmdPortTime
  · exact h.cmdCgCfg
  · exact h.cmdDlLane
  · exact h.cmdMeterSet
  · exact h.cmdStreamCfg
  · exact h.cmdStreamTime
  · exact h.cmdStreamTime
  · exact h.cmdTimeSet
  · exact h.cmdClapTrig
  · exact h.cmdFaultCfg
  · exact h.cmdLogRead
  · exact h.cmdLogErase
  · exact h.cmdRoleSet
  · exact h.cmdRingCfg
  · exact h.cmdFwUpdate
  · exact h.cmdProvision
  · exact h.cmdSeal
  · exact h.cmdRepairSet

theorem KeepsForm.opBody {w gap} (h : KeepsForm s t) : KeepsForm s (Machine.opBody w gap t).s := by
  unfold Machine.opBody
  split
  · exact h.done
  · exact h.doneWith
  · exact h.cmdConfigure
  · exact h.cmdModeSet
  · exact h.cmdMemRead
  · exact h.cmdMemWrite
  · exact h.cmdNotifySub
  · exact h.cmdMemClaim
  · exact .iteRes h.slateBody h.unitBody

theorem KeepsForm.runScene {tr l i} (h : KeepsForm s t) : KeepsForm s (Machine.runScene tr l i t).1 := by
  induction l generalizing i t with
  | nil => exact h
  | cons ws l ih =>
    unfold Machine.runScene
    extract_lets fl w st r
    have hr : KeepsForm s r.s := by
      unfold r
      split
      · exact h.opBody
      · exact h.refuse
    split
    · exact ih (h.settleRes hr)
    · exact hr.revertSlate

theorem KeepsForm.verifyImage {b} (h : KeepsForm s t) : KeepsForm s (Machine.verifyImage b t).1 := h.logEvent

theorem KeepsForm.endLong {l} (h : KeepsForm s t) : KeepsForm s (Machine.endLong l t).1 := by
  unfold Machine.endLong
  split
  · split
    · split
      · exact h.runScene
      · exact h
    · exact h
  · exact h.verifyImage
  · exact h.eraseEnd

theorem KeepsForm.opDone (h : KeepsForm s t) : KeepsForm s (Machine.opDone t) := by
  unfold Machine.opDone
  split
  · exact h
  · exact h.endLong.onCmd.setF.notify

/-! ### Packets that take time -/

theorem KeepsForm.serve (h : KeepsForm s t) : KeepsForm s (Machine.serve t) := h.drainN (fun h => h.opBody)

theorem KeepsForm.receive {w} (h : KeepsForm s t) : KeepsForm s (Machine.receive w t) := h.enter.serve

theorem KeepsForm.arrive {op h' p bad} (h : KeepsForm s t) : KeepsForm s (Machine.arrive op h' p bad t) := h.receive

theorem KeepsForm.arrived {op h' p} (h : KeepsForm s t) : KeepsOut s (Machine.arrived op h' p t) := h.arrive.finish

theorem KeepsForm.execPing {h' p} (h : KeepsForm s t) : KeepsOut s (Machine.execPing h' p t) := h.arrived

theorem KeepsForm.execResync {h' p} (h : KeepsForm s t) : KeepsOut s (Machine.execResync h' p t) := h.arrived

theorem KeepsForm.execConfigure {h' p} (h : KeepsForm s t) : KeepsOut s (Machine.execConfigure h' p t) := h.arrived

theorem KeepsForm.execModeSet {h' p} (h : KeepsForm s t) : KeepsOut s (Machine.execModeSet h' p t) := h.arrived

theorem KeepsForm.execMemRead {h' p bad} (h : KeepsForm s t) : KeepsOut s (Machine.execMemRead h' p bad t) := h.arrive.finish

theorem KeepsForm.execMemWrite {h' p} (h : KeepsForm s t) : KeepsOut s (Machine.execMemWrite h' p t) := h.arrived

theorem KeepsForm.execNotifySub {h' p} (h : KeepsForm s t) : KeepsOut s (Machine.execNotifySub h' p t) := h.arrived

theorem KeepsForm.execMemClaim {h' p} (h : KeepsForm s t) : KeepsOut s (Machine.execMemClaim h' p t) := h.arrived

theorem KeepsForm.execSlateRevert {h' p} (h : KeepsForm s t) : KeepsOut s (Machine.execSlateRevert h' p t) := h.arrived

theorem KeepsForm.execTaskWrite {h' p} (h : KeepsForm s t) : KeepsOut s (Machine.execTaskWrite h' p t) := h.arrived

theorem KeepsForm.execTaskDrop {h' p} (h : KeepsForm s t) : KeepsOut s (Machine.execTaskDrop h' p t) := h.arrived

theorem KeepsForm.execTaskRearm {h' p} (h : KeepsForm s t) : KeepsOut s (Machine.execTaskRearm h' p t) := h.arrived

theorem KeepsForm.execAimgWrite {h' p} (h : KeepsForm s t) : KeepsOut s (Machine.execAimgWrite h' p t) := h.arrived

theorem KeepsForm.execXferWrite {h' p} (h : KeepsForm s t) : KeepsOut s (Machine.execXferWrite h' p t) := h.arrived

theorem KeepsForm.execLineSet {h' p} (h : KeepsForm s t) : KeepsOut s (Machine.execLineSet h' p t) := h.arrived

theorem KeepsForm.execSliceInit {h' p} (h : KeepsForm s t) : KeepsOut s (Machine.execSliceInit h' p t) := h.arrived

theorem KeepsForm.execCodeLoad {h' p} (h : KeepsForm s t) : KeepsOut s (Machine.execCodeLoad h' p t) := h.arrived

theorem KeepsForm.execCoefWrite {h' p} (h : KeepsForm s t) : KeepsOut s (Machine.execCoefWrite h' p t) := h.arrived

theorem KeepsForm.execSceneWrite {h' p} (h : KeepsForm s t) : KeepsOut s (Machine.execSceneWrite h' p t) := h.arrived

theorem KeepsForm.execSceneLoad {h' p} (h : KeepsForm s t) : KeepsOut s (Machine.execSceneLoad h' p t) := h.arrived

theorem KeepsForm.execTake {h' p} (h : KeepsForm s t) : KeepsOut s (Machine.execTake h' p t) := h.arrived

theorem KeepsForm.execTakeCancel {h' p} (h : KeepsForm s t) : KeepsOut s (Machine.execTakeCancel h' p t) := h.arrived

theorem KeepsForm.execRecast {h' p} (h : KeepsForm s t) : KeepsOut s (Machine.execRecast h' p t) := h.arrived

theorem KeepsForm.execXpSet {h' p} (h : KeepsForm s t) : KeepsOut s (Machine.execXpSet h' p t) := h.arrived

theorem KeepsForm.execXpRow {h' p} (h : KeepsForm s t) : KeepsOut s (Machine.execXpRow h' p t) := h.arrived

theorem KeepsForm.execPatchSet {h' p} (h : KeepsForm s t) : KeepsOut s (Machine.execPatchSet h' p t) := h.arrived

theorem KeepsForm.execPortCfg {h' p} (h : KeepsForm s t) : KeepsOut s (Machine.execPortCfg h' p t) := h.arrived

theorem KeepsForm.execPortStart {h' p} (h : KeepsForm s t) : KeepsOut s (Machine.execPortStart h' p t) := h.arrived

theorem KeepsForm.execPortStop {h' p} (h : KeepsForm s t) : KeepsOut s (Machine.execPortStop h' p t) := h.arrived

theorem KeepsForm.execCgCfg {h' p} (h : KeepsForm s t) : KeepsOut s (Machine.execCgCfg h' p t) := h.arrived

theorem KeepsForm.execDlLane {h' p} (h : KeepsForm s t) : KeepsOut s (Machine.execDlLane h' p t) := h.arrived

theorem KeepsForm.execMeterSet {h' p} (h : KeepsForm s t) : KeepsOut s (Machine.execMeterSet h' p t) := h.arrived

theorem KeepsForm.execStreamCfg {h' p} (h : KeepsForm s t) : KeepsOut s (Machine.execStreamCfg h' p t) := h.arrived

theorem KeepsForm.execStreamStart {h' p} (h : KeepsForm s t) : KeepsOut s (Machine.execStreamStart h' p t) := h.arrived

theorem KeepsForm.execStreamStop {h' p} (h : KeepsForm s t) : KeepsOut s (Machine.execStreamStop h' p t) := h.arrived

theorem KeepsForm.execTimeSet {h' p} (h : KeepsForm s t) : KeepsOut s (Machine.execTimeSet h' p t) := h.arrived

theorem KeepsForm.execClapTrig {h' p} (h : KeepsForm s t) : KeepsOut s (Machine.execClapTrig h' p t) := h.arrived

theorem KeepsForm.execFaultCfg {h' p} (h : KeepsForm s t) : KeepsOut s (Machine.execFaultCfg h' p t) := h.arrived

theorem KeepsForm.execLogRead {h' p} (h : KeepsForm s t) : KeepsOut s (Machine.execLogRead h' p t) := h.arrived

theorem KeepsForm.execLogErasePerm {h' p} (h : KeepsForm s t) : KeepsOut s (Machine.execLogErasePerm h' p t) := h.arrived

theorem KeepsForm.execHandover {h' p} (h : KeepsForm s t) : KeepsOut s (Machine.execHandover h' p t) := h.arrived

theorem KeepsForm.execClaim {h' p} (h : KeepsForm s t) : KeepsOut s (Machine.execClaim h' p t) := h.arrived

theorem KeepsForm.execLeave {h' p} (h : KeepsForm s t) : KeepsOut s (Machine.execLeave h' p t) := h.arrived

theorem KeepsForm.execJoin {h' p} (h : KeepsForm s t) : KeepsOut s (Machine.execJoin h' p t) := h.arrived

theorem KeepsForm.execRingCfgSize {h' p} (h : KeepsForm s t) : KeepsOut s (Machine.execRingCfgSize h' p t) := h.arrived

theorem KeepsForm.execRingCfgBusMap {h' p} (h : KeepsForm s t) : KeepsOut s (Machine.execRingCfgBusMap h' p t) := h.arrived

theorem KeepsForm.execRingCfgFwdRl0Rl1 {h' p} (h : KeepsForm s t) : KeepsOut s (Machine.execRingCfgFwdRl0Rl1 h' p t) := h.arrived

theorem KeepsForm.execRingCfgFwdRl1Rl0 {h' p} (h : KeepsForm s t) : KeepsOut s (Machine.execRingCfgFwdRl1Rl0 h' p t) := h.arrived

theorem KeepsForm.execFwUpdate {h' p} (h : KeepsForm s t) : KeepsOut s (Machine.execFwUpdate h' p t) := h.arrived

theorem KeepsForm.execProvision {h' p} (h : KeepsForm s t) : KeepsOut s (Machine.execProvision h' p t) := h.arrived

theorem KeepsForm.execSeal {h' p} (h : KeepsForm s t) : KeepsOut s (Machine.execSeal h' p t) := h.arrived

theorem KeepsForm.execRetire {h' p} (h : KeepsForm s t) : KeepsOut s (Machine.execRetire h' p t) := h.arrived

theorem KeepsForm.execRestore {h' p} (h : KeepsForm s t) : KeepsOut s (Machine.execRestore h' p t) := h.arrived

theorem KeepsForm.execSramrow {h' p} (h : KeepsForm s t) : KeepsOut s (Machine.execSramrow h' p t) := h.arrived

theorem KeepsForm.execOpDone (h : KeepsForm s t) : KeepsOut s (Machine.execOpDone t) := h.opDone.serve.finish

theorem KeepsForm.commandDescriptor {d data} (h : KeepsForm s t) : KeepsForm s (Machine.commandDescriptor d data t) := by
  unfold Machine.commandDescriptor
  refine .ite ?_ ?_
  · exact h
  · split
    · exact .ite h.setF.incF.setIrq h.setF.receive
    · exact h.setF.incF.setIrq

theorem KeepsForm.execCommandDescriptor {d data} (h : KeepsForm s t) : KeepsOut s (Machine.execCommandDescriptor d data t) :=
  h.commandDescriptor.finish

theorem KeepsForm.execMgmtDatagram {src sumOk l} (h : KeepsForm s t) : KeepsOut s (Machine.execMgmtDatagram src sumOk l t) :=
  KeepsForm.finish (.ite h (.ite h.receive h.incF))

theorem KeepsForm.spiAnswer {ws} (h : KeepsForm s t) : KeepsForm s (Machine.spiAnswer ws t) := h.out

theorem KeepsForm.execWritePacket {l} (h : KeepsForm s t) : KeepsOut s (Machine.execWritePacket l t) :=
  KeepsForm.finish (.ite h.spiAnswer.receive h)

theorem KeepsForm.spiNext (h : KeepsForm s t) : KeepsForm s (Machine.spiNext t) := by
  unfold Machine.spiNext
  split
  · exact h
  · exact h.onCmd.placeWords

theorem KeepsForm.execReadMessage {n} (h : KeepsForm s t) : KeepsOut s (Machine.execReadMessage n t) :=
  KeepsForm.finish (.ite h (.ite h.spiAnswer.onCmd.spiNext.serve h.spiAnswer))

theorem KeepsForm.execReadMemory {a n bad} (h : KeepsForm s t) : KeepsOut s (Machine.execReadMemory a n bad t) :=
  KeepsForm.finish (.ite h.hostReads.out h)

theorem KeepsForm.execWriteMemory {a ws} (h : KeepsForm s t) : KeepsOut s (Machine.execWriteMemory a ws t) :=
  KeepsForm.finish (.ite h.spiAnswer.hostWrites.serve h)

theorem KeepsForm.execRegisterWrite {a n v} (h : KeepsForm s t) : KeepsOut s (Machine.execRegisterWrite a n v t) :=
  KeepsForm.finish (.ite h.writeReg.serve h)

theorem KeepsForm.execGafferResume (h : KeepsForm s t) : KeepsOut s (Machine.execGafferResume t) :=
  KeepsForm.finish (.ite h.onBoot.logEvent.serve h)

theorem KeepsForm.execHeldCommandsRelease (h : KeepsForm s t) : KeepsOut s (Machine.execHeldCommandsRelease t) :=
  (KeepsForm.serve (.ite h.onTake.releaseRecasts h)).finish

theorem KeepsForm.execVoteReceived {id status} (h : KeepsForm s t) : KeepsOut s (Machine.execVoteReceived id status t) :=
  h.voteReceived.serve.finish

theorem KeepsForm.execVoteTimeout (h : KeepsForm s t) : KeepsOut s (Machine.execVoteTimeout t) := h.decideTake.serve.finish

theorem KeepsForm.modeSetDue (h : KeepsForm s t) : KeepsForm s (Machine.modeSetDue t) := by
  unfold Machine.modeSetDue
  split
  · exact .ite h (.ite h.onCmd.applyModeSet.standbyRing.noteGen.placeReply h.onCmd.placeReply)
  · exact h

theorem KeepsForm.execModeTransition (h : KeepsForm s t) : KeepsOut s (Machine.execModeTransition t) :=
  KeepsForm.finish (.ite h.resetTo h.modeSetDue.clockCond.serve)

theorem KeepsForm.execFollowerAcquire {count} (h : KeepsForm s t) : KeepsOut s (Machine.execFollowerAcquire count t) := by
  unfold Machine.execFollowerAcquire
  refine .finish ?_
  split
  · exact .ite (h.onSti.onCmd.branch (fun h => h.setF.changeMode.loadShot.noteGen.placeReply) (fun h => h.placeReply)).serve h
  · exact h

/-! ### Mirrored packets -/

theorem KeepsForm.imageWords {l ws} (h : KeepsForm s t) : KeepsForm s (Machine.imageWords l ws t) := by
  induction l, ws, t using imageWords.induct with
  | case1 w0 w1 l ws t x n ih => rw [Machine.imageWords]; exact ih h.writeWords
  | case2 ws t l hl => rwa [Machine.imageWords]; exact hl

theorem KeepsForm.standinCommit {number more pages} (h : KeepsForm s t) : KeepsForm s (Machine.standinCommit number more pages t) := by
  unfold Machine.standinCommit
  extract_lets put applied tk tk' t2 t3
  have hput : ∀ {v}, KeepsForm s v → KeepsForm s (put v) := fun h => h.foldl fun {u x} h => by
    split
    · exact h.writeBytes.writeBytes
    · exact h
  have happlied : ∀ {v}, KeepsForm s v → KeepsForm s (applied v) := fun h => .ite h h.setF
  have h2 : KeepsForm s t2 := h.copySlices.commitWork
  have h3 : KeepsForm s t3 := hput h2.endStages.endWork.endFades
  exact .ite (happlied (hput h)) (happlied h3.onTake.setF)

theorem KeepsForm.applyMirror {x} (h : KeepsForm s t) : KeepsForm s (Machine.applyMirror x t) := by
  unfold Machine.applyMirror
  split
  · exact h.standinCommit
  · refine .ite ?_ ?_
    · exact h.onSti
    · split
      · exact h.onTake
      · exact h.abandonTake
      · exact h
      · exact KeepsForm.opBody (.ite h.imageWords h)

theorem KeepsForm.execMirrorPacketApply {x} (h : KeepsForm s t) : KeepsOut s (Machine.execMirrorPacketApply x t) :=
  KeepsForm.finish (.ite h.applyMirror h)

theorem KeepsForm.showRing {ids} (h : KeepsForm s t) : KeepsForm s (Machine.showRing ids t) := .ite h h.onRl.setF.setF.setF.setF.setF.setF

theorem KeepsForm.ringPayload {p} (h : KeepsForm s t) : KeepsForm s (Machine.ringPayload p t) := h.ringSet

theorem KeepsForm.applyWhole {x} (h : KeepsForm s t) : KeepsForm s (Machine.applyWhole x t) :=
  ((((h.clearLive.setReg.foldl (fun h => h.ringPayload)).showRing.onSti.foldl (fun h => h.applyMirror)).standinCommit.foldl (fun h =>
    h.setWord)).foldl (fun h => h.applyMirror)).setF.incF

theorem KeepsForm.wholeStateDone {x} (h : KeepsForm s t) : KeepsForm s (Machine.wholeStateDone x t) :=
  .ite h.applyWhole (.ite h.onSti.incF h)

theorem KeepsForm.execWholeStateTransferDone {x} (h : KeepsForm s t) : KeepsOut s (Machine.execWholeStateTransferDone x t) :=
  h.wholeStateDone.finish

theorem KeepsForm.restartCtx {c n} (h : KeepsForm s t) : KeepsForm s (Machine.restartCtx c n t) := .ite h.startCtx h.startCtx.onCtx

theorem KeepsForm.restoreOne {phis op p} (h : KeepsForm s t) : KeepsForm s (Machine.restoreOne phis op p t) :=
  .ite h.cmdClapTrig (.ite (.ite (.ite h.restartCtx h.stopCtx) h.onNet) (.ite (.ite (.ite h.startLane h.stopLane) h.scheduleLane)
    (h.foldl (fun h => .ite (.ite h.startDir h.stopDir) h.schedulePort))))

theorem KeepsForm.takeoverStart {phis} (h : KeepsForm s t) : KeepsForm s (Machine.takeoverStart phis t) :=
  .ite h ((KeepsForm.foldl (.ite h.setF.onSti.onBoot.mclkOut h.setF.onSti.onBoot) (fun h => h.restoreOne)).branch (fun h => h.armDue)
    (fun h => h.armDue.changeMode))

theorem KeepsForm.execTakeoverStart {phis} (h : KeepsForm s t) : KeepsOut s (Machine.execTakeoverStart phis t) := h.takeoverStart.finish

/-! ### Dispatch -/

theorem KeepsForm.exec {i} (h : KeepsForm s t) : KeepsOut s (Machine.exec i t) := by
  unfold Machine.exec
  split
  · exact h.execPing
  · exact h.execResync
  · exact h.execConfigure
  · exact h.execModeSet
  · exact h.execMemRead
  · exact h.execMemWrite
  · exact h.execNotifySub
  · exact h.execMemClaim
  · exact h.execSlateRevert
  · exact h.execTaskWrite
  · exact h.execTaskDrop
  · exact h.execTaskRearm
  · exact h.execAimgWrite
  · exact h.execXferWrite
  · exact h.execLineSet
  · exact h.execSliceInit
  · exact h.execCodeLoad
  · exact h.execCoefWrite
  · exact h.execSceneWrite
  · exact h.execSceneLoad
  · exact h.execTake
  · exact h.execTakeCancel
  · exact h.execRecast
  · exact h.execXpSet
  · exact h.execXpRow
  · exact h.execPatchSet
  · exact h.execPortCfg
  · exact h.execPortStart
  · exact h.execPortStop
  · exact h.execCgCfg
  · exact h.execDlLane
  · exact h.execMeterSet
  · exact h.execStreamCfg
  · exact h.execStreamStart
  · exact h.execStreamStop
  · exact h.execTimeSet
  · exact h.execClapTrig
  · exact h.execFaultCfg
  · exact h.execLogRead
  · exact h.execLogErasePerm
  · exact h.execHandover
  · exact h.execClaim
  · exact h.execLeave
  · exact h.execJoin
  · exact h.execRingCfgSize
  · exact h.execRingCfgBusMap
  · exact h.execRingCfgFwdRl0Rl1
  · exact h.execRingCfgFwdRl1Rl0
  · exact h.execFwUpdate
  · exact h.execProvision
  · exact h.execSeal
  · exact h.execRetire
  · exact h.execRestore
  · exact h.execSramrow
  · exact h.execOpDone
  · exact h.execCommandDescriptor
  · exact h.execMgmtDatagram
  · exact h.execWritePacket
  · exact h.execReadMessage
  · exact h.execReadMemory
  · exact h.execWriteMemory
  · exact h.execShotCounterRead
  · exact h.execTakeShotRead
  · exact h.execSpTsRead
  · exact h.execPtpTimeRead
  · exact h.execOpsecRead
  · exact h.execMramWearRead
  · exact h.execNetCounterLoRead
  · exact h.execTagRecordRead
  · exact h.execRcFieldRead
  · exact h.execCaptureFifoRead
  · exact h.execHbufAlloc
  · exact h.execHbufFree
  · exact h.execRegisterWrite
  · exact h.execUnmappedRead
  · exact h.execHostMemoryWrite
  · exact h.execProgramMemoryWrite
  · exact h.execLaneSliceWrite
  · exact h.execSlateViewWrite
  · exact h.execHeldSlateWriteLand
  · exact h.execFirstFaultClear
  · exact h.execFaultInject
  · exact h.execEngStep
  · exact h.execEngHalt
  · exact h.execDebugDataWrite
  · exact h.execWaitStatsClear
  · exact h.execReserveWrite
  · exact h.execZskipWrite
  · exact h.execSnap
  · exact h.execFreeze
  · exact h.execTagSeedWrite
  · exact h.execCounterWrite
  · exact h.execSoftReset
  · exact h.execTxRingReset
  · exact h.execRxRingReset
  · exact h.execRxtailWrite
  · exact h.execTxtailWrite
  · exact h.execNetRingLenWrite
  · exact h.execSpRingLenWrite
  · exact h.execCmdRingLenWrite
  · exact h.execSpRingPointerWrite
  · exact h.execSpMaskWrite
  · exact h.execSpInEnWrite
  · exact h.execSpOutEnWrite
  · exact h.execSpCapEnWrite
  · exact h.execSpPlyEnWrite
  · exact h.execCgCfgWrite
  · exact h.execDlCkEnWrite
  · exact h.execDlLaneEnWrite
  · exact h.execTriggerEnWrite
  · exact h.execCaptureEnWrite
  · exact h.execGpioClaimWrite
  · exact h.execMclkEnWrite
  · exact h.execDdrEnWrite
  · exact h.execRingsEnWrite
  · exact h.execCandidateCfgWrite
  · exact h.execForceWrite
  · exact h.execLogRateWrite
  · exact h.execPreemptEnWrite
  · exact h.execShotBoundary
  · exact h.execLedgerAuditNoTick
  · exact h.execMatrixPassEnd
  · exact h.execStagingEntryLand
  · exact h.execDispatchAccept
  · exact h.execContextLoadDone
  · exact h.execContextSaveDone
  · exact h.execBudget
  · exact h.execNop
  · exact h.execMpy
  · exact h.execMac
  · exact h.execMns
  · exact h.execMacn
  · exact h.execAclr
  · exact h.execAld
  · exact h.execAldw
  · exact h.execAadd
  · exact h.execAsub
  · exact h.execAsh
  · exact h.execRnd
  · exact h.execTrn
  · exact h.execAmv
  · exact h.execAdd
  · exact h.execAdds
  · exact h.execSub
  · exact h.execSubs
  · exact h.execAnd
  · exact h.execOr
  · exact h.execXor
  · exact h.execShl
  · exact h.execShls
  · exact h.execShr
  · exact h.execAsr
  · exact h.execAbs
  · exact h.execNeg
  · exact h.execMin
  · exact h.execMax
  · exact h.execClz
  · exact h.execCmp
  · exact h.execMov
  · exact h.execAddi
  · exact h.execAddis
  · exact h.execAndi
  · exact h.execOri
  · exact h.execXori
  · exact h.execCmpi
  · exact h.execSel
  · exact h.execLog2
  · exact h.execExp2
  · exact h.execDivs
  · exact h.execTli
  · exact h.execMova
  · exact h.execAdda
  · exact h.execMvda
  · exact h.execMvad
  · exact h.execRdpc
  · exact h.execLdi
  · exact h.execBra
  · exact h.execBall
  · exact h.execBany
  · exact h.execCall
  · exact h.execRet
  · exact h.execLoop
  · exact h.execLoopu
  · exact h.execYield
  · exact h.execEnd
  · exact h.execStoreBufferDrain
  · exact h.execTagInstruction
  · exact h.execLockBoundary
  · exact h.execTakeCommit
  · exact h.execEngineSlateCopyDone
  · exact h.execMatrixTakeApply
  · exact h.execBusEngineCommit
  · exact h.execHeldCommandsRelease
  · exact h.execDissolveEnd
  · exact h.execRecastLoadDone
  · exact h.execCutRecastCopyDone
  · exact h.execCutRecastSwap
  · exact h.execSpareBist
  · exact h.execSerialFrame
  · exact h.execPortBlock
  · exact h.execSpLost
  · exact h.execSpReturn
  · exact h.execCgRateUpdate
  · exact h.execAsrcLock
  · exact h.execPortStartAct
  · exact h.execPortStopAct
  · exact h.execStreamStartAct
  · exact h.execStreamStopAct
  · exact h.execLaneStartAct
  · exact h.execLaneStopAct
  · exact h.execMpFrameReceived
  · exact h.execMgmtFrameReceived
  · exact h.execFrameTransmitDone
  · exact h.execTcDrop
  · exact h.execLinkUp
  · exact h.execLinkDown
  · exact h.execPauseReceived
  · exact h.execPauseExpiry
  · exact h.execPauseBroken
  · exact h.execPreemptVerify
  · exact h.execBridgeAgeOut
  · exact h.execStreamPacketAccept
  · exact h.execStreamBlockWrite
  · exact h.execStreamLost
  · exact h.execStreamPacketSend
  · exact h.execTxLate
  · exact h.execDlLost
  · exact h.execDlReturn
  · exact h.execDlSettled
  · exact h.execMeterSetApply
  · exact h.execMeterFrameStart
  · exact h.execMeterFrameComplete
  · exact h.execSteerUpdate
  · exact h.execFreqMonitorUpdate
  · exact h.execCandidateQualified
  · exact h.execActivityEnd
  · exact h.execWtrExpiry
  · exact h.execBuildoutEnd
  · exact h.execLoopStep
  · exact h.execClkUnlock
  · exact h.execAlignComplete
  · exact h.execHistoryEntry
  · exact h.execHoldoverSteerEval
  · exact h.execClkLost
  · exact h.execTempMeasure
  · exact h.execSyncReceived
  · exact h.execFollowUpReceived
  · exact h.execDelayRespReceived
  · exact h.execAnnounceReceived
  · exact h.execPtpLoss
  · exact h.execPtpMessageSend
  · exact h.execClapperTriggerFire
  · exact h.execCaptureEdge
  · exact h.execXbarRequest
  · exact h.execBurstComplete
  · exact h.execMasterReset
  · exact h.execScrub
  · exact h.execDdrTrainingDone
  · exact h.execDdrRetrain
  · exact h.execMramReplaceDone
  · exact h.execFaultMessage
  · exact h.execLogRecordWrite
  · exact h.execLogTokenGain
  · exact h.execStiLinkUp
  · exact h.execStiLinkDown
  · exact h.execRenewSend
  · exact h.execRenewReceived
  · exact h.execAckReceived
  · exact h.execFence
  · exact h.execLeaseInRise
  · exact h.execLeaseInFall
  · exact h.execTokenTake
  · exact h.execReleaseReceived
  · exact h.execReclaim
  · exact h.execMirrorPacketApply
  · exact h.execWholeStateTransferDone
  · exact h.execStandinTickStart
  · exact h.execWakeStep
  · exact h.execStandinAwake
  · exact h.execTakeoverStart
  · exact h.execTakeoverRelease
  · exact h.execRlLinkUp
  · exact h.execRlLink
  · exact h.execRlBlockReceived
  · exact h.execRingListReceived
  · exact h.execRingTakeMessage
  · exact h.execVoteReceived
  · exact h.execVoteTimeout
  · exact h.execRingCommitReceived
  · exact h.execFollowerAcquire
  · exact h.execModeTransition
  · exact h.execPor
  · exact h.execResetNAssert
  · exact h.execClkloss
  · exact h.execThermalTrip
  · exact h.execThermalRelease
  · exact h.execResetRelease
  · exact h.execBootStageDone
  · exact h.execGafferWatchdog
  · exact h.execPresencePress
  · exact h.execPresenceWindowClose
  · exact h.execLifetimeRecord
  · exact h.execPcieLinkDown
  · exact h.execPcieLinkUp
  · exact h.execCandidateActivity
  · exact h.execTriggerPulseEnd
  · exact h.execGafferResume

/-! ### A clock period -/

theorem KeepsForm.operatingSecond (h : KeepsForm s t) : KeepsForm s (Machine.operatingSecond t) := .ite h.onBoot h

theorem KeepsForm.cycleCounts (h : KeepsForm s t) : KeepsForm s (Machine.cycleCounts t) := by
  unfold Machine.cycleCounts
  refine .ite h (.countG (.countG (.countG (h.foldl fun {u x} h => ?_))))
  split
  · exact h.countE.countE
  · exact h.countE

theorem KeepsForm.perTick (h : KeepsForm s t) : KeepsForm s (Machine.perTick t) :=
  .ite h.onTime h.onTime.cycleCounts.emptyBuffer.counterTick.operatingSecond.releaseRecasts.serve

theorem KeepsForm.idle (h : KeepsForm s t) : KeepsOut s (Machine.idle t) := h.perTick.finish

/-! ### A step -/

theorem KeepsForm.step {c : Instr} {rest : List Instr} (hc : s.pending = c :: rest) (e : Machine.step s = .next t) :
    KeepsForm { s with pending := rest } t := by
  unfold Machine.step at e
  rw [hc] at e
  exact (KeepsForm.refl _).exec t e

theorem KeepsForm.step_idle (hc : s.pending = []) (e : Machine.step s = .next t) : KeepsForm s t := by
  unfold Machine.step at e
  rw [hc] at e
  exact (KeepsForm.refl s).idle t e

/-- Settles O4: each function that a step can reach takes on the relation from the functions it calls, down to the operations on
byte memory. -/
theorem memoryKeepsItsForm : Obligations.MemoryKeepsItsForm := by
  unfold Obligations.MemoryKeepsItsForm
  intro s t hwf e
  cases hc : s.pending with
  | nil =>
    have h := KeepsForm.step_idle hc e
    exact ⟨h.wf hwf, h.queue.trans hc⟩
  | cons c rest =>
    have h := KeepsForm.step hc e
    exact ⟨h.wf hwf, h.queue⟩

end Sys2Proof
end

section
/-! ### Reads that latch (O21) -/

namespace Sys2Proof.Machine

/-! #### Fields of a whole word -/

theorem and_not_zero (w : Word) : w &&& ~~~ (wd 0) = w := by
  rw [wd, BitVec.not_zero, BitVec.and_allOnes]

/-- A field that fills its word takes the word over. -/
theorem fldPut_word (w : Word) (v : Nat) : fldPut w 0 32 v = wd v := by
  refine BitVec.eq_of_toNat_eq ?_
  have hw := w.isLt
  simp only [fldPut, wd, BitVec.toNat_ofNat, pow_zero, Nat.div_one, mul_one, Nat.mod_eq_of_lt hw, Nat.sub_self, Nat.zero_add,
    Nat.mod_mod]

theorem State.reg_setF_word (s : State) (a v : Nat) : (s.setF ⟨a, 0, 32⟩ v).reg a = wd v := by
  rw [State.setF, State.reg_setReg_same, fldPut_word]

/-- A register reads as before a write of a field of another one. -/
theorem State.reg_setF_other (s : State) (f : Fld) (b v : Nat) (h : b ≠ f.addr) : (s.setF f v).reg b = s.reg b :=
  State.reg_setReg_other _ _ _ _ h

/-- A number with a group of its bits replaced. -/
theorem sub_add_field (n l k v : Nat) : n - n / 2 ^ l % 2 ^ k * 2 ^ l + v % 2 ^ k * 2 ^ l =
    2 ^ l * (2 ^ k * (n / 2 ^ l / 2 ^ k) + v % 2 ^ k) + n % 2 ^ l := by
  have h1 := Nat.div_add_mod n (2 ^ l)
  have h2 : 2 ^ l * (2 ^ k * (n / 2 ^ l / 2 ^ k)) + n / 2 ^ l % 2 ^ k * 2 ^ l = 2 ^ l * (n / 2 ^ l) := by
    rw [Nat.mul_comm _ (2 ^ l), ← Nat.mul_add, Nat.div_add_mod]
  have hd : 2 ^ l * (2 ^ k * (n / 2 ^ l / 2 ^ k) + v % 2 ^ k) = 2 ^ l * (2 ^ k * (n / 2 ^ l / 2 ^ k)) + v % 2 ^ k * 2 ^ l := by ring
  rw [hd]
  omega

/-- A word with a field replaced, bit by bit. -/
theorem fldPut_getLsbD (w : Word) (l k v i : Nat) (hi : i < 32) :
    (fldPut w l k v).getLsbD i = if l ≤ i ∧ i < l + k then v.testBit (i - l) else w.getLsbD i := by
  simp only [fldPut, wd, BitVec.getLsbD_ofNat, hi, decide_true, Bool.true_and, sub_add_field]
  rw [Nat.testBit_two_pow_mul_add _ (Nat.mod_lt _ (by positivity)),
    Nat.testBit_two_pow_mul_add _ (Nat.mod_lt _ (by positivity))]
  have hw : w.getLsbD i = w.toNat.testBit i := rfl
  by_cases h1 : i < l
  · simp [h1, Nat.testBit_mod_two_pow, hw, Nat.not_le.2 h1]
  · by_cases h2 : i - l < k
    · simp [h1, h2, Nat.testBit_mod_two_pow, Nat.le_of_not_lt h1, show i < l + k by omega]
    · simp [h1, h2, Nat.testBit_div_two_pow, hw, show ¬ i < l + k by omega, show i - l - k + k + l = i by omega]

/-- A field reads as before a write of another field of its register. -/
theorem State.getF_setF_disjoint (s : State) (f g : Fld) (v : Nat) (hg : g.lsb + g.width ≤ 32)
    (hd : g.lsb + g.width ≤ f.lsb ∨ f.lsb + f.width ≤ g.lsb) : (s.setF f v).getF g = s.getF g := by
  by_cases ha : g.addr = f.addr
  · simp only [State.getF, State.setF, ha, State.reg_setReg_same]
    refine bits_congr _ _ _ _ fun i hi => ?_
    rw [fldPut_getLsbD _ _ _ _ _ (by omega), if_neg (by omega)]
  · exact State.getF_setF_other _ _ _ _ ha
@[simp] theorem State.capFifo_out (s : State) (o : Output) (c : Nat) : (s.out o).capFifo c = s.capFifo c := rfl

@[simp] theorem State.outs_out (s : State) (o : Output) : (s.out o).outs = o :: s.outs := rfl

/-! #### Reads without an effect beside what the register shows and clears -/

/-- The RC bits of the register at `a` (R9). -/
def rcBits (a : Nat) : Nat := ((regRow a).map (·.rc)).getD 0

/-- A register whose read takes what it shows and clears its RC bits, and does nothing else. -/
def showsAndClears (a : Nat) : Bool :=
  a ≠ 0x6300C && !(decide (0x20800 ≤ a ∧ a < 0x20A00 ∧ a % 0x20 = 8)) && !isLo64 a && !isHi64 a &&
    !(decide (0x64100 ≤ a ∧ a < 0x64120)) && a ≠ 0xE0024 && !(decide (0x30020 ≤ a ∧ a < 0x30040)) && a ≠ SPL_FADEMAX.MAX.addr

theorem readReg_of_showsAndClears {a : Nat} {s : State} (ho : s.hostOpen = true) (ha : showsAndClears a = true) :
    readReg a s = ((showReg a s).reg a, clearRc a (showReg a s)) := by
  simp only [showsAndClears, Bool.and_eq_true, Bool.not_eq_true', decide_eq_true_eq, decide_eq_false_iff_not] at ha
  obtain ⟨⟨⟨⟨⟨⟨⟨hbuf, hcap⟩, hlo⟩, hhi⟩, hctx⟩, hth⟩, -⟩, -⟩ := ha
  simp [readReg, ho, hbuf, hcap, hlo, hhi, hctx, hth]

/-- The clearing read is one write of the register, where it is implemented. -/
theorem clearRc_of_showsAndClears {a : Nat} (s : State) (ha : showsAndClears a = true) :
    rcBits a = 0 ∧ clearRc a s = s ∨ clearRc a s = s.setReg a (s.reg a &&& ~~~ (wd (rcBits a))) := by
  simp only [showsAndClears, Bool.and_eq_true, Bool.not_eq_true', decide_eq_true_eq, decide_eq_false_iff_not] at ha
  obtain ⟨⟨-, hq⟩, hf⟩ := ha
  simp only [clearRc, if_neg hq, if_neg hf]
  cases h : regRow a with
  | none => exact .inl ⟨by simp [rcBits, h], rfl⟩
  | some r => exact .inr (by simp [rcBits, h])

theorem reg_clearRc_same {a : Nat} (s : State) (ha : showsAndClears a = true) :
    (clearRc a s).reg a = s.reg a &&& ~~~ (wd (rcBits a)) := by
  rcases clearRc_of_showsAndClears s ha with ⟨hr, h⟩ | h <;> rw [h]
  · rw [hr, and_not_zero]
  · exact State.reg_setReg_same _ _ _

theorem reg_clearRc_other {a b : Nat} (s : State) (ha : showsAndClears a = true) (hb : b ≠ a) :
    (clearRc a s).reg b = s.reg b := by
  rcases clearRc_of_showsAndClears s ha with ⟨-, h⟩ | h <;> rw [h]
  exact State.reg_setReg_other _ _ _ _ hb

/-- Without RC bits a read leaves what the registers show. -/
theorem reg_clearRc {a : Nat} (b : Nat) (s : State) (ha : showsAndClears a = true) (hr : rcBits a = 0) :
    (clearRc a s).reg b = s.reg b := by
  by_cases hb : b = a
  · subst hb
    rw [reg_clearRc_same s ha, hr, and_not_zero]
  · exact reg_clearRc_other s ha hb

end Sys2Proof.Machine

namespace Sys2Proof

open Machine

variable {ps : List Part} {pg as : List Nat} {s t : State}

/-- An update of registers keeps every part beside them. -/
theorem Kept.of_reg (h : Kept ps pg as s t) {u : State} (hp : ∀ p : Part, p.same t u) (hr : ∀ b, u.reg b = t.reg b) :
    Kept ps pg as s u :=
  ⟨fun p hn => p.same_trans (h.part p hn) (hp p), fun a hg ha hm => (hr a).trans (h.reg a hg ha hm)⟩

theorem clearRc_same {a : Nat} (s : State) (ha : showsAndClears a = true) (p : Part) : p.same s (clearRc a s) := by
  rcases clearRc_of_showsAndClears s ha with ⟨-, h⟩ | h <;> rw [h]
  · exact p.same_refl s
  · cases p <;> rfl

/-- A read whose state is quiet is answered at once. -/
theorem readAns_of_quiet {v : Word} (h : Kept ps pg as s t) (hf : .flt ∉ ps) (q : Quiet s) :
    readAns (v, t) = .next (t.out (.readData [v])) :=
  finish_of_quiet (s := t.out (.readData [v])) (h.quiet hf q)

/-- A read of a latching register without RC bits: the value it shows is answered, and every register then reads as shown. -/
theorem latchingRead {a : Nat} (ho : s.hostOpen = true) (q : Quiet s) (ha : showsAndClears a = true) (hr : rcBits a = 0)
    (hk : Kept [] [] as s (showReg a s)) :
    ∃ t, readAns (readReg a s) = .next t ∧ t.outs = .readData [(showReg a s).reg a] :: s.outs
      ∧ (∀ b, t.reg b = (showReg a s).reg b) ∧ Kept [.outs] [] as s t := by
  have hc : Kept [] [] as s (clearRc a (showReg a s)) := hk.of_reg (clearRc_same _ ha) fun b => reg_clearRc b _ ha hr
  refine ⟨(clearRc a (showReg a s)).out (.readData [(showReg a s).reg a]), ?_, ?_, fun b => reg_clearRc b _ ha hr,
    (hc.mono (by simp) (by simp) (List.Subset.refl _)).out _⟩
  · rw [readReg_of_showsAndClears ho ha]
    exact readAns_of_quiet hc (by simp) q
  · exact congrArg _ (hc.part .outs (by simp))

theorem getF_of_reg_eq (h : ∀ b, t.reg b = s.reg b) (f : Fld) : t.getF f = s.getF f := by
  rw [State.getF, State.getF, h]

/-! #### The registers that latch -/

/-- A value over two registers, the lower of which is read. -/
theorem latchingRead_pair (f g : Fld) (n : Nat) (ho : s.hostOpen = true) (q : Quiet s)
    (hs : showReg f.addr s = (s.setF f n).setF g (n / 2 ^ 32)) (hf : f = ⟨f.addr, 0, 32⟩) (hg : g.lsb + g.width ≤ 32)
    (hfg : f.addr ≠ g.addr) (ha : showsAndClears f.addr = true) (hr : rcBits f.addr = 0) :
    ∃ t, readAns (readReg f.addr s) = .next t ∧ t.outs = .readData [wd n] :: s.outs
      ∧ t.getF g = n / 2 ^ 32 % 2 ^ g.width ∧ Kept [.outs] [] [f.addr, g.addr] s t := by
  have hk : Kept [] [] [f.addr, g.addr] s (showReg f.addr s) := by
    rw [hs]
    exact ((Kept.refl _ _ _ s).setF f _ (.inr (by simp))).setF g _ (.inr (by simp))
  obtain ⟨t, hx, hout, hreg, hkt⟩ := latchingRead ho q ha hr hk
  have hv : (showReg f.addr s).reg f.addr = wd n := by
    rw [hs, State.reg_setF_other _ _ _ _ hfg]
    have h := State.reg_setF_word s f.addr n
    rwa [← hf] at h
  refine ⟨t, hx, by rw [hout, hv], ?_, hkt⟩
  rw [getF_of_reg_eq hreg, hs, State.getF_setF_same _ _ _ hg]

/-- Nanoseconds in the register read, and seconds in the two behind it. -/
theorem latchingRead_time (f g k : Fld) (ns sec : Nat) (ho : s.hostOpen = true) (q : Quiet s)
    (hs : showReg f.addr s = ((s.setF f ns).setF g sec).setF k (sec / 2 ^ 32)) (hf : f = ⟨f.addr, 0, 32⟩)
    (hg : g.lsb + g.width ≤ 32) (hk : k.lsb + k.width ≤ 32) (hfg : f.addr ≠ g.addr) (hfk : f.addr ≠ k.addr)
    (hgk : g.addr ≠ k.addr)
    (ha : showsAndClears f.addr = true) (hr : rcBits f.addr = 0) :
    ∃ t, readAns (readReg f.addr s) = .next t ∧ t.outs = .readData [wd ns] :: s.outs
      ∧ t.getF g = sec % 2 ^ g.width ∧ t.getF k = sec / 2 ^ 32 % 2 ^ k.width ∧ Kept [.outs] [] [f.addr, g.addr, k.addr] s t := by
  have hkept : Kept [] [] [f.addr, g.addr, k.addr] s (showReg f.addr s) := by
    rw [hs]
    exact (((Kept.refl _ _ _ s).setF f _ (.inr (by simp))).setF g _ (.inr (by simp))).setF k _ (.inr (by simp))
  obtain ⟨t, hx, hout, hreg, hkt⟩ := latchingRead ho q ha hr hkept
  have hv : (showReg f.addr s).reg f.addr = wd ns := by
    rw [hs, State.reg_setF_other _ _ _ _ hfk, State.reg_setF_other _ _ _ _ hfg]
    have h := State.reg_setF_word s f.addr ns
    rwa [← hf] at h
  refine ⟨t, hx, by rw [hout, hv], ?_, ?_, hkt⟩
  · rw [getF_of_reg_eq hreg, hs, State.getF_setF_other _ _ _ _ hgk, State.getF_setF_same _ _ _ hg]
  · rw [getF_of_reg_eq hreg, hs, State.getF_setF_same _ _ _ hk]

/-! #### Port timestamps -/

theorem showReg_spTs {p : Nat} (hp : p < 64) (s : State) : showReg (0x50060 + 0x100 * p) s =
    (s.setF (SP_TS1.SEC p) (s.port p).lastSec).setF (SP_TS2.SEC p) ((s.port p).lastSec / 2 ^ 32) := by
  have hslot : (0x50060 + 0x100 * p) / 0x10000 = 5 := by omega
  have hin : 0x50000 ≤ 0x50060 + 0x100 * p ∧ 0x50060 + 0x100 * p < 0x54000 ∧ (0x50060 + 0x100 * p) % 0x100 = 0x60 := by omega
  have hport : (0x50060 + 0x100 * p - 0x50000) / 0x100 = p := by omega
  simp only [showReg, hslot, showNet, if_pos hin, hport]

theorem spTs_shows : ∀ p < 64, showsAndClears (0x50060 + 0x100 * p) = true := by decide

theorem spTs_rcBits : ∀ p < 64, rcBits (0x50060 + 0x100 * p) = 0 := by decide

theorem spTsRead_latches (p : Nat) (s : State) (ho : s.hostOpen = true) (q : Quiet s) (hp : p < 64) :
    ∃ t, exec (.spTsRead p) s = .next t ∧ t.outs = .readData [s.reg (0x50060 + 0x100 * p)] :: s.outs
      ∧ t.getF (SP_TS1.SEC p) = (s.port p).lastSec % 2 ^ 32 ∧ t.getF (SP_TS2.SEC p) = (s.port p).lastSec / 2 ^ 32 % 2 ^ 16
      ∧ Kept [.outs] [] [0x50064 + 0x100 * p, 0x50068 + 0x100 * p] s t := by
  have h1 : (SP_TS1.SEC p).addr = 0x50064 + 0x100 * p := by simp only [SP_TS1.SEC]; omega
  have h2 : (SP_TS2.SEC p).addr = 0x50068 + 0x100 * p := by simp only [SP_TS2.SEC]; omega
  have hs := showReg_spTs hp s
  have hk : Kept [] [] [0x50064 + 0x100 * p, 0x50068 + 0x100 * p] s (showReg (0x50060 + 0x100 * p) s) := by
    rw [hs]
    exact ((Kept.refl _ _ _ s).setF _ _ (.inr (by simp [h1]))).setF _ _ (.inr (by simp [h2]))
  obtain ⟨t, hx, hout, hreg, hkt⟩ := latchingRead ho q (spTs_shows p hp) (spTs_rcBits p hp) hk
  refine ⟨t, ?_, ?_, ?_, ?_, hkt⟩
  · show execSpTsRead p s = _
    rw [execSpTsRead, if_pos hp, hx]
  · rw [hout, hk.reg _ (by simp) (by simp) (by simp)]
  · rw [getF_of_reg_eq hreg, hs, State.getF_setF_other _ _ _ _ (by omega), State.getF_setF_same _ _ _ (by show 0 + 32 ≤ 32; omega)]
    rfl
  · rw [getF_of_reg_eq hreg, hs, State.getF_setF_same _ _ _ (by show 0 + 16 ≤ 32; omega)]
    rfl

/-! #### Tag records -/

theorem showReg_tagRecord {e : Nat} (he : e < 18) (s : State) : showReg (0xB1060 + 0x100 * e) s =
    s.setReg (0xB1064 + 0x100 * e) (smGet 0 s.pcn.trec1 e) := by
  interval_cases e <;> rfl

theorem tagRecord_shows : ∀ e < 18, showsAndClears (0xB1060 + 0x100 * e) = true := by decide

/-- VALID is the RC bit of a tag record (R701). -/
theorem tagRecord_rcBits : ∀ e < 18, rcBits (0xB1060 + 0x100 * e) = 2 ^ 31 := by decide

/-- A register whose bit 31 is cleared. -/
theorem flag_of_cleared_top {f : Fld} {w : Word} (hl : f.lsb = 31) (hw : f.width = 1)
    (h : s.reg f.addr = w &&& ~~~ (wd (2 ^ 31))) : s.flag f = false := by
  have hb : (s.reg f.addr).getLsbD 31 = false := by simp [h, wd]
  have hn : (s.reg f.addr).toNat / 2 ^ 31 % 2 ≠ 1 := by
    simpa [BitVec.getLsbD, Nat.testBit_eq_decide_div_mod_eq] using hb
  simp only [State.flag, State.getF, hl, hw, pow_one, decide_eq_false_iff_not]
  exact hn

theorem tagRecordRead_latches (e : Nat) (s : State) (ho : s.hostOpen = true) (q : Quiet s) (he : e < 18) :
    ∃ t, exec (.tagRecordRead e) s = .next t ∧ t.outs = .readData [s.reg (0xB1060 + 0x100 * e)] :: s.outs
      ∧ t.flag (PCN_TREC0.VALID e) = false ∧ t.reg (0xB1064 + 0x100 * e) = smGet 0 s.pcn.trec1 e
      ∧ Kept [.outs] [] [0xB1060 + 0x100 * e, 0xB1064 + 0x100 * e] s t := by
  have ha := tagRecord_shows e he
  have hs := showReg_tagRecord he s
  have hne : 0xB1064 + 0x100 * e ≠ 0xB1060 + 0x100 * e := by omega
  have hv : (showReg (0xB1060 + 0x100 * e) s).reg (0xB1060 + 0x100 * e) = s.reg (0xB1060 + 0x100 * e) := by
    rw [hs, State.reg_setReg_other _ _ _ _ hne.symm]
  have haddr : (PCN_TREC0.VALID e).addr = 0xB1060 + 0x100 * e := by simp only [PCN_TREC0.VALID]; omega
  have hk : Kept [] [] [0xB1060 + 0x100 * e, 0xB1064 + 0x100 * e] s (clearRc (0xB1060 + 0x100 * e) (showReg (0xB1060 + 0x100 * e) s)) := by
    rw [hs]
    have h1 : Kept [] [] [0xB1060 + 0x100 * e, 0xB1064 + 0x100 * e] s (s.setReg (0xB1064 + 0x100 * e) (smGet 0 s.pcn.trec1 e)) :=
      (Kept.refl _ _ _ s).setReg _ _ (.inr (by simp))
    rcases clearRc_of_showsAndClears (s.setReg (0xB1064 + 0x100 * e) (smGet 0 s.pcn.trec1 e)) ha with ⟨-, h⟩ | h <;> rw [h]
    · exact h1
    · exact h1.setReg _ _ (.inr (by simp))
  refine ⟨(clearRc (0xB1060 + 0x100 * e) (showReg (0xB1060 + 0x100 * e) s)).out (.readData [s.reg (0xB1060 + 0x100 * e)]),
    ?_, congrArg _ (hk.part .outs (by simp)), ?_, ?_, (hk.mono (by simp) (by simp) (List.Subset.refl _)).out _⟩
  · show execTagRecordRead e s = _
    rw [execTagRecordRead, if_pos he, readReg_of_showsAndClears ho ha, hv]
    exact readAns_of_quiet hk (by simp) q
  · refine flag_of_cleared_top rfl rfl (w := s.reg (0xB1060 + 0x100 * e)) ?_
    rw [haddr, ← hv, ← tagRecord_rcBits e he]
    exact reg_clearRc_same _ ha
  · refine (reg_clearRc_other _ ha hne).trans ?_
    rw [hs, State.reg_setReg_same]

/-! #### Counters of the network ports -/

/-- The state after the lower register of the 64-bit counter at `a` is read (R444). -/
def latchCounter (a : Nat) (s : State) : State :=
  ((s.onNet fun u => { u with latch := smPut 0 (a + 4) (s.reg (a + 4)) u.latch }).setReg a 0).setReg (a + 4) 0

theorem netCounterLoRead_latches (p k a : Nat) (s : State) (ho : s.hostOpen = true) (q : Quiet s) (hp : p < 5) (hk : k < 4)
    (ha : a = 0x60000 + 0x400 * p + [0x100, 0x108, 0x140, 0x148].getD k 0x100) :
    ∃ t, exec (.netCounterLoRead p k) s = .next t ∧ t.outs = .readData [s.reg a] :: s.outs ∧ t.reg a = 0 ∧ t.reg (a + 4) = 0
      ∧ smGet 0 t.net.latch (a + 4) = s.reg (a + 4) ∧ Kept [.outs, .net] [] [a, a + 4] s t := by
  have hlo : isLo64 a = true := by
    subst ha
    interval_cases p <;> interval_cases k <;> rfl
  have hr : 0x60000 ≤ a ∧ a < 0x61400 := by
    simp only [isLo64, Bool.and_eq_true, decide_eq_true_eq] at hlo
    exact hlo.1
  have hread : readReg a s = (s.reg a, latchCounter a s) := by
    simp only [readReg]
    rw [if_neg (by simp [ho]), if_neg (by omega), if_neg (by omega), if_pos hlo, latchCounter]
  have hkept : Kept [.net] [] [a, a + 4] s (latchCounter a s) :=
    (((Kept.refl _ _ _ s).onNet _).setReg _ _ (.inr (by simp))).setReg _ _ (.inr (by simp))
  refine ⟨(latchCounter a s).out (.readData [s.reg a]), ?_, rfl, ?_, State.reg_setReg_same _ _ _, smGet_smPut_same _ _ _ _,
    (hkept.mono (by simp) (by simp) (List.Subset.refl _)).out (.readData [s.reg a])⟩
  · show execNetCounterLoRead p k s = _
    rw [execNetCounterLoRead, if_pos ⟨hp, hk⟩, ← ha, hread]
    exact readAns_of_quiet hkept (by simp) q
  · exact (State.reg_setReg_other _ _ _ _ (by omega)).trans (State.reg_setReg_same _ _ _)

/-! #### Capture FIFOs -/

/-- A capture's FIFO is the list put there. -/
theorem capFifo_putFifo (c : Nat) (l : List CapEntry) (s : State) : (putFifo c l s).capFifo c = l := by
  have hnone : ∀ m : List (Nat × List CapEntry), (m.filter fun x => x.1 ≠ c).find? (fun x => x.1 = c) = none := by
    intro m
    simp [List.find?_eq_none]
  cases l with
  | nil => simp only [State.capFifo, putFifo, State.onPtp, List.isEmpty_nil, if_true, hnone]; rfl
  | cons x l => simp [State.capFifo, putFifo, State.onPtp]

/-- The state after the oldest timestamp of capture `c` is taken. -/
def takeCapture (c : Nat) (x : CapEntry) (l : List CapEntry) (s : State) : State :=
  (((((putFifo c l s).setF (CLP_CTS1.SEC c) x.sec).setF (CLP_CTS2.SEC c) (x.sec / 2 ^ 32)).setF (CLP_CTS2.VALID c) 1).setF
    (CLP_CTS2.FALL c) (b2n x.fall)).setF (CLP_CTS0.NS c) x.ns

section

variable (c : Nat) (x : CapEntry) (l : List CapEntry) (s : State)

theorem readCapture_of_cons (hl : s.capFifo c = x :: l) : readCapture c s = (wd x.ns, takeCapture c x l s) := by
  simp only [readCapture, hl, takeCapture]

/-- Taking a timestamp writes the registers of R570 alone. -/
theorem takeCapture_keeps :
    Kept [] [] [0x20808 + 0x20 * c, 0x2080C + 0x20 * c, 0x20810 + 0x20 * c] (putFifo c l s) (takeCapture c x l s) := by
  have h0 : 0x20808 + c * 0x20 ∈ [0x20808 + 0x20 * c, 0x2080C + 0x20 * c, 0x20810 + 0x20 * c] := by simp [Nat.mul_comm]
  have h1 : 0x2080C + c * 0x20 ∈ [0x20808 + 0x20 * c, 0x2080C + 0x20 * c, 0x20810 + 0x20 * c] := by simp [Nat.mul_comm]
  have h2 : 0x20810 + c * 0x20 ∈ [0x20808 + 0x20 * c, 0x2080C + 0x20 * c, 0x20810 + 0x20 * c] := by simp [Nat.mul_comm]
  exact (((((Kept.refl _ _ _ _).setF _ _ (.inr h1)).setF _ _ (.inr h2)).setF _ _ (.inr h2)).setF _ _ (.inr h2)).setF _ _ (.inr h0)

theorem takeCapture_seconds : (takeCapture c x l s).getF (CLP_CTS1.SEC c) = x.sec % 2 ^ 32 := by
  unfold takeCapture
  have h : (CLP_CTS1.SEC c).width = 32 := rfl
  have hv : (CLP_CTS1.SEC c).addr = 0x2080C + c * 0x20 := rfl
  rw [State.getF_setF_other _ _ _ _ (by simp [hv, CLP_CTS0.NS]), State.getF_setF_other _ _ _ _ (by simp [hv, CLP_CTS2.FALL]),
    State.getF_setF_other _ _ _ _ (by simp [hv, CLP_CTS2.VALID]), State.getF_setF_other _ _ _ _ (by simp [hv, CLP_CTS2.SEC]),
    State.getF_setF_same _ _ _ (by simp [CLP_CTS1.SEC]), h]

theorem takeCapture_secondsHigh : (takeCapture c x l s).getF (CLP_CTS2.SEC c) = x.sec / 2 ^ 32 % 2 ^ 16 := by
  unfold takeCapture
  have h : (CLP_CTS2.SEC c).width = 16 := rfl
  rw [State.getF_setF_other _ _ _ _ (by simp [CLP_CTS2.SEC, CLP_CTS0.NS]),
    State.getF_setF_disjoint _ _ _ _ (by simp [CLP_CTS2.SEC]) (by simp [CLP_CTS2.SEC, CLP_CTS2.FALL]),
    State.getF_setF_disjoint _ _ _ _ (by simp [CLP_CTS2.SEC]) (by simp [CLP_CTS2.SEC, CLP_CTS2.VALID]),
    State.getF_setF_same _ _ _ (by simp [CLP_CTS2.SEC]), h]

theorem takeCapture_valid : (takeCapture c x l s).getF (CLP_CTS2.VALID c) = 1 := by
  unfold takeCapture
  have h : (CLP_CTS2.VALID c).width = 1 := rfl
  rw [State.getF_setF_other _ _ _ _ (by simp [CLP_CTS2.VALID, CLP_CTS0.NS]),
    State.getF_setF_disjoint _ _ _ _ (by simp [CLP_CTS2.VALID]) (by simp [CLP_CTS2.VALID, CLP_CTS2.FALL]),
    State.getF_setF_same _ _ _ (by simp [CLP_CTS2.VALID]), h]
  rfl

theorem takeCapture_fall : (takeCapture c x l s).getF (CLP_CTS2.FALL c) = b2n x.fall := by
  unfold takeCapture
  have h : (CLP_CTS2.FALL c).width = 1 := rfl
  rw [State.getF_setF_other _ _ _ _ (by simp [CLP_CTS2.FALL, CLP_CTS0.NS]), State.getF_setF_same _ _ _ (by simp [CLP_CTS2.FALL]), h]
  cases x.fall <;> rfl

end

theorem captureFifoRead_takes (c : Nat) (x : CapEntry) (l : List CapEntry) (s : State) (ho : s.hostOpen = true) (q : Quiet s)
    (hc : c < 16) (hl : s.capFifo c = x :: l) :
    ∃ t, exec (.captureFifoRead c) s = .next t ∧ t.outs = .readData [wd x.ns] :: s.outs ∧ t.capFifo c = l
      ∧ t.getF (CLP_CTS1.SEC c) = x.sec % 2 ^ 32 ∧ t.getF (CLP_CTS2.SEC c) = x.sec / 2 ^ 32 % 2 ^ 16
      ∧ t.getF (CLP_CTS2.VALID c) = 1 ∧ t.getF (CLP_CTS2.FALL c) = b2n x.fall
      ∧ Kept [.outs, .ptp] [] [0x20808 + 0x20 * c, 0x2080C + 0x20 * c, 0x20810 + 0x20 * c] s t := by
  have hread : readReg (0x20808 + 0x20 * c) s = readCapture c s := by
    simp only [readReg]
    rw [if_neg (by simp [ho]), if_neg (by omega), if_pos (by omega), show (0x20808 + 0x20 * c - 0x20800) / 0x20 = c by omega]
  have ht := takeCapture_keeps c x l s
  have hk : Kept [.ptp] [] [0x20808 + 0x20 * c, 0x2080C + 0x20 * c, 0x20810 + 0x20 * c] s (takeCapture c x l s) :=
    ((Kept.refl _ _ _ s).onPtp _).trans (ht.mono (by simp) (by simp) (List.Subset.refl _))
  have hout : (takeCapture c x l s).outs = s.outs := hk.part .outs (by simp)
  have hfifo : (takeCapture c x l s).capFifo c = l := by
    rw [State.capFifo, show (takeCapture c x l s).ptp = (putFifo c l s).ptp from ht.part .ptp (by simp)]
    exact capFifo_putFifo c l s
  refine ⟨(takeCapture c x l s).out (.readData [wd x.ns]), ?_, ?_, ?_, ?_, ?_, ?_, ?_,
    (hk.mono (by simp) (by simp) (List.Subset.refl _)).out _⟩
  · show execCaptureFifoRead c s = _
    rw [execCaptureFifoRead, if_pos hc, hread, readCapture_of_cons c x l s hl]
    exact readAns_of_quiet hk (by simp) q
  · rw [State.outs_out, hout]
  · rw [State.capFifo_out, hfifo]
  · rw [State.getF_out, takeCapture_seconds]
  · rw [State.getF_out, takeCapture_secondsHigh]
  · rw [State.getF_out, takeCapture_valid]
  · rw [State.getF_out, takeCapture_fall]

/-- Settles O21: each read shows a moment's value in the register read and in those behind it. -/
theorem latchingReads : Obligations.LatchingReads := by
  unfold Obligations.LatchingReads
  refine ⟨fun s ho q => ?_, fun n s ho q hn => ?_, fun p s ho q hp => spTsRead_latches p s ho q hp, fun s ho q => ?_, fun s ho q => ?_,
    fun s ho q => ?_, fun w s ho q hw => ?_, fun p k a s ho q hp hk ha => netCounterLoRead_latches p k a s ho q hp hk ha,
    fun e s ho q he => tagRecordRead_latches e s ho q he, fun c x l s ho q hc hl => captureFifoRead_takes c x l s ho q hc hl⟩
  · exact latchingRead_pair SYS_SHOT_LO.COUNT SYS_SHOT_HI.COUNT s.shot ho q rfl rfl (by decide) (by decide) (by decide) (by decide)
  · exact latchingRead_pair SYS_TAKE_SHOT_LO.SHOT SYS_TAKE_SHOT_HI.SHOT n ho q (by rw [hn]; rfl) rfl (by decide) (by decide)
      (by decide) (by decide)
  · exact latchingRead_time PTP_TIME0.NS PTP_TIME1.SEC PTP_TIME2.SEC s.ptp.ns s.ptp.sec ho q rfl rfl (by decide) (by decide)
      (by decide) (by decide) (by decide) (by decide) (by decide)
  · exact latchingRead_time PTP_SHOT0.NS PTP_SHOT1.SEC PTP_SHOT2.SEC s.ptp.shotNs s.ptp.shotSec ho q rfl rfl (by decide) (by decide)
      (by decide) (by decide) (by decide) (by decide) (by decide)
  · exact latchingRead_pair SYS_OPSEC_LO.SEC SYS_OPSEC_HI.SEC s.boot.life.opsec ho q rfl rfl (by decide) (by decide) (by decide)
      (by decide)
  · exact latchingRead_pair MRAM_WEAR_LO.COUNT MRAM_WEAR_HI.COUNT w ho q (by rw [hw]; rfl) rfl (by decide) (by decide) (by decide)
      (by decide)

end Sys2Proof
end

section
/-! ### The ledger of credits counts held slate writes (O36) -/

namespace Sys2Proof

open Machine

/-- STANDBY, no tick and no burst in the crossbar, with one byte of the host for the slate view of engine 0 that the crossbar holds. -/
def heldSlateWrite : State :=
  (State.reset.setF SYS_MODE.MODE 2).onFab fun u => { u with t1q := [⟨engWin 0 + 0x80000, [1], 0, none⟩] }

/-- With no buffer in use all 2048 are free. -/
theorem freeBufs_heldSlateWrite : heldSlateWrite.net.bufs.length + heldSlateWrite.freeBufs.length = 2048 := by
  have hb : heldSlateWrite.net.bufs = [] := rfl
  simp [State.freeBufs, hb]

/-- Every ring of descriptors is in its reset state. -/
theorem ringCounts_heldSlateWrite : ((List.range 8).all fun r => [false, true].all fun tx =>
    (ringCounts tx r heldSlateWrite).1 + (ringCounts tx r heldSlateWrite).2 = (heldSlateWrite.nring tx r).len) = true := by
  decide

set_option maxRecDepth 100000 in
/-- The held write keeps a credit of M0 (R587), which the ledger of credits counts as in use. -/
theorem audits_heldSlateWrite : (audits heldSlateWrite).getF FAB_CREDIT.INUSE = 1 := by
  decide

set_option maxRecDepth 100000 in
/-- No ledger mismatches. -/
theorem audits_heldSlateWrite_quiet : Quiet (audits heldSlateWrite) := by
  decide

/-- Refutes O36: no premise of the audit's clause says that the crossbar holds no slate write. Of M0's four credits at T1 a held write
keeps one, so that one credit is in use though no burst is in the crossbar. -/
theorem not_shotBoundaryAndMatrix : ¬ Obligations.ShotBoundaryAndMatrix := by
  unfold Obligations.ShotBoundaryAndMatrix
  rintro ⟨-, -, h, -⟩
  have htick : heldSlateWrite.tick = false := by decide
  obtain ⟨t, ht, hinuse, -⟩ := h heldSlateWrite ⟨rfl, rfl⟩ htick (by decide) (by decide) (by decide) freeBufs_heldSlateWrite
    ringCounts_heldSlateWrite (by decide) (by decide) (by decide)
  have hx : exec .ledgerAuditNoTick heldSlateWrite = finish (audits heldSlateWrite) := by
    show finish (if heldSlateWrite.tick then heldSlateWrite else audits heldSlateWrite) = _
    rw [htick, if_neg (by decide)]
  rw [hx, finish_of_quiet audits_heldSlateWrite_quiet] at ht
  obtain rfl := Host.Outcome.next.inj ht
  rw [audits_heldSlateWrite] at hinuse
  exact absurd hinuse (by decide)

end Sys2Proof
end

section
/-! ### Memory commands (O9) -/

namespace Sys2Proof.Machine

/-! #### Words of memory -/

/-- Its four bytes, least significant first, write the word. -/
theorem writeBytes_leBytes (a : Nat) (w : Word) (s : State) : writeBytes a (leBytes w.toNat 4) s = s.setWord a w := by
  have h : leBytes w.toNat 4 = [BitVec.ofNat 8 w.toNat, BitVec.ofNat 8 (w.toNat / 256), BitVec.ofNat 8 (w.toNat / 65536),
      BitVec.ofNat 8 (w.toNat / 16777216)] := by
    simp [leBytes, List.range_succ]
  rw [h]
  rfl

/-- A word whose four bytes are the same. -/
theorem word_congr {s t : State} {a : Nat} (h : ∀ k, a ≤ k → k < a + 4 → t.byte k = s.byte k) : t.word a = s.word a := by
  simp only [State.word, h a (by omega) (by omega), h (a + 1) (by omega) (by omega), h (a + 2) (by omega) (by omega),
    h (a + 3) (by omega) (by omega)]

/-- The words read back after they are written. -/
theorem wordsAt_writeWords (a : Nat) (ws : List Word) (s : State) : (writeWords a ws s).wordsAt a ws.length = ws := by
  induction ws generalizing a s with
  | nil => rfl
  | cons w t ih =>
    have hfirst : (writeWords (a + 4) t (s.setWord a w)).word a = w := by
      rw [word_congr fun k _ hk => writeWords_byte_other t (a + 4) k _ (.inl hk), State.word_setWord_same]
    have hrest : (List.range t.length).map (fun i => (writeWords (a + 4) t (s.setWord a w)).word (a + 4 * (i + 1))) = t := by
      have h := ih (a + 4) (s.setWord a w)
      simpa [State.wordsAt, Nat.mul_add, Nat.add_assoc, Nat.add_comm 4] using h
    simp only [State.wordsAt, List.length_cons, List.range_succ_eq_map, List.map_cons, List.map_map, writeWords]
    exact congrArg₂ _ hfirst hrest

/-- Memory alone decides what words read. -/
theorem wordsAt_congr {s t : State} (h : t.mem = s.mem) (a n : Nat) : t.wordsAt a n = s.wordsAt a n := by
  simp only [State.wordsAt, State.word, State.byte, h]

/-! #### The host's view of packet memory, swap window and LPDDR5 -/

/-- `n` words from `a` lie in the packet memory, in the swap window, or in ready LPDDR5 (R39). -/
def inMemory (a n : Nat) (s : State) : Prop :=
  0x6000000 ≤ a ∧ a + 4 * n ≤ 0x6400000 ∨ 0x7000000 ≤ a ∧ a + 4 * n ≤ 0x7040000 ∨
    s.flag DDR_STAT.READY = true ∧ 0x100000000 ≤ a ∧ a + 4 * n ≤ 0x100000000 + s.ddrBytes

theorem inMemory.congr {a n : Nat} {s t : State} (h : inMemory a n s) (hr : t.flag DDR_STAT.READY = s.flag DDR_STAT.READY)
    (hd : t.ddrBytes = s.ddrBytes) : inMemory a n t := by
  simpa only [inMemory, hr, hd] using h

theorem inMemory.tail {a n : Nat} {s : State} (h : inMemory a (n + 1) s) : inMemory (a + 4) n s := by
  rcases h with h | h | ⟨hr, h⟩
  · exact .inl (by omega)
  · exact .inr (.inl (by omega))
  · exact .inr (.inr ⟨hr, by omega⟩)

/-- The region of the first of these words. -/
theorem regionOf_of_inMemory {a n : Nat} {s : State} (h : inMemory a (n + 1) s) :
    regionOf a s = .packet ∨ regionOf a s = .swap ∨
      regionOf a s = .ddr ∧ s.flag DDR_STAT.READY = true ∧ 0x100000000 ≤ a := by
  unfold regionOf
  rcases h with h | h | ⟨hr, h⟩
  · iterate 4 rw [if_neg (by omega)]
    exact .inl (if_pos (by omega))
  · iterate 5 rw [if_neg (by omega)]
    exact .inr (.inl (if_pos (by omega)))
  · iterate 7 rw [if_neg (by omega)]
    exact .inr (.inr ⟨if_pos (by omega), hr, h.1⟩)

theorem hostRead_of_inMemory {a n : Nat} {s : State} (ho : s.hostOpen = true) (h : inMemory a (n + 1) s) :
    hostRead a s = (s.word a, s) := by
  rw [hostRead, if_neg (by simp [ho])]
  rcases regionOf_of_inMemory h with h | h | ⟨h, hr, -⟩ <;> rw [h]
  exact if_pos hr

theorem hostReads_of_inMemory (n : Nat) : ∀ {a : Nat} {s : State}, s.hostOpen = true → inMemory a n s →
    hostReads a [] n s = (s.wordsAt a n, s) := by
  induction n with
  | zero => exact fun _ _ => rfl
  | succ n ih =>
    intro a s ho h
    simp only [hostReads, List.find?_nil, Option.map_none, hostWord, hostRead_of_inMemory ho h, ih ho h.tail]
    refine Prod.ext ?_ rfl
    simp [State.wordsAt, List.range_succ_eq_map, Function.comp_def, Nat.mul_add, Nat.add_assoc, Nat.add_comm 4]

/-- A word of the host outside the ranges of delay lines is written as it is. -/
theorem hostWrite_of_inMemory {a n : Nat} {s : State} (w : Word) (ho : s.hostOpen = true) (h : inMemory a (n + 1) s)
    (hl : a < 0x100000000 ∨ inLineRange a s = false) : hostWrite a w s = s.setWord a w := by
  rw [hostWrite, hostWriteWord, if_neg (by simp [ho]), ← writeBytes_leBytes]
  rcases regionOf_of_inMemory h with h | h | ⟨h, hr, ha⟩ <;> rw [h]
  exact if_pos ⟨hr, by simp [hl.resolve_left (by omega)]⟩

/-- No register lies outside the control region. -/
theorem regRow_of_le {a : Nat} (h : 0x100000 ≤ a) : regRow a = none := by
  have hslot : ∃ k, a / 0x10000 = k + 16 := ⟨a / 0x10000 - 16, by omega⟩
  obtain ⟨k, hk⟩ := hslot
  rw [regRow, hk]
  rfl

theorem writeStatus_of_le {a : Nat} (v : Nat) (s : State) (h : 0x100000 ≤ a) : writeStatus a v s = 0 := by
  rw [writeStatus, if_pos (by simp [regRow_of_le h])]

/-- No write outside the control region is refused with a status. -/
theorem firstRefusal_of_le (ws : List Word) : ∀ {a : Nat} (s : State), 0x100000 ≤ a → firstRefusal a ws s = none := by
  induction ws with
  | nil => exact fun _ _ => rfl
  | cons w t ih =>
    intro a s h
    rw [firstRefusal, if_pos (writeStatus_of_le _ _ h)]
    exact ih _ (by omega)

theorem hostWrites_of_inMemory (ws : List Word) : ∀ {a : Nat} {s : State}, s.hostOpen = true → inMemory a ws.length s →
    (∀ i, i < ws.length → a + 4 * i < 0x100000000 ∨ inLineRange (a + 4 * i) s = false) → hostWrites a ws s = writeWords a ws s := by
  induction ws with
  | nil => exact fun _ _ _ => rfl
  | cons w t ih =>
    intro a s ho h hl
    rw [hostWrites, writeWords, hostWrite_of_inMemory w ho h (hl 0 (by simp))]
    refine ih ho (h.tail.congr rfl rfl) fun i hi => ?_
    have hi' := hl (i + 1) (by simpa using hi)
    rwa [Nat.mul_add, Nat.add_comm (4 * i), ← Nat.add_assoc] at hi'

end Sys2Proof.Machine

namespace Sys2Proof

open Machine

theorem writeWords_keeps (ws : List Word) : ∀ (a : Nat) (s : State), Kept [.mem] [] [] s (writeWords a ws s) := by
  induction ws with
  | nil => exact fun _ s => .refl _ _ _ s
  | cons w t ih =>
    intro a s
    exact ((((Kept.refl _ _ _ s).onMem _).onMem _).onMem _).onMem _ |>.trans (ih _ _)

variable {op : Nat} {h : CmdHdr} {p : List Word} {s : State}

/-! #### Commands whose body changes no register -/

/-- A ready packet whose body is executed without a register or message: it is accepted, and what the body leaves, the command
leaves. -/
theorem accepted_of_body {ps : List Part} (hr : Ready op h p s) (h1 : op ≠ 1) (hc : h.chk = false) (x : State) (pay : List Word)
    (hb : opBody (packetOf op h p [] s) false (begun (packetOf op h p [] s) s) = doneWith pay x)
    (hk : Kept ps [] [] (begun (packetOf op h p [] s) s) x) (hcmd : Part.cmd ∉ ps) (hflt : Part.flt ∉ ps) :
    ∃ t, arrived op h p s = .next t ∧ Accepted op h pay t ∧ Kept [.cmd, .outs] [0xD] [] x t
      ∧ Kept (.cmd :: .outs :: ps) [0xD] [] s t := by
  have hx : Kept (.cmd :: ps) [] [] s x :=
    ((begun_kept _ s).mono (by simp) (by simp) (by simp)).trans (hk.mono (by simp) (by simp) (by simp))
  obtain ⟨-, -, -, -, -, -, -, -, hlink, hquiet⟩ := id hr
  have hl : x.pairedHolder = true → x.flag STI_STAT.LINK = true := by
    rw [State.pairedHolder, State.role, hx.getF STI_STAT.ROLE (by simp) (by simp), hx.flag STI_STAT.PAIRED (by simp) (by simp),
      hx.flag STI_STAT.LINK (by simp) (by simp)]
    exact hlink
  have he : (x.sess h.tr).e = some ((h.hseq + 1) % 2 ^ 32) := by
    rw [State.sess, show x.cmd = (begun (packetOf op h p [] s) s).cmd from hk.part .cmd hcmd]
    exact begun_e (packetOf op h p [] s) s
  obtain ⟨t, ht, ha, hkt⟩ := arrived_accepted hr h1 hc x pay hb he hl (hx.quiet (by simp [hflt]) hquiet)
  refine ⟨t, ht, ha, hkt, (hx.mono ?_ (by simp) (by simp)).trans (hkt.mono (by simp) (by simp) (by simp))⟩
  exact List.cons_subset_cons _ (List.subset_cons_self _ _)

/-- The state in which a packet's body is executed has the registers, the memory and the units of `s`. -/
theorem begun_hostOpen (w : Waiting) (hr : Ready op h p s) : (begun w s).hostOpen = true := by
  obtain ⟨⟨-, -, ho, -⟩, -⟩ := hr
  have hopen : s.hostOpen = true := by
    simp only [trOpen, Bool.and_eq_true] at ho
    exact ho.1
  rw [State.hostOpen, State.mode, (begun_kept w s).getF SYS_MODE.MODE (by simp) (by simp)]
  exact hopen

theorem begun_inMemory (w : Waiting) {a n : Nat} (hm : inMemory a n s) : inMemory a n (begun w s) := by
  have hk := begun_kept w s
  refine hm.congr (hk.flag _ (by simp) (by simp)) ?_
  simp only [State.ddrBytes, hk.getF DDR_CFG.SIZE (by simp) (by simp)]

/-- MEM_READ answers the words that stand there (R639). -/
theorem memRead_answers (h : CmdHdr) (p : List Word) (a n : Nat) (s : State) (hr : Ready 32 h p s) (hc : h.chk = false)
    (ha : a = cmdAddr p) (hn : n = nAt p 2) (h1 : 1 ≤ n) (h2 : n ≤ 1024) (hs : spanOk a n = true) (hm : inMemory a n s) :
    ∃ t, exec (.memRead h p []) s = .next t ∧ Accepted 0x20 h (s.wordsAt a n) t ∧ Kept [.cmd, .outs] [0xD] [] s t := by
  have hk := begun_kept (packetOf 32 h p [] s) s
  have hb : opBody (packetOf 32 h p [] s) false (begun (packetOf 32 h p [] s) s) =
      doneWith (s.wordsAt a n) (begun (packetOf 32 h p [] s) s) := by
    show cmdMemRead h p [] (begun (packetOf 32 h p [] s) s) = _
    simp only [cmdMemRead, ← ha, ← hn]
    rw [if_neg (by simp [hs]; omega), if_neg (by simp [hc]), hostReads_of_inMemory n (begun_hostOpen _ hr) (begun_inMemory _ hm),
      wordsAt_congr (hk.part .mem (by simp))]
  obtain ⟨t, ht, hacc, -, hkt⟩ := accepted_of_body hr (by decide) hc _ _ hb (.refl [] _ _ _) (by simp) (by simp)
  exact ⟨t, ht, hacc, hkt⟩

/-- MEM_WRITE puts its words there (R639). -/
theorem memWrite_writes (h : CmdHdr) (p : List Word) (a n : Nat) (s : State) (hr : Ready 33 h p s) (hc : h.chk = false)
    (ha : a = cmdAddr p) (hn : n = p.length - 2) (hs : spanOk a n = true) (hm : inMemory a n s)
    (hl : ((List.range n).all fun i => a < 0x100000000 || !inLineRange (a + 4 * i) s) = true) :
    ∃ t, exec (.memWrite h p) s = .next t ∧ Accepted 0x21 h [] t ∧ t.wordsAt a n = p.drop 2
      ∧ (∀ b, b < a ∨ a + 4 * n ≤ b → t.byte b = s.byte b) ∧ Kept [.cmd, .outs, .mem] [0xD] [] s t := by
  have hk := begun_kept (packetOf 33 h p [] s) s
  have hlen : (p.drop 2).length = n := by simp [hn]
  have hlow : 0x100000 ≤ a := by rcases hm with hm | hm | ⟨-, hm⟩ <;> omega
  have hline : ∀ i, i < (p.drop 2).length →
      a + 4 * i < 0x100000000 ∨ inLineRange (a + 4 * i) (begun (packetOf 33 h p [] s) s) = false := by
    intro i hi
    have hli := List.all_eq_true.1 hl i (List.mem_range.2 (hlen ▸ hi))
    have hfab : (begun (packetOf 33 h p [] s) s).fab = s.fab := hk.part .fab (by simp)
    simp only [Bool.or_eq_true, decide_eq_true_eq, Bool.not_eq_true'] at hli
    rw [inLineRange, hfab]
    refine hli.imp (fun hlt => ?_) id
    rcases hm with hm | hm | ⟨-, hm⟩ <;> omega
  have hb : opBody (packetOf 33 h p [] s) false (begun (packetOf 33 h p [] s) s) =
      doneWith [] (writeWords a (p.drop 2) (begun (packetOf 33 h p [] s) s)) := by
    show cmdMemWrite p (begun (packetOf 33 h p [] s) s) = _
    rw [cmdMemWrite, ← ha, ← hn, if_neg (by simp [hs]), firstRefusal_of_le _ _ hlow]
    show done (hostWrites a (p.drop 2) _) = _
    rw [hostWrites_of_inMemory _ (begun_hostOpen _ hr) (by rw [hlen]; exact begun_inMemory _ hm) hline]
    rfl
  have hkw : Kept [.mem] [] [] (begun (packetOf 33 h p [] s) s) (writeWords a (p.drop 2) (begun (packetOf 33 h p [] s) s)) :=
    writeWords_keeps _ _ _
  obtain ⟨t, ht, hacc, hkx, hkt⟩ := accepted_of_body hr (by decide) hc _ _ hb hkw (by simp) (by simp)
  have hmem := hkx.part .mem (by simp)
  refine ⟨t, ht, hacc, ?_, fun b hb => ?_, hkt⟩
  · rw [wordsAt_congr hmem, ← hlen, wordsAt_writeWords]
  · have hbyte : t.byte b = (writeWords a (p.drop 2) (begun (packetOf 33 h p [] s) s)).byte b := by
      simp only [State.byte, show t.mem = _ from hmem]
    rw [hbyte, writeWords_byte_other _ _ _ _ (by rwa [hlen])]
    simp only [State.byte, show (begun (packetOf 33 h p [] s) s).mem = s.mem from hk.part .mem (by simp)]

/-- MEM_CLAIM of a free range enters one claim of the host (R599). -/
theorem memClaim_claims (h : CmdHdr) (p : List Word) (i base len : Nat) (s : State) (hr : Ready 49 h p s) (hc : h.chk = false)
    (hbase : base = nAt p 1) (hlen : len = nAt p 2) (h0 : len ≠ 0) (hfit : 64 * (base + len) ≤ s.ddrBytes)
    (hset : bitOf (nAt p 0) 0 = false) (hready : s.flag DDR_STAT.READY = true)
    (hfree : (s.fab.claims.any fun x => overlap base len x.2.base x.2.len && !(x.2.owner = 0 && x.2.id = 0)) = false)
    (hi : freeClaim s = some i) :
    ∃ t, exec (.memClaim h p) s = .next t ∧ Accepted 0x31 h [] t ∧ t.fab.claims = s.fab.claims ++ [(i, ⟨0, 0, base, len⟩)]
      ∧ Kept [.cmd, .outs, .fab] [0xD] [] s t := by
  obtain ⟨b, hbdef⟩ : ∃ b, b = begun (packetOf 49 h p [] s) s := ⟨_, rfl⟩
  have hk : Kept [.cmd] [] [] s b := hbdef ▸ begun_kept (packetOf 49 h p [] s) s
  have hfab : b.fab = s.fab := hk.part .fab (by simp)
  have hddr : b.ddrBytes = s.ddrBytes := by simp only [State.ddrBytes, hk.getF DDR_CFG.SIZE (by simp) (by simp)]
  have hrd : b.flag DDR_STAT.READY = true := (hk.flag _ (by simp) (by simp)).trans hready
  have hnone : b.fab.claims.find? (fun x => overlap base len x.2.base x.2.len && !(x.2.owner = 0 && x.2.id = 0)) = none := by
    rw [hfab, List.find?_eq_none]
    simpa using hfree
  have hcl : claimRange ⟨0, 0, base, len⟩ b = (0, b.onFab fun u => { u with claims := u.claims ++ [(i, ⟨0, 0, base, len⟩)] }) := by
    have hib : freeClaim b = some i := by rw [freeClaim, hfab]; exact hi
    simp only [claimRange, hnone, hib]
  have hb : opBody (packetOf 49 h p [] s) false (begun (packetOf 49 h p [] s) s) =
      doneWith [] (b.onFab fun u => { u with claims := u.claims ++ [(i, ⟨0, 0, base, len⟩)] }) := by
    rw [← hbdef]
    show cmdMemClaim p b = _
    simp only [cmdMemClaim, ← hbase, ← hlen, hset, hrd, hcl]
    rw [if_neg (by omega)]
    rfl
  obtain ⟨t, ht, hacc, hkx, hkt⟩ := accepted_of_body (ps := [.fab]) hr (by decide) hc _ _ hb (hbdef ▸ (Kept.refl _ _ _ b).onFab _)
    (by simp) (by simp)
  refine ⟨t, ht, hacc, ?_, hkt⟩
  rw [show t.fab = _ from hkx.part .fab (by simp), ← hfab]
  rfl

/-- Its release takes it out again (R599). -/
theorem memClaim_releases (h : CmdHdr) (p : List Word) (base len : Nat) (s : State) (hr : Ready 49 h p s) (hc : h.chk = false)
    (hbase : base = nAt p 1) (hlen : len = nAt p 2) (h0 : len ≠ 0) (hfit : 64 * (base + len) ≤ s.ddrBytes)
    (hset : bitOf (nAt p 0) 0 = true)
    (hmine : (s.fab.claims.any fun x => x.2.owner = 0 && x.2.base = base && x.2.len = len) = true) :
    ∃ t, exec (.memClaim h p) s = .next t ∧ Accepted 0x31 h [] t
      ∧ (t.fab.claims = s.fab.claims.filter fun x => !(x.2.owner = 0 && x.2.base = base && x.2.len = len))
      ∧ Kept [.cmd, .outs, .fab] [0xD] [] s t := by
  obtain ⟨b, hbdef⟩ : ∃ b, b = begun (packetOf 49 h p [] s) s := ⟨_, rfl⟩
  have hk : Kept [.cmd] [] [] s b := hbdef ▸ begun_kept (packetOf 49 h p [] s) s
  have hfab : b.fab = s.fab := hk.part .fab (by simp)
  have hddr : b.ddrBytes = s.ddrBytes := by simp only [State.ddrBytes, hk.getF DDR_CFG.SIZE (by simp) (by simp)]
  have hb : opBody (packetOf 49 h p [] s) false (begun (packetOf 49 h p [] s) s) =
      doneWith [] (releaseRange (fun m => m.owner = 0 && m.base = base && m.len = len) b) := by
    rw [← hbdef]
    show cmdMemClaim p b = _
    simp only [cmdMemClaim, ← hbase, ← hlen, hset, hfab]
    rw [if_neg (by omega), if_pos trivial, if_pos hmine]
    rfl
  obtain ⟨t, ht, hacc, hkx, hkt⟩ := accepted_of_body (ps := [.fab]) hr (by decide) hc _ _ hb (hbdef ▸ (Kept.refl _ _ _ b).onFab _)
    (by simp) (by simp)
  refine ⟨t, ht, hacc, ?_, hkt⟩
  rw [show t.fab = _ from hkx.part .fab (by simp), ← hfab]
  rfl

/-- Settles O9: each of the three bodies is one operation on memory or on the claims. -/
theorem memoryCommands : Obligations.MemoryCommands := by
  unfold Obligations.MemoryCommands
  exact ⟨memRead_answers, memWrite_writes, memClaim_claims, memClaim_releases⟩

end Sys2Proof
end

section
/-! ### A CONFIGURE takes a ring follower off the ring's time (O8) -/

namespace Sys2Proof

open Machine

/-- A SOLO chip in STANDBY, SPI open, that follows the time of a ring (R549). -/
def timeFollower : State :=
  ((State.reset.setF SYS_MODE.MODE 2).setF CMD_CTRL.SPI_EN 1).setF PTP_STAT.RINGTIME 1

/-- The header of a CONFIGURE on SPI. -/
def configureHdr : CmdHdr := ⟨2, 5, 7, false⟩

/-- Does the outcome's next state follow the time of a ring? -/
def followsTime (o : Host.Outcome State Fault Refusal) : Bool :=
  match o with
  | .next t => t.flag PTP_STAT.RINGTIME
  | _ => false

/-- The packet, which sets the shot length to another value, comes to its checks. -/
theorem configure_ready : Ready 16 configureHdr [4] timeFollower := by decide

set_option maxRecDepth 100000 in
/-- No ring is configured: CONFIGURE leaves the ring, as the formation of another begins with (R549, R730). -/
theorem configure_leavesTime : followsTime (exec (.configure configureHdr [4]) timeFollower) = false := by decide

/-- Refutes O8: a CONFIGURE that changes something lets the ring form anew (R735), for which a chip that follows the time of a ring
clears `PTP_STAT.RINGTIME` (R549). That register lies in the PTP slot, page 2, which the frame of the clause does not except. -/
theorem not_configureAndModeSet : ¬ Obligations.ConfigureAndModeSet := by
  unfold Obligations.ConfigureAndModeSet
  rintro ⟨-, h, -⟩
  obtain ⟨t, ht, -, -, -, -, -, -, -, -, -, -, -, -, -, -, hkept⟩ :=
    h configureHdr [4] timeFollower configure_ready rfl (by decide) (by decide) (by decide)
  have hstays : t.flag PTP_STAT.RINGTIME = true := (hkept.flag PTP_STAT.RINGTIME (by decide) (by decide)).trans (by decide)
  have hleft := configure_leavesTime
  rw [ht] at hleft
  exact absurd (hstays.symm.trans hleft) (by decide)

end Sys2Proof
end

section
/-! ### Writes of memory by the host (O23) -/

namespace Sys2Proof

open Machine

/-! #### Bytes written in a row -/

/-- From `s` to `t` the bytes `l` are written from address `d` on, and every other byte stays. -/
structure Wrote (d : Nat) (l : List Byte) (s t : State) : Prop where
  inside : ∀ i, i < l.length → t.byte (d + i) = l.getD i 0
  outside : ∀ x, ¬(d ≤ x ∧ x < d + l.length) → t.byte x = s.byte x

namespace Wrote

variable {d : Nat} {l m : List Byte} {s t u : State}

theorem nil (d : Nat) (s : State) : Wrote d [] s s := ⟨fun _ h => absurd h (Nat.not_lt_zero _), fun _ _ => rfl⟩

theorem append (h : Wrote d l s t) (k : Wrote (d + l.length) m t u) : Wrote d (l ++ m) s u := by
  constructor
  · intro i hi
    by_cases hl : i < l.length
    · rw [k.outside _ (by omega), h.inside i hl, List.getD_append _ _ _ _ hl]
    · have hj := k.inside (i - l.length) (by simp at hi; omega)
      rw [Nat.add_assoc, Nat.add_sub_cancel' (Nat.le_of_not_lt hl)] at hj
      rw [hj, List.getD_append_right _ _ _ _ (Nat.le_of_not_lt hl)]
  · intro x hx
    rw [List.length_append] at hx
    rw [k.outside x (by omega), h.outside x (by omega)]

/-- Only memory matters. -/
theorem congr {s' t' : State} (h : Wrote d l s t) (hs : s'.mem = s.mem) (ht : t'.mem = t.mem) : Wrote d l s' t' := by
  refine ⟨fun i hi => ?_, fun x hx => ?_⟩
  · simpa only [State.byte, ht] using h.inside i hi
  · simpa only [State.byte, ht, hs] using h.outside x hx

theorem writeBytes (d : Nat) (l : List Byte) (s : State) : Wrote d l s (writeBytes d l s) := by
  induction l generalizing d s with
  | nil => exact nil d s
  | cons b l ih =>
    have hb : Wrote d [b] s (s.setByte d b) := by
      refine ⟨fun i hi => ?_, fun x hx => State.byte_setByte_other _ _ _ _ (by simp at hx; omega)⟩
      obtain rfl : i = 0 := by simpa using hi
      exact State.byte_setByte_same _ _ _
    exact hb.append (ih (d + 1) _)

end Wrote

theorem writeBytes_keeps (l : List Byte) : ∀ (a : Nat) (s : State), Kept [.mem] [] [] s (writeBytes a l s) := by
  induction l with
  | nil => exact fun _ s => .refl _ _ _ s
  | cons b l ih => exact fun a s => ((Kept.refl _ _ _ s).onMem _).trans (ih _ _)

/-! #### A write word by word -/

theorem eachWord_nil (f : Nat → List Byte → State → State) (fuel a : Nat) (s : State) : eachWord f fuel a [] s = s := by
  cases fuel <;> rfl

/-- What holds before a write of the bytes `l` and is kept by the write of each part of them holds after it; `P k` is said of the
state in which the first `k` bytes are written. -/
theorem eachWord_induct {f : Nat → List Byte → State → State} {a : Nat} {l : List Byte} {P : Nat → State → Prop}
    (hf : ∀ k m u, m ≠ [] → k + m.length ≤ l.length → m = (l.drop k).take m.length → P k u →
      P (k + m.length) (f (a + k) m u)) :
    ∀ fuel k u, k ≤ l.length → l.length - k ≤ fuel → P k u → P l.length (eachWord f fuel (a + k) (l.drop k) u) := by
  intro fuel
  induction fuel with
  | zero =>
    intro k u hk hfuel h
    obtain rfl : k = l.length := by omega
    exact h
  | succ fuel ih =>
    intro k u hk hfuel h
    rw [eachWord]
    by_cases hend : k = l.length
    · subst hend
      rw [List.drop_length, if_pos List.isEmpty_nil]
      exact h
    have hlt : 0 < (l.drop k).length := by rw [List.length_drop]; omega
    rw [if_neg (by rw [List.isEmpty_iff_length_eq_zero]; omega)]
    obtain ⟨n, hn⟩ : ∃ n, n = 4 - (a + k) % 4 := ⟨_, rfl⟩
    have hpos : 0 < n := by omega
    rw [← hn]
    dsimp only
    have hm : ((l.drop k).take n).length = min n (l.length - k) := by rw [List.length_take, List.length_drop]
    have hstep : P (k + ((l.drop k).take n).length) (f (a + k) ((l.drop k).take n) u) := by
      refine hf k _ u (fun e => ?_) (by omega) ?_ h
      · rw [e, List.length_nil] at hm
        omega
      · rw [List.length_take, List.length_drop]
        by_cases hle : n ≤ l.length - k
        · rw [min_eq_left hle]
        · rw [min_eq_right (by omega), List.take_of_length_le (by rw [List.length_drop]; omega),
            List.take_of_length_le (by rw [List.length_drop])]
    rw [hm] at hstep
    by_cases hle : k + n ≤ l.length
    · rw [min_eq_left (by omega)] at hstep
      rw [List.drop_drop, Nat.add_assoc]
      exact ih (k + n) _ hle (by omega) hstep
    · rw [min_eq_right (by omega), Nat.add_sub_cancel' hk] at hstep
      rw [List.drop_drop, List.drop_of_length_le (by omega), eachWord_nil]
      exact hstep

/-- A write of the host, every part of which writes its bytes and keeps `K`. -/
theorem postBytes_wrote {a d : Nat} {l : List Byte} {s : State} {K : Nat → State → Prop} (h0 : K 0 s)
    (hf : ∀ k m u, m ≠ [] → k + m.length ≤ l.length → K k u →
      K (k + m.length) (postWord (a + k) m u) ∧ Wrote (d + k) m u (postWord (a + k) m u)) :
    K l.length (postBytes a l s) ∧ Wrote d l s (postBytes a l s) := by
  have h := eachWord_induct (f := postWord) (a := a) (l := l) (P := fun k u => K k u ∧ Wrote d (l.take k) s u)
    (fun k m u hm hk hml hu => ?_) l.length 0 s (Nat.zero_le _) (by omega) ⟨h0, Wrote.nil d s⟩
  · obtain ⟨hK, hW⟩ := h
    exact ⟨hK, by rwa [List.take_length] at hW⟩
  · obtain ⟨hK, hW⟩ := hu
    obtain ⟨hK', hW'⟩ := hf k m u hm hk hK
    have htake : (l.take k).length = k := by rw [List.length_take]; omega
    refine ⟨hK', ?_⟩
    rw [List.take_add, ← hml]
    exact hW.append (by rwa [htake])

/-! #### Packet buffers, swap window and LPDDR5 -/

theorem Kept.hostOpen {ps : List Part} {pg as : List Nat} {s u : State} (h : Kept ps pg as s u) (hg : 0 ∉ pg) (ha : 4 ∉ as) :
    u.hostOpen = s.hostOpen := by
  rw [State.hostOpen, State.mode, h.getF SYS_MODE.MODE hg ha]
  rfl

theorem regionOf_packet {a : Nat} (s : State) (h : 0x6000000 ≤ a) (h' : a < 0x6400000) : regionOf a s = .packet := by
  unfold regionOf
  iterate 4 rw [if_neg (by omega)]
  exact if_pos ⟨h, h'⟩

theorem regionOf_swap {a : Nat} (s : State) (h : 0x7000000 ≤ a) (h' : a < 0x7040000) : regionOf a s = .swap := by
  unfold regionOf
  iterate 5 rw [if_neg (by omega)]
  exact if_pos ⟨h, h'⟩

theorem regionOf_ddr {a : Nat} {s : State} (h : 0x100000000 ≤ a) (h' : a < 0x100000000 + s.ddrBytes) : regionOf a s = .ddr := by
  unfold regionOf
  iterate 7 rw [if_neg (by omega)]
  exact if_pos ⟨h, h'⟩

theorem regionOf_engine {e off : Nat} (s : State) (he : e < 18) (ho : off < 0x100000) :
    regionOf (engWin e + off) s = .engine e off := by
  have hq : (engWin e + off - 0x1000000) / 0x100000 = e := by unfold engWin; omega
  have hr : (engWin e + off) % 0x100000 = off := by unfold engWin; omega
  unfold regionOf
  rw [if_neg (by unfold engWin; omega), if_pos (by unfold engWin; omega), hq, hr]

/-- A write of the host outside the engine windows that reaches memory. -/
theorem postWord_memory {a : Nat} (m : List Byte) {u : State} (ho : u.hostOpen = true)
    (hr : regionOf a u = .packet ∨ regionOf a u = .swap) : postWord a m u = writeBytes a m u := by
  rcases hr with hr | hr <;> simp [postWord, hostWriteWord, hr, ho]

theorem hostMemoryWrite_bar0 (a : Nat) (l : List Byte) (s : State) (ho : s.hostOpen = true) (q : Quiet s)
    (ha : (0x6000000 ≤ a ∧ a + l.length ≤ 0x6400000) ∨ (0x7000000 ≤ a ∧ a + l.length ≤ 0x7040000)) :
    ∃ t, exec (.hostMemoryWrite .bar0 a l) s = .next t ∧ Wrote a l s t ∧ Kept [.mem] [] [] s t := by
  obtain ⟨hk, hw⟩ := postBytes_wrote (a := a) (d := a) (l := l) (s := s) (K := fun _ u => Kept [.mem] [] [] s u) (.refl _ _ _ s)
    fun k m u hm hlen hu => by
      have hreg : regionOf (a + k) u = .packet ∨ regionOf (a + k) u = .swap := by
        have hpos := List.length_pos_iff.2 hm
        exact ha.imp (fun _ => regionOf_packet u (by omega) (by omega)) fun _ => regionOf_swap u (by omega) (by omega)
      rw [postWord_memory m ((hu.hostOpen (by simp) (by simp)).trans ho) hreg]
      exact ⟨hu.trans (writeBytes_keeps _ _ _), Wrote.writeBytes _ _ _⟩
  refine ⟨_, ?_, hw, hk⟩
  show finish (if 0x100000 ≤ a ∧ a < 2 ^ 40 then postBytes a l s else s) = _
  rw [if_pos (by omega), finish_of_quiet (hk.quiet (by simp) q)]

theorem hostMemoryWrite_bar2 (a : Nat) (l : List Byte) (d : Nat) (s : State) (ho : s.hostOpen = true) (q : Quiet s)
    (hd : d = barAddr (a % 0x10000000) s) (hlen : l.length = 4) (h4 : d % 4 = 0) (hfit : d < 0x100000000 + s.ddrBytes)
    (hready : s.flag DDR_STAT.READY = true) (hline : inLineRange d s = false) :
    ∃ t, exec (.hostMemoryWrite .bar2 a l) s = .next t ∧ Wrote d l s t ∧ Kept [.mem] [] [] s t := by
  have hlow : 0x100000000 ≤ d := by rw [hd, barAddr]; omega
  have hsize : s.ddrBytes ≤ 0x200000000 := by unfold State.ddrBytes; split <;> omega
  have hpost : postBytes d l s = writeBytes d l s := by
    have hreg := regionOf_ddr hlow hfit
    rw [postBytes, hlen, eachWord, if_neg (by rw [List.isEmpty_iff_length_eq_zero]; omega)]
    simp only [h4, Nat.sub_zero, List.drop_of_length_le (Nat.le_of_eq hlen), List.take_of_length_le (Nat.le_of_eq hlen), eachWord_nil]
    simp [postWord, hostWriteWord, hreg, ho, hready, hline]
  have hk : Kept [.mem] [] [] s (writeBytes d l s) := writeBytes_keeps _ _ _
  refine ⟨_, ?_, Wrote.writeBytes d l s, hk⟩
  show finish (if 0x100000 ≤ barAddr (a % 0x10000000) s ∧ barAddr (a % 0x10000000) s < 2 ^ 40
    then postBytes (barAddr (a % 0x10000000) s) l s else s) = _
  rw [← hd, if_pos (by omega), hpost, finish_of_quiet (hk.quiet (by simp) q)]

/-! #### Program memory and lane slices -/

theorem PCN_ECNT.page {e j : Nat} (he : e < 18) (hj : j < 8) : (PCN_ECNT.COUNT e j).addr / 65536 = 0xB := by
  simp only [PCN_ECNT.COUNT]
  omega

theorem Kept.countChainE {ps : List Part} {pg as : List Nat} {s : State} (hg : 0xB ∈ pg) (fuel : Nat) {e : Nat} (he : e < 18) :
    ∀ (j k : Nat) (t : State), j < 8 → Kept ps pg as s t → Kept ps pg as s (Machine.countChainE fuel e j k t) := by
  induction fuel with
  | zero => exact fun _ _ _ _ h => h
  | succ n ih =>
    intro j k t hj h
    have h1 := h.setF (PCN_ECNT.COUNT e j) (t.getF (PCN_ECNT.COUNT e j) + k) (.inl (PCN_ECNT.page he hj ▸ hg))
    rw [Machine.countChainE]
    refine Kept.ite _ (fun hc => ?_) (fun _ => h1)
    exact ih _ _ _ hc.2.1 h1

/-- An access of the host to an engine's window changes counters alone (R691). -/
theorem countWin_keeps {e : Nat} (he : e < 18) (s : State) : Kept [] [0xB] [] s (countWin e s) := by
  have hfold : ∀ (l : List Nat) (t : State), (∀ j ∈ l, j < 8) → Kept [] [0xB] [] s t → Kept [] [0xB] [] s (l.foldl (fun s j =>
      if s.getF (PCN_ESEL.EVT e j) = 0x15 ∧ !s.flag (PCN_ESEL.CHAIN e j)
          ∧ (!s.flag (PCN_ESEL.TFILT e j) ∨ s.getF (PCN_ESEL.TASK e j) = 0xFFFF)
      then Machine.countChainE 8 e j 1 s else s) t) := by
    intro l
    induction l with
    | nil => exact fun _ _ h => h
    | cons j l ih =>
      intro t hl h
      refine ih _ (fun i hi => hl i (List.mem_cons_of_mem _ hi)) (Kept.ite _ (fun _ => ?_) fun _ => h)
      exact h.countChainE (by simp) 8 he j 1 t (hl j List.mem_cons_self)
  unfold countWin countE
  exact Kept.ite _ (fun _ => .refl _ _ _ s) fun _ => hfold _ _ (fun j hj => List.mem_range.1 hj) (.refl _ _ _ s)

theorem engBase_lt {e : Nat} (he : e < 18) : (engBase e + 4) / 65536 ∉ [0xB] ∧ engBase e + 4 ≠ 4 := by
  unfold engBase
  split <;> simp <;> omega

/-- The status register of an engine outside the frame's exceptions. -/
theorem Kept.engStat {ps : List Part} {as : List Nat} {s u : State} {e : Nat} (h : Kept ps [0xB] as s u) (he : e < 18)
    (ha : engBase e + 4 ∉ as) : u.reg (engBase e + 4) = s.reg (engBase e + 4) :=
  h.reg _ (engBase_lt he).1 ha (by simp)

theorem engClosed_congr {e : Nat} {s u : State} (h : u.getF (ENG_STAT.STATE e) = s.getF (ENG_STAT.STATE e)) :
    engClosed e u = engClosed e s := by
  rw [engClosed, State.engState, h]
  rfl

theorem hostWriteWord_engine {e off : Nat} (m : List Byte) {u : State} (he : e < 18) (hlt : off < 0x100000) (ho : u.hostOpen = true) :
    hostWriteWord (engWin e + off) m u = writeEng e off (engWin e + off) m u := by
  rw [hostWriteWord, if_neg (by simp [ho]), regionOf_engine u he hlt]

/-- A write to an engine window that nothing keeps waiting. -/
theorem postWord_of_free {e off : Nat} (m : List Byte) {u : State} (he : e < 18) (hlt : off < 0x100000) (ho : u.hostOpen = true)
    (hq : u.fab.t1q = []) (hs : 0x80000 ≤ off → off < 0x90000 → u.flag (ENG_STAT.SLATE_READY e) = true) :
    postWord (engWin e + off) m u = writeEng e off (engWin e + off) m u := by
  have hslate : (decide (0x80000 ≤ off) && decide (off < 0x90000) && !engClosed e u && !u.flag (ENG_STAT.SLATE_READY e)) = false := by
    by_cases hin : 0x80000 ≤ off ∧ off < 0x90000
    · simp [hs hin.1 hin.2]
    · simp only [Bool.and_eq_false_iff, decide_eq_false_iff_not]
      exact .inl (.inl (by omega))
  rw [← hostWriteWord_engine m he hlt ho]
  rw [postWord, regionOf_engine u he hlt]
  exact if_neg (by simp [hq, hslate])

/-- Bytes in the window of an open engine, outside its views and gaps, are written where they stand. -/
theorem postWord_engine {e off : Nat} (m : List Byte) {u : State} (he : e < 18) (ho : u.hostOpen = true) (hq : u.fab.t1q = [])
    (hc : engClosed e u = false) (hoff : off < 0x20000 ∨ 0x40000 ≤ off ∧ off < 0x80000 ∨ 0xA0000 ≤ off ∧ off < 0xC0000) :
    postWord (engWin e + off) m u = writeBytes (engWin e + off) m (countWin e u) := by
  have hgap : engGap off = false := by
    simp only [engGap, Bool.or_eq_false_iff, Bool.and_eq_false_iff, decide_eq_false_iff_not]
    omega
  rw [postWord_of_free m he (by omega) ho hq (by omega), writeEng, if_neg (by rw [hc, hgap]; simp; omega), if_neg (by omega)]

/-- So is a whole write. -/
theorem postBytes_engine {e off : Nat} (l : List Byte) {s : State} (he : e < 18) (ho : s.hostOpen = true) (hq : s.fab.t1q = [])
    (hc : engClosed e s = false) (hoff : off + l.length ≤ 0x20000 ∨ 0x40000 ≤ off ∧ off + l.length ≤ 0x80000 ∨
      0xA0000 ≤ off ∧ off + l.length ≤ 0xC0000) :
    Kept [.mem] [0xB] [] s (postBytes (engWin e + off) l s) ∧ Wrote (engWin e + off) l s (postBytes (engWin e + off) l s) := by
  refine postBytes_wrote (K := fun _ u => Kept [.mem] [0xB] [] s u) (.refl _ _ _ s) fun k m u hm hlen hu => ?_
  have hpos := List.length_pos_iff.2 hm
  have hcu : engClosed e u = false := by
    refine (engClosed_congr ?_).trans hc
    rw [State.getF, State.getF]
    exact congrArg (fun w : Word => w.toNat / _ % _) (hu.engStat he (by simp))
  have hqu : u.fab.t1q = [] := by rw [show u.fab = s.fab from hu.part .fab (by simp), hq]
  rw [Nat.add_assoc, postWord_engine m he ((hu.hostOpen (by simp) (by simp)).trans ho) hqu hcu (by omega)]
  have hw := (countWin_keeps he u)
  exact ⟨hu.trans ((hw.mono (by simp) (by simp) (by simp)).trans ((writeBytes_keeps _ _ _).mono (by simp) (by simp) (by simp))),
    (Wrote.writeBytes _ _ _).congr (hw.part .mem (by simp)).symm rfl⟩

theorem programMemoryWrite_writes (e off : Nat) (l : List Byte) (s : State) (ho : s.hostOpen = true) (q : Quiet s) (he : e < 18)
    (hoff : off + l.length ≤ 0x20000) (hq : s.fab.t1q = []) (hc : engClosed e s = false) :
    ∃ t, exec (.programMemoryWrite e off l) s = .next t ∧ Wrote (engWin e + off) l s t ∧ Kept [.mem] [0xB] [] s t := by
  obtain ⟨hk, hw⟩ := postBytes_engine l he ho hq hc (.inl hoff)
  refine ⟨_, ?_, hw, hk⟩
  show finish (if e < 18 ∧ off + l.length ≤ 0x20000 then postBytes (engWin e + off) l s else s) = _
  rw [if_pos ⟨he, hoff⟩, finish_of_quiet (hk.quiet (by simp) q)]

theorem laneSliceWrite_writes (e off : Nat) (isY : Bool) (l : List Byte) (d : Nat) (s : State) (ho : s.hostOpen = true) (q : Quiet s)
    (he : e < 18) (hoff : off + l.length ≤ (if isY then 0x20000 else 0x40000)) (hq : s.fab.t1q = []) (hc : engClosed e s = false)
    (hd : d = engWin e + (if isY then 0xA0000 else 0x40000) + off) :
    ∃ t, exec (.laneSliceWrite e isY off l) s = .next t ∧ Wrote d l s t ∧ Kept [.mem] [0xB] [] s t := by
  have hin : (if isY then 0xA0000 else 0x40000) + off + l.length ≤ 0x20000 ∨
      0x40000 ≤ (if isY then 0xA0000 else 0x40000) + off ∧ (if isY then 0xA0000 else 0x40000) + off + l.length ≤ 0x80000 ∨
      0xA0000 ≤ (if isY then 0xA0000 else 0x40000) + off ∧ (if isY then 0xA0000 else 0x40000) + off + l.length ≤ 0xC0000 := by
    cases isY <;> simp at hoff ⊢ <;> omega
  obtain ⟨hk, hw⟩ := postBytes_engine l he ho hq hc hin
  rw [← Nat.add_assoc, ← hd] at hk hw
  refine ⟨_, ?_, hw, hk⟩
  show finish (if e < 18 ∧ off + l.length ≤ (if isY then 0x20000 else 0x40000) then
    postBytes (engWin e + (if isY then 0xA0000 else 0x40000) + off) l s else s) = _
  rw [if_pos ⟨he, hoff⟩, ← hd, finish_of_quiet (hk.quiet (by simp) q)]

/-! #### The slate view -/

/-- What decides about an access to the slate view of engine `e` is the same. -/
structure SlateSame (e : Nat) (s u : State) : Prop where
  ready : u.flag (ENG_STAT.SLATE_READY e) = s.flag (ENG_STAT.SLATE_READY e)
  page : u.livePage e = s.livePage e
  state : u.getF (ENG_STAT.STATE e) = s.getF (ENG_STAT.STATE e)

namespace SlateSame

variable {e : Nat} {s t u : State}

theorem refl (e : Nat) (s : State) : SlateSame e s s := ⟨rfl, rfl, rfl⟩

theorem trans (h : SlateSame e s t) (k : SlateSame e t u) : SlateSame e s u :=
  ⟨k.ready.trans h.ready, k.page.trans h.page, k.state.trans h.state⟩

/-- They all stand in the engine's status register. -/
theorem of_reg (h : u.reg (engBase e + 4) = s.reg (engBase e + 4)) : SlateSame e s u := by
  have hf : ∀ f : Fld, f.addr = engBase e + 4 → u.getF f = s.getF f := fun f hf => by rw [State.getF, State.getF, hf, h]
  refine ⟨?_, ?_, hf _ rfl⟩
  · rw [State.flag, hf _ rfl, State.flag]
  · rw [State.livePage, State.flag, hf _ rfl, State.livePage, State.flag]

theorem setDirty (e : Nat) (s : State) : SlateSame e s (s.setF (ENG_STAT.SLATE_DIRTY e) 1) := by
  have hr : (s.setF (ENG_STAT.SLATE_DIRTY e) 1).getF (ENG_STAT.SLATE_READY e) = s.getF (ENG_STAT.SLATE_READY e) :=
    State.getF_setF_disjoint _ _ _ _ (by simp [ENG_STAT.SLATE_READY]) (.inr (by simp [ENG_STAT.SLATE_READY, ENG_STAT.SLATE_DIRTY]))
  have hp : (s.setF (ENG_STAT.SLATE_DIRTY e) 1).getF (ENG_STAT.LIVEPAGE e) = s.getF (ENG_STAT.LIVEPAGE e) :=
    State.getF_setF_disjoint _ _ _ _ (by simp [ENG_STAT.LIVEPAGE]) (.inl (by simp [ENG_STAT.LIVEPAGE, ENG_STAT.SLATE_DIRTY]))
  refine ⟨?_, ?_, State.getF_setF_disjoint _ _ _ _ (by simp [ENG_STAT.STATE]) (.inl (by simp [ENG_STAT.STATE, ENG_STAT.SLATE_DIRTY]))⟩
  · rw [State.flag, hr, State.flag]
  · rw [State.livePage, State.flag, hp, State.livePage, State.flag]

theorem viewOff (h : SlateSame e s u) (off : Nat) : viewOff e off u = viewOff e off s := by
  rw [Machine.viewOff, Machine.viewOff, h.page]

end SlateSame

theorem State.flag_onFab (s : State) (f : FabU → FabU) (g : Fld) : (s.onFab f).flag g = s.flag g := rfl

theorem flag_setDirty (e : Nat) (s : State) : (s.setF (ENG_STAT.SLATE_DIRTY e) 1).flag (ENG_STAT.SLATE_DIRTY e) = true := by
  rw [State.flag, State.getF_setF_same _ _ _ (by simp [ENG_STAT.SLATE_DIRTY])]
  rfl

/-- Bytes written in the slate view of engine `e` while SLATE_READY is 1. -/
def landSlate (e off : Nat) (m : List Byte) (s : State) : State :=
  (writeBytes (engWin e + viewOff e off s) m (countWin e s)).setF (ENG_STAT.SLATE_DIRTY e) 1

section

variable {e off : Nat} {m : List Byte} {s u : State}

theorem countWin_same (he : e < 18) (s : State) : SlateSame e s (countWin e s) :=
  .of_reg ((countWin_keeps he s).engStat he (by simp))

theorem writeEng_slate (a : Nat) (m : List Byte) (he : e < 18) (hin : 0x80000 ≤ off ∧ off < 0x90000) (hc : engClosed e u = false)
    (hr : u.flag (ENG_STAT.SLATE_READY e) = true) (hh : (u.engine e).held = []) : writeEng e off a m u = landSlate e off m u := by
  have hgap : engGap off = false := by
    simp only [engGap, Bool.or_eq_false_iff, Bool.and_eq_false_iff, decide_eq_false_iff_not]
    omega
  have hw := countWin_same he u
  have hheld : ((countWin e u).engine e).held = [] := by
    rw [State.engine, show (countWin e u).eng = u.eng from (countWin_keeps he u).part .eng (by simp)]
    exact hh
  rw [writeEng, if_neg (by rw [hc, hgap]; simp; omega)]
  dsimp only
  rw [if_pos hin, writeSlate, if_neg (by rw [hw.ready, hr, hheld]; simp), landSlate, hw.viewOff]

theorem landSlate_wrote (he : e < 18) : Wrote (engWin e + viewOff e off s) m s (landSlate e off m s) :=
  (Wrote.writeBytes _ _ _).congr ((countWin_keeps he s).part .mem (by simp)).symm rfl

theorem landSlate_keeps (he : e < 18) : Kept [.mem] [0xB] [engBase e + 4] s (landSlate e off m s) :=
  (((countWin_keeps he s).mono (by simp) (by simp) (by simp)).trans
    ((writeBytes_keeps _ _ _).mono (by simp) (by simp) (by simp))).setF _ _ (.inr (by simp [ENG_STAT.SLATE_DIRTY]))

theorem landSlate_same (he : e < 18) : SlateSame e s (landSlate e off m s) :=
  ((countWin_same he s).trans (.of_reg ((writeBytes_keeps _ _ _).reg _ (by simp) (by simp) (by simp)))).trans (.setDirty e _)

end

theorem slateViewWrite_lands (e off : Nat) (l : List Byte) (d : Nat) (s : State) (ho : s.hostOpen = true) (q : Quiet s) (he : e < 18)
    (hoff : off + l.length ≤ 0x10000) (hl : l ≠ []) (hq : s.fab.t1q = []) (hc : engClosed e s = false)
    (hr : s.flag (ENG_STAT.SLATE_READY e) = true) (hh : (s.engine e).held = [])
    (hd : d = engWin e + (if s.livePage e then 0x80000 else 0x90000) + off) :
    ∃ t, exec (.slateViewWrite e off l) s = .next t ∧ Wrote d l s t ∧ t.flag (ENG_STAT.SLATE_DIRTY e) = true
      ∧ Kept [.mem] [0xB] [engBase e + 4] s t := by
  obtain ⟨⟨hk, -, hdirty⟩, hw⟩ := postBytes_wrote (a := engWin e + 0x80000 + off) (d := d) (l := l) (s := s)
    (K := fun k u => Kept [.mem] [0xB] [engBase e + 4] s u ∧ SlateSame e s u ∧ (0 < k → u.flag (ENG_STAT.SLATE_DIRTY e) = true))
    ⟨.refl _ _ _ s, .refl e s, fun h => absurd h (Nat.lt_irrefl 0)⟩ fun k m u hm hlen hu => by
      obtain ⟨hku, hsu, -⟩ := hu
      have hpos := List.length_pos_iff.2 hm
      have hread : u.flag (ENG_STAT.SLATE_READY e) = true := hsu.ready.trans hr
      have hheld : (u.engine e).held = [] := by
        rw [State.engine, show u.eng = s.eng from hku.part .eng (by simp)]
        exact hh
      have hview : d + k = engWin e + viewOff e (0x80000 + (off + k)) u := by
        rw [hsu.viewOff, viewOff, if_pos (by omega), hd]
        cases s.livePage e <;> simp <;> omega
      rw [Nat.add_assoc, Nat.add_assoc, postWord_of_free m he (by omega)
        ((hku.hostOpen (by simp) (by simpa using (engBase_lt he).2.symm)).trans ho)
        (by rw [show u.fab = s.fab from hku.part .fab (by simp), hq]) fun _ _ => hread,
        writeEng_slate _ m he (by omega) ((engClosed_congr hsu.state).trans hc) hread hheld, hview]
      exact ⟨⟨hku.trans (landSlate_keeps he), hsu.trans (landSlate_same he), fun _ => flag_setDirty e _⟩, landSlate_wrote he⟩
  refine ⟨_, ?_, hw, hdirty (List.length_pos_iff.2 hl), hk⟩
  show finish (if e < 18 ∧ off + l.length ≤ 0x10000 then postBytes (engWin e + 0x80000 + off) l s else s) = _
  rw [if_pos ⟨he, hoff⟩, finish_of_quiet (hk.quiet (by simp) q)]

/-! #### Writes that the crossbar holds -/

/-- The state with the accesses `q` waiting behind those that wait. -/
def holdT1 (q : List HostT1) (s : State) : State := s.onFab fun u => { u with t1q := u.t1q ++ q }

/-- A write to a slate view whose engine has SLATE_READY 0, or to an engine window behind held ones, waits (R587). -/
theorem postWord_waits {e off : Nat} (m : List Byte) {u : State} (he : e < 18) (hlt : off < 0x100000) (ho : u.hostOpen = true)
    (h : u.fab.t1q ≠ [] ∨ (0x80000 ≤ off ∧ off < 0x90000) ∧ engClosed e u = false ∧ u.flag (ENG_STAT.SLATE_READY e) = false) :
    postWord (engWin e + off) m u = holdT1 [⟨engWin e + off, m, 0, none⟩] u := by
  have hcond : (u.hostOpen && (decide (0x80000 ≤ off) && decide (off < 0x90000) && !engClosed e u && !u.flag (ENG_STAT.SLATE_READY e)
      || !u.fab.t1q.isEmpty)) = true := by
    rcases h with h | ⟨hin, hc, hr⟩
    · simp [ho, h]
    · simp [ho, hin, hc, hr]
  rw [postWord, regionOf_engine u he hlt]
  exact if_pos hcond

/-- A write of the host, every part of which waits. -/
theorem postBytes_waits {a : Nat} {l : List Byte} {s : State} (hf : ∀ k m q, m ≠ [] → k + m.length ≤ l.length →
      postWord (a + k) m (holdT1 q s) = holdT1 [⟨a + k, m, 0, none⟩] (holdT1 q s)) :
    ∃ q, postBytes a l s = holdT1 q s ∧ q.flatMap (·.l) = l ∧ ∀ x, q.head? = some x → x.a = a := by
  have h := eachWord_induct (f := postWord) (a := a) (l := l)
    (P := fun k u => ∃ q, u = holdT1 q s ∧ q.flatMap (·.l) = l.take k ∧ ∀ x, q.head? = some x → x.a = a)
    (fun k m u hm hlen hml hu => ?_) l.length 0 s (Nat.zero_le _) (by omega) ⟨[], ?_, rfl, by simp⟩
  · obtain ⟨q, hq, hql, hqa⟩ := h
    exact ⟨q, hq, by rw [hql, List.take_length], hqa⟩
  · obtain ⟨q, rfl, hql, hqa⟩ := hu
    refine ⟨q ++ [⟨a + k, m, 0, none⟩], ?_, ?_, fun x hx => ?_⟩
    · rw [hf k m q hm hlen]
      simp [holdT1, State.onFab]
    · rw [List.flatMap_append, hql, List.take_add, ← hml]
      simp
    · cases q with
      | nil =>
        have hk : k = 0 := by
          have hz := congrArg List.length hql
          rw [List.flatMap_nil, List.length_nil, List.length_take] at hz
          omega
        subst hk
        simp only [List.nil_append, List.head?_cons, Option.some.injEq] at hx
        rw [← hx]
        rfl
      | cons y q => exact hqa x (by simpa using hx)
  · simp [holdT1, State.onFab]

/-- The answer of a row whose write waits. -/
theorem waits_of_postBytes {a : Nat} {l : List Byte} {s : State} (q : Quiet s) (h : ∃ q, postBytes a l s = holdT1 q s
      ∧ q.flatMap (·.l) = l ∧ ∀ x, q.head? = some x → x.a = a) :
    ∃ t, finish (postBytes a l s) = .next t ∧ t = s.onFab (fun _ => t.fab) ∧ t.fab = { s.fab with t1q := t.fab.t1q }
      ∧ ∃ q, t.fab.t1q = s.fab.t1q ++ q ∧ q.flatMap (·.l) = l ∧ ∀ x, q.head? = some x → x.a = a := by
  obtain ⟨w, hw, hwl, hwa⟩ := h
  refine ⟨holdT1 w s, ?_, rfl, rfl, w, rfl, hwl, hwa⟩
  rw [hw]
  exact finish_of_quiet (s := holdT1 w s) q

theorem slateViewWrite_waits (e off : Nat) (l : List Byte) (s : State) (ho : s.hostOpen = true) (q : Quiet s) (he : e < 18)
    (hoff : off + l.length ≤ 0x10000) (hc : engClosed e s = false) (hr : s.flag (ENG_STAT.SLATE_READY e) = false) :
    ∃ t, exec (.slateViewWrite e off l) s = .next t ∧ t = s.onFab (fun _ => t.fab) ∧ t.fab = { s.fab with t1q := t.fab.t1q }
      ∧ ∃ q, t.fab.t1q = s.fab.t1q ++ q ∧ q.flatMap (·.l) = l ∧ ∀ x, q.head? = some x → x.a = engWin e + 0x80000 + off := by
  have hx : exec (.slateViewWrite e off l) s = finish (postBytes (engWin e + 0x80000 + off) l s) := by
    show finish (if e < 18 ∧ off + l.length ≤ 0x10000 then postBytes (engWin e + 0x80000 + off) l s else s) = _
    rw [if_pos ⟨he, hoff⟩]
  rw [hx]
  refine waits_of_postBytes q (postBytes_waits fun k m w hm hlen => ?_)
  have hpos := List.length_pos_iff.2 hm
  rw [Nat.add_assoc, Nat.add_assoc]
  exact postWord_waits (u := holdT1 w s) m he (by omega) ho (.inr ⟨by omega, hc, hr⟩)

theorem programMemoryWrite_waits (e off : Nat) (l : List Byte) (s : State) (ho : s.hostOpen = true) (q : Quiet s) (he : e < 18)
    (hoff : off + l.length ≤ 0x20000) (hq : s.fab.t1q ≠ []) :
    ∃ t, exec (.programMemoryWrite e off l) s = .next t ∧ t = s.onFab (fun _ => t.fab) ∧ t.fab = { s.fab with t1q := t.fab.t1q }
      ∧ ∃ q, t.fab.t1q = s.fab.t1q ++ q ∧ q.flatMap (·.l) = l ∧ ∀ x, q.head? = some x → x.a = engWin e + off := by
  have hx : exec (.programMemoryWrite e off l) s = finish (postBytes (engWin e + off) l s) := by
    show finish (if e < 18 ∧ off + l.length ≤ 0x20000 then postBytes (engWin e + off) l s else s) = _
    rw [if_pos ⟨he, hoff⟩]
  rw [hx]
  refine waits_of_postBytes q (postBytes_waits fun k m w hm hlen => ?_)
  rw [Nat.add_assoc]
  exact postWord_waits (u := holdT1 w s) m he (by omega) ho (.inl (by simp [holdT1, State.onFab, hq]))

/-! #### Writes that land when SLATE_READY returns to 1 -/

/-- The held bytes of engine `e`, each at its place on the page behind the slate view. -/
def landBytes (e : Nat) (h : List (Nat × Byte)) (s : State) : State :=
  h.foldl (fun s x => s.setByte (engWin e + viewOff e x.1 s) x.2) s

theorem landBytes_keeps (e : Nat) (h : List (Nat × Byte)) (s : State) : Kept [.mem] [] [] s (landBytes e h s) :=
  Kept.foldl _ (fun _ _ => (Kept.refl _ _ _ _).onMem _) h s

/-- The views are mapped onto the pages one to one (R45). -/
theorem viewOff_injective (e : Nat) (s : State) {o o' : Nat} (h : viewOff e o s = viewOff e o' s) : o = o' := by
  unfold viewOff at h
  cases hp : s.livePage e
  all_goals
    simp only [hp, Bool.false_eq_true, if_true, if_false] at h
    split_ifs at h <;> omega

/-- Of the bytes held for a place the latest lands last. -/
theorem landBytes_byte (e o : Nat) (h : List (Nat × Byte)) (s : State) : (landBytes e h s).byte (engWin e + viewOff e o s) =
    match (h.filter fun x => x.1 = o).getLast? with
    | some x => x.2
    | none => s.byte (engWin e + viewOff e o s) := by
  induction h generalizing s with
  | nil => rfl
  | cons x h ih =>
    have hstep := ih (s.setByte (engWin e + viewOff e x.1 s) x.2)
    rw [show viewOff e o (s.setByte (engWin e + viewOff e x.1 s) x.2) = viewOff e o s from rfl] at hstep
    refine Eq.trans hstep ?_
    by_cases hx : x.1 = o
    · subst hx
      rw [State.byte_setByte_same, List.filter_cons_of_pos (by simp), List.getLast?_cons]
      cases (h.filter fun y => y.1 = x.1).getLast? <;> rfl
    · rw [State.byte_setByte_other _ _ _ _ fun e' => hx (viewOff_injective e s (Nat.add_left_cancel e').symm),
        List.filter_cons_of_neg (by simpa using hx)]

/-- The part of a landing that the Gaffer core's own writes make (R109). -/
def gafferLands (e : Nat) (s : State) : State :=
  if (s.engine e).held.isEmpty then s
  else (landBytes e (s.engine e).held (onEngine e (fun u => { u with held := [] }) s)).setF (ENG_STAT.SLATE_DIRTY e) 1

/-- The part of a landing that the accesses of the host make (R587). -/
def hostLands (e : Nat) (s : State) : State :=
  let mine := match s.fab.t1q.head? with
    | some x => decide (engOfWin x.a s = some e)
    | none => false
  if mine then (List.range 10).foldl (fun s t => grant t s) (drainT1 s.fab.t1q s) else s

theorem landHeld_of_ready {e : Nat} {s : State} (hr : s.flag (ENG_STAT.SLATE_READY e) = true) :
    landHeld e s = hostLands e (gafferLands e s) := by
  have h : landHeld e s = if !s.flag (ENG_STAT.SLATE_READY e) then s else hostLands e (gafferLands e s) := rfl
  rw [h, hr]
  exact if_neg (by simp)

theorem hostLands_nil (e : Nat) {s : State} (hq : s.fab.t1q = []) : hostLands e s = s := by
  simp [hostLands, hq]

theorem hostLands_cons {e : Nat} {x : HostT1} {r : List HostT1} {s : State} (hq : s.fab.t1q = x :: r)
    (hx : engOfWin x.a s = some e) :
    hostLands e s = (List.range 10).foldl (fun s t => grant t s) (drainT1 (x :: r) s) := by
  simp [hostLands, hq, hx]

theorem slateWaits_of_ready {x : HostT1} {e o : Nat} {s : State} (hx : regionOf x.a s = .engine e o)
    (hr : s.flag (ENG_STAT.SLATE_READY e) = true) : slateWaits x s = none := by
  rw [slateWaits, hx]
  exact if_neg (by simp [hr])

theorem engOfWin_of_region {a e o : Nat} {s : State} (h : regionOf a s = .engine e o) : engOfWin a s = some e := by
  rw [engOfWin, h]

theorem drainT1_write {x : HostT1} {r : List HostT1} {s : State} (hw : slateWaits x s = none) (hl : x.l ≠ []) :
    drainT1 (x :: r) s = drainT1 r (hostWriteWord x.a x.l s) := by
  rw [drainT1, hw, if_neg (by simp), if_neg (by simpa using hl)]

/-- Without an access of the host that waits, a landing is that of the held bytes. -/
theorem landHeld_of_held {e : Nat} {s : State} (hr : s.flag (ENG_STAT.SLATE_READY e) = true) (hh : (s.engine e).held ≠ [])
    (hq : s.fab.t1q = []) : landHeld e s =
      (landBytes e (s.engine e).held (onEngine e (fun u => { u with held := [] }) s)).setF (ENG_STAT.SLATE_DIRTY e) 1 := by
  obtain ⟨x, hx⟩ : ∃ x, x = (landBytes e (s.engine e).held (onEngine e (fun u => { u with held := [] }) s)).setF
    (ENG_STAT.SLATE_DIRTY e) 1 := ⟨_, rfl⟩
  have hland : gafferLands e s = x := by rw [gafferLands, if_neg (by simpa using hh), hx]
  have hkeep : Kept [.mem, .eng] [] [engBase e + 4] s x := by
    rw [hx]
    exact ((((Kept.refl [.eng] [] [] s).onEng _).mono (by simp) (by simp) (by simp)).trans
      ((landBytes_keeps e _ _).mono (by simp) (by simp) (by simp))).setF _ _ (.inr (by simp [ENG_STAT.SLATE_DIRTY]))
  have hxq : x.fab.t1q = [] := by rw [show x.fab = s.fab from hkeep.part .fab (by simp), hq]
  rw [landHeld_of_ready hr, hland, hostLands_nil e hxq, hx]

theorem heldSlateWriteLand_lands (e o d : Nat) (s : State) (q : Quiet s) (he : e < 18)
    (hr : s.flag (ENG_STAT.SLATE_READY e) = true) (hh : (s.engine e).held ≠ []) (hq : s.fab.t1q = [])
    (hd : d = engWin e + viewOff e o s) :
    ∃ t, exec (.heldSlateWriteLand e) s = .next t ∧ (t.engine e).held = [] ∧ t.flag (ENG_STAT.SLATE_DIRTY e) = true
      ∧ (t.byte d = match ((s.engine e).held.filter fun x => x.1 = o).getLast? with | some x => x.2 | none => s.byte d)
      ∧ (∀ f, f ≠ e → t.engine f = s.engine f) ∧ Kept [.mem, .eng] [] [engBase e + 4] s t := by
  obtain ⟨u, hu⟩ : ∃ u, u = onEngine e (fun u => { u with held := [] }) s := ⟨_, rfl⟩
  have hku : Kept [.eng] [] [] s u := hu ▸ (Kept.refl _ _ _ s).onEng _
  have hkl := landBytes_keeps e (s.engine e).held u
  have heng : (landBytes e (s.engine e).held u).eng = u.eng := hkl.part .eng (by simp)
  have hget : ∀ f, (landBytes e (s.engine e).held u).engine f = if f = e then { s.engine e with held := [] } else s.engine f := by
    intro f
    rw [State.engine, heng, hu]
    exact getD_putNth _ _ _ _ _
  have hview : viewOff e o u = viewOff e o s :=
    (SlateSame.of_reg (hku.reg _ (by simp) (by simp) (by simp))).viewOff o
  have hk : Kept [.mem, .eng] [] [engBase e + 4] s ((landBytes e (s.engine e).held u).setF (ENG_STAT.SLATE_DIRTY e) 1) :=
    ((hku.mono (by simp) (by simp) (by simp)).trans (hkl.mono (by simp) (by simp) (by simp))).setF _ _
      (.inr (by simp [ENG_STAT.SLATE_DIRTY]))
  refine ⟨_, ?_, ?_, flag_setDirty e _, ?_, fun f hf => ?_, hk⟩
  · show finish (if e < 18 then landHeld e s else s) = _
    rw [if_pos he, landHeld_of_held hr hh hq, ← hu, finish_of_quiet (hk.quiet (by simp) q)]
  · exact congrArg EngU.held ((hget e).trans (if_pos rfl))
  · have hb := landBytes_byte e o (s.engine e).held u
    rw [hview, ← hd, show u.byte d = s.byte d by simp only [State.byte, show u.mem = s.mem from hku.part .mem (by simp)]] at hb
    exact hb
  · exact (hget f).trans (if_neg hf)

/-- A grant leaves the accesses that wait. -/
theorem grant_keeps (t : Nat) (s : State) : Kept [.fab] [0xB] [] s (grant t s) ∧ (grant t s).fab.t1q = s.fab.t1q := by
  unfold grant
  split
  · exact ⟨.refl _ _ _ s, rfl⟩
  · split
    · exact ⟨.refl _ _ _ s, rfl⟩
    · rename_i m _
      dsimp only
      constructor
      · exact ((Kept.refl _ _ _ s).onFab _).countG _ _
      · have hc : ∀ u : State, (countG (0x20 + m) 1 u).fab = u.fab := fun u => ((Kept.refl [] [0xB] [] u).countG _ _).part .fab (by simp)
        rw [hc]
        rfl

theorem grantAll_keeps (s : State) : Kept [.fab] [0xB] [] s ((List.range 10).foldl (fun s t => grant t s) s)
    ∧ ((List.range 10).foldl (fun s t => grant t s) s).fab.t1q = s.fab.t1q :=
  foldl_keeps (fun s u => Kept [.fab] [0xB] [] s u ∧ u.fab.t1q = s.fab.t1q) (fun s => ⟨.refl _ _ _ s, rfl⟩)
    (fun _ _ _ h k => ⟨h.1.trans k.1, k.2.trans h.2⟩) _ (fun s t => grant_keeps t s) _ s

theorem heldSlateWriteLand_drains (e o : Nat) (l : List Byte) (d : Nat) (s : State) (ho : s.hostOpen = true) (q : Quiet s) (he : e < 18)
    (hr : s.flag (ENG_STAT.SLATE_READY e) = true) (hh : (s.engine e).held = []) (hc : engClosed e s = false) (h8 : 0x80000 ≤ o)
    (h9 : o + l.length ≤ 0x90000) (hl : l ≠ []) (hq : s.fab.t1q = [⟨engWin e + o, l, 0, none⟩])
    (hd : d = engWin e + viewOff e o s) :
    ∃ t, exec (.heldSlateWriteLand e) s = .next t ∧ Wrote d l s t ∧ t.flag (ENG_STAT.SLATE_DIRTY e) = true ∧ t.fab.t1q = [] := by
  have hpos := List.length_pos_iff.2 hl
  have hreg : regionOf (engWin e + o) s = .engine e o := regionOf_engine s he (by omega)
  have hwaits : slateWaits ⟨engWin e + o, l, 0, none⟩ s = none := slateWaits_of_ready hreg hr
  have hmine : engOfWin (engWin e + o) s = some e := engOfWin_of_region hreg
  obtain ⟨u, hu⟩ : ∃ u, u = (landSlate e o l s).onFab fun f => { f with t1q := [] } := ⟨_, rfl⟩
  have hland : landHeld e s = (List.range 10).foldl (fun s t => grant t s) u := by
    rw [landHeld_of_ready hr, gafferLands, hh, if_pos List.isEmpty_nil, hostLands_cons hq hmine, drainT1_write hwaits hl,
      hostWriteWord_engine l he (by omega) ho, writeEng_slate _ l he ⟨h8, by omega⟩ hc hr hh, drainT1, hu]
  obtain ⟨hkg, hqg⟩ := grantAll_keeps u
  rw [← hland] at hkg hqg
  have hku : Kept [.mem, .fab] [0xB] [engBase e + 4] s u := by
    rw [hu]
    exact ((landSlate_keeps he).mono (by simp) (by simp) (by simp)).onFab _
  have hk : Kept [.mem, .fab] [0xB] [engBase e + 4] s (landHeld e s) := hku.trans (hkg.mono (by simp) (by simp) (by simp))
  refine ⟨landHeld e s, ?_, ?_, ?_, ?_⟩
  · show finish (if e < 18 then landHeld e s else s) = _
    rw [if_pos he, finish_of_quiet (hk.quiet (by simp) q)]
  · have hmem : (landHeld e s).mem = (landSlate e o l s).mem := by
      rw [show (landHeld e s).mem = u.mem from hkg.part .mem (by simp), hu, State.onFab_mem]
    rw [hd]
    exact (landSlate_wrote he).congr rfl hmem
  · have hdirty : u.flag (ENG_STAT.SLATE_DIRTY e) = true := by
      rw [hu, State.flag_onFab, landSlate, flag_setDirty]
    rw [State.flag, State.getF, show (landHeld e s).reg (ENG_STAT.SLATE_DIRTY e).addr = u.reg (ENG_STAT.SLATE_DIRTY e).addr from
      hkg.engStat he (by simp)]
    exact hdirty
  · rw [hqg, hu, State.onFab_fab]

/-- Settles O23: the parts of a write land one behind the other, or wait one behind the other. -/
theorem hostMemoryWrites : Obligations.HostMemoryWrites := by
  unfold Obligations.HostMemoryWrites
  refine ⟨fun a l s ho q ha => ?_, fun a l d s ho q hd hlen h4 hfit hready hline => ?_, fun e off l s ho q he hoff hq hc => ?_,
    fun e off isY l d s ho q he hoff hq hc hd => ?_, fun e off l d s ho q he hoff hl hq hc hr hh hd => ?_, slateViewWrite_waits,
    programMemoryWrite_waits, fun e o d s _ q he hr hh hq _ _ hd => heldSlateWriteLand_lands e o d s q he hr hh hq hd,
    fun e o l d s ho q he hr hh hc h8 h9 hl hq hd => ?_⟩
  · obtain ⟨t, ht, hw, hk⟩ := hostMemoryWrite_bar0 a l s ho q ha
    exact ⟨t, ht, hw.inside, hw.outside, hk⟩
  · obtain ⟨t, ht, hw, hk⟩ := hostMemoryWrite_bar2 a l d s ho q hd hlen h4 hfit hready hline
    exact ⟨t, ht, hw.inside, hw.outside, hk⟩
  · obtain ⟨t, ht, hw, hk⟩ := programMemoryWrite_writes e off l s ho q he hoff hq hc
    exact ⟨t, ht, hw.inside, hw.outside, hk⟩
  · obtain ⟨t, ht, hw, hk⟩ := laneSliceWrite_writes e off isY l d s ho q he hoff hq hc hd
    exact ⟨t, ht, hw.inside, hw.outside, hk⟩
  · obtain ⟨t, ht, hw, hdirty, hk⟩ := slateViewWrite_lands e off l d s ho q he hoff hl hq hc hr hh hd
    exact ⟨t, ht, hw.inside, hw.outside, hdirty, hk⟩
  · obtain ⟨t, ht, hw, hdirty, hqt⟩ := heldSlateWriteLand_drains e o l d s ho q he hr hh hc h8 h9 hl hq hd
    exact ⟨t, ht, hw.inside, hw.outside, hdirty, hqt⟩

end Sys2Proof
end

section
/-! ### An END whose own cycle exceeds an enforced BUDGET stops its task (O35) -/

namespace Sys2Proof

open Machine

/-- RUN, logical engine 0 on engine 17, which runs task 0 with ENFORCE, its charge at its BUDGET of 100 cycles. The instruction at its
program counter is an END. -/
def endAtBudget : State :=
  onTask 0 (fun t => { t with words := [0x01000100, 0, 100, 1, 0, 1, 0, 0], live := true, due := true, started := true, st := 4, charge := 100 })
    ((((State.reset.setF SYS_MODE.MODE 4).setF (ENG_ROLE.LOGICAL 17) 0).setF (ENG_STAT.STATE 17) 1).setWord (engWin 17 + 4)
      (wd (0x39 * 2 ^ 26)))

set_option maxRecDepth 100000 in
/-- The END is the next instruction of task 0. -/
theorem endAtBudget_runsLong : RunsLong 0x39 17 0 0 .clean endAtBudget := by decide

set_option maxRecDepth 100000 in
/-- The cycle of the END is the 101st that the task is charged (R228), so that ENFORCE ends the task in it (R229). -/
theorem stopped_runEnd_endAtBudget : ((settle (runEnd 17 .clean endAtBudget)).task 0).stopped = true := by decide

/-- Refutes O35: no premise of the END clause keeps the charge of the task within its BUDGET or has ENFORCE at 0. Where the cycle in which
END reaches DC takes the charge above an enforced BUDGET, the task ends as a stopped one (R228, R229). -/
theorem not_engineTaskSwitch : ¬ Obligations.EngineTaskSwitch := by
  unfold Obligations.EngineTaskSwitch
  rintro ⟨-, hend⟩
  obtain ⟨t, ht, -, -, -, hstopped, -⟩ := hend 17 0 .clean endAtBudget endAtBudget_runsLong (by decide) (by decide)
  obtain rfl : settle (runEnd 17 .clean endAtBudget) = t := Host.Outcome.next.inj ht
  rw [stopped_runEnd_endAtBudget] at hstopped
  exact absurd hstopped (by decide)

end Sys2Proof
end

section
/-! ### A spare's failed BIST wears out a row of the eMRAM (O41) -/

namespace Sys2Proof

open Machine

/-- RUN, physical engine 17 SPARE, no spare row of the eMRAM left. Row 4,048, in which the repair table is written next, has one write to go
to its wear limit. -/
def spareOnWornRow : State :=
  (((State.reset.setF SYS_MODE.MODE 4).setF (ENG_STAT.STATE 17) 3).setF MRAM_STAT.SPARES 0).onFab fun u =>
    { u with wear := [(4048, 122070 * 65536 - 1)] }

/-- The messages that the outcome's next state has counted. -/
def messagesAfter (o : Host.Outcome State Fault Refusal) : Nat :=
  match o with
  | .next t => t.getF FLT_COUNT.COUNT
  | _ => 0

set_option maxRecDepth 100000 in
/-- The engine is retired with one message, and the row that takes its entry is worn with another (R605, R607). -/
theorem messagesAfter_spareBist : messagesAfter (exec (.spareBist 17 1) spareOnWornRow) = 2 := by decide

/-- Refutes O41: a spare that fails BIST is written into the repair table, and where that write takes a row of the eMRAM to its wear limit
with no spare row left, MRAM_WORN is sent in the same step (R607). The clause says that one message is counted. -/
theorem not_dissolvesRecastsAndSpares : ¬ Obligations.DissolvesRecastsAndSpares := by
  unfold Obligations.DissolvesRecastsAndSpares
  rintro ⟨-, -, -, -, -, -, hfails⟩
  obtain ⟨t, ht, -, -, -, -, -, -, -, hcount, -⟩ :=
    hfails 17 1 spareOnWornRow ⟨rfl, rfl⟩ (by decide) (by decide) (by decide) (by decide) (by decide)
  have htwo := messagesAfter_spareBist
  rw [ht] at htwo
  exact absurd (htwo.symm.trans hcount) (by decide)

end Sys2Proof
end

section
/-! ### The copy of a slate page corrects a word and rewrites the repair table (O40) -/

namespace Sys2Proof

open Machine

/-! #### Counters of an engine -/

/-- An event of an engine changes counters alone (R691). -/
theorem Kept.countE {ps : List Part} {pg as : List Nat} {s t : State} {e : Nat} (h : Kept ps pg as s t) (he : e < 18)
    (hg : 0xB ∈ pg) (evt k task : Nat) : Kept ps pg as s (Machine.countE e evt k task t) := by
  have hfold : ∀ (l : List Nat) (u : State), (∀ j ∈ l, j < 8) → Kept ps pg as s u → Kept ps pg as s (l.foldl (fun s j =>
      if s.getF (PCN_ESEL.EVT e j) = evt ∧ !s.flag (PCN_ESEL.CHAIN e j)
          ∧ (!s.flag (PCN_ESEL.TFILT e j) ∨ s.getF (PCN_ESEL.TASK e j) = task)
      then Machine.countChainE 8 e j k s else s) u) := by
    intro l
    induction l with
    | nil => exact fun _ _ hu => hu
    | cons j l ih =>
      intro u hl hu
      refine ih _ (fun i hi => hl i (List.mem_cons_of_mem _ hi)) (Kept.ite _ (fun _ => ?_) fun _ => hu)
      exact hu.countChainE hg 8 he j k u (hl j List.mem_cons_self)
  exact Kept.ite _ (fun _ => h) fun _ => hfold _ _ (fun j hj => List.mem_range.1 hj) h

/-! #### Bytes outside a copied range -/

/-- A map without some of its other keys. -/
theorem smGet_filter_of_key {α : Type} (d : α) (p : Nat → Bool) (k : Nat) (hk : p k = true) :
    ∀ m : List (Nat × α), smGet d (m.filter fun c => p c.1) k = smGet d m k
  | [] => rfl
  | (k', v) :: t => by
    have ih := smGet_filter_of_key d p k hk t
    by_cases hp : p k' = true
    · simp [hp, smGet, ih]
    · have hne : k ≠ k' := fun hkk => hp (hkk ▸ hk)
      simp [hp, smGet, hne, ih]

/-- A byte outside the target of a copy stays. -/
theorem byte_copyBytes_other (dst src n k : Nat) (s : State) (hk : k < dst ∨ dst + n ≤ k) :
    (copyBytes dst src n s).byte k = s.byte k := by
  have hputs : ∀ (l m : List Host.Cell), (∀ c ∈ l, src ≤ c.1 ∧ c.1 < src + n) →
      smGet (memDefault k) (l.foldl (fun k c => smPut (memDefault (c.1 - src + dst)) (c.1 - src + dst) c.2 k) m) k
        = smGet (memDefault k) m k := by
    intro l
    induction l with
    | nil => exact fun _ _ => rfl
    | cons c l ih =>
      intro m hl
      have hc := hl c List.mem_cons_self
      exact (ih _ fun x hx => hl x (List.mem_cons_of_mem _ hx)).trans (smGet_smPut_other _ _ _ _ _ (by omega) _)
  unfold copyBytes State.byte
  simp only [State.onMem_mem]
  rw [hputs _ _ fun c hc => by simpa using (List.mem_filter.1 hc).2]
  exact smGet_filter_of_key _ (fun a => !(dst ≤ a ∧ a < dst + n)) k (by simp; omega) s.mem

/-! #### The state of the refutation -/

/-- The first row of SRAM 0 has yielded two corrected errors in this power cycle, the slate page of engine 0 is being copied, and
the repair table holds the entry of `overlongRepair`. -/
def copyingOverlong : State :=
  onEngine 0 (fun u => { u with copying := true }) (overlongRepair.onFab fun u => { u with rowErr := [(0, 2)] })

/-- A word of engine 0 is corrected and counted. -/
def correctedOverlong : State := Machine.countE 0 0x14 1 0xFFFF (copyingOverlong.incF (ENG_ECC.CORR 0) 1)

theorem correctedOverlong_keeps : Kept [] [0xB] [(ENG_ECC.CORR 0).addr] copyingOverlong correctedOverlong :=
  ((Kept.refl _ _ _ copyingOverlong).incF _ _ (.inr (by simp))).countE (by decide) (by simp) _ _ _

theorem correctedOverlong_replacesFirst : ReplacesFirst 0 correctedOverlong :=
  have h : ReplacesFirst 0 copyingOverlong := ⟨rfl, by decide⟩
  h.congr (congrArg FabU.replacing (correctedOverlong_keeps.part .fab (by decide)))
    (congrArg FltU.wire (correctedOverlong_keeps.part .flt (by decide)))

/-- The third corrected error of the row in the power cycle, counted. -/
def thirdError : State := correctedOverlong.onFab fun u => { u with rowErr := smPut 0 0 3 u.rowErr }

theorem thirdError_replacesFirst : ReplacesFirst 0 thirdError := correctedOverlong_replacesFirst.onFab _ rfl

/-- The third corrected error of a row in a power cycle records a field repair (R579). -/
theorem rowFixed_of_third (inst row : Nat) (s : State) (h : smGet 0 s.fab.rowErr (inst % 1024 * 65536 + row % 65536) = 2) :
    rowFixed inst row s = fieldRepair (inst % 1024) (row % 65536)
      (s.onFab fun u => { u with rowErr := smPut 0 (inst % 1024 * 65536 + row % 65536) 3 u.rowErr }) := by
  simp only [rowFixed, h]
  exact if_pos (by decide)

theorem engFixed_copyingOverlong : engFixed 0 0xFFFF ⟨0, 0⟩ copyingOverlong = fieldRepair 0 0 thirdError := by
  have herr : correctedOverlong.fab.rowErr = [(0, 2)] := congrArg FabU.rowErr (correctedOverlong_keeps.part .fab (by decide))
  exact rowFixed_of_third 0 0 correctedOverlong (by rw [herr]; rfl)

/-- The repair table runs past the end of the eMRAM. -/
theorem byte_engFixed_copyingOverlong : (engFixed 0 0xFFFF ⟨0, 0⟩ copyingOverlong).byte 0x9000000 = 1 := by
  have hfab : correctedOverlong.fab = copyingOverlong.fab := correctedOverlong_keeps.part .fab (by decide)
  have hrepair : thirdError.fab.repair = [List.replicate 49136 0 ++ [1, 1]] := congrArg FabU.repair hfab
  have hrepaired : thirdError.fab.repaired = [] := congrArg FabU.repaired hfab
  have hcopy : (markRepaired 0 0 thirdError).flag REP_STAT.COPY = false :=
    correctedOverlong_keeps.flag REP_STAT.COPY (by decide) (by decide)
  obtain ⟨x, hx⟩ := fieldRepair_mem 0 0 thirdError (by rw [hrepaired]; rfl) (by rw [hrepair, List.length_singleton]; decide)
  have hoff : 0x1000000 = repCopy (!(markRepaired 0 0 thirdError).flag REP_STAT.COPY) + 4 * (16 + 49136) := by
    rw [hcopy]
    rfl
  obtain ⟨z, hz⟩ : ∃ z, z = List.replicate 49136 (0 : Word) := ⟨_, rfl⟩
  rw [← hz] at hrepair
  have hlen : z.length = 49136 := by rw [hz, List.length_replicate]
  have hpast : (writeRepair (thirdError.fab.repair ++ [x]) (markRepaired 0 0 thirdError)).byte (mramBase + 0x1000000) = 1 :=
    writeRepair_byte _ z x 1 1 0x1000000 0 _ (by simp [hrepair]) (by rw [hlen])
      (by rw [hlen]; exact hoff) (thirdError_replacesFirst.markRepaired 0 0) (by decide)
  have haddr : 0x9000000 = mramBase + 0x1000000 := by rw [mramBase]
  rw [engFixed_copyingOverlong, haddr, State.byte, hx]
  exact hpast

/-- The end of a cycle leaves memory. -/
theorem byte_settle (s : State) (k : Nat) (h : ∀ m ∈ s.flt.wire, m.src < 256) : (settle s).byte k = s.byte k := by
  have hm : (settle s).mem = s.mem := ((Kept.refl acceptParts acceptPages [] s).settle h).part .mem (by decide)
  rw [State.byte, hm, State.byte]

/-- The live page of engine `e` has been copied to its slate page (R108). -/
def slateCopied (e : Nat) (live : Bool) (s : State) : State :=
  (onEngine e (fun u => { u with copying := false }) (copyBytes (pageBase e !live) (pageBase e live) 0x10000 s)).setF
    (ENG_STAT.SLATE_READY e) 1

theorem slateCopied_flt (e : Nat) (live : Bool) (s : State) : (slateCopied e live s).flt = s.flt := by
  simp only [slateCopied, State.setF, State.setReg, State.onRegs_flt, onEngine, State.onEng_flt, copyBytes, State.onMem_flt]

/-- A byte outside the slate page stays. -/
theorem byte_slateCopied_other (e k : Nat) (live : Bool) (s : State) 
    (hk : k < pageBase e (!live) ∨ pageBase e (!live) + 0x10000 ≤ k) :
    (slateCopied e live s).byte k = s.byte k := by
  rw [← byte_copyBytes_other _ (pageBase e live) _ _ s hk, State.byte, slateCopied, State.setF_mem, onEngine, State.onEng_mem, State.byte]

theorem exec_engineSlateCopyDone (e : Nat) (corr : List SramRow) (s : State) (h : e < 18 ∧ (s.engine e).copying = true) :
    exec (.engineSlateCopyDone ⟨e, corr⟩) s = .next (settle (slateCopied e (s.livePage e)
      (corr.foldl (fun s w => engFixed e 0xFFFF w s) s))) :=
  congrArg finish (if_pos h)

/-- Refutes O40: the copy of an engine's page corrects a word, whose row yields its third corrected error and is entered in the repair table
(R579). The clause says that no byte behind the eMRAM changes, and no premise says that the entries of the table have the four words of
R608: that of `overlongRepair` is so long that its last two words land at address 0x900_0000. -/
theorem not_takeStages : ¬ Obligations.TakeStages := by
  unfold Obligations.TakeStages
  rintro ⟨-, -, -, hcopy, -⟩
  have hquiet : Quiet copyingOverlong := ⟨rfl, rfl⟩
  have hlive : copyingOverlong.livePage 0 = false := by decide
  obtain ⟨t, ht, -, -, hbytes, -⟩ := hcopy 0 [⟨0, 0⟩] false (pageBase 0 false) copyingOverlong hquiet (by decide) rfl hlive.symm
    le_rfl (Nat.lt_add_of_pos_right (by decide))
  rw [exec_engineSlateCopyDone 0 _ _ ⟨by decide, rfl⟩, hlive] at ht
  have hsettled : t = settle (slateCopied 0 false (engFixed 0 0xFFFF ⟨0, 0⟩ copyingOverlong)) := (Host.Outcome.next.inj ht).symm
  have hwire : ∀ m ∈ (slateCopied 0 false (engFixed 0 0xFFFF ⟨0, 0⟩ copyingOverlong)).flt.wire, m.src < 256 := by
    rw [slateCopied_flt, engFixed_copyingOverlong]
    exact (thirdError_replacesFirst.fieldRepair 0 0).2
  have hbyte : t.byte 0x9000000 = 1 := by
    have hpage : pageBase 0 (!false) + 0x10000 ≤ 0x9000000 := by decide
    rw [hsettled, byte_settle _ _ hwire, byte_slateCopied_other 0 _ false _ (.inr hpage), byte_engFixed_copyingOverlong]
  have hkept := hbytes 0x9000000 (.inr (by decide)) (.inr (.inl le_rfl))
  rw [hbyte] at hkept
  have hzero : copyingOverlong.byte 0x9000000 = 0 := rfl
  rw [hzero] at hkept
  exact absurd hkept (by decide)

end Sys2Proof
end

section
/-! ### A corrected word in an instruction's fetch ends MAINTENANCE (O32) -/

namespace Sys2Proof

open Machine

/-- MAINTENANCE with a tick, MRAM_WORN configured to ask for SAFE. Engine 0 runs task 0, whose next instruction is an ACLR, and engine 1 is
halted in a task. The first row of SRAM 0 has yielded two corrected errors in this power cycle, and the row of the eMRAM in which
the repair table is written next has one write to go to its wear limit, with no spare row left. -/
def maintenanceOnWornRow : State :=
  (onEngine 1 (fun u => { u with haltedRun := true })
    (((((((State.reset.setF SYS_MODE.MODE 10).setF SYS_MODE.TICK 1).setF (FLT_CFG.REACT 0x55) 2).setF MRAM_STAT.SPARES 0).setF
      (ENG_STAT.STATE 0) 1).setF (ENG_STAT.STATE 1) 2).setWord (engWin 0 + 4) (wd (0x05 * 2 ^ 26)))).onFab fun u =>
    { u with rowErr := [(0, 2)], wear := [(4048, 122070 * 65536 - 1)] }

/-- Is engine `e` halted in a task in the outcome's next state? -/
def haltedRunAfter (e : Nat) (o : Host.Outcome State Fault Refusal) : Bool :=
  match o with
  | .next t => (t.engine e).haltedRun
  | _ => false

set_option maxRecDepth 100000 in
/-- The ACLR is legal, and a word that it fetches is corrected. -/
theorem runs_aclr : Runs opAclr 0 0 0 (.corrected [⟨0, 0⟩]) maintenanceOnWornRow := by decide

set_option maxRecDepth 100000 in
/-- The third corrected error of the row is entered in the repair table (R579), which wears a row of the eMRAM out (R607). The message asks for
SAFE, and the halt of engine 1 ends with MAINTENANCE (R147). -/
theorem haltedRunAfter_aclr : haltedRunAfter 1 (exec (.insAclr 0 (.corrected [⟨0, 0⟩])) maintenanceOnWornRow) = false := by decide

/-- Refutes O32: the frame of an instruction says that it leaves every other engine, but a word that its fetch corrects can lead to a fault
message of the same step whose reaction, SAFE, ends MAINTENANCE (R660) and with it the halt of the other engines. -/
theorem not_engineAccumulators : ¬ Obligations.EngineAccumulators := by
  unfold Obligations.EngineAccumulators
  rintro ⟨-, -, -, -, haclr, -⟩
  obtain ⟨t, ht, -, -, -, hframe⟩ := haclr 0 0 0 (.corrected [⟨0, 0⟩]) maintenanceOnWornRow runs_aclr
  have hhalted : (t.engine 1).haltedRun = true := congrArg EngU.haltedRun (hframe.engines 1 (by decide))
  have hresumed := haltedRunAfter_aclr
  rw [ht] at hresumed
  exact absurd (hhalted.symm.trans hresumed) (by decide)

end Sys2Proof
end

section
/-! ### A single step on a register map out of order (O24) -/

namespace Sys2Proof

open Machine

/-! #### The order of a register map -/

/-- Behind an entry with one of the keys `ks` stands a larger key. -/
def RisesAt (ks : List Nat) (m : List (Nat × Word)) : Prop := m.IsChain fun c d => c.1 ∈ ks → c.1 < d.1

namespace RisesAt

variable {ks : List Nat} {k : Nat}

theorem cons_iff {c d : Nat × Word} {t : List (Nat × Word)} :
    RisesAt ks (c :: d :: t) ↔ (c.1 ∈ ks → c.1 < d.1) ∧ RisesAt ks (d :: t) := List.isChain_cons_cons

theorem mono {ks' : List Nat} (hks : ks' ⊆ ks) {m : List (Nat × Word)} (h : RisesAt ks m) : RisesAt ks' m :=
  List.IsChain.imp (fun _ _ hcd hm => hcd (hks hm)) h

/-- A key that the map does not hold. -/
theorem cons_key {m : List (Nat × Word)} (h : RisesAt ks m) (hk : ∀ c ∈ m, c.1 ≠ k) : RisesAt (k :: ks) m := by
  induction m with
  | nil => exact .nil
  | cons c t ih =>
    cases t with
    | nil => exact .singleton c
    | cons d t =>
      obtain ⟨hcd, ht⟩ := cons_iff.1 h
      refine cons_iff.2 ⟨fun hm => hcd ((List.mem_cons.1 hm).resolve_left (hk c List.mem_cons_self)), ?_⟩
      exact ih ht fun x hx => hk x (List.mem_cons_of_mem _ hx)

/-- An entry stands before the first larger key, behind a smaller one. -/
theorem cons_smIns (v : Word) {m : List (Nat × Word)} : ∀ {c : Nat × Word}, RisesAt ks (c :: m) → c.1 < k → (∀ d ∈ m, d.1 ≠ k) →
    RisesAt (k :: ks) (c :: Machine.smIns k v m) := by
  induction m with
  | nil => exact fun _ hck _ => cons_iff.2 ⟨fun _ => hck, .singleton _⟩
  | cons d t ih =>
    intro c h hck hk
    obtain ⟨hcd, ht⟩ := cons_iff.1 h
    unfold Machine.smIns
    split
    · next hlt => exact cons_iff.2 ⟨fun _ => hck, cons_iff.2 ⟨fun _ => hlt, ht.cons_key hk⟩⟩
    · next hge =>
      have hdk : d.1 < k := lt_of_le_of_ne (not_lt.1 hge) (hk d List.mem_cons_self)
      refine cons_iff.2 ⟨fun hm => hcd ((List.mem_cons.1 hm).resolve_left hck.ne), ?_⟩
      exact ih ht hdk fun x hx => hk x (List.mem_cons_of_mem _ hx)

theorem smIns (v : Word) {m : List (Nat × Word)} (h : RisesAt ks m) (hk : ∀ c ∈ m, c.1 ≠ k) :
    RisesAt (k :: ks) (Machine.smIns k v m) := by
  cases m with
  | nil => exact .singleton _
  | cons c t =>
    unfold Machine.smIns
    split
    · next hlt => exact cons_iff.2 ⟨fun _ => hlt, h.cons_key hk⟩
    · next hge =>
      exact h.cons_smIns v (lt_of_le_of_ne (not_lt.1 hge) (hk c List.mem_cons_self)) fun x hx => hk x (List.mem_cons_of_mem _ hx)

/-- Entries of a key are taken out, behind which the map rises, or which is below the keys at which it does. -/
theorem cons_filter {m : List (Nat × Word)} (hks : k ∈ ks ∨ ∀ i ∈ ks, k ≤ i) : ∀ {c : Nat × Word}, RisesAt ks (c :: m) →
    RisesAt ks (c :: m.filter fun d => d.1 != k) := by
  induction m with
  | nil => exact fun h => h
  | cons d t ih =>
    intro c h
    obtain ⟨hcd, ht⟩ := cons_iff.1 h
    by_cases hd : d.1 = k
    · rw [List.filter_cons_of_neg (by simp [hd])]
      refine ih ?_
      cases t with
      | nil => exact .singleton c
      | cons x t =>
        obtain ⟨hdx, hx⟩ := cons_iff.1 ht
        refine cons_iff.2 ⟨fun hc => ?_, hx⟩
        rcases hks with hks | hks
        · exact (hcd hc).trans (hdx (hd ▸ hks))
        · exact absurd (hcd hc) (not_lt.2 (hd ▸ hks c.1 hc))
    · rw [List.filter_cons_of_pos (by simp [hd])]
      exact cons_iff.2 ⟨hcd, ih ht⟩

theorem filter {m : List (Nat × Word)} (h : RisesAt ks m) (hks : k ∈ ks ∨ ∀ i ∈ ks, k ≤ i) :
    RisesAt ks (m.filter fun d => d.1 != k) := by
  induction m with
  | nil => exact h
  | cons c t ih =>
    by_cases hc : c.1 = k
    · rw [List.filter_cons_of_neg (by simp [hc])]
      exact ih (List.IsChain.tail h)
    · rw [List.filter_cons_of_pos (by simp [hc])]
      exact h.cons_filter hks

/-- A written register, where it does not have its reset value. -/
theorem smPut {m : List (Nat × Word)} (h : RisesAt ks m) (hks : k ∈ ks ∨ ∀ i ∈ ks, k ≤ i) {d v : Word} (hv : v ≠ d) :
    RisesAt (k :: ks) (Machine.smPut d k v m) := by
  simp only [Machine.smPut, if_neg hv]
  exact (h.filter hks).smIns v fun c hc => by simpa using (List.mem_filter.1 hc).2

end RisesAt

/-- Two states with the same parts beside the registers. -/
theorem eq_onRegs_of_kept {as : List Nat} {pg : List Nat} {s u : State} (h : Kept [] pg as s u) : u = s.onRegs fun _ => u.regs := by
  have hp := fun p => h.part p (by simp)
  obtain ⟨⟩ := s
  obtain ⟨⟩ := u
  simp only [State.onRegs, State.mk.injEq, true_and]
  exact ⟨hp .mem, hp .stage, hp .shot, hp .time, hp .eng, hp .cs, hp .spl, hp .take, hp .sp, hp .net, hp .dl, hp .clk, hp .ptp, hp .fab,
    hp .flt, hp .pcn, hp .cmd, hp .fuse, hp .boot, hp .sti, hp .rl, hp .pin, hp .outs, hp .free, hp .pending⟩

/-- No counter of engine `e` but the first counts event `evt`: it advances (R691). -/
theorem countE_first {e evt k task : Nat} {s : State} (hk : k ≠ 0) (hfreeze : s.flag PCN_CTRL.FREEZE = false)
    (hevt : s.getF (PCN_ESEL.EVT e 0) = evt) (hchain : s.flag (PCN_ESEL.CHAIN e 0) = false)
    (htfilt : s.flag (PCN_ESEL.TFILT e 0) = false) (hothers : ∀ j, j < 7 → s.getF (PCN_ESEL.EVT e (j + 1)) ≠ evt)
    (haddr : ∀ j, j < 7 → (PCN_ESEL.EVT e (j + 1)).addr ≠ (PCN_ECNT.COUNT e 0).addr)
    (hwrap : s.getF (PCN_ECNT.COUNT e 0) + k < 2 ^ 32) :
    countE e evt k task s = s.setF (PCN_ECNT.COUNT e 0) (s.getF (PCN_ECNT.COUNT e 0) + k) := by
  have hstay : ∀ (l : List Nat) (t : State), (∀ j ∈ l, t.getF (PCN_ESEL.EVT e j) ≠ evt) → l.foldl (fun s j =>
      if s.getF (PCN_ESEL.EVT e j) = evt ∧ !s.flag (PCN_ESEL.CHAIN e j)
          ∧ (!s.flag (PCN_ESEL.TFILT e j) ∨ s.getF (PCN_ESEL.TASK e j) = task)
      then countChainE 8 e j k s else s) t = t := by
    intro l
    induction l with
    | nil => exact fun _ _ => rfl
    | cons j l ih =>
      intro t ht
      rw [List.foldl_cons, if_neg fun h => ht j List.mem_cons_self h.1]
      exact ih t fun i hi => ht i (List.mem_cons_of_mem _ hi)
  unfold countE
  rw [if_neg (by simp [hfreeze, hk]), show List.range 8 = 0 :: (List.range 7).map (· + 1) from rfl, List.foldl_cons,
    if_pos ⟨hevt, by simp [hchain], .inl (by simp [htfilt])⟩, countChainE]
  rw [if_neg fun h => absurd h.1 (not_le.2 hwrap)]
  refine hstay _ _ fun j hj => ?_
  obtain ⟨i, hi, rfl⟩ := List.mem_map.1 hj
  have hi7 := List.mem_range.1 hi
  rw [State.getF_setF_other _ _ _ _ (haddr i hi7)]
  exact hothers i hi7

theorem countE_zero (e evt task : Nat) (s : State) : countE e evt 0 task s = s := by
  unfold countE
  exact if_pos (.inr rfl)

/-- Where no instruction is tagged, the retirement of an instruction without stall charges its cycle and counts it (R689, R228). -/
theorem retire_noStall {e n pc : Nat} {exc : Bool} {s : State} (htags : tags e s = false) :
    retire e n pc exc 0 0 0 0 s = countE e 3 1 (n % 4096) (chargeTask n 1 s) := by
  have htag : ∀ r, tagCount e r (chargeTask n 1 s) = chargeTask n 1 s := fun r =>
    if_pos (by rw [Bool.not_eq_true']; exact htags)
  simp only [retire, Nat.add_zero, countE_zero, htag]

/-- The changes of an engine's work that counts nothing: the engines and the Call Sheet. -/
theorem chargeTask_pushHist (e n k : Nat) (p : List Produced) (b : Bank) (sts : List StoreOp) (s : State) :
    ∃ f g, chargeTask n k (pushHist e p (onBank e (fun _ => b) (pushStores e sts s))) = (s.onEng f).onCs g := by
  refine ⟨fun l => (pushHist e p (onBank e (fun _ => b) (pushStores e sts (s.onEng fun _ => l)))).eng, fun u =>
    (chargeTask n k (pushHist e p (onBank e (fun _ => b) (pushStores e sts (s.onCs fun _ => u))))).cs, ?_⟩
  simp [chargeTask, addLoad, onTask, pushHist, onBank, pushStores, onEngine, State.onEng, State.onCs]

/-- A NOP where nothing of the store pipeline waits and no instruction is tagged: it is counted, and beside that the engine and its task's
charge change alone. -/
theorem runShort_nop {e n : Nat} {s : State} (hissue : issues 0 e s = true) (hrun : runningOn e s = some n) (hword : engWord e s = 0)
    (hbufX : (s.engine e).bufX = none) (hbufY : (s.engine e).bufY = none) (hst : (s.engine e).st3 = [])
    (hloops : (s.bank e).loops = []) (hpc : (s.bank e).pc = 0) (htags : tags e s = false) :
    ∃ b, runShort opNop e .clean s = countE e 3 1 (n % 4096)
      (chargeTask n 1 (pushHist e [] (onBank e (fun _ => b) (pushStores e [] s)))) := by
  unfold runShort
  rw [if_neg (by simp [show opNop.opc = 0 from rfl, hissue]), hrun]
  have hmove : moveOf (insX 0) = ⟨0, 0, 0, 0⟩ ∧ moveOf (insY 0) = ⟨0, 0, 0, 0⟩ := by decide
  have hlegal : moveLegal (insX 0) = true ∧ moveLegal (insY 0) = true ∧ insOpnd 0 = 0 := by decide
  have hpop : popcount 0 = 0 := by decide
  simp [hword, hmove, hlegal, eccNote, fetchBad, opNop, Move.used, movesLegal, runsOut, hpc, hloops, loopEnd, moveUses, stallOf,
    idleMem, bufStall, memBefore, bufFull, storesAtWb, hbufX, hbufY, hst, storeCells, memAfter, b2n, moveProds]
  rw [retire_noStall (by exact htags)]
  simp [hpop, countE_zero]
  exact ⟨_, rfl⟩

/-- The state of the refutation. -/
def stepOutOfOrder : State :=
  { State.reset with
    regs := [(0xF0000, 0x100), (0xF0004, 0x82), (4, 10), (0xB1020, 3)]
    eng := { EngU.reset with haltedRun := true } :: List.replicate 17 EngU.reset }


/-- A written field in two states of the same registers. -/
theorem Kept.setF_setF {s u : State} (h : Kept [] [] [] s u) (f : Fld) (v : Nat) : Kept [] [] [] (s.setF f v) (u.setF f v) where
  part p hp := by
    have := h.part p hp
    cases p <;> exact this
  reg a hg ha hm := by
    by_cases hfa : f.addr = a
    · subst hfa
      rw [State.setF, State.setF, State.reg_setReg_same, State.reg_setReg_same, h.reg _ hg ha hm]
    · rw [State.reg_setF_other _ _ _ _ (Ne.symm hfa), State.reg_setF_other _ _ _ _ (Ne.symm hfa), h.reg _ hg ha hm]

theorem regs_setF (s : State) (f : Fld) (v : Nat) :
    (s.setF f v).regs = Machine.smPut (regReset f.addr) f.addr (fldPut (s.reg f.addr) f.lsb f.width v) s.regs := rfl

/-- The state in which the single step runs its instruction. -/
def stepRuns : State := stepOutOfOrder.setF (ENG_STAT.STATE 0) 1

set_option maxRecDepth 100000 in
theorem runAny_stepRuns {v : State} (hv : Kept [] [] [] stepRuns v) :
    ∃ f g, runAny 0 .clean v = ((v.onEng f).onCs g).setF (PCN_ECNT.COUNT 0 0) 1 := by
  have heng : v.eng = stepRuns.eng := hv.part .eng (by simp)
  have hmem : v.mem = stepRuns.mem := hv.part .mem (by simp)
  have hcs : v.cs = stepRuns.cs := hv.part .cs (by simp)
  have hfld : ∀ f : Fld, v.getF f = stepRuns.getF f := getF_of_reg_eq fun a => hv.reg a nofun nofun nofun
  have hbank : v.bank 0 = stepRuns.bank 0 := by 
    simp only [State.bank, State.flag, State.engine, hfld, heng]
    rfl
  have hword : engWord 0 v = 0 := by
    have : engWord 0 v = engWord 0 stepRuns := by
      simp only [engWord, State.pcOf, hbank, State.dword, State.word, State.byte, hmem]
    rw [this]
    decide
  have hstate : v.engState 0 = 1 := (hfld _).trans (by decide)
  have hrun : runningOn 0 v = some 0 := by
    have : v.getF (ENG_STAT.TASK 0) = 0 := (hfld _).trans (by decide)
    have hold : hasOld 0 v = false := by rw [hasOld, hcs]; decide
    simp [runningOn, hstate, this, hold]
  have hissue : issues 0 0 v = true := by
    simp [issues, hstate, hrun, hword]
    decide
  obtain ⟨b, hb⟩ := runShort_nop (e := 0) (n := 0) (s := v) hissue hrun hword (by rw [State.engine, heng]; decide)
    (by rw [State.engine, heng]; decide) (by rw [State.engine, heng]; decide) (by rw [hbank]; decide) (by rw [hbank]; decide)
    (by rw [tags, State.flag, hfld, hfld]; decide)
  obtain ⟨f, g, hfg⟩ := chargeTask_pushHist 0 0 1 [] b [] v
  refine ⟨f, g, ?_⟩
  have hrunAny : runAny 0 .clean v = runShort opNop 0 .clean v := by
    rw [runAny, hword]
    rfl
  rw [hrunAny, hb, hfg]
  have hw : ∀ f' : Fld, ((v.onEng f).onCs g).getF f' = stepRuns.getF f' := hfld
  have hzero : stepRuns.getF (PCN_ECNT.COUNT 0 0) = 0 := by decide
  rw [countE_first (by decide) (by rw [State.flag, hw]; decide) (by rw [hw]; decide) (by rw [State.flag, hw]; decide)
    (by rw [State.flag, hw]; decide) (by simp only [hw]; decide) (by decide) (by rw [hw]; decide), hw, hzero]

/-- A single step of that state's NOP leaves a register map that rises behind the counter's register. -/
theorem risesAt_stepEngine {u : State} (hu : Kept [] [] [] stepOutOfOrder u) :
    Quiet (stepEngine 0 u) ∧ RisesAt [0xB1000] (stepEngine 0 u).regs := by
  have hv : Kept [] [] [] stepRuns (u.setF (ENG_STAT.STATE 0) 1) := hu.setF_setF _ _
  obtain ⟨f, g, hfg⟩ := runAny_stepRuns hv
  have hreg : ∀ a, u.reg a = stepOutOfOrder.reg a := fun a => hu.reg a (by simp) (by simp) (by simp)
  have hregv : ∀ a, (u.setF (ENG_STAT.STATE 0) 1).reg a = stepRuns.reg a := fun a => hv.reg a (by simp) (by simp) (by simp)
  have hhalted : u.engState 0 = 2 ∧ (u.engine 0).haltedRun := by
    rw [State.engState, State.getF, hreg, State.engine, show u.eng = stepOutOfOrder.eng from hu.part .eng (by simp)]
    decide
  rw [stepEngine, if_pos hhalted, hfg]
  refine ⟨hu.quiet (by simp) ⟨rfl, rfl⟩, ?_⟩
  have hstops : RisesAt [0xF0004] (u.setF (ENG_STAT.STATE 0) 1).regs := by
    refine RisesAt.smPut (ks := []) (List.isChain_iff_getElem.2 fun _ _ h => nomatch h) (.inr nofun) ?_
    rw [hreg]
    decide
  have hcounts : RisesAt [0xB1000, 0xF0004] ((((u.setF (ENG_STAT.STATE 0) 1).onEng f).onCs g).setF (PCN_ECNT.COUNT 0 0) 1).regs := by
    refine hstops.smPut (.inr (by decide)) ?_
    rw [show (((u.setF (ENG_STAT.STATE 0) 1).onEng f).onCs g).reg _ = _ from hregv _]
    decide
  refine RisesAt.mono (by simp) (RisesAt.smPut (k := 0xF0004) hcounts (.inl (by simp)) ?_)
  rw [show (onEngine 0 _ _).reg _ = State.reg (State.setF _ _ _) _ from rfl, State.reg_setF_other _ _ _ _ (by decide),
    show (((u.setF (ENG_STAT.STATE 0) 1).onEng f).onCs g).reg _ = _ from hregv _]
  decide

/-- The register map of a next state. -/
def outcomeRegs (o : Host.Outcome State Fault Refusal) : List (Nat × Word) :=
  match o with
  | .next t => t.regs
  | _ => []

set_option maxRecDepth 100000 in
theorem outcomeRegs_stepOutOfOrder : outcomeRegs (exec (.engStep 0) stepOutOfOrder)
    = [(0xB1000, 1), (4, 10), (0xB1020, 3), (0xF0000, 0x100), (0xF0004, 0x82)] := by decide

set_option maxRecDepth 100000 in
theorem stepOutOfOrder_meets_premises : stepOutOfOrder.hostOpen = true ∧ Quiet stepOutOfOrder ∧ stepOutOfOrder.mode = 10
    ∧ stepOutOfOrder.flag (ENG_CTRL.HALT 0) = true ∧ stepOutOfOrder.engState 0 = 2 ∧ (stepOutOfOrder.engine 0).haltedRun = true := by
  decide

/-- Refutes O24: no premise says that the register map is in its canonical form, and where it is not, the step and the write of
`ENG_CTRL` that asks for it leave the entries of the map in another order than the step alone. Clauses 1 to 3 are not at fault. -/
theorem not_engineControlByTheHost : ¬ Obligations.EngineControlByTheHost := by
  intro h
  obtain ⟨hopen, hquiet, hmode, hhalt, hstate, hrun⟩ := stepOutOfOrder_meets_premises
  obtain ⟨t, ht, u, hu, htu, -⟩ := h.2.2.2 0 stepOutOfOrder hopen hquiet (by decide) (.inl hmode) hhalt hstate hrun
  obtain ⟨hq, hrises⟩ := risesAt_stepEngine hu
  rw [settle_quiet _ hq] at htu
  have hregs := outcomeRegs_stepOutOfOrder
  rw [ht, htu, outcomeRegs] at hregs
  rw [hregs] at hrises
  exact absurd ((RisesAt.cons_iff.1 hrises).1 (by decide)) (by decide)

end Sys2Proof
end

section
/-! ### TAKE, TAKE_CANCEL and RECAST (O13) -/

namespace Sys2Proof

open Machine

/-! #### A packet's body, whatever it changes -/

theorem State.onCmd_onCmd (s : State) (f g : CmdU → CmdU) : (s.onCmd f).onCmd g = s.onCmd (g ∘ f) := rfl

theorem bind_eq_onCmd (w : Waiting) (s : State) : ∃ f, Machine.bind w s = s.onCmd f := by
  unfold Machine.bind
  by_cases htr : w.hdr.tr ≠ 1
  · exact ⟨id, by rw [if_pos htr]; rfl⟩
  rw [if_neg htr]
  by_cases hsrc : s.cmd.mgmtSrc.isNone
  · exact ⟨_, if_pos hsrc⟩
  rw [if_neg hsrc]
  by_cases hforeign : foreign w s
  · exact ⟨_, by rw [if_pos hforeign, onSess, State.onCmd_onCmd]⟩
  · exact ⟨id, by rw [if_neg hforeign]; rfl⟩

/-- The state in which a packet's body is executed differs in the command interface alone, its register map as it stands included. -/
theorem begun_eq_onCmd (w : Waiting) (s : State) : ∃ f, begun w s = s.onCmd f := by
  obtain ⟨f, hf⟩ := bind_eq_onCmd w (takeTurn w s)
  exact ⟨_, by rw [begun, hf, takeTurn, State.onCmd_onCmd, setE, onSess, State.onCmd_onCmd]⟩

/-- A ready packet whose body is executed to `x`, with what it leaves of the command interface and of the pairing named. -/
theorem accepted_of_changes {ps : List Part} {pg as : List Nat} {op : Nat} {h : CmdHdr} {p : List Word} {s : State} (hr : Ready op h p s)
    (h1 : op ≠ 1) (hc : h.chk = false) (x : State) (pay : List Word)
    (hb : opBody (packetOf op h p [] s) false (begun (packetOf op h p [] s) s) = doneWith pay x)
    (hk : Kept ps pg as (begun (packetOf op h p [] s) s) x) (hflt : Part.flt ∉ ps)
    (he : ∀ tr, (x.sess tr).e = ((begun (packetOf op h p [] s) s).sess tr).e)
    (hsti : STI_STAT.ROLE.addr / 65536 ∉ pg ∧ STI_STAT.ROLE.addr ∉ as) :
    ∃ t, arrived op h p s = .next t ∧ Accepted op h pay t ∧ Kept [.cmd, .outs] [0xD] [] x t
      ∧ Kept (.cmd :: .outs :: ps) (0xD :: pg) as s t := by
  have hx : Kept (.cmd :: ps) pg as s x :=
    ((begun_kept _ s).mono (by simp) (by simp) (by simp)).trans (hk.mono (by simp) (by simp) (by simp))
  obtain ⟨-, -, -, -, -, -, -, -, hlink, hquiet⟩ := id hr
  have hl : x.pairedHolder = true → x.flag STI_STAT.LINK = true := by
    rw [State.pairedHolder, State.role, hx.getF STI_STAT.ROLE hsti.1 hsti.2, hx.flag STI_STAT.PAIRED hsti.1 hsti.2,
      hx.flag STI_STAT.LINK hsti.1 hsti.2]
    exact hlink
  obtain ⟨t, ht, ha, hkt⟩ := arrived_accepted hr h1 hc x pay hb ((he h.tr).trans (begun_e (packetOf op h p [] s) s)) hl
    (hx.quiet (by simp [hflt]) hquiet)
  refine ⟨t, ht, ha, hkt, (hx.mono ?_ (by simp) (by simp)).trans (hkt.mono (by simp) (by simp) (by simp))⟩
  exact List.cons_subset_cons _ (List.subset_cons_self _ _)

/-! #### Notifications leave the expected numbers -/

theorem setIrq_cmdSess (n : Nat) (s : State) : (setIrq n s).cmd.sess = s.cmd.sess := by
  unfold setIrq sendMsix
  dsimp only
  split
  · split <;> rfl
  · rfl

theorem applyRingLen_cmdSess (k : Nat) (ptr : Fld) (s : State) : (applyRingLen k ptr s).cmd.sess = s.cmd.sess := by
  unfold applyRingLen
  split <;> rfl

theorem ringPlace_cmdSess (k slot : Nat) (ws : List Word) (s : State) : (ringPlace k slot ws s).cmd.sess = s.cmd.sess := by
  have hite : ∀ (c : Prop) [Decidable c] (ptr : Fld) (t : State), (writeBack (if c then applyRingLen k ptr t else t)).cmd.sess = t.cmd.sess := by
    intro c _ ptr t
    split
    · exact applyRingLen_cmdSess _ _ _
    · rfl
  unfold ringPlace
  exact hite _ _ _

theorem mgmtOut_cmdSess (o : Output) (n : Nat) (s : State) : (mgmtOut o n s).cmd.sess = s.cmd.sess := by
  unfold mgmtOut
  split <;> rfl

theorem takeDseq_e (tr k : Nat) (s : State) : ((takeDseq tr s).sess k).e = (s.sess k).e := by
  unfold takeDseq
  by_cases hk : k = tr
  · rw [hk, sess_onSess_same]
  · rw [sess_onSess_other _ _ _ _ hk]

theorem sendNotice_e (tr code : Nat) (p : List Word) (k : Nat) (s : State) : ((sendNotice tr code p s).sess k).e = (s.sess k).e := by
  have hd := takeDseq_e tr k s
  unfold sendNotice
  dsimp only
  have hsess : ∀ t : State, t.cmd.sess = (takeDseq tr s).cmd.sess → (t.sess k).e = (s.sess k).e := fun t ht => by
    rw [State.sess, ht]
    exact hd
  have hinc : ∀ f, ((takeDseq tr s).incF f 1).cmd.sess = (takeDseq tr s).cmd.sess := fun _ => rfl
  have hout : ∀ (g : CmdU → CmdU) o, (∀ u, (g u).sess = u.sess) → (((takeDseq tr s).onCmd g).out o).cmd.sess = (takeDseq tr s).cmd.sess :=
    fun g o hg => hg _
  have houtOnly : ∀ o, ((takeDseq tr s).out o).cmd.sess = (takeDseq tr s).cmd.sess := fun _ => rfl
  generalize takeDseq tr s = v at *
  split
  · split
    · exact hd
    · split
      · exact hsess _ (hinc _)
      · exact hsess _ ((setIrq_cmdSess _ _).trans ((ringPlace_cmdSess _ _ _ _).trans (houtOnly _)))
  · split
    · exact hsess _ ((setIrq_cmdSess _ _).trans (mgmtOut_cmdSess _ _ _))
    · exact hd
  · split
    · exact hsess _ (hinc _)
    · exact hsess _ ((setIrq_cmdSess _ _).trans (hout _ _ fun _ => rfl))

theorem notify_e (code : Nat) (p : List Nat) (k : Nat) (s : State) : ((notify code p s).sess k).e = (s.sess k).e := by
  unfold notify
  refine foldl_keeps (fun s t : State => (t.sess k).e = (s.sess k).e) (fun _ => rfl) (fun _ _ _ h g => g.trans h) _ (fun t tr => ?_) _ _
  split
  · exact sendNotice_e _ _ _ _ _
  · rfl

/-- The opcodes from 0x100 to 0x3FF are those of the slate, the takes and the routing (R639). -/
theorem opBody_slate {w : Waiting} (gap : Bool) (b : State) (h1 : 0x100 ≤ w.op) (h2 : w.op / 256 < 4) :
    opBody w gap b = slateBody w gap b := by
  unfold opBody
  split
  case h_9 => exact if_pos h2
  all_goals omega

theorem opBody_take (h : CmdHdr) (p : List Word) (s b : State) : opBody (packetOf 0x200 h p [] s) false b = cmdTake h false p b := by
  rw [opBody_slate _ _ (by simp [packetOf]) (by simp [packetOf])]
  simp only [slateBody, packetOf]

theorem opBody_takeCancel (h : CmdHdr) (p : List Word) (s b : State) :
    opBody (packetOf 0x201 h p [] s) false b = cmdTakeCancel b := by
  rw [opBody_slate _ _ (by simp [packetOf]) (by simp [packetOf])]
  simp only [slateBody, packetOf]

theorem opBody_recast (h : CmdHdr) (p : List Word) (s b : State) : opBody (packetOf 0x202 h p [] s) false b = cmdRecast p b := by
  rw [opBody_slate _ _ (by simp [packetOf]) (by simp [packetOf])]
  simp only [slateBody, packetOf]

/-! #### TAKE -/

/-- A TAKE that passes its checks outside a ring becomes the pending take (R307, R309, R310). -/
theorem take_becomesPending (h : CmdHdr) (p : List Word) (s : State) (hr : Ready 0x200 h p s) (hc : h.chk = false)
    (hcheck : takeCheck true p s = 0) (hring : asksRing s = false) :
    ∃ t, exec (.take h p) s = .next t
      ∧ Accepted 0x200 h (takeWords (takeOf p ((takeShot p s).map Int.toNat)) s) t
      ∧ t.take = { s.take with pending := some (takeOf p ((takeShot p s).map Int.toNat)) }
      ∧ Kept [.cmd, .outs, .take] [0xD] [] s t := by
  obtain ⟨b, hbe⟩ : ∃ b, b = begun (packetOf 0x200 h p [] s) s := ⟨_, rfl⟩
  obtain ⟨f, hf⟩ : ∃ f, b = s.onCmd f := hbe ▸ begun_eq_onCmd _ s
  have hcheckB : takeCheck true p b = 0 := by rw [hf]; exact hcheck
  have hringB : asksRing b = false := by rw [hf]; exact hring
  have hshot : takeShot p b = takeShot p s := by rw [hf]; rfl
  have hb : cmdTake h false p b = doneWith (takeWords (takeOf p ((takeShot p s).map Int.toNat)) s)
      (b.onTake fun u => { u with pending := some (takeOf p ((takeShot p s).map Int.toNat)) }) := by
    simp only [cmdTake, hcheckB, hringB, hc, hshot]
    rw [hf]
    rfl
  obtain ⟨t, ht, hacc, hkx, hkt⟩ := accepted_of_body hr (by decide) hc _ _ (by rw [← hbe, opBody_take]; exact hb)
    (hbe ▸ (Kept.refl [.take] [] [] b).onTake _) (by decide) (by decide)
  refine ⟨t, ht, hacc, ?_, hkt⟩
  rw [← hbe, hf] at hkx
  exact hkx.part .take (by decide)

/-! #### TAKE_CANCEL -/

/-- A take that no votes decide is abandoned with its count and its notification (R311). -/
theorem abandonTake_unvoted {r : Nat} {k : Take} {s : State} (hp : s.take.pending = some k) (hv : s.take.voting = none) :
    ∃ g : TakeU → TakeU, (g s.take).pending = none ∧ abandonTake r s =
      notify 0x8004 [(s.getF SYS_TAKE_CNT.COUNT + 1) % 2 ^ 32, r] ((s.onTake g).incF SYS_TAKE_REFUSED.ABANDONED 1) := by
  unfold abandonTake
  rw [hp]
  simp only [hv]
  exact ⟨_, rfl, rfl⟩

theorem takeCancel_abandons (h : CmdHdr) (p : List Word) (k : Take) (s : State) (hr : Ready 0x201 h p s) (hc : h.chk = false)
    (hp : s.take.pending = some k) (hk : k.locked = false) (hring : s.getF RL_STAT.STATE ≠ 2)
    (hshot : (match k.sT with | some b => decide (s.shot + 1 < b) | none => true) = true) :
    ∃ t, exec (.takeCancel h p) s = .next t
      ∧ Accepted 0x201 h [] t
      ∧ t.take.pending = none
      ∧ t.getF SYS_TAKE_REFUSED.ABANDONED = min (2 ^ 16 - 1) (s.getF SYS_TAKE_REFUSED.ABANDONED + 1)
      ∧ t.cs = s.cs
      ∧ Kept [.cmd, .outs, .take] [0xD] [SYS_TAKE_REFUSED.ABANDONED.addr] s t := by
  obtain ⟨b, hbe⟩ : ∃ b, b = begun (packetOf 0x201 h p [] s) s := ⟨_, rfl⟩
  obtain ⟨f, hf⟩ : ∃ f, b = s.onCmd f := hbe ▸ begun_eq_onCmd _ s
  have hvoting : s.take.voting = none := by
    obtain ⟨⟨-, -, -, -, hbusy⟩, -⟩ := hr
    simp only [trBusy, Bool.or_eq_false_iff] at hbusy
    simpa using hbusy.1.1.1.1.2
  obtain ⟨g, hg, habandon⟩ := abandonTake_unvoted (r := 0) (k := k) (s := b) (by rw [hf]; exact hp) (by rw [hf]; exact hvoting)
  have hlate : (k.locked || (match k.sT with | some n => decide (n ≤ b.shot + 1) | none => false)) = false := by
    rw [hf, hk, Bool.false_or]
    cases hst : k.sT with
    | none => rfl
    | some n =>
      rw [hst] at hshot
      simp only [decide_eq_true_eq] at hshot
      exact decide_eq_false (not_le.2 hshot)
  have hb : cmdTakeCancel b = doneWith [] (abandonTake 0 b) := by
    have hpb : b.take.pending = some k := by rw [hf]; exact hp
    have hringB : b.getF RL_STAT.STATE ≠ 2 := by rw [hf]; exact hring
    simp only [cmdTakeCancel, hpb]
    rw [if_neg fun h => hringB h.1, if_neg (by rw [← Bool.not_eq_true] at hlate; exact hlate), if_neg hringB]
    rfl
  have hkb : Kept [.cmd, .outs, .take] [0xD] [SYS_TAKE_REFUSED.ABANDONED.addr] b (abandonTake 0 b) := by
    rw [habandon]
    exact (((Kept.refl _ _ _ b).onTake _).incF _ _).notify _ _
  obtain ⟨y, hy⟩ : ∃ y, y = (b.onTake g).incF SYS_TAKE_REFUSED.ABANDONED 1 := ⟨_, rfl⟩
  have hyx : Kept [.cmd, .outs] [0xD] [] y (abandonTake 0 b) := by
    rw [habandon, ← hy]
    exact (Kept.refl _ _ _ _).notify _ _
  have hbe' : ∀ tr, ((abandonTake 0 b).sess tr).e = (b.sess tr).e := fun tr => by
    rw [habandon, notify_e]
    rfl
  rw [hbe] at hb hkb hbe'
  rw [← opBody_takeCancel h p s] at hb
  obtain ⟨t, ht, hacc, hxt, hkt⟩ := accepted_of_changes hr (by decide) hc _ _ hb hkb (by decide) hbe' (by decide)
  rw [← hbe] at hxt
  have hyt := hyx.trans hxt
  refine ⟨t, ht, hacc, ?_, ?_, hkt.part .cs (by decide), hkt.mono (by simp) (by simp) (by simp)⟩
  · rw [show t.take = y.take from hyt.part .take (by decide), hy]
    exact hg
  · rw [hyt.getF _ (by decide) (by decide), hy, State.incF, State.getF_setF_same _ _ _ (by decide), hf]
    exact Nat.mod_eq_of_lt (lt_of_le_of_lt (min_le_left _ _) (by decide))

/-! #### RECAST -/

/-- Where no recast of the logical engine waits and no take is pending, a RECAST enters the slate (R155, R328). -/
theorem recast_entersSlate (h : CmdHdr) (p : List Word) (le src tgt : Nat) (s : State) (hr : Ready 0x202 h p s) (hc : h.chk = false)
    (hle : le = bits (nAt p 0) 0 4) (hsrc : servedBy le s = some src)
    (htgt : (if bits (nAt p 0) 8 5 = 0x1F then spareEngine s
      else if s.engState (bits (nAt p 0) 8 5) = 3 then some (bits (nAt p 0) 8 5) else none) = some tgt)
    (htgt18 : tgt < 18) (hfresh : (s.take.recasts.all fun r => r.logical ≠ le) = true) (hnone : s.take.pending = none) :
    ∃ t, exec (.recast h p) s = .next t
      ∧ Accepted 0x202 h [] t
      ∧ t.take = { s.take with recasts := s.take.recasts ++ [⟨le, src, tgt, false⟩] }
      ∧ t.engState tgt = 4
      ∧ Kept [.cmd, .outs, .take] [0xD] [(ENG_STAT.STATE tgt).addr] s t := by
  obtain ⟨b, hbe⟩ : ∃ b, b = begun (packetOf 0x202 h p [] s) s := ⟨_, rfl⟩
  obtain ⟨f, hf⟩ : ∃ f, b = s.onCmd f := hbe ▸ begun_eq_onCmd _ s
  have hkeep : (s.take.recasts.filter fun r => r.logical ≠ le) = s.take.recasts := List.filter_eq_self.2 (by simpa using hfresh)
  have hdrop : (s.take.recasts.filter fun r => r.logical = le) = [] := List.filter_eq_nil_iff.2 (by simpa using hfresh)
  have htarget : ¬(bits (nAt p 0) 8 5 ≠ 0x1F ∧ ¬(bits (nAt p 0) 8 5 < 18 ∧ b.engState (bits (nAt p 0) 8 5) = 3))
      ∧ (if bits (nAt p 0) 8 5 = 0x1F then spareEngine b else some (bits (nAt p 0) 8 5)) = some tgt := by
    have hstate : b.engState (bits (nAt p 0) 8 5) = s.engState (bits (nAt p 0) 8 5) := by rw [hf]; rfl
    have hspare : spareEngine b = spareEngine s := by rw [hf]; rfl
    by_cases hauto : bits (nAt p 0) 8 5 = 0x1F
    · rw [if_pos hauto] at htgt
      exact ⟨fun hn => hn.1 hauto, by rw [if_pos hauto, hspare, htgt]⟩
    · rw [if_neg hauto] at htgt
      obtain ⟨hthree, heq⟩ : s.engState (bits (nAt p 0) 8 5) = 3 ∧ bits (nAt p 0) 8 5 = tgt := by simpa using htgt
      exact ⟨fun hn => hn.2 ⟨heq ▸ htgt18, hstate.trans hthree⟩, by rw [if_neg hauto, heq]⟩
  have hb : cmdRecast p b = doneWith []
      (startRecast le src tgt false (b.onTake fun v => { v with recasts := v.recasts.filter fun r => r.logical ≠ le })) := by
    have hsrcB : servedBy le b = some src := by rw [hf]; exact hsrc
    have hdropB : (b.take.recasts.filter fun r => r.logical = le) = [] := by rw [hf]; exact hdrop
    have hunbroken : ∀ v, breaksTake b v = false := fun v => by
      rw [breaksTake, show b.take.pending = none by rw [hf]; exact hnone]
    simp only [cmdRecast, ← hle, hsrcB]
    rw [if_neg htarget.1, htarget.2]
    simp only [hdropB, List.foldl_nil, unlessBreaks, hunbroken]
    rfl
  have hkb : Kept [.take] [] [(ENG_STAT.STATE tgt).addr] b
      (startRecast le src tgt false (b.onTake fun v => { v with recasts := v.recasts.filter fun r => r.logical ≠ le })) := by
    unfold startRecast
    exact (((Kept.refl [.take] [] [(ENG_STAT.STATE tgt).addr] b).onTake _ (by decide)).setF _ _ (.inr List.mem_cons_self)).onTake _ (by decide)
  rw [hbe, ← opBody_recast h p s] at hb
  rw [hbe] at hkb
  obtain ⟨t, ht, hacc, hxt, hkt⟩ := accepted_of_changes hr (by decide) hc _ _ hb hkb (by decide) (fun _ => rfl)
    ⟨by decide, by interval_cases tgt <;> decide⟩
  rw [← hbe] at hxt
  refine ⟨t, ht, hacc, ?_, ?_, hkt⟩
  · rw [show t.take = _ from hxt.part .take (by decide), hf]
    show ({ s.take with recasts := (s.take.recasts.filter fun r => r.logical ≠ le) ++ [⟨le, src, tgt, false⟩] } : TakeU) = _
    rw [hkeep]
  · have hpage : (ENG_STAT.STATE tgt).addr / 65536 ∉ [0xD] ∧ (ENG_STAT.STATE tgt).addr ∉ mgmtTx := by interval_cases tgt <;> decide
    rw [State.engState, hxt.getF _ hpage.1 (by simp) hpage.2]
    exact State.getF_setF_same _ (ENG_STAT.STATE tgt) 4 (by simp [ENG_STAT.STATE])

/-- Settles O13, command by command. -/
theorem takeCommands : Obligations.TakeCommands :=
  ⟨take_becomesPending, takeCancel_abandons, recast_entersSlate⟩

end Sys2Proof
end

section
/-! ### LINE_SET, SLICE_INIT, CODE_LOAD and COEF_WRITE (O11) -/

namespace Sys2Proof

open Machine

/-! #### The bodies of these packets -/

theorem opBody_lineSet (h : CmdHdr) (p : List Word) (s b : State) : opBody (packetOf 0x106 h p [] s) false b = cmdLineSet p b := by
  rw [opBody_slate _ _ (by simp [packetOf]) (by simp [packetOf])]
  simp only [slateBody, packetOf]

theorem opBody_sliceInit (h : CmdHdr) (p : List Word) (s b : State) : opBody (packetOf 0x107 h p [] s) false b = cmdSliceInit p b := by
  rw [opBody_slate _ _ (by simp [packetOf]) (by simp [packetOf])]
  simp only [slateBody, packetOf]

theorem opBody_codeLoad (h : CmdHdr) (p : List Word) (s b : State) : opBody (packetOf 0x108 h p [] s) false b = cmdCodeLoad p b := by
  rw [opBody_slate _ _ (by simp [packetOf]) (by simp [packetOf])]
  simp only [slateBody, packetOf]

theorem opBody_coefWrite (h : CmdHdr) (p : List Word) (s b : State) : opBody (packetOf 0x109 h p [] s) false b = cmdCoefWrite p b := by
  rw [opBody_slate _ _ (by simp [packetOf]) (by simp [packetOf])]
  simp only [slateBody, packetOf]

/-! #### Delay lines -/

section

variable {i j : Nat} {s : State}

theorem line_onLine_same (i : Nat) (f : LineD → LineD) (s : State) : (onLine i f s).line i = f (s.line i) :=
  smGet_smPut_same _ _ _ _

theorem line_onLine_other (f : LineD → LineD) (s : State) (h : j ≠ i) : (onLine i f s).line j = s.line j :=
  smGet_smPut_other _ _ _ _ _ h _

theorem line_onFab (j : Nat) (f : FabU → FabU) (s : State) : (s.onFab f).line j = s.line j := rfl

theorem line_congr {t : State} (h : t.cs = s.cs) (j : Nat) : t.line j = s.line j := by rw [State.line, h]; rfl

/-- A reverted line keeps everything but its slate; no other line changes. -/
theorem revertLine_spec (i : Nat) (s : State) : ((revertLine i s).line i).live = (s.line i).live
    ∧ (∀ j, j ≠ i → (revertLine i s).line j = s.line j) ∧ Kept [.cs, .fab] [] [] s (revertLine i s) := by
  have hk : Kept [.cs, .fab] [] [] s (onLine i (fun l => { l with slate := none }) s) := (Kept.refl _ _ _ s).onCs _
  have hfab : ∀ (f : FabU → FabU) (t : State), t = onLine i (fun l => { l with slate := none }) s →
      ((t.onFab f).line i).live = (s.line i).live ∧ (∀ j, j ≠ i → (t.onFab f).line j = s.line j) ∧ Kept [.cs, .fab] [] [] s (t.onFab f) := by
    rintro f t rfl
    refine ⟨?_, fun j hj => ?_, hk.onFab _⟩
    · rw [line_onFab, line_onLine_same]
    · rw [line_onFab, line_onLine_other _ s hj]
  unfold revertLine
  dsimp only
  split
  · exact ⟨rfl, fun _ _ => rfl, .refl _ _ _ _⟩
  · split
    · split
      · exact hfab _ _ rfl
      · exact hfab _ _ rfl
    · exact hfab _ _ rfl

/-- What a line's revert leaves of the claims, and whether a range can be claimed, does not look at the command interface. -/
theorem revertLine_onCmd_fab (i : Nat) (f : CmdU → CmdU) (s : State) : (revertLine i (s.onCmd f)).fab = (revertLine i s).fab := by
  unfold revertLine
  rw [show (s.onCmd f).line i = s.line i from rfl]
  dsimp only
  split
  · rfl
  · split
    · split <;> rfl
    · rfl

end

theorem claimRange_fst_congr {s t : State} (c : MemClaim) (h : t.fab = s.fab) : (claimRange c t).1 = (claimRange c s).1 := by
  unfold claimRange freeClaim
  rw [h]
  split
  · rfl
  · split <;> rfl

/-- A range that is granted has one entry more. -/
theorem claimRange_granted {c : MemClaim} {s : State} (h : (claimRange c s).1 = 0) :
    ∃ k, (claimRange c s).2 = s.onFab fun u => { u with claims := u.claims ++ [(k, c)] } := by
  unfold claimRange at h ⊢
  cases hu : s.fab.claims.find? (fun x => overlap c.base c.len x.2.base x.2.len && !(x.2.owner = c.owner && x.2.id = c.id)) with
  | some x =>
    rw [hu] at h
    exact absurd (show 6 = 0 from h) (by decide)
  | none =>
    cases hfree : freeClaim s with
    | none =>
      rw [hu, hfree] at h
      exact absurd (show 7 = 0 from h) (by decide)
    | some k => exact ⟨k, rfl⟩

/-- LINE_SET with its fields in order, LPDDR5 ready (R213). -/
theorem cmdLineSet_inOrder {p : List Word} {i : Nat} {x : LineSet} {s : State} (hi : i = nAt p 0)
    (hx : x = ⟨nAt p 1 + 2 ^ 32 * nAt p 2, nAt p 3, nAt p 4⟩) (hbad : lineBad i x.base x.len x.delay s = false)
    (hready : s.flag DDR_STAT.READY = true) :
    (∀ c, (s.line i).live = some c → c.base = x.base → cmdLineSet p s = lineKeep i c x s)
    ∧ ((∀ c, (s.line i).live = some c → c.base ≠ x.base
        ∧ overlap (lineBase x.base) (lineUnits x.len) (lineBase c.base) (lineUnits (max c.len ((s.line i).staged.getD 0))) = false) →
      cmdLineSet p s = lineMove i x s) := by
  subst hi hx
  unfold cmdLineSet
  dsimp only at hbad ⊢
  rw [if_neg (by rw [hbad]; exact Bool.false_ne_true), if_neg (by simp [hready])]
  refine ⟨fun c hc hbase => ?_, fun hc => ?_⟩
  · simp only [hc]
    exact if_pos hbase
  · cases hl : (s.line (nAt p 0)).live with
    | none => rfl
    | some c =>
      obtain ⟨hbase, hover⟩ := hc c hl
      dsimp only
      rw [if_neg hbase, if_neg (by rw [hover]; exact Bool.false_ne_true)]

/-- LINE_SET away from the live line's range claims its own and stands in the slate (R213, R216). -/
theorem lineSet_moves (h : CmdHdr) (p : List Word) (i : Nat) (x : LineSet) (s : State) (hr : Ready 262 h p s) (hc : h.chk = false)
    (hi : i = nAt p 0) (hx : x = ⟨nAt p 1 + 2 ^ 32 * nAt p 2, nAt p 3, nAt p 4⟩) (hbad : lineBad i x.base x.len x.delay s = false)
    (hready : s.flag DDR_STAT.READY = true)
    (hlive : (match (s.line i).live with
      | some c => decide (c.base ≠ x.base)
        && !overlap (lineBase x.base) (lineUnits x.len) (lineBase c.base) (lineUnits (max c.len ((s.line i).staged.getD 0)))
      | none => true) = true)
    (hclaim : (claimRange ⟨1, i, lineBase x.base, lineUnits x.len⟩ (revertLine i s)).1 = 0) :
    ∃ t, exec (.lineSet h p) s = .next t
      ∧ Accepted 0x106 h [] t
      ∧ (t.line i).slate = some x
      ∧ (t.line i).live = (s.line i).live
      ∧ (⟨1, i, lineBase x.base, lineUnits x.len⟩ : MemClaim) ∈ t.fab.claims.map (·.2)
      ∧ (∀ j, j ≠ i → t.line j = s.line j)
      ∧ Kept [.cmd, .outs, .cs, .fab] [0xD] [] s t := by
  obtain ⟨b, hbe⟩ : ∃ b, b = begun (packetOf 0x106 h p [] s) s := ⟨_, rfl⟩
  obtain ⟨f, hf⟩ : ∃ f, b = s.onCmd f := hbe ▸ begun_eq_onCmd _ s
  have hline : b.line i = s.line i := by rw [hf]; rfl
  have hclaimB : (claimRange ⟨1, i, lineBase x.base, lineUnits x.len⟩ (revertLine i b)).1 = 0 := by
    rw [hf, claimRange_fst_congr _ (revertLine_onCmd_fab i f s)]
    exact hclaim
  obtain ⟨k, hk⟩ := claimRange_granted hclaimB
  obtain ⟨hrlive, hrother, hrk⟩ := revertLine_spec i b
  have hmove : lineMove i x b = doneWith [] (onLine i (fun l => { l with slate := some x })
      ((revertLine i b).onFab fun u => { u with claims := u.claims ++ [(k, ⟨1, i, lineBase x.base, lineUnits x.len⟩)] })) := by
    unfold lineMove
    dsimp only
    rw [if_pos hclaimB, hk]
    rfl
  have hb : cmdLineSet p b = lineMove i x b := by
    have hbadB : lineBad i x.base x.len x.delay b = false := by rw [hf]; exact hbad
    have hreadyB : b.flag DDR_STAT.READY = true := by rw [hf]; exact hready
    refine (cmdLineSet_inOrder hi hx hbadB hreadyB).2 fun c hl => ?_
    rw [hline] at hl ⊢
    rw [hl] at hlive
    simpa using hlive
  rw [hmove, hbe, ← opBody_lineSet h p s] at hb
  obtain ⟨t, ht, hacc, hkx, hkt⟩ := accepted_of_body (ps := [.cs, .fab]) hr (by decide) hc _ _ hb (hbe ▸ (hrk.onFab _).onCs _)
    (by decide) (by decide)
  rw [← hbe] at hkx
  have hcs := hkx.part .cs (by decide)
  have hfab := hkx.part .fab (by decide)
  have hcsB : b.cs = s.cs := by rw [hf]; rfl
  refine ⟨t, ht, hacc, ?_, ?_, ?_, fun j hj => ?_, hkt⟩
  · rw [line_congr hcs, line_onLine_same]
  · rw [line_congr hcs, line_onLine_same, line_onFab, hrlive, hline]
  · rw [show t.fab = _ from hfab]
    simp [onLine]
  · rw [line_congr hcs, line_onLine_other _ _ hj, line_onFab, hrother j hj, line_congr hcsB]

/-- LINE_SET on the live line's base stands in the slate, and the claim of the line covers the longest of its lengths (R215). -/
theorem lineSet_keepsBase (h : CmdHdr) (p : List Word) (i : Nat) (x c : LineSet) (s : State) (hr : Ready 262 h p s) (hc : h.chk = false)
    (hi : i = nAt p 0) (hx : x = ⟨nAt p 1 + 2 ^ 32 * nAt p 2, nAt p 3, nAt p 4⟩) (hbad : lineBad i x.base x.len x.delay s = false)
    (hready : s.flag DDR_STAT.READY = true) (hlive : (s.line i).live = some c) (hbase : c.base = x.base)
    (hclaim : (claimRange ⟨1, i, lineBase c.base, lineUnits (max (max c.len ((s.line i).staged.getD 0)) x.len)⟩ s).1 ≠ 6) :
    ∃ t, exec (.lineSet h p) s = .next t
      ∧ Accepted 0x106 h [] t
      ∧ (t.line i).slate = some x
      ∧ (t.line i).live = some c
      ∧ (∀ y ∈ t.fab.claims, y.2.owner = 1 → y.2.id = i → y.2.base = lineBase c.base →
        y.2.len = lineUnits (max (max c.len ((s.line i).staged.getD 0)) x.len))
      ∧ (∀ j, j ≠ i → t.line j = s.line j)
      ∧ Kept [.cmd, .outs, .cs, .fab] [0xD] [] s t := by
  obtain ⟨b, hbe⟩ : ∃ b, b = begun (packetOf 0x106 h p [] s) s := ⟨_, rfl⟩
  obtain ⟨f, hf⟩ : ∃ f, b = s.onCmd f := hbe ▸ begun_eq_onCmd _ s
  have hline : b.line i = s.line i := by rw [hf]; rfl
  obtain ⟨len, hlen⟩ : ∃ len, len = max (max c.len ((s.line i).staged.getD 0)) x.len := ⟨_, rfl⟩
  rw [← hlen] at hclaim ⊢
  obtain ⟨hrlive, hrother, hrk⟩ := revertLine_spec i b
  have hb : cmdLineSet p b = doneWith []
      (onLine i (fun l => { l with slate := some x }) (sizeLineClaim i c.base len (revertLine i b))) := by
    have hbadB : lineBad i x.base x.len x.delay b = false := by rw [hf]; exact hbad
    have hreadyB : b.flag DDR_STAT.READY = true := by rw [hf]; exact hready
    have hclaimB : (claimRange ⟨1, i, lineBase c.base, lineUnits len⟩ b).1 ≠ 6 := by
      rw [claimRange_fst_congr _ (show b.fab = s.fab by rw [hf]; rfl)]
      exact hclaim
    rw [(cmdLineSet_inOrder hi hx hbadB hreadyB).1 c (by rw [hline, hlive]) hbase, lineKeep]
    rw [hline, ← hlen, if_neg hclaimB]
    rfl
  rw [hbe, ← opBody_lineSet h p s] at hb
  obtain ⟨t, ht, hacc, hkx, hkt⟩ := accepted_of_body (ps := [.cs, .fab]) hr (by decide) hc _ _ hb (hbe ▸ (hrk.onFab _).onCs _)
    (by decide) (by decide)
  rw [← hbe] at hkx
  have hcs := hkx.part .cs (by decide)
  have hfab := hkx.part .fab (by decide)
  have hcsB : b.cs = s.cs := by rw [hf]; rfl
  refine ⟨t, ht, hacc, ?_, ?_, fun y hy howner hid hyb => ?_, fun j hj => ?_, hkt⟩
  · rw [line_congr hcs, line_onLine_same]
  · rw [line_congr hcs, line_onLine_same, sizeLineClaim, line_onFab, hrlive, hline, hlive]
  · rw [show t.fab = _ from hfab] at hy
    obtain ⟨z, -, rfl⟩ := List.mem_map.1 hy
    by_cases hz : z.2.owner = 1 ∧ z.2.id = i ∧ z.2.base = lineBase c.base
    · rw [if_pos hz]
    · rw [if_neg hz] at howner hid hyb
      exact absurd ⟨howner, hid, hyb⟩ hz
  · rw [line_congr hcs, line_onLine_other _ _ hj, sizeLineClaim, line_onFab, hrother j hj, line_congr hcsB]

/-! #### Images, instructions and coefficients -/

/-- SLICE_INIT appends its entries to those of the slate (R300, R301). -/
theorem sliceInit_appends (h : CmdHdr) (p : List Word) (l : List SliceInit) (s : State) (hr : Ready 263 h p s) (hc : h.chk = false)
    (hl : l = (pairs p).map (fun w => ⟨w.1, w.2⟩)) (hfault : sliceInitFault l ((s.take.slices.map (·.size)).sum) 0 = none)
    (hserved : (l.all fun x => (s.physOf x.logeng).isSome) = true) :
    ∃ t, exec (.sliceInit h p) s = .next t
      ∧ Accepted 0x107 h [] t
      ∧ t.take.slices = s.take.slices ++ l
      ∧ Kept [.cmd, .outs, .take] [0xD] [] s t := by
  obtain ⟨b, hbe⟩ : ∃ b, b = begun (packetOf 0x107 h p [] s) s := ⟨_, rfl⟩
  obtain ⟨f, hf⟩ : ∃ f, b = s.onCmd f := hbe ▸ begun_eq_onCmd _ s
  have hnone : firstBad (fun x => (b.physOf x.logeng).isNone) l = none := by
    refine List.findIdx?_eq_none_iff.2 fun x hx => ?_
    have := List.all_eq_true.1 hserved x hx
    rw [show b.physOf x.logeng = s.physOf x.logeng by rw [hf]; rfl]
    simpa [Option.isSome_iff_ne_none] using this
  have hfaultB : sliceInitFault l ((b.take.slices.map (·.size)).sum) 0 = none := by rw [hf]; exact hfault
  have hb : cmdSliceInit p b = doneWith [] (b.onTake fun u => { u with slices := u.slices ++ l }) := by
    simp only [cmdSliceInit, ← hl, hfaultB, hnone]
    rfl
  rw [hbe, ← opBody_sliceInit h p s] at hb
  obtain ⟨t, ht, hacc, hkx, hkt⟩ := accepted_of_body (ps := [.take]) hr (by decide) hc _ _ hb ((Kept.refl _ _ _ _).onTake _)
    (by decide) (by decide)
  rw [← hbe, hf] at hkx
  exact ⟨t, ht, hacc, congrArg TakeU.slices (hkx.part .take (by decide)), hkt⟩

/-- CODE_LOAD writes its words in the program memory of the engine that serves (R143, R763). -/
theorem codeLoad_writes (h : CmdHdr) (p : List Word) (e k : Nat) (s : State) (hr : Ready 264 h p s) (hc : h.chk = false)
    (hk : k = nAt p 1) (hle : nAt p 0 < 16) (hfit : k + (p.length - 2) / 2 ≤ 16384)
    (hfree : (s.cs.tasks.any fun c => inGraph c.2 && c.2.logeng = nAt p 0 && k ≤ c.2.entry && c.2.entry < k + (p.length - 2) / 2) = false)
    (hphys : s.physOf (nAt p 0) = some e) :
    ∃ t, exec (.codeLoad h p) s = .next t
      ∧ Accepted 0x108 h [] t
      ∧ t.wordsAt (engWin e + 8 * k) (p.length - 2) = p.drop 2
      ∧ (∀ b, b < engWin e + 8 * k ∨ engWin e + 8 * k + 4 * (p.length - 2) ≤ b → t.byte b = s.byte b)
      ∧ Kept [.cmd, .outs, .mem] [0xD] [] s t := by
  obtain ⟨b, hbe⟩ : ∃ b, b = begun (packetOf 0x108 h p [] s) s := ⟨_, rfl⟩
  obtain ⟨f, hf⟩ : ∃ f, b = s.onCmd f := hbe ▸ begun_eq_onCmd _ s
  have hlen : (p.drop 2).length = p.length - 2 := List.length_drop
  have hb : cmdCodeLoad p b = doneWith [] (writeWords (engWin e + 8 * k) (p.drop 2) b) := by
    have hfreeB : (b.cs.tasks.any fun c => inGraph c.2 && c.2.logeng = nAt p 0 && k ≤ c.2.entry
        && c.2.entry < k + (p.length - 2) / 2) = false := by rw [hf]; exact hfree
    have hphysB : b.physOf (nAt p 0) = some e := by rw [hf]; exact hphys
    simp only [cmdCodeLoad, ← hk, hphysB]
    rw [if_neg (by omega), if_neg (by rw [hfreeB]; simp)]
    rfl
  rw [hbe, ← opBody_codeLoad h p s] at hb
  obtain ⟨t, ht, hacc, hkx, hkt⟩ := accepted_of_body (ps := [.mem]) hr (by decide) hc _ _ hb (writeWords_keeps _ _ _)
    (by decide) (by decide)
  rw [← hbe] at hkx
  have hmem := hkx.part .mem (by decide)
  refine ⟨t, ht, hacc, ?_, fun n hn => ?_, hkt⟩
  · rw [wordsAt_congr hmem, ← hlen, wordsAt_writeWords]
  · have hbyte : t.byte n = (writeWords (engWin e + 8 * k) (p.drop 2) b).byte n := by simp only [State.byte, show t.mem = _ from hmem]
    rw [hbyte, writeWords_byte_other _ _ _ _ (by rwa [hlen]), hf]
    rfl

section

variable {e : Nat}

theorem writeWords_mem_congr {s t : State} (h : t.mem = s.mem) : ∀ (ws : List Word) (a : Nat),
    (writeWords a ws t).mem = (writeWords a ws s).mem := by
  intro ws
  induction ws generalizing s t with
  | nil => exact fun _ => h
  | cons w l ih =>
    intro a
    refine ih ?_ (a + 4)
    simp only [State.setWord, State.setByte, State.onMem_mem, h]

theorem writeBytes_mem_congr {s t : State} (h : t.mem = s.mem) : ∀ (l : List Byte) (a : Nat),
    (writeBytes a l t).mem = (writeBytes a l s).mem := by
  intro l
  induction l generalizing s t with
  | nil => exact fun _ => h
  | cons w l ih =>
    intro a
    refine ih ?_ (a + 1)
    simp only [State.setByte, State.onMem_mem, h]

/-- Words that the host writes in the slate view of an engine with SLATE_READY at 1 land in its slate page (R109, R143). -/
theorem hostWrites_slateView (he : e < 18) : ∀ (ws : List Word) (off : Nat) (u : State), 0x80000 ≤ off → off + 4 * ws.length ≤ 0x90000 →
    u.hostOpen = true → engClosed e u = false → u.flag (ENG_STAT.SLATE_READY e) = true → (u.engine e).held = [] →
    (hostWrites (engWin e + off) ws u).mem = (writeWords (engWin e + viewOff e off u) ws u).mem
    ∧ Kept [.mem] [0xB] [engBase e + 4] u (hostWrites (engWin e + off) ws u)
    ∧ (u.flag (ENG_STAT.SLATE_DIRTY e) = true ∨ ws ≠ [] → (hostWrites (engWin e + off) ws u).flag (ENG_STAT.SLATE_DIRTY e) = true) := by
  intro ws
  induction ws with
  | nil => exact fun off u _ _ _ _ _ _ => ⟨rfl, .refl _ _ _ _, fun h => h.resolve_right (· rfl)⟩
  | cons w l ih =>
    intro off u hlow hhigh ho hc hr hh
    rw [List.length_cons] at hhigh
    have hfirst : hostWrite (engWin e + off) w u = landSlate e off (leBytes w.toNat 4) u := by
      rw [hostWrite, hostWriteWord_engine _ he (by omega) ho, writeEng_slate _ _ he ⟨hlow, by omega⟩ hc hr hh]
    have hsame : SlateSame e u (landSlate e off (leBytes w.toNat 4) u) := landSlate_same he
    have hk : Kept [.mem] [0xB] [engBase e + 4] u (landSlate e off (leBytes w.toNat 4) u) := landSlate_keeps he
    have hdirty : (landSlate e off (leBytes w.toNat 4) u).flag (ENG_STAT.SLATE_DIRTY e) = true := flag_setDirty e _
    have hmem : (landSlate e off (leBytes w.toNat 4) u).mem = (u.setWord (engWin e + viewOff e off u) w).mem := by
      rw [landSlate, State.setF_mem, ← writeBytes_leBytes]
      exact writeBytes_mem_congr ((countWin_keeps he u).part .mem (by simp)) _ _
    obtain ⟨hwords, hkl, hd⟩ := ih (off + 4) _ (by omega) (by omega) ((hk.hostOpen (by simp) (by simpa using (engBase_lt he).2.symm)).trans ho)
      ((engClosed_congr hsame.state).trans hc) (hsame.ready.trans hr)
      (by rw [State.engine, show (landSlate e off (leBytes w.toNat 4) u).eng = u.eng from hk.part .eng (by simp)]; exact hh)
    rw [hostWrites, hfirst, Nat.add_assoc]
    refine ⟨?_, hk.trans hkl, fun _ => hd (.inl hdirty)⟩
    rw [hwords, writeWords_mem_congr hmem, hsame.viewOff, writeWords]
    cases l with
    | nil => rfl
    | cons w' l =>
      have hnext : viewOff e (off + 4) u = viewOff e off u + 4 := by
        rw [List.length_cons] at hhigh
        have hview : ∀ o, 0x80000 ≤ o → o < 0x90000 → viewOff e o u = if u.livePage e then o else o + 0x10000 :=
          fun o h1 h2 => if_pos ⟨h1, h2⟩
        rw [hview _ (by omega) (by omega), hview _ hlow (by omega)]
        split
        · rfl
        · omega
      rw [hnext, Nat.add_assoc]

end

/-- COEF_WRITE puts its words in the slate page of the engine that serves (R109, R763). -/
theorem coefWrite_lands (h : CmdHdr) (p : List Word) (e k a : Nat) (s : State) (hr : Ready 265 h p s) (hc : h.chk = false)
    (hk : k = nAt p 1) (hle : nAt p 0 < 16) (hfit : k + (p.length - 2) ≤ 16384) (hphys : s.physOf (nAt p 0) = some e)
    (hopen : engClosed e s = false) (hready : s.flag (ENG_STAT.SLATE_READY e) = true) (hheld : (s.engine e).held = [])
    (ha : a = pageBase e (!(s.livePage e)) + 4 * k) :
    ∃ t, exec (.coefWrite h p) s = .next t
      ∧ Accepted 0x109 h [] t
      ∧ t.wordsAt a (p.length - 2) = p.drop 2
      ∧ t.flag (ENG_STAT.SLATE_DIRTY e) = true
      ∧ (∀ b, b < a ∨ a + 4 * (p.length - 2) ≤ b → t.byte b = s.byte b)
      ∧ Kept [.cmd, .outs, .mem] [0xD, 0xB] [(ENG_STAT.SLATE_DIRTY e).addr] s t := by
  have he : e < 18 := List.mem_range.1 (List.mem_of_find?_eq_some hphys)
  obtain ⟨b, hbe⟩ : ∃ b, b = begun (packetOf 0x109 h p [] s) s := ⟨_, rfl⟩
  obtain ⟨f, hf⟩ : ∃ f, b = s.onCmd f := hbe ▸ begun_eq_onCmd _ s
  have hlen : (p.drop 2).length = p.length - 2 := List.length_drop
  have hpos : 3 ≤ p.length := by
    obtain ⟨-, -, ⟨-, hl⟩, -⟩ := id hr
    simp only [lenOk, Bool.and_eq_true, decide_eq_true_eq] at hl
    exact hl.1
  have hne : p.drop 2 ≠ [] := by
    rw [← List.length_pos_iff, hlen]
    omega
  have hb : cmdCoefWrite p b = doneWith [] (hostWrites (engWin e + (0x80000 + 4 * k)) (p.drop 2) b) := by
    have hphysB : b.physOf (nAt p 0) = some e := by rw [hf]; exact hphys
    simp only [cmdCoefWrite, ← hk, hphysB, Nat.add_assoc]
    rw [if_neg (by omega)]
    rfl
  obtain ⟨hmemx, hkb, hdx⟩ := hostWrites_slateView he (p.drop 2) (0x80000 + 4 * k) b (by omega) (by rw [hlen]; omega)
    (hbe ▸ begun_hostOpen _ hr) (by rw [hf]; exact hopen) (by rw [hf]; exact hready) (by rw [hf]; exact hheld)
  have haddr : engWin e + viewOff e (0x80000 + 4 * k) b = a := by
    rw [ha, viewOff, if_pos (by omega), hf, pageBase]
    show engWin e + (if s.livePage e then _ else _) = _
    cases s.livePage e <;> simp <;> omega
  rw [haddr] at hmemx
  have hdirtyx := hdx (.inr hne)
  have hpage : (engBase e + 4) / 65536 ≠ 0xD ∧ STI_STAT.ROLE.addr ≠ engBase e + 4
      ∧ (ENG_STAT.SLATE_DIRTY e).addr ∉ mgmtTx := by
    interval_cases e <;> decide
  rw [hbe, ← opBody_coefWrite h p s] at hb
  rw [hbe] at hkb
  obtain ⟨t, ht, hacc, hxt, hkt⟩ := accepted_of_changes hr (by decide) hc _ _ hb hkb (by decide)
    (fun tr => by rw [State.sess, show State.cmd _ = _ from hkb.part .cmd (by decide)]; rfl) ⟨by decide, by simpa using hpage.2.1⟩
  rw [← hbe] at hxt
  have hmem := (hxt.part .mem (by decide)).trans hmemx
  refine ⟨t, ht, hacc, ?_, ?_, fun n hn => ?_, hkt.mono (by simp) (by simp) (by simp [ENG_STAT.SLATE_DIRTY])⟩
  · rw [wordsAt_congr hmem, ← hlen, wordsAt_writeWords]
  · rw [hxt.flag _ (by simpa [ENG_STAT.SLATE_DIRTY] using hpage.1) (by simp) hpage.2.2]
    exact hdirtyx
  · have hbyte : t.byte n = (writeWords a (p.drop 2) b).byte n := by simp only [State.byte, show t.mem = _ from hmem]
    rw [hbyte, writeWords_byte_other _ _ _ _ (by rwa [hlen]), hf]
    rfl

/-- Settles O11, command by command. -/
theorem slateMemoryCommands : Obligations.SlateMemoryCommands :=
  ⟨lineSet_moves, lineSet_keepsBase, sliceInit_appends, codeLoad_writes, coefWrite_lands⟩

end Sys2Proof
end

section
/-! ### Exceptions of an engine and its call stack (O6) -/

namespace Sys2Proof

open Machine

/-! #### A relation that the end of a cycle keeps -/

/-- Parts that the collector changes, beside the engines and the take. -/
def collectorParts : List Part := [.flt, .cmd, .boot, .sti, .outs]

/-- Registers outside the pages PCN and CMD that the collector changes, beside the message count, the sticky bits and the engines'. -/
def collectorRegs : List Nat :=
  [SYS_MODE.MODE.addr, SYS_TAKE_REFUSED.REFUSED.addr, FLT_FIRST.VALID.addr, FLT_FIRST_ADDR.ADDR.addr, FLT_FIRST_SHOT.SHOT.addr,
    FLT_FIRST_SEC.SEC.addr, FLT_STAT.QLOST.addr, STI_STAT.ROLE.addr]

/-- A step in which the collector changes no engine, no sticky bit and no count of messages. -/
abbrev CollectorKept (s t : State) : Prop := Kept collectorParts [0xB, 0xD] collectorRegs s t

theorem writeFirst_aside (m : Msg) (s : State) : CollectorKept s (writeFirst m s) := by
  have hrecord : ∀ x y, CollectorKept s ((((((((s.setF FLT_FIRST.VALID 1).setF FLT_FIRST.INJ (b2n m.inj)).setF FLT_FIRST.SEV m.sev).setF
      FLT_FIRST.KIND m.kind).setF FLT_FIRST.SRC m.src).setF FLT_FIRST_ADDR.ADDR m.addr).setF FLT_FIRST_SHOT.SHOT x).setF
      FLT_FIRST_SEC.SEC y) := fun _ _ =>
    ((((((((Kept.refl _ _ _ s).setF _ _).setF _ _).setF _ _).setF _ _).setF _ _).setF _ _).setF _ _).setF _ _
  unfold writeFirst
  exact Kept.ite _ (fun _ => (hrecord _ _).setF _ _) (fun _ => hrecord _ _)

theorem enqueue_aside (x : LogEntry) (s : State) : CollectorKept s (enqueue x s) :=
  Kept.ite _ (fun _ => (Kept.refl _ _ _ s).incF _ _) (fun _ => (Kept.refl _ _ _ s).onFlt _)

/-- A relation that every step of the collector keeps: of its changes aside, of an abandoned take, of a sticky bit that is set, and of an
engine that runs on where MAINTENANCE ends (R147, R657 to R671). -/
structure CollectorRel (R : State → State → Prop) : Prop where
  trans : ∀ {s t u}, R s t → R t u → R s u
  aside : ∀ {s t}, CollectorKept s t → R s t
  take : ∀ s f, (f s.take).dissRecasts = s.take.dissRecasts → R s (s.onTake f)
  sticky : ∀ s k b, k < 8 → b < 32 → R s (s.orF (FLT_STICKY.BITS k) (2 ^ b))
  resume : ∀ s e, e < 18 → R s (resumeEngine e s)

namespace CollectorRel

variable {R : State → State → Prop} (hR : CollectorRel R) {s t u : State}

include hR

theorem refl (s : State) : R s s := hR.aside (.refl _ _ _ _)

theorem andThen (h : R s t) (k : CollectorKept t u) : R s u := hR.trans h (hR.aside k)

omit hR in
theorem ite (c : Prop) [Decidable c] {x y : State} (hx : R s x) (hy : R s y) : R s (if c then x else y) := by
  split
  · exact hx
  · exact hy

theorem abandonTake (r : Nat) (h : R s t) : R s (Machine.abandonTake r t) := by
  unfold Machine.abandonTake
  split
  · exact h
  · dsimp only
    split
    · exact hR.andThen (hR.trans h (hR.take _ _ rfl)) ((((Kept.refl _ _ _ _).incF _ _).out _).placeReply _ _ _ _ _ _)
    · exact hR.andThen (hR.trans h (hR.take _ _ rfl)) (((Kept.refl _ _ _ _).incF _ _).notify _ _)

theorem resumeAll (h : R s t) : R s ((List.range 18).foldl (fun s e => Machine.resumeEngine e s) t) := by
  have hfold : ∀ (l : List Nat) (t : State), (∀ e ∈ l, e < 18) → R s t → R s (l.foldl (fun s e => Machine.resumeEngine e s) t) := by
    intro l
    induction l with
    | nil => exact fun _ _ h => h
    | cons e l ih =>
      exact fun t hl h => ih _ (fun x hx => hl x (List.mem_cons_of_mem _ hx)) (hR.trans h (hR.resume t e (hl e List.mem_cons_self)))
  exact hfold _ _ (fun e he => List.mem_range.1 he) h

theorem changeMode (m : Nat) (h : R s t) : R s (Machine.changeMode m t) := by
  unfold Machine.changeMode
  refine CollectorRel.ite _ h ?_
  have hmode : ∀ (v : State) (old : Nat), R s v → R s ((v.setF SYS_MODE.PREV old).setF SYS_MODE.MODE m) := fun v old hv =>
    hR.andThen hv (((Kept.refl _ _ _ v).setF _ _).setF _ _)
  have htake := hmode _ t.mode (CollectorRel.ite (takeMode m) h (hR.abandonTake 1 h))
  have hrun := CollectorRel.ite ((t.mode = 10 ∨ t.mode = 11) ∧ m ≠ 10 ∧ m ≠ 11) (hR.resumeAll htake) htake
  have hevent := fun l => hR.andThen hrun (((Kept.refl _ _ _ _).logEvent 0xE1 l).setIrq 6)
  exact hR.andThen (CollectorRel.ite _ (hR.andThen (hevent _) ((Kept.refl _ _ _ _).onBoot _)) (hevent _)) ((Kept.refl _ _ _ _).notify _ _)

theorem safeRequest (h : R s t) : R s (Machine.safeRequest t) := CollectorRel.ite _ (hR.changeMode 8 h) h

theorem releaseToken (h : R s t) : R s (Machine.releaseToken t) := by
  unfold Machine.releaseToken
  have hout := hR.andThen h ((((((Kept.refl _ _ _ t).out (.act "PINS_R704" [])).out (.sti "RELEASE" [])).setF STI_STAT.LEASE_OUT 0).out
    (.pin "LEASE_OUT" false)).setF STI_STAT.ROLE 2 |>.onSti fun u => { u with handover := 0, sent := none })
  refine CollectorRel.ite _ (hR.changeMode 6 ?_) hout
  exact CollectorRel.ite _ (hR.andThen hout (((Kept.refl _ _ _ _).setF _ _).onSti _)) hout

theorem acceptEvents (h : R s t) : R s (Machine.acceptEvents t) :=
  hR.andThen h (Kept.foldl _ (fun t x => enqueue_aside x t) _ _)

/-- Behind the count and its sticky bit a message changes nothing else. -/
theorem acceptMsg_behind (m : Msg) (first : Bool) (t : State) :
    R ((countG 0x35 1 (t.incF FLT_COUNT.COUNT 1)).orF (FLT_STICKY.BITS (m.src / 32)) (2 ^ (m.src % 32))) (Machine.acceptMsg m first t) := by
  unfold Machine.acceptMsg
  have hfirst := CollectorRel.ite (first = true) (hR.refl _)
    (hR.andThen (hR.refl ((countG 0x35 1 (t.incF FLT_COUNT.COUNT 1)).orF (FLT_STICKY.BITS (m.src / 32)) (2 ^ (m.src % 32))))
      ((Kept.refl _ _ _ _).incF FLT_FIRST.ALSO 1))
  have hlog := fun x => hR.andThen hfirst (enqueue_aside x _)
  exact CollectorRel.ite _ (hR.andThen (hlog _) ((Kept.refl _ _ _ _).setIrq 3)) (hlog _)

theorem acceptMsg (m : Msg) (first : Bool) (hm : m.src < 256) (t : State) : R (t.incF FLT_COUNT.COUNT 1) (Machine.acceptMsg m first t) :=
  hR.trans (hR.trans (hR.aside ((Kept.refl _ _ _ _).countG 0x35 1)) (hR.sticky _ _ _ (by omega) (by omega)))
    (hR.acceptMsg_behind m first t)

/-- The end of a cycle: what comes before the messages, the messages in their order, and what comes behind them. -/
theorem settle_around (s : State) : ∃ (x : State) (b : Bool) (k : Nat), R s x
    ∧ R ((msgSort s.flt.wire).zipIdx.foldl (fun s x => Machine.acceptMsg x.1 (b && x.2 = k) s) x) (settle s) := by
  have hempty : R s (s.onFlt fun u => { u with wire := [] }) := hR.aside ((Kept.refl _ _ _ s).onFlt _)
  have hpick : ∀ m : Option Msg, R s (match m with
      | some m => Machine.writeFirst m (s.onFlt fun u => { u with wire := [] })
      | none => s.onFlt fun u => { u with wire := [] }) := by
    intro m
    split
    · exact hR.andThen hempty (writeFirst_aside _ _)
    · exact hempty
  refine ⟨_, !s.flag FLT_FIRST.VALID, firstPick (msgSort s.flt.wire) 0 0 0,
    CollectorRel.ite (!s.flag FLT_FIRST.VALID) (hpick (msgSort s.flt.wire)[firstPick (msgSort s.flt.wire) 0 0 0]?) hempty, ?_⟩
  unfold settle Machine.acceptAll
  refine hR.andThen (hR.acceptEvents ?_) ((Kept.refl _ _ _ _).onFlt _)
  exact CollectorRel.ite _ (hR.safeRequest (CollectorRel.ite _ (hR.releaseToken (hR.refl _)) (hR.refl _))) (CollectorRel.ite _ (hR.releaseToken (hR.refl _)) (hR.refl _))

/-- The messages of a cycle, whose count the relation keeps. -/
theorem acceptMsgs (hcount : ∀ t : State, R t (t.incF FLT_COUNT.COUNT 1)) (b : Bool) (k : Nat) : ∀ (l : List (Msg × Nat)) (t : State),
    (∀ m ∈ l, m.1.src < 256) → R t (l.foldl (fun s x => Machine.acceptMsg x.1 (b && x.2 = k) s) t) := by
  intro l
  induction l with
  | nil => exact fun t _ => hR.refl t
  | cons m l ih =>
    exact fun t hl => hR.trans (hR.trans (hcount t) (hR.acceptMsg m.1 _ (hl m List.mem_cons_self) t))
      (ih _ fun x hx => hl x (List.mem_cons_of_mem _ hx))

theorem settle (hcount : ∀ t : State, R t (t.incF FLT_COUNT.COUNT 1)) (s : State) (hw : ∀ m ∈ s.flt.wire, m.src < 256) :
    R s (Machine.settle s) := by
  obtain ⟨x, b, k, hx, hsettle⟩ := hR.settle_around s
  exact hR.trans (hR.trans hx (hR.acceptMsgs hcount b k _ x fun m hm => hw m.1 (msgSort_mem m.1 _ (List.fst_mem_of_mem_zipIdx hm)))) hsettle

end CollectorRel

/-! #### An engine that runs on -/

/-- The registers of an engine stand in 4096 bytes of its own. -/
theorem engBase_disjoint {e f : Nat} (he : e < 18) (hf : f < 18) (hne : f ≠ e) (c d : Nat) (hc : c < 0x1000) (hd : d < 0x1000) :
    engBase f + c ≠ engBase e + d := by
  unfold engBase
  split <;> split <;> omega

theorem State.reg_onEng (s : State) (f : List EngU → List EngU) (a : Nat) : (s.onEng f).reg a = s.reg a := rfl

theorem reg_resumeEngine_other (e a : Nat) (s : State) (hctrl : a ≠ engBase e) (hstat : a ≠ engBase e + 4) :
    (resumeEngine e s).reg a = s.reg a := by
  have hhalt : (s.setF (ENG_CTRL.HALT e) 0).reg a = s.reg a := State.reg_setF_other _ _ _ _ hctrl
  unfold resumeEngine
  generalize s.setF (ENG_CTRL.HALT e) 0 = v at hhalt ⊢
  dsimp only
  split
  · rw [State.reg_setF_other _ _ _ _ hstat]
    exact hhalt
  · exact hhalt

/-- Where an engine is not HALTED, nothing but its HALT bit changes. -/
theorem resumeEngine_of_running {e : Nat} {s : State} (h : s.engState e ≠ 2) : resumeEngine e s = s.setF (ENG_CTRL.HALT e) 0 := by
  refine if_neg ?_
  rw [State.getF_setF_other _ _ _ _ (show engBase e + 4 ≠ engBase e by omega)]
  exact h

theorem engine_resumeEngine_other {e f : Nat} (s : State) (h : f ≠ e) : (resumeEngine e s).engine f = s.engine f := by
  unfold resumeEngine
  dsimp only
  split
  · simp only [State.engine, State.setF, State.setReg, State.onRegs_eng, State.onEng_eng, getD_putNth, if_neg h]
  · simp only [State.engine, State.setF, State.setReg, State.onRegs_eng]

/-! #### The sticky bit of a message -/

/-- The sticky bit `b` of word `i` stays set. -/
def StickyStays (i b : Nat) (s t : State) : Prop :=
  bitOf (s.getF (FLT_STICKY.BITS i)) b = true → bitOf (t.getF (FLT_STICKY.BITS i)) b = true

theorem getF_sticky_orF (i b : Nat) (hb : b < 32) (s : State) :
    (s.orF (FLT_STICKY.BITS i) (2 ^ b)).getF (FLT_STICKY.BITS i) = s.getF (FLT_STICKY.BITS i) ||| 2 ^ b := by
  rw [State.orF, State.getF_setF_same _ _ _ (by simp [FLT_STICKY.BITS])]
  refine Nat.mod_eq_of_lt (Nat.or_lt_two_pow ?_ (Nat.pow_lt_pow_right (by decide) hb))
  exact Nat.mod_lt _ (Nat.two_pow_pos _)

theorem bitOf_sticky_orF (i b c : Nat) (hb : b < 32) (s : State) :
    bitOf ((s.orF (FLT_STICKY.BITS i) (2 ^ b)).getF (FLT_STICKY.BITS i)) c = (bitOf (s.getF (FLT_STICKY.BITS i)) c || decide (b = c)) := by
  rw [getF_sticky_orF i b hb, bitOf_eq_testBit, bitOf_eq_testBit, Nat.testBit_or, Nat.testBit_two_pow]

theorem StickyStays.collectorRel (i b : Nat) (hi : i < 8) : CollectorRel (StickyStays i b) where
  trans h k := k ∘ h
  aside {s t} h hs := by
    have haddr : (FLT_STICKY.BITS i).addr / 65536 ∉ [0xB, 0xD] ∧ (FLT_STICKY.BITS i).addr ∉ collectorRegs
        ∧ (FLT_STICKY.BITS i).addr ∉ mgmtTx := by interval_cases i <;> decide
    rw [h.getF _ haddr.1 haddr.2.1 haddr.2.2]
    exact hs
  take _ _ _ := id
  sticky s k c hk hc h := by
    by_cases hki : k = i
    · rw [hki, bitOf_sticky_orF i c b hc, h, Bool.true_or]
    · rw [State.orF, State.getF_setF_other _ _ _ _ (by simp only [FLT_STICKY.BITS]; omega)]
      exact h
  resume s e he h := by
    have haddr : (FLT_STICKY.BITS i).addr ≠ engBase e ∧ (FLT_STICKY.BITS i).addr ≠ engBase e + 4 := by
      simp only [FLT_STICKY.BITS, engBase]
      split <;> omega
    rw [State.getF, reg_resumeEngine_other e _ s haddr.1 haddr.2]
    exact h

theorem stickyStays_count (i b : Nat) (hi : i < 8) (t : State) : StickyStays i b t (t.incF FLT_COUNT.COUNT 1) := fun h => by
  rw [State.incF, State.getF_setF_other _ _ _ _ (by simp only [FLT_STICKY.BITS, FLT_COUNT.COUNT]; omega)]
  exact h

theorem mem_msgInsert (m : Msg) : ∀ (l : List Msg) (x : Msg), x = m ∨ x ∈ l → x ∈ msgInsert m l
  | [], x, h => by simpa [msgInsert] using h
  | y :: l, x, h => by
    unfold msgInsert
    split
    · rcases h with rfl | h
      · exact List.mem_cons_of_mem _ (mem_msgInsert x l x (.inl rfl))
      · exact (List.mem_cons.1 h).elim (· ▸ List.mem_cons_self) fun h => List.mem_cons_of_mem _ (mem_msgInsert m l x (.inr h))
    · exact List.mem_cons.2 h

/-- Every message of the cycle is among those in their order. -/
theorem mem_msgSort {x : Msg} {l : List Msg} (h : x ∈ l) : x ∈ msgSort l := by
  have hfold : ∀ (l a : List Msg), x ∈ a ∨ x ∈ l → x ∈ l.foldl (fun a m => msgInsert m a) a := by
    intro l
    induction l with
    | nil => exact fun a h => h.resolve_right (by simp)
    | cons m l ih =>
      intro a h
      refine ih _ ?_
      rcases h with h | h
      · exact .inl (mem_msgInsert m a x (.inr h))
      · exact (List.mem_cons.1 h).imp (fun h => mem_msgInsert m a x (.inl h)) id
  exact hfold l [] (.inr h)

/-- The sticky bit of every message that a cycle's end accepts is set (R665). -/
theorem sticky_settle {s : State} {m : Msg} (hm : m ∈ s.flt.wire) (hw : ∀ m ∈ s.flt.wire, m.src < 256) :
    bitOf ((settle s).getF (FLT_STICKY.BITS (m.src / 32))) (m.src % 32) = true := by
  have hi : m.src / 32 < 8 := Nat.div_lt_of_lt_mul (hw m hm)
  have hR := StickyStays.collectorRel (m.src / 32) (m.src % 32) hi
  obtain ⟨x, b, k, -, hsettle⟩ := hR.settle_around s
  refine hsettle ?_
  have hsort : ∀ y ∈ (msgSort s.flt.wire).zipIdx, y.1.src < 256 := fun y hy => hw _ (msgSort_mem _ _ (List.fst_mem_of_mem_zipIdx hy))
  obtain ⟨j, hj⟩ : ∃ j, (m, j) ∈ (msgSort s.flt.wire).zipIdx := by
    obtain ⟨j, hj⟩ := List.mem_iff_getElem?.1 (mem_msgSort hm)
    exact ⟨j, List.mk_mem_zipIdx_iff_getElem?.2 hj⟩
  obtain ⟨l, r, hlr⟩ := List.append_of_mem hj
  rw [hlr] at hsort ⊢
  rw [List.foldl_append, List.foldl_cons]
  refine hR.acceptMsgs (stickyStays_count _ _ hi) b k r _ (fun y hy => hsort y (by simp [hy])) ?_
  refine hR.acceptMsg_behind m _ _ ?_
  rw [bitOf_sticky_orF _ _ _ (Nat.mod_lt _ (by decide))]
  simp

/-! #### What an engine keeps at the end of a cycle -/

/-- The Call Sheet, the recasts of the dissolve and the registers of the engines' roles and exceptions are as they were; where engine `e` is
not HALTED, its status and its own state too. -/
structure EngineKept (e : Nat) (s t : State) : Prop where
  cs : t.cs = s.cs
  recasts : t.take.dissRecasts = s.take.dissRecasts
  regs : ∀ f d, f < 18 → 8 ≤ d → d < 0x1C → t.reg (engBase f + d) = s.reg (engBase f + d)
  status : s.engState e ≠ 2 → t.reg (engBase e + 4) = s.reg (engBase e + 4) ∧ t.engine e = s.engine e

namespace EngineKept

variable {e : Nat} {s t u : State}

theorem status_getF (h : EngineKept e s t) (hs : s.engState e ≠ 2) (f : Fld) (hf : f.addr = engBase e + 4) : t.getF f = s.getF f := by
  rw [State.getF, State.getF, hf, (h.status hs).1]

theorem engState (h : EngineKept e s t) (hs : s.engState e ≠ 2) : t.engState e = s.engState e := h.status_getF hs _ rfl

theorem bank (h : EngineKept e s t) (hs : s.engState e ≠ 2) : t.bank e = s.bank e := by
  rw [State.bank, State.flag, h.status_getF hs (ENG_STAT.BANK e) rfl, (h.status hs).2]
  rfl

theorem taskEng (h : EngineKept e s t) (n : Nat) : t.taskEng n = s.taskEng n := by
  have hrole : ∀ f < 18, t.getF (ENG_ROLE.LOGICAL f) = s.getF (ENG_ROLE.LOGICAL f) := fun f hf => by
    rw [State.getF, State.getF, show (ENG_ROLE.LOGICAL f).addr = engBase f + 8 from rfl, h.regs f 8 hf (by decide) (by decide)]
  have hphys : ∀ le, t.physOf le = s.physOf le := fun le => by
    refine List.find?_congr fun f hf => ?_
    rw [hrole f (List.mem_range.1 hf)]
  simp only [State.taskEng, h.recasts, State.task, h.cs, hphys]
  rfl

theorem runningOn (h : EngineKept e s t) (hs : s.engState e ≠ 2) : Machine.runningOn e t = Machine.runningOn e s := by
  simp only [Machine.runningOn, hasOld, h.engState hs, h.cs, h.taskEng, (h.status hs).2, h.status_getF hs (ENG_STAT.TASK e) rfl]
  rfl

theorem resumeEngine_aside (f : Nat) (s : State) : (resumeEngine f s).cs = s.cs ∧ (resumeEngine f s).take = s.take := by
  unfold resumeEngine
  dsimp only
  split <;> simp only [State.setF, State.setReg, State.onRegs_cs, State.onRegs_take, State.onEng_cs, State.onEng_take, and_self]

theorem collectorRel (he : e < 18) : CollectorRel (EngineKept e) where
  trans h k := by
    refine ⟨k.cs.trans h.cs, k.recasts.trans h.recasts, fun f d hf hd hd' => (k.regs f d hf hd hd').trans (h.regs f d hf hd hd'),
      fun hs => ?_⟩
    have ht := k.status (by rw [h.engState hs]; exact hs)
    have hst := h.status hs
    exact ⟨ht.1.trans hst.1, ht.2.trans hst.2⟩
  aside {s t} h := by
    have hreg : ∀ f d, f < 18 → d < 0x1000 → 4 ≤ d → t.reg (engBase f + d) = s.reg (engBase f + d) := by
      intro f d hf hd h4
      have hregs : collectorRegs = [0x4, 0x74, 0x90040, 0x90044, 0x90048, 0x9004C, 0x90050, 0xC0004] := rfl
      refine h.reg _ ?_ ?_ fun _ => ?_ <;> simp only [hregs, mgmtTx, List.mem_cons, List.not_mem_nil, or_false, engBase] <;>
        split <;> omega
    exact ⟨h.part .cs (by decide), by rw [show t.take = s.take from h.part .take (by decide)],
      fun f d hf hd hd' => hreg f d hf (by omega) (by omega),
      fun _ => ⟨hreg e 4 he (by decide) (by decide), by rw [State.engine, show t.eng = s.eng from h.part .eng (by decide)]; rfl⟩⟩
  take s f hf := ⟨rfl, hf, fun _ _ _ _ _ => rfl, fun _ => ⟨rfl, rfl⟩⟩
  sticky s k b hk hb := by
    have hreg : ∀ f d, f < 18 → d < 0x1000 → (s.orF (FLT_STICKY.BITS k) (2 ^ b)).reg (engBase f + d) = s.reg (engBase f + d) := fun f d hf hd =>
      State.reg_setF_other _ _ _ _ (by simp only [FLT_STICKY.BITS, engBase]; split <;> omega)
    exact ⟨rfl, rfl, fun f d hf _ hd => hreg f d hf (by omega), fun _ => ⟨hreg e 4 he (by decide), rfl⟩⟩
  resume s f hf := by
    obtain ⟨hcs, htake⟩ := resumeEngine_aside f s
    have hreg : ∀ g d, g < 18 → d < 0x1000 → (g ≠ f ∨ 8 ≤ d) → (resumeEngine f s).reg (engBase g + d) = s.reg (engBase g + d) := by
      intro g d hg hd hne
      by_cases hgf : g = f
      · subst hgf
        exact reg_resumeEngine_other g _ s (by omega) (by omega)
      · exact reg_resumeEngine_other f _ s (engBase_disjoint hf hg hgf d 0 hd (by decide)) (engBase_disjoint hf hg hgf d 4 hd (by decide))
    refine ⟨hcs, by rw [htake], fun g d hg hd hd' => hreg g d hg (by omega) (.inr hd), fun hs => ?_⟩
    by_cases hfe : e = f
    · subst hfe
      rw [resumeEngine_of_running hs]
      exact ⟨State.reg_setF_other _ _ _ _ (show engBase e + 4 ≠ engBase e by omega), by simp only [State.engine, State.setF, State.setReg, State.onRegs_eng]⟩
    · exact ⟨hreg e 4 he (by decide) (.inl hfe), engine_resumeEngine_other s hfe⟩

theorem count (he : e < 18) (t : State) : EngineKept e t (t.incF FLT_COUNT.COUNT 1) := by
  have hreg : ∀ f d, f < 18 → d < 0x1000 → (t.incF FLT_COUNT.COUNT 1).reg (engBase f + d) = t.reg (engBase f + d) := fun f d hf hd =>
    State.reg_setF_other _ _ _ _ (by simp only [FLT_COUNT.COUNT, engBase]; split <;> omega)
  exact ⟨rfl, rfl, fun f d hf _ hd => hreg f d hf (by omega), fun _ => ⟨hreg e 4 he (by decide), rfl⟩⟩

/-- The end of a cycle leaves that of an engine. -/
theorem of_settle (he : e < 18) (s : State) (hw : ∀ m ∈ s.flt.wire, m.src < 256) : EngineKept e s (settle s) :=
  (collectorRel he).settle (count he) s hw

end EngineKept

/-! #### What a corrected word changes -/

/-- Sources of messages are 8 bits wide (R673). -/
def SourcesFit (s : State) : Prop := ∀ m ∈ s.flt.wire, m.src < 256

theorem SourcesFit.raise {s : State} (h : SourcesFit s) {src : Nat} (hsrc : src < 256) (kind addr : Nat) :
    SourcesFit (Machine.raise src kind addr s) := fun m hm => by
  rcases List.mem_append.1 hm with hm | hm
  · exact h m hm
  · rw [List.mem_singleton.1 hm]
    exact hsrc

theorem SourcesFit.congr {s t : State} (h : SourcesFit s) (hf : t.flt = s.flt) : SourcesFit t := by
  rw [SourcesFit, hf]
  exact h

theorem Quiet.sourcesFit {s : State} (h : Quiet s) : SourcesFit s := fun m hm => by simp [h.1] at hm

/-- A corrected word changes memory, the memory system and its registers, counters and `as`, and may send a message or a record. -/
structure Repairs (as : List Nat) (s t : State) : Prop where
  kept : Kept [.mem, .fab, .flt] [8, 0xB] as s t
  fits : SourcesFit s → SourcesFit t

namespace Repairs

variable {as : List Nat} {s t u : State}

theorem refl (as : List Nat) (s : State) : Repairs as s s := ⟨.refl _ _ _ _, id⟩

theorem trans (h : Repairs as s t) (k : Repairs as t u) : Repairs as s u := ⟨h.kept.trans k.kept, k.fits ∘ h.fits⟩

/-- A step that sends nothing. -/
theorem silent (h : Kept [.mem, .fab] [8, 0xB] as s t) : Repairs as s t :=
  ⟨h.mono (by decide) (by simp) (by simp), fun hs => hs.congr (h.part .flt (by decide))⟩

theorem ite (c : Prop) [Decidable c] {x y : State} (hx : Repairs as s x) (hy : Repairs as s y) : Repairs as s (if c then x else y) := by
  split
  · exact hx
  · exact hy

theorem startReplace (row : Nat) (s : State) : Repairs as s (Machine.startReplace row s) := by
  unfold Machine.startReplace
  refine .ite _ (.refl _ _) (.ite _ (.ite _ (.refl _ _) ?_) (.silent (((Kept.refl _ _ _ s).onFab _).setF _ _ (.inl (by decide)))))
  refine (silent ((Kept.refl _ _ _ s).onFab _)).trans ⟨(Kept.refl _ _ _ _).raise _ _ _, fun h => h.raise (by decide) _ _⟩

theorem wearBump (row k : Nat) (s : State) : Repairs as s (Machine.wearBump row k s).2 := by
  have hcount : ∀ f, Repairs as s (s.onFab f) := fun f => silent ((Kept.refl _ _ _ s).onFab _)
  have hstored : ∀ (c : Prop) [Decidable c] f g, Repairs as s (if c then (s.onFab f).onFab g else s.onFab f) := fun c _ f g =>
    .ite _ ((hcount f).trans (silent ((Kept.refl _ _ _ _).onFab _))) (hcount f)
  unfold Machine.wearBump
  exact .ite _ ((hstored _ _ _).trans (startReplace _ _)) (hstored _ _ _)

theorem countG (evt k : Nat) (s : State) : Repairs as s (Machine.countG evt k s) := silent ((Kept.refl _ _ _ s).countG _ _)

theorem wearAdd (row k : Nat) (s : State) : Repairs as s (Machine.wearAdd row k s) := by
  unfold Machine.wearAdd
  have hrow := wearBump (as := as) row k s
  refine .ite _ hrow ?_
  have hstored := (hrow.trans (countG 0x32 1 _)).trans (wearBump (wearRow row) 1 _)
  exact .ite _ hstored ((hstored.trans (countG 0x32 1 _)).trans (wearBump _ 1 _))

theorem mramDword (off : Nat) (lo hi : Word) (s : State) : Repairs as s (Machine.mramDword off lo hi s) := by
  unfold Machine.mramDword
  refine .ite _ (silent ((Kept.refl _ _ _ s).onFab _)) ?_
  have hwords : Repairs as s ((s.setWord (mramBase + off) lo).setWord (mramBase + off + 4) hi) :=
    silent ((writeWords_keeps [lo, hi] (mramBase + off) s).mono (by decide) (by simp) (by simp))
  exact (hwords.trans (countG 0x32 1 _)).trans (wearAdd _ 1 _)

theorem mramWrite : ∀ (ws : List Word) (off : Nat) (s : State), Repairs as s (Machine.mramWrite off ws s)
  | [], _, _ => refl _ _
  | [_], _, _ => mramDword _ _ _ _
  | _ :: _ :: ws, off, _ => (mramDword off _ _ _).trans (mramWrite ws (off + 8) _)

theorem record (code : Nat) (l : List Nat) (s : State) : Repairs as s (logEvent code l s) :=
  ⟨(Kept.refl _ _ _ s).logEvent code l, fun h => h⟩

theorem writeRepair (es : List (List Word)) (s : State) : Repairs as s (Machine.writeRepair es s) := by
  unfold Machine.writeRepair
  dsimp only
  have hwritten := mramWrite (as := as) (repWords (s.fab.repSeq + 1) es) (repCopy (!s.flag REP_STAT.COPY)) s
  generalize Machine.mramWrite (repCopy (!s.flag REP_STAT.COPY)) (repWords (s.fab.repSeq + 1) es) s = t at hwritten ⊢
  exact hwritten.trans
    (silent ((((Kept.refl _ _ _ t).onFab _).setF REP_STAT.COPY _ (.inl (by decide))).setF REP_STAT.ENTRIES _ (.inl (by decide))))

theorem addRepair (e : List Word) (s : State) : Repairs as s (Machine.addRepair e s) :=
  .ite _ (refl _ _) ((writeRepair (s.fab.repair ++ [e]) s).trans (record 0xE9 (e.map (·.toNat)) _))

theorem fieldRepair (inst row : Nat) (s : State) : Repairs as s (Machine.fieldRepair inst row s) := by
  unfold Machine.fieldRepair
  refine .ite _ (refl _ _) ?_
  exact ((silent ((Kept.refl _ _ _ s).onFab _)).trans (addRepair _ _)).trans
    (silent ((Kept.refl _ _ _ _).incF REP_STAT.PENDING 1 (.inl (by decide))))

theorem rowFixed (inst row : Nat) (s : State) : Repairs as s (Machine.rowFixed inst row s) :=
  have hnoted := fun f => silent (as := as) ((Kept.refl _ _ _ s).onFab f)
  .ite _ ((hnoted _).trans (fieldRepair _ _ _)) (hnoted _)

theorem engFixed {e : Nat} (he : e < 18) (task : Nat) (w : SramRow) (s : State) :
    Repairs [engBase e + 0x1C] s (Machine.engFixed e task w s) :=
  (silent (((Kept.refl _ _ _ s).incF (ENG_ECC.CORR e) 1 (.inr List.mem_cons_self)).countE he (by decide) 0x14 1 task)).trans
    (rowFixed w.inst w.row _)

theorem eccNote {e : Nat} (he : e < 18) (n : Nat) (ecc : EccHit) (s : State) : Repairs [engBase e + 0x1C] s (Machine.eccNote e n ecc s) := by
  unfold Machine.eccNote
  split
  · exact foldl_keeps (Repairs [engBase e + 0x1C]) (refl _) (fun _ _ _ => trans) _ (fun t w => engFixed he _ w t) _ _
  · exact refl _ _

end Repairs

/-- A corrected word changes the engine's count of corrected words alone. -/
theorem EngineKept.of_repairs {e : Nat} (he : e < 18) {s t : State} (h : Repairs [engBase e + 0x1C] s t) : EngineKept e s t := by
  have hreg : ∀ f d, f < 18 → 4 ≤ d → d < 0x1C → t.reg (engBase f + d) = s.reg (engBase f + d) := by
    intro f d hf hd hd'
    refine h.kept.reg _ ?_ ?_ (by simp)
    · unfold engBase
      split <;> simp <;> omega
    · by_cases hfe : f = e
      · subst hfe
        simpa using hd'.ne
      · simpa using engBase_disjoint he hf hfe d 0x1C (by omega) (by decide)
  exact ⟨h.kept.part .cs (by decide), by rw [show t.take = s.take from h.kept.part .take (by decide)],
    fun f d hf hd hd' => hreg f d hf (by omega) hd',
    fun _ => ⟨hreg e 4 he (by decide) (by decide), by rw [State.engine, show t.eng = s.eng from h.kept.part .eng (by decide)]; rfl⟩⟩

/-! #### Frames of the engines and the Call Sheet -/

section

variable {ps : List Part} {pg as : List Nat} {s t : State}

theorem Kept.onEngine (e : Nat) (f : EngU → EngU) (h : Kept ps pg as s t) (hp : .eng ∈ ps := by decide) :
    Kept ps pg as s (Machine.onEngine e f t) := h.onEng _ hp

theorem Kept.onBank (e : Nat) (f : Bank → Bank) (h : Kept ps pg as s t) (hp : .eng ∈ ps := by decide) :
    Kept ps pg as s (Machine.onBank e f t) := by
  unfold Machine.onBank
  exact h.onEngine _ _ hp

theorem Kept.onTask (n : Nat) (f : TaskD → TaskD) (h : Kept ps pg as s t) (hp : .cs ∈ ps := by decide) :
    Kept ps pg as s (Machine.onTask n f t) := h.onCs _ hp

end

/-! #### What a stopping exception does -/

section

variable {e n k pc : Nat} {s : State}

theorem noteExc_keeps (e n k pc : Nat) (s : State) :
    Kept [] [] [engBase e + 0x14, engBase e + 0x18] s (noteExc e n k pc s) := by
  have hkinds : Kept [] [] [engBase e + 0x14, engBase e + 0x18] s (s.orF (ENG_EXC.KINDS e) (2 ^ k)) :=
    (Kept.refl _ _ _ s).orF _ _ (.inr List.mem_cons_self)
  have hinfo : ∀ f : Fld, f.addr = engBase e + 0x18 → f.addr / 65536 ∈ [] ∨ f.addr ∈ [engBase e + 0x14, engBase e + 0x18] :=
    fun f hf => .inr (by simp [hf])
  exact Kept.ite _ (fun _ => ((hkinds.setF (ENG_EXCINFO.TASK e) _ (hinfo _ rfl)).setF (ENG_EXCINFO.KIND e) _ (hinfo _ rfl)).setF
    (ENG_EXCINFO.PC e) _ (hinfo _ rfl)) (fun _ => hkinds)

theorem kinds_orF (e k : Nat) (hk : k < 6) (s : State) : bitOf ((s.orF (ENG_EXC.KINDS e) (2 ^ k)).getF (ENG_EXC.KINDS e)) k = true := by
  rw [State.orF, State.getF_setF_same _ _ _ (by simp [ENG_EXC.KINDS]), bitOf_eq_testBit, Nat.testBit_mod_two_pow, Nat.testBit_or,
    Nat.testBit_two_pow_self]
  simp [ENG_EXC.KINDS, hk]

/-- A noted exception sets its bit; the first one is recorded (R141, R151). -/
theorem noteExc_notes (e n pc : Nat) (hk : k < 6) (s : State) : bitOf ((noteExc e n k pc s).getF (ENG_EXC.KINDS e)) k = true
    ∧ (s.getF (ENG_EXC.KINDS e) = 0 → (noteExc e n k pc s).getF (ENG_EXCINFO.KIND e) = k
      ∧ (noteExc e n k pc s).getF (ENG_EXCINFO.PC e) = pc % 2 ^ 14 ∧ (noteExc e n k pc s).getF (ENG_EXCINFO.TASK e) = n % 4096) := by
  have hother : ∀ (f : Fld) (v : Nat) (t : State), f.addr = engBase e + 0x18 → (t.setF f v).getF (ENG_EXC.KINDS e) = t.getF (ENG_EXC.KINDS e) :=
    fun f v t hf => State.getF_setF_other _ _ _ _ (by rw [hf]; simp [ENG_EXC.KINDS])
  have hbit := kinds_orF e k hk s
  unfold noteExc
  generalize s.orF (ENG_EXC.KINDS e) (2 ^ k) = t at hbit ⊢
  dsimp only
  split
  · refine ⟨?_, fun _ => ⟨?_, ?_, ?_⟩⟩
    · rw [hother _ _ _ rfl, hother _ _ _ rfl, hother _ _ _ rfl]
      exact hbit
    · rw [State.getF_setF_disjoint _ _ _ _ (by simp [ENG_EXCINFO.KIND]) (.inr (by simp [ENG_EXCINFO.KIND, ENG_EXCINFO.PC])),
        State.getF_setF_same _ _ _ (by simp [ENG_EXCINFO.KIND])]
      exact Nat.mod_eq_of_lt (by simp [ENG_EXCINFO.KIND]; omega)
    · exact State.getF_setF_same _ _ _ (by simp [ENG_EXCINFO.PC])
    · rw [State.getF_setF_disjoint _ _ _ _ (by simp [ENG_EXCINFO.TASK]) (.inr (by simp [ENG_EXCINFO.TASK, ENG_EXCINFO.PC])),
        State.getF_setF_disjoint _ _ _ _ (by simp [ENG_EXCINFO.TASK]) (.inr (by simp [ENG_EXCINFO.TASK, ENG_EXCINFO.KIND])),
        State.getF_setF_same _ _ _ (by simp [ENG_EXCINFO.TASK])]
      exact Nat.mod_eq_of_lt (Nat.mod_lt _ (by decide))
  · next hfirst => exact ⟨hbit, fun h => absurd (by simpa using h) hfirst⟩

/-! #### The stores that an engine has issued -/

/-- Byte `a` lies in no word that a store writes. -/
def Misses (a : Nat) (u : StoreOp) : Prop := ∀ d ∈ u.cells.map (·.1), a < d ∨ d + 4 ≤ a

theorem storeCells_keeps (o : Option StoreOp) (s : State) : Kept [.mem] [] [] s (storeCells o s) := by
  unfold storeCells
  split
  · exact .refl _ _ _ _
  · exact Kept.foldl _ (fun t (c : Nat × Word) => writeWords_keeps [c.2] c.1 t) _ _

theorem byte_storeCells_other {a : Nat} (o : Option StoreOp) (s : State) (h : ∀ u ∈ o.toList, Misses a u) :
    (storeCells o s).byte a = s.byte a := by
  cases o with
  | none => rfl
  | some u =>
    have hcells : ∀ (l : List (Nat × Word)) (t : State), (∀ c ∈ l, a < c.1 ∨ c.1 + 4 ≤ a) →
        (l.foldl (fun s c => s.setWord c.1 c.2) t).byte a = t.byte a := by
      intro l
      induction l with
      | nil => exact fun _ _ => rfl
      | cons c l ih =>
        intro t hl
        rw [List.foldl_cons, ih _ fun x hx => hl x (List.mem_cons_of_mem _ hx)]
        exact State.byte_setWord_other _ _ _ _ (hl c List.mem_cons_self)
    exact hcells _ _ fun c hc => h u (by simp) c.1 (List.mem_map_of_mem hc)

theorem storesOf_keeps (l : List StoreOp) (s : State) : Kept [.mem] [] [] s (l.foldl (fun s x => storeCells (some x) s) s) :=
  Kept.foldl _ (fun t x => storeCells_keeps (some x) t) _ _

theorem byte_storesOf_other {a : Nat} : ∀ (l : List StoreOp) (s : State), (∀ u ∈ l, Misses a u) →
    (l.foldl (fun s x => storeCells (some x) s) s).byte a = s.byte a := by
  intro l
  induction l with
  | nil => exact fun _ _ => rfl
  | cons u l ih =>
    intro s h
    rw [List.foldl_cons, ih _ fun x hx => h x (List.mem_cons_of_mem _ hx), byte_storeCells_other _ _ fun x hx => ?_]
    rw [Option.mem_toList] at hx
    exact Option.some.inj hx ▸ h u List.mem_cons_self

theorem byte_onEngine (f : Nat) (g : EngU → EngU) (s : State) (a : Nat) : (onEngine f g s).byte a = s.byte a := rfl

theorem flushStores_keeps (e : Nat) (s : State) : Kept [.mem, .eng] [] [] s (flushStores e s) := by
  have hmem : ∀ {t u : State}, Kept [.mem] [] [] t u → Kept [.mem, .eng] [] [] t u := fun h => h.mono (by simp) (by simp) (by simp)
  unfold flushStores
  exact (((((hmem (storeCells_keeps _ s)).trans (hmem (storeCells_keeps _ _))).trans (hmem (storesOf_keeps _ _))).trans
    (hmem (storesOf_keeps _ _))).trans (hmem (storesOf_keeps _ _))).onEng _

theorem byte_flushStores_other {a : Nat} (e : Nat) (s : State) (h : ∀ u ∈ (s.engine e).bufX.toList ++ (s.engine e).bufY.toList
    ++ (s.engine e).st1 ++ (s.engine e).st2 ++ (s.engine e).st3, Misses a u) : (flushStores e s).byte a = s.byte a := by
  simp only [List.mem_append] at h
  unfold flushStores
  dsimp only
  rw [byte_onEngine, byte_storesOf_other _ _ fun u hu => h u (.inl (.inl (.inr hu))),
    byte_storesOf_other _ _ fun u hu => h u (.inl (.inr hu)), byte_storesOf_other _ _ fun u hu => h u (.inr hu),
    byte_storeCells_other _ _ fun u hu => h u (.inl (.inl (.inl (.inr hu)))),
    byte_storeCells_other _ _ fun u hu => h u (.inl (.inl (.inl (.inl hu))))]

/-! #### The end of a running task -/

theorem engState_setF_state (e v : Nat) (hv : v < 8) (s : State) : (s.setF (ENG_STAT.STATE e) v).engState e = v :=
  (State.getF_setF_same s (ENG_STAT.STATE e) v (by simp [ENG_STAT.STATE])).trans (Nat.mod_eq_of_lt hv)

/-- A vacated engine is IDLE where it was not HALTED (R138). -/
theorem vacate_of_running (h : s.engState e ≠ 2) : ∃ t, Kept [.mem, .eng] [] [] s t
    ∧ (∀ a, (∀ u ∈ (s.engine e).bufX.toList ++ (s.engine e).bufY.toList ++ (s.engine e).st1 ++ (s.engine e).st2 ++ (s.engine e).st3,
      Misses a u) → t.byte a = s.byte a)
    ∧ vacate e s = t.setF (ENG_STAT.STATE e) 0 := by
  have hk : Kept [.mem, .eng] [] [] s (onEngine e (fun u => { u with hist := [], arithSent := false })
      (onBank e (fun _ => Bank.empty) (flushStores e s))) := ((flushStores_keeps e s).onBank e _).onEngine e _
  have hbyte : ∀ a, (onEngine e (fun u => { u with hist := [], arithSent := false })
      (onBank e (fun _ => Bank.empty) (flushStores e s))).byte a = (flushStores e s).byte a := fun _ => rfl
  refine ⟨_, hk, fun a ha => (hbyte a).trans (byte_flushStores_other e s ha), ?_⟩
  unfold vacate
  refine if_neg ?_
  rw [State.engState, State.getF, hk.reg _ (by simp) (by simp) (by simp)]
  exact h

theorem afterEnd_keeps (e : Nat) (s : State) : Kept [.cs, .eng] [] [] s (afterEnd e s) := by
  unfold afterEnd
  split
  · exact .refl _ _ _ _
  · split
    · exact .refl _ _ _ _
    · exact ((Kept.refl [.cs, .eng] [] [] s).onCs _).onEngine _ _

theorem outputsDue_keeps (n : Nat) (s : State) : Kept [.cs] [] [] s (outputsDue n s) :=
  Kept.ite _ (fun _ => (Kept.refl [.cs] [] [] s).onTask _ _) (fun _ => (Kept.refl [.cs] [] [] s).onCs _)

/-- A running task that has ended leaves its engine IDLE (R197, R220). -/
theorem endRunning_idle (stopped : Bool) (h : s.engState e ≠ 2) :
    Kept [.mem, .eng, .cs] [] [engBase e + 4] s (endRunning e n stopped s) ∧ (endRunning e n stopped s).engState e = 0
    ∧ ∀ a, (∀ u ∈ (s.engine e).bufX.toList ++ (s.engine e).bufY.toList ++ (s.engine e).st1 ++ (s.engine e).st2 ++ (s.engine e).st3,
      Misses a u) → (endRunning e n stopped s).byte a = s.byte a := by
  obtain ⟨t, hst, hbytes, hvac⟩ := vacate_of_running h
  have hk : Kept [.cs, .eng] [] [] (t.setF (ENG_STAT.STATE e) 0) (endRunning e n stopped s) := by
    unfold endRunning
    rw [hvac]
    have hcs : ∀ {u v : State}, Kept [.cs] [] [] u v → Kept [.cs, .eng] [] [] u v := fun h => h.mono (by simp) (by simp) (by simp)
    exact (hcs (((Kept.refl _ _ _ _).onTask _ _).trans ((outputsDue_keeps _ _).onCs _))).trans (afterEnd_keeps _ _)
  have hset : Kept [.mem, .eng, .cs] [] [engBase e + 4] s (t.setF (ENG_STAT.STATE e) 0) :=
    (hst.mono (by simp) (by simp) (by simp)).setF (ENG_STAT.STATE e) 0 (.inr List.mem_cons_self)
  refine ⟨hset.trans (hk.mono (by simp) (by simp) (by simp)), ?_, fun a ha => ?_⟩
  · rw [State.engState, State.getF, hk.reg _ (by simp) (by simp) (by simp)]
    exact engState_setF_state e 0 (by decide) t
  · rw [State.byte, show (endRunning e n stopped s).mem = (t.setF (ENG_STAT.STATE e) 0).mem from hk.part .mem (by simp), State.setF_mem]
    exact hbytes a ha

end

/-! #### A stopping exception -/

section

variable {e n k : Nat} {y : State}

theorem tagCount_keeps (e : Nat) (r : TagRec) (s : State) : Kept [.pcn] [] [] s (tagCount e r s) := by
  have hite : ∀ (c : Prop) [Decidable c] (f g : PcnU → PcnU) (t : State), Kept [.pcn] [] [] s t →
      Kept [.pcn] [] [] s (if c then (t.onPcn f).onPcn g else t.onPcn f) := fun c _ f g t ht =>
    Kept.ite _ (fun _ => (ht.onPcn f).onPcn g) (fun _ => ht.onPcn f)
  exact Kept.ite _ (fun _ => .refl _ _ _ _)
    (fun _ => hite _ _ _ _ (Kept.ite _ (fun _ => .refl _ _ _ _) (fun _ => (Kept.refl _ _ _ s).onPcn _)))

/-- The stopped instruction is counted and tagged (R139, R691, R697). -/
def stopCounted (e n k pc : Nat) (s : State) : State :=
  tagCount e ⟨n % 4096, pc, 0, 0, true, true⟩ (countE e 0x04 (goneAt k) (n % 4096) (countE e 0x03 1 (n % 4096) s))

/-- Its exception is recorded and reported (R140, R141). -/
def stopNoted (e n k pc : Nat) (s : State) : State := raise 0x11 k (engAddr n e k) (noteExc e n k pc (stopCounted e n k pc s))

theorem stopTask_of_running (hrun : runningOn e y = some n) (hk : k ≠ 5) :
    stopTask e k y = quarantine n (endRunning e n true (stopNoted e n k (y.pcOf e) y)) := by
  unfold stopTask stopAt
  rw [hrun]
  exact if_neg hk

theorem stopCounted_keeps (he : e < 18) (pc : Nat) : Kept [.pcn] [0xB] [] y (stopCounted e n k pc y) :=
  (((Kept.refl [.pcn] _ _ y).countE he (by decide) 0x03 1 (n % 4096)).countE he (by decide) 0x04 (goneAt k) (n % 4096)).trans
    ((tagCount_keeps e _ _).mono (by simp) (by simp) (by simp))

theorem noted_keeps (he : e < 18) (pc : Nat) :
    Kept [.pcn] [0xB] [engBase e + 0x14, engBase e + 0x18] y (noteExc e n k pc (stopCounted e n k pc y)) :=
  ((stopCounted_keeps he pc).mono (by simp) (by simp) (by simp)).trans ((noteExc_keeps e n k pc _).mono (by simp) (by simp) (by simp))

theorem stopNoted_keeps (he : e < 18) (pc : Nat) :
    Kept [.pcn, .flt] [0xB] [engBase e + 0x14, engBase e + 0x18] y (stopNoted e n k pc y) :=
  ((noted_keeps he pc).mono (by simp) (by simp) (by simp)).raise _ _ _

theorem stopNoted_wire (he : e < 18) (pc : Nat) (hy : SourcesFit y) :
    SourcesFit (stopNoted e n k pc y) ∧ ∃ m ∈ (stopNoted e n k pc y).flt.wire, m.src = 0x11 :=
  ⟨(hy.congr ((noted_keeps he pc).part .flt (by decide))).raise (by decide) _ _,
    ⟨_, List.mem_append_right _ (List.mem_singleton_self _), rfl⟩⟩

/-- A stopped task: its engine is IDLE, its stores have completed, its exception is noted (R139 to R141, R151). -/
theorem stopTask_stops (he : e < 18) (hk : k < 5) (hrun : runningOn e y = some n) (hstate : y.engState e = 1) (hy : SourcesFit y) :
    (stopTask e k y).engState e = 0
    ∧ (∀ f : Fld, f.addr = engBase e + 0x14 ∨ f.addr = engBase e + 0x18 →
      (stopTask e k y).getF f = (noteExc e n k (y.pcOf e) (stopCounted e n k (y.pcOf e) y)).getF f)
    ∧ (∀ a, (∀ u ∈ (y.engine e).bufX.toList ++ (y.engine e).bufY.toList ++ (y.engine e).st1 ++ (y.engine e).st2 ++ (y.engine e).st3,
      Misses a u) → (stopTask e k y).byte a = y.byte a)
    ∧ SourcesFit (stopTask e k y) ∧ ∃ m ∈ (stopTask e k y).flt.wire, m.src = 0x11 := by
  have hpages : (engBase e + 4) / 65536 ∉ [0xB] := (engBase_lt he).1
  have hyw := stopNoted_keeps (n := n) (k := k) (y := y) he (y.pcOf e)
  have hwire := stopNoted_wire (n := n) (k := k) he (y.pcOf e) hy
  have hregs : ∀ a, (stopNoted e n k (y.pcOf e) y).reg a = (noteExc e n k (y.pcOf e) (stopCounted e n k (y.pcOf e) y)).reg a := fun _ => rfl
  rw [stopTask_of_running hrun (by omega)]
  generalize stopNoted e n k (y.pcOf e) y = w at hyw hwire hregs ⊢
  have hwstate : w.engState e ≠ 2 := by
    rw [State.engState, State.getF, hyw.reg (ENG_STAT.STATE e).addr hpages (by simp [ENG_STAT.STATE]) (by simp)]
    exact fun h => absurd (hstate.symm.trans h) (by decide)
  obtain ⟨hwz, hidle, hbytes⟩ := endRunning_idle (n := n) true hwstate
  have hflt : (quarantine n (endRunning e n true w)).flt = w.flt := hwz.part .flt (by decide)
  refine ⟨hidle, fun f hf => ?_, fun a ha => ?_, hwire.1.congr hflt, by rw [hflt]; exact hwire.2⟩
  · rw [State.getF, State.getF, ← hregs]
    refine congrArg (fun v : Word => v.toNat / _ % _) (hwz.reg f.addr (by simp) ?_ (by simp))
    rcases hf with hf | hf <;> simp [hf]
  · have heng : w.engine e = y.engine e := by rw [State.engine, show w.eng = y.eng from hyw.part .eng (by decide)]; rfl
    have hmem : w.byte a = y.byte a := by rw [State.byte, show w.mem = y.mem from hyw.part .mem (by decide)]; rfl
    exact (hbytes a (by rw [heng]; exact ha)).trans hmem

theorem stopTask_excepts (he : e < 18) (hk : k < 5) (hrun : runningOn e y = some n) (hstate : y.engState e = 1) (hy : SourcesFit y) :
    Excepts k e (settle y) (settle (stopTask e k y)) := by
  obtain ⟨hidle, hexc, hbytes, hfits, m, hm, hsrc⟩ := stopTask_stops he hk hrun hstate hy
  obtain ⟨hbit, hinfo⟩ := noteExc_notes (k := k) e n (y.pcOf e) (by omega) (stopCounted e n k (y.pcOf e) y)
  have hnot2 : y.engState e ≠ 2 := by rw [hstate]; decide
  have hys := EngineKept.of_settle he y hy
  generalize stopTask e k y = z at *
  have hzt := EngineKept.of_settle he z hfits
  have hznot2 : z.engState e ≠ 2 := by rw [hidle]; decide
  have hsettled : ∀ f : Fld, f.addr = engBase e + 0x14 ∨ f.addr = engBase e + 0x18 →
      (settle z).getF f = (noteExc e n k (y.pcOf e) (stopCounted e n k (y.pcOf e) y)).getF f := fun f hf => by
    rw [← hexc f hf, State.getF, State.getF]
    rcases hf with hf | hf
    · rw [hf, hzt.regs e 0x14 he (by decide) (by decide)]
    · rw [hf, hzt.regs e 0x18 he (by decide) (by decide)]
  have hkinds : (stopCounted e n k (y.pcOf e) y).getF (ENG_EXC.KINDS e) = (settle y).getF (ENG_EXC.KINDS e) := by
    have hpage : (engBase e + 0x14) / 65536 ∉ [0xB] := by
      unfold engBase
      split <;> simp <;> omega
    rw [State.getF, State.getF, show (ENG_EXC.KINDS e).addr = engBase e + 0x14 from rfl, hys.regs e 0x14 he (by decide) (by decide),
      (stopCounted_keeps he _).reg _ hpage (by simp) (by simp)]
  refine ⟨?_, fun hnone => ?_, ⟨?_, settle_wire _⟩, ⟨(hzt.engState hznot2).trans hidle, ?_⟩, fun a ha => ?_⟩
  · rw [hsettled _ (.inl rfl)]
    exact hbit
  · obtain ⟨hkind, hpc, htask⟩ := hinfo (hkinds.trans hnone)
    rw [hsettled _ (.inr rfl), hsettled _ (.inr rfl), hsettled _ (.inr rfl), hkind, hpc, htask, State.pcOf, State.pcOf, hys.bank hnot2,
      hys.runningOn hnot2, hrun]
    exact ⟨rfl, rfl, rfl⟩
  · have hsticky := sticky_settle hm hfits
    rw [hsrc] at hsticky
    exact hsticky
  · rw [hzt.runningOn hznot2, runningOn, if_neg (by rw [hidle]; simp)]
  · rw [byte_settle _ _ hfits, byte_settle _ _ hy]
    exact hbytes a (by rw [← (hys.status hnot2).2]; exact ha)

end

/-! #### Instructions that stop -/

section

variable {e n : Nat} {ecc : EccHit} {s : State}

/-- Where an instruction is fetched, its corrected words leave the engine's task and state. -/
theorem eccNote_running (hstate : s.engState e = 1) (he : e < 18) (hrun : runningOn e s = some n) (hq : Quiet s) :
    runningOn e (eccNote e n ecc s) = some n ∧ (eccNote e n ecc s).engState e = 1 ∧ SourcesFit (eccNote e n ecc s) := by
  have hr : Repairs [engBase e + 0x1C] s (eccNote e n ecc s) := .eccNote he n ecc s
  have hk := EngineKept.of_repairs he hr
  have hnot2 : s.engState e ≠ 2 := by rw [hstate]; decide
  exact ⟨(hk.runningOn hnot2).trans hrun, (hk.engState hnot2).trans hstate, hr.fits hq.sourcesFit⟩

/-- A stopped instruction raises its exception. -/
theorem stopTask_after_eccNote {k : Nat} (hk : k < 5) (hstate : s.engState e = 1) (he : e < 18) (hrun : runningOn e s = some n)
    (hq : Quiet s) : Excepts k e (eccNoted e ecc s) (settle (stopTask e k (eccNote e n ecc s))) := by
  obtain ⟨hrun', hstate', hfits⟩ := eccNote_running (ecc := ecc) hstate he hrun hq
  rw [eccNoted, hrun]
  exact stopTask_excepts he hk hrun' hstate' hfits

theorem issues_iff {opc : Nat} : issues opc e s = true ↔
    e < 18 ∧ s.engState e = 1 ∧ (runningOn e s).isSome = true ∧ insOpc (engWord e s) = opc := by
  simp [issues, and_assoc]

theorem runShort_illegal {d : OpDef} (hissue : issues d.opc e s = true) (hrun : runningOn e s = some n) (hf : fetchBad ecc = none)
    (hl : shortLegal d e s = false) : runShort d e ecc s = stopTask e 2 (eccNote e n ecc s) := by
  unfold runShort
  rw [if_neg (by simp [hissue]), hrun]
  dsimp only
  rw [hf]
  exact if_pos (by rw [Bool.not_eq_true']; exact hl)

theorem runShort_outOfRange {d : OpDef} (hissue : issues d.opc e s = true) (hrun : runningOn e s = some n) (hf : fetchBad ecc = none)
    (hl : shortLegal d e s = true) (hr : shortInRange d e s = false) : runShort d e ecc s = stopTask e 1 (eccNote e n ecc s) := by
  unfold runShort
  rw [if_neg (by simp [hissue]), hrun]
  dsimp only
  rw [hf]
  refine (if_neg (by rw [Bool.not_eq_true', Bool.not_eq_false]; exact hl)).trans (if_pos ?_)
  rw [Bool.not_eq_true']
  exact hr

end

/-- A short-format row runs its operation where an instruction of its opcode is issued. -/
theorem exec_shortRow {x : (Nat → EccHit → Instr) × OpDef} (hx : x ∈ shortRows) {e : Nat} {ecc : EccHit} {s : State}
    (hissue : issues x.2.opc e s = true) : exec (x.1 e ecc) s = finish (runShort x.2 e ecc s) := by
  have hrest : ∀ y ∈ shortRows.tail, exec (y.1 e ecc) s = finish (runShort y.2 e ecc s) := by
    refine List.forall_iff_forall_mem.1 ?_
    repeat' apply And.intro
    all_goals rfl
  rcases List.mem_cons.1 hx with rfl | hx
  · obtain ⟨-, -, -, hopc⟩ := issues_iff.1 hissue
    refine congrArg finish (if_neg ?_)
    rw [hopc]
    simp [opNop]
  · exact hrest x hx

/-- An access out of range of an otherwise legal instruction raises ADDR (R103). -/
theorem shortRow_outOfRange : ∀ x ∈ shortRows, ∀ (e : Nat) (ecc : EccHit) (s : State), issues x.2.opc e s = true →
    (runningOn e s).isSome = true → fetchBad ecc = none → Quiet s → shortLegal x.2 e s = true →
    ((moveX e s).used = true ∧ 0x1FFF < ((s.bank e).field (cCUR (moveX e s).csr)).toNat
      ∨ (moveY e s).used = true ∧ 0x4FFF < ((s.bank e).field (cCUR (moveY e s).csr)).toNat
      ∨ (moveY e s).op = 2 ∧ ((s.bank e).field (cCUR (moveY e s).csr)).toNat < 0x4000
      ∨ ∃ isY, x.2.reads (insOpnd (engWord e s)) = some isY
          ∧ ∃ a ∈ x.2.addrs (insOpnd (engWord e s)) (s.bank e), (if isY then 0x4FFF else 0x1FFF) < a) →
    ∃ t, exec (x.1 e ecc) s = .next t ∧ Excepts 1 e (eccNoted e ecc s) t := by
  intro x hx e ecc s hissue hrun hf hq hlegal hout
  obtain ⟨n, hn⟩ := Option.isSome_iff_exists.1 hrun
  obtain ⟨he, hstate, -, -⟩ := issues_iff.1 hissue
  have hrange : shortInRange x.2 e s = false := by
    rcases hout with ⟨hu, hx⟩ | ⟨hu, hy⟩ | ⟨hop, hy⟩ | ⟨isY, hown, a, ha, hlarge⟩
    · have : accessOk false ((moveX e s).op = 2) ((s.bank e).field (cCUR (moveX e s).csr)).toNat = false := by
        simpa [accessOk] using hx
      simp [shortInRange, this, hu]
    · have : accessOk true ((moveY e s).op = 2) ((s.bank e).field (cCUR (moveY e s).csr)).toNat = false := by
        simp [accessOk]
        omega
      simp [shortInRange, this, hu]
    · have : accessOk true ((moveY e s).op = 2) ((s.bank e).field (cCUR (moveY e s).csr)).toNat = false := by
        simp [accessOk, hop, hy]
      have hu : (moveY e s).used = true := by simp [Move.used, hop]
      simp only [shortInRange, this, hu, Bool.not_true, Bool.or_self, Bool.and_false, Bool.false_and]
    · have : accessOk isY false a = false := by
        cases isY <;> simp [accessOk] at hlarge ⊢ <;> omega
      have hnot : ((x.2.addrs (insOpnd (engWord e s)) (s.bank e)).all fun a => accessOk isY false a && (!isY || 0x4000 ≤ a)) = false :=
        List.all_eq_false.2 ⟨a, ha, by simp [this]⟩
      simp only [shortInRange, hown, hnot, Bool.and_false]
  refine ⟨_, exec_shortRow hx hissue, ?_⟩
  rw [runShort_outOfRange hissue hn hf hlegal hrange]
  exact stopTask_after_eccNote (by decide) hstate he hn hq

/-- Two moves with one cursor raise ILLEGAL (R115). -/
theorem shortRow_sameCursor : ∀ x ∈ shortRows, ∀ (e : Nat) (ecc : EccHit) (s : State), issues x.2.opc e s = true →
    (runningOn e s).isSome = true → fetchBad ecc = none → Quiet s → (moveX e s).used = true → (moveY e s).used = true →
    (moveX e s).csr = (moveY e s).csr → ∃ t, exec (x.1 e ecc) s = .next t ∧ Excepts 2 e (eccNoted e ecc s) t := by
  intro x hx e ecc s hissue hrun hf hq hux huy hcsr
  obtain ⟨n, hn⟩ := Option.isSome_iff_exists.1 hrun
  obtain ⟨he, hstate, -, -⟩ := issues_iff.1 hissue
  have hmoves : movesLegal (moveX e s) (moveY e s) (x.2.writes (insOpnd (engWord e s))) = false := by
    simp [movesLegal, hux, huy, hcsr]
  have hlegal : shortLegal x.2 e s = false := by
    simp [shortLegal, hmoves]
  refine ⟨_, exec_shortRow hx hissue, ?_⟩
  rw [runShort_illegal hissue hn hf hlegal]
  exact stopTask_after_eccNote (by decide) hstate he hn hq

/-! #### The call stack -/

/-- An instruction's work on the memories, the counters and the Call Sheet leaves the active bank of engine `e`. -/
structure BankStays (e : Nat) (s t : State) : Prop where
  kept : Kept [.mem, .eng, .cs, .pcn] [0xB] [] s t
  bank : t.bank e = s.bank e

namespace BankStays

variable {e : Nat} {s t u : State}

theorem refl (e : Nat) (s : State) : BankStays e s s := ⟨.refl _ _ _ _, rfl⟩

theorem trans (h : BankStays e s t) (k : BankStays e t u) : BankStays e s u := ⟨h.kept.trans k.kept, k.bank.trans h.bank⟩

theorem ite (c : Prop) [Decidable c] {x y : State} (hx : BankStays e s x) (hy : BankStays e s y) : BankStays e s (if c then x else y) := by
  split
  · exact hx
  · exact hy

theorem aside (he : e < 18) (h : Kept [.mem, .cs, .pcn] [0xB] [] s t) : BankStays e s t := by
  refine ⟨h.mono (by decide) (by simp) (by simp), ?_⟩
  rw [State.bank, State.flag, State.getF, show t.reg (ENG_STAT.BANK e).addr = _ from h.engStat he (by simp), State.engine, show t.eng = s.eng from h.part .eng (by decide)]
  rfl

theorem onEngine (f : EngU → EngU) (hf : ∀ u, (f u).bank0 = u.bank0 ∧ (f u).bank1 = u.bank1) (s : State) :
    BankStays e s (Machine.onEngine e f s) := by
  refine ⟨(Kept.refl _ _ _ s).onEngine _ _, ?_⟩
  have heng : (Machine.onEngine e f s).engine e = f (s.engine e) := by
    simp only [State.engine, Machine.onEngine, State.onEng_eng, getD_putNth, if_pos]
  have hflag : (Machine.onEngine e f s).flag (ENG_STAT.BANK e) = s.flag (ENG_STAT.BANK e) := rfl
  rw [State.bank, heng, hflag, (hf _).1, (hf _).2]
  rfl

theorem storeCells (he : e < 18) (o : Option StoreOp) (s : State) : BankStays e s (Machine.storeCells o s) :=
  aside he ((storeCells_keeps o s).mono (by simp) (by simp) (by simp))

theorem drainBuf (he : e < 18) (isY : Bool) (s : State) : BankStays e s (Machine.drainBuf e isY s) :=
  have hbufY := onEngine (e := e) (fun u => { u with bufY := none }) (fun _ => ⟨rfl, rfl⟩)
  have hbufX := onEngine (e := e) (fun u => { u with bufX := none }) (fun _ => ⟨rfl, rfl⟩)
  .ite _ ((storeCells he _ s).trans (hbufY _)) ((storeCells he _ s).trans (hbufX _))

theorem putBuf (isY : Bool) (o : Option StoreOp) (s : State) : BankStays e s (Machine.putBuf e isY o s) :=
  onEngine _ (fun _ => by cases isY <;> exact ⟨rfl, rfl⟩) s

theorem memBefore_idle (he : e < 18) (isY : Bool) (s : State) : BankStays e s (memBefore e isY false s) := by
  unfold memBefore
  refine .ite _ (.ite _ (drainBuf he _ _) (refl _ _)) (.ite _ ?_ (storeCells he _ _))
  split
  · exact (drainBuf he _ _).trans (putBuf _ _ _)
  · exact drainBuf he _ _

theorem idleMem (he : e < 18) (k : Nat) (s : State) : BankStays e s (Machine.idleMem e k s) :=
  .ite _ (refl _ _) ((drainBuf he false s).trans (drainBuf he true _))

theorem pushStores (sts : List StoreOp) (s : State) : BankStays e s (Machine.pushStores e sts s) := by
  unfold Machine.pushStores
  refine onEngine _ (fun _ => ?_) s
  exact ⟨rfl, rfl⟩

theorem pushHist (p : List Produced) (s : State) : BankStays e s (Machine.pushHist e p s) := by
  unfold Machine.pushHist
  refine onEngine _ (fun _ => ?_) s
  exact ⟨rfl, rfl⟩

theorem countE (he : e < 18) (evt k task : Nat) (s : State) : BankStays e s (Machine.countE e evt k task s) :=
  aside he ((Kept.refl _ _ _ s).countE he (by decide) evt k task)

theorem retire (he : e < 18) (n pc : Nat) (exc : Bool) (stall kind buf more : Nat) (s : State) :
    BankStays e s (Machine.retire e n pc exc stall kind buf more s) := by
  have hcharge : BankStays e s (chargeTask n (1 + stall + buf + more) s) := by
    unfold chargeTask addLoad
    exact aside he (((Kept.refl [.mem, .cs, .pcn] [0xB] [] s).onTask _ _).onCs _)
  have htag : ∀ r t, BankStays e t (tagCount e r t) := fun r t => aside he ((tagCount_keeps e r t).mono (by simp) (by simp) (by simp))
  exact ((((hcharge.trans (htag _ _)).trans (countE he _ _ _ _)).trans (countE he _ _ _ _)).trans (countE he _ _ _ _)).trans (countE he _ _ _ _)

end BankStays

theorem bank_onBank (e : Nat) (f : Bank → Bank) (s : State) : (onBank e f s).bank e = f (s.bank e) := by
  have hflag : (onBank e f s).flag (ENG_STAT.BANK e) = s.flag (ENG_STAT.BANK e) := rfl
  have heng : (onBank e f s).engine e = if s.flag (ENG_STAT.BANK e) then { s.engine e with bank1 := f (s.engine e).bank1 }
      else { s.engine e with bank0 := f (s.engine e).bank0 } := by
    simp only [onBank, State.engine, onEngine, State.onEng_eng, getD_putNth, if_pos]
  rw [State.bank, State.bank, hflag, heng]
  cases s.flag (ENG_STAT.BANK e) <;> rfl

section

variable {e n o opc : Nat} {ecc : EccHit} {s : State}

/-- A long-format instruction that is legal and raises STACK or LOOP. -/
theorem runLong_raises {legal : Nat → Bank → Bool} {uses : Nat → List (Nat × Nat)} {exc : Nat → Bank → Option Nat}
    {eff : Nat → Nat → Bank → LongEff} {k : Nat} (hr : RunsLong opc e n o ecc s) (hlegal : legal o (s.bank e) = true)
    (hend : atLoopEnd (s.pcOf e) (s.bank e).loops = false) (hexc : exc o (s.bank e) = some k) :
    runLong opc true legal uses exc eff e ecc s = stopTask e k (eccNote e n ecc s) := by
  obtain ⟨hissue, hrun, ho, hf, -⟩ := hr
  subst ho
  unfold runLong
  rw [if_neg (by simp [hissue]), hrun]
  dsimp only
  rw [hf]
  refine (if_neg ?_).trans ?_
  · rw [hlegal, show atLoopEnd (s.bank e).pc (s.bank e).loops = false from hend]
    simp
  · rw [hexc]

/-- A legal control instruction that branches leaves its effect's bank (R192, R194). -/
theorem runLong_branches {legal : Nat → Bank → Bool} {uses : Nat → List (Nat × Nat)} {exc : Nat → Bank → Option Nat}
    {eff : Nat → Nat → Bank → LongEff} (hr : RunsLong opc e n o ecc s) (hlegal : legal o (s.bank e) = true)
    (hend : atLoopEnd (s.pcOf e) (s.bank e).loops = false) (hexc : exc o (s.bank e) = none)
    (htaken : ∀ m, (eff o m (s.bank e)).taken = true) :
    ∃ m, (runLong opc true legal uses exc eff e ecc s).bank e = (eff o m (s.bank e)).bank
      ∧ Kept [.mem, .eng, .cs, .pcn] [0xB] [] (eccNote e n ecc s) (runLong opc true legal uses exc eff e ecc s) := by
  obtain ⟨hissue, hrun, ho, hf, -⟩ := hr
  obtain ⟨he, -, -, -⟩ := issues_iff.1 hissue
  subst ho
  unfold runLong
  rw [if_neg (by simp [hissue]), hrun]
  dsimp only
  rw [hf]
  dsimp only
  rw [if_neg (by rw [hlegal, show atLoopEnd (s.bank e).pc (s.bank e).loops = false from hend]; simp), hexc]
  dsimp only
  rw [htaken]
  simp only [Bool.not_true, Bool.false_and, Bool.true_or, Bool.false_eq_true, if_false, if_true]
  generalize eccNote e n ecc s = y
  refine ⟨(y.task n).laneMask, ?_⟩
  have hbefore := fun k => (((BankStays.idleMem he k y).trans (.memBefore_idle he false _)).trans (.memBefore_idle he true _)).trans
    (.pushStores [] _)
  have hbehind := fun (t : State) (k : Nat) (p : List Produced) (st : Nat × Nat) => (((((BankStays.pushHist p t).trans
    (.idleMem he k _)).trans (.retire he n (s.bank e).pc false st.1 st.2 0 k _)).trans (.countE he 0x04 2 (n % 4096) _)).trans
    (.countE he 0x0A 1 (n % 4096) _))
  exact ⟨(hbehind _ _ _ _).bank.trans (bank_onBank _ _ _), ((hbefore _).kept.onBank _ _).trans (hbehind _ _ _ _).kept⟩

theorem runCall_stack (hr : RunsLong 0x34 e n o ecc s) (ho : o < 2 ^ 14) (hend : atLoopEnd (s.pcOf e) (s.bank e).loops = false) :
    ((s.bank e).stack.length < 4 → ((settle (runCall e ecc s)).bank e).stack = (s.pcOf e + 1) % 2 ^ 14 :: (s.bank e).stack)
    ∧ ((s.bank e).stack.length = 4 → Excepts 3 e (eccNoted e ecc s) (settle (runCall e ecc s))) := by
  obtain ⟨hissue, hrun, -, -, hq⟩ := id hr
  obtain ⟨he, hstate, -, -⟩ := issues_iff.1 hissue
  refine ⟨fun hroom => ?_, fun hfull => ?_⟩
  · obtain ⟨-, hstate', hfits⟩ := eccNote_running (ecc := ecc) hstate he hrun hq
    obtain ⟨m, hbank, hk⟩ : ∃ m, _ ∧ Kept [.mem, .eng, .cs, .pcn] [0xB] [] (eccNote e n ecc s) (runCall e ecc s) :=
      runLong_branches hr (by simpa using ho) hend (if_neg (by omega)) fun _ => rfl
    have hkept := EngineKept.of_settle he (runCall e ecc s) (hfits.congr (hk.part .flt (by decide)))
    have hstateC : (runCall e ecc s).engState e = 1 := by
      rw [State.engState, State.getF, show (runCall e ecc s).reg (ENG_STAT.STATE e).addr = _ from hk.engStat he (by simp)]
      exact hstate'
    rw [hkept.bank (by rw [hstateC]; decide), runCall, hbank]
    rfl
  · rw [runCall, runLong_raises (k := 3) hr (by simpa using ho) hend (by simp [hfull])]
    exact stopTask_after_eccNote (by decide) hstate he hrun hq

/-- RET with an empty stack raises STACK (R194). -/
theorem ret_empty (e n o : Nat) (ecc : EccHit) (s : State) (hr : RunsLong 0x35 e n o ecc s) (ho : o = 0)
    (hend : atLoopEnd (s.pcOf e) (s.bank e).loops = false) (hempty : (s.bank e).stack = []) :
    ∃ t, exec (.insRet e ecc) s = .next t ∧ Excepts 3 e (eccNoted e ecc s) t := by
  obtain ⟨hissue, hrun, -, -, hq⟩ := id hr
  obtain ⟨he, hstate, -, -⟩ := issues_iff.1 hissue
  refine ⟨settle (runRet e ecc s), rfl, ?_⟩
  rw [runRet, runLong_raises (k := 3) hr (by simpa using ho) hend (by simp [hempty])]
  exact stopTask_after_eccNote (by decide) hstate he hrun hq

end

/-- Settles O6: an instruction that stops its task raises its exception, and CALL pushes its return address. -/
theorem engineExceptions : Obligations.EngineExceptions :=
  ⟨shortRow_outOfRange, shortRow_sameCursor,
    fun _ _ _ _ _ hr ho hend => ⟨_, rfl, runCall_stack hr ho hend⟩, ret_empty⟩

end Sys2Proof
end

section
/-! ### A staged entry of an engine beyond the eighteen (O37) -/

namespace Sys2Proof

open Machine

/-- Engine 0, idle, holds two banks that differ in their pc. The dissolve in progress has a recast of logical engine 0 whose target number,
1008, is none of the 18 engines: the performance counters of an engine of that number would stand at the addresses of the status registers
of engine 0. Counter 1 of 1008, which is ENG_STAT of engine 0, selects the event of a corrected word (0x14). The IN list of task 0, with a
BUF entry of one lane, is served. -/
def recastBeyondEngines : State :=
  { State.reset with
    regs := [((ENG_STAT.BANK 0).addr, 0x0F), ((PCN_ESEL.EVT 1008 1).addr, 0x14)]
    eng := { EngU.reset with bank1 := { Bank.empty with pc := 1 } } :: List.replicate 17 EngU.reset
    cs := { CsU.reset with staging := [⟨0, 0, 0, 2⟩], serving := some 0, xfer := [(0, (wd (7 * 2 ^ 28 + 2 ^ 21), 0))] }
    take := { TakeU.reset with dissRecasts := [⟨0, 0, 1008, false⟩] } }

/-- The entry's lane is read with a corrected word. -/
def meetsCorrectedWord : EntryMeet := ⟨[⟨0, ⟨0, 0, true⟩⟩], [], 0⟩

/-- The pc in the active bank of engine `f` in the outcome's next state. -/
def bankPcAfter (f : Nat) (o : Host.Outcome State Fault Refusal) : Option Nat :=
  match o with
  | .next t => some (t.bank f).pc
  | _ => none

/-- The counters of an engine 1008 stand on the status of engine 0. -/
theorem counter_on_engStat : (PCN_ECNT.COUNT 1008 1).addr = (ENG_STAT.BANK 0).addr := by decide

/-- Logical engine 0 is served. -/
theorem served_recastBeyondEngines : recastBeyondEngines.served = some 0 := by decide

/-- The first entry of the IN list of task 0 is the next one. -/
theorem nextStaging_recastBeyondEngines : nextStaging 0 recastBeyondEngines = some ⟨0, 0, 0, 2⟩ := by decide

/-- The active bank of engine 0 is bank 0. -/
theorem bankPc_recastBeyondEngines : (recastBeyondEngines.bank 0).pc = 0 := by decide

set_option maxRecDepth 100000 in
/-- The corrected word is counted in counter 1 of the engine 1008: BANK of engine 0 rises from 0 to 1. -/
theorem bankPcAfter_stagingEntryLand :
    bankPcAfter 0 (exec (.stagingEntryLand 0 meetsCorrectedWord) recastBeyondEngines) = some 1 := by decide

/-- Refutes O37: the first clause keeps the active bank of every engine in every quiet state, without a premise that the engine of the entry's
task is one of the 18. Where a recast names one beyond them, the count of a word corrected there (R112, R691) falls on ENG_STAT of engine 0
and turns its BANK. -/
theorem not_callSheetEvents : ¬ Obligations.CallSheetEvents := by
  unfold Obligations.CallSheetEvents
  rintro ⟨hland, -⟩
  obtain ⟨t, ht, -, -, -, hbanks⟩ := hland 0 meetsCorrectedWord _ recastBeyondEngines ⟨rfl, rfl⟩ (by decide) served_recastBeyondEngines
    nextStaging_recastBeyondEngines
  have hkept : (t.bank 0).pc = 0 := (congrArg Bank.pc (hbanks 0 (by decide))).trans bankPc_recastBeyondEngines
  have hturned := bankPcAfter_stagingEntryLand
  rw [ht] at hturned
  exact absurd (hkept.symm.trans (Option.some.inj hturned)) (by decide)

end Sys2Proof
end

section
/-! ### A corrected word in the fetch of an ADD, AND, NOP or BRA ends MAINTENANCE (O30, O31, O33, O34) -/

namespace Sys2Proof

open Machine

/-- MAINTENANCE on the worn row of the eMRAM, with another instruction in place of the ACLR that engine 0 fetches next: opcode `opc`, with
every other bit 0. Engine 1 is halted in a task. -/
def maintenanceFetching (opc : Nat) : State := maintenanceOnWornRow.setWord (engWin 0 + 4) (wd (opc * 2 ^ 26))

/-- Whatever engine 0 fetches, engine 1 is halted in a task before the step. -/
theorem haltedRun_maintenanceFetching (opc : Nat) : ((maintenanceFetching opc).engine 1).haltedRun = true := rfl

/-- The frame of an instruction of engine 0 keeps a halted run of engine 1. -/
theorem not_engFrame_of_resumed {ecc : EccHit} {s t : State} {o : Host.Outcome State Fault Refusal} (ho : o = .next t)
    (hhalted : (s.engine 1).haltedRun = true) (hresumed : haltedRunAfter 1 o = false) : ¬ EngFrame 0 ecc s t := fun hframe => by
  subst ho
  have hkept : haltedRunAfter 1 (.next t) = true := (congrArg EngU.haltedRun (hframe.engines 1 (by decide))).trans hhalted
  exact Bool.false_ne_true (hresumed.symm.trans hkept)

/-! #### Each instruction is legal, and its step lets engine 1 run on -/

set_option maxRecDepth 100000 in
theorem runs_add : Runs opAdd 0 0 0 (.corrected [⟨0, 0⟩]) (maintenanceFetching 0x0E) := by decide

set_option maxRecDepth 100000 in
theorem haltedRunAfter_add : haltedRunAfter 1 (exec (.insAdd 0 (.corrected [⟨0, 0⟩])) (maintenanceFetching 0x0E)) = false := by decide

set_option maxRecDepth 100000 in
theorem runs_and : Runs opAnd 0 0 0 (.corrected [⟨0, 0⟩]) (maintenanceFetching 0x12) := by decide

set_option maxRecDepth 100000 in
theorem haltedRunAfter_and : haltedRunAfter 1 (exec (.insAnd 0 (.corrected [⟨0, 0⟩])) (maintenanceFetching 0x12)) = false := by decide

set_option maxRecDepth 100000 in
theorem runs_nop : Runs opNop 0 0 0 (.corrected [⟨0, 0⟩]) (maintenanceFetching 0x00) := by decide

set_option maxRecDepth 100000 in
theorem haltedRunAfter_nop : haltedRunAfter 1 (exec (.insNop 0 (.corrected [⟨0, 0⟩])) (maintenanceFetching 0x00)) = false := by decide

set_option maxRecDepth 100000 in
theorem runsLong_bra : RunsLong 0x31 0 0 0 (.corrected [⟨0, 0⟩]) (maintenanceFetching 0x31) := by decide

set_option maxRecDepth 100000 in
theorem atLoopEnd_bra : atLoopEnd ((maintenanceFetching 0x31).pcOf 0) ((maintenanceFetching 0x31).bank 0).loops = false := by decide

set_option maxRecDepth 100000 in
theorem haltedRunAfter_bra : haltedRunAfter 1 (exec (.insBra 0 (.corrected [⟨0, 0⟩])) (maintenanceFetching 0x31)) = false := by decide

/-! #### The refutations -/

/-- Refutes O30: an ADD whose fetch corrects a word leads to the fault message of a worn row (R579, R607), whose reaction SAFE ends
MAINTENANCE (R660) and with it the halt of engine 1 (R147). The frame says that every other engine is as it was. -/
theorem not_engineArithmetic : ¬ Obligations.EngineArithmetic := by
  unfold Obligations.EngineArithmetic
  rintro ⟨hadd, -⟩
  obtain ⟨t, ht, -, -, -, hframe⟩ := hadd 0 0 0 (.corrected [⟨0, 0⟩]) (maintenanceFetching 0x0E) runs_add
  exact not_engFrame_of_resumed ht (haltedRun_maintenanceFetching _) haltedRunAfter_add hframe

/-- Refutes O31 with an AND whose fetch corrects a word and so ends MAINTENANCE: its frame keeps the halt of engine 1, the step ends it. -/
theorem not_engineLogicAndShifts : ¬ Obligations.EngineLogicAndShifts := by
  unfold Obligations.EngineLogicAndShifts
  rintro ⟨hand, -⟩
  obtain ⟨t, ht, -, -, -, hframe⟩ := hand 0 0 0 (.corrected [⟨0, 0⟩]) (maintenanceFetching 0x12) runs_and
  exact not_engFrame_of_resumed ht (haltedRun_maintenanceFetching _) haltedRunAfter_and hframe

/-- Refutes O33 with a NOP whose fetch corrects a word and so ends MAINTENANCE: its frame keeps the halt of engine 1, the step ends it. -/
theorem not_engineSpecialAndCursors : ¬ Obligations.EngineSpecialAndCursors := by
  unfold Obligations.EngineSpecialAndCursors
  rintro ⟨hnop, -⟩
  obtain ⟨t, ht, -, -, hframe⟩ := hnop 0 0 0 (.corrected [⟨0, 0⟩]) (maintenanceFetching 0x00) runs_nop
  exact not_engFrame_of_resumed ht (haltedRun_maintenanceFetching _) haltedRunAfter_nop hframe

/-- Refutes O34 with a BRA whose fetch corrects a word and so ends MAINTENANCE: its frame keeps the halt of engine 1, the step ends it. -/
theorem not_engineControlFlow : ¬ Obligations.EngineControlFlow := by
  unfold Obligations.EngineControlFlow
  rintro ⟨-, hbra, -⟩
  obtain ⟨t, ht, -, -, -, -, hframe⟩ := hbra 0 0 0 (.corrected [⟨0, 0⟩]) (maintenanceFetching 0x31) runsLong_bra (by decide) atLoopEnd_bra
  exact not_engFrame_of_resumed ht (haltedRun_maintenanceFetching _) haltedRunAfter_bra hframe

end Sys2Proof
end

section
/-! ### A slate graph that no longer fits after a reserve is raised (O10) -/

namespace Sys2Proof

open Machine

/-- The descriptor of a task of logical engine 0, due in every shot, with budget `b` and empty lists (R202). -/
def taskOfBudget (b : Nat) : TaskD := slateTask [0x00000100, 0, wd b, 1, 0, 0, 0, 0]

/-- STANDBY, SPI open, logical engine 0 on physical engine 0. -/
def standbyServed : State := ((State.reset.setF SYS_MODE.MODE 2).setF CMD_CTRL.SPI_EN 1).setF (ENG_ROLE.LOGICAL 0) 0

/-- The reserve stands at its reset value of 25 percent, so that A is 153,600 (R244): tasks 3 and 4 stand in the slate graph and cost
150,104, which fits (R236). -/
def admittedSlate : State := onTask 4 (fun _ => taskOfBudget 150000) (onTask 3 (fun _ => taskOfBudget 100) standbyServed)

/-- The host has raised the reserve to 50 percent, so that A is 102,400: that asks for the fit of the live tasks alone (R244), and none
is live. -/
def reserveRaised : State := writeReserve 50 admittedSlate

/-- The header of a TASK_DROP on SPI. -/
def taskDropHdr : CmdHdr := ⟨2, 5, 7, false⟩

/-- Is task `n` in the slate graph of the outcome's next state? -/
def slateHolds (n : Nat) (o : Host.Outcome State Fault Refusal) : Bool :=
  match o with
  | .next t => (t.task n).slate
  | _ => false

set_option maxRecDepth 100000 in
/-- The TASK_DROP of task 3 comes to its checks. -/
theorem taskDrop_ready : Ready 258 taskDropHdr [3] reserveRaised := by decide

set_option maxRecDepth 100000 in
/-- Task 3 as it was written. -/
theorem task_reserveRaised : reserveRaised.task 3 = taskOfBudget 100 := by decide

set_option maxRecDepth 100000 in
/-- No take is pending that a change of the slate could break (R312). -/
theorem breaksTake_reserveRaised (t : State) : breaksTake reserveRaised t = false := by
  have hnone : reserveRaised.take.pending = none := by decide
  rw [breaksTake, hnone]

set_option maxRecDepth 100000 in
/-- What is left of the slate graph without task 3 does not fit A either, so the TASK_DROP is refused with NOHEADROOM. -/
theorem slateHolds_taskDrop : slateHolds 3 (exec (.taskDrop taskDropHdr [3]) reserveRaised) = true := by decide

/-- Refutes O10: a TASK_DROP that leaves a slate graph over A is refused with NOHEADROOM as every slate write is (R236), and its tasks stay.
The clause has no premise that what is left fits; once the reserve has been raised over a slate graph, as R244 allows, it need not. -/
theorem not_slateGraphCommands : ¬ Obligations.SlateGraphCommands := by
  unfold Obligations.SlateGraphCommands
  rintro ⟨-, hdrop, -⟩
  obtain ⟨t, ht, -, hfree, -⟩ := hdrop taskDropHdr [3] reserveRaised taskDrop_ready rfl
    (by simp [task_reserveRaised, taskOfBudget, slateTask]) (breaksTake_reserveRaised _)
  have hstays : slateHolds 3 (.next t) = true := ht ▸ slateHolds_taskDrop
  have hgone : t.task 3 = TaskD.free := by
    simpa [task_reserveRaised, taskOfBudget, slateTask, TaskD.free] using hfree 3 (by simp)
  simp only [slateHolds, hgone] at hstays
  exact absurd hstays (by decide)

end Sys2Proof
end

section
/-! ### Reserved bits of a register outlast a write (O25) -/

namespace Sys2Proof

open Machine

/-- The access table's row of `SPL_CTRL`: ZSKIP is its only bit that a write changes. -/
def splCtrlRow : RegRow := ⟨0x40000, 1, 0x4, 1, 0x4, 0x1, 0x1, 0x0, 0x0, 0x0⟩

/-- ZSKIP_WRITE writes `SPL_CTRL` under its access codes (R9, R285). -/
theorem exec_zskipWrite (on : Bool) (s : State) (ho : s.hostOpen = true) (hq : Quiet s) :
    exec (.zskipWrite on) s = .next (s.setReg 0x40000 (genValue splCtrlRow (s.reg 0x40000) (wd (b2n on)))) := by
  have hrow : regRow 0x40000 = some splCtrlRow := rfl
  have hslot : writeReg 0x40000 (wd (b2n on)) s = genWrite 0x40000 (wd (b2n on)) s := by
    unfold writeReg
    rw [if_neg (by simp [ho]), if_neg (by simp [hrow])]
    rfl
  show finish (writeReg 0x40000 (wd (b2n on)) s) = _
  rw [hslot, genWrite_of_row hrow]
  exact finish_of_quiet (((Kept.refl [] [] [0x40000] s).setReg _ _).quiet (by decide) hq)

/-- RUN, with a reserved bit of `SPL_CTRL` at 1. -/
def reservedBitSet : State := (State.reset.setF SYS_MODE.MODE 4).setReg 0x40000 2

/-- Refutes O25: a write leaves the bits of a register that have no write access (R9), so that a reserved bit of `SPL_CTRL` at 1 outlasts a
write of ZSKIP. The clause says that the whole register becomes ZSKIP alone, and no premise says that reserved bits are 0 (R13). -/
theorem not_registerWritesOfSystemUnits : ¬ Obligations.RegisterWritesOfSystemUnits := by
  unfold Obligations.RegisterWritesOfSystemUnits
  rintro ⟨-, -, -, -, hzskip, -⟩
  have hopen : reservedBitSet.hostOpen = true := by decide
  have hquiet : Quiet reservedBitSet := ⟨rfl, rfl⟩
  obtain ⟨t, ht, hzero, -⟩ := hzskip false reservedBitSet hopen hquiet
  obtain rfl := Host.Outcome.next.inj ((exec_zskipWrite false _ hopen hquiet).symm.trans ht)
  rw [State.reg_setReg_same] at hzero
  exact absurd hzero (by decide)

end Sys2Proof
end

section
/-! ### XP_SET, XP_ROW and PATCH_SET (O14) -/

namespace Sys2Proof

open Machine

/-! #### Entries of a sparse list, written and taken out -/

section

variable {α : Type}

theorem entryOf_cons (c : Nat × α) (l : List (Nat × α)) (k : Nat) : entryOf (c :: l) k = if c.1 = k then some c.2 else entryOf l k := by
  by_cases h : c.1 = k <;> simp [entryOf, h]

theorem entryOf_keyPut (k : Nat) (v : α) (j : Nat) (l : List (Nat × α)) :
    entryOf (keyPut k v l) j = if k = j then some v else entryOf l j := by
  induction l with
  | nil => exact entryOf_cons (k, v) [] j
  | cons c l ih =>
    rw [keyPut]
    rcases lt_trichotomy k c.1 with hlt | heq | hgt
    · rw [if_pos hlt, entryOf_cons]
    · rw [if_neg heq.not_lt, if_pos heq, entryOf_cons, entryOf_cons, ← heq]
      split_ifs <;> rfl
    · rw [if_neg hgt.not_gt, if_neg hgt.ne', entryOf_cons, ih, entryOf_cons]
      split_ifs with hc hk
      · exact absurd (hk.trans hc.symm) hgt.ne'
      all_goals rfl

theorem entryOf_filter_ne (k j : Nat) (l : List (Nat × α)) :
    entryOf (l.filter fun c => c.1 ≠ k) j = if k = j then none else entryOf l j := by
  induction l with
  | nil => simp [entryOf]
  | cons c l ih =>
    by_cases hc : c.1 = k
    · rw [List.filter_cons_of_neg (by simpa using hc), ih, entryOf_cons, hc]
      split_ifs <;> rfl
    · rw [List.filter_cons_of_pos (by simpa using hc), entryOf_cons, ih, entryOf_cons]
      split_ifs with hj hk
      · exact absurd (hj.trans hk.symm) hc
      all_goals rfl

/-- An entry put into the list adds at most one to those that satisfy `q`. -/
theorem length_filter_keyPut_le (q : Nat × α → Bool) (k : Nat) (v : α) (l : List (Nat × α)) :
    ((keyPut k v l).filter q).length ≤ (l.filter q).length + 1 := by
  have hfront : ∀ l : List (Nat × α), ((k, v) :: l).countP q ≤ l.countP q + 1 := fun l => by
    rw [List.countP_cons]
    split <;> omega
  simp only [← List.countP_eq_length_filter]
  induction l with
  | nil => exact hfront []
  | cons c l ih =>
    rw [keyPut]
    split_ifs
    · exact hfront _
    · exact (hfront l).trans (Nat.succ_le_succ (List.sublist_cons_self c l).countP_le)
    · rw [List.countP_cons, List.countP_cons]
      omega

/-- The entry of key `k` put in with `some v`, taken out with `none`. -/
def writeEntry (k : Nat) (o : Option α) (l : List (Nat × α)) : List (Nat × α) :=
  match o with
  | some v => keyPut k v l
  | none => l.filter fun c => c.1 ≠ k

theorem entryOf_writeEntry (k : Nat) (o : Option α) (j : Nat) (l : List (Nat × α)) :
    entryOf (writeEntry k o l) j = if k = j then o else entryOf l j := by
  cases o with
  | some v => exact entryOf_keyPut k v j l
  | none => exact entryOf_filter_ne k j l

theorem length_filter_writeEntry_le (q : Nat × α → Bool) (k : Nat) (o : Option α) (l : List (Nat × α)) :
    ((writeEntry k o l).filter q).length ≤ (l.filter q).length + 1 := by
  cases o with
  | some v => exact length_filter_keyPut_le q k v l
  | none => exact (List.filter_sublist.filter q).length_le.trans (Nat.le_succ _)

/-- Entries written in list order (R66, R260, R298). -/
def writeEntries (ws : List (Nat × Option α)) (l : List (Nat × α)) : List (Nat × α) := ws.foldl (fun l w => writeEntry w.1 w.2 l) l

/-- A key that no write names keeps its entry. -/
theorem entryOf_writeEntries_of_unnamed {k : Nat} {ws : List (Nat × Option α)} (h : ∀ w ∈ ws, w.1 ≠ k) (l : List (Nat × α)) :
    entryOf (writeEntries ws l) k = entryOf l k := by
  induction ws generalizing l with
  | nil => rfl
  | cons w ws ih =>
    obtain ⟨hw, hws⟩ := List.forall_mem_cons.1 h
    exact (ih hws _).trans ((entryOf_writeEntry _ _ _ _).trans (if_neg hw))

/-- The last write that names a key decides its entry. -/
theorem entryOf_writeEntries_of_last {ws : List (Nat × Option α)} {i : Nat} (hi : i < ws.length)
    (hlast : ∀ j (hj : j < ws.length), i < j → ws[j].1 ≠ ws[i].1) (l : List (Nat × α)) :
    entryOf (writeEntries ws l) ws[i].1 = ws[i].2 := by
  induction ws generalizing i l with
  | nil => exact absurd hi (Nat.not_lt_zero i)
  | cons w ws ih =>
    cases i with
    | zero =>
      have hlater : ∀ x ∈ ws, x.1 ≠ w.1 := fun x hx => by
        obtain ⟨j, hj, rfl⟩ := List.getElem_of_mem hx
        exact hlast (j + 1) (Nat.succ_lt_succ hj) (Nat.succ_pos j)
      exact (entryOf_writeEntries_of_unnamed hlater _).trans ((entryOf_writeEntry _ _ _ _).trans (if_pos rfl))
    | succ i => exact ih (Nat.lt_of_succ_lt_succ hi) (fun j hj hij => hlast (j + 1) (Nat.succ_lt_succ hj) (Nat.succ_lt_succ hij)) _

end

/-! #### Crosspoints -/

/-- The slate entry that a write of `x` leaves: none where the target is the live one (R261). -/
def xpEntry (s : State) (x : Nat × SlateGain) : Nat × Option SlateGain := (x.1, if x.2.gain = xpLive x.1 s then none else some x.2)

/-- The matrix with the crosspoints `l` written into the slate. -/
def xpWritten (l : List (Nat × Nat × SlateGain)) (s : State) : SplU :=
  { s.spl with slate := writeEntries (l.map fun x => xpEntry s x.2) s.spl.slate }

theorem xpWrite_eq (k : Nat) (g : SlateGain) (s : State) :
    xpWrite k g s = s.onSpl fun u => { u with slate := writeEntry k (xpEntry s (k, g)).2 u.slate } := by
  unfold xpWrite xpEntry
  split_ifs <;> rfl

/-- A crosspoint write adds at most one held entry. -/
theorem xpHeld_xpWrite_le (k : Nat) (g : SlateGain) (s : State) : xpHeld (xpWrite k g s) ≤ xpHeld s + 1 := by
  have hslate := length_filter_writeEntry_le (fun c => armedEntry c.2 s) k (xpEntry s (k, g)).2 s.spl.slate
  have hheld : xpHeld (xpWrite k g s) = ((writeEntry k (xpEntry s (k, g)).2 s.spl.slate).filter fun c => armedEntry c.2 s).length
      + (s.spl.commit.filter fun c => armedEntry c.2 s).length + s.spl.fades.length := by
    rw [xpWrite_eq]
    rfl
  rw [hheld, xpHeld, xpArmed]
  omega

theorem notePeakFades_kept (s : State) : Kept [] [] [SPL_FADEMAX.MAX.addr] s (notePeakFades s) := (Kept.refl _ _ _ s).maxF _ _

/-- The peak stands in another register than the rate, on which what is armed depends. -/
theorem xpHeld_notePeakFades (s : State) : xpHeld (notePeakFades s) = xpHeld s := by
  have hk := notePeakFades_kept s
  have hset : ∀ g, armedEntry g (notePeakFades s) = armedEntry g s := fun g => by
    rw [armedEntry, oneSet, hk.getF SYS_CFG.RATE (by decide) (by decide)]
    rfl
  simp only [xpHeld, xpArmed, hset, show (notePeakFades s).spl = s.spl from hk.part .spl (by decide)]

theorem xpEntry_congr {s t : State} (hlive : t.spl.live = s.spl.live) (hcommit : t.spl.commit = s.spl.commit) : xpEntry t = xpEntry s := by
  funext x
  rw [xpEntry, xpEntry, xpLive, xpLive, hlive, hcommit]

/-- With room for every entry none is refused (R36, R262), and all are written in their order. -/
theorem xpPut_of_room {l : List (Nat × Nat × SlateGain)} {s : State} (hroom : xpHeld s + l.length ≤ fadeTable) :
    ∃ t, xpPut l s = .inr t ∧ t.spl = xpWritten l s ∧ Kept [.spl] [] [SPL_FADEMAX.MAX.addr] s t := by
  induction l generalizing s with
  | nil => exact ⟨s, rfl, rfl, .refl _ _ _ s⟩
  | cons x l ih =>
    obtain ⟨i, k, g⟩ := x
    obtain ⟨u, hu⟩ : ∃ u, u = notePeakFades (xpWrite k g s) := ⟨_, rfl⟩
    have hheld : xpHeld (xpWrite k g s) ≤ xpHeld s + 1 := xpHeld_xpWrite_le k g s
    have hspl : u.spl = { s.spl with slate := writeEntry k (xpEntry s (k, g)).2 s.spl.slate } := by
      rw [hu, show (notePeakFades _).spl = _ from (notePeakFades_kept (xpWrite k g s)).part .spl (by decide), xpWrite_eq]
      rfl
    have hkept : Kept [.spl] [] [SPL_FADEMAX.MAX.addr] s u := by
      rw [hu, xpWrite_eq]
      exact ((Kept.refl _ _ _ s).onSpl _).maxF _ _
    rw [List.length_cons] at hroom
    obtain ⟨t, ht, htspl, htkept⟩ := ih (s := u) (by rw [hu, xpHeld_notePeakFades]; omega)
    refine ⟨t, ?_, ?_, hkept.trans htkept⟩
    · simp only [xpPut]
      rw [if_neg (by omega), ← hu, ht]
    · rw [htspl, xpWritten, xpEntry_congr (s := s) (t := u) (by rw [hspl]) (by rw [hspl]), hspl]
      rfl

theorem unlessEntryBreaks_of_noTake {α : Type} {f : α → State → State} {l : List (Nat × α)} {s t : State}
    (hnone : s.take.pending = none) : unlessEntryBreaks f l s t = done t := by
  simp only [unlessEntryBreaks, breaksTake, hnone]
  rfl

theorem xpCommand_of_room {l : List (Nat × Nat × SlateGain)} {s : State} (hroom : xpHeld s + l.length ≤ fadeTable)
    (hnone : s.take.pending = none) :
    ∃ x, xpCommand l s = doneWith [] x ∧ x.spl = xpWritten l s ∧ x.flag SPL_STAT.SLATE_DIRTY = true ∧ Kept [.spl] [4] [] s x := by
  obtain ⟨t, ht, hspl, hkept⟩ := xpPut_of_room hroom
  refine ⟨t.setF SPL_STAT.SLATE_DIRTY 1, ?_, hspl, ?_, ?_⟩
  · simp only [xpCommand, ht]
    exact unlessEntryBreaks_of_noTake hnone
  · rw [State.flag, State.getF_setF_same _ _ _ (by decide)]
    rfl
  · refine Kept.setF _ _ ⟨hkept.part, fun a hpage _ hm => hkept.reg a (by simp) (fun ha => hpage ?_) (by simp)⟩
    rw [List.mem_singleton.1 ha]
    decide

/-- A ready packet that writes the crosspoints `l`. -/
theorem arrived_xpCommand {op : Nat} {h : CmdHdr} {p : List Word} {l : List (Nat × Nat × SlateGain)} {s : State} (hr : Ready op h p s)
    (h1 : op ≠ 1) (hc : h.chk = false) (hbody : ∀ f, opBody (packetOf op h p [] s) false (s.onCmd f) = xpCommand l (s.onCmd f))
    (hroom : xpHeld s + l.length ≤ fadeTable) (hnone : s.take.pending = none) :
    ∃ t, arrived op h p s = .next t ∧ Accepted op h [] t ∧ t.spl = xpWritten l s ∧ t.flag SPL_STAT.SLATE_DIRTY = true
      ∧ Kept [.cmd, .outs, .spl] [0xD, 4] [] s t := by
  obtain ⟨f, hf⟩ := begun_eq_onCmd (packetOf op h p [] s) s
  obtain ⟨x, hx, hspl, hdirty, hkept⟩ := xpCommand_of_room (s := s.onCmd f) hroom hnone
  have hcmd : x.cmd = (s.onCmd f).cmd := hkept.part .cmd (by decide)
  obtain ⟨t, ht, hacc, hxt, hst⟩ := accepted_of_changes hr h1 hc x [] (by rw [hf, hbody]; exact hx) (hf ▸ hkept) (by decide)
    (fun tr => by rw [State.sess, hcmd, hf]; rfl) (by decide)
  refine ⟨t, ht, hacc, (hxt.part .spl (by decide)).trans hspl, ?_, hst⟩
  rw [hxt.flag _ (by decide) (by decide)]
  exact hdirty

theorem opBody_xpSet (h : CmdHdr) (p : List Word) (s b : State) : opBody (packetOf 0x300 h p [] s) false b = cmdXpSet p b := by
  rw [opBody_slate _ _ (by simp [packetOf]) (by simp [packetOf])]
  simp only [slateBody, packetOf]

theorem opBody_xpRow (h : CmdHdr) (p : List Word) (s b : State) : opBody (packetOf 0x301 h p [] s) false b = cmdXpRow p b := by
  rw [opBody_slate _ _ (by simp [packetOf]) (by simp [packetOf])]
  simp only [slateBody, packetOf]

/-- The entries of an XP_SET (R257). -/
def xpSetEntries (p : List Word) (s : State) : List (Nat × Nat × SlateGain) :=
  (List.range (p.length / 3)).map fun k =>
    (3 * k, xpKey (nAt p (3 * k)) s, ⟨wAt p (3 * k + 1), bitOf (nAt p (3 * k)) 9, xpLen (nAt p (3 * k)) (nAt p (3 * k + 2)) s⟩)

theorem firstBad_eq_none {α : Type} {q : α → Bool} {l : List α} (h : ∀ x ∈ l, q x = false) : firstBad q l = none :=
  List.findIdx?_eq_none_iff.2 h

/-- XP_SET writes its entries in their order (R257, R260, R261). -/
theorem xpSet_writes (h : CmdHdr) (p : List Word) (m : Nat) (s : State) (hr : Ready 0x300 h p s) (hc : h.chk = false)
    (hm : m = p.length / 3) (hrange : ((List.range m).all fun k => !xpBad (nAt p (3 * k)) (nAt p (3 * k + 2)) s) = true)
    (hroom : xpHeld s + m ≤ fadeTable) (hnone : s.take.pending = none) :
    ∃ t, exec (.xpSet h p) s = .next t
      ∧ Accepted 0x300 h [] t
      ∧ (∀ i, i < m → (∀ j, i < j → j < m → xpKey (nAt p (3 * j)) s ≠ xpKey (nAt p (3 * i)) s) →
        entryOf t.spl.slate (xpKey (nAt p (3 * i)) s) = if wAt p (3 * i + 1) = xpLive (xpKey (nAt p (3 * i)) s) s then none
          else some ⟨wAt p (3 * i + 1), bitOf (nAt p (3 * i)) 9, xpLen (nAt p (3 * i)) (nAt p (3 * i + 2)) s⟩)
      ∧ (∀ k, (∀ i, i < m → xpKey (nAt p (3 * i)) s ≠ k) → entryOf t.spl.slate k = entryOf s.spl.slate k)
      ∧ t.spl.live = s.spl.live
      ∧ t.flag SPL_STAT.SLATE_DIRTY = true
      ∧ Kept [.cmd, .outs, .spl] [0xD, 4] [] s t := by
  subst hm
  have hok : ∀ k ∈ List.range (p.length / 3), xpBad (nAt p (3 * k)) (nAt p (3 * k + 2)) s = false := by simpa using hrange
  have hbody : ∀ f, opBody (packetOf 0x300 h p [] s) false (s.onCmd f) = xpCommand (xpSetEntries p s) (s.onCmd f) := fun f => by
    have hin : firstBad (fun k => xpBad (nAt p (3 * k)) (nAt p (3 * k + 2)) (s.onCmd f)) (List.range (p.length / 3)) = none :=
      firstBad_eq_none hok
    rw [opBody_xpSet]
    simp only [cmdXpSet, hin]
    rfl
  obtain ⟨t, ht, hacc, hspl, hdirty, hkept⟩ := arrived_xpCommand (l := xpSetEntries p s) hr (by decide) hc hbody
    (by simpa [xpSetEntries] using hroom) hnone
  refine ⟨t, ht, hacc, fun i hi hlast => ?_, fun k hk => ?_, by rw [hspl]; rfl, hdirty, hkept⟩
  · have hwrite := entryOf_writeEntries_of_last (ws := (xpSetEntries p s).map fun x => xpEntry s x.2) (i := i)
      (by simpa [xpSetEntries] using hi)
      (fun j hj hij => by simpa [xpSetEntries, xpEntry] using hlast j hij (by simpa [xpSetEntries] using hj)) s.spl.slate
    rw [hspl]
    simpa [xpWritten, xpSetEntries, xpEntry] using hwrite
  · rw [hspl]
    exact entryOf_writeEntries_of_unnamed (by simpa [xpSetEntries, xpEntry] using hk) _

/-- The entries of an XP_ROW: gain i applies to bus first bus + i (R258). -/
def xpRowEntries (p : List Word) (s : State) : List (Nat × Nat × SlateGain) :=
  (p.drop 2).zipIdx.map fun x => (2 + x.2, xpKey (nAt p 0) s + x.2, ⟨x.1, bitOf (nAt p 0) 9, xpLen (nAt p 0) (nAt p 1) s⟩)

/-- XP_ROW writes its gains to consecutive buses (R258, R261). -/
theorem xpRow_writes (h : CmdHdr) (p : List Word) (m w : Nat) (s : State) (hr : Ready 0x301 h p s) (hc : h.chk = false)
    (hm : m = p.length - 2) (hw : w = nAt p 0) (hres : bits w 0 8 = 0) (htap : bits w 20 12 < s.taps)
    (hbus : bits w 10 10 + m ≤ s.buses) (hres1 : bits (nAt p 1) 16 16 = 0) (hlen : bits (nAt p 1) 0 16 ≠ 0)
    (hroom : xpHeld s + m ≤ fadeTable) (hnone : s.take.pending = none) :
    ∃ t, exec (.xpRow h p) s = .next t
      ∧ Accepted 0x301 h [] t
      ∧ (∀ i, i < m → entryOf t.spl.slate (xpKey w s + i) = if wAt p (2 + i) = xpLive (xpKey w s + i) s then none
          else some ⟨wAt p (2 + i), bitOf w 9, xpLen w (nAt p 1) s⟩)
      ∧ (∀ k, k < xpKey w s ∨ xpKey w s + m ≤ k → entryOf t.spl.slate k = entryOf s.spl.slate k)
      ∧ t.spl.live = s.spl.live
      ∧ t.flag SPL_STAT.SLATE_DIRTY = true
      ∧ Kept [.cmd, .outs, .spl] [0xD, 4] [] s t := by
  subst hm hw
  have hpos : 3 ≤ p.length := by
    obtain ⟨-, -, ⟨-, hl⟩, -⟩ := id hr
    simp only [lenOk, Bool.and_eq_true, decide_eq_true_eq] at hl
    exact hl.1
  have hbody : ∀ f, opBody (packetOf 0x301 h p [] s) false (s.onCmd f) = xpCommand (xpRowEntries p s) (s.onCmd f) := fun f => by
    have htaps : (s.onCmd f).taps = s.taps := rfl
    have hbuses : (s.onCmd f).buses = s.buses := rfl
    rw [opBody_xpRow]
    simp only [cmdXpRow, htaps, hbuses, List.length_drop]
    rw [if_neg (by omega), if_neg (by omega), if_neg (by omega)]
    rfl
  obtain ⟨t, ht, hacc, hspl, hdirty, hkept⟩ := arrived_xpCommand (l := xpRowEntries p s) hr (by decide) hc hbody
    (by simpa [xpRowEntries] using hroom) hnone
  refine ⟨t, ht, hacc, fun i hi => ?_, fun k hk => ?_, by rw [hspl]; rfl, hdirty, hkept⟩
  · have hwrite := entryOf_writeEntries_of_last (ws := (xpRowEntries p s).map fun x => xpEntry s x.2) (i := i)
      (by simpa [xpRowEntries] using hi) (fun j hj hij => by simpa [xpRowEntries, xpEntry] using hij.ne') s.spl.slate
    have hgain : p[2 + i] = wAt p (2 + i) := by rw [wAt, List.getD_eq_getElem _ _ (by omega)]
    rw [hspl]
    simpa [xpWritten, xpRowEntries, xpEntry, hgain] using hwrite
  · rw [hspl]
    refine entryOf_writeEntries_of_unnamed (fun x hx => ?_) _
    obtain ⟨i, hi, rfl⟩ := List.getElem_of_mem hx
    have hlt : i < p.length - 2 := by simpa [xpRowEntries] using hi
    simp only [xpRowEntries, xpEntry, List.getElem_map, List.getElem_zipIdx]
    omega

/-! #### Patches -/

theorem opBody_patchSet (h : CmdHdr) (p : List Word) (s b : State) : opBody (packetOf 0x302 h p [] s) false b = cmdPatchSet p b := by
  rw [opBody_slate _ _ (by simp [packetOf]) (by simp [packetOf])]
  simp only [slateBody, packetOf]

/-- The slate entry of a PATCH_SET word: DEST and SRC (R298). -/
def patchEntry (w : Word) : Nat × Option Nat := (w.toNat / 65536, some (w.toNat % 65536))

theorem foldl_putPatch (p : List Word) (s : State) : p.foldl (fun s w => putPatch w s) s =
    s.onTake fun u => { u with patchSlate := writeEntries (p.map patchEntry) u.patchSlate } := by
  induction p generalizing s with
  | nil => rfl
  | cons w p ih =>
    rw [List.foldl_cons, ih]
    rfl

/-- PATCH_SET writes its entries in their order (R298). -/
theorem patchSet_writes (h : CmdHdr) (p : List Word) (s : State) (hr : Ready 0x302 h p s) (hc : h.chk = false)
    (hok : (p.all fun w => !patchBad w s && !patchTaken w s) = true) (hnone : s.take.pending = none) :
    ∃ t, exec (.patchSet h p) s = .next t
      ∧ Accepted 0x302 h [] t
      ∧ (∀ i, i < p.length → (∀ j, i < j → j < p.length → nAt p j / 65536 ≠ nAt p i / 65536) →
        entryOf t.take.patchSlate (nAt p i / 65536) = some (nAt p i % 65536))
      ∧ t.take.patch = s.take.patch
      ∧ Kept [.cmd, .outs, .take] [0xD] [] s t := by
  obtain ⟨f, hf⟩ := begun_eq_onCmd (packetOf 0x302 h p [] s) s
  have hword : ∀ w ∈ p, patchBad w s = false ∧ patchTaken w s = false := by simpa using hok
  have hgood : firstBad (fun w => patchBad w (s.onCmd f)) p = none := firstBad_eq_none fun w hw => (hword w hw).1
  have hfree : firstBad (fun w => patchTaken w (s.onCmd f)) p = none := firstBad_eq_none fun w hw => (hword w hw).2
  have hb : cmdPatchSet p (s.onCmd f) =
      doneWith [] ((s.onCmd f).onTake fun u => { u with patchSlate := writeEntries (p.map patchEntry) u.patchSlate }) := by
    simp only [cmdPatchSet, hgood, hfree, foldl_putPatch]
    exact unlessEntryBreaks_of_noTake hnone
  obtain ⟨t, ht, hacc, hxt, hst⟩ := accepted_of_body (ps := [.take]) hr (by decide) hc _ _ (by rw [hf, opBody_patchSet]; exact hb)
    (by rw [hf]; exact (Kept.refl _ _ _ _).onTake _) (by decide) (by decide)
  have htake : t.take = { s.take with patchSlate := writeEntries (p.map patchEntry) s.take.patchSlate } := hxt.part .take (by decide)
  refine ⟨t, ht, hacc, fun i hi hlast => ?_, by rw [htake], hst⟩
  have hnat : ∀ j (hj : j < p.length), nAt p j = p[j].toNat := fun j hj => by rw [nAt, List.getD_eq_getElem _ _ hj]
  have hwrite := entryOf_writeEntries_of_last (ws := p.map patchEntry) (i := i) (by simpa using hi)
    (fun j hj hij => by
      rw [List.length_map] at hj
      simpa [patchEntry, hnat j hj, hnat i hi] using hlast j hij hj) s.take.patchSlate
  rw [htake]
  simpa [patchEntry, hnat i hi] using hwrite

/-- Settles O14, command by command. -/
theorem routingCommands : Obligations.RoutingCommands :=
  ⟨xpSet_writes, xpRow_writes, patchSet_writes⟩

end Sys2Proof
end

section
/-! ### Takes of a ring, and a follower's entry to ACQUIRE (O58) -/

namespace Sys2Proof

open Machine

/-! #### What the block sends -/

/-- A step that sends leaves the packets that wait, the mode that is asked for and what the block has given before. -/
structure Sends (s t : State) : Prop where
  waiting : t.cmd.waiting = s.cmd.waiting
  modeReq : t.cmd.modeReq = s.cmd.modeReq
  outs : s.outs <:+ t.outs

namespace Sends

variable {s t u : State}

theorem refl (s : State) : Sends s s := ⟨rfl, rfl, List.suffix_rfl⟩

theorem trans (h : Sends s t) (k : Sends t u) : Sends s u :=
  ⟨k.waiting.trans h.waiting, k.modeReq.trans h.modeReq, h.outs.trans k.outs⟩

theorem ite (c : Prop) [Decidable c] (ht : Sends s t) (hu : Sends s u) : Sends s (if c then t else u) := by
  split
  · exact ht
  · exact hu

/-- Neither the command interface nor what the block gives changes. -/
theorem aside (h : Sends s t) (hc : u.cmd = t.cmd) (ho : u.outs = t.outs) : Sends s u :=
  h.trans ⟨congrArg CmdU.waiting hc, congrArg CmdU.modeReq hc, ho ▸ List.suffix_rfl⟩

theorem setF (h : Sends s t) (f : Fld) (v : Nat) : Sends s (t.setF f v) := h.aside rfl rfl

theorem onTake (h : Sends s t) (f : TakeU → TakeU) : Sends s (t.onTake f) := h.aside rfl rfl

theorem logEvent (h : Sends s t) (code : Nat) (p : List Nat) : Sends s (Machine.logEvent code p t) := h.aside rfl rfl

theorem onCmd (h : Sends s t) (f : CmdU → CmdU) (hw : (f t.cmd).waiting = t.cmd.waiting) (hm : (f t.cmd).modeReq = t.cmd.modeReq) :
    Sends s (t.onCmd f) := h.trans ⟨hw, hm, List.suffix_rfl⟩

theorem onSess (h : Sends s t) (tr : Nat) (f : Sess → Sess) : Sends s (Machine.onSess tr f t) := h.onCmd _ rfl rfl

theorem out (h : Sends s t) (o : Output) : Sends s (t.out o) := h.trans ⟨rfl, rfl, List.suffix_cons _ _⟩

theorem setIrq (h : Sends s t) (n : Nat) : Sends s (Machine.setIrq n t) := by
  have hset : Sends s (t.orF CMD_ISTAT.SRC (2 ^ n)) := h.setF _ _
  unfold Machine.setIrq sendMsix
  exact ite _ (ite _ (hset.onCmd _ rfl rfl) (hset.out _)) hset

theorem ringPlace (h : Sends s t) (k slot : Nat) (ws : List Word) : Sends s (Machine.ringPlace k slot ws t) := by
  have happly : ∀ (ptr : Fld) (v : State), Sends s v → Sends s (applyRingLen k ptr v) := fun ptr v hv => by
    unfold applyRingLen
    split
    · exact hv
    · exact ((hv.onCmd _ rfl rfl).setF _ _).setF _ _
  unfold Machine.ringPlace writeBack
  have hnext : ∀ v, Sends s ((t.out (.hostWrite ((t.ring k).base + slot * t.getF (CMD_RING_DEVPTR.PTR k)) ws)).setF
      (CMD_RING_DEVPTR.PTR k) v) := fun v => (h.out _).setF _ _
  exact (ite _ (happly _ _ (hnext _)) (hnext _)).out _

theorem mgmtSend (h : Sends s t) (o : Output) (n : Nat) : Sends s (Machine.mgmtSend o n t) := by
  unfold Machine.mgmtSend countTx inc64
  rw [if_neg (by decide)]
  exact ((((h.out o).setF _ _).setF _ _).setF _ _).setF _ _

theorem mgmtOut (h : Sends s t) (o : Output) (n : Nat) : Sends s (Machine.mgmtOut o n t) := by
  unfold Machine.mgmtOut
  exact ite _ (h.onCmd _ rfl rfl) (h.mgmtSend _ _)

theorem placeWords (h : Sends s t) (tr : Nat) (ws : List Word) : Sends s (Machine.placeWords tr ws t) := by
  unfold Machine.placeWords
  split
  · exact ite _ (((h.out _).ringPlace _ _ _).setIrq _) h
  · exact (h.mgmtOut _ _).setIrq _
  · exact ite _ (h.onCmd _ rfl rfl) (((h.onCmd _ rfl rfl).out _).setIrq _)

theorem placeReply (h : Sends s t) (op : Nat) (x : CmdHdr) (gap : Bool) (st d : Nat) (p : List Word) :
    Sends s (Machine.placeReply op x gap st d p t) := by
  unfold Machine.placeReply
  exact ((h.onSess x.tr _).onSess x.tr _).placeWords _ _

theorem sendNotice (h : Sends s t) (tr code : Nat) (p : List Word) : Sends s (Machine.sendNotice tr code p t) := by
  have hseq : Sends s (takeDseq tr t) := h.onSess tr _
  unfold Machine.sendNotice
  dsimp only
  split
  · exact ite _ hseq (ite _ (hseq.setF _ _) (((hseq.out _).ringPlace _ _ _).setIrq _))
  · split
    · exact (hseq.mgmtOut _ _).setIrq _
    · exact hseq
  · exact ite _ (hseq.setF _ _) (((hseq.onCmd _ rfl rfl).out _).setIrq _)

theorem notify (h : Sends s t) (code : Nat) (p : List Nat) : Sends s (Machine.notify code p t) := by
  unfold Machine.notify
  refine h.trans (foldl_keeps Sends refl (fun _ _ _ => trans) _ (fun v tr => ?_) _ _)
  exact ite _ ((refl v).sendNotice _ _ _) (refl v)

theorem abandonTake (h : Sends s t) (reason : Nat) : Sends s (Machine.abandonTake reason t) := by
  have htake : ∀ f n, Sends s ((t.onTake f).incF n 1) := fun _ _ => (h.onTake _).setF _ _
  unfold Machine.abandonTake
  split
  · exact h
  · dsimp only
    split
    · exact ((htake _ _).out _).placeReply _ _ _ _ _ _
    · exact (htake _ _).notify _ _

end Sends

/-- A placed reply takes the transport's device sequence number and is the newest in its replay cache (R636, R637). -/
theorem placeReply_cache (op : Nat) (h : CmdHdr) (gap : Bool) (st d : Nat) (pay : List Word) (s : State) :
    ((placeReply op h gap st d pay s).sess h.tr).cache.head? =
      some (h.hseq, replyWords op h gap (s.sess h.tr).dseq st d pay) := by
  unfold placeReply takeDseq
  simp only [placeWords_sess, sess_onSess_same]
  rfl

/-- A chip that is not the holder of a pair forwards nothing (R717). -/
theorem forward_of_unpaired {s : State} (h : s.pairedHolder = false) (op : Nat) (p images : List Word) : forward op p images s = s := by
  simp [forward, mirrorSend, h]

/-! #### A follower of the ring -/

theorem ringTake_votes (ws : List Word) (sT : Nat) (chk : Bool) (b : Option Nat) (s : State) (hq : Quiet s) (hstate : s.getF RL_STAT.STATE = 2)
    (hfollower : s.flag RL_STAT.MASTER = false) (hrole : s.role < 2) (hmode : s.mode ≠ 7) (hlen : ws.length = 5)
    (hb : b = (if bits (nAt ws 0) 30 2 = 3 then none else some sT)) :
    ∃ t, exec (.ringTakeMessage ⟨ws, sT, chk⟩) s = .next t
      ∧ t.outs = .rl 1 "VOTE" [s.getF SYS_ID.CHIP_ID, takeCheckAt (b.map Int.ofNat) false ws s] :: s.outs
      ∧ (t.take = (if takeCheckAt (b.map Int.ofNat) false ws s = 0 ∧ chk = false
          then { s.take with pending := some (takeOf ws b), unconfirmed := true } else s.take))
      ∧ Kept [.take, .outs] [] [] s t := by
  obtain ⟨st, hst⟩ : ∃ st, st = takeCheckAt (b.map Int.ofNat) false ws s := ⟨_, rfl⟩
  obtain ⟨v, hv⟩ : ∃ v, v = s.out (.rl 1 "VOTE" [s.getF SYS_ID.CHIP_ID, st]) := ⟨_, rfl⟩
  have hkv : Kept [.take, .outs] [] [] s v := hv ▸ (Kept.refl _ _ _ s).out _
  have hvotes : ringTake ws sT chk s =
      if st = 0 ∧ chk = false then v.onTake fun u => { u with pending := some (takeOf ws b), unconfirmed := true } else v := by
    unfold ringTake
    rw [if_neg (not_not.2 ⟨hstate, by simp [hfollower], hrole, hmode, hlen⟩)]
    simp only [← hb, ← hst, ← hv, Bool.not_eq_true']
  have hexec : exec (.ringTakeMessage ⟨ws, sT, chk⟩) s = finish (ringTake ws sT chk s) := rfl
  rw [hexec, hvotes, ← hst]
  split
  · have hk := hkv.onTake fun u => { u with pending := some (takeOf ws b), unconfirmed := true }
    exact ⟨_, finish_of_quiet (hk.quiet (by decide) hq), by rw [hv]; rfl, by rw [hv]; rfl, hk⟩
  · exact ⟨v, finish_of_quiet (hkv.quiet (by decide) hq), by rw [hv]; rfl, by rw [hv]; rfl, hkv⟩

theorem ringCommit_confirms (s : State) (hq : Quiet s) (hunconfirmed : s.take.unconfirmed = true) (hpending : s.take.pending.isSome = true)
    (hholder : s.pairedHolder = false) :
    ∃ t, exec (.ringCommitReceived true) s = .next t
      ∧ t.take = { s.take with unconfirmed := false }
      ∧ Kept [.take] [] [] s t := by
  obtain ⟨k, hk⟩ := Option.isSome_iff_exists.1 hpending
  have hexec : exec (.ringCommitReceived true) s = finish (s.onTake fun u => { u with unconfirmed := false }) := by
    show execRingCommitReceived true s = _
    unfold execRingCommitReceived
    rw [if_pos rfl, hk]
    dsimp only
    rw [if_pos hunconfirmed, forward_of_unpaired (by exact hholder)]
  exact ⟨_, hexec.trans (finish_of_quiet hq), rfl, (Kept.refl _ _ _ s).onTake _⟩

/-- An abandoned take leaves the registers outside SYS and the command interface, and every unit but these (R337). -/
theorem abandonTake_keeps (reason : Nat) (s : State) :
    Kept [.take, .cmd, .outs] [0xD] [SYS_TAKE_REFUSED.REFUSED.addr] s (abandonTake reason s) := by
  unfold abandonTake
  split
  · exact .refl _ _ _ _
  · dsimp only
    split
    · exact ((((Kept.refl _ _ _ s).onTake _).incF _ _).out _).placeReply _ _ _ _ _ _
    · exact (((Kept.refl _ _ _ s).onTake _).incF _ _).notify _ _

/-- After an abandon no take is pending. -/
theorem abandonTake_pending (reason : Nat) (s : State) : (abandonTake reason s).take.pending = none := by
  have htake : ∀ {t u : State}, Kept [.cmd, .outs] [0xD] [] t u → t.take.pending = none → u.take.pending = none := fun h hn => by
    rw [show _ = _ from h.part .take (by decide)]
    exact hn
  unfold abandonTake
  split
  · next hnone => exact hnone
  · dsimp only
    split
    · exact htake ((Kept.refl _ _ _ _).placeReply _ _ _ _ _ _) rfl
    · exact htake ((Kept.refl _ _ _ _).notify _ _) rfl

theorem ringAbandon_endsTake (s : State) (hq : Quiet s) (hstate : s.getF RL_STAT.STATE = 2) (hfollower : s.flag RL_STAT.MASTER = false) :
    ∃ t, exec (.ringCommitReceived false) s = .next t
      ∧ t.take.pending = none
      ∧ t.cs = s.cs
      ∧ t.spl = s.spl
      ∧ t.mem = s.mem := by
  have hexec : exec (.ringCommitReceived false) s = finish (abandonTake (if s.take.unconfirmed then 4 else 0) s) := by
    show execRingCommitReceived false s = _
    unfold execRingCommitReceived
    rw [if_neg Bool.false_ne_true, if_pos ⟨hstate, by simp [hfollower]⟩]
  have hk := abandonTake_keeps (if s.take.unconfirmed then 4 else 0) s
  exact ⟨_, hexec.trans (finish_of_quiet (hk.quiet (by decide) hq)), abandonTake_pending _ s, hk.part .cs (by decide),
    hk.part .spl (by decide), hk.part .mem (by decide)⟩

/-! #### The master's decision -/

theorem vote_isNoted (id st : Nat) (s : State) (hq : Quiet s) (hvoting : s.take.voting.isSome = true) (hwaiting : s.cmd.waiting = [])
    (hmissing : (s.take.voters.any fun v => v.1 ≠ id && v.2.isNone) = true) :
    ∃ t, exec (.voteReceived id st) s = .next t
      ∧ (t.take = { s.take with voters := s.take.voters.map fun v => if v.1 = id then (id, some st) else v })
      ∧ Kept [.take] [] [] s t := by
  have hnotAll : ((s.take.voters.map fun v => if v.1 = id then (id, some st) else v).all fun v => v.2.isSome) = false := by
    obtain ⟨v, hv, hother⟩ := List.any_eq_true.1 hmissing
    simp only [ne_eq, decide_not, Bool.and_eq_true, Bool.not_eq_true', decide_eq_false_iff_not] at hother
    refine List.all_eq_false.2 ⟨v, List.mem_map.2 ⟨v, hv, if_neg hother.1⟩, ?_⟩
    simpa using hother.2
  have hnoted : voteReceived id st s =
      s.onTake fun u => { u with voters := u.voters.map fun v => if v.1 = id then (id, some st) else v } := by
    unfold voteReceived
    rw [if_neg (by simpa using Option.isSome_iff_ne_none.1 hvoting)]
    dsimp only
    rw [State.onTake_take, hnotAll]
    rfl
  have hexec : exec (.voteReceived id st) s = finish (serve (voteReceived id st s)) := rfl
  rw [hexec, hnoted, serve_of_none (by exact hwaiting)]
  exact ⟨_, finish_of_quiet hq, rfl, (Kept.refl _ _ _ s).onTake _⟩

/-- The votes on a take are over. -/
def votesOver (s : State) : State := s.onTake fun u => { u with voting := none, asked := none, voters := [] }

/-- A state that answers a TAKE ends the command in itself, while no packet waits. -/
theorem voteTimeout_answers {ps : List Part} {pg as : List Nat} {s t : State} (hdecide : decideTake s = t) (hk : Kept ps pg as s t)
    (hflt : Part.flt ∉ ps) (hs : Sends s t) (hq : Quiet s) (hwaiting : s.cmd.waiting = []) : exec .voteTimeout s = .next t := by
  have hexec : exec .voteTimeout s = finish (serve (decideTake s)) := rfl
  rw [hexec, hdecide, serve_of_none (hs.waiting.trans hwaiting), finish_of_quiet (hk.quiet hflt hq)]

section

variable {k : Take} {h : CmdHdr} {gap : Bool} {s : State}

/-- Where every chip has voted to accept, none has refused and no vote is missing. -/
theorem find?_refusal_of_all {l : List (Nat × Option Nat)} (hall : (l.all fun v => v.2 = some 0) = true) :
    (l.find? fun v => v.2.getD 0 ≠ 0) = none ∧ (l.find? fun v => v.2.isNone) = none := by
  have hzero : ∀ v ∈ l, v.2 = some 0 := by simpa using hall
  exact ⟨List.find?_eq_none.2 fun v hv => by simp [hzero v hv], List.find?_eq_none.2 fun v hv => by simp [hzero v hv]⟩

theorem decideTake_accepts (hvoting : s.take.voting = some (h, gap)) (hasked : s.take.asked = none) (hpending : s.take.pending = some k)
    (hholder : s.pairedHolder = false) (hall : (s.take.voters.all fun v => v.2 = some 0) = true) :
    decideTake s = placeReply 0x200 h gap 0 0xFFFF (takeWords k s) (noteGen 0x200 ((votesOver s).out (.rl 1 "COMMIT" []))) := by
  obtain ⟨hrefused, hmissing⟩ := find?_refusal_of_all hall
  unfold decideTake
  simp only [hvoting, hasked, Option.isSome_none, Bool.false_eq_true, if_false, hpending, hrefused, hmissing, Option.map_none]
  rw [forward_of_unpaired (by exact hholder)]
  rfl

theorem decideTake_refuses {id : Nat} (hvoting : s.take.voting = some (h, gap)) (hasked : s.take.asked = none)
    (hpending : s.take.pending = some k) (hvoters : s.take.voters = [(id, none)]) :
    decideTake s = placeReply 0x200 h gap 5 (0x8000 + id) []
      ((((votesOver s).onTake fun u => { u with pending := none }).incF SYS_TAKE_REFUSED.REFUSED 1).out (.rl 1 "ABANDON" [])) := by
  unfold decideTake
  simp only [hvoting, hasked, Option.isSome_none, Bool.false_eq_true, if_false, hpending, hvoters]
  rfl

theorem decideTake_answersCheck (hvoting : s.take.voting = some (h, gap)) (hasked : s.take.asked = some k)
    (hall : (s.take.voters.all fun v => v.2 = some 0) = true) :
    decideTake s = placeReply 0x200 h gap 0 0xFFFF (takeWords k s ++ [wd (takeKind k.forcecut s)]) (votesOver s) := by
  obtain ⟨hrefused, hmissing⟩ := find?_refusal_of_all hall
  unfold decideTake
  simp only [hvoting, hasked, Option.isSome_some, if_true, hrefused, hmissing, Option.map_none]
  rfl

end

theorem votes_accept (k : Take) (h : CmdHdr) (gap : Bool) (s : State) (hq : Quiet s) (hvoting : s.take.voting = some (h, gap))
    (hasked : s.take.asked = none) (hpending : s.take.pending = some k) (hwaiting : s.cmd.waiting = []) (hholder : s.pairedHolder = false)
    (_ : h.tr < 3) (hall : (s.take.voters.all fun v => v.2 = some 0) = true) :
    ∃ t, exec (.voteTimeout) s = .next t
      ∧ t.take = { s.take with voting := none, voters := [] }
      ∧ (t.sess h.tr).cache.head? = some (h.hseq, replyWords 0x200 h gap (s.sess h.tr).dseq 0 0xFFFF (takeWords k s))
      ∧ (.rl 1 "COMMIT" []) ∈ t.outs := by
  obtain ⟨v, hv⟩ : ∃ v, v = noteGen 0x200 ((votesOver s).out (.rl 1 "COMMIT" [])) := ⟨_, rfl⟩
  have hdecide := decideTake_accepts hvoting hasked hpending hholder hall
  rw [← hv] at hdecide
  have hreply : Kept [.cmd, .outs] [0xD] [] v (placeReply 0x200 h gap 0 0xFFFF (takeWords k s) v) := (Kept.refl _ _ _ v).placeReply _ _ _ _ _ _
  have hk : Kept [.take, .cmd, .outs] [0xD] [] s v := by
    rw [hv]
    exact (((Kept.refl _ _ _ s).onTake _).out _).onCmd _
  have hsends : Sends v (placeReply 0x200 h gap 0 0xFFFF (takeWords k s) v) := (Sends.refl v).placeReply _ _ _ _ _ _
  have hsv : Sends s v := by
    rw [hv]
    exact (((Sends.refl s).onTake _).out _).onCmd _ rfl rfl
  refine ⟨_, voteTimeout_answers hdecide (hk.trans (hreply.mono (by decide) (by simp) (by simp))) (by decide) (hsv.trans hsends) hq hwaiting,
    ?_, ?_, hsends.outs.subset ?_⟩
  · rw [show _ = v.take from hreply.part .take (by decide), hv]
    show ({ s.take with voting := none, asked := none, voters := [] } : TakeU) = _
    rw [← hasked]
  · rw [placeReply_cache, hv]
    rfl
  · rw [hv]
    exact List.mem_cons_self

theorem votes_refuse (k : Take) (h : CmdHdr) (gap : Bool) (id : Nat) (s : State) (hq : Quiet s) (hvoting : s.take.voting = some (h, gap))
    (hasked : s.take.asked = none) (hpending : s.take.pending = some k) (hwaiting : s.cmd.waiting = []) (_ : h.tr < 3)
    (hvoters : s.take.voters = [(id, none)]) :
    ∃ t, exec (.voteTimeout) s = .next t
      ∧ t.take = { s.take with voting := none, voters := [], pending := none }
      ∧ (t.sess h.tr).cache.head? = some (h.hseq, replyWords 0x200 h gap (s.sess h.tr).dseq 5 (0x8000 + id) [])
      ∧ t.getF SYS_TAKE_REFUSED.REFUSED = min (2 ^ SYS_TAKE_REFUSED.REFUSED.width - 1) (s.getF SYS_TAKE_REFUSED.REFUSED + 1)
      ∧ (.rl 1 "ABANDON" []) ∈ t.outs := by
  obtain ⟨v, hv⟩ : ∃ v, v = (((votesOver s).onTake fun u => { u with pending := none }).incF SYS_TAKE_REFUSED.REFUSED 1).out
    (.rl 1 "ABANDON" []) := ⟨_, rfl⟩
  have hdecide := decideTake_refuses hvoting hasked hpending hvoters
  rw [← hv] at hdecide
  have hreply : Kept [.cmd, .outs] [0xD] [] v (placeReply 0x200 h gap 5 (0x8000 + id) [] v) := (Kept.refl _ _ _ v).placeReply _ _ _ _ _ _
  have hk : Kept [.take, .cmd, .outs] [0xD] [SYS_TAKE_REFUSED.REFUSED.addr] s v := by
    rw [hv]
    exact ((((Kept.refl _ _ _ s).onTake _).onTake _).incF _ _).out _
  have hsends : Sends v (placeReply 0x200 h gap 5 (0x8000 + id) [] v) := (Sends.refl v).placeReply _ _ _ _ _ _
  have hsv : Sends s v := by
    rw [hv]
    exact ((((Sends.refl s).onTake _).onTake _).setF _ _).out _
  refine ⟨_, voteTimeout_answers hdecide (hk.trans (hreply.mono (by decide) (by simp) (by simp))) (by decide) (hsv.trans hsends) hq hwaiting,
    ?_, ?_, ?_, hsends.outs.subset ?_⟩
  · rw [show _ = v.take from hreply.part .take (by decide), hv]
    show ({ s.take with voting := none, asked := none, voters := [], pending := none } : TakeU) = _
    rw [← hasked]
  · rw [placeReply_cache, hv]
    rfl
  · rw [hreply.getF _ (by decide) (by decide), hv, State.getF_out, State.incF, State.getF_setF_same _ _ _ (by decide)]
    exact Nat.mod_eq_of_lt (lt_of_le_of_lt (min_le_left _ _) (by decide))
  · rw [hv]
    exact List.mem_cons_self

theorem votes_answerCheck (k : Take) (h : CmdHdr) (gap : Bool) (s : State) (hq : Quiet s) (hvoting : s.take.voting = some (h, gap))
    (hasked : s.take.asked = some k) (hwaiting : s.cmd.waiting = []) (_ : h.tr < 3)
    (hall : (s.take.voters.all fun v => v.2 = some 0) = true) :
    ∃ t, exec (.voteTimeout) s = .next t
      ∧ t.take = { s.take with voting := none, asked := none, voters := [] }
      ∧ (t.sess h.tr).cache.head? =
        some (h.hseq, replyWords 0x200 h gap (s.sess h.tr).dseq 0 0xFFFF (takeWords k s ++ [wd (takeKind k.forcecut s)]))
      ∧ t.cs = s.cs
      ∧ t.spl = s.spl
      ∧ t.mem = s.mem := by
  have hdecide := decideTake_answersCheck hvoting hasked hall
  generalize takeWords k s ++ [wd (takeKind k.forcecut s)] = pay at hdecide ⊢
  have hreply : Kept [.cmd, .outs] [0xD] [] (votesOver s) (placeReply 0x200 h gap 0 0xFFFF pay (votesOver s)) :=
    (Kept.refl _ _ _ _).placeReply _ _ _ _ _ _
  have hk : Kept [.take, .cmd, .outs] [0xD] [] s (placeReply 0x200 h gap 0 0xFFFF pay (votesOver s)) :=
    ((Kept.refl _ _ _ s).onTake _).trans (hreply.mono (by decide) (by simp) (by simp))
  have hsends : Sends s (placeReply 0x200 h gap 0 0xFFFF pay (votesOver s)) :=
    ((Sends.refl s).onTake _).placeReply _ _ _ _ _ _
  exact ⟨_, voteTimeout_answers hdecide hk (by decide) hsends hq hwaiting, hreply.part .take (by decide), placeReply_cache _ _ _ _ _ _ _,
    hk.part .cs (by decide), hk.part .spl (by decide), hk.part .mem (by decide)⟩

/-! #### The entry to ACQUIRE -/

/-- Without a message the end of a cycle changes the log queue alone (R671). -/
theorem settle_keeps_of_noMessage {s : State} (hw : s.flt.wire = []) : Kept [.flt] [] [FLT_STAT.QLOST.addr] s (settle s) := by
  have hnone : acceptAll s = s.onFlt fun u => { u with wire := [] } := by simp [acceptAll, hw, msgSort, firstPick]
  unfold settle acceptEvents
  rw [hnone]
  have hevents := Kept.foldl (fun s x => enqueue x s)
    (fun t x => Kept.ite _ (fun _ => (Kept.refl [.flt] [] [FLT_STAT.QLOST.addr] t).incF _ _) (fun _ => (Kept.refl _ _ _ t).onFlt _))
    s.flt.wireEv (s.onFlt fun u => { u with wire := [] })
  exact (((Kept.refl _ _ _ s).onFlt _).trans hevents).onFlt _

theorem getF_logEvent (code : Nat) (p : List Nat) (s : State) (f : Fld) : (logEvent code p s).getF f = s.getF f := rfl

/-- From STANDBY the mode becomes ACQUIRE: no take is abandoned, no engine runs on and no muting ends (R766). -/
theorem changeMode_acquire {s : State} (h : s.mode = 2) : changeMode 3 s =
    notify 0x800B [3, 2] (setIrq 6 (logEvent 0xE1 [3 + 16 * 2, s.shot] ((s.setF SYS_MODE.PREV 2).setF SYS_MODE.MODE 3))) := by
  have hmuted : ∀ t, unmutedFrom 2 t = false := fun t => by simp [unmutedFrom]
  unfold changeMode
  simp only [h, hmuted]
  rfl

theorem loadShot_loads (n : Nat) (s : State) : (loadShot n s).shot = n ∧ Sends s (loadShot n s)
    ∧ Kept [.take, .cmd, .outs, .shot, .dl] [0xD] [SYS_TAKE_REFUSED.REFUSED.addr] s (loadShot n s) := by
  have hloaded : Kept [.take, .cmd, .outs, .shot, .dl] [0xD] [SYS_TAKE_REFUSED.REFUSED.addr] s
      (((abandonTake 2 s).onTake fun u => { u with patchOld := [] }).onShot fun _ => n) :=
    (((abandonTake_keeps 2 s).mono (by decide) (by simp) (by simp)).onTake _).onShot _
  have hsends : Sends s (((abandonTake 2 s).onTake fun u => { u with patchOld := [] }).onShot fun _ => n) :=
    ((Sends.refl s).abandonTake 2).aside rfl rfl
  unfold loadShot
  dsimp only
  split
  · exact ⟨rfl, hsends.aside rfl rfl, hloaded.onDl _⟩
  · exact ⟨rfl, hsends, hloaded⟩

/-- A follower's ACQUIRE is permitted in STANDBY alone (R751). -/
theorem mode_of_acquireStatus {s : State} (h : modeSetStatus 3 s = 0) : s.mode = 2 := by
  by_contra hmode
  simp [modeSetStatus, hmode] at h

/-- The state in which a waiting follower's mode becomes ACQUIRE. -/
def acquireBegun (s : State) : State :=
  ((s.onSti fun u => { u with acquireWait := false }).onCmd fun u => { u with modeReq := none }).setF SYS_MODE.TICK 1

/-- A follower in ACQUIRE with the ring master's count. -/
def acquired (n : Nat) (s : State) : State := loadShot n (changeMode 3 (acquireBegun s))

theorem acquired_changes (n : Nat) {s : State} (hmode : s.mode = 2) (hw : s.flt.wire = []) :
    (acquired n s).mode = 3 ∧ (acquired n s).tick = true ∧ (acquired n s).shot = n ∧ (acquired n s).sti.acquireWait = false
      ∧ (acquired n s).flt.wire = [] ∧ Sends (acquireBegun s) (acquired n s) := by
  have hbegun : (acquireBegun s).mode = 2 :=
    (State.getF_setF_disjoint _ SYS_MODE.TICK SYS_MODE.MODE _ (by decide) (by decide)).trans hmode
  obtain ⟨w, hwe⟩ : ∃ w, w = logEvent 0xE1 [3 + 16 * 2, (acquireBegun s).shot]
      (((acquireBegun s).setF SYS_MODE.PREV 2).setF SYS_MODE.MODE 3) := ⟨_, rfl⟩
  have hchange : changeMode 3 (acquireBegun s) = notify 0x800B [3, 2] (setIrq 6 w) := hwe ▸ changeMode_acquire hbegun
  have hkw : Kept [.cmd, .outs] [0xD] [] w (changeMode 3 (acquireBegun s)) := by
    rw [hchange]
    exact ((Kept.refl _ _ _ w).setIrq _).notify _ _
  have hsw : Sends w (changeMode 3 (acquireBegun s)) := by
    rw [hchange]
    exact ((Sends.refl w).setIrq _).notify _ _
  obtain ⟨hshot, hsl, hkl⟩ := loadShot_loads n (changeMode 3 (acquireBegun s))
  have hk : Kept [.take, .cmd, .outs, .shot, .dl] [0xD] [SYS_TAKE_REFUSED.REFUSED.addr] w (acquired n s) :=
    (hkw.mono (by decide) (by simp) (by simp)).trans hkl
  have hbw : Sends (acquireBegun s) w := by
    rw [hwe]
    exact (((Sends.refl _).setF _ _).setF _ _).logEvent _ _
  refine ⟨?_, ?_, hshot, ?_, ?_, (hbw.trans hsw).trans hsl⟩
  · rw [State.mode, hk.getF _ (by decide) (by decide), hwe, getF_logEvent, State.getF_setF_same _ _ _ (by decide)]
    rfl
  · rw [State.tick, hk.flag _ (by decide) (by decide), hwe, State.flag, getF_logEvent,
      State.getF_setF_disjoint _ _ _ _ (by decide) (by decide), State.getF_setF_disjoint _ _ _ _ (by decide) (by decide),
      acquireBegun, State.getF_setF_same _ _ _ (by decide)]
    rfl
  · rw [show _ = w.sti from hk.part .sti (by decide), hwe]
    rfl
  · rw [show _ = w.flt from hk.part .flt (by decide), hwe]
    exact hw

theorem follower_acquires (n m : Nat) (h : CmdHdr) (gap : Bool) (s : State) (hq : Quiet s) (hreq : s.cmd.modeReq = some (m, h, gap))
    (hwait : s.sti.acquireWait = true) (hqual : s.flag (CLK_CANDST.QUAL 6) = true) (hstatus : modeSetStatus 3 s = 0)
    (hwaiting : s.cmd.waiting = []) (_ : h.tr < 3) :
    ∃ t, exec (.followerAcquire n) s = .next t
      ∧ t.mode = 3
      ∧ t.shot = n
      ∧ t.tick = true
      ∧ t.sti.acquireWait = false
      ∧ t.cmd.modeReq = none
      ∧ (∃ d, (t.sess h.tr).cache.head? = some (h.hseq, replyWords 0x11 h gap d 0 0xFFFF [])) := by
  obtain ⟨hmode, htick, hshot, hsti, hflt, hsends⟩ := acquired_changes n (mode_of_acquireStatus hstatus) hq.1
  obtain ⟨v, hv⟩ : ∃ v, v = placeReply 0x11 h gap 0 0xFFFF [] (noteGen 0x11 (acquired n s)) := ⟨_, rfl⟩
  have hsv : Sends (acquireBegun s) v := hv ▸ (hsends.onCmd _ rfl rfl).placeReply _ _ _ _ _ _
  have hkv : Kept [.cmd, .outs] [0xD] [] (acquired n s) v := hv ▸ ((Kept.refl _ _ _ (acquired n s)).onCmd _).placeReply _ _ _ _ _ _
  have hexec : exec (.followerAcquire n) s = finish (serve v) := by
    show execFollowerAcquire n s = _
    unfold execFollowerAcquire
    rw [hreq]
    dsimp only
    rw [if_pos ⟨hwait, hqual⟩, if_pos (by exact hstatus), hv]
    rfl
  rw [hexec, serve_of_none (hsv.waiting.trans hwaiting)]
  have hkt := settle_keeps_of_noMessage (s := v) (by rw [show _ = (acquired n s).flt from hkv.part .flt (by decide), hflt])
  have hcmd : (settle v).cmd = v.cmd := hkt.part .cmd (by decide)
  have hk : Kept [.cmd, .outs, .flt] [0xD] [FLT_STAT.QLOST.addr] (acquired n s) (settle v) :=
    (hkv.mono (by decide) (by simp) (by simp)).trans (hkt.mono (by decide) (by simp) (by simp))
  refine ⟨settle v, rfl, ?_, ?_, ?_, ?_, ?_, (noteGen 0x11 (acquired n s)).sess h.tr |>.dseq, ?_⟩
  · rw [State.mode, hk.getF _ (by decide) (by decide)]
    exact hmode
  · exact (hk.part .shot (by decide)).trans hshot
  · rw [State.tick, hk.flag _ (by decide) (by decide)]
    exact htick
  · rw [show _ = (acquired n s).sti from hk.part .sti (by decide)]
    exact hsti
  · rw [hcmd]
    exact hsv.modeReq
  · rw [State.sess, hcmd, hv]
    exact placeReply_cache _ _ _ _ _ _ _

/-- Settles O58, event by event. -/
theorem ringTakes : Obligations.RingTakes :=
  ⟨ringTake_votes, ringCommit_confirms, ringAbandon_endsTake, vote_isNoted, votes_accept, votes_refuse, votes_answerCheck,
    follower_acquires⟩

end Sys2Proof
end

section
/-! ### The end of a long operation (O39) -/

namespace Sys2Proof.Machine

theorem State.setF_fab (s : State) (f : Fld) (v : Nat) : (s.setF f v).fab = s.fab := rfl

theorem State.setF_cmd (s : State) (f : Fld) (v : Nat) : (s.setF f v).cmd = s.cmd := rfl

end Sys2Proof.Machine

namespace Sys2Proof

open Machine

/-! #### A 64-bit word of the eMRAM, landed or held -/

theorem startReplace_held (row : Nat) (s : State) : (startReplace row s).fab.held = s.fab.held := by
  have hworn : ∀ (t : State) src kind addr, (raise src kind addr t).fab = t.fab := fun _ _ _ _ => rfl
  unfold startReplace
  split
  · rfl
  · split
    · split
      · rfl
      · rw [hworn, State.onFab_fab]
    · rw [State.setF_fab, State.onFab_fab]

theorem wearBump_held (row k : Nat) (s : State) : (wearBump row k s).2.fab.held = s.fab.held := by
  simp only [wearBump]
  split <;> split
  · exact startReplace_held _ _
  · rfl
  · exact startReplace_held _ _
  · rfl

theorem countG_held (evt k : Nat) (s : State) : (countG evt k s).fab.held = s.fab.held :=
  congrArg FabU.held (((Kept.refl [] [0xB] [] s).countG evt k).part .fab (by decide))

theorem wearAdd_held (row k : Nat) (s : State) : (wearAdd row k s).fab.held = s.fab.held := by
  simp only [wearAdd]
  split
  · exact wearBump_held _ _ _
  · split
    · rw [wearBump_held, countG_held, wearBump_held]
    · rw [wearBump_held, countG_held, wearBump_held, countG_held, wearBump_held]

/-- Writes of the row are held: it is the first one under replacement (R605). -/
def HoldsRow (row : Nat) (s : State) : Prop := s.flag MRAM_STAT.BUSY = true ∧ s.fab.replacing.head? = some row

section

variable {off row a : Nat} {lo hi : Word} {s : State}

theorem mramDword_of_holds (h : HoldsRow (off / 4096) s) : mramDword off lo hi s =
    s.onFab fun u => { u with held := u.held ++ [(mramBase + off, lo), (mramBase + off + 4, hi)] } := if_pos h

theorem mramDword_of_not_holds (h : ¬HoldsRow (off / 4096) s) : (mramDword off lo hi s).fab.held = s.fab.held
    ∧ (mramDword off lo hi s).mem = ((s.setWord (mramBase + off) lo).setWord (mramBase + off + 4) hi).mem := by
  unfold HoldsRow at h
  simp only [mramDword, if_neg h, wearAdd_held, countG_held, wearAdd_mem, countG_mem]
  exact ⟨rfl, trivial⟩

theorem byte_congr {t : State} (h : t.mem = s.mem) (k : Nat) : t.byte k = s.byte k := by
  unfold State.byte
  rw [h]

/-- A 64-bit word, landed or held, leaves every byte outside it. -/
theorem mramDword_byte_other (k : Nat) (hk : k < mramBase + off ∨ mramBase + off + 8 ≤ k) : (mramDword off lo hi s).byte k = s.byte k := by
  by_cases h : HoldsRow (off / 4096) s
  · rw [mramDword_of_holds h]
    rfl
  · rw [byte_congr (mramDword_of_not_holds h).2]
    exact (State.byte_setWord_other _ _ _ _ (by omega)).trans (State.byte_setWord_other _ _ _ _ (by omega))

theorem mramNow_congr {t : State} (hm : t.mem = s.mem) (hh : t.fab.held = s.fab.held) (a : Nat) : mramNow a t = mramNow a s := by
  rw [mramNow, mramNow, hh, word_congr (s := s) (t := t) fun k _ _ => byte_congr hm k]

/-- A word of the eMRAM reads as before a write of another 64-bit word. -/
theorem mramNow_mramDword_other (ha : a + 4 ≤ mramBase + off ∨ mramBase + off + 8 ≤ a) :
    mramNow a (mramDword off lo hi s) = mramNow a s := by
  by_cases h : HoldsRow (off / 4096) s
  · have hne : mramBase + off ≠ a ∧ mramBase + off + 4 ≠ a := by omega
    rw [mramDword_of_holds h, mramNow, mramNow, State.onFab_fab]
    simp [hne]
    rfl
  · rw [mramNow, mramNow, (mramDword_of_not_holds h).1, word_congr fun k _ _ => mramDword_byte_other k (by omega)]

/-- A write of the word at `a`, in row `row`, shows at once: no older write of it is held, or it is held behind them. -/
def WriteShows (row a : Nat) (s : State) : Prop := (∀ c ∈ s.fab.held, c.1 ≠ a) ∨ HoldsRow row s

/-- A write of a 64-bit word of the row leaves that so. -/
theorem WriteShows.mramDword (h : WriteShows (off / 4096) a s) (lo hi : Word) : WriteShows (off / 4096) a (mramDword off lo hi s) := by
  by_cases hh : HoldsRow (off / 4096) s
  · rw [mramDword_of_holds hh]
    exact .inr hh
  · left
    rw [(mramDword_of_not_holds hh).1]
    exact h.resolve_right hh

/-- Both words of a 64-bit word that is written show. -/
theorem mramNow_mramDword_same (h0 : WriteShows (off / 4096) (mramBase + off) s) (h4 : WriteShows (off / 4096) (mramBase + off + 4) s) :
    mramNow (mramBase + off) (mramDword off lo hi s) = lo ∧ mramNow (mramBase + off + 4) (mramDword off lo hi s) = hi := by
  by_cases h : HoldsRow (off / 4096) s
  · rw [mramDword_of_holds h, mramNow, mramNow, State.onFab_fab]
    simp [List.getLast?_append]
  · have hnone : ∀ a, WriteShows (off / 4096) a s → s.fab.held.filter (fun c => c.1 = a) = [] := fun a ha => by
      simpa using ha.resolve_right h
    obtain ⟨hheld, hmem⟩ := mramDword_of_not_holds (lo := lo) (hi := hi) h
    have hword : ∀ a, (mramDword off lo hi s).word a = ((s.setWord (mramBase + off) lo).setWord (mramBase + off + 4) hi).word a :=
      fun a => word_congr fun k _ _ => byte_congr hmem k
    rw [mramNow, mramNow, hheld, hnone _ h0, hnone _ h4, hword, hword, State.word_setWord_same,
      word_congr (s := s.setWord (mramBase + off) lo) fun k _ _ => State.byte_setWord_other _ _ _ _ (by omega),
      State.word_setWord_same]
    exact ⟨rfl, rfl⟩

end

/-! #### The record of an erasure -/

/-- A record of four words at the start of the permanent area, END word first (R683). -/
theorem putRecord_four (w0 w1 w2 w3 : Word) (s : State) : putRecord 0 [w0, w1, w2, w3] s =
    mramDword 0 w0 w1 (mramDword 8 w2 w3 (mramDword 16 0 0 s)) := rfl

theorem putRecord_byte_other (w0 w1 w2 w3 : Word) (s : State) (k : Nat) (hk : k < mramBase ∨ mramBase + 24 ≤ k) :
    (putRecord 0 [w0, w1, w2, w3] s).byte k = s.byte k := by
  rw [putRecord_four, mramDword_byte_other k (by omega), mramDword_byte_other k (by omega), mramDword_byte_other k (by omega)]

theorem mramNow_putRecord (w0 w1 w2 w3 : Word) {s : State} (h : ∀ i, i < 4 → WriteShows 0 (mramBase + 4 * i) s) (i : Nat) (hi : i < 4) :
    mramNow (mramBase + 4 * i) (putRecord 0 [w0, w1, w2, w3] s) = [w0, w1, w2, w3].getD i 0 := by
  have hend := fun i hi => (h i hi).mramDword (off := 16) 0 0
  have hsecond := fun i hi => (hend i hi).mramDword (off := 8) w2 w3
  obtain ⟨h0, h1⟩ := mramNow_mramDword_same (off := 0) (lo := w0) (hi := w1) (hsecond 0 (by decide)) (hsecond 1 (by decide))
  obtain ⟨h2, h3⟩ := mramNow_mramDword_same (off := 8) (lo := w2) (hi := w3) (hend 2 (by decide)) (hend 3 (by decide))
  have hother : ∀ a, mramBase + 8 ≤ a → ∀ t, mramNow a (mramDword 0 w0 w1 t) = mramNow a t := fun a ha t =>
    mramNow_mramDword_other (.inr (by omega))
  rw [putRecord_four]
  interval_cases i
  · exact h0
  · exact h1
  · exact (hother _ (by omega) _).trans h2
  · exact (hother _ (by omega) _).trans h3

/-- The PERM_ERASED record has four words (R678, R688). -/
theorem recWords_erased (s : State) : ∃ w0 w1 w2 w3, recWords 0xE6 0 [] s = [w0, w1, w2, w3] := ⟨_, _, _, _, rfl⟩

/-- The erase's record stands and is counted; the head and the flags of the log are still to follow. -/
def erasureRecorded (s : State) : State := countG 0x33 1 ((putRecord 0 (recWords 0xE6 0 [] s) s).incF LOG_WRITTEN.COUNT 1)

theorem eraseEnd_eq (s : State) : eraseEnd s =
    (((erasureRecorded s).setF LOG_PHEAD.OFF 16).setF LOG_STAT.PERMFULL 0).setF LOG_STAT.ERASING 0 := rfl

theorem erasureRecorded_keeps (s : State) : Kept [.mem, .fab, .flt] [8, 0xA, 0xB] [] s (erasureRecorded s) := by
  have hrecord : ∀ off ws, Repairs [] s (putRecord off ws s) := fun _ _ =>
    ((Repairs.mramWrite _ _ s).trans (Repairs.mramWrite _ _ _)).trans (Repairs.mramWrite _ _ _)
  exact (((hrecord _ _).kept.mono (by simp) (by simp) (by simp)).incF _ _).countG _ _

theorem eraseEnd_keeps (s : State) : Kept [.mem, .fab, .flt] [8, 0xA, 0xB] [] s (eraseEnd s) := by
  rw [eraseEnd_eq]
  exact (((erasureRecorded_keeps s).setF _ _).setF _ _).setF _ _

theorem eraseEnd_mem (s : State) : (eraseEnd s).mem = (putRecord 0 (recWords 0xE6 0 [] s) s).mem := by
  rw [eraseEnd_eq, State.setF_mem, State.setF_mem, State.setF_mem, erasureRecorded, countG_mem, State.incF, State.setF_mem]

theorem eraseEnd_held (s : State) : (eraseEnd s).fab.held = (putRecord 0 (recWords 0xE6 0 [] s) s).fab.held := by
  rw [eraseEnd_eq, State.setF_fab, State.setF_fab, State.setF_fab, erasureRecorded, countG_held, State.incF, State.setF_fab]

/-- The erase is over, the area open, and its head behind the record. -/
theorem eraseEnd_opens (s : State) : (eraseEnd s).flag LOG_STAT.ERASING = false ∧ (eraseEnd s).flag LOG_STAT.PERMFULL = false
    ∧ (eraseEnd s).getF LOG_PHEAD.OFF = 16 := by
  refine ⟨?_, ?_, ?_⟩
  · rw [eraseEnd_eq, State.flag, State.getF_setF_same _ _ _ (by decide)]
    rfl
  · rw [eraseEnd_eq, State.flag, State.getF_setF_disjoint _ _ _ _ (by decide) (by decide), State.getF_setF_same _ _ _ (by decide)]
    rfl
  · rw [eraseEnd_eq, State.getF_setF_other _ _ _ _ (by decide), State.getF_setF_other _ _ _ _ (by decide),
      State.getF_setF_same _ _ _ (by decide)]
    rfl

/-! #### The operation is over -/

/-- No long operation runs any more (R644). -/
def longOpOver (s : State) : State := (s.onCmd fun u => { u with longOp := none }).setF CMD_STAT.LONGOP 0

theorem longOpOver_keeps (s : State) : Kept [.cmd] [] [CMD_STAT.LONGOP.addr] s (longOpOver s) := ((Kept.refl _ _ _ s).onCmd _).setF _ _

theorem longOpOver_mem (s : State) : (longOpOver s).mem = s.mem := (longOpOver_keeps s).part .mem (by decide)

theorem longOpOver_fab (s : State) : (longOpOver s).fab = s.fab := (longOpOver_keeps s).part .fab (by decide)

theorem longOpOver_longOp (s : State) : (longOpOver s).cmd.longOp = none := by
  rw [longOpOver, State.setF_cmd, State.onCmd_cmd]

theorem longOpOver_waiting (s : State) : (longOpOver s).cmd.waiting = s.cmd.waiting := by
  rw [longOpOver, State.setF_cmd, State.onCmd_cmd]

theorem flag_longOpOver (s : State) : (longOpOver s).flag CMD_STAT.LONGOP = false := by
  rw [longOpOver, State.flag, State.getF_setF_same _ _ _ (by decide)]
  rfl

/-- OP_DONE notifies what the work of the operation came to. -/
theorem exec_opDone {l : LongOp} {s : State} (h : s.cmd.longOp = some l) : exec (.opDone) s =
    .next (settle (serve (notify 0x800A [l.op, l.hseq, (endLong l s).2.1 * 65536 + (endLong l s).2.2] (longOpOver (endLong l s).1)))) := by
  show execOpDone s = _
  unfold execOpDone opDone
  rw [h]
  rfl

theorem endLong_erase {l : LongOp} (h : l.op = 0x702) (s : State) : endLong l s = (eraseEnd s, 0, 0xFFFF) := by
  simp only [endLong, h]

theorem endLong_firmware {l : LongOp} (h : l.op = 0xF00) (s : State) : endLong l s = verifyImage (decide (l.arg = 1)) s := by
  simp only [endLong, h]

theorem endLong_invalidSlot {l : LongOp} (h : l.op = 0x10B) {s : State} (hs : sceneStream l.arg s = none) :
    endLong l s = (s, 3, 0xFFFF) := by
  simp only [endLong, h, hs]

theorem endLong_scene {l : LongOp} (h : l.op = 0x10B) {s : State} {ws : List Word} {ps : List (List Word)}
    (hs : sceneStream l.arg s = some ws) (hp : storedPackets (ws.length + 1) 0 ws = .inr ps) : endLong l s = runScene l.tr ps 0 s := by
  simp only [endLong, h, hs, hp]

theorem exec_opDone_erase {l : LongOp} {s : State} (h : s.cmd.longOp = some l) (hop : l.op = 0x702) : exec (.opDone) s =
    .next (settle (serve (notify 0x800A [l.op, l.hseq, 0xFFFF] (longOpOver (eraseEnd s))))) := by
  rw [exec_opDone h, endLong_erase hop, Nat.zero_mul, Nat.zero_add]

theorem erase_ends (l : LongOp) (s : State) (h : s.cmd.longOp = some l) (hop : l.op = 0x702) :
    ∃ t, exec (.opDone) s = .next t
      ∧ (∃ v, t = settle (serve (notify 0x800A [l.op, l.hseq, 0xFFFF] v)) ∧ v.cmd.longOp = none ∧ v.flag CMD_STAT.LONGOP = false
        ∧ v.flag LOG_STAT.ERASING = false ∧ v.flag LOG_STAT.PERMFULL = false ∧ v.getF LOG_PHEAD.OFF = 16
        ∧ (∀ a, a < mramBase ∨ mramBase + 24 ≤ a → v.byte a = s.byte a) ∧ v.cmd.waiting = s.cmd.waiting ∧ v.mode = s.mode) := by
  have hover := longOpOver_keeps (eraseEnd s)
  obtain ⟨herasing, hopen, hhead⟩ := eraseEnd_opens s
  refine ⟨_, exec_opDone_erase h hop, longOpOver (eraseEnd s), rfl, longOpOver_longOp _, flag_longOpOver _, ?_, ?_, ?_, fun a ha => ?_, ?_, ?_⟩
  · rw [hover.flag _ (by decide) (by decide), herasing]
  · rw [hover.flag _ (by decide) (by decide), hopen]
  · rw [hover.getF _ (by decide) (by decide), hhead]
  · obtain ⟨w0, w1, w2, w3, hws⟩ := recWords_erased s
    rw [byte_congr ((longOpOver_mem _).trans (eraseEnd_mem s)), hws]
    exact putRecord_byte_other w0 w1 w2 w3 s a ha
  · rw [longOpOver_waiting, show _ = s.cmd from (eraseEnd_keeps s).part .cmd (by decide)]
  · rw [State.mode, hover.getF _ (by decide) (by decide), (eraseEnd_keeps s).getF _ (by decide) (by decide)]
    rfl

theorem erase_records (l : LongOp) (s : State) (h : s.cmd.longOp = some l) (hop : l.op = 0x702)
    (hheld : s.fab.held.all (fun c => decide (c.1 < mramBase ∨ mramBase + 16 ≤ c.1)) = true
      ∨ (s.flag MRAM_STAT.BUSY = true ∧ s.fab.replacing.head? = some 0)) :
    ∃ t, exec (.opDone) s = .next t
      ∧ (∃ v, t = settle (serve (notify 0x800A [l.op, l.hseq, 0xFFFF] v)) ∧ v.cmd.longOp = none ∧ v.flag CMD_STAT.LONGOP = false
        ∧ (∀ i, i < 4 → mramNow (mramBase + 4 * i) v = (recWords 0xE6 0 [] s).getD i 0)) := by
  refine ⟨_, exec_opDone_erase h hop, longOpOver (eraseEnd s), rfl, longOpOver_longOp _, flag_longOpOver _, fun i hi => ?_⟩
  have hshows : ∀ i, i < 4 → WriteShows 0 (mramBase + 4 * i) s := fun i hi => hheld.imp (fun hall c hc => by
    have hout := of_decide_eq_true (List.all_eq_true.1 hall c hc)
    omega) id
  rw [mramNow_congr (s := putRecord 0 (recWords 0xE6 0 [] s) s) ((longOpOver_mem _).trans (eraseEnd_mem s))
    ((congrArg FabU.held (longOpOver_fab _)).trans (eraseEnd_held s))]
  obtain ⟨w0, w1, w2, w3, hws⟩ := recWords_erased s
  rw [hws]
  exact mramNow_putRecord w0 w1 w2 w3 hshows i hi

theorem firmwareUpdate_ends (l : LongOp) (s : State) (h : s.cmd.longOp = some l) (hop : l.op = 0xF00) :
    ∃ t, exec (.opDone) s = .next t
      ∧ (∃ v, t = settle (serve (notify 0x800A [l.op, l.hseq,
          (if bankValid (decide (l.arg = 1)) s = true ∧ s.boot.fwSeq < bankSeq (decide (l.arg = 1)) s then 0 else 3) * 65536 + 0xFFFF] v))
        ∧ v.cmd.longOp = none ∧ v.flag CMD_STAT.LONGOP = false ∧ Kept [.cmd, .flt] [] [CMD_STAT.LONGOP.addr] s v
        ∧ v.cmd.waiting = s.cmd.waiting) := by
  obtain ⟨b, hb⟩ : ∃ b, b = decide (l.arg = 1) := ⟨_, rfl⟩
  obtain ⟨st, hst⟩ : ∃ st, st = if bankValid b s = true ∧ s.boot.fwSeq < bankSeq b s then 0 else 3 := ⟨_, rfl⟩
  have hverify : endLong l s = (logEvent 0xE3 [bankSeq b s, st * 65536 + b2n b] s, st, 0xFFFF) := by
    rw [endLong_firmware hop, ← hb]
    simp only [verifyImage, hst, Bool.and_eq_true, decide_eq_true_eq]
  have hexec := exec_opDone h
  rw [hverify] at hexec
  rw [← hb, ← hst]
  refine ⟨_, hexec, _, rfl, longOpOver_longOp _, flag_longOpOver _, ?_, longOpOver_waiting _⟩
  exact ((Kept.refl _ _ _ s).logEvent _ _).trans ((longOpOver_keeps _).mono (by simp) (by simp) (by simp))

theorem sceneLoad_ofInvalidSlot (l : LongOp) (s : State) (h : s.cmd.longOp = some l) (hop : l.op = 0x10B)
    (hstream : sceneStream l.arg s = none) :
    ∃ t, exec (.opDone) s = .next t
      ∧ (∃ v, t = settle (serve (notify 0x800A [l.op, l.hseq, 3 * 65536 + 0xFFFF] v)) ∧ v.cmd.longOp = none
        ∧ v.flag CMD_STAT.LONGOP = false ∧ Kept [.cmd] [] [CMD_STAT.LONGOP.addr] s v ∧ v.cmd.waiting = s.cmd.waiting) := by
  have hexec := exec_opDone h
  rw [endLong_invalidSlot hop hstream] at hexec
  exact ⟨_, hexec, _, rfl, longOpOver_longOp _, flag_longOpOver _, longOpOver_keeps s, longOpOver_waiting s⟩

/-! #### The packets of a scene -/

theorem dropRecast_keeps (r : Recast) (s : State) : Kept [] acceptPages [] s (dropRecast r s) := by
  unfold dropRecast
  refine Kept.ite _ (fun h => ?_) (fun _ => .refl _ _ _ _)
  exact (Kept.refl _ _ _ s).setF _ _ (.inl (engBase_page r.target h.1).2)

theorem revertLanes_keeps (s : State) : Kept [] [7] [] s (revertLanes s) := by
  have hlane : ∀ (ls : List Nat) (t : State), (∀ l ∈ ls, l < 32) →
      Kept [] [7] [] t (ls.foldl (fun s l => s.setReg (0x70104 + 0x10 * l) (s.lane l).live) t) := by
    intro ls
    induction ls with
    | nil => exact fun t _ => .refl _ _ _ _
    | cons l ls ih =>
      intro t hl
      have hpage : (0x70104 + 0x10 * l) / 65536 = 7 := by
        have := hl l List.mem_cons_self
        omega
      exact ((Kept.refl _ _ _ t).setReg _ _ (.inl (by simp [hpage]))).trans (ih _ fun x hx => hl x (List.mem_cons_of_mem _ hx))
  exact hlane _ s fun l hl => List.mem_range.1 hl

/-- A reverted slate holds no crosspoint, no patch and no recast (R297). -/
theorem revertSlate_discards (s : State) : (revertSlate s).spl.slate = [] ∧ (revertSlate s).take.patchSlate = []
    ∧ (revertSlate s).take.recasts = [] ∧ (revertSlate s).flag SPL_STAT.SLATE_DIRTY = false := by
  obtain ⟨y, hy⟩ : ∃ y, y = (((List.range 18).foldl (fun s e => revertEngine e s) s).onSpl fun u => { u with slate := [] }).setF
    SPL_STAT.SLATE_DIRTY 0 := ⟨_, rfl⟩
  obtain ⟨z, hz⟩ : ∃ z, z = ((revertTasks y).cs.lines.map (·.1)).foldl (fun s i => revertLine i s) (revertTasks y) := ⟨_, rfl⟩
  obtain ⟨w, hw⟩ : ∃ w, w = (z.take.recasts.foldl (fun s r => dropRecast r s) z).onTake fun u =>
    { u with patchSlate := [], slices := [], recasts := [] } := ⟨_, rfl⟩
  have hrevert : revertSlate s = revertLanes w := by
    rw [hw, hz, hy]
    rfl
  have hyz : Kept [.cs, .fab] [] [] y z := by
    rw [hz]
    exact ((Kept.refl _ _ _ y).onCs _).trans (Kept.foldl _ (fun t i => (revertLine_spec i t).2.2) _ _)
  have hzw : Kept [.take] acceptPages [] z w := by
    rw [hw]
    exact ((Kept.foldl _ (fun t r => dropRecast_keeps r t) _ z).mono (by simp) (by simp) (by simp)).onTake _
  have hlanes := revertLanes_keeps w
  have hk : Kept [.cs, .fab, .take] (7 :: acceptPages) [] y (revertLanes w) :=
    ((hyz.mono (by simp) (by simp) (by simp)).trans (hzw.mono (by simp) (by simp) (by simp))).trans
      (hlanes.mono (by simp) (by simp) (by simp))
  have hspl : (revertLanes w).spl = y.spl := hk.part .spl (by decide)
  have htake : (revertLanes w).take = w.take := hlanes.part .take (by decide)
  rw [hrevert]
  refine ⟨?_, ?_, ?_, ?_⟩
  · rw [hspl, hy]
    rfl
  · rw [htake, hw]
    rfl
  · rw [htake, hw]
    rfl
  · rw [hk.flag _ (by decide) (by decide), hy, State.flag, State.getF_setF_same _ _ _ (by decide)]
    rfl

/-- A stored packet is executed, and the scene goes on or is refused at its place. -/
theorem runScene_cons (tr : Nat) (ws : List Word) (ps : List (List Word)) (i : Nat) (s : State) : ∃ (w : Waiting) (r : Res),
    runScene tr (ws :: ps) i s = if r.st = 0 then runScene tr ps (i + 1) (settleRes w s r) else (revertSlate r.s, r.st, i) :=
  ⟨_, _, rfl⟩

/-- A scene whose packets are all executed ends with OK; with a refused one it names its place, and the slate is reverted (R651). -/
theorem runScene_outcome (tr : Nat) : ∀ (ps : List (List Word)) (i : Nat) (s : State),
    ((runScene tr ps i s).2.1 = 0 → (runScene tr ps i s).2.2 = 0xFFFF)
    ∧ ((runScene tr ps i s).2.1 ≠ 0 → (runScene tr ps i s).2.2 < i + ps.length ∧ ∃ u, (runScene tr ps i s).1 = revertSlate u)
  | [], _, _ => ⟨fun _ => rfl, fun h => absurd rfl h⟩
  | ws :: ps, i, s => by
    obtain ⟨w, r, hcons⟩ := runScene_cons tr ws ps i s
    rw [hcons, List.length_cons]
    split
    · obtain ⟨hok, hrefused⟩ := runScene_outcome tr ps (i + 1) (settleRes w s r)
      refine ⟨hok, fun h => ?_⟩
      obtain ⟨hlt, hreverted⟩ := hrefused h
      exact ⟨by omega, hreverted⟩
    · next hst => exact ⟨fun h => absurd h hst, fun _ => ⟨Nat.lt_add_of_pos_right (Nat.succ_pos _), _, rfl⟩⟩

theorem sceneLoad_ends (l : LongOp) (ws : List Word) (ps : List (List Word)) (r : State × Nat × Nat) (s : State)
    (h : s.cmd.longOp = some l) (hop : l.op = 0x10B) (hstream : sceneStream l.arg s = some ws)
    (hstored : storedPackets (ws.length + 1) 0 ws = .inr ps) (hr : r = runScene l.tr ps 0 s) :
    ∃ t, exec (.opDone) s = .next t
      ∧ (∃ v, t = settle (serve (notify 0x800A [l.op, l.hseq, r.2.1 * 65536 + r.2.2] v)) ∧ v.cmd.longOp = none
        ∧ v.flag CMD_STAT.LONGOP = false ∧ v.spl = r.1.spl ∧ v.cs = r.1.cs ∧ v.take = r.1.take ∧ (r.2.1 = 0 → r.2.2 = 0xFFFF)
        ∧ (r.2.1 ≠ 0 → r.2.2 < ps.length ∧ v.spl.slate = [] ∧ v.take.patchSlate = [] ∧ v.take.recasts = []
          ∧ v.flag SPL_STAT.SLATE_DIRTY = false)) := by
  have hexec := exec_opDone h
  rw [endLong_scene hop hstream hstored, ← hr] at hexec
  obtain ⟨hok, hrefused⟩ := runScene_outcome l.tr ps 0 s
  rw [← hr] at hok hrefused
  have hover := longOpOver_keeps r.1
  refine ⟨_, hexec, longOpOver r.1, rfl, longOpOver_longOp _, flag_longOpOver _, hover.part .spl (by decide), hover.part .cs (by decide),
    hover.part .take (by decide), hok, fun hne => ?_⟩
  obtain ⟨hlt, u, hu⟩ := hrefused hne
  obtain ⟨hslate, hpatches, hrecasts, hclean⟩ := revertSlate_discards u
  rw [← hu] at hslate hpatches hrecasts hclean
  have hspl : (longOpOver r.1).spl = r.1.spl := hover.part .spl (by decide)
  have htake : (longOpOver r.1).take = r.1.take := hover.part .take (by decide)
  rw [hspl, htake, hover.flag _ (by decide) (by decide)]
  exact ⟨by omega, hslate, hpatches, hrecasts, hclean⟩

theorem opDone_idle (s : State) (h : s.cmd.longOp = none) (hw : s.cmd.waiting = []) (hq : Quiet s) :
    ∃ t, exec (.opDone) s = .next t ∧ t = s := by
  refine ⟨s, ?_, rfl⟩
  show execOpDone s = _
  unfold execOpDone opDone
  rw [h]
  dsimp only
  rw [serve_of_none hw, finish_of_quiet hq]

/-- Settles O39, operation by operation. -/
theorem longOperationEnds : Obligations.LongOperationEnds :=
  ⟨erase_ends, erase_records, firmwareUpdate_ends, sceneLoad_ofInvalidSlot, sceneLoad_ends, opDone_idle⟩

end Sys2Proof
end

section
/-! ### PORT_CFG, PORT_START, PORT_STOP and CG_CFG (O15) -/

namespace Sys2Proof

open Machine

/-- Whatever the command interface holds, the body of a packet runs `run`, which keeps all but the parts `ps`, the pages `pg` and the
registers `as`; the command interface, the fault messages and the link's role are none of these. -/
structure BodyRuns (ps : List Part) (pg as : List Nat) (op : Nat) (h : CmdHdr) (p : List Word) (s : State) (run : State → State) : Prop where
  body : ∀ f, opBody (packetOf op h p [] s) false (s.onCmd f) = doneWith [] (run (s.onCmd f))
  kept : ∀ f, Kept ps pg as (s.onCmd f) (run (s.onCmd f))
  cmd : Part.cmd ∉ ps
  flt : Part.flt ∉ ps
  role : STI_STAT.ROLE.addr / 65536 ∉ pg ∧ STI_STAT.ROLE.addr ∉ as

/-! #### The state of a port -/

@[simp] theorem port_onPort_same (p : Nat) (f : PortU → PortU) (s : State) : (onPort p f s).port p = f (s.port p) := by
  simp [onPort, State.port]

theorem port_onPort_other {p q : Nat} (h : q ≠ p) (f : PortU → PortU) (s : State) : (onPort p f s).port q = s.port q :=
  smGet_smPut_other _ _ q p _ h _

@[simp] theorem reg_onPort (p : Nat) (f : PortU → PortU) (s : State) (a : Nat) : (onPort p f s).reg a = s.reg a := rfl

@[simp] theorem getF_onPort (p : Nat) (f : PortU → PortU) (s : State) (x : Fld) : (onPort p f s).getF x = s.getF x := rfl

@[simp] theorem flag_onPort (p : Nat) (f : PortU → PortU) (s : State) (x : Fld) : (onPort p f s).flag x = s.flag x := rfl

@[simp] theorem port_setF (s : State) (x : Fld) (v p : Nat) : (s.setF x v).port p = s.port p := rfl

theorem Kept.onPort {ps : List Part} {pg as : List Nat} {s t : State} (p : Nat) (f : PortU → PortU) (h : Kept ps pg as s t)
    (hp : .sp ∈ ps := by decide) : Kept ps pg as s (Machine.onPort p f t) := h.onSp _ hp

/-- Where a frame lets no serial port change, each is as it was. -/
theorem Kept.port {ps : List Part} {pg as : List Nat} {s t : State} (h : Kept ps pg as s t) (p : Nat) (hp : .sp ∉ ps) :
    t.port p = s.port p := by
  rw [State.port, State.port, show t.sp = s.sp from h.part .sp hp]

/-! #### The bodies of these packets -/

/-- The opcodes from 0x400 on are those of the units (R639). -/
theorem opBody_unit {w : Waiting} (gap : Bool) (b : State) (h : 0x400 ≤ w.op) : opBody w gap b = unitBody w b := by
  unfold opBody
  split
  case h_9 => exact if_neg (by omega)
  all_goals omega

theorem opBody_portCfg (h : CmdHdr) (p : List Word) (s b : State) : opBody (packetOf 0x400 h p [] s) false b = cmdPortCfg p b := by
  rw [opBody_unit _ _ (by simp [packetOf])]
  rfl

theorem opBody_portStart (h : CmdHdr) (p : List Word) (s b : State) :
    opBody (packetOf 0x401 h p [] s) false b = cmdPortTime true p b := by
  rw [opBody_unit _ _ (by simp [packetOf])]
  rfl

theorem opBody_portStop (h : CmdHdr) (p : List Word) (s b : State) :
    opBody (packetOf 0x402 h p [] s) false b = cmdPortTime false p b := by
  rw [opBody_unit _ _ (by simp [packetOf])]
  rfl

theorem opBody_cgCfg (h : CmdHdr) (p : List Word) (s b : State) : opBody (packetOf 0x403 h p [] s) false b = cmdCgCfg p b := by
  rw [opBody_unit _ _ (by simp [packetOf])]
  rfl

/-- A ready packet whose body runs `run`, which leaves the command interface. -/
theorem arrived_of_run {ps : List Part} {pg as : List Nat} {op : Nat} {h : CmdHdr} {p : List Word} {s : State} {run : State → State}
    (hr : Ready op h p s) (h1 : op ≠ 1) (hc : h.chk = false) (hrun : BodyRuns ps pg as op h p s run) :
    ∃ f t, arrived op h p s = .next t ∧ Accepted op h [] t ∧ Kept [.cmd, .outs] [0xD] [] (run (s.onCmd f)) t
      ∧ Kept (.cmd :: .outs :: ps) (0xD :: pg) as s t := by
  obtain ⟨f, hf⟩ := begun_eq_onCmd (packetOf op h p [] s) s
  have hsame : (run (s.onCmd f)).cmd = (s.onCmd f).cmd := (hrun.kept f).part .cmd hrun.cmd
  obtain ⟨t, ht⟩ := accepted_of_changes hr h1 hc (run (s.onCmd f)) [] (by rw [hf]; exact hrun.body f) (by rw [hf]; exact hrun.kept f) hrun.flt
    (fun tr => by rw [State.sess, State.sess, hsame, hf]) hrun.role
  exact ⟨f, t, ht⟩

/-- The reply to a packet leaves the registers of the serial ports and clock groups. -/
theorem reg_of_replied {x t : State} {a : Nat} (h : Kept [.cmd, .outs] [0xD] [] x t) (ha : a / 65536 = 5) : t.reg a = x.reg a :=
  h.reg a (by rw [ha]; decide) (by simp) fun _ htx => by
    simp only [mgmtTx, List.mem_cons, List.not_mem_nil, or_false] at htx
    omega

/-! #### Words written in a row -/

/-- The words `l` are written to the registers from `b + 4 n` on. -/
def writeWords (b n : Nat) (l : List Word) (s : State) : State := (l.zipIdx n).foldl (fun s x => s.setReg (b + 4 * x.2) x.1) s

theorem writeWords_cons (b n : Nat) (w : Word) (l : List Word) (s : State) :
    writeWords b n (w :: l) s = writeWords b (n + 1) l (s.setReg (b + 4 * n) w) := rfl

theorem reg_writeWords_outside {b : Nat} {l : List Word} {a : Nat} {n : Nat} {s : State}
    (h : a < b + 4 * n ∨ b + 4 * (n + l.length) ≤ a) : (writeWords b n l s).reg a = s.reg a := by
  induction l generalizing n s with
  | nil => rfl
  | cons w l ih =>
    rw [List.length_cons] at h
    rw [writeWords_cons, ih (by omega), State.reg_setReg_other _ _ _ _ (by omega)]

theorem reg_writeWords {b : Nat} {l : List Word} {i : Nat} (n : Nat) (s : State) (hi : i < l.length) :
    (writeWords b n l s).reg (b + 4 * (n + i)) = l[i] := by
  induction l generalizing n s i with
  | nil => simp at hi
  | cons w l ih =>
    cases i with
    | zero => rw [writeWords_cons, reg_writeWords_outside (by omega), Nat.add_zero, State.reg_setReg_same, List.getElem_cons_zero]
    | succ i =>
      rw [writeWords_cons, show n + (i + 1) = n + 1 + i by omega, ih _ _ (by simpa using hi), List.getElem_cons_succ]

theorem Kept.writeWords {ps : List Part} {pg as : List Nat} {s t : State} {b n : Nat} {l : List Word} (h : Kept ps pg as s t)
    (ha : ∀ i < l.length, (b + 4 * (n + i)) / 65536 ∈ pg) : Kept ps pg as s (Sys2Proof.writeWords b n l t) := by
  induction l generalizing n t with
  | nil => exact h
  | cons w l ih =>
    rw [writeWords_cons]
    refine ih (h.setReg _ _ (.inl (ha 0 (by simp)))) fun i hi => ?_
    rw [show n + 1 + i = n + (i + 1) by omega]
    exact ha (i + 1) (by simpa using hi)

/-! #### PORT_CFG -/

/-- The map words of a PORT_CFG from payload word `n` on (R388). -/
def packetMap (n : Nat) (p : List Word) : List Word := ((p.drop n).take 8).map fun w => wd (w.toNat &&& 0x1F1F1F1F)

theorem length_packetMap {n : Nat} {p : List Word} (h : n + 8 ≤ p.length) : (packetMap n p).length = 8 := by
  rw [packetMap, List.length_map, List.length_take, List.length_drop]
  omega

theorem getElem_packetMap {n i : Nat} {p : List Word} (hi : i < (packetMap n p).length) :
    (packetMap n p)[i] = wd (nAt p (n + i) &&& 0x1F1F1F1F) := by
  have hlt : n + i < p.length := by
    rw [packetMap, List.length_map, List.length_take, List.length_drop] at hi
    omega
  simp [packetMap, nAt, hlt]

/-- The registers from `b` on with the configuration, channel counts and map words of a PORT_CFG (R388). -/
def portConfigured (b : Nat) (p : List Word) (s : State) : State :=
  writeWords (b + 0x40) 0 (packetMap 11 p) (writeWords (b + 0x20) 0 (packetMap 3 p)
    ((s.setReg b (wd (nAt p 1 &&& 0xFF800000))).setReg (b + 0x14) (wd (nAt p 2 &&& 0x3F3F))))

section

variable {b : Nat} {p : List Word} (s : State)

theorem reg_portConfigured_cfg : (portConfigured b p s).reg b = wd (nAt p 1 &&& 0xFF800000) := by
  rw [portConfigured, reg_writeWords_outside (by omega), reg_writeWords_outside (by omega),
    State.reg_setReg_other _ _ _ _ (by omega), State.reg_setReg_same]

theorem reg_portConfigured_nch : (portConfigured b p s).reg (b + 0x14) = wd (nAt p 2 &&& 0x3F3F) := by
  rw [portConfigured, reg_writeWords_outside (by omega), reg_writeWords_outside (by omega), State.reg_setReg_same]

variable (hlen : p.length = 19)

include hlen

theorem reg_portConfigured_mapIn {i : Nat} (hi : i < 8) :
    (portConfigured b p s).reg (b + 0x20 + 4 * i) = wd (nAt p (3 + i) &&& 0x1F1F1F1F) := by
  have hmap : i < (packetMap 3 p).length := by rw [length_packetMap (by omega)]; exact hi
  have hread := fun t => reg_writeWords (b := b + 0x20) 0 t hmap
  rw [Nat.zero_add] at hread
  rw [portConfigured, reg_writeWords_outside (by omega), hread, getElem_packetMap]

theorem reg_portConfigured_mapOut {i : Nat} (hi : i < 8) :
    (portConfigured b p s).reg (b + 0x40 + 4 * i) = wd (nAt p (11 + i) &&& 0x1F1F1F1F) := by
  have hmap : i < (packetMap 11 p).length := by rw [length_packetMap (by omega)]; exact hi
  have hread := fun t => reg_writeWords (b := b + 0x40) 0 t hmap
  rw [Nat.zero_add] at hread
  rw [portConfigured, hread, getElem_packetMap]

theorem reg_portConfigured_outside {a : Nat} (ha : a < b ∨ b + 0x60 ≤ a) : (portConfigured b p s).reg a = s.reg a := by
  have hin := length_packetMap (n := 3) (p := p) (by omega)
  have hout := length_packetMap (n := 11) (p := p) (by omega)
  rw [portConfigured, reg_writeWords_outside (by omega), reg_writeWords_outside (by omega),
    State.reg_setReg_other _ _ _ _ (by omega), State.reg_setReg_other _ _ _ _ (by omega)]

theorem portConfigured_kept (hb : b % 65536 < 0xFFA0) : Kept [] [b / 65536] [] s (portConfigured b p s) := by
  have hin := length_packetMap (n := 3) (p := p) (by omega)
  have hout := length_packetMap (n := 11) (p := p) (by omega)
  have hpage : ∀ d, d < 0x60 → (b + d) / 65536 ∈ [b / 65536] := fun d hd => by
    rw [List.mem_singleton]
    omega
  refine Kept.writeWords (Kept.writeWords (((Kept.refl _ _ _ s).setReg _ _ (.inl (hpage 0 (by decide)))).setReg _ _
    (.inl (hpage _ (by decide)))) fun i hi => ?_) fun i hi => ?_
  · rw [Nat.add_assoc]
    exact hpage _ (by omega)
  · rw [Nat.add_assoc]
    exact hpage _ (by omega)

end

/-- A PORT_CFG that passes its checks writes one port (R388). -/
theorem portCfg_configures (h : CmdHdr) (p : List Word) (k b : Nat) (s : State) (hr : Ready 0x400 h p s) (hc : h.chk = false)
    (hk : k = nAt p 0) (hlt : k < 64) (hb : b = 0x50000 + k * 0x100)
    (hcheck : portCheck k (nAt p 1 &&& 0xFF800000) (nAt p 2 &&& 0x3F3F) (((p.drop 3).take 8).map fun w => wd (w.toNat &&& 0x1F1F1F1F))
      (((p.drop 11).take 8).map fun w => wd (w.toNat &&& 0x1F1F1F1F)) s = 0) :
    ∃ t, exec (.portCfg h p) s = .next t
      ∧ Accepted 0x400 h [] t
      ∧ t.reg b = wd (nAt p 1 &&& 0xFF800000)
      ∧ t.reg (b + 0x14) = wd (nAt p 2 &&& 0x3F3F)
      ∧ (∀ i, i < 8 → t.reg (b + 0x20 + 4 * i) = wd (nAt p (3 + i) &&& 0x1F1F1F1F)
        ∧ t.reg (b + 0x40 + 4 * i) = wd (nAt p (11 + i) &&& 0x1F1F1F1F))
      ∧ (∀ a, a < b ∨ b + 0x60 ≤ a → a / 65536 ≠ 0xD → a ∉ mgmtTx → t.reg a = s.reg a)
      ∧ Kept [.cmd, .outs] [0xD, 5] [] s t := by
  have hlen : p.length = 19 := by
    obtain ⟨-, -, ⟨-, hl⟩, -⟩ := id hr
    simpa [lenOk] using hl
  have hpage : b / 65536 = 5 := by omega
  have hbody : ∀ f, opBody (packetOf 0x400 h p [] s) false (s.onCmd f) = doneWith [] (portConfigured b p (s.onCmd f)) := fun f => by
    rw [hk] at hlt hcheck
    rw [opBody_portCfg]
    simp only [cmdPortCfg]
    rw [if_neg (by omega), if_neg (fun hne => hne hcheck), hb, hk]
    rfl
  obtain ⟨f, t, ht, hacc, hxt, hst⟩ := arrived_of_run hr (by decide) hc
    ⟨hbody, fun f => portConfigured_kept (s.onCmd f) hlen (by omega), by decide, by decide, by rw [hpage]; decide⟩
  have hreg : ∀ d, d < 0x60 → t.reg (b + d) = (portConfigured b p (s.onCmd f)).reg (b + d) := fun d hd => reg_of_replied hxt (by omega)
  refine ⟨t, ht, hacc, ?_, ?_, fun i hi => ⟨?_, ?_⟩, fun a ha hd htx => ?_, hpage ▸ hst⟩
  · exact (hreg 0 (by decide)).trans (reg_portConfigured_cfg _)
  · exact (hreg 0x14 (by decide)).trans (reg_portConfigured_nch _)
  · rw [Nat.add_assoc, hreg _ (by omega), ← Nat.add_assoc]
    exact reg_portConfigured_mapIn _ hlen hi
  · rw [Nat.add_assoc, hreg _ (by omega), ← Nat.add_assoc]
    exact reg_portConfigured_mapOut _ hlen hi
  · rw [hxt.reg a (by simpa using hd) (by simp) fun _ => htx]
    exact reg_portConfigured_outside _ hlen ha

/-! #### PORT_START and PORT_STOP -/

/-- A port holds ASRC channels and all of them are locked (R364). -/
def allLocked (u : PortU) : Bool :=
  0 < u.asrcIn + u.asrcOut && (u.asrcIn = 0 || u.lockIn) && (u.asrcOut = 0 || u.lockOut)

theorem showLock_eq (p : Nat) (s : State) : showLock p s = s.setF (SP_STAT.ASRCLOCK p) (b2n (allLocked (s.port p))) := rfl

/-- The state of a direction in `SP_STAT` (R389). -/
def dirState (out : Bool) (p : Nat) : Fld := if out then SP_STAT.OSTATE p else SP_STAT.ISTATE p

/-- The ball of a direction (R788). -/
def dirBall (out : Bool) (p : Nat) : Nat := if out then 64 + p else p

/-- A port with one direction stopped: its ASRC channels and its queues are empty (R373). -/
def dirStopped (out : Bool) (u : PortU) : PortU :=
  if out then { u with asrcOut := 0, lockOut := false, outq := [], outLead := 0 }
  else { u with asrcIn := 0, lockIn := false, inq := [], cvq := [], ply := none }

/-- An output that stops brings its pin to the idle state (R373). -/
def idled (out : Bool) (p : Nat) (s : State) : State :=
  if out then s.out (.slots p [if s.flag (SP_CFG.IDLEZ p) ∨ s.hiZ then none else some 0]) else s

/-- The enable that a direction's stop leaves: 1 where a start has been accepted behind it. -/
def enAfterStop (out : Bool) (p : Nat) (s : State) : Nat := b2n ((s.port p).reqs.any fun x => x.out = out && x.start)

section

variable (p : Nat) (out : Bool) (s : State)

theorem dirField_addr : (dirField out p).addr = 0x50004 + p * 0x100 := by cases out <;> rfl

theorem dirState_addr : (dirState out p).addr = 0x50008 + p * 0x100 := by cases out <;> rfl

theorem dirState_setF_dirField (v : Nat) : (s.setF (dirField out p) v).getF (dirState out p) = s.getF (dirState out p) :=
  State.getF_setF_other _ _ _ _ (by rw [dirField_addr, dirState_addr]; omega)

theorem stopDir_of_stopped (h : s.getF (dirState out p) = 0) : stopDir p out s = s.setF (dirField out p) (enAfterStop out p s) := by
  have hstate := (dirState_setF_dirField p out s (enAfterStop out p s)).trans h
  cases out with
  | false =>
    rw [stopDir, if_neg Bool.false_ne_true]
    exact if_pos hstate
  | true =>
    rw [stopDir, if_pos rfl]
    exact if_pos hstate

theorem stopDir_of_started (h : s.getF (dirState out p) ≠ 0) : stopDir p out s =
    showLock p (idled out p (releasePin (dirBall out p) (onPort p (dirStopped out)
      ((s.setF (dirField out p) (enAfterStop out p s)).setF (dirState out p) 0)))) := by
  have hstate := (dirState_setF_dirField p out s (enAfterStop out p s)).trans_ne h
  cases out with
  | false =>
    rw [stopDir, if_neg Bool.false_ne_true]
    refine (if_neg hstate).trans ?_
    simp only [dirState, dirBall, idled, Bool.false_eq_true, if_false]
    rfl
  | true =>
    rw [stopDir, if_pos rfl]
    refine (if_neg hstate).trans ?_
    simp only [dirState, dirBall, idled, if_true]
    rfl

end

/-! A start is judged on the state without that direction's run (R369), for which the command interface does not matter. -/

section

variable (f : CmdU → CmdU) (s : State)

theorem setF_onCmd (x : Fld) (v : Nat) : (s.onCmd f).setF x v = (s.setF x v).onCmd f := (rfl)

theorem port_onCmd (p : Nat) : (s.onCmd f).port p = s.port p := (rfl)

theorem onPort_onCmd (p : Nat) (g : PortU → PortU) : onPort p g (s.onCmd f) = (onPort p g s).onCmd f := (rfl)

theorem releasePin_onCmd (i : Nat) : releasePin i (s.onCmd f) = (releasePin i s).onCmd f := (rfl)

theorem showLock_onCmd (p : Nat) : showLock p (s.onCmd f) = (showLock p s).onCmd f := by
  rw [showLock_eq, showLock_eq, port_onCmd, setF_onCmd]

theorem startCheck_onCmd (p : Nat) (out : Bool) : startCheck p out (s.onCmd f) = startCheck p out s := rfl

theorem idled_onCmd (out : Bool) (p : Nat) : idled out p (s.onCmd f) = (idled out p s).onCmd f := by cases out <;> rfl

theorem portStartStatus_onCmd (k : Nat) (d : Bool) : portStartStatus k d (s.onCmd f) = portStartStatus k d s := by
  have henabled : (s.onCmd f).dirEn d k = s.dirEn d k := rfl
  have hrequests : enAfterStop d k (s.onCmd f) = enAfterStop d k s := rfl
  rw [portStartStatus, portStartStatus, henabled]
  by_cases hstate : s.getF (dirState d k) = 0
  · rw [stopDir_of_stopped k d s hstate, stopDir_of_stopped k d (s.onCmd f) hstate, setF_onCmd, hrequests, startCheck_onCmd]
  · rw [stopDir_of_started k d s hstate, stopDir_of_started k d (s.onCmd f) hstate, hrequests, setF_onCmd, setF_onCmd, onPort_onCmd,
      releasePin_onCmd, idled_onCmd, showLock_onCmd, startCheck_onCmd]

theorem portStartFault_onCmd (k : Nat) (ds : List Bool) : portStartFault k ds (s.onCmd f) = portStartFault k ds s := by
  simp only [portStartFault, portStartStatus_onCmd]

end

/-- The enables of a port's two directions are different bits. -/
theorem flag_dirField_setF (d d' : Bool) (k v : Nat) (s : State) :
    (s.setF (dirField d k) v).flag (dirField d' k) = if d' = d then decide (v % 2 = 1) else s.flag (dirField d' k) := by
  have hw : ∀ d, (dirField d k).lsb + (dirField d k).width ≤ 32 := fun d => by cases d <;> exact Nat.le_of_ble_eq_true rfl
  split_ifs with h
  · rw [h, State.flag, State.getF_setF_same _ _ _ (hw d)]
    cases d <;> rfl
  · rw [State.flag, State.getF_setF_disjoint _ _ _ _ (hw d')]
    · rfl
    · cases d <;> cases d' <;> simp_all [dirField, SP_CTRL.IN_EN, SP_CTRL.OUT_EN]

theorem schedulePort_kept (k : Nat) (d start : Bool) (shot trig : Option Nat) (s : State) :
    Kept [.sp] [] [0x50004 + k * 0x100] s (schedulePort k d start shot trig s) := by
  have hset : Kept [.sp] [] [0x50004 + k * 0x100] s (s.setF (dirField d k) (b2n start)) :=
    (Kept.refl _ _ _ s).setF _ _ (.inr (by rw [dirField_addr]; simp))
  rw [schedulePort]
  exact hset.onPort _ _

theorem port_schedulePort_same (k : Nat) (d start : Bool) (shot trig : Option Nat) (s : State) :
    (schedulePort k d start shot trig s).port k = { s.port k with reqs := (s.port k).reqs ++ [⟨d, start, shot, trig⟩] } := by
  rw [schedulePort, port_onPort_same, port_setF]

theorem port_schedulePort_other {k q : Nat} (h : q ≠ k) (d start : Bool) (shot trig : Option Nat) (s : State) :
    (schedulePort k d start shot trig s).port q = s.port q := by
  rw [schedulePort, port_onPort_other h, port_setF]

theorem flag_schedulePort (k : Nat) (d d' start : Bool) (shot trig : Option Nat) (s : State) :
    (schedulePort k d start shot trig s).flag (dirField d' k) = if d' = d then start else s.flag (dirField d' k) := by
  rw [schedulePort, flag_onPort, flag_dirField_setF]
  cases start <;> rfl

/-- Every direction of `ds` of port `k` is scheduled, in this order (R368). -/
def scheduled (k : Nat) (ds : List Bool) (start : Bool) (shot trig : Option Nat) (s : State) : State :=
  ds.foldl (fun s d => schedulePort k d start shot trig s) s

section

variable (k : Nat) (start : Bool) (shot trig : Option Nat)

theorem scheduled_kept (ds : List Bool) (s : State) : Kept [.sp] [] [0x50004 + k * 0x100] s (scheduled k ds start shot trig s) :=
  Kept.foldl _ (fun t d => schedulePort_kept k d start shot trig t) ds s

theorem reqs_scheduled (ds : List Bool) (s : State) :
    ((scheduled k ds start shot trig s).port k).reqs = (s.port k).reqs ++ ds.map fun d => ⟨d, start, shot, trig⟩ := by
  induction ds generalizing s with
  | nil => exact (List.append_nil _).symm
  | cons d ds ih =>
    rw [scheduled, List.foldl_cons, ← scheduled, ih, port_schedulePort_same, List.map_cons, List.append_assoc, List.singleton_append]

theorem port_scheduled_other (ds : List Bool) {q : Nat} (h : q ≠ k) (s : State) : (scheduled k ds start shot trig s).port q = s.port q := by
  induction ds generalizing s with
  | nil => rfl
  | cons d ds ih => rw [scheduled, List.foldl_cons, ← scheduled, ih, port_schedulePort_other h]

theorem flag_scheduled (ds : List Bool) (d' : Bool) (s : State) :
    (scheduled k ds start shot trig s).flag (dirField d' k) = if ds.contains d' then start else s.flag (dirField d' k) := by
  induction ds generalizing s with
  | nil => rfl
  | cons d ds ih =>
    rw [scheduled, List.foldl_cons, ← scheduled, ih, flag_schedulePort, List.contains_cons]
    cases ds.contains d' <;> cases d <;> cases d' <;> rfl

end

/-- A PORT_START or PORT_STOP with a direction, whose timing words are valid and of whose starts none is refused. -/
theorem portTime_schedules {op : Nat} {h : CmdHdr} {p : List Word} {k : Nat} {ds : List Bool} {s : State} (start : Bool)
    (hop : ∀ b, opBody (packetOf op h p [] s) false b = cmdPortTime start p b) (h1 : op ≠ 1) (hr : Ready op h p s) (hc : h.chk = false)
    (hk : k = nAt p 0 % 64) (hds : ds = portDirs (nAt p 0)) (hne : ds ≠ []) (htime : (timing 0x33F p s).1 = 0)
    (hfree : start = true → portStartFault k ds s = none) :
    ∃ t, arrived op h p s = .next t
      ∧ Accepted op h [] t
      ∧ (∀ d, t.flag (dirField d k) = if ds.contains d then start else s.flag (dirField d k))
      ∧ ((t.port k).reqs = (s.port k).reqs ++ ds.map fun d => ⟨d, start, (timing 0x33F p s).2.1, (timing 0x33F p s).2.2⟩)
      ∧ (∀ q, q ≠ k → t.port q = s.port q)
      ∧ Kept [.cmd, .outs, .sp] [0xD] [0x50004 + k * 0x100] s t := by
  have hbody : ∀ f, opBody (packetOf op h p [] s) false (s.onCmd f) =
      doneWith [] (scheduled k ds start (timing 0x33F p s).2.1 (timing 0x33F p s).2.2 (s.onCmd f)) := fun f => by
    have htiming : timing 0x33F p (s.onCmd f) = timing 0x33F p s := rfl
    have hstart : (if start then portStartFault k ds (s.onCmd f) else none) = none := by
      cases start with
      | false => rfl
      | true => rw [if_pos rfl, portStartFault_onCmd, hfree rfl]
    rw [hop]
    simp only [cmdPortTime, htiming, ← hds, ← hk, hstart]
    rw [if_neg (by simp [hne]), if_neg (by simp [htime])]
    rfl
  obtain ⟨f, t, ht, hacc, hxt, hst⟩ := arrived_of_run hr h1 hc ⟨hbody, fun f => scheduled_kept .., by decide, by decide, by simp,
    by rw [List.mem_singleton, show STI_STAT.ROLE.addr = 0xC0004 from rfl]; omega⟩
  have hport := fun q => hxt.port q (by decide)
  refine ⟨t, ht, hacc, fun d => ?_, ?_, fun q hq => ?_, hst⟩
  · rw [State.flag, State.getF, reg_of_replied hxt (by rw [dirField_addr]; omega)]
    exact flag_scheduled ..
  · rw [hport]
    exact reqs_scheduled ..
  · rw [hport]
    exact port_scheduled_other _ _ _ _ _ hq _

theorem portStart_schedules (h : CmdHdr) (p : List Word) (k : Nat) (ds : List Bool) (s : State) (hr : Ready 0x401 h p s)
    (hc : h.chk = false) (hk : k = nAt p 0 % 64) (hds : ds = portDirs (nAt p 0)) (hne : ds ≠ []) (htime : (timing 0x33F p s).1 = 0)
    (hfree : portStartFault k ds s = none) :
    ∃ t, exec (.portStart h p) s = .next t
      ∧ Accepted 0x401 h [] t
      ∧ (∀ d, t.flag (dirField d k) = (ds.contains d || s.flag (dirField d k)))
      ∧ ((t.port k).reqs = (s.port k).reqs ++ ds.map fun d => ⟨d, true, (timing 0x33F p s).2.1, (timing 0x33F p s).2.2⟩)
      ∧ (∀ q, q ≠ k → t.port q = s.port q)
      ∧ Kept [.cmd, .outs, .sp] [0xD] [0x50004 + k * 0x100] s t := by
  obtain ⟨t, ht, hacc, hflag, hrest⟩ := portTime_schedules true (opBody_portStart h p s) (by decide) hr hc hk hds hne htime fun _ => hfree
  exact ⟨t, ht, hacc, fun d => by rw [hflag]; cases ds.contains d <;> rfl, hrest⟩

theorem portStop_schedules (h : CmdHdr) (p : List Word) (k : Nat) (ds : List Bool) (s : State) (hr : Ready 0x402 h p s)
    (hc : h.chk = false) (hk : k = nAt p 0 % 64) (hds : ds = portDirs (nAt p 0)) (hne : ds ≠ []) (htime : (timing 0x33F p s).1 = 0) :
    ∃ t, exec (.portStop h p) s = .next t
      ∧ Accepted 0x402 h [] t
      ∧ (∀ d, t.flag (dirField d k) = (!ds.contains d && s.flag (dirField d k)))
      ∧ ((t.port k).reqs = (s.port k).reqs ++ ds.map fun d => ⟨d, false, (timing 0x33F p s).2.1, (timing 0x33F p s).2.2⟩)
      ∧ (∀ q, q ≠ k → t.port q = s.port q)
      ∧ Kept [.cmd, .outs, .sp] [0xD] [0x50004 + k * 0x100] s t := by
  obtain ⟨t, ht, hacc, hflag, hrest⟩ := portTime_schedules false (opBody_portStop h p s) (by decide) hr hc hk hds hne htime nofun
  exact ⟨t, ht, hacc, fun d => by rw [hflag]; cases ds.contains d <;> rfl, hrest⟩

/-! #### Clock groups -/

theorem flag_cgEnable (g : Nat) (s : State) : s.flag (CG_CFG.ENABLE g) = bitOf (s.reg (0x54000 + 0x20 * g)).toNat 31 := by
  rw [Nat.mul_comm]
  rfl

/-- A ball that is free and whose bank is on is claimed. -/
theorem claimPin_of_free {i : Nat} {c : Claim} {s : State} (hbank : bankOn i s = true) (hfree : s.pinClaim i = none) :
    claimPin i c s = (0, s.onPin fun u => { u with claims := (i, c) :: u.claims }) := by
  rw [claimPin, if_neg (by simp [hbank]), if_neg (by simp [hfree])]

/-- The balls `i` and `j` claimed for the owner `c`. -/
def claimedTwo (i j : Nat) (c : Claim) (s : State) : State :=
  (s.onPin fun u => { u with claims := (i, c) :: u.claims }).onPin fun u => { u with claims := (j, c) :: u.claims }

theorem claimPins_of_free {i j : Nat} {c : Claim} {s : State} (hij : j ≠ i) (hi : bankOn i s = true ∧ s.pinClaim i = none)
    (hj : bankOn j s = true ∧ s.pinClaim j = none) : claimPins [i, j] c s = (0, claimedTwo i j c s) := by
  have hsecond : claimPin j c (s.onPin fun u => { u with claims := (i, c) :: u.claims }) = (0, claimedTwo i j c s) :=
    claimPin_of_free hj.1 (by rw [pinClaim_cons, if_neg hij, hj.2])
  simp only [claimPins, claimPin_of_free hi.1 hi.2, hsecond]

theorem pinClaim_claimedTwo (i j : Nat) (c : Claim) (s : State) (k : Nat) :
    (claimedTwo i j c s).pinClaim k = if k = j then some c else if k = i then some c else s.pinClaim k := by
  rw [claimedTwo, pinClaim_cons, pinClaim_cons]

/-- A check that lets a group be enabled has found its balls free and their banks on (R370, R386). -/
theorem balls_of_cgCheck {g w : Nat} {s : State} (hcheck : cgCheck g w s = 0) (hen : bitOf w 31 = true)
    (hold : s.flag (CG_CFG.ENABLE g) = false) :
    (bankOn (128 + g) s = true ∧ s.pinClaim (128 + g) = none) ∧ (bankOn (144 + g) s = true ∧ s.pinClaim (144 + g) = none) := by
  rw [flag_cgEnable] at hold
  simp only [cgCheck, hold, hen, Bool.false_eq_true, false_and, if_false, if_true] at hcheck
  split_ifs at hcheck with _ hbank hclaim
  simp only [Bool.or_eq_true, Bool.not_eq_true', not_or, Bool.not_eq_false, Option.isSome_iff_ne_none, not_not] at hbank hclaim
  exact ⟨⟨hbank.1, hclaim.1⟩, hbank.2, hclaim.2⟩

/-- The registers of a clock group that its configuration changes. -/
def cgRegs (g : Nat) : List Nat := [0x54000 + 0x20 * g, 0x54004 + 0x20 * g, 0x54008 + 0x20 * g]

/-- Clock group `g` at rest beside its registers, with no rate change shown: what an enable begins with (R370). -/
def cgFresh (g : Nat) (s : State) : State := (onGroup g (fun _ => GroupU.reset) s).setF (CG_STAT.RATECHG g) 0

/-- What a clock group reports: presence, rate class and rate (R347). -/
def cgShown (g present cls freq : Nat) (s : State) : State :=
  ((s.setF (CG_STAT.PRESENT g) present).setF (CG_STAT.RATECLS g) cls).setF (CG_RATE.FREQ g) freq

/-- A master shows its nominal rate (R347). -/
def cgMaster (g : Nat) (s : State) : State :=
  onGroup g (fun u => { u with ref := nominalHz g s * 64 }) (cgShown g 1 (rateClass (nominalHz g s * 64)) (nominalHz g s * 64) s)

/-- What a disabled group reports is cleared (R370). -/
def cgCleared (g : Nat) (s : State) : State := onGroup g (fun _ => GroupU.reset) (cgShown g 0 0 0 s)

section

variable (g : Nat) (s : State)

theorem cgFields_mem : (CG_STAT.PRESENT g).addr ∈ cgRegs g ∧ (CG_STAT.RATECLS g).addr ∈ cgRegs g ∧ (CG_STAT.RATECHG g).addr ∈ cgRegs g
    ∧ (CG_RATE.FREQ g).addr ∈ cgRegs g := by
  simp [cgRegs, CG_STAT.PRESENT, CG_STAT.RATECLS, CG_STAT.RATECHG, CG_RATE.FREQ, Nat.mul_comm]

theorem cgFresh_kept : Kept [.sp, .pin] [] (cgRegs g) s (cgFresh g s) := by
  obtain ⟨-, -, hchg, -⟩ := cgFields_mem g
  exact ((Kept.refl [.sp, .pin] [] (cgRegs g) s).onSp _).setF _ _ (.inr hchg)

theorem cgShown_kept (present cls freq : Nat) : Kept [.sp, .pin] [] (cgRegs g) s (cgShown g present cls freq s) := by
  obtain ⟨hpresent, hcls, -, hfreq⟩ := cgFields_mem g
  exact (((Kept.refl _ _ _ s).setF _ _ (.inr hpresent)).setF _ _ (.inr hcls)).setF _ _ (.inr hfreq)

theorem cgMaster_kept : Kept [.sp, .pin] [] (cgRegs g) s (cgMaster g s) := by
  rw [cgMaster]
  exact (cgShown_kept g s _ _ _).onSp _

theorem cgCleared_kept : Kept [.sp, .pin] [] (cgRegs g) s (cgCleared g s) := by
  rw [cgCleared]
  exact (cgShown_kept g s _ _ _).onSp _

theorem claimedTwo_kept (as : List Nat) (i j : Nat) (c : Claim) : Kept [.sp, .pin] [] as s (claimedTwo i j c s) :=
  ((Kept.refl _ _ _ s).onPin _).onPin _

end

section

variable {g w : Nat} {s : State}

/-- An enable that passes its checks (R370, R386). -/
theorem cgApply_enables (hcheck : cgCheck g w s = 0) (hen : bitOf w 31 = true) (hold : s.flag (CG_CFG.ENABLE g) = false)
    (hg : g < 16) : cgApply g w s =
      if bitOf w 30 then cgMaster g (cgFresh g (claimedTwo (128 + g) (144 + g) ⟨2, g⟩ (s.setReg (0x54000 + 0x20 * g) (wd w))))
      else cgFresh g (claimedTwo (128 + g) (144 + g) ⟨2, g⟩ (s.setReg (0x54000 + 0x20 * g) (wd w))) := by
  have hsupply : (s.setReg (0x54000 + 0x20 * g) (wd w)).reg 0xE0000 = s.reg 0xE0000 := State.reg_setReg_other _ _ _ _ (by omega)
  have hbank : ∀ i, bankOn i (s.setReg (0x54000 + 0x20 * g) (wd w)) = bankOn i s := fun i => by rw [bankOn, hsupply, bankOn]
  obtain ⟨⟨hbank1, hfree1⟩, hbank2, hfree2⟩ := balls_of_cgCheck hcheck hen hold
  have hclaims := claimPins_of_free (i := 128 + g) (j := 144 + g) (c := ⟨2, g⟩) (s := s.setReg (0x54000 + 0x20 * g) (wd w)) (by omega)
    ⟨(hbank _).trans hbank1, hfree1⟩ ⟨(hbank _).trans hbank2, hfree2⟩
  simp only [cgApply, hold, hen, hclaims, Bool.not_false, true_and, if_true]
  rfl

/-- A disable (R370). -/
theorem cgApply_disables (hen : bitOf w 31 = false) (hold : s.flag (CG_CFG.ENABLE g) = true) :
    cgApply g w s = cgCleared g (releasePin (144 + g) (releasePin (128 + g) (s.setReg (0x54000 + 0x20 * g) (wd w)))) := by
  simp only [cgApply, hold, hen]
  rfl

/-- A word that leaves the enable as it stands. -/
theorem cgApply_sameEnable (hsame : bitOf w 31 = s.flag (CG_CFG.ENABLE g)) : cgApply g w s = s.setReg (0x54000 + 0x20 * g) (wd w) := by
  cases hold : s.flag (CG_CFG.ENABLE g) <;> simp only [cgApply, hsame, hold] <;> rfl

/-- A configuration that passes its checks changes the group's registers and its claims. -/
theorem cgApply_kept (hcheck : cgCheck g w s = 0) (hg : g < 16) : Kept [.sp, .pin] [] (cgRegs g) s (cgApply g w s) := by
  have hword : Kept [.sp, .pin] [] (cgRegs g) s (s.setReg (0x54000 + 0x20 * g) (wd w)) :=
    (Kept.refl _ _ _ s).setReg _ _ (.inr (by simp [cgRegs]))
  by_cases hsame : bitOf w 31 = s.flag (CG_CFG.ENABLE g)
  · rw [cgApply_sameEnable hsame]
    exact hword
  cases hold : s.flag (CG_CFG.ENABLE g) with
  | true =>
    rw [cgApply_disables (by simpa [hold] using hsame) hold]
    exact ((hword.onPin _).onPin _).trans (cgCleared_kept g _)
  | false =>
    have hfresh := (hword.trans (claimedTwo_kept _ _ (128 + g) (144 + g) ⟨2, g⟩)).trans (cgFresh_kept g _)
    rw [cgApply_enables hcheck (by simpa [hold] using hsame) hold hg]
    exact Kept.ite _ (fun _ => hfresh.trans (cgMaster_kept g _)) fun _ => hfresh

theorem reg_onGroup (f : GroupU → GroupU) (a : Nat) : (onGroup g f s).reg a = s.reg a := rfl

theorem reg_cgCfg_cgShown (present cls freq : Nat) : (cgShown g present cls freq s).reg (0x54000 + 0x20 * g) = s.reg (0x54000 + 0x20 * g) := by
  rw [cgShown, State.reg_setF_other _ _ _ _ (by simp only [CG_RATE.FREQ]; omega),
    State.reg_setF_other _ _ _ _ (by simp only [CG_STAT.RATECLS]; omega), State.reg_setF_other _ _ _ _ (by simp only [CG_STAT.PRESENT]; omega)]

theorem reg_cgCfg_cgFresh : (cgFresh g s).reg (0x54000 + 0x20 * g) = s.reg (0x54000 + 0x20 * g) :=
  State.reg_setF_other (onGroup g (fun _ => GroupU.reset) s) _ _ _ (by simp only [CG_STAT.RATECHG]; omega)

/-- A configuration that passes its checks stands in its register. -/
theorem reg_cgApply (hcheck : cgCheck g w s = 0) (hg : g < 16) : (cgApply g w s).reg (0x54000 + 0x20 * g) = wd w := by
  have hword : (s.setReg (0x54000 + 0x20 * g) (wd w)).reg (0x54000 + 0x20 * g) = wd w := State.reg_setReg_same _ _ _
  by_cases hsame : bitOf w 31 = s.flag (CG_CFG.ENABLE g)
  · rw [cgApply_sameEnable hsame, hword]
  cases hold : s.flag (CG_CFG.ENABLE g) with
  | true =>
    rw [cgApply_disables (by simpa [hold] using hsame) hold]
    rw [cgCleared, reg_onGroup, reg_cgCfg_cgShown]
    exact hword
  | false =>
    rw [cgApply_enables hcheck (by simpa [hold] using hsame) hold hg]
    split_ifs
    · rw [cgMaster, reg_onGroup, reg_cgCfg_cgShown, reg_cgCfg_cgFresh]
      exact hword
    · rw [reg_cgCfg_cgFresh]
      exact hword

/-- Where no FSYNC candidate has activity none loses it (R489). -/
theorem groupCands_of_inactive (h : ∀ k, 8 ≤ k → k < 12 → s.flag (CLK_CANDST.ACTIVE k) = false) : groupCands g s = s := by
  have hnone : ∀ k, 8 ≤ k → k < 12 → endActivity k s = s := fun k h8 h12 => if_neg (by simp [h k h8 h12])
  have hstep : ∀ k, 8 ≤ k → k < 12 → (if s.getF (CLK_CAND.SRC k) = g ∧ !sourceUp k s then endActivity k s else s) = s := fun k h8 h12 => by
    rw [hnone k h8 h12, ite_self]
  simp only [groupCands, List.foldl_cons, List.foldl_nil, hstep _ (show 8 ≤ 8 by decide) (by decide),
    hstep _ (show 8 ≤ 9 by decide) (by decide), hstep _ (show 8 ≤ 10 by decide) (by decide), hstep _ (show 8 ≤ 11 by decide) (by decide)]

/-- The candidates stand as they are after a configuration that passes its checks. -/
theorem groupCands_cgApply (hcheck : cgCheck g w s = 0) (hg : g < 16)
    (h : ∀ k, 8 ≤ k → k < 12 → s.flag (CLK_CANDST.ACTIVE k) = false) : groupCands g (cgApply g w s) = cgApply g w s := by
  refine groupCands_of_inactive fun k h8 h12 => ?_
  have haddr : (CLK_CANDST.ACTIVE k).addr ∉ cgRegs g := by
    simp only [cgRegs, CLK_CANDST.ACTIVE, List.mem_cons, List.not_mem_nil, or_false]
    omega
  have htx : (CLK_CANDST.ACTIVE k).addr ∉ mgmtTx := by
    simp only [mgmtTx, CLK_CANDST.ACTIVE, List.mem_cons, List.not_mem_nil, or_false]
    omega
  rw [(cgApply_kept hcheck hg).flag _ (by simp) haddr htx, h k h8 h12]

end

/-- A CG_CFG that passes its checks writes one clock group (R386, R387). -/
theorem cgCfg_configures (h : CmdHdr) (p : List Word) (g w : Nat) (s : State) (hr : Ready 0x403 h p s) (hc : h.chk = false)
    (hg : g = nAt p 0) (hlt : g < 16) (hw : w = nAt p 1 &&& 0xFFFFE000) (hmin : 1 ≤ nAt p 2) (hmax : nAt p 2 ≤ 10000)
    (hcheck : cgCheck g w s = 0) (hidle : ∀ k, 8 ≤ k → k < 12 → s.flag (CLK_CANDST.ACTIVE k) = false) :
    ∃ t, exec (.cgCfg h p) s = .next t
      ∧ Accepted 0x403 h [] t
      ∧ t.reg (0x54000 + 0x20 * g) = wd w
      ∧ t.getF (CG_RATETOL.PPM g) = nAt p 2
      ∧ Kept [.cmd, .outs, .sp, .pin] [0xD] [0x54000 + 0x20 * g, 0x54004 + 0x20 * g, 0x54008 + 0x20 * g, (CG_RATETOL.PPM g).addr] s t := by
  have htol : (CG_RATETOL.PPM g).addr = 0x5400C + 0x20 * g := by rw [CG_RATETOL.PPM, Nat.mul_comm]
  have hbody : ∀ f, opBody (packetOf 0x403 h p [] s) false (s.onCmd f) =
      doneWith [] ((cgApply g w (s.onCmd f)).setF (CG_RATETOL.PPM g) (nAt p 2)) := fun f => by
    have hcands : groupCands g (cgApply g w (s.onCmd f)) = cgApply g w (s.onCmd f) := groupCands_cgApply hcheck hlt hidle
    rw [opBody_cgCfg]
    simp only [cmdCgCfg, ← hg, ← hw]
    rw [if_neg (by omega), if_neg (fun hne => hne hcheck), hcands]
    rfl
  have hkept : ∀ f, Kept [.sp, .pin] [] (cgRegs g ++ [(CG_RATETOL.PPM g).addr]) (s.onCmd f)
      ((cgApply g w (s.onCmd f)).setF (CG_RATETOL.PPM g) (nAt p 2)) := fun f =>
    ((cgApply_kept (s := s.onCmd f) hcheck hlt).mono (List.Subset.refl _) (List.Subset.refl _) (List.subset_append_left _ _)).setF _ _
      (.inr (by simp))
  have hrole : STI_STAT.ROLE.addr ∉ cgRegs g ++ [(CG_RATETOL.PPM g).addr] := by
    simp only [cgRegs, htol, STI_STAT.ROLE, List.mem_append, List.mem_cons, List.not_mem_nil, or_false]
    omega
  obtain ⟨f, t, ht, hacc, hxt, hst⟩ := arrived_of_run (run := fun u => (cgApply g w u).setF (CG_RATETOL.PPM g) (nAt p 2)) hr (by decide) hc
    ⟨hbody, hkept, by decide, by decide, List.not_mem_nil, hrole⟩
  refine ⟨t, ht, hacc, ?_, ?_, hst⟩
  · rw [reg_of_replied hxt (by omega), State.reg_setF_other _ _ _ _ (by omega)]
    exact reg_cgApply (s := s.onCmd f) hcheck hlt
  · rw [State.getF, reg_of_replied hxt (by omega)]
    exact (State.getF_setF_same _ (CG_RATETOL.PPM g) _ (Nat.le_of_ble_eq_true rfl)).trans
      (Nat.mod_eq_of_lt (show nAt p 2 < 2 ^ 16 by omega))

/-- Settles O15, command by command. -/
theorem serialCommands : Obligations.SerialCommands :=
  ⟨portCfg_configures, portStart_schedules, portStop_schedules, cgCfg_configures⟩

end Sys2Proof
end

section
/-! ### A lost port is counted where the performance counters overlap a port number beyond the 64 (O42) -/

namespace Sys2Proof

open Machine

/-- Slave group 1 is enabled, and port 0 names it with its input RUNNING. Global counter 2 selects the event of an accepted fault message
(0x35) and stands at 2^29 − 1. A port of number 1,600 would have its status register at the address of that counter, and its
configuration at that of counter 0. -/
def runningInputOfSlave : State :=
  ((((State.reset.setF (CG_CFG.ENABLE 1) 1).setF (SP_CFG.CG 0) 1).setF (SP_STAT.ISTATE 0) 2).setF (PCN_GSEL.EVT 2) 0x35).setF
    (PCN_GCNT.COUNT 2) (2 ^ 29 - 1)

/-- The input state that the outcome's next state shows of port `p`. -/
def istateAfter (p : Nat) (o : Host.Outcome State Fault Refusal) : Option Nat :=
  match o with
  | .next t => some (t.istate p)
  | _ => none

set_option maxRecDepth 100000 in
/-- The SP_LOST message of port 0 is counted: the counter comes to 2^29, whose bits 31 to 29 hold 1. -/
theorem istateAfter_spLost : istateAfter 1600 (exec (.spLost 1 true) runningInputOfSlave) = some 1 := by decide

/-- Refutes O42: the clause of a lost group keeps the input state of every q that does not name the group, without a premise that q is one of
the 64 ports. Number 1,600 would have its status at a performance counter, and the SP_LOST message of the loss is counted there (R657, R691). -/
theorem not_serialFramesAndBlocks : ¬ Obligations.SerialFramesAndBlocks := by
  unfold Obligations.SerialFramesAndBlocks
  rintro ⟨-, -, -, -, hlost, -⟩
  obtain ⟨t, ht, -, -, -, -, hothers, -⟩ := hlost 1 true runningInputOfSlave ⟨rfl, rfl⟩ (by decide) (by decide) (by decide) (.inl rfl)
  obtain ⟨-, hkept⟩ := hothers 1600 (by decide)
  have hcounted := istateAfter_spLost
  rw [ht] at hcounted
  exact absurd (hkept.symm.trans (Option.some.inj hcounted)) (by decide)

end Sys2Proof
end

section
/-! ### Register writes of the serial ports and clock groups (O27) -/

namespace Sys2Proof

open Machine

/-! #### Writes that reach the slot -/

/-- The registers of a port that have a rule of their own here are implemented (R389, R390). -/
theorem regRow_port : ∀ p < 64, ∀ off ∈ [4, 0xA0, 0xB0, 0xC0, 0xCC], (regRow (0x50000 + 0x100 * p + off)).isNone = false := by decide

theorem regRow_cgCfg : ∀ g < 16, (regRow (0x54000 + 0x20 * g)).isNone = false := by decide

theorem writeReg_port {p off : Nat} (v : Word) {s : State} (ho : s.hostOpen = true) (hp : p < 64)
    (hoff : off ∈ [4, 0xA0, 0xB0, 0xC0, 0xCC]) : writeReg (0x50000 + 0x100 * p + off) v s = writeSpReg p off v.toNat s := by
  have hsmall : off < 0x100 := by
    simp only [List.mem_cons, List.not_mem_nil, or_false] at hoff
    omega
  have hslot : (0x50000 + 0x100 * p + off) / 0x10000 = 5 := by omega
  have hlow : (0x50000 + 0x100 * p + off) % 0x10000 = 0x100 * p + off := by omega
  have hport : (0x100 * p + off) / 0x100 = p ∧ (0x100 * p + off) % 0x100 = off := by omega
  have hwrite : writeReg (0x50000 + 0x100 * p + off) v s = writeSp (0x100 * p + off) v s := by
    simp only [writeReg, ho, regRow_port p hp off hoff, hslot, hlow, Bool.not_true, Bool.false_eq_true, if_false]
  rw [hwrite, writeSp, if_pos (by omega), hport.1, hport.2]

theorem writeReg_cgCfg {g : Nat} (v : Word) {s : State} (ho : s.hostOpen = true) (hg : g < 16) :
    writeReg (0x54000 + 0x20 * g) v s = groupCands g (writeCg g v.toNat s) := by
  have hslot : (0x54000 + 0x20 * g) / 0x10000 = 5 := by omega
  have hlow : (0x54000 + 0x20 * g) % 0x10000 = 0x4000 + 0x20 * g := by omega
  have hgroup : (0x4000 + 0x20 * g - 0x4000) / 0x20 = g ∧ (0x4000 + 0x20 * g) % 0x20 = 0 := by omega
  have hwrite : writeReg (0x54000 + 0x20 * g) v s = writeSp (0x4000 + 0x20 * g) v s := by
    simp only [writeReg, ho, regRow_cgCfg g hg, hslot, hlow, Bool.not_true, Bool.false_eq_true, if_false]
  rw [hwrite, writeSp, if_neg (by omega), if_pos (by omega)]
  simp only [hgroup]

/-! #### Ring lengths and ring pointers -/

/-- The length of a ring in its configuration, and the mark of a staged one (R383). -/
def ringLen (ply : Bool) (p : Nat) : Fld := if ply then SP_PLY_CFG.LEN p else SP_CAP_CFG.LEN p
def ringPend (ply : Bool) (p : Nat) : Fld := if ply then SP_DMA_STAT.LENPEND_PLY p else SP_DMA_STAT.LENPEND_CAP p
def ringPack (ply : Bool) (p : Nat) : Fld := if ply then SP_PLY_CFG.PACK p else SP_CAP_CFG.PACK p

/-- A port with a length of one ring staged. -/
def lenStaged (ply : Bool) (l : Nat) (u : PortU) : PortU := if ply then { u with plyNew := some l } else { u with capNew := some l }

/-- PACK is written while the ring is stopped (R390). -/
def packWritten (p : Nat) (ply : Bool) (v : Nat) (s : State) : State :=
  if ringRuns p ply s then s else s.setF (ringPack ply p) (bits v 13 2)

section

variable (ply : Bool) (p : Nat)

theorem ringFields_addr : (ringLen ply p).addr = (if ply then 0x500C0 + p * 0x100 else 0x500A0 + p * 0x100)
    ∧ (ringPack ply p).addr = (if ply then 0x500C0 + p * 0x100 else 0x500A0 + p * 0x100) ∧ (ringPend ply p).addr = 0x50090 + p * 0x100 := by
  cases ply <;> exact ⟨rfl, rfl, rfl⟩

theorem exec_spRingLenWrite (v : Word) {s : State} (ho : s.hostOpen = true) (hp : p < 64) :
    exec (.spRingLenWrite p ply v) s = finish (writeRingCfg p ply v.toNat s) := by
  show finish (if p < 64 then writeReg (0x50000 + 0x100 * p + (if ply then 0xC0 else 0xA0)) v s else s) = _
  rw [if_pos hp, writeReg_port v ho hp (by cases ply <;> decide)]
  cases ply <;> rfl

/-- A new length in range is staged. -/
theorem writeRingCfg_stages {v : Nat} {s : State} (h2 : 2 ≤ bits v 0 13) (hmax : bits v 0 13 ≤ 4096)
    (hnew : bits v 0 13 ≠ s.getF (ringLen ply p)) : writeRingCfg p ply v s =
      onPort p (lenStaged ply (bits v 0 13)) (((packWritten p ply v s).setF (ringLen ply p) (bits v 0 13)).setF (ringPend ply p) 1) := by
  have hrange : ¬(bits v 0 13 < 2 ∨ 4096 < bits v 0 13) := by omega
  cases ply with
  | false =>
    have hold : bits v 0 13 ≠ s.getF (SP_CAP_CFG.LEN p) := hnew
    simp only [writeRingCfg, if_neg hrange, Bool.false_eq_true, if_false, if_neg hold]
    rfl
  | true =>
    have hold : bits v 0 13 ≠ s.getF (SP_PLY_CFG.LEN p) := hnew
    simp only [writeRingCfg, if_neg hrange, if_true, if_neg hold]
    rfl

end

theorem spRingLenWrite_stages (p : Nat) (ply : Bool) (v : Word) (len : Nat) (s : State) (ho : s.hostOpen = true) (hq : Quiet s)
    (hp : p < 64) (hlen : len = bits v.toNat 0 13) (h2 : 2 ≤ len) (hmax : len ≤ 4096)
    (hnew : len ≠ (if ply then s.getF (SP_PLY_CFG.LEN p) else s.getF (SP_CAP_CFG.LEN p))) :
    ∃ t, exec (.spRingLenWrite p ply v) s = .next t
      ∧ ((if ply then t.getF (SP_PLY_CFG.LEN p) else t.getF (SP_CAP_CFG.LEN p)) = len)
      ∧ ((if ply then (t.port p).plyNew else (t.port p).capNew) = some len)
      ∧ ((if ply then t.getF (SP_DMA_STAT.LENPEND_PLY p) else t.getF (SP_DMA_STAT.LENPEND_CAP p)) = 1)
      ∧ (∀ q, q ≠ p → t.port q = s.port q)
      ∧ Kept [.sp] [] [0x500A0 + p * 0x100, 0x500C0 + p * 0x100, 0x50090 + p * 0x100] s t := by
  obtain ⟨hlenAddr, hpackAddr, hpendAddr⟩ := ringFields_addr ply p
  have hstage := writeRingCfg_stages ply p (v := v.toNat) (s := s) (hlen ▸ h2) (hlen ▸ hmax) (by rw [← hlen]; cases ply <;> exact hnew)
  rw [← hlen] at hstage
  have hmem : (if ply then 0x500C0 + p * 0x100 else 0x500A0 + p * 0x100) ∈ [0x500A0 + p * 0x100, 0x500C0 + p * 0x100, 0x50090 + p * 0x100] := by
    cases ply <;> simp
  have hpacked : Kept [.sp] [] [0x500A0 + p * 0x100, 0x500C0 + p * 0x100, 0x50090 + p * 0x100] s (packWritten p ply v.toNat s) :=
    Kept.ite _ (fun _ => .refl _ _ _ s) fun _ => (Kept.refl _ _ _ s).setF _ _ (.inr (hpackAddr ▸ hmem))
  have hkept := ((hpacked.setF (ringLen ply p) len (.inr (hlenAddr ▸ hmem))).setF (ringPend ply p) 1 (.inr (by rw [hpendAddr]; simp))).onPort p
    (lenStaged ply len)
  have hlenWidth : (ringLen ply p).lsb + (ringLen ply p).width ≤ 32 ∧ (ringLen ply p).width = 13 := by
    cases ply <;> exact ⟨Nat.le_of_ble_eq_true rfl, rfl⟩
  have hlenRead := State.getF_setF_same (packWritten p ply v.toNat s) (ringLen ply p) len hlenWidth.1
  have hpendRead := State.getF_setF_same ((packWritten p ply v.toNat s).setF (ringLen ply p) len) (ringPend ply p) 1
    (by cases ply <;> exact Nat.le_of_ble_eq_true rfl)
  have hother : (ringLen ply p).addr ≠ (ringPend ply p).addr := by
    rw [hlenAddr, hpendAddr]
    cases ply <;> simp
  rw [hlenWidth.2, Nat.mod_eq_of_lt (by omega), ← State.getF_setF_other _ (ringPend ply p) _ 1 hother] at hlenRead
  refine ⟨_, by rw [exec_spRingLenWrite ply p v ho hp, hstage, finish_of_quiet (hkept.quiet (by decide) hq)], ?_, ?_, ?_, ?_, hkept⟩
  · cases ply <;> exact hlenRead
  · rw [port_onPort_same]
    cases ply <;> rfl
  · cases ply <;> exact hpendRead
  · intro q hne
    rw [port_onPort_other hne]
    exact (show (packWritten p ply v.toNat s).port q = s.port q by unfold packWritten; split <;> rfl)

theorem exec_spRingPointerWrite (p : Nat) (ply : Bool) (v : Word) {s : State} (ho : s.hostOpen = true) (hp : p < 64) :
    exec (.spRingPointerWrite p ply v) s = finish (writeSpPtr p ply v.toNat s) := by
  show finish (if p < 64 then writeReg (0x50000 + 0x100 * p + (if ply then 0xCC else 0xB0)) v s else s) = _
  rw [if_pos hp, writeReg_port v ho hp (by cases ply <;> decide)]
  cases ply <;> rfl

/-- A pointer field holds every index of a ring. -/
theorem getF_setF_ptr (f : Fld) {v : Nat} (s : State) (h : v < 4096) (hl : f.lsb = 0 := by rfl) (hw : f.width = 12 := by rfl) :
    (s.setF f v).getF f = v := by
  rw [State.getF_setF_same s f v (by omega), hw]
  exact Nat.mod_eq_of_lt h

/-- The host's read pointer of the capture ring is stored (R384). -/
theorem spRingPointerWrite_capture (p : Nat) (v : Word) (s : State) (ho : s.hostOpen = true) (hq : Quiet s) (hp : p < 64)
    (hin : v.toNat % 4096 < (s.port p).capLen) :
    ∃ t, exec (.spRingPointerWrite p false v) s = .next t
      ∧ t.getF (SP_CAP_RPTR.PTR p) = v.toNat % 4096
      ∧ Kept [] [] [(SP_CAP_RPTR.PTR p).addr] s t := by
  have hwrite : writeSpPtr p false v.toNat s = s.setF (SP_CAP_RPTR.PTR p) (v.toNat % 4096) := by
    simp only [writeSpPtr, Bool.false_eq_true, if_false]
    rw [if_neg (by omega)]
  have hkept : Kept [] [] [(SP_CAP_RPTR.PTR p).addr] s (s.setF (SP_CAP_RPTR.PTR p) (v.toNat % 4096)) :=
    (Kept.refl _ _ _ s).setF _ _ (.inr (by simp))
  refine ⟨_, ?_, getF_setF_ptr _ s (by omega), hkept⟩
  rw [exec_spRingPointerWrite p false v ho hp, hwrite, finish_of_quiet (hkept.quiet (by decide) hq)]

/-- The host's write pointer of the playback ring is stored, where no staged length is due (R383, R384). -/
theorem spRingPointerWrite_playback (p : Nat) (v : Word) (s : State) (ho : s.hostOpen = true) (hq : Quiet s) (hp : p < 64)
    (hin : v.toNat % 4096 < (s.port p).plyLen) (hdue : (s.port p).plyNew = none ∨ s.getF (SP_PLY_WPTR.PTR p) ≤ v.toNat % 4096) :
    ∃ t, exec (.spRingPointerWrite p true v) s = .next t
      ∧ t.getF (SP_PLY_WPTR.PTR p) = v.toNat % 4096
      ∧ Kept [] [] [(SP_PLY_WPTR.PTR p).addr] s t := by
  have hwrite : writeSpPtr p true v.toNat s = s.setF (SP_PLY_WPTR.PTR p) (v.toNat % 4096) := by
    simp only [writeSpPtr, if_true]
    rw [if_neg (by omega)]
    cases hstaged : (s.port p).plyNew with
    | none => rfl
    | some l => exact if_neg (Nat.not_lt.2 (hdue.resolve_left (by simp [hstaged])))
  have hkept : Kept [] [] [(SP_PLY_WPTR.PTR p).addr] s (s.setF (SP_PLY_WPTR.PTR p) (v.toNat % 4096)) :=
    (Kept.refl _ _ _ s).setF _ _ (.inr (by simp))
  refine ⟨_, ?_, getF_setF_ptr _ s (by omega), hkept⟩
  rw [exec_spRingPointerWrite p true v ho hp, hwrite, finish_of_quiet (hkept.quiet (by decide) hq)]

/-- The playback ring of port `p` runs on with length `l`: the staged one is taken up (R383). -/
def plyLenTaken (p l : Nat) (s : State) : State :=
  ((onPort p (fun u => { u with plyLen := l, plyNew := none }) s).setF (SP_PLY_RPTR.PTR p) (s.getF (SP_PLY_RPTR.PTR p) % l)).setF
    (SP_DMA_STAT.LENPEND_PLY p) 0

/-- A write pointer of the playback ring that wraps takes up the staged length (R383). -/
theorem spRingPointerWrite_wraps (p : Nat) (v : Word) (l : Nat) (s : State) (ho : s.hostOpen = true) (hq : Quiet s) (hp : p < 64)
    (hin : v.toNat % 4096 < (s.port p).plyLen) (hstaged : (s.port p).plyNew = some l)
    (hwrap : v.toNat % 4096 < s.getF (SP_PLY_WPTR.PTR p)) :
    ∃ t, exec (.spRingPointerWrite p true v) s = .next t
      ∧ t.getF (SP_PLY_WPTR.PTR p) = v.toNat % 4096
      ∧ (t.port p).plyLen = l
      ∧ (t.port p).plyNew = none
      ∧ t.getF (SP_PLY_RPTR.PTR p) = s.getF (SP_PLY_RPTR.PTR p) % l % 2 ^ 12
      ∧ t.getF (SP_DMA_STAT.LENPEND_PLY p) = 0
      ∧ (∀ q, q ≠ p → t.port q = s.port q)
      ∧ Kept [.sp] [] [(SP_PLY_WPTR.PTR p).addr, (SP_PLY_RPTR.PTR p).addr, (SP_DMA_STAT.LENPEND_PLY p).addr] s t := by
  obtain ⟨u, hu⟩ : ∃ u, u = s.setF (SP_PLY_WPTR.PTR p) (v.toNat % 4096) := ⟨_, rfl⟩
  have hwrite : writeSpPtr p true v.toNat s = plyLenTaken p l u := by
    simp only [writeSpPtr, if_true, hstaged]
    rw [if_neg (by omega), if_pos hwrap, hu]
    rfl
  have hkept : Kept [.sp] [] [(SP_PLY_WPTR.PTR p).addr, (SP_PLY_RPTR.PTR p).addr, (SP_DMA_STAT.LENPEND_PLY p).addr] s (plyLenTaken p l u) := by
    rw [plyLenTaken, hu]
    exact ((((Kept.refl _ _ _ s).setF _ _ (.inr (by simp))).onPort _ _).setF _ _ (.inr (by simp))).setF _ _ (.inr (by simp))
  have hport : (plyLenTaken p l u).port p = { u.port p with plyLen := l, plyNew := none } := by
    rw [plyLenTaken, port_setF, port_setF, port_onPort_same]
  have hrptr : u.getF (SP_PLY_RPTR.PTR p) = s.getF (SP_PLY_RPTR.PTR p) := by
    rw [hu]
    exact State.getF_setF_other _ _ _ _ (by simp [SP_PLY_RPTR.PTR, SP_PLY_WPTR.PTR])
  refine ⟨plyLenTaken p l u, ?_, ?_, by rw [hport], by rw [hport], ?_, ?_, fun q hne => ?_, hkept⟩
  · rw [exec_spRingPointerWrite p true v ho hp, hwrite, finish_of_quiet (hkept.quiet (by decide) hq)]
  · rw [plyLenTaken, State.getF_setF_other _ _ _ _ (by simp [SP_PLY_WPTR.PTR, SP_DMA_STAT.LENPEND_PLY]),
      State.getF_setF_other _ _ _ _ (by simp [SP_PLY_WPTR.PTR, SP_PLY_RPTR.PTR]), getF_onPort, hu]
    exact getF_setF_ptr _ s (by omega)
  · rw [plyLenTaken, State.getF_setF_other _ _ _ _ (by simp [SP_PLY_RPTR.PTR, SP_DMA_STAT.LENPEND_PLY]), hrptr]
    exact State.getF_setF_same _ (SP_PLY_RPTR.PTR p) _ (Nat.le_of_ble_eq_true rfl)
  · exact State.getF_setF_same _ (SP_DMA_STAT.LENPEND_PLY p) 0 (Nat.le_of_ble_eq_true rfl)
  · rw [plyLenTaken, port_setF, port_setF, port_onPort_other hne, hu, port_setF]

/-! #### Slot masks -/

/-- The register of a slot mask, and the mark of one that waits for its frame start (R352). -/
def maskField (out : Bool) (p : Nat) : Fld := if out then SP_MASK_OUT.MASK p else SP_MASK_IN.MASK p
def maskPend (out : Bool) (p : Nat) : Fld := if out then SP_STAT.MASKPEND_OUT p else SP_STAT.MASKPEND_IN p

/-- A port with a mask shadowed until the next frame start, or until the one after it. -/
def maskWaits (out late : Bool) (v : Nat) (u : PortU) : PortU :=
  match out, late with
  | true, true => { u with lateOut := some v }
  | true, false => { u with pendOut := some v }
  | false, true => { u with lateIn := some v }
  | false, false => { u with pendIn := some v }

theorem writeMask_shadows {p v : Nat} (out late : Bool) {s : State} (hen : s.flag (CG_CFG.ENABLE (s.cgOf p)) = true)
    (hv : v < 2 ^ s.getF (CG_CFG.SLOTS (s.cgOf p))) : writeMask p out late v s =
      onPort p (maskWaits out late v) ((s.setF (maskField out p) v).setF (maskPend out p) 1) := by
  simp only [writeMask, hen]
  rw [if_neg (by simp [hv])]
  cases out <;> cases late <;> rfl

theorem spMaskWrite_waits (p : Nat) (out late : Bool) (v : Word) (s : State) (ho : s.hostOpen = true) (hq : Quiet s) (hp : p < 64)
    (hen : s.flag (CG_CFG.ENABLE (s.cgOf p)) = true) (hv : v.toNat < 2 ^ s.getF (CG_CFG.SLOTS (s.cgOf p))) :
    ∃ t, exec (.spMaskWrite p out late v) s = .next t
      ∧ ((if out then t.reg (0x50010 + p * 0x100) else t.reg (0x5000C + p * 0x100)) = v)
      ∧ ((if out then t.getF (SP_STAT.MASKPEND_OUT p) else t.getF (SP_STAT.MASKPEND_IN p)) = 1)
      ∧ (match out, late with | true, true => (t.port p).lateOut | true, false => (t.port p).pendOut | false, true => (t.port p).lateIn | false, false => (t.port p).pendIn) = some v.toNat
      ∧ (∀ q, q ≠ p → t.port q = s.port q)
      ∧ Kept [.sp] [] [0x50008 + p * 0x100, 0x5000C + p * 0x100, 0x50010 + p * 0x100] s t := by
  have hexec : exec (.spMaskWrite p out late v) s = finish (writeMask p out late v.toNat s) :=
    congrArg finish (if_pos ⟨ho, hp⟩)
  have hpend : (maskPend out p).addr = 0x50008 + p * 0x100 := by cases out <;> rfl
  have hmask : maskField out p = ⟨(if out then 0x50010 + p * 0x100 else 0x5000C + p * 0x100), 0, 32⟩ := by cases out <;> rfl
  have hkept : Kept [.sp] [] [0x50008 + p * 0x100, 0x5000C + p * 0x100, 0x50010 + p * 0x100] s
      (onPort p (maskWaits out late v.toNat) ((s.setF (maskField out p) v.toNat).setF (maskPend out p) 1)) :=
    (((Kept.refl _ _ _ s).setF _ _ (.inr (by rw [hmask]; cases out <;> simp))).setF _ _ (.inr (by rw [hpend]; simp))).onPort _ _
  have hreg : ((s.setF (maskField out p) v.toNat).setF (maskPend out p) 1).reg (maskField out p).addr = v := by
    rw [State.reg_setF_other _ _ _ _ (by rw [hmask, hpend]; cases out <;> simp), hmask, State.reg_setF_word, wd,
      BitVec.ofNat_toNat, BitVec.setWidth_eq]
  have hset := State.getF_setF_same (s.setF (maskField out p) v.toNat) (maskPend out p) 1 (by cases out <;> exact Nat.le_of_ble_eq_true rfl)
  refine ⟨_, by rw [hexec, writeMask_shadows out late hen hv, finish_of_quiet (hkept.quiet (by decide) hq)], ?_, ?_, ?_, fun q hne => ?_, hkept⟩
  · rw [reg_onPort, reg_onPort]
    cases out with
    | false => exact (if_neg Bool.false_ne_true).trans hreg
    | true => exact (if_pos rfl).trans hreg
  · rw [getF_onPort, getF_onPort]
    cases out with
    | false => exact (if_neg Bool.false_ne_true).trans hset
    | true => exact (if_pos rfl).trans hset
  · simp only [port_onPort_same]
    cases out <;> cases late <;> rfl
  · rw [port_onPort_other hne, port_setF, port_setF]

/-! #### Enables in `SP_CTRL` -/

/-- `SP_CTRL` of port `p` with bit `b` at `en`. -/
def ctrlWord (p b : Nat) (en : Bool) (s : State) : Word := fldPut (s.reg (0x50004 + 0x100 * p)) b 1 (b2n en)

theorem bitOf_ctrlWord (p b : Nat) (en : Bool) (s : State) {i : Nat} (hi : i < 32) :
    bitOf (ctrlWord p b en s).toNat i = if i = b then en else bitOf (s.reg (0x50004 + 0x100 * p)).toNat i := by
  have hbit := fldPut_getLsbD (s.reg (0x50004 + 0x100 * p)) b 1 (b2n en) i hi
  rw [bitOf_eq_testBit, bitOf_eq_testBit, BitVec.testBit_toNat, BitVec.testBit_toNat, ctrlWord, hbit]
  by_cases h : i = b
  · rw [if_pos (by omega), if_pos h, h, Nat.sub_self]
    cases en <;> rfl
  · rw [if_neg (by omega), if_neg h]

theorem spCtrlBit_eq {p b : Nat} (en : Bool) {s : State} (ho : s.hostOpen = true) (hp : p < 64) :
    spCtrlBit p b en s = writeSpCtrl p (ctrlWord p b en s).toNat s := by
  have hword : wd ((s.reg (0x50004 + 0x100 * p)).toNat - (if bitOf (s.reg (0x50004 + 0x100 * p)).toNat b then 2 ^ b else 0)
      + (if en then 2 ^ b else 0)) = ctrlWord p b en s := by
    have hold : (if bitOf (s.reg (0x50004 + 0x100 * p)).toNat b then 2 ^ b else 0) =
        (s.reg (0x50004 + 0x100 * p)).toNat / 2 ^ b % 2 ^ 1 * 2 ^ b := by
      rcases Nat.mod_two_eq_zero_or_one ((s.reg (0x50004 + 0x100 * p)).toNat / 2 ^ b) with h | h <;> simp [bitOf, h]
    have hnew : (if en then 2 ^ b else 0) = b2n en % 2 ^ 1 * 2 ^ b := by cases en <;> simp [b2n]
    rw [hold, hnew, ctrlWord, fldPut]
  simp only [spCtrlBit, hword]
  rw [if_pos hp, show 0x50004 + 0x100 * p = 0x50000 + 0x100 * p + 4 by omega, writeReg_port _ ho hp (by decide)]
  rfl

/-- The bit of a direction's enable in `SP_CTRL`. -/
def dirBit (out : Bool) : Nat := if out then 30 else 31

theorem dirEn_eq (out : Bool) (p : Nat) (s : State) : s.dirEn out p = s.flag (dirField out p) := by cases out <;> rfl

theorem flag_ctrl (p b : Nat) (s : State) : s.flag ⟨0x50004 + p * 0x100, b, 1⟩ = bitOf (s.reg (0x50004 + 0x100 * p)).toNat b := by
  rw [Nat.mul_comm p]
  rfl

theorem flag_dirField (out : Bool) (p : Nat) (s : State) :
    s.flag (dirField out p) = bitOf (s.reg (0x50004 + 0x100 * p)).toNat (dirBit out) := by
  cases out <;> exact flag_ctrl _ _ _

/-- The ring and interrupt enables of a port as a write of `SP_CTRL` leaves them (R389). -/
def ringsEnabled (p v : Nat) (s : State) : State :=
  ((s.setF (SP_CTRL.CAP_EN p) (bits v 29 1)).setF (SP_CTRL.PLY_EN p) (bits v 28 1)).setF (SP_CTRL.RATEIE p) (bits v 27 1)

section

variable (p v : Nat) (s : State)

theorem ringsEnabled_kept (ps : List Part) : Kept ps [] [0x50004 + p * 0x100] s (ringsEnabled p v s) :=
  (((Kept.refl _ _ _ s).setF (SP_CTRL.CAP_EN p) _ (.inr (by simp [SP_CTRL.CAP_EN]))).setF (SP_CTRL.PLY_EN p) _
    (.inr (by simp [SP_CTRL.PLY_EN]))).setF (SP_CTRL.RATEIE p) _ (.inr (by simp [SP_CTRL.RATEIE]))

theorem flag_dirField_ringsEnabled (out : Bool) : (ringsEnabled p v s).flag (dirField out p) = s.flag (dirField out p) := by
  have hwidth : (dirField out p).lsb + (dirField out p).width ≤ 32 := by cases out <;> exact Nat.le_of_ble_eq_true rfl
  have habove : 30 ≤ (dirField out p).lsb := by cases out <;> exact Nat.le_of_ble_eq_true rfl
  rw [ringsEnabled, State.flag, State.getF_setF_disjoint _ _ _ _ hwidth (.inr (show 27 + 1 ≤ _ by omega)),
    State.getF_setF_disjoint _ _ _ _ hwidth (.inr (show 28 + 1 ≤ _ by omega)),
    State.getF_setF_disjoint _ _ _ _ hwidth (.inr (show 29 + 1 ≤ _ by omega)), State.flag]

theorem flag_capEn_ringsEnabled : (ringsEnabled p v s).flag (SP_CTRL.CAP_EN p) = bitOf v 29 := by
  have hwidth : (SP_CTRL.CAP_EN p).lsb + (SP_CTRL.CAP_EN p).width ≤ 32 := Nat.le_of_ble_eq_true rfl
  rw [ringsEnabled, State.flag, State.getF_setF_disjoint _ _ _ _ hwidth (.inr (Nat.le_of_ble_eq_true rfl)),
    State.getF_setF_disjoint _ _ _ _ hwidth (.inr (Nat.le_of_ble_eq_true rfl)), State.getF_setF_same _ _ _ hwidth]
  exact congrArg (fun x => decide (x = 1)) (Nat.mod_mod _ _)

theorem flag_plyEn_ringsEnabled : (ringsEnabled p v s).flag (SP_CTRL.PLY_EN p) = bitOf v 28 := by
  have hwidth : (SP_CTRL.PLY_EN p).lsb + (SP_CTRL.PLY_EN p).width ≤ 32 := Nat.le_of_ble_eq_true rfl
  rw [ringsEnabled, State.flag, State.getF_setF_disjoint _ _ _ _ hwidth (.inr (Nat.le_of_ble_eq_true rfl)),
    State.getF_setF_same _ _ _ hwidth]
  exact congrArg (fun x => decide (x = 1)) (Nat.mod_mod _ _)

theorem port_ringsEnabled (q : Nat) : (ringsEnabled p v s).port q = s.port q := by
  rw [ringsEnabled, port_setF, port_setF, port_setF]

end

/-- An enable written as it stands has no effect. -/
theorem writeDirEn_same {p : Nat} {out en : Bool} {s : State} (h : s.flag (dirField out p) = en) : writeDirEn p out en s = s :=
  if_pos ((dirEn_eq out p s).trans h)

/-- An enable that changes waits for its boundary, where its start is not refused (R368, R389). -/
theorem writeDirEn_schedules {p : Nat} {out en : Bool} {s : State} (h : s.flag (dirField out p) = !en)
    (hstart : en = true → portStartStatus p out s = 0) : writeDirEn p out en s = schedulePort p out en (some s.nextShot) none s := by
  rw [writeDirEn, dirEn_eq, h, if_neg (by cases en <;> simp), if_neg (fun hn => hn.2 (hstart hn.1))]

/-- A write of `SP_CTRL` that changes the enable of one direction. -/
theorem writeSpCtrl_schedules {p v : Nat} {out en : Bool} {s : State} (hbit : bitOf v (dirBit out) = en)
    (hother : bitOf v (dirBit (!out)) = s.flag (dirField (!out) p)) (hflag : s.flag (dirField out p) = !en)
    (hstart : en = true → portStartStatus p out s = 0) :
    writeSpCtrl p v s = ringsEnabled p v (schedulePort p out en (some s.nextShot) none s) := by
  have hsched := writeDirEn_schedules hflag hstart
  cases out with
  | false =>
    have hin : bitOf v 31 = en := hbit
    have hkeep : writeDirEn p true (bitOf v 30) (schedulePort p false en (some s.nextShot) none s) = schedulePort p false en (some s.nextShot) none s :=
      writeDirEn_same (by rw [flag_schedulePort, if_neg (by decide)]; exact hother.symm)
    rw [writeSpCtrl, hin, hsched, hkeep]
    rfl
  | true =>
    have hout : bitOf v 30 = en := hbit
    have hkeep : writeDirEn p false (bitOf v 31) s = s := writeDirEn_same hother.symm
    rw [writeSpCtrl, hkeep, hout, hsched]
    rfl

/-- A write of `SP_CTRL` that keeps the enables of both directions. -/
theorem writeSpCtrl_rings {p v : Nat} {s : State} (h : ∀ out, bitOf v (dirBit out) = s.flag (dirField out p)) :
    writeSpCtrl p v s = ringsEnabled p v s := by
  have hin : writeDirEn p false (bitOf v 31) s = s := writeDirEn_same (h false).symm
  have hout : writeDirEn p true (bitOf v 30) s = s := writeDirEn_same (h true).symm
  rw [writeSpCtrl, hin, hout]
  rfl

/-- A direction that stops or may start waits for the next boundary (R368, R389). -/
theorem spCtrlBit_schedules (p : Nat) (out en : Bool) (s : State) (ho : s.hostOpen = true) (hq : Quiet s) (hp : p < 64)
    (hflag : s.flag (dirField out p) = !en) (hstart : en = true → portStartStatus p out s = 0) :
    ∃ t, finish (spCtrlBit p (dirBit out) en s) = .next t
      ∧ t.flag (dirField out p) = en
      ∧ t.flag (dirField (!out) p) = s.flag (dirField (!out) p)
      ∧ (t.port p).reqs = (s.port p).reqs ++ [⟨out, en, some s.nextShot, none⟩]
      ∧ (∀ q, q ≠ p → t.port q = s.port q)
      ∧ Kept [.sp] [] [0x50004 + p * 0x100] s t := by
  obtain ⟨v, hv⟩ : ∃ v, v = (ctrlWord p (dirBit out) en s).toNat := ⟨_, rfl⟩
  have hwrite : writeSpCtrl p v s = ringsEnabled p v (schedulePort p out en (some s.nextShot) none s) := by
    refine writeSpCtrl_schedules ?_ ?_ hflag hstart
    · rw [hv, bitOf_ctrlWord _ _ _ _ (by cases out <;> decide), if_pos rfl]
    · rw [hv, bitOf_ctrlWord _ _ _ _ (by cases out <;> decide), if_neg (by cases out <;> decide), flag_dirField]
  have hkept := (schedulePort_kept p out en (some s.nextShot) none s).trans (ringsEnabled_kept p v _ _)
  refine ⟨_, by rw [spCtrlBit_eq en ho hp, ← hv, hwrite, finish_of_quiet (hkept.quiet (by decide) hq)], ?_, ?_, ?_, fun q hne => ?_, hkept⟩
  · rw [flag_dirField_ringsEnabled, flag_schedulePort, if_pos rfl]
  · rw [flag_dirField_ringsEnabled, flag_schedulePort, if_neg (by cases out <;> decide)]
  · rw [port_ringsEnabled, port_schedulePort_same]
  · rw [port_ringsEnabled, port_schedulePort_other hne]

/-- A ring enable is stored, and no direction's enable changes (R380, R381, R389). -/
theorem spCtrlBit_rings (p b : Nat) (en : Bool) (s : State) (ho : s.hostOpen = true) (hq : Quiet s) (hp : p < 64) (hb : b = 28 ∨ b = 29) :
    ∃ t, finish (spCtrlBit p b en s) = .next t
      ∧ t.flag (SP_CTRL.CAP_EN p) = (if b = 29 then en else s.flag (SP_CTRL.CAP_EN p))
      ∧ t.flag (SP_CTRL.PLY_EN p) = (if b = 28 then en else s.flag (SP_CTRL.PLY_EN p))
      ∧ (∀ out, t.flag (dirField out p) = s.flag (dirField out p))
      ∧ Kept [] [] [0x50004 + p * 0x100] s t := by
  obtain ⟨v, hv⟩ : ∃ v, v = (ctrlWord p b en s).toNat := ⟨_, rfl⟩
  have hbit : ∀ {i}, i < 32 → bitOf v i = if i = b then en else bitOf (s.reg (0x50004 + 0x100 * p)).toNat i := fun hi => by
    rw [hv, bitOf_ctrlWord _ _ _ _ hi]
  have hwrite : writeSpCtrl p v s = ringsEnabled p v s := writeSpCtrl_rings fun out => by
    rw [hbit (by cases out <;> decide), if_neg (by rcases hb with rfl | rfl <;> cases out <;> decide), flag_dirField]
  have hkept := ringsEnabled_kept p v s []
  refine ⟨_, by rw [spCtrlBit_eq en ho hp, ← hv, hwrite, finish_of_quiet (hkept.quiet (by decide) hq)], ?_, ?_, fun out => ?_, hkept⟩
  · rw [flag_capEn_ringsEnabled, hbit (by decide), ← flag_ctrl, SP_CTRL.CAP_EN]
    simp only [eq_comm]
  · rw [flag_plyEn_ringsEnabled, hbit (by decide), ← flag_ctrl, SP_CTRL.PLY_EN]
    simp only [eq_comm]
  · rw [flag_dirField_ringsEnabled]

theorem spInEnWrite_schedules (p : Nat) (en : Bool) (s : State) (ho : s.hostOpen = true) (hq : Quiet s) (hp : p < 64)
    (hflag : s.flag (SP_CTRL.IN_EN p) = !en) (hstart : en = true → portStartStatus p false s = 0) :
    ∃ t, exec (.spInEnWrite p en) s = .next t
      ∧ t.flag (SP_CTRL.IN_EN p) = en
      ∧ t.flag (SP_CTRL.OUT_EN p) = s.flag (SP_CTRL.OUT_EN p)
      ∧ (t.port p).reqs = (s.port p).reqs ++ [⟨false, en, some s.nextShot, none⟩]
      ∧ (∀ q, q ≠ p → t.port q = s.port q)
      ∧ Kept [.sp] [] [0x50004 + p * 0x100] s t :=
  spCtrlBit_schedules p false en s ho hq hp hflag hstart

theorem spOutEnWrite_schedules (p : Nat) (en : Bool) (s : State) (ho : s.hostOpen = true) (hq : Quiet s) (hp : p < 64)
    (hflag : s.flag (SP_CTRL.OUT_EN p) = !en) (hstart : en = true → portStartStatus p true s = 0) :
    ∃ t, exec (.spOutEnWrite p en) s = .next t
      ∧ t.flag (SP_CTRL.OUT_EN p) = en
      ∧ t.flag (SP_CTRL.IN_EN p) = s.flag (SP_CTRL.IN_EN p)
      ∧ (t.port p).reqs = (s.port p).reqs ++ [⟨true, en, some s.nextShot, none⟩]
      ∧ (∀ q, q ≠ p → t.port q = s.port q)
      ∧ Kept [.sp] [] [0x50004 + p * 0x100] s t :=
  spCtrlBit_schedules p true en s ho hq hp hflag hstart

theorem spCapEnWrite_stores (p : Nat) (en : Bool) (s : State) (ho : s.hostOpen = true) (hq : Quiet s) (hp : p < 64) :
    ∃ t, exec (.spCapEnWrite p en) s = .next t
      ∧ t.flag (SP_CTRL.CAP_EN p) = en
      ∧ t.flag (SP_CTRL.PLY_EN p) = s.flag (SP_CTRL.PLY_EN p)
      ∧ t.flag (SP_CTRL.IN_EN p) = s.flag (SP_CTRL.IN_EN p)
      ∧ Kept [] [] [0x50004 + p * 0x100] s t := by
  obtain ⟨t, ht, hcap, hply, hdir, hkept⟩ := spCtrlBit_rings p 29 en s ho hq hp (.inr rfl)
  exact ⟨t, ht, hcap, hply, hdir false, hkept⟩

theorem spPlyEnWrite_stores (p : Nat) (en : Bool) (s : State) (ho : s.hostOpen = true) (hq : Quiet s) (hp : p < 64) :
    ∃ t, exec (.spPlyEnWrite p en) s = .next t
      ∧ t.flag (SP_CTRL.PLY_EN p) = en
      ∧ t.flag (SP_CTRL.CAP_EN p) = s.flag (SP_CTRL.CAP_EN p)
      ∧ t.flag (SP_CTRL.OUT_EN p) = s.flag (SP_CTRL.OUT_EN p)
      ∧ Kept [] [] [0x50004 + p * 0x100] s t := by
  obtain ⟨t, ht, hcap, hply, hdir, hkept⟩ := spCtrlBit_rings p 28 en s ho hq hp (.inl rfl)
  exact ⟨t, ht, hply, hcap, hdir true, hkept⟩

/-! #### Clock groups -/

theorem inactive_of_all {s : State} (h : ([8, 9, 10, 11].all fun k => !s.flag (CLK_CANDST.ACTIVE k)) = true) :
    ∀ k, 8 ≤ k → k < 12 → s.flag (CLK_CANDST.ACTIVE k) = false := fun k h8 h12 => by
  have hk : k ∈ [8, 9, 10, 11] := by simp; omega
  simpa using List.all_eq_true.1 h k hk

/-- A configuration of a clock group that its checks allow. -/
theorem cgCfgWrite_applies {g w : Nat} {v : Word} {s : State} (ho : s.hostOpen = true) (hq : Quiet s) (hg : g < 16)
    (hw : w = v.toNat &&& 0xFFFFE000) (hcheck : cgCheck g w s = 0)
    (hidle : ([8, 9, 10, 11].all fun k => !s.flag (CLK_CANDST.ACTIVE k)) = true) :
    exec (.cgCfgWrite g v) s = .next (cgApply g w s) := by
  have hwrite : writeCg g v.toNat s = cgApply g w s := by
    rw [hw] at hcheck
    simp only [writeCg, hw]
    rw [if_pos hcheck]
  show finish (if g < 16 then writeReg (0x54000 + 0x20 * g) v s else s) = _
  rw [if_pos hg, writeReg_cgCfg v ho hg, hwrite, groupCands_cgApply hcheck hg (inactive_of_all hidle),
    finish_of_quiet ((cgApply_kept hcheck hg).quiet (by decide) hq)]

section

variable (g : Nat) (s : State)

theorem pinClaim_setF (x : Fld) (v i : Nat) : (s.setF x v).pinClaim i = s.pinClaim i := rfl

theorem pinClaim_onGroup (f : GroupU → GroupU) (i : Nat) : (onGroup g f s).pinClaim i = s.pinClaim i := rfl

theorem pinClaim_cgFresh (i : Nat) : (cgFresh g s).pinClaim i = s.pinClaim i := by
  rw [cgFresh, pinClaim_setF, pinClaim_onGroup]

theorem pinClaim_cgShown (present cls freq i : Nat) : (cgShown g present cls freq s).pinClaim i = s.pinClaim i := by
  rw [cgShown, pinClaim_setF, pinClaim_setF, pinClaim_setF]

theorem pinClaim_cgMaster (i : Nat) : (cgMaster g s).pinClaim i = s.pinClaim i := by
  rw [cgMaster, pinClaim_onGroup, pinClaim_cgShown]

theorem pinClaim_cgCleared (i : Nat) : (cgCleared g s).pinClaim i = s.pinClaim i := by
  rw [cgCleared, pinClaim_onGroup, pinClaim_cgShown]

/-- A released ball has no claim. -/
theorem pinClaim_releasePin (i j : Nat) : (releasePin i s).pinClaim j = if j = i then none else s.pinClaim j := by
  simp only [releasePin, State.pinClaim, State.onPin_pin, List.find?_filter]
  by_cases h : j = i
  · rw [if_pos h, List.find?_eq_none.2]
    · rfl
    · intro c _
      simp [h]
  · rw [if_neg h]
    refine congrArg (Option.map _) (List.find?_congr fun c _ => ?_)
    by_cases hc : c.1 = j <;> simp [hc, h]

theorem getF_onGroup (f : GroupU → GroupU) (x : Fld) : (onGroup g f s).getF x = s.getF x := rfl

theorem flag_onGroup (f : GroupU → GroupU) (x : Fld) : (onGroup g f s).flag x = s.flag x := rfl

theorem flag_ratechg_cgFresh : (cgFresh g s).flag (CG_STAT.RATECHG g) = false := by
  rw [cgFresh, State.flag, State.getF_setF_same _ _ _ (Nat.le_of_ble_eq_true rfl)]
  rfl

theorem getF_present_cgShown (present cls freq : Nat) : (cgShown g present cls freq s).getF (CG_STAT.PRESENT g) = present % 2 := by
  have hwidth : (CG_STAT.PRESENT g).lsb + (CG_STAT.PRESENT g).width ≤ 32 := Nat.le_of_ble_eq_true rfl
  rw [cgShown, State.getF_setF_other _ _ _ _ (by simp only [CG_STAT.PRESENT, CG_RATE.FREQ]; omega),
    State.getF_setF_disjoint _ _ _ _ hwidth (.inr (Nat.le_of_ble_eq_true rfl))]
  exact State.getF_setF_same _ _ _ hwidth

theorem getF_ratecls_cgShown (present cls freq : Nat) : (cgShown g present cls freq s).getF (CG_STAT.RATECLS g) = cls % 8 := by
  rw [cgShown, State.getF_setF_other _ _ _ _ (by simp only [CG_STAT.RATECLS, CG_RATE.FREQ]; omega)]
  exact State.getF_setF_same _ _ _ (Nat.le_of_ble_eq_true rfl)

theorem getF_freq_cgShown (present cls freq : Nat) : (cgShown g present cls freq s).getF (CG_RATE.FREQ g) = freq % 2 ^ 24 :=
  State.getF_setF_same _ (CG_RATE.FREQ g) _ (Nat.le_of_ble_eq_true rfl)

theorem flag_ratechg_cgShown (present cls freq : Nat) :
    (cgShown g present cls freq s).flag (CG_STAT.RATECHG g) = s.flag (CG_STAT.RATECHG g) := by
  have hwidth : (CG_STAT.RATECHG g).lsb + (CG_STAT.RATECHG g).width ≤ 32 := Nat.le_of_ble_eq_true rfl
  rw [cgShown, State.flag, State.getF_setF_other _ _ _ _ (by simp only [CG_STAT.RATECHG, CG_RATE.FREQ]; omega),
    State.getF_setF_disjoint _ _ _ _ hwidth (.inr (Nat.le_of_ble_eq_true rfl)),
    State.getF_setF_disjoint _ _ _ _ hwidth (.inl (Nat.le_of_ble_eq_true rfl)), State.flag]

end

/-- The nominal rate of a master follows from its configuration alone. -/
theorem nominalHz_of_master {g : Nat} {s t : State} (h : t.reg (0x54000 + 0x20 * g) = s.reg (0x54000 + 0x20 * g))
    (hdir : bitOf (s.reg (0x54000 + 0x20 * g)).toNat 30 = true) : nominalHz g t = nominalHz g s := by
  rw [Nat.mul_comm] at h hdir
  have hread : ∀ l k, t.getF ⟨0x54000 + g * 0x20, l, k⟩ = s.getF ⟨0x54000 + g * 0x20, l, k⟩ := fun l k => by
    rw [State.getF, State.getF, h]
  have hs : s.flag (CG_CFG.DIR g) = true := hdir
  have ht : t.flag (CG_CFG.DIR g) = true := by rw [State.flag, CG_CFG.DIR, hread]; exact hs
  rw [nominalHz, nominalHz, if_pos hs, if_pos ht, CG_CFG.RATE, hread]

theorem toNat_wd_masked {w : Nat} {v : Word} (hw : w = v.toNat &&& 0xFFFFE000) : (wd w).toNat = w := by
  have hle : w ≤ v.toNat := hw ▸ Nat.and_le_left
  rw [wd, BitVec.toNat_ofNat, Nat.mod_eq_of_lt (by have := v.isLt; omega)]

/-- An enable claims the balls of the group, and a master shows its nominal rate (R347, R370, R386). -/
theorem cgCfgWrite_enables (g : Nat) (v : Word) (w : Nat) (s : State) (ho : s.hostOpen = true) (hq : Quiet s) (hg : g < 16)
    (hw : w = v.toNat &&& 0xFFFFE000) (hcheck : cgCheck g w s = 0) (hen : bitOf w 31 = true) (hold : s.flag (CG_CFG.ENABLE g) = false)
    (hidle : ([8, 9, 10, 11].all fun k => !s.flag (CLK_CANDST.ACTIVE k)) = true) :
    ∃ t, exec (.cgCfgWrite g v) s = .next t
      ∧ t.reg (0x54000 + 0x20 * g) = wd w
      ∧ t.pinClaim (128 + g) = some ⟨2, g⟩
      ∧ t.pinClaim (144 + g) = some ⟨2, g⟩
      ∧ t.flag (CG_STAT.RATECHG g) = false
      ∧ ((bitOf w 30 = true → t.getF (CG_RATE.FREQ g) = nominalHz g t * 64 % 2 ^ 24))
      ∧ Kept [.sp, .pin] [] [0x54000 + 0x20 * g, 0x54004 + 0x20 * g, 0x54008 + 0x20 * g] s t := by
  obtain ⟨u, hu⟩ : ∃ u, u = claimedTwo (128 + g) (144 + g) ⟨2, g⟩ (s.setReg (0x54000 + 0x20 * g) (wd w)) := ⟨_, rfl⟩
  have happly := cgApply_enables hcheck hen hold hg
  rw [← hu] at happly
  have hclaim : ∀ i, (cgApply g w s).pinClaim i = u.pinClaim i := fun i => by
    rw [happly]
    split_ifs
    · rw [pinClaim_cgMaster, pinClaim_cgFresh]
    · rw [pinClaim_cgFresh]
  have hreg := reg_cgApply hcheck hg
  refine ⟨cgApply g w s, cgCfgWrite_applies ho hq hg hw hcheck hidle, hreg, ?_, ?_, ?_, fun hmaster => ?_, cgApply_kept hcheck hg⟩
  · rw [hclaim, hu, pinClaim_claimedTwo, if_neg (by omega), if_pos rfl]
  · rw [hclaim, hu, pinClaim_claimedTwo, if_pos rfl]
  · rw [happly]
    split_ifs
    · rw [cgMaster, flag_onGroup, flag_ratechg_cgShown, flag_ratechg_cgFresh]
    · exact flag_ratechg_cgFresh g u
  · have hword : (cgFresh g u).reg (0x54000 + 0x20 * g) = wd w := by
      rw [reg_cgCfg_cgFresh, hu]
      exact State.reg_setReg_same _ _ _
    have hnominal : nominalHz g (cgApply g w s) = nominalHz g (cgFresh g u) :=
      nominalHz_of_master (hreg.trans hword.symm) (by rw [hword, toNat_wd_masked hw]; exact hmaster)
    rw [hnominal, happly, if_pos hmaster, cgMaster, getF_onGroup]
    exact getF_freq_cgShown g _ _ _ _

/-- A disable releases the balls of an unused group and clears what it reports (R370). -/
theorem cgCfgWrite_disables (g : Nat) (v : Word) (w : Nat) (s : State) (ho : s.hostOpen = true) (hq : Quiet s) (hg : g < 16)
    (hw : w = v.toNat &&& 0xFFFFE000) (hen : bitOf w 31 = false) (hold : s.flag (CG_CFG.ENABLE g) = true) (hused : groupUsed g s = false)
    (hidle : ([8, 9, 10, 11].all fun k => !s.flag (CLK_CANDST.ACTIVE k)) = true) :
    ∃ t, exec (.cgCfgWrite g v) s = .next t
      ∧ t.reg (0x54000 + 0x20 * g) = wd w
      ∧ t.pinClaim (128 + g) = none
      ∧ t.pinClaim (144 + g) = none
      ∧ t.flag (CG_STAT.PRESENT g) = false
      ∧ t.getF (CG_STAT.RATECLS g) = 0
      ∧ t.getF (CG_RATE.FREQ g) = 0
      ∧ Kept [.sp, .pin] [] [0x54000 + 0x20 * g, 0x54004 + 0x20 * g, 0x54008 + 0x20 * g] s t := by
  have hcheck : cgCheck g w s = 0 := by
    rw [flag_cgEnable] at hold
    simp [cgCheck, hold, hen, hused]
  have happly := cgApply_disables hen hold
  refine ⟨cgApply g w s, cgCfgWrite_applies ho hq hg hw hcheck hidle, reg_cgApply hcheck hg, ?_, ?_, ?_, ?_, ?_, cgApply_kept hcheck hg⟩
  · rw [happly, pinClaim_cgCleared, pinClaim_releasePin, if_neg (by omega), pinClaim_releasePin, if_pos rfl]
  · rw [happly, pinClaim_cgCleared, pinClaim_releasePin, if_pos rfl]
  · rw [happly, cgCleared, State.flag, getF_onGroup, getF_present_cgShown]
    rfl
  · rw [happly, cgCleared, getF_onGroup, getF_ratecls_cgShown]
  · rw [happly, cgCleared, getF_onGroup, getF_freq_cgShown, Nat.zero_mod]

/-- A word that leaves the enable as it stands is stored, of an enabled group its own word only (R370). -/
theorem cgCfgWrite_stores (g : Nat) (v : Word) (w : Nat) (s : State) (ho : s.hostOpen = true) (hq : Quiet s) (hg : g < 16)
    (hw : w = v.toNat &&& 0xFFFFE000) (hsame : bitOf w 31 = s.flag (CG_CFG.ENABLE g))
    (hword : bitOf w 31 = true → w = (s.reg (0x54000 + 0x20 * g)).toNat)
    (hidle : ([8, 9, 10, 11].all fun k => !s.flag (CLK_CANDST.ACTIVE k)) = true) :
    ∃ t, exec (.cgCfgWrite g v) s = .next t
      ∧ t.reg (0x54000 + 0x20 * g) = wd w
      ∧ Kept [] [] [0x54000 + 0x20 * g] s t := by
  have hcheck : cgCheck g w s = 0 := by
    have hold := flag_cgEnable g s
    cases hen : bitOf w 31 with
    | true => simp [cgCheck, hen, ← hword hen]
    | false => simp [cgCheck, ← hold, ← hsame, hen]
  refine ⟨cgApply g w s, cgCfgWrite_applies ho hq hg hw hcheck hidle, reg_cgApply hcheck hg, ?_⟩
  rw [cgApply_sameEnable hsame]
  exact (Kept.refl _ _ _ s).setReg _ _ (.inr (by simp))

/-- Settles O27, register by register. -/
theorem serialRegisterWrites : Obligations.SerialRegisterWrites :=
  ⟨spRingLenWrite_stages, spRingPointerWrite_capture, spRingPointerWrite_playback, spRingPointerWrite_wraps, spMaskWrite_waits,
    spInEnWrite_schedules, spOutEnWrite_schedules, spCapEnWrite_stores, spPlyEnWrite_stores, cgCfgWrite_enables, cgCfgWrite_disables,
    cgCfgWrite_stores⟩

end Sys2Proof
end

section
/-! ### Starts and stops of a port's directions at their boundary (O43) -/

namespace Sys2Proof

open Machine

/-! #### Frames and requests -/

/-- A frame that names addresses, as one that names their pages. -/
theorem Kept.byPage {ps : List Part} {pg as : List Nat} {s t : State} (h : Kept ps [] as s t) (ha : ∀ a ∈ as, a / 65536 ∈ pg) :
    Kept ps pg [] s t :=
  ⟨h.part, fun a hpage _ _ => h.reg a (by simp) (fun hm => hpage (ha a hm)) (by simp)⟩

/-- Port `p` without its requests. -/
def unqueued (p : Nat) (s : State) : State := onPort p (fun u => { u with reqs := [] }) s

/-- A port's only request, which is due, acts (R368). -/
theorem actPort_of_due {p n : Nat} {out start : Bool} {phi : Nat} {s : State} (hreq : (s.port p).reqs = [⟨out, start, some n, none⟩])
    (hdue : n ≤ s.shot) : actPort p start phi s = if start then startDir p out phi (unqueued p s) else stopDir p out (unqueued p s) := by
  simp [actPort, hreq, hdue, unqueued]

/-! #### What a start is judged on -/

/-- The status of a start by every check of R369 but that of the ASRC pool. -/
def startBars (p : Nat) (out : Bool) (s : State) : Nat :=
  if !s.flag (CG_CFG.ENABLE (s.cgOf p)) then 3
  else if !portShape (s.reg (0x50000 + p * 0x100)).toNat (s.reg (0x50014 + p * 0x100)).toNat (mapWords (s.mapRegs false p))
    (mapWords (s.mapRegs true p)) s then 3
  else if !s.converted p && !(lockedOk (s.reg (0x50000 + p * 0x100)).toNat s && nominalHz (s.cgOf p) s = s.fs) then 3
  else if s.converted p && rate64 (s.cgOf p) s ≠ 0 && !ratioOk (rate64 (s.cgOf p) s) s then 3
  else if (out || s.getF (SP_CFG.INSRC p) = 0) && !bankOn (dirBall out p) s then 3
  else if (out || s.getF (SP_CFG.INSRC p) = 0) && (s.pinClaim (dirBall out p)).isSome then 6
  else if 4096 < portChans out s + s.nchan out p then 3
  else 0

theorem startCheck_eq (p : Nat) (out : Bool) (s : State) : startCheck p out s =
    if startBars p out s ≠ 0 then startBars p out s else if s.converted p && 1024 < s.asrcUse + s.nchan out p then 7 else 0 := by
  unfold startCheck startBars dirBall
  dsimp only
  split_ifs <;> simp_all

/-- The request itself is none of them. -/
theorem startBars_unqueued (p q : Nat) (out : Bool) (s : State) : startBars p out (unqueued q s) = startBars p out s := rfl

/-! The channels of the ASRC pool that the ports hold, as a sum over their map. -/

/-- ASRC channels of the ports of a map. -/
def poolUse (m : List (Nat × PortU)) : Nat := (m.map fun x => x.2.asrcIn + x.2.asrcOut).sum

theorem poolUse_cons (k : Nat) (u : PortU) (m : List (Nat × PortU)) : poolUse ((k, u) :: m) = u.asrcIn + u.asrcOut + poolUse m := by
  rw [poolUse, List.map_cons, List.sum_cons, poolUse]

theorem asrcUse_eq (s : State) : s.asrcUse = poolUse s.sp.ports + s.net.asrc := by
  have hfold : ∀ (m : List (Nat × PortU)) (a : Nat), m.foldl (fun a p => a + p.2.asrcIn + p.2.asrcOut) a = a + poolUse m := by
    intro m
    induction m with
    | nil => exact fun _ => rfl
    | cons x m ih =>
      obtain ⟨k, u⟩ := x
      intro a
      rw [List.foldl_cons, ih, poolUse_cons]
      dsimp only
      omega
  rw [State.asrcUse, hfold, Nat.zero_add]

theorem poolUse_smIns (k : Nat) (u : PortU) (m : List (Nat × PortU)) : poolUse (smIns k u m) = u.asrcIn + u.asrcOut + poolUse m := by
  induction m with
  | nil => rfl
  | cons x m ih =>
    obtain ⟨j, v⟩ := x
    simp only [smIns]
    split
    · exact poolUse_cons _ _ _
    · rw [poolUse_cons, poolUse_cons, ih]
      omega

/-- The ports beside `k` hold what `k` leaves of the pool, or less. -/
theorem poolUse_filter_le (k : Nat) (m : List (Nat × PortU)) :
    (smGet PortU.reset m k).asrcIn + (smGet PortU.reset m k).asrcOut + poolUse (m.filter fun c => c.1 != k) ≤ poolUse m := by
  induction m with
  | nil => exact le_refl 0
  | cons x m ih =>
    obtain ⟨j, u⟩ := x
    by_cases h : j = k
    · have hrest : poolUse (m.filter fun c => c.1 != k) ≤ poolUse m := by omega
      rw [List.filter_cons_of_neg (by simp [h]), poolUse_cons, smGet, if_pos h.symm]
      omega
    · rw [List.filter_cons_of_pos (by simp [h]), poolUse_cons, poolUse_cons, smGet, if_neg (Ne.symm h)]
      omega

/-- A port that keeps its channels takes no more of the pool. -/
theorem asrcUse_onPort_le (p : Nat) (f : PortU → PortU) (s : State) (hin : (f (s.port p)).asrcIn = (s.port p).asrcIn)
    (hout : (f (s.port p)).asrcOut = (s.port p).asrcOut) : (onPort p f s).asrcUse ≤ s.asrcUse := by
  have hrest := poolUse_filter_le p s.sp.ports
  have hports : poolUse (onPort p f s).sp.ports ≤ poolUse s.sp.ports := by
    show poolUse (smPut PortU.reset p (f (s.port p)) s.sp.ports) ≤ _
    simp only [smPut]
    split_ifs
    · exact le_trans (Nat.le_add_left _ _) hrest
    · rw [poolUse_smIns, hin, hout]
      exact hrest
  rw [asrcUse_eq, asrcUse_eq]
  exact Nat.add_le_add_right hports _

/-- A start that its checks let pass is let pass without its request too. -/
theorem startCheck_unqueued_ok {p : Nat} {out : Bool} {s : State} (h : startCheck p out s = 0) : startCheck p out (unqueued p s) = 0 := by
  have hpool : (unqueued p s).asrcUse ≤ s.asrcUse := asrcUse_onPort_le p _ s rfl rfl
  have hbars := startBars_unqueued p p out s
  have hconv : (unqueued p s).converted p = s.converted p := rfl
  have hchan : (unqueued p s).nchan out p = s.nchan out p := rfl
  rw [startCheck_eq] at h ⊢
  rw [hbars, hconv, hchan]
  split_ifs at h with hbar hfull
  · exact absurd h hbar
  · rw [if_neg hbar, if_neg]
    simp only [Bool.and_eq_true, decide_eq_true_eq, not_and, not_lt] at hfull ⊢
    exact fun hc => le_trans (Nat.add_le_add_right hpool _) (hfull hc)

/-- A start that meets a claimed pin meets it without its request too. -/
theorem startCheck_unqueued_conflict {p : Nat} {out : Bool} {s : State} (h : startCheck p out s = 6) :
    startCheck p out (unqueued p s) = 6 := by
  have hbars := startBars_unqueued p p out s
  rw [startCheck_eq] at h ⊢
  rw [hbars]
  split_ifs at h with hbar
  · rw [if_pos hbar, h]
  · exact absurd h (by decide)

/-- A start that passes its checks has found its ball, where it needs one, free and its bank on (R369). -/
theorem ball_of_startCheck {p : Nat} {out : Bool} {s : State} (h : startCheck p out s = 0)
    (hball : (out || decide (s.getF (SP_CFG.INSRC p) = 0)) = true) :
    bankOn (dirBall out p) s = true ∧ s.pinClaim (dirBall out p) = none := by
  have hbars : startBars p out s = 0 := by
    rw [startCheck_eq] at h
    split_ifs at h with hbar
    · exact absurd h hbar
    · exact not_ne_iff.1 hbar
  simp only [startBars, hball, Bool.true_and] at hbars
  split_ifs at hbars with _ _ _ _ hbank hclaim
  exact ⟨by simpa using hbank, by simpa using hclaim⟩

/-! #### What a port reads of its registers

A port's lead and the frames it lacks follow from registers beside the one that shows its state. -/

section

variable {p : Nat} {s t : State} (hreg : ∀ a, a ≠ 0x50008 + p * 0x100 → t.reg a = s.reg a)

include hreg

theorem getF_of_beside {x : Fld} (h : x.addr ≠ 0x50008 + p * 0x100) : t.getF x = s.getF x := by rw [State.getF, State.getF, hreg _ h]

theorem flag_of_beside {x : Fld} (h : x.addr ≠ 0x50008 + p * 0x100) : t.flag x = s.flag x := by
  rw [State.flag, State.flag, getF_of_beside hreg h]

theorem converted_of_beside : t.converted p = s.converted p := flag_of_beside hreg (by simp only [SP_CFG.MODE]; omega)

theorem cgOf_of_beside : t.cgOf p = s.cgOf p := getF_of_beside hreg (by simp only [SP_CFG.CG]; omega)

theorem nchan_of_beside (out : Bool) : t.nchan out p = s.nchan out p := by
  cases out <;> exact getF_of_beside hreg (by simp only [SP_NCH.NIN, SP_NCH.NOUT]; omega)

theorem mapSlot_of_beside (out : Bool) (c : Nat) : t.mapSlot out p c = s.mapSlot out p c := by
  rw [State.mapSlot, State.mapSlot, hreg _ (by omega)]

theorem dir_of_beside (g : Nat) : t.flag (CG_CFG.DIR g) = s.flag (CG_CFG.DIR g) :=
  flag_of_beside hreg (by simp only [CG_CFG.DIR]; omega)

theorem rate64_of_beside (hp : p < 64) (g : Nat) : rate64 g t = rate64 g s := by
  have hrate : t.getF (CG_CFG.RATE g) = s.getF (CG_CFG.RATE g) := getF_of_beside hreg (by simp only [CG_CFG.RATE]; omega)
  have hcls : t.getF (CG_STAT.RATECLS g) = s.getF (CG_STAT.RATECLS g) := getF_of_beside hreg (by simp only [CG_STAT.RATECLS]; omega)
  have hfreq : t.getF (CG_RATE.FREQ g) = s.getF (CG_RATE.FREQ g) := getF_of_beside hreg (by simp only [CG_RATE.FREQ]; omega)
  have hnominal : nominalHz g t = nominalHz g s := by rw [nominalHz, nominalHz, dir_of_beside hreg, hrate, hcls]
  rw [rate64, rate64, hnominal, hfreq]

theorem offGrid_of_beside : offGrid p t = offGrid p s := by
  have hlat : t.getF (SP_LAT.IN p) = s.getF (SP_LAT.IN p) := getF_of_beside hreg (by simp only [SP_LAT.IN]; omega)
  rw [offGrid, offGrid, converted_of_beside hreg, cgOf_of_beside hreg, dir_of_beside hreg, hlat]

theorem inLead_of_beside : inLead p t = inLead p s := by rw [inLead, inLead, converted_of_beside hreg, offGrid_of_beside hreg]

theorem outLeadOf_of_beside (hp : p < 64) : outLeadOf p t = outLeadOf p s := by
  have hfs : t.fs = s.fs := by rw [State.fs, State.fs, getF_of_beside hreg (by simp only [SYS_CFG.RATE]; omega)]
  rw [outLeadOf, outLeadOf, converted_of_beside hreg, offGrid_of_beside hreg, cgOf_of_beside hreg, rate64_of_beside hreg hp, hfs]

variable (hstate : t.istate p = s.istate p) (hlock : (t.port p).lockIn = (s.port p).lockIn) (hbad : (t.port p).badIn = (s.port p).badIn)

include hstate hlock hbad

theorem portFlags_of_beside (st : Nat) : portFlags p st t = portFlags p st s := by
  have hunlocked : unlockedFlag p t = unlockedFlag p s := by rw [unlockedFlag, unlockedFlag, converted_of_beside hreg, hlock]
  have hlost : sourceLost p t = sourceLost p s := by rw [sourceLost, sourceLost, converted_of_beside hreg, hstate, hbad]
  rw [portFlags, portFlags, hunlocked, hlost]

theorem missingFrame_of_beside (st : Nat) (hmask : (t.port p).maskIn = (s.port p).maskIn) : missingFrame p st t = missingFrame p st s := by
  rw [missingFrame, missingFrame, nchan_of_beside hreg]
  refine List.map_congr_left fun c _ => ?_
  rw [portFlags_of_beside hreg hstate hlock hbad, mapSlot_of_beside hreg, hmask]

end

/-- What `SP_STAT` shows of a port's ASRC channels leaves the states of its directions. -/
theorem dirState_showLock (out : Bool) (p : Nat) (s : State) : (showLock p s).getF (dirState out p) = s.getF (dirState out p) := by
  rw [showLock_eq]
  exact State.getF_setF_disjoint _ _ _ _ (by cases out <;> exact Nat.le_of_ble_eq_true rfl) (by cases out <;> exact .inr (Nat.le_of_ble_eq_true rfl))

theorem reg_showLock {p a : Nat} (s : State) (h : a ≠ 0x50008 + p * 0x100) : (showLock p s).reg a = s.reg a := by
  rw [showLock_eq]
  exact State.reg_setF_other _ _ _ _ h

theorem port_showLock (p q : Nat) (s : State) : (showLock p s).port q = s.port q := by rw [showLock_eq, port_setF]

theorem pinClaim_showLock (p i : Nat) (s : State) : (showLock p s).pinClaim i = s.pinClaim i := by rw [showLock_eq, pinClaim_setF]

theorem pinClaim_onPort (p i : Nat) (f : PortU → PortU) (s : State) : (onPort p f s).pinClaim i = s.pinClaim i := rfl

theorem Kept.showLock {ps : List Part} {as : List Nat} {s t : State} (p : Nat) (h : Kept ps [] as s t)
    (ha : 0x50008 + p * 0x100 ∈ as := by simp) : Kept ps [] as s (Machine.showLock p t) := by
  rw [showLock_eq]
  exact h.setF _ _ (.inr ha)

/-- The other direction's state stands when one is written. -/
theorem dirState_setF (out out' : Bool) (p v : Nat) (s : State) :
    (s.setF (dirState out p) v).getF (dirState out' p) = if out' = out then v % 8 else s.getF (dirState out' p) := by
  have hwidth : ∀ out, (dirState out p).lsb + (dirState out p).width ≤ 32 := fun out => by cases out <;> exact Nat.le_of_ble_eq_true rfl
  split_ifs with h
  · rw [h, State.getF_setF_same _ _ _ (hwidth out)]
    cases out <;> rfl
  · refine State.getF_setF_disjoint _ _ _ _ (hwidth out') ?_
    cases out with
    | false => cases out' with
      | false => exact absurd rfl h
      | true => exact .inl (Nat.le_of_ble_eq_true rfl)
    | true => cases out' with
      | false => exact .inr (Nat.le_of_ble_eq_true rfl)
      | true => exact absurd rfl h

end Sys2Proof
end

section
namespace Sys2Proof

open Machine

/-! #### What a start does before its direction runs -/

theorem Kept.reg_of_notMem {ps : List Part} {as : List Nat} {s t : State} (h : Kept ps [] as s t) {a : Nat} (ha : a ∉ as) :
    t.reg a = s.reg a := h.reg a (by simp) ha (by simp)

/-- The registers that a start of a direction of port `p` changes: its enable, its state, the block sequence and the latencies. -/
def startRegs (p : Nat) : List Nat := [0x50004 + p * 0x100, 0x50008 + p * 0x100, 0x5006C + p * 0x100, 0x50070 + p * 0x100]

/-- The direction's enable shows it and its ball is claimed (R369). -/
def claimedStart (p : Nat) (out : Bool) (s : State) : State :=
  (s.setF (dirField out p) 1).onPin fun u => { u with claims := (dirBall out p, ⟨1, p⟩) :: u.claims }

/-- The first direction of a port that starts begins its port blocks (R367). -/
def blocksBegun (p : Nat) (s : State) : State :=
  if s.istate p = 0 ∧ s.ostate p = 0 then (onPort p (fun u => { u with blk := [], blkN := 0 }) s).setF (SP_BSEQ.COUNT p) 0 else s

/-- A direction that is about to start, with the latencies shown (R365, R369). -/
def startPrepared (p : Nat) (out : Bool) (phi : Nat) (s : State) : State := showLat p phi (blocksBegun p (claimedStart p out s))

theorem showLat_eq (p phi : Nat) (s : State) : ∃ i o, showLat p phi s = (s.setF (SP_LAT.IN p) i).setF (SP_LAT.OUT p) o := ⟨_, _, rfl⟩

section

variable (p : Nat) (out : Bool) (phi : Nat) (s : State)

theorem claimedStart_kept : Kept [.sp, .pin] [] (startRegs p) s (claimedStart p out s) := by
  have hset : Kept [.sp, .pin] [] (startRegs p) s (s.setF (dirField out p) 1) :=
    (Kept.refl _ _ _ s).setF _ _ (.inr (by rw [dirField_addr]; simp [startRegs]))
  exact hset.onPin _

theorem blocksBegun_kept : Kept [.sp, .pin] [] (startRegs p) s (blocksBegun p s) := by
  refine Kept.ite _ (fun _ => ?_) fun _ => .refl _ _ _ s
  exact ((Kept.refl [.sp, .pin] [] (startRegs p) s).onPort _ _).setF _ _ (.inr (by simp [startRegs, SP_BSEQ.COUNT]))

theorem showLat_kept : Kept [.sp, .pin] [] (startRegs p) s (showLat p phi s) := by
  obtain ⟨i, o, h⟩ := showLat_eq p phi s
  rw [h]
  exact ((Kept.refl [.sp, .pin] [] (startRegs p) s).setF _ _ (.inr (by simp [startRegs, SP_LAT.IN]))).setF _ _
    (.inr (by simp [startRegs, SP_LAT.OUT]))

theorem startPrepared_kept : Kept [.sp, .pin] [] (startRegs p) s (startPrepared p out phi s) :=
  ((claimedStart_kept p out s).trans (blocksBegun_kept p _)).trans (showLat_kept p phi _)

theorem reg_blocksBegun {a : Nat} (h : a ≠ 0x5006C + p * 0x100) : (blocksBegun p s).reg a = s.reg a := by
  unfold blocksBegun
  split_ifs
  · exact State.reg_setF_other (onPort p (fun u => { u with blk := [], blkN := 0 }) s) _ _ _ h
  · rfl

theorem reg_showLat {a : Nat} (h : a ≠ 0x50070 + p * 0x100) : (showLat p phi s).reg a = s.reg a := by
  obtain ⟨i, o, heq⟩ := showLat_eq p phi s
  rw [heq, State.reg_setF_other _ _ _ _ h, State.reg_setF_other _ _ _ _ h]

theorem port_showLat (q : Nat) : (showLat p phi s).port q = s.port q := by
  obtain ⟨i, o, heq⟩ := showLat_eq p phi s
  rw [heq, port_setF, port_setF]

theorem pinClaim_showLat (i : Nat) : (showLat p phi s).pinClaim i = s.pinClaim i := by
  obtain ⟨x, y, heq⟩ := showLat_eq p phi s
  rw [heq, pinClaim_setF, pinClaim_setF]

theorem reqs_blocksBegun : ((blocksBegun p s).port p).reqs = (s.port p).reqs := by
  unfold blocksBegun
  split_ifs
  · rw [port_setF, port_onPort_same]
  · rfl

theorem port_blocksBegun_other {q : Nat} (h : q ≠ p) : (blocksBegun p s).port q = s.port q := by
  unfold blocksBegun
  split_ifs
  · rw [port_setF, port_onPort_other h]
  · rfl

theorem pinClaim_blocksBegun (i : Nat) : (blocksBegun p s).pinClaim i = s.pinClaim i := by
  unfold blocksBegun
  split_ifs
  · rw [pinClaim_setF, pinClaim_onPort]
  · rfl

theorem port_claimedStart (q : Nat) : (claimedStart p out s).port q = s.port q := rfl

theorem reg_claimedStart_other {a : Nat} (h : a ≠ 0x50004 + p * 0x100) : (claimedStart p out s).reg a = s.reg a :=
  State.reg_setF_other s (dirField out p) _ _ (by rw [dirField_addr]; exact h)

theorem pinClaim_startPrepared : (startPrepared p out phi s).pinClaim (dirBall out p) = some ⟨1, p⟩ := by
  rw [startPrepared, pinClaim_showLat, pinClaim_blocksBegun, claimedStart, pinClaim_cons, if_pos rfl]

theorem reqs_startPrepared : ((startPrepared p out phi s).port p).reqs = (s.port p).reqs := by
  rw [startPrepared, port_showLat, reqs_blocksBegun, port_claimedStart]

theorem port_startPrepared_other {q : Nat} (h : q ≠ p) : (startPrepared p out phi s).port q = s.port q := by
  rw [startPrepared, port_showLat, port_blocksBegun_other _ _ h, port_claimedStart]

theorem reg_startPrepared {a : Nat} (hctrl : a ≠ 0x50004 + p * 0x100) (hseq : a ≠ 0x5006C + p * 0x100) (hlat : a ≠ 0x50070 + p * 0x100) :
    (startPrepared p out phi s).reg a = s.reg a := by
  rw [startPrepared, reg_showLat _ _ _ hlat, reg_blocksBegun _ _ hseq, reg_claimedStart_other _ _ _ hctrl]

theorem flag_dirField_startPrepared : (startPrepared p out phi s).flag (dirField out p) = true := by
  have hread : (startPrepared p out phi s).reg (dirField out p).addr = (claimedStart p out s).reg (dirField out p).addr := by
    rw [startPrepared, reg_showLat _ _ _ (by rw [dirField_addr]; omega), reg_blocksBegun _ _ (by rw [dirField_addr]; omega)]
  have hset : (s.setF (dirField out p) 1).flag (dirField out p) = true := by rw [flag_dirField_setF, if_pos rfl]; rfl
  rw [State.flag, State.getF, hread]
  exact hset

theorem dirState_startPrepared (out' : Bool) : (startPrepared p out phi s).getF (dirState out' p) = s.getF (dirState out' p) := by
  rw [State.getF, State.getF, dirState_addr, reg_startPrepared _ _ _ _ (by omega) (by omega) (by omega)]

/-- The block sequence of a port whose first direction starts begins at 0 (R367). -/
theorem getF_bseq_startPrepared (hin : s.istate p = 0) (hout : s.ostate p = 0) : (startPrepared p out phi s).getF (SP_BSEQ.COUNT p) = 0 := by
  have hstate : ∀ o, (claimedStart p out s).getF (dirState o p) = s.getF (dirState o p) := fun o => by
    rw [State.getF, State.getF, dirState_addr, reg_claimedStart_other _ _ _ (by omega)]
  have hbegun : blocksBegun p (claimedStart p out s) =
      (onPort p (fun u => { u with blk := [], blkN := 0 }) (claimedStart p out s)).setF (SP_BSEQ.COUNT p) 0 :=
    if_pos ⟨(hstate false).trans hin, (hstate true).trans hout⟩
  rw [State.getF, startPrepared, reg_showLat _ _ _ (by simp only [SP_BSEQ.COUNT]; omega), hbegun]
  exact State.getF_setF_same _ (SP_BSEQ.COUNT p) 0 (Nat.le_of_ble_eq_true rfl)

end

/-! #### What a start gives its direction -/

/-- A port with the input STARTING, `n` converter channels, and its lock as `master` has it (R359, R371). -/
def inputBegun (n : Nat) (master : Bool) (u : PortU) : PortU :=
  { u with asrcIn := n, lockIn := master, badIn := false, centreIn := false, prevGood := false, cvq := [], gap := some (0, 1) }

/-- What concealment holds of the input channels of port `p` is forgotten. -/
def concealCleared (p : Nat) (u : CsU) : CsU :=
  { u with conceal := smKeep (fun k => !(spKey p 0 ≤ k ∧ k < spKey p 32) && !(spPinKey p 0 ≤ k ∧ k < spPinKey p 32)) u.conceal }

/-- The input of port `p` STARTING, its queue still as it was. -/
def inputStarting (p n : Nat) (master : Bool) (s : State) : State :=
  onPort p (inputBegun n master) ((s.setF (SP_STAT.ISTATE p) 1).onCs (concealCleared p))

/-- The input of port `p` STARTING, with its lead of unsettled frames (R365, R371). -/
def inputStarted (p n : Nat) (master : Bool) (s : State) : State :=
  showLock p (onPort p
    (fun u => { u with inq := List.replicate (inLead p (inputStarting p n master s)) (missingFrame p 1 (inputStarting p n master s)) })
    (inputStarting p n master s))

/-- A port with the output STARTING, `n` converter channels, and a lead of `k` zero frames (R359, R372). -/
def outputBegun (n k : Nat) (master : Bool) (u : PortU) : PortU :=
  { u with asrcOut := n, lockOut := master, badOut := false, centreOut := false, outq := [], outLead := k, outOn := false, outLast := [] }

/-- The output of port `p` STARTING, before it takes up a released block. -/
def outputStarting (p n : Nat) (master : Bool) (s : State) : State :=
  onPort p (outputBegun n (outLeadOf p (s.setF (SP_STAT.OSTATE p) 1)) master) (s.setF (SP_STAT.OSTATE p) 1)

/-- The output of port `p` STARTING (R372). -/
def outputStarted (p n : Nat) (master : Bool) (s : State) : State := showLock p (portRelease p (outputStarting p n master s))

/-- Converter channels that a direction takes (R359). -/
def convChans (p : Nat) (out : Bool) (s : State) : Nat := if s.converted p then s.nchan out p else 0

section

variable {p : Nat} {out : Bool} {phi : Nat} {s : State}

theorem insrc_setF_dirField (v : Nat) : (s.setF (dirField out p) v).getF (SP_CFG.INSRC p) = s.getF (SP_CFG.INSRC p) :=
  State.getF_setF_other _ _ _ _ (by rw [dirField_addr]; simp only [SP_CFG.INSRC]; omega)

/-- A start that passes its checks, of a direction with a ball (R369). -/
theorem startDir_of_free (hstate : s.getF (dirState out p) = 0) (hcheck : startCheck p out s = 0)
    (hball : out = true ∨ s.getF (SP_CFG.INSRC p) = 0) : startDir p out phi s =
      if out then outputStarted p (convChans p out (claimedStart p out s))
        ((claimedStart p out s).flag (CG_CFG.DIR ((claimedStart p out s).cgOf p))) (startPrepared p out phi s)
      else inputStarted p (convChans p out (claimedStart p out s))
        ((claimedStart p out s).flag (CG_CFG.DIR ((claimedStart p out s).cgOf p))) (startPrepared p out phi s) := by
  have hsupply : (s.setF (dirField out p) 1).reg 0xE0000 = s.reg 0xE0000 := State.reg_setF_other _ _ _ _ (by rw [dirField_addr]; omega)
  have hbank : bankOn (dirBall out p) (s.setF (dirField out p) 1) = bankOn (dirBall out p) s := by rw [bankOn, hsupply, bankOn]
  obtain ⟨hon, hfree⟩ := ball_of_startCheck hcheck (by simpa using hball)
  have hclaim : claimPin (dirBall out p) ⟨1, p⟩ (s.setF (dirField out p) 1) = (0, claimedStart p out s) :=
    claimPin_of_free (hbank.trans hon) hfree
  have hneeds : out = true ∨ (s.setF (dirField out p) 1).getF (SP_CFG.INSRC p) = 0 := hball.imp id (insrc_setF_dirField 1).trans
  have hclaimed : (if out = true ∨ (s.setF (dirField out p) 1).getF (SP_CFG.INSRC p) = 0
      then (claimPin (dirBall out p) ⟨1, p⟩ (s.setF (dirField out p) 1)).2 else s.setF (dirField out p) 1) = claimedStart p out s := by
    rw [if_pos hneeds, hclaim]
  cases out with
  | false =>
    have hstopped : s.istate p = 0 := hstate
    simp only [dirBall, Bool.false_eq_true, if_false, false_or] at hclaimed
    unfold startDir
    simp only [Bool.false_eq_true, if_false, false_or, hcheck, hstopped, ne_eq, not_true_eq_false, hclaimed]
    rfl
  | true =>
    have hstopped : s.ostate p = 0 := hstate
    simp only [dirBall, if_true, true_or] at hclaimed
    unfold startDir
    simp only [if_true, true_or, hcheck, hstopped, ne_eq, not_true_eq_false, hclaimed, if_false]
    rfl

end

end Sys2Proof
end

section
namespace Sys2Proof

open Machine

/-! #### An input that has started -/

theorem port_onCs (f : CsU → CsU) (s : State) (q : Nat) : (s.onCs f).port q = s.port q := rfl

theorem reg_onCs (f : CsU → CsU) (s : State) (a : Nat) : (s.onCs f).reg a = s.reg a := rfl

theorem getF_onCs (f : CsU → CsU) (s : State) (x : Fld) : (s.onCs f).getF x = s.getF x := rfl

theorem pinClaim_onCs (f : CsU → CsU) (s : State) (i : Nat) : (s.onCs f).pinClaim i = s.pinClaim i := rfl

section

variable (p n : Nat) (master : Bool) (s : State)

theorem inputStarting_kept : Kept [.sp, .cs] [] (startRegs p) s (inputStarting p n master s) :=
  (((Kept.refl [.sp, .cs] [] (startRegs p) s).setF _ _ (.inr (by simp [startRegs, SP_STAT.ISTATE]))).onCs _).onPort _ _

theorem inputStarted_kept : Kept [.sp, .cs] [] (startRegs p) s (inputStarted p n master s) :=
  ((inputStarting_kept p n master s).onPort _ _).showLock _ (by simp [startRegs])

theorem port_inputStarting : (inputStarting p n master s).port p = inputBegun n master (s.port p) := by
  rw [inputStarting, port_onPort_same, port_onCs, port_setF]

theorem port_inputStarted : (inputStarted p n master s).port p =
    { inputBegun n master (s.port p) with
      inq := List.replicate (inLead p (inputStarting p n master s)) (missingFrame p 1 (inputStarting p n master s)) } := by
  rw [inputStarted, port_showLock, port_onPort_same, port_inputStarting]

theorem port_inputStarted_other {q : Nat} (h : q ≠ p) : (inputStarted p n master s).port q = s.port q := by
  rw [inputStarted, port_showLock, port_onPort_other h, inputStarting, port_onPort_other h, port_onCs, port_setF]

theorem reg_inputStarted_starting {a : Nat} (h : a ≠ 0x50008 + p * 0x100) :
    (inputStarted p n master s).reg a = (inputStarting p n master s).reg a := by
  rw [inputStarted, reg_showLock _ h, reg_onPort]

theorem reg_inputStarted {a : Nat} (h : a ≠ 0x50008 + p * 0x100) : (inputStarted p n master s).reg a = s.reg a := by
  rw [reg_inputStarted_starting _ _ _ _ h, inputStarting, reg_onPort, reg_onCs]
  exact State.reg_setF_other _ _ _ _ h

theorem pinClaim_inputStarted (i : Nat) : (inputStarted p n master s).pinClaim i = s.pinClaim i := by
  rw [inputStarted, pinClaim_showLock, pinClaim_onPort, inputStarting, pinClaim_onPort, pinClaim_onCs, pinClaim_setF]

theorem dirState_inputStarting (out : Bool) :
    (inputStarting p n master s).getF (dirState out p) = if out = false then 1 else s.getF (dirState out p) := by
  rw [inputStarting, getF_onPort, getF_onCs]
  exact dirState_setF false out p 1 s

theorem dirState_inputStarted (out : Bool) :
    (inputStarted p n master s).getF (dirState out p) = if out = false then 1 else s.getF (dirState out p) := by
  rw [inputStarted, dirState_showLock, getF_onPort, dirState_inputStarting]

/-- The lead of a started input, as its registers have it (R365, R371). -/
theorem inq_inputStarted : ((inputStarted p n master s).port p).inq =
    List.replicate (inLead p (inputStarted p n master s)) (missingFrame p 1 (inputStarted p n master s)) := by
  have hreg : ∀ a, a ≠ 0x50008 + p * 0x100 → (inputStarted p n master s).reg a = (inputStarting p n master s).reg a :=
    fun _ => reg_inputStarted_starting p n master s
  have hstate : (inputStarted p n master s).istate p = (inputStarting p n master s).istate p :=
    (dirState_inputStarted p n master s false).trans (dirState_inputStarting p n master s false).symm
  have hport := port_inputStarted p n master s
  have hbegun := port_inputStarting p n master s
  rw [inLead_of_beside hreg, missingFrame_of_beside hreg hstate (by rw [hport, hbegun]) (by rw [hport, hbegun]) _ (by rw [hport, hbegun]), hport]

end

/-! #### An output that has started -/

theorem outLeadOf_onPort (p q : Nat) (f : PortU → PortU) (s : State) : outLeadOf p (onPort q f s) = outLeadOf p s := rfl

/-- A started output takes up a released block behind its lead, with its requests and its channels as they were (R365, R372). -/
theorem portRelease_fresh {p : Nat} {s : State} (hstate : s.ostate p ≠ 0) (hon : (s.port p).outOn = false)
    (hlead : (s.port p).outLead = outLeadOf p s) :
    ∃ f, portRelease p s = onPort p f s ∧ (f (s.port p)).reqs = (s.port p).reqs ∧ (f (s.port p)).asrcOut = (s.port p).asrcOut ∧
      (f (s.port p)).outLead = outLeadOf p s := by
  rw [portRelease, if_neg hstate]
  by_cases hrel : (!releases s) = true
  · exact ⟨_, if_pos hrel, rfl, rfl, hlead⟩
  · exact ⟨_, if_neg hrel, rfl, rfl, by simp [hon]⟩

section

variable (p n : Nat) (master : Bool) (s : State)

theorem port_outputStarting : (outputStarting p n master s).port p =
    outputBegun n (outLeadOf p (s.setF (SP_STAT.OSTATE p) 1)) master (s.port p) := by
  rw [outputStarting, port_onPort_same, port_setF]

theorem dirState_outputStarting (out : Bool) :
    (outputStarting p n master s).getF (dirState out p) = if out = true then 1 else s.getF (dirState out p) := by
  rw [outputStarting, getF_onPort]
  exact dirState_setF true out p 1 s

/-- What a started output's release leaves: its port is the only one changed, with its requests, its channels and its lead (R372). -/
theorem outputStarted_eq : ∃ f, outputStarted p n master s = showLock p (onPort p f (outputStarting p n master s)) ∧
    (f ((outputStarting p n master s).port p)).reqs = (s.port p).reqs ∧ (f ((outputStarting p n master s).port p)).asrcOut = n ∧
    (f ((outputStarting p n master s).port p)).outLead = outLeadOf p (outputStarting p n master s) := by
  have hport := port_outputStarting p n master s
  have hstate : (outputStarting p n master s).ostate p ≠ 0 := 
    ne_of_eq_of_ne ((dirState_outputStarting p n master s true).trans (if_pos rfl)) (by decide)
  have hlead : ((outputStarting p n master s).port p).outLead = outLeadOf p (outputStarting p n master s) := by
    rw [hport, outputStarting, outLeadOf_onPort]
    rfl
  obtain ⟨f, hf, hreqs, hchans, hlead⟩ := portRelease_fresh hstate (by rw [hport]; rfl) hlead
  exact ⟨f, by rw [outputStarted, hf], by rw [hreqs, hport]; rfl, by rw [hchans, hport]; rfl, hlead⟩

theorem outputStarting_kept : Kept [.sp] [] (startRegs p) s (outputStarting p n master s) :=
  ((Kept.refl [.sp] [] (startRegs p) s).setF _ _ (.inr (by simp [startRegs, SP_STAT.OSTATE]))).onPort _ _

theorem reg_outputStarting {a : Nat} (h : a ≠ 0x50008 + p * 0x100) : (outputStarting p n master s).reg a = s.reg a := by
  rw [outputStarting, reg_onPort]
  exact State.reg_setF_other _ _ _ _ h

theorem pinClaim_outputStarting (i : Nat) : (outputStarting p n master s).pinClaim i = s.pinClaim i := by
  rw [outputStarting, pinClaim_onPort, pinClaim_setF]

theorem port_outputStarting_other {q : Nat} (h : q ≠ p) : (outputStarting p n master s).port q = s.port q := by
  rw [outputStarting, port_onPort_other h, port_setF]

theorem outputStarted_kept : Kept [.sp] [] (startRegs p) s (outputStarted p n master s) := by
  obtain ⟨f, heq, -⟩ := outputStarted_eq p n master s
  rw [heq]
  exact ((outputStarting_kept p n master s).onPort _ _).showLock _ (by simp [startRegs])

theorem reg_outputStarted_starting {a : Nat} (h : a ≠ 0x50008 + p * 0x100) :
    (outputStarted p n master s).reg a = (outputStarting p n master s).reg a := by
  obtain ⟨f, heq, -⟩ := outputStarted_eq p n master s
  rw [heq, reg_showLock _ h, reg_onPort]

theorem reg_outputStarted {a : Nat} (h : a ≠ 0x50008 + p * 0x100) : (outputStarted p n master s).reg a = s.reg a := by
  rw [reg_outputStarted_starting _ _ _ _ h, reg_outputStarting _ _ _ _ h]

theorem pinClaim_outputStarted (i : Nat) : (outputStarted p n master s).pinClaim i = s.pinClaim i := by
  obtain ⟨f, heq, -⟩ := outputStarted_eq p n master s
  rw [heq, pinClaim_showLock, pinClaim_onPort, pinClaim_outputStarting]

theorem port_outputStarted_other {q : Nat} (h : q ≠ p) : (outputStarted p n master s).port q = s.port q := by
  obtain ⟨f, heq, -⟩ := outputStarted_eq p n master s
  rw [heq, port_showLock, port_onPort_other h, port_outputStarting_other _ _ _ _ h]

theorem dirState_outputStarted (out : Bool) :
    (outputStarted p n master s).getF (dirState out p) = if out = true then 1 else s.getF (dirState out p) := by
  obtain ⟨f, heq, -⟩ := outputStarted_eq p n master s
  rw [heq, dirState_showLock, getF_onPort, dirState_outputStarting]

theorem reqs_outputStarted : ((outputStarted p n master s).port p).reqs = (s.port p).reqs := by
  obtain ⟨f, heq, hreqs, -⟩ := outputStarted_eq p n master s
  rw [heq, port_showLock, port_onPort_same, hreqs]

theorem asrcOut_outputStarted : ((outputStarted p n master s).port p).asrcOut = n := by
  obtain ⟨f, heq, -, hchans, -⟩ := outputStarted_eq p n master s
  rw [heq, port_showLock, port_onPort_same, hchans]

/-- The lead of a started output, as its registers have it (R365, R372). -/
theorem outLead_outputStarted (hp : p < 64) :
    ((outputStarted p n master s).port p).outLead = outLeadOf p (outputStarted p n master s) := by
  rw [outLeadOf_of_beside (fun _ => reg_outputStarted_starting p n master s) hp]
  obtain ⟨f, heq, -, -, hlead⟩ := outputStarted_eq p n master s
  rw [heq, port_showLock, port_onPort_same, hlead]

end

end Sys2Proof
end

section
namespace Sys2Proof

open Machine

/-! #### The count of a single message -/

/-- The count of messages is as it was. -/
def CountKept (s t : State) : Prop := t.getF FLT_COUNT.COUNT = s.getF FLT_COUNT.COUNT

theorem CountKept.collectorRel : CollectorRel CountKept where
  trans h k := k.trans h
  aside h := h.getF _ (by decide) (by decide) (by decide)
  take _ _ _ := rfl
  sticky _ k _ hk _ := State.getF_setF_other _ _ _ _ (by simp only [FLT_STICKY.BITS, FLT_COUNT.COUNT]; omega)
  resume s e he := by
    have haddr : FLT_COUNT.COUNT.addr ≠ engBase e ∧ FLT_COUNT.COUNT.addr ≠ engBase e + 4 := by
      simp only [FLT_COUNT.COUNT, engBase]
      split <;> omega
    rw [CountKept, State.getF, State.getF, reg_resumeEngine_other e _ s haddr.1 haddr.2]

/-- A cycle with one message accepts it: its sticky bit is set and the count is one higher (R665). -/
theorem raised_settle {s : State} {m : Msg} (hwire : s.flt.wire = [m]) (hm : m.src < 256) : Raised m.src s (settle s) := by
  have hw : ∀ x ∈ s.flt.wire, x.src < 256 := by simpa [hwire] using hm
  obtain ⟨x, b, k, hx, hsettle⟩ := CountKept.collectorRel.settle_around s
  rw [hwire] at hsettle
  have haccept : CountKept (x.incF FLT_COUNT.COUNT 1) (acceptMsg m (b && 0 = k) x) := CountKept.collectorRel.acceptMsg m _ hm x
  have hcount : (x.incF FLT_COUNT.COUNT 1).getF FLT_COUNT.COUNT = min (2 ^ 32 - 1) (s.getF FLT_COUNT.COUNT + 1) := by
    rw [State.incF, State.getF_setF_same _ _ _ (by decide), hx]
    exact Nat.mod_eq_of_lt (by simp only [FLT_COUNT.COUNT]; omega)
  exact ⟨sticky_settle (by simp [hwire]) hw, (hsettle.trans haccept).trans hcount, settle_wire s⟩

/-- A fault message raised in a quiet cycle is its only one. -/
theorem raised_settle_raise {src kind addr : Nat} {s : State} (hq : Quiet s) (hsrc : src < 256) : Raised src s (settle (raise src kind addr s)) := by
  refine raised_settle (m := ⟨src, kind % 16, addr % 2 ^ 32, false, s.getF (FLT_CFG.SEV src), s.getF (FLT_CFG.REACT src)⟩) ?_ hsrc
  show s.flt.wire ++ _ = _
  rw [hq.1, List.nil_append]

end Sys2Proof
end

section
namespace Sys2Proof

open Machine

/-! #### The four statements -/

section

variable {p n phi : Nat} {out : Bool} {s t : State}

theorem dirState_unqueued (p : Nat) (out : Bool) (s : State) : (unqueued p s).getF (dirState out p) = s.getF (dirState out p) := rfl

theorem reqs_unqueued (p : Nat) (s : State) : ((unqueued p s).port p).reqs = [] := by rw [unqueued, port_onPort_same]

theorem port_unqueued_other {q : Nat} (h : q ≠ p) : (unqueued p s).port q = s.port q := port_onPort_other h _ s

theorem unqueued_kept (p : Nat) (s : State) : Kept [.sp] [] [] s (unqueued p s) := (Kept.refl [.sp] [] [] s).onPort _ _

/-- The registers that a start changes are of the page of the ports. -/
theorem page_startRegs (hp : p < 64) : ∀ a ∈ startRegs p, a / 65536 ∈ [5] := by
  simp only [startRegs, List.mem_cons, List.not_mem_nil, or_false, forall_eq_or_imp, forall_eq]
  omega

section

variable (hreg : ∀ a, a ≠ 0x50004 + p * 0x100 → t.reg a = s.reg a)

include hreg

theorem getF_of_beside_enable {x : Fld} (h : x.addr ≠ 0x50004 + p * 0x100) : t.getF x = s.getF x := by
  rw [State.getF, State.getF, hreg _ h]

/-- The converter channels of a start do not depend on its enable. -/
theorem convChans_of_beside_enable (out : Bool) : convChans p out t = convChans p out s := by
  have hconv : t.converted p = s.converted p := by
    rw [State.converted, State.flag, getF_of_beside_enable hreg (by simp only [SP_CFG.MODE]; omega)]
    rfl
  have hchans : t.nchan out p = s.nchan out p := by
    cases out <;> exact getF_of_beside_enable hreg (by simp only [SP_NCH.NIN, SP_NCH.NOUT]; omega)
  rw [convChans, convChans, hconv, hchans]

/-- Nor does the clock that it follows. -/
theorem master_of_beside_enable : t.flag (CG_CFG.DIR (t.cgOf p)) = s.flag (CG_CFG.DIR (s.cgOf p)) := by
  have hgroup : t.cgOf p = s.cgOf p := getF_of_beside_enable hreg (by simp only [SP_CFG.CG]; omega)
  rw [hgroup, State.flag, getF_of_beside_enable hreg (by simp only [CG_CFG.DIR]; omega)]
  rfl

end

/-- A boundary at which no input starts, or only one that no playback ring feeds (R381). -/
theorem exec_portStartAct (hp : p < 64) (hact : actPort p true phi s = t)
    (hplay : s.istate p = 0 → t.istate p = 1 → t.flag (SP_CFG.INSRC p) = false) : exec (.portStartAct p phi []) s = finish t := by
  have hblock : (if s.istate p = 0 ∧ t.istate p = 1 then playBlock p (t.getF (SP_BSEQ.COUNT p)) [] t else t) = t := by
    split_ifs with h
    · exact if_neg (by simp [hplay h.1 h.2])
    · rfl
  show finish (if p < 64 then _ else s) = _
  rw [if_pos hp]
  simp only [hact, hblock]

end

/-- What a start finds when its direction begins to run: its enable, its claim and the block sequence are there (R367, R369). -/
structure Prepared (p : Nat) (out : Bool) (s u : State) : Prop where
  kept : Kept [.sp, .pin] [] (startRegs p) s u
  enabled : u.flag (dirField out p) = true
  claimed : u.pinClaim (dirBall out p) = some ⟨1, p⟩
  reqs : (u.port p).reqs = []
  others : ∀ q, q ≠ p → u.port q = s.port q
  state : ∀ d, u.getF (dirState d p) = s.getF (dirState d p)
  fresh : s.istate p = 0 → s.ostate p = 0 → u.getF (SP_BSEQ.COUNT p) = 0

theorem prepared_startPrepared (p : Nat) (out : Bool) (phi : Nat) (s : State) : Prepared p out s (startPrepared p out phi (unqueued p s)) where
  kept := ((unqueued_kept p s).mono (by simp) (by simp) (by simp)).trans (startPrepared_kept p out phi _)
  enabled := flag_dirField_startPrepared p out phi _
  claimed := pinClaim_startPrepared p out phi _
  reqs := (reqs_startPrepared p out phi _).trans (reqs_unqueued p s)
  others q h := (port_startPrepared_other p out phi _ h).trans (port_unqueued_other h)
  state d := (dirState_startPrepared p out phi _ d).trans (dirState_unqueued p d s)
  fresh := getF_bseq_startPrepared p out phi (unqueued p s)

/-- A start that is due and passes its checks runs its direction once it is prepared. -/
theorem actPort_of_free {p n phi : Nat} {out : Bool} {s : State} (hreq : (s.port p).reqs = [⟨out, true, some n, none⟩]) (hdue : n ≤ s.shot)
    (hstate : s.getF (dirState out p) = 0) (hcheck : startCheck p out s = 0) (hball : out = true ∨ s.getF (SP_CFG.INSRC p) = 0) :
    ∃ u, Prepared p out s u ∧ actPort p true phi s =
      if out then outputStarted p (convChans p out s) (s.flag (CG_CFG.DIR (s.cgOf p))) u
      else inputStarted p (convChans p out s) (s.flag (CG_CFG.DIR (s.cgOf p))) u := by
  have hreg : ∀ a, a ≠ 0x50004 + p * 0x100 → (claimedStart p out (unqueued p s)).reg a = s.reg a :=
    fun _ => reg_claimedStart_other p out (unqueued p s)
  have hstart := startDir_of_free (phi := phi) ((dirState_unqueued p out s).trans hstate) (startCheck_unqueued_ok hcheck) hball
  rw [convChans_of_beside_enable hreg, master_of_beside_enable hreg] at hstart
  exact ⟨_, prepared_startPrepared p out phi s, (actPort_of_due hreq hdue).trans ((if_pos rfl).trans hstart)⟩

theorem insrc_of_kept {p : Nat} {ps : List Part} {s t : State} (h : Kept ps [] (startRegs p) s t) :
    t.getF (SP_CFG.INSRC p) = s.getF (SP_CFG.INSRC p) := by
  rw [State.getF, State.getF, h.reg_of_notMem (by simp [startRegs, SP_CFG.INSRC])]

/-- An input that starts at its boundary (R359, R369, R371). -/
theorem inputStartsAtBoundary (p phi n : Nat) (s : State) (hq : Quiet s) (hp : p < 64)
    (hreq : (s.port p).reqs = [⟨false, true, some n, none⟩]) (hdue : n ≤ s.shot) (hstate : s.istate p = 0) (hcheck : startCheck p false s = 0)
    (hsrc : s.getF (SP_CFG.INSRC p) = 0) : ∃ t, exec (.portStartAct p phi []) s = .next t
      ∧ t.istate p = 1 ∧ t.flag (SP_CTRL.IN_EN p) = true ∧ t.pinClaim p = some ⟨1, p⟩ ∧ (t.port p).reqs = []
      ∧ ((t.port p).asrcIn = (if s.converted p then s.nchan false p else 0)) ∧ (t.port p).lockIn = s.flag (CG_CFG.DIR (s.cgOf p))
      ∧ (t.port p).inq = List.replicate (inLead p t) (missingFrame p 1 t) ∧ ((s.ostate p = 0 → t.getF (SP_BSEQ.COUNT p) = 0))
      ∧ (∀ q, q ≠ p → t.port q = s.port q) ∧ Kept [.sp, .pin, .cs] [5] [] s t := by
  obtain ⟨u, hu, hact⟩ := actPort_of_free (phi := phi) hreq hdue hstate hcheck (.inr hsrc)
  rw [if_neg Bool.false_ne_true] at hact
  obtain ⟨t, ht⟩ : ∃ t, inputStarted p (convChans p false s) (s.flag (CG_CFG.DIR (s.cgOf p))) u = t := ⟨_, rfl⟩
  have hkept : Kept [.sp, .pin, .cs] [] (startRegs p) s t := by
    rw [← ht]
    exact (hu.kept.mono (by simp) (by simp) (by simp)).trans ((inputStarted_kept ..).mono (by simp) (by simp) (by simp))
  have hbeside : ∀ x : Fld, x.addr ≠ 0x50008 + p * 0x100 → t.getF x = u.getF x := fun x h => by
    rw [← ht, State.getF, State.getF, reg_inputStarted _ _ _ _ h]
  have hport := port_inputStarted p (convChans p false s) (s.flag (CG_CFG.DIR (s.cgOf p))) u
  have hlead := inq_inputStarted p (convChans p false s) (s.flag (CG_CFG.DIR (s.cgOf p))) u
  rw [ht] at hact hport hlead
  refine ⟨t, (exec_portStartAct hp hact fun _ _ => ?_).trans (finish_of_quiet (hkept.quiet (by decide) hq)), ?_, ?_, ?_, ?_, ?_, ?_,
    hlead, fun hout => ?_, fun q hne => ?_, hkept.byPage (page_startRegs hp)⟩
  · rw [State.flag, insrc_of_kept hkept, hsrc]
    rfl
  · rw [← ht]
    exact (dirState_inputStarted _ _ _ _ false).trans (if_pos rfl)
  · rw [State.flag, hbeside _ (by simp only [SP_CTRL.IN_EN]; omega)]
    exact hu.enabled
  · rw [← ht, pinClaim_inputStarted]
    exact hu.claimed
  · rw [hport, inputBegun, hu.reqs]
  · rw [hport, inputBegun, convChans]
  · rw [hport, inputBegun]
  · rw [hbeside _ (by simp only [SP_BSEQ.COUNT]; omega)]
    exact hu.fresh hstate hout
  · rw [← ht, port_inputStarted_other _ _ _ _ hne, hu.others q hne]

/-- An output that starts at its boundary (R359, R369, R372). -/
theorem outputStartsAtBoundary (p phi n : Nat) (s : State) (hq : Quiet s) (hp : p < 64)
    (hreq : (s.port p).reqs = [⟨true, true, some n, none⟩]) (hdue : n ≤ s.shot) (hstate : s.ostate p = 0) (hcheck : startCheck p true s = 0) :
    ∃ t, exec (.portStartAct p phi []) s = .next t
      ∧ t.ostate p = 1 ∧ t.flag (SP_CTRL.OUT_EN p) = true ∧ t.pinClaim (64 + p) = some ⟨1, p⟩ ∧ (t.port p).reqs = []
      ∧ ((t.port p).asrcOut = (if s.converted p then s.nchan true p else 0)) ∧ (t.port p).outLead = outLeadOf p t ∧ t.istate p = s.istate p
      ∧ (∀ q, q ≠ p → t.port q = s.port q) ∧ Kept [.sp, .pin, .cs] [5] [] s t := by
  obtain ⟨u, hu, hact⟩ := actPort_of_free (phi := phi) hreq hdue hstate hcheck (.inl rfl)
  rw [if_pos rfl] at hact
  obtain ⟨t, ht⟩ : ∃ t, outputStarted p (convChans p true s) (s.flag (CG_CFG.DIR (s.cgOf p))) u = t := ⟨_, rfl⟩
  have hkept : Kept [.sp, .pin, .cs] [] (startRegs p) s t := by
    rw [← ht]
    exact (hu.kept.mono (by simp) (by simp) (by simp)).trans ((outputStarted_kept ..).mono (by simp) (by simp) (by simp))
  have hstates := dirState_outputStarted p (convChans p true s) (s.flag (CG_CFG.DIR (s.cgOf p))) u
  have hreqs := reqs_outputStarted p (convChans p true s) (s.flag (CG_CFG.DIR (s.cgOf p))) u
  have hchans := asrcOut_outputStarted p (convChans p true s) (s.flag (CG_CFG.DIR (s.cgOf p))) u
  have hlead := outLead_outputStarted p (convChans p true s) (s.flag (CG_CFG.DIR (s.cgOf p))) u hp
  rw [ht] at hact hstates hreqs hchans hlead
  have hinput : t.istate p = s.istate p := ((hstates false).trans (if_neg Bool.false_ne_true)).trans (hu.state false)
  refine ⟨t, (exec_portStartAct hp hact fun hoff hon => ?_).trans (finish_of_quiet (hkept.quiet (by decide) hq)),
    (hstates true).trans (if_pos rfl), ?_, ?_, hreqs.trans hu.reqs, hchans, hlead, hinput, fun q hne => ?_, hkept.byPage (page_startRegs hp)⟩
  · exact absurd (hoff.symm.trans (hinput.symm.trans hon)) (by decide)
  · rw [State.flag, State.getF, ← ht, reg_outputStarted _ _ _ _ (by simp only [SP_CTRL.OUT_EN]; omega)]
    exact hu.enabled
  · rw [← ht, pinClaim_outputStarted]
    exact hu.claimed
  · rw [← ht, port_outputStarted_other _ _ _ _ hne, hu.others q hne]

end Sys2Proof
end

section
namespace Sys2Proof

open Machine

/-- A start that meets a claimed pin leaves its direction off, says so, and changes nothing else (R369). -/
theorem startDir_of_conflict {p phi : Nat} {out : Bool} {s : State} (hstate : s.getF (dirState out p) = 0) (hcheck : startCheck p out s = 6) :
    startDir p out phi s = raise 0x02 0 (dirBall out p) (s.setF (dirField out p) 0) := by
  have hstopped : ¬(if out then s.ostate p else s.istate p) ≠ 0 := by
    cases out <;> exact not_not.2 hstate
  rw [startDir]
  refine (if_neg hstopped).trans ?_
  simp only [hcheck]
  rfl

/-- A direction whose start meets a claimed pin, without its request and with its enable reading 0. -/
def refusedStart (p : Nat) (out : Bool) (s : State) : State := (unqueued p s).setF (dirField out p) 0

theorem getF_refusedStart_other {p : Nat} {out : Bool} {s : State} {x : Fld} (h : x.addr ≠ 0x50004 + p * 0x100) :
    (refusedStart p out s).getF x = s.getF x := State.getF_setF_other (unqueued p s) _ _ _ (by rw [dirField_addr]; exact h)

theorem getF_refusedStart (p : Nat) (out : Bool) (s : State) : (refusedStart p out s).getF (dirField out p) = 0 := by
  rw [refusedStart, State.getF_setF_same _ _ _ (by cases out <;> exact Nat.le_of_ble_eq_true rfl), Nat.zero_mod]

theorem refusedStart_kept (p : Nat) (out : Bool) (s : State) : Kept [.sp] [] [0x50004 + p * 0x100] s (refusedStart p out s) :=
  ((Kept.refl [.sp] [] [0x50004 + p * 0x100] s).onPort _ _).setF _ _ (.inr (by rw [dirField_addr]; exact List.mem_singleton_self _))

/-- A start that meets a claimed pin (R369). -/
theorem startMeetsClaimedPin (p phi n : Nat) (out : Bool) (s : State) (hq : Quiet s) (hp : p < 64)
    (hreq : (s.port p).reqs = [⟨out, true, some n, none⟩]) (hdue : n ≤ s.shot) (hstate : (if out then s.ostate p else s.istate p) = 0)
    (hcheck : startCheck p out s = 6) : ∃ t, exec (.portStartAct p phi []) s = .next t
      ∧ t.istate p = s.istate p ∧ t.ostate p = s.ostate p ∧ t.getF (dirField out p) = 0 ∧ (t.port p).reqs = [] ∧ t.pin = s.pin
      ∧ Raised 0x02 s t := by
  have hdir : s.getF (dirState out p) = 0 := by
    cases out <;> exact hstate
  have hrefused := refusedStart_kept p out s
  have hquiet : Quiet (refusedStart p out s) := hrefused.quiet (by decide) hq
  obtain ⟨v, hv⟩ : ∃ v, raise 0x02 0 (dirBall out p) (refusedStart p out s) = v := ⟨_, rfl⟩
  have hact : actPort p true phi s = v := by
    rw [actPort_of_due hreq hdue, if_pos rfl, ← hv]
    exact startDir_of_conflict hdir (startCheck_unqueued_conflict hcheck)
  have hraise : Kept acceptParts acceptPages [] (refusedStart p out s) v := hv ▸ (Kept.refl _ _ _ _).raise 0x02 0 _ (by decide)
  have hkept : Kept acceptParts acceptPages [] (refusedStart p out s) (settle v) := hraise.settle (by rw [← hv]; simp [raise, hquiet.1])
  have hread : ∀ x : Fld, x.addr / 65536 = 5 → (settle v).getF x = (refusedStart p out s).getF x := fun x h =>
    hkept.getF x (by rw [h]; decide) (by simp) (fun hm => by simp only [mgmtTx, List.mem_cons, List.not_mem_nil, or_false] at hm; omega)
  have hstates : ∀ d, (settle v).getF (dirState d p) = s.getF (dirState d p) := fun d =>
    (hread _ (by rw [dirState_addr]; omega)).trans (getF_refusedStart_other (by rw [dirState_addr]; omega))
  have hport : ((settle v).port p).reqs = [] := by
    rw [hkept.port p (by decide), refusedStart, port_setF, reqs_unqueued]
  have hcount : (refusedStart p out s).getF FLT_COUNT.COUNT = s.getF FLT_COUNT.COUNT :=
    getF_refusedStart_other (by simp only [FLT_COUNT.COUNT]; omega)
  obtain ⟨hsticky, hone, hend⟩ := raised_settle_raise (src := 0x02) (kind := 0) (addr := dirBall out p) hquiet (by decide)
  rw [hv] at hsticky hone hend
  refine ⟨settle v, exec_portStartAct hp hact fun hoff hon => ?_, hstates false, hstates true, ?_, hport,
    (hkept.part .pin (by decide)).trans (hrefused.part .pin (by decide)), hsticky, hone.trans (by rw [hcount]), hend⟩
  · have hstay : v.istate p = s.istate p := by
      rw [← hv]
      exact getF_refusedStart_other (x := SP_STAT.ISTATE p) (by simp only [SP_STAT.ISTATE]; omega)
    exact absurd (hoff.symm.trans (hstay.symm.trans hon)) (by decide)
  · rw [hread _ (by rw [dirField_addr]; omega), getF_refusedStart]

/-- Port `p` with one direction stopped at its boundary (R373). -/
def stoppedAtBoundary (p : Nat) (out : Bool) (s : State) : State :=
  showLock p (idled out p (releasePin (dirBall out p) (onPort p (dirStopped out)
    (((unqueued p s).setF (dirField out p) 0).setF (dirState out p) 0))))

theorem reg_idled (out : Bool) (p : Nat) (s : State) (a : Nat) : (idled out p s).reg a = s.reg a := by cases out <;> rfl

theorem port_idled (out : Bool) (p q : Nat) (s : State) : (idled out p s).port q = s.port q := by cases out <;> rfl

theorem pinClaim_idled (out : Bool) (p i : Nat) (s : State) : (idled out p s).pinClaim i = s.pinClaim i := by cases out <;> rfl

theorem getF_idled (out : Bool) (p : Nat) (s : State) (x : Fld) : (idled out p s).getF x = s.getF x := by cases out <;> rfl

theorem Kept.idled {ps : List Part} {pg as : List Nat} {s t : State} (out : Bool) (p : Nat) (h : Kept ps pg as s t) (hp : .outs ∈ ps := by decide) :
    Kept ps pg as s (Sys2Proof.idled out p t) := by
  cases out with
  | false => exact h
  | true => exact h.out _ hp

theorem reg_releasePin (i : Nat) (s : State) (a : Nat) : (releasePin i s).reg a = s.reg a := rfl

theorem getF_releasePin (i : Nat) (s : State) (x : Fld) : (releasePin i s).getF x = s.getF x := rfl

theorem port_releasePin (i : Nat) (s : State) (q : Nat) : (releasePin i s).port q = s.port q := rfl

theorem Kept.releasePin {ps : List Part} {pg as : List Nat} {s t : State} (i : Nat) (h : Kept ps pg as s t) (hp : .pin ∈ ps := by decide) :
    Kept ps pg as s (Machine.releasePin i t) := h.onPin _ hp

section

variable (p : Nat) (out : Bool) (s : State)

theorem actPort_stop {n : Nat} (hreq : (s.port p).reqs = [⟨out, false, some n, none⟩]) (hdue : n ≤ s.shot)
    (hstate : s.getF (dirState out p) ≠ 0) : actPort p false 0 s = stoppedAtBoundary p out s := by
  have hen : enAfterStop out p (unqueued p s) = 0 := by
    rw [enAfterStop, reqs_unqueued]
    rfl
  rw [actPort_of_due hreq hdue, if_neg Bool.false_ne_true, stopDir_of_started p out (unqueued p s) hstate, hen]
  rfl

theorem stoppedAtBoundary_kept :
    Kept [.sp, .pin, .outs] [] [0x50004 + p * 0x100, 0x50008 + p * 0x100] s (stoppedAtBoundary p out s) := by
  have hset := (((Kept.refl [.sp, .pin, .outs] [] [0x50004 + p * 0x100, 0x50008 + p * 0x100] s).onPort p fun u => { u with reqs := [] }).setF
    (dirField out p) 0 (.inr (by rw [dirField_addr]; simp))).setF (dirState out p) 0 (.inr (by rw [dirState_addr]; simp))
  exact (((hset.onPort p (dirStopped out)).releasePin _).idled out p).showLock p

theorem port_stoppedAtBoundary : (stoppedAtBoundary p out s).port p = dirStopped out { s.port p with reqs := [] } := by
  rw [stoppedAtBoundary, port_showLock, port_idled, port_releasePin, port_onPort_same, port_setF, port_setF, unqueued, port_onPort_same]

theorem port_stoppedAtBoundary_other {q : Nat} (h : q ≠ p) : (stoppedAtBoundary p out s).port q = s.port q := by
  rw [stoppedAtBoundary, port_showLock, port_idled, port_releasePin, port_onPort_other h, port_setF, port_setF, port_unqueued_other h]

theorem pinClaim_stoppedAtBoundary : (stoppedAtBoundary p out s).pinClaim (dirBall out p) = none := by
  rw [stoppedAtBoundary, pinClaim_showLock, pinClaim_idled, pinClaim_releasePin, if_pos rfl]

theorem dirState_stoppedAtBoundary (d : Bool) :
    (stoppedAtBoundary p out s).getF (dirState d p) = if d = out then 0 else s.getF (dirState d p) := by
  have hset : (((unqueued p s).setF (dirField out p) 0).setF (dirState out p) 0).getF (dirState d p) =
      if d = out then 0 else s.getF (dirState d p) := by
    rw [dirState_setF, Nat.zero_mod, State.getF_setF_other (unqueued p s) _ _ _ (by rw [dirField_addr, dirState_addr]; omega),
      dirState_unqueued]
  rw [stoppedAtBoundary, dirState_showLock, getF_idled, getF_releasePin, getF_onPort, hset]

theorem getF_dirField_stoppedAtBoundary : (stoppedAtBoundary p out s).getF (dirField out p) = 0 := by
  rw [stoppedAtBoundary, State.getF, reg_showLock _ (by rw [dirField_addr]; omega), reg_idled, reg_releasePin, reg_onPort,
    State.reg_setF_other _ _ _ _ (by rw [dirField_addr, dirState_addr]; omega)]
  exact getF_refusedStart p out s

end

/-- A direction that stops at its boundary (R373). -/
theorem directionStopsAtBoundary (p n : Nat) (out : Bool) (s : State) (hq : Quiet s) (hp : p < 64)
    (hreq : (s.port p).reqs = [⟨out, false, some n, none⟩]) (hdue : n ≤ s.shot) (hstate : (if out then s.ostate p else s.istate p) ≠ 0) :
    ∃ t, exec (.portStopAct p) s = .next t
      ∧ ((if out then t.ostate p else t.istate p) = 0) ∧ ((if out then t.istate p = s.istate p else t.ostate p = s.ostate p))
      ∧ t.getF (dirField out p) = 0 ∧ (t.pinClaim (if out then 64 + p else p) = none)
      ∧ ((if out then (t.port p).asrcOut else (t.port p).asrcIn) = 0) ∧ (t.port p).reqs = []
      ∧ (∀ q, q ≠ p → t.port q = s.port q) ∧ Kept [.sp, .pin, .outs] [5] [] s t := by
  have hdir : s.getF (dirState out p) ≠ 0 := by
    cases out <;> exact hstate
  have hact := actPort_stop p out s hreq hdue hdir
  have hport := port_stoppedAtBoundary p out s
  have hown : (stoppedAtBoundary p out s).getF (dirState out p) = 0 := (dirState_stoppedAtBoundary p out s out).trans (if_pos rfl)
  have hother : (stoppedAtBoundary p out s).getF (dirState (!out) p) = s.getF (dirState (!out) p) :=
    (dirState_stoppedAtBoundary p out s (!out)).trans (if_neg (by simp))
  have hkept := stoppedAtBoundary_kept p out s
  have hen := getF_dirField_stoppedAtBoundary p out s
  have hclaim := pinClaim_stoppedAtBoundary p out s
  have hothers : ∀ q, q ≠ p → (stoppedAtBoundary p out s).port q = s.port q := fun _ => port_stoppedAtBoundary_other p out s
  generalize stoppedAtBoundary p out s = t at hact hport hown hother hkept hen hclaim hothers
  have hexec : exec (.portStopAct p) s = .next t := by
    show finish (if p < 64 then _ else s) = _
    rw [if_pos hp, hact, finish_of_quiet (hkept.quiet (by decide) hq)]
  have hframe := hkept.byPage (pg := [5]) (by simp only [List.mem_cons, List.not_mem_nil, or_false, forall_eq_or_imp, forall_eq]; omega)
  refine ⟨t, hexec, ?_, ?_, hen, hclaim, ?_, ?_, hothers, hframe⟩
  · cases out with
    | false => exact (if_neg Bool.false_ne_true).trans hown
    | true => exact (if_pos rfl).trans hown
  · cases out <;> exact hother
  · rw [hport]
    cases out <;> rfl
  · rw [hport]
    cases out <;> rfl

/-- Settles O43, clause by clause: a start that is due either runs a prepared direction or raises its pin's conflict, and a stop undoes what
a start claimed. -/
theorem serialStartsAndStops : Obligations.SerialStartsAndStops :=
  ⟨fun p phi n s => inputStartsAtBoundary p phi n s, fun p phi n s => outputStartsAtBoundary p phi n s,
    fun p phi n out s => startMeetsClaimedPin p phi n out s, fun p n out s => directionStopsAtBoundary p n out s⟩

end Sys2Proof
end

section
/-! ### What may follow from a source of the clock that comes or goes (R491, R541) -/

namespace Sys2Proof

open Machine

/-- A step that changes `ps`, the pages `pg` and the registers `as`, takes no message of the cycle back and sends none from a source
beyond 8 bits. -/
structure Reports (ps : List Part) (pg as : List Nat) (s t : State) : Prop where
  kept : Kept ps pg as s t
  fits : SourcesFit s → SourcesFit t
  sent : ∀ m ∈ s.flt.wire, m ∈ t.flt.wire

namespace Reports

variable {ps : List Part} {pg as : List Nat} {s t u : State}

theorem refl (ps : List Part) (pg as : List Nat) (s : State) : Reports ps pg as s s := ⟨.refl _ _ _ _, id, fun _ => id⟩

theorem trans (h : Reports ps pg as s t) (k : Reports ps pg as t u) : Reports ps pg as s u :=
  ⟨h.kept.trans k.kept, k.fits ∘ h.fits, fun m hm => k.sent m (h.sent m hm)⟩

theorem mono {ps' : List Part} {pg' as' : List Nat} (h : Reports ps pg as s t) (hp : ps ⊆ ps') (hg : pg ⊆ pg') (ha : as ⊆ as') :
    Reports ps' pg' as' s t := ⟨h.kept.mono hp hg ha, h.fits, h.sent⟩

/-- A step that leaves the messages as they are. -/
theorem silent (h : Reports ps pg as s t) (k : Kept ps pg as t u) (hf : u.flt = t.flt) : Reports ps pg as s u :=
  h.trans ⟨k, fun ht => ht.congr hf, fun m hm => by rwa [hf]⟩

theorem setF {f : Fld} {v : Nat} (h : Reports ps pg as s t) (ha : f.addr / 65536 ∈ pg ∨ f.addr ∈ as := by decide) :
    Reports ps pg as s (t.setF f v) := h.silent ((Kept.refl _ _ _ t).setF f v ha) rfl

theorem incF {f : Fld} {n : Nat} (h : Reports ps pg as s t) (ha : f.addr / 65536 ∈ pg ∨ f.addr ∈ as := by decide) :
    Reports ps pg as s (t.incF f n) := h.setF ha

theorem raise {src kind addr : Nat} (h : Reports ps pg as s t) (hsrc : src < 256 := by decide) (hp : .flt ∈ ps := by decide) :
    Reports ps pg as s (Machine.raise src kind addr t) :=
  h.trans ⟨(Kept.refl _ _ _ t).raise _ _ _ hp, fun ht => ht.raise hsrc _ _, fun _ hm => List.mem_append_left _ hm⟩

theorem logEvent {code : Nat} {p : List Nat} (h : Reports ps pg as s t) (hp : .flt ∈ ps := by decide) :
    Reports ps pg as s (Machine.logEvent code p t) :=
  h.trans ⟨(Kept.refl _ _ _ t).logEvent _ _ hp, fun ht => ht, fun _ => id⟩

theorem ite {c : Prop} [Decidable c] {x y : State} (hx : Reports ps pg as s x) (hy : Reports ps pg as s y) :
    Reports ps pg as s (if c then x else y) := by
  split
  · exact hx
  · exact hy

theorem foldl {α : Type} {f : State → α → State} {l : List α} (hf : ∀ x ∈ l, ∀ t, Reports ps pg as t (f t x)) (h : Reports ps pg as s t) :
    Reports ps pg as s (l.foldl f t) := by
  induction l generalizing t with
  | nil => exact h
  | cons x l ih => exact ih (fun y hy => hf y (List.mem_cons_of_mem _ hy)) (h.trans (hf x List.mem_cons_self t))

theorem notify {code : Nat} {p : List Nat} (h : Reports ps pg as s t) (hc : .cmd ∈ ps := by decide) (ho : .outs ∈ ps := by decide)
    (hg : 0xD ∈ pg := by decide) : Reports ps pg as s (Machine.notify code p t) :=
  Reports.silent h ((Kept.refl _ _ _ t).notify _ _ hc ho hg)
    (((Kept.refl [.cmd, .outs] [0xD] [] t).notify code p).part .flt (by decide))

/-- The end of the cycle behind such a step. -/
theorem settled (h : Reports ps pg as s t) (hs : SourcesFit s) : Kept (acceptParts ++ ps) (acceptPages ++ pg) as s (settle t) :=
  (h.kept.mono (List.subset_append_right _ _) (List.subset_append_right _ _) (List.Subset.refl _)).trans
    (((Kept.refl _ _ _ t).settle (h.fits hs)).mono (List.subset_append_left _ _) (List.subset_append_left _ _) (List.nil_subset _))

/-- A message that stands in the cycle before such a step is accepted at the cycle's end. -/
theorem sticky (h : Reports ps pg as s t) (hs : SourcesFit s) {m : Msg} (hm : m ∈ s.flt.wire) :
    bitOf ((settle t).getF (FLT_STICKY.BITS (m.src / 32))) (m.src % 32) = true := sticky_settle (h.sent m hm) (h.fits hs)

end Reports

/-! #### The clock unit and the servo -/

/-- Parts that the clock unit and the servo of the ordinary clock change, with what they send. -/
def clockParts : List Part := [.clk, .ptp, .boot, .flt, .free, .cmd, .outs]

/-- The clock unit and the servo change themselves, and send. -/
def ClockReacts (s t : State) : Prop := Reports clockParts [1, 2, 0xD] [] s t

namespace ClockReacts

variable {s t : State}

theorem setF {f : Fld} {v : Nat} (h : ClockReacts s t) (ha : f.addr / 65536 ∈ [1, 2, 0xD] := by decide) : ClockReacts s (t.setF f v) :=
  Reports.setF h (.inl ha)

theorem incF {f : Fld} {n : Nat} (h : ClockReacts s t) (ha : f.addr / 65536 ∈ [1, 2, 0xD] := by decide) : ClockReacts s (t.incF f n) :=
  h.setF ha

theorem raise {src kind addr : Nat} (h : ClockReacts s t) (hsrc : src < 256 := by decide) : ClockReacts s (Machine.raise src kind addr t) :=
  Reports.raise h hsrc

theorem logEvent {code : Nat} {p : List Nat} (h : ClockReacts s t) : ClockReacts s (Machine.logEvent code p t) := Reports.logEvent h

theorem notify {code : Nat} {p : List Nat} (h : ClockReacts s t) : ClockReacts s (Machine.notify code p t) := Reports.notify h

theorem ite {c : Prop} [Decidable c] {x y : State} (hx : ClockReacts s x) (hy : ClockReacts s y) : ClockReacts s (if c then x else y) :=
  Reports.ite hx hy

theorem foldl {α : Type} {f : State → α → State} {l : List α} (h : ClockReacts s t) (hf : ∀ x ∈ l, ∀ {t}, ClockReacts s t → ClockReacts s (f t x)) :
    ClockReacts s (l.foldl f t) := by
  induction l generalizing t with
  | nil => exact h
  | cons x l ih => exact ih (hf x List.mem_cons_self h) fun y hy => hf y (List.mem_cons_of_mem _ hy)

theorem onClk {f : ClkU → ClkU} (h : ClockReacts s t) : ClockReacts s (t.onClk f) :=
  Reports.silent h ((Kept.refl _ _ _ t).onClk f) rfl

theorem onPtp {f : PtpU → PtpU} (h : ClockReacts s t) : ClockReacts s (t.onPtp f) :=
  Reports.silent h ((Kept.refl _ _ _ t).onPtp f) rfl

theorem onBoot {f : BootU → BootU} (h : ClockReacts s t) : ClockReacts s (t.onBoot f) :=
  Reports.silent h ((Kept.refl _ _ _ t).onBoot f) rfl

theorem onFree {f : Nat → Nat} (h : ClockReacts s t) : ClockReacts s (t.onFree f) :=
  Reports.silent h ((Kept.refl _ _ _ t).onFree f) rfl

theorem raiseOpen {src : Nat} (h : ClockReacts s t) (hsrc : src < 256 := by decide) : ClockReacts s (Machine.raiseOpen src t) :=
  h.onFree.raise hsrc

/-- A field of the registers of a candidate. -/
theorem setCand {k lsb width v : Nat} (d : Nat) (hd : d < 0x1000) (h : ClockReacts s t) (hk : k ≤ 11) :
    ClockReacts s (t.setF ⟨0x10000 + d + k * 0x10, lsb, width⟩ v) := h.setF (by simp; omega)

theorem setInc {i : Nat} (h : ClockReacts s t) : ClockReacts s (Machine.setInc i t) := h.setF.setF

theorem setClk {state sel : Nat} (h : ClockReacts s t) : ClockReacts s (Machine.setClk state sel t) := by
  unfold Machine.setClk
  have hshown := h.onBoot (f := fun u => { u with clkCond := clkHold t }) |>.setF (f := CLK_STAT.STATE) (v := state) |>.setF
    (f := CLK_STAT.SEL) (v := sel)
  have hloop : ∀ {x}, ClockReacts s x → ClockReacts s (if t.csel = 5 ∧ sel ≠ 5 then Machine.setInc incNominal x else x) :=
    fun h => .ite h.setInc h
  have hsecond : ∀ {x}, ClockReacts s x → ClockReacts s (if state = 2 then x else x.onClk fun u => { u with secOk := false }) :=
    fun h => .ite h h.onClk
  exact .ite (hsecond (hloop hshown)) (hsecond (hloop hshown)).logEvent.notify

theorem showQs (h : ClockReacts s t) : ClockReacts s (Machine.showQs t) :=
  h.foldl fun _ hk _ h => h.setCand 0x104 (by decide) (Nat.le_of_lt_succ (List.mem_range.1 hk))

theorem cancelWtr (h : ClockReacts s t) : ClockReacts s (Machine.cancelWtr t) := h.setF.setF

theorem startSwitch {k : Nat} (h : ClockReacts s t) : ClockReacts s (Machine.startSwitch k t) := h.setF.cancelWtr.onClk

theorem clampSteer {x : Int} (h : ClockReacts s t) : ClockReacts s (Machine.clampSteer x t).2 := by
  unfold Machine.clampSteer
  dsimp only
  split
  · exact h.setF
  · exact ite h h.setF.raiseOpen

theorem evalHold (h : ClockReacts s t) : ClockReacts s (Machine.evalHold t) := by
  unfold Machine.evalHold
  exact h.clampSteer.onClk

theorem latchHold (h : ClockReacts s t) : ClockReacts s (Machine.latchHold t) := by
  unfold Machine.latchHold
  exact h.setF.setF.onClk

theorem leaveSel (h : ClockReacts s t) : ClockReacts s (Machine.leaveSel t) :=
  have hleft := h.cancelWtr.setF (f := CLK_STAT.ALIGNING) (v := 0)
  .ite hleft.setF.latchHold.evalHold.setClk.raiseOpen hleft.setClk

theorem reselect (h : ClockReacts s t) : ClockReacts s (Machine.reselect t) := by
  unfold Machine.reselect
  have hq := h.showQs
  generalize Machine.showQs t = u at hq
  refine .ite hq (.ite (.ite hq.startSwitch hq.cancelWtr) (.ite ?_ ?_))
  · exact .ite (.ite hq hq.cancelWtr.setF.setClk) (.ite (.ite hq.cancelWtr hq.startSwitch) (.ite hq.leaveSel hq))
  · split
    · exact hq.cancelWtr
    · exact .ite hq.startSwitch (.ite hq.cancelWtr (.ite hq hq.setF.setF))

theorem dropCand {k : Nat} (h : ClockReacts s t) : ClockReacts s (Machine.dropCand k t) :=
  .ite h.leaveSel.reselect (.ite h.setF.onClk.reselect h.reselect)

section

variable {k : Nat} (h : ClockReacts s t) (hk : k ≤ 11)
include h hk

theorem startQual : ClockReacts s (Machine.startQual k t) :=
  .ite ((h.setCand 0x104 (by decide) hk).setCand 0x104 (by decide) hk) h

theorem qualify : ClockReacts s (Machine.qualify k t) :=
  .ite ((h.setCand 0x104 (by decide) hk).setCand 0x104 (by decide) hk) h

theorem disqualify : ClockReacts s (Machine.disqualify k t) := by
  have hshown := (h.setCand (lsb := 31) (width := 1) (v := 0) 0x104 (by decide) hk).setCand (lsb := 29) (width := 1) (v := 0) 0x104 (by decide) hk
  have hothers := hshown.foldl (f := fun s j => Machine.qualify j s) (l := List.range 12) fun _ hj _ h =>
    h.qualify (Nat.le_of_lt_succ (List.mem_range.1 hj))
  exact (((hothers.setCand 0x10C (by decide) hk).raise).startQual hk).dropCand

theorem beginActivity {adv : Nat} : ClockReacts s (Machine.beginActivity k adv t) :=
  .ite (((h.setCand 0x104 (by decide) hk).onClk).startQual hk).showQs h

theorem endActivity : ClockReacts s (Machine.endActivity k t) :=
  have hshown := (((h.setCand (lsb := 30) (width := 1) (v := 0) 0x104 (by decide) hk).setCand (lsb := 0) (width := 32) (v := 0) 0x108
    (by decide) hk).setCand (lsb := 28) (width := 1) (v := 0) 0x104 (by decide) hk)
  .ite (.ite ((hshown.setCand 0x104 (by decide) hk).disqualify hk) (hshown.setCand 0x104 (by decide) hk)) h

end

theorem bufCand (h : ClockReacts s t) : ClockReacts s (Machine.bufCand t) := .ite (h.beginActivity (by decide)) (h.endActivity (by decide))

theorem servoLoss (h : ClockReacts s t) : ClockReacts s (Machine.servoLoss t) :=
  .ite (h.onPtp.setF.onPtp.incF.raiseOpen.endActivity (by decide)) h.onPtp

theorem setPortState {st : Nat} (h : ClockReacts s t) : ClockReacts s (Machine.setPortState st t) := .ite h.setF.servoLoss h.setF

theorem ptpSync (h : ClockReacts s t) : ClockReacts s (Machine.ptpSync t) :=
  .ite (.ite h h.setPortState) (.ite h.setPortState (.ite h.setPortState h))

theorem settled (h : ClockReacts s t) (hs : SourcesFit s) :
    Kept (acceptParts ++ clockParts) (acceptPages ++ [1, 2, 0xD]) [] s (settle t) := Reports.settled h hs

/-- The media network is none of it. -/
theorem net_settled (h : ClockReacts s t) (hs : SourcesFit s) : (settle t).net = s.net := (h.settled hs).part .net (by decide)

theorem getF_settled (h : ClockReacts s t) (hs : SourcesFit s) (f : Fld) (hf : f.addr / 65536 = 6) (hm : f.addr ∉ mgmtTx) :
    (settle t).getF f = s.getF f := (h.settled hs).getF f (hf ▸ by decide) (by simp) hm

theorem flag_settled (h : ClockReacts s t) (hs : SourcesFit s) (f : Fld) (hf : f.addr / 65536 = 6) (hm : f.addr ∉ mgmtTx) :
    (settle t).flag f = s.flag f := by
  rw [State.flag, State.flag, h.getF_settled hs f hf hm]

end ClockReacts

end Sys2Proof
end

section
/-! ### Ports, rings and contexts of the media network, its buffers and its counters -/

namespace Sys2Proof.Machine

/-! #### Ports, rings and contexts -/

@[simp] theorem nport_onNPort_same (p : Nat) (f : NPort → NPort) (s : State) : (onNPort p f s).nport p = f (s.nport p) :=
  smGet_smPut_same _ _ _ _

theorem nport_onNPort_other {p q : Nat} (h : q ≠ p) (f : NPort → NPort) (s : State) : (onNPort p f s).nport q = s.nport q :=
  smGet_smPut_other _ _ _ _ _ h _

@[simp] theorem ctx_onCtx_same (c : Nat) (f : CtxU → CtxU) (s : State) : (onCtx c f s).ctx c = f (s.ctx c) :=
  smGet_smPut_same _ _ _ _

theorem ctx_onCtx_other {c d : Nat} (h : d ≠ c) (f : CtxU → CtxU) (s : State) : (onCtx c f s).ctx d = s.ctx d :=
  smGet_smPut_other _ _ _ _ _ h _

@[simp] theorem nring_onNRing_same (tx : Bool) (r : Nat) (f : NRing → NRing) (s : State) :
    (onNRing tx r f s).nring tx r = f (s.nring tx r) := by
  cases tx <;> exact smGet_smPut_same _ _ _ _

theorem nring_onNRing_other {r q : Nat} (h : q ≠ r) (tx : Bool) (f : NRing → NRing) (s : State) :
    (onNRing tx r f s).nring tx q = s.nring tx q := by
  cases tx <;> exact smGet_smPut_other _ _ _ _ _ h _

theorem ports_onNRing (tx : Bool) (r : Nat) (f : NRing → NRing) (s : State) : (onNRing tx r f s).net.ports = s.net.ports := by
  cases tx <;> rfl

theorem State.setF_net (s : State) (f : Fld) (v : Nat) : (s.setF f v).net = s.net := rfl

theorem State.setF_flt (s : State) (f : Fld) (v : Nat) : (s.setF f v).flt = s.flt := rfl

theorem State.setF_outs (s : State) (f : Fld) (v : Nat) : (s.setF f v).outs = s.outs := rfl

@[simp] theorem nport_setF (s : State) (f : Fld) (v p : Nat) : (s.setF f v).nport p = s.nport p := rfl

@[simp] theorem nport_incF (s : State) (f : Fld) (n p : Nat) : (s.incF f n).nport p = s.nport p := rfl

@[simp] theorem ctx_setF (s : State) (f : Fld) (v c : Nat) : (s.setF f v).ctx c = s.ctx c := rfl

@[simp] theorem getF_onNPort (p : Nat) (g : NPort → NPort) (s : State) (f : Fld) : (onNPort p g s).getF f = s.getF f := rfl

@[simp] theorem flag_onNPort (p : Nat) (g : NPort → NPort) (s : State) (f : Fld) : (onNPort p g s).flag f = s.flag f := rfl

@[simp] theorem getF_onNRing (tx : Bool) (r : Nat) (g : NRing → NRing) (s : State) (f : Fld) : (onNRing tx r g s).getF f = s.getF f := rfl

@[simp] theorem getF_onCtx (c : Nat) (g : CtxU → CtxU) (s : State) (f : Fld) : (onCtx c g s).getF f = s.getF f := rfl

@[simp] theorem State.getF_onCmd (g : CmdU → CmdU) (s : State) (f : Fld) : (s.onCmd g).getF f = s.getF f := rfl

theorem flag_raise (src kind addr : Nat) (s : State) (f : Fld) : (raise src kind addr s).flag f = s.flag f := rfl

theorem raise_net (src kind addr : Nat) (s : State) : (raise src kind addr s).net = s.net := rfl

theorem raise_sends (src kind addr : Nat) (s : State) : ∃ m ∈ (raise src kind addr s).flt.wire, m.src = src :=
  ⟨_, List.mem_append_right _ (List.mem_singleton_self _), rfl⟩

@[simp] theorem getF_dropBufs (l : List Nat) (s : State) (f : Fld) : (dropBufs l s).getF f = s.getF f := rfl

theorem State.nport_congr {s t : State} (h : t.net.ports = s.net.ports) (p : Nat) : t.nport p = s.nport p := by
  rw [State.nport, State.nport, h]

theorem State.ctx_congr {s t : State} (h : t.net.ctx = s.net.ctx) (c : Nat) : t.ctx c = s.ctx c := by
  rw [State.ctx, State.ctx, h]

/-! #### Counters -/

/-- A saturating counter as it reads after it has counted (R12). -/
theorem State.getF_incF_same (s : State) (f : Fld) (n : Nat) (h : f.lsb + f.width ≤ 32) :
    (s.incF f n).getF f = min (2 ^ f.width - 1) (s.getF f + n) := by
  have hpos : 0 < 2 ^ f.width := Nat.two_pow_pos _
  rw [State.incF, State.getF_setF_same s f _ h, Nat.mod_eq_of_lt (by omega)]

/-- A flag reads as the bit that was written to it. -/
theorem State.flag_setF_same (s : State) (f : Fld) (b : Bool) (hl : f.lsb < 32) (hw : f.width = 1) :
    (s.setF f (b2n b)).flag f = b := by
  rw [State.flag, State.getF_setF_same s f _ (by omega), hw]
  cases b <;> rfl

theorem State.flag_setF_one (s : State) (f : Fld) (hl : f.lsb < 32) (hw : f.width = 1) : (s.setF f 1).flag f = true :=
  State.flag_setF_same s f true hl hw

theorem State.flag_setF_zero (s : State) (f : Fld) (hl : f.lsb < 32) (hw : f.width = 1) : (s.setF f 0).flag f = false :=
  State.flag_setF_same s f false hl hw

theorem State.flag_setF_other (s : State) (f g : Fld) (v : Nat) (h : g.addr ≠ f.addr) : (s.setF f v).flag g = s.flag g := by
  rw [State.flag, State.getF_setF_other s f g v h, State.flag]

/-- A flag reads as before a write of another field of its register. -/
theorem State.flag_setF_disjoint (s : State) (f g : Fld) (v : Nat) (hg : g.lsb + g.width ≤ 32)
    (hd : g.lsb + g.width ≤ f.lsb ∨ f.lsb + f.width ≤ g.lsb) : (s.setF f v).flag g = s.flag g := by
  rw [State.flag, State.getF_setF_disjoint s f g v hg hd, State.flag]

/-- A field outside the two registers of a 64-bit counter. -/
theorem State.getF_inc64_other {lo hi f : Fld} {n : Nat} (s : State) (hl : f.addr ≠ lo.addr) (hh : f.addr ≠ hi.addr) :
    (inc64 lo hi n s).getF f = s.getF f :=
  (State.getF_setF_other _ _ _ _ hh).trans (State.getF_setF_other _ _ _ _ hl)

/-- The value of a 64-bit counter in the two words at `a` and `b` (R444). -/
def count64 (a b : Nat) (s : State) : Nat := s.getF ⟨a, 0, 32⟩ + 2 ^ 32 * s.getF ⟨b, 0, 32⟩

theorem count64_inc64 {a b n : Nat} (s : State) (hab : a ≠ b) :
    count64 a b (inc64 ⟨a, 0, 32⟩ ⟨b, 0, 32⟩ n s) = min (2 ^ 64 - 1) (count64 a b s + n) := by
  have hlo : ∀ (x v : Nat) (t : State), (t.setF ⟨x, 0, 32⟩ v).getF ⟨x, 0, 32⟩ = v % 2 ^ 32 := fun x v t =>
    State.getF_setF_same t ⟨x, 0, 32⟩ v (Nat.le_refl 32)
  simp only [count64, inc64]
  rw [State.getF_setF_other _ _ _ _ hab, hlo, hlo]
  omega

theorem count64_congr {a b : Nat} {s t : State} (ha : t.getF ⟨a, 0, 32⟩ = s.getF ⟨a, 0, 32⟩) (hb : t.getF ⟨b, 0, 32⟩ = s.getF ⟨b, 0, 32⟩) :
    count64 a b t = count64 a b s := by rw [count64, count64, ha, hb]

theorem count64_inc64_other {a b c d n : Nat} (s : State) (hac : a ≠ c) (had : a ≠ d) (hbc : b ≠ c) (hbd : b ≠ d) :
    count64 a b (inc64 ⟨c, 0, 32⟩ ⟨d, 0, 32⟩ n s) = count64 a b s :=
  count64_congr (State.getF_inc64_other _ hac had) (State.getF_inc64_other _ hbc hbd)

end Sys2Proof.Machine

namespace Sys2Proof

open Machine

/-! #### Frames -/

section

variable {ps : List Part} {pg as : List Nat} {s t : State}

/-- A field outside a frame that leaves the command interface alone. -/
theorem Kept.getF_off (h : Kept ps pg as s t) (f : Fld) (hg : f.addr / 65536 ∉ pg) (ha : f.addr ∉ as) (hd : 0xD ∉ pg := by decide) :
    t.getF f = s.getF f := by
  rw [State.getF, State.getF, h.reg _ hg ha fun h => absurd h hd]

theorem Kept.flag_off (h : Kept ps pg as s t) (f : Fld) (hg : f.addr / 65536 ∉ pg) (ha : f.addr ∉ as) (hd : 0xD ∉ pg := by decide) :
    t.flag f = s.flag f := by
  rw [State.flag, State.flag, h.getF_off f hg ha hd]

theorem Kept.onNPort (p : Nat) (f : NPort → NPort) (h : Kept ps pg as s t) (hp : .net ∈ ps := by decide) :
    Kept ps pg as s (Machine.onNPort p f t) := h.onNet _ hp

theorem Kept.onNRing (tx : Bool) (r : Nat) (f : NRing → NRing) (h : Kept ps pg as s t) (hp : .net ∈ ps := by decide) :
    Kept ps pg as s (Machine.onNRing tx r f t) := h.onNet _ hp

theorem Kept.onCtx (c : Nat) (f : CtxU → CtxU) (h : Kept ps pg as s t) (hp : .net ∈ ps := by decide) :
    Kept ps pg as s (Machine.onCtx c f t) := h.onNet _ hp

theorem Kept.incCtx (c k n : Nat) (h : Kept ps pg as s t) (hp : .net ∈ ps := by decide) :
    Kept ps pg as s (Machine.incCtx c k n t) := h.onCtx _ _ hp

theorem Kept.dropBufs (l : List Nat) (h : Kept ps pg as s t) (hp : .net ∈ ps := by decide) : Kept ps pg as s (Machine.dropBufs l t) :=
  h.onNet _ hp

theorem Kept.ownBufs (l : List Nat) (own : Nat) (h : Kept ps pg as s t) (hp : .net ∈ ps := by decide) :
    Kept ps pg as s (Machine.ownBufs l own t) := h.onNet _ hp

theorem Kept.inc64 (lo hi : Fld) (n : Nat) (h : Kept ps pg as s t) (hl : lo.addr / 65536 ∈ pg ∨ lo.addr ∈ as := by decide)
    (hh : hi.addr / 65536 ∈ pg ∨ hi.addr ∈ as := by decide) : Kept ps pg as s (Machine.inc64 lo hi n t) := (h.setF _ _ hl).setF _ _ hh

/-- The registers of a port lie in the slot of the media network. -/
theorem portReg_page {p b : Nat} (hp : p < 5) (hb : 0x60000 ≤ b) (hb' : b < 0x60400) : (b + p * 0x400) / 65536 = 6 := by omega

/-- What a port has sent counts in registers of the media network and, on an MP port, of the counters. -/
theorem Kept.countTx {p : Nat} (n : Nat) (h : Kept ps pg as s t) (hp : p < 5) (hg : 6 ∈ pg) (hc : p < 4 → 0xB ∈ pg) :
    Kept ps pg as s (Machine.countTx p n t) := by
  have hpage : ∀ {b}, 0x60000 ≤ b → b < 0x60400 → (b + p * 0x400) / 65536 ∈ pg := fun hb hb' => portReg_page hp hb hb' ▸ hg
  unfold Machine.countTx
  refine Kept.inc64 _ _ _ (Kept.inc64 _ _ _ ?_ (.inl (hpage (by decide) (by decide))) (.inl (hpage (by decide) (by decide))))
    (.inl (hpage (by decide) (by decide))) (.inl (hpage (by decide) (by decide)))
  exact Kept.ite _ (fun hp4 => h.countG _ _ (hc hp4)) fun _ => h

end

/-- A field outside the counters of events reads as before an event is counted there. -/
theorem getF_countG {evt k : Nat} (s : State) (f : Fld) (h : f.addr / 65536 ≠ 0xB) : (countG evt k s).getF f = s.getF f := by
  have hk := (Kept.refl [] [0xB] [] s).countG evt k
  rw [State.getF, State.getF, hk.reg _ (by simpa using h) (by simp) (by simp)]

theorem net_countG (evt k : Nat) (s : State) : (countG evt k s).net = s.net :=
  ((Kept.refl [] [0xB] [] s).countG evt k).part .net (by decide)

theorem count64_countG {a b evt k : Nat} (s : State) (ha : a / 65536 ≠ 0xB) (hb : b / 65536 ≠ 0xB) :
    count64 a b (countG evt k s) = count64 a b s := count64_congr (getF_countG s _ ha) (getF_countG s _ hb)

/-- Frames that port `p` has sent, and their bytes; frames that it has accepted, and their bytes (R444). -/
abbrev framesSent (p : Nat) : State → Nat := count64 (0x60140 + p * 0x400) (0x60144 + p * 0x400)
abbrev bytesSent (p : Nat) : State → Nat := count64 (0x60148 + p * 0x400) (0x6014C + p * 0x400)
abbrev framesGot (p : Nat) : State → Nat := count64 (0x60100 + p * 0x400) (0x60104 + p * 0x400)
abbrev bytesGot (p : Nat) : State → Nat := count64 (0x60108 + p * 0x400) (0x6010C + p * 0x400)

/-- A frame of `n` bytes counted by two counters, and as an event where `q` holds. -/
theorem count64_frame {a b c d n evt : Nat} (q : Prop) [Decidable q] (s : State) (hab : a ≠ b) (hcd : c ≠ d) (hac : a ≠ c) (had : a ≠ d)
    (hbc : b ≠ c) (hbd : b ≠ d) (h6 : a / 65536 ≠ 0xB ∧ b / 65536 ≠ 0xB ∧ c / 65536 ≠ 0xB ∧ d / 65536 ≠ 0xB) :
    count64 a b (inc64 ⟨c, 0, 32⟩ ⟨d, 0, 32⟩ n (inc64 ⟨a, 0, 32⟩ ⟨b, 0, 32⟩ 1 (if q then countG evt 1 s else s))) =
        min (2 ^ 64 - 1) (count64 a b s + 1) ∧
      count64 c d (inc64 ⟨c, 0, 32⟩ ⟨d, 0, 32⟩ n (inc64 ⟨a, 0, 32⟩ ⟨b, 0, 32⟩ 1 (if q then countG evt 1 s else s))) =
        min (2 ^ 64 - 1) (count64 c d s + n) := by
  obtain ⟨ha, hb, hc, hd⟩ := h6
  have hevent : ∀ x y, x / 65536 ≠ 0xB → y / 65536 ≠ 0xB → count64 x y (if q then countG evt 1 s else s) = count64 x y s :=
    fun x y hx hy => by
      split
      · exact count64_countG s hx hy
      · rfl
  constructor
  · rw [count64_inc64_other _ hac had hbc hbd, count64_inc64 _ hab, hevent a b ha hb]
  · rw [count64_inc64 _ hcd, count64_inc64_other _ hac.symm hbc.symm had.symm hbd.symm, hevent c d hc hd]

/-- A port has sent a frame of `n` bytes. -/
theorem sent_countTx {p : Nat} (n : Nat) (s : State) (hp : p < 5) :
    framesSent p (countTx p n s) = min (2 ^ 64 - 1) (framesSent p s + 1) ∧
      bytesSent p (countTx p n s) = min (2 ^ 64 - 1) (bytesSent p s + n) :=
  count64_frame (p < 4) s (by omega) (by omega) (by omega) (by omega) (by omega) (by omega) (by omega)

/-- Every register but those counters is as it was. -/
theorem countTx_kept {p : Nat} (n : Nat) (s : State) :
    Kept [] [0xB] [0x60140 + p * 0x400, 0x60144 + p * 0x400, 0x60148 + p * 0x400, 0x6014C + p * 0x400] s (countTx p n s) := by
  unfold countTx
  refine ((Kept.ite _ (fun _ => (Kept.refl _ _ _ s).countG _ _) fun _ => .refl _ _ _ s).inc64 _ _ _ ?_ ?_).inc64 _ _ _ ?_ ?_ <;>
    exact .inr (by simp [NET_TX_FRAMES_LO.COUNT, NET_TX_FRAMES_HI.COUNT, NET_TX_BYTES_LO.COUNT, NET_TX_BYTES_HI.COUNT])

end Sys2Proof
end

section
/-! ### Frames that leave a queue unsent, and transmit rings (R394, R439) -/

namespace Sys2Proof

open Machine

/-- A register of the media network that the course of a transmit ring leaves alone: none of the counters of a port, and no HEAD. -/
def KeptByTx (a : Nat) : Prop := a / 65536 = 6 ∧ a % 0x20 ≠ 0xC ∧ (a < 0x62000 → a % 0x400 < 0x100)

/-- What the course of a transmit ring keeps: it sends no message, and no register changes but counters of the ports, a HEAD and those
of other units. -/
structure TxRuns (s t : State) : Prop where
  flt : t.flt = s.flt
  reg : ∀ a, KeptByTx a → t.reg a = s.reg a

namespace TxRuns

variable {s t u : State}

theorem refl (s : State) : TxRuns s s := ⟨rfl, fun _ _ => rfl⟩

theorem trans (h : TxRuns s t) (k : TxRuns t u) : TxRuns s u := ⟨k.flt.trans h.flt, fun a ha => (k.reg a ha).trans (h.reg a ha)⟩

theorem ite {c : Prop} [Decidable c] {x y : State} (hx : TxRuns s x) (hy : TxRuns s y) : TxRuns s (if c then x else y) := by
  split
  · exact hx
  · exact hy

theorem foldl {α : Type} {f : State → α → State} {l : List α} (h : TxRuns s t) (hf : ∀ x ∈ l, ∀ {t}, TxRuns s t → TxRuns s (f t x)) :
    TxRuns s (l.foldl f t) := by
  induction l generalizing t with
  | nil => exact h
  | cons x l ih => exact ih (hf x List.mem_cons_self h) fun y hy => hf y (List.mem_cons_of_mem _ hy)

/-- A step within the rings, the buffers and what leaves the block. -/
theorem of_kept {pg : List Nat} (h : TxRuns s t) (hk : Kept [.net, .cmd, .outs] pg [] t u) (hg : 6 ∉ pg := by decide) : TxRuns s u :=
  h.trans ⟨hk.part .flt (by decide), fun a ha => hk.reg a (ha.1 ▸ hg) (by simp) fun _ hm => by
    obtain ⟨-, -, hport⟩ := ha
    simp only [mgmtTx, List.mem_cons, List.not_mem_nil, or_false] at hm
    omega⟩

theorem onNet {f : NetU → NetU} (h : TxRuns s t) : TxRuns s (t.onNet f) := h.of_kept (pg := []) ((Kept.refl _ _ _ t).onNet f)

theorem onNRing {tx : Bool} {r : Nat} {f : NRing → NRing} (h : TxRuns s t) : TxRuns s (Machine.onNRing tx r f t) := h.onNet

theorem dropBufs {l : List Nat} (h : TxRuns s t) : TxRuns s (Machine.dropBufs l t) := h.onNet

theorem ownBufs {l : List Nat} {n : Nat} (h : TxRuns s t) : TxRuns s (Machine.ownBufs l n t) := h.onNet

theorem out {o : Output} (h : TxRuns s t) : TxRuns s (t.out o) := h.of_kept (pg := []) ((Kept.refl _ _ _ t).out o)

theorem setIrq {n : Nat} (h : TxRuns s t) : TxRuns s (Machine.setIrq n t) := h.of_kept (pg := [0xD]) ((Kept.refl _ _ _ t).setIrq n)

theorem setF {f : Fld} {v : Nat} (h : TxRuns s t) (hf : ¬ KeptByTx f.addr) : TxRuns s (t.setF f v) :=
  h.trans ⟨rfl, fun _ ha => State.reg_setF_other _ _ _ _ fun e => hf (e ▸ ha)⟩

/-- An event of a port is counted in its registers. -/
theorem incPort {b p n : Nat} (h : TxRuns s t) (hp : p < 5) (hb : 0x60100 ≤ b ∧ b < 0x60400) : TxRuns s (t.incF ⟨b + p * 0x400, 0, 32⟩ n) :=
  h.setF fun ⟨_, _, hport⟩ => by
    have hoffset : (b + p * 0x400) % 0x400 < 0x100 := hport (show b + p * 0x400 < 0x62000 by omega)
    omega

theorem setHead {r v : Nat} (h : TxRuns s t) : TxRuns s (t.setF (NET_TXHEAD.PTR r) v) :=
  h.setF fun hk => by
    obtain ⟨-, hhead, -⟩ := hk
    simp only [NET_TXHEAD.PTR] at hhead
    omega

theorem writeDone {r status : Nat} {l : List Nat} (h : TxRuns s t) : TxRuns s (Machine.writeDone r status l t) :=
  .ite h (h.foldl fun _ _ _ h => h.out)

theorem passHead {r k : Nat} (h : TxRuns s t) : TxRuns s (Machine.passHead r k t) := by
  induction k generalizing t with
  | zero => exact h
  | succ k ih =>
    unfold Machine.passHead
    split
    · exact .ite (ih h.onNRing.setHead) h
    · exact h

theorem finishTx {r status : Nat} {f : TxFrame} (h : TxRuns s t) : TxRuns s (Machine.finishTx r status f t) :=
  h.writeDone.setIrq.onNRing.passHead

theorem completeTx {r id status : Nat} (h : TxRuns s t) : TxRuns s (Machine.completeTx r id status t) := by
  unfold Machine.completeTx
  split
  · exact h
  · exact .ite h (.ite h.dropBufs.finishTx h.dropBufs.onNRing)

theorem discardEg {f : EgFrame} {status : Nat} (h : TxRuns s t) : TxRuns s (Machine.discardEg f status t) := by
  unfold Machine.discardEg
  split
  · exact h.completeTx
  · exact h.dropBufs

theorem dropDown {p : Nat} {f : EgFrame} (h : TxRuns s t) (hp : p < 5) : TxRuns s (Machine.dropDown p t f) :=
  .discardEg (.ite ((h.incPort hp (by decide)).setF (f := PTP_TCERR.DROP) (by simp [KeptByTx, PTP_TCERR.DROP])) (h.incPort hp (by decide)))

theorem enqueueEg {p : Nat} {f : EgFrame} (h : TxRuns s t) (hp : p < 5) : TxRuns s (Machine.enqueueEg p f t) :=
  .ite h.onNet (h.dropDown hp)

theorem txFrame {r : Nat} {err : Bool} {ds : List (Nat × List Word)} (h : TxRuns s t) : TxRuns s (Machine.txFrame r err ds t) := by
  have hp : bits (nAt ((ds.map (·.2)).headD []) 0) 28 2 < 5 := Nat.lt_of_lt_of_le (Nat.mod_lt _ (by decide : 0 < 2 ^ 2)) (by decide)
  unfold Machine.txFrame
  dsimp only
  refine .ite (.completeTx (incPort ?_ hp (by decide))) (.ite (.completeTx (incPort ?_ hp (by decide))) (.foldl ?_ fun _ _ _ h => h.enqueueEg hp))
  all_goals exact h.onNet.ownBufs.onNRing

theorem txPump {r k : Nat} (h : TxRuns s t) : TxRuns s (Machine.txPump r k t) := by
  induction k generalizing t with
  | zero => exact h
  | succ k ih =>
    unfold Machine.txPump
    refine .ite h ?_
    dsimp only
    split
    · exact ih h.onNRing.txFrame
    · exact .ite h (ih h.onNRing.txFrame)

end TxRuns

/-! #### Queues of the ports -/

theorem ports_foldl {α : Type} (f : State → α → State) (hf : ∀ t x, (f t x).net.ports = t.net.ports) (l : List α) (s : State) :
    (l.foldl f s).net.ports = s.net.ports := by
  induction l generalizing s with
  | nil => rfl
  | cons x l ih => exact (ih _).trans (hf s x)

theorem ports_writeDone (r status : Nat) (l : List Nat) (s : State) : (writeDone r status l s).net.ports = s.net.ports := by
  unfold writeDone
  split
  · rfl
  · refine ports_foldl _ (fun _ _ => ?_) l s
    rfl

theorem ports_setIrq (n : Nat) (s : State) : (setIrq n s).net.ports = s.net.ports :=
  congrArg NetU.ports (((Kept.refl [.cmd, .outs] [0xD] [] s).setIrq n).part .net (by decide))

theorem ports_passHead (r k : Nat) (s : State) : (passHead r k s).net.ports = s.net.ports := by
  induction k generalizing s with
  | zero => rfl
  | succ k ih =>
    unfold passHead
    split
    · split
      · exact (ih _).trans ((congrArg NetU.ports (State.setF_net _ _ _)).trans (ports_onNRing _ _ _ _))
      · rfl
    · rfl

theorem ports_completeTx (r id status : Nat) (s : State) : (completeTx r id status s).net.ports = s.net.ports := by
  unfold completeTx
  split
  · rfl
  · dsimp only
    split
    · rfl
    · split
      · exact (ports_passHead _ _ _).trans ((ports_onNRing _ _ _ _).trans ((ports_setIrq _ _).trans (ports_writeDone _ _ _ _)))
      · exact ports_onNRing _ _ _ _

/-- A frame that is dropped leaves every queue as it is. -/
theorem ports_discardEg (f : EgFrame) (status : Nat) (s : State) : (discardEg f status s).net.ports = s.net.ports := by
  unfold discardEg
  split
  · exact ports_completeTx _ _ _ _
  · rfl

theorem ports_dropDown (p : Nat) (f : EgFrame) (s : State) : (dropDown p s f).net.ports = s.net.ports := by
  refine (ports_discardEg _ _ _).trans ?_
  split <;> rfl

end Sys2Proof
end

section
/-! ### Links, pause, preemption and the age of learnt addresses (O48) -/

namespace Sys2Proof

open Machine

/-- A command that ends in `t` and sends nothing. -/
theorem exec_next_of_kept {ps : List Part} {pg as : List Nat} {i : Instr} {s t : State} (hx : exec i s = finish t)
    (hk : Kept ps pg as s t) (hf : Part.flt ∉ ps) (hq : Quiet s) : exec i s = .next t :=
  hx.trans (finish_of_quiet (hk.quiet hf hq))

/-! #### Learnt addresses and preemption -/

theorem bridgeAgeOut_forgets (mac : Nat) (s : State) (hq : Quiet s) :
    ∃ t, exec (.bridgeAgeOut mac) s = .next t ∧ (t.net = { s.net with learn := s.net.learn.filter fun x => x.1 ≠ mac })
      ∧ Kept [.net] [] [] s t :=
  have hk := (Kept.refl [.net] [] [] s).onNet fun u => { u with learn := u.learn.filter fun x => x.1 ≠ mac }
  ⟨_, exec_next_of_kept rfl hk (by decide) hq, rfl, hk⟩

theorem preemptVerify_counts (p : Nat) (ok : Bool) (s : State) (hq : Quiet s) (hp : p < 4) (hen : s.flag (NET_PCFG.PREEMPT_EN p) = true)
    (hoff : s.flag (NET_PSTAT.PREEMPT p) = false) (hfew : (s.nport p).attempts < 3) :
    ∃ t, exec (.preemptVerify p ok) s = .next t ∧ t.flag (NET_PSTAT.PREEMPT p) = ok
      ∧ t.nport p = { s.nport p with attempts := (s.nport p).attempts + 1 } ∧ (∀ q, q ≠ p → t.nport q = s.nport q)
      ∧ Kept [.net] [] [(NET_PSTAT.PREEMPT p).addr] s t := by
  have hk : Kept [.net] [] [(NET_PSTAT.PREEMPT p).addr] s (onNPort p (fun u => { u with attempts := u.attempts + 1 }) s) :=
    (Kept.refl _ _ _ s).onNPort _ _
  have hx : exec (.preemptVerify p ok) s = finish (if ok then (onNPort p (fun u => { u with attempts := u.attempts + 1 }) s).setF
      (NET_PSTAT.PREEMPT p) 1 else onNPort p (fun u => { u with attempts := u.attempts + 1 }) s) := by
    show finish (if _ then _ else s) = _
    rw [if_pos ⟨hp, hen, by simpa using hoff, hfew⟩]
  have hsame := nport_onNPort_same p (fun u => { u with attempts := u.attempts + 1 }) s
  have hother := fun q (h : q ≠ p) => nport_onNPort_other h (fun u => { u with attempts := u.attempts + 1 }) s
  cases ok with
  | false => exact ⟨_, exec_next_of_kept hx hk (by decide) hq, hoff, hsame, hother, hk⟩
  | true =>
    have hset := hk.setF (NET_PSTAT.PREEMPT p) 1 (.inr (by simp))
    exact ⟨_, exec_next_of_kept hx hset (by decide) hq, State.flag_setF_one _ _ (by decide : 30 < 32) rfl,
      (nport_setF _ _ _ _).trans hsame, fun q h => (nport_setF _ _ _ _).trans (hother q h), hset⟩

/-! #### Pauses -/

/-- Nothing waits for MGMT to send. -/
theorem mgmtFlush_of_nil {s : State} (h : s.cmd.mgmtHeld = []) : mgmtFlush s = s := by
  have hcmd : s.onCmd (fun u => { u with mgmtHeld := [] }) = s := by
    show { s with cmd := { s.cmd with mgmtHeld := [] } } = s
    rw [← h]
  rw [mgmtFlush, h, List.foldl_nil, hcmd]

/-- Port `p` with its PAUSE counted. -/
abbrev pauseCounted (p : Nat) (s : State) : State := s.incF (NET_PAUSE_RX.COUNT p) 1

theorem pauseCounted_kept (p : Nat) (s : State) : Kept [] [] [(NET_PAUSE_RX.COUNT p).addr] s (pauseCounted p s) :=
  (Kept.refl _ _ _ s).incF _ _ (.inr (by simp))

theorem execPauseReceived_eq {p : Nat} (q : Nat) (s : State) (hp : p < 5) :
    exec (.pauseReceived p q) s = finish (
      if p < 4 ∧ !(pauseCounted p s).flag (NET_PCFG.PAUSELEGACY p) ∧ (pauseCounted p s).time < ((pauseCounted p s).nport p).ignore
      then pauseCounted p s
      else if p = 4 ∧ q % 65536 = 0 then mgmtFlush ((pauseCounted p s).setF (NET_PSTAT.PAUSED p) (b2n (q % 65536 ≠ 0)))
        else (pauseCounted p s).setF (NET_PSTAT.PAUSED p) (b2n (q % 65536 ≠ 0))) := by
  show finish (if p < 5 then _ else s) = _
  rw [if_pos hp]

theorem flag_pauseCounted (p : Nat) (s : State) (f : Fld) (h : f.addr ≠ 0x6012C + p * 0x400) : (pauseCounted p s).flag f = s.flag f :=
  State.flag_setF_other _ _ _ _ h

theorem State.incF_cmd (s : State) (f : Fld) (n : Nat) : (s.incF f n).cmd = s.cmd := rfl

theorem State.setF_time (s : State) (f : Fld) (v : Nat) : (s.setF f v).time = s.time := rfl

theorem State.incF_time (s : State) (f : Fld) (n : Nat) : (s.incF f n).time = s.time := rfl

theorem pauseReceived_stops (p q : Nat) (s : State) (hq : Quiet s) (hp : p < 5) (hheld : p < 4 ∨ q % 65536 ≠ 0 ∨ s.cmd.mgmtHeld = [])
    (hheed : 4 ≤ p ∨ s.flag (NET_PCFG.PAUSELEGACY p) = true ∨ (s.nport p).ignore ≤ s.time) :
    ∃ t, exec (.pauseReceived p q) s = .next t
      ∧ t.getF (NET_PAUSE_RX.COUNT p) = min (2 ^ (NET_PAUSE_RX.COUNT p).width - 1) (s.getF (NET_PAUSE_RX.COUNT p) + 1)
      ∧ t.flag (NET_PSTAT.PAUSED p) = decide (q % 65536 ≠ 0)
      ∧ Kept [] [] [(NET_PAUSE_RX.COUNT p).addr, (NET_PSTAT.PAUSED p).addr] s t := by
  have hk : Kept [] [] [(NET_PAUSE_RX.COUNT p).addr, (NET_PSTAT.PAUSED p).addr] s
      ((pauseCounted p s).setF (NET_PSTAT.PAUSED p) (b2n (q % 65536 ≠ 0))) :=
    (((Kept.refl _ _ _ s).incF _ _ (.inr (by simp))).setF _ _ (.inr (by simp)))
  have hx : exec (.pauseReceived p q) s = finish ((pauseCounted p s).setF (NET_PSTAT.PAUSED p) (b2n (q % 65536 ≠ 0))) := by
    rw [execPauseReceived_eq q s hp, if_neg]
    · split
      · rw [mgmtFlush_of_nil]
        rw [State.setF_cmd, State.incF_cmd]
        exact hheld.resolve_left (by omega) |>.resolve_left (by omega)
      · rfl
    · rw [flag_pauseCounted _ _ _ (by simp only [NET_PCFG.PAUSELEGACY]; omega), State.incF_time, nport_incF]
      rintro ⟨hlt, hleg, hign⟩
      rcases hheed with h | h | h
      · omega
      · simp [h] at hleg
      · omega
  refine ⟨_, exec_next_of_kept hx hk (by decide) hq, ?_, ?_, hk⟩
  · rw [State.getF_setF_other _ _ _ _ (by simp only [NET_PAUSE_RX.COUNT, NET_PSTAT.PAUSED]; omega)]
    exact State.getF_incF_same s _ _ (Nat.le_refl 32)
  · exact State.flag_setF_same _ _ _ (by decide : 29 < 32) rfl

theorem pauseReceived_ignored (p q : Nat) (s : State) (hq : Quiet s) (hp : p < 4) (hleg : s.flag (NET_PCFG.PAUSELEGACY p) = false)
    (hign : s.time < (s.nport p).ignore) :
    ∃ t, exec (.pauseReceived p q) s = .next t
      ∧ t.getF (NET_PAUSE_RX.COUNT p) = min (2 ^ (NET_PAUSE_RX.COUNT p).width - 1) (s.getF (NET_PAUSE_RX.COUNT p) + 1)
      ∧ t.flag (NET_PSTAT.PAUSED p) = s.flag (NET_PSTAT.PAUSED p) ∧ Kept [] [] [(NET_PAUSE_RX.COUNT p).addr] s t := by
  have hk := pauseCounted_kept p s
  have hx : exec (.pauseReceived p q) s = finish (pauseCounted p s) := by
    rw [execPauseReceived_eq q s (by omega), if_pos]
    rw [flag_pauseCounted _ _ _ (by simp only [NET_PCFG.PAUSELEGACY]; omega), State.incF_time, nport_incF]
    exact ⟨hp, by simpa using hleg, hign⟩
  refine ⟨_, exec_next_of_kept hx hk (by decide) hq, State.getF_incF_same s _ _ (Nat.le_refl 32), flag_pauseCounted _ _ _ ?_, hk⟩
  simp only [NET_PSTAT.PAUSED]
  omega

theorem pauseExpiry_ends (p : Nat) (s : State) (hq : Quiet s) (hp : p < 5) (hheld : p < 4 ∨ s.cmd.mgmtHeld = []) :
    ∃ t, exec (.pauseExpiry p) s = .next t ∧ t.flag (NET_PSTAT.PAUSED p) = false ∧ Kept [] [] [(NET_PSTAT.PAUSED p).addr] s t := by
  have hk : Kept [] [] [(NET_PSTAT.PAUSED p).addr] s (s.setF (NET_PSTAT.PAUSED p) 0) := (Kept.refl _ _ _ s).setF _ _ (.inr (by simp))
  have hx : exec (.pauseExpiry p) s = finish (s.setF (NET_PSTAT.PAUSED p) 0) := by
    show finish (if p < 5 then if p = 4 then _ else _ else s) = _
    rw [if_pos hp]
    split
    · rw [mgmtFlush_of_nil]
      rw [State.setF_cmd]
      exact hheld.resolve_left (by omega)
    · rfl
  exact ⟨_, exec_next_of_kept hx hk (by decide) hq, State.flag_setF_zero _ _ (by decide : 29 < 32) rfl, hk⟩

theorem pauseExpiry_sends (o : Output) (n : Nat) (s : State) (hq : Quiet s) (hheld : s.cmd.mgmtHeld = [(o, n)]) :
    ∃ t, exec (.pauseExpiry 4) s = .next t ∧ t.flag (NET_PSTAT.PAUSED 4) = false ∧ t.outs = o :: s.outs
      ∧ (t.cmd = { s.cmd with mgmtHeld := [] }) ∧ framesSent 4 t = min (2 ^ 64 - 1) (framesSent 4 s + 1)
      ∧ bytesSent 4 t = min (2 ^ 64 - 1) (bytesSent 4 s + n) ∧ Kept [.cmd, .outs] [6] [] s t := by
  obtain ⟨v, hv⟩ : ∃ v, v = ((s.setF (NET_PSTAT.PAUSED 4) 0).onCmd fun u => { u with mgmtHeld := [] }).out o := ⟨_, rfl⟩
  have hx : exec (.pauseExpiry 4) s = finish (countTx 4 n v) := by
    show finish (mgmtFlush (s.setF (NET_PSTAT.PAUSED 4) 0)) = _
    rw [mgmtFlush, State.setF_cmd, hheld, List.foldl_cons, List.foldl_nil, mgmtSend, hv]
  have hsv : Kept [.cmd, .outs] [] [0x61004] s v := hv ▸ (((Kept.refl _ _ _ s).setF _ _).onCmd _).out _
  have hcount := (Kept.refl [] [6] [] v).countTx (p := 4) n (by decide) (by decide) (by decide)
  have hk : Kept [.cmd, .outs] [6] [] s (countTx 4 n v) :=
    (hsv.byPage (by decide)).countTx n (by decide) (by decide) (by decide)
  obtain ⟨hframes, hbytes⟩ := sent_countTx (p := 4) n v (by decide)
  have hsame : ∀ a b, a ≠ 0x61004 → b ≠ 0x61004 → count64 a b v = count64 a b s := fun a b ha hb =>
    count64_congr (hsv.getF_off _ (by simp) (by simpa using ha)) (hsv.getF_off _ (by simp) (by simpa using hb))
  rw [framesSent, hsame _ _ (by decide) (by decide)] at hframes
  rw [bytesSent, hsame _ _ (by decide) (by decide)] at hbytes
  refine ⟨_, exec_next_of_kept hx hk (by decide) hq, ?_, ?_, ?_, hframes, hbytes, hk⟩
  · have hpaused : (countTx 4 n v).getF (NET_PSTAT.PAUSED 4) = v.getF (NET_PSTAT.PAUSED 4) :=
      (State.getF_inc64_other _ (by decide) (by decide)).trans (State.getF_inc64_other _ (by decide) (by decide))
    rw [State.flag, hpaused, hv, State.getF_out, State.getF_onCmd]
    exact State.flag_setF_zero _ _ (by decide) rfl
  · rw [show (countTx 4 n v).outs = v.outs from hcount.part .outs (by decide), hv, State.outs_out, State.onCmd_outs, State.setF_outs]
  · rw [show (countTx 4 n v).cmd = v.cmd from hcount.part .cmd (by decide), hv, State.out, State.onOuts_cmd, State.onCmd_cmd, State.setF_cmd]

theorem pauseBroken_ends (p : Nat) (s : State) (hq : Quiet s) (hp : p < 4) (hpaused : s.flag (NET_PSTAT.PAUSED p) = true)
    (hleg : s.flag (NET_PCFG.PAUSELEGACY p) = false) :
    ∃ t, exec (.pauseBroken p) s = .next t ∧ t.flag (NET_PSTAT.PAUSED p) = false
      ∧ t.getF (NET_PAUSE_BROKEN.COUNT p) = min (2 ^ (NET_PAUSE_BROKEN.COUNT p).width - 1) (s.getF (NET_PAUSE_BROKEN.COUNT p) + 1)
      ∧ t.nport p = { s.nport p with ignore := s.time + s.getF (NET_PAUSECFG.WD p) * 1536 / 10 }
      ∧ (∀ q, q ≠ p → t.nport q = s.nport q)
      ∧ Kept [.net] [] [(NET_PSTAT.PAUSED p).addr, (NET_PAUSE_BROKEN.COUNT p).addr] s t := by
  obtain ⟨v, hv⟩ : ∃ v, v = (s.setF (NET_PSTAT.PAUSED p) 0).incF (NET_PAUSE_BROKEN.COUNT p) 1 := ⟨_, rfl⟩
  have hsv : Kept [.net] [] [(NET_PSTAT.PAUSED p).addr, (NET_PAUSE_BROKEN.COUNT p).addr] s v :=
    hv ▸ ((Kept.refl _ _ _ s).setF _ _ (.inr (by simp))).incF _ _ (.inr (by simp))
  have hwd : v.getF (NET_PAUSECFG.WD p) = s.getF (NET_PAUSECFG.WD p) := by
    rw [hv, State.incF, State.getF_setF_other _ _ _ _ (by simp only [NET_PAUSECFG.WD, NET_PAUSE_BROKEN.COUNT]; omega),
      State.getF_setF_other _ _ _ _ (by simp only [NET_PAUSECFG.WD, NET_PSTAT.PAUSED]; omega)]
  have htime : v.time = s.time := by rw [hv, State.incF_time, State.setF_time]
  have hx : exec (.pauseBroken p) s = finish (onNPort p (fun u => { u with ignore := s.time + s.getF (NET_PAUSECFG.WD p) * 1536 / 10 }) v) := by
    show finish (if _ then _ else s) = _
    rw [if_pos ⟨hp, hpaused, by simpa using hleg⟩, ← hwd, ← htime, hv]
  have hk := hsv.onNPort p fun u => { u with ignore := s.time + s.getF (NET_PAUSECFG.WD p) * 1536 / 10 }
  have hnp : ∀ q, v.nport q = s.nport q := fun q => by rw [hv, nport_incF, nport_setF]
  refine ⟨_, exec_next_of_kept hx hk (by decide) hq, ?_, ?_, ?_, fun q h => ?_, hk⟩
  · show v.flag (NET_PSTAT.PAUSED p) = false
    rw [hv, State.incF, State.flag_setF_other _ _ _ _ (by simp only [NET_PSTAT.PAUSED, NET_PAUSE_BROKEN.COUNT]; omega)]
    exact State.flag_setF_zero _ _ (by decide : 29 < 32) rfl
  · show v.getF (NET_PAUSE_BROKEN.COUNT p) = _
    rw [hv, State.getF_incF_same _ (NET_PAUSE_BROKEN.COUNT p) _ (Nat.le_refl 32),
      State.getF_setF_other _ _ _ _ (by simp only [NET_PSTAT.PAUSED, NET_PAUSE_BROKEN.COUNT]; omega)]
  · rw [nport_onNPort_same, hnp]
  · rw [nport_onNPort_other h, hnp]

end Sys2Proof
end

section
/-! ### Links (O48) -/

namespace Sys2Proof

open Machine

/-- Port `p` as its link goes down, before its frames are dropped. -/
def linkCut (p : Nat) (s : State) : State :=
  onNPort p (fun u => { u with q := [] }) ((s.setF (NET_PSTAT.LINK p) 0).setF (NET_PSTAT.PAUSED p) 0)

/-- The contexts of port `p` lose their source. -/
def loseCtxs (p : Nat) (s : State) : State := s.net.ctx.foldl (fun s x => if x.2.port = p then loseCtx x.1 s else s) s

/-- Port `p` with its link down and its frames dropped. -/
def linkCleared (p : Nat) (s : State) : State := (s.nport p).q.foldl (dropDown p) (linkCut p s)

theorem linkDown_eq {p : Nat} {s : State} (h : s.flag (NET_PSTAT.LINK p) = true) :
    linkDown p s = raise 0x40 0 p (loseCtxs p (linkCleared p s)) := by
  unfold linkDown
  rw [if_neg (by simp [h])]
  rfl

theorem loseCtx_reports (c : Nat) (s : State) : Reports [.net, .flt] [] [] s (loseCtx c s) := by
  have hnet : ∀ {t u : State}, Reports [.net, .flt] [] [] s t → Kept [.net] [] [] t u → Reports [.net, .flt] [] [] s u := fun h hk =>
    h.silent (hk.mono (by decide) (by simp) (by simp)) (hk.part .flt (by decide))
  unfold loseCtx
  refine .ite (.refl _ _ _ s) (.raise (hnet ?_ ((Kept.refl _ _ _ _).onCtx _ _)))
  exact .ite (hnet (.refl _ _ _ s) (((Kept.refl _ _ _ _).onCtx _ _).dropBufs _)) (.refl _ _ _ s)

theorem ports_loseCtx (c : Nat) (s : State) : (loseCtx c s).net.ports = s.net.ports := by
  unfold loseCtx
  dsimp only
  split
  · rfl
  · split <;> rfl

theorem loseCtxs_reports (p : Nat) (s : State) : Reports [.net, .flt] [] [] s (loseCtxs p s) :=
  .foldl (fun x _ t => .ite (loseCtx_reports x.1 t) (.refl _ _ _ t)) (.refl _ _ _ s)

theorem ports_loseCtxs (p : Nat) (s : State) : (loseCtxs p s).net.ports = s.net.ports :=
  ports_foldl _ (fun t x => by split; exacts [ports_loseCtx _ _, rfl]) _ _

section

variable {p : Nat} {s : State}

theorem linkCleared_runs (hp : p < 4) (s : State) : TxRuns (linkCut p s) (linkCleared p s) :=
  (TxRuns.refl _).foldl fun _ _ _ h => h.dropDown (by omega)

theorem ports_linkCleared (s : State) : (linkCleared p s).net.ports = (linkCut p s).net.ports :=
  ports_foldl _ (fun t x => ports_dropDown p x t) _ _

theorem linkCut_kept (p : Nat) (s : State) : Kept [.net] [] [(NET_PSTAT.LINK p).addr] s (linkCut p s) :=
  ((((Kept.refl _ _ _ s).setF _ _ (.inr (by simp))).setF _ _ (.inr (by simp [NET_PSTAT.LINK, NET_PSTAT.PAUSED])))).onNPort _ _

theorem flag_link_linkCut (p : Nat) (s : State) : (linkCut p s).flag (NET_PSTAT.LINK p) = false := by
  rw [linkCut, flag_onNPort, State.flag_setF_disjoint _ _ _ _ (by decide : 31 + 1 ≤ 32) (.inr (by decide : 29 + 1 ≤ 31))]
  exact State.flag_setF_zero _ _ (by decide : 31 < 32) rfl

theorem flag_paused_linkCut (p : Nat) (s : State) : (linkCut p s).flag (NET_PSTAT.PAUSED p) = false := by
  rw [linkCut, flag_onNPort]
  exact State.flag_setF_zero _ _ (by decide : 29 < 32) rfl

/-- A link that goes down: what is dropped and lost changes no register of a port but its counters. -/
theorem reg_linkDown (hp : p < 4) (hlink : s.flag (NET_PSTAT.LINK p) = true) {a : Nat} (ha : KeptByTx a) :
    (linkDown p s).reg a = (linkCut p s).reg a := by
  rw [linkDown_eq hlink]
  exact ((loseCtxs_reports p _).kept.reg a (by simp) (by simp) (by simp)).trans ((linkCleared_runs hp s).reg a ha)

theorem ports_linkDown (hlink : s.flag (NET_PSTAT.LINK p) = true) : (linkDown p s).net.ports = (linkCut p s).net.ports := by
  rw [linkDown_eq hlink]
  exact (ports_loseCtxs p _).trans (ports_linkCleared s)

theorem sourcesFit_linkDown (hp : p < 4) (hlink : s.flag (NET_PSTAT.LINK p) = true) (hs : SourcesFit s) : SourcesFit (linkDown p s) := by
  rw [linkDown_eq hlink]
  refine SourcesFit.raise ((loseCtxs_reports p _).fits (hs.congr ?_)) (by decide) _ _
  exact (linkCleared_runs hp s).flt.trans ((linkCut_kept p s).part .flt (by decide))

theorem linkDown_sends (hlink : s.flag (NET_PSTAT.LINK p) = true) : ∃ m ∈ (linkDown p s).flt.wire, m.src = 0x40 := by
  rw [linkDown_eq hlink]
  exact raise_sends _ _ _ _

end

/-- The registers of a port below its counters. -/
theorem keptByTx_port {p b : Nat} (hp : p < 5) (hb : 0x60000 ≤ b) (hb' : b < 0x60100) (hh : b % 0x20 ≠ 0xC) : KeptByTx (b + p * 0x400) := by
  refine ⟨?_, ?_, ?_⟩ <;> omega

theorem portReg_notMem_mgmtTx {p b : Nat} (hb : 0x60000 ≤ b) (hb' : b < 0x60100) : b + p * 0x400 ∉ mgmtTx := by
  simp only [mgmtTx, List.mem_cons, List.not_mem_nil, or_false]
  omega

theorem linkUp_shows (p : Nat) (s : State) (hq : Quiet s) (hp : p < 4) (hen : s.flag (NET_PCFG.ENABLE p) = true)
    (hdown : s.flag (NET_PSTAT.LINK p) = false) :
    ∃ t, exec (.linkUp p) s = .next t ∧ t.flag (NET_PSTAT.LINK p) = true ∧ bitOf (t.getF (FLT_STICKY.BITS 2)) 0 = true
      ∧ t.net = s.net ∧ Quiet t := by
  have hup : linkUp p s = raise 0x40 0 p (s.setF (NET_PSTAT.LINK p) 1) := by
    rw [linkUp, if_pos ⟨hen, by simp [hdown]⟩]
  have hx : exec (.linkUp p) s = finish (ptpSync (linkUp p s)) := by
    show finish (if p < 4 then _ else s) = _
    rw [if_pos hp]
  have hfit : SourcesFit (linkUp p s) := by
    rw [hup]
    exact (hq.sourcesFit.congr (State.setF_flt _ _ _)).raise (by decide) _ _
  have hr : ClockReacts (linkUp p s) (ptpSync (linkUp p s)) := .ptpSync (Reports.refl _ _ _ _)
  obtain ⟨m, hm, hsrc⟩ := raise_sends 0x40 0 p (s.setF (NET_PSTAT.LINK p) 1)
  rw [← hup] at hm
  refine ⟨_, hx, ?_, ?_, ?_, settle_wire _⟩
  · rw [hr.flag_settled hfit _ (portReg_page (by omega) (by decide) (by decide)) (portReg_notMem_mgmtTx (by decide) (by decide)), hup,
      flag_raise]
    exact State.flag_setF_one _ _ (by decide : 31 < 32) rfl
  · have hsticky := hr.sticky hfit hm
    rw [hsrc] at hsticky
    exact hsticky
  · rw [hr.net_settled hfit, hup, raise_net, State.setF_net]

theorem linkDown_shows (p : Nat) (s : State) (hq : Quiet s) (hp : p < 4) (hlink : s.flag (NET_PSTAT.LINK p) = true) :
    ∃ t, exec (.linkDown p) s = .next t ∧ t.flag (NET_PSTAT.LINK p) = false ∧ t.flag (NET_PSTAT.PAUSED p) = false ∧ (t.nport p).q = []
      ∧ (∀ q, q ≠ p → t.nport q = s.nport q) ∧ bitOf (t.getF (FLT_STICKY.BITS 2)) 0 = true ∧ Quiet t := by
  have hx : exec (.linkDown p) s = .next (settle (ptpSync (bufCand (linkDown p s)))) := by
    show finish (if p < 4 then _ else s) = _
    rw [if_pos hp, finish]
  have hfit := sourcesFit_linkDown hp hlink hq.sourcesFit
  obtain ⟨m, hm, hsrc⟩ := linkDown_sends hlink
  have hr : ClockReacts (linkDown p s) (ptpSync (bufCand (linkDown p s))) := .ptpSync (.bufCand (Reports.refl _ _ _ _))
  have hflag : ∀ {lsb}, (settle (ptpSync (bufCand (linkDown p s)))).flag ⟨0x60004 + p * 0x400, lsb, 1⟩ =
      (linkCut p s).flag ⟨0x60004 + p * 0x400, lsb, 1⟩ := fun {lsb} => by
    rw [hr.flag_settled hfit _ (portReg_page (by omega) (by decide) (by decide)) (portReg_notMem_mgmtTx (by decide) (by decide)),
      State.flag, State.flag, State.getF, State.getF, reg_linkDown hp hlink (keptByTx_port (by omega) (by decide) (by decide) (by decide))]
  have hport : ∀ q, (settle (ptpSync (bufCand (linkDown p s)))).nport q = (linkCut p s).nport q := fun q => by
    rw [State.nport_congr (congrArg NetU.ports (hr.net_settled hfit)), State.nport_congr (ports_linkDown hlink)]
  refine ⟨_, hx, hflag.trans (flag_link_linkCut p s), hflag.trans (flag_paused_linkCut p s), ?_, fun q h => ?_, ?_, settle_wire _⟩
  · rw [hport, linkCut, nport_onNPort_same]
  · rw [hport, linkCut, nport_onNPort_other h, nport_setF, nport_setF]
  · have hsticky := hr.sticky hfit hm
    rw [hsrc] at hsticky
    exact hsticky

/-- Settles O48, clause by clause: what a link changes is followed through the frames it drops and what the clock unit makes of it; a pause,
a verification and a forgotten address are each one step of the model. -/
theorem linksAndPause : Obligations.LinksAndPause :=
  ⟨linkUp_shows, linkDown_shows, pauseReceived_stops, pauseReceived_ignored, pauseExpiry_ends, pauseExpiry_sends, pauseBroken_ends,
    preemptVerify_counts, bridgeAgeOut_forgets⟩

end Sys2Proof
end

section
/-! ### Frames of the media network (O47) -/

namespace Sys2Proof.Machine

/-! #### Reception of a frame (R396) -/

/-- The counter of the first row of R396 that stands against a frame. -/
abbrev rejectCount (p maxf : Nat) (l : List Byte) (frag : Bool) : Fld :=
  if frag then NET_FRAGERR.COUNT p else if l.length < 64 then NET_RUNT.COUNT p else if maxf < l.length then NET_OVERSIZE.COUNT p
    else NET_CRCERR.COUNT p

/-- An accepted frame is counted (R444). -/
def frameCounted (p : Nat) (l : List Byte) (s : State) : State :=
  inc64 (NET_RX_BYTES_LO.COUNT p) (NET_RX_BYTES_HI.COUNT p) l.length
    (inc64 (NET_RX_FRAMES_LO.COUNT p) (NET_RX_FRAMES_HI.COUNT p) 1 (if p < 4 then countG (0x38 + p) 1 s else s))

theorem receiveCheck_of_bad {p maxf : Nat} {l : List Byte} {frag : Bool} (s : State)
    (h : frag = true ∨ l.length < 64 ∨ maxf < l.length ∨ fcsOk l = false) :
    receiveCheck p maxf l frag s = (false, s.incF (rejectCount p maxf l frag) 1) := by
  unfold receiveCheck rejectCount
  split
  · rfl
  · split
    · rfl
    · split
      · rfl
      · rw [if_pos]
        simp_all

theorem receiveCheck_of_good {p maxf : Nat} {l : List Byte} (s : State) (hmin : 64 ≤ l.length) (hmax : l.length ≤ maxf)
    (hfcs : fcsOk l = true) : receiveCheck p maxf l false s = (true, frameCounted p l s) := by
  unfold receiveCheck
  rw [if_neg (by decide), if_neg (by omega), if_neg (by omega), if_neg (by simp [hfcs])]
  rfl

theorem rejectCount_whole (p maxf : Nat) (l : List Byte) (frag : Bool) :
    (rejectCount p maxf l frag).lsb + (rejectCount p maxf l frag).width ≤ 32 := by
  unfold rejectCount
  split_ifs <;> exact Nat.le_refl 32

end Sys2Proof.Machine

namespace Sys2Proof

open Machine

theorem got_frameCounted {p : Nat} (l : List Byte) (s : State) (hp : p < 5) :
    framesGot p (frameCounted p l s) = min (2 ^ 64 - 1) (framesGot p s + 1) ∧
      bytesGot p (frameCounted p l s) = min (2 ^ 64 - 1) (bytesGot p s + l.length) :=
  count64_frame (p < 4) s (by omega) (by omega) (by omega) (by omega) (by omega) (by omega) (by omega)

theorem frameCounted_kept (p : Nat) (l : List Byte) (s : State) :
    Kept [] [0xB] [0x60100 + p * 0x400, 0x60104 + p * 0x400, 0x60108 + p * 0x400, 0x6010C + p * 0x400] s (frameCounted p l s) := by
  unfold frameCounted
  refine ((Kept.ite _ (fun _ => (Kept.refl _ _ _ s).countG _ _) fun _ => .refl _ _ _ s).inc64 _ _ _ ?_ ?_).inc64 _ _ _ ?_ ?_ <;>
    exact .inr (by simp [NET_RX_FRAMES_LO.COUNT, NET_RX_FRAMES_HI.COUNT, NET_RX_BYTES_LO.COUNT, NET_RX_BYTES_HI.COUNT])

/-- On MGMT a frame counts in its registers alone. -/
theorem frameCounted_mgmt_kept (l : List Byte) (s : State) :
    Kept [] [] [0x61100, 0x61104, 0x61108, 0x6110C] s (frameCounted 4 l s) :=
  ((Kept.refl _ _ _ s).inc64 _ _ _ (.inr (by decide)) (.inr (by decide))).inc64 _ _ _ (.inr (by decide)) (.inr (by decide))

theorem mpFrameReceived_rejects (p : Nat) (l : List Byte) (frag : Bool) (s : State) (hq : Quiet s) (hp : p < 4)
    (hen : s.flag (NET_PCFG.ENABLE p) = true) (hlink : s.flag (NET_PSTAT.LINK p) = true)
    (hbad : frag = true ∨ l.length < 64 ∨ s.getF (NET_PCFG.MAXF p) < l.length ∨ fcsOk l = false) :
    ∃ t, exec (.mpFrameReceived p l frag) s = .next t
      ∧ t.getF (rejectCount p (s.getF (NET_PCFG.MAXF p)) l frag) = min (2 ^ (rejectCount p (s.getF (NET_PCFG.MAXF p)) l frag).width - 1)
        (s.getF (rejectCount p (s.getF (NET_PCFG.MAXF p)) l frag) + 1)
      ∧ Kept [] [] [(rejectCount p (s.getF (NET_PCFG.MAXF p)) l frag).addr] s t := by
  have hx : exec (.mpFrameReceived p l frag) s = finish (s.incF (rejectCount p (s.getF (NET_PCFG.MAXF p)) l frag) 1) := by
    show finish (if _ then _ else s) = _
    rw [if_pos ⟨hp, hen, hlink⟩, receiveCheck_of_bad s hbad]
    rfl
  have hwhole := rejectCount_whole p (s.getF (NET_PCFG.MAXF p)) l frag
  generalize rejectCount p (s.getF (NET_PCFG.MAXF p)) l frag = f at hx hwhole
  have hk : Kept [] [] [f.addr] s (s.incF f 1) := (Kept.refl _ _ _ s).incF _ _ (.inr (by simp))
  exact ⟨_, exec_next_of_kept hx hk (by decide) hq, State.getF_incF_same s f 1 hwhole, hk⟩

theorem mgmtFrameReceived_runt (l : List Byte) (s : State) (hq : Quiet s) (hshort : l.length < 64) :
    ∃ t, exec (.mgmtFrameReceived l) s = .next t
      ∧ t.getF (NET_RUNT.COUNT 4) = min (2 ^ (NET_RUNT.COUNT 4).width - 1) (s.getF (NET_RUNT.COUNT 4) + 1)
      ∧ Kept [] [] [(NET_RUNT.COUNT 4).addr] s t := by
  have hx : exec (.mgmtFrameReceived l) s = finish (s.incF (NET_RUNT.COUNT 4) 1) := by
    have hbad := receiveCheck_of_bad (p := 4) (maxf := 1522) (frag := false) s (.inr (.inl hshort))
    rw [rejectCount, if_neg Bool.false_ne_true, if_pos hshort] at hbad
    show finish (let (ok, s) := receiveCheck 4 1522 l false s; if !ok then s else _) = _
    rw [hbad]
    rfl
  have hk : Kept [] [] [(NET_RUNT.COUNT 4).addr] s (s.incF (NET_RUNT.COUNT 4) 1) := (Kept.refl _ _ _ s).incF _ _
  exact ⟨_, exec_next_of_kept hx hk (by decide) hq, State.getF_incF_same s _ 1 (by decide), hk⟩

/-! #### A frame that a context alone takes (R421) -/

theorem matchCtx_congr {s t : State} (p : Nat) (l : List Byte) (hc : t.net.ctx = s.net.ctx)
    (hr : t.getF NET_SPART.RXCOUNT = s.getF NET_SPART.RXCOUNT) : matchCtx p l t = matchCtx p l s := by
  unfold matchCtx
  simp only [hc, hr]

/-- What drawing buffers changes: the list of buffers in use, and the count of free values. -/
structure Draws (s t : State) : Prop where
  kept : Kept [.net, .free] [] [] s t
  net : t.net = { s.net with bufs := t.net.bufs }

theorem Draws.refl (s : State) : Draws s s := ⟨.refl _ _ _ _, rfl⟩

theorem Draws.trans {s t u : State} (h : Draws s t) (k : Draws t u) : Draws s u :=
  ⟨h.kept.trans k.kept, by rw [k.net, h.net]⟩

theorem takeBuf_draws (b : BufU) (s : State) : Draws s (takeBuf b s).2 := by
  unfold takeBuf fresh
  dsimp only
  exact ⟨((Kept.refl [.net, .free] [] [] s).onFree _).onNet _, rfl⟩

/-- Buffers taken one after another. -/
theorem foldl_draws {b : BufU} {f : List Nat × State → Nat → List Nat × State}
    (hf : ∀ acc x, ∃ i, f acc x = (acc.1 ++ [i], (takeBuf b acc.2).2)) (r : List Nat) (acc : List Nat × State) :
    (r.foldl f acc).1.length = acc.1.length + r.length ∧ Draws acc.2 (r.foldl f acc).2 := by
  induction r generalizing acc with
  | nil => exact ⟨rfl, .refl _⟩
  | cons x r ih =>
    obtain ⟨i, hi⟩ := hf acc x
    obtain ⟨hlen, hdraws⟩ := ih (f acc x)
    rw [hi] at hlen hdraws
    rw [List.foldl_cons, hi]
    refine ⟨hlen.trans ?_, (takeBuf_draws b acc.2).trans hdraws⟩
    simp only [List.length_append, List.length_cons, List.length_nil]
    omega

theorem drawBufs_draws {n : Nat} {b : BufU} {s t : State} {l : List Nat} (h : drawBufs n b s = some (l, t)) : l.length = n ∧ Draws s t := by
  unfold drawBufs at h
  split at h
  · cases h
  · have heq := Option.some.inj h
    obtain rfl : _ = l := congrArg Prod.fst heq
    obtain rfl : _ = t := congrArg Prod.snd heq
    refine And.imp_left (fun hlen => hlen.trans (by simp)) (foldl_draws (b := b) (fun acc x => ⟨(takeBuf b acc.2).1, ?_⟩) (List.range n) ([], s))
    generalize takeBuf b acc.2 = x
    rfl

theorem drawBufs_isSome {n : Nat} {b : BufU} {s : State} (hmax : s.bufUse b.cls + n ≤ s.bufMax b.cls) (hfree : n ≤ s.freeBufs.length) :
    ∃ l t, drawBufs n b s = some (l, t) := by
  unfold drawBufs
  rw [if_neg (by omega)]
  exact ⟨_, _, rfl⟩

theorem storeFrame_kept (bytes : List Byte) (l : List Nat) (s : State) : Kept [.mem] [] [] s (storeFrame bytes l s) :=
  Kept.foldl _ (fun t _ => writeBytes_keeps _ _ t) _ s

theorem classify_of_context {p : Nat} {l : List Byte} {c : Nat} {bufs : List Nat} {s t : State} (hmem : isMember p s = false)
    (hctrl : etherType l ≠ 0x8808) (hptp : ptpOff l = none) (hctx : matchCtx p l s = some c)
    (hdraw : drawBufs (bufsFor l.length) ⟨3, 1, 0⟩ s = some (bufs, t)) :
    classify p l s = (storeFrame l bufs t).onNet fun u => { u with matched := u.matched ++ [(c, l, bufs)] } := by
  have hdests : bridgeTo p l s = [] := by
    unfold bridgeTo
    rw [if_pos]
    simp [hmem]
  unfold classify
  simp only [hmem, hptp, if_neg hctrl]
  simp [b2n, hdests, hctx, hdraw]

theorem mpFrameReceived_matches (p : Nat) (l : List Byte) (c : Nat) (s : State) (hq : Quiet s) (hp : p < 4)
    (hen : s.flag (NET_PCFG.ENABLE p) = true) (hlink : s.flag (NET_PSTAT.LINK p) = true) (hmin : 64 ≤ l.length)
    (hmax : l.length ≤ s.getF (NET_PCFG.MAXF p)) (hfcs : fcsOk l = true) (hmem : isMember p s = false) (hctrl : etherType l ≠ 0x8808)
    (hptp : ptpOff l = none) (hctx : matchCtx p l s = some c) (huse : s.bufUse 3 + bufsFor l.length ≤ s.bufMax 3)
    (hfree : bufsFor l.length ≤ s.freeBufs.length) :
    ∃ t, exec (.mpFrameReceived p l false) s = .next t
      ∧ (∃ bufs, t.net.matched = s.net.matched ++ [(c, l, bufs)] ∧ bufs.length = bufsFor l.length)
      ∧ framesGot p t = min (2 ^ 64 - 1) (framesGot p s + 1) ∧ bytesGot p t = min (2 ^ 64 - 1) (bytesGot p s + l.length)
      ∧ t.net.ctx = s.net.ctx ∧ t.net.ports = s.net.ports ∧ Kept [.mem, .net, .free] [6, 0xB] [] s t := by
  obtain ⟨hframes, hbytes⟩ := got_frameCounted l s (by omega : p < 5)
  have hcount := frameCounted_kept p l s
  have hx : exec (.mpFrameReceived p l false) s = finish (classify p l (frameCounted p l s)) := by
    show finish (if _ then _ else s) = _
    rw [if_pos ⟨hp, hen, hlink⟩, receiveCheck_of_good s hmin hmax hfcs]
    rfl
  generalize frameCounted p l s = u at hframes hbytes hcount hx
  have hnet : u.net = s.net := hcount.part .net (by decide)
  have hreg : ∀ f : Fld, 0x63000 ≤ f.addr → f.addr < 0x64000 → u.getF f = s.getF f := fun f hlo hhi =>
    hcount.getF_off f (by simp; omega) (by simp; omega)
  have hmem' : isMember p u = false := by
    rw [isMember, hreg NET_BRCFG.PORTS (by decide) (by decide)]
    exact hmem
  have hctx' : matchCtx p l u = some c := (matchCtx_congr p l (by rw [hnet]) (hreg _ (by decide) (by decide))).trans hctx
  have hmax' : u.bufMax 3 = s.bufMax 3 := by
    simp only [State.bufMax, hreg NET_POOL.HOSTMAX (by decide) (by decide), hreg NET_POOL.BRIDGEMAX (by decide) (by decide)]
  obtain ⟨bufs, v, hdraw⟩ := drawBufs_isSome (n := bufsFor l.length) (b := ⟨3, 1, 0⟩) (s := u)
    (by rw [hmax', State.bufUse, hnet]; exact huse) (by rw [State.freeBufs, hnet]; exact hfree)
  obtain ⟨hlen, hdraws⟩ := drawBufs_draws hdraw
  have hstore := storeFrame_kept l bufs v
  have hstored : (storeFrame l bufs v).net = v.net := hstore.part .net (by decide)
  rw [classify_of_context hmem' hctrl hptp hctx' hdraw] at hx
  have huv : Kept [.mem, .net, .free] [] [] u ((storeFrame l bufs v).onNet fun u => { u with matched := u.matched ++ [(c, l, bufs)] }) :=
    ((hdraws.kept.mono (by decide) (by simp) (by simp)).trans (hstore.mono (by decide) (by simp) (by simp))).onNet _
  have hk := ((hcount.mono (ps' := [.mem, .net, .free]) (pg' := [6, 0xB]) (by simp) (by simp) (List.Subset.refl _)).trans
    (huv.mono (by simp) (by simp) (by simp)))
  have hkept : Kept [.mem, .net, .free] [6, 0xB] [] s ((storeFrame l bufs v).onNet fun u => { u with matched := u.matched ++ [(c, l, bufs)] }) :=
    ⟨hk.part, fun a ha _ _ => hk.reg a ha (by simp at ha ⊢; omega) (by simp)⟩
  have hsame : ∀ a b, count64 a b ((storeFrame l bufs v).onNet fun u => { u with matched := u.matched ++ [(c, l, bufs)] }) = count64 a b u :=
    fun a b => count64_congr (huv.getF_off _ (by simp) (by simp)) (huv.getF_off _ (by simp) (by simp))
  refine ⟨_, exec_next_of_kept hx hkept (by decide) hq, ⟨bufs, ?_, hlen⟩, ?_, ?_, ?_, ?_, hkept⟩
  · rw [State.onNet_net, hstored, hdraws.net, hnet]
  · exact (hsame _ _).trans hframes
  · exact (hsame _ _).trans hbytes
  · rw [State.onNet_net, hstored, hdraws.net, hnet]
  · rw [State.onNet_net, hstored, hdraws.net, hnet]

end Sys2Proof
end

section
/-! ### Frames of MGMT and frames that leave (O47) -/

namespace Sys2Proof.Machine

/-! #### The answer to an ARP frame (R393) -/

theorem byteAt_take {l : List Byte} {k n : Nat} (h : n < k) : byteAt (l.take k) n = byteAt l n := by
  simp only [byteAt, List.getD_eq_getElem?_getD, List.getElem?_take, if_pos h]

theorem beAt_take {l : List Byte} {m n k : Nat} (h : n + k ≤ m) : beAt (l.take m) n k = beAt l n k := by
  refine List.foldl_ext _ _ _ fun a i hi => ?_
  rw [byteAt_take (by have := List.mem_range.1 hi; omega)]

/-- The frame without its FCS is of the same type. -/
theorem etherType_take {l : List Byte} {m : Nat} (h : 18 ≤ m) : etherType (l.take m) = etherType l := by
  have htag : tagged (l.take m) = tagged l := by rw [tagged, tagged, beAt_take (by omega)]
  have hoff : typeOff l ≤ 16 := by
    unfold typeOff
    split <;> omega
  rw [etherType, etherType, typeOff, htag, ← typeOff, beAt_take (by omega)]

/-- The answer to an ARP frame depends on MGMT's addresses alone. -/
theorem mgmtAnswer_arp {l : List Byte} {s t : State} (x : Word) (hmin : 64 ≤ l.length) (htype : etherType l = 0x0806)
    (hip : t.getF (NET_PIP4.ADDR 4) = s.getF (NET_PIP4.ADDR 4)) (hmac : t.pmac 4 = s.pmac 4) : mgmtAnswer l x t = mgmtAnswer l 0 s := by
  have hbody : etherType (l.take (l.length - 4)) = 0x0806 := (etherType_take (by omega)).trans htype
  simp only [mgmtAnswer, if_pos hbody, hip, hmac, turnMac]

/-- An ARP frame is no command packet. -/
theorem mgmtCommand_arp {l : List Byte} (s : State) (htype : etherType l = 0x0806) : mgmtCommand l s = false := by
  have hip : ipInfo l = none := by
    unfold ipInfo
    rw [if_neg (by rw [htype]; simp), if_neg (by rw [htype]; simp)]
  simp only [mgmtCommand, udpInfo, hip]

theorem sysFree_congr {s t : State} (h : t.net = s.net) : sysFree t = sysFree s := by
  simp only [sysFree, State.bufUse, State.bufMax, h]

/-- An accepted frame on MGMT that is neither dropped nor a control frame is answered, or counted where it is for nobody (R393). -/
theorem execMgmtFrameReceived_of_good {l : List Byte} {s : State} (hmin : 64 ≤ l.length) (hmax : l.length ≤ 1522) (hfcs : fcsOk l = true)
    (hsys : sysFree (frameCounted 4 l s) = true) (htype : etherType l ≠ 0x8808) :
    (∀ r, mgmtAnswer l (Config.ipHeader (frameCounted 4 l s).free) ((frameCounted 4 l s).onFree (· + 1)) = some r →
        exec (.mgmtFrameReceived l) s =
          finish (mgmtOut (.frame 4 (withFcs r)) (withFcs r).length ((frameCounted 4 l s).onFree (· + 1)))) ∧
      (mgmtAnswer l (Config.ipHeader (frameCounted 4 l s).free) ((frameCounted 4 l s).onFree (· + 1)) = none →
        mgmtCommand l ((frameCounted 4 l s).onFree (· + 1)) = false →
        exec (.mgmtFrameReceived l) s = finish (((frameCounted 4 l s).onFree (· + 1)).incF (NET_NOTMINE.COUNT 4) 1)) := by
  rw [show exec (.mgmtFrameReceived l) s = execMgmtFrameReceived l s from rfl]
  unfold execMgmtFrameReceived
  rw [receiveCheck_of_good s hmin hmax hfcs]
  generalize frameCounted 4 l s = u at hsys
  dsimp only [fresh]
  rw [if_neg (by decide), if_neg (by simp [hsys]), if_neg htype]
  exact ⟨fun r hr => by rw [hr], fun hnone hcmd => by rw [hnone, hcmd]; rfl⟩

end Sys2Proof.Machine

namespace Sys2Proof

open Machine

section

variable {l : List Byte} {s : State}

/-- MGMT's addresses read as before a frame is counted. -/
theorem mgmtAnswer_frameCounted (x : Word) (hmin : 64 ≤ l.length) (htype : etherType l = 0x0806) :
    mgmtAnswer l x ((frameCounted 4 l s).onFree (· + 1)) = mgmtAnswer l 0 s := by
  have hk := (frameCounted_mgmt_kept l s).mono (ps' := [.free]) (by simp) (List.Subset.refl _) (List.Subset.refl _) |>.onFree (· + 1)
  have hreg : ∀ f : Fld, f.addr < 0x61100 → ((frameCounted 4 l s).onFree (· + 1)).getF f = s.getF f := fun f hf =>
    hk.getF_off f (by simp) (by simp; omega)
  exact mgmtAnswer_arp x hmin htype (hreg _ (by decide)) (by rw [State.pmac, State.pmac, hreg _ (by decide), hreg _ (by decide)])

end

theorem mgmtFrameReceived_answers (l : List Byte) (r : List Byte) (s : State) (hq : Quiet s) (hmin : 64 ≤ l.length) (hmax : l.length ≤ 1522)
    (hfcs : fcsOk l = true) (hsys : sysFree s = true) (hpaused : s.flag (NET_PSTAT.PAUSED 4) = false) (htype : etherType l = 0x0806)
    (hans : mgmtAnswer l 0 s = some r) :
    ∃ t, exec (.mgmtFrameReceived l) s = .next t ∧ t.outs = .frame 4 (withFcs r) :: s.outs
      ∧ framesGot 4 t = min (2 ^ 64 - 1) (framesGot 4 s + 1) ∧ framesSent 4 t = min (2 ^ 64 - 1) (framesSent 4 s + 1)
      ∧ bytesSent 4 t = min (2 ^ 64 - 1) (bytesSent 4 s + (withFcs r).length) ∧ t.cmd = s.cmd ∧ Kept [.outs, .free] [6] [] s t := by
  have hcount := frameCounted_mgmt_kept l s
  have hx := (execMgmtFrameReceived_of_good hmin hmax hfcs ((sysFree_congr (hcount.part .net (by decide))).trans hsys)
    (by rw [htype]; decide)).1 r ((mgmtAnswer_frameCounted _ hmin htype).trans hans)
  obtain ⟨hgot, -⟩ := got_frameCounted l s (by decide : 4 < 5)
  generalize frameCounted 4 l s = u at hcount hx hgot
  obtain ⟨v, hv⟩ : ∃ v, v = (u.onFree (· + 1)).out (.frame 4 (withFcs r)) := ⟨_, rfl⟩
  have huv : Kept [.outs, .free] [] [] u v := hv ▸ ((Kept.refl _ _ _ u).onFree _).out _
  have hout : mgmtOut (.frame 4 (withFcs r)) (withFcs r).length (u.onFree (· + 1)) = countTx 4 (withFcs r).length v := by
    have hoff : (u.onFree (· + 1)).flag (NET_PSTAT.PAUSED 4) = false :=
      (hcount.flag_off _ (by simp) (by decide)).trans hpaused
    rw [mgmtOut, if_neg (by simp [hoff]), mgmtSend, hv]
  rw [hout] at hx
  obtain ⟨hframes, hbytes⟩ := sent_countTx (p := 4) (withFcs r).length v (by decide)
  have hsent := countTx_kept (p := 4) (withFcs r).length v
  have hsv : Kept [.outs, .free] [] [0x61100, 0x61104, 0x61108, 0x6110C] s v :=
    (hcount.mono (by simp) (List.Subset.refl _) (List.Subset.refl _)).trans (huv.mono (List.Subset.refl _) (List.Subset.refl _) (by simp))
  have hk : Kept [.outs, .free] [6] [] s (countTx 4 (withFcs r).length v) :=
    (hsv.byPage (by decide)).countTx _ (by decide) (by decide) (by decide)
  have hsame : ∀ a b, 0x61140 ≤ a → 0x61140 ≤ b → count64 a b v = count64 a b s := fun a b ha hb =>
    count64_congr (hsv.getF_off _ (by simp) (by simp; omega)) (hsv.getF_off _ (by simp) (by simp; omega))
  rw [framesSent, hsame _ _ (by decide) (by decide)] at hframes
  rw [bytesSent, hsame _ _ (by decide) (by decide)] at hbytes
  refine ⟨_, exec_next_of_kept hx hk (by decide) hq, ?_, ?_, hframes, hbytes, hk.part .cmd (by decide), hk⟩
  · rw [show (countTx 4 (withFcs r).length v).outs = v.outs from hsent.part .outs (by decide), hv, State.outs_out, State.onFree_outs,
      show u.outs = s.outs from hcount.part .outs (by decide)]
  · rw [← hgot]
    exact (count64_congr (hsent.getF_off _ (by decide) (by decide)) (hsent.getF_off _ (by decide) (by decide))).trans
      (count64_congr (huv.getF_off _ (by simp) (by simp)) (huv.getF_off _ (by simp) (by simp)))

theorem mgmtFrameReceived_notMine (l : List Byte) (s : State) (hq : Quiet s) (hmin : 64 ≤ l.length) (hmax : l.length ≤ 1522)
    (hfcs : fcsOk l = true) (hsys : sysFree s = true) (htype : etherType l = 0x0806) (hans : mgmtAnswer l 0 s = none) :
    ∃ t, exec (.mgmtFrameReceived l) s = .next t
      ∧ t.getF (NET_NOTMINE.COUNT 4) = min (2 ^ (NET_NOTMINE.COUNT 4).width - 1) (s.getF (NET_NOTMINE.COUNT 4) + 1)
      ∧ framesGot 4 t = min (2 ^ 64 - 1) (framesGot 4 s + 1) ∧ t.outs = s.outs ∧ Kept [.free] [6] [] s t := by
  have hcount := frameCounted_mgmt_kept l s
  have hx := (execMgmtFrameReceived_of_good hmin hmax hfcs ((sysFree_congr (hcount.part .net (by decide))).trans hsys)
    (by rw [htype]; decide)).2 ((mgmtAnswer_frameCounted _ hmin htype).trans hans) (mgmtCommand_arp _ htype)
  obtain ⟨hgot, -⟩ := got_frameCounted l s (by decide : 4 < 5)
  generalize frameCounted 4 l s = u at hcount hx hgot
  have hsv : Kept [.free] [] [0x61100, 0x61104, 0x61108, 0x6110C] s (u.onFree (· + 1)) :=
    (hcount.mono (by simp) (List.Subset.refl _) (List.Subset.refl _)).onFree _
  have hk : Kept [.free] [6] [] s ((u.onFree (· + 1)).incF (NET_NOTMINE.COUNT 4) 1) := (hsv.byPage (by decide)).incF _ _
  refine ⟨_, exec_next_of_kept hx hk (by decide) hq, ?_, ?_, hk.part .outs (by decide), hk⟩
  · rw [State.getF_incF_same _ _ _ (by decide), hsv.getF_off (NET_NOTMINE.COUNT 4) (by simp) (by decide)]
  · rw [← hgot]
    exact count64_congr (State.getF_setF_other _ _ _ _ (by decide)) (State.getF_setF_other _ _ _ _ (by decide))

/-! #### Frames that leave (R401, R404, R552, R553) -/

/-- What follows as frame `f` of no host has left port `p`: it is counted, and its buffers return. -/
def frameGone (p : Nat) (pre : Bool) (f : EgFrame) (s : State) : State :=
  let s := if pre ∧ !f.express ∧ s.flag (NET_PSTAT.PREEMPT p) then s.incF (NET_PREEMPTS.COUNT p) 1 else s
  let s := if f.kind = 0 then s.incF (NET_BR_FWD.COUNT p) 1 else s
  let s := dropBufs f.bufs s
  if f.kind = 2 then
    countG 0x41 1 (onCtx f.ctx (fun u => { u with st := if u.st = 0 then 0 else 2 }) (incCtx f.ctx 0 1 s))
  else s

/-- The bytes with which frame `f` leaves port `p`, and whether a residence time does not fit in. -/
def leaving (p : Nat) (f : EgFrame) (s : State) : List Byte × Bool :=
  if f.kind = 3 then tcCorrect f.bytes ((s.stamp16 p true - f.ingress) * 4096) else (f.bytes, false)

/-- Port `p` with frame `f` sent as `bytes`. -/
def frameOut (p : Nat) (bytes : List Byte) (s : State) : State := countTx p (withFcs bytes).length (s.out (.frame p (withFcs bytes)))

theorem stamp16_onNPort (p q : Nat) (eg : Bool) (g : NPort → NPort) (s : State) : (onNPort q g s).stamp16 p eg = s.stamp16 p eg := rfl

theorem sendNext_of_next {p : Nat} (pre : Bool) {f : EgFrame} {q : List EgFrame} {s : State} (hlink : s.flag (NET_PSTAT.LINK p) = true)
    (hpaused : s.flag (NET_PSTAT.PAUSED p) = false) (hnext : nextEg (s.nport p).q = some (f, q)) (hkind : f.kind ≠ 4) (hhost : f.host = none) :
    sendNext p pre s = frameGone p pre f (frameOut p (leaving p f s).1
      (if (leaving p f s).2 then (onNPort p (fun u => { u with q := q }) s).incF PTP_TCERR.NOCORR 1 else onNPort p (fun u => { u with q := q }) s)) := by
  have hopen : ¬ ((!s.flag (NET_PSTAT.LINK p)) = true ∨ s.flag (NET_PSTAT.PAUSED p) = true) := by simp [hlink, hpaused]
  unfold sendNext
  rw [if_neg hopen, hnext]
  simp only [if_neg hkind, stamp16_onNPort, hhost]
  rfl

theorem frameGone_kept {p : Nat} (pre : Bool) (f : EgFrame) (s : State) :
    Kept [.net] [0xB] [0x60160 + p * 0x400, 0x60164 + p * 0x400] s (frameGone p pre f s) := by
  have hpre : ∀ {c : Prop} [Decidable c] {t : State}, Kept [.net] [0xB] [0x60160 + p * 0x400, 0x60164 + p * 0x400] s t →
      Kept [.net] [0xB] [0x60160 + p * 0x400, 0x60164 + p * 0x400] s (if c then t.incF (NET_PREEMPTS.COUNT p) 1 else t) := fun h =>
    .ite _ (fun _ => h.incF _ _ (.inr (by simp [NET_PREEMPTS.COUNT]))) fun _ => h
  have hfwd : ∀ {c : Prop} [Decidable c] {t : State}, Kept [.net] [0xB] [0x60160 + p * 0x400, 0x60164 + p * 0x400] s t →
      Kept [.net] [0xB] [0x60160 + p * 0x400, 0x60164 + p * 0x400] s (if c then t.incF (NET_BR_FWD.COUNT p) 1 else t) := fun h =>
    .ite _ (fun _ => h.incF _ _ (.inr (by simp [NET_BR_FWD.COUNT]))) fun _ => h
  have hcounted := (hfwd (c := f.kind = 0) (hpre (c := pre ∧ !f.express ∧ s.flag (NET_PSTAT.PREEMPT p)) (.refl _ _ _ s))).dropBufs f.bufs
  exact .ite _ (fun _ => (((hcounted.incCtx _ _ _).onCtx _ _).countG _ _)) fun _ => hcounted

theorem ports_ite {c : Prop} [Decidable c] {x y s : State} (hx : x.net.ports = s.net.ports) (hy : y.net.ports = s.net.ports) :
    (if c then x else y).net.ports = s.net.ports := by
  split
  · exact hx
  · exact hy

theorem ports_incF (f : Fld) (n : Nat) (s : State) : (s.incF f n).net.ports = s.net.ports := rfl

theorem ports_frameGone (p : Nat) (pre : Bool) (f : EgFrame) (s : State) : (frameGone p pre f s).net.ports = s.net.ports := by
  have hpre : (if pre ∧ !f.express ∧ s.flag (NET_PSTAT.PREEMPT p) then s.incF (NET_PREEMPTS.COUNT p) 1 else s).net.ports = s.net.ports :=
    ports_ite (ports_incF _ _ _) rfl
  unfold frameGone
  dsimp only
  refine ports_ite ((congrArg NetU.ports (net_countG _ _ _)).trans ?_) ?_
  all_goals exact ports_ite ((ports_incF _ _ _).trans hpre) hpre

theorem frameOut_kept {p : Nat} (bytes : List Byte) (s : State) :
    Kept [.outs] [0xB] [0x60140 + p * 0x400, 0x60144 + p * 0x400, 0x60148 + p * 0x400, 0x6014C + p * 0x400] s (frameOut p bytes s) :=
  ((Kept.refl _ _ _ s).out _).trans ((countTx_kept _ _).mono (by simp) (List.Subset.refl _) (List.Subset.refl _))

theorem outs_frameOut (p : Nat) (bytes : List Byte) (s : State) : (frameOut p bytes s).outs = .frame p (withFcs bytes) :: s.outs :=
  (countTx_kept _ _).part .outs (by decide)

/-- The next frame leaves port `p`: with `as` of the registers outside the port changed before it. -/
theorem sendNext_sends {p : Nat} (hp : p < 4) (pre : Bool) {f : EgFrame} {q : List EgFrame} {s : State} (hlink : s.flag (NET_PSTAT.LINK p) = true)
    (hpaused : s.flag (NET_PSTAT.PAUSED p) = false) (hnext : nextEg (s.nport p).q = some (f, q)) (hkind : f.kind ≠ 4) (hhost : f.host = none)
    (as : List Nat) (has : (leaving p f s).2 = true → 0x20068 ∈ as) :
    (sendNext p pre s).outs = .frame p (withFcs (leaving p f s).1) :: s.outs ∧ ((sendNext p pre s).nport p).q = q
      ∧ framesSent p (sendNext p pre s) = min (2 ^ 64 - 1) (framesSent p s + 1)
      ∧ bytesSent p (sendNext p pre s) = min (2 ^ 64 - 1) (bytesSent p s + (withFcs (leaving p f s).1).length)
      ∧ (∀ r, r ≠ p → (sendNext p pre s).nport r = s.nport r) ∧ Kept [.net, .outs] [6, 0xB] as s (sendNext p pre s) := by
  rw [sendNext_of_next pre hlink hpaused hnext hkind hhost]
  obtain ⟨v, hv⟩ : ∃ v, v = if (leaving p f s).2 then (onNPort p (fun u => { u with q := q }) s).incF PTP_TCERR.NOCORR 1
      else onNPort p (fun u => { u with q := q }) s := ⟨_, rfl⟩
  have hqueue := (Kept.refl [.net] [] [] s).onNPort p fun u => { u with q := q }
  have hports : ∀ r, v.nport r = (onNPort p (fun u => { u with q := q }) s).nport r := fun r => by
    rw [hv]
    split
    · rw [nport_incF]
    · rfl
  have hsv : Kept [.net] [] [0x20068] s v := by
    have hwide := hqueue.mono (as' := [0x20068]) (List.Subset.refl _) (List.Subset.refl _) (by simp)
    rw [hv]
    exact .ite _ (fun _ => hwide.incF _ _) fun _ => hwide
  have has' : Kept [.net] [] as s v := by
    have hwide := hqueue.mono (as' := as) (List.Subset.refl _) (List.Subset.refl _) (by simp)
    rw [hv]
    exact .ite _ (fun h => hwide.incF _ _ (.inr (has h))) fun _ => hwide
  rw [← hv]
  clear hv
  generalize (leaving p f s).1 = bytes
  have hout := frameOut_kept (p := p) bytes v
  obtain ⟨hframes, hbytes⟩ := sent_countTx (withFcs bytes).length (v.out (.frame p (withFcs bytes))) (by omega : p < 5)
  have houts := outs_frameOut p bytes v
  change framesSent p (frameOut p bytes v) = _ at hframes
  change bytesSent p (frameOut p bytes v) = _ at hbytes
  have hbefore : ∀ a b, a ≠ 0x20068 → b ≠ 0x20068 → count64 a b (v.out (.frame p (withFcs bytes))) = count64 a b s := fun a b ha hb =>
    count64_congr ((State.getF_out _ _ _).trans (hsv.getF_off _ (by simp) (by simpa using ha)))
      ((State.getF_out _ _ _).trans (hsv.getF_off _ (by simp) (by simpa using hb)))
  rw [framesSent, hbefore _ _ (by omega) (by omega)] at hframes
  rw [bytesSent, hbefore _ _ (by omega) (by omega)] at hbytes
  have hgone := frameGone_kept (p := p) pre f (frameOut p bytes v)
  have hafter : ∀ a b, a / 65536 ≠ 0xB → b / 65536 ≠ 0xB → a < 0x60160 + p * 0x400 → b < 0x60160 + p * 0x400 →
      count64 a b (frameGone p pre f (frameOut p bytes v)) = count64 a b (frameOut p bytes v) := fun a b ha hb hap hbp =>
    count64_congr (hgone.getF_off _ (by simpa using ha) (by simp; omega)) (hgone.getF_off _ (by simpa using hb) (by simp; omega))
  have hnport : ∀ r, (frameGone p pre f (frameOut p bytes v)).nport r = (onNPort p (fun u => { u with q := q }) s).nport r := fun r => by
    rw [State.nport_congr (ports_frameGone p pre f _), State.nport_congr (congrArg NetU.ports (hout.part .net (by decide))), hports]
  refine ⟨?_, ?_, ?_, ?_, fun r hr => ?_, ?_⟩
  · rw [show (frameGone p pre f (frameOut p bytes v)).outs = (frameOut p bytes v).outs from hgone.part .outs (by decide), houts,
      show v.outs = s.outs from hsv.part .outs (by decide)]
  · rw [hnport, nport_onNPort_same]
  · exact (hafter _ _ (by omega) (by omega) (by omega) (by omega)).trans hframes
  · exact (hafter _ _ (by omega) (by omega) (by omega) (by omega)).trans hbytes
  · rw [hnport, nport_onNPort_other hr]
  · have hnear : ∀ a, a / 65536 ∉ [6, 0xB] → a ∉ [0x60140 + p * 0x400, 0x60144 + p * 0x400, 0x60148 + p * 0x400, 0x6014C + p * 0x400] ∧
        a ∉ [0x60160 + p * 0x400, 0x60164 + p * 0x400] := fun a ha => by
      simp only [List.mem_cons, List.not_mem_nil, or_false, not_or] at ha ⊢
      omega
    refine ⟨fun x hx => x.same_trans (has'.part x (by simp_all)) (x.same_trans (hout.part x (by simp_all)) (hgone.part x (by simp_all))),
      fun a ha has _ => ?_⟩
    obtain ⟨hsent, hcounted⟩ := hnear a ha
    have hB : a / 65536 ∉ [0xB] := by simp_all
    exact (hgone.reg a hB hcounted (by simp)).trans ((hout.reg a hB hsent (by simp)).trans (has'.reg a (by simp) has (by simp)))

theorem frameTransmitDone_eq {p : Nat} (pre : Bool) (s : State) (hp : p < 4) : exec (.frameTransmitDone p pre) s = finish (sendNext p pre s) := by
  show finish (if p < 4 then _ else s) = _
  rw [if_pos hp]

theorem frameTransmitDone_sends (p : Nat) (pre : Bool) (f : EgFrame) (q : List EgFrame) (s : State) (hq : Quiet s) (hp : p < 4)
    (hlink : s.flag (NET_PSTAT.LINK p) = true) (hpaused : s.flag (NET_PSTAT.PAUSED p) = false) (hnext : nextEg (s.nport p).q = some (f, q))
    (hfwd : f.kind ≠ 3) (hkind : f.kind ≠ 4) (hhost : f.host = none) :
    ∃ t, exec (.frameTransmitDone p pre) s = .next t ∧ t.outs = .frame p (withFcs f.bytes) :: s.outs ∧ (t.nport p).q = q
      ∧ framesSent p t = min (2 ^ 64 - 1) (framesSent p s + 1)
      ∧ bytesSent p t = min (2 ^ 64 - 1) (bytesSent p s + (withFcs f.bytes).length)
      ∧ (∀ r, r ≠ p → t.nport r = s.nport r) ∧ Kept [.net, .outs] [6, 0xB] [] s t := by
  have hleave : leaving p f s = (f.bytes, false) := if_neg hfwd
  have hsent := sendNext_sends hp pre hlink hpaused hnext hkind hhost [] (by rw [hleave]; simp)
  rw [hleave] at hsent
  obtain ⟨houts, hqueue, hframes, hbytes, hother, hk⟩ := hsent
  exact ⟨_, exec_next_of_kept (frameTransmitDone_eq pre s hp) hk (by decide) hq, houts, hqueue, hframes, hbytes, hother, hk⟩

theorem frameTransmitDone_corrects (p : Nat) (pre : Bool) (f : EgFrame) (q : List EgFrame) (s : State) (hq : Quiet s) (hp : p < 4)
    (hlink : s.flag (NET_PSTAT.LINK p) = true) (hpaused : s.flag (NET_PSTAT.PAUSED p) = false) (hnext : nextEg (s.nport p).q = some (f, q))
    (hfwd : f.kind = 3) (hhost : f.host = none) :
    ∃ t, exec (.frameTransmitDone p pre) s = .next t
      ∧ t.outs = .frame p (withFcs (tcCorrect f.bytes ((s.stamp16 p true - f.ingress) * 4096)).1) :: s.outs ∧ (t.nport p).q = q
      ∧ framesSent p t = min (2 ^ 64 - 1) (framesSent p s + 1)
      ∧ (∀ r, r ≠ p → t.nport r = s.nport r) ∧ Kept [.net, .outs] [6, 0xB] [PTP_TCERR.NOCORR.addr] s t := by
  have hleave : leaving p f s = tcCorrect f.bytes ((s.stamp16 p true - f.ingress) * 4096) := if_pos hfwd
  have hsent := sendNext_sends hp pre hlink hpaused hnext (by omega) hhost [PTP_TCERR.NOCORR.addr] (fun _ => List.mem_singleton_self _)
  rw [hleave] at hsent
  obtain ⟨houts, hqueue, hframes, -, hother, hk⟩ := hsent
  exact ⟨_, exec_next_of_kept (frameTransmitDone_eq pre s hp) hk (by decide) hq, houts, hqueue, hframes, hother, hk⟩

/-! #### Frames that leave a queue too late -/

/-- The first frame of a queue that satisfies `f`, one of no host, leaves it: it is counted and its buffers return. -/
theorem dropFirst_of_found {p i : Nat} {f : EgFrame → Bool} {count : State → State} {x : EgFrame} {s : State}
    (hfind : (s.nport p).q.findIdx? f = some i) (hget : (s.nport p).q[i]? = some x) (hhost : x.host = none) :
    dropFirst p f count s = dropBufs x.bufs (count (onNPort p (fun u => { u with q := (s.nport p).q.take i ++ (s.nport p).q.drop (i + 1) }) s)) := by
  unfold dropFirst
  simp only [hfind, hget, discardEg, hhost]

/-- A frame that is too late in its queue is dropped and counted. -/
theorem dropFirst_counts {p i : Nat} {f : EgFrame → Bool} {x : EgFrame} {s : State} (c : Fld) (hc : c.lsb + c.width ≤ 32)
    (hfind : (s.nport p).q.findIdx? f = some i) (hget : (s.nport p).q[i]? = some x) (hhost : x.host = none) :
    ((dropFirst p f (fun s => s.incF c 1) s).nport p).q = (s.nport p).q.take i ++ (s.nport p).q.drop (i + 1)
      ∧ (dropFirst p f (fun s => s.incF c 1) s).getF c = min (2 ^ c.width - 1) (s.getF c + 1)
      ∧ (∀ q, q ≠ p → (dropFirst p f (fun s => s.incF c 1) s).nport q = s.nport q)
      ∧ Kept [.net] [] [c.addr] s (dropFirst p f (fun s => s.incF c 1) s) := by
  rw [dropFirst_of_found hfind hget hhost]
  have hk := ((Kept.refl [.net] [] [c.addr] s).onNPort p fun u => { u with q := (s.nport p).q.take i ++ (s.nport p).q.drop (i + 1) }).incF
    c 1 (.inr (by simp))
  have hnport : ∀ (l : List Nat) (t : State) (q : Nat), (dropBufs l (t.incF c 1)).nport q = t.nport q := fun _ _ _ => rfl
  refine ⟨?_, ?_, fun q hq => ?_, hk.dropBufs _⟩
  · rw [hnport, nport_onNPort_same]
  · rw [getF_dropBufs, State.getF_incF_same _ _ _ hc, getF_onNPort]
  · rw [hnport, nport_onNPort_other hq]

theorem tcDrop_drops (p : Nat) (i : Nat) (x : EgFrame) (s : State) (hq : Quiet s) (hp : p < 4) (hpaused : s.flag (NET_PSTAT.PAUSED p) = true)
    (hfind : (s.nport p).q.findIdx? (fun f => decide (f.kind = 3) && decide (f.due ≤ s.time)) = some i) (hget : (s.nport p).q[i]? = some x)
    (hhost : x.host = none) :
    ∃ t, exec (.tcDrop p) s = .next t ∧ (t.nport p).q = (s.nport p).q.take i ++ (s.nport p).q.drop (i + 1)
      ∧ t.getF PTP_TCERR.DROP = min (2 ^ PTP_TCERR.DROP.width - 1) (s.getF PTP_TCERR.DROP + 1)
      ∧ (∀ q, q ≠ p → t.nport q = s.nport q) ∧ Kept [.net] [] [PTP_TCERR.DROP.addr] s t := by
  have hx : exec (.tcDrop p) s = finish (dropFirst p (fun f => decide (f.kind = 3) && decide (f.due ≤ s.time)) (fun s => s.incF PTP_TCERR.DROP 1) s) := by
    show finish (if _ then _ else s) = _
    rw [if_pos ⟨hp, hpaused⟩]
  obtain ⟨hqueue, hcount, hother, hk⟩ := dropFirst_counts PTP_TCERR.DROP (by decide) hfind hget hhost
  exact ⟨_, exec_next_of_kept hx hk (by decide) hq, hqueue, hcount, hother, hk⟩

/-- Settles O47, clause by clause: the counters of reception are followed through `receiveCheck`, a frame that a context alone takes through
the drawing of its buffers, a frame that leaves through `sendNext`, and one that is too late through `dropFirst`. -/
theorem networkFrames : Obligations.NetworkFrames :=
  ⟨mpFrameReceived_rejects, mpFrameReceived_matches, mgmtFrameReceived_runt, mgmtFrameReceived_answers, mgmtFrameReceived_notMine,
    frameTransmitDone_sends, frameTransmitDone_corrects, tcDrop_drops⟩

end Sys2Proof
end

section
/-! ### Starts, stops and loss of media streams (O44) -/

namespace Sys2Proof.Machine

/-- The stream requests are taken. -/
abbrev requestsTaken (s : State) : State := s.onNet fun u => { u with reqs := [] }

theorem actCtx_of_due {c n : Nat} {o start : Bool} {s : State} (hreq : s.net.reqs = [(c, ⟨o, start, some n, none⟩)]) (hdue : n ≤ s.shot) :
    actCtx c start s = if start then startCtx c (requestsTaken s) else stopCtx c (requestsTaken s) := by
  unfold actCtx
  simp [hreq, hdue]

@[simp] theorem ctx_requestsTaken (s : State) (c : Nat) : (requestsTaken s).ctx c = s.ctx c := rfl

@[simp] theorem isRx_requestsTaken (s : State) (c : Nat) : (requestsTaken s).isRx c = s.isRx c := rfl

/-! #### A start -/

/-- What the take-up of released samples leaves of a context. -/
structure CtxRuns (v w : CtxU) : Prop where
  st : w.st = v.st
  since : w.since = v.since
  seq : w.seq = v.seq
  lost : w.lost = v.lost
  asrc : w.asrc = v.asrc

/-- A context takes up released samples, or nothing happens. -/
theorem streamRelease_cases (c : Nat) (s : State) :
    streamRelease c s = s ∨ ∃ f, streamRelease c s = onCtx c f s ∧ ∀ v, CtxRuns v (f v) := by
  unfold streamRelease
  dsimp only
  split
  · exact .inl rfl
  · split
    · split
      · exact .inr ⟨_, rfl, fun _ => ⟨rfl, rfl, rfl, rfl, rfl⟩⟩
      · exact .inl rfl
    · split
      · exact .inr ⟨_, rfl, fun _ => ⟨rfl, rfl, rfl, rfl, rfl⟩⟩
      · split
        · exact .inr ⟨_, rfl, fun _ => ⟨rfl, rfl, rfl, rfl, rfl⟩⟩
        · exact .inr ⟨_, rfl, fun _ => ⟨rfl, rfl, rfl, rfl, rfl⟩⟩

theorem ctx_streamRelease_same (c : Nat) (s : State) : CtxRuns (s.ctx c) ((streamRelease c s).ctx c) := by
  obtain h | ⟨f, h, hf⟩ := streamRelease_cases c s
  · rw [h]
    exact ⟨rfl, rfl, rfl, rfl, rfl⟩
  · rw [h, ctx_onCtx_same]
    exact hf _

theorem ctx_streamRelease_other {c d : Nat} (hd : d ≠ c) (s : State) : (streamRelease c s).ctx d = s.ctx d := by
  obtain h | ⟨f, h, -⟩ := streamRelease_cases c s
  · rw [h]
  · rw [h, ctx_onCtx_other hd]

theorem reqs_streamRelease (c : Nat) (s : State) : (streamRelease c s).net.reqs = s.net.reqs := by
  obtain h | ⟨f, h, -⟩ := streamRelease_cases c s
  · rw [h]
  · rw [h]
    rfl

/-- A claim of the channels of context `c`. -/
def claimChans (c : Nat) (u : CtxU) (rx : Bool) (s : State) : State :=
  s.onFab fun f =>
    if rx then { f with rxClaim := f.rxClaim ++ (List.range u.nch).map fun k => (u.first + k, c) }
    else { f with txClaim := f.txClaim ++ (List.range u.nch).map fun k => (u.first + k, c) }

/-- What a start changes of the network's converters and of the concealment, before the context itself. -/
def streamPrepared (u : CtxU) (rx : Bool) (s : State) : State :=
  let s := s.onNet fun n => { n with asrc := n.asrc + if u.conv then u.nch else 0 }
  if rx then s.onCs fun x => { x with conceal := smKeep (fun k => !(streamKey u.first ≤ k ∧ k < streamKey (u.first + u.nch))) x.conceal }
  else s

/-- A start that passes its checks. -/
theorem startCtx_of_checked {c : Nat} {s : State} (hst : (s.ctx c).st = 0) (hcheck : streamStartCheck c s = 0) :
    ∃ f, startCtx c s = streamRelease c (onCtx c f (streamPrepared (s.ctx c) (s.isRx c) (claimChans c (s.ctx c) (s.isRx c) s))) ∧
      ∀ v, (f v).st = 1 ∧ (f v).since = s.shot ∧ (f v).seq = none ∧ (f v).lost = false ∧
        (f v).asrc = if (s.ctx c).conv then (s.ctx c).nch else 0 := by
  have hshot : ∀ u rx, (streamPrepared u rx (claimChans c (s.ctx c) (s.isRx c) s)).shot = s.shot := fun u rx => by
    unfold streamPrepared
    cases rx <;> rfl
  unfold startCtx
  dsimp only
  rw [if_neg (by simp [hst]), if_neg (by simp [hcheck])]
  refine ⟨_, rfl, fun v => ⟨rfl, hshot _ _, rfl, rfl, rfl⟩⟩

end Sys2Proof.Machine

namespace Sys2Proof

open Machine

theorem Kept.streamRelease {ps : List Part} {pg as : List Nat} {s t : State} (c : Nat) (h : Kept ps pg as s t)
    (hp : .net ∈ ps := by decide) : Kept ps pg as s (Machine.streamRelease c t) := by
  obtain e | ⟨f, e, -⟩ := streamRelease_cases c t
  · rw [e]
    exact h
  · rw [e]
    exact h.onCtx _ _ hp

section

variable (c : Nat) (u : CtxU) (rx : Bool) (s : State)

theorem claimChans_kept : Kept [.fab] [] [] s (claimChans c u rx s) := (Kept.refl _ _ _ s).onFab _

theorem streamPrepared_kept : Kept [.net, .cs] [] [] s (streamPrepared u rx s) := by
  have h := (Kept.refl [.net, .cs] [] [] s).onNet fun n => { n with asrc := n.asrc + if u.conv then u.nch else 0 }
  exact .ite _ (fun _ => h.onCs _) fun _ => h

theorem net_streamPrepared : (streamPrepared u rx s).net = { s.net with asrc := s.net.asrc + if u.conv then u.nch else 0 } := by
  unfold streamPrepared
  cases rx <;> rfl

end

theorem streamStartAct_starts (c : Nat) (o : Bool) (n : Nat) (s : State) (hq : Quiet s) (hc : c < 1024)
    (hreq : s.net.reqs = [(c, ⟨o, true, some n, none⟩)]) (hdue : n ≤ s.shot) (hst : (s.ctx c).st = 0)
    (hcheck : streamStartCheck c (s.onNet fun u => { u with reqs := [] }) = 0) :
    ∃ t, exec (.streamStartAct c) s = .next t ∧ (t.ctx c).st = 1 ∧ (t.ctx c).since = s.shot ∧ (t.ctx c).seq = none
      ∧ (t.ctx c).lost = false ∧ ((t.ctx c).asrc = (if (s.ctx c).conv then (s.ctx c).nch else 0)) ∧ t.net.reqs = []
      ∧ ((s.isRx c = true → t.fab.rxClaim = s.fab.rxClaim ++ (List.range (s.ctx c).nch).map (fun k => ((s.ctx c).first + k, c))
        ∧ t.fab.txClaim = s.fab.txClaim))
      ∧ ((s.isRx c = false → t.fab.txClaim = s.fab.txClaim ++ (List.range (s.ctx c).nch).map (fun k => ((s.ctx c).first + k, c))
        ∧ t.fab.rxClaim = s.fab.rxClaim))
      ∧ (∀ d, d ≠ c → t.ctx d = s.ctx d) ∧ Kept [.net, .fab, .cs] [] [] s t := by
  obtain ⟨f, hstart, hf⟩ := startCtx_of_checked (s := requestsTaken s) (by simpa using hst) hcheck
  simp only [ctx_requestsTaken, isRx_requestsTaken] at hstart hf
  have hx : exec (.streamStartAct c) s = finish (startCtx c (requestsTaken s)) := by
    show finish (if c < 1024 then actCtx c true s else s) = _
    rw [if_pos hc, actCtx_of_due hreq hdue, if_pos rfl]
  obtain ⟨v, hv⟩ : ∃ v, v = streamPrepared (s.ctx c) (s.isRx c) (claimChans c (s.ctx c) (s.isRx c) (requestsTaken s)) := ⟨_, rfl⟩
  rw [← hv] at hstart
  rw [hstart] at hx
  have hclaimed := claimChans_kept c (s.ctx c) (s.isRx c) (requestsTaken s)
  have hprepared := streamPrepared_kept (s.ctx c) (s.isRx c) (claimChans c (s.ctx c) (s.isRx c) (requestsTaken s))
  have hnet := net_streamPrepared (s.ctx c) (s.isRx c) (claimChans c (s.ctx c) (s.isRx c) (requestsTaken s))
  rw [← hv] at hprepared hnet
  rw [show (claimChans c (s.ctx c) (s.isRx c) (requestsTaken s)).net = (requestsTaken s).net from hclaimed.part .net (by decide)] at hnet
  have hctx : ∀ d, v.ctx d = s.ctx d := fun d => State.ctx_congr (by rw [hnet, State.onNet_net]) d
  have hsv : Kept [.net, .fab, .cs] [] [] s v :=
    (((Kept.refl _ _ _ s).onNet _).trans (hclaimed.mono (by decide) (by simp) (by simp))).trans (hprepared.mono (by decide) (by simp) (by simp))
  have hk := (hsv.onCtx c f).streamRelease c
  obtain ⟨hrunSt, hrunSince, hrunSeq, hrunLost, hrunAsrc⟩ := ctx_streamRelease_same c (onCtx c f v)
  obtain ⟨hfSt, hfSince, hfSeq, hfLost, hfAsrc⟩ := hf (v.ctx c)
  rw [ctx_onCtx_same] at hrunSt hrunSince hrunSeq hrunLost hrunAsrc
  have hfab : (Machine.streamRelease c (onCtx c f v)).fab = (claimChans c (s.ctx c) (s.isRx c) (requestsTaken s)).fab :=
    (((Kept.refl [.net] [] [] _).onCtx c f).streamRelease c |>.part .fab (by decide)).trans (hprepared.part .fab (by decide))
  refine ⟨_, exec_next_of_kept hx hk (by decide) hq, hrunSt.trans hfSt, hrunSince.trans hfSince, hrunSeq.trans hfSeq, hrunLost.trans hfLost,
    hrunAsrc.trans hfAsrc, ?_, fun hrx => ?_, fun hrx => ?_, fun d hd => ?_, hk⟩
  · rw [reqs_streamRelease]
    exact congrArg NetU.reqs hnet
  · rw [hfab, hrx]
    exact ⟨rfl, rfl⟩
  · rw [hfab, hrx]
    exact ⟨rfl, rfl⟩
  · rw [ctx_streamRelease_other hd, ctx_onCtx_other hd, hctx]

/-! #### A stop -/

/-- A context that is stopped. -/
def ctxStopped (v : CtxU) : CtxU :=
  { v with st := 0, lost := false, got := [], held := [], tx := [], resv := 0, asrc := 0, lock := false, playing := false, unl := false }

/-- The network and the claims without what context `c` held. -/
def ctxReleased (c : Nat) (s : State) : State :=
  let u := s.ctx c
  let s := s.onFab fun f => { f with rxClaim := f.rxClaim.filter fun x => !(s.isRx c ∧ x.2 = c), txClaim := f.txClaim.filter fun x => !(!s.isRx c ∧ x.2 = c) }
  let s := s.onNet fun n => { n with asrc := n.asrc - u.asrc }
  let s := dropBufs (u.held.flatMap (·.2)) s
  let s := dropBufs ((s.net.matched.filter fun m => m.1 = c).flatMap (·.2.2)) s
  s.onNet fun n => { n with matched := n.matched.filter fun m => m.1 ≠ c }

theorem stopCtx_of_started {c : Nat} {s : State} (hst : (s.ctx c).st ≠ 0) : stopCtx c s = onCtx c ctxStopped (ctxReleased c s) := by
  unfold stopCtx
  exact if_neg hst

theorem ctxReleased_kept (c : Nat) (s : State) : Kept [.net, .fab] [] [] s (ctxReleased c s) := by
  unfold ctxReleased
  exact (((((Kept.refl [.net, .fab] [] [] s).onFab _).onNet _).dropBufs _).dropBufs _).onNet _

theorem ctx_ctxReleased (c d : Nat) (s : State) : (ctxReleased c s).ctx d = s.ctx d := by
  simp only [ctxReleased, dropBufs, State.ctx, State.onNet_net, State.onFab_net]

theorem streamStopAct_stops (c : Nat) (o : Bool) (n : Nat) (s : State) (hq : Quiet s) (hc : c < 1024)
    (hreq : s.net.reqs = [(c, ⟨o, false, some n, none⟩)]) (hdue : n ≤ s.shot) (hst : (s.ctx c).st ≠ 0) :
    ∃ t, exec (.streamStopAct c) s = .next t ∧ (t.ctx c).st = 0 ∧ (t.ctx c).asrc = 0 ∧ (t.ctx c).resv = 0 ∧ (t.ctx c).held = []
      ∧ (t.ctx c).words = (s.ctx c).words ∧ t.net.reqs = [] ∧ ((s.isRx c = true → (t.fab.rxClaim.any fun x => x.2 = c) = false))
      ∧ ((s.isRx c = false → (t.fab.txClaim.any fun x => x.2 = c) = false)) ∧ (∀ d, d ≠ c → t.ctx d = s.ctx d) ∧ t.mem = s.mem := by
  obtain ⟨v, hv⟩ : ∃ v, v = onCtx c ctxStopped (ctxReleased c (requestsTaken s)) := ⟨_, rfl⟩
  have hx : exec (.streamStopAct c) s = .next (settle (bufCand v)) := by
    show finish (if c < 1024 then bufCand (actCtx c false s) else s) = _
    rw [if_pos hc, actCtx_of_due hreq hdue, if_neg Bool.false_ne_true, stopCtx_of_started (by simpa using hst), hv, finish]
  have hsv : Kept [.net, .fab] [] [] s v :=
    hv ▸ (((Kept.refl _ _ _ s).onNet _).trans (ctxReleased_kept c (requestsTaken s))).onCtx _ _
  have hfit : SourcesFit v := hq.sourcesFit.congr (hsv.part .flt (by decide))
  have hr : ClockReacts v (bufCand v) := .bufCand (Reports.refl _ _ _ v)
  have hnet := hr.net_settled hfit
  have hfab : (settle (bufCand v)).fab = v.fab := (hr.settled hfit).part .fab (by decide)
  have hctx : ∀ d, (settle (bufCand v)).ctx d = v.ctx d := State.ctx_congr (by rw [hnet])
  have hself : (settle (bufCand v)).ctx c = ctxStopped (s.ctx c) := by rw [hctx, hv, ctx_onCtx_same, ctx_ctxReleased, ctx_requestsTaken]
  refine ⟨_, hx, by rw [hself]; rfl, by rw [hself]; rfl, by rw [hself]; rfl, by rw [hself]; rfl, by rw [hself]; rfl, ?_, fun hrx => ?_,
    fun hrx => ?_, fun d hd => ?_, ?_⟩
  · rw [hnet, hv]
    rfl
  · rw [hfab, hv]
    simp [onCtx, ctxReleased, dropBufs, hrx]
  · rw [hfab, hv]
    simp [onCtx, ctxReleased, dropBufs, hrx]
  · rw [hctx, hv, ctx_onCtx_other hd, ctx_ctxReleased, ctx_requestsTaken]
  · exact ((hr.settled hfit).part .mem (by decide)).trans (hsv.part .mem (by decide))

/-! #### A loss -/

/-- A context that has lost its source. -/
def ctxLost (v : CtxU) : CtxU :=
  if v.conv then { v with lost := true, lock := false, playing := false, held := [], got := [] } else { v with lost := true, lock := false }

theorem loseCtx_of_running {c : Nat} {s : State} (hrx : c < s.getF NET_SPART.RXCOUNT) (hst : (s.ctx c).st ≠ 0) (hlost : (s.ctx c).lost = false) :
    ∃ w, loseCtx c s = raise 0x42 0 c w ∧ w.ctx c = ctxLost (s.ctx c) ∧ ∀ d, d ≠ c → w.ctx d = s.ctx d := by
  have hdrop : ∀ (l : List Nat) (t : State) (d : Nat), (dropBufs l t).ctx d = t.ctx d := fun _ _ _ => rfl
  have hbit : bitOf (nAt (s.ctx c).words 0) 29 = (s.ctx c).conv := rfl
  unfold loseCtx
  dsimp only
  rw [if_neg (by simp [hst, hlost, hrx])]
  simp only [hbit]
  refine ⟨_, rfl, ?_, fun d hd => ?_⟩
  · rw [ctx_onCtx_same, ctxLost]
    cases (s.ctx c).conv <;> simp [hdrop]
  · rw [ctx_onCtx_other hd]
    split
    · rw [hdrop, ctx_onCtx_other hd]
    · rfl

theorem streamLost_reports (c : Nat) (s : State) (hq : Quiet s) (hc : c < 1024) (hrx : c < s.getF NET_SPART.RXCOUNT) (hst : (s.ctx c).st ≠ 0)
    (hlost : (s.ctx c).lost = false) :
    ∃ t, exec (.streamLost c) s = .next t
      ∧ (t.ctx c = (if (s.ctx c).conv then { s.ctx c with lost := true, lock := false, playing := false, held := [], got := [] }
        else { s.ctx c with lost := true, lock := false }))
      ∧ (∀ d, d ≠ c → t.ctx d = s.ctx d) ∧ bitOf (t.getF (FLT_STICKY.BITS 2)) 2 = true ∧ Quiet t := by
  obtain ⟨w, hw, hself, hother⟩ := loseCtx_of_running hrx hst hlost
  have hx : exec (.streamLost c) s = .next (settle (bufCand (loseCtx c s))) := by
    show finish (if c < 1024 then _ else s) = _
    rw [if_pos hc, finish]
  have hfit : SourcesFit (loseCtx c s) := (loseCtx_reports c s).fits hq.sourcesFit
  have hr : ClockReacts (loseCtx c s) (bufCand (loseCtx c s)) := .bufCand (Reports.refl _ _ _ _)
  have hctx : ∀ d, (settle (bufCand (loseCtx c s))).ctx d = w.ctx d :=
    State.ctx_congr (by rw [hr.net_settled hfit, hw, raise_net])
  obtain ⟨m, hm, hsrc⟩ := raise_sends 0x42 0 c w
  rw [← hw] at hm
  have hsticky := hr.sticky hfit hm
  rw [hsrc] at hsticky
  exact ⟨_, hx, (hctx c).trans hself, fun d hd => (hctx d).trans (hother d hd), hsticky, settle_wire _⟩

/-- Settles O44, clause by clause: a start and a stop through what they do to the context, the claims and the clock unit, a loss through its
message. -/
theorem streamStartsStopsAndLoss : Obligations.StreamStartsStopsAndLoss :=
  ⟨streamStartAct_starts, streamStopAct_stops, streamLost_reports⟩

end Sys2Proof
end

section
/-! ### Packets of media streams (O45) -/

namespace Sys2Proof.Machine

/-! #### Packets that are accepted (R423, R425, R427, R428) -/

/-- The oldest matched frame is taken. -/
abbrev matchedTaken (s : State) : State := s.onNet fun n => { n with matched := [] }

/-- The sequence number of the first packet of context `c` is taken on. -/
def seqBegun (c seq : Nat) (s : State) : State := onCtx c (fun u => { u with seq := some ((seq + 1) % 65536) }) s

theorem seqStep_of_none {c seq : Nat} {s : State} (h : (s.ctx c).seq = none) : seqStep c seq s = seqBegun c seq s := by
  unfold seqStep
  rw [h]
  rfl

section

variable {c pos pay l4 : Nat} {l : List Byte} {bufs : List Nat} {s : State}

/-- The first packet of a context that fits into its reservation comes to its samples. -/
theorem packetAccept_of_first (hmatch : s.net.matched = [(c, l, bufs)]) (hst : (s.ctx c).st ≠ 0) (hrx : s.isRx c = true)
    (hpay : rtpPayload (s.ctx c) l = some pay) (hudp : (udpInfo l).map (fun x => x.1.l4) = some l4)
    (hfits : (s.ctx c).held.length < reservePackets c (s.ctx c) s) (hseq : (s.ctx c).seq = none) :
    ((s.ctx c).conv = true → packetAccept c pos s = placeConv c (beAt l (l4 + 12) 4) bufs (seqBegun c (beAt l (l4 + 10) 2) (matchedTaken s))) ∧
      ((s.ctx c).conv = false → bitOf (s.ctx c).w0 28 = false → packetAccept c pos s = placeLocked c
        (nearIndex ((beAt l (l4 + 12) 4 + ((s.ctx c).delay + 2 ^ 32 - nAt (s.ctx c).words 6) % 2 ^ 32) % 2 ^ 32) (s.shot * s.n + pos))
        (payloadSamples (s.ctx c) l pay) bufs
        (onCtx c (fun u => { u with offset := some (((s.ctx c).delay + 2 ^ 32 - nAt (s.ctx c).words 6) % 2 ^ 32 % 2 ^ 32) })
          (seqBegun c (beAt l (l4 + 10) 2) (matchedTaken s)))) := by
  obtain ⟨⟨i, sp, dp⟩, hinfo, hl4⟩ := Option.map_eq_some_iff.1 hudp
  subst hl4
  have hctx : (matchedTaken s).ctx c = s.ctx c := rfl
  have hrx' : (matchedTaken s).isRx c = true := hrx
  have hres : reservePackets c (s.ctx c) (matchedTaken s) = reservePackets c (s.ctx c) s := rfl
  have hfind : s.net.matched.find? (fun m => decide (m.1 = c)) = some (c, l, bufs) := by rw [hmatch]; simp
  have herase : (s.onNet fun n => { n with matched := n.matched.eraseP fun m => decide (m.1 = c) }) = matchedTaken s := by
    show { s with net := { s.net with matched := _ } } = _
    rw [hmatch]
    simp [matchedTaken, State.onNet]
  have hnow : (matchedTaken s).shot * (matchedTaken s).n = s.shot * s.n := rfl
  have hts : i.l4 + 8 + 4 = i.l4 + 12 := rfl
  have hsq : i.l4 + 8 + 2 = i.l4 + 10 := rfl
  unfold packetAccept
  simp only [hfind, herase, hctx, hrx', hpay, hinfo, hres, hts, hsq, hnow]
  rw [if_neg (by simp [hst]), if_neg (by omega), seqStep_of_none (by rw [hctx, hseq])]
  exact ⟨fun hconv => by rw [if_pos hconv], fun hconv hanchor => by
    rw [hconv, hanchor]
    simp only [Bool.false_eq_true, if_false]⟩

end

/-- An accepted packet, as its context shows it (R426). -/
def ctxAccepted (u : CtxU) : CtxU :=
  { u with st := 2, lost := false, cnt := putNth 0 u.cnt 0 (min (2 ^ 32 - 1) (u.cnt.getD 0 0 + 1)) }

theorem ctx_acceptCtx_same (c : Nat) (s : State) : (acceptCtx c s).ctx c = ctxAccepted (s.ctx c) := by
  rw [acceptCtx, State.ctx_congr (congrArg NetU.ctx (net_countG _ _ _)), ctx_onCtx_same, incCtx, ctx_onCtx_same]
  rfl

theorem ctx_acceptCtx_other {c d : Nat} (h : d ≠ c) (s : State) : (acceptCtx c s).ctx d = s.ctx d := by
  rw [acceptCtx, State.ctx_congr (congrArg NetU.ctx (net_countG _ _ _)), ctx_onCtx_other h, incCtx, ctx_onCtx_other h]

theorem cnt_ctxAccepted (u : CtxU) : (ctxAccepted u).cnt.getD 0 0 = min (2 ^ 32 - 1) (u.cnt.getD 0 0 + 1) := by
  rw [ctxAccepted, getD_putNth, if_pos rfl]

/-- The samples of the first packet of an idle Converted context enter its buffer. -/
def convFilled (t : Nat) (bufs : List Nat) (u : CtxU) : CtxU :=
  { u with
    got := (List.range u.spp).map fun i => (t + 2 ^ 32 + i, [])
    held := u.held ++ [(t + 2 ^ 32 + u.spp, bufs)]
    txBase := t + 2 ^ 32 }

theorem placeConv_of_idle {c t : Nat} {bufs : List Nat} {s : State} (hplay : (s.ctx c).playing = false) (hgot : (s.ctx c).got = [])
    (hspp : 0 < (s.ctx c).spp) : ∃ f, placeConv c t bufs s = acceptCtx c (onCtx c f s) ∧ f (s.ctx c) = convFilled t bufs (s.ctx c) := by
  have hnat : ∀ i : Nat, ((t : Int) + 2 ^ 32 + i).toNat = t + 2 ^ 32 + i := fun i => by omega
  have hbase : ((t : Int) + 2 ^ 32).toNat = t + 2 ^ 32 := by omega
  have hall : ((do let a ← List.range (s.ctx c).spp; pure (a : Int)) : List Int) =
      (List.range (s.ctx c).spp).map fun a : Nat => (a : Int) :=
    List.flatMap_pure_eq_map _ _
  have hne : (((List.range (s.ctx c).spp).map fun a : Nat => (a : Int)).map fun i => (t : Int) + 2 ^ 32 + i).isEmpty = false := by
    rw [List.isEmpty_eq_false_iff]
    simpa using hspp.ne'
  unfold placeConv
  simp only [hplay, hgot, List.isEmpty_nil, Bool.not_false, Bool.and_self, reduceIte, Bool.false_eq_true, List.any_nil,
    List.filter_true, hall, hne, lt_self_iff_false, and_false]
  refine ⟨_, rfl, ?_⟩
  simp only [convFilled, hgot, List.nil_append, List.map_map, Function.comp_def, hnat, hbase]

/-- The samples of the first packet of a Locked context stand at their indices from `m` on. -/
def lockedFilled (m : Int) (xs : List (List Word)) (bufs : List Nat) (u : CtxU) : CtxU :=
  { u with got := xs.zipIdx.map fun x => ((m + x.2).toNat, x.1), held := u.held ++ [((m + xs.length).toNat, bufs)] }

theorem placeLocked_of_empty {c : Nat} {m : Int} {xs : List (List Word)} {bufs : List Nat} {s : State} (hgot : (s.ctx c).got = [])
    (hnext : ((s.ctx c).next : Int) ≤ m) (hxs : xs ≠ []) :
    ∃ f, placeLocked c m xs bufs s = acceptCtx c (onCtx c f s) ∧ f (s.ctx c) = lockedFilled m xs bufs (s.ctx c) := by
  have hopen : (xs.zipIdx.map fun x => (m + x.2, x.1)).filter (fun x => decide (((s.ctx c).next : Int) ≤ x.1)) =
      xs.zipIdx.map fun x => (m + x.2, x.1) := by
    refine List.filter_eq_self.2 fun x hx => ?_
    obtain ⟨y, -, rfl⟩ := List.mem_map.1 hx
    simp only [decide_eq_true_eq]
    omega
  obtain ⟨x, rest, rfl⟩ := List.exists_cons_of_ne_nil hxs
  unfold placeLocked
  simp only [hopen, hgot, List.any_nil, Bool.not_false, List.filter_true, lt_self_iff_false, reduceIte]
  rw [if_neg (by simp [List.zipIdx_cons]), if_neg (by simp [List.zipIdx_cons])]
  refine ⟨_, rfl, ?_⟩
  simp only [lockedFilled, hgot, List.nil_append, List.map_map, Function.comp_def]

theorem payloadSamples_length (u : CtxU) (l : List Byte) (pay : Nat) : (payloadSamples u l pay).length = u.spp := by
  simp [payloadSamples]

end Sys2Proof.Machine

namespace Sys2Proof

open Machine

theorem acceptCtx_kept (c : Nat) (s : State) : Kept [.net] [0xB] [] s (acceptCtx c s) :=
  (((Kept.refl _ _ _ s).incCtx _ _ _).onCtx _ _).countG _ _

theorem matched_acceptCtx (c : Nat) (s : State) : (acceptCtx c s).net.matched = s.net.matched := by
  rw [acceptCtx, net_countG]
  rfl

/-- An accepted packet that leaves context `c` as `w` and the other contexts as they were. -/
theorem streamPacketAccept_ends {c pos : Nat} {s v : State} {f : CtxU → CtxU} (hq : Quiet s) (hc : c < 1024)
    (hsv : Kept [.net] [] [] s v) (hmatched : v.net.matched = []) (hother : ∀ d, d ≠ c → v.ctx d = s.ctx d)
    (haccept : packetAccept c pos s = acceptCtx c (onCtx c f v)) :
    ∃ t, exec (.streamPacketAccept c pos) s = .next t ∧ t.net.matched = [] ∧ t.ctx c = ctxAccepted (f (v.ctx c))
      ∧ (∀ d, d ≠ c → t.ctx d = s.ctx d) ∧ t.mem = s.mem := by
  obtain ⟨w, hw⟩ : ∃ w, w = acceptCtx c (onCtx c f v) := ⟨_, rfl⟩
  have hsw : Kept [.net] [0xB] [] s w :=
    hw ▸ ((hsv.mono (List.Subset.refl _) (by simp) (List.Subset.refl _)).onCtx c f).trans (acceptCtx_kept c _)
  have hx : exec (.streamPacketAccept c pos) s = .next (settle (bufCand w)) := by
    show finish (if c < 1024 then _ else s) = _
    rw [if_pos hc, haccept, ← hw, finish]
  have hfit : SourcesFit w := hq.sourcesFit.congr (hsw.part .flt (by decide))
  have hr : ClockReacts w (bufCand w) := .bufCand (Reports.refl _ _ _ w)
  have hctx : ∀ d, (settle (bufCand w)).ctx d = w.ctx d := State.ctx_congr (by rw [hr.net_settled hfit])
  refine ⟨_, hx, ?_, ?_, fun d hd => ?_, ?_⟩
  · rw [hr.net_settled hfit, hw, matched_acceptCtx]
    exact hmatched
  · rw [hctx, hw, ctx_acceptCtx_same, ctx_onCtx_same]
  · rw [hctx, hw, ctx_acceptCtx_other hd, ctx_onCtx_other hd, hother d hd]
  · exact ((hr.settled hfit).part .mem (by decide)).trans (hsw.part .mem (by decide))

section

variable (c : Nat) (pos : Nat) (l : List Byte) (bufs : List Nat) (pay : Nat) (l4 : Nat)

theorem streamPacketAccept_converted (s : State) (hq : Quiet s) (hc : c < 1024) (hmatch : s.net.matched = [(c, l, bufs)])
    (hst : (s.ctx c).st ≠ 0) (hrx : s.isRx c = true) (hpay : rtpPayload (s.ctx c) l = some pay)
    (hudp : (udpInfo l).map (fun x => x.1.l4) = some l4) (hfits : (s.ctx c).held.length < reservePackets c (s.ctx c) s)
    (hseq : (s.ctx c).seq = none) (hconv : (s.ctx c).conv = true) (hplay : (s.ctx c).playing = false) (hgot : (s.ctx c).got = [])
    (hspp : 0 < (s.ctx c).spp) :
    ∃ t, exec (.streamPacketAccept c pos) s = .next t ∧ t.net.matched = [] ∧ (t.ctx c).st = 2 ∧ (t.ctx c).lost = false
      ∧ (t.ctx c).seq = some ((beAt l (l4 + 10) 2 + 1) % 65536) ∧ (t.ctx c).txBase = beAt l (l4 + 12) 4 + 2 ^ 32
      ∧ ((t.ctx c).got = (List.range (s.ctx c).spp).map fun i => (beAt l (l4 + 12) 4 + 2 ^ 32 + i, []))
      ∧ (t.ctx c).held = (s.ctx c).held ++ [(beAt l (l4 + 12) 4 + 2 ^ 32 + (s.ctx c).spp, bufs)]
      ∧ (t.ctx c).cnt.getD 0 0 = min (2 ^ 32 - 1) ((s.ctx c).cnt.getD 0 0 + 1) ∧ (∀ d, d ≠ c → t.ctx d = s.ctx d) ∧ t.mem = s.mem := by
  obtain ⟨v, hv⟩ : ∃ v, v = seqBegun c (beAt l (l4 + 10) 2) (matchedTaken s) := ⟨_, rfl⟩
  have hself : v.ctx c = { s.ctx c with seq := some ((beAt l (l4 + 10) 2 + 1) % 65536) } := by rw [hv, seqBegun, ctx_onCtx_same]; rfl
  have hother : ∀ d, d ≠ c → v.ctx d = s.ctx d := fun d hd => by rw [hv, seqBegun, ctx_onCtx_other hd]; rfl
  have hsv : Kept [.net] [] [] s v := hv ▸ ((Kept.refl _ _ _ s).onNet _).onCtx _ _
  obtain ⟨f, hplace, hf⟩ := placeConv_of_idle (t := beAt l (l4 + 12) 4) (bufs := bufs) (s := v) (c := c) (by rw [hself]; exact hplay)
    (by rw [hself]; exact hgot) (by rw [hself]; exact hspp)
  have haccept := (packetAccept_of_first hmatch hst hrx hpay hudp hfits hseq (pos := pos)).1 hconv
  rw [← hv] at haccept
  obtain ⟨t, hx, hmatched, hctx, hothers, hmem⟩ := streamPacketAccept_ends hq hc hsv (by rw [hv]; rfl) hother (haccept.trans hplace)
  rw [hf, hself] at hctx
  refine ⟨t, hx, hmatched, ?_, ?_, ?_, ?_, ?_, ?_, ?_, hothers, hmem⟩
  case refine_7 => rw [hctx, cnt_ctxAccepted, convFilled]
  all_goals simp only [hctx, ctxAccepted, convFilled, CtxU.spp, CtxU.rate, CtxU.w0]

theorem streamPacketAccept_locked (m : Int) (s : State) (hq : Quiet s) (hc : c < 1024) (hmatch : s.net.matched = [(c, l, bufs)])
    (hst : (s.ctx c).st ≠ 0) (hrx : s.isRx c = true) (hpay : rtpPayload (s.ctx c) l = some pay)
    (hudp : (udpInfo l).map (fun x => x.1.l4) = some l4) (hfits : (s.ctx c).held.length < reservePackets c (s.ctx c) s)
    (hseq : (s.ctx c).seq = none) (hconv : (s.ctx c).conv = false) (hanchor : bitOf (s.ctx c).w0 28 = false) (hgot : (s.ctx c).got = [])
    (hm : m = nearIndex ((beAt l (l4 + 12) 4 + ((s.ctx c).delay + 2 ^ 32 - nAt (s.ctx c).words 6) % 2 ^ 32) % 2 ^ 32) (s.shot * s.n + pos))
    (hnext : ((s.ctx c).next : Int) ≤ m) (hspp : 0 < (s.ctx c).spp) :
    ∃ t, exec (.streamPacketAccept c pos) s = .next t ∧ t.net.matched = [] ∧ (t.ctx c).st = 2 ∧ (t.ctx c).lost = false
      ∧ (t.ctx c).seq = some ((beAt l (l4 + 10) 2 + 1) % 65536)
      ∧ ((t.ctx c).got = (payloadSamples (s.ctx c) l pay).zipIdx.map fun x => (Int.toNat (m + x.2), x.1))
      ∧ (t.ctx c).cnt.getD 0 0 = min (2 ^ 32 - 1) ((s.ctx c).cnt.getD 0 0 + 1) ∧ (∀ d, d ≠ c → t.ctx d = s.ctx d) ∧ t.mem = s.mem := by
  have haccept := (packetAccept_of_first hmatch hst hrx hpay hudp hfits hseq (pos := pos)).2 hconv hanchor
  rw [← hm] at haccept
  obtain ⟨v, hv⟩ : ∃ v, v = onCtx c (fun u => { u with offset := some (((s.ctx c).delay + 2 ^ 32 - nAt (s.ctx c).words 6) % 2 ^ 32 % 2 ^ 32) })
      (seqBegun c (beAt l (l4 + 10) 2) (matchedTaken s)) := ⟨_, rfl⟩
  rw [← hv] at haccept
  have hself : ∃ o, v.ctx c = { s.ctx c with seq := some ((beAt l (l4 + 10) 2 + 1) % 65536), offset := o } :=
    ⟨_, by rw [hv, ctx_onCtx_same, seqBegun, ctx_onCtx_same]; rfl⟩
  obtain ⟨o, hself⟩ := hself
  have hother : ∀ d, d ≠ c → v.ctx d = s.ctx d := fun d hd => by rw [hv, ctx_onCtx_other hd, seqBegun, ctx_onCtx_other hd]; rfl
  have hsv : Kept [.net] [] [] s v := hv ▸ (((Kept.refl _ _ _ s).onNet _).onCtx _ _).onCtx _ _
  have hfull : payloadSamples (s.ctx c) l pay ≠ [] := fun h => by
    rw [← payloadSamples_length (s.ctx c) l pay, h] at hspp
    exact absurd hspp (by decide)
  obtain ⟨f, hplace, hf⟩ := placeLocked_of_empty (m := m) (bufs := bufs) (s := v) (c := c) (by rw [hself]; exact hgot)
    (by rw [hself]; exact hnext) hfull
  obtain ⟨t, hx, hmatched, hctx, hothers, hmem⟩ := streamPacketAccept_ends hq hc hsv (by rw [hv]; rfl) hother (haccept.trans hplace)
  rw [hf, hself] at hctx
  refine ⟨t, hx, hmatched, ?_, ?_, ?_, ?_, ?_, hothers, hmem⟩
  case refine_5 => rw [hctx, cnt_ctxAccepted, lockedFilled]
  all_goals simp only [hctx, ctxAccepted, lockedFilled]

end

end Sys2Proof
end

section
/-! ### Blocks of media streams, packets that are sent and late packets (O45) -/

namespace Sys2Proof.Machine

/-! #### Blocks in stage memory (R68, R85, R425) -/

theorem find_blkPut (j k : Nat) (b : Blk) : ∀ l : List (Nat × Blk),
    ((blkPut k b l).find? fun c => decide (c.1 = j)) = if j = k then some (k, b) else l.find? fun c => decide (c.1 = j)
  | [] => by
    by_cases h : j = k
    · simp [blkPut, h]
    · simp [blkPut, h, Ne.symm h]
  | c :: l => by
    have ih := find_blkPut j k b l
    unfold blkPut
    split
    · by_cases h : j = k
      · simp [h]
      · rw [List.find?_cons_of_neg (by simpa using Ne.symm h), if_neg h]
    · split
      · next hk =>
        by_cases h : j = k
        · simp [h]
        · rw [List.find?_cons_of_neg (by simpa using Ne.symm h), if_neg h, List.find?_cons_of_neg (by simpa [← hk] using Ne.symm h)]
      · next hk =>
        by_cases hc : c.1 = j
        · rw [List.find?_cons_of_pos (by simpa using hc), List.find?_cons_of_pos (by simpa using hc), if_neg fun h : j = k => hk (h.symm.trans hc.symm)]
        · rw [List.find?_cons_of_neg (by simpa using hc), List.find?_cons_of_neg (by simpa using hc), ih]

theorem blkAt_put (j k : Nat) (b : Blk) (s : State) :
    (s.onStage (blkPut k b)).blkAt j = if j = k then some b else s.blkAt j := by
  show ((blkPut k b s.stage).find? fun c => decide (c.1 = j)).map (·.2) = _
  rw [find_blkPut]
  split <;> rfl

theorem State.blk_of_blkAt {s : State} {area ch : Nat} {b : Blk} (h : s.blkAt (area * 65536 + ch) = some b) : s.blk area ch = b := by
  rw [State.blk, h]

/-- CONCEALED of a status word. -/
theorem bitOf_mkBsw (origin flags : Nat) : bitOf (mkBsw origin flags).toNat 2 = bitOf flags 2 := by
  have h : (mkBsw origin flags).toNat = (origin % 16 * 2 ^ 28 + flags % 64) % 2 ^ 32 := BitVec.toNat_ofNat _ _
  rw [h, bitOf, bitOf]
  congr 1
  simp only [eq_iff_iff]
  omega

/-- A block that is not concealed is written and counts nowhere. -/
theorem putBlk_of_valid {area ch origin flags : Nat} {xs : List Word} (s : State) (h : bitOf flags 2 = false) :
    putBlk area ch ⟨xs, mkBsw origin flags⟩ s = s.onStage (blkPut (area * 65536 + ch) ⟨xs, mkBsw origin flags⟩) := by
  unfold putBlk
  simp only [bitOf_mkBsw, h, Bool.false_eq_true, reduceIte]

/-- Blocks of the channels from `first` on, each written once: every one stands where it was written. -/
theorem foldl_range_writes {I : State → Prop} {step : State → Nat → State} {first : Nat} {B : Nat → Blk} {n : Nat} {s : State} (hI : I s)
    (hstep : ∀ k < n, ∀ u, I u → I (step u k) ∧
      ∀ j, (step u k).blkAt (aIN * 65536 + streamKey j) = if j = first + k then some (B k) else u.blkAt (aIN * 65536 + streamKey j)) :
    I ((List.range n).foldl step s) ∧
      ∀ k < n, ((List.range n).foldl step s).blkAt (aIN * 65536 + streamKey (first + k)) = some (B k) := by
  induction n with
  | zero => exact ⟨hI, fun k hk => absurd hk (Nat.not_lt_zero k)⟩
  | succ n ih =>
    obtain ⟨hrest, hat⟩ := ih fun k hk => hstep k (by omega)
    obtain ⟨hlast, hput⟩ := hstep n (by omega) _ hrest
    rw [List.range_succ, List.foldl_append]
    refine ⟨hlast, fun k hk => (hput (first + k)).trans ?_⟩
    by_cases h : k = n
    · rw [h, if_pos rfl]
    · rw [if_neg (by omega)]
      exact hat k (by omega)

theorem blkAt_streamPut (j k : Nat) (b : Blk) (s : State) :
    (s.onStage (blkPut (aIN * 65536 + streamKey k) b)).blkAt (aIN * 65536 + streamKey j) =
      if j = k then some b else s.blkAt (aIN * 65536 + streamKey j) := by
  rw [blkAt_put]
  refine if_congr ?_ rfl rfl
  unfold streamKey
  omega

end Sys2Proof.Machine

namespace Sys2Proof

open Machine

theorem Kept.n {ps : List Part} {s t : State} (h : Kept ps [] [] s t) : t.n = s.n := by
  rw [State.n, State.n, h.getF_off _ (by decide) (by decide)]

/-! #### The block of a starting context (R433) -/

/-- Flags of the block of a starting context. -/
def startFlags (u : CtxU) : Nat := bswUNSETTLED + (if u.conv then ctxUnlocked u else 0) + (if u.lost then bswLOST else 0)

theorem bitOf_startFlags (u : CtxU) : bitOf (startFlags u) 2 = false := by
  unfold startFlags ctxUnlocked
  cases u.conv <;> cases (u.lock && !u.unl) <;> cases u.lost <;> rfl

theorem streamBlockWrite_eq {c : Nat} (s : State) (hc : c < 1024) : exec (.streamBlockWrite c) s = finish (streamBlock c s) := by
  show finish (if c < 1024 then streamBlock c s else s) = _
  rw [if_pos hc]

theorem streamBlockWrite_starting (c : Nat) (k : Nat) (s : State) (hq : Quiet s) (hc : c < 1024) (hst : (s.ctx c).st = 1)
    (hrx : s.isRx c = true) (hnext : (s.ctx c).next < s.shot * s.n + s.n) (hk : k < (s.ctx c).nch) :
    ∃ t, exec (.streamBlockWrite c) s = .next t
      ∧ (t.blk aIN (streamKey ((s.ctx c).first + k)) = ⟨List.replicate s.n 0, mkBsw (if (s.ctx c).conv then 4 else 3) (bswUNSETTLED + (if (s.ctx c).conv then ctxUnlocked (s.ctx c) else 0) + (if (s.ctx c).lost then bswLOST else 0))⟩)
      ∧ t.ctx c = { s.ctx c with next := s.shot * s.n + s.n, unl := false } ∧ (∀ d, d ≠ c → t.ctx d = s.ctx d)
      ∧ Kept [.net, .stage] [] [] s t := by
  obtain ⟨w, hw⟩ : ∃ w, w = onCtx c (fun v => { v with next := s.shot * s.n + s.n, unl := false }) s := ⟨_, rfl⟩
  obtain ⟨b, hb⟩ : ∃ b : Blk, b = ⟨List.replicate s.n 0, mkBsw (if (s.ctx c).conv then 4 else 3) (startFlags (s.ctx c))⟩ := ⟨_, rfl⟩
  have hx : streamBlock c s = (List.range (s.ctx c).nch).foldl (fun s' k => putBlk aIN (streamKey ((s.ctx c).first + k)) b s') w := by
    unfold streamBlock
    dsimp only
    rw [if_neg (by rw [hst, hrx]; simp; omega), if_pos hst, hb, hw]
    rfl
  have hput : ∀ ch u, putBlk aIN ch b u = u.onStage (blkPut (aIN * 65536 + ch) b) := fun ch u => by
    rw [hb, putBlk_of_valid u (bitOf_startFlags _)]
  obtain ⟨⟨hwt, hnet⟩, hat⟩ := foldl_range_writes (s := w) (I := fun u => Kept [.stage] [] [] w u ∧ u.net = w.net) (B := fun _ => b)
    (step := fun s' k => putBlk aIN (streamKey ((s.ctx c).first + k)) b s') (first := (s.ctx c).first) (n := (s.ctx c).nch)
    ⟨.refl _ _ _ w, rfl⟩ fun k _ u hu => by
      simp only [hput]
      exact ⟨⟨hu.1.onStage _, hu.2⟩, fun j => blkAt_streamPut _ _ _ _⟩
  have hctx := State.ctx_congr (congrArg NetU.ctx hnet)
  have hsw : Kept [.net, .stage] [] [] s w := hw ▸ (Kept.refl _ _ _ s).onCtx _ _
  have hst := hsw.trans (hwt.mono (by decide) (by decide) (by decide))
  refine ⟨_, exec_next_of_kept ((streamBlockWrite_eq s hc).trans (congrArg finish hx)) hst (by decide) hq,
    (State.blk_of_blkAt (hat k hk)).trans hb, ?_, fun d hd => ?_, hst⟩
  · rw [hctx, hw, ctx_onCtx_same]
  · rw [hctx, hw, ctx_onCtx_other hd]

/-! #### The block of a running Locked context (R425) -/

/-- The sample of channel `k` of a Locked context at internal index `i`. -/
def placedSample (u : CtxU) (k i : Nat) : Word := ((u.got.find? fun g => g.1 = i).map (·.2)).getD [] |>.getD k 0

/-- The block of channel `k` of a Locked context whose samples are there. -/
def placedBlk (u : CtxU) (k base n : Nat) : Blk :=
  ⟨(List.range n).map fun i => placedSample u k (base + i), mkBsw 3 (if u.lost then bswLOST else 0)⟩

/-- Samples that are there join a block; its concealment starts anew. -/
theorem foldl_placed {F : List Word × Bool × State → Nat → List Word × Bool × State} {key : Nat} {x : Nat → Word} {l : List Nat}
    (hF : ∀ acc, ∀ i ∈ l, F acc i = (acc.1 ++ [x i], acc.2.1, delivered key (x i) acc.2.2)) (xs : List Word) (b : Bool) (s : State) :
    ∃ t, l.foldl F (xs, b, s) = (xs ++ l.map x, b, t) ∧ Kept [.cs] [] [] s t := by
  induction l generalizing xs s with
  | nil => exact ⟨s, by simp, .refl _ _ _ s⟩
  | cons i l ih =>
    obtain ⟨t, ht, hk⟩ := ih (fun acc j hj => hF acc j (List.mem_cons_of_mem _ hj)) (xs ++ [x i]) (delivered key (x i) s)
    refine ⟨t, ?_, ((Kept.refl _ _ _ s).onCs _).trans hk⟩
    rw [List.foldl_cons, hF _ i List.mem_cons_self, ht, List.map_cons, List.append_assoc, List.singleton_append]

/-- The block of a channel of a Locked context is made sample by sample. -/
theorem lockedBlk_eq (c k base : Nat) (s : State) :
    ∃ F : List Word × Bool × State → Nat → List Word × Bool × State,
      (∀ acc i g, ((s.ctx c).got.find? fun g => g.1 = base + i) = some g → F acc i =
        (acc.1 ++ [placedSample (s.ctx c) k (base + i)], acc.2.1,
          delivered (streamKey ((s.ctx c).first + k)) (placedSample (s.ctx c) k (base + i)) acc.2.2)) ∧
      ∀ r, r = (List.range s.n).foldl F ([], false, s) →
        lockedBlk c k base s = (⟨r.1, mkBsw 3 ((if r.2.1 then bswCONCEALED else 0) + (if (s.ctx c).lost then bswLOST else 0))⟩, r.2.2) :=
  ⟨_, fun _ _ _ hg => by simp only [placedSample, hg]; rfl, fun _ h => h ▸ rfl⟩

theorem lockedBlk_of_placed {c k base : Nat} {s : State} (h : ∀ i, i < s.n → ((s.ctx c).got.any fun g => g.1 = base + i) = true) :
    ∃ t, lockedBlk c k base s = (placedBlk (s.ctx c) k base s.n, t) ∧ Kept [.cs] [] [] s t := by
  obtain ⟨F, hF, heq⟩ := lockedBlk_eq c k base s
  obtain ⟨t, ht, hk⟩ := foldl_placed (F := F) (l := List.range s.n) (fun acc i hi => by
    obtain ⟨g, hg⟩ := Option.isSome_iff_exists.1 (List.find?_isSome.2 (List.any_eq_true.1 (h i (List.mem_range.1 hi))))
    exact hF acc i g hg) [] false s
  refine ⟨t, (heq _ ht.symm).trans ?_, hk⟩
  rw [if_neg Bool.false_ne_true, Nat.zero_add, List.nil_append, placedBlk]

/-- The block of channel `k` of Locked context `c` is written. -/
def lockedStep (c first base : Nat) (u : State) (k : Nat) : State :=
  putBlk aIN (streamKey (first + k)) (lockedBlk c k base u).1 (lockedBlk c k base u).2

/-- A running Locked context whose samples are all there writes its blocks and hands back what it has read. -/
theorem streamBlock_of_locked {c : Nat} {s w : State} (hst : (s.ctx c).st = 2) (hrx : s.isRx c = true)
    (hnext : (s.ctx c).next < s.shot * s.n + s.n) (hconv : (s.ctx c).conv = false)
    (hall : ∀ i, i < s.n → ((s.ctx c).got.any fun g => g.1 = s.shot * s.n + i) = true)
    (hw : w = (List.range (s.ctx c).nch).foldl (lockedStep c (s.ctx c).first (s.shot * s.n)) s) :
    ∃ f gone, streamBlock c s = dropBufs gone (onCtx c f w) ∧ ∀ v, (f v).next = s.shot * s.n + w.n ∧ (f v).cnt = v.cnt := by
  have hplay : ((List.range s.n).map fun i => (s.ctx c).got.any fun g => g.1 = s.shot * s.n + i).all id = true := by
    rw [List.all_map, List.all_eq_true]
    exact fun i hi => hall i (List.mem_range.1 hi)
  unfold streamBlock
  simp only [hconv, Bool.false_eq_true, if_false]
  rw [if_neg (by rw [hst, hrx]; simp; omega), if_neg (by rw [hst]; decide), if_pos hplay]
  subst hw
  exact ⟨_, _, rfl, fun v => ⟨rfl, rfl⟩⟩

theorem lockedStep_of_placed {c first k base : Nat} {u : State}
    (h : ∀ i, i < u.n → ((u.ctx c).got.any fun g => g.1 = base + i) = true) :
    ∃ t, lockedStep c first base u k = t.onStage (blkPut (aIN * 65536 + streamKey (first + k)) (placedBlk (u.ctx c) k base u.n)) ∧
      Kept [.cs] [] [] u t := by
  obtain ⟨t, ht, hk⟩ := lockedBlk_of_placed (k := k) h
  have hflag : bitOf (if (u.ctx c).lost then bswLOST else 0) 2 = false := by cases (u.ctx c).lost <;> rfl
  refine ⟨t, ?_, hk⟩
  rw [lockedStep, ht, placedBlk]
  exact putBlk_of_valid t hflag

theorem streamBlockWrite_locked (c : Nat) (k : Nat) (s : State) (hq : Quiet s) (hc : c < 1024) (hst : (s.ctx c).st = 2)
    (hrx : s.isRx c = true) (hnext : (s.ctx c).next < s.shot * s.n + s.n) (hconv : (s.ctx c).conv = false) (hk : k < (s.ctx c).nch)
    (hall : (∀ i, i < s.n → ((s.ctx c).got.any fun g => g.1 = s.shot * s.n + i) = true)) :
    ∃ t, exec (.streamBlockWrite c) s = .next t
      ∧ (t.blk aIN (streamKey ((s.ctx c).first + k)) = ⟨(List.range s.n).map fun i => (((s.ctx c).got.find? fun g => g.1 = s.shot * s.n + i).map (·.2)).getD [] |>.getD k 0, mkBsw 3 (if (s.ctx c).lost then bswLOST else 0)⟩)
      ∧ (t.ctx c).next = s.shot * s.n + s.n ∧ (t.ctx c).cnt = (s.ctx c).cnt ∧ (∀ d, d ≠ c → t.ctx d = s.ctx d)
      ∧ Kept [.net, .stage, .cs] [] [] s t := by
  obtain ⟨hw, hat⟩ := foldl_range_writes (s := s) (I := fun u => Kept [.stage, .cs] [] [] s u) (first := (s.ctx c).first)
    (B := fun k => placedBlk (s.ctx c) k (s.shot * s.n) s.n) (step := lockedStep c (s.ctx c).first (s.shot * s.n)) (n := (s.ctx c).nch)
    (.refl _ _ _ s) fun k _ u hu => by
      have hctx := State.ctx_congr (congrArg NetU.ctx (hu.part .net (by decide))) c
      obtain ⟨t, ht, hut⟩ := lockedStep_of_placed (u := u) (c := c) (first := (s.ctx c).first) (k := k) (base := s.shot * s.n)
        (by rw [hctx, hu.n]; exact hall)
      rw [ht, hctx, hu.n]
      have hstage : t.stage = u.stage := hut.part .stage (by decide)
      have hat : ∀ j, t.blkAt j = u.blkAt j := fun j => by rw [State.blkAt, State.blkAt, hstage]
      exact ⟨(hu.trans (hut.mono (by decide) (by decide) (by decide))).onStage _, fun j => by rw [blkAt_streamPut, hat]⟩
  obtain ⟨w, hwdef⟩ : ∃ w, w = (List.range (s.ctx c).nch).foldl (lockedStep c (s.ctx c).first (s.shot * s.n)) s := ⟨_, rfl⟩
  obtain ⟨f, gone, hx, hf⟩ := streamBlock_of_locked hst hrx hnext hconv hall hwdef
  rw [← hwdef] at hw hat
  have hctx := State.ctx_congr (congrArg NetU.ctx (hw.part .net (by decide)))
  have hkept : Kept [.net, .stage, .cs] [] [] s (dropBufs gone (onCtx c f w)) :=
    ((hw.mono (by decide) (by decide) (by decide)).onCtx c f).dropBufs gone
  obtain ⟨t, htdef⟩ : ∃ t, t = dropBufs gone (onCtx c f w) := ⟨_, rfl⟩
  have hsame : ∀ d, t.ctx d = (onCtx c f w).ctx d := State.ctx_congr (by rw [htdef]; rfl)
  have hstage : t.stage = w.stage := by rw [htdef]; rfl
  rw [← htdef] at hx hkept
  refine ⟨t, exec_next_of_kept ((streamBlockWrite_eq s hc).trans (congrArg finish hx)) hkept (by decide) hq,
    State.blk_of_blkAt ?_, ?_, ?_, fun d hd => ?_, hkept⟩
  · rw [State.blkAt, hstage]
    exact hat k hk
  · rw [hsame, ctx_onCtx_same]
    exact (hf _).1.trans (by rw [hw.n])
  · rw [hsame, ctx_onCtx_same, (hf _).2, hctx]
  · rw [hsame, ctx_onCtx_other hd, hctx]

end Sys2Proof

namespace Sys2Proof.Machine

/-! #### Packets that are sent (R430) and late packets (R408) -/

/-- The context of a Locked packet that is built. -/
def packetSent (v : CtxU) (spp : Nat) : CtxU :=
  { v with
    txSeq := (v.txSeq + 1) % 65536, next := v.next + spp, tx := v.tx.drop (v.next + spp - v.txBase), txBase := max v.txBase (v.next + spp) }

theorem ctx_incCtx_same (c k n : Nat) (s : State) :
    (incCtx c k n s).ctx c = { s.ctx c with cnt := putNth 0 (s.ctx c).cnt k (min (2 ^ 32 - 1) ((s.ctx c).cnt.getD k 0 + n)) } :=
  ctx_onCtx_same _ _ _

theorem ctx_incCtx_other {c d k n : Nat} (h : d ≠ c) (s : State) : (incCtx c k n s).ctx d = s.ctx d := ctx_onCtx_other h _ _

theorem ctx_onFree (f : Nat → Nat) (s : State) (c : Nat) : (s.onFree f).ctx c = s.ctx c := rfl

/-- A packet of a Locked context whose samples have been released is built, and queued where its buffers are free. -/
theorem packetSend_of_released {c : Nat} {s : State} (hst : (s.ctx c).st ≠ 0) (hrx : s.isRx c = false) (hrel : releases s = true)
    (hconv : (s.ctx c).conv = false) (hbase : (s.ctx c).txBase ≤ (s.ctx c).next)
    (hav : (s.ctx c).next + (s.ctx c).spp ≤ (s.ctx c).txBase + (s.ctx c).tx.length) :
    ∃ sats len bytes w, w = onCtx c (fun v => packetSent v (s.ctx c).spp) (incCtx c 7 sats (s.onFree (· + 1))) ∧
      (drawBufs len ⟨3, 1, 0⟩ w = none → packetSend c s = w.incF (NET_TX_LATE.COUNT (s.ctx c).port) 1) ∧
      ∀ l t, drawBufs len ⟨3, 1, 0⟩ w = some (l, t) →
        ∃ f, f.host = none ∧ f.kind = 2 ∧ packetSend c s = enqueueEg (s.ctx c).port f (storeFrame bytes l t) := by
  unfold packetSend
  dsimp only
  rw [if_neg (by simp [hst, hrx, hrel]), if_neg (by simp [hconv, hbase, hav]), hconv]
  simp only [Bool.false_eq_true, if_false, fresh]
  generalize List.foldl _ 0 _ = sats
  generalize streamFrame _ _ _ _ _ _ = bytes
  refine ⟨sats, bufsFor (bytes.length + 4), bytes, _, rfl, fun h => ?_, fun l t h => ?_⟩
  · simp only [packetSent] at h
    simp only [h, packetSent]
  · simp only [packetSent] at h
    rw [h]
    exact ⟨_, rfl, rfl, rfl⟩

theorem port_lt (u : CtxU) : u.port < 4 := Nat.mod_lt _ (by decide)

theorem ctx_incF (f : Fld) (n c : Nat) (s : State) : (s.incF f n).ctx c = s.ctx c := rfl

theorem ctx_dropBufs (l : List Nat) (s : State) (c : Nat) : (dropBufs l s).ctx c = s.ctx c := rfl

theorem ctx_onNPort (p : Nat) (f : NPort → NPort) (s : State) (c : Nat) : (onNPort p f s).ctx c = s.ctx c := rfl

theorem ctx_enqueueEg {p : Nat} {f : EgFrame} (hhost : f.host = none) (s : State) (c : Nat) : (enqueueEg p f s).ctx c = s.ctx c := by
  unfold enqueueEg
  split
  · exact ctx_onNPort _ _ _ _
  · unfold dropDown discardEg
    simp only [hhost, ctx_dropBufs]
    split
    · rw [ctx_incF, ctx_incF]
    · exact ctx_incF _ _ _ _

end Sys2Proof.Machine

namespace Sys2Proof

open Machine

theorem Kept.enqueueEg {ps : List Part} {pg as : List Nat} {s t : State} {p : Nat} {f : EgFrame} (h : Kept ps pg as s t) (hp : p < 4)
    (hhost : f.host = none) (hg : 6 ∈ pg) (hk : f.kind ≠ 3) (hn : .net ∈ ps := by decide) : Kept ps pg as s (Machine.enqueueEg p f t) := by
  refine Kept.ite _ (fun _ => h.onNPort _ _ hn) fun _ => ?_
  unfold dropDown discardEg
  simp only [hhost, if_neg hk]
  exact (h.incF (NET_TX_LINKDOWN.COUNT p) 1 (.inl (by rw [show (NET_TX_LINKDOWN.COUNT p).addr / 65536 = 6 from portReg_page (by omega) (by decide) (by decide)]; exact hg))).dropBufs _ hn

theorem streamPacketSend_sends (c : Nat) (s : State) (hq : Quiet s) (hc : c < 1024) (hst : (s.ctx c).st ≠ 0) (hrx : s.isRx c = false)
    (hrel : releases s = true) (hconv : (s.ctx c).conv = false) (hbase : (s.ctx c).txBase ≤ (s.ctx c).next)
    (hav : (s.ctx c).next + (s.ctx c).spp ≤ (s.ctx c).txBase + (s.ctx c).tx.length) :
    ∃ t, exec (.streamPacketSend c) s = .next t ∧ (t.ctx c).txSeq = ((s.ctx c).txSeq + 1) % 65536
      ∧ (t.ctx c).next = (s.ctx c).next + (s.ctx c).spp ∧ (t.ctx c).txBase = (s.ctx c).next + (s.ctx c).spp
      ∧ (t.ctx c).tx = (s.ctx c).tx.drop ((s.ctx c).next + (s.ctx c).spp - (s.ctx c).txBase)
      ∧ (∀ d, d ≠ c → t.ctx d = s.ctx d) ∧ Kept [.mem, .net, .free, .outs] [6] [] s t := by
  obtain ⟨sats, len, bytes, w, hw, hnone, hsome⟩ := packetSend_of_released hst hrx hrel hconv hbase hav
  have hkw : Kept [.mem, .net, .free, .outs] [6] [] s w := hw ▸ (((Kept.refl _ _ _ s).onFree _).incCtx _ _ _).onCtx _ _
  have hself : ∃ l, w.ctx c = { packetSent (s.ctx c) (s.ctx c).spp with cnt := l } :=
    ⟨_, by rw [hw, ctx_onCtx_same, ctx_incCtx_same, ctx_onFree]; rfl⟩
  obtain ⟨l, hself⟩ := hself
  have hother : ∀ d, d ≠ c → w.ctx d = s.ctx d := fun d hd => by rw [hw, ctx_onCtx_other hd, ctx_incCtx_other hd, ctx_onFree]
  have hport := port_lt (s.ctx c)
  have hends : (∀ d, (packetSend c s).ctx d = w.ctx d) ∧ Kept [.mem, .net, .free, .outs] [6] [] s (packetSend c s) := by
    cases hd : drawBufs len ⟨3, 1, 0⟩ w with
    | none =>
      rw [hnone hd]
      exact ⟨fun d => ctx_incF _ _ _ _, hkw.incF _ _ (.inl (by
        rw [show (NET_TX_LATE.COUNT (s.ctx c).port).addr / 65536 = 6 from portReg_page (by omega) (by decide) (by decide)]; simp))⟩
    | some r =>
      obtain ⟨bufs, t⟩ := r
      obtain ⟨f, hhost, hkind, heq⟩ := hsome bufs t hd
      obtain ⟨-, hdraws⟩ := drawBufs_draws hd
      have hstore := storeFrame_kept bytes bufs t
      rw [heq]
      have hnet : (storeFrame bytes bufs t).net.ctx = w.net.ctx := by
        rw [hstore.part .net (by decide), hdraws.net]
      refine ⟨fun d => (ctx_enqueueEg hhost _ _).trans (State.ctx_congr hnet d),
        Kept.enqueueEg ?_ hport hhost (by decide) (by rw [hkind]; decide)⟩
      exact hkw.trans ((hdraws.kept.mono (by decide) (by decide) (by decide)).trans (hstore.mono (by decide) (by decide) (by decide)))
  obtain ⟨hctx, hkept⟩ := hends
  have hx : exec (.streamPacketSend c) s = finish (packetSend c s) := by
    show finish (if c < 1024 then packetSend c s else s) = _
    rw [if_pos hc]
  refine ⟨_, exec_next_of_kept hx hkept (by decide) hq, ?_, ?_, ?_, ?_, fun d hd => (hctx d).trans (hother d hd), hkept⟩
  case refine_3 =>
    rw [hctx, hself]
    exact Nat.max_eq_right (by omega)
  all_goals rw [hctx, hself, packetSent]

theorem txLate_drops (p : Nat) (x : EgFrame) (rest : List EgFrame) (s : State) (hq : Quiet s) (hp : p < 4) (hqueue : (s.nport p).q = x :: rest)
    (hkind : x.kind = 2) (hhost : x.host = none) (hdue : firstDue p s = some x.due) :
    ∃ t, exec (.txLate p) s = .next t ∧ (t.nport p).q = rest
      ∧ t.getF (NET_TX_LATE.COUNT p) = min (2 ^ (NET_TX_LATE.COUNT p).width - 1) (s.getF (NET_TX_LATE.COUNT p) + 1)
      ∧ (∀ q, q ≠ p → t.nport q = s.nport q) ∧ Kept [.net] [] [(NET_TX_LATE.COUNT p).addr] s t := by
  obtain ⟨f, hf⟩ : ∃ f : EgFrame → Bool, f = fun f => f.kind = 2 && firstDue p s == some f.due := ⟨_, rfl⟩
  have hx : exec (.txLate p) s = finish (dropFirst p f (fun s => s.incF (NET_TX_LATE.COUNT p) 1) s) := by
    show finish (if p < 4 then _ else s) = _
    rw [if_pos hp, hf]
  have hfirst : f x = true := by rw [hf]; simp [hkind, hdue]
  have hfind : (s.nport p).q.findIdx? f = some 0 := by rw [hqueue, List.findIdx?_cons, hfirst]; rfl
  obtain ⟨hrest, hcount, hother, hk⟩ := dropFirst_counts (NET_TX_LATE.COUNT p) (by decide : 32 ≤ 32) hfind (by rw [hqueue]; rfl) hhost
  exact ⟨_, exec_next_of_kept hx hk (by decide) hq, hrest.trans (by rw [hqueue]; rfl), hcount, hother, hk⟩

/-- Settles O45, clause by clause: an accepted packet is followed through `packetAccept`, a block through the writing of its channels one
after another, a packet that is sent through the drawing of its buffers, and one that is too late through `dropFirst`. -/
theorem streamPackets : Obligations.StreamPackets :=
  ⟨streamPacketAccept_converted, streamPacketAccept_locked, streamBlockWrite_starting, streamBlockWrite_locked, streamPacketSend_sends,
    txLate_drops⟩

end Sys2Proof
end

section
/-! ### Register writes of the network rings and ports (O28) -/

namespace Sys2Proof.Machine

theorem getF_setF_zero {s : State} {f : Fld} (h : f.lsb + f.width ≤ 32) : (s.setF f 0).getF f = 0 := by
  rw [State.getF_setF_same s f 0 h, Nat.zero_mod]

theorem nring_setF (s : State) (f : Fld) (v : Nat) (tx : Bool) (r : Nat) : (s.setF f v).nring tx r = s.nring tx r := rfl

end Sys2Proof.Machine

namespace Sys2Proof

open Machine

/-! #### Resets of rings (R443) -/

/-- What completes the descriptors of transmit rings and returns their buffers: the rings stay as they are. -/
structure Hands (s t : State) : Prop where
  kept : Kept [.net, .outs] [] [] s t
  rings : ∀ q, t.nring true q = s.nring true q

namespace Hands

variable {s t : State}

theorem refl (s : State) : Hands s s := ⟨.refl _ _ _ _, fun _ => rfl⟩

theorem writeDone {r status : Nat} {l : List Nat} (h : Hands s t) : Hands s (Machine.writeDone r status l t) := by
  have hk : Kept [.outs] [] [] t (Machine.writeDone r status l t) :=
    .ite _ (fun _ => .refl _ _ _ _) fun _ => Kept.foldl _ (fun u _ => (Kept.refl _ _ _ u).out _) _ _
  refine ⟨h.kept.trans (hk.mono (by decide) (by decide) (by decide)), fun q => Eq.trans ?_ (h.rings q)⟩
  rw [State.nring, State.nring, hk.part .net (by decide)]

theorem dropBufs {l : List Nat} (h : Hands s t) : Hands s (Machine.dropBufs l t) := ⟨h.kept.dropBufs l, h.rings⟩

theorem onNPort {p : Nat} {f : NPort → NPort} (h : Hands s t) : Hands s (Machine.onNPort p f t) := ⟨h.kept.onNPort p f, h.rings⟩

theorem foldl {α : Type} {f : State → α → State} {l : List α} (h : Hands s t) (hf : ∀ x {t}, Hands s t → Hands s (f t x)) :
    Hands s (l.foldl f t) := by
  induction l generalizing t with
  | nil => exact h
  | cons x l ih => exact ih (hf x h)

end Hands

/-- Ring `r` without descriptors and frames. -/
def ringCleared (r : Nat) (s : State) : State := onNRing true r (fun u => { u with own := [], out := [] }) s

theorem resetTx_hands (r : Nat) (s : State) :
    ∃ w v, Hands s w ∧ Hands (ringCleared r w) v ∧ resetTx r s = (v.setF (NET_TXHEAD.PTR r) 0).setF (NET_TXTAIL.PTR r) 0 := by
  have heq : ∃ w F, resetTx r s = (((List.range 4).foldl F (ringCleared r w)).setF (NET_TXHEAD.PTR r) 0).setF (NET_TXTAIL.PTR r) 0 ∧
      (∀ t p, ∃ f, F t p = onNPort p f t) ∧ Hands s w := by
    refine ⟨_, _, rfl, fun t p => ⟨_, rfl⟩, .dropBufs (.writeDone (.foldl (.refl s) fun f t h => ?_))⟩
    by_cases hw : f.wait.isSome
    · rw [if_pos hw]
      exact h.writeDone
    · rw [if_neg hw]
      exact h.writeDone.dropBufs
  obtain ⟨w, F, heq, hF, hw⟩ := heq
  refine ⟨w, _, hw, .foldl (.refl _) fun p t h => ?_, heq⟩
  obtain ⟨f, hf⟩ := hF t p
  rw [hf]
  exact h.onNPort

theorem txRingReset_empties (r : Nat) (s : State) (hopen : s.hostOpen = true) (hq : Quiet s) (hr : r < 8) :
    ∃ t, exec (.txRingReset r) s = .next t ∧ t.getF (NET_TXHEAD.PTR r) = 0 ∧ t.getF (NET_TXTAIL.PTR r) = 0 ∧ (t.nring true r).own = []
      ∧ (t.nring true r).out = [] ∧ (t.nring true r).len = (s.nring true r).len ∧ (∀ q, q ≠ r → t.nring true q = s.nring true q)
      ∧ Kept [.net, .outs] [] [(NET_TXHEAD.PTR r).addr, (NET_TXTAIL.PTR r).addr] s t := by
  obtain ⟨w, v, hw, hv, heq⟩ := resetTx_hands r s
  have hx : exec (.txRingReset r) s = finish (resetTx r s) := by
    show finish (if s.hostOpen = true ∧ r < 8 then _ else s) = _
    rw [if_pos ⟨hopen, hr⟩]
  have hk : Kept [.net, .outs] [] [(NET_TXHEAD.PTR r).addr, (NET_TXTAIL.PTR r).addr] s
      ((v.setF (NET_TXHEAD.PTR r) 0).setF (NET_TXTAIL.PTR r) 0) :=
    ((((hw.kept.onNRing _ _ _).trans hv.kept).mono (List.Subset.refl _) (by simp) (by simp)).setF _ _ (.inr (by simp))).setF _ _
      (.inr (by simp))
  have hring : ∀ q, ((v.setF (NET_TXHEAD.PTR r) 0).setF (NET_TXTAIL.PTR r) 0).nring true q = (ringCleared r w).nring true q := fun q => by
    rw [nring_setF, nring_setF, hv.rings]
  have hself := (hring r).trans (nring_onNRing_same _ _ _ _)
  refine ⟨_, exec_next_of_kept (hx.trans (congrArg finish heq)) hk (by decide) hq, ?_, getF_setF_zero (by decide : 12 ≤ 32), ?_, ?_, ?_,
    fun q h => ?_, hk⟩
  · rw [State.getF_setF_other _ _ _ _ (by simp only [NET_TXHEAD.PTR, NET_TXTAIL.PTR]; omega)]
    exact getF_setF_zero (by decide : 12 ≤ 32)
  · rw [hself]
  · rw [hself]
  · rw [hself, hw.rings]
  · rw [hring, ringCleared, nring_onNRing_other h, hw.rings]

theorem dropRxDescs_kept (r : Nat) (p : Nat → Bool) (s : State) : Kept [.net] [] [] s (dropRxDescs r p s) := by
  unfold dropRxDescs
  exact ((Kept.refl _ _ _ s).dropBufs _).onNet _

/-- The receive descriptors that stay after some of ring `r` have gone. -/
theorem mem_rxDesc_dropRxDescs {r : Nat} {p : Nat → Bool} {s : State} {x : Nat × Nat} (h : x ∈ (dropRxDescs r p s).net.rxDesc) :
    x.1 / 4096 = r → p (x.1 % 4096) = false := fun hr => by
  have hx := (List.mem_filter.1 h).2
  simpa [hr] using hx

theorem rxRingReset_empties (r : Nat) (s : State) (hopen : s.hostOpen = true) (hq : Quiet s) (hr : r < 8) :
    ∃ t, exec (.rxRingReset r) s = .next t ∧ t.getF (NET_RXHEAD.PTR r) = 0 ∧ t.getF (NET_RXTAIL.PTR r) = 0
      ∧ ((t.net.rxDesc.any fun x => x.1 / 4096 = r) = false) ∧ Kept [.net] [] [(NET_RXHEAD.PTR r).addr, (NET_RXTAIL.PTR r).addr] s t := by
  obtain ⟨w, hw⟩ : ∃ w, w = dropRxDescs r (fun _ => true) s := ⟨_, rfl⟩
  have hx : exec (.rxRingReset r) s = finish ((w.setF (NET_RXHEAD.PTR r) 0).setF (NET_RXTAIL.PTR r) 0) := by
    show finish (if s.hostOpen = true ∧ r < 8 then resetRx r s else s) = _
    rw [if_pos ⟨hopen, hr⟩, resetRx, hw]
  have hdrop : Kept [.net] [] [(NET_RXHEAD.PTR r).addr, (NET_RXTAIL.PTR r).addr] s w :=
    hw ▸ (dropRxDescs_kept r _ s).mono (List.Subset.refl _) (by simp) (by simp)
  have hk : Kept [.net] [] [(NET_RXHEAD.PTR r).addr, (NET_RXTAIL.PTR r).addr] s ((w.setF (NET_RXHEAD.PTR r) 0).setF (NET_RXTAIL.PTR r) 0) :=
    (hdrop.setF _ _ (.inr (by simp))).setF _ _ (.inr (by simp))
  refine ⟨_, exec_next_of_kept hx hk (by decide) hq, ?_, getF_setF_zero (by decide : 12 ≤ 32), ?_, hk⟩
  · rw [State.getF_setF_other _ _ _ _ (by simp only [NET_RXHEAD.PTR, NET_RXTAIL.PTR]; omega)]
    exact getF_setF_zero (by decide : 12 ≤ 32)
  · rw [State.setF_net, State.setF_net, List.any_eq_false]
    intro x hx hr'
    rw [hw] at hx
    exact absurd (mem_rxDesc_dropRxDescs hx (by simpa using hr')) (by decide)

/-! #### Tails of rings (R436, R439) -/

theorem rxtailWrite_frees (r : Nat) (v : Word) (x : Nat) (s : State) (hopen : s.hostOpen = true) (hq : Quiet s) (hr : r < 8)
    (hxv : x = v.toNat % 4096) (hlen : x < (s.nring false r).len) :
    ∃ t, exec (.rxtailWrite r v) s = .next t ∧ t.getF (NET_RXTAIL.PTR r) = x
      ∧ (∀ j b, (r * 4096 + j, b) ∈ t.net.rxDesc → j < 4096 → (x + (s.nring false r).len - s.getF (NET_RXTAIL.PTR r)) % (s.nring false r).len ≤ (j + (s.nring false r).len - s.getF (NET_RXTAIL.PTR r)) % (s.nring false r).len)
      ∧ Kept [.net] [] [(NET_RXTAIL.PTR r).addr] s t := by
  obtain ⟨len, hl⟩ : ∃ len, len = (s.nring false r).len := ⟨_, rfl⟩
  obtain ⟨old, ho⟩ : ∃ old, old = s.getF (NET_RXTAIL.PTR r) := ⟨_, rfl⟩
  rw [← hl, ← ho]
  have hx : exec (.rxtailWrite r v) s =
      finish (dropRxDescs r (fun i => decide ((i + len - old) % len < (x + len - old) % len)) (s.setF (NET_RXTAIL.PTR r) x)) := by
    show finish (if s.hostOpen = true ∧ r < 8 then writeRxTail r (v.toNat % 4096) s else s) = _
    rw [if_pos ⟨hopen, hr⟩, ← hxv, writeRxTail, if_neg (by omega), hl, ho]
  have hset : Kept [.net] [] [(NET_RXTAIL.PTR r).addr] s (s.setF (NET_RXTAIL.PTR r) x) := (Kept.refl _ _ _ s).setF _ _ (.inr (by simp))
  have hdrop := dropRxDescs_kept r (fun i => decide ((i + len - old) % len < (x + len - old) % len)) (s.setF (NET_RXTAIL.PTR r) x)
  have hk := hset.trans (hdrop.mono (List.Subset.refl _) (by simp) (by simp))
  refine ⟨_, exec_next_of_kept hx hk (by decide) hq, ?_, fun j b hmem hj => ?_, hk⟩
  · rw [hdrop.getF_off _ (by simp) (by simp), State.getF_setF_same _ _ _ (by decide : 0 + 12 ≤ 32)]
    exact Nat.mod_eq_of_lt (hxv ▸ Nat.mod_lt _ (by decide))
  · have hkept := mem_rxDesc_dropRxDescs hmem (by omega)
    have hmod : (r * 4096 + j) % 4096 = j := by omega
    simpa [hmod] using hkept

theorem TxRuns.quiet {s t : State} (h : TxRuns s t) (hq : Quiet s) : Quiet t := by
  rw [Quiet, h.flt]
  exact hq

/-- A register of the media network in the slot of a transmit ring that is no HEAD. -/
theorem keptByTx_ring {r b : Nat} (hr : r < 8) (hb : 0x62200 ≤ b) (hb' : b < 0x62220) (hh : b % 0x20 ≠ 0xC) : KeptByTx (b + r * 0x20) := by
  refine ⟨?_, ?_, ?_⟩ <;> omega

/-- The descriptors that a new tail hands over. -/
def tailDescs (len old x : Nat) (ds : List (List Word)) : List (Nat × List Word) :=
  (List.range ((x + len - old) % len)).map fun k => ((old + k) % len, ds.getD k [])

/-- Transmit ring `r` with its new tail. -/
def tailMoved (r x : Nat) (ds : List (List Word)) (s : State) : State :=
  onNRing true r (fun u => { u with own := u.own ++ tailDescs (s.nring true r).len (s.getF (NET_TXTAIL.PTR r)) x ds })
    (s.setF (NET_TXTAIL.PTR r) x)

theorem tailMoved_kept (r x : Nat) (ds : List (List Word)) (s : State) : Kept [.net] [] [(NET_TXTAIL.PTR r).addr] s (tailMoved r x ds s) :=
  ((Kept.refl _ _ _ s).setF _ _ (.inr (by simp))).onNRing _ _ _

theorem getF_tailMoved {r x : Nat} (ds : List (List Word)) (s : State) (hx : x < 4096) : (tailMoved r x ds s).getF (NET_TXTAIL.PTR r) = x := by
  rw [tailMoved, getF_onNRing, State.getF_setF_same s (NET_TXTAIL.PTR r) x (by decide : 0 + 12 ≤ 32)]
  exact Nat.mod_eq_of_lt hx

/-- A staged length takes effect in transmit ring `r` (R442). -/
def lenApplied (r : Nat) (f : NRing → NRing) (h : Nat) (s : State) : State :=
  ((onNRing true r f s).setF (NET_TXHEAD.PTR r) h).setF (NET_TXCTRL.LENPEND r) 0

/-- A tail in range: its descriptors are handed over, a staged length may take effect, and the ring goes on. -/
theorem writeTxTail_of_range {r x : Nat} {ds : List (List Word)} {s : State} (hlen : x < (s.nring true r).len) :
    ∃ w, writeTxTail r x ds s = txPump r (w.nring true r).own.length w ∧
      (w = tailMoved r x ds s ∨ (s.nring true r).staged ≠ none ∧ ∃ f h, w = lenApplied r f h (tailMoved r x ds s)) := by
  unfold writeTxTail
  rw [if_neg (by omega)]
  refine ⟨_, rfl, ?_⟩
  cases hstaged : (s.nring true r).staged with
  | none => exact .inl rfl
  | some l =>
    dsimp only
    split
    · exact .inr ⟨by simp, _, _, rfl⟩
    · exact .inl rfl

theorem lenApplied_tail {r h : Nat} {f : NRing → NRing} (s : State) :
    (lenApplied r f h s).getF (NET_TXTAIL.PTR r) = s.getF (NET_TXTAIL.PTR r) := by
  rw [lenApplied, State.getF_setF_other _ _ _ _ (by simp only [NET_TXTAIL.PTR, NET_TXCTRL.LENPEND]; omega),
    State.getF_setF_other _ _ _ _ (by simp only [NET_TXTAIL.PTR, NET_TXHEAD.PTR]; omega), getF_onNRing]

theorem txtailWrite_eq {r : Nat} {v : Word} {ds : List (List Word)} {s : State} (hopen : s.hostOpen = true) (hr : r < 8) :
    exec (.txtailWrite r v ds) s = finish (writeTxTail r (v.toNat % 4096) ds s) := by
  show finish (if s.hostOpen = true ∧ r < 8 then _ else s) = _
  rw [if_pos ⟨hopen, hr⟩]

theorem txtailWrite_moves (r : Nat) (v : Word) (ds : List (List Word)) (s : State) (hopen : s.hostOpen = true) (hq : Quiet s) (hr : r < 8)
    (hlen : v.toNat % 4096 < (s.nring true r).len) :
    ∃ t, exec (.txtailWrite r v ds) s = .next t ∧ t.getF (NET_TXTAIL.PTR r) = v.toNat % 4096 := by
  obtain ⟨w, heq, hcases⟩ := writeTxTail_of_range (ds := ds) hlen
  have hflt : w.flt = s.flt := by
    obtain rfl | ⟨-, f, h, rfl⟩ := hcases
    · exact (tailMoved_kept r _ ds s).part .flt (by decide)
    · rw [lenApplied, State.setF_flt, State.setF_flt]
      exact (((tailMoved_kept r _ ds s).onNRing true r f).part .flt (by decide))
  have htail : w.getF (NET_TXTAIL.PTR r) = v.toNat % 4096 := by
    obtain rfl | ⟨-, f, h, rfl⟩ := hcases
    · exact getF_tailMoved ds s (Nat.mod_lt _ (by decide))
    · rw [lenApplied_tail]
      exact getF_tailMoved ds s (Nat.mod_lt _ (by decide))
  have hruns : TxRuns w (txPump r (w.nring true r).own.length w) := (TxRuns.refl w).txPump
  have hquiet : Quiet w := by
    rw [Quiet, hflt]
    exact hq
  refine ⟨_, ((txtailWrite_eq hopen hr).trans (congrArg finish heq)).trans (finish_of_quiet (hruns.quiet hquiet)), ?_⟩
  rw [State.getF, hruns.reg (NET_TXTAIL.PTR r).addr (keptByTx_ring (b := 0x62210) hr (by decide) (by decide) (by decide))]
  exact htail

/-- A ring that is off takes no frame up. -/
theorem txPump_of_off {r : Nat} {s : State} (h : s.flag (NET_TXCTRL.EN r) = false) (k : Nat) : txPump r k s = s := by
  cases k with
  | zero => rfl
  | succ k =>
    unfold txPump
    rw [if_pos (by simp [h])]

theorem txtailWrite_hands (r : Nat) (v : Word) (ds : List (List Word)) (x : Nat) (u : NRing) (s : State) (hopen : s.hostOpen = true)
    (hq : Quiet s) (hr : r < 8) (hxv : x = v.toNat % 4096) (hu : u = s.nring true r) (hlen : x < u.len) (hstaged : u.staged = none)
    (hoff : s.flag (NET_TXCTRL.EN r) = false) :
    ∃ t, exec (.txtailWrite r v ds) s = .next t ∧ t.getF (NET_TXTAIL.PTR r) = x
      ∧ ((t.nring true r).own = u.own ++ (List.range ((x + u.len - s.getF (NET_TXTAIL.PTR r)) % u.len)).map fun k => ((s.getF (NET_TXTAIL.PTR r) + k) % u.len, ds.getD k []))
      ∧ (t.nring true r).out = u.out ∧ Kept [.net] [] [(NET_TXTAIL.PTR r).addr] s t := by
  subst hu
  obtain ⟨w, heq, hcases⟩ := writeTxTail_of_range (ds := ds) hlen
  have hw : w = tailMoved r x ds s := hcases.resolve_right fun h => h.1 hstaged
  have hkept := tailMoved_kept r x ds s
  have hstill : w.flag (NET_TXCTRL.EN r) = false := by
    rw [hw, hkept.flag_off _ (by simp) (by simp [NET_TXCTRL.EN, NET_TXTAIL.PTR])]
    exact hoff
  rw [txPump_of_off hstill, hw] at heq
  have hx := txtailWrite_eq (v := v) (ds := ds) hopen hr
  rw [← hxv, heq] at hx
  refine ⟨_, exec_next_of_kept hx hkept (by decide) hq, getF_tailMoved ds s (hxv ▸ Nat.mod_lt _ (by decide)), ?_, ?_, hkept⟩ <;>
    rw [tailMoved, nring_onNRing_same, nring_setF]
  rfl

/-! #### Lengths of rings (R442) -/

theorem netRingLenWrite_stages (tx : Bool) (r : Nat) (v : Word) (l : Nat) (s : State) (hopen : s.hostOpen = true) (hq : Quiet s) (hr : r < 8)
    (hl : l = v.toNat % 8192) (hmin : 2 ≤ l) (hmax : l ≤ 4096) :
    ∃ t, exec (.netRingLenWrite tx r v) s = .next t ∧ (t.getF (if tx then NET_TXLEN.LEN r else NET_RXLEN.LEN r) = l)
      ∧ (t.getF (if tx then NET_TXCTRL.LENPEND r else NET_RXCTRL.LENPEND r) = 1) ∧ (t.nring tx r).staged = some l
      ∧ (t.nring tx r).len = (s.nring tx r).len
      ∧ (Kept [.net] [] [if tx then (NET_TXLEN.LEN r).addr else (NET_RXLEN.LEN r).addr, if tx then (NET_TXCTRL.LENPEND r).addr else (NET_RXCTRL.LENPEND r).addr] s t) := by
  obtain ⟨b, d, hb, hd, hbd⟩ : ∃ b d, (if tx then NET_TXLEN.LEN r else NET_RXLEN.LEN r) = ⟨b, 0, 13⟩ ∧
      (if tx then NET_TXCTRL.LENPEND r else NET_RXCTRL.LENPEND r) = ⟨d, 2, 1⟩ ∧ b ≠ d := by
    cases tx
    · exact ⟨0x62008 + r * 0x20, 0x62014 + r * 0x20, rfl, rfl, by omega⟩
    · exact ⟨0x62208 + r * 0x20, 0x62214 + r * 0x20, rfl, rfl, by omega⟩
  have haddr : (if tx then (NET_TXLEN.LEN r).addr else (NET_RXLEN.LEN r).addr) = b := by rw [← apply_ite, hb]
  have haddr' : (if tx then (NET_TXCTRL.LENPEND r).addr else (NET_RXCTRL.LENPEND r).addr) = d := by rw [← apply_ite, hd]
  have hx : exec (.netRingLenWrite tx r v) s =
      finish (onNRing tx r (fun u => { u with staged := some l }) ((s.setF ⟨b, 0, 13⟩ l).setF ⟨d, 2, 1⟩ 1)) := by
    show finish (if s.hostOpen = true ∧ r < 8 then writeNetLen tx r v.toNat s else s) = _
    rw [if_pos ⟨hopen, hr⟩, writeNetLen, ← hl, if_neg (by omega), ← hb, ← hd]
    cases tx <;> rfl
  have hk : Kept [.net] [] [b, d] s (onNRing tx r (fun u => { u with staged := some l }) ((s.setF ⟨b, 0, 13⟩ l).setF ⟨d, 2, 1⟩ 1)) :=
    (((Kept.refl _ _ _ s).setF _ _ (.inr (by simp))).setF _ _ (.inr (by simp))).onNRing _ _ _
  rw [hb, hd, haddr, haddr']
  refine ⟨_, exec_next_of_kept hx hk (by decide) hq, ?_, ?_, ?_, ?_, hk⟩
  · rw [getF_onNRing, State.getF_setF_other _ _ _ _ hbd, State.getF_setF_same _ _ _ (by decide : 0 + 13 ≤ 32)]
    exact Nat.mod_eq_of_lt (hl ▸ Nat.mod_lt _ (by decide))
  · rw [getF_onNRing]
    exact State.getF_setF_same _ _ _ (by decide : 2 + 1 ≤ 32)
  · rw [nring_onNRing_same]
  · rw [nring_onNRing_same, nring_setF, nring_setF]

/-! #### Port configuration (R403, R446) -/

section

variable {a l w l' w' v : Nat} (s : State)

theorem getF_setF_bits (hg : l + w ≤ 32 := by decide) (hd : l + w ≤ l' ∨ l' + w' ≤ l := by decide) :
    (s.setF ⟨a, l', w'⟩ v).getF ⟨a, l, w⟩ = s.getF ⟨a, l, w⟩ := State.getF_setF_disjoint s ⟨a, l', w'⟩ ⟨a, l, w⟩ v hg hd

theorem getF_setF_written (hg : l + w ≤ 32 := by decide) (hv : v < 2 ^ w) : (s.setF ⟨a, l, w⟩ v).getF ⟨a, l, w⟩ = v :=
  (State.getF_setF_same s ⟨a, l, w⟩ v hg).trans (Nat.mod_eq_of_lt hv)

end

/-- A write of PREEMPT_EN leaves the other registers, and the other bits of its own. -/
theorem writePreempt_kept (p : Nat) (en : Bool) (s : State) :
    Kept [.net] [] [(NET_PCFG.ENABLE p).addr, (NET_PSTAT.LINK p).addr] s (writePreempt p en s) :=
  .ite _ (fun _ => .refl _ _ _ _) fun _ => (((Kept.refl _ _ _ s).setF _ _ (.inr (by simp [NET_PCFG.PREEMPT_EN, NET_PCFG.ENABLE]))).setF _ _
    (.inr (by simp [NET_PSTAT.PREEMPT, NET_PSTAT.LINK]))).onNPort _ _

theorem getF_lt (s : State) (f : Fld) : s.getF f < 2 ^ f.width := Nat.mod_lt _ (Nat.two_pow_pos _)

theorem b2n_lt (b : Bool) : b2n b < 2 ^ 1 := by cases b <;> decide

theorem flag_of_getF {s : State} {f : Fld} {b : Bool} (h : s.getF f = b2n b) : s.flag f = b := by
  rw [State.flag, h]
  cases b <;> rfl

theorem bits_one (v n : Nat) : bits v n 1 = b2n (bitOf v n) := by
  rw [bits, bitOf, b2n, Nat.pow_one]
  obtain h | h := Nat.mod_two_eq_zero_or_one (v / 2 ^ n) <;> simp [h]

/-- PREEMPT_EN as it is written; where that changes it, verification begins afresh. -/
theorem writePreempt_shows (p : Nat) (en : Bool) (s : State) :
    (writePreempt p en s).flag (NET_PCFG.PREEMPT_EN p) = en ∧ (writePreempt p en s).getF (NET_PCFG.MAXF p) = s.getF (NET_PCFG.MAXF p) ∧
      (∀ q, q ≠ p → (writePreempt p en s).nport q = s.nport q) ∧
      (en ≠ s.flag (NET_PCFG.PREEMPT_EN p) → ((writePreempt p en s).nport p).attempts = 0 ∧
        (writePreempt p en s).flag (NET_PSTAT.PREEMPT p) = false) := by
  unfold writePreempt
  split
  · next h => exact ⟨h.symm, rfl, fun _ _ => rfl, fun hne => absurd h hne⟩
  · refine ⟨?_, ?_, fun q hq => ?_, fun _ => ⟨?_, ?_⟩⟩
    · rw [flag_onNPort, State.flag_setF_other _ _ _ _ (by simp only [NET_PCFG.PREEMPT_EN, NET_PSTAT.PREEMPT]; omega)]
      exact State.flag_setF_same _ _ _ (by decide : 29 < 32) rfl
    · rw [getF_onNPort, State.getF_setF_other _ _ _ _ (by simp only [NET_PCFG.MAXF, NET_PSTAT.PREEMPT]; omega)]
      exact getF_setF_bits _
    · rw [nport_onNPort_other hq, nport_setF, nport_setF]
    · rw [nport_onNPort_same]
    · rw [flag_onNPort]
      exact State.flag_setF_zero _ _ (by decide : 30 < 32) rfl

/-- What a port stores of a configuration. -/
def pcfgFields (p v : Nat) (en : Bool) (maxf : Nat) (s : State) : State :=
  (((s.setF (NET_PCFG.ENABLE p) (b2n en)).setF (NET_PCFG.PAUSELEGACY p) (bits v 30 1)).setF (NET_PCFG.EXPRESS p) (bits v 21 8)).setF
    (NET_PCFG.MAXF p) maxf

theorem pcfgFields_shows (p v : Nat) (en : Bool) (maxf : Nat) (s : State) (hmaxf : maxf < 2 ^ 14) :
    (pcfgFields p v en maxf s).flag (NET_PCFG.ENABLE p) = en ∧ (pcfgFields p v en maxf s).flag (NET_PCFG.PAUSELEGACY p) = bitOf v 30 ∧
      (pcfgFields p v en maxf s).flag (NET_PCFG.PREEMPT_EN p) = s.flag (NET_PCFG.PREEMPT_EN p) ∧
      (pcfgFields p v en maxf s).getF (NET_PCFG.MAXF p) = maxf ∧ (pcfgFields p v en maxf s).getF (NET_PCFG.EXPRESS p) = bits v 21 8 := by
  have hexpress : bits v 21 8 < 2 ^ 8 := Nat.mod_lt _ (by decide)
  refine ⟨flag_of_getF ?_, flag_of_getF ?_, ?_, ?_, ?_⟩
  · exact (((getF_setF_bits _).trans (getF_setF_bits _)).trans (getF_setF_bits _)).trans (getF_setF_written _ (hv := b2n_lt en))
  · exact ((getF_setF_bits _).trans (getF_setF_bits _)).trans
      ((getF_setF_written _ (hv := by rw [bits_one]; exact b2n_lt _)).trans (bits_one v 30))
  · have h : (pcfgFields p v en maxf s).getF (NET_PCFG.PREEMPT_EN p) = s.getF (NET_PCFG.PREEMPT_EN p) :=
      (((getF_setF_bits _).trans (getF_setF_bits _)).trans (getF_setF_bits _)).trans (getF_setF_bits _)
    rw [State.flag, State.flag, h]
  · exact getF_setF_written _ (hv := hmaxf)
  · exact (getF_setF_bits _).trans (getF_setF_written _ (hv := hexpress))

theorem pcfgFields_kept (p v : Nat) (en : Bool) (maxf : Nat) (s : State) :
    Kept [] [] [(NET_PCFG.ENABLE p).addr] s (pcfgFields p v en maxf s) :=
  ((((Kept.refl [] [] [(NET_PCFG.ENABLE p).addr] s).setF _ _ (.inr (by simp))).setF _ _
    (.inr (by simp [NET_PCFG.PAUSELEGACY, NET_PCFG.ENABLE]))).setF _ _ (.inr (by simp [NET_PCFG.EXPRESS, NET_PCFG.ENABLE]))).setF _ _
    (.inr (by simp [NET_PCFG.MAXF, NET_PCFG.ENABLE]))

/-- Port `p` with the word `v` stored as its configuration. -/
def pcfgStored (p v : Nat) (s : State) : State :=
  pcfgFields p v (bitOf v 31 && !(p = 4 && bits (s.reg 0xE0000).toNat 12 2 = 0))
    (if s.flag (NET_PCFG.ENABLE p) ∨ p = 4 then s.getF (NET_PCFG.MAXF p) else bits v 0 14) (writePreempt p (bitOf v 29 && p < 4) s)

theorem writePcfg_of_range {p v : Nat} {s : State} (hp : p < 5) (hmin : 1522 ≤ bits v 0 14) (hmax : bits v 0 14 ≤ 9216) :
    writePcfg p v s = if s.flag (NET_PCFG.ENABLE p) ∧ !bitOf v 31 ∧ p < 4 then linkDown p (unitReset 5 (unitReset 4 (pcfgStored p v s)))
      else pcfgStored p v s := by
  have hmaxf : (writePreempt p (bitOf v 29 && p < 4) s).getF (NET_PCFG.MAXF p) = s.getF (NET_PCFG.MAXF p) := (writePreempt_shows p _ s).2.1
  have hreg : (writePreempt p (bitOf v 29 && p < 4) s).reg 0xE0000 = s.reg 0xE0000 :=
    (writePreempt_kept p _ s).reg _ (by simp) (by simp [NET_PCFG.ENABLE, NET_PSTAT.LINK]; omega) (by simp)
  unfold writePcfg pcfgStored pcfgFields
  dsimp only
  rw [if_neg (by omega), ← hmaxf, ← hreg]

theorem unitReset_kept (m : Nat) (s : State) : Kept [.fab, .free] [] [] s (unitReset m s) := by
  have h : ∀ (x : XbarReset) (t : State), Kept [.fab, .free] [] [] t (masterReset x t) := fun x t => by
    unfold masterReset
    exact (Kept.refl _ _ _ t).onFab _
  unfold unitReset
  split
  · exact ((Kept.refl [.fab, .free] [] [] s).onFree _).trans (h _ _)
  · exact h _ _

/-- A port whose link is taken down: its link shows it, and the rest of what it shows stays but for its counters. -/
structure LinkOff (p : Nat) (s t : State) : Prop where
  link : t.flag (NET_PSTAT.LINK p) = false
  reg : ∀ a, KeptByTx a → a ≠ (NET_PSTAT.LINK p).addr → t.reg a = s.reg a
  preempt : t.flag (NET_PSTAT.PREEMPT p) = s.flag (NET_PSTAT.PREEMPT p)
  attempts : (t.nport p).attempts = (s.nport p).attempts
  fits : SourcesFit s → SourcesFit t

theorem linkOff_linkDown {p : Nat} (hp : p < 4) (s : State) : LinkOff p s (linkDown p s) := by
  cases hlink : s.flag (NET_PSTAT.LINK p) with
  | false =>
    have heq : linkDown p s = s := by rw [linkDown, if_pos (by simp [hlink])]
    rw [heq]
    exact ⟨hlink, fun _ _ _ => rfl, rfl, rfl, id⟩
  | true =>
    have hstat : KeptByTx (0x60004 + p * 0x400) := keptByTx_port (by omega) (by decide) (by decide) (by decide)
    have hflag : ∀ {lsb}, (linkDown p s).flag ⟨0x60004 + p * 0x400, lsb, 1⟩ = (linkCut p s).flag ⟨0x60004 + p * 0x400, lsb, 1⟩ := fun {lsb} => by
      rw [State.flag, State.flag, State.getF, State.getF, reg_linkDown hp hlink hstat]
    refine ⟨hflag.trans (flag_link_linkCut p s), fun a ha hne => ?_, hflag.trans ?_, ?_, sourcesFit_linkDown hp hlink⟩
    · rw [reg_linkDown hp hlink ha]
      exact (linkCut_kept p s).reg a (by simp) (by simpa using hne) (by simp)
    · rw [linkCut, flag_onNPort]
      exact (State.flag_setF_disjoint _ (NET_PSTAT.PAUSED p) (NET_PSTAT.PREEMPT p) 0 (by decide : 30 + 1 ≤ 32)
        (.inr (by decide : 29 + 1 ≤ 30))).trans (State.flag_setF_disjoint _ (NET_PSTAT.LINK p) (NET_PSTAT.PREEMPT p) 0
          (by decide : 30 + 1 ≤ 32) (.inl (by decide : 30 + 1 ≤ 31)))
    · rw [State.nport_congr (ports_linkDown hlink), linkCut, nport_onNPort_same, nport_setF, nport_setF]

/-- `t` shows port `p` with the configuration that stands in `u`, and its link down where that disables it in `s`. -/
structure PcfgEnds (p v : Nat) (s u t : State) : Prop where
  cfg : t.reg (NET_PCFG.ENABLE p).addr = u.reg (NET_PCFG.ENABLE p).addr
  preempt : t.flag (NET_PSTAT.PREEMPT p) = u.flag (NET_PSTAT.PREEMPT p)
  attempts : (t.nport p).attempts = (u.nport p).attempts
  fits : SourcesFit t
  link : s.flag (NET_PCFG.ENABLE p) = true → bitOf v 31 = false → p < 4 → t.flag (NET_PSTAT.LINK p) = false
  same : s.flag (NET_PCFG.ENABLE p) = false ∨ bitOf v 31 = true ∨ p = 4 → t = u

theorem writePcfg_ends {p v : Nat} {s : State} (hs : SourcesFit s) (hp : p < 5) (hmin : 1522 ≤ bits v 0 14) (hmax : bits v 0 14 ≤ 9216) :
    PcfgEnds p v s (pcfgStored p v s) (writePcfg p v s) := by
  have hstored : Kept [.net] [] [(NET_PCFG.ENABLE p).addr, (NET_PSTAT.LINK p).addr] s (pcfgStored p v s) :=
    (writePreempt_kept p _ s).trans ((pcfgFields_kept p v _ _ _).mono (by simp) (by simp) (by simp))
  have hfit : SourcesFit (pcfgStored p v s) := hs.congr (hstored.part .flt (by decide))
  rw [writePcfg_of_range hp hmin hmax]
  split
  · next h =>
    obtain ⟨hen, hbit, hp4⟩ := h
    have hreset := (unitReset_kept 4 (pcfgStored p v s)).trans (unitReset_kept 5 _)
    have hoff := linkOff_linkDown hp4 (unitReset 5 (unitReset 4 (pcfgStored p v s)))
    refine ⟨?_, ?_, ?_, hoff.fits (hfit.congr (hreset.part .flt (by decide))), fun _ _ _ => hoff.link, fun h => ?_⟩
    · exact (hoff.reg (0x60000 + p * 0x400) (keptByTx_port hp (by decide) (by decide) (by decide)) (by simp only [NET_PSTAT.LINK]; omega)).trans
        (hreset.reg _ (by simp) (by simp) (by simp))
    · rw [hoff.preempt]
      exact hreset.flag_off _ (by simp) (by simp)
    · rw [hoff.attempts, State.nport_congr (congrArg NetU.ports (hreset.part .net (by decide)))]
    · obtain h | h | h := h
      · simp [hen] at h
      · simp [h] at hbit
      · omega
  · next h => exact ⟨rfl, rfl, rfl, hfit, fun hen hbit hp4 => absurd ⟨hen, by simp [hbit], hp4⟩ h, fun _ => rfl⟩

theorem preemptEnWrite_stores (p : Nat) (v : Word) (m : Nat) (s : State) (hopen : s.hostOpen = true) (hq : Quiet s) (hp : p < 5)
    (hm : m = bits v.toNat 0 14) (hmin : 1522 ≤ m) (hmax : m ≤ 9216) :
    ∃ t, exec (.preemptEnWrite p v) s = .next t
      ∧ t.flag (NET_PCFG.ENABLE p) = (bitOf v.toNat 31 && !(p = 4 && bits (s.reg 0xE0000).toNat 12 2 = 0))
      ∧ t.flag (NET_PCFG.PAUSELEGACY p) = bitOf v.toNat 30 ∧ t.flag (NET_PCFG.PREEMPT_EN p) = (bitOf v.toNat 29 && p < 4)
      ∧ (t.getF (NET_PCFG.MAXF p) = (if s.flag (NET_PCFG.ENABLE p) = true ∨ p = 4 then s.getF (NET_PCFG.MAXF p) else m))
      ∧ t.getF (NET_PCFG.EXPRESS p) = bits v.toNat 21 8
      ∧ ((s.flag (NET_PCFG.ENABLE p) = true → bitOf v.toNat 31 = false → p < 4 → t.flag (NET_PSTAT.LINK p) = false))
      ∧ (((bitOf v.toNat 29 && p < 4) ≠ s.flag (NET_PCFG.PREEMPT_EN p) → (t.nport p).attempts = 0 ∧ t.flag (NET_PSTAT.PREEMPT p) = false))
      ∧ (∀ q, q ≠ p → s.flag (NET_PCFG.ENABLE p) = false ∨ bitOf v.toNat 31 = true ∨ p = 4 → t.nport q = s.nport q) := by
  subst hm
  obtain ⟨hreg, hpre, hattempts, hfit, hlink, hsame⟩ := writePcfg_ends (v := v.toNat) hq.sourcesFit hp hmin hmax
  obtain ⟨hpreen, -, hports, hafresh⟩ := writePreempt_shows p (bitOf v.toNat 29 && p < 4) s
  have hmaxf : (if s.flag (NET_PCFG.ENABLE p) ∨ p = 4 then s.getF (NET_PCFG.MAXF p) else bits v.toNat 0 14) < 2 ^ 14 := by
    split
    · exact getF_lt s (NET_PCFG.MAXF p)
    · omega
  obtain ⟨hen, hlegacy, hpen, hmf, hexpress⟩ := pcfgFields_shows p v.toNat
    (bitOf v.toNat 31 && !(p = 4 && bits (s.reg 0xE0000).toNat 12 2 = 0)) _ (writePreempt p (bitOf v.toNat 29 && p < 4) s) hmaxf
  have hk := pcfgFields_kept p v.toNat (bitOf v.toNat 31 && !(p = 4 && bits (s.reg 0xE0000).toNat 12 2 = 0))
    (if s.flag (NET_PCFG.ENABLE p) ∨ p = 4 then s.getF (NET_PCFG.MAXF p) else bits v.toNat 0 14)
    (writePreempt p (bitOf v.toNat 29 && p < 4) s)
  have hr : ClockReacts (writePcfg p v.toNat s) (ptpSync (writePcfg p v.toNat s)) := .ptpSync (Reports.refl _ _ _ _)
  have hx : exec (.preemptEnWrite p v) s = .next (settle (ptpSync (writePcfg p v.toNat s))) := by
    show finish (if s.hostOpen = true ∧ p < 5 then _ else s) = _
    rw [if_pos ⟨hopen, hp⟩, finish]
  obtain ⟨t, ht⟩ : ∃ t, t = settle (ptpSync (writePcfg p v.toNat s)) := ⟨_, rfl⟩
  have hnport : ∀ q, t.nport q = (writePcfg p v.toNat s).nport q := State.nport_congr (by rw [ht, hr.net_settled hfit])
  have hgetF : ∀ l w, t.getF ⟨0x60000 + p * 0x400, l, w⟩ = (pcfgStored p v.toNat s).getF ⟨0x60000 + p * 0x400, l, w⟩ := fun l w => by
    rw [ht, hr.getF_settled hfit _ (portReg_page hp (by decide) (by decide)) (portReg_notMem_mgmtTx (by decide) (by decide)), State.getF, State.getF]
    exact congrArg (fun x : Word => x.toNat / 2 ^ l % 2 ^ w) hreg
  have hflag : ∀ l, t.flag ⟨0x60000 + p * 0x400, l, 1⟩ = (pcfgStored p v.toNat s).flag ⟨0x60000 + p * 0x400, l, 1⟩ := fun l => by
    rw [State.flag, State.flag, hgetF]
  have hstat : ∀ l, t.flag ⟨0x60004 + p * 0x400, l, 1⟩ = (writePcfg p v.toNat s).flag ⟨0x60004 + p * 0x400, l, 1⟩ := fun l => by
    rw [ht, hr.flag_settled hfit _ (portReg_page hp (by decide) (by decide)) (portReg_notMem_mgmtTx (by decide) (by decide))]
  have hstored : ∀ q, (pcfgStored p v.toNat s).nport q = (writePreempt p (bitOf v.toNat 29 && p < 4) s).nport q :=
    State.nport_congr (congrArg NetU.ports (hk.part .net (by decide)))
  refine ⟨t, hx.trans (ht ▸ rfl), (hflag 31).trans hen, (hflag 30).trans hlegacy, (hflag 29).trans (hpen.trans hpreen),
    (hgetF 0 14).trans hmf, (hgetF 21 8).trans hexpress, fun hen hbit hp4 => (hstat 31).trans (hlink hen hbit hp4), fun hne => ⟨?_, ?_⟩,
    fun q hqp h => ?_⟩
  · rw [hnport, hattempts, hstored]
    exact (hafresh hne).1
  · refine (hstat 30).trans (hpre.trans (Eq.trans ?_ (hafresh hne).2))
    exact hk.flag_off (NET_PSTAT.PREEMPT p) (by simp) (by simp only [NET_PSTAT.PREEMPT, NET_PCFG.ENABLE, List.mem_singleton]; omega)
  · rw [hnport, hsame h, hstored]
    exact hports q hqp

/-- Settles O28, clause by clause: a reset is followed through what completes the descriptors, a tail through the course of its ring, and a
port configuration through the fields stored, the link taken down and what the clock unit makes of it. -/
theorem networkRegisterWrites : Obligations.NetworkRegisterWrites :=
  ⟨txRingReset_empties, rxRingReset_empties, rxtailWrite_frees, txtailWrite_moves, txtailWrite_hands, netRingLenWrite_stages,
    preemptEnWrite_stores⟩

end Sys2Proof
end

section
/-! ### DL_LANE, METER_SET, STREAM_CFG, STREAM_START, STREAM_STOP, TIME_SET and CLAP_TRIG (O16) -/

namespace Sys2Proof

open Machine

/-! #### Checks that the command interface does not enter -/

section

variable (f : CmdU → CmdU) (s : State)

theorem timing_onCmd (used : Nat) (p : List Word) : timing used p (s.onCmd f) = timing used p s := rfl

theorem onLane_onCmd (l : Nat) (g : LaneU → LaneU) : onLane l g (s.onCmd f) = (onLane l g s).onCmd f := rfl

theorem stopLane_onCmd (l : Nat) : stopLane l (s.onCmd f) = (stopLane l s).onCmd f := by
  have hreqs : (s.onCmd f).dl = s.dl := rfl
  have hstate : ∀ t : State, (t.onCmd f).lstate l = t.lstate l := fun _ => rfl
  unfold stopLane
  dsimp only
  rw [hreqs, setF_onCmd, hstate]
  split
  · rfl
  · rw [setF_onCmd, setF_onCmd, onLane_onCmd, releasePin_onCmd]

theorem laneCheck_onCmd (l : Nat) : laneCheck l (s.onCmd f) = laneCheck l s := rfl

theorem laneStartStatus_onCmd (l : Nat) : laneStartStatus l (s.onCmd f) = laneStartStatus l s := by
  have hon : (s.onCmd f).flag (DL_LCFG.EN l) = s.flag (DL_LCFG.EN l) := rfl
  rw [laneStartStatus, laneStartStatus, hon, stopLane_onCmd, laneCheck_onCmd]

theorem stopCtx_of_stopped {c : Nat} {s : State} (h : (s.ctx c).st = 0) : stopCtx c s = s := by
  unfold stopCtx
  dsimp only
  rw [if_pos h]

theorem ctxReleased_onCmd (c : Nat) : ctxReleased c (s.onCmd f) = (ctxReleased c s).onCmd f := by
  have hctx : (s.onCmd f).ctx c = s.ctx c := rfl
  have hrx : (s.onCmd f).isRx c = s.isRx c := rfl
  have hnet : ∀ t : State, (t.onCmd f).net = t.net := fun _ => rfl
  have hfab : ∀ g (t : State), (t.onCmd f).onFab g = (t.onFab g).onCmd f := fun _ _ => rfl
  have honNet : ∀ g (t : State), (t.onCmd f).onNet g = (t.onNet g).onCmd f := fun _ _ => rfl
  have hdrop : ∀ l (t : State), dropBufs l (t.onCmd f) = (dropBufs l t).onCmd f := fun _ _ => rfl
  simp only [ctxReleased, hctx, hrx, hnet, hfab, honNet, hdrop]

theorem stopCtx_onCmd (c : Nat) : stopCtx c (s.onCmd f) = (stopCtx c s).onCmd f := by
  by_cases hst : (s.ctx c).st = 0
  · rw [stopCtx_of_stopped hst, stopCtx_of_stopped (s := s.onCmd f) hst]
  · rw [stopCtx_of_started hst, stopCtx_of_started (s := s.onCmd f) hst, ctxReleased_onCmd]
    rfl

theorem streamStartStatus_onCmd (c : Nat) : streamStartStatus c (s.onCmd f) = streamStartStatus c s := by
  have hon : ctxEnabled c (s.onCmd f) = ctxEnabled c s := rfl
  rw [streamStartStatus, streamStartStatus, hon, stopCtx_onCmd]
  rfl

end

/-- The reply to a packet leaves the registers of every unit but the command interface, and what MGMT counts. -/
theorem reg_of_reply {x t : State} {a g : Nat} (h : Kept [.cmd, .outs] [0xD] [] x t) (hg : a / 65536 = g) (ha : g ∉ [6, 0xD] := by decide) :
    t.reg a = x.reg a :=
  h.reg a (fun hd => ha (List.mem_cons_of_mem _ (hg ▸ hd))) List.not_mem_nil fun _ htx => by
    simp only [mgmtTx, List.mem_cons, List.not_mem_nil, or_false] at htx
    simp only [List.mem_cons, List.not_mem_nil, or_false] at ha
    omega

theorem nAt_drop_one (p : List Word) (k : Nat) : nAt (p.drop 1) k = nAt p (1 + k) := by
  cases p <;> simp [nAt, Nat.add_comm]

theorem wAt_drop_one (p : List Word) (k : Nat) : wAt (p.drop 1) k = wAt p (1 + k) := by
  cases p <;> simp [wAt, Nat.add_comm]

/-! #### Lanes and meter points (R451, R465, R471) -/

theorem dlLane_waits (h : CmdHdr) (p : List Word) (l : Nat) (st : Bool) (s : State) (hr : Ready 0x404 h p s) (hc : h.chk = false)
    (hl : l = nAt p 0 % 32) (hst : st = bitOf (nAt p 0) 8) (htime : (timing 0x11F p s).1 = 0) (hfree : st = false ∨ laneStartStatus l s = 0) :
    ∃ t, exec (.dlLane h p) s = .next t ∧ Accepted 0x404 h [] t ∧ t.flag (DL_LCFG.EN l) = st
      ∧ t.dl.reqs = s.dl.reqs ++ [(l, ⟨false, st, (timing 0x11F p s).2.1, (timing 0x11F p s).2.2⟩)]
      ∧ Kept [.cmd, .outs, .dl] [0xD] [(DL_LCFG.EN l).addr] s t := by
  have hpage : (DL_LCFG.EN l).addr / 65536 = 7 := by simp only [DL_LCFG.EN]; omega
  have hrole : STI_STAT.ROLE.addr ∉ [(DL_LCFG.EN l).addr] := fun hmem => by
    rw [← List.mem_singleton.1 hmem] at hpage
    exact absurd hpage (by decide)
  have hkept : ∀ f, Kept [.dl] [] [(DL_LCFG.EN l).addr] (s.onCmd f)
      (scheduleLane l st (timing 0x11F p s).2.1 (timing 0x11F p s).2.2 (s.onCmd f)) := fun f =>
    ((Kept.refl _ _ _ (s.onCmd f)).setF _ _ (.inr (by simp))).onDl _
  have hbody : ∀ f, opBody (packetOf 0x404 h p [] s) false (s.onCmd f) =
      doneWith [] (scheduleLane l st (timing 0x11F p s).2.1 (timing 0x11F p s).2.2 (s.onCmd f)) := fun f => by
    have hstatus : (if st then laneStartStatus l (s.onCmd f) else 0) = 0 := by
      obtain h | h := hfree
      · rw [h, if_neg Bool.false_ne_true]
      · rw [laneStartStatus_onCmd, h, ite_self]
    rw [opBody_unit _ _ (by simp [packetOf])]
    show cmdDlLane p (s.onCmd f) = _
    simp only [cmdDlLane, timing_onCmd, ← hl, ← hst, hstatus]
    rw [if_neg (by simp [htime]), if_neg (by simp)]
    rfl
  obtain ⟨f, t, ht, hacc, hxt, hst'⟩ := arrived_of_run (run := scheduleLane l st (timing 0x11F p s).2.1 (timing 0x11F p s).2.2) hr
    (by decide) hc ⟨hbody, hkept, by decide, by decide, List.not_mem_nil, hrole⟩
  refine ⟨t, ht, hacc, ?_, ?_, hst'⟩
  · rw [State.flag, State.getF, reg_of_reply hxt hpage]
    exact State.flag_setF_same _ _ _ (by decide : 31 < 32) rfl
  · rw [hxt.part .dl (by decide)]
    rfl

/-- What waits for the next period of a point whose description is `d` when a METER_SET names `w` for it. -/
def pointWaits (d w : Word) : Option Word := if d = w then none else some w

/-- The point `j` as it is described now. -/
abbrev pointDesc (s : State) (j : Nat) : Word := (smGet PointU.reset s.dl.points j).desc

theorem entryOf_append {α : Type} (l m : List (Nat × α)) (k : Nat) : entryOf (l ++ m) k = (entryOf l k).or (entryOf m k) := by
  rw [entryOf, entryOf, entryOf, List.find?_append, Option.map_or]

theorem pend_setPoint (i j : Nat) (w : Word) (s : State) :
    entryOf (setPoint i w s).dl.pend j = if i = j then pointWaits (pointDesc s i) w else entryOf s.dl.pend j := by
  have hrest := entryOf_filter_ne i j s.dl.pend
  show entryOf (if pointDesc s i = w then s.dl.pend.filter fun c => c.1 ≠ i else (s.dl.pend.filter fun c => c.1 ≠ i) ++ [(i, w)]) j = _
  rw [pointWaits]
  split
  · exact hrest
  · rw [entryOf_append, hrest, entryOf_cons]
    by_cases h : i = j
    · rw [if_pos h, if_pos h, if_pos h]
      rfl
    · rw [if_neg h, if_neg h, if_neg h]
      exact Option.or_none

/-- Points take words from point `k + n` on. -/
def setPoints (k n : Nat) (l : List Word) (s : State) : State := (l.zipIdx n).foldl (fun s x => setPoint (k + x.2) x.1 s) s

theorem setPoints_cons (k n : Nat) (w : Word) (l : List Word) (s : State) :
    setPoints k n (w :: l) s = setPoints k (n + 1) l (setPoint (k + n) w s) := rfl

theorem setPoints_kept (k n : Nat) (l : List Word) (s : State) : Kept [.dl] [] [] s (setPoints k n l s) :=
  Kept.foldl _ (fun t _ => (Kept.refl [.dl] [] [] t).onDl _) _ _

theorem points_setPoints (k n : Nat) (l : List Word) (s : State) : (setPoints k n l s).dl.points = s.dl.points := by
  induction l generalizing n s with
  | nil => rfl
  | cons w l ih => exact (ih (n + 1) _).trans rfl

theorem pend_setPoints_outside {k n j : Nat} {l : List Word} (h : j < k + n ∨ k + n + l.length ≤ j) (s : State) :
    entryOf (setPoints k n l s).dl.pend j = entryOf s.dl.pend j := by
  induction l generalizing n s with
  | nil => rfl
  | cons w l ih =>
    rw [List.length_cons] at h
    rw [setPoints_cons, ih (by omega), pend_setPoint, if_neg (by omega)]

theorem pend_setPoints {k n i : Nat} {l : List Word} (h : i < l.length) (s : State) :
    entryOf (setPoints k n l s).dl.pend (k + n + i) = pointWaits (pointDesc s (k + n + i)) (wAt l i) := by
  induction l generalizing n i s with
  | nil => exact absurd h (Nat.not_lt_zero i)
  | cons w l ih =>
    rw [setPoints_cons]
    cases i with
    | zero =>
      rw [pend_setPoints_outside (by omega), pend_setPoint, if_pos (by omega)]
      rfl
    | succ i =>
      have hi := ih (n := n + 1) (i := i) (by simpa using h) (setPoint (k + n) w s)
      rw [show k + (n + 1) + i = k + n + (i + 1) by omega] at hi
      exact hi

theorem meterSet_stages (h : CmdHdr) (p : List Word) (k : Nat) (s : State) (hr : Ready 0x405 h p s) (hc : h.chk = false) (hk : k = nAt p 0)
    (hmax : k + (p.length - 1) ≤ 4096) (hok : ((p.drop 1).all fun w => pointOk w s) = true) :
    ∃ t, exec (.meterSet h p) s = .next t ∧ Accepted 0x405 h [] t
      ∧ (∀ i, i < p.length - 1 → entryOf t.dl.pend (k + i) = if (smGet PointU.reset s.dl.points (k + i)).desc = wAt p (1 + i) then none else some (wAt p (1 + i)))
      ∧ (∀ j, j < k ∨ k + (p.length - 1) ≤ j → entryOf t.dl.pend j = entryOf s.dl.pend j)
      ∧ t.dl.points = s.dl.points ∧ Kept [.cmd, .outs, .dl] [0xD] [] s t := by
  have hlen : (p.drop 1).length = p.length - 1 := List.length_drop
  have hbody : ∀ f, opBody (packetOf 0x405 h p [] s) false (s.onCmd f) = doneWith [] (setPoints k 0 (p.drop 1) (s.onCmd f)) := fun f => by
    have hgood : firstBad (fun x : Word × Nat => 4096 ≤ k + x.2 || !pointOk x.1 (s.onCmd f)) (p.drop 1).zipIdx = none := by
      refine List.findIdx?_eq_none_iff.2 fun x hx => ?_
      obtain ⟨-, hlt, hget⟩ := List.mem_zipIdx hx
      have hpoint : pointOk x.1 (s.onCmd f) = true := List.all_eq_true.1 hok x.1 (hget ▸ List.getElem_mem _)
      rw [hpoint]
      simp
      omega
    rw [opBody_unit _ _ (by simp [packetOf])]
    show cmdMeterSet p (s.onCmd f) = _
    simp only [cmdMeterSet, ← hk, hgood]
    rfl
  obtain ⟨f, t, ht, hacc, hxt, hst⟩ := arrived_of_run (run := setPoints k 0 (p.drop 1)) hr (by decide) hc
    ⟨hbody, fun f => setPoints_kept .., by decide, by decide, List.not_mem_nil, List.not_mem_nil⟩
  have hdl : t.dl = (setPoints k 0 (p.drop 1) (s.onCmd f)).dl := hxt.part .dl (by decide)
  refine ⟨t, ht, hacc, fun i hi => ?_, fun j hj => ?_, ?_, hst⟩
  · rw [hdl]
    refine (pend_setPoints (k := k) (n := 0) (hlen.symm ▸ hi) _).trans ?_
    rw [wAt_drop_one]
    rfl
  · rw [hdl]
    exact pend_setPoints_outside (by rw [hlen]; omega) _
  · rw [hdl, points_setPoints]
    rfl

/-! #### Streams (R414, R433) -/

theorem streamCfg_writes (h : CmdHdr) (p : List Word) (c : Nat) (s : State) (hr : Ready 0x500 h p s) (hc : h.chk = false) (hp : c = nAt p 0)
    (hcheck : ctxCheck c (p.drop 1) s = 0) :
    ∃ t, exec (.streamCfg h p) s = .next t ∧ Accepted 0x500 h [] t ∧ t.ctx c = { s.ctx c with words := p.drop 1 }
      ∧ (∀ d, d ≠ c → t.ctx d = s.ctx d) ∧ Kept [.cmd, .outs, .net] [0xD] [] s t := by
  have hbody : ∀ f, opBody (packetOf 0x500 h p [] s) false (s.onCmd f) =
      doneWith [] (onCtx c (fun u => { u with words := p.drop 1 }) (s.onCmd f)) := fun f => by
    have hsame : ctxCheck c (p.drop 1) (s.onCmd f) = 0 := hcheck
    rw [opBody_unit _ _ (by simp [packetOf])]
    show cmdStreamCfg p (s.onCmd f) = _
    rw [cmdStreamCfg, ← hp, hsame]
    rfl
  obtain ⟨f, t, ht, hacc, hxt, hst⟩ := arrived_of_run (run := onCtx c fun u => { u with words := p.drop 1 }) hr (by decide) hc
    ⟨hbody, fun f => (Kept.refl [.net] [] [] (s.onCmd f)).onCtx _ _, by decide, by decide, List.not_mem_nil, List.not_mem_nil⟩
  have hctx := State.ctx_congr (congrArg NetU.ctx (hxt.part .net (by decide)))
  refine ⟨t, ht, hacc, ?_, fun d hd => ?_, hst⟩
  · rw [hctx, ctx_onCtx_same]
    rfl
  · rw [hctx, ctx_onCtx_other hd]
    rfl

/-- A start or stop of context `c` waits for its boundary or trigger. -/
def streamWaits (c : Nat) (start : Bool) (shot trig : Option Nat) (s : State) : State :=
  s.onNet fun u => { u with reqs := u.reqs ++ [(c, ⟨false, start, shot, trig⟩)] }

/-- A STREAM_START or STREAM_STOP whose timing words are valid, the start of a context that may start. -/
theorem streamTime_waits {op : Nat} {h : CmdHdr} {p : List Word} {c : Nat} {s : State} (start : Bool)
    (hop : ∀ b, opBody (packetOf op h p [] s) false b = cmdStreamTime start p b) (h1 : op ≠ 1) (hr : Ready op h p s) (hc : h.chk = false)
    (hp : c = nAt p 0 % 1024) (htime : (timing 0x3FF p s).1 = 0) (hfree : start = true → streamStartStatus c s = 0) :
    ∃ t, arrived op h p s = .next t ∧ Accepted op h [] t
      ∧ t.net.reqs = s.net.reqs ++ [(c, ⟨false, start, (timing 0x3FF p s).2.1, (timing 0x3FF p s).2.2⟩)]
      ∧ (∀ d, t.ctx d = s.ctx d) ∧ Kept [.cmd, .outs, .net] [0xD] [] s t := by
  have hbody : ∀ f, opBody (packetOf op h p [] s) false (s.onCmd f) =
      doneWith [] (streamWaits c start (timing 0x3FF p s).2.1 (timing 0x3FF p s).2.2 (s.onCmd f)) := fun f => by
    have hstatus : (if start then streamStartStatus c (s.onCmd f) else 0) = 0 := by
      cases start with
      | false => rfl
      | true => rw [if_pos rfl, streamStartStatus_onCmd, hfree rfl]
    rw [hop]
    simp only [cmdStreamTime, timing_onCmd, ← hp, hstatus]
    rw [if_neg (by simp [htime]), if_neg (by simp)]
    rfl
  obtain ⟨f, t, ht, hacc, hxt, hst⟩ := arrived_of_run (run := streamWaits c start (timing 0x3FF p s).2.1 (timing 0x3FF p s).2.2) hr h1 hc
    ⟨hbody, fun f => (Kept.refl [.net] [] [] (s.onCmd f)).onNet _, by decide, by decide, List.not_mem_nil, List.not_mem_nil⟩
  have hnet : t.net = (streamWaits c start (timing 0x3FF p s).2.1 (timing 0x3FF p s).2.2 (s.onCmd f)).net := hxt.part .net (by decide)
  exact ⟨t, ht, hacc, by rw [hnet]; rfl, State.ctx_congr (by rw [hnet]; rfl), hst⟩

theorem streamStart_waits (h : CmdHdr) (p : List Word) (c : Nat) (s : State) (hr : Ready 0x501 h p s) (hc : h.chk = false)
    (hp : c = nAt p 0 % 1024) (htime : (timing 0x3FF p s).1 = 0) (hfree : streamStartStatus c s = 0) :
    ∃ t, exec (.streamStart h p) s = .next t ∧ Accepted 0x501 h [] t
      ∧ t.net.reqs = s.net.reqs ++ [(c, ⟨false, true, (timing 0x3FF p s).2.1, (timing 0x3FF p s).2.2⟩)]
      ∧ (∀ d, t.ctx d = s.ctx d) ∧ Kept [.cmd, .outs, .net] [0xD] [] s t :=
  streamTime_waits true (fun b => opBody_unit _ _ (by simp [packetOf])) (by decide) hr hc hp htime fun _ => hfree

theorem streamStop_waits (h : CmdHdr) (p : List Word) (c : Nat) (s : State) (hr : Ready 0x502 h p s) (hc : h.chk = false)
    (hp : c = nAt p 0 % 1024) (htime : (timing 0x3FF p s).1 = 0) :
    ∃ t, exec (.streamStop h p) s = .next t ∧ Accepted 0x502 h [] t
      ∧ t.net.reqs = s.net.reqs ++ [(c, ⟨false, false, (timing 0x3FF p s).2.1, (timing 0x3FF p s).2.2⟩)]
      ∧ (∀ d, t.ctx d = s.ctx d) ∧ Kept [.cmd, .outs, .net] [0xD] [] s t :=
  streamTime_waits false (fun b => opBody_unit _ _ (by simp [packetOf])) (by decide) hr hc hp htime nofun

/-! #### The time counter (R534) -/

theorem timeSet_waits (h : CmdHdr) (p : List Word) (s : State) (hr : Ready 0x600 h p s) (hc : h.chk = false) (hns : nAt p 0 < 1000000000)
    (hsec : nAt p 2 < 65536) (hservo : s.flag PTP_STAT.SERVOVALID = false) (hring : ringFollower s = false) :
    ∃ t, exec (.timeSet h p) s = .next t ∧ Accepted 0x600 h [] t
      ∧ t.ptp = { s.ptp with timeSet := some (nAt p 1 + 2 ^ 32 * nAt p 2, nAt p 0) } ∧ Kept [.cmd, .outs, .ptp] [0xD] [] s t := by
  have hbody : ∀ f, opBody (packetOf 0x600 h p [] s) false (s.onCmd f) =
      doneWith [] ((s.onCmd f).onPtp fun u => { u with timeSet := some (nAt p 1 + 2 ^ 32 * nAt p 2, nAt p 0) }) := fun f => by
    have hflag : (s.onCmd f).flag PTP_STAT.SERVOVALID = false := hservo
    have hfollow : ringFollower (s.onCmd f) = false := hring
    rw [opBody_unit _ _ (by simp [packetOf])]
    show cmdTimeSet p (s.onCmd f) = _
    rw [cmdTimeSet, if_neg (by omega), if_neg (by simp [hflag, hfollow])]
    rfl
  obtain ⟨f, t, ht, hacc, hxt, hst⟩ := arrived_of_run
    (run := fun s => s.onPtp fun u => { u with timeSet := some (nAt p 1 + 2 ^ 32 * nAt p 2, nAt p 0) }) hr (by decide) hc
    ⟨hbody, fun f => (Kept.refl [.ptp] [] [] (s.onCmd f)).onPtp _, by decide, by decide, List.not_mem_nil, List.not_mem_nil⟩
  exact ⟨t, ht, hacc, hxt.part .ptp (by decide), hst⟩

/-! #### Triggers (R556, R557) -/

/-- Registers from `b` on, written one after another. -/
theorem reg_foldl_setReg {b n : Nat} (v : State → Nat → Word) (w : Nat → Word) (hv : ∀ s k, v s k = w k) (s : State) {j : Nat} (hj : j < n) :
    ((List.range n).foldl (fun s k => s.setReg (b + 4 * k) (v s k)) s).reg (b + 4 * j) = w j := by
  induction n with
  | zero => exact absurd hj (Nat.not_lt_zero j)
  | succ n ih =>
    rw [List.range_succ, List.foldl_append, List.foldl_cons, List.foldl_nil]
    by_cases h : j = n
    · rw [h, State.reg_setReg_same, hv]
    · rw [State.reg_setReg_other _ _ _ _ (by omega), ih (by omega)]

/-- The bits of register `k` of a trigger that CLAP_TRIG writes. -/
def trigMask (k : Nat) : Nat := if k = 3 then 0xFFFF else if k = 0 then 0x7FFCFFFF else 0xFFFFFFFF

section

variable {i : Nat} {ws : List Word}

theorem reg_putTrigRegs (s : State) {k : Nat} (hk : k < 7) :
    (putTrigRegs i ws s).reg (0x20400 + 0x20 * i + 4 * k) = wd (nAt ws k &&& trigMask k) :=
  reg_foldl_setReg (fun _ k => wd ((wAt ws k).toNat &&& trigMask k)) _ (fun _ _ => rfl) s hk

theorem putTrigRegs_kept (hi : i < 32) (s : State) : Kept [] [2] [] s (putTrigRegs i ws s) := by
  have hset : ∀ (n : Nat), n ≤ 7 → ∀ t, Kept [] [2] [] s t → Kept [] [2] [] s ((List.range n).foldl (fun s k =>
      s.setReg (0x20400 + 0x20 * i + 4 * k) (wd ((wAt ws k).toNat &&& trigMask k))) t) := fun n => by
    induction n with
    | zero => exact fun _ t h => h
    | succ n ih =>
      intro hn t h
      rw [List.range_succ, List.foldl_append]
      exact (ih (by omega) t h).setReg _ _ (.inl (by rw [show (0x20400 + 0x20 * i + 4 * n) / 65536 = 2 by omega]; decide))
  exact hset 7 (Nat.le_refl 7) s (.refl _ _ _ s)

/-- A trigger that may be armed: the ball that it names is on and free. -/
theorem ball_of_trigCheck {i w tsec tns per cnt b : Nat} {s : State} (h : trigCheck i w tsec tns per cnt s = 0) (hb : trigBall w = some b) :
    bankOn b s = true ∧ s.pinClaim b = none := by
  unfold trigCheck at h
  simp only [hb] at h
  split_ifs at h
  all_goals simp_all

/-- A word with a bit set that it has. -/
theorem fldPut_one_of_bit {w : Word} {l : Nat} (h : bitOf w.toNat l = true) : fldPut w l 1 1 = w := by
  refine BitVec.eq_of_getLsbD_eq fun j hj => ?_
  rw [fldPut_getLsbD _ _ _ _ _ hj]
  split
  · next hl =>
    obtain rfl : j = l := by omega
    rw [bitOf_eq_testBit] at h
    rw [Nat.sub_self]
    exact h.symm
  · rfl

/-- The registers of trigger `i` as it is armed with the word `w`. -/
def trigShown (i w : Nat) (s : State) : State :=
  (((s.setReg (0x20400 + 0x20 * i) (wd (w % 2 ^ 32))).setF (CLP_TCFG.EN i) 1).orF CLP_CLAIM.TRIG (2 ^ i)).setF (CLP_TSTAT.STATE i) 1

/-- What an armed trigger holds of its registers. -/
def trigHeld (i w : Nat) (s : State) : TrigU :=
  ⟨s.getF (CLP_TT1.SEC i) + 2 ^ 32 * s.getF (CLP_TT2.SEC i), s.getF (CLP_TT0.NS i), 0, if bitOf w 19 then s.getF (CLP_TCNT.COUNT i) else 1, false⟩

/-- The ball of a trigger is claimed and driven to its idle level. -/
def trigBallTaken (i w : Nat) (s : State) : State :=
  match trigBall w with
  | some b => driveBall b (idleLevel (bits w 20 3)) (claimPin b ⟨5, i⟩ s).2
  | none => s

/-- Trigger `i` armed, before its ball is taken. -/
def trigArmed (i w : Nat) (s : State) : State :=
  (trigShown i w s).onPtp fun u => { u with trig := (i, trigHeld i w (trigShown i w s)) :: u.trig.filter (fun c => c.1 ≠ i) }

theorem reg_trigArmed (i w : Nat) (s : State) (a : Nat) : (trigArmed i w s).reg a = (trigShown i w s).reg a :=
  ((Kept.refl [.ptp] [] [] (trigShown i w s)).onPtp _).reg a List.not_mem_nil List.not_mem_nil nofun

theorem armTrig_eq (i w : Nat) (s : State) : armTrig i w s = trigBallTaken i w (trigArmed i w s) := rfl

theorem trigShown_kept {i : Nat} (w : Nat) (hi : i < 32) (s : State) : Kept [] [2] [] s (trigShown i w s) := by
  have hpage : ∀ {b}, 0x20400 ≤ b → b < 0x20420 → (b + i * 0x20) / 65536 ∈ [2] := fun hb hb' => by
    rw [List.mem_singleton]
    omega
  have hcfg : (0x20400 + 0x20 * i) / 65536 ∈ [2] := Nat.mul_comm i 0x20 ▸ hpage (by decide) (by decide)
  exact ((((Kept.refl [] [2] [] s).setReg _ _ (.inl hcfg)).setF (CLP_TCFG.EN i) 1 (.inl (hpage (by decide) (by decide)))).orF
    CLP_CLAIM.TRIG _).setF (CLP_TSTAT.STATE i) 1 (.inl (hpage (by decide) (by decide)))

theorem reg_trigShown {i w : Nat} (hi : i < 32) (hw : w < 2 ^ 32) (hbit : bitOf w 31 = true) (s : State) :
    (trigShown i w s).reg (0x20400 + 0x20 * i) = wd w := by
  have hword : (wd w).toNat = w := (BitVec.toNat_ofNat _ _).trans (Nat.mod_eq_of_lt hw)
  have haddr : (CLP_TCFG.EN i).addr = 0x20400 + 0x20 * i := by rw [CLP_TCFG.EN, Nat.mul_comm]
  have hen : ∀ t : State, t.reg (0x20400 + 0x20 * i) = wd w → (t.setF (CLP_TCFG.EN i) 1).reg (0x20400 + 0x20 * i) = wd w := fun t ht => by
    rw [State.setF, haddr, State.reg_setReg_same, ht]
    exact fldPut_one_of_bit (hword.symm ▸ hbit)
  have hstat : 0x20400 + 0x20 * i ≠ (CLP_TSTAT.STATE i).addr := by simp only [CLP_TSTAT.STATE]; omega
  have hclaim : 0x20400 + 0x20 * i ≠ CLP_CLAIM.TRIG.addr := by simp only [CLP_CLAIM.TRIG]; omega
  rw [trigShown, State.reg_setF_other _ _ _ _ hstat, State.orF, State.reg_setF_other _ _ _ _ hclaim]
  exact hen _ (by rw [State.reg_setReg_same, Nat.mod_eq_of_lt hw])

theorem state_trigShown (i w : Nat) (s : State) : (trigShown i w s).getF (CLP_TSTAT.STATE i) = 1 :=
  State.getF_setF_same _ (CLP_TSTAT.STATE i) 1 (by decide : 30 + 2 ≤ 32)

theorem claim_trigShown {i : Nat} (w : Nat) (hi : i < 32) (s : State) : bitOf ((trigShown i w s).getF CLP_CLAIM.TRIG) i = true := by
  have hlt : ∀ n : Nat, n < 2 ^ 32 → n ||| 2 ^ i < 2 ^ 32 := fun n hn => Nat.or_lt_two_pow hn (Nat.pow_lt_pow_right (by decide) hi)
  rw [trigShown, State.getF_setF_other _ _ _ _ (by simp only [CLP_TSTAT.STATE, CLP_CLAIM.TRIG]; omega), State.orF,
    State.getF_setF_same _ CLP_CLAIM.TRIG _ (by decide), bitOf_eq_testBit]
  refine (congrArg (Nat.testBit · i) (Nat.mod_eq_of_lt (hlt _ (getF_lt _ CLP_CLAIM.TRIG)))).trans ?_
  rw [Nat.testBit_or, Nat.testBit_two_pow_self, Bool.or_true]

/-- A word of trigger `i` beside its configuration and state. -/
theorem getF_trigShown_written {i w k width : Nat} {ws : List Word} (hk : 0 < k) (hk7 : k < 7) (s : State) :
    (trigShown i w (putTrigRegs i ws s)).getF ⟨0x20400 + 4 * k + i * 0x20, 0, width⟩ = (nAt ws k &&& trigMask k) % 2 ^ 32 % 2 ^ width := by
  have haddr : 0x20400 + 4 * k + i * 0x20 = 0x20400 + 0x20 * i + 4 * k := by omega
  rw [trigShown, State.getF_setF_other _ _ _ _ (by simp only [CLP_TSTAT.STATE]; omega), State.orF,
    State.getF_setF_other _ _ _ _ (by simp only [CLP_CLAIM.TRIG]; omega), State.getF_setF_other _ _ _ _ (by simp only [CLP_TCFG.EN]; omega),
    State.getF, State.reg_setReg_other _ _ _ _ (by simp only; omega)]
  simp only [haddr]
  rw [reg_putTrigRegs s hk7, Nat.pow_zero, Nat.div_one]
  exact congrArg (· % 2 ^ width) (BitVec.toNat_ofNat _ _)

theorem nAt_lt (l : List Word) (k : Nat) : nAt l k < 2 ^ 32 := (l.getD k 0).isLt

/-- A word written to a trigger whole. -/
theorem nAt_and_trigMask {k : Nat} (ws : List Word) (h0 : k ≠ 0) (h3 : k ≠ 3) : (nAt ws k &&& trigMask k) % 2 ^ 32 % 2 ^ 32 = nAt ws k := by
  have hmask : trigMask k = 2 ^ 32 - 1 := by simp [trigMask, h0, h3]
  rw [hmask, Nat.and_two_pow_sub_one_eq_mod, Nat.mod_mod, Nat.mod_mod, Nat.mod_eq_of_lt (nAt_lt ws k)]

theorem trigHeld_written {i w : Nat} (ws : List Word) (s : State) :
    trigHeld i w (trigShown i w (putTrigRegs i ws s)) =
      ⟨nAt ws 2 + 2 ^ 32 * (nAt ws 3 % 65536), nAt ws 1, 0, if bitOf w 19 then nAt ws 6 else 1, false⟩ := by
  have hread : ∀ {k width}, 0 < k → k < 7 → (trigShown i w (putTrigRegs i ws s)).getF ⟨0x20400 + 4 * k + i * 0x20, 0, width⟩ =
      (nAt ws k &&& trigMask k) % 2 ^ 32 % 2 ^ width := fun h h7 => getF_trigShown_written h h7 s
  have hhigh : (nAt ws 3 &&& trigMask 3) % 2 ^ 32 % 2 ^ 16 = nAt ws 3 % 65536 := by
    rw [show trigMask 3 = 2 ^ 16 - 1 from rfl, Nat.and_two_pow_sub_one_eq_mod]
    omega
  have hns : (trigShown i w (putTrigRegs i ws s)).getF (CLP_TT0.NS i) = nAt ws 1 :=
    (hread (k := 1) (by decide) (by decide)).trans (nAt_and_trigMask ws (by decide) (by decide))
  have hlow : (trigShown i w (putTrigRegs i ws s)).getF (CLP_TT1.SEC i) = nAt ws 2 :=
    (hread (k := 2) (by decide) (by decide)).trans (nAt_and_trigMask ws (by decide) (by decide))
  have hsec : (trigShown i w (putTrigRegs i ws s)).getF (CLP_TT2.SEC i) = nAt ws 3 % 65536 :=
    (hread (k := 3) (by decide) (by decide)).trans hhigh
  have hcount : (trigShown i w (putTrigRegs i ws s)).getF (CLP_TCNT.COUNT i) = nAt ws 6 :=
    (hread (k := 6) (by decide) (by decide)).trans (nAt_and_trigMask ws (by decide) (by decide))
  rw [trigHeld, hns, hlow, hsec, hcount]

/-- The ball of a trigger that may be armed is taken, and nothing else changes. -/
theorem trigBallTaken_kept {i w : Nat} {s : State} (hball : ∀ b, trigBall w = some b → bankOn b s = true ∧ s.pinClaim b = none) :
    Kept [.pin, .outs] [] [] s (trigBallTaken i w s) := by
  unfold trigBallTaken
  cases hb : trigBall w with
  | none => exact .refl _ _ _ s
  | some b =>
    obtain ⟨hon, hfree⟩ := hball b hb
    have hclaim : Kept [.pin, .outs] [] [] s (claimPin b ⟨5, i⟩ s).2 := by
      rw [claimPin, if_neg (by simp [hon]), if_neg (by simp [hfree])]
      dsimp only
      exact (Kept.refl [.pin, .outs] [] [] s).onPin _
    have hdrive : ∀ lv t, Kept [.pin, .outs] [] [] s t → Kept [.pin, .outs] [] [] s (driveBall b lv t) := fun lv t h => by
      unfold driveBall
      exact .ite _ (fun _ => h.onPin _) fun _ => (h.onPin _).out _
    exact hdrive _ _ hclaim


end

theorem clapTrig_writes (h : CmdHdr) (p : List Word) (i : Nat) (s : State) (hr : Ready 0x601 h p s) (hc : h.chk = false) (hp : i = nAt p 0)
    (hi : i < 32) (hoff : bitOf (nAt p 1) 31 = false) (hen : s.flag (CLP_TCFG.EN i) = false) :
    ∃ t, exec (.clapTrig h p) s = .next t ∧ Accepted 0x601 h [] t ∧ t.reg (0x20400 + 0x20 * i) = wd (nAt p 1 &&& 0x7FFCFFFF)
      ∧ t.ptp = s.ptp ∧ Kept [.cmd, .outs] [0xD, 2] [] s t := by
  have hbody : ∀ f, opBody (packetOf 0x601 h p [] s) false (s.onCmd f) = doneWith [] (putTrigRegs i (p.drop 1) (s.onCmd f)) := fun f => by
    have hflag : (s.onCmd f).flag (CLP_TCFG.EN i) = false := hen
    have hbit : bitOf (nAt (p.drop 1) 0 &&& 0xFFFCFFFF) 31 = false := by
      rw [nAt_drop_one, bitOf_eq_testBit, Nat.testBit_and, ← bitOf_eq_testBit, hoff, Bool.false_and]
    rw [opBody_unit _ _ (by simp [packetOf])]
    show cmdClapTrig p (s.onCmd f) = _
    simp only [cmdClapTrig, ← hp, hbit, hflag]
    rw [if_neg (by omega)]
    rfl
  obtain ⟨f, t, ht, hacc, hxt, hst⟩ := arrived_of_run (run := putTrigRegs i (p.drop 1)) hr (by decide) hc
    ⟨hbody, fun f => putTrigRegs_kept hi _, by decide, by decide, by decide, List.not_mem_nil⟩
  refine ⟨t, ht, hacc, ?_, (hxt.part .ptp (by decide)).trans ((putTrigRegs_kept hi _).part .ptp (by decide)), hst⟩
  rw [reg_of_reply (g := 2) hxt (by omega)]
  refine (reg_putTrigRegs (k := 0) _ (by decide)).trans ?_
  rw [nAt_drop_one]
  rfl

theorem clapTrig_arms (h : CmdHdr) (p : List Word) (i : Nat) (w : Nat) (s : State) (hr : Ready 0x601 h p s) (hc : h.chk = false)
    (hp : i = nAt p 0) (hi : i < 32) (hw : w = nAt p 1 &&& 0xFFFCFFFF) (hbit : bitOf w 31 = true)
    (hcheck : trigCheck i w (nAt p 3 + 2 ^ 32 * (nAt p 4 % 65536)) (nAt p 2) (nAt p 5) (nAt p 7) s = 0) :
    ∃ t, exec (.clapTrig h p) s = .next t ∧ Accepted 0x601 h [] t ∧ t.reg (0x20400 + 0x20 * i) = wd w
      ∧ t.getF (CLP_TSTAT.STATE i) = 1 ∧ bitOf (t.getF CLP_CLAIM.TRIG) i = true
      ∧ (entryOf t.ptp.trig i = some ⟨nAt p 3 + 2 ^ 32 * (nAt p 4 % 65536), nAt p 2, 0, if bitOf w 19 then nAt p 7 else 1, false⟩)
      ∧ Kept [.cmd, .outs, .ptp, .pin] [0xD, 2] [] s t := by
  have hlt : w < 2 ^ 32 := hw ▸ Nat.lt_of_le_of_lt Nat.and_le_right (by decide)
  have hbody : ∀ f, opBody (packetOf 0x601 h p [] s) false (s.onCmd f) =
      doneWith [] (trigBallTaken i w (trigArmed i w (putTrigRegs i (p.drop 1) (s.onCmd f)))) := fun f => by
    have hsame : trigCheck i w (nAt p 3 + 2 ^ 32 * (nAt p 4 % 65536)) (nAt p 2) (nAt p 5) (nAt p 7) (s.onCmd f) = 0 := hcheck
    rw [opBody_unit _ _ (by simp [packetOf])]
    show cmdClapTrig p (s.onCmd f) = _
    simp only [cmdClapTrig, ← hp, nAt_drop_one, ← hw, hbit, hsame, armTrig_eq]
    rw [if_neg (by omega)]
    rfl
  have hshown : ∀ u, Kept [] [2] [] u (trigShown i w (putTrigRegs i (p.drop 1) u)) := fun u =>
    (putTrigRegs_kept hi u).trans (trigShown_kept w hi _)
  have hball : ∀ f b, trigBall w = some b → ∀ u, Kept [.ptp] [2] [] (s.onCmd f) u → bankOn b u = true ∧ u.pinClaim b = none := fun f b hb u hu => by
    obtain ⟨hon, hfree⟩ := ball_of_trigCheck hcheck hb
    have hbank : u.reg 0xE0000 = s.reg 0xE0000 := hu.reg _ (by decide) (by simp) (by decide)
    have hpin : u.pin = s.pin := hu.part .pin (by decide)
    rw [bankOn, hbank, State.pinClaim, hpin]
    exact ⟨hon, hfree⟩
  have harmed : ∀ f, Kept [.ptp] [2] [] (s.onCmd f) (trigArmed i w (putTrigRegs i (p.drop 1) (s.onCmd f))) := fun f =>
    Kept.trans ((hshown _).mono (by simp) (by simp) (by simp)) ((Kept.refl [.ptp] [2] [] _).onPtp _)
  have htaken := fun f => trigBallTaken_kept (i := i) fun b hb => hball f b hb _ (harmed f)
  obtain ⟨f, t, ht, hacc, hxt, hst⟩ := arrived_of_run (ps := [.ptp, .pin, .outs]) (pg := [2]) (as := [])
    (run := fun u => trigBallTaken i w (trigArmed i w (putTrigRegs i (p.drop 1) u))) hr (by decide) hc
    ⟨hbody, fun f => ((harmed f).mono (by decide) (by decide) (by decide)).trans ((htaken f).mono (by decide) (by decide) (by decide)),
      by decide, by decide, by decide, List.not_mem_nil⟩
  have hreg : ∀ a, a / 65536 = 2 → t.reg a = (trigShown i w (putTrigRegs i (p.drop 1) (s.onCmd f))).reg a := fun a ha => by
    rw [reg_of_reply hxt ha, ← reg_trigArmed]
    exact (htaken f).reg a (by simp) (by simp) (by simp)
  refine ⟨t, ht, hacc, ?_, ?_, ?_, ?_, hst.mono (by decide) (by decide) (by decide)⟩
  · rw [hreg _ (by omega)]
    exact reg_trigShown hi hlt hbit _
  · rw [State.getF, hreg _ (by simp only [CLP_TSTAT.STATE]; omega)]
    exact state_trigShown i w _
  · rw [State.getF, hreg _ (by decide)]
    exact claim_trigShown w hi _
  · rw [hxt.part .ptp (by decide), (htaken f).part .ptp (by decide)]
    refine (entryOf_cons _ _ i).trans ?_
    rw [if_pos rfl, trigHeld_written]
    simp only [nAt_drop_one]

/-- Settles O16, command by command: the checks of a packet's body do not depend on the command interface, and each body is one change of
its unit. -/
theorem dailiesStreamAndTimeCommands : Obligations.DailiesStreamAndTimeCommands :=
  ⟨dlLane_waits, meterSet_stages, streamCfg_writes, streamStart_waits, streamStop_waits, timeSet_waits, clapTrig_arms, clapTrig_writes⟩

end Sys2Proof
end
